-- ==== Sys2Proof/Word.lean ====
section
/-! DEFINITION. The word types of the GK6440: bytes, 32-bit and 64-bit words. Everything that is arithmetic over them and
that a test could show wrong stands in Sys2Proof/Machine. -/

namespace Sys2Proof

/-- One byte. -/
abbrev Byte := BitVec 8

/-- A 32-bit word, the width of a register that its introduction does not mark 64-bit (R10). -/
abbrev Word32 := BitVec 32

/-- A 64-bit word. -/
abbrev Word64 := BitVec 64

end Sys2Proof
end

