-- ==== Sys2Proof/Syntax.lean ====
section
/-! DEFINITION. The commands of the GK6440: one constructor for each row of spec/opcode_table.json, with the operands the row's
rules give it. Nothing here says what a command does. -/

namespace Sys2Proof

/-- A submission descriptor as the device fetches it from SQ `sq` (R106): its fields and the 48 bytes of PARAM. -/
structure Desc where
  sq     : Nat
  opcode : Nat
  flags  : Nat
  rsv3   : Nat
  target : Nat
  rsv6   : Nat
  tag    : Nat
  param  : List Byte
  deriving DecidableEq, Repr

/-- What goes with a block over Wort (R127, R133): its page's PAGE_ID, first line, length, gap before it and whether it ends its
job; and the block's place in the strip, first press line, LINES of its entry, and bytes. -/
structure Arrival where
  page       : Nat
  first      : Nat
  lines      : Nat
  gap        : Nat
  last       : Bool
  index      : Nat
  line       : Nat
  planeLines : Nat
  bytes      : List Byte
  deriving DecidableEq, Repr

/-- What the bring-up stages find on one data lane (R321, R322): the stage it fails at (0: none), its eye width in steps, whether
every TS symbol arrives mirrored, the sender's lane number its ALIGN blocks carry. -/
structure LaneTrain where
  fail     : Nat
  width    : Nat
  inverted : Bool
  number   : Nat
  deriving DecidableEq, Repr

/-- What a manager learns of a device from INIT and its reports (R323, R337): role, identity, composite, firmware version, whether its
time is unsynchronised, and its unbound channels. -/
structure BarSeen where
  role      : Nat
  id        : Nat
  composite : Nat
  fw        : Nat
  unsync    : Bool
  unbound   : Nat
  deriving DecidableEq, Repr

/-- A device found by enumeration (R334, R338, R361): what is learnt of it, its trio position (1, 2; 0 none), per port
the neighbour (its place in the list, its port), the owner's echo time less its probe time, and the same at T1 and T2, in 1/128 ticks. -/
structure Found where
  seen  : BarSeen
  pos   : Nat
  links : List (Option (Nat × Nat))
  echo  : Int
  trio  : List Int
  deriving DecidableEq, Repr

/-- What a controller reads from its DIMM's SPD hub (R362, R367): capacity in GiB, x8 devices, density code, ranks, row bits, and
whether it is of a kind the controller supports. -/
structure Dimm where
  gib       : Nat
  x8        : Bool
  density   : Nat
  ranks     : Nat
  rowBits   : Nat
  supported : Bool
  deriving DecidableEq, Repr

/-- The commands, operations and events that change the state of the device. -/
inductive Instr where
  /-- POWER_ON_RESET (R39): Supply monitors see every supply good and RESET_N rises, so the whole device including PD_AON is reset and the straps are sampled. -/
  | powerOnReset (straps : Nat)
  /-- RESET_N_RESET (R39): RESET_N is held low for at least 1 µs with REFCLK running, which causes a warm reset and resamples the straps at the rising edge. -/
  | resetNReset (ns : Nat) (taken : Bool) (straps : Nat)
  /-- WATCHDOG_EXPIRY (R42): The management watchdog expires and resets only PD130, or performs a warm reset if WDOG_OK was not written after a first expiry. -/
  | watchdogExpiry
  /-- WDOG_OK (R42): A write of RST_CTRL.WDOG_OK acknowledges restart after a watchdog expiry. -/
  | wdogOk
  /-- SOFTWARE_RESET (R39): A write of RST_CTRL.SW_RESET with KEY 0xA5 starts a warm reset; any other key makes the write ignored. -/
  | softwareReset (key : Nat)
  /-- WORT_RESET_REQUEST (R43): A reset frame received on a Wort port causes a warm reset when it arrives on the upstream port or before enumeration, and is otherwise discarded and counted. -/
  | wortResetRequest (p blocks : Nat)
  /-- THERMAL_TRIP (R40): A temperature sensor reads above 115 °C, so the head-safe sequence runs and is followed by a warm reset. -/
  | thermalTrip (sensor : Nat)
  /-- THERMAL_RELEASE (R39): After a thermal trip every sensor reads below 100 °C, and the held release sequence proceeds. -/
  | thermalRelease
  /-- CRITICAL_STATE_ERROR (R40): A parity or double-bit error in the state of the sequencer, Kiln, trio or queue manager runs the head-safe sequence and then a warm reset. -/
  | criticalStateError (unit : Nat) (dbe : Bool)
  /-- RELEASE_STEP (R47): At its fixed CLK_PER count the next group of domains is released, and DONE is set at step 16. -/
  | releaseStep
  /-- CORE_PLL_LOCK (R48): The core PLL locks and the release sequence begins at step 1. -/
  | corePllLock
  /-- CLOCK_ABSENT_TIMEOUT (R46): The selected clock source has been absent for 10 ms, so RST_STATUS.CLK_ABSENT is set and the device keeps waiting. -/
  | clockAbsentTimeout
  /-- PLL_LOSS_OF_LOCK (R53): The PD_AON monitor sees the core PLL lose lock, runs the head-safe sequence, sets LOL and holds every switched domain in reset. -/
  | pllLossOfLock
  /-- PLL_RELOCK (R53): The core PLL relocks, the release sequence runs again from step 1 and the time counter resumes. -/
  | pllRelock
  /-- SUPPLY_FAIL (R437): A rail falls below power-good while the device runs, so the head-safe steps up to tick 8 run and a power-on reset follows. -/
  | supplyFail (monitor : Nat)
  /-- PWR_REQ_WRITE (R55): A write to PWR_REQn requests domains on or off; a forbidden off request is refused with its PWR_ERR bit set and the request bit reverted. -/
  | pwrReqWrite (n v : Nat)
  /-- DOMAIN_SWITCH (R56): A waiting domain power-up or power-down runs its staged sequence of switches, isolation, clocks and reset over 560 CLK_PER cycles. -/
  | domainSwitch
  /-- PSTATE_REQUEST (R59): A write of PWR_PSTATE.REQ asks for P0, P1 or P2, and is refused unless AX0 is stopped, the grant buffers are empty and STEP_OWN is not held. -/
  | pstateRequest (v : Nat)
  /-- PSTATE_TRANSITION_DONE (R58): A power-state transition ends and CUR takes the requested state. -/
  | pstateTransitionDone
  /-- REG64_LOWER_READ (R10): A 32-bit read of the lower half of a 64-bit register returns it live and loads the upper-half latch. -/
  | reg64LowerRead (fw : Bool) (offset : Nat) (wide : Bool := false)
  /-- REG64_LOWER_WRITE (R10): A 32-bit write of the lower half of a 64-bit register is held in the write buffer. -/
  | reg64LowerWrite (fw : Bool) (offset v : Nat)
  /-- REG64_UPPER_WRITE (R10): A 32-bit write of the upper half applies it together with any buffered lower half in one cycle and empties the buffer. -/
  | reg64UpperWrite (fw : Bool) (offset v : Nat)
  /-- REGISTER_WRITE (R12): A write to a register field that has no behaviour of its own is stored, ignored, or applied as W1C or W1S. -/
  | registerWrite (fw wide : Bool) (offset v : Nat)
  /-- GRIST_REWRITE (R66): A due rewrite makes GRS_GEN odd, rewrites the header and entries, makes GRS_GEN even and raises the notify vector. -/
  | gristRewrite
  /-- GRS_STALE_CLR (R66): A write of GRS_STALE.CLR clears the count of refused accesses. -/
  | grsStaleClr
  /-- NOP (R113): The admin NOP command completes with no effect. -/
  | nop (d : Desc)
  /-- QUEUE_CREATE (R103): Enables queue pair n with the given depth, bases and aggregation, or refuses the request. -/
  | queueCreate (d : Desc)
  /-- QUEUE_DELETE (R103): Disables a pair at once, discarding unfetched commands and holding the final statuses of started operations in their slots. -/
  | queueDelete (d : Desc)
  /-- QUEUE_RESUME (R120): Lifts an OVERFLOW fence, then writes the overflow entries, the held entries and the OVERFLOW marker to the CQ. -/
  | queueResume (d : Desc)
  /-- HANDLE_QUERY (R114): Returns the latest status of a handle and frees a held final status. -/
  | handleQuery (d : Desc)
  /-- COPY (R114): Copies bytes between host memory and device DRAM. -/
  | copy (d : Desc)
  /-- MASH_STAGE (R84): Takes an image into a staging slot, then hashes it and runs the checks of R83. -/
  | mashStage (d : Desc)
  /-- MASH_COMMIT (R84): Commits a staged full image, or schedules a partial image as a change set. -/
  | mashCommit (d : Desc) (others : List Nat := [])
  /-- MASH_ABORT (R84): Releases a staged image whose commit line is not yet chosen. -/
  | mashAbort (d : Desc)
  /-- MASH_RB_ADVANCE (R84): Raises MASH_ROLLBACK.MIN to the ROLLBACK of the full image in force by blowing fuses. -/
  | mashRbAdvance (d : Desc)
  /-- MASH_RECEIVE_DONE (R86): LENGTH bytes of a staged image have arrived and been hashed, and verification runs checks 1 to 4. -/
  | mashReceiveDone
  /-- MASH_CHECK_DONE (R86): Checks 5 to 8 finish, and the image joins the commit queue or is refused with its status in MASH_ERR. -/
  | mashCheckDone
  /-- FULL_COMMIT_APPLY (R87): A full image is written into every block, domains are powered as stated and the Grist map is rewritten with cause 1. -/
  | fullCommitApply
  /-- BOOT_IMAGE_COMMIT (R88): Once the settings have been read at boot, the device stages and commits the full Mash image of the chosen set. -/
  | bootImageCommit (schema : Nat) (reads : List Nat) (fault : Nat)
  /-- COMMIT_LINE_FINAL (R91): The first stage concerned reaches a change set's chosen commit line and the choice becomes final. -/
  | commitLineFinal (offers : List (Option Nat) := []) (agree : Option (List Nat) := none) (given : Option Nat := none)
  /-- CHANGE_SET_STAGE_SWITCH (R90): A stage reaches the commit line and switches to the set's sections within one CLK_FIRE tick. -/
  | changeSetStageSwitch (type index : Nat)
  /-- CHANGE_SET_IN_FORCE (R94): Firing reaches the commit line with every section in force, so the set completes DONE and MASH_PATCHES and MASH_COMPOSITE are updated. -/
  | changeSetInForce
  /-- CHANGE_SET_DEADLINE_MISSED (R91): The set reaches DEADLINE_LINE with no rule of R91 met, so it completes NOT_APPLIED and its slot is freed. -/
  | changeSetDeadlineMissed
  /-- GAP_SECTION_APPLY (R90): GAP or STOP sections are applied in a qualifying page gap or at a web stop. -/
  | gapSectionApply (type index : Nat)
  /-- BACKSTEP_ASSISTED_APPLY (R92): The active manager stops the web before DEADLINE_LINE, applies the sections and resumes at DEADLINE_LINE. -/
  | backstepAssistedApply
  /-- SQ_TAIL_DOORBELL (R104): A write of an SQ tail doorbell, which the device ignores and counts when it is out of range. -/
  | sqTailDoorbell (n v : Nat)
  /-- CQ_HEAD_DOORBELL (R104): A write of a CQ head doorbell frees CQ entries, and the overflow drains into the space. -/
  | cqHeadDoorbell (n v : Nat)
  /-- QM_CTRL_EN_WRITE (R115): A write of QM_CTRL.EN enables the admin pair, or is refused with QM_STATUS.ERR set when QM_ADMIN_DEPTH is 0 or out of range. -/
  | qmCtrlEnWrite (en : Bool)
  /-- FLR (R101): A function-level reset resets PD126 and the host-visible queue state; operations already started run on with their completions dropped and counted. -/
  | flr
  /-- HOT_RESET (R101): A PCIe hot reset has the same effect as an FLR. -/
  | hotReset
  /-- COMPLETION_DUE (R118): A completion is written to its CQ, placed in the overflow, or held in its slot with the pair fenced OVERFLOW. -/
  | completionDue (handle status result detail : Nat)
  /-- CQ_AGG_TIMEOUT (R114): The oldest unsignalled completion reaches AGG_USEC, and the CQ vector is raised. -/
  | cqAggTimeout (n : Nat)
  /-- MSIX_UNMASK (R100): Unmasking a vector that has a pending bit sends its message. -/
  | msixUnmask (v : Nat)
  /-- JSA_MAP (R123): Maps a run of extents to a host window or a Wort-attached store on the active press manager. -/
  | jsaMap (d : Desc) (told : Bool := false)
  /-- JSA_UNMAP (R124): Marks the extents of a run closing, and completes when no accepted page has an unfetched block in the run. -/
  | jsaUnmap (d : Desc) (told : Bool := false)
  /-- UNMAP_COMPLETE (R124): The last accepted page finishes fetching from closing extents, so the entries are removed and JSA_UNMAP completes DONE. -/
  | unmapComplete (handle : Nat) (elsewhere : Bool := false) (told : Option (Nat × Nat) := none)
  /-- PAGE_SUBMIT (R126): Accepts a page, checks its descriptor and assigns its press line numbers. -/
  | pageSubmit (d : Desc) (told : Option Nat := none)
  /-- PAGE_CANCEL (R132): Removes a page not yet screened, or discards the unavailable lines of a CHECK_FAILED page, and leaves a declared gap. -/
  | pageCancel (d : Desc) (elsewhere : Bool) (told : Option Nat := none)
  /-- PAGE_COMPLETE (R129): The page's last line has fired on every device, and the page completes DONE or DATA_LATE. -/
  | pageComplete (id fired : Nat)
  /-- PAGE_FAULT (R130): A fault found after acceptance ends the page with CHECK_FAILED and logs further faults. -/
  | pageFault (id cause bar line strip block : Nat) (slot : Nat := 0)
  /-- BLOCK_SEND (R133): A bar manager sends a whole block of a strip to the device that owns its slot once that device grants credit. -/
  | blockSend (id plane strip : Nat) (again : Option Nat := none) (counts : List (Nat × Nat) := [])
  /-- INTAKE_CREDIT_GRANT (R134): The device grants the bar manager intake credit in 4 KiB units and reports INTAKE with the first grant. -/
  | intakeCreditGrant (dev c n intake : Nat)
  /-- BLOCK_ARRIVAL (R134): A whole compressed block arrives in a channel's intake queue. -/
  | blockArrival (c : Nat) (x : Arrival)
  /-- GRANT_REFILL (R135): A grant slot is free, so hardware moves the next line from the lead into the grant buffer. -/
  | grantRefill (c : Nat)
  /-- DATA_LATE_REPORT (R26): A data-late report travels over Wort to the bar manager and on to the active manager, which performs the backstep. -/
  | dataLateReport (slot line : Nat)
  /-- ARCHIVE_SETUP (R141): Enables or disables the inspection archive ring with its policy and size. -/
  | archiveSetup (d : Desc)
  /-- ARCHIVE_READ (R142): Copies the oldest whole archive frames to the host and frees them. -/
  | archiveRead (d : Desc)
  /-- ARCHIVE_FRAME_WRITE (R143): An encoded frame record enters the ring, overwriting or dropping frames under DROP or raising data late under HOLD. -/
  | archiveFrameWrite (x : Nat)
  /-- UB_LATE_COUNT_CLR (R137): A write of UB_LATE_COUNT.CLR clears the data-late count. -/
  | ubLateCountClr (c : Nat)
  /-- INT_ARCH_DROPPED_CLR (R143): A write of INT_ARCH_DROPPED.CLR clears the count of dropped frames. -/
  | intArchDroppedClr
  /-- INT_FAULT_LOG_CLR (R130): A write of INT_FAULT_LOG.CLR clears the fault log. -/
  | intFaultLogClr
  /-- BLOCK_DECODE_START (R155): A queued block takes the lowest free lane of its serving codec instance and begins to decode. -/
  | blockDecodeStart (c : Nat)
  /-- BLOCK_CHECK_DONE (R153): A block finishes decoding and passes, or it fails and is refetched once before it is reported. -/
  | blockCheckDone (i j : Nat)
  /-- BLOCK_RELEASE (R154): A passed block's lines move on to screening in strip order, and the block is freed from intake when its last line moves on. -/
  | blockRelease (c : Nat)
  /-- ARCHIVE_BLOCK_CLOSE (R157): The encoder lane closes an archive block after 256 lines, at frame end or on flush. -/
  | archiveBlockClose (x : Nat)
  /-- CDC_ENC_FLUSH (R157): A write of CDC_ENC_CTRL.FLUSH closes the open archive block at the next line boundary. -/
  | cdcEncFlush (i : Nat)
  /-- CDC_FAIL_CLR (R153): A write of CDC_FAIL.CLR clears the failure counts. -/
  | cdcFailClr (i : Nat)
  /-- SLICE_START (R165): The start conditions hold, so engine m's slice for line y starts at ENTRY. -/
  | sliceStart (t m : Nat)
  /-- ENGINE_NOP (R171): The engine instruction NOP has no effect. -/
  | engineNop (t m : Nat)
  /-- JMP (R171): Jumps to IMM16. -/
  | jmp (t m : Nat)
  /-- JNZ (R171): Jumps if S[A] is not 0. -/
  | jnz (t m : Nat)
  /-- JZ (R171): Jumps if S[A] is 0. -/
  | jz (t m : Nat)
  /-- LOOP (R171): Runs the next instructions S[A] times. -/
  | loop (t m : Nat)
  /-- CALL (R171): Pushes the return address and jumps. -/
  | call (t m : Nat)
  /-- RET (R171): Pops the return address and jumps to it. -/
  | ret (t m : Nat)
  /-- ENDL (R165): Ends the engine's slice. -/
  | endl (t m cycles : Nat)
  /-- TRAP (R171): Raises tun fault 9 with a code. -/
  | trap (t m : Nat)
  /-- SADD (R171): Scalar 32-bit add. -/
  | sadd (t m : Nat)
  /-- SSUB (R171): Scalar subtract. -/
  | ssub (t m : Nat)
  /-- SMOV (R171): Scalar copy of the B operand. -/
  | smov (t m : Nat)
  /-- SAND (R171): Scalar AND. -/
  | sand (t m : Nat)
  /-- SOR (R171): Scalar OR. -/
  | sor (t m : Nat)
  /-- SSHL (R171): Scalar shift left. -/
  | sshl (t m : Nat)
  /-- SSHR (R171): Scalar shift right. -/
  | sshr (t m : Nat)
  /-- SMUL (R171): Scalar multiply keeping the low 32 bits. -/
  | smul (t m : Nat)
  /-- SRD (R170): Reads the special value that AUX selects. -/
  | srd (t m : Nat)
  /-- VADD (R171): Lane-wise 16-bit add with SAT. -/
  | vadd (t m : Nat)
  /-- VSUB (R171): Lane-wise subtract with SAT. -/
  | vsub (t m : Nat)
  /-- VMIN (R171): Lane-wise minimum, signed or unsigned. -/
  | vmin (t m : Nat)
  /-- VMAX (R171): Lane-wise maximum, signed or unsigned. -/
  | vmax (t m : Nat)
  /-- VAND (R171): Lane-wise AND. -/
  | vand (t m : Nat)
  /-- VOR (R171): Lane-wise OR. -/
  | vor (t m : Nat)
  /-- VXOR (R171): Lane-wise XOR. -/
  | vxor (t m : Nat)
  /-- VSHL (R171): Lane-wise shift left. -/
  | vshl (t m : Nat)
  /-- VSHR (R171): Lane-wise logical shift right. -/
  | vshr (t m : Nat)
  /-- VSRA (R171): Lane-wise arithmetic shift right. -/
  | vsra (t m : Nat)
  /-- VSEL (R171): Selects each lane from V[A] or the B operand by predicate. -/
  | vsel (t m : Nat)
  /-- VCMP (R171): Compares lanes into a predicate register. -/
  | vcmp (t m : Nat)
  /-- VMOV (R171): Moves the B operand into V[D]. -/
  | vmov (t m : Nat)
  /-- VIOTA (R171): Sets lane i to S[A] + i. -/
  | viota (t m : Nat)
  /-- VMUL (R171): Lane multiply with rounding, shift and SAT. -/
  | vmul (t m : Nat)
  /-- VMULW (R171): 32-bit products into a register pair. -/
  | vmulw (t m : Nat)
  /-- VMAC (R171): Multiply-accumulate into a register pair. -/
  | vmac (t m : Nat)
  /-- VNARROW (R171): Narrows a register pair with rounding, shift and SAT. -/
  | vnarrow (t m : Nat)
  /-- VSLIDE (R171): Slides lanes, filling the vacated lanes from V[C]. -/
  | vslide (t m : Nat)
  /-- VBCAST (R171): Broadcasts one lane to every lane. -/
  | vbcast (t m : Nat)
  /-- VPERM (R171): Permutes lanes by V[B]. -/
  | vperm (t m : Nat)
  /-- LDL (R171): Loads 64 bytes from the local store. -/
  | ldl (t m : Nat)
  /-- STL (R171): Stores 64 bytes to the local store. -/
  | stl (t m : Nat)
  /-- LDGL (R171): Gathers 16-bit values from the local store. -/
  | ldgl (t m : Nat)
  /-- LDT (R171): Loads 64 bytes of tun SRAM through the wheel. -/
  | ldt (t m : Nat)
  /-- STT (R171): Stores 64 bytes to tun SRAM through the wheel. -/
  | stt (t m : Nat)
  /-- LDTM (R171): Loads from the MAP or PARAM bank of the line. -/
  | ldtm (t m : Nat)
  /-- CURVE (R186): Looks up the transfer curve for 32 nozzles. -/
  | curve (t m : Nat)
  /-- EDSTEP (R187): Runs an error-diffusion step over 32 lanes. -/
  | edstep (t m : Nat)
  /-- EMIT (R171): Writes 2-bit dot codes to the STAGE slot of the line. -/
  | emit (t m : Nat)
  /-- SENDR (R167): Puts a vector into the rightward edge channel, waiting while the channel is full. -/
  | sendr (t m : Nat)
  /-- SENDL (R167): Puts a vector into the leftward edge channel, waiting while the channel is full. -/
  | sendl (t m : Nat)
  /-- RECVL (R167): Takes a vector from the left neighbour, waiting while the channel is empty. -/
  | recvl (t m : Nat)
  /-- RECVR (R167): Takes a vector from the right neighbour, waiting while the channel is empty. -/
  | recvr (t m : Nat)
  /-- EDGE_WAIT_RESUME (R167): An edge channel gains room or data, and a waiting SEND or RECV completes. -/
  | edgeWaitResume (t m : Nat)
  /-- TUN_FAULT (R174): A tun fault stops every engine of the tun and fences it. -/
  | tunFault (t m code count : Nat)
  /-- SLICE_OVERRUN (R166): A slice reaches SLICE_LIMIT cycles without ENDL, which is tun fault 4. -/
  | sliceOverrun (t m : Nat)
  /-- LINE_COMPLETE (R169): Every used engine has ended line y, so the STAGE slot is moved to the lead when there is room. -/
  | lineComplete (t : Nat)
  /-- TUN_PAUSE_POINT (R176): The screen stage reaches the commit line of a TUN_PROG set, so the pause point is set and loading begins once earlier slices drain. -/
  | tunPausePoint (t : Nat)
  /-- TUN_PROG_LOAD_DONE (R176): New engine images and records are loaded, and the engines restart at ENTRY with line C. -/
  | tunProgLoadDone (t : Nat) (late : Bool)
  /-- TUN_FAULT_CLR (R174): A write of TUN_FAULT.CLR clears the fault record. -/
  | tunFaultClr (t : Nat)
  /-- TUN_ECC_CLR (R160): A write of TUN_ECC.CLR clears the correction counts. -/
  | tunEccClr (t : Nat)
  /-- TUN_SLICE_MAX_CLR (R166): A write of TUN_SLICE_MAXm.CLR clears an engine's longest-slice value. -/
  | tunSliceMaxClr (t m : Nat)
  /-- GENERATION_SWITCH (R194): A prepared generation's banks come into force at the switch line of a channel. -/
  | generationSwitch (t : Nat)
  /-- SCR_BRIDGE_SET_WRITE (R198): A W1S write of SCR_BRIDGE_SETw stages requests to set bridge bits. -/
  | scrBridgeSetWrite (t w v : Nat)
  /-- SCR_BRIDGE_CLR_WRITE (R198): A W1S write of SCR_BRIDGE_CLRw stages requests to clear bridge bits. -/
  | scrBridgeClrWrite (t w v : Nat)
  /-- SCR_BRIDGE_APPLY (R198): A write of SCR_BRIDGE_CTRL.APPLY brings the staged bridge requests into force at the next line boundary. -/
  | scrBridgeApply (t : Nat)
  /-- SCR_BRIDGE_LOST_CLR (R197): A write of SCR_BRIDGE_LOST.CLR clears the count of lost strobes. -/
  | scrBridgeLostClr (t : Nat)
  /-- SCR_CLIP_CLR (R190): A write of SCR_CLIP.CLR clears the count of reduced codes. -/
  | scrClipClr (t : Nat)
  /-- LINE_EVENT_RAISE (R199): The timeline owner raises line event y from its step plan and sends the line-event and stop-distance frames. -/
  | lineEventRaise (ref : Nat)
  /-- SLAVED_MODE_EXIT (R200): After 64 consecutive lines within the window, the owner leaves slaved mode. -/
  | slavedModeExit
  /-- LINE_EVENT_FRAME (R203): A received line-event frame is checked against the press line count and applied, treated as missed lines, or causes withholding. -/
  | lineEventFrame (f ref : Nat)
  /-- STOP_DISTANCE_FRAME (R235): A received stop-distance frame updates MOT_STOPDIST. -/
  | stopDistanceFrame (f : Nat)
  /-- BAD_TRIGGER_FRAME (R201): A frame with a reserved TYPE or a bad CRC is discarded and counted in FIRE_MISSED. -/
  | badTriggerFrame (f : Nat)
  /-- LINE_EVENT_APPLY (R202): The device applies a line event at its compensated instant. -/
  | lineEventApply
  /-- WITHHELD_RESYNC (R203): After a line-number mismatch, the device fires again from the first line of the next known page. -/
  | withheldResync
  /-- LINE_TAKE (R210): At F(y), line y + 1 is taken from the grant buffer, reduced, bridged, assembled, Kiln-checked and loaded. -/
  | lineTake (c at_ : Nat)
  /-- FIRST_LINE_PREPARE (R448): While AX0 stands, the first line of a run is prepared as soon as it reaches the grant buffer. -/
  | firstLinePrepare (c at_ : Nat)
  /-- LINE_FIRE (R208): At F of a channel, the line fires, or is dropped when the last schedule has not ended or the frame is not loaded. -/
  | lineFire (c : Nat)
  /-- STROBE_START (R208): Strobe j of a slot starts at its scheduled tick, or is omitted when no nozzle needs it. -/
  | strobeStart (c : Nat)
  /-- FIRE_COMMIT (R212): Requests a new strobe schedule from an apply line. -/
  | fireCommit (d : Desc)
  /-- FIRE_TRIG_COMP_WRITE (R202): A write to FIRE_TRIG.COMP takes effect at the next line boundary, or is ignored with ERR set when too large. -/
  | fireTrigCompWrite (v : Nat)
  /-- FIRE_CH_TRIM_WRITE (R216): A write to FIRE_CH_TRIM.CODE steps TRIM towards the code at line boundaries, or is refused when above the Kiln ceiling. -/
  | fireChTrimWrite (c v : Nat)
  /-- SEQUENCER_COPY_DISAGREE (R217): A sequencer copy is outvoted and reloaded, or masked after a repeat, and loss of majority is a critical-state error. -/
  | sequencerCopyDisagree (mask : Nat)
  /-- FIRE_DROPPED_CLR (R211): A write of FIRE_DROPPED.CLR clears the count of dropped lines. -/
  | fireDroppedClr
  /-- FIRE_MISSED_CLR (R203): A write of FIRE_MISSED.CLR clears the count of missed lines and discarded frames. -/
  | fireMissedClr
  /-- FIRE_VOTE_CLR (R217): A write of FIRE_VOTE.CLR clears the disagreement counts. -/
  | fireVoteClr
  /-- FIRE_CH_DROPPED_CLR (R211): A write of FIRE_CH_DROPPED.CLR clears a channel's count of dropped lines. -/
  | fireChDroppedClr (c : Nat)
  /-- KILN_HPWR_REQ_WRITE (R226): A write to KILN_HPWR_REQ requests or drops head power for channels, subject to the interlock. -/
  | kilnHpwrReqWrite (i v : Nat)
  /-- HEAD_POWER_ON (R226): Every interlock condition holds, so HPWR_EN_N goes active. -/
  | headPowerOn (c : Nat)
  /-- PWR_SETTLE_EXPIRY (R226): PWR_SETTLE elapses after head power comes on, and the channel may strobe. -/
  | pwrSettleExpiry (c : Nat)
  /-- HEAD_POWER_OFF (R227): An interlock condition ceases, so FIRE_N goes inactive at once and HPWR_EN_N at the end of the schedule. -/
  | headPowerOff (c : Nat)
  /-- KILN_CLIP_LINES_CLR (R222): A write of KILN_CLIP_LINES.CLR clears the clip counts and the last-clip record. -/
  | kilnClipLinesClr
  /-- KILN_UNSEALED_CLR (R225): A write of KILN_UNSEALED.CLR clears the count of lines not fired while unsealed. -/
  | kilnUnsealedClr
  /-- KILN_CH_CLIP_CLR (R222): A write of KILN_CH_CLIPn.CLR clears a channel's clip count. -/
  | kilnChClipClr (c : Nat)
  /-- MOT_MOVE (R237): Moves an axis by a distance on the profile. -/
  | motMove (d : Desc)
  /-- MOT_SPEED (R237): Sets the cruise speed, starts an axis from rest, or restarts the web under R240. -/
  | motSpeed (d : Desc)
  /-- MOT_STOP (R237): Stops an axis with a ramped or hard stop. -/
  | motStop (d : Desc)
  /-- STEP_ISSUE (R229): A planned step is issued as a low pulse at its tick. -/
  | stepIssue (a rate : Nat)
  /-- AXIS_AT_REST (R233): An axis reaches V_STOP or its target, and its steps cease. -/
  | axisAtRest (a : Nat)
  /-- CRUISE_REACHED (R237): An axis reaches its cruise speed, and MOT_SPEED completes. -/
  | cruiseReached (a : Nat)
  /-- LIMIT_INPUT (R239): A filtered limit input towards the motion acts as a hard or ramped stop. -/
  | limitInput (a : Nat) (fwd active : Bool)
  /-- WEB_BREAK (R239): WEB_BREAK_N falls and hard-stops every axis in BREAK_AXES. -/
  | webBreak (active : Bool)
  /-- SPLICE (R239): SPLICE_N falls, so the line is recorded, the event is raised and AX0 may be stopped on the ramp. -/
  | splice (active : Bool)
  /-- JOB_END_STOP (R128): A page with FLAGS.LAST ends its job, and the web stops on a normal ramp. -/
  | jobEndStop
  /-- BACKSTEP_START (R241): A data-late, hold or failed resume starts a backstep, which ramps down at the first line after H. -/
  | backstepStart
  /-- BACKSTEP_STOPPED (R241): The steps cease at P_stop, so N, X_N and B are fixed and positioning begins. -/
  | backstepStopped
  /-- BACKSTEP_POSITIONED (R241): The positioning move reaches P_rev, and the wait begins. -/
  | backstepPositioned
  /-- BACKSTEP_RUN_UP (R241): Every wait condition holds, so the run-up to v_p begins. -/
  | backstepRunUp (others : Bool)
  /-- BACKSTEP_SETTLE (R241): v_p is reached, and SETTLE lines run without line events. -/
  | backstepSettle
  /-- RESUME_TEST (R243): Line event N is due, so speed, position and mode are tested and N fires or the backstep repeats. -/
  | resumeTest
  /-- MOT_BS_COUNT_CLR (R243): A write of MOT_BS_COUNT.CLR clears the backstep counts. -/
  | motBsCountClr
  /-- MOT_REFUSED_CLR (R236): A write of MOT_REFUSED.CLR clears the count of refused speed commands. -/
  | motRefusedClr
  /-- MOT_HARD_LINES_CLR (R240): A write of MOT_HARD_LINES.CLR clears the count of lines fired after a hard stop. -/
  | motHardLinesClr
  /-- ENCODER_FAULT (R248): VIOL_SAMPLES samples outside the amplitude window, or a phase jump, fault an encoder. -/
  | encoderFault (x : Nat)
  /-- ENCODER_RECOVER (R252): 4,096 good samples make the encoder valid again, and its position is rebased. -/
  | encoderRecover (x : Nat)
  /-- DR_LIMIT (R251): Dead reckoning reaches DR_LIMIT lines, so AX0 stops on the ramp and the press is held. -/
  | drLimit
  /-- ENC_DIR_CHANGE (R249): The position moves HYST counts against the direction, so DIR changes and the event is raised. -/
  | encDirChange (x : Nat)
  /-- ENC_UNCMD_CLR (R249): A write of ENC_UNCMD.CLR clears the count of reversals. -/
  | encUncmdClr
  /-- ENC_AMP_CLR (R248): A write of ENC_AMPx.CLR resets MIN to 0x3FFF. -/
  | encAmpClr (x : Nat)
  /-- ENC_FAULT_CLR (R248): A write of ENC_FAULTx.CLR clears the fault cause and count. -/
  | encFaultClr (x : Nat)
  /-- EXPOSURE_TRIGGER (R258): CAMx_TRIG_N goes low for EXP_PULSE ticks at the planned trigger instant. -/
  | exposureTrigger (x : Nat)
  /-- CSI_SHORT_PACKET (R259): A frame start or frame end short packet is received and pairs the frame. -/
  | csiShortPacket (x hdr vc dt : Nat)
  /-- CSI_LONG_PACKET (R256): A long packet is checked and taken as row line k of the frame, then processed by the ISP stages. -/
  | csiLongPacket (x hdr vc dt wc : Nat) (crcOk : Bool) (pixels : List Nat)
  /-- FRAME_LATENCY_TIMEOUT (R260): The row lines of an exposure have not arrived within LAT_MAX of its trigger, so the frame is lost with cause 3. -/
  | frameLatencyTimeout (x : Nat)
  /-- JOB_END_CLOSING_TRIGGER (R261): At job end, closing triggers every 20 µs complete the open frames, which are lost with cause 5. -/
  | jobEndClosingTrigger (x : Nat)
  /-- FRAME_RECORD_SEND (R269): The last aligned line of a frame has been sent, so a statistics record goes to each range. -/
  | frameRecordSend (x : Nat)
  /-- ISP_SHADOW_APPLY (R272): A write of ISP_SHADOW_CTRL.APPLY brings the shadow shading table into force at the port's next frame. -/
  | ispShadowApply (i : Nat)
  /-- CAM_LOST_CLR (R270): A write of CAM_LOST.CLR clears the lost-frame count. -/
  | camLostClr (x : Nat)
  /-- CAM_PHY_ERR_CLR (R256): A write of CAM_PHY_ERR.CLR clears the packet error counts. -/
  | camPhyErrClr (x : Nat)
  /-- CAM_STALE_CLR (R271): A write of CAM_STALE.CLR clears the count of stale frames. -/
  | camStaleClr (x : Nat)
  /-- ALIGNED_LINE_RECEIVE (R274): The gravity loop accepts an aligned line from its named source, or discards a foreign one. -/
  | alignedLineReceive (c dev port range frame line div : Nat) (vals : List Nat)
  /-- STATS_RECORD_RECEIVE (R282): An accepted frame record updates the window, the gravities and the out counters. -/
  | statsRecordReceive (c dev port range frame lines : Nat) (stale : Bool)
  /-- LOST_NOTICE_RECEIVE (R274): A lost notice discards the loop's partial work on a frame. -/
  | lostNoticeReceive (c dev port range frame span : Nat)
  /-- BACKIN_TRIAL (R287): BACKIN_WAIT × 2^t lines have passed, so an out nozzle is returned on trial. -/
  | backinTrial (c n : Nat)
  /-- GRAV_REBIND (R292): Binds channels by importing tables or by a learn pass. -/
  | gravRebind (d : Desc)
  /-- CHANNEL_BOUND (R292): A learn pass reaches PCT % of nozzles at H_MIN, so the channel is bound. -/
  | channelBound (c : Nat)
  /-- LEARN_LIMIT (R292): LINES pass before a learn pass ends, so GRAV_REBIND completes CHECK_FAILED. -/
  | learnLimit (handle : Nat)
  /-- GRAV_FOREIGN_CLR (R274): A write of GRAV_FOREIGN.CLR clears the count of foreign pieces. -/
  | gravForeignClr
  /-- GRAV_CH_COUNT_CLR (R287): A write of GRAV_CH_COUNTc.CLR clears a channel's counts. -/
  | gravChCountClr (c : Nat)
  /-- RESET_TRIALS (R287): A write of GRAV_CH_CTRLc.RESET_TRIALS sets the failed-trial counts to 0 and waives the next wait. -/
  | resetTrials (c : Nat)
  /-- CLEAR_WINDOW (R281): A write of GRAV_CH_CTRLc.CLEAR_WINDOW clears a channel's density window. -/
  | clearWindow (c : Nat)
  /-- SENSE_CHANNEL_FAULT (R294): Saturated samples or unmatched comparator edges fence a sense channel. -/
  | senseChannelFault (c : Nat)
  /-- MASK_VIOLATION (R297): The consecutive violation count reaches VIOL_N, so the event is recorded and CHc is fenced if STOP is set. -/
  | maskViolation (c : Nat)
  /-- SEQUENCER_EVENT (R299): An event meets the current state's condition and is counted, moving the sequencer to NEXT or to trigger. -/
  | sequencerEvent (edge c at_ : Nat)
  /-- SEQUENCER_TIMEOUT (R299): TIMEOUT passes in a state, so the sequencer moves to TO_NEXT. -/
  | sequencerTimeout (q : Nat)
  /-- SEQUENCER_HOLDOFF_END (R301): HOLDOFF_TICKS pass after arming, and the sequencer starts counting. -/
  | sequencerHoldoffEnd (q : Nat)
  /-- CAPTURE_COMPLETE (R304): The record is full, so SG_ARM completes DONE. -/
  | captureComplete (q : Nat)
  /-- SG_ARM (R304): Arms a trigger sequencer for a capture. -/
  | sgArm (d : Desc)
  /-- SG_READ (R304): Copies a captured record to the host. -/
  | sgRead (d : Desc)
  /-- SG_FORCE (R300): A write of SG_CTRL.FORCE gives a sequencer a COND 10 event. -/
  | sgForce (m : Nat)
  /-- SG_DISARM (R304): A write of SG_CTRL.DISARM ends a capture at once with no record. -/
  | sgDisarm (m : Nat)
  /-- BUS_TRIGGER_FORWARD (R305): A non-owner sends a bus trigger to the owner over Wort, and the owner queues it. -/
  | busTriggerForward (g line offset : Nat)
  /-- SG_BUS_TRIGGER_FRAME (R305): A received bus-trigger frame is placed and taken as a COND 8 event. -/
  | sgBusTriggerFrame (f ref : Nat)
  /-- SG_BUS_CLR (R305): A write of SG_BUS.CLR clears the bus-trigger counts. -/
  | sgBusClr
  /-- SG_VIOL_CLR (R297): A write of SG_VIOLc.CLR clears STOPPED and COUNT. -/
  | sgViolClr (c : Nat)
  /-- TIME_NS_READ (R310): A read of TIME_NS returns the stamp and latches the shadows of its set. -/
  | timeNsRead (fw : Bool)
  /-- TIME_LOAD (R311): A write of TIME_CMD.LOAD loads the set values at the next tick, or is refused with ERR set. -/
  | timeLoad (adj : Bool)
  /-- TIME_ADJUST (R311): A write of TIME_CMD.ADJ adds the signed TIME_ADJ at the next tick, or is refused. -/
  | timeAdjust
  /-- TIME_INCR_WRITE (R311): A write of TIME_INCR changes the rate at the next tick, or is ignored with ERR set. -/
  | timeIncrWrite (v : Nat)
  /-- PTP_EVENT_STAMP (R314): An event message is stamped at the PCS or the MAC on transmit or receive. -/
  | ptpEventStamp (p : Nat) (tx atMac : Bool) (sec units seq type : Nat)
  /-- TX_STAMP_PUSH (R316): A stamped frame leaves, and its entry is pushed or discarded when the queue is full. -/
  | txStampPush (p : Nat)
  /-- ETH_TXTS_ENTRY_POP (R316): A read of ETH_TXTS_ENTRY3 removes the oldest stamp entry. -/
  | ethTxtsEntryPop (p : Nat)
  /-- ETH_TXTS_CLR (R316): A write of ETH_TXTS_STATUS.CLR clears OVF. -/
  | ethTxtsClr (p : Nat)
  /-- PORT_TRAIN (R321): A Wort port runs the bring-up stages on every lane until UP. -/
  | portTrain (p : Nat) (clock : Bool) (lanes : List LaneTrain)
  /-- TRAIN_STAGE_TIMEOUT (R321): A training stage reaches its limit, and the lane fails and is fenced. -/
  | trainStageTimeout (p k : Nat)
  /-- INIT (R323): An INIT block is received, setting the peer identity and the lane mask. -/
  | init (p id role port mask : Nat) (shares : List Nat)
  /-- CREDIT (R330): A CREDIT block returns credits per VC. -/
  | credit (p : Nat) (counts : List Nat)
  /-- ACK (R331): An ACK frees acknowledged flits from the replay buffer. -/
  | ack (p seq : Nat)
  /-- NAK (R331): A NAK makes the sender replay from the flit after the last good sequence. -/
  | nak (p seq : Nat)
  /-- WIDTH (R328): A WIDTH block names a new active-lane mask for a later group boundary. -/
  | width (p mask : Nat)
  /-- WIDTH_SWITCH (R328): Both ends switch to the new lane mask at the named group boundary. -/
  | widthSwitch (p : Nat)
  /-- DOWN (R332): A received DOWN drops the link and reports coverage loss for the sender. -/
  | down (p cause : Nat)
  /-- RESERVED_CONTROL_BLOCK (R320): A received control block of a reserved type is discarded and counted. -/
  | reservedControlBlock (p type : Nat)
  /-- FLIT_RECEIVE (R331): A flit is accepted in sequence, or discarded with one NAK sent. -/
  | flitReceive (p : Nat) (bytes : List Byte) (words : List (List Nat))
  /-- STORE_RD (R329): A STORE_RD request is sent to a Wort-attached store, and one with LENGTH 0 is discarded. -/
  | storeRd (p jsa len tag : Nat)
  /-- STORE_DATA (R329): A STORE_DATA packet delivers store data for a tag. -/
  | storeData (p tag offset : Nat) (bytes : List Byte)
  /-- FEC_WINDOW_END (R325): A 2^24-codeword window ends and its counts are judged against the retrain limits. -/
  | fecWindowEnd (i corr uncorr : Nat)
  /-- LANE_RETRAIN (R325): A lane leaves the port and retrains stages 2 to 6 alone, or is fenced. -/
  | laneRetrain (i drift : Nat) (found : Option LaneTrain)
  /-- PORT_RETRAIN (R327): Repeated replays or widespread lock loss retrain the whole port. -/
  | portRetrain (p lost : Nat)
  /-- EYE_RECALIBRATION (R324): Every 100 ms a shadow sampler measures the eye width. -/
  | eyeRecalibration (i width : Nat)
  /-- WL_PORT_RETRAIN_WRITE (R327): A write of WL_PORT_CTRL.RETRAIN retrains the whole port. -/
  | wlPortRetrainWrite (p : Nat)
  /-- WL_LANE_RETRAIN_WRITE (R325): A write of WL_LANE_STATUS.RETRAIN retrains one data lane. -/
  | wlLaneRetrainWrite (i : Nat)
  /-- WL_PORT_ERR_CLR (R331): A write of WL_PORT_ERR.CLR clears the port error counts. -/
  | wlPortErrClr (p : Nat)
  /-- WL_LANE_RETRAINS_CLR (R325): A write of WL_LANE_RETRAINS.CLR clears the total retrain count. -/
  | wlLaneRetrainsClr (i : Nat)
  /-- BAR_ENUM (R336): Enumerates the press and checks every device found. -/
  | barEnum (d : Desc) (found : List Found) (told : Bool := false)
  /-- BAR_BIND (R341): Binds identities, composites, firmware bands and COMPs to positions. -/
  | barBind (d : Desc) (told : Bool := false)
  /-- BAR_RELEASE (R348): Releases, overrides or withdraws the channels of a device. -/
  | barRelease (told : Bool) (d : Desc)
  /-- LINK_UP_ENUMERATION (R340): A device's upstream link comes up while printing, so it is numbered and checked. -/
  | linkUpEnumeration (own : Bool) (index up hops : Nat) (x : BarSeen) (comp cause : Nat)
  /-- TIME_STAMP_REPORT (R345): A worker's stamp for a line multiple of 4,096 arrives, and the offset sets or clears the TIME cause. -/
  | timeStampReport (own : Bool) (index line value : Nat)
  /-- TIME_STAMP_LATE (R345): A stamp has not arrived within 8,192 lines, so it counts as above 50 ns. -/
  | timeStampLate (own : Bool) (index line : Nat)
  /-- PAGE_DIGEST (R346): A page digest is received and a device that disagrees is resynchronised. -/
  | pageDigest (line page composite : Nat)
  /-- COVERAGE_REPORT (R349): A coverage change is recorded in BAR_COV_MAP and BAR_COV_CAUSE and the vector is raised. -/
  | coverageReport (index mask cause unbound : Nat)
  /-- BAR_RESYNC_CLR (R346): A write of BAR_RESYNC.CLR clears the resynchronisation count. -/
  | barResyncClr
  /-- BAR_COV_EVENTS_CLR (R349): A write of BAR_COV_EVENTS.CLR clears the coverage change count. -/
  | barCovEventsClr
  /-- STATE_FRAME_SEND (R352): At the end of each line, or every 10 µs while stopped, a member sends its state frame. -/
  | stateFrameSend (horizon : Nat)
  /-- STATE_FRAME_RECEIVE (R352): A state frame is loaded into the standby's planner, or discarded when it fails its CRC. -/
  | stateFrameReceive (port : Nat) (bytes : List Byte) (horizon : Nat)
  /-- QUALIFY (R353): A standby becomes qualified after 1,024 agreeing lines or 10 ms stopped. -/
  | qualify (stopped : Bool)
  /-- BAD_VERDICT (R354): A standby finds its stream disagrees with the balls and sends a bad verdict. -/
  | badVerdict (pos line : Nat)
  /-- TAKEOVER (R358): A take-over is decided, YIELD is sent and the new owner claims and catches up. -/
  | takeover (cause catchup : Nat)
  /-- YIELD (R356): YIELD received from both other members releases STEP_OWN and the drivers within 8 ticks. -/
  | yield (pos : Nat)
  /-- CLAIM (R356): STEP_OWN has read high for 16 ticks, so the member pulls it low and sends CLAIM. -/
  | claim (pos : Nat)
  /-- DRIVER_ENABLE (R356): 48 ticks after a claim with no lower claim received, the member enables its drivers. -/
  | driverEnable
  /-- FIRST_OWNER_CLAIM (R357): The press manager claims STEP_OWN once its image is in force, or a member claims after 1 s without frames from T0. -/
  | firstOwnerClaim (held : Bool) (position : Nat := 0)
  /-- OWNER_NOTICE (R358): An owner notice makes each device switch COMP at the next line boundary. -/
  | ownerNotice (t line : Nat)
  /-- REVERT_REQ (R359): TRIO_AGREE reaches REVERT_LINES, so T0 requests return and the hand-over line is announced. -/
  | revertReq
  /-- PRIMARY_RETURN (R359): At y_h, T0 takes STEP_OWN back in the high interval after a step. -/
  | primaryReturn
  /-- TRIO_CFG_WRITE (R359): A write of TRIO_CFG sets the revert parameters, and a REVERT_LINES of 0 is ignored with ERR set. -/
  | trioCfgWrite (v : Nat)
  /-- TRIO_EVENTS_CLR (R358): A write of TRIO_EVENTS.CLR clears the trio counts. -/
  | trioEventsClr
  /-- DDR_TRAIN (R363): Each controller reads the SPD and trains, and a channel that breaks the rules is fenced. -/
  | ddrTrain (i : Nat) (dimm : Option Dimm) (ok : Bool)
  /-- REFRESH (R371): On the tREFI grid every controller issues all-bank refresh in the same cycle. -/
  | refresh
  /-- DIMM_TEMP_READ (R372): Every 10 ms the DIMM sensors set tREFI and the hot alarm. -/
  | dimmTempRead (i deg : Nat)
  /-- ALERT_N (R374): A parity or CRC alert stops the channel, and it replays from its retry buffer. -/
  | alertN (i : Nat) (crc same : Bool)
  /-- UNCORRECTABLE_BURST (R375): An uncorrectable burst is returned poisoned, or read from the mirror copy. -/
  | uncorrectableBurst (i x : Nat) (both : Bool) (hold unit part : Nat)
  /-- DDR_CHANNEL_FAIL (R376): A channel loses training, alerts four times or exceeds the error rate, so it is fenced and rehomed. -/
  | ddrChannelFail (i : Nat)
  /-- EVACUATION_DONE (R378): The evacuation copy ends, the map switches and the fence comes into force. -/
  | evacuationDone (i : Nat)
  /-- SELF_REFRESH_EXIT (R380): The controllers exit self-refresh and retrain within 5 ms. -/
  | selfRefreshExit (i : Nat) (ok : Bool)
  /-- DDR_ECC_CLR (R375): A write of DDR_ECC.CLR clears the ECC counts and the address. -/
  | ddrEccClr (i : Nat)
  /-- DDR_ALERT_CLR (R374): A write of DDR_ALERT.CLR clears the replay counts. -/
  | ddrAlertClr (i : Nat)
  /-- SPARGE_READ (R383): The sparge reads the next burst and writes back corrected or poisoned data. -/
  | spargeRead (i found : Nat)
  /-- SRAM_SCRUB (R385): The SRAM scrub reads and corrects a memory word. -/
  | sramScrub (memory unit part : Nat) (double : Bool)
  /-- RECALIBRATION (R387): A periodic recalibration measures a unit and applies its new value at the unit's boundary. -/
  | recalibration (unit inst : Nat) (value : Int) (gains : List (List Nat))
  /-- HEAD_ID_READ (R441): At channel enable the device reads the head's 64-bit identity by the exchange. -/
  | headIdRead (c : Nat) (reads : List (List (Bool × Bool)))
  /-- CHECKPOINT (R390): Firmware checkpoints the counts and head records to the Cask hourly or before a reset. -/
  | checkpoint
  /-- FIRE_COUNTS_READ (R391): Copies nozzle counts or a head record to the host. -/
  | fireCountsRead (d : Desc)
  /-- TELEMETRY_SAMPLE (R392): Sensors and supplies are sampled and warnings are raised. -/
  | telemetrySample (supply : Bool) (i value : Nat)
  /-- SNAPSHOT (R393): Every 10 ms a snapshot is written to the ring. -/
  | snapshot
  /-- TEL_READ (R394): Copies and frees the oldest snapshots or events. -/
  | telRead (d : Desc)
  /-- FENCE_SET (R396): Fences a unit, or starts a DDR evacuation. -/
  | fenceSet (d : Desc)
  /-- FENCE_LIFT (R397): Lifts a fence by the unit's recovery step. -/
  | fenceLift (d : Desc) (ok : Bool)
  /-- FENCE_LAST_CLR (R396): A write of FENCE_LAST.CLR clears the record of the latest fence. -/
  | fenceLastClr
  /-- TEL_STATUS_CLR (R393): A write of TEL_STATUS.CLR clears the counts of lost snapshots and events. -/
  | telStatusClr
  /-- TEL_SCRUB_CLR (R385): A write of TEL_SCRUB.CLR clears the scrub correction count. -/
  | telScrubClr
  /-- TEL_TEMP_CLR (R392): A write of TEL_TEMPs.CLR sets MAX to NOW. -/
  | telTempClr (i : Nat)
  /-- SPG_FOUND_CLR (R383): A write of SPG_FOUND.CLR clears the sparge counts. -/
  | spgFoundClr (i : Nat)
  /-- SPG_CTRL_WRITE (R383): A write of SPG_CTRL sets the pass period, and a PERIOD_H of 0 is ignored. -/
  | spgCtrlWrite (i v : Nat)
  /-- BOOT_ROM (R404): After DONE the boot ROM chooses and loads the image set. -/
  | bootRom
  /-- BOOT_SETTLE (R406): Firmware of a trial set writes the boot pointer SETTLED, or UNSETTLED with a cause. -/
  | bootSettle
  /-- FLS_PROGRAM (R403): Programs and verifies flash pages. -/
  | flsProgram (d : Desc)
  /-- FLS_ERASE (R403): Erases flash sectors. -/
  | flsErase (d : Desc)
  /-- CASK_CONFIRM (R413): Confirms a migration, or writes empty settings and commits the image. -/
  | caskConfirm (d : Desc)
  /-- FW_HANDOVER (R407): Starts a warm firmware hand-over. -/
  | fwHandover (d : Desc)
  /-- HANDOVER_FREEZE (R408): The old firmware stops and the new one takes over and sets READY. -/
  | handoverFreeze (ms schema : Nat) (reads : List Nat) (fault : Nat) (told : Option (Nat × Nat) := none)
  /-- HANDOVER_TIMEOUT (R409): READY is not set within 200 ms, so the hardware restarts the old firmware. -/
  | handoverTimeout
  /-- FLS_XIP_WRITE (R401): A management-core write to FLS_XIP opens or closes a fetch window, and an opening is refused while the array is busy. -/
  | flsXipWrite (fw : Bool) (v : Nat)
  /-- FLS_HOSTLOAD_WRITE (R404): A write of MASH_LEN starts a PCIe host load. -/
  | flsHostloadWrite (len : Nat)
  /-- WORT_IMAGE_LOAD (R404): Packets of type 0x0D carry the firmware and Mash image for a Wort load. -/
  | wortImageLoad (p : Nat) (mash : Bool) (bytes : List Byte) (last : Bool)
  /-- CASK_RECORD_WRITE (R411): Firmware writes a Cask record to an array whose window is closed, or defers it. -/
  | caskRecordWrite (kind key : Nat) (data : List Byte)
  /-- CASK_MIGRATION (R412): Firmware copies settings of an older schema into its own schema. -/
  | caskMigration
  /-- CASK_COMPACTION (R414): Fewer than 48 erased sectors remain, so the records of a sector are copied out and the sector is erased. -/
  | caskCompaction
  /-- GET_INFO (R417): The USB vendor request returns identity and status registers. -/
  | getInfo (value index len : Nat)
  /-- USB_REG_READ (R418): The USB vendor request reads BAR0 words without side effects. -/
  | usbRegRead (offset len : Nat)
  /-- USB_REG_WRITE (R419): The USB vendor request writes BAR0 words when SVC_WRITE allows it. -/
  | usbRegWrite (offset len : Nat) (words : List Nat) (status : Bool)
  /-- USB_REG_WRITE_APPLY (R419): Within 10 µs of the status stage, the data words are applied in ascending order. -/
  | usbRegWriteApply
  /-- TEL_PEEK (R417): The USB vendor request returns the latest snapshot without freeing it. -/
  | telPeek (value index len : Nat)
  /-- USB_STANDARD_REQUEST (R416): A USB standard request is served, or answered with STALL when not listed. -/
  | usbStandardRequest (type request value index len : Nat)
  /-- USB_BUS_RESET (R420): A USB bus reset abandons the transfer and empties the EP1 queue. -/
  | usbBusReset (hs : Bool)
  /-- USB_DETACH (R420): Loss of VBUS abandons the transfer in progress. -/
  | usbDetach
  /-- USB_SETUP_ABANDON (R420): A new SETUP before the status stage abandons the control transfer. -/
  | usbSetupAbandon
  /-- USB_COUNTS_CLR (R420): A write of USB_COUNTS.CLR clears the USB counts. -/
  | usbCountsClr
  /-- VP_COMMIT (R426): A write of VP_CTRL.COMMIT checks the shadows, or records ERR. -/
  | vpCommit
  /-- VP_SHADOW_CAPTURE (R427): At the next vertical blanking or transfer, the shadows come into force. -/
  | vpShadowCapture
  /-- VP_REFRESH (R428): A write of VP_CTRL.REFRESH requests a command-mode transfer. -/
  | vpRefresh
  /-- TE_IN_EDGE (R428): A TE edge starts a pending command-mode transfer. -/
  | teInEdge (rising : Bool)
  /-- TE_TIMEOUT (R428): No TE edge within 100 ms, so the transfer starts and NO_TE is counted. -/
  | teTimeout
  /-- STATIC_BLANK_EXTEND (R429): STATIC_FRAMES frames without change extend VFP up to VFP_MAX. -/
  | staticBlankExtend
  /-- VP_LINE_UNDERRUN (R425): A line whose data is late is sent black and counted. -/
  | vpLineUnderrun
  /-- VP_CMD_SEND (R430): A write of VP_CMD_CTRL.SEND queues a panel command for the next blanking. -/
  | vpCmdSend
  /-- VP_COUNTS_CLR (R425): A write of VP_COUNTS.CLR clears the viewport counts. -/
  | vpCountsClr
  /-- MASH_ERR_CLR (R83): A write of MASH_ERR.CLR clears the refusal record. -/
  | mashErrClr
  /-- QM_DB_ERR_CLR (R104): A write of QM_DB_ERR.CLR clears the doorbell error count. -/
  | qmDbErrClr
  /-- QM_FLR_DROPPED_CLR (R101): A write of QM_FLR_DROPPED.CLR clears the count of dropped completions. -/
  | qmFlrDroppedClr
  /-- TIME_COUNTER_TICK (R308): On every CLK_FIRE tick the time counter adds TIME_INCR to NSF and its fraction and carries into SEC at 1,000,000,000 ns. -/
  | timeCounterTick
  /-- ENCODER_SAMPLE (R246): Every 40 ns a sine and cosine sample pair of each encoder is converted into phase and period and updates ENC_POSx and ENC_SPEEDx. -/
  | encoderSample (x sin cos : Nat)
  /-- SENSE_SAMPLE (R295): Every 8 CLK_FIRE ticks each sense channel takes a sample, which is tested against its mask point or the idle limit and stored in any armed capture. -/
  | senseSample (tick : Nat) (codes : List Nat)
  /-- AUX_PAUSE_END (R90): QUIESCE_US after the commit line the inspection or acquisition pipeline stopped for an AUX commit resumes, and its PAUSED bit clears. -/
  | auxPauseEnd (unit : Nat)
  /-- BAR4_ACCESS (R99): A host access through the BAR4 window reaches device DRAM, or completes Unsupported Request or poisoned outside installed DRAM. -/
  | bar4Access (write : Bool) (addr n : Nat) (bytes : List Byte)
  /-- USB_ATTACH (R415): VBUS appears, so the service port connects and enumeration by the USB host can begin. -/
  | usbAttach
  /-- USB_SUSPEND (R415): The USB bus goes idle and the port enters suspend, setting USB_STATUS.SUSPENDED. -/
  | usbSuspend
  /-- USB_RESUME (R415): The USB host signals resume and the port leaves suspend. -/
  | usbResume
  /-- EP1_IN_TRANSACTION (R422): An IN transaction on EP1, at most once per 1 ms, sends and removes the oldest entry of the 64-entry event queue. -/
  | ep1InTransaction
  /-- ETH_LINK_CHANGE (R313): An Ethernet port achieves or loses block lock and alignment, changing ETH_STATUS.LINK and, where lock is lost, forcing MAC stamping. -/
  | ethLinkChange (p : Nat) (up : Bool)
  /-- CSI_LINK_CHANGE (R255): The D-PHY lanes of a camera port reach or leave high-speed receive with calibration, changing CAM_STATUS.LINK. -/
  | csiLinkChange (x : Nat) (up : Bool)
  /-- VP_VIDEO_LINE (R424): In video mode the viewport reaches each line boundary of its timing, reads the frame buffer two lines ahead and sends the line and its blanking. -/
  | vpVideoLine
  /-- ALERT_N_HIGH (R374): ALERT_N of a DDR channel returns high, so the controller precharges and reissues from its retry buffer. -/
  | alertNHigh (i : Nat)
  deriving DecidableEq, Repr

end Sys2Proof
end

