-- ==== Sys2Proof/Config.lean ====
section
/-! DEFINITION. What an implementation fixes and what the spec leaves open: the free values of the model. A free value has no
body, so no proof can see what it is. -/

namespace Sys2Proof

/-- The free value drawn at a place where the spec says that some value results and does not say which. State.freeCtr is the
argument, so that each draw is another value (log entry 6). -/
opaque Config.freeValue : Nat → BitVec 64

/-- Whether the full image of a GRS_IMAGE_ID fixes a press resolution of 1,200 lines per inch (R127); spec/ does not say which section
carries it (log entry 48). -/
opaque Config.pressHigh : Nat → Bool

/-- The Wort port that a WORT payload names for device Dd of the bar (R133); R333 lays out no such field (log entry 131). -/
opaque Config.slicePort : (wort : List Byte) → (device : Nat) → Nat

/-- The ECDSA P-384 check of a signature (R78-R81) over a digest with a public key; the root keys are in ROM and spec/ does not
give them (log entry 40). -/
opaque Config.ecdsaOk : (key digest sig : List Byte) → Bool

/-- The public key of a root slot (R78). -/
opaque Config.rootKey : Nat → List Byte

/-- The payload the encoder lane writes for an effort level, sample depth and lines (R158): any encoder whose output decodes to
the same samples conforms (log entry 46). -/
opaque Config.encoded : (level depth : Nat) → (rows : List (List (List Nat))) → List Byte

/-- Whether the phase of a corrected sine and cosine pair that lies between two counts is rounded up (R246): spec/ does not state how
atan2 is rounded (log entry 51). -/
opaque Config.phase : (sin cos : Int) → Bool

/-- One less than the ADC units of 0.5 V at an encoder input (R248), which spec/ does not state (log entry 52). -/
opaque Config.halfVolt : Nat

/-- The gravity loop's estimator brought to a whole number (R280-R282): its internal arithmetic is not bit-exact, so how an exact
value is rounded is left open (log entry 67). -/
opaque Config.gravRound : Rat → Int

/-- The data of a Cask record carried from one schema to another (R412); spec/ gives no schema's layout (log entry 76). -/
opaque Config.migrated : (kind old new : Nat) → List Byte → List Byte

/-- Offset and size a block instance has in the default image (R63), where spec/ does not give them (log entry 80). -/
opaque Config.defaultPlace : (type inst : Nat) → Nat × Nat

end Sys2Proof
end

