-- ==== Sys2Proof/Machine/Regs.lean ====
section
/-! DEFINITION. The registers of the GK6440, field by field, as the tables of spec/ give them: for each register its block
type (R64), offset, stride, count, width, power domain and reset domain; for each field its register, lowest bit, width,
access code (R12), reset value and what keeps it through a reset. Reserved bits have no field: they read 0 and writes to
them are dropped (R13). -/

namespace Sys2Proof.Machine

/-- The block types of R64 (spec/03_grist_map.md). -/
inductive Block where
  | grist
  | rcp
  | mash
  | qm
  | jsa
  | intake
  | codec
  | tun
  | screen
  | underback
  | grantBuf
  | headPort
  | sequencer
  | kiln
  | motion
  | encoders
  | camera
  | isp
  | gravity
  | sightGlass
  | time
  | ethernet
  | wortLane
  | wortPort
  | trio
  | hierarchy
  | ddr
  | sparge
  | flash
  | cask
  | fence
  | telemetry
  | usb
  | viewport
  deriving DecidableEq, Repr

/-- The TYPE code of a block (R64). -/
def Block.code : Block → Nat
  | .grist => 0x0001
  | .rcp => 0x0002
  | .mash => 0x0003
  | .qm => 0x0004
  | .jsa => 0x0005
  | .intake => 0x0006
  | .codec => 0x0010
  | .tun => 0x0011
  | .screen => 0x0012
  | .underback => 0x0013
  | .grantBuf => 0x0014
  | .headPort => 0x0015
  | .sequencer => 0x0016
  | .kiln => 0x0017
  | .motion => 0x0020
  | .encoders => 0x0021
  | .camera => 0x0022
  | .isp => 0x0023
  | .gravity => 0x0024
  | .sightGlass => 0x0025
  | .time => 0x0030
  | .ethernet => 0x0031
  | .wortLane => 0x0033
  | .wortPort => 0x0032
  | .trio => 0x0034
  | .hierarchy => 0x0035
  | .ddr => 0x0040
  | .sparge => 0x0041
  | .flash => 0x0042
  | .cask => 0x0043
  | .fence => 0x0044
  | .telemetry => 0x0045
  | .usb => 0x0046
  | .viewport => 0x0047

/-- A power or reset domain of a register: PD_AON (reset by every warm reset, or by power-on only), one switched domain,
or the switched domain `base + mult * instance` (R11, R54). -/
inductive Dom where
  | aon
  | aonPor
  | pd (n : Nat)
  | per (base mult : Nat)
  deriving DecidableEq, Repr

/-- The access codes of R12. -/
inductive Access where
  | ro | rw | wo | w1c | w1s | sc | rws | rwk
  deriving DecidableEq, Repr

/-- What a field survives: nothing beyond its register's reset domain (`dom`), every warm reset (`sticky`), every warm reset
as a latched strap (`strap`), every reset (`fuse`), or every reset while the Kiln seal holds (`kiln`). -/
inductive Keep where
  | dom | sticky | strap | fuse | kiln
  deriving DecidableEq, Repr

/-- The registers of spec/, each under its own name; an index letter of the spec's name (PWR_REQn) is the index `k`. -/
inductive Reg where
  | RST_CAUSE | RST_CAUSE_INFO | RST_STATUS | RST_STRAPS | RST_CTRL | CLK_STATUS | PWR_REQ | PWR_STATE | PWR_ERR
  | PWR_PSTATE | GRS_MAGIC | GRS_FORMAT | GRS_GEN | GRS_DEVICE | GRS_IMAGE_ID | GRS_TABLE_OFFSET | GRS_TABLE_COUNT
  | GRS_TABLE_CRC | GRS_NOTIFY | GRS_STALE | GRS_CAUSE | MASH_STATUS | MASH_ERR | MASH_ROLLBACK | MASH_OEM
  | MASH_IMAGE_VER | MASH_PATCHES | MASH_COMPOSITE | QM_CTRL | QM_STATUS | QM_ASQ_BASE | QM_ACQ_BASE | QM_ADMIN_DEPTH
  | QM_OPTAB | QM_DB_ERR | QM_OVF_LAST | QM_BAR4_BASE | QM_FLR_DROPPED | UB_LEAD | UB_TAIL | UB_WATER | UB_HIGH
  | UB_LEVEL | UB_LATE_COUNT | GB_LEVEL | JSA_MAPPED | INT_ARCH_STATUS | INT_ARCH_DROPPED | INT_FAULT_LOG
  | CDC_STATUS | CDC_ENC_CTRL | CDC_BLOCKS | CDC_FAIL | TUN_STATUS | TUN_LINE | TUN_FAULT | TUN_FAULT_LINE | TUN_ECC
  | TUN_LIMIT | TUN_PAUSE | TUN_PROG_ID | TUN_SLICE_MAX | SCR_GEN | SCR_SWITCH | SCR_STATUS | SCR_OUT
  | SCR_BRIDGE_CTRL | SCR_BRIDGE_LOST | SCR_CLIP | SCR_BRIDGE_SET | SCR_BRIDGE_CLR | FIRE_STATUS | FIRE_TIMING
  | FIRE_SCHED | FIRE_RATE | FIRE_PMIN | FIRE_MINPULSE | FIRE_LINE | FIRE_APPLY_LINE | FIRE_DROPPED | FIRE_MISSED
  | FIRE_VOTE | FIRE_TRIG | FIRE_FLIGHT | FIRE_CH_STATUS | FIRE_CH_TRIM | FIRE_CH_GEOM | FIRE_CH_FLIGHT
  | FIRE_CH_LINES | FIRE_CH_DROPPED | KILN_STATUS | KILN_SEAL_KEY | KILN_DIGEST | KILN_HPWR_REQ | KILN_HPWR_ON
  | KILN_CLIP_LINES | KILN_CLIP_STROBES | KILN_CLIP_LAST | KILN_UNSEALED | KILN_ALARM | KILN_ALARM_VEC | KILN_CH_CLIP
  | MOT_STATUS | MOT_POS | MOT_SPEED | MOT_STOPDIST | MOT_BS_COUNT | MOT_BS_DIST | MOT_BS_RESUME | MOT_BS_ERR
  | MOT_GAP | MOT_INPUTS | MOT_SPLICE_LINE | MOT_REFUSED | MOT_HARD_LINES | ENC_STATUS | ENC_EVENT | ENC_IRQ | ENC_DR
  | ENC_SLIP | ENC_REBASE | ENC_UNCMD | ENC_POS | ENC_SPEED | ENC_AMP | ENC_FAULT | CAM_STATUS | CAM_FRAME | CAM_LOST
  | CAM_PHY_ERR | CAM_STALE | ISP_STATUS | ISP_RECAL | ISP_SHADOW_CTRL | ISP_BLACK | GRAV_STATUS | GRAV_TBL_ADDR
  | GRAV_FOREIGN | GRAV_LAST_OUT | GRAV_EVT_VEC | GRAV_CH_STATUS | GRAV_CH_QUAL | GRAV_CH_COUNT | GRAV_CH_CTRL
  | SG_STATUS | SG_CTRL | SG_BUS | SG_LAST_VIOL | SG_VIOL | TIME_NS | TIME_SEC_LO | TIME_SEC_HI | TIME_NSF
  | TIME_SET_NS | TIME_SET_SEC_LO | TIME_SET_SEC_HI | TIME_CMD | TIME_ADJ | TIME_INCR | TIME_STATUS | ETH_STATUS
  | ETH_ASYM | ETH_TXTS_STATUS | ETH_TXTS_LOST | ETH_TXTS_ENTRY0 | ETH_TXTS_ENTRY1 | ETH_TXTS_ENTRY2
  | ETH_TXTS_ENTRY3 | WL_PORT_STATUS | WL_PORT_CTRL | WL_PEER | WL_PORT_ERR | WL_VC_CREDIT | WL_LANE_STATUS
  | WL_LANE_EYE | WL_LANE_FEC | WL_LANE_RETRAINS | BAR_STATUS | BAR_SELF_ID | BAR_UNBOUND | BAR_HOLD | BAR_TIME_OFS
  | BAR_RESYNC | BAR_COV_VEC | BAR_COV_EVENTS | BAR_COV_MAP | BAR_COV_CAUSE | TRIO_STATUS | TRIO_CFG | TRIO_AGREE
  | TRIO_HANDOVER | TRIO_EVENTS | TRIO_LAST | TRIO_COMP | TRIO_EVT_VEC | DDR_STATUS | DDR_GEOM | DDR_ECC
  | DDR_ECC_ADDR | DDR_ALERT | DDR_EVAC | FENCE_MAP | FENCE_LAST | FENCE_EVT_VEC | TEL_STATUS | TEL_TWARN
  | TEL_EVT_VEC | TEL_SCRUB | TEL_LIFE_WARN | TEL_TEMP | SPG_CTRL | SPG_STATUS | SPG_FOUND | FLS_STATUS | FLS_XIP
  | FLS_BOOT | FLS_FW_VER | FLS_HOSTLOAD | FLS_HANDOVER | CASK_STATUS | CASK_SCHEMA | CASK_WEAR | USB_STATUS
  | USB_CTRL | USB_ID | USB_COUNTS | VP_STATUS | VP_CTRL | VP_FB_BASE | VP_FB_STRIDE | VP_H_TIMING | VP_V_TIMING
  | VP_VFP_MAX | VP_LINK | VP_CMD_CTRL | VP_CMD_DATA | VP_COUNTS | TIME_NS_B | TIME_SEC_LO_B | TIME_SEC_HI_B
  | TIME_NSF_B
  deriving DecidableEq, Repr

/-- The register fields of spec/, named REGISTER_FIELD (R7 writes REG.FIELD). -/
inductive Fld where
  | RST_CAUSE_POR | RST_CAUSE_PIN | RST_CAUSE_WDOG | RST_CAUSE_SW | RST_CAUSE_WORT | RST_CAUSE_THERM
  | RST_CAUSE_CRIT_FIRE | RST_CAUSE_CRIT_KILN | RST_CAUSE_CRIT_TRIO | RST_CAUSE_CRIT_QM | RST_CAUSE_INFO_WORT_PORT
  | RST_CAUSE_INFO_THERM_SENSOR | RST_CAUSE_INFO_CRIT_DBE | RST_STATUS_STEP | RST_STATUS_DONE | RST_STATUS_PLL_WAIT
  | RST_STATUS_CLK_ABSENT | RST_STATUS_THERM_HOLD | RST_STRAPS_BOOT_SRC | RST_STRAPS_CLK_MODE | RST_STRAPS_ROLE
  | RST_CTRL_SW_RESET | RST_CTRL_WDOG_OK | RST_CTRL_KEY | CLK_STATUS_CORE_LOCK | CLK_STATUS_SRC | CLK_STATUS_LOL
  | PWR_REQ_ON | PWR_STATE_ON | PWR_ERR_REFUSED | PWR_PSTATE_REQ | PWR_PSTATE_CUR | PWR_PSTATE_BUSY
  | PWR_PSTATE_REFUSED | GRS_MAGIC_MAGIC | GRS_FORMAT_MINOR | GRS_FORMAT_MAJOR | GRS_FORMAT_HDR_SIZE | GRS_GEN_GEN
  | GRS_DEVICE_STEP_LETTER | GRS_DEVICE_STEP_DIGIT | GRS_DEVICE_PART | GRS_IMAGE_ID_ID | GRS_TABLE_OFFSET_OFFSET
  | GRS_TABLE_COUNT_COUNT | GRS_TABLE_COUNT_ENTRY_SIZE | GRS_TABLE_CRC_CRC | GRS_NOTIFY_VECTOR | GRS_NOTIFY_EN
  | GRS_STALE_COUNT | GRS_STALE_CLR | GRS_CAUSE_CAUSE | MASH_STATUS_STATE | MASH_STATUS_STAGED | MASH_STATUS_WAITING
  | MASH_STATUS_FULL_OK | MASH_ERR_STATUS | MASH_ERR_CHECK | MASH_ERR_SECTION | MASH_ERR_CLR | MASH_ROLLBACK_MIN
  | MASH_ROLLBACK_ROOT_REVOKED | MASH_OEM_OEM_ID | MASH_IMAGE_VER_VERSION | MASH_PATCHES_COUNT | MASH_COMPOSITE_ID
  | QM_CTRL_EN | QM_STATUS_READY | QM_STATUS_OPTAB_FULL | QM_STATUS_ERR | QM_ASQ_BASE_BASE | QM_ACQ_BASE_BASE
  | QM_ADMIN_DEPTH_DEPTH | QM_OPTAB_IN_USE | QM_DB_ERR_COUNT | QM_DB_ERR_LAST_QID | QM_DB_ERR_CLR | QM_OVF_LAST_QID
  | QM_OVF_LAST_COUNT | QM_BAR4_BASE_BASE | QM_FLR_DROPPED_COUNT | QM_FLR_DROPPED_CLR | UB_LEAD_LINES | UB_TAIL_LINES
  | UB_TAIL_MARGIN_64 | UB_WATER_LOW_64 | UB_HIGH_HIGH_64 | UB_LEVEL_AVAIL | UB_LEVEL_LOW | UB_LEVEL_LATE
  | UB_LEVEL_HELD | UB_LATE_COUNT_COUNT | UB_LATE_COUNT_CLR | GB_LEVEL_LINES | JSA_MAPPED_EXTENTS
  | INT_ARCH_STATUS_FILL_PCT | INT_ARCH_STATUS_EN | INT_ARCH_STATUS_POLICY | INT_ARCH_STATUS_HOLDING
  | INT_ARCH_DROPPED_COUNT | INT_ARCH_DROPPED_CLR | INT_FAULT_LOG_CAUSE | INT_FAULT_LOG_CHANNEL | INT_FAULT_LOG_COUNT
  | INT_FAULT_LOG_CLR | CDC_STATUS_LANES_BUSY | CDC_STATUS_ENC_BUSY | CDC_STATUS_FENCED | CDC_ENC_CTRL_LEVEL
  | CDC_ENC_CTRL_FLUSH | CDC_BLOCKS_COUNT | CDC_FAIL_COUNT | CDC_FAIL_LAST_CAUSE | CDC_FAIL_LAST_CHANNEL
  | CDC_FAIL_CLR | TUN_STATUS_RUNNING | TUN_STATUS_PAUSED | TUN_STATUS_FENCED | TUN_STATUS_LOADED | TUN_LINE_LINE
  | TUN_FAULT_CODE | TUN_FAULT_ENGINE | TUN_FAULT_PC | TUN_FAULT_COUNT | TUN_FAULT_CLR | TUN_FAULT_LINE_LINE
  | TUN_ECC_CORR | TUN_ECC_LAST_SRC | TUN_ECC_LAST_ENGINE | TUN_ECC_CLR | TUN_LIMIT_SLICE_LIMIT | TUN_LIMIT_PLANE_DIV
  | TUN_PAUSE_COUNT | TUN_PAUSE_OVER | TUN_PROG_ID_ID | TUN_SLICE_MAX_CYCLES | TUN_SLICE_MAX_CLR | SCR_GEN_GEN
  | SCR_SWITCH_LINE | SCR_STATUS_BANK | SCR_STATUS_PENDING | SCR_STATUS_SHADOW | SCR_STATUS_GRAV_HELD
  | SCR_STATUS_FREE | SCR_OUT_OUT | SCR_OUT_BRIDGED | SCR_BRIDGE_CTRL_APPLY | SCR_BRIDGE_CTRL_STAGED
  | SCR_BRIDGE_LOST_COUNT | SCR_BRIDGE_LOST_CLR | SCR_CLIP_COUNT | SCR_CLIP_CLR | SCR_BRIDGE_SET_NOZ
  | SCR_BRIDGE_CLR_NOZ | FIRE_STATUS_RUNNING | FIRE_STATUS_OWNER | FIRE_STATUS_SLAVED | FIRE_STATUS_COMMIT_PENDING
  | FIRE_STATUS_WITHHELD | FIRE_STATUS_DEGRADED | FIRE_TIMING_STROBE | FIRE_TIMING_GAP | FIRE_TIMING_DEAD
  | FIRE_SCHED_CONC | FIRE_SCHED_SMAX | FIRE_SCHED_SLOTS | FIRE_SCHED_T_LINE | FIRE_RATE_RATE_MAX | FIRE_PMIN_TICKS
  | FIRE_MINPULSE_MIN | FIRE_MINPULSE_CHANNEL | FIRE_LINE_LINE | FIRE_APPLY_LINE_LINE | FIRE_DROPPED_COUNT
  | FIRE_DROPPED_CLR | FIRE_MISSED_COUNT | FIRE_MISSED_CLR | FIRE_VOTE_DIS_A | FIRE_VOTE_DIS_B | FIRE_VOTE_DIS_C
  | FIRE_VOTE_MASKED | FIRE_VOTE_CLR | FIRE_TRIG_COMP | FIRE_TRIG_LAT | FIRE_TRIG_ERR | FIRE_FLIGHT_FLIGHT_MAX
  | FIRE_CH_STATUS_ENABLED | FIRE_CH_STATUS_FENCED | FIRE_CH_STATUS_HPWR | FIRE_CH_STATUS_LOADED | FIRE_CH_TRIM_CODE
  | FIRE_CH_TRIM_APPLIED | FIRE_CH_TRIM_REFUSED | FIRE_CH_TRIM_BUSY | FIRE_CH_GEOM_NOZZLES | FIRE_CH_GEOM_TWIN
  | FIRE_CH_GEOM_ROWS_M1 | FIRE_CH_GEOM_ROT | FIRE_CH_GEOM_ORDER_MODE | FIRE_CH_GEOM_STRIDE
  | FIRE_CH_FLIGHT_FLIGHT_NS | FIRE_CH_LINES_COUNT | FIRE_CH_DROPPED_COUNT | FIRE_CH_DROPPED_CLR | KILN_STATUS_SEALED
  | KILN_STATUS_LOCK_WRITE | KILN_STATUS_ALARM | KILN_SEAL_KEY_KEY_ID | KILN_DIGEST_ID | KILN_HPWR_REQ_REQ
  | KILN_HPWR_ON_ON | KILN_CLIP_LINES_COUNT | KILN_CLIP_LINES_CLR | KILN_CLIP_STROBES_COUNT | KILN_CLIP_LAST_CHANNEL
  | KILN_CLIP_LAST_SLOT | KILN_CLIP_LAST_CAUSE | KILN_UNSEALED_COUNT | KILN_UNSEALED_CLR | KILN_ALARM_THRESH
  | KILN_ALARM_EN | KILN_ALARM_VEC_VECTOR | KILN_ALARM_VEC_EN | KILN_CH_CLIP_COUNT | KILN_CH_CLIP_CLR
  | MOT_STATUS_MOVING | MOT_STATUS_DIR | MOT_STATUS_HELD | MOT_STATUS_OWN | MOT_STATUS_JOB | MOT_STATUS_BS_PHASE
  | MOT_STATUS_RESUME_FAIL | MOT_POS_STEPS | MOT_SPEED_RATE | MOT_STOPDIST_LINES | MOT_BS_COUNT_BACKSTEPS
  | MOT_BS_COUNT_RETRIES | MOT_BS_COUNT_UNVERIFIED | MOT_BS_COUNT_CLR | MOT_BS_DIST_STEPS | MOT_BS_RESUME_LINE
  | MOT_BS_ERR_SPEED | MOT_BS_ERR_POS | MOT_GAP_LINES | MOT_INPUTS_LIMA | MOT_INPUTS_LIMB | MOT_INPUTS_LATCH
  | MOT_INPUTS_BREAK | MOT_INPUTS_SPLICE | MOT_INPUTS_BREAK_SEEN | MOT_INPUTS_SPLICE_SEEN | MOT_SPLICE_LINE_LINE
  | MOT_REFUSED_COUNT | MOT_REFUSED_CLR | MOT_HARD_LINES_COUNT | MOT_HARD_LINES_CLR | ENC_STATUS_USED
  | ENC_STATUS_VALID | ENC_STATUS_DIR | ENC_STATUS_DR | ENC_EVENT_DIR_CHG | ENC_EVENT_FAULT_SEEN
  | ENC_EVENT_RECOVERED | ENC_EVENT_DR_LIMIT | ENC_IRQ_VECTOR | ENC_IRQ_DIR_EN | ENC_IRQ_FAULT_EN | ENC_IRQ_DR_EN
  | ENC_DR_LINES | ENC_SLIP_COUNTS | ENC_REBASE_COUNTS | ENC_UNCMD_COUNT | ENC_UNCMD_CLR | ENC_POS_COUNTS
  | ENC_SPEED_RATE | ENC_AMP_NOW | ENC_AMP_MIN | ENC_AMP_CLR | ENC_FAULT_CAUSE | ENC_FAULT_COUNT | ENC_FAULT_CLR
  | CAM_STATUS_LINK | CAM_STATUS_FENCED | CAM_STATUS_PAIRED | CAM_STATUS_PENDING | CAM_FRAME_FRAME | CAM_LOST_COUNT
  | CAM_LOST_CAUSE | CAM_LOST_CLR | CAM_PHY_ERR_ECC_CORR | CAM_PHY_ERR_ECC_FAIL | CAM_PHY_ERR_CRC_FAIL
  | CAM_PHY_ERR_DT_DROP | CAM_PHY_ERR_CLR | CAM_STALE_COUNT | CAM_STALE_CLR | ISP_STATUS_PORTS | ISP_STATUS_PAUSED
  | ISP_STATUS_SHADOW | ISP_RECAL_PORT | ISP_SHADOW_CTRL_PORT | ISP_SHADOW_CTRL_APPLY | ISP_BLACK_LEVEL
  | ISP_BLACK_REF | GRAV_STATUS_RUNNING | GRAV_STATUS_PAUSED | GRAV_STATUS_REBIND | GRAV_TBL_ADDR_ADDR
  | GRAV_FOREIGN_COUNT | GRAV_FOREIGN_CLR | GRAV_LAST_OUT_NOZZLE | GRAV_LAST_OUT_CHANNEL | GRAV_LAST_OUT_TRIAL
  | GRAV_LAST_OUT_HIGH | GRAV_LAST_OUT_LINE | GRAV_EVT_VEC_VECTOR | GRAV_EVT_VEC_EN | GRAV_CH_STATUS_EN
  | GRAV_CH_STATUS_BOUND | GRAV_CH_STATUS_LEARN | GRAV_CH_STATUS_HELD | GRAV_CH_STATUS_REG_LIMIT | GRAV_CH_STATUS_OUT
  | GRAV_CH_QUAL_VALID_PCT | GRAV_CH_QUAL_RESID | GRAV_CH_QUAL_REG_OFS | GRAV_CH_COUNT_OUTS | GRAV_CH_COUNT_BACKINS
  | GRAV_CH_COUNT_TAIL_MISS | GRAV_CH_COUNT_CLR | GRAV_CH_CTRL_RESET_TRIALS | GRAV_CH_CTRL_CLEAR_WINDOW
  | SG_STATUS_ARMED | SG_STATUS_RECORD | SG_STATUS_PAUSED | SG_CTRL_FORCE | SG_CTRL_DISARM | SG_BUS_RX | SG_BUS_LATE
  | SG_BUS_QDROP | SG_BUS_CLR | SG_LAST_VIOL_CHANNEL | SG_LAST_VIOL_KIND | SG_LAST_VIOL_POINT | SG_LAST_VIOL_STROBE
  | SG_VIOL_RUN | SG_VIOL_STOPPED | SG_VIOL_SENSE_FAULT | SG_VIOL_COUNT | SG_VIOL_CLR | TIME_NS_STAMP
  | TIME_SEC_LO_SEC | TIME_SEC_HI_SEC | TIME_NSF_NS | TIME_SET_NS_NS | TIME_SET_SEC_LO_SEC | TIME_SET_SEC_HI_SEC
  | TIME_CMD_LOAD | TIME_CMD_ADJ | TIME_ADJ_NS | TIME_INCR_INCR | TIME_STATUS_EPOCH | TIME_STATUS_UNSYNC
  | TIME_STATUS_ERR | ETH_STATUS_LINK | ETH_STATUS_MODE | ETH_STATUS_FEC | ETH_STATUS_STAMP_POINT
  | ETH_STATUS_MAC_STAMPS | ETH_ASYM_PS | ETH_TXTS_STATUS_LEVEL | ETH_TXTS_STATUS_OVF | ETH_TXTS_STATUS_CLR
  | ETH_TXTS_LOST_SEQ_ID | ETH_TXTS_ENTRY0_NS | ETH_TXTS_ENTRY1_SEC_LO | ETH_TXTS_ENTRY2_SEC_HI
  | ETH_TXTS_ENTRY2_FRAC | ETH_TXTS_ENTRY3_SEQ_ID | ETH_TXTS_ENTRY3_MSG_TYPE | ETH_TXTS_ENTRY3_EPOCH
  | ETH_TXTS_ENTRY3_MAC | ETH_TXTS_ENTRY3_VALID | WL_PORT_STATUS_STATE | WL_PORT_STATUS_ACTIVE
  | WL_PORT_STATUS_REVERSED | WL_PORT_CTRL_RETRAIN | WL_PEER_ID | WL_PORT_ERR_NAKS | WL_PORT_ERR_RETRAINS
  | WL_PORT_ERR_DISCARDS | WL_PORT_ERR_CLR | WL_VC_CREDIT_AVAIL | WL_VC_CREDIT_SHARE | WL_LANE_STATUS_STAGE
  | WL_LANE_STATUS_INVERTED | WL_LANE_STATUS_ACTIVE | WL_LANE_STATUS_FENCED | WL_LANE_STATUS_WAITING
  | WL_LANE_STATUS_RETRAIN | WL_LANE_EYE_WIDTH | WL_LANE_EYE_TRAINED | WL_LANE_EYE_DRIFT | WL_LANE_FEC_CORR
  | WL_LANE_FEC_UNCORR | WL_LANE_RETRAINS_HOUR | WL_LANE_RETRAINS_TOTAL | WL_LANE_RETRAINS_CLR | BAR_STATUS_ROLE
  | BAR_STATUS_ENUMERATED | BAR_STATUS_MEASURE | BAR_STATUS_STATE | BAR_STATUS_BAR | BAR_STATUS_DEVICE
  | BAR_STATUS_INDEX | BAR_SELF_ID_ID | BAR_UNBOUND_CH | BAR_HOLD_IMAGE | BAR_HOLD_FW | BAR_HOLD_TIME
  | BAR_HOLD_RESYNC | BAR_HOLD_COMP | BAR_HOLD_CONFLICT | BAR_HOLD_EXCESS | BAR_HOLD_REPLACED | BAR_TIME_OFS_NS
  | BAR_RESYNC_COUNT | BAR_RESYNC_CLR | BAR_COV_VEC_VECTOR | BAR_COV_VEC_EN | BAR_COV_EVENTS_COUNT
  | BAR_COV_EVENTS_CLR | BAR_COV_MAP_CH | BAR_COV_CAUSE_HOLD | BAR_COV_CAUSE_FENCED | BAR_COV_CAUSE_LOST
  | BAR_COV_CAUSE_CHANNELS | TRIO_STATUS_POS | TRIO_STATUS_ACTIVE | TRIO_STATUS_QUALIFIED | TRIO_STATUS_MEMBERS
  | TRIO_STATUS_DEGRADED | TRIO_STATUS_OWNER | TRIO_STATUS_STUCK | TRIO_STATUS_REVERT_PENDING | TRIO_STATUS_CLK_BAD
  | TRIO_STATUS_ERR | TRIO_CFG_REVERT_LINES | TRIO_CFG_REVERT_EN | TRIO_AGREE_LINES | TRIO_HANDOVER_LINE
  | TRIO_EVENTS_TAKEOVERS | TRIO_EVENTS_REVERTS | TRIO_EVENTS_UNQUAL | TRIO_EVENTS_CLR | TRIO_LAST_CAUSE
  | TRIO_LAST_FROM | TRIO_LAST_TO | TRIO_LAST_CATCHUP | TRIO_COMP_COMP | TRIO_COMP_VALID | TRIO_EVT_VEC_VECTOR
  | TRIO_EVT_VEC_EN | DDR_STATUS_STATE | DDR_STATUS_HOT | DDR_STATUS_HOT_ALARM | DDR_STATUS_REPLAYING
  | DDR_STATUS_TEMP | DDR_STATUS_SLOT | DDR_GEOM_GIB | DDR_GEOM_X8 | DDR_GEOM_DENSITY | DDR_GEOM_RANKS_M1
  | DDR_GEOM_ROW_BITS | DDR_ECC_CE | DDR_ECC_UE | DDR_ECC_CLR | DDR_ECC_ADDR_ADDR | DDR_ECC_ADDR_MIRRORED
  | DDR_ALERT_REPLAYS | DDR_ALERT_CRC | DDR_ALERT_CLR | DDR_EVAC_PCT | DDR_EVAC_UNPLANNED | DDR_EVAC_LOST
  | FENCE_MAP_UNITS | FENCE_LAST_CLASS | FENCE_LAST_INDEX | FENCE_LAST_CAUSE | FENCE_LAST_CLR | FENCE_EVT_VEC_VECTOR
  | FENCE_EVT_VEC_EN | TEL_STATUS_SNAPS | TEL_STATUS_SNAP_LOST | TEL_STATUS_LOG_LOST | TEL_STATUS_CLR | TEL_TWARN_DEG
  | TEL_EVT_VEC_VECTOR | TEL_EVT_VEC_EN | TEL_SCRUB_CORR | TEL_SCRUB_CLR | TEL_LIFE_WARN_STROBES | TEL_LIFE_WARN_EN
  | TEL_TEMP_NOW | TEL_TEMP_MAX | TEL_TEMP_CLR | SPG_CTRL_PERIOD_H | SPG_CTRL_EN | SPG_STATUS_PASS_PCT
  | SPG_STATUS_WAITING | SPG_STATUS_PASSES | SPG_FOUND_CE | SPG_FOUND_UE | SPG_FOUND_CLR | FLS_STATUS_PRESENT
  | FLS_STATUS_BUSY | FLS_STATUS_READY | FLS_STATUS_HANDOVER | FLS_STATUS_ERR | FLS_XIP_FLA_EN | FLS_XIP_FLB_EN
  | FLS_BOOT_SRC | FLS_BOOT_STATE | FLS_BOOT_TRIES | FLS_BOOT_FELL_BACK | FLS_BOOT_WAIT_HOST | FLS_BOOT_CAUSE
  | FLS_BOOT_FW_ROLLBACK | FLS_FW_VER_VERSION | FLS_HOSTLOAD_FW_LEN | FLS_HOSTLOAD_MASH_LEN | FLS_HANDOVER_COUNT
  | FLS_HANDOVER_HANDBACKS | FLS_HANDOVER_LAST_MS | CASK_STATUS_STATE | CASK_STATUS_DEFERRED | CASK_SCHEMA_CUR
  | CASK_SCHEMA_PINNED | CASK_WEAR_MAX_ERASE | CASK_WEAR_FREE | USB_STATUS_VBUS | USB_STATUS_HS
  | USB_STATUS_CONFIGURED | USB_STATUS_SUSPENDED | USB_STATUS_ADDRESS | USB_CTRL_EN | USB_CTRL_SVC_WRITE | USB_ID_VID
  | USB_ID_PID | USB_COUNTS_ABANDONED | USB_COUNTS_STALLS | USB_COUNTS_EVT_LOST | USB_COUNTS_CLR | VP_STATUS_RUNNING
  | VP_STATUS_PENDING | VP_STATUS_EXTENDED | VP_STATUS_CMD_ERR | VP_STATUS_ERR | VP_CTRL_EN | VP_CTRL_MODE
  | VP_CTRL_FORMAT | VP_CTRL_COMMIT | VP_CTRL_REFRESH | VP_CTRL_STATIC_FRAMES | VP_FB_BASE_ADDR | VP_FB_STRIDE_BYTES
  | VP_H_TIMING_HACTIVE | VP_H_TIMING_HFP | VP_H_TIMING_HSYNC | VP_H_TIMING_HBP | VP_V_TIMING_VACTIVE
  | VP_V_TIMING_VFP | VP_V_TIMING_VSYNC | VP_V_TIMING_VBP | VP_VFP_MAX_LINES | VP_LINK_PCLK | VP_LINK_LANES
  | VP_LINK_TE_POL | VP_LINK_LANE_MBPS_10 | VP_CMD_CTRL_DT | VP_CMD_CTRL_LEN | VP_CMD_CTRL_SEND | VP_CMD_CTRL_BUSY
  | VP_CMD_DATA_BYTES | VP_COUNTS_UNDERRUN | VP_COUNTS_NO_TE | VP_COUNTS_COMMITS | VP_COUNTS_CLR | TIME_NS_B_STAMP
  | TIME_SEC_LO_B_SEC | TIME_SEC_HI_B_SEC | TIME_NSF_B_NS
  deriving DecidableEq, Repr

/-- A register's place: block, offset of index 0, stride, count, width in bits, power domain, reset domain. -/
structure RegDesc where
  block  : Block
  off    : Nat
  stride : Nat
  count  : Nat
  width  : Nat
  pwr    : Dom
  rst    : Dom
  deriving DecidableEq, Repr

/-- A field's place in its register, its access code, its reset value and what it survives. -/
structure FldDesc where
  reg    : Reg
  lo     : Nat
  width  : Nat
  access : Access
  reset  : Nat
  keep   : Keep
  deriving DecidableEq, Repr

/-- The register tables of spec/, one row each. -/
def Reg.desc : Reg → RegDesc
  | .RST_CAUSE => ⟨.rcp, 0x0, 0, 1, 32, .aon, .aonPor⟩
  | .RST_CAUSE_INFO => ⟨.rcp, 0x4, 0, 1, 32, .aon, .aonPor⟩
  | .RST_STATUS => ⟨.rcp, 0x8, 0, 1, 32, .aon, .aon⟩
  | .RST_STRAPS => ⟨.rcp, 0xC, 0, 1, 32, .aon, .aon⟩
  | .RST_CTRL => ⟨.rcp, 0x10, 0, 1, 32, .aon, .aon⟩
  | .CLK_STATUS => ⟨.rcp, 0x100, 0, 1, 32, .aon, .aon⟩
  | .PWR_REQ => ⟨.rcp, 0x200, 4, 5, 32, .aon, .aon⟩
  | .PWR_STATE => ⟨.rcp, 0x220, 4, 5, 32, .aon, .aon⟩
  | .PWR_ERR => ⟨.rcp, 0x240, 4, 5, 32, .aon, .aon⟩
  | .PWR_PSTATE => ⟨.rcp, 0x260, 0, 1, 32, .aon, .aon⟩
  | .GRS_MAGIC => ⟨.grist, 0x0, 0, 1, 32, (.pd 131), (.pd 131)⟩
  | .GRS_FORMAT => ⟨.grist, 0x4, 0, 1, 32, (.pd 131), (.pd 131)⟩
  | .GRS_GEN => ⟨.grist, 0x8, 0, 1, 32, (.pd 131), (.pd 131)⟩
  | .GRS_DEVICE => ⟨.grist, 0xC, 0, 1, 32, (.pd 131), (.pd 131)⟩
  | .GRS_IMAGE_ID => ⟨.grist, 0x10, 0, 1, 64, (.pd 131), (.pd 131)⟩
  | .GRS_TABLE_OFFSET => ⟨.grist, 0x18, 0, 1, 32, (.pd 131), (.pd 131)⟩
  | .GRS_TABLE_COUNT => ⟨.grist, 0x1C, 0, 1, 32, (.pd 131), (.pd 131)⟩
  | .GRS_TABLE_CRC => ⟨.grist, 0x20, 0, 1, 32, (.pd 131), (.pd 131)⟩
  | .GRS_NOTIFY => ⟨.grist, 0x24, 0, 1, 32, (.pd 131), (.pd 131)⟩
  | .GRS_STALE => ⟨.grist, 0x28, 0, 1, 32, (.pd 131), (.pd 131)⟩
  | .GRS_CAUSE => ⟨.grist, 0x2C, 0, 1, 32, (.pd 131), (.pd 131)⟩
  | .MASH_STATUS => ⟨.mash, 0x0, 0, 1, 32, (.pd 130), (.pd 130)⟩
  | .MASH_ERR => ⟨.mash, 0x4, 0, 1, 32, (.pd 130), (.pd 130)⟩
  | .MASH_ROLLBACK => ⟨.mash, 0x8, 0, 1, 32, (.pd 130), (.pd 130)⟩
  | .MASH_OEM => ⟨.mash, 0xC, 0, 1, 32, (.pd 130), (.pd 130)⟩
  | .MASH_IMAGE_VER => ⟨.mash, 0x10, 0, 1, 32, (.pd 131), (.pd 131)⟩
  | .MASH_PATCHES => ⟨.mash, 0x14, 0, 1, 32, (.pd 131), (.pd 131)⟩
  | .MASH_COMPOSITE => ⟨.mash, 0x18, 0, 1, 64, (.pd 131), (.pd 131)⟩
  | .QM_CTRL => ⟨.qm, 0x0, 0, 1, 32, (.pd 131), (.pd 131)⟩
  | .QM_STATUS => ⟨.qm, 0x4, 0, 1, 32, (.pd 131), (.pd 131)⟩
  | .QM_ASQ_BASE => ⟨.qm, 0x8, 0, 1, 64, (.pd 131), (.pd 131)⟩
  | .QM_ACQ_BASE => ⟨.qm, 0x10, 0, 1, 64, (.pd 131), (.pd 131)⟩
  | .QM_ADMIN_DEPTH => ⟨.qm, 0x18, 0, 1, 32, (.pd 131), (.pd 131)⟩
  | .QM_OPTAB => ⟨.qm, 0x1C, 0, 1, 32, (.pd 131), (.pd 131)⟩
  | .QM_DB_ERR => ⟨.qm, 0x20, 0, 1, 32, (.pd 131), (.pd 131)⟩
  | .QM_OVF_LAST => ⟨.qm, 0x24, 0, 1, 32, (.pd 131), (.pd 131)⟩
  | .QM_BAR4_BASE => ⟨.qm, 0x28, 0, 1, 64, (.pd 131), (.pd 131)⟩
  | .QM_FLR_DROPPED => ⟨.qm, 0x30, 0, 1, 32, (.pd 131), (.pd 131)⟩
  | .UB_LEAD => ⟨.underback, 0x0, 0, 1, 32, (.per 0 1), (.per 0 1)⟩
  | .UB_TAIL => ⟨.underback, 0x4, 0, 1, 32, (.per 0 1), (.per 0 1)⟩
  | .UB_WATER => ⟨.underback, 0x8, 0, 1, 32, (.per 0 1), (.per 0 1)⟩
  | .UB_HIGH => ⟨.underback, 0x14, 0, 1, 32, (.per 0 1), (.per 0 1)⟩
  | .UB_LEVEL => ⟨.underback, 0xC, 0, 1, 32, (.per 0 1), (.per 0 1)⟩
  | .UB_LATE_COUNT => ⟨.underback, 0x10, 0, 1, 32, (.per 0 1), (.per 0 1)⟩
  | .GB_LEVEL => ⟨.grantBuf, 0x0, 0, 1, 32, (.per 0 1), (.per 0 1)⟩
  | .JSA_MAPPED => ⟨.jsa, 0x0, 0, 1, 32, (.pd 131), (.pd 131)⟩
  | .INT_ARCH_STATUS => ⟨.intake, 0x0, 0, 1, 32, (.pd 131), (.pd 131)⟩
  | .INT_ARCH_DROPPED => ⟨.intake, 0x4, 0, 1, 32, (.pd 131), (.pd 131)⟩
  | .INT_FAULT_LOG => ⟨.intake, 0x8, 0, 1, 32, (.pd 131), (.pd 131)⟩
  | .CDC_STATUS => ⟨.codec, 0x0, 0, 1, 32, (.per 118 1), (.per 118 1)⟩
  | .CDC_ENC_CTRL => ⟨.codec, 0x4, 0, 1, 32, (.per 118 1), (.per 118 1)⟩
  | .CDC_BLOCKS => ⟨.codec, 0x8, 0, 1, 32, (.per 118 1), (.per 118 1)⟩
  | .CDC_FAIL => ⟨.codec, 0xC, 0, 1, 32, (.per 118 1), (.per 118 1)⟩
  | .TUN_STATUS => ⟨.tun, 0x0, 0, 1, 32, (.per 0 1), (.per 0 1)⟩
  | .TUN_LINE => ⟨.tun, 0x8, 0, 1, 64, (.per 0 1), (.per 0 1)⟩
  | .TUN_FAULT => ⟨.tun, 0x10, 0, 1, 32, (.per 0 1), (.per 0 1)⟩
  | .TUN_FAULT_LINE => ⟨.tun, 0x18, 0, 1, 64, (.per 0 1), (.per 0 1)⟩
  | .TUN_ECC => ⟨.tun, 0x20, 0, 1, 32, (.per 0 1), (.per 0 1)⟩
  | .TUN_LIMIT => ⟨.tun, 0x28, 0, 1, 32, (.per 0 1), (.per 0 1)⟩
  | .TUN_PAUSE => ⟨.tun, 0x2C, 0, 1, 32, (.per 0 1), (.per 0 1)⟩
  | .TUN_PROG_ID => ⟨.tun, 0x30, 0, 1, 64, (.per 0 1), (.per 0 1)⟩
  | .TUN_SLICE_MAX => ⟨.tun, 0x40, 4, 16, 32, (.per 0 1), (.per 0 1)⟩
  | .SCR_GEN => ⟨.screen, 0x0, 0, 1, 32, (.per 0 1), (.per 0 1)⟩
  | .SCR_SWITCH => ⟨.screen, 0x8, 0, 1, 64, (.per 0 1), (.per 0 1)⟩
  | .SCR_STATUS => ⟨.screen, 0x10, 0, 1, 32, (.per 0 1), (.per 0 1)⟩
  | .SCR_OUT => ⟨.screen, 0x14, 0, 1, 32, (.per 0 1), (.per 0 1)⟩
  | .SCR_BRIDGE_CTRL => ⟨.screen, 0x18, 0, 1, 32, (.per 0 1), (.per 0 1)⟩
  | .SCR_BRIDGE_LOST => ⟨.screen, 0x1C, 0, 1, 32, (.per 0 1), (.per 0 1)⟩
  | .SCR_CLIP => ⟨.screen, 0x20, 0, 1, 32, (.per 0 1), (.per 0 1)⟩
  | .SCR_BRIDGE_SET => ⟨.screen, 0x100, 4, 80, 32, (.per 0 1), (.per 0 1)⟩
  | .SCR_BRIDGE_CLR => ⟨.screen, 0x300, 4, 80, 32, (.per 0 1), (.per 0 1)⟩
  | .FIRE_STATUS => ⟨.sequencer, 0x0, 0, 1, 32, (.pd 124), (.pd 124)⟩
  | .FIRE_TIMING => ⟨.sequencer, 0x4, 0, 1, 32, (.pd 124), (.pd 124)⟩
  | .FIRE_SCHED => ⟨.sequencer, 0x8, 0, 1, 32, (.pd 124), (.pd 124)⟩
  | .FIRE_RATE => ⟨.sequencer, 0xC, 0, 1, 32, (.pd 124), (.pd 124)⟩
  | .FIRE_PMIN => ⟨.sequencer, 0x10, 0, 1, 32, (.pd 124), (.pd 124)⟩
  | .FIRE_MINPULSE => ⟨.sequencer, 0x14, 0, 1, 32, (.pd 124), (.pd 124)⟩
  | .FIRE_LINE => ⟨.sequencer, 0x18, 0, 1, 64, (.pd 124), (.pd 124)⟩
  | .FIRE_APPLY_LINE => ⟨.sequencer, 0x20, 0, 1, 64, (.pd 124), (.pd 124)⟩
  | .FIRE_DROPPED => ⟨.sequencer, 0x28, 0, 1, 32, (.pd 124), (.pd 124)⟩
  | .FIRE_MISSED => ⟨.sequencer, 0x2C, 0, 1, 32, (.pd 124), (.pd 124)⟩
  | .FIRE_VOTE => ⟨.sequencer, 0x30, 0, 1, 32, (.pd 124), (.pd 124)⟩
  | .FIRE_TRIG => ⟨.sequencer, 0x34, 0, 1, 32, (.pd 124), (.pd 124)⟩
  | .FIRE_FLIGHT => ⟨.sequencer, 0x38, 0, 1, 32, (.pd 124), (.pd 124)⟩
  | .FIRE_CH_STATUS => ⟨.headPort, 0x0, 0, 1, 32, (.per 0 1), (.per 0 1)⟩
  | .FIRE_CH_TRIM => ⟨.headPort, 0x4, 0, 1, 32, (.per 0 1), (.per 0 1)⟩
  | .FIRE_CH_GEOM => ⟨.headPort, 0x8, 0, 1, 32, (.per 0 1), (.per 0 1)⟩
  | .FIRE_CH_FLIGHT => ⟨.headPort, 0xC, 0, 1, 32, (.per 0 1), (.per 0 1)⟩
  | .FIRE_CH_LINES => ⟨.headPort, 0x10, 0, 1, 64, (.per 0 1), (.per 0 1)⟩
  | .FIRE_CH_DROPPED => ⟨.headPort, 0x18, 0, 1, 32, (.per 0 1), (.per 0 1)⟩
  | .KILN_STATUS => ⟨.kiln, 0x0, 0, 1, 32, .aon, .aon⟩
  | .KILN_SEAL_KEY => ⟨.kiln, 0x8, 0, 1, 64, .aon, .aon⟩
  | .KILN_DIGEST => ⟨.kiln, 0x10, 0, 1, 64, .aon, .aon⟩
  | .KILN_HPWR_REQ => ⟨.kiln, 0x20, 4, 2, 32, .aon, .aon⟩
  | .KILN_HPWR_ON => ⟨.kiln, 0x28, 4, 2, 32, .aon, .aon⟩
  | .KILN_CLIP_LINES => ⟨.kiln, 0x30, 0, 1, 32, .aon, .aon⟩
  | .KILN_CLIP_STROBES => ⟨.kiln, 0x38, 0, 1, 64, .aon, .aon⟩
  | .KILN_CLIP_LAST => ⟨.kiln, 0x40, 0, 1, 32, .aon, .aon⟩
  | .KILN_UNSEALED => ⟨.kiln, 0x44, 0, 1, 32, .aon, .aon⟩
  | .KILN_ALARM => ⟨.kiln, 0x48, 0, 1, 32, .aon, .aon⟩
  | .KILN_ALARM_VEC => ⟨.kiln, 0x4C, 0, 1, 32, .aon, .aon⟩
  | .KILN_CH_CLIP => ⟨.kiln, 0x100, 4, 64, 32, .aon, .aon⟩
  | .MOT_STATUS => ⟨.motion, 0x0, 0, 1, 32, (.pd 124), (.pd 124)⟩
  | .MOT_POS => ⟨.motion, 0x20, 8, 4, 64, (.pd 124), (.pd 124)⟩
  | .MOT_SPEED => ⟨.motion, 0x40, 4, 4, 32, (.pd 124), (.pd 124)⟩
  | .MOT_STOPDIST => ⟨.motion, 0x50, 0, 1, 32, (.pd 124), (.pd 124)⟩
  | .MOT_BS_COUNT => ⟨.motion, 0x60, 0, 1, 32, (.pd 124), (.pd 124)⟩
  | .MOT_BS_DIST => ⟨.motion, 0x64, 0, 1, 32, (.pd 124), (.pd 124)⟩
  | .MOT_BS_RESUME => ⟨.motion, 0x68, 0, 1, 64, (.pd 124), (.pd 124)⟩
  | .MOT_BS_ERR => ⟨.motion, 0x70, 0, 1, 32, (.pd 124), (.pd 124)⟩
  | .MOT_GAP => ⟨.motion, 0x74, 0, 1, 32, (.pd 124), (.pd 124)⟩
  | .MOT_INPUTS => ⟨.motion, 0x78, 0, 1, 32, (.pd 124), (.pd 124)⟩
  | .MOT_SPLICE_LINE => ⟨.motion, 0x80, 0, 1, 64, (.pd 124), (.pd 124)⟩
  | .MOT_REFUSED => ⟨.motion, 0x88, 0, 1, 32, (.pd 124), (.pd 124)⟩
  | .MOT_HARD_LINES => ⟨.motion, 0x8C, 0, 1, 32, (.pd 124), (.pd 124)⟩
  | .ENC_STATUS => ⟨.encoders, 0x0, 0, 1, 32, (.pd 124), (.pd 124)⟩
  | .ENC_EVENT => ⟨.encoders, 0x4, 0, 1, 32, (.pd 124), (.pd 124)⟩
  | .ENC_IRQ => ⟨.encoders, 0x8, 0, 1, 32, (.pd 124), (.pd 124)⟩
  | .ENC_DR => ⟨.encoders, 0x10, 0, 1, 32, (.pd 124), (.pd 124)⟩
  | .ENC_SLIP => ⟨.encoders, 0x14, 0, 1, 32, (.pd 124), (.pd 124)⟩
  | .ENC_REBASE => ⟨.encoders, 0x18, 0, 1, 32, (.pd 124), (.pd 124)⟩
  | .ENC_UNCMD => ⟨.encoders, 0x1C, 0, 1, 32, (.pd 124), (.pd 124)⟩
  | .ENC_POS => ⟨.encoders, 0x40, 32, 4, 64, (.pd 124), (.pd 124)⟩
  | .ENC_SPEED => ⟨.encoders, 0x48, 32, 4, 32, (.pd 124), (.pd 124)⟩
  | .ENC_AMP => ⟨.encoders, 0x4C, 32, 4, 32, (.pd 124), (.pd 124)⟩
  | .ENC_FAULT => ⟨.encoders, 0x50, 32, 4, 32, (.pd 124), (.pd 124)⟩
  | .CAM_STATUS => ⟨.camera, 0x0, 0, 1, 32, (.per 106 1), (.per 106 1)⟩
  | .CAM_FRAME => ⟨.camera, 0x8, 0, 1, 64, (.per 106 1), (.per 106 1)⟩
  | .CAM_LOST => ⟨.camera, 0x10, 0, 1, 32, (.per 106 1), (.per 106 1)⟩
  | .CAM_PHY_ERR => ⟨.camera, 0x14, 0, 1, 32, (.per 106 1), (.per 106 1)⟩
  | .CAM_STALE => ⟨.camera, 0x18, 0, 1, 32, (.per 106 1), (.per 106 1)⟩
  | .ISP_STATUS => ⟨.isp, 0x0, 0, 1, 32, (.per 114 1), (.per 114 1)⟩
  | .ISP_RECAL => ⟨.isp, 0x4, 0, 1, 32, (.per 114 1), (.per 114 1)⟩
  | .ISP_SHADOW_CTRL => ⟨.isp, 0x8, 0, 1, 32, (.per 114 1), (.per 114 1)⟩
  | .ISP_BLACK => ⟨.isp, 0x10, 4, 6, 32, (.per 114 1), (.per 114 1)⟩
  | .GRAV_STATUS => ⟨.gravity, 0x0, 0, 1, 32, (.pd 122), (.pd 122)⟩
  | .GRAV_TBL_ADDR => ⟨.gravity, 0x8, 0, 1, 64, (.pd 122), (.pd 122)⟩
  | .GRAV_FOREIGN => ⟨.gravity, 0x10, 0, 1, 32, (.pd 122), (.pd 122)⟩
  | .GRAV_LAST_OUT => ⟨.gravity, 0x18, 0, 1, 64, (.pd 122), (.pd 122)⟩
  | .GRAV_EVT_VEC => ⟨.gravity, 0x20, 0, 1, 32, (.pd 122), (.pd 122)⟩
  | .GRAV_CH_STATUS => ⟨.gravity, 0x400, 16, 64, 32, (.pd 122), (.pd 122)⟩
  | .GRAV_CH_QUAL => ⟨.gravity, 0x404, 16, 64, 32, (.pd 122), (.pd 122)⟩
  | .GRAV_CH_COUNT => ⟨.gravity, 0x408, 16, 64, 32, (.pd 122), (.pd 122)⟩
  | .GRAV_CH_CTRL => ⟨.gravity, 0x40C, 16, 64, 32, (.pd 122), (.pd 122)⟩
  | .SG_STATUS => ⟨.sightGlass, 0x0, 0, 1, 32, (.pd 123), (.pd 123)⟩
  | .SG_CTRL => ⟨.sightGlass, 0x4, 0, 1, 32, (.pd 123), (.pd 123)⟩
  | .SG_BUS => ⟨.sightGlass, 0x8, 0, 1, 32, (.pd 123), (.pd 123)⟩
  | .SG_LAST_VIOL => ⟨.sightGlass, 0xC, 0, 1, 32, (.pd 123), (.pd 123)⟩
  | .SG_VIOL => ⟨.sightGlass, 0x100, 4, 64, 32, (.pd 123), (.pd 123)⟩
  | .TIME_NS => ⟨.time, 0x0, 0, 1, 32, .aon, .aonPor⟩
  | .TIME_SEC_LO => ⟨.time, 0x4, 0, 1, 32, .aon, .aonPor⟩
  | .TIME_SEC_HI => ⟨.time, 0x8, 0, 1, 32, .aon, .aonPor⟩
  | .TIME_NSF => ⟨.time, 0xC, 0, 1, 32, .aon, .aonPor⟩
  | .TIME_SET_NS => ⟨.time, 0x10, 0, 1, 32, .aon, .aonPor⟩
  | .TIME_SET_SEC_LO => ⟨.time, 0x14, 0, 1, 32, .aon, .aonPor⟩
  | .TIME_SET_SEC_HI => ⟨.time, 0x18, 0, 1, 32, .aon, .aonPor⟩
  | .TIME_CMD => ⟨.time, 0x1C, 0, 1, 32, .aon, .aonPor⟩
  | .TIME_ADJ => ⟨.time, 0x20, 0, 1, 32, .aon, .aonPor⟩
  | .TIME_INCR => ⟨.time, 0x28, 0, 1, 64, .aon, .aonPor⟩
  | .TIME_STATUS => ⟨.time, 0x30, 0, 1, 32, .aon, .aonPor⟩
  | .ETH_STATUS => ⟨.ethernet, 0x0, 0, 1, 32, (.pd 125), (.pd 125)⟩
  | .ETH_ASYM => ⟨.ethernet, 0x4, 0, 1, 32, (.pd 125), (.pd 125)⟩
  | .ETH_TXTS_STATUS => ⟨.ethernet, 0x8, 0, 1, 32, (.pd 125), (.pd 125)⟩
  | .ETH_TXTS_LOST => ⟨.ethernet, 0xC, 0, 1, 32, (.pd 125), (.pd 125)⟩
  | .ETH_TXTS_ENTRY0 => ⟨.ethernet, 0x10, 0, 1, 32, (.pd 125), (.pd 125)⟩
  | .ETH_TXTS_ENTRY1 => ⟨.ethernet, 0x14, 0, 1, 32, (.pd 125), (.pd 125)⟩
  | .ETH_TXTS_ENTRY2 => ⟨.ethernet, 0x18, 0, 1, 32, (.pd 125), (.pd 125)⟩
  | .ETH_TXTS_ENTRY3 => ⟨.ethernet, 0x1C, 0, 1, 32, (.pd 125), (.pd 125)⟩
  | .WL_PORT_STATUS => ⟨.wortPort, 0x0, 0, 1, 32, (.per 72 9), (.per 72 9)⟩
  | .WL_PORT_CTRL => ⟨.wortPort, 0x4, 0, 1, 32, (.per 72 9), (.per 72 9)⟩
  | .WL_PEER => ⟨.wortPort, 0x8, 0, 1, 64, (.per 72 9), (.per 72 9)⟩
  | .WL_PORT_ERR => ⟨.wortPort, 0x10, 0, 1, 32, (.per 72 9), (.per 72 9)⟩
  | .WL_VC_CREDIT => ⟨.wortPort, 0x20, 4, 4, 32, (.per 72 9), (.per 72 9)⟩
  | .WL_LANE_STATUS => ⟨.wortLane, 0x0, 0, 1, 32, (.per 64 1), (.per 64 1)⟩
  | .WL_LANE_EYE => ⟨.wortLane, 0x4, 0, 1, 32, (.per 64 1), (.per 64 1)⟩
  | .WL_LANE_FEC => ⟨.wortLane, 0x8, 0, 1, 32, (.per 64 1), (.per 64 1)⟩
  | .WL_LANE_RETRAINS => ⟨.wortLane, 0xC, 0, 1, 32, (.per 64 1), (.per 64 1)⟩
  | .BAR_STATUS => ⟨.hierarchy, 0x0, 0, 1, 32, (.pd 130), (.pd 130)⟩
  | .BAR_SELF_ID => ⟨.hierarchy, 0x8, 0, 1, 64, (.pd 130), (.pd 130)⟩
  | .BAR_UNBOUND => ⟨.hierarchy, 0x10, 0, 1, 64, (.pd 130), (.pd 130)⟩
  | .BAR_HOLD => ⟨.hierarchy, 0x18, 0, 1, 32, (.pd 130), (.pd 130)⟩
  | .BAR_TIME_OFS => ⟨.hierarchy, 0x20, 0, 1, 32, (.pd 130), (.pd 130)⟩
  | .BAR_RESYNC => ⟨.hierarchy, 0x24, 0, 1, 32, (.pd 130), (.pd 130)⟩
  | .BAR_COV_VEC => ⟨.hierarchy, 0x28, 0, 1, 32, (.pd 130), (.pd 130)⟩
  | .BAR_COV_EVENTS => ⟨.hierarchy, 0x2C, 0, 1, 32, (.pd 130), (.pd 130)⟩
  | .BAR_COV_MAP => ⟨.hierarchy, 0x1000, 8, 512, 64, (.pd 130), (.pd 130)⟩
  | .BAR_COV_CAUSE => ⟨.hierarchy, 0x2000, 4, 512, 32, (.pd 130), (.pd 130)⟩
  | .TRIO_STATUS => ⟨.trio, 0x0, 0, 1, 32, (.pd 127), (.pd 127)⟩
  | .TRIO_CFG => ⟨.trio, 0x4, 0, 1, 32, (.pd 127), (.pd 127)⟩
  | .TRIO_AGREE => ⟨.trio, 0x8, 0, 1, 32, (.pd 127), (.pd 127)⟩
  | .TRIO_HANDOVER => ⟨.trio, 0x10, 0, 1, 64, (.pd 127), (.pd 127)⟩
  | .TRIO_EVENTS => ⟨.trio, 0x18, 0, 1, 32, (.pd 127), (.pd 127)⟩
  | .TRIO_LAST => ⟨.trio, 0x1C, 0, 1, 32, (.pd 127), (.pd 127)⟩
  | .TRIO_COMP => ⟨.trio, 0x20, 4, 3, 32, (.pd 127), (.pd 127)⟩
  | .TRIO_EVT_VEC => ⟨.trio, 0x30, 0, 1, 32, (.pd 127), (.pd 127)⟩
  | .DDR_STATUS => ⟨.ddr, 0x0, 0, 1, 32, (.per 100 1), (.per 100 1)⟩
  | .DDR_GEOM => ⟨.ddr, 0x4, 0, 1, 32, (.per 100 1), (.per 100 1)⟩
  | .DDR_ECC => ⟨.ddr, 0x8, 0, 1, 32, (.per 100 1), (.per 100 1)⟩
  | .DDR_ECC_ADDR => ⟨.ddr, 0x10, 0, 1, 64, (.per 100 1), (.per 100 1)⟩
  | .DDR_ALERT => ⟨.ddr, 0x18, 0, 1, 32, (.per 100 1), (.per 100 1)⟩
  | .DDR_EVAC => ⟨.ddr, 0x1C, 0, 1, 32, (.per 100 1), (.per 100 1)⟩
  | .FENCE_MAP => ⟨.fence, 0x0, 8, 10, 64, .aon, .aon⟩
  | .FENCE_LAST => ⟨.fence, 0x80, 0, 1, 32, .aon, .aon⟩
  | .FENCE_EVT_VEC => ⟨.fence, 0x84, 0, 1, 32, .aon, .aon⟩
  | .TEL_STATUS => ⟨.telemetry, 0x0, 0, 1, 32, (.pd 130), (.pd 130)⟩
  | .TEL_TWARN => ⟨.telemetry, 0x4, 0, 1, 32, (.pd 130), (.pd 130)⟩
  | .TEL_EVT_VEC => ⟨.telemetry, 0x8, 0, 1, 32, (.pd 130), (.pd 130)⟩
  | .TEL_SCRUB => ⟨.telemetry, 0xC, 0, 1, 32, (.pd 130), (.pd 130)⟩
  | .TEL_LIFE_WARN => ⟨.telemetry, 0x10, 0, 1, 64, (.pd 130), (.pd 130)⟩
  | .TEL_TEMP => ⟨.telemetry, 0x100, 4, 40, 32, (.pd 130), (.pd 130)⟩
  | .SPG_CTRL => ⟨.sparge, 0x0, 0, 1, 32, (.per 100 1), (.per 100 1)⟩
  | .SPG_STATUS => ⟨.sparge, 0x4, 0, 1, 32, (.per 100 1), (.per 100 1)⟩
  | .SPG_FOUND => ⟨.sparge, 0x8, 0, 1, 32, (.per 100 1), (.per 100 1)⟩
  | .FLS_STATUS => ⟨.flash, 0x0, 0, 1, 32, (.pd 130), (.pd 130)⟩
  | .FLS_XIP => ⟨.flash, 0x4, 0, 1, 32, (.pd 130), (.pd 130)⟩
  | .FLS_BOOT => ⟨.flash, 0x8, 0, 1, 32, (.pd 130), .aon⟩
  | .FLS_FW_VER => ⟨.flash, 0xC, 0, 1, 32, (.pd 130), (.pd 130)⟩
  | .FLS_HOSTLOAD => ⟨.flash, 0x10, 0, 1, 64, (.pd 130), (.pd 130)⟩
  | .FLS_HANDOVER => ⟨.flash, 0x18, 0, 1, 32, (.pd 130), (.pd 130)⟩
  | .CASK_STATUS => ⟨.cask, 0x0, 0, 1, 32, (.pd 130), (.pd 130)⟩
  | .CASK_SCHEMA => ⟨.cask, 0x4, 0, 1, 32, (.pd 130), (.pd 130)⟩
  | .CASK_WEAR => ⟨.cask, 0x8, 0, 1, 32, (.pd 130), (.pd 130)⟩
  | .USB_STATUS => ⟨.usb, 0x0, 0, 1, 32, (.pd 129), (.pd 129)⟩
  | .USB_CTRL => ⟨.usb, 0x4, 0, 1, 32, (.pd 129), (.pd 129)⟩
  | .USB_ID => ⟨.usb, 0x8, 0, 1, 32, (.pd 129), (.pd 129)⟩
  | .USB_COUNTS => ⟨.usb, 0xC, 0, 1, 32, (.pd 129), (.pd 129)⟩
  | .VP_STATUS => ⟨.viewport, 0x0, 0, 1, 32, (.pd 128), (.pd 128)⟩
  | .VP_CTRL => ⟨.viewport, 0x4, 0, 1, 32, (.pd 128), (.pd 128)⟩
  | .VP_FB_BASE => ⟨.viewport, 0x8, 0, 1, 64, (.pd 128), (.pd 128)⟩
  | .VP_FB_STRIDE => ⟨.viewport, 0x10, 0, 1, 32, (.pd 128), (.pd 128)⟩
  | .VP_H_TIMING => ⟨.viewport, 0x14, 0, 1, 32, (.pd 128), (.pd 128)⟩
  | .VP_V_TIMING => ⟨.viewport, 0x18, 0, 1, 32, (.pd 128), (.pd 128)⟩
  | .VP_VFP_MAX => ⟨.viewport, 0x1C, 0, 1, 32, (.pd 128), (.pd 128)⟩
  | .VP_LINK => ⟨.viewport, 0x20, 0, 1, 32, (.pd 128), (.pd 128)⟩
  | .VP_CMD_CTRL => ⟨.viewport, 0x24, 0, 1, 32, (.pd 128), (.pd 128)⟩
  | .VP_CMD_DATA => ⟨.viewport, 0x28, 4, 4, 32, (.pd 128), (.pd 128)⟩
  | .VP_COUNTS => ⟨.viewport, 0x38, 0, 1, 32, (.pd 128), (.pd 128)⟩
  | .TIME_NS_B => ⟨.time, 0x40, 0, 1, 32, .aon, .aonPor⟩
  | .TIME_SEC_LO_B => ⟨.time, 0x44, 0, 1, 32, .aon, .aonPor⟩
  | .TIME_SEC_HI_B => ⟨.time, 0x48, 0, 1, 32, .aon, .aonPor⟩
  | .TIME_NSF_B => ⟨.time, 0x4C, 0, 1, 32, .aon, .aonPor⟩

/-- The field tables of spec/, one row each. -/
def Fld.desc : Fld → FldDesc
  | .RST_CAUSE_POR => ⟨.RST_CAUSE, 0, 1, .w1c, 1, .dom⟩
  | .RST_CAUSE_PIN => ⟨.RST_CAUSE, 1, 1, .w1c, 0, .dom⟩
  | .RST_CAUSE_WDOG => ⟨.RST_CAUSE, 2, 1, .w1c, 0, .dom⟩
  | .RST_CAUSE_SW => ⟨.RST_CAUSE, 3, 1, .w1c, 0, .dom⟩
  | .RST_CAUSE_WORT => ⟨.RST_CAUSE, 4, 1, .w1c, 0, .dom⟩
  | .RST_CAUSE_THERM => ⟨.RST_CAUSE, 5, 1, .w1c, 0, .dom⟩
  | .RST_CAUSE_CRIT_FIRE => ⟨.RST_CAUSE, 6, 1, .w1c, 0, .dom⟩
  | .RST_CAUSE_CRIT_KILN => ⟨.RST_CAUSE, 7, 1, .w1c, 0, .dom⟩
  | .RST_CAUSE_CRIT_TRIO => ⟨.RST_CAUSE, 8, 1, .w1c, 0, .dom⟩
  | .RST_CAUSE_CRIT_QM => ⟨.RST_CAUSE, 9, 1, .w1c, 0, .dom⟩
  | .RST_CAUSE_INFO_WORT_PORT => ⟨.RST_CAUSE_INFO, 0, 2, .ro, 0, .dom⟩
  | .RST_CAUSE_INFO_THERM_SENSOR => ⟨.RST_CAUSE_INFO, 8, 6, .ro, 0, .dom⟩
  | .RST_CAUSE_INFO_CRIT_DBE => ⟨.RST_CAUSE_INFO, 16, 1, .ro, 0, .dom⟩
  | .RST_STATUS_STEP => ⟨.RST_STATUS, 0, 5, .ro, 0, .dom⟩
  | .RST_STATUS_DONE => ⟨.RST_STATUS, 8, 1, .ro, 0, .dom⟩
  | .RST_STATUS_PLL_WAIT => ⟨.RST_STATUS, 9, 1, .ro, 0, .dom⟩
  | .RST_STATUS_CLK_ABSENT => ⟨.RST_STATUS, 10, 1, .ro, 0, .dom⟩
  | .RST_STATUS_THERM_HOLD => ⟨.RST_STATUS, 11, 1, .ro, 0, .dom⟩
  | .RST_STRAPS_BOOT_SRC => ⟨.RST_STRAPS, 0, 2, .ro, 3, .strap⟩
  | .RST_STRAPS_CLK_MODE => ⟨.RST_STRAPS, 2, 2, .ro, 3, .strap⟩
  | .RST_STRAPS_ROLE => ⟨.RST_STRAPS, 4, 2, .ro, 3, .strap⟩
  | .RST_CTRL_SW_RESET => ⟨.RST_CTRL, 0, 1, .wo, 0, .dom⟩
  | .RST_CTRL_WDOG_OK => ⟨.RST_CTRL, 1, 1, .wo, 0, .dom⟩
  | .RST_CTRL_KEY => ⟨.RST_CTRL, 8, 8, .wo, 0, .dom⟩
  | .CLK_STATUS_CORE_LOCK => ⟨.CLK_STATUS, 0, 1, .ro, 0, .dom⟩
  | .CLK_STATUS_SRC => ⟨.CLK_STATUS, 4, 2, .ro, 3, .strap⟩
  | .CLK_STATUS_LOL => ⟨.CLK_STATUS, 8, 1, .w1c, 0, .sticky⟩
  | .PWR_REQ_ON => ⟨.PWR_REQ, 0, 32, .rw, 0xffffffff, .dom⟩
  | .PWR_STATE_ON => ⟨.PWR_STATE, 0, 32, .ro, 0, .dom⟩
  | .PWR_ERR_REFUSED => ⟨.PWR_ERR, 0, 32, .w1c, 0, .dom⟩
  | .PWR_PSTATE_REQ => ⟨.PWR_PSTATE, 0, 2, .rw, 0, .dom⟩
  | .PWR_PSTATE_CUR => ⟨.PWR_PSTATE, 4, 2, .ro, 0, .dom⟩
  | .PWR_PSTATE_BUSY => ⟨.PWR_PSTATE, 8, 1, .ro, 0, .dom⟩
  | .PWR_PSTATE_REFUSED => ⟨.PWR_PSTATE, 9, 1, .w1c, 0, .dom⟩
  | .GRS_MAGIC_MAGIC => ⟨.GRS_MAGIC, 0, 32, .ro, 0x54535247, .dom⟩
  | .GRS_FORMAT_MINOR => ⟨.GRS_FORMAT, 0, 8, .ro, 0, .dom⟩
  | .GRS_FORMAT_MAJOR => ⟨.GRS_FORMAT, 8, 8, .ro, 1, .dom⟩
  | .GRS_FORMAT_HDR_SIZE => ⟨.GRS_FORMAT, 16, 16, .ro, 0x100, .dom⟩
  | .GRS_GEN_GEN => ⟨.GRS_GEN, 0, 32, .ro, 1, .dom⟩
  | .GRS_DEVICE_STEP_LETTER => ⟨.GRS_DEVICE, 0, 8, .ro, 0x41, .dom⟩
  | .GRS_DEVICE_STEP_DIGIT => ⟨.GRS_DEVICE, 8, 8, .ro, 0x31, .dom⟩
  | .GRS_DEVICE_PART => ⟨.GRS_DEVICE, 16, 16, .ro, 0x6440, .dom⟩
  | .GRS_IMAGE_ID_ID => ⟨.GRS_IMAGE_ID, 0, 64, .ro, 0, .dom⟩
  | .GRS_TABLE_OFFSET_OFFSET => ⟨.GRS_TABLE_OFFSET, 0, 32, .ro, 0x2000, .dom⟩
  | .GRS_TABLE_COUNT_COUNT => ⟨.GRS_TABLE_COUNT, 0, 16, .ro, 0x38, .dom⟩
  | .GRS_TABLE_COUNT_ENTRY_SIZE => ⟨.GRS_TABLE_COUNT, 16, 8, .ro, 0x20, .dom⟩
  | .GRS_TABLE_CRC_CRC => ⟨.GRS_TABLE_CRC, 0, 32, .ro, 0, .dom⟩
  | .GRS_NOTIFY_VECTOR => ⟨.GRS_NOTIFY, 0, 11, .rw, 0, .dom⟩
  | .GRS_NOTIFY_EN => ⟨.GRS_NOTIFY, 31, 1, .rw, 0, .dom⟩
  | .GRS_STALE_COUNT => ⟨.GRS_STALE, 0, 16, .ro, 0, .dom⟩
  | .GRS_STALE_CLR => ⟨.GRS_STALE, 31, 1, .sc, 0, .dom⟩
  | .GRS_CAUSE_CAUSE => ⟨.GRS_CAUSE, 0, 4, .ro, 0, .dom⟩
  | .MASH_STATUS_STATE => ⟨.MASH_STATUS, 0, 3, .ro, 0, .dom⟩
  | .MASH_STATUS_STAGED => ⟨.MASH_STATUS, 4, 3, .ro, 0, .dom⟩
  | .MASH_STATUS_WAITING => ⟨.MASH_STATUS, 8, 3, .ro, 0, .dom⟩
  | .MASH_STATUS_FULL_OK => ⟨.MASH_STATUS, 16, 1, .ro, 0, .dom⟩
  | .MASH_ERR_STATUS => ⟨.MASH_ERR, 0, 8, .ro, 0, .dom⟩
  | .MASH_ERR_CHECK => ⟨.MASH_ERR, 8, 4, .ro, 0, .dom⟩
  | .MASH_ERR_SECTION => ⟨.MASH_ERR, 16, 13, .ro, 0, .dom⟩
  | .MASH_ERR_CLR => ⟨.MASH_ERR, 31, 1, .sc, 0, .dom⟩
  | .MASH_ROLLBACK_MIN => ⟨.MASH_ROLLBACK, 0, 6, .ro, 0, .fuse⟩
  | .MASH_ROLLBACK_ROOT_REVOKED => ⟨.MASH_ROLLBACK, 8, 4, .ro, 0, .fuse⟩
  | .MASH_OEM_OEM_ID => ⟨.MASH_OEM, 0, 32, .ro, 0, .fuse⟩
  | .MASH_IMAGE_VER_VERSION => ⟨.MASH_IMAGE_VER, 0, 32, .ro, 0, .dom⟩
  | .MASH_PATCHES_COUNT => ⟨.MASH_PATCHES, 0, 16, .ro, 0, .dom⟩
  | .MASH_COMPOSITE_ID => ⟨.MASH_COMPOSITE, 0, 64, .ro, 0, .dom⟩
  | .QM_CTRL_EN => ⟨.QM_CTRL, 0, 1, .rw, 0, .dom⟩
  | .QM_STATUS_READY => ⟨.QM_STATUS, 0, 1, .ro, 0, .dom⟩
  | .QM_STATUS_OPTAB_FULL => ⟨.QM_STATUS, 1, 1, .ro, 0, .dom⟩
  | .QM_STATUS_ERR => ⟨.QM_STATUS, 8, 8, .ro, 0, .dom⟩
  | .QM_ASQ_BASE_BASE => ⟨.QM_ASQ_BASE, 0, 64, .rw, 0, .dom⟩
  | .QM_ACQ_BASE_BASE => ⟨.QM_ACQ_BASE, 0, 64, .rw, 0, .dom⟩
  | .QM_ADMIN_DEPTH_DEPTH => ⟨.QM_ADMIN_DEPTH, 0, 17, .rw, 0, .dom⟩
  | .QM_OPTAB_IN_USE => ⟨.QM_OPTAB, 0, 21, .ro, 0, .dom⟩
  | .QM_DB_ERR_COUNT => ⟨.QM_DB_ERR, 0, 16, .ro, 0, .dom⟩
  | .QM_DB_ERR_LAST_QID => ⟨.QM_DB_ERR, 16, 14, .ro, 0, .dom⟩
  | .QM_DB_ERR_CLR => ⟨.QM_DB_ERR, 31, 1, .sc, 0, .dom⟩
  | .QM_OVF_LAST_QID => ⟨.QM_OVF_LAST, 0, 14, .ro, 0, .dom⟩
  | .QM_OVF_LAST_COUNT => ⟨.QM_OVF_LAST, 16, 16, .ro, 0, .dom⟩
  | .QM_BAR4_BASE_BASE => ⟨.QM_BAR4_BASE, 0, 64, .rw, 0, .dom⟩
  | .QM_FLR_DROPPED_COUNT => ⟨.QM_FLR_DROPPED, 0, 31, .ro, 0, .dom⟩
  | .QM_FLR_DROPPED_CLR => ⟨.QM_FLR_DROPPED, 31, 1, .sc, 0, .dom⟩
  | .UB_LEAD_LINES => ⟨.UB_LEAD, 0, 24, .ro, 0, .dom⟩
  | .UB_TAIL_LINES => ⟨.UB_TAIL, 0, 24, .ro, 0, .dom⟩
  | .UB_TAIL_MARGIN_64 => ⟨.UB_TAIL, 24, 8, .ro, 0, .dom⟩
  | .UB_WATER_LOW_64 => ⟨.UB_WATER, 0, 18, .ro, 0, .dom⟩
  | .UB_HIGH_HIGH_64 => ⟨.UB_HIGH, 0, 18, .ro, 0, .dom⟩
  | .UB_LEVEL_AVAIL => ⟨.UB_LEVEL, 0, 24, .ro, 0, .dom⟩
  | .UB_LEVEL_LOW => ⟨.UB_LEVEL, 24, 1, .ro, 0, .dom⟩
  | .UB_LEVEL_LATE => ⟨.UB_LEVEL, 25, 1, .ro, 0, .dom⟩
  | .UB_LEVEL_HELD => ⟨.UB_LEVEL, 26, 1, .ro, 0, .dom⟩
  | .UB_LATE_COUNT_COUNT => ⟨.UB_LATE_COUNT, 0, 31, .ro, 0, .dom⟩
  | .UB_LATE_COUNT_CLR => ⟨.UB_LATE_COUNT, 31, 1, .sc, 0, .dom⟩
  | .GB_LEVEL_LINES => ⟨.GB_LEVEL, 0, 10, .ro, 0, .dom⟩
  | .JSA_MAPPED_EXTENTS => ⟨.JSA_MAPPED, 0, 27, .ro, 0, .dom⟩
  | .INT_ARCH_STATUS_FILL_PCT => ⟨.INT_ARCH_STATUS, 0, 7, .ro, 0, .dom⟩
  | .INT_ARCH_STATUS_EN => ⟨.INT_ARCH_STATUS, 7, 1, .ro, 0, .dom⟩
  | .INT_ARCH_STATUS_POLICY => ⟨.INT_ARCH_STATUS, 8, 1, .ro, 0, .dom⟩
  | .INT_ARCH_STATUS_HOLDING => ⟨.INT_ARCH_STATUS, 9, 1, .ro, 0, .dom⟩
  | .INT_ARCH_DROPPED_COUNT => ⟨.INT_ARCH_DROPPED, 0, 31, .ro, 0, .dom⟩
  | .INT_ARCH_DROPPED_CLR => ⟨.INT_ARCH_DROPPED, 31, 1, .sc, 0, .dom⟩
  | .INT_FAULT_LOG_CAUSE => ⟨.INT_FAULT_LOG, 0, 4, .ro, 0, .dom⟩
  | .INT_FAULT_LOG_CHANNEL => ⟨.INT_FAULT_LOG, 4, 6, .ro, 0, .dom⟩
  | .INT_FAULT_LOG_COUNT => ⟨.INT_FAULT_LOG, 16, 15, .ro, 0, .dom⟩
  | .INT_FAULT_LOG_CLR => ⟨.INT_FAULT_LOG, 31, 1, .sc, 0, .dom⟩
  | .CDC_STATUS_LANES_BUSY => ⟨.CDC_STATUS, 0, 8, .ro, 0, .dom⟩
  | .CDC_STATUS_ENC_BUSY => ⟨.CDC_STATUS, 8, 1, .ro, 0, .dom⟩
  | .CDC_STATUS_FENCED => ⟨.CDC_STATUS, 9, 1, .ro, 0, .dom⟩
  | .CDC_ENC_CTRL_LEVEL => ⟨.CDC_ENC_CTRL, 0, 4, .rw, 3, .dom⟩
  | .CDC_ENC_CTRL_FLUSH => ⟨.CDC_ENC_CTRL, 8, 1, .sc, 0, .dom⟩
  | .CDC_BLOCKS_COUNT => ⟨.CDC_BLOCKS, 0, 32, .ro, 0, .dom⟩
  | .CDC_FAIL_COUNT => ⟨.CDC_FAIL, 0, 16, .ro, 0, .dom⟩
  | .CDC_FAIL_LAST_CAUSE => ⟨.CDC_FAIL, 16, 4, .ro, 0, .dom⟩
  | .CDC_FAIL_LAST_CHANNEL => ⟨.CDC_FAIL, 20, 6, .ro, 0, .dom⟩
  | .CDC_FAIL_CLR => ⟨.CDC_FAIL, 31, 1, .sc, 0, .dom⟩
  | .TUN_STATUS_RUNNING => ⟨.TUN_STATUS, 0, 16, .ro, 0, .dom⟩
  | .TUN_STATUS_PAUSED => ⟨.TUN_STATUS, 16, 1, .ro, 0, .dom⟩
  | .TUN_STATUS_FENCED => ⟨.TUN_STATUS, 17, 1, .ro, 0, .dom⟩
  | .TUN_STATUS_LOADED => ⟨.TUN_STATUS, 18, 1, .ro, 0, .dom⟩
  | .TUN_LINE_LINE => ⟨.TUN_LINE, 0, 64, .ro, 0, .dom⟩
  | .TUN_FAULT_CODE => ⟨.TUN_FAULT, 0, 4, .ro, 0, .dom⟩
  | .TUN_FAULT_ENGINE => ⟨.TUN_FAULT, 4, 4, .ro, 0, .dom⟩
  | .TUN_FAULT_PC => ⟨.TUN_FAULT, 8, 11, .ro, 0, .dom⟩
  | .TUN_FAULT_COUNT => ⟨.TUN_FAULT, 19, 8, .ro, 0, .dom⟩
  | .TUN_FAULT_CLR => ⟨.TUN_FAULT, 31, 1, .sc, 0, .dom⟩
  | .TUN_FAULT_LINE_LINE => ⟨.TUN_FAULT_LINE, 0, 64, .ro, 0, .dom⟩
  | .TUN_ECC_CORR => ⟨.TUN_ECC, 0, 16, .ro, 0, .dom⟩
  | .TUN_ECC_LAST_SRC => ⟨.TUN_ECC, 16, 2, .ro, 0, .dom⟩
  | .TUN_ECC_LAST_ENGINE => ⟨.TUN_ECC, 18, 4, .ro, 0, .dom⟩
  | .TUN_ECC_CLR => ⟨.TUN_ECC, 31, 1, .sc, 0, .dom⟩
  | .TUN_LIMIT_SLICE_LIMIT => ⟨.TUN_LIMIT, 0, 16, .ro, 0, .dom⟩
  | .TUN_LIMIT_PLANE_DIV => ⟨.TUN_LIMIT, 16, 2, .ro, 0, .dom⟩
  | .TUN_PAUSE_COUNT => ⟨.TUN_PAUSE, 0, 16, .ro, 0, .dom⟩
  | .TUN_PAUSE_OVER => ⟨.TUN_PAUSE, 16, 16, .ro, 0, .dom⟩
  | .TUN_PROG_ID_ID => ⟨.TUN_PROG_ID, 0, 64, .ro, 0, .dom⟩
  | .TUN_SLICE_MAX_CYCLES => ⟨.TUN_SLICE_MAX, 0, 16, .ro, 0, .dom⟩
  | .TUN_SLICE_MAX_CLR => ⟨.TUN_SLICE_MAX, 31, 1, .sc, 0, .dom⟩
  | .SCR_GEN_GEN => ⟨.SCR_GEN, 0, 32, .ro, 0, .dom⟩
  | .SCR_SWITCH_LINE => ⟨.SCR_SWITCH, 0, 64, .ro, 0, .dom⟩
  | .SCR_STATUS_BANK => ⟨.SCR_STATUS, 0, 1, .ro, 0, .dom⟩
  | .SCR_STATUS_PENDING => ⟨.SCR_STATUS, 1, 1, .ro, 0, .dom⟩
  | .SCR_STATUS_SHADOW => ⟨.SCR_STATUS, 2, 1, .ro, 0, .dom⟩
  | .SCR_STATUS_GRAV_HELD => ⟨.SCR_STATUS, 3, 1, .ro, 0, .dom⟩
  | .SCR_STATUS_FREE => ⟨.SCR_STATUS, 16, 12, .ro, 0, .dom⟩
  | .SCR_OUT_OUT => ⟨.SCR_OUT, 0, 12, .ro, 0, .dom⟩
  | .SCR_OUT_BRIDGED => ⟨.SCR_OUT, 16, 12, .ro, 0, .dom⟩
  | .SCR_BRIDGE_CTRL_APPLY => ⟨.SCR_BRIDGE_CTRL, 0, 1, .sc, 0, .dom⟩
  | .SCR_BRIDGE_CTRL_STAGED => ⟨.SCR_BRIDGE_CTRL, 1, 1, .ro, 0, .dom⟩
  | .SCR_BRIDGE_LOST_COUNT => ⟨.SCR_BRIDGE_LOST, 0, 31, .ro, 0, .dom⟩
  | .SCR_BRIDGE_LOST_CLR => ⟨.SCR_BRIDGE_LOST, 31, 1, .sc, 0, .dom⟩
  | .SCR_CLIP_COUNT => ⟨.SCR_CLIP, 0, 31, .ro, 0, .dom⟩
  | .SCR_CLIP_CLR => ⟨.SCR_CLIP, 31, 1, .sc, 0, .dom⟩
  | .SCR_BRIDGE_SET_NOZ => ⟨.SCR_BRIDGE_SET, 0, 32, .w1s, 0, .dom⟩
  | .SCR_BRIDGE_CLR_NOZ => ⟨.SCR_BRIDGE_CLR, 0, 32, .w1s, 0, .dom⟩
  | .FIRE_STATUS_RUNNING => ⟨.FIRE_STATUS, 0, 1, .ro, 0, .dom⟩
  | .FIRE_STATUS_OWNER => ⟨.FIRE_STATUS, 1, 1, .ro, 0, .dom⟩
  | .FIRE_STATUS_SLAVED => ⟨.FIRE_STATUS, 2, 1, .ro, 0, .dom⟩
  | .FIRE_STATUS_COMMIT_PENDING => ⟨.FIRE_STATUS, 3, 1, .ro, 0, .dom⟩
  | .FIRE_STATUS_WITHHELD => ⟨.FIRE_STATUS, 4, 1, .ro, 0, .dom⟩
  | .FIRE_STATUS_DEGRADED => ⟨.FIRE_STATUS, 5, 1, .ro, 0, .dom⟩
  | .FIRE_TIMING_STROBE => ⟨.FIRE_TIMING, 0, 11, .ro, 0, .dom⟩
  | .FIRE_TIMING_GAP => ⟨.FIRE_TIMING, 16, 8, .ro, 0, .dom⟩
  | .FIRE_TIMING_DEAD => ⟨.FIRE_TIMING, 24, 8, .ro, 0, .dom⟩
  | .FIRE_SCHED_CONC => ⟨.FIRE_SCHED, 0, 4, .ro, 0, .dom⟩
  | .FIRE_SCHED_SMAX => ⟨.FIRE_SCHED, 4, 2, .ro, 0, .dom⟩
  | .FIRE_SCHED_SLOTS => ⟨.FIRE_SCHED, 8, 6, .ro, 0, .dom⟩
  | .FIRE_SCHED_T_LINE => ⟨.FIRE_SCHED, 14, 18, .ro, 0, .dom⟩
  | .FIRE_RATE_RATE_MAX => ⟨.FIRE_RATE, 0, 18, .ro, 0, .dom⟩
  | .FIRE_PMIN_TICKS => ⟨.FIRE_PMIN, 0, 29, .ro, 0, .dom⟩
  | .FIRE_MINPULSE_MIN => ⟨.FIRE_MINPULSE, 0, 11, .ro, 0x28, .dom⟩
  | .FIRE_MINPULSE_CHANNEL => ⟨.FIRE_MINPULSE, 16, 6, .ro, 0, .dom⟩
  | .FIRE_LINE_LINE => ⟨.FIRE_LINE, 0, 64, .ro, 0, .dom⟩
  | .FIRE_APPLY_LINE_LINE => ⟨.FIRE_APPLY_LINE, 0, 64, .ro, 0, .dom⟩
  | .FIRE_DROPPED_COUNT => ⟨.FIRE_DROPPED, 0, 31, .ro, 0, .dom⟩
  | .FIRE_DROPPED_CLR => ⟨.FIRE_DROPPED, 31, 1, .sc, 0, .dom⟩
  | .FIRE_MISSED_COUNT => ⟨.FIRE_MISSED, 0, 31, .ro, 0, .dom⟩
  | .FIRE_MISSED_CLR => ⟨.FIRE_MISSED, 31, 1, .sc, 0, .dom⟩
  | .FIRE_VOTE_DIS_A => ⟨.FIRE_VOTE, 0, 8, .ro, 0, .dom⟩
  | .FIRE_VOTE_DIS_B => ⟨.FIRE_VOTE, 8, 8, .ro, 0, .dom⟩
  | .FIRE_VOTE_DIS_C => ⟨.FIRE_VOTE, 16, 8, .ro, 0, .dom⟩
  | .FIRE_VOTE_MASKED => ⟨.FIRE_VOTE, 24, 3, .ro, 0, .dom⟩
  | .FIRE_VOTE_CLR => ⟨.FIRE_VOTE, 31, 1, .sc, 0, .dom⟩
  | .FIRE_TRIG_COMP => ⟨.FIRE_TRIG, 0, 16, .rw, 0, .dom⟩
  | .FIRE_TRIG_LAT => ⟨.FIRE_TRIG, 16, 12, .ro, 0, .dom⟩
  | .FIRE_TRIG_ERR => ⟨.FIRE_TRIG, 31, 1, .w1c, 0, .dom⟩
  | .FIRE_FLIGHT_FLIGHT_MAX => ⟨.FIRE_FLIGHT, 0, 20, .ro, 0, .dom⟩
  | .FIRE_CH_STATUS_ENABLED => ⟨.FIRE_CH_STATUS, 0, 1, .ro, 0, .dom⟩
  | .FIRE_CH_STATUS_FENCED => ⟨.FIRE_CH_STATUS, 1, 1, .ro, 0, .dom⟩
  | .FIRE_CH_STATUS_HPWR => ⟨.FIRE_CH_STATUS, 2, 1, .ro, 0, .dom⟩
  | .FIRE_CH_STATUS_LOADED => ⟨.FIRE_CH_STATUS, 3, 1, .ro, 0, .dom⟩
  | .FIRE_CH_TRIM_CODE => ⟨.FIRE_CH_TRIM, 0, 12, .rw, 0, .dom⟩
  | .FIRE_CH_TRIM_APPLIED => ⟨.FIRE_CH_TRIM, 16, 12, .ro, 0, .dom⟩
  | .FIRE_CH_TRIM_REFUSED => ⟨.FIRE_CH_TRIM, 30, 1, .w1c, 0, .dom⟩
  | .FIRE_CH_TRIM_BUSY => ⟨.FIRE_CH_TRIM, 31, 1, .ro, 0, .dom⟩
  | .FIRE_CH_GEOM_NOZZLES => ⟨.FIRE_CH_GEOM, 0, 12, .ro, 0, .dom⟩
  | .FIRE_CH_GEOM_TWIN => ⟨.FIRE_CH_GEOM, 12, 1, .ro, 0, .dom⟩
  | .FIRE_CH_GEOM_ROWS_M1 => ⟨.FIRE_CH_GEOM, 13, 2, .ro, 0, .dom⟩
  | .FIRE_CH_GEOM_ROT => ⟨.FIRE_CH_GEOM, 15, 1, .ro, 0, .dom⟩
  | .FIRE_CH_GEOM_ORDER_MODE => ⟨.FIRE_CH_GEOM, 16, 2, .ro, 0, .dom⟩
  | .FIRE_CH_GEOM_STRIDE => ⟨.FIRE_CH_GEOM, 18, 5, .ro, 0, .dom⟩
  | .FIRE_CH_FLIGHT_FLIGHT_NS => ⟨.FIRE_CH_FLIGHT, 0, 20, .ro, 0, .dom⟩
  | .FIRE_CH_LINES_COUNT => ⟨.FIRE_CH_LINES, 0, 64, .ro, 0, .dom⟩
  | .FIRE_CH_DROPPED_COUNT => ⟨.FIRE_CH_DROPPED, 0, 31, .ro, 0, .dom⟩
  | .FIRE_CH_DROPPED_CLR => ⟨.FIRE_CH_DROPPED, 31, 1, .sc, 0, .dom⟩
  | .KILN_STATUS_SEALED => ⟨.KILN_STATUS, 0, 1, .ro, 0, .dom⟩
  | .KILN_STATUS_LOCK_WRITE => ⟨.KILN_STATUS, 1, 1, .w1c, 0, .dom⟩
  | .KILN_STATUS_ALARM => ⟨.KILN_STATUS, 2, 1, .w1c, 0, .dom⟩
  | .KILN_SEAL_KEY_KEY_ID => ⟨.KILN_SEAL_KEY, 0, 64, .ro, 0, .dom⟩
  | .KILN_DIGEST_ID => ⟨.KILN_DIGEST, 0, 64, .ro, 0, .dom⟩
  | .KILN_HPWR_REQ_REQ => ⟨.KILN_HPWR_REQ, 0, 32, .rw, 0, .dom⟩
  | .KILN_HPWR_ON_ON => ⟨.KILN_HPWR_ON, 0, 32, .ro, 0, .dom⟩
  | .KILN_CLIP_LINES_COUNT => ⟨.KILN_CLIP_LINES, 0, 31, .ro, 0, .dom⟩
  | .KILN_CLIP_LINES_CLR => ⟨.KILN_CLIP_LINES, 31, 1, .sc, 0, .dom⟩
  | .KILN_CLIP_STROBES_COUNT => ⟨.KILN_CLIP_STROBES, 0, 64, .ro, 0, .dom⟩
  | .KILN_CLIP_LAST_CHANNEL => ⟨.KILN_CLIP_LAST, 0, 6, .ro, 0, .dom⟩
  | .KILN_CLIP_LAST_SLOT => ⟨.KILN_CLIP_LAST, 8, 5, .ro, 0, .dom⟩
  | .KILN_CLIP_LAST_CAUSE => ⟨.KILN_CLIP_LAST, 16, 2, .ro, 0, .dom⟩
  | .KILN_UNSEALED_COUNT => ⟨.KILN_UNSEALED, 0, 31, .ro, 0, .dom⟩
  | .KILN_UNSEALED_CLR => ⟨.KILN_UNSEALED, 31, 1, .sc, 0, .dom⟩
  | .KILN_ALARM_THRESH => ⟨.KILN_ALARM, 0, 16, .rwk, 0x10, .kiln⟩
  | .KILN_ALARM_EN => ⟨.KILN_ALARM, 31, 1, .rwk, 1, .kiln⟩
  | .KILN_ALARM_VEC_VECTOR => ⟨.KILN_ALARM_VEC, 0, 11, .rw, 0, .dom⟩
  | .KILN_ALARM_VEC_EN => ⟨.KILN_ALARM_VEC, 31, 1, .rw, 0, .dom⟩
  | .KILN_CH_CLIP_COUNT => ⟨.KILN_CH_CLIP, 0, 31, .ro, 0, .dom⟩
  | .KILN_CH_CLIP_CLR => ⟨.KILN_CH_CLIP, 31, 1, .sc, 0, .dom⟩
  | .MOT_STATUS_MOVING => ⟨.MOT_STATUS, 0, 4, .ro, 0, .dom⟩
  | .MOT_STATUS_DIR => ⟨.MOT_STATUS, 4, 4, .ro, 0, .dom⟩
  | .MOT_STATUS_HELD => ⟨.MOT_STATUS, 8, 4, .ro, 0, .dom⟩
  | .MOT_STATUS_OWN => ⟨.MOT_STATUS, 12, 1, .ro, 0, .dom⟩
  | .MOT_STATUS_JOB => ⟨.MOT_STATUS, 13, 1, .ro, 0, .dom⟩
  | .MOT_STATUS_BS_PHASE => ⟨.MOT_STATUS, 16, 3, .ro, 0, .dom⟩
  | .MOT_STATUS_RESUME_FAIL => ⟨.MOT_STATUS, 19, 1, .ro, 0, .dom⟩
  | .MOT_POS_STEPS => ⟨.MOT_POS, 0, 64, .ro, 0, .dom⟩
  | .MOT_SPEED_RATE => ⟨.MOT_SPEED, 0, 24, .ro, 0, .dom⟩
  | .MOT_STOPDIST_LINES => ⟨.MOT_STOPDIST, 0, 24, .ro, 0, .dom⟩
  | .MOT_BS_COUNT_BACKSTEPS => ⟨.MOT_BS_COUNT, 0, 16, .ro, 0, .dom⟩
  | .MOT_BS_COUNT_RETRIES => ⟨.MOT_BS_COUNT, 16, 8, .ro, 0, .dom⟩
  | .MOT_BS_COUNT_UNVERIFIED => ⟨.MOT_BS_COUNT, 24, 7, .ro, 0, .dom⟩
  | .MOT_BS_COUNT_CLR => ⟨.MOT_BS_COUNT, 31, 1, .sc, 0, .dom⟩
  | .MOT_BS_DIST_STEPS => ⟨.MOT_BS_DIST, 0, 32, .ro, 0, .dom⟩
  | .MOT_BS_RESUME_LINE => ⟨.MOT_BS_RESUME, 0, 64, .ro, 0, .dom⟩
  | .MOT_BS_ERR_SPEED => ⟨.MOT_BS_ERR, 0, 16, .ro, 0, .dom⟩
  | .MOT_BS_ERR_POS => ⟨.MOT_BS_ERR, 16, 16, .ro, 0, .dom⟩
  | .MOT_GAP_LINES => ⟨.MOT_GAP, 0, 24, .ro, 0, .dom⟩
  | .MOT_INPUTS_LIMA => ⟨.MOT_INPUTS, 0, 4, .ro, 0, .dom⟩
  | .MOT_INPUTS_LIMB => ⟨.MOT_INPUTS, 4, 4, .ro, 0, .dom⟩
  | .MOT_INPUTS_LATCH => ⟨.MOT_INPUTS, 8, 8, .w1c, 0, .dom⟩
  | .MOT_INPUTS_BREAK => ⟨.MOT_INPUTS, 16, 1, .ro, 0, .dom⟩
  | .MOT_INPUTS_SPLICE => ⟨.MOT_INPUTS, 17, 1, .ro, 0, .dom⟩
  | .MOT_INPUTS_BREAK_SEEN => ⟨.MOT_INPUTS, 18, 1, .w1c, 0, .dom⟩
  | .MOT_INPUTS_SPLICE_SEEN => ⟨.MOT_INPUTS, 19, 1, .w1c, 0, .dom⟩
  | .MOT_SPLICE_LINE_LINE => ⟨.MOT_SPLICE_LINE, 0, 64, .ro, 0, .dom⟩
  | .MOT_REFUSED_COUNT => ⟨.MOT_REFUSED, 0, 16, .ro, 0, .dom⟩
  | .MOT_REFUSED_CLR => ⟨.MOT_REFUSED, 31, 1, .sc, 0, .dom⟩
  | .MOT_HARD_LINES_COUNT => ⟨.MOT_HARD_LINES, 0, 16, .ro, 0, .dom⟩
  | .MOT_HARD_LINES_CLR => ⟨.MOT_HARD_LINES, 31, 1, .sc, 0, .dom⟩
  | .ENC_STATUS_USED => ⟨.ENC_STATUS, 0, 4, .ro, 0, .dom⟩
  | .ENC_STATUS_VALID => ⟨.ENC_STATUS, 4, 4, .ro, 0, .dom⟩
  | .ENC_STATUS_DIR => ⟨.ENC_STATUS, 8, 4, .ro, 0, .dom⟩
  | .ENC_STATUS_DR => ⟨.ENC_STATUS, 12, 1, .ro, 0, .dom⟩
  | .ENC_EVENT_DIR_CHG => ⟨.ENC_EVENT, 0, 4, .w1c, 0, .dom⟩
  | .ENC_EVENT_FAULT_SEEN => ⟨.ENC_EVENT, 4, 4, .w1c, 0, .dom⟩
  | .ENC_EVENT_RECOVERED => ⟨.ENC_EVENT, 8, 4, .w1c, 0, .dom⟩
  | .ENC_EVENT_DR_LIMIT => ⟨.ENC_EVENT, 12, 1, .w1c, 0, .dom⟩
  | .ENC_IRQ_VECTOR => ⟨.ENC_IRQ, 0, 11, .rw, 0, .dom⟩
  | .ENC_IRQ_DIR_EN => ⟨.ENC_IRQ, 16, 4, .rw, 0, .dom⟩
  | .ENC_IRQ_FAULT_EN => ⟨.ENC_IRQ, 20, 4, .rw, 0, .dom⟩
  | .ENC_IRQ_DR_EN => ⟨.ENC_IRQ, 24, 1, .rw, 0, .dom⟩
  | .ENC_DR_LINES => ⟨.ENC_DR, 0, 24, .ro, 0, .dom⟩
  | .ENC_SLIP_COUNTS => ⟨.ENC_SLIP, 0, 32, .ro, 0, .dom⟩
  | .ENC_REBASE_COUNTS => ⟨.ENC_REBASE, 0, 32, .ro, 0, .dom⟩
  | .ENC_UNCMD_COUNT => ⟨.ENC_UNCMD, 0, 16, .ro, 0, .dom⟩
  | .ENC_UNCMD_CLR => ⟨.ENC_UNCMD, 31, 1, .sc, 0, .dom⟩
  | .ENC_POS_COUNTS => ⟨.ENC_POS, 0, 64, .ro, 0, .dom⟩
  | .ENC_SPEED_RATE => ⟨.ENC_SPEED, 0, 32, .ro, 0, .dom⟩
  | .ENC_AMP_NOW => ⟨.ENC_AMP, 0, 14, .ro, 0, .dom⟩
  | .ENC_AMP_MIN => ⟨.ENC_AMP, 16, 14, .ro, 0x3fff, .dom⟩
  | .ENC_AMP_CLR => ⟨.ENC_AMP, 31, 1, .sc, 0, .dom⟩
  | .ENC_FAULT_CAUSE => ⟨.ENC_FAULT, 0, 4, .ro, 0, .dom⟩
  | .ENC_FAULT_COUNT => ⟨.ENC_FAULT, 16, 15, .ro, 0, .dom⟩
  | .ENC_FAULT_CLR => ⟨.ENC_FAULT, 31, 1, .sc, 0, .dom⟩
  | .CAM_STATUS_LINK => ⟨.CAM_STATUS, 0, 1, .ro, 0, .dom⟩
  | .CAM_STATUS_FENCED => ⟨.CAM_STATUS, 1, 1, .ro, 0, .dom⟩
  | .CAM_STATUS_PAIRED => ⟨.CAM_STATUS, 2, 1, .ro, 0, .dom⟩
  | .CAM_STATUS_PENDING => ⟨.CAM_STATUS, 8, 5, .ro, 0, .dom⟩
  | .CAM_FRAME_FRAME => ⟨.CAM_FRAME, 0, 64, .ro, 0, .dom⟩
  | .CAM_LOST_COUNT => ⟨.CAM_LOST, 0, 24, .ro, 0, .dom⟩
  | .CAM_LOST_CAUSE => ⟨.CAM_LOST, 24, 3, .ro, 0, .dom⟩
  | .CAM_LOST_CLR => ⟨.CAM_LOST, 31, 1, .sc, 0, .dom⟩
  | .CAM_PHY_ERR_ECC_CORR => ⟨.CAM_PHY_ERR, 0, 8, .ro, 0, .dom⟩
  | .CAM_PHY_ERR_ECC_FAIL => ⟨.CAM_PHY_ERR, 8, 8, .ro, 0, .dom⟩
  | .CAM_PHY_ERR_CRC_FAIL => ⟨.CAM_PHY_ERR, 16, 8, .ro, 0, .dom⟩
  | .CAM_PHY_ERR_DT_DROP => ⟨.CAM_PHY_ERR, 24, 7, .ro, 0, .dom⟩
  | .CAM_PHY_ERR_CLR => ⟨.CAM_PHY_ERR, 31, 1, .sc, 0, .dom⟩
  | .CAM_STALE_COUNT => ⟨.CAM_STALE, 0, 31, .ro, 0, .dom⟩
  | .CAM_STALE_CLR => ⟨.CAM_STALE, 31, 1, .sc, 0, .dom⟩
  | .ISP_STATUS_PORTS => ⟨.ISP_STATUS, 0, 8, .ro, 0, .dom⟩
  | .ISP_STATUS_PAUSED => ⟨.ISP_STATUS, 8, 1, .ro, 0, .dom⟩
  | .ISP_STATUS_SHADOW => ⟨.ISP_STATUS, 9, 1, .ro, 0, .dom⟩
  | .ISP_RECAL_PORT => ⟨.ISP_RECAL, 0, 8, .rw, 0, .dom⟩
  | .ISP_SHADOW_CTRL_PORT => ⟨.ISP_SHADOW_CTRL, 0, 3, .rw, 0, .dom⟩
  | .ISP_SHADOW_CTRL_APPLY => ⟨.ISP_SHADOW_CTRL, 8, 1, .sc, 0, .dom⟩
  | .ISP_BLACK_LEVEL => ⟨.ISP_BLACK, 0, 16, .ro, 0, .dom⟩
  | .ISP_BLACK_REF => ⟨.ISP_BLACK, 16, 16, .ro, 0, .dom⟩
  | .GRAV_STATUS_RUNNING => ⟨.GRAV_STATUS, 0, 1, .ro, 0, .dom⟩
  | .GRAV_STATUS_PAUSED => ⟨.GRAV_STATUS, 1, 1, .ro, 0, .dom⟩
  | .GRAV_STATUS_REBIND => ⟨.GRAV_STATUS, 2, 1, .ro, 0, .dom⟩
  | .GRAV_TBL_ADDR_ADDR => ⟨.GRAV_TBL_ADDR, 0, 64, .ro, 0, .dom⟩
  | .GRAV_FOREIGN_COUNT => ⟨.GRAV_FOREIGN, 0, 31, .ro, 0, .dom⟩
  | .GRAV_FOREIGN_CLR => ⟨.GRAV_FOREIGN, 31, 1, .sc, 0, .dom⟩
  | .GRAV_LAST_OUT_NOZZLE => ⟨.GRAV_LAST_OUT, 0, 12, .ro, 0, .dom⟩
  | .GRAV_LAST_OUT_CHANNEL => ⟨.GRAV_LAST_OUT, 12, 6, .ro, 0, .dom⟩
  | .GRAV_LAST_OUT_TRIAL => ⟨.GRAV_LAST_OUT, 18, 1, .ro, 0, .dom⟩
  | .GRAV_LAST_OUT_HIGH => ⟨.GRAV_LAST_OUT, 19, 1, .ro, 0, .dom⟩
  | .GRAV_LAST_OUT_LINE => ⟨.GRAV_LAST_OUT, 20, 44, .ro, 0, .dom⟩
  | .GRAV_EVT_VEC_VECTOR => ⟨.GRAV_EVT_VEC, 0, 11, .rw, 0, .dom⟩
  | .GRAV_EVT_VEC_EN => ⟨.GRAV_EVT_VEC, 31, 1, .rw, 0, .dom⟩
  | .GRAV_CH_STATUS_EN => ⟨.GRAV_CH_STATUS, 0, 1, .ro, 0, .dom⟩
  | .GRAV_CH_STATUS_BOUND => ⟨.GRAV_CH_STATUS, 1, 1, .ro, 0, .dom⟩
  | .GRAV_CH_STATUS_LEARN => ⟨.GRAV_CH_STATUS, 2, 1, .ro, 0, .dom⟩
  | .GRAV_CH_STATUS_HELD => ⟨.GRAV_CH_STATUS, 3, 1, .ro, 0, .dom⟩
  | .GRAV_CH_STATUS_REG_LIMIT => ⟨.GRAV_CH_STATUS, 4, 1, .ro, 0, .dom⟩
  | .GRAV_CH_STATUS_OUT => ⟨.GRAV_CH_STATUS, 16, 12, .ro, 0, .dom⟩
  | .GRAV_CH_QUAL_VALID_PCT => ⟨.GRAV_CH_QUAL, 0, 8, .ro, 0, .dom⟩
  | .GRAV_CH_QUAL_RESID => ⟨.GRAV_CH_QUAL, 8, 8, .ro, 0, .dom⟩
  | .GRAV_CH_QUAL_REG_OFS => ⟨.GRAV_CH_QUAL, 16, 16, .ro, 0, .dom⟩
  | .GRAV_CH_COUNT_OUTS => ⟨.GRAV_CH_COUNT, 0, 12, .ro, 0, .dom⟩
  | .GRAV_CH_COUNT_BACKINS => ⟨.GRAV_CH_COUNT, 12, 10, .ro, 0, .dom⟩
  | .GRAV_CH_COUNT_TAIL_MISS => ⟨.GRAV_CH_COUNT, 22, 9, .ro, 0, .dom⟩
  | .GRAV_CH_COUNT_CLR => ⟨.GRAV_CH_COUNT, 31, 1, .sc, 0, .dom⟩
  | .GRAV_CH_CTRL_RESET_TRIALS => ⟨.GRAV_CH_CTRL, 0, 1, .sc, 0, .dom⟩
  | .GRAV_CH_CTRL_CLEAR_WINDOW => ⟨.GRAV_CH_CTRL, 1, 1, .sc, 0, .dom⟩
  | .SG_STATUS_ARMED => ⟨.SG_STATUS, 0, 4, .ro, 0, .dom⟩
  | .SG_STATUS_RECORD => ⟨.SG_STATUS, 4, 4, .ro, 0, .dom⟩
  | .SG_STATUS_PAUSED => ⟨.SG_STATUS, 8, 1, .ro, 0, .dom⟩
  | .SG_CTRL_FORCE => ⟨.SG_CTRL, 0, 4, .sc, 0, .dom⟩
  | .SG_CTRL_DISARM => ⟨.SG_CTRL, 4, 4, .sc, 0, .dom⟩
  | .SG_BUS_RX => ⟨.SG_BUS, 0, 16, .ro, 0, .dom⟩
  | .SG_BUS_LATE => ⟨.SG_BUS, 16, 8, .ro, 0, .dom⟩
  | .SG_BUS_QDROP => ⟨.SG_BUS, 24, 7, .ro, 0, .dom⟩
  | .SG_BUS_CLR => ⟨.SG_BUS, 31, 1, .sc, 0, .dom⟩
  | .SG_LAST_VIOL_CHANNEL => ⟨.SG_LAST_VIOL, 0, 6, .ro, 0, .dom⟩
  | .SG_LAST_VIOL_KIND => ⟨.SG_LAST_VIOL, 6, 2, .ro, 0, .dom⟩
  | .SG_LAST_VIOL_POINT => ⟨.SG_LAST_VIOL, 8, 8, .ro, 0, .dom⟩
  | .SG_LAST_VIOL_STROBE => ⟨.SG_LAST_VIOL, 16, 2, .ro, 0, .dom⟩
  | .SG_VIOL_RUN => ⟨.SG_VIOL, 0, 8, .ro, 0, .dom⟩
  | .SG_VIOL_STOPPED => ⟨.SG_VIOL, 8, 1, .ro, 0, .dom⟩
  | .SG_VIOL_SENSE_FAULT => ⟨.SG_VIOL, 9, 1, .ro, 0, .dom⟩
  | .SG_VIOL_COUNT => ⟨.SG_VIOL, 10, 21, .ro, 0, .dom⟩
  | .SG_VIOL_CLR => ⟨.SG_VIOL, 31, 1, .sc, 0, .dom⟩
  | .TIME_NS_STAMP => ⟨.TIME_NS, 0, 32, .ro, 0, .dom⟩
  | .TIME_SEC_LO_SEC => ⟨.TIME_SEC_LO, 0, 32, .ro, 0, .dom⟩
  | .TIME_SEC_HI_SEC => ⟨.TIME_SEC_HI, 0, 16, .ro, 0, .dom⟩
  | .TIME_NSF_NS => ⟨.TIME_NSF, 0, 30, .ro, 0, .dom⟩
  | .TIME_SET_NS_NS => ⟨.TIME_SET_NS, 0, 30, .rw, 0, .dom⟩
  | .TIME_SET_SEC_LO_SEC => ⟨.TIME_SET_SEC_LO, 0, 32, .rw, 0, .dom⟩
  | .TIME_SET_SEC_HI_SEC => ⟨.TIME_SET_SEC_HI, 0, 16, .rw, 0, .dom⟩
  | .TIME_CMD_LOAD => ⟨.TIME_CMD, 0, 1, .sc, 0, .dom⟩
  | .TIME_CMD_ADJ => ⟨.TIME_CMD, 1, 1, .sc, 0, .dom⟩
  | .TIME_ADJ_NS => ⟨.TIME_ADJ, 0, 32, .rw, 0, .dom⟩
  | .TIME_INCR_INCR => ⟨.TIME_INCR, 0, 64, .rw, 0x280000000, .dom⟩
  | .TIME_STATUS_EPOCH => ⟨.TIME_STATUS, 0, 8, .ro, 0, .dom⟩
  | .TIME_STATUS_UNSYNC => ⟨.TIME_STATUS, 8, 1, .w1c, 1, .dom⟩
  | .TIME_STATUS_ERR => ⟨.TIME_STATUS, 9, 1, .w1c, 0, .dom⟩
  | .ETH_STATUS_LINK => ⟨.ETH_STATUS, 0, 1, .ro, 0, .dom⟩
  | .ETH_STATUS_MODE => ⟨.ETH_STATUS, 1, 2, .ro, 0, .dom⟩
  | .ETH_STATUS_FEC => ⟨.ETH_STATUS, 3, 2, .ro, 0, .dom⟩
  | .ETH_STATUS_STAMP_POINT => ⟨.ETH_STATUS, 5, 1, .ro, 0, .dom⟩
  | .ETH_STATUS_MAC_STAMPS => ⟨.ETH_STATUS, 16, 16, .ro, 0, .dom⟩
  | .ETH_ASYM_PS => ⟨.ETH_ASYM, 0, 32, .ro, 0, .dom⟩
  | .ETH_TXTS_STATUS_LEVEL => ⟨.ETH_TXTS_STATUS, 0, 5, .ro, 0, .dom⟩
  | .ETH_TXTS_STATUS_OVF => ⟨.ETH_TXTS_STATUS, 16, 15, .ro, 0, .dom⟩
  | .ETH_TXTS_STATUS_CLR => ⟨.ETH_TXTS_STATUS, 31, 1, .sc, 0, .dom⟩
  | .ETH_TXTS_LOST_SEQ_ID => ⟨.ETH_TXTS_LOST, 0, 16, .ro, 0, .dom⟩
  | .ETH_TXTS_ENTRY0_NS => ⟨.ETH_TXTS_ENTRY0, 0, 30, .ro, 0, .dom⟩
  | .ETH_TXTS_ENTRY1_SEC_LO => ⟨.ETH_TXTS_ENTRY1, 0, 32, .ro, 0, .dom⟩
  | .ETH_TXTS_ENTRY2_SEC_HI => ⟨.ETH_TXTS_ENTRY2, 0, 16, .ro, 0, .dom⟩
  | .ETH_TXTS_ENTRY2_FRAC => ⟨.ETH_TXTS_ENTRY2, 16, 16, .ro, 0, .dom⟩
  | .ETH_TXTS_ENTRY3_SEQ_ID => ⟨.ETH_TXTS_ENTRY3, 0, 16, .ro, 0, .dom⟩
  | .ETH_TXTS_ENTRY3_MSG_TYPE => ⟨.ETH_TXTS_ENTRY3, 16, 4, .ro, 0, .dom⟩
  | .ETH_TXTS_ENTRY3_EPOCH => ⟨.ETH_TXTS_ENTRY3, 20, 4, .ro, 0, .dom⟩
  | .ETH_TXTS_ENTRY3_MAC => ⟨.ETH_TXTS_ENTRY3, 24, 1, .ro, 0, .dom⟩
  | .ETH_TXTS_ENTRY3_VALID => ⟨.ETH_TXTS_ENTRY3, 25, 1, .ro, 0, .dom⟩
  | .WL_PORT_STATUS_STATE => ⟨.WL_PORT_STATUS, 0, 3, .ro, 0, .dom⟩
  | .WL_PORT_STATUS_ACTIVE => ⟨.WL_PORT_STATUS, 8, 8, .ro, 0, .dom⟩
  | .WL_PORT_STATUS_REVERSED => ⟨.WL_PORT_STATUS, 16, 1, .ro, 0, .dom⟩
  | .WL_PORT_CTRL_RETRAIN => ⟨.WL_PORT_CTRL, 0, 1, .sc, 0, .dom⟩
  | .WL_PEER_ID => ⟨.WL_PEER, 0, 64, .ro, 0, .dom⟩
  | .WL_PORT_ERR_NAKS => ⟨.WL_PORT_ERR, 0, 16, .ro, 0, .dom⟩
  | .WL_PORT_ERR_RETRAINS => ⟨.WL_PORT_ERR, 16, 8, .ro, 0, .dom⟩
  | .WL_PORT_ERR_DISCARDS => ⟨.WL_PORT_ERR, 24, 7, .ro, 0, .dom⟩
  | .WL_PORT_ERR_CLR => ⟨.WL_PORT_ERR, 31, 1, .sc, 0, .dom⟩
  | .WL_VC_CREDIT_AVAIL => ⟨.WL_VC_CREDIT, 0, 12, .ro, 0, .dom⟩
  | .WL_VC_CREDIT_SHARE => ⟨.WL_VC_CREDIT, 16, 12, .ro, 0, .dom⟩
  | .WL_LANE_STATUS_STAGE => ⟨.WL_LANE_STATUS, 0, 4, .ro, 0, .dom⟩
  | .WL_LANE_STATUS_INVERTED => ⟨.WL_LANE_STATUS, 4, 1, .ro, 0, .dom⟩
  | .WL_LANE_STATUS_ACTIVE => ⟨.WL_LANE_STATUS, 5, 1, .ro, 0, .dom⟩
  | .WL_LANE_STATUS_FENCED => ⟨.WL_LANE_STATUS, 6, 1, .ro, 0, .dom⟩
  | .WL_LANE_STATUS_WAITING => ⟨.WL_LANE_STATUS, 7, 1, .ro, 0, .dom⟩
  | .WL_LANE_STATUS_RETRAIN => ⟨.WL_LANE_STATUS, 31, 1, .sc, 0, .dom⟩
  | .WL_LANE_EYE_WIDTH => ⟨.WL_LANE_EYE, 0, 7, .ro, 0, .dom⟩
  | .WL_LANE_EYE_TRAINED => ⟨.WL_LANE_EYE, 8, 7, .ro, 0, .dom⟩
  | .WL_LANE_EYE_DRIFT => ⟨.WL_LANE_EYE, 16, 4, .ro, 0, .dom⟩
  | .WL_LANE_FEC_CORR => ⟨.WL_LANE_FEC, 0, 24, .ro, 0, .dom⟩
  | .WL_LANE_FEC_UNCORR => ⟨.WL_LANE_FEC, 24, 8, .ro, 0, .dom⟩
  | .WL_LANE_RETRAINS_HOUR => ⟨.WL_LANE_RETRAINS, 0, 8, .ro, 0, .dom⟩
  | .WL_LANE_RETRAINS_TOTAL => ⟨.WL_LANE_RETRAINS, 8, 16, .ro, 0, .dom⟩
  | .WL_LANE_RETRAINS_CLR => ⟨.WL_LANE_RETRAINS, 31, 1, .sc, 0, .dom⟩
  | .BAR_STATUS_ROLE => ⟨.BAR_STATUS, 0, 2, .ro, 3, .strap⟩
  | .BAR_STATUS_ENUMERATED => ⟨.BAR_STATUS, 2, 1, .ro, 0, .dom⟩
  | .BAR_STATUS_MEASURE => ⟨.BAR_STATUS, 3, 1, .ro, 0, .dom⟩
  | .BAR_STATUS_STATE => ⟨.BAR_STATUS, 4, 3, .ro, 0, .dom⟩
  | .BAR_STATUS_BAR => ⟨.BAR_STATUS, 8, 4, .ro, 0, .dom⟩
  | .BAR_STATUS_DEVICE => ⟨.BAR_STATUS, 12, 5, .ro, 0, .dom⟩
  | .BAR_STATUS_INDEX => ⟨.BAR_STATUS, 17, 9, .ro, 0, .dom⟩
  | .BAR_SELF_ID_ID => ⟨.BAR_SELF_ID, 0, 64, .ro, 0, .fuse⟩
  | .BAR_UNBOUND_CH => ⟨.BAR_UNBOUND, 0, 64, .ro, 0, .dom⟩
  | .BAR_HOLD_IMAGE => ⟨.BAR_HOLD, 0, 1, .ro, 0, .dom⟩
  | .BAR_HOLD_FW => ⟨.BAR_HOLD, 1, 1, .ro, 0, .dom⟩
  | .BAR_HOLD_TIME => ⟨.BAR_HOLD, 2, 1, .ro, 0, .dom⟩
  | .BAR_HOLD_RESYNC => ⟨.BAR_HOLD, 3, 1, .ro, 0, .dom⟩
  | .BAR_HOLD_COMP => ⟨.BAR_HOLD, 4, 1, .ro, 0, .dom⟩
  | .BAR_HOLD_CONFLICT => ⟨.BAR_HOLD, 5, 1, .ro, 0, .dom⟩
  | .BAR_HOLD_EXCESS => ⟨.BAR_HOLD, 6, 1, .ro, 0, .dom⟩
  | .BAR_HOLD_REPLACED => ⟨.BAR_HOLD, 7, 1, .ro, 0, .dom⟩
  | .BAR_TIME_OFS_NS => ⟨.BAR_TIME_OFS, 0, 32, .ro, 0, .dom⟩
  | .BAR_RESYNC_COUNT => ⟨.BAR_RESYNC, 0, 31, .ro, 0, .dom⟩
  | .BAR_RESYNC_CLR => ⟨.BAR_RESYNC, 31, 1, .sc, 0, .dom⟩
  | .BAR_COV_VEC_VECTOR => ⟨.BAR_COV_VEC, 0, 11, .rw, 0, .dom⟩
  | .BAR_COV_VEC_EN => ⟨.BAR_COV_VEC, 31, 1, .rw, 0, .dom⟩
  | .BAR_COV_EVENTS_COUNT => ⟨.BAR_COV_EVENTS, 0, 31, .ro, 0, .dom⟩
  | .BAR_COV_EVENTS_CLR => ⟨.BAR_COV_EVENTS, 31, 1, .sc, 0, .dom⟩
  | .BAR_COV_MAP_CH => ⟨.BAR_COV_MAP, 0, 64, .ro, 0, .dom⟩
  | .BAR_COV_CAUSE_HOLD => ⟨.BAR_COV_CAUSE, 0, 8, .ro, 0, .dom⟩
  | .BAR_COV_CAUSE_FENCED => ⟨.BAR_COV_CAUSE, 8, 1, .ro, 0, .dom⟩
  | .BAR_COV_CAUSE_LOST => ⟨.BAR_COV_CAUSE, 9, 1, .ro, 0, .dom⟩
  | .BAR_COV_CAUSE_CHANNELS => ⟨.BAR_COV_CAUSE, 10, 1, .ro, 0, .dom⟩
  | .TRIO_STATUS_POS => ⟨.TRIO_STATUS, 0, 2, .ro, 3, .dom⟩
  | .TRIO_STATUS_ACTIVE => ⟨.TRIO_STATUS, 2, 1, .ro, 0, .dom⟩
  | .TRIO_STATUS_QUALIFIED => ⟨.TRIO_STATUS, 3, 1, .ro, 0, .dom⟩
  | .TRIO_STATUS_MEMBERS => ⟨.TRIO_STATUS, 4, 3, .ro, 0, .dom⟩
  | .TRIO_STATUS_DEGRADED => ⟨.TRIO_STATUS, 7, 1, .ro, 0, .dom⟩
  | .TRIO_STATUS_OWNER => ⟨.TRIO_STATUS, 8, 2, .ro, 0, .dom⟩
  | .TRIO_STATUS_STUCK => ⟨.TRIO_STATUS, 10, 1, .ro, 0, .dom⟩
  | .TRIO_STATUS_REVERT_PENDING => ⟨.TRIO_STATUS, 11, 1, .ro, 0, .dom⟩
  | .TRIO_STATUS_CLK_BAD => ⟨.TRIO_STATUS, 12, 1, .ro, 0, .dom⟩
  | .TRIO_STATUS_ERR => ⟨.TRIO_STATUS, 13, 1, .w1c, 0, .dom⟩
  | .TRIO_CFG_REVERT_LINES => ⟨.TRIO_CFG, 0, 24, .rw, 0x40000, .dom⟩
  | .TRIO_CFG_REVERT_EN => ⟨.TRIO_CFG, 31, 1, .rw, 1, .dom⟩
  | .TRIO_AGREE_LINES => ⟨.TRIO_AGREE, 0, 24, .ro, 0, .dom⟩
  | .TRIO_HANDOVER_LINE => ⟨.TRIO_HANDOVER, 0, 64, .ro, 0, .dom⟩
  | .TRIO_EVENTS_TAKEOVERS => ⟨.TRIO_EVENTS, 0, 8, .ro, 0, .dom⟩
  | .TRIO_EVENTS_REVERTS => ⟨.TRIO_EVENTS, 8, 8, .ro, 0, .dom⟩
  | .TRIO_EVENTS_UNQUAL => ⟨.TRIO_EVENTS, 16, 8, .ro, 0, .dom⟩
  | .TRIO_EVENTS_CLR => ⟨.TRIO_EVENTS, 31, 1, .sc, 0, .dom⟩
  | .TRIO_LAST_CAUSE => ⟨.TRIO_LAST, 0, 4, .ro, 0, .dom⟩
  | .TRIO_LAST_FROM => ⟨.TRIO_LAST, 4, 2, .ro, 0, .dom⟩
  | .TRIO_LAST_TO => ⟨.TRIO_LAST, 6, 2, .ro, 0, .dom⟩
  | .TRIO_LAST_CATCHUP => ⟨.TRIO_LAST, 8, 16, .ro, 0, .dom⟩
  | .TRIO_COMP_COMP => ⟨.TRIO_COMP, 0, 16, .rw, 0, .dom⟩
  | .TRIO_COMP_VALID => ⟨.TRIO_COMP, 31, 1, .rw, 0, .dom⟩
  | .TRIO_EVT_VEC_VECTOR => ⟨.TRIO_EVT_VEC, 0, 11, .rw, 0, .dom⟩
  | .TRIO_EVT_VEC_EN => ⟨.TRIO_EVT_VEC, 31, 1, .rw, 0, .dom⟩
  | .DDR_STATUS_STATE => ⟨.DDR_STATUS, 0, 3, .ro, 0, .dom⟩
  | .DDR_STATUS_HOT => ⟨.DDR_STATUS, 3, 1, .ro, 0, .dom⟩
  | .DDR_STATUS_HOT_ALARM => ⟨.DDR_STATUS, 4, 1, .w1c, 0, .dom⟩
  | .DDR_STATUS_REPLAYING => ⟨.DDR_STATUS, 5, 1, .ro, 0, .dom⟩
  | .DDR_STATUS_TEMP => ⟨.DDR_STATUS, 8, 8, .ro, 0, .dom⟩
  | .DDR_STATUS_SLOT => ⟨.DDR_STATUS, 16, 8, .ro, 0, .dom⟩
  | .DDR_GEOM_GIB => ⟨.DDR_GEOM, 0, 8, .ro, 0, .dom⟩
  | .DDR_GEOM_X8 => ⟨.DDR_GEOM, 8, 1, .ro, 0, .dom⟩
  | .DDR_GEOM_DENSITY => ⟨.DDR_GEOM, 9, 2, .ro, 0, .dom⟩
  | .DDR_GEOM_RANKS_M1 => ⟨.DDR_GEOM, 11, 1, .ro, 0, .dom⟩
  | .DDR_GEOM_ROW_BITS => ⟨.DDR_GEOM, 12, 5, .ro, 0, .dom⟩
  | .DDR_ECC_CE => ⟨.DDR_ECC, 0, 20, .ro, 0, .dom⟩
  | .DDR_ECC_UE => ⟨.DDR_ECC, 20, 11, .ro, 0, .dom⟩
  | .DDR_ECC_CLR => ⟨.DDR_ECC, 31, 1, .sc, 0, .dom⟩
  | .DDR_ECC_ADDR_ADDR => ⟨.DDR_ECC_ADDR, 0, 40, .ro, 0, .dom⟩
  | .DDR_ECC_ADDR_MIRRORED => ⟨.DDR_ECC_ADDR, 63, 1, .ro, 0, .dom⟩
  | .DDR_ALERT_REPLAYS => ⟨.DDR_ALERT, 0, 16, .ro, 0, .dom⟩
  | .DDR_ALERT_CRC => ⟨.DDR_ALERT, 16, 8, .ro, 0, .dom⟩
  | .DDR_ALERT_CLR => ⟨.DDR_ALERT, 31, 1, .sc, 0, .dom⟩
  | .DDR_EVAC_PCT => ⟨.DDR_EVAC, 0, 7, .ro, 0, .dom⟩
  | .DDR_EVAC_UNPLANNED => ⟨.DDR_EVAC, 7, 1, .ro, 0, .dom⟩
  | .DDR_EVAC_LOST => ⟨.DDR_EVAC, 8, 24, .ro, 0, .dom⟩
  | .FENCE_MAP_UNITS => ⟨.FENCE_MAP, 0, 64, .ro, 0, .dom⟩
  | .FENCE_LAST_CLASS => ⟨.FENCE_LAST, 0, 8, .ro, 0, .dom⟩
  | .FENCE_LAST_INDEX => ⟨.FENCE_LAST, 8, 8, .ro, 0, .dom⟩
  | .FENCE_LAST_CAUSE => ⟨.FENCE_LAST, 16, 4, .ro, 0, .dom⟩
  | .FENCE_LAST_CLR => ⟨.FENCE_LAST, 31, 1, .sc, 0, .dom⟩
  | .FENCE_EVT_VEC_VECTOR => ⟨.FENCE_EVT_VEC, 0, 11, .rw, 0, .dom⟩
  | .FENCE_EVT_VEC_EN => ⟨.FENCE_EVT_VEC, 31, 1, .rw, 0, .dom⟩
  | .TEL_STATUS_SNAPS => ⟨.TEL_STATUS, 0, 9, .ro, 0, .dom⟩
  | .TEL_STATUS_SNAP_LOST => ⟨.TEL_STATUS, 16, 8, .ro, 0, .dom⟩
  | .TEL_STATUS_LOG_LOST => ⟨.TEL_STATUS, 24, 7, .ro, 0, .dom⟩
  | .TEL_STATUS_CLR => ⟨.TEL_STATUS, 31, 1, .sc, 0, .dom⟩
  | .TEL_TWARN_DEG => ⟨.TEL_TWARN, 0, 8, .rw, 0x69, .dom⟩
  | .TEL_EVT_VEC_VECTOR => ⟨.TEL_EVT_VEC, 0, 11, .rw, 0, .dom⟩
  | .TEL_EVT_VEC_EN => ⟨.TEL_EVT_VEC, 31, 1, .rw, 0, .dom⟩
  | .TEL_SCRUB_CORR => ⟨.TEL_SCRUB, 0, 31, .ro, 0, .dom⟩
  | .TEL_SCRUB_CLR => ⟨.TEL_SCRUB, 31, 1, .sc, 0, .dom⟩
  | .TEL_LIFE_WARN_STROBES => ⟨.TEL_LIFE_WARN, 0, 48, .rw, 0, .dom⟩
  | .TEL_LIFE_WARN_EN => ⟨.TEL_LIFE_WARN, 63, 1, .rw, 0, .dom⟩
  | .TEL_TEMP_NOW => ⟨.TEL_TEMP, 0, 16, .ro, 0, .dom⟩
  | .TEL_TEMP_MAX => ⟨.TEL_TEMP, 16, 15, .ro, 0, .dom⟩
  | .TEL_TEMP_CLR => ⟨.TEL_TEMP, 31, 1, .sc, 0, .dom⟩
  | .SPG_CTRL_PERIOD_H => ⟨.SPG_CTRL, 0, 8, .rw, 0x18, .dom⟩
  | .SPG_CTRL_EN => ⟨.SPG_CTRL, 31, 1, .rw, 1, .dom⟩
  | .SPG_STATUS_PASS_PCT => ⟨.SPG_STATUS, 0, 7, .ro, 0, .dom⟩
  | .SPG_STATUS_WAITING => ⟨.SPG_STATUS, 7, 1, .ro, 0, .dom⟩
  | .SPG_STATUS_PASSES => ⟨.SPG_STATUS, 8, 24, .ro, 0, .dom⟩
  | .SPG_FOUND_CE => ⟨.SPG_FOUND, 0, 20, .ro, 0, .dom⟩
  | .SPG_FOUND_UE => ⟨.SPG_FOUND, 20, 11, .ro, 0, .dom⟩
  | .SPG_FOUND_CLR => ⟨.SPG_FOUND, 31, 1, .sc, 0, .dom⟩
  | .FLS_STATUS_PRESENT => ⟨.FLS_STATUS, 0, 2, .ro, 0, .dom⟩
  | .FLS_STATUS_BUSY => ⟨.FLS_STATUS, 2, 2, .ro, 0, .dom⟩
  | .FLS_STATUS_READY => ⟨.FLS_STATUS, 4, 1, .ro, 0, .dom⟩
  | .FLS_STATUS_HANDOVER => ⟨.FLS_STATUS, 5, 1, .ro, 0, .dom⟩
  | .FLS_STATUS_ERR => ⟨.FLS_STATUS, 6, 1, .w1c, 0, .dom⟩
  | .FLS_XIP_FLA_EN => ⟨.FLS_XIP, 0, 1, .rw, 0, .dom⟩
  | .FLS_XIP_FLB_EN => ⟨.FLS_XIP, 1, 1, .rw, 0, .dom⟩
  | .FLS_BOOT_SRC => ⟨.FLS_BOOT, 0, 2, .ro, 0, .dom⟩
  | .FLS_BOOT_STATE => ⟨.FLS_BOOT, 2, 2, .ro, 0, .dom⟩
  | .FLS_BOOT_TRIES => ⟨.FLS_BOOT, 4, 2, .rws, 0, .sticky⟩
  | .FLS_BOOT_FELL_BACK => ⟨.FLS_BOOT, 6, 1, .ro, 0, .dom⟩
  | .FLS_BOOT_WAIT_HOST => ⟨.FLS_BOOT, 7, 1, .ro, 0, .dom⟩
  | .FLS_BOOT_CAUSE => ⟨.FLS_BOOT, 8, 4, .ro, 0, .dom⟩
  | .FLS_BOOT_FW_ROLLBACK => ⟨.FLS_BOOT, 12, 6, .ro, 0, .fuse⟩
  | .FLS_FW_VER_VERSION => ⟨.FLS_FW_VER, 0, 32, .ro, 0, .dom⟩
  | .FLS_HOSTLOAD_FW_LEN => ⟨.FLS_HOSTLOAD, 0, 32, .rw, 0, .dom⟩
  | .FLS_HOSTLOAD_MASH_LEN => ⟨.FLS_HOSTLOAD, 32, 32, .rw, 0, .dom⟩
  | .FLS_HANDOVER_COUNT => ⟨.FLS_HANDOVER, 0, 16, .ro, 0, .dom⟩
  | .FLS_HANDOVER_HANDBACKS => ⟨.FLS_HANDOVER, 16, 8, .ro, 0, .dom⟩
  | .FLS_HANDOVER_LAST_MS => ⟨.FLS_HANDOVER, 24, 8, .ro, 0, .dom⟩
  | .CASK_STATUS_STATE => ⟨.CASK_STATUS, 0, 3, .ro, 0, .dom⟩
  | .CASK_STATUS_DEFERRED => ⟨.CASK_STATUS, 16, 16, .ro, 0, .dom⟩
  | .CASK_SCHEMA_CUR => ⟨.CASK_SCHEMA, 0, 16, .ro, 0, .dom⟩
  | .CASK_SCHEMA_PINNED => ⟨.CASK_SCHEMA, 16, 16, .ro, 0, .dom⟩
  | .CASK_WEAR_MAX_ERASE => ⟨.CASK_WEAR, 0, 20, .ro, 0, .dom⟩
  | .CASK_WEAR_FREE => ⟨.CASK_WEAR, 20, 9, .ro, 0, .dom⟩
  | .USB_STATUS_VBUS => ⟨.USB_STATUS, 0, 1, .ro, 0, .dom⟩
  | .USB_STATUS_HS => ⟨.USB_STATUS, 1, 1, .ro, 0, .dom⟩
  | .USB_STATUS_CONFIGURED => ⟨.USB_STATUS, 2, 1, .ro, 0, .dom⟩
  | .USB_STATUS_SUSPENDED => ⟨.USB_STATUS, 3, 1, .ro, 0, .dom⟩
  | .USB_STATUS_ADDRESS => ⟨.USB_STATUS, 4, 7, .ro, 0, .dom⟩
  | .USB_CTRL_EN => ⟨.USB_CTRL, 0, 1, .rw, 1, .dom⟩
  | .USB_CTRL_SVC_WRITE => ⟨.USB_CTRL, 1, 1, .rw, 0, .dom⟩
  | .USB_ID_VID => ⟨.USB_ID, 0, 16, .ro, 0, .fuse⟩
  | .USB_ID_PID => ⟨.USB_ID, 16, 16, .ro, 0x6440, .dom⟩
  | .USB_COUNTS_ABANDONED => ⟨.USB_COUNTS, 0, 12, .ro, 0, .dom⟩
  | .USB_COUNTS_STALLS => ⟨.USB_COUNTS, 12, 12, .ro, 0, .dom⟩
  | .USB_COUNTS_EVT_LOST => ⟨.USB_COUNTS, 24, 7, .ro, 0, .dom⟩
  | .USB_COUNTS_CLR => ⟨.USB_COUNTS, 31, 1, .sc, 0, .dom⟩
  | .VP_STATUS_RUNNING => ⟨.VP_STATUS, 0, 1, .ro, 0, .dom⟩
  | .VP_STATUS_PENDING => ⟨.VP_STATUS, 1, 1, .ro, 0, .dom⟩
  | .VP_STATUS_EXTENDED => ⟨.VP_STATUS, 2, 1, .ro, 0, .dom⟩
  | .VP_STATUS_CMD_ERR => ⟨.VP_STATUS, 3, 1, .w1c, 0, .dom⟩
  | .VP_STATUS_ERR => ⟨.VP_STATUS, 16, 8, .ro, 0, .dom⟩
  | .VP_CTRL_EN => ⟨.VP_CTRL, 0, 1, .rw, 0, .dom⟩
  | .VP_CTRL_MODE => ⟨.VP_CTRL, 1, 1, .rw, 0, .dom⟩
  | .VP_CTRL_FORMAT => ⟨.VP_CTRL, 2, 1, .rw, 0, .dom⟩
  | .VP_CTRL_COMMIT => ⟨.VP_CTRL, 3, 1, .sc, 0, .dom⟩
  | .VP_CTRL_REFRESH => ⟨.VP_CTRL, 4, 1, .sc, 0, .dom⟩
  | .VP_CTRL_STATIC_FRAMES => ⟨.VP_CTRL, 16, 8, .rw, 0, .dom⟩
  | .VP_FB_BASE_ADDR => ⟨.VP_FB_BASE, 0, 64, .rw, 0, .dom⟩
  | .VP_FB_STRIDE_BYTES => ⟨.VP_FB_STRIDE, 0, 16, .rw, 0, .dom⟩
  | .VP_H_TIMING_HACTIVE => ⟨.VP_H_TIMING, 0, 11, .rw, 0, .dom⟩
  | .VP_H_TIMING_HFP => ⟨.VP_H_TIMING, 11, 7, .rw, 0, .dom⟩
  | .VP_H_TIMING_HSYNC => ⟨.VP_H_TIMING, 18, 7, .rw, 0, .dom⟩
  | .VP_H_TIMING_HBP => ⟨.VP_H_TIMING, 25, 7, .rw, 0, .dom⟩
  | .VP_V_TIMING_VACTIVE => ⟨.VP_V_TIMING, 0, 11, .rw, 0, .dom⟩
  | .VP_V_TIMING_VFP => ⟨.VP_V_TIMING, 11, 10, .rw, 0, .dom⟩
  | .VP_V_TIMING_VSYNC => ⟨.VP_V_TIMING, 21, 5, .rw, 0, .dom⟩
  | .VP_V_TIMING_VBP => ⟨.VP_V_TIMING, 26, 6, .rw, 0, .dom⟩
  | .VP_VFP_MAX_LINES => ⟨.VP_VFP_MAX, 0, 12, .rw, 0, .dom⟩
  | .VP_LINK_PCLK => ⟨.VP_LINK, 0, 18, .rw, 0, .dom⟩
  | .VP_LINK_LANES => ⟨.VP_LINK, 18, 3, .rw, 0, .dom⟩
  | .VP_LINK_TE_POL => ⟨.VP_LINK, 21, 1, .rw, 0, .dom⟩
  | .VP_LINK_LANE_MBPS_10 => ⟨.VP_LINK, 22, 10, .rw, 0, .dom⟩
  | .VP_CMD_CTRL_DT => ⟨.VP_CMD_CTRL, 0, 8, .rw, 0, .dom⟩
  | .VP_CMD_CTRL_LEN => ⟨.VP_CMD_CTRL, 8, 5, .rw, 0, .dom⟩
  | .VP_CMD_CTRL_SEND => ⟨.VP_CMD_CTRL, 13, 1, .sc, 0, .dom⟩
  | .VP_CMD_CTRL_BUSY => ⟨.VP_CMD_CTRL, 14, 1, .ro, 0, .dom⟩
  | .VP_CMD_DATA_BYTES => ⟨.VP_CMD_DATA, 0, 32, .rw, 0, .dom⟩
  | .VP_COUNTS_UNDERRUN => ⟨.VP_COUNTS, 0, 12, .ro, 0, .dom⟩
  | .VP_COUNTS_NO_TE => ⟨.VP_COUNTS, 12, 8, .ro, 0, .dom⟩
  | .VP_COUNTS_COMMITS => ⟨.VP_COUNTS, 20, 11, .ro, 0, .dom⟩
  | .VP_COUNTS_CLR => ⟨.VP_COUNTS, 31, 1, .sc, 0, .dom⟩
  | .TIME_NS_B_STAMP => ⟨.TIME_NS_B, 0, 32, .ro, 0, .dom⟩
  | .TIME_SEC_LO_B_SEC => ⟨.TIME_SEC_LO_B, 0, 32, .ro, 0, .dom⟩
  | .TIME_SEC_HI_B_SEC => ⟨.TIME_SEC_HI_B, 0, 16, .ro, 0, .dom⟩
  | .TIME_NSF_B_NS => ⟨.TIME_NSF_B, 0, 30, .ro, 0, .dom⟩

/-- The fields of a register, lowest bit first. -/
def Reg.fields : Reg → List Fld
  | .RST_CAUSE => [.RST_CAUSE_POR, .RST_CAUSE_PIN, .RST_CAUSE_WDOG, .RST_CAUSE_SW, .RST_CAUSE_WORT, .RST_CAUSE_THERM, .RST_CAUSE_CRIT_FIRE, .RST_CAUSE_CRIT_KILN, .RST_CAUSE_CRIT_TRIO, .RST_CAUSE_CRIT_QM]
  | .RST_CAUSE_INFO => [.RST_CAUSE_INFO_WORT_PORT, .RST_CAUSE_INFO_THERM_SENSOR, .RST_CAUSE_INFO_CRIT_DBE]
  | .RST_STATUS => [.RST_STATUS_STEP, .RST_STATUS_DONE, .RST_STATUS_PLL_WAIT, .RST_STATUS_CLK_ABSENT, .RST_STATUS_THERM_HOLD]
  | .RST_STRAPS => [.RST_STRAPS_BOOT_SRC, .RST_STRAPS_CLK_MODE, .RST_STRAPS_ROLE]
  | .RST_CTRL => [.RST_CTRL_SW_RESET, .RST_CTRL_WDOG_OK, .RST_CTRL_KEY]
  | .CLK_STATUS => [.CLK_STATUS_CORE_LOCK, .CLK_STATUS_SRC, .CLK_STATUS_LOL]
  | .PWR_REQ => [.PWR_REQ_ON]
  | .PWR_STATE => [.PWR_STATE_ON]
  | .PWR_ERR => [.PWR_ERR_REFUSED]
  | .PWR_PSTATE => [.PWR_PSTATE_REQ, .PWR_PSTATE_CUR, .PWR_PSTATE_BUSY, .PWR_PSTATE_REFUSED]
  | .GRS_MAGIC => [.GRS_MAGIC_MAGIC]
  | .GRS_FORMAT => [.GRS_FORMAT_MINOR, .GRS_FORMAT_MAJOR, .GRS_FORMAT_HDR_SIZE]
  | .GRS_GEN => [.GRS_GEN_GEN]
  | .GRS_DEVICE => [.GRS_DEVICE_STEP_LETTER, .GRS_DEVICE_STEP_DIGIT, .GRS_DEVICE_PART]
  | .GRS_IMAGE_ID => [.GRS_IMAGE_ID_ID]
  | .GRS_TABLE_OFFSET => [.GRS_TABLE_OFFSET_OFFSET]
  | .GRS_TABLE_COUNT => [.GRS_TABLE_COUNT_COUNT, .GRS_TABLE_COUNT_ENTRY_SIZE]
  | .GRS_TABLE_CRC => [.GRS_TABLE_CRC_CRC]
  | .GRS_NOTIFY => [.GRS_NOTIFY_VECTOR, .GRS_NOTIFY_EN]
  | .GRS_STALE => [.GRS_STALE_COUNT, .GRS_STALE_CLR]
  | .GRS_CAUSE => [.GRS_CAUSE_CAUSE]
  | .MASH_STATUS => [.MASH_STATUS_STATE, .MASH_STATUS_STAGED, .MASH_STATUS_WAITING, .MASH_STATUS_FULL_OK]
  | .MASH_ERR => [.MASH_ERR_STATUS, .MASH_ERR_CHECK, .MASH_ERR_SECTION, .MASH_ERR_CLR]
  | .MASH_ROLLBACK => [.MASH_ROLLBACK_MIN, .MASH_ROLLBACK_ROOT_REVOKED]
  | .MASH_OEM => [.MASH_OEM_OEM_ID]
  | .MASH_IMAGE_VER => [.MASH_IMAGE_VER_VERSION]
  | .MASH_PATCHES => [.MASH_PATCHES_COUNT]
  | .MASH_COMPOSITE => [.MASH_COMPOSITE_ID]
  | .QM_CTRL => [.QM_CTRL_EN]
  | .QM_STATUS => [.QM_STATUS_READY, .QM_STATUS_OPTAB_FULL, .QM_STATUS_ERR]
  | .QM_ASQ_BASE => [.QM_ASQ_BASE_BASE]
  | .QM_ACQ_BASE => [.QM_ACQ_BASE_BASE]
  | .QM_ADMIN_DEPTH => [.QM_ADMIN_DEPTH_DEPTH]
  | .QM_OPTAB => [.QM_OPTAB_IN_USE]
  | .QM_DB_ERR => [.QM_DB_ERR_COUNT, .QM_DB_ERR_LAST_QID, .QM_DB_ERR_CLR]
  | .QM_OVF_LAST => [.QM_OVF_LAST_QID, .QM_OVF_LAST_COUNT]
  | .QM_BAR4_BASE => [.QM_BAR4_BASE_BASE]
  | .QM_FLR_DROPPED => [.QM_FLR_DROPPED_COUNT, .QM_FLR_DROPPED_CLR]
  | .UB_LEAD => [.UB_LEAD_LINES]
  | .UB_TAIL => [.UB_TAIL_LINES, .UB_TAIL_MARGIN_64]
  | .UB_WATER => [.UB_WATER_LOW_64]
  | .UB_HIGH => [.UB_HIGH_HIGH_64]
  | .UB_LEVEL => [.UB_LEVEL_AVAIL, .UB_LEVEL_LOW, .UB_LEVEL_LATE, .UB_LEVEL_HELD]
  | .UB_LATE_COUNT => [.UB_LATE_COUNT_COUNT, .UB_LATE_COUNT_CLR]
  | .GB_LEVEL => [.GB_LEVEL_LINES]
  | .JSA_MAPPED => [.JSA_MAPPED_EXTENTS]
  | .INT_ARCH_STATUS => [.INT_ARCH_STATUS_FILL_PCT, .INT_ARCH_STATUS_EN, .INT_ARCH_STATUS_POLICY, .INT_ARCH_STATUS_HOLDING]
  | .INT_ARCH_DROPPED => [.INT_ARCH_DROPPED_COUNT, .INT_ARCH_DROPPED_CLR]
  | .INT_FAULT_LOG => [.INT_FAULT_LOG_CAUSE, .INT_FAULT_LOG_CHANNEL, .INT_FAULT_LOG_COUNT, .INT_FAULT_LOG_CLR]
  | .CDC_STATUS => [.CDC_STATUS_LANES_BUSY, .CDC_STATUS_ENC_BUSY, .CDC_STATUS_FENCED]
  | .CDC_ENC_CTRL => [.CDC_ENC_CTRL_LEVEL, .CDC_ENC_CTRL_FLUSH]
  | .CDC_BLOCKS => [.CDC_BLOCKS_COUNT]
  | .CDC_FAIL => [.CDC_FAIL_COUNT, .CDC_FAIL_LAST_CAUSE, .CDC_FAIL_LAST_CHANNEL, .CDC_FAIL_CLR]
  | .TUN_STATUS => [.TUN_STATUS_RUNNING, .TUN_STATUS_PAUSED, .TUN_STATUS_FENCED, .TUN_STATUS_LOADED]
  | .TUN_LINE => [.TUN_LINE_LINE]
  | .TUN_FAULT => [.TUN_FAULT_CODE, .TUN_FAULT_ENGINE, .TUN_FAULT_PC, .TUN_FAULT_COUNT, .TUN_FAULT_CLR]
  | .TUN_FAULT_LINE => [.TUN_FAULT_LINE_LINE]
  | .TUN_ECC => [.TUN_ECC_CORR, .TUN_ECC_LAST_SRC, .TUN_ECC_LAST_ENGINE, .TUN_ECC_CLR]
  | .TUN_LIMIT => [.TUN_LIMIT_SLICE_LIMIT, .TUN_LIMIT_PLANE_DIV]
  | .TUN_PAUSE => [.TUN_PAUSE_COUNT, .TUN_PAUSE_OVER]
  | .TUN_PROG_ID => [.TUN_PROG_ID_ID]
  | .TUN_SLICE_MAX => [.TUN_SLICE_MAX_CYCLES, .TUN_SLICE_MAX_CLR]
  | .SCR_GEN => [.SCR_GEN_GEN]
  | .SCR_SWITCH => [.SCR_SWITCH_LINE]
  | .SCR_STATUS => [.SCR_STATUS_BANK, .SCR_STATUS_PENDING, .SCR_STATUS_SHADOW, .SCR_STATUS_GRAV_HELD, .SCR_STATUS_FREE]
  | .SCR_OUT => [.SCR_OUT_OUT, .SCR_OUT_BRIDGED]
  | .SCR_BRIDGE_CTRL => [.SCR_BRIDGE_CTRL_APPLY, .SCR_BRIDGE_CTRL_STAGED]
  | .SCR_BRIDGE_LOST => [.SCR_BRIDGE_LOST_COUNT, .SCR_BRIDGE_LOST_CLR]
  | .SCR_CLIP => [.SCR_CLIP_COUNT, .SCR_CLIP_CLR]
  | .SCR_BRIDGE_SET => [.SCR_BRIDGE_SET_NOZ]
  | .SCR_BRIDGE_CLR => [.SCR_BRIDGE_CLR_NOZ]
  | .FIRE_STATUS => [.FIRE_STATUS_RUNNING, .FIRE_STATUS_OWNER, .FIRE_STATUS_SLAVED, .FIRE_STATUS_COMMIT_PENDING, .FIRE_STATUS_WITHHELD, .FIRE_STATUS_DEGRADED]
  | .FIRE_TIMING => [.FIRE_TIMING_STROBE, .FIRE_TIMING_GAP, .FIRE_TIMING_DEAD]
  | .FIRE_SCHED => [.FIRE_SCHED_CONC, .FIRE_SCHED_SMAX, .FIRE_SCHED_SLOTS, .FIRE_SCHED_T_LINE]
  | .FIRE_RATE => [.FIRE_RATE_RATE_MAX]
  | .FIRE_PMIN => [.FIRE_PMIN_TICKS]
  | .FIRE_MINPULSE => [.FIRE_MINPULSE_MIN, .FIRE_MINPULSE_CHANNEL]
  | .FIRE_LINE => [.FIRE_LINE_LINE]
  | .FIRE_APPLY_LINE => [.FIRE_APPLY_LINE_LINE]
  | .FIRE_DROPPED => [.FIRE_DROPPED_COUNT, .FIRE_DROPPED_CLR]
  | .FIRE_MISSED => [.FIRE_MISSED_COUNT, .FIRE_MISSED_CLR]
  | .FIRE_VOTE => [.FIRE_VOTE_DIS_A, .FIRE_VOTE_DIS_B, .FIRE_VOTE_DIS_C, .FIRE_VOTE_MASKED, .FIRE_VOTE_CLR]
  | .FIRE_TRIG => [.FIRE_TRIG_COMP, .FIRE_TRIG_LAT, .FIRE_TRIG_ERR]
  | .FIRE_FLIGHT => [.FIRE_FLIGHT_FLIGHT_MAX]
  | .FIRE_CH_STATUS => [.FIRE_CH_STATUS_ENABLED, .FIRE_CH_STATUS_FENCED, .FIRE_CH_STATUS_HPWR, .FIRE_CH_STATUS_LOADED]
  | .FIRE_CH_TRIM => [.FIRE_CH_TRIM_CODE, .FIRE_CH_TRIM_APPLIED, .FIRE_CH_TRIM_REFUSED, .FIRE_CH_TRIM_BUSY]
  | .FIRE_CH_GEOM => [.FIRE_CH_GEOM_NOZZLES, .FIRE_CH_GEOM_TWIN, .FIRE_CH_GEOM_ROWS_M1, .FIRE_CH_GEOM_ROT, .FIRE_CH_GEOM_ORDER_MODE, .FIRE_CH_GEOM_STRIDE]
  | .FIRE_CH_FLIGHT => [.FIRE_CH_FLIGHT_FLIGHT_NS]
  | .FIRE_CH_LINES => [.FIRE_CH_LINES_COUNT]
  | .FIRE_CH_DROPPED => [.FIRE_CH_DROPPED_COUNT, .FIRE_CH_DROPPED_CLR]
  | .KILN_STATUS => [.KILN_STATUS_SEALED, .KILN_STATUS_LOCK_WRITE, .KILN_STATUS_ALARM]
  | .KILN_SEAL_KEY => [.KILN_SEAL_KEY_KEY_ID]
  | .KILN_DIGEST => [.KILN_DIGEST_ID]
  | .KILN_HPWR_REQ => [.KILN_HPWR_REQ_REQ]
  | .KILN_HPWR_ON => [.KILN_HPWR_ON_ON]
  | .KILN_CLIP_LINES => [.KILN_CLIP_LINES_COUNT, .KILN_CLIP_LINES_CLR]
  | .KILN_CLIP_STROBES => [.KILN_CLIP_STROBES_COUNT]
  | .KILN_CLIP_LAST => [.KILN_CLIP_LAST_CHANNEL, .KILN_CLIP_LAST_SLOT, .KILN_CLIP_LAST_CAUSE]
  | .KILN_UNSEALED => [.KILN_UNSEALED_COUNT, .KILN_UNSEALED_CLR]
  | .KILN_ALARM => [.KILN_ALARM_THRESH, .KILN_ALARM_EN]
  | .KILN_ALARM_VEC => [.KILN_ALARM_VEC_VECTOR, .KILN_ALARM_VEC_EN]
  | .KILN_CH_CLIP => [.KILN_CH_CLIP_COUNT, .KILN_CH_CLIP_CLR]
  | .MOT_STATUS => [.MOT_STATUS_MOVING, .MOT_STATUS_DIR, .MOT_STATUS_HELD, .MOT_STATUS_OWN, .MOT_STATUS_JOB, .MOT_STATUS_BS_PHASE, .MOT_STATUS_RESUME_FAIL]
  | .MOT_POS => [.MOT_POS_STEPS]
  | .MOT_SPEED => [.MOT_SPEED_RATE]
  | .MOT_STOPDIST => [.MOT_STOPDIST_LINES]
  | .MOT_BS_COUNT => [.MOT_BS_COUNT_BACKSTEPS, .MOT_BS_COUNT_RETRIES, .MOT_BS_COUNT_UNVERIFIED, .MOT_BS_COUNT_CLR]
  | .MOT_BS_DIST => [.MOT_BS_DIST_STEPS]
  | .MOT_BS_RESUME => [.MOT_BS_RESUME_LINE]
  | .MOT_BS_ERR => [.MOT_BS_ERR_SPEED, .MOT_BS_ERR_POS]
  | .MOT_GAP => [.MOT_GAP_LINES]
  | .MOT_INPUTS => [.MOT_INPUTS_LIMA, .MOT_INPUTS_LIMB, .MOT_INPUTS_LATCH, .MOT_INPUTS_BREAK, .MOT_INPUTS_SPLICE, .MOT_INPUTS_BREAK_SEEN, .MOT_INPUTS_SPLICE_SEEN]
  | .MOT_SPLICE_LINE => [.MOT_SPLICE_LINE_LINE]
  | .MOT_REFUSED => [.MOT_REFUSED_COUNT, .MOT_REFUSED_CLR]
  | .MOT_HARD_LINES => [.MOT_HARD_LINES_COUNT, .MOT_HARD_LINES_CLR]
  | .ENC_STATUS => [.ENC_STATUS_USED, .ENC_STATUS_VALID, .ENC_STATUS_DIR, .ENC_STATUS_DR]
  | .ENC_EVENT => [.ENC_EVENT_DIR_CHG, .ENC_EVENT_FAULT_SEEN, .ENC_EVENT_RECOVERED, .ENC_EVENT_DR_LIMIT]
  | .ENC_IRQ => [.ENC_IRQ_VECTOR, .ENC_IRQ_DIR_EN, .ENC_IRQ_FAULT_EN, .ENC_IRQ_DR_EN]
  | .ENC_DR => [.ENC_DR_LINES]
  | .ENC_SLIP => [.ENC_SLIP_COUNTS]
  | .ENC_REBASE => [.ENC_REBASE_COUNTS]
  | .ENC_UNCMD => [.ENC_UNCMD_COUNT, .ENC_UNCMD_CLR]
  | .ENC_POS => [.ENC_POS_COUNTS]
  | .ENC_SPEED => [.ENC_SPEED_RATE]
  | .ENC_AMP => [.ENC_AMP_NOW, .ENC_AMP_MIN, .ENC_AMP_CLR]
  | .ENC_FAULT => [.ENC_FAULT_CAUSE, .ENC_FAULT_COUNT, .ENC_FAULT_CLR]
  | .CAM_STATUS => [.CAM_STATUS_LINK, .CAM_STATUS_FENCED, .CAM_STATUS_PAIRED, .CAM_STATUS_PENDING]
  | .CAM_FRAME => [.CAM_FRAME_FRAME]
  | .CAM_LOST => [.CAM_LOST_COUNT, .CAM_LOST_CAUSE, .CAM_LOST_CLR]
  | .CAM_PHY_ERR => [.CAM_PHY_ERR_ECC_CORR, .CAM_PHY_ERR_ECC_FAIL, .CAM_PHY_ERR_CRC_FAIL, .CAM_PHY_ERR_DT_DROP, .CAM_PHY_ERR_CLR]
  | .CAM_STALE => [.CAM_STALE_COUNT, .CAM_STALE_CLR]
  | .ISP_STATUS => [.ISP_STATUS_PORTS, .ISP_STATUS_PAUSED, .ISP_STATUS_SHADOW]
  | .ISP_RECAL => [.ISP_RECAL_PORT]
  | .ISP_SHADOW_CTRL => [.ISP_SHADOW_CTRL_PORT, .ISP_SHADOW_CTRL_APPLY]
  | .ISP_BLACK => [.ISP_BLACK_LEVEL, .ISP_BLACK_REF]
  | .GRAV_STATUS => [.GRAV_STATUS_RUNNING, .GRAV_STATUS_PAUSED, .GRAV_STATUS_REBIND]
  | .GRAV_TBL_ADDR => [.GRAV_TBL_ADDR_ADDR]
  | .GRAV_FOREIGN => [.GRAV_FOREIGN_COUNT, .GRAV_FOREIGN_CLR]
  | .GRAV_LAST_OUT => [.GRAV_LAST_OUT_NOZZLE, .GRAV_LAST_OUT_CHANNEL, .GRAV_LAST_OUT_TRIAL, .GRAV_LAST_OUT_HIGH, .GRAV_LAST_OUT_LINE]
  | .GRAV_EVT_VEC => [.GRAV_EVT_VEC_VECTOR, .GRAV_EVT_VEC_EN]
  | .GRAV_CH_STATUS => [.GRAV_CH_STATUS_EN, .GRAV_CH_STATUS_BOUND, .GRAV_CH_STATUS_LEARN, .GRAV_CH_STATUS_HELD, .GRAV_CH_STATUS_REG_LIMIT, .GRAV_CH_STATUS_OUT]
  | .GRAV_CH_QUAL => [.GRAV_CH_QUAL_VALID_PCT, .GRAV_CH_QUAL_RESID, .GRAV_CH_QUAL_REG_OFS]
  | .GRAV_CH_COUNT => [.GRAV_CH_COUNT_OUTS, .GRAV_CH_COUNT_BACKINS, .GRAV_CH_COUNT_TAIL_MISS, .GRAV_CH_COUNT_CLR]
  | .GRAV_CH_CTRL => [.GRAV_CH_CTRL_RESET_TRIALS, .GRAV_CH_CTRL_CLEAR_WINDOW]
  | .SG_STATUS => [.SG_STATUS_ARMED, .SG_STATUS_RECORD, .SG_STATUS_PAUSED]
  | .SG_CTRL => [.SG_CTRL_FORCE, .SG_CTRL_DISARM]
  | .SG_BUS => [.SG_BUS_RX, .SG_BUS_LATE, .SG_BUS_QDROP, .SG_BUS_CLR]
  | .SG_LAST_VIOL => [.SG_LAST_VIOL_CHANNEL, .SG_LAST_VIOL_KIND, .SG_LAST_VIOL_POINT, .SG_LAST_VIOL_STROBE]
  | .SG_VIOL => [.SG_VIOL_RUN, .SG_VIOL_STOPPED, .SG_VIOL_SENSE_FAULT, .SG_VIOL_COUNT, .SG_VIOL_CLR]
  | .TIME_NS => [.TIME_NS_STAMP]
  | .TIME_SEC_LO => [.TIME_SEC_LO_SEC]
  | .TIME_SEC_HI => [.TIME_SEC_HI_SEC]
  | .TIME_NSF => [.TIME_NSF_NS]
  | .TIME_SET_NS => [.TIME_SET_NS_NS]
  | .TIME_SET_SEC_LO => [.TIME_SET_SEC_LO_SEC]
  | .TIME_SET_SEC_HI => [.TIME_SET_SEC_HI_SEC]
  | .TIME_CMD => [.TIME_CMD_LOAD, .TIME_CMD_ADJ]
  | .TIME_ADJ => [.TIME_ADJ_NS]
  | .TIME_INCR => [.TIME_INCR_INCR]
  | .TIME_STATUS => [.TIME_STATUS_EPOCH, .TIME_STATUS_UNSYNC, .TIME_STATUS_ERR]
  | .ETH_STATUS => [.ETH_STATUS_LINK, .ETH_STATUS_MODE, .ETH_STATUS_FEC, .ETH_STATUS_STAMP_POINT, .ETH_STATUS_MAC_STAMPS]
  | .ETH_ASYM => [.ETH_ASYM_PS]
  | .ETH_TXTS_STATUS => [.ETH_TXTS_STATUS_LEVEL, .ETH_TXTS_STATUS_OVF, .ETH_TXTS_STATUS_CLR]
  | .ETH_TXTS_LOST => [.ETH_TXTS_LOST_SEQ_ID]
  | .ETH_TXTS_ENTRY0 => [.ETH_TXTS_ENTRY0_NS]
  | .ETH_TXTS_ENTRY1 => [.ETH_TXTS_ENTRY1_SEC_LO]
  | .ETH_TXTS_ENTRY2 => [.ETH_TXTS_ENTRY2_SEC_HI, .ETH_TXTS_ENTRY2_FRAC]
  | .ETH_TXTS_ENTRY3 => [.ETH_TXTS_ENTRY3_SEQ_ID, .ETH_TXTS_ENTRY3_MSG_TYPE, .ETH_TXTS_ENTRY3_EPOCH, .ETH_TXTS_ENTRY3_MAC, .ETH_TXTS_ENTRY3_VALID]
  | .WL_PORT_STATUS => [.WL_PORT_STATUS_STATE, .WL_PORT_STATUS_ACTIVE, .WL_PORT_STATUS_REVERSED]
  | .WL_PORT_CTRL => [.WL_PORT_CTRL_RETRAIN]
  | .WL_PEER => [.WL_PEER_ID]
  | .WL_PORT_ERR => [.WL_PORT_ERR_NAKS, .WL_PORT_ERR_RETRAINS, .WL_PORT_ERR_DISCARDS, .WL_PORT_ERR_CLR]
  | .WL_VC_CREDIT => [.WL_VC_CREDIT_AVAIL, .WL_VC_CREDIT_SHARE]
  | .WL_LANE_STATUS => [.WL_LANE_STATUS_STAGE, .WL_LANE_STATUS_INVERTED, .WL_LANE_STATUS_ACTIVE, .WL_LANE_STATUS_FENCED, .WL_LANE_STATUS_WAITING, .WL_LANE_STATUS_RETRAIN]
  | .WL_LANE_EYE => [.WL_LANE_EYE_WIDTH, .WL_LANE_EYE_TRAINED, .WL_LANE_EYE_DRIFT]
  | .WL_LANE_FEC => [.WL_LANE_FEC_CORR, .WL_LANE_FEC_UNCORR]
  | .WL_LANE_RETRAINS => [.WL_LANE_RETRAINS_HOUR, .WL_LANE_RETRAINS_TOTAL, .WL_LANE_RETRAINS_CLR]
  | .BAR_STATUS => [.BAR_STATUS_ROLE, .BAR_STATUS_ENUMERATED, .BAR_STATUS_MEASURE, .BAR_STATUS_STATE, .BAR_STATUS_BAR, .BAR_STATUS_DEVICE, .BAR_STATUS_INDEX]
  | .BAR_SELF_ID => [.BAR_SELF_ID_ID]
  | .BAR_UNBOUND => [.BAR_UNBOUND_CH]
  | .BAR_HOLD => [.BAR_HOLD_IMAGE, .BAR_HOLD_FW, .BAR_HOLD_TIME, .BAR_HOLD_RESYNC, .BAR_HOLD_COMP, .BAR_HOLD_CONFLICT, .BAR_HOLD_EXCESS, .BAR_HOLD_REPLACED]
  | .BAR_TIME_OFS => [.BAR_TIME_OFS_NS]
  | .BAR_RESYNC => [.BAR_RESYNC_COUNT, .BAR_RESYNC_CLR]
  | .BAR_COV_VEC => [.BAR_COV_VEC_VECTOR, .BAR_COV_VEC_EN]
  | .BAR_COV_EVENTS => [.BAR_COV_EVENTS_COUNT, .BAR_COV_EVENTS_CLR]
  | .BAR_COV_MAP => [.BAR_COV_MAP_CH]
  | .BAR_COV_CAUSE => [.BAR_COV_CAUSE_HOLD, .BAR_COV_CAUSE_FENCED, .BAR_COV_CAUSE_LOST, .BAR_COV_CAUSE_CHANNELS]
  | .TRIO_STATUS => [.TRIO_STATUS_POS, .TRIO_STATUS_ACTIVE, .TRIO_STATUS_QUALIFIED, .TRIO_STATUS_MEMBERS, .TRIO_STATUS_DEGRADED, .TRIO_STATUS_OWNER, .TRIO_STATUS_STUCK, .TRIO_STATUS_REVERT_PENDING, .TRIO_STATUS_CLK_BAD, .TRIO_STATUS_ERR]
  | .TRIO_CFG => [.TRIO_CFG_REVERT_LINES, .TRIO_CFG_REVERT_EN]
  | .TRIO_AGREE => [.TRIO_AGREE_LINES]
  | .TRIO_HANDOVER => [.TRIO_HANDOVER_LINE]
  | .TRIO_EVENTS => [.TRIO_EVENTS_TAKEOVERS, .TRIO_EVENTS_REVERTS, .TRIO_EVENTS_UNQUAL, .TRIO_EVENTS_CLR]
  | .TRIO_LAST => [.TRIO_LAST_CAUSE, .TRIO_LAST_FROM, .TRIO_LAST_TO, .TRIO_LAST_CATCHUP]
  | .TRIO_COMP => [.TRIO_COMP_COMP, .TRIO_COMP_VALID]
  | .TRIO_EVT_VEC => [.TRIO_EVT_VEC_VECTOR, .TRIO_EVT_VEC_EN]
  | .DDR_STATUS => [.DDR_STATUS_STATE, .DDR_STATUS_HOT, .DDR_STATUS_HOT_ALARM, .DDR_STATUS_REPLAYING, .DDR_STATUS_TEMP, .DDR_STATUS_SLOT]
  | .DDR_GEOM => [.DDR_GEOM_GIB, .DDR_GEOM_X8, .DDR_GEOM_DENSITY, .DDR_GEOM_RANKS_M1, .DDR_GEOM_ROW_BITS]
  | .DDR_ECC => [.DDR_ECC_CE, .DDR_ECC_UE, .DDR_ECC_CLR]
  | .DDR_ECC_ADDR => [.DDR_ECC_ADDR_ADDR, .DDR_ECC_ADDR_MIRRORED]
  | .DDR_ALERT => [.DDR_ALERT_REPLAYS, .DDR_ALERT_CRC, .DDR_ALERT_CLR]
  | .DDR_EVAC => [.DDR_EVAC_PCT, .DDR_EVAC_UNPLANNED, .DDR_EVAC_LOST]
  | .FENCE_MAP => [.FENCE_MAP_UNITS]
  | .FENCE_LAST => [.FENCE_LAST_CLASS, .FENCE_LAST_INDEX, .FENCE_LAST_CAUSE, .FENCE_LAST_CLR]
  | .FENCE_EVT_VEC => [.FENCE_EVT_VEC_VECTOR, .FENCE_EVT_VEC_EN]
  | .TEL_STATUS => [.TEL_STATUS_SNAPS, .TEL_STATUS_SNAP_LOST, .TEL_STATUS_LOG_LOST, .TEL_STATUS_CLR]
  | .TEL_TWARN => [.TEL_TWARN_DEG]
  | .TEL_EVT_VEC => [.TEL_EVT_VEC_VECTOR, .TEL_EVT_VEC_EN]
  | .TEL_SCRUB => [.TEL_SCRUB_CORR, .TEL_SCRUB_CLR]
  | .TEL_LIFE_WARN => [.TEL_LIFE_WARN_STROBES, .TEL_LIFE_WARN_EN]
  | .TEL_TEMP => [.TEL_TEMP_NOW, .TEL_TEMP_MAX, .TEL_TEMP_CLR]
  | .SPG_CTRL => [.SPG_CTRL_PERIOD_H, .SPG_CTRL_EN]
  | .SPG_STATUS => [.SPG_STATUS_PASS_PCT, .SPG_STATUS_WAITING, .SPG_STATUS_PASSES]
  | .SPG_FOUND => [.SPG_FOUND_CE, .SPG_FOUND_UE, .SPG_FOUND_CLR]
  | .FLS_STATUS => [.FLS_STATUS_PRESENT, .FLS_STATUS_BUSY, .FLS_STATUS_READY, .FLS_STATUS_HANDOVER, .FLS_STATUS_ERR]
  | .FLS_XIP => [.FLS_XIP_FLA_EN, .FLS_XIP_FLB_EN]
  | .FLS_BOOT => [.FLS_BOOT_SRC, .FLS_BOOT_STATE, .FLS_BOOT_TRIES, .FLS_BOOT_FELL_BACK, .FLS_BOOT_WAIT_HOST, .FLS_BOOT_CAUSE, .FLS_BOOT_FW_ROLLBACK]
  | .FLS_FW_VER => [.FLS_FW_VER_VERSION]
  | .FLS_HOSTLOAD => [.FLS_HOSTLOAD_FW_LEN, .FLS_HOSTLOAD_MASH_LEN]
  | .FLS_HANDOVER => [.FLS_HANDOVER_COUNT, .FLS_HANDOVER_HANDBACKS, .FLS_HANDOVER_LAST_MS]
  | .CASK_STATUS => [.CASK_STATUS_STATE, .CASK_STATUS_DEFERRED]
  | .CASK_SCHEMA => [.CASK_SCHEMA_CUR, .CASK_SCHEMA_PINNED]
  | .CASK_WEAR => [.CASK_WEAR_MAX_ERASE, .CASK_WEAR_FREE]
  | .USB_STATUS => [.USB_STATUS_VBUS, .USB_STATUS_HS, .USB_STATUS_CONFIGURED, .USB_STATUS_SUSPENDED, .USB_STATUS_ADDRESS]
  | .USB_CTRL => [.USB_CTRL_EN, .USB_CTRL_SVC_WRITE]
  | .USB_ID => [.USB_ID_VID, .USB_ID_PID]
  | .USB_COUNTS => [.USB_COUNTS_ABANDONED, .USB_COUNTS_STALLS, .USB_COUNTS_EVT_LOST, .USB_COUNTS_CLR]
  | .VP_STATUS => [.VP_STATUS_RUNNING, .VP_STATUS_PENDING, .VP_STATUS_EXTENDED, .VP_STATUS_CMD_ERR, .VP_STATUS_ERR]
  | .VP_CTRL => [.VP_CTRL_EN, .VP_CTRL_MODE, .VP_CTRL_FORMAT, .VP_CTRL_COMMIT, .VP_CTRL_REFRESH, .VP_CTRL_STATIC_FRAMES]
  | .VP_FB_BASE => [.VP_FB_BASE_ADDR]
  | .VP_FB_STRIDE => [.VP_FB_STRIDE_BYTES]
  | .VP_H_TIMING => [.VP_H_TIMING_HACTIVE, .VP_H_TIMING_HFP, .VP_H_TIMING_HSYNC, .VP_H_TIMING_HBP]
  | .VP_V_TIMING => [.VP_V_TIMING_VACTIVE, .VP_V_TIMING_VFP, .VP_V_TIMING_VSYNC, .VP_V_TIMING_VBP]
  | .VP_VFP_MAX => [.VP_VFP_MAX_LINES]
  | .VP_LINK => [.VP_LINK_PCLK, .VP_LINK_LANES, .VP_LINK_TE_POL, .VP_LINK_LANE_MBPS_10]
  | .VP_CMD_CTRL => [.VP_CMD_CTRL_DT, .VP_CMD_CTRL_LEN, .VP_CMD_CTRL_SEND, .VP_CMD_CTRL_BUSY]
  | .VP_CMD_DATA => [.VP_CMD_DATA_BYTES]
  | .VP_COUNTS => [.VP_COUNTS_UNDERRUN, .VP_COUNTS_NO_TE, .VP_COUNTS_COMMITS, .VP_COUNTS_CLR]
  | .TIME_NS_B => [.TIME_NS_B_STAMP]
  | .TIME_SEC_LO_B => [.TIME_SEC_LO_B_SEC]
  | .TIME_SEC_HI_B => [.TIME_SEC_HI_B_SEC]
  | .TIME_NSF_B => [.TIME_NSF_B_NS]

/-- The registers of one block type. -/
def Block.regs : Block → List Reg
  | .grist =>
    [.GRS_MAGIC, .GRS_FORMAT, .GRS_GEN, .GRS_DEVICE, .GRS_IMAGE_ID, .GRS_TABLE_OFFSET, .GRS_TABLE_COUNT,
     .GRS_TABLE_CRC, .GRS_NOTIFY, .GRS_STALE, .GRS_CAUSE]
  | .rcp =>
    [.RST_CAUSE, .RST_CAUSE_INFO, .RST_STATUS, .RST_STRAPS, .RST_CTRL, .CLK_STATUS, .PWR_REQ, .PWR_STATE, .PWR_ERR,
     .PWR_PSTATE]
  | .mash =>
    [.MASH_STATUS, .MASH_ERR, .MASH_ROLLBACK, .MASH_OEM, .MASH_IMAGE_VER, .MASH_PATCHES, .MASH_COMPOSITE]
  | .qm =>
    [.QM_CTRL, .QM_STATUS, .QM_ASQ_BASE, .QM_ACQ_BASE, .QM_ADMIN_DEPTH, .QM_OPTAB, .QM_DB_ERR, .QM_OVF_LAST,
     .QM_BAR4_BASE, .QM_FLR_DROPPED]
  | .jsa =>
    [.JSA_MAPPED]
  | .intake =>
    [.INT_ARCH_STATUS, .INT_ARCH_DROPPED, .INT_FAULT_LOG]
  | .codec =>
    [.CDC_STATUS, .CDC_ENC_CTRL, .CDC_BLOCKS, .CDC_FAIL]
  | .tun =>
    [.TUN_STATUS, .TUN_LINE, .TUN_FAULT, .TUN_FAULT_LINE, .TUN_ECC, .TUN_LIMIT, .TUN_PAUSE, .TUN_PROG_ID,
     .TUN_SLICE_MAX]
  | .screen =>
    [.SCR_GEN, .SCR_SWITCH, .SCR_STATUS, .SCR_OUT, .SCR_BRIDGE_CTRL, .SCR_BRIDGE_LOST, .SCR_CLIP, .SCR_BRIDGE_SET,
     .SCR_BRIDGE_CLR]
  | .underback =>
    [.UB_LEAD, .UB_TAIL, .UB_WATER, .UB_HIGH, .UB_LEVEL, .UB_LATE_COUNT]
  | .grantBuf =>
    [.GB_LEVEL]
  | .headPort =>
    [.FIRE_CH_STATUS, .FIRE_CH_TRIM, .FIRE_CH_GEOM, .FIRE_CH_FLIGHT, .FIRE_CH_LINES, .FIRE_CH_DROPPED]
  | .sequencer =>
    [.FIRE_STATUS, .FIRE_TIMING, .FIRE_SCHED, .FIRE_RATE, .FIRE_PMIN, .FIRE_MINPULSE, .FIRE_LINE, .FIRE_APPLY_LINE,
     .FIRE_DROPPED, .FIRE_MISSED, .FIRE_VOTE, .FIRE_TRIG, .FIRE_FLIGHT]
  | .kiln =>
    [.KILN_STATUS, .KILN_SEAL_KEY, .KILN_DIGEST, .KILN_HPWR_REQ, .KILN_HPWR_ON, .KILN_CLIP_LINES, .KILN_CLIP_STROBES,
     .KILN_CLIP_LAST, .KILN_UNSEALED, .KILN_ALARM, .KILN_ALARM_VEC, .KILN_CH_CLIP]
  | .motion =>
    [.MOT_STATUS, .MOT_POS, .MOT_SPEED, .MOT_STOPDIST, .MOT_BS_COUNT, .MOT_BS_DIST, .MOT_BS_RESUME, .MOT_BS_ERR,
     .MOT_GAP, .MOT_INPUTS, .MOT_SPLICE_LINE, .MOT_REFUSED, .MOT_HARD_LINES]
  | .encoders =>
    [.ENC_STATUS, .ENC_EVENT, .ENC_IRQ, .ENC_DR, .ENC_SLIP, .ENC_REBASE, .ENC_UNCMD, .ENC_POS, .ENC_SPEED, .ENC_AMP,
     .ENC_FAULT]
  | .camera =>
    [.CAM_STATUS, .CAM_FRAME, .CAM_LOST, .CAM_PHY_ERR, .CAM_STALE]
  | .isp =>
    [.ISP_STATUS, .ISP_RECAL, .ISP_SHADOW_CTRL, .ISP_BLACK]
  | .gravity =>
    [.GRAV_STATUS, .GRAV_TBL_ADDR, .GRAV_FOREIGN, .GRAV_LAST_OUT, .GRAV_EVT_VEC, .GRAV_CH_STATUS, .GRAV_CH_QUAL,
     .GRAV_CH_COUNT, .GRAV_CH_CTRL]
  | .sightGlass =>
    [.SG_STATUS, .SG_CTRL, .SG_BUS, .SG_LAST_VIOL, .SG_VIOL]
  | .time =>
    [.TIME_NS, .TIME_SEC_LO, .TIME_SEC_HI, .TIME_NSF, .TIME_SET_NS, .TIME_SET_SEC_LO, .TIME_SET_SEC_HI, .TIME_CMD,
     .TIME_ADJ, .TIME_INCR, .TIME_STATUS, .TIME_NS_B, .TIME_SEC_LO_B, .TIME_SEC_HI_B, .TIME_NSF_B]
  | .ethernet =>
    [.ETH_STATUS, .ETH_ASYM, .ETH_TXTS_STATUS, .ETH_TXTS_LOST, .ETH_TXTS_ENTRY0, .ETH_TXTS_ENTRY1, .ETH_TXTS_ENTRY2,
     .ETH_TXTS_ENTRY3]
  | .wortLane =>
    [.WL_LANE_STATUS, .WL_LANE_EYE, .WL_LANE_FEC, .WL_LANE_RETRAINS]
  | .wortPort =>
    [.WL_PORT_STATUS, .WL_PORT_CTRL, .WL_PEER, .WL_PORT_ERR, .WL_VC_CREDIT]
  | .trio =>
    [.TRIO_STATUS, .TRIO_CFG, .TRIO_AGREE, .TRIO_HANDOVER, .TRIO_EVENTS, .TRIO_LAST, .TRIO_COMP, .TRIO_EVT_VEC]
  | .hierarchy =>
    [.BAR_STATUS, .BAR_SELF_ID, .BAR_UNBOUND, .BAR_HOLD, .BAR_TIME_OFS, .BAR_RESYNC, .BAR_COV_VEC, .BAR_COV_EVENTS,
     .BAR_COV_MAP, .BAR_COV_CAUSE]
  | .ddr =>
    [.DDR_STATUS, .DDR_GEOM, .DDR_ECC, .DDR_ECC_ADDR, .DDR_ALERT, .DDR_EVAC]
  | .sparge =>
    [.SPG_CTRL, .SPG_STATUS, .SPG_FOUND]
  | .flash =>
    [.FLS_STATUS, .FLS_XIP, .FLS_BOOT, .FLS_FW_VER, .FLS_HOSTLOAD, .FLS_HANDOVER]
  | .cask =>
    [.CASK_STATUS, .CASK_SCHEMA, .CASK_WEAR]
  | .fence =>
    [.FENCE_MAP, .FENCE_LAST, .FENCE_EVT_VEC]
  | .telemetry =>
    [.TEL_STATUS, .TEL_TWARN, .TEL_EVT_VEC, .TEL_SCRUB, .TEL_LIFE_WARN, .TEL_TEMP]
  | .usb =>
    [.USB_STATUS, .USB_CTRL, .USB_ID, .USB_COUNTS]
  | .viewport =>
    [.VP_STATUS, .VP_CTRL, .VP_FB_BASE, .VP_FB_STRIDE, .VP_H_TIMING, .VP_V_TIMING, .VP_VFP_MAX, .VP_LINK,
     .VP_CMD_CTRL, .VP_CMD_DATA, .VP_COUNTS]

/-- All block types, in the order of their codes. -/
def Block.all : List Block :=
  [.grist, .rcp, .mash, .qm, .jsa, .intake, .codec, .tun, .screen, .underback, .grantBuf, .headPort, .sequencer, .kiln, .motion, .encoders, .camera, .isp, .gravity, .sightGlass, .time, .ethernet, .wortPort, .wortLane, .trio, .hierarchy, .ddr, .sparge, .flash, .cask, .fence, .telemetry, .usb, .viewport]

/-- The reset value of field `f` at index `k`; PWR_REQ4 and its companions have only bits 3:0 (the PWR_REQn table). -/
def Fld.reset (f : Fld) (k : Nat) : Nat :=
  match f with
  | .PWR_REQ_ON => if k = 4 then 0xF else 0xFFFFFFFF
  | f => f.desc.reset

/-- The reset domain of a register at an instance: `none` for PD_AON. -/
def Dom.domain (d : Dom) (inst : Nat) : Option Nat :=
  match d with
  | .aon => none
  | .aonPor => none
  | .pd n => some n
  | .per b m => some (b + m * inst)

end Sys2Proof.Machine
end

