-- ==== Sys2Proof/Machine/Tab.lean ====
section
/-! DEFINITION. Sparse tables: a list of key and value pairs in ONE canonical form (keys strictly rising, no entry equal to
what an unlisted key reads as). Registers, memories and every per-unit structure of State are held in this form. The order
`lt` and the value `d` of an unlisted key are arguments, so that the form is one definition for all of them. -/

namespace Sys2Proof.Machine

/-- What a table says of a key: the listed value, else the value `d` gives an unlisted key. -/
def Tab.get {κ α : Type} [DecidableEq κ] (d : κ → α) : List (κ × α) → κ → α
  | [], k => d k
  | e :: t, k => if e.1 = k then e.2 else Tab.get d t k

/-- The table without the key. -/
def Tab.erase {κ α : Type} [DecidableEq κ] : List (κ × α) → κ → List (κ × α)
  | [], _ => []
  | e :: t, k => if e.1 = k then Tab.erase t k else e :: Tab.erase t k

/-- The table with the key's value put at its place in the order. -/
def Tab.ins {κ α : Type} [DecidableEq κ] (lt : κ → κ → Bool) : List (κ × α) → κ → α → List (κ × α)
  | [], k, v => [(k, v)]
  | e :: t, k, v =>
    if e.1 = k then (k, v) :: t
    else if lt k e.1 then (k, v) :: e :: t
    else e :: Tab.ins lt t k v

/-- Writing a key: a value equal to what the unlisted key reads as removes the entry. -/
def Tab.put {κ α : Type} [DecidableEq κ] [DecidableEq α] (lt : κ → κ → Bool) (d : κ → α)
    (t : List (κ × α)) (k : κ) (v : α) : List (κ × α) :=
  if v = d k then Tab.erase t k else Tab.ins lt t k v

/-- The keys of a table rise strictly. -/
def Tab.rising {κ α : Type} (lt : κ → κ → Bool) : List (κ × α) → Bool
  | [] => true
  | e :: t => t.all (fun f => lt e.1 f.1) && Tab.rising lt t

/-- The canonical form: keys strictly rising, no entry equal to what its key would read as unlisted. -/
def Tab.wf {κ α : Type} [DecidableEq α] (lt : κ → κ → Bool) (d : κ → α) (t : List (κ × α)) : Bool :=
  Tab.rising lt t && t.all (fun e => decide (e.2 ≠ d e.1))

/-- Keeps the entries whose key passes; the others read as unlisted again. -/
def Tab.keep {κ α : Type} (p : κ → Bool) (t : List (κ × α)) : List (κ × α) :=
  t.filter (fun e => p e.1)

/-- The order of numeric keys. -/
def ltNat (a b : Nat) : Bool := decide (a < b)

end Sys2Proof.Machine
end

