-- ==== Sys2Proof/Machine/State.lean ====
section
/-! DEFINITION. The state of a GK6440: plain data, holding every register of spec/ (field by field in `regs`), every memory,
queue, counter and latch its rules name, and the commands that are waiting. -/

namespace Sys2Proof.Machine

/-- Why the block stops. No path of the model raises it at present: every command has an effect or none. -/
inductive Fault where
  /-- Raised by nobody: kept so that the type is inhabited by a named reason. Safe. -/
  | noEffectGiven (mnemonic : String)
  deriving DecidableEq, Repr

/-- Why a command is not carried out. -/
inductive Refusal where
  /-- The command has no meaning in this model yet; raised by `exec` alone. Safe. -/
  | notModelled (mnemonic : String)
  deriving DecidableEq, Repr

/-- The outcome of a command. -/
abbrev Res (σ : Type) := Host.Outcome σ Fault Refusal

/-! ## Registers -/

/-- Which field of which register: the block instance and the index within an array of registers. -/
structure FKey where
  fld  : Fld
  inst : Nat
  idx  : Nat
  deriving DecidableEq, Repr

/-- The order of register keys: by field, then instance, then index. -/
def FKey.lt (a b : FKey) : Bool :=
  decide (a.fld.ctorIdx < b.fld.ctorIdx ∨
    (a.fld.ctorIdx = b.fld.ctorIdx ∧ (a.inst < b.inst ∨ (a.inst = b.inst ∧ a.idx < b.idx))))

/-- What a field that is not listed reads as: its reset value. -/
def FKey.dflt (k : FKey) : Nat := k.fld.reset k.idx

/-- A register, its instance and index, as seen by one agent's 64-bit read latch or write buffer (R10). -/
structure HalfKey where
  fw   : Bool
  reg  : Reg
  inst : Nat
  idx  : Nat
  deriving DecidableEq, Repr

/-- Memory: address and byte pairs in the canonical form of Tab. -/
abbrev Memory := List Host.Cell

/-! ## The Grist map (R60-R66) -/

/-- One entry of the Grist table, less what follows from TYPE and INSTANCE (domains, fence units) and from the live state
(FLAGS). -/
structure GEntry where
  block   : Block
  inst    : Nat
  version : Nat
  regrev  : Nat
  off     : Nat
  size    : Nat
  caps    : Nat
  deriving DecidableEq, Repr

/-- The two entries whose places are fixed (R61); VERSION and REGREV 1.0 (log entry 4). -/
def fixedEntries : List GEntry :=
  [{ block := .grist, inst := 0, version := 0x0100, regrev := 0x0100, off := 0, size := 0x1000, caps := 0 },
   { block := .rcp, inst := 0, version := 0x0100, regrev := 0x0100, off := 0x1000, size := 0x1000, caps := 0 }]

/-- The other blocks of the boot set, in the order of R60, with their instances (R64). -/
def bootBlocks : List (Block × Nat) :=
  [(.mash, 0), (.qm, 0), (.kiln, 0), (.time, 0)] ++ (List.range 4).map (fun i => (.wortPort, i)) ++
  (List.range 36).map (fun i => (.wortLane, i)) ++ (List.range 6).map (fun i => (.ddr, i)) ++
  [(.flash, 0), (.cask, 0), (.fence, 0), (.telemetry, 0)]

/-- The boot set (R64, R65). spec/ places only the fixed two; the others stand in 4 KiB each from 0x0010_0000 on (log entry 4). -/
def bootSet : List GEntry :=
  fixedEntries ++ (List.range bootBlocks.length).map (fun k =>
    let b := bootBlocks.getD k (.mash, 0)
    { block := b.1, inst := b.2, version := 0x0100, regrev := 0x0100, off := 0x100000 + 0x1000 * k, size := 0x1000, caps := 0 })

/-- A rewrite of the table that has become due (R66): its cause code and what the table then says. -/
structure GRewrite where
  cause   : Nat
  entries : List GEntry
  imageId : Nat
  deriving DecidableEq, Repr

/-! ## Mash images (R70-R97) -/

/-- A section of an image: its directory entry and payload (R72, R74). -/
structure Sect where
  type    : Nat
  scope   : Nat
  index   : Nat
  version : Nat
  quiesce : Nat
  bytes   : List Byte
  deriving DecidableEq, Repr

/-- What the loader keeps of an image it has read. -/
structure Image where
  full     : Bool
  version  : Nat
  rollback : Nat
  fwMin    : Nat
  fwMax    : Nat
  baseId   : Nat
  hash     : List Byte
  sealKey  : Nat
  sects    : List Sect
  deriving DecidableEq, Repr

/-- A staging slot: the handle that names it (0 for the boot image), and its image once checked. Committed full images stand last, in the
order of their MASH_COMMITs. -/
structure Staged where
  handle    : Nat
  image     : Image
  committed : Bool
  /-- a full image being written into the blocks (APPLY) -/
  applying  : Bool := false
  deriving DecidableEq, Repr

/-- The loader front end's work: the MASH_STAGE in hand. -/
structure Loading where
  handle : Nat
  source : Nat
  host   : Bool
  length : Nat
  bytes  : List Byte
  boot   : Bool
  deriving DecidableEq, Repr

/-- Where a change set stands: which rule of R91 chose its line, whether the choice is final, what has switched. -/
structure ChangeSet where
  handle   : Nat
  commitOp : Nat
  image    : Image
  target   : Nat
  deadline : Nat
  bsOk     : Bool
  line     : Option Nat
  rule     : Nat
  final    : Bool
  applied  : List Nat
  /-- R34, R95: the press device indices of the other devices a set that spans devices concerns, and the composites that those which take
  part have once it is in force (R342) -/
  others   : List Nat := []
  after    : List (Nat × Nat) := []
  deriving DecidableEq, Repr

/-! ## Queues and handles (R98-R120) -/

/-- A completion entry (R107), and whether its command asked for an interrupt (FLAGS.IRQ). -/
structure CqEntry where
  handle : Nat
  status : Nat
  final  : Bool
  result : Nat
  detail : Nat
  irq    : Bool
  /-- writing this entry to the CQ frees the slot of its handle (R109) -/
  frees  : Bool
  deriving DecidableEq, Repr

/-- One remembered request tag (R110). -/
structure TagEntry where
  tag    : Nat
  opcode : Nat
  crc    : Nat
  handle : Nat
  status : Nat
  deriving DecidableEq, Repr

/-- A queue pair (R102-R107, R118-R120). -/
structure QPair where
  enabled  : Bool := false
  depth    : Nat := 0
  sqBase   : Nat := 0
  cqBase   : Nat := 0
  sqHead   : Nat := 0
  sqTail   : Nat := 0
  cqHead   : Nat := 0
  cqTail   : Nat := 0
  phase    : Bool := true
  aggCount : Nat := 1
  aggUsec  : Nat := 0
  unsig    : Nat := 0
  overflow : List CqEntry := []
  fenced   : Bool := false
  resuming : Bool := false
  held     : List CqEntry := []
  heldN    : Nat := 0
  tags     : List TagEntry := []
  deriving DecidableEq, Repr

/-- A slot of the operation table (R108, R109): its generation outlives its use. `remote` marks a command forwarded to
another device, `dest`. `route` says where its completions go: 0 its CQ, 1 the slot (its pair was deleted, R103), 2 nowhere (R101), 3 the
device that forwarded it (R106). -/
structure Slot where
  inUse  : Bool := false
  gen    : Nat := 0
  sq     : Nat := 0
  opcode : Nat := 0
  irq    : Bool := false
  tag    : Nat := 0
  status : Nat := 0
  final  : Bool := false
  keep   : Bool := false
  held   : Bool := false
  route  : Nat := 0
  remote : Bool := false
  dest   : Nat := 0
  param  : List Byte := []
  deriving DecidableEq, Repr

/-! ## Time, events -/

/-- The time counter (R308): seconds, nanoseconds, fraction in 2^-32 ns. -/
structure Clock where
  sec  : Nat
  nsf  : Nat
  frac : Nat
  deriving DecidableEq, Repr

/-- A transmit time stamp (R316). -/
structure TxStamp where
  sec   : Nat
  ns    : Nat
  frac  : Nat
  seq   : Nat
  type  : Nat
  epoch : Nat
  mac   : Bool
  deriving DecidableEq, Repr

/-- An Ethernet port's internals: stamp taken and not yet pushed, transmit stamp queue (oldest first), block lock lost within
the last microsecond (R315). -/
structure Eth where
  taken    : Option TxStamp := none
  queue    : List TxStamp := []
  lockLost : Bool := false
  txLat    : Nat := 0
  rxLat    : Nat := 0
  deriving DecidableEq, Repr

/-- A telemetry log entry (R393). -/
structure TelEvt where
  time : Nat
  code : Nat
  unit : Nat
  line : Nat
  deriving DecidableEq, Repr

/-! ## Intake, codec, screening, firing: one channel (R121-R227) -/

/-- A compressed block in a channel's intake queue (R133, R134): its page, the page's first line, place in the strip, first press
line, the plane lines its entry names, the bytes (none while it is refetched), the units of the queue it takes, how often it has failed,
the codec instance and decode lane that hold it (lane + 1, 0 none), whether it has passed, and its samples once decoded. -/
structure QBlock where
  page    : Nat
  pfirst  : Nat
  index   : Nat
  first   : Nat
  lines   : Nat
  bytes   : List Byte
  room    : Nat := 0
  fails   : Nat := 0
  inst    : Nat := 0
  lane    : Nat := 0
  passed  : Bool := false
  /-- its lines move on to screening; it stays in the queue until the last one has (R154) -/
  moved   : Bool := false
  samples : List (List Nat) := []
  deriving DecidableEq, Repr

/-- A block whose lines have moved on to screening (R154): the first press line, the page's first line, plane lines, and the
half of the decode buffer that holds them. -/
structure RelBlock where
  first  : Nat
  page   : Nat
  pfirst : Nat
  lines  : Nat
  half   : Nat
  deriving DecidableEq, Repr

/-- A screened line: its press line number, its dot codes, and whether a double-bit error reached it (R385). -/
structure Line where
  no    : Nat
  codes : List Nat
  bad   : Bool := false
  deriving DecidableEq, Repr

/-- A line of the row store (R206), after reduction and bridging. -/
structure RowLine where
  no     : Nat
  codes  : List Nat
  deriving DecidableEq, Repr

/-- A line of the reference tail (R24, R273): the codes as they fired, unfired mark, frames that examined it. -/
structure TailLine where
  no      : Nat
  codes   : List Nat
  unfired : Bool
  deriving DecidableEq, Repr

/-- The firing values of R207. -/
structure Setup where
  strobe : Nat
  gap    : Nat
  dead   : Nat
  conc   : Nat
  smax   : Nat
  deriving DecidableEq, Repr

/-- A prepared line (R210): assembled, and Kiln-checked codes; the firing values and the HEAD_GEOM payload of its take; whether it came from
the grant buffer and not from a page gap; prepared at rest (R448), the instant its loading may begin (1/128 tick), and a double-bit error. -/
structure Prep where
  no     : Nat
  line   : List Nat
  codes  : List Nat
  setup  : Setup
  geom   : List Byte
  stock  : Bool
  rest   : Bool
  from_  : Nat
  bad    : Bool
  /-- what the preparation counts: codes reduced (R190), strobes lost (R197), and a clip: strobes removed, slot, cause (R222) -/
  cut    : Nat
  lost   : Nat
  clip   : Option (Nat × Nat × Nat)
  deriving DecidableEq, Repr

/-- The line in its schedule (R208): number, codes, values, HEAD_GEOM payload, instant F in 1/128 ticks, strobes begun or omitted, whether
its first command has gone (R209), and the end of its latest FIRE_N pulse in 1/128 ticks. -/
structure Firing where
  no    : Nat
  codes : List Nat
  setup : Setup
  geom  : List Byte
  f     : Nat
  begun : Nat
  sent  : Bool := false
  lit   : Nat := 0
  deriving DecidableEq, Repr

/-- A head channel and its tun's part outside the engines. -/
structure Chan where
  intake    : List QBlock := []
  /-- bytes of intake credit granted and not yet used (R134), and whether INTAKE has been reported -/
  credit    : Nat := 0
  reported  : Bool := false
  released  : List RelBlock := []
  half      : Nat := 0
  /-- R25: the channel does not take part until firing reaches the first line of the first page that begins at or above `joinFrom`, and
  line `joinLow`; blocks of pages that begin below `fromPage` are released unscreened (R175); `lastFirst` is 1 + the first line of the
  latest page a block of which has entered the intake queue, 0 if none ever came -/
  out       : Bool := false
  fromPage  : Nat := 0
  joinFrom  : Nat := 0
  joinLow   : Nat := 0
  lastFirst : Nat := 0
  /-- dot codes of lines being screened, by line number (STAGE) -/
  stage     : List (Nat × List Nat) := []
  lead      : List Line := []
  grant     : List Line := []
  /-- lines whose line event has been applied and whose F is still to come (R208, R210) -/
  fly       : List Line := []
  tail      : List TailLine := []
  rows      : List RowLine := []
  preps     : List Prep := []
  /-- the line after the last one taken, and the line after the last one whose F has come -/
  taken     : Nat := 0
  reached   : Nat := 0
  /-- the latest F that has come, in 1/128 ticks -/
  lastF     : Nat := 0
  firing    : Option Firing := none
  /-- line events applied whose F is due: line, instant in 1/128 ticks -/
  due       : List (Nat × Nat) := []
  /-- R197, R198: bridge mask in force, host requests, gravity-loop requests, APPLY pending; one bit per nozzle -/
  bridge    : Nat := 0
  setReq    : Nat := 0
  clrReq    : Nat := 0
  gravSet   : Nat := 0
  gravClr   : Nat := 0
  /-- R289: bridge bits the gravity loop sets when firing reaches a line: the line, the bits -/
  gravLate  : Nat × Nat := (0, 0)
  apply     : Bool := false
  /-- R194: a generation prepared: shadow of a change set or the gravity loop's; the other bank is in use -/
  pendGen   : Option Bool := none
  /-- R196: the change set whose shadow is prepared (its staging handle) -/
  shadowOf  : Nat := 0
  bank      : Nat := 0
  switch    : Nat := 0
  /-- R194: the other bank has been in force, and was retired at `switch` -/
  retired   : Bool := false
  /-- the line after the last one moved to the lead -/
  screened  : Nat := 0
  /-- R198: switch lines that firing has not yet reached, with the nozzles OUT in the generation that switches there -/
  toSwitch  : List (Nat × Nat) := []
  /-- R176: pause point, step of the live replacement (0 none, 1 draining, 2 loading) -/
  pause     : Option Nat := none
  pauseStep : Nat := 0
  /-- R226: PWR_SETTLE running; FIRE_N inactive until it ends -/
  settling  : Bool := false
  /-- R227: a condition of R226 has ceased to hold, and HPWR_EN_N is not inactive yet -/
  cut       : Bool := false
  /-- R25: lines discarded and line events unfired while fenced -/
  discarded : Nat := 0
  unfired   : Nat := 0
  /-- R161: tun SRAM, 1 MiB -/
  sram      : Memory := []
  /-- R441: HEAD_ID read at enable -/
  headId    : Nat := 0
  deriving DecidableEq, Repr

/-- A pixel engine (R159): vector registers as 32 lanes of 16 bits, scalar and predicate registers, stacks, stores, edge
channels to its right and left neighbours, and its slice. -/
structure Eng where
  v       : List (Nat × List Nat) := []
  sreg    : List (Nat × Nat) := []
  p       : List (Nat × Nat) := []
  istore  : List Byte := []
  lmem    : Memory := []
  rstack  : List Nat := []
  /-- loop stack: first and last instruction of the body, runs left, innermost first -/
  lstack  : List (Nat × Nat × Nat) := []
  toRight : List (List Nat) := []
  toLeft  : List (List Nat) := []
  pc      : Nat := 0
  running : Bool := false
  /-- waiting on an edge channel (R167) -/
  waiting : Bool := false
  line    : Nat := 0
  /-- the line after the last one it ended, 0 if none -/
  ended   : Nat := 0
  /-- the least number of cycles its slice can have taken so far (R166, R172) -/
  cyc     : Nat := 0
  deriving DecidableEq, Repr

/-- A page the press manager (or a worker, from its blocks) knows (R126-R132): state 0 running, 1 ended CHECK_FAILED,
2 complete, 3 cancelled. -/
structure Page where
  id        : Nat
  handle    : Nat
  first     : Nat
  lines     : Nat
  gap       : Nat
  last      : Bool
  desc      : Nat
  state     : Nat
  backsteps : Nat
  failLine  : Nat
  /-- blocks sent of each strip: key 2048 × plane entry + strip entry -/
  sent      : List (Nat × Nat)
  /-- R130: strips with a fault not yet covered by a resend: key, slot 64 × d + c -/
  faults    : List (Nat × Nat) := []
  deriving DecidableEq, Repr

/-- A command that waits for firmware (R36), with what it brought. -/
inductive FwOp where
  | jsaMap (d : Desc)
  | jsaUnmap (d : Desc)
  | barEnum (d : Desc) (found : List Found)
  | barBind (d : Desc)
  | barRelease (d : Desc)
  | caskConfirm (d : Desc)
  | coverage (index mask cause unbound : Nat)
  deriving DecidableEq, Repr

/-- A mapped extent (R122): host window or store port, base; once it is closing, how many pages had been accepted by then (R124). -/
structure Extent where
  kind    : Nat
  port    : Nat
  base    : Nat
  closing : Option Nat
  deriving DecidableEq, Repr

/-- The inspection archive ring (R141-R144): a record is its frame number, stamp, camera and payload. -/
structure ArchFrame where
  frame : Nat
  time  : Nat
  cam   : Nat
  bytes : List Byte
  deriving DecidableEq, Repr
structure Archive where
  mask    : Nat := 0
  policy  : Nat := 0
  resume  : Nat := 0
  base    : Nat := 0
  size    : Nat := 0
  frames  : List ArchFrame := []
  holding : Bool := false
  deriving DecidableEq, Repr

/-- What a camera's frame brings to an encoder lane (R157): camera, frame number, stamp, depth, components, and a line (a list of
components), or its end. -/
structure EncItem where
  cam   : Nat
  frame : Nat
  time  : Nat
  depth : Nat
  comp  : Nat
  row   : Option (List (List Nat))
  deriving DecidableEq, Repr

/-- The encoder lane of a codec instance (R157): camera, number and stamp of the frame in hand, depth, components, the effort level and
lines of the open block (each line a list of components), flush pending, frame ended, closed blocks of the record in progress; what other
cameras have brought meanwhile, oldest first. -/
structure EncLane where
  cam   : Nat := 0
  frame : Nat := 0
  time  : Nat := 0
  depth : Nat := 0
  comp  : Nat := 1
  level : Nat := 0
  rows  : List (List (List Nat)) := []
  flush : Bool := false
  ended : Bool := false
  bytes : List Byte := []
  wait  : List EncItem := []
  /-- records complete, which wait for the ring -/
  ready : List ArchFrame := []
  deriving DecidableEq, Repr

/-- The firing sequencer (R199-R217). -/
structure Seq where
  /-- the next line to fire: the press line count -/
  next      : Nat := 0
  /-- frames received and not yet applied: line, reference instant in 1/128 ticks, lines missed before it -/
  events    : List (Nat × Nat × Nat) := []
  /-- R203: the line adopted from the bus when firing was last withheld -/
  adopted   : Nat := 0
  /-- COMP in force (R202) -/
  comp      : Nat := 0
  /-- firing values by the line from which they hold, newest first -/
  setups    : List (Nat × Setup) := []
  /-- R212-R214: an accepted FIRE_COMMIT, handle and values; one whose apply line has been taken: handle, that line, and T_LINE if its
  values are in force -/
  commit    : Option (Nat × Setup) := none
  tested    : Option (Nat × Nat × Option Nat) := none
  /-- R211: the latest lines dropped, newest first -/
  drops     : List Nat := []
  /-- R217: line of each copy's latest disagreement + 1 -/
  disagree  : List (Nat × Nat) := []
  /-- R203: the next line number a frame is expected to carry -/
  expect    : Nat := 0
  /-- R200: lines back within the slip window -/
  within    : Nat := 0
  /-- the line rate between the two latest line events applied, lines/s, and the instant of the latest -/
  rate      : Nat := 0
  latest    : Nat := 0
  /-- R235: D_STOP received for the latest line events: line, lines, newest first -/
  dists     : List (Nat × Nat) := []
  /-- line events applied and their instants, newest first -/
  applied   : List (Nat × Nat) := []
  deriving DecidableEq, Repr

/-- The Kiln's sealed data (R82, R218). -/
structure Seal where
  payload : List Byte
  key     : Nat
  digest  : Nat
  deriving DecidableEq, Repr

/-- An axis (R229-R240): 0 at rest, 1 MOT_MOVE, 2 MOT_SPEED, 3 on a ramped stop, 4 positioning in a backstep, 5 run-up and settle;
the target of a move, where the axis set out, where its steps cease if that is planned, the square of the commanded speed at the present
position (steps/s)², the cruise speed in force, the speed asked for last (steps/s) and the changes of cruise speed planned, each with the
position from which it holds (R234), the operations in hand, and a MOT_SPEED that waits for a ramped stop to end (handle, steps/s). -/
structure Axis where
  mode    : Nat := 0
  target  : Int := 0
  start   : Int := 0
  stopAt  : Option Int := none
  v2      : Rat := 0
  cruise  : Nat := 0
  aim     : Nat := 0
  changes : List (Int × Nat) := []
  moveOp  : Option Nat := none
  speedOp : Option Nat := none
  stopOps : List Nat := []
  next    : Option (Nat × Nat) := none
  deriving DecidableEq, Repr

/-- The web's timeline on AX0 (R230, R241-R244). -/
structure Timeline where
  /-- line origin -/
  y0       : Nat := 0
  p0       : Int := 0
  /-- the next line whose event may be raised -/
  raised   : Nat := 0
  /-- a line of the job has fired -/
  fired    : Bool := false
  /-- P_stop and P_rev of the backstep in progress -/
  pStop    : Int := 0
  pRev     : Int := 0
  /-- line events may be raised: the web runs from an origin and is in no positioning move, run-up or settle (R230, R241) -/
  live     : Bool := false
  /-- slots data late during it (R139), and whether it is a backstep and not a restart under R240 -/
  late     : List Nat := []
  counted  : Bool := false
  /-- a data-late condition that no backstep covers yet, and the line whose page it is laid to (R242, R129) -/
  due      : Bool := false
  blame    : Option Nat := none
  /-- the ramp under way is a stop of MOT_STOP, SPLICE_N or FLAGS.LAST, which a data-late condition turns into phase 1 (R242) -/
  turn     : Bool := false
  /-- failed resumes in a row (R243) -/
  fails    : Nat := 0
  /-- DEADLINE_LINE of a backstep-assisted apply (R244) -/
  assisted : Option Nat := none
  /-- a MOT_STOP holds the web after the positioning move (R237), the job ends at this stop (R128) -/
  stay     : Bool := false
  jobStop  : Bool := false
  /-- a hard stop of AX0: lines applied since count in MOT_HARD_LINES (R240) -/
  hard     : Bool := false
  /-- ENC0 has been rebased and slaved mode waits for 64 lines within the window (R252) -/
  noSlave  : Bool := false
  /-- ENC_DR.LINES at the start or restart from which DR_LIMIT counts, and whether that limit has been reached (R251) -/
  drBase   : Nat := 0
  drOver   : Bool := false
  deriving DecidableEq, Repr

/-- An encoder input (R245-R254): whether a sample has been taken, its phase, consecutive samples outside and inside the window, the
cause of a fault found and not yet acted on, whether the input is faulted, the extreme position in the present direction, positions of the
last 100 µs, newest first, the position and instant of the latest line event, and the slip reference (ENC0). -/
structure Scale where
  seen    : Bool := false
  phase   : Nat := 0
  bad     : Nat := 0
  good    : Nat := 0
  fault   : Nat := 0
  faulted : Bool := false
  far    : Int := 0
  past   : List Int := []
  atLine : Int := 0
  atTime : Nat := 0
  slip0  : Int := 0
  deriving DecidableEq, Repr

/-- A trigger that awaits row lines (R260): its covered line and the streams whose row line has not come, one bit each. -/
structure CamTrig where
  line : Nat
  left : Nat
  deriving DecidableEq, Repr

/-- An open frame of a camera port (R259, R269): its number, the stamp of its first trigger, STALE, aligned lines sent, and per
range the full-scale samples and the sums of each bin, channels 0, 1, 2. -/
structure CamFrame where
  no    : Nat
  time  : Nat
  stale : Bool := false
  sent  : Nat := 0
  sat   : List Nat := []
  sums  : List (List (List Nat)) := []
  deriving DecidableEq, Repr

/-- A camera port and its part of the ISP pipe (R255-R272). -/
structure Cam where
  /-- triggers planned: covered line, tick -/
  planned : List (Nat × Nat) := []
  trigs   : List CamTrig := []
  frames  : List CamFrame := []
  /-- per stream: the frame it is in, and the row lines of it received -/
  cur     : List (Option Nat × Nat) := [(none, 0), (none, 0), (none, 0)]
  /-- the covered line after the last one triggered, 0 at first; the highest frame opened or lost, + 1; closing triggers to come -/
  next    : Nat := 0
  top     : Nat := 0
  closing : Nat := 0
  /-- corrected row lines: row, exposure number, samples -/
  rows    : List (Nat × Nat × List Nat) := []
  /-- row lines since each row's black level began to be tracked (256 at most) -/
  tracked : List Nat := [0, 0, 0]
  /-- per row: the tracked black level b, and b_ref (R263, R271) -/
  black    : List Nat := [0, 0, 0]
  blackRef : List Nat := [0, 0, 0]
  /-- shading gains in force, and the shadow table (R272) -/
  gains   : List (List Nat) := []
  shadow  : Option (List (List Nat)) := none
  apply   : Bool := false
  deriving DecidableEq, Repr

/-- What the gravity loop keeps of a nozzle outside the table in DRAM (R284-R287): its out counter, the gravity its curve was built
from (0: its base curve is to be installed), the line at which it went out, on trial, frames in range on trial, wait waived. -/
structure Noz where
  cnt   : Nat := 0
  gc    : Nat := 4096
  outAt : Nat := 0
  trial : Bool := false
  good  : Nat := 0
  waive : Bool := false
  deriving DecidableEq, Repr

/-- A frame of the density window (R281): H_f and b_f per nozzle. -/
structure GravFrame where
  no : Nat
  h  : List Int
  b  : List Int
  deriving DecidableEq, Repr

/-- Partial work on a frame (R280, R281): its number, the press lines of an exposure, the sums so far, the sum of |r| / NOISE and its
samples, and whether a reference line was missing. -/
structure GravWork where
  no    : Nat
  div   : Nat
  h     : List Rat
  b     : List Rat
  resid : Rat := 0
  count : Nat := 0
  miss  : Bool := false
  deriving DecidableEq, Repr

/-- The gravity loop of one channel (R273-R292). -/
structure Grav where
  noz    : List (Nat × Noz) := []
  window : List GravFrame := []
  work   : Option GravWork := none
  /-- accepted frames since registration was last tracked (R290) -/
  since  : Nat := 0
  deriving DecidableEq, Repr

/-- A GRAV_REBIND that runs (R292): handle, channels, PCT, the line at which it ends; channels bound, and failed with their causes. -/
structure Rebind where
  handle : Nat
  mask   : Nat
  pct    : Nat
  until_ : Nat
  bound  : Nat
  failed : List (Nat × Nat)
  deriving DecidableEq, Repr

/-- A flash array (R399): its size in bytes, 0 if it is not used, and its bytes below the Cask region. -/
structure Flash where
  size : Nat := 0
  mem  : Memory := []
  deriving DecidableEq, Repr

/-- A valid record of the Cask (R410) and the array and sector that hold it. -/
structure CaskRec where
  array  : Nat
  sector : Nat
  kind   : Nat
  schema : Nat
  key    : Nat
  seq    : Nat
  data   : List Byte
  deriving DecidableEq, Repr

/-- A strobe's window (R295): its tick, number, nozzles firing, width; the channel block and mask of its line (R298); whether a sample of it
was tested, and one lay outside. -/
structure Win where
  e      : Nat := 0
  j      : Nat := 0
  nf     : Nat := 0
  width  : Nat := 0
  block  : List Byte := []
  mask   : List Byte := []
  tested : Bool := false
  hit    : Bool := false
  deriving DecidableEq, Repr

/-- A sense channel of the Sight Glass (R293-R298): latest code, comparator and its level; runs of full-scale and idle samples,
comparator edges without a crossing, edges that have two samples and one sample left to find one, samples since the latest crossing; the
channel block and mask of the line in its schedule; strobe windows, newest first; samples not yet judged (tick, code); a VIOL_N event not
yet taken: kind, point, strobe, tick, STOP. -/
structure Sense where
  code   : Nat := 0
  comp   : Bool := false
  level  : Nat := 0
  sat    : Nat := 0
  idle   : Nat := 0
  edges  : Nat := 0
  wait   : Nat × Nat := (0, 0)
  cross  : Nat := 3
  block  : List Byte := []
  mask   : List Byte := []
  wins   : List Win := []
  fifo   : List (Nat × Nat) := []
  due    : Option (Nat × Nat × Nat × Nat × Bool) := none
  deriving DecidableEq, Repr

/-- An event offered to the trigger sequencers (R300): its condition, channel or value, instant in 1/128 tick, the one sequencer it
is for (+ 1, 0 for all), and the level a sample of it crossed. -/
structure SgEvent where
  cond : Nat
  arg  : Nat
  at_  : Nat
  only : Nat := 0
  lvl  : Nat := 0
  deriving DecidableEq, Repr

/-- A trigger sequencer and its capture (R299-R304): the SG_ARM in hand; its fields; hold-off still to pass; the state, events counted in
it; the trigger once taken: instant, state, stamp, line, offset; samples stored: tick, one word per channel; samples passed since
arming; a complete record: instant of the trigger sample after the trigger point, and the words. -/
structure Ts where
  armed  : Option Nat := none
  decim  : Nat := 1
  record : Nat := 0
  pre    : Nat := 0
  mask   : Nat := 0
  holdTk : Bool := false
  holdEv : Nat := 0
  state  : Nat := 0
  count  : Nat := 0
  trig   : Option (Nat × Nat × Nat × Nat × Nat) := none
  stored : List (Nat × List Nat) := []
  seen   : Nat := 0
  ready  : Option (Nat × List (List Nat)) := none
  mode   : Nat := 0
  deriving DecidableEq, Repr

/-- A flit in the replay buffer (R331): its sequence, VC, 256 bytes, and how often it has been replayed. -/
structure Flit where
  seq     : Nat
  vc      : Nat
  bytes   : List Byte
  replays : Nat := 0
  deriving DecidableEq, Repr

/-- A STORE_RD in flight (R329): tag, address, length, bytes received. -/
structure StoreRead where
  tag  : Nat
  addr : Nat
  len  : Nat
  got  : Nat
  deriving DecidableEq, Repr

/-- A Wort lane's coder (R319): the last 58 scrambled bits, the codeword under way as a number with its bits so far, the next block's
place in its alignment group, and the group count. -/
structure LaneTx where
  scr   : Nat := 0
  acc   : Nat := 0
  len   : Nat := 0
  place : Nat := 0
  group : Nat := 0
  deriving DecidableEq, Repr

/-- A Wort port outside its registers (R319, R323-R332). -/
structure WortPort where
  /-- its lanes' coders, and the lane from which the next block is dealt (R328) -/
  lanes   : List (Nat × LaneTx) := []
  turn    : Nat := 0
  /-- next sequence to send, flits unacknowledged, flits that wait for credit or room: VC, type, first and last flags, payload -/
  txSeq   : Nat := 0
  replay  : List Flit := []
  waiting : List (Nat × Nat × Nat × List Byte) := []
  /-- the VC of 1 to 3 that is served, and flits it may still send in its turn (R330) -/
  serve   : Nat := 3
  quota   : Nat := 0
  /-- next sequence expected, a NAK sent and its replay not yet here, flits accepted since the latest ACK -/
  rxNext  : Nat := 0
  naked   : Bool := false
  unacked : Nat := 0
  /-- packets partly received: VC, type, payload so far, flits -/
  parts   : List (Nat × Nat × List Byte × Nat) := []
  /-- lanes the bring-up left (own mask), the mask of a WIDTH whose boundary has not come, the peer's role -/
  own     : Nat := 0
  width   : Option Nat := none
  role    : Nat := 0
  reads   : List StoreRead := []
  /-- lane and tick of each lane retrain, newest first -/
  hist    : List (Nat × Nat) := []
  deriving DecidableEq, Repr

/-- What a manager has bound at a position (R339, R341): whether it is bound at all, to any identity, the identity, the recorded COMP
(0xFFFF none), the expected composite and firmware band, whether it is persisted. -/
structure Bind where
  bound   : Bool := false
  any     : Bool := false
  id      : Nat := 0
  comp    : Nat := 0xFFFF
  expect  : Nat := 0
  fwMin   : Nat := 0
  fwMax   : Nat := 0
  persist : Bool := false
  deriving DecidableEq, Repr

/-- A device a manager has enumerated (R337): index (0xFFFF excess), role, upstream port, hops, causes as BAR_HOLD, identity, composite,
firmware, COMP set (0xFFFF none), unbound channels. -/
structure Dev where
  index     : Nat
  role      : Nat
  up        : Nat
  hops      : Nat
  cause     : Nat
  id        : Nat
  composite : Nat
  fw        : Nat
  comp      : Nat
  unbound   : Nat
  deriving DecidableEq, Repr

/-- The trio block outside its registers (R352-R360): pulls STEP_OWN; has claimed and waits 48 ticks; drivers enabled; agreeing lines
towards qualification; ACTIVE frames missed; YIELDs received, one bit per position; bad verdicts (position, line); the latest frame of
each member; a frame of T0 seen since the image came into force; the announced hand-over line; REVERT_REQ received or sent; own frame's
D_STOP as copied. -/
structure Trio where
  pulling  : Bool := false
  claiming : Bool := false
  drivers  : Bool := false
  agree    : Nat := 0
  missed   : Nat := 0
  /-- qualification lost since the latest frame of the active member, with which it fell silent -/
  lapsed   : Bool := false
  yields   : Nat := 0
  /-- has sent YIELD to the active member, or has yielded, and no other member is active yet -/
  yielding : Bool := false
  /-- a bad verdict of its own since the latest frame of the active member -/
  badLine  : Bool := false
  verdicts : List (Nat × Nat) := []
  frames   : List (Nat × List Byte) := []
  t0       : Bool := false
  handover : Option Nat := none
  revert   : Bool := false
  /-- a take-over has made this member the owner to be, and it has not claimed yet -/
  wants    : Bool := false
  /-- an owner notice received: position, and the line at which COMP switches (0: the next line boundary) -/
  notice   : Option (Nat × Nat) := none
  deriving DecidableEq, Repr

/-- A DDR channel outside its registers (R363-R384): trained since the release; alerts in a row on one command, whether the latest was a write CRC, the sparge's
next channel address, the ticks of the uncorrectable bursts of the last second, newest first; the tick at which its evacuation began;
when it failed with its bursts rehomed: the channel address below which they had been copied, and the device bursts written whole
since. -/
structure DdrCh where
  up     : Bool := false
  alerts : Nat := 0
  crc    : Bool := false
  spg    : Nat := 0
  ues    : List Nat := []
  evac   : Option Nat := none
  copied : Nat := 0
  healed : List Nat := []
  /-- a refresh of the grid fell within a replay (R374) -/
  behind : Bool := false
  /-- R380: in self-refresh through P2; what its DIMM's SPD hub says: GiB, x8, density, ranks − 1, row bits -/
  asleep : Bool := false
  geom   : List Nat := []
  deriving DecidableEq, Repr

/-- A DRAM bank (R370): the row accessed last, the 2-bit counter, and the tick of the latest access while its row is open. -/
structure Bank where
  row  : Option Nat := none
  ctr  : Nat := 0
  last : Option Nat := none
  deriving DecidableEq, Repr

/-- A head record (R389) less what follows from the nozzle counts: HEAD_ID, lines fired, ticks powered up to the latest switch-off, the
tick of the switch-on while powered, LIFE_WARN raised. -/
structure HeadRec where
  id      : Nat := 0
  lines   : Nat := 0
  powered : Nat := 0
  since   : Option Nat := none
  warned  : Bool := false
  deriving DecidableEq, Repr

/-- A hand-over in progress (R407, R408): handle, the new image, its source (0 FLA, 1 FLB, 2 host), SET_BOOT, and the source of the
firmware it replaces. -/
structure Handover where
  handle  : Nat
  image   : List Byte
  src     : Nat
  setBoot : Bool
  old     : Nat
  deriving DecidableEq, Repr

/-- The management firmware (R400-R413): the image in force, the Mash image of its set, what a Wort load has brought so far (firmware,
whether that is whole, Mash image) and the port it comes from, whether settings were read, whether this firmware was booted and not
handed over to, a hand-over, a checkpoint that waits for it, Cask writes deferred (kind, schema, key, data). -/
structure Firmware where
  image    : List Byte := []
  mash     : List Byte := []
  wortFw   : List Byte := []
  wortDone : Bool := false
  wortMash : List Byte := []
  wortFrom : Option Nat := none
  settings : Bool := false
  booted   : Bool := false
  hand     : Option Handover := none
  ckptDue  : Bool := false
  due      : List (Nat × Nat × Nat × List Byte) := []
  deriving DecidableEq, Repr

/-- The service port (R419, R420): words of a REG_WRITE accepted and not yet applied (offset, word), a control transfer that awaits its
status stage, EP1 halted, the USB test mode selected (0 none). -/
structure Usb where
  due    : List (Nat × Nat) := []
  open_  : Bool := false
  halted : Bool := false
  test   : Nat := 0
  deriving DecidableEq, Repr

/-- The viewport's values in force (R426, R427). -/
structure VpCfg where
  en     : Bool := false
  mode   : Bool := false
  fmt    : Bool := false
  still  : Nat := 0
  base   : Nat := 0
  stride : Nat := 0
  hact   : Nat := 0
  htotal : Nat := 0
  vact   : Nat := 0
  vfp    : Nat := 0
  vrest  : Nat := 0
  vfpMax : Nat := 0
  pclk   : Nat := 0
  lanes  : Nat := 0
  tePol  : Bool := false
  mbps   : Nat := 0
  deriving DecidableEq, Repr

/-- The viewport outside its registers (R424-R430): values in force; the line of the frame about to be sent, active lines first, then
front porch, sync and back porch; front-porch lines of this frame so far; frames without a change; a frame-buffer write or COMMIT since
the frame began; a COMMIT too late for this blanking; a command-mode transfer pending; the line black from here; a panel command queued
(its data type and payload). -/
structure Vp where
  cfg     : VpCfg := {}
  line    : Nat := 0
  porch   : Nat := 0
  quiet   : Nat := 0
  touched : Bool := false
  late    : Bool := false
  due     : Bool := false
  /-- VP_CTRL.REFRESH written, its transfer not yet begun (R428) -/
  refresh : Bool := false
  black   : Bool := false
  cmd     : Option (Nat × List Byte) := none
  deriving DecidableEq, Repr

/-! ## Outputs -/

/-- What the device sends or drives outwards; `State.outbox` lists it, newest first, and nothing reads it back. -/
inductive Out where
  /-- An MSI-X message (R100). -/
  | msix (vector : Nat)
  /-- A notice to the devices of the bar over Wort: a short name and its values. -/
  | wort (kind : String) (vals : List Nat)
  /-- A frame on the trigger bus. -/
  | bus (kind : String) (vals : List Nat)
  /-- A level or pulse on a ball: name, index, value. -/
  | pin (name : String) (idx val : Nat)
  /-- A reply to an outside requester: name and values. -/
  | reply (kind : String) (vals : List Nat)
  deriving DecidableEq, Repr

/-! ## The state -/

/-- The machine. Every register field is in `regs`; a register whose rule makes it mirror other state (a level, a count of
list entries) is computed from that state when it is read (Operands.lean), so that each fact has one home. -/
structure State where
  /-- register fields that do not hold their reset value -/
  regs      : List (FKey × Nat)
  /-- host memory, outside the device: the queues and buffers its rules read and write -/
  hostMem   : Memory
  /-- the installed DRAM -/
  dram      : Memory
  /-- poisoned 64-byte bursts of DRAM (R368, R375) -/
  poison    : List Nat
  /-- CLK_FIRE ticks counted since power-on -/
  now       : Nat
  /-- the model's own counter of free values drawn (no field of the spec) -/
  freeCtr   : Nat
  /-- what the device sent, newest first (the model's own record) -/
  outbox    : List Out
  /-- the value the latest read command returned (the model's own record) -/
  rdata     : Nat
  /-- R10: read latch of the upper half of each 64-bit register, per agent -/
  hiLatch   : List (HalfKey × Nat)
  /-- R10: write buffer of the lower half of each 64-bit register, per agent; 0 empty, else value + 1 -/
  loBuf     : List (HalfKey × Nat)
  /-- R42: a first watchdog expiry awaits WDOG_OK -/
  wdogWait  : Bool
  /-- R53: every switched domain is held because the core PLL lost lock -/
  lolHold   : Bool
  /-- R312: the core PLL has locked since power-on, so that its next lock is a relock -/
  pllSeen   : Bool
  /-- R61: the entry table -/
  grist     : List GEntry
  /-- R66: rewrites due, the first in its odd period while GRS_GEN is odd -/
  gristDue  : List GRewrite
  /-- R86: the loader front end's work -/
  loading   : Option Loading
  /-- R84: staging slots -/
  staged    : List Staged
  /-- R95: committed change sets, oldest first -/
  sets      : List ChangeSet
  /-- R76: the sections in force (the stored copy of the structure) -/
  sects     : List Sect
  /-- R94: the composite digest, 48 bytes, empty before a full image -/
  composite : List Byte
  /-- R87, R89: the full image in force, retained -/
  fullImage : Option Image
  /-- R103: queue pairs -/
  pairs     : List (Nat × QPair)
  /-- R108: operation table -/
  slots     : List (Nat × Slot)
  /-- R100: MSI-X vectors unmasked, and vectors with their pending bit set -/
  msixOpen  : List Nat
  msixPend  : List Nat
  /-- R99: the MSI-X table's words other than the vector controls, by word of the table (log entry 136) -/
  msixTab   : List (Nat × Nat)
  /-- R105: by priority, the SQ served last and the descriptors fetched from it in that turn -/
  turns     : List (Nat × Nat × Nat)
  /-- R308: the time counter -/
  clock     : Clock
  /-- R314-R316: Ethernet ports -/
  eths      : List (Nat × Eth)
  /-- R393: unread events of the telemetry log, oldest first -/
  telLog    : List TelEvt
  /-- R422: the queue EP1 sends, oldest first -/
  ep1       : List TelEvt
  /-- R133-R227: channels -/
  chans     : List (Nat × Chan)
  /-- R159: engines, keyed 16 × tun + engine -/
  engs      : List (Nat × Eng)
  /-- R122: the extent directory -/
  extents   : List (Nat × Extent)
  /-- R126: pages known, in line order -/
  pages     : List Page
  /-- R90, R128, R132: declared page gaps: first line, lines -/
  gaps      : List (Nat × Nat)
  /-- R124: JSA_UNMAP operations running: handle, first extent, extents -/
  unmaps    : List (Nat × Nat × Nat)
  /-- R36: commands that firmware will execute once a hand-over or stall has ended: handle and command, in fetch order -/
  fwDue     : List (Nat × FwOp)
  /-- R347: the line at which the latest hand-over or stall ended; R30: the press has a role conflict, as its manager says -/
  backAt    : Nat
  clash     : Bool
  /-- R349: the channels not covered and the causes, as last reported -/
  coverage  : Nat × Nat
  /-- R37: the line below which page lists and slices stood prepared when firmware last went away -/
  prepared  : Nat
  /-- R133, R134: credit a bar manager holds for each slot 64 × d + c, and the INTAKE reported for it -/
  credits   : List (Nat × Nat)
  intakes   : List (Nat × Nat)
  /-- the bytes of Wort-attached stores, outside the device: key 2^64 × port + address -/
  storeMem  : Memory
  /-- R141: the archive -/
  archive   : Archive
  /-- R157: the encoder lanes' work, by codec instance; ISP pipe i feeds instance i (log entry 61) -/
  encs      : List (Nat × EncLane)
  /-- R199: the firing sequencer -/
  seq       : Seq
  /-- R82: the Kiln's seal -/
  kiln      : Option Seal
  /-- R128: the line after the last page accepted, and the lines after the pages with FLAGS.LAST whose job has not ended -/
  pageEnd   : Nat
  jobEnds   : List Nat
  /-- R139: data-late reports raised here and not yet sent: slot 2048 × bar + 64 × d + c (the archive: 32768), first unavailable line -/
  lateDue   : List (Nat × Nat)
  /-- R348: channels withdrawn, and channels released for a learn pass -/
  withdrawn : Nat
  learning  : Nat
  /-- R223: channel lines clipped, by window number; channels may stand in two windows at once -/
  kilnWin   : List (Nat × Nat)
  /-- R388: strobes fired, keyed 2560 × channel + nozzle -/
  shots     : List (Nat × Nat)
  /-- R229: axes -/
  axes      : List (Nat × Axis)
  /-- R230, R241: the timeline of AX0 -/
  line      : Timeline
  /-- R245: encoder inputs -/
  scales    : List (Nat × Scale)
  /-- R255-R272: camera ports -/
  cams      : List (Nat × Cam)
  /-- R273-R292: the gravity loop, by channel, and the re-bindings that run -/
  gravs     : List (Nat × Grav)
  rebinds   : List Rebind
  /-- R399: the flash arrays, 0 FLA, 1 FLB -/
  flash     : List (Nat × Flash)
  /-- R410: the Cask's valid records, oldest first; erase counts of sectors that were erased, keyed 256 × array + sector -/
  cask      : List CaskRec
  erases    : List (Nat × Nat)
  /-- R293-R307: sense channels, sequencers, events offered and not yet taken; bus triggers at the owner's queue, and those to be sent
  to the owner: group, line, offset -/
  senses    : List (Nat × Sense)
  tss       : List (Nat × Ts)
  sgEvents  : List SgEvent
  busQueue  : List (Nat × Nat × Nat)
  busFwd    : List (Nat × Nat × Nat)
  /-- R318-R333: Wort ports -/
  wports    : List (Nat × WortPort)
  /-- R334-R348: the upstream port, whether the device's own manager is lost, bindings by press device index, devices enumerated, own
  stamps of lines that are multiples of 4,096 (line, stamp), newest first, releases that wait for their line (handle, channels) -/
  upPort    : Option Nat
  upLost    : Bool
  binds     : List (Nat × Bind)
  devs      : List Dev
  lineStamps : List (Nat × Nat)
  rels      : List (Nat × Nat)
  /-- R350-R361: the trio block -/
  trio      : Trio
  /-- R362-R384: DDR channels; the channel rehomed onto the others; whether a DDR_MAP is in force -/
  ddrs      : List (Nat × DdrCh)
  rehomed   : Option Nat
  /-- R370: DRAM banks: 1024 × channel + 64 × rank + 32 × subchannel + 8 × bank + bank group -/
  banks     : List (Nat × Bank)
  /-- R389: head records by channel -/
  heads     : List (Nat × HeadRec)
  /-- R386, R387: calibration in force: 64 × 0 + c TRIM converter of CHc (codes), 64 + c comparator delay of sense channel c (ps),
  128 + i DDR delays (steps), 192 + k temperature sensor k (1/8 °C) -/
  calib     : List (Nat × Int)
  /-- corrections measured, for the boundary at which they come into force (R386, R387) -/
  calibDue  : List (Nat × Int)
  /-- R392, R393: unread snapshots, oldest first; the latest; sensors above their threshold, one bit each; per monitor the least and most
  of this snapshot's samples; monitors that have warned in it -/
  snaps     : List (List Byte)
  lastSnap  : List Byte
  hotMask   : Nat
  supplies  : List (Nat × Nat × Nat)
  supplyMask : Nat
  /-- R399-R413: management firmware -/
  fw        : Firmware
  /-- R415-R422: the service port -/
  usb       : Usb
  /-- R423-R430: the viewport -/
  vp        : Vp
  /-- commands that are waiting, first in, first out -/
  pending   : List Instr
  deriving DecidableEq, Repr

/-- The device right after a power-on reset, before its release sequence begins (R39, R47): every register at the value its table gives,
the straps open (log entry 2), the fuses blank (log entry 3), the boot set of the Grist map, memory with nothing listed, two erased flash
arrays of 64 MiB fitted (log entry 8), no command waiting. -/
def State.reset : State :=
  { regs := [], hostMem := [], dram := [], poison := [], now := 0, freeCtr := 0, outbox := [], rdata := 0,
    hiLatch := [], loBuf := [], wdogWait := false, lolHold := false, pllSeen := false, grist := bootSet, gristDue := [],
    loading := none, staged := [], sets := [], sects := [], composite := [], fullImage := none, pairs := [],
    slots := [], msixOpen := [], msixPend := [], msixTab := [], turns := [], clock := { sec := 0, nsf := 0, frac := 0 }, eths := [],
    telLog := [], ep1 := [], chans := [], engs := [], extents := [], pages := [], gaps := [], unmaps := [], fwDue := [], backAt := 0, clash := false, coverage := (0, 0), prepared := 0,
    credits := [], intakes := [], storeMem := [], archive := {}, encs := [], seq := {}, kiln := none, pageEnd := 0,
    jobEnds := [], lateDue := [], withdrawn := 0, learning := 0, kilnWin := [], shots := [], axes := [],
    line := {}, scales := [], cams := [], gravs := [], rebinds := [],
    flash := [(0, { size := 0x4000000 }), (1, { size := 0x4000000 })], cask := [], erases := [], senses := [],
    tss := [], sgEvents := [], busQueue := [], busFwd := [], wports := [], upPort := none, upLost := false,
    binds := [], devs := [], lineStamps := [], rels := [], trio := {}, ddrs := [], rehomed := none, banks := [], heads := [],
    calib := [], calibDue := [], snaps := [], lastSnap := [], hotMask := 0, supplies := [], supplyMask := 0, fw := {}, usb := {},
    vp := {}, pending := [] }

end Sys2Proof.Machine
end

