-- ==== Sys2Proof/Machine/Ops.lean ====
section
/-! DEFINITION. The named operations every meaning is written in: fields of registers, tables, bytes of memory, outputs,
free values. -/

namespace Sys2Proof.Machine

/-! ## Numbers -/

/-- `n` reduced to `w` bits. -/
def trunc (w n : Nat) : Nat := n % 2 ^ w

/-- The signed value of the low `w` bits of `n`. -/
def toSigned (w n : Nat) : Int :=
  if n % 2 ^ w < 2 ^ (w - 1) then (n % 2 ^ w : Nat) else (n % 2 ^ w : Nat) - (2 ^ w : Nat)

/-- The two's complement of `i` in `w` bits. -/
def ofSigned (w : Nat) (i : Int) : Nat := (i % (2 ^ w : Nat)).toNat

/-- Bit `i` of `n`. -/
def bit (n i : Nat) : Bool := n.testBit i

/-- `n` with bit `i` set. -/
def setBit (n i : Nat) : Nat := n ||| 2 ^ i

/-- `n` with bit `i` clear. -/
def clrBit (n i : Nat) : Nat := if n.testBit i then n - 2 ^ i else n

/-- `n` with bit `i` as told. -/
def putBit (n i : Nat) (b : Bool) : Nat := if b then setBit n i else clrBit n i

/-- Bits `lo` up to `lo + w - 1` of `n`. -/
def bits (n lo w : Nat) : Nat := n / 2 ^ lo % 2 ^ w

/-- 1 for true. -/
def b2n (b : Bool) : Nat := if b then 1 else 0

/-! ## Register fields -/

/-- The value a field holds. -/
def State.get (s : State) (f : Fld) (i : Nat := 0) (k : Nat := 0) : Nat :=
  Tab.get FKey.dflt s.regs ⟨f, i, k⟩

/-- The field set to a value, reduced to the field's width. -/
def State.set (s : State) (f : Fld) (v : Nat) (i : Nat := 0) (k : Nat := 0) : State :=
  { s with regs := Tab.put FKey.lt FKey.dflt s.regs ⟨f, i, k⟩ (v % 2 ^ f.desc.width) }

/-- The field raised by `n`, stopping at its highest value: every count of spec/ that is said to saturate. -/
def State.bump (s : State) (f : Fld) (n : Nat := 1) (i : Nat := 0) (k : Nat := 0) : State :=
  s.set f (min (s.get f i k + n) (2 ^ f.desc.width - 1)) i k

/-- A one-bit field set. -/
def State.on (s : State) (f : Fld) (i : Nat := 0) (k : Nat := 0) : State := s.set f 1 i k

/-- A one-bit field cleared. -/
def State.off (s : State) (f : Fld) (i : Nat := 0) (k : Nat := 0) : State := s.set f 0 i k

/-- Is a one-bit field set? -/
def State.is (s : State) (f : Fld) (i : Nat := 0) (k : Nat := 0) : Bool := s.get f i k == 1

/-- Several fields of one instance and index returned to their reset values. -/
def State.clear (s : State) (fs : List Fld) (i : Nat := 0) (k : Nat := 0) : State :=
  fs.foldl (fun s f => s.set f (f.reset k) i k) s

/-- Bit `b` of a field as told. -/
def State.putB (s : State) (f : Fld) (b : Nat) (v : Bool) (i : Nat := 0) (k : Nat := 0) : State :=
  s.set f (putBit (s.get f i k) b v) i k

/-! ## Steps -/

/-- A step taken only under its condition; otherwise the event cannot occur and nothing changes (log entry 7). -/
def State.when (s : State) (c : Bool) (f : State → State) : State := if c then f s else s

/-- A fold over unit numbers 0 to n - 1. -/
def State.each (s : State) (n : Nat) (f : State → Nat → State) : State := (List.range n).foldl f s

/-- One output, newest first. -/
def State.out (s : State) (o : Out) : State := { s with outbox := o :: s.outbox }

/-- A free value of 64 bits, and the state with the next one waiting. -/
def State.free (s : State) : Nat × State := ((Config.freeValue s.freeCtr).toNat, { s with freeCtr := s.freeCtr + 1 })

/-! ## Memory -/

/-- What a byte of DRAM or host memory that nothing has written reads as (log entry 8). -/
def memDflt (_ : Nat) : Byte := 0

/-- One byte of a memory. -/
def Memory.rd (m : Memory) (a : Nat) : Byte := Tab.get memDflt m a

/-- One byte written. -/
def Memory.wr (m : Memory) (a : Nat) (v : Byte) : Memory := Tab.put ltNat memDflt m a v

/-- `n` bytes from `a` upwards. -/
def Memory.rds (m : Memory) (a n : Nat) : List Byte := (List.range n).map (fun i => Memory.rd m (a + i))

/-- Bytes written from `a` upwards. -/
def Memory.wrs (m : Memory) (a : Nat) : List Byte → Memory
  | [] => m
  | b :: bs => Memory.wrs (Memory.wr m a b) (a + 1) bs

/-- The canonical form of a memory. -/
def Memory.wf (m : Memory) : Bool := Tab.wf ltNat memDflt m

/-- The little-endian number in a list of bytes (R8). -/
def leNat : List Byte → Nat
  | [] => 0
  | b :: bs => b.toNat + 256 * leNat bs

/-- The number `v` in `n` bytes, little-endian (R8). -/
def leBytes : Nat → Nat → List Byte
  | 0, _ => []
  | n + 1, v => BitVec.ofNat 8 v :: leBytes n (v / 256)

/-- The big-endian number in a list of bytes. -/
def beNat (bs : List Byte) : Nat := leNat bs.reverse

/-- The number `v` in `n` bytes, big-endian. -/
def beBytes (n v : Nat) : List Byte := (leBytes n v).reverse

/-- `n` bytes of a byte string from offset `o`; bytes past its end read 0. -/
def sub (bs : List Byte) (o n : Nat) : List Byte := (List.range n).map (fun i => bs.getD (o + i) 0)

/-- The little-endian field of `n` bytes at offset `o` of a byte string. -/
def fieldAt (bs : List Byte) (o n : Nat) : Nat := leNat (sub bs o n)

/-- Is there a field of `n` bytes at offset `o`, and is it 0? -/
def zeroField (bs : List Byte) (o n : Nat) : Bool := decide (o + n ≤ bs.length) && fieldAt bs o n == 0

/-- Are `n` bytes from offset `o` all zero? -/
def zeroAt (bs : List Byte) (o n : Nat) : Bool := (sub bs o n).all (· == 0)

/-! ## Tables keyed by a unit number -/

/-- A table entry by number. -/
def look {α : Type} (d : α) (t : List (Nat × α)) (k : Nat) : α := Tab.get (fun _ => d) t k

/-- The table entry replaced. -/
def store {α : Type} [DecidableEq α] (d : α) (t : List (Nat × α)) (k : Nat) (v : α) : List (Nat × α) :=
  Tab.put ltNat (fun _ => d) t k v

/-- A number put into a rising list without repeats. -/
def insNat : List Nat → Nat → List Nat
  | [], k => [k]
  | a :: t, k => if a = k then a :: t else if k < a then k :: a :: t else a :: insNat t k

/-- A number taken out of a list. -/
def delNat (l : List Nat) (k : Nat) : List Nat := l.filter (· != k)

/-- The bits set in the low `w` bits of `n`. -/
def popcount (w n : Nat) : Nat := ((List.range w).filter (bit n)).length

/-- The larger of a list's numbers, 0 if empty. -/
def maxOf (l : List Nat) : Nat := l.foldl max 0

/-- The next multiple of 64. -/
def up64 (n : Nat) : Nat := (n + 63) / 64 * 64

end Sys2Proof.Machine
end

