-- ==== Sys2Proof/Machine/Time.lean ====
section
/-! DEFINITION. The time counter, its latch sets, time stamps, and the Ethernet ports' PTP stamps
(spec/17_time.md, R308-R317). -/

namespace Sys2Proof.Machine

/-- Nanoseconds in a second. -/
def nsPerSec : Nat := 1000000000

/-- The time stamp of the present tick (R309). -/
def Clock.stamp (c : Clock) : Nat := (c.sec * nsPerSec + c.nsf) % 2 ^ 32

/-- One CLK_FIRE tick at the rate `incr`, in 2^-32 ns (R308). -/
def Clock.tick (c : Clock) (incr : Nat) : Clock :=
  let f := c.frac + incr
  let n := c.nsf + f / 2 ^ 32
  if n < nsPerSec then { sec := c.sec, nsf := n, frac := f % 2 ^ 32 }
  else { sec := (c.sec + 1) % 2 ^ 48, nsf := n - nsPerSec, frac := f % 2 ^ 32 }

/-- `d` signed nanoseconds added, carrying into or borrowing from SEC (R311). -/
def Clock.adjust (c : Clock) (d : Int) : Clock :=
  let t : Int := (c.sec * nsPerSec + c.nsf : Nat) + d
  { sec := ((t / (nsPerSec : Int)) % (2 ^ 48 : Int)).toNat, nsf := (t % (nsPerSec : Int)).toNat, frac := c.frac }

/-- TIME_COUNTER_TICK (R308): the counter advances, unless the core PLL is unlocked (R312). -/
def execTimeCounterTick (s : State) : Res State :=
  .next (s.when (s.is .CLK_STATUS_CORE_LOCK)
    (fun s => { s with now := s.now + 1, clock := s.clock.tick (s.get .TIME_INCR_INCR) }))

/-- A read of TIME_NS, or with `fw` of TIME_NS_B (R310): it returns the stamp and, in the same tick, latches the shadows of the reader's
own set. -/
def State.timeNsRead (s : State) (fw : Bool) : State :=
  let c := s.clock
  let s := { s with rdata := c.stamp }
  if fw then
    ((s.set .TIME_SEC_LO_B_SEC (c.sec % 2 ^ 32)).set .TIME_SEC_HI_B_SEC (c.sec / 2 ^ 32)).set .TIME_NSF_B_NS c.nsf
  else ((s.set .TIME_SEC_LO_SEC (c.sec % 2 ^ 32)).set .TIME_SEC_HI_SEC (c.sec / 2 ^ 32)).set .TIME_NSF_NS c.nsf

/-- A load or adjustment that takes effect advances EPOCH (R311). -/
def State.newEpoch (s : State) : State := s.set .TIME_STATUS_EPOCH (s.get .TIME_STATUS_EPOCH + 1)

/-- TIME_CMD.LOAD (R311), with ADJ set in the same write when `adj`. -/
def State.timeLoad (s : State) (adj : Bool) : State :=
  let s := if adj then s.on .TIME_STATUS_ERR else s
  if s.get .TIME_SET_NS_NS < nsPerSec then
    State.newEpoch { s with clock :=
      { sec := s.get .TIME_SET_SEC_HI_SEC * 2 ^ 32 + s.get .TIME_SET_SEC_LO_SEC, nsf := s.get .TIME_SET_NS_NS, frac := 0 } }
  else s.on .TIME_STATUS_ERR

/-- TIME_CMD.ADJ (R311). -/
def State.timeAdj (s : State) : State :=
  let d := toSigned 32 (s.get .TIME_ADJ_NS)
  if -999999999 ≤ d ∧ d ≤ 999999999 then State.newEpoch { s with clock := s.clock.adjust d }
  else s.on .TIME_STATUS_ERR

/-- The lowest and highest accepted TIME_INCR (R311). -/
def timeIncrMin : Nat := 0x000000027F5C28F6
def timeIncrMax : Nat := 0x0000000280A3D70A

/-- A write of TIME_INCR (R311). -/
def State.timeIncr (s : State) (v : Nat) : State :=
  if timeIncrMin ≤ v ∧ v ≤ timeIncrMax then s.set .TIME_INCR_INCR v else s.on .TIME_STATUS_ERR

/-! ## Ethernet ports -/

/-- An Ethernet port's internals. -/
def State.eth (s : State) (p : Nat) : Eth := look {} s.eths p

/-- An Ethernet port's internals replaced. -/
def State.setEth (s : State) (p : Nat) (e : Eth) : State := { s with eths := store {} s.eths p e }

/-- The published MAC constants of R315 in hundredths of a nanosecond: transmit, receive, by MODE and FEC. -/
def macConst (mode fec : Nat) : Nat × Nat :=
  match mode, fec with
  | 1, 0 => (4480, 5760)
  | 1, _ => (5120, 14080)
  | _, 0 => (2048, 2560)
  | _, 1 => (2304, 5632)
  | _, _ => (3072, 24320)

/-- A signed time in picoseconds brought to units of 2^-16 ns. Where it is not a whole number of units, which of the two
neighbours results is a free value: the spec states no rounding (log entry 21). -/
def State.psUnits (s : State) (ps : Int) : Int × State :=
  let n := ps * 65536
  if n % 1000 = 0 then (n / 1000, s) else (n / 1000 + (s.free.1 % 2 : Nat), s.free.2)

/-- The stamp of an instant `sec` s and `units` of 2^-16 ns moved by `d` units, SEC wrapping as the counter does. -/
def stampAt (sec units : Nat) (d : Int) : Nat × Nat × Nat :=
  let per : Int := 65536 * 1000000000
  let t : Int := (sec : Int) * per + (units : Int) + d
  let r := (t % per).toNat
  (((t / per) % (2 ^ 48 : Int)).toNat, r / 65536, r % 65536)

/-- PTP_EVENT_STAMP (R314, R315): an event message passes port `p`. `sec` and `units` (2^-16 ns) are the instant at the
device's balls for a PCS stamp, at the MAC for a MAC stamp; `atMac` says that block lock or alignment was lost within 1 µs of
the frame's start. A transmit stamp waits for TX_STAMP_PUSH; a receive stamp goes to firmware with its frame. -/
def execPtpEventStamp (p : Nat) (tx atMac : Bool) (sec units seq type : Nat) (s : State) : Res State :=
  .next (s.when (decide (p < 2) && s.is .ETH_STATUS_LINK p) (fun s =>
    let mac := atMac || (s.eth p).lockLost || s.is .ETH_STATUS_STAMP_POINT p
    let c := macConst (s.get .ETH_STATUS_MODE p) (s.get .ETH_STATUS_FEC p)
    let k : Int := if mac then (10 * (if tx then c.1 else c.2) : Nat) else 0
    let lat : Int := if tx then toSigned 32 (s.eth p).txLat else toSigned 32 (s.eth p).rxLat
    let r := s.psUnits (if tx then k + lat else -(k + lat))
    let t := stampAt sec units r.1
    let s := if mac then r.2.bump .ETH_STATUS_MAC_STAMPS 1 p else r.2
    let e : TxStamp := { sec := t.1, ns := t.2.1, frac := t.2.2, seq := seq % 65536, type := type % 16,
                         epoch := s.get .TIME_STATUS_EPOCH % 16, mac := mac }
    if tx then s.setEth p { s.eth p with taken := some e }
    else s.out (.reply "ptpReceive" [p, e.sec, e.ns, e.frac, e.seq, e.type, e.epoch, b2n mac])))

/-- TX_STAMP_PUSH (R316): the stamped frame leaves; its entry is pushed, or discarded and counted when 16 are held. -/
def execTxStampPush (p : Nat) (s : State) : Res State :=
  .next (match (s.eth p).taken with
  | none => s
  | some e =>
    let x := { s.eth p with taken := none }
    if x.queue.length < 16 then s.setEth p { x with queue := x.queue ++ [e] }
    else ((s.setEth p x).bump .ETH_TXTS_STATUS_OVF 1 p).set .ETH_TXTS_LOST_SEQ_ID e.seq p)

/-- The value of ETH_TXTS_ENTRY3: the oldest entry's last word, 0 with the queue empty (R316). -/
def State.txts3 (s : State) (p : Nat) : Nat :=
  match (s.eth p).queue with
  | [] => 0
  | e :: _ => e.seq + 2 ^ 16 * e.type + 2 ^ 20 * e.epoch + 2 ^ 24 * b2n e.mac + 2 ^ 25

/-- A read of ETH_TXTS_ENTRY3 removes the oldest entry (R316). -/
def State.txtsPop (s : State) (p : Nat) : State :=
  { s.setEth p { s.eth p with queue := (s.eth p).queue.drop 1 } with rdata := s.txts3 p }

/-- ETH_LINK_CHANGE (R313, R315): a port whose MODE is on gains or loses block lock and alignment; a frame within 1 µs of a
loss is stamped at the MAC. -/
def execEthLinkChange (p : Nat) (up : Bool) (s : State) : Res State :=
  .next (s.when (decide (p < 2) && decide (s.get .ETH_STATUS_MODE p ≠ 0)) (fun s =>
    (s.set .ETH_STATUS_LINK (b2n up) p).setEth p { s.eth p with lockLost := !up }))

/-! ## The TIME_NET section (R317) -/

/-- Is a signed 4-byte field within ±1,000,000? -/
def latOk (v : Nat) : Bool := decide (-1000000 ≤ toSigned 32 v ∧ toSigned 32 v ≤ 1000000)

/-- The rules of R317 on one port's block of 32 bytes. -/
def timeNetPortOk (b : List Byte) : Bool :=
  let mode := fieldAt b 0 1
  let fec := fieldAt b 1 1
  decide (mode ≤ 2) && decide (fec ≤ 2) && (fec != 2 || mode == 2) && decide (fieldAt b 2 1 ≤ 1) &&
  decide (fieldAt b 3 1 < 8) && (mode == 0 || fieldAt b 3 1 != 0) && decide (fieldAt b 4 1 ≤ 127) && zeroAt b 5 3 &&
  latOk (fieldAt b 8 4) && latOk (fieldAt b 0xC 4) && latOk (fieldAt b 0x10 4) && zeroAt b 0x14 12

/-- The rules of R317 on a TIME_NET payload. -/
def timeNetOk (b : List Byte) : Bool :=
  b.length == 64 && timeNetPortOk (sub b 0 32) && timeNetPortOk (sub b 32 32)

/-- A TIME_NET section comes into force for one port (R317). -/
def State.applyTimeNetPort (s : State) (p : Nat) (b : List Byte) : State :=
  let mode := fieldAt b 0 1
  let fec := fieldAt b 1 1
  let changed := mode != s.get .ETH_STATUS_MODE p || fec != s.get .ETH_STATUS_FEC p
  let e := { s.eth p with txLat := fieldAt b 8 4, rxLat := fieldAt b 0xC 4 }
  let s := match e.queue.getLast? with
    | some x => if changed then s.set .ETH_TXTS_LOST_SEQ_ID x.seq p else s
    | none => s
  let s := if changed then
      ((s.bump .ETH_TXTS_STATUS_OVF e.queue.length p).set .ETH_STATUS_LINK 0 p).setEth p { e with queue := [] }
    else s.setEth p e
  (((s.set .ETH_STATUS_MODE mode p).set .ETH_STATUS_FEC fec p).set .ETH_STATUS_STAMP_POINT (fieldAt b 2 1) p).set
    .ETH_ASYM_PS (fieldAt b 0x10 4) p

/-- A TIME_NET section comes into force (R317). -/
def State.applyTimeNet (s : State) (b : List Byte) : State :=
  (s.applyTimeNetPort 0 (sub b 0 32)).applyTimeNetPort 1 (sub b 32 32)

end Sys2Proof.Machine
end

