-- ==== Sys2Proof/Machine/Events.lean ====
section
/-! DEFINITION. What any block may raise: MSI-X vectors (R100), telemetry events (R393), the record of a fence (R396), and
the sections in force as the blocks read them (R74). -/

namespace Sys2Proof.Machine

/-- Raising a vector: its message, or its pending bit while masked (R100). -/
def State.msix (s : State) (v : Nat) : State :=
  if s.msixOpen.contains v then s.out (.msix v) else { s with msixPend := insNat s.msixPend v }

/-- Raising the vector a register names, when enabled. -/
def State.vector (s : State) (vec en : Fld) : State :=
  if s.is en then s.msix (s.get vec) else s

/-- A telemetry event (R393): logged, the oldest of 4,096 overwritten and counted, copied to the EP1 queue of 64 while the port
is configured (R422), and its vector raised (R394). -/
def State.telEvent (s : State) (code unit : Nat) : State :=
  let e : TelEvt := { time := s.clock.stamp, code := code, unit := unit, line := s.get .FIRE_LINE_LINE }
  let s := if s.telLog.length < 4096 then { s with telLog := s.telLog ++ [e] }
    else State.bump { s with telLog := s.telLog.drop 1 ++ [e] } .TEL_STATUS_LOG_LOST
  let s := if s.is .USB_STATUS_CONFIGURED then
      (if s.ep1.length < 64 then { s with ep1 := s.ep1 ++ [e] }
       else State.bump { s with ep1 := s.ep1.drop 1 ++ [e] } .USB_COUNTS_EVT_LOST)
    else s
  s.vector .TEL_EVT_VEC_VECTOR .TEL_EVT_VEC_EN

/-- Is unit `i` of fence class `k` fenced (R395)? -/
def State.fenced (s : State) (k i : Nat) : Bool := bit (s.get .FENCE_MAP_UNITS 0 k) i

/-- Is firmware away, in a warm hand-over or after a stall that the watchdog ended, until it has acknowledged its restart (R36, R38, R42)? -/
def State.fwAway (s : State) : Bool := s.is .FLS_STATUS_HANDOVER || s.wdogWait

/-- Firmware goes away: page lists and slices stand prepared for 250 ms of printing at the present line rate (R37; log entry 133). -/
def State.fwLeaves (s : State) : State :=
  if s.fwAway then s else { s with prepared := s.seq.next + (s.seq.rate + 3) / 4 }

/-- Do the firing and engine clocks run: is the device in P0 (R58)? -/
def State.clocked (s : State) : Bool := s.get .PWR_PSTATE_CUR == 0

/-- The causes of FENCE_LAST. -/
def causeSet : Nat := 1
def causeTun : Nat := 2
def causeMem : Nat := 3
def causeLink : Nat := 4
def causeMask : Nat := 5
def causeSense : Nat := 6
def causeStop : Nat := 7
def causeDdr : Nat := 8

/-! ## Recalibration (R386, R387) -/

/-- The corrections due of `n` units from `k` on come into force. -/
def State.takeCalib (s : State) (k n : Nat) : State :=
  let l := s.calibDue.filter (fun e => decide (k ≤ e.1 ∧ e.1 < k + n))
  { s with calib := l.foldl (fun t e => store 0 t e.1 (look 0 t e.1 + e.2)) s.calib,
           calibDue := s.calibDue.filter (fun e => !decide (k ≤ e.1 ∧ e.1 < k + n)) }

/-- A recalibration abandoned: its unit is fenced or without power, or a section that governs it comes into force. -/
def State.dropCalib (s : State) (k : Nat) : State := { s with calibDue := s.calibDue.filter (fun e => e.1 != k) }

/-- The record of a fence (R396): map, FENCE_LAST, event, vector, coverage loss. A unit already fenced stays as it is. -/
def State.recordFence (s : State) (k i cause : Nat) : State :=
  if s.fenced k i then s
  else
    let s := s.putB .FENCE_MAP_UNITS i true 0 k
    let s := ((s.set .FENCE_LAST_CLASS k).set .FENCE_LAST_INDEX i).set .FENCE_LAST_CAUSE cause
    let s := match k with | 1 => s.dropCalib i | 6 => s.dropCalib (128 + i) | 9 => s.dropCalib (64 + i) | _ => s
    let s := s.telEvent 0x0006 (256 * k + i)
    let s := s.vector .FENCE_EVT_VEC_VECTOR .FENCE_EVT_VEC_EN
    s.out (.wort "coverageLoss" [k, i])

/-- The record of a lift (R397): map, event, vector, coverage. -/
def State.recordLift (s : State) (k i : Nat) : State :=
  let s := s.putB .FENCE_MAP_UNITS i false 0 k
  let s := s.telEvent 0x0007 (256 * k + i)
  let s := s.vector .FENCE_EVT_VEC_VECTOR .FENCE_EVT_VEC_EN
  s.out (.wort "coverageBack" [k, i])

/-! ## Sections in force -/

/-- Does a section have this TYPE and INDEX? -/
def Sect.at (t i : Nat) (x : Sect) : Bool := x.type == t && x.index == i

/-- The section of a TYPE and INDEX in a list. -/
def findSect (l : List Sect) (t : Nat) (i : Nat := 0) : Option Sect := l.find? (Sect.at t i)

/-- Is a section of this TYPE and INDEX in force? -/
def State.hasSect (s : State) (t : Nat) (i : Nat := 0) : Bool := (findSect s.sects t i).isSome

/-- The payload of the section in force, empty where there is none. -/
def State.sect (s : State) (t : Nat) (i : Nat := 0) : List Byte := ((findSect s.sects t i).map Sect.bytes).getD []

/-- The little-endian field of `n` bytes at offset `o` of the section in force. -/
def State.sf (s : State) (t i o n : Nat) : Nat := fieldAt (s.sect t i) o n

/-- The section put among those in force, in place of its predecessor (R76). -/
def putSect (l : List Sect) (x : Sect) : List Sect :=
  l.filter (fun y => !(y.type == x.type && y.scope == x.scope && y.index == x.index)) ++ [x]

/-- Has enumeration found a role conflict, here, anywhere below, or in the press as its manager says (R30)? No line timeline starts then. -/
def State.conflict (s : State) : Bool := s.is .BAR_HOLD_CONFLICT || s.clash || s.devs.any (fun x => bit x.cause 5)

/-! ## The Grist map's entries -/

/-- The entry of a block instance, if the table lists it. -/
def State.gEntry (s : State) (b : Block) (i : Nat) : Option GEntry :=
  s.grist.find? (fun e => e.block == b && e.inst == i)

/-- Does the structure in force use the block instance (R64)? -/
def State.uses (s : State) (b : Block) (i : Nat) : Bool := (s.gEntry b i).isSome

/-- The power domains of a block instance, `none` standing for PD_AON (R19, R62). -/
def Block.domains (b : Block) (i : Nat) : List Nat :=
  match b with
  | .grist => [131]
  | .rcp => []
  | .mash => [130, 131]
  | .qm => [131, 126]
  | .jsa => [131]
  | .intake => [131]
  | .codec => [118 + i]
  | .tun | .screen | .underback | .grantBuf | .headPort => [i]
  | .sequencer => [124]
  | .kiln => []
  | .motion | .encoders => [124]
  | .camera => [106 + i]
  | .isp => [114 + i]
  | .gravity => [122]
  | .sightGlass => [123]
  | .time => []
  | .ethernet => [125]
  | .wortPort => [72 + 9 * i]
  | .wortLane => [64 + i]
  | .trio => [127]
  | .hierarchy => [130]
  | .ddr | .sparge => [100 + i]
  | .flash | .cask => [130]
  | .fence => []
  | .telemetry => [130]
  | .usb => [129]
  | .viewport => [128]

/-- Is domain `n` powered and released (PWR_STATEn)? -/
def State.powered (s : State) (n : Nat) : Bool := bit (s.get .PWR_STATE_ON 0 (n / 32)) (n % 32)

/-- FLAGS.POWERED of a block instance (R63). -/
def State.blockOn (s : State) (b : Block) (i : Nat) : Bool := (b.domains i).all s.powered

/-- The fence units of a block instance: class, first, count; class 0 where it has none (R61, R62). -/
def Block.fenceUnits (b : Block) (i : Nat) : Nat × Nat × Nat :=
  match b with
  | .headPort => (1, i, 1)
  | .tun => (2, i, 1)
  | .codec => (3, i, 1)
  | .wortLane => (4, i, 1)
  | .wortPort => (5, i, 1)
  | .ddr => (6, i, 1)
  | .camera => (7, i, 1)
  | .motion => (8, 0, 4)
  | .sightGlass => (9, 0, 64)
  | _ => (0, 0, 0)

/-- FLAGS.FENCED of a block instance (R63). -/
def State.blockFenced (s : State) (b : Block) (i : Nat) : Bool :=
  let u := b.fenceUnits i
  u.1 != 0 && (List.range u.2.2).any (fun j => s.fenced u.1 (u.2.1 + j))

/-- Has the rewrite in hand or one waiting the block at another place or size, or only on one side (R66)? -/
def State.moving (s : State) (b : Block) (i : Nat) : Bool :=
  s.gristDue.any (fun r =>
    match s.gEntry b i, r.entries.find? (fun e => e.block == b && e.inst == i) with
    | some x, some y => x.off != y.off || x.size != y.size
    | none, none => false
    | _, _ => true)

/-- May an access reach the block instance now (R14, R63, R66)? -/
def State.reachable (s : State) (b : Block) (i : Nat) : Bool :=
  s.uses b i && s.blockOn b i && !s.moving b i

/-- An access that reached a moving block is counted (R66). -/
def State.stale (s : State) : State := s.bump .GRS_STALE_COUNT

/-- A write to a register of a block instance by its own command: at a block that a rewrite moves, adds or removes it is ignored and counted
(R66); at one the table does not list, or without power, it is ignored (R13, R63). -/
def State.reach (s : State) (b : Block) (i : Nat) (f : State → State) : State :=
  if s.moving b i then s.stale else s.when (s.uses b i && s.blockOn b i) f

/-- A read of a register of a block instance by its own command: where `reach` would ignore a write, the read returns 0 (R13, R63, R66). -/
def State.reachRd (s : State) (b : Block) (i : Nat) (f : State → State) : State :=
  if s.moving b i then State.stale { s with rdata := 0 }
  else if s.uses b i && s.blockOn b i then f s else { s with rdata := 0 }

end Sys2Proof.Machine
end

