-- ==== Sys2Proof/Machine/Operands.lean ====
section
/-! DEFINITION. The operand forms of the commands: the fields of a submission descriptor (R106), and the bit fields of the
operands that carry several values in one word. -/

namespace Sys2Proof

open Machine

/-- A PARAM field of `n` bytes at an offset as spec/ gives it: PARAM begins at 0x10 of the descriptor (R106). -/
def Desc.p (d : Desc) (o n : Nat) : Nat := fieldAt d.param (o - 0x10) n

/-- Has PARAM its 48 bytes, and are all those outside the given fields 0 (R106, R112)? -/
def Desc.unusedZero (d : Desc) (used : List (Nat × Nat)) : Bool :=
  d.param.length == 48 && (List.range 48).all (fun i =>
    used.any (fun u => decide (u.1 - 0x10 ≤ i ∧ i < u.1 - 0x10 + u.2)) || (d.param.getD i 0) == 0)

/-- FLAGS.IRQ and FLAGS.ORDERED (R106). -/
def Desc.irq (d : Desc) : Bool := bit d.flags 0
def Desc.ordered (d : Desc) : Bool := bit d.flags 1

/-- Are the reserved bits and bytes of the descriptor's head 0 (R106)? -/
def Desc.rsvZero (d : Desc) : Bool := decide (d.flags < 4) && d.rsv3 == 0 && d.rsv6 == 0

end Sys2Proof
end

