-- ==== Sys2Proof/Machine/Queue.lean ====
section
/-! DEFINITION. Queue pairs, handles, request tags, the checks at fetch, completions and what happens when the host stops
reading them (spec/05_command_queues.md, R98-R120). -/

namespace Sys2Proof.Machine

/-! ## Status codes (R17) -/

def stDone : Nat := 0x00
def stEmpty : Nat := 0x01
def stDuplicate : Nat := 0x02
def stAccepted : Nat := 0x10
def stBadOpcode : Nat := 0x20
def stBadZero : Nat := 0x21
def stBadRange : Nat := 0x22
def stBadState : Nat := 0x23
def stBadSignature : Nat := 0x24
def stFenced : Nat := 0x30
def stNotApplied : Nat := 0x31
def stArrayInUse : Nat := 0x32
def stCheckFailed : Nat := 0x33
def stDataLate : Nat := 0x34
def stOverflow : Nat := 0x35
def stMismatch : Nat := 0x36

/-! ## Pairs and slots -/

/-- Queue pair `n`. -/
def State.pair (s : State) (n : Nat) : QPair := look {} s.pairs n

/-- Queue pair `n` replaced. -/
def State.setPair (s : State) (n : Nat) (p : QPair) : State := { s with pairs := store {} s.pairs n p }

/-- Slot `i` of the operation table. -/
def State.slot (s : State) (i : Nat) : Slot := look {} s.slots i

/-- Slot `i` replaced. -/
def State.setSlot (s : State) (i : Nat) (x : Slot) : State := { s with slots := store {} s.slots i x }

/-- Slots in use (QM_OPTAB.IN_USE). -/
def State.slotsUsed (s : State) : Nat := (s.slots.filter (fun e => e.2.inUse)).length

/-- Slots of the operation table (R108). -/
def slotCount : Nat := 1048576

/-- The lowest slot not in use (log entry 11): one of the first `slots.length + 1`, since each listed slot takes one. -/
def State.lowestFree (s : State) : Nat := ((List.range (s.slots.length + 1)).find? (fun n => !(s.slot n).inUse)).getD 0

/-- The slot index and generation of a handle (R108). -/
def handleSlot (h : Nat) : Nat := h % 2 ^ 24
def handleGen (h : Nat) : Nat := h / 2 ^ 24

/-- The handle of a slot: generation in [31:24] (R108). -/
def mkHandle (gen slot : Nat) : Nat := gen * 2 ^ 24 + slot

/-- Does the handle name a slot in use, of its present generation (R109)? -/
def State.live (s : State) (h : Nat) : Bool :=
  let x := s.slot (handleSlot h)
  decide (handleSlot h < slotCount) && x.inUse && x.gen == handleGen h

/-- A slot freed; its generation stays (R108, R109). -/
def State.freeSlot (s : State) (i : Nat) : State := s.setSlot i { gen := (s.slot i).gen }

/-- A record of the QUEUES section: QID, owning class, priority, depth, vector. The section's layout is the model's
(log entry 14): records of 12 bytes with QID at 0 (2), CLASS at 2 (1), PRIORITY at 3 (1), DEPTH at 4 (4), VECTOR at 8 (2), and
2 reserved bytes. -/
def queueRecord (b : List Byte) (n : Nat) : Option (List Byte) :=
  ((List.range (b.length / 12)).map (fun i => sub b (12 * i) 12)).find? (fun r => fieldAt r 0 2 == n)

/-- The record of pair `n` in the QUEUES section in force. -/
def State.assign (s : State) (n : Nat) : Option (List Byte) := queueRecord (s.sect 0x0011) n

/-- The vector of pair `n`'s completion queue; 0 for a pair the section does not list (R100). -/
def State.cqVector (s : State) (n : Nat) : Nat := ((s.assign n).map (fun r => fieldAt r 8 2)).getD 0

/-- May a command of class `c` be submitted on pair `n` (R102)? -/
def State.classOk (s : State) (n c : Nat) : Bool :=
  n == 0 || n == 0xFFFF || c == 0 || ((s.assign n).map (fun r => fieldAt r 2 1)) == some c

/-! ## Completions (R107, R118-R120) -/

/-- Unconsumed entries of a CQ. -/
def QPair.unread (p : QPair) : Nat := (p.cqTail + p.depth - p.cqHead) % p.depth

/-- Has the CQ room for one more entry: at most DEPTH - 1 unconsumed (R107)? -/
def QPair.room (p : QPair) : Bool := decide (p.unread + 1 < p.depth)

/-- The 16 bytes of a completion entry (R107). -/
def cqBytes (n : Nat) (p : QPair) (e : CqEntry) : List Byte :=
  leBytes 4 e.handle ++ leBytes 1 e.status ++ leBytes 1 (b2n p.phase + 2 * b2n e.final) ++ leBytes 2 p.sqHead ++
  leBytes 4 e.result ++ leBytes 2 n ++ leBytes 2 e.detail

/-- The CQ's vector raised; nothing is unsignalled then (R114). -/
def State.signal (s : State) (n : Nat) : State :=
  (s.setPair n { s.pair n with unsig := 0 }).msix (s.cqVector n)

/-- An entry written to the CQ: PHASE inverts on each wrap (R107), the vector is raised at AGG_COUNT unsignalled entries or at
once for FLAGS.IRQ (R114), and a final entry frees its slot (R109). -/
def State.writeCq (s : State) (n : Nat) (e : CqEntry) : State :=
  let p := s.pair n
  let s := { s with hostMem := Memory.wrs s.hostMem (p.cqBase + 16 * p.cqTail) (cqBytes n p e) }
  let wrap := decide (p.cqTail + 1 = p.depth)
  let p' := { p with cqTail := if wrap then 0 else p.cqTail + 1, phase := if wrap then !p.phase else p.phase,
                     unsig := p.unsig + 1 }
  let s := s.setPair n p'
  let s := if (e.final && e.irq) || decide (p'.aggCount ≤ p'.unsig) then s.signal n else s
  if e.frees && e.final && s.live e.handle && !(s.slot (handleSlot e.handle)).keep then s.freeSlot (handleSlot e.handle)
  else s

/-- The latest status of an operation, remembered with its own tag (R110; an older tag may carry the same handle, since generations
come round again) and in its slot. -/
def State.noteStatus (s : State) (n h st : Nat) (fin : Bool) : State :=
  let p := s.pair n
  let tag := (s.slot (handleSlot h)).tag
  let s := s.setPair n { p with tags := p.tags.map (fun t => if t.handle = h ∧ t.tag = tag then { t with status := st } else t) }
  if s.live h then s.setSlot (handleSlot h) { s.slot (handleSlot h) with status := st, final := fin } else s

/-- An entry held under R119: it takes the place of a held entry of the same handle that was not final. -/
def State.holdEntry (s : State) (n : Nat) (e : CqEntry) : State :=
  let p := s.pair n
  let held := p.held.filter (fun x => !(x.handle == e.handle && !x.final)) ++ [e]
  let s := s.setPair n { p with held := held, heldN := p.heldN + b2n e.final }
  if s.live e.handle then s.setSlot (handleSlot e.handle) { s.slot (handleSlot e.handle) with held := true } else s

/-- A completion falls due on pair `n`: written to its CQ, placed in the overflow of 256 entries (R118), or held with the pair
fenced OVERFLOW (R119). -/
def State.deliver (s : State) (n : Nat) (e : CqEntry) : State :=
  let p := s.pair n
  if p.fenced then s.holdEntry n e
  else if p.overflow.isEmpty && p.room then s.writeCq n e
  else if p.overflow.length < 256 then s.setPair n { p with overflow := p.overflow ++ [e] }
  else
    let s := s.setPair n { p with fenced := true }
    ((s.set .QM_OVF_LAST_QID n).bump .QM_OVF_LAST_COUNT).holdEntry n e

/-- A completion of the operation named by `h`, delivered where its slot says: its CQ, its slot (the pair was deleted, R103), the
device that forwarded it (R106), or nowhere, counted in QM_FLR_DROPPED (R101). -/
def State.report (s : State) (h st : Nat) (fin : Bool) (result detail : Nat) : State :=
  let x := s.slot (handleSlot h)
  if !s.live h || x.final then s
  else
    let s := s.noteStatus x.sq h st fin
    match x.route with
    | 0 => s.deliver x.sq { handle := h, status := st, final := fin, result := result, detail := detail, irq := x.irq,
                            frees := true }
    | 1 => if fin then s.setSlot (handleSlot h) { s.slot (handleSlot h) with held := true } else s
    | 3 =>
      let s := s.out (.wort "completion" [x.tag, st, b2n fin, result, detail])
      if fin && !x.keep then s.freeSlot (handleSlot h) else s
    | _ => if fin then (if x.keep then s else s.freeSlot (handleSlot h)).bump .QM_FLR_DROPPED_COUNT else s

/-- The final completion of an operation (R108). -/
def State.finish (s : State) (h st : Nat) (result detail : Nat := 0) : State := s.report h st true result detail

/-- The entries a CQ still takes, in order (R118, R120): the overflow; then, once QUEUE_RESUME has lifted the fence, the held
entries and the OVERFLOW marker. Before it a fenced pair keeps its overflow (R119). -/
def State.drain : Nat → State → Nat → State
  | 0, s, _ => s
  | fuel + 1, s, n =>
    let p := s.pair n
    if !p.enabled || !p.room || (p.fenced && !p.resuming) then s
    else match p.overflow with
    | e :: t => State.drain fuel ((s.setPair n { p with overflow := t }).writeCq n e) n
    | [] =>
      if !(p.fenced && p.resuming) then s
      else match p.held with
      | e :: t => State.drain fuel ((s.setPair n { p with held := t }).writeCq n e) n
      | [] =>
        (s.setPair n { p with fenced := false, resuming := false, heldN := 0 }).writeCq n
          { handle := 0, status := stOverflow, final := true, result := p.heldN, detail := 0, irq := false, frees := false }

/-- As many entries as the CQ takes. -/
def State.drainAll (s : State) (n : Nat) : State :=
  s.drain ((s.pair n).overflow.length + (s.pair n).held.length + 1) n

/-! ## Fetching a descriptor (R105, R112) -/

/-- What the checks of R112 need of one command. -/
structure Cmd where
  opcode : Nat
  long   : Bool
  used   : List (Nat × Nat) := []
  /-- check 3: the owning function is fenced -/
  fenced : Bool := false
  /-- check 4: the size fields -/
  sizes  : List Nat := []
  /-- check 5: every field in range -/
  range  : Bool := true
  /-- check 6: the count fields -/
  counts : List Nat := []
  /-- check 7: the status the device's present state gives, 0 if none -/
  state  : Nat := 0
  detail : Nat := 0
  /-- what a refusal under check 5 counts besides -/
  onRange : State → State := id

/-- The roles of R27. -/
def State.role (s : State) : Nat := s.get .RST_STRAPS_ROLE
def roleTrio : Nat := 0
def rolePress : Nat := 1
def roleBar : Nat := 2
def roleWorker : Nat := 3

/-- The press device index of this device (R4), once enumerated. -/
def State.myIndex (s : State) : Nat := s.get .BAR_STATUS_INDEX

/-- Does the TARGET name this device (R106)? -/
def State.targetSelf (s : State) (d : Desc) : Bool :=
  d.target == 0xFFFF || (s.is .BAR_STATUS_ENUMERATED && d.target == s.myIndex)

/-- Is the TARGET one this device may name (R106)? -/
def State.targetOk (s : State) (d : Desc) : Bool :=
  s.targetSelf d || ((s.role == rolePress || s.role == roleBar) && decide (d.target < 512))

/-- The status of the first check of R112 from 3 to 7 that fails, 0 if none, and its DETAIL. -/
def State.checks (s : State) (d : Desc) (c : Cmd) : Nat × Nat :=
  if (if s.targetSelf d then c.fenced else s.is .BAR_COV_CAUSE_FENCED 0 d.target) then (stFenced, 0)
  else if c.sizes.any (· == 0) then (stBadZero, 0)
  else if !(d.rsvZero && s.targetOk d && d.unusedZero c.used && c.range)
    then (stBadRange, 0)
  else if c.counts.any (· == 0) then (stEmpty, 0)
  else (c.state, c.detail)

/-- The pair number of a command that another device has forwarded here over Wort (R106): it has passed that device's fetch, class and
tag checks, and its completions go back over Wort (log entry 16). -/
def viaWort : Nat := 0xFFFF

/-- Has an operation of SQ `n` not ended yet (R105)? -/
def State.sqBusy (s : State) (n : Nat) : Bool := s.slots.any (fun e => e.2.inUse && e.2.sq == n && !e.2.final)

/-- The image priority of SQ `n`, and the descriptors of that priority fetched last: their SQ and how many in its turn (R105). A pair that
the QUEUES section does not list has priority 0 (log entry 13). -/
def State.priority (s : State) (n : Nat) : Nat := ((s.assign n).map (fun r => fieldAt r 3 1 % 4)).getD 0
def State.lastTurn (s : State) (k : Nat) : Nat × Nat := look (0, 0) s.turns k

/-- Has SQ `n` work the device may fetch: it is enabled, neither stopped by its overflow nor fenced, and its next descriptor in host memory
does not wait under FLAGS.ORDERED (R105, R118, R119)? -/
def State.sqWork (s : State) (n : Nat) : Bool :=
  let p := s.pair n
  p.enabled && p.sqHead != p.sqTail && p.overflow.isEmpty && !p.fenced &&
  !(bit (Memory.rd s.hostMem (p.sqBase + 64 * p.sqHead + 2)).toNat 1 && s.sqBusy n)

/-- The SQs of priority `k` with work. -/
def State.sqsAt (s : State) (k : Nat) : List Nat :=
  (s.pairs.map Prod.fst).filter (fun n => s.sqWork n && s.priority n == k)

/-- Is it the turn of SQ `n` (R105): no SQ of a higher priority has work, and round-robin within its own it is the next one with work, or
goes on with a turn of at most 8 descriptors? -/
def State.sqTurn (s : State) (n : Nat) : Bool :=
  let k := s.priority n
  let last := s.lastTurn k
  let l := (s.sqsAt k).filter (· != last.1)
  let next := ((l.filter (fun m => decide (last.1 < m))).min?).orElse fun _ => l.min?
  (List.range k).all (fun j => (s.sqsAt j).isEmpty) &&
  (if n = last.1 then decide (last.2 < 8) || l.isEmpty else next == some n)

/-- A descriptor fetched from SQ `n` counts in its turn. -/
def State.tookTurn (s : State) (n : Nat) : State :=
  let k := s.priority n
  let last := s.lastTurn k
  { s with turns := store (0, 0) s.turns k (n, if n = last.1 ∧ last.2 < 8 then last.2 + 1 else 1) }

/-- May the device fetch from the pair, and start this command (R105, R109, R118, R119)? -/
def State.mayFetch (s : State) (d : Desc) : Bool :=
  let p := s.pair d.sq
  if d.sq = viaWort then decide (s.slotsUsed < slotCount) && s.targetSelf d else
  p.enabled && p.sqHead != p.sqTail && p.overflow.isEmpty && !p.fenced && decide (s.slotsUsed < slotCount) &&
  (!d.ordered || !s.sqBusy d.sq) && s.sqTurn d.sq

/-- A completion that names no slot of its own. -/
def State.refuse (s : State) (d : Desc) (h st result detail : Nat) : State :=
  if d.sq = viaWort then s.out (.wort "completion" [d.tag, st, 1, result, detail])
  else s.deliver d.sq { handle := h, status := st, final := true, result := result, detail := detail, irq := d.irq,
                        frees := false }

/-- A new slot for the command, and its handle: the slot's generation advances, from 255 to 1 (R108). -/
def State.allot (s : State) (d : Desc) (op : Nat) : Nat × State :=
  let i := s.lowestFree
  let g := if (s.slot i).gen = 255 then 1 else (s.slot i).gen + 1
  (mkHandle g i, s.setSlot i { inUse := true, gen := g, sq := d.sq, opcode := op, irq := d.irq, tag := d.tag,
                               status := stAccepted, param := d.param, route := if d.sq = viaWort then 3 else 0 })

/-- The tag remembered, the window holding the last 4,096 (R110). -/
def State.remember (s : State) (d : Desc) (op h : Nat) : State :=
  if d.tag = 0 ∨ d.sq = viaWort then s
  else
    let p := s.pair d.sq
    let l := p.tags ++ [{ tag := d.tag, opcode := op, crc := crc32c d.param, handle := h, status := stAccepted }]
    s.setPair d.sq { p with tags := if l.length ≤ 4096 then l else l.drop 1 }

/-- One descriptor fetched and checked in the order of R112; `act` is what the command does once every check has passed, given
its handle. A long command reports ACCEPTED first (R108). A command for another device is forwarded over Wort (R106). -/
def State.submit (s : State) (d : Desc) (c : Cmd) (act : Nat → State → State) : State :=
  if !s.mayFetch d then s
  else
    let p := s.pair d.sq
    let s := if d.sq = viaWort then s else (s.tookTurn d.sq).setPair d.sq { p with sqHead := (p.sqHead + 1) % p.depth }
    if d.opcode ≠ c.opcode then s.refuse d 0 stBadOpcode 0 0
    else if !s.classOk d.sq (c.opcode / 256) then s.refuse d 0 stBadOpcode 0 1
    else match (if d.tag = 0 then none else p.tags.find? (fun t => t.tag == d.tag)) with
    | some t =>
      if t.opcode = c.opcode ∧ t.crc = crc32c d.param then s.refuse d t.handle stDuplicate t.status 0
      else s.refuse d 0 stMismatch 0 1
    | none =>
      let a := s.allot d c.opcode
      let h := a.1
      let s := a.2.remember d c.opcode h
      let r := s.checks d c
      if !s.targetSelf d && r.1 != stFenced && s.targetOk d && d.rsvZero then
        let x := s.slot (handleSlot h)
        (s.setSlot (handleSlot h) { x with remote := true, dest := d.target }).out
          (.wort "forward" ([d.target, c.opcode, d.flags, h] ++ d.param.map BitVec.toNat))
      else if r.1 ≠ 0 then (if r.1 = stBadRange then c.onRange s else s).finish h r.1 0 r.2
      else if c.long then act h (s.report h stAccepted false 0 0)
      else act h s

/-- A command `i` of handle `h` that firmware executes: at once, or once the hand-over or stall has ended (R36). -/
def State.firmware (s : State) (h : Nat) (i : FwOp) (act : State → State) : State :=
  if s.fwAway then { s with fwDue := s.fwDue ++ [(h, i)] } else act s

/-- What most commands of this chapter do last. -/
def State.done (s : State) (h : Nat) (result : Nat := 0) : State := s.finish h stDone result 0

/-! ## The commands of this chapter -/

/-- NOP (R113). -/
def execNop (d : Desc) (s : State) : Res State :=
  .next (s.submit d { opcode := 0x0001, long := false } (fun h s => s.done h))

/-- A power of two from 2 to 65,536 (R103). -/
def depthOk (n : Nat) : Bool := (List.range 16).any (fun i => n == 2 ^ (i + 1))

/-- QUEUE_CREATE (R103, R114). -/
def execQueueCreate (d : Desc) (s : State) : Res State :=
  let q := d.p 0x10 2
  let depth := d.p 0x14 4
  let max := ((s.assign q).map (fun r => fieldAt r 4 4)).getD 0
  .next (s.submit d
    { opcode := 0x0002, long := false, used := [(0x10, 2), (0x14, 4), (0x18, 8), (0x20, 8), (0x28, 2), (0x2A, 2)],
      sizes := [depth, d.p 0x28 2, d.p 0x2A 2],
      range := depthOk depth && decide (depth ≤ max) && d.p 0x18 8 % 4096 == 0 && d.p 0x20 8 % 4096 == 0 &&
        decide (d.p 0x28 2 ≤ 255) && decide (d.p 0x2A 2 ≤ 1000) && (s.assign q).isSome && q != 0 && decide (q < 16384),
      state := if (s.pair q).enabled then stBadState else 0 }
    (fun h s => (s.setPair q { enabled := true, depth := depth, sqBase := d.p 0x18 8, cqBase := d.p 0x20 8,
                               aggCount := d.p 0x28 2, aggUsec := d.p 0x2A 2 }).done h))

/-- A pair disabled: its unfetched commands are discarded, and final statuses of its started operations go to their slots (R103); those of
operations that an FLR cut off stay unwritten (R101). -/
def State.disablePair (s : State) (n : Nat) (route : Nat) : State :=
  let p := s.pair n
  let due := (p.overflow ++ p.held).filter (fun e => e.final && e.frees)
  let s := { s with slots := s.slots.map (fun (e : Nat × Slot) =>
    if e.2.inUse && e.2.sq == n then
      let h := e.2.held || due.any (fun x => x.handle == mkHandle e.2.gen e.1)
      (e.1, { e.2 with route := if e.2.route = 2 then 2 else route, held := h })
    else e) }
  s.setPair n {}

/-- QUEUE_DELETE (R103). -/
def execQueueDelete (d : Desc) (s : State) : Res State :=
  let q := d.p 0x10 2
  .next (s.submit d
    { opcode := 0x0003, long := false, used := [(0x10, 2)], range := q != 0 && decide (q < 16384),
      state := if (s.pair q).enabled then 0 else stBadState }
    (fun h s => (s.disablePair q 1).done h))

/-- QUEUE_RESUME (R120). -/
def execQueueResume (d : Desc) (s : State) : Res State :=
  let q := d.p 0x10 2
  .next (s.submit d
    { opcode := 0x0004, long := false, used := [(0x10, 2)], range := decide (q < 16384),
      state := if (s.pair q).fenced && !(s.pair q).resuming then 0 else stBadState }
    (fun h s => ((s.setPair q { s.pair q with resuming := true }).done h).drainAll q))

/-- HANDLE_QUERY (R114, R119): a held final status is freed by the query. -/
def execHandleQuery (d : Desc) (s : State) : Res State :=
  let q := d.p 0x10 4
  .next (s.submit d
    { opcode := 0x0005, long := false, used := [(0x10, 4)], state := if s.live q then 0 else stBadState }
    (fun h s =>
      let x := s.slot (handleSlot q)
      let p := s.pair x.sq
      let s := s.setPair x.sq { p with held := p.held.filter (fun e => e.handle != q) }
      let s := if x.held && x.final && !x.keep then s.freeSlot (handleSlot q)
        else if x.held then s.setSlot (handleSlot q) { x with held := false } else s
      s.done h (x.status + 256 * b2n x.final)))

/-- A doorbell write that is ignored (R104). -/
def State.badDoorbell (s : State) (n : Nat) : State := (s.bump .QM_DB_ERR_COUNT).set .QM_DB_ERR_LAST_QID n

/-- A write of pair `n`'s SQ tail doorbell, and of its CQ head doorbell: space freed is filled from the overflow in order (R104, R118,
R120). -/
def State.sqTailWrite (s : State) (n v : Nat) : State :=
  let p := s.pair n
  if p.enabled && decide (v < p.depth) then s.setPair n { p with sqTail := v } else s.badDoorbell n
def State.cqHeadWrite (s : State) (n v : Nat) : State :=
  let p := s.pair n
  if p.enabled && decide (v < p.depth) && decide ((v + p.depth - p.cqHead) % p.depth ≤ p.unread)
  then (s.setPair n { p with cqHead := v }).drainAll n
  else s.badDoorbell n

/-- A vector unmasked: a pending one sends its message (R100). And one masked. -/
def State.msixUnmask (s : State) (v : Nat) : State :=
  let had := s.msixPend.contains v
  let s := { s with msixOpen := insNat s.msixOpen v, msixPend := delNat s.msixPend v }
  if had then s.out (.msix v) else s
def State.msixMask (s : State) (v : Nat) : State := { s with msixOpen := delNat s.msixOpen v }

/-- A 32-bit write of host software to BAR2 (R99, R104): the doorbells, 16 bytes a pair; the MSI-X table, 16 bytes a vector with the
vector control last (log entry 136). Reserved offsets and the pending bits take no write. -/
def State.bar2Write (s : State) (o v : Nat) : State :=
  if o < 0x40000 then
    if o % 16 = 0 then s.sqTailWrite (o / 16) v else if o % 16 = 4 then s.cqHeadWrite (o / 16) v else s
  else if o < 0x48000 then
    if o % 16 = 12 then (if v % 2 = 0 then s.msixUnmask ((o - 0x40000) / 16) else s.msixMask ((o - 0x40000) / 16))
    else { s with msixTab := store 0 s.msixTab ((o - 0x40000) / 4) (v % 2 ^ 32) }
  else s

/-- A 32-bit read of BAR2: doorbells read 0 (R104). -/
def State.bar2Read (s : State) (o : Nat) : Nat :=
  if 0x40000 ≤ o ∧ o < 0x48000 then
    if o % 16 = 12 then b2n !(s.msixOpen.contains ((o - 0x40000) / 16)) else look 0 s.msixTab ((o - 0x40000) / 4)
  else if 0x48000 ≤ o ∧ o < 0x48100 then
    ((List.range 32).map (fun j => b2n (s.msixPend.contains (8 * (o - 0x48000) + j)) * 2 ^ j)).sum
  else 0

/-- SQ_TAIL_DOORBELL (R104): the write of BAR2 offset 16n. -/
def execSqTailDoorbell (n v : Nat) (s : State) : Res State := .next (s.when (decide (n < 16384)) (fun s => s.bar2Write (16 * n) v))

/-- CQ_HEAD_DOORBELL (R104, R118, R120): the write of BAR2 offset 16n + 4. -/
def execCqHeadDoorbell (n v : Nat) (s : State) : Res State := .next (s.when (decide (n < 16384)) (fun s => s.bar2Write (16 * n + 4) v))

/-- QM_CTRL_EN_WRITE (R102, R115): the admin pair enabled from its registers, or the write refused; a write of 0 disables it
(log entry 18). -/
def State.adminEnable (s : State) (en : Bool) : State :=
  let depth := s.get .QM_ADMIN_DEPTH_DEPTH
  if !en then ((s.disablePair 0 1).off .QM_CTRL_EN).off .QM_STATUS_READY
  else if s.is .QM_CTRL_EN then s
  else if depth = 0 then s.set .QM_STATUS_ERR stBadZero
  else if !depthOk depth then s.set .QM_STATUS_ERR stBadRange
  else ((s.setPair 0 { enabled := true, depth := depth, sqBase := s.get .QM_ASQ_BASE_BASE,
                       cqBase := s.get .QM_ACQ_BASE_BASE }).on .QM_CTRL_EN).on .QM_STATUS_READY

/-- QM_CTRL_EN_WRITE (R115). -/
def execQmCtrlEnWrite (en : Bool) (s : State) : Res State := .next (s.reach .qm 0 (fun s => s.adminEnable en))

/-- COMPLETION_DUE (R106, R118): the completion of a command forwarded to another device arrives and is delivered on the queue
where it was submitted. -/
def execCompletionDue (handle status result detail : Nat) (s : State) : Res State :=
  .next (s.when (s.live handle && (s.slot (handleSlot handle)).remote)
    (fun s => s.report handle (status % 256) (status % 256 != stAccepted) (trunc 32 result) (trunc 16 detail)))

/-- CQ_AGG_TIMEOUT (R114). -/
def execCqAggTimeout (n : Nat) (s : State) : Res State :=
  .next (s.when ((s.pair n).enabled && decide (0 < (s.pair n).unsig)) (fun s => s.signal n))

/-- MSIX_UNMASK (R100): a pending vector sends its message. -/
def execMsixUnmask (v : Nat) (s : State) : Res State := .next (s.when (decide (v < 2048)) (fun s => s.msixUnmask v))

end Sys2Proof.Machine
end

