-- ==== Sys2Proof/Machine/Cover.lean ====
section
/-! DEFINITION. Which channels take part in printing, the causes of a hold, and coverage (spec/01_device_and_hierarchy.md, R25;
spec/19_bar_hierarchy.md, R344, R347, R349). -/

namespace Sys2Proof.Machine

/-- Channel `c` with its tun's part outside the engines. -/
def State.chan (s : State) (c : Nat) : Chan := look {} s.chans c

/-- Channel `c` replaced. -/
def State.setChan (s : State) (c : Nat) (x : Chan) : State := { s with chans := store {} s.chans c x }

/-! ## Taking part (R25) -/

/-- The codec instance that serves tun `t`: its primary, or its alternate while the primary is fenced (R155, R156). -/
def State.codecOf (s : State) (t : Nat) : Nat :=
  if s.fenced 3 (s.sf 0x0010 0 (2 * t) 1) then s.sf 0x0010 0 (2 * t + 1) 1 else s.sf 0x0010 0 (2 * t) 1

/-- Is some cause present that stops the channel as R25 says: a fence of its head channel or tun, or of both its codec
instances (R156), a hold or withholding of the device other than REPLACED and RESYNC, an unbound channel not released, or a withdrawn
one (R347, R348)? -/
def State.barred (s : State) (c : Nat) : Bool :=
  s.fenced 1 c || s.fenced 2 c || s.fenced 3 (s.codecOf c) ||
  s.is .BAR_HOLD_IMAGE || s.is .BAR_HOLD_FW || s.is .BAR_HOLD_TIME || s.is .BAR_HOLD_COMP ||
  s.is .BAR_HOLD_CONFLICT || s.is .BAR_HOLD_EXCESS ||
  (bit (s.get .BAR_UNBOUND_CH) c && !bit s.learning c) || bit s.withdrawn c

/-- Does the channel behave as fenced: barred, or not yet back in (R25, R175)? -/
def State.outOfPrint (s : State) (c : Nat) : Bool := s.barred c || (s.chan c).out

/-! ## Causes of a hold (R344, R347) -/

/-- The fields of BAR_HOLD [7:0] from bit 0. -/
def holdFlds : List Fld :=
  [.BAR_HOLD_IMAGE, .BAR_HOLD_FW, .BAR_HOLD_TIME, .BAR_HOLD_RESYNC, .BAR_HOLD_COMP, .BAR_HOLD_CONFLICT, .BAR_HOLD_EXCESS,
   .BAR_HOLD_REPLACED]

def hIMAGE : Nat := 0
def hFW : Nat := 1
def hTIME : Nat := 2
def hRESYNC : Nat := 3
def hCOMP : Nat := 4
def hCONFLICT : Nat := 5
def hEXCESS : Nat := 6
def hREPLACED : Nat := 7

/-- BAR_HOLD [7:0]. -/
def State.holdMask (s : State) : Nat := (List.range 8).foldl (fun m i => putBit m i (s.is (holdFlds.getD i .BAR_HOLD_IMAGE))) 0

/-! ## Coverage (R349) -/

/-- A coverage change recorded by a manager: channels, cause bits 0 fenced, 1 lost, 2 unbound or withdrawn; passed on by a bar manager. -/
def State.recordCoverage (s : State) (i mask cause : Nat) : State :=
  let s := (((s.set .BAR_COV_MAP_CH mask 0 i).set .BAR_COV_CAUSE_FENCED (cause % 2) 0 i).set .BAR_COV_CAUSE_LOST (cause / 2 % 2) 0 i).set
    .BAR_COV_CAUSE_CHANNELS (cause / 4 % 2) 0 i
  let s := (s.bump .BAR_COV_EVENTS_COUNT).vector .BAR_COV_VEC_VECTOR .BAR_COV_VEC_EN
  if s.role = roleBar then s.out (.wort "coverage" [i, mask, cause]) else s

/-- Does this device manage others? -/
def State.manages (s : State) : Bool := s.role == rolePress || s.role == roleBar || s.is .TRIO_STATUS_ACTIVE

/-- The channels with a HEAD_GEOM in force that fire nothing: out of print, or while firing is withheld; every channel of an excess
device (R349). -/
def State.uncovered (s : State) : Nat :=
  (List.range 64).foldl (fun m c =>
    if (s.hasSect 0x0030 c && (s.outOfPrint c || s.is .FIRE_STATUS_WITHHELD)) || s.is .BAR_HOLD_EXCESS then setBit m c else m) 0

/-- The causes of the device's own coverage loss: bit 0 a channel fenced, 2 one unbound or withdrawn, 3 resynchronising. -/
def State.lossCauses (s : State) : Nat :=
  b2n ((List.range 64).any (fun c => s.hasSect 0x0030 c && (s.fenced 1 c || s.fenced 2 c || s.fenced 3 (s.codecOf c)))) +
  4 * b2n (s.get .BAR_UNBOUND_CH != 0 || s.withdrawn != 0) + 8 * b2n (s.is .BAR_HOLD_RESYNC)

/-- A change in the device's own coverage: recorded by a manager, reported to its manager by any other device (R349). -/
def State.noteCoverage (s : State) : State :=
  let now := (s.uncovered, s.lossCauses)
  if s.coverage = now then s
  else
    let s : State := { s with coverage := now }
    if s.manages then (s.set .BAR_COV_CAUSE_HOLD s.holdMask 0 s.myIndex).recordCoverage s.myIndex now.1 (now.2 % 8)
    else s.out (.wort "coverage" [s.myIndex, now.1, now.2, s.get .BAR_UNBOUND_CH])

end Sys2Proof.Machine
end

