-- ==== Sys2Proof/Machine/Engine.lean ====
section
/-! DEFINITION. One pixel engine: its registers, its stores, the fields of its instruction word, and the arithmetic of its
vector lanes (spec/08_tuns_and_engines.md, R159-R173; spec/09_screening_and_compensation.md, R186, R187). -/

namespace Sys2Proof.Machine

/-! ## Units -/

/-- Engine `m` of tun `t` (R4). -/
def State.eng (s : State) (t m : Nat) : Eng := look {} s.engs (16 * t + m)

/-- Engine `m` of tun `t` replaced. -/
def State.setEng (s : State) (t m : Nat) (e : Eng) : State := { s with engs := store {} s.engs (16 * t + m) e }

/-- The 32 lanes of a vector register. -/
def Eng.vr (e : Eng) (r : Nat) : List Nat := look (List.replicate 32 0) e.v r

/-- Lane `i` of a vector register. -/
def Eng.lane (e : Eng) (r i : Nat) : Nat := (e.vr r).getD i 0

/-- A vector register written in the lanes of a mask (R170). -/
def Eng.setV (e : Eng) (r mask : Nat) (f : Nat → Nat) : Eng :=
  let lanes := (List.range 32).map (fun i => if bit mask i then f i % 65536 else e.lane r i)
  { e with v := store (List.replicate 32 0) e.v r lanes }

/-- A scalar register. -/
def Eng.sr (e : Eng) (r : Nat) : Nat := look 0 e.sreg r

/-- A scalar register written, 32 bits. -/
def Eng.setS (e : Eng) (r v : Nat) : Eng := { e with sreg := store 0 e.sreg r (v % 2 ^ 32) }

/-- A predicate register; P0 reads all ones (R159). -/
def Eng.pr (e : Eng) (r : Nat) : Nat := if r = 0 then 2 ^ 32 - 1 else look 0 e.p r

/-- A predicate register other than P0 written. -/
def Eng.setP (e : Eng) (r v : Nat) : Eng := if r = 0 then e else { e with p := store 0 e.p r (v % 2 ^ 32) }

/-! ## The tun's program in force (R162) -/

/-- A field of the TUN_PROG section in force. -/
def State.prog (s : State) (t o n : Nat) : Nat := s.sf 0x0020 t o n

def regDecode : Nat := 0
def regCurve : Nat := 1
def regMap : Nat := 2
def regParam : Nat := 3
def regCarry : Nat := 4
def regStage : Nat := 5
def regScratch : Nat := 6

/-- Base and size of a region of tun SRAM. -/
def State.regionBase (s : State) (t r : Nat) : Nat := s.prog t (0x40 + 8 * r) 4
def State.regionSize (s : State) (t r : Nat) : Nat := s.prog t (0x44 + 8 * r) 4

/-- Does the range of `n` bytes at `a` lie in the region? -/
def State.inRegion (s : State) (t r a n : Nat) : Bool :=
  decide (s.regionBase t r ≤ a ∧ a + n ≤ s.regionBase t r + s.regionSize t r)

/-- NOZZLES of the program. -/
def State.tunNozzles (s : State) (t : Nat) : Nat := s.prog t 0x002 2

/-- Is engine `m` used? -/
def State.engUsed (s : State) (t m : Nat) : Bool := decide (m < 16) && bit (s.prog t 0 2) m

/-- The used engines in ascending order. -/
def State.usedEngs (s : State) (t : Nat) : List Nat := (List.range 16).filter (s.engUsed t)

/-- FIRST and COUNT of an engine's slice. -/
def State.sliceFirst (s : State) (t m : Nat) : Nat := s.prog t (0x080 + 32 * m) 2
def State.sliceCount (s : State) (t m : Nat) : Nat := s.prog t (0x082 + 32 * m) 2

/-- The next used engine to the right, and to the left (R167). -/
def State.rightOf (s : State) (t m : Nat) : Option Nat := (s.usedEngs t).find? (fun j => decide (m < j))
def State.leftOf (s : State) (t m : Nat) : Option Nat := ((s.usedEngs t).filter (fun j => decide (j < m))).getLast?

/-- The table bank in force for line `y` (R161, R194). -/
def Chan.bankOf (c : Chan) (y : Nat) : Nat := if c.switch ≤ y then c.bank else 1 - c.bank

/-- The released block that holds line `y` of the channel. -/
def State.relOf (s : State) (t y : Nat) : Option RelBlock :=
  (s.chan t).released.find? (fun b => decide (b.first ≤ y ∧ y < b.first + b.lines * s.prog t 0x008 2))

/-- The tun SRAM offset of the decoded plane line of line `y` (R170, special value 8). -/
def State.planeLine (s : State) (t y : Nat) : Nat :=
  match s.relOf t y with
  | none => 0
  | some b => s.regionBase t regDecode + b.half * (s.regionSize t regDecode / 2)
      + (y - b.first) / s.prog t 0x008 2 * (2 * s.prog t 0x00A 2)

/-! ## Faults and fences of a tun (R173, R174) -/

/-- Is line `y` complete: has every used engine ended it (R169)? -/
def State.lineDone (s : State) (t y : Nat) : Bool := (s.usedEngs t).all (fun j => decide (y < (s.eng t j).ended))

/-- A tun fenced: every engine stops, and the STAGE contents of incomplete lines are discarded (R174, R395); a live replacement under way is
given up, its section kept for the reload (R177). -/
def State.fenceTun (s : State) (t cause : Nat) : State :=
  let s := s.recordFence 2 t cause
  let s := s.setChan t { s.chan t with stage := (s.chan t).stage.filter (fun e => s.lineDone t e.1), pause := none, pauseStep := 0 }
  ((s.each 16 (fun s m => s.setEng t m { s.eng t m with running := false, waiting := false })).off .TUN_STATUS_PAUSED t).noteCoverage

/-- A tun fault: the first is recorded, every one counted (R174). -/
def State.faultTun (s : State) (t m code : Nat) (count : Nat := 1) : State :=
  let e := s.eng t m
  let s := if s.get .TUN_FAULT_CODE t = 0 then
      (((s.set .TUN_FAULT_CODE code t).set .TUN_FAULT_ENGINE m t).set .TUN_FAULT_PC e.pc t).set .TUN_FAULT_LINE_LINE e.line t
    else s
  (s.bump .TUN_FAULT_COUNT count t).fenceTun t causeTun

/-! ## The instruction word (R170) -/

/-- The fields of an instruction word. -/
structure IWord where
  op    : Nat
  pred  : Nat
  pneg  : Bool
  d     : Nat
  a     : Nat
  b     : Nat
  c     : Nat
  shift : Nat
  sat   : Nat
  bsel  : Nat
  aux   : Nat
  imm   : Nat
  deriving DecidableEq, Repr

/-- The fields read out of a 64-bit word. -/
def IWord.of (w : Nat) : IWord :=
  { op := bits w 56 8, pred := bits w 53 3, pneg := bit w 52, d := bits w 47 5, a := bits w 42 5, b := bits w 37 5,
    c := bits w 32 5, shift := bits w 28 4, sat := bits w 26 2, bsel := bits w 24 2, aux := bits w 16 8, imm := bits w 0 16 }

/-- Which fields an opcode uses. -/
structure Uses where
  d     : Bool := false
  a     : Bool := false
  b     : Bool := false
  c     : Bool := false
  shift : Bool := false
  sat   : Bool := false
  /-- 0: no B-operand; 1: a scalar B-operand; 2: a vector B-operand -/
  bop   : Nat := 0
  imm   : Bool := false
  /-- the AUX values allowed -/
  aux   : Nat → Bool := fun x => x == 0

/-- Has the word no illegal SAT or BSEL and no nonzero unused field (R170)? -/
def IWord.legal (w : IWord) (u : Uses) : Bool :=
  (u.d || w.d == 0) && (u.a || w.a == 0) && (u.c || w.c == 0) && (u.shift || w.shift == 0) &&
  (if u.sat then w.sat != 3 else w.sat == 0) && u.aux w.aux &&
  (match u.bop with
   | 0 => w.bsel == 0 && (u.b || w.b == 0) && (u.imm || w.imm == 0)
   | 1 => (w.bsel == 0 && w.imm == 0) || (w.bsel == 1 && w.b == 0)
   | _ => (w.bsel == 0 && w.imm == 0) || (w.bsel == 1 && w.b == 0) || (w.bsel == 2 && w.imm == 0))

/-- The lanes an instruction works on: its predicate register after PNEG (R170). -/
def IWord.mask (w : IWord) (e : Eng) : Nat := if w.pneg then (2 ^ 32 - 1) ^^^ e.pr w.pred else e.pr w.pred

/-- The scalar B-operand: register B, or IMM16 sign-extended to 32 bits. -/
def IWord.sop (w : IWord) (e : Eng) : Nat := if w.bsel = 1 then ofSigned 32 (toSigned 16 w.imm) else e.sr w.b

/-- Lane `i` of the vector B-operand: register B, IMM16, or S[B] broadcast. -/
def IWord.vop (w : IWord) (e : Eng) (i : Nat) : Nat :=
  match w.bsel with
  | 0 => e.lane w.b i
  | 1 => w.imm
  | _ => e.sr w.b % 65536

/-- The address S[A] + IMM16, the displacement sign-extended as in every scalar use (log entry 30). -/
def IWord.addr (w : IWord) (e : Eng) : Nat := (e.sr w.a + ofSigned 32 (toSigned 16 w.imm)) % 2 ^ 32

/-! ## Issue -/

/-- What an instruction does: a fault code, or the channel and engine after it and whether it set the pc itself. -/
abbrev Effect := Except Nat (Chan × Eng × Bool)

/-- The pc after an instruction that ends a loop body: the innermost loop runs again or ends (R171 LOOP). -/
def loopBack (pc : Nat) : List (Nat × Nat × Nat) → Nat × List (Nat × Nat × Nat)
  | [] => (pc + 1, [])
  | l :: t =>
    if pc = l.2.1 then (if 1 < l.2.2 then (l.1, (l.1, l.2.1, l.2.2 - 1) :: t) else loopBack pc t)
    else (pc + 1, l :: t)

/-- The engine moved to the next instruction. -/
def Eng.advance (e : Eng) : Eng :=
  let r := loopBack e.pc e.lstack
  { e with pc := r.1, lstack := r.2 }

/-- Is the engine inside a slice, able to issue? In P1 and P2 its clock is gated (R58). -/
def State.issuing (s : State) (t m : Nat) : Bool :=
  decide (t < 64) && s.engUsed t m && (s.eng t m).running && !(s.eng t m).waiting && !s.fenced 2 t && s.get .PWR_PSTATE_CUR == 0

/-- The word at the engine's pc, unless the pc has reached IMAGE_BYTES (R162). -/
def Eng.fetch (e : Eng) : Option IWord :=
  if 8 * e.pc + 8 ≤ e.istore.length then some (IWord.of (fieldAt e.istore (8 * e.pc) 8)) else none

/-- Engine `m` of tun `t` as it issues a word: one cycle of its slice has passed (R166). -/
def State.ticked (s : State) (t m : Nat) : Eng := { s.eng t m with cyc := (s.eng t m).cyc + 1 }

/-- One instruction issued by engine `m` of tun `t`: the word at its pc has the row's opcode and no illegal field, and `body`
takes effect; a fault stops and fences the tun (R173, R174). Where the word at the pc is another opcode's, this row cannot
occur. A pc at or beyond IMAGE_BYTES is fault 10. Each instruction takes a cycle at least (R172); a slice cannot go on once these alone come to
SLICE_LIMIT (R166). -/
def State.issue (s : State) (t m op : Nat) (u : Uses) (body : State → Chan → Eng → IWord → Effect) : State :=
  if !s.issuing t m then s
  else if s.get .TUN_LIMIT_SLICE_LIMIT t ≤ (s.eng t m).cyc then s.faultTun t m 4
  else match (s.eng t m).fetch with
  | none => s.faultTun t m 10
  | some w =>
    if w.op ≠ op then s
    else if !w.legal u then s.faultTun t m 1
    else match body s (s.chan t) (s.ticked t m) w with
    | .error code => s.faultTun t m code
    | .ok r => (s.setChan t r.1).setEng t m (if r.2.2 then r.2.1 else r.2.1.advance)

/-- A body that only changes the engine. -/
def engOnly (f : Eng → IWord → Eng) : State → Chan → Eng → IWord → Effect :=
  fun _ c e w => .ok (c, f e w, false)

/-- A scalar or control body: it runs only if lane 0 of its predicate is 1 (R170). -/
def ifLane0 (f : State → Chan → Eng → IWord → Effect) : State → Chan → Eng → IWord → Effect :=
  fun s c e w => if bit (w.mask e) 0 then f s c e w else .ok (c, e, false)

/-- A scalar operation S[D] = f S[A] B-operand. -/
def scalarOp (f : Nat → Nat → Nat) : State → Chan → Eng → IWord → Effect :=
  ifLane0 (engOnly (fun e w => e.setS w.d (f (e.sr w.a) (w.sop e))))

/-- A lane-wise operation V[D]i = f V[A]i B-operand-i in the lanes of the predicate. -/
def laneOp (f : IWord → Nat → Nat → Nat) : State → Chan → Eng → IWord → Effect :=
  engOnly (fun e w => e.setV w.d (w.mask e) (fun i => f w (e.lane w.a i) (w.vop e i)))

def usesScalar : Uses := { d := true, a := true, bop := 1 }
def usesLane : Uses := { d := true, a := true, bop := 2 }
def usesLaneSat : Uses := { d := true, a := true, bop := 2, sat := true }

/-! ## Lane arithmetic -/

/-- A value brought to 16 bits by SAT: wrap, saturate unsigned, saturate signed (R170). -/
def satTo16 (sat : Nat) (x : Int) : Nat :=
  match sat with
  | 0 => ofSigned 16 x
  | 1 => if x < 0 then 0 else if x > 65535 then 65535 else x.toNat
  | _ => if x < -32768 then ofSigned 16 (-32768) else if x > 32767 then 32767 else ofSigned 16 x

/-- A lane taken as SAT takes it: unsigned for SAT 1, else signed. -/
def laneInt (sat x : Nat) : Int := if sat = 1 then (x : Int) else toSigned 16 x

/-- A multiply operand: unsigned if AUX [1] (R171). -/
def mulInt (aux x : Nat) : Int := if bit aux 1 then (x : Int) else toSigned 16 x

/-- The rounding term of a multiply: 2^(SHIFT - 1) with AUX [0] and SHIFT > 0, else 0 (R171). -/
def mulRound (w : IWord) : Int := if bit w.aux 0 && decide (0 < w.shift) then 2 ^ (w.shift - 1) else 0

/-- The 32-bit number of a register pair, lane `i`. -/
def Eng.pair (e : Eng) (r i : Nat) : Nat := e.lane r i + 65536 * e.lane (r + 1) i

/-- A register pair written in the lanes of a mask. -/
def Eng.setPair (e : Eng) (r mask : Nat) (f : Nat → Nat) : Eng :=
  let lo := fun i => f i % 65536
  let hi := fun i => f i / 65536 % 65536
  (e.setV r mask lo).setV (r + 1) mask hi

/-- The condition of VCMP (R171). -/
def vcond (aux x y : Nat) : Bool :=
  match aux with
  | 0 => x == y
  | 1 => x != y
  | 2 => decide (toSigned 16 x < toSigned 16 y)
  | 3 => decide (toSigned 16 x ≤ toSigned 16 y)
  | 4 => decide (x < y)
  | _ => decide (x ≤ y)

/-- A mask of 32 bits from a condition on lanes. -/
def maskOf (f : Nat → Bool) : Nat := ((List.range 32).map (fun i => if f i then 2 ^ i else 0)).sum

/-- 64 bytes as 32 lanes, little-endian. -/
def lanesOf (bs : List Byte) (i : Nat) : Nat := fieldAt bs (2 * i) 2

/-- 64 bytes of a memory with the lanes of a mask replaced. -/
def storeLanes (m : Memory) (a mask : Nat) (f : Nat → Nat) : Memory :=
  (List.range 32).foldl (fun m i => if bit mask i then Memory.wrs m (a + 2 * i) (leBytes 2 (f i)) else m) m

/-! ## Transfer curve and error diffusion -/

/-- Entry `i` of the curve in slot `k`: bits [10i + 9 : 10i] of its 320 bytes (R186). -/
def State.curveEntry (s : State) (t k i : Nat) : Nat :=
  bits (leNat (Memory.rds (s.chan t).sram (s.regionBase t regCurve + 320 * k) 320)) (10 * i) 10

/-- The transfer curve of slot `k` at input `x` (R186). -/
def State.curveAt (s : State) (t k x : Nat) : Nat :=
  let i := x / 4
  let f := x % 4
  let c0 := s.curveEntry t k i
  let c1 := if i < 255 then s.curveEntry t k (i + 1) else s.curveEntry t k 255
  ((c0 : Int) + (((c1 : Int) - c0) * f + 2) / 4).toNat

/-- The MAP entry of nozzle `n` in bank `b` (R191). -/
def State.mapEntry (s : State) (t b n : Nat) : Nat :=
  leNat (Memory.rds (s.chan t).sram (s.regionBase t regMap + b * (s.regionSize t regMap / 2) + 2 * n) 2)

/-- A value clamped between two bounds. -/
def clampInt (lo hi x : Int) : Int := if x < lo then lo else if hi < x then hi else x

/-- One lane of EDSTEP (R187): the dot code, the residual, and the next carried error; a LEVEL_STEP or KSHIFT of 0, for which
the rule states no result, gives free values (`fd`, `fc`; log entry 31). The internal arithmetic is 32-bit signed, and wraps (log entry
129). -/
def edLane (va vc sc : Int) (level maxdot kr kshift : Nat) (fd fc : Nat) : Nat × Int × Int :=
  let w32 := fun (x : Int) => toSigned 32 (ofSigned 32 x)
  let t := w32 (va + sc)
  let d := if level = 0 then (fd : Int) % ((maxdot : Int) + 1)
    else clampInt 0 maxdot (w32 (t + vc + (level / 2 : Nat)) / (level : Int))
  let e := clampInt (-4096) 4095 (w32 (t - d * level))
  let c := if kshift = 0 then toSigned 32 fc else (e * kr + 2 ^ (kshift - 1)) / 2 ^ kshift
  (d.toNat, e, c)

/-- EDSTEP over the lanes of a list in order: V[D] lanes and the carried error in S[C] (R187). -/
def edLanes (fr : Nat) (w : IWord) (mask : Nat) : List Nat → Eng → Eng
  | [], e => e
  | i :: t, e =>
    if bit mask i then
      let k := e.sr w.b
      let r := edLane (toSigned 16 (e.lane w.a i)) (toSigned 16 (e.lane w.c i)) (toSigned 32 (e.sr w.c)) (bits k 0 11)
        (bits k 11 2) w.aux w.shift (Config.freeValue (fr + 2 * i)).toNat (Config.freeValue (fr + 2 * i + 1)).toNat
      let e := e.setV w.d (2 ^ i) (fun _ => (ofSigned 16 (r.2.1 * 4)) + r.1)
      edLanes fr w mask t (e.setS w.c (ofSigned 32 r.2.2))
    else edLanes fr w mask t e

end Sys2Proof.Machine
end

