-- ==== Sys2Proof/Machine/Sets.lean ====
section
/-! DEFINITION. Change sets as data: the stages a set touches, the commit line R91 chooses for it, and the lines the screen and
fire stages may not pass before a set has switched (spec/04_mash_image.md, R90-R96). -/

namespace Sys2Proof.Machine

/-- The commit classes of R90. -/
inductive CClass where
  | swap | pause | aux | gap | stop | note
  deriving DecidableEq, Repr

/-- The commit class of a section type (R74); a NOTE has none. -/
def sectClass (t : Nat) : CClass :=
  if t = 0x0030 ∨ t = 0x0031 ∨ t = 0x0032 ∨ t = 0x0060 then .swap
  else if t = 0x0020 ∨ t = 0x0021 then .pause
  else if t = 0x0050 ∨ t = 0x0051 then .stop
  else if t = 0x0040 ∨ t = 0x0041 ∨ t = 0x0042 ∨ t = 0x0043 ∨ t = 0x0053 then .aux
  else if t = 0x00F0 then .note
  else .gap

/-- The name under which a section's switch is recorded: type and index. -/
def sectKey (t i : Nat) : Nat := 256 * t + i

/-- Has the set a section of this class? -/
def ChangeSet.hasClass (x : ChangeSet) (c : CClass) : Bool := x.image.sects.any (fun y => sectClass y.type == c)

/-- Has the set a section of this type and index? -/
def ChangeSet.has (x : ChangeSet) (t i : Nat) : Bool := x.image.sects.any (fun y => y.type == t && y.index == i)

/-- Is the section a screen-stage section (R91)? -/
def Sect.screens (y : Sect) : Bool := y.type == 0x0030 || y.type == 0x0031 || y.type == 0x0020 || y.type == 0x0021

/-- Has the set a screen-stage section? -/
def ChangeSet.screens (x : ChangeSet) : Bool := x.image.sects.any Sect.screens

/-- Has the set switched the section? -/
def ChangeSet.switched (x : ChangeSet) (y : Sect) : Bool := x.applied.contains (sectKey y.type y.index)

/-- Has every section of the set been brought into force? -/
def ChangeSet.allSwitched (x : ChangeSet) : Bool := x.image.sects.all (fun y => sectClass y.type == .note || x.switched y)

/-- Is AX0 stopped, as far as this device can tell: its own AX0 does not move and no line events are being applied? -/
def State.axStopped (s : State) : Bool := !bit (s.get .MOT_STATUS_MOVING) 0 && !s.is .FIRE_STATUS_RUNNING

/-- The lowest line for which no used engine of tun `t` has started a slice (R194). -/
def State.screenNext (s : State) (t : Nat) : Nat :=
  (s.usedEngs t).foldl (fun n m => max n (if (s.eng t m).running then (s.eng t m).line + 1 else (s.eng t m).ended)) 0

/-- The line at which the screen stage of tun `t` stands: the next one it has to process, past the lines that no page known holds (R91). -/
def State.screenAt (s : State) (t : Nat) : Nat :=
  let n := s.screenNext t
  let l := s.pages.filter (fun p => p.state != 3)
  if l.any (fun p => decide (p.first ≤ n ∧ n < p.first + p.lines)) then n
  else (((l.map Page.first).filter (fun f => decide (n < f))).min?).getD n

/-- The lowest line that no channel has taken for firing. -/
def State.fireReach (s : State) : Nat := s.chans.foldl (fun n e => max n e.2.taken) s.seq.next

/-- The lowest line that no stage touched by the set has processed. -/
def State.setReach (s : State) (x : ChangeSet) : Nat :=
  x.image.sects.foldl (fun n y => if y.screens then max n (s.screenNext y.index) else n) s.fireReach

/-- The furthest line at which a stage touched by the set stands: a screen stage with no line in between stands beyond a page gap (R91). -/
def State.stageAt (s : State) (x : ChangeSet) : Nat :=
  x.image.sects.foldl (fun n y => if y.screens then max n (s.screenAt y.index) else n) s.fireReach

/-- The longest QUIESCE_US of the set's GAP sections. -/
def ChangeSet.gapTime (x : ChangeSet) : Nat :=
  x.image.sects.foldl (fun n y => if sectClass y.type = .gap then max n y.quiesce else n) 0

/-- Does a gap of `n` lines last at least QUIESCE_US + 200 µs at the present line rate (R90)? -/
def State.gapFits (s : State) (x : ChangeSet) (n : Nat) : Bool := decide ((x.gapTime + 200) * s.seq.rate ≤ n * 1000000)

/-- The first lines of the pages that follow a page gap which qualifies for the set: it begins at or above TARGET_LINE, no stage touched
has reached it, and it lasts long enough (R90, R91). -/
def State.gapEnds (s : State) (x : ChangeSet) : List Nat :=
  (s.gaps.filter (fun g => decide (x.target ≤ g.1 ∧ s.setReach x ≤ g.1) && s.gapFits x g.2)).map (fun g => g.1 + g.2)

/-- The line R91 and R93 choose for a set as matters stand, at or below DEADLINE_LINE, and the rule that chose it (5: R93, no job in
progress). A line below the set's predecessors' lines is raised to theirs (R95). -/
def State.chooseLine (s : State) (x : ChangeSet) (floor : Nat) : Option (Nat × Nat) :=
  let reach := s.setReach x
  let inTime := fun (c r : Nat) => if c ≤ x.deadline then some (c, r) else none
  let rule1 := if !x.hasClass .gap && !x.hasClass .stop then inTime (max floor (max x.target reach)) 1 else none
  let rule2 := if x.hasClass .gap && !x.hasClass .stop then
      match ((s.gapEnds x).filter (fun y => decide (floor ≤ y))).min? with
      | some c => inTime c 2
      | none => none
    else none
  let rule3 := if !x.screens && s.axStopped && decide (x.target ≤ s.seq.next) then inTime (max floor s.seq.next) 3 else none
  let rule4 := if x.bsOk && decide (reach ≤ x.deadline ∧ floor ≤ x.deadline) then some (x.deadline, 4) else none
  if s.axStopped && !s.is .MOT_STATUS_JOB then some (s.seq.next, 5)
  else (rule1.orElse fun _ => rule2).orElse fun _ => rule3.orElse fun _ => rule4

/-- By which rule of R91 can this device apply the set at line `y`, which the press manager sets for every device concerned (R34)? -/
def State.canMeet (s : State) (x : ChangeSet) (floor y : Nat) : Option Nat :=
  if y < x.target ∨ x.deadline < y ∨ y < floor then none
  else if !x.hasClass .gap && !x.hasClass .stop && decide (s.setReach x ≤ y) then some 1
  else if !x.hasClass .stop && (s.gapEnds x).contains y then some 2
  else if !x.screens && s.axStopped && y == s.seq.next then some 3
  else if x.bsOk && y == x.deadline && decide (s.setReach x ≤ y) then some 4
  else none

/-- The sets with the lines their predecessors have (R95) and the line each has itself, final or as chosen now, in order of acceptance. A set
that spans devices has none until the press manager has set one (R34). -/
def State.setFloors (s : State) : List (ChangeSet × Nat × Option (Nat × Nat)) :=
  (s.sets.foldl (fun (a : Nat × List (ChangeSet × Nat × Option (Nat × Nat))) x =>
    let c := match x.line with
      | some y => some (y, x.rule)
      | none => if x.others.isEmpty then s.chooseLine x a.1 else none
    (match c with | some y => max a.1 y.1 | none => a.1, a.2 ++ [(x, a.1, c)])) (0, [])).2

/-- The sets with the line each has (R95). -/
def State.setLines (s : State) : List (ChangeSet × Option (Nat × Nat)) := s.setFloors.map (fun e => (e.1, e.2.2))

/-- May the stages not yet process line `y` because of this set: a switch is due there, or its deadline has come? -/
def setHolds (y : Nat) (c : Option (Nat × Nat)) (x : ChangeSet) (due : Bool) : Bool :=
  match x.line, c with
  | some l, _ => decide (l ≤ y) && due
  | none, some l => decide (l.1 ≤ y)
  | none, none => decide (x.deadline ≤ y)

/-- Does a change set hold the screen stage of tun `t` at line `y` (R90, R91)? -/
def State.screenHeld (s : State) (t y : Nat) : Bool :=
  s.setLines.any (fun e => e.1.image.sects.any (fun z => z.screens && z.index == t) &&
    setHolds y e.2 e.1 (e.1.image.sects.any (fun z => z.screens && z.type != 0x0030 && z.index == t && !e.1.switched z)))

/-- Does a change set hold the fire stage at line `y`? -/
def State.fireHeld (s : State) (y : Nat) : Bool :=
  s.setLines.any (fun e => setHolds y e.2 e.1 (!e.1.allSwitched))

/-- The composite in force from line `y` on: the one in force now and every set that comes into force by then (R94, R346). -/
def State.compositeAt (s : State) (y : Nat) : Nat :=
  digestId (s.sets.foldl (fun c x => match x.line with
    | some l => if l ≤ y then sha384 (c ++ x.image.hash) else c
    | none => c) s.composite)

/-- The composite that a manager expects of device `x` at line `y` (R342, R346): that of its binding, or where it has none the one it has, with
the sets that come into force by then. -/
def State.expectAt (s : State) (x : Dev) (y : Nat) : Nat :=
  let b := look {} s.binds x.index
  s.sets.foldl (fun c w => match w.line, w.after.find? (fun e => e.1 == x.index) with
    | some l, some e => if l ≤ y then e.2 else c
    | _, _ => c) (if b.bound then b.expect else x.composite)

/-- Does the gravity loop prepare no generation for channel `c` (R196)? -/
def State.gravHeld (s : State) (c : Nat) : Bool :=
  s.sets.any (fun x => x.has 0x0031 c && !x.applied.contains (sectKey 0x0031 c))

end Sys2Proof.Machine
end

