-- ==== Sys2Proof/Machine/Tun.lean ====
section
/-! DEFINITION. The instructions of the pixel engines, one meaning each, and the events of a tun: slices, edge channels, line
completion, faults, live replacement (spec/08_tuns_and_engines.md, R159-R177). -/

namespace Sys2Proof.Machine

/-! ## Control (R171) -/

/-- A jump of the pc. -/
def jumpTo (c : Chan) (e : Eng) (a : Nat) : Effect := .ok (c, { e with pc := a }, true)

/-- The pc goes on behind the instruction at `a`, which may end the body of a loop (R171 LOOP). -/
def goBehind (c : Chan) (e : Eng) (a : Nat) : Effect :=
  let r := loopBack a e.lstack
  .ok (c, { e with pc := r.1, lstack := r.2 }, true)

/-- Instruction NOP. -/
def execEngineNop (t m : Nat) (s : State) : Res State :=
  .next (s.issue t m 0x00 {} (fun _ c e _ => .ok (c, e, false)))

/-- JMP. -/
def execJmp (t m : Nat) (s : State) : Res State :=
  .next (s.issue t m 0x01 { imm := true } (ifLane0 (fun _ c e w => jumpTo c e (w.imm % 2048))))

/-- JNZ. -/
def execJnz (t m : Nat) (s : State) : Res State :=
  .next (s.issue t m 0x02 { a := true, imm := true }
    (ifLane0 (fun _ c e w => if e.sr w.a ≠ 0 then jumpTo c e (w.imm % 2048) else .ok (c, e, false))))

/-- JZ. -/
def execJz (t m : Nat) (s : State) : Res State :=
  .next (s.issue t m 0x03 { a := true, imm := true }
    (ifLane0 (fun _ c e w => if e.sr w.a = 0 then jumpTo c e (w.imm % 2048) else .ok (c, e, false))))

/-- LOOP: the next IMM16 [10:0] instructions run S[A] times; a count of 0 skips the body; the loop stack has 4 entries. -/
def execLoop (t m : Nat) (s : State) : Res State :=
  .next (s.issue t m 0x04 { a := true, imm := true } (ifLane0 (fun _ c e w =>
    let n := w.imm % 2048
    if e.sr w.a = 0 ∨ n = 0 then goBehind c e (e.pc + n)
    else if 4 ≤ e.lstack.length then .error 8
    else .ok (c, { e with pc := e.pc + 1, lstack := (e.pc + 1, e.pc + n, e.sr w.a) :: e.lstack }, true))))

/-- CALL: the return stack has 8 entries. -/
def execCall (t m : Nat) (s : State) : Res State :=
  .next (s.issue t m 0x05 { imm := true } (ifLane0 (fun _ c e w =>
    if 8 ≤ e.rstack.length then .error 8
    else jumpTo c { e with rstack := (e.pc + 1) :: e.rstack } (w.imm % 2048))))

/-- RET: a CALL that was the last instruction of a loop's body has then ended that run of it. -/
def execRet (t m : Nat) (s : State) : Res State :=
  .next (s.issue t m 0x06 {} (ifLane0 (fun _ c e _ =>
    match e.rstack with
    | [] => .error 8
    | a :: r => goBehind c { e with rstack := r } (a - 1))))

/-- Blocks whose last line every used engine has ended leave the decode buffer and the intake queue (R154; log entry 35). -/
def State.dropReleased (s : State) (t : Nat) : State :=
  let c := s.chan t
  let div := s.prog t 0x008 2
  let keep := c.released.filter (fun b => (s.usedEngs t).any (fun j => decide ((s.eng t j).ended < b.first + b.lines * div)))
  s.setChan t { c with released := keep, intake := c.intake.filter (fun b => !b.moved || keep.any (fun r => r.first == b.first)) }

/-- ENDL (R165, R166): the slice ends after `cycles` CLK_ENG cycles, or after those its instructions take at least; more than SLICE_LIMIT is
fault 4. -/
def execEndl (t m cycles : Nat) (s : State) : Res State :=
  let n := max cycles ((s.eng t m).cyc + 1)
  let s' := s.issue t m 0x07 {} (ifLane0 (fun s c e _ =>
    if s.get .TUN_LIMIT_SLICE_LIMIT t < n then .error 4
    else .ok (c, { e with running := false, ended := e.line + 1 }, true)))
  .next (if (s.eng t m).running && !(s'.eng t m).running && !s'.fenced 2 t then
      (s'.set .TUN_SLICE_MAX_CYCLES (max (s'.get .TUN_SLICE_MAX_CYCLES t m) n) t m).dropReleased t
    else s')

/-- TRAP: fault 9. -/
def execTrap (t m : Nat) (s : State) : Res State :=
  .next (s.issue t m 0x08 { imm := true } (ifLane0 (fun _ _ _ _ => .error 9)))

/-! ## Scalar instructions -/

/-- SADD. -/
def execSadd (t m : Nat) (s : State) : Res State := .next (s.issue t m 0x10 usesScalar (scalarOp (fun a b => a + b)))
/-- SSUB. -/
def execSsub (t m : Nat) (s : State) : Res State := .next (s.issue t m 0x11 usesScalar (scalarOp (fun a b => a + 2 ^ 32 - b)))
/-- SMOV: copies the B-operand. -/
def execSmov (t m : Nat) (s : State) : Res State :=
  .next (s.issue t m 0x12 { d := true, bop := 1 } (scalarOp (fun _ b => b)))
/-- SAND. -/
def execSand (t m : Nat) (s : State) : Res State := .next (s.issue t m 0x13 usesScalar (scalarOp (fun a b => a &&& b)))
/-- SOR. -/
def execSor (t m : Nat) (s : State) : Res State := .next (s.issue t m 0x14 usesScalar (scalarOp (fun a b => a ||| b)))

/-- A shift of `w` bits; a count of `w` or more, for which the spec states no result, gives the free value `fr`
(log entry 32). -/
def shiftOr (w n fr : Nat) (f : Nat) : Nat := if n < w then f else fr

/-- The free values an instruction may draw are set aside before it. -/
def State.issueFree (s : State) (n t m op : Nat) (u : Uses) (body : Nat → State → Chan → Eng → IWord → Effect) : State :=
  State.issue { s with freeCtr := s.freeCtr + n } t m op u (body s.freeCtr)

/-- SSHL. -/
def execSshl (t m : Nat) (s : State) : Res State :=
  .next (s.issueFree 1 t m 0x15 usesScalar
    (fun fr => scalarOp (fun a b => shiftOr 32 b (Config.freeValue fr).toNat (a * 2 ^ (b % 32)))))
/-- SSHR. -/
def execSshr (t m : Nat) (s : State) : Res State :=
  .next (s.issueFree 1 t m 0x16 usesScalar
    (fun fr => scalarOp (fun a b => shiftOr 32 b (Config.freeValue fr).toNat (a / 2 ^ (b % 32)))))
/-- SMUL: the low 32 bits. -/
def execSmul (t m : Nat) (s : State) : Res State := .next (s.issue t m 0x17 usesScalar (scalarOp (fun a b => a * b)))

/-- The cycles since the slice started, at least `lo` and at most SLICE_LIMIT: which number is a free value (log entry 33). -/
def sliceCycles (lo limit fr : Nat) : Nat := lo + (Config.freeValue fr).toNat % (limit + 1 - lo)

/-- SRD: the special values of R170. What 7 reads is a bound for the rest of the slice. -/
def execSrd (t m : Nat) (s : State) : Res State :=
  .next (s.issueFree 1 t m 0x18 { d := true, aux := fun x => decide (x ≤ 9) } (fun fr => ifLane0 (fun s c e w =>
    let n := sliceCycles e.cyc (s.get .TUN_LIMIT_SLICE_LIMIT t) fr
    let v := match w.aux with
      | 0 => e.line
      | 1 => e.line / 2 ^ 32
      | 2 => s.sliceFirst t m
      | 3 => s.sliceCount t m
      | 4 => m
      | 5 => t
      | 6 => c.bankOf e.line
      | 7 => n
      | 8 => s.planeLine t e.line
      | _ => match s.relOf t e.line with
        | some b => e.line - b.pfirst
        | none => 0
    .ok (c, ({ e with cyc := if w.aux = 7 then n else e.cyc } : Eng).setS w.d v, false))))

/-! ## Vector instructions -/

/-- VADD. -/
def execVadd (t m : Nat) (s : State) : Res State :=
  .next (s.issue t m 0x20 usesLaneSat (laneOp (fun w a b => satTo16 w.sat (laneInt w.sat a + laneInt w.sat b))))
/-- VSUB. -/
def execVsub (t m : Nat) (s : State) : Res State :=
  .next (s.issue t m 0x21 usesLaneSat (laneOp (fun w a b => satTo16 w.sat (laneInt w.sat a - laneInt w.sat b))))

/-- VMIN and VMAX compare signed if AUX [0] = 0, unsigned if 1. -/
def laneLe (w : IWord) (a b : Nat) : Bool :=
  if bit w.aux 0 then decide (a ≤ b) else decide (toSigned 16 a ≤ toSigned 16 b)

def usesMinMax : Uses := { d := true, a := true, bop := 2, aux := fun x => decide (x ≤ 1) }

/-- VMIN. -/
def execVmin (t m : Nat) (s : State) : Res State :=
  .next (s.issue t m 0x22 usesMinMax (laneOp (fun w a b => if laneLe w a b then a else b)))
/-- VMAX. -/
def execVmax (t m : Nat) (s : State) : Res State :=
  .next (s.issue t m 0x23 usesMinMax (laneOp (fun w a b => if laneLe w a b then b else a)))
/-- VAND. -/
def execVand (t m : Nat) (s : State) : Res State := .next (s.issue t m 0x24 usesLane (laneOp (fun _ a b => a &&& b)))
/-- VOR. -/
def execVor (t m : Nat) (s : State) : Res State := .next (s.issue t m 0x25 usesLane (laneOp (fun _ a b => a ||| b)))
/-- VXOR. -/
def execVxor (t m : Nat) (s : State) : Res State := .next (s.issue t m 0x26 usesLane (laneOp (fun _ a b => a ^^^ b)))

/-- A lane-wise shift: lane counts of 16 or more give free values (log entry 32). -/
def laneShift (fr : Nat) (f : Nat → Nat → Nat) : State → Chan → Eng → IWord → Effect :=
  engOnly (fun e w => e.setV w.d (w.mask e) (fun i =>
    shiftOr 16 (w.vop e i) (Config.freeValue (fr + i)).toNat (f (e.lane w.a i) (w.vop e i % 16))))

/-- VSHL. -/
def execVshl (t m : Nat) (s : State) : Res State :=
  .next (s.issueFree 32 t m 0x27 usesLane (fun fr => laneShift fr (fun a n => a * 2 ^ n)))
/-- VSHR. -/
def execVshr (t m : Nat) (s : State) : Res State :=
  .next (s.issueFree 32 t m 0x28 usesLane (fun fr => laneShift fr (fun a n => a / 2 ^ n)))
/-- VSRA. -/
def execVsra (t m : Nat) (s : State) : Res State :=
  .next (s.issueFree 32 t m 0x29 usesLane (fun fr => laneShift fr (fun a n => ofSigned 16 (toSigned 16 a / 2 ^ n))))

/-- VSEL: lane i = V[A]i if P[C [2:0]] bit i is 1, else B-operand. -/
def execVsel (t m : Nat) (s : State) : Res State :=
  .next (s.issue t m 0x2A { d := true, a := true, c := true, bop := 2 } (fun _ c e w =>
    if 8 ≤ w.c then .error 1
    else .ok (c, e.setV w.d (w.mask e) (fun i => if bit (e.pr w.c) i then e.lane w.a i else w.vop e i), false)))

/-- VCMP: destination P0 is an illegal instruction (R170). -/
def execVcmp (t m : Nat) (s : State) : Res State :=
  .next (s.issue t m 0x2B { d := true, a := true, bop := 2, aux := fun x => decide (x ≤ 5) } (fun _ c e w =>
    if 8 ≤ w.d ∨ w.d = 0 then .error 1
    else
      let k := w.mask e
      let r := maskOf (fun i => if bit k i then vcond w.aux (e.lane w.a i) (w.vop e i) else bit (e.pr w.d) i)
      .ok (c, e.setP w.d r, false)))

/-- VMOV. -/
def execVmov (t m : Nat) (s : State) : Res State :=
  .next (s.issue t m 0x2C { d := true, bop := 2 } (laneOp (fun _ _ b => b)))
/-- VIOTA: lane i = S[A] + i, truncated to 16 bits. -/
def execViota (t m : Nat) (s : State) : Res State :=
  .next (s.issue t m 0x2D { d := true, a := true }
    (engOnly (fun e w => e.setV w.d (w.mask e) (fun i => e.sr w.a + i))))

def usesMul : Uses := { d := true, a := true, bop := 2, shift := true, sat := true, aux := fun x => decide (x ≤ 3) }
def usesMulWide : Uses := { d := true, a := true, bop := 2, aux := fun x => decide (x ≤ 3) }

/-- VMUL: lane i = (A × B + r) >> SHIFT, saturated by SAT. -/
def execVmul (t m : Nat) (s : State) : Res State :=
  .next (s.issue t m 0x30 usesMul (laneOp (fun w a b =>
    satTo16 w.sat ((mulInt w.aux a * mulInt w.aux b + mulRound w) / 2 ^ w.shift))))

/-- VMULW: 32-bit products into the pair V[D], V[D + 1]; D even. -/
def execVmulw (t m : Nat) (s : State) : Res State :=
  .next (s.issue t m 0x31 usesMulWide (fun _ c e w =>
    if w.d % 2 = 1 then .error 1
    else .ok (c, e.setPair w.d (w.mask e)
      (fun i => ofSigned 32 (mulInt w.aux (e.lane w.a i) * mulInt w.aux (w.vop e i))), false)))

/-- VMAC: the pair V[D], V[D + 1] gains A × B; D even. -/
def execVmac (t m : Nat) (s : State) : Res State :=
  .next (s.issue t m 0x32 usesMulWide (fun _ c e w =>
    if w.d % 2 = 1 then .error 1
    else .ok (c, e.setPair w.d (w.mask e)
      (fun i => ofSigned 32 ((e.pair w.d i : Int) + mulInt w.aux (e.lane w.a i) * mulInt w.aux (w.vop e i))), false)))

/-- VNARROW: V[D] = (pair V[A], V[A + 1] + r) >> SHIFT, saturated by SAT; A even. -/
def execVnarrow (t m : Nat) (s : State) : Res State :=
  .next (s.issue t m 0x33 { d := true, a := true, shift := true, sat := true, aux := fun x => decide (x ≤ 3) }
    (fun _ c e w =>
      if w.a % 2 = 1 then .error 1
      else .ok (c, e.setV w.d (w.mask e) (fun i =>
        let x : Int := if bit w.aux 1 then (e.pair w.a i : Int) else toSigned 32 (e.pair w.a i)
        satTo16 w.sat ((x + mulRound w) / 2 ^ w.shift)), false)))

/-- VSLIDE: lanes moved by AUX [4:0] places, towards higher lanes if AUX [7] = 0; vacated lanes filled from V[C]. -/
def execVslide (t m : Nat) (s : State) : Res State :=
  .next (s.issue t m 0x40 { d := true, a := true, c := true, aux := fun x => bits x 5 2 == 0 }
    (engOnly (fun e w =>
      let n := w.aux % 32
      e.setV w.d (w.mask e) (fun i =>
        if bit w.aux 7 then (if i + n < 32 then e.lane w.a (i + n) else e.lane w.c i)
        else (if n ≤ i then e.lane w.a (i - n) else e.lane w.c i)))))

/-- VBCAST: every lane = V[A] lane AUX [4:0]. -/
def execVbcast (t m : Nat) (s : State) : Res State :=
  .next (s.issue t m 0x41 { d := true, a := true, aux := fun x => decide (x < 32) }
    (engOnly (fun e w => e.setV w.d (w.mask e) (fun _ => e.lane w.a w.aux))))

/-- VPERM: lane i = V[A] lane (V[B]i mod 32). -/
def execVperm (t m : Nat) (s : State) : Res State :=
  .next (s.issue t m 0x42 { d := true, a := true, b := true }
    (engOnly (fun e w => e.setV w.d (w.mask e) (fun i => e.lane w.a (e.lane w.b i % 32)))))

/-! ## Loads and stores -/

/-- Bytes of a local store. -/
def localSize : Nat := 32768

/-- LDL: 64 bytes of the local store at S[A] + IMM16, a multiple of 64 (fault 2 otherwise). -/
def execLdl (t m : Nat) (s : State) : Res State :=
  .next (s.issue t m 0x50 { d := true, a := true, imm := true } (fun _ c e w =>
    let a := w.addr e
    if a % 64 ≠ 0 ∨ localSize < a + 64 then .error 2
    else .ok (c, e.setV w.d (w.mask e) (lanesOf (Memory.rds e.lmem a 64)), false)))

/-- STL: the enabled lanes of V[C] into 64 bytes of the local store. -/
def execStl (t m : Nat) (s : State) : Res State :=
  .next (s.issue t m 0x51 { a := true, c := true, imm := true } (fun _ c e w =>
    let a := w.addr e
    if a % 64 ≠ 0 ∨ localSize < a + 64 then .error 2
    else .ok (c, { e with lmem := storeLanes e.lmem a (w.mask e) (e.lane w.c) }, false)))

/-- LDGL: lane i = 16 bits of the local store at S[A] + 2 × V[B]i. -/
def execLdgl (t m : Nat) (s : State) : Res State :=
  .next (s.issue t m 0x52 { d := true, a := true, b := true } (fun _ c e w =>
    let at_ := fun i => (e.sr w.a + 2 * e.lane w.b i) % 2 ^ 32
    if (List.range 32).any (fun i => bit (w.mask e) i && decide (localSize < at_ i + 2)) then .error 2
    else .ok (c, e.setV w.d (w.mask e) (fun i => leNat (Memory.rds e.lmem (at_ i) 2)), false)))

/-- The ranges of tun SRAM an engine may load from, or store to (R161): CARRY and SCRATCH, and for loads the halves of DECODE that hold a
released block (log entry 130). -/
def State.sttRanges (s : State) (t : Nat) : List (Nat × Nat) :=
  [regCarry, regScratch].map (fun r => (s.regionBase t r, s.regionSize t r))
def State.ldtRanges (s : State) (t : Nat) : List (Nat × Nat) :=
  let half := s.regionSize t regDecode / 2
  s.sttRanges t ++ (s.chan t).released.map (fun b => (s.regionBase t regDecode + b.half * half, half))

/-- Does every one of `n` bytes at `a` lie in one of the ranges? -/
def inRanges (l : List (Nat × Nat)) (a n : Nat) : Bool :=
  (List.range n).all (fun i => l.any (fun r => decide (r.1 ≤ a + i ∧ a + i < r.1 + r.2)))

/-- May an engine load, or store, these 64 bytes? -/
def State.ldtOk (s : State) (t a : Nat) : Bool := inRanges (s.ldtRanges t) a 64
def State.sttOk (s : State) (t a : Nat) : Bool := inRanges (s.sttRanges t) a 64

/-- LDT. -/
def execLdt (t m : Nat) (s : State) : Res State :=
  .next (s.issue t m 0x53 { d := true, a := true, imm := true } (fun s c e w =>
    let a := w.addr e
    if !s.ldtOk t a then .error 3
    else .ok (c, e.setV w.d (w.mask e) (lanesOf (Memory.rds c.sram a 64)), false)))

/-- STT. -/
def execStt (t m : Nat) (s : State) : Res State :=
  .next (s.issue t m 0x54 { a := true, c := true, imm := true } (fun s c e w =>
    let a := w.addr e
    if !s.sttOk t a then .error 3
    else .ok ({ c with sram := storeLanes c.sram a (w.mask e) (e.lane w.c) }, e, false)))

/-- LDTM: 64 bytes at S[A] + IMM16 within the MAP (AUX = 0) or PARAM (AUX = 1) bank of the line. -/
def execLdtm (t m : Nat) (s : State) : Res State :=
  .next (s.issue t m 0x55 { d := true, a := true, imm := true, aux := fun x => decide (x ≤ 1) } (fun s c e w =>
    let r := if w.aux = 0 then regMap else regParam
    let size := s.regionSize t r / 2
    let o := w.addr e
    if size < o + 64 then .error 3
    else .ok (c, e.setV w.d (w.mask e)
      (lanesOf (Memory.rds c.sram (s.regionBase t r + c.bankOf e.line * size + o) 64)), false)))

/-- CURVE (R186): the transfer curve of nozzle V[B]i at input V[A]i; a nozzle at or above NOZZLES gives 0; an input above 1,023,
for which the rule states no result, gives a free value (log entry 31). -/
def execCurve (t m : Nat) (s : State) : Res State :=
  .next (s.issueFree 32 t m 0x60 { d := true, a := true, b := true } (fun fr s c e w =>
    .ok (c, e.setV w.d (w.mask e) (fun i =>
      let n := e.lane w.b i
      let x := e.lane w.a i
      if s.tunNozzles t ≤ n then 0
      else if 1023 < x then (Config.freeValue (fr + i)).toNat
      else s.curveAt t (s.mapEntry t (c.bankOf e.line) n % 4096) x), false)))

/-- EDSTEP (R187). -/
def execEdstep (t m : Nat) (s : State) : Res State :=
  .next (s.issueFree 64 t m 0x61 { d := true, a := true, b := true, c := true, shift := true, aux := fun _ => true }
    (fun fr => engOnly (fun e w => edLanes fr w (w.mask e) (List.range 32) e)))

/-- EMIT: bits [1:0] of the enabled lanes to the STAGE slot of the line, nozzles S[B] to S[B] + 31; nozzles at or above NOZZLES
are not written; fault 3 outside the slice or where S[B] is no multiple of 32. -/
def execEmit (t m : Nat) (s : State) : Res State :=
  .next (s.issue t m 0x62 { a := true, b := true } (fun s c e w =>
    let n0 := e.sr w.b
    let first := s.sliceFirst t m
    let past := first + s.sliceCount t m
    let out := fun i => decide (n0 + i < s.tunNozzles t) && !decide (first ≤ n0 + i ∧ n0 + i < past)
    if n0 % 32 ≠ 0 ∨ (List.range 32).any out then .error 3
    else
      let row := look [] c.stage e.line
      let row' := (List.range row.length).map (fun n =>
        if n0 ≤ n ∧ n < n0 + 32 ∧ bit (w.mask e) (n - n0) then e.lane w.a (n - n0) % 4 else row.getD n 0)
      .ok ({ c with stage := store [] c.stage e.line row' }, e, false)))

/-! ## Edge channels (R167) -/

/-- A SEND: a full channel of 4 entries waits; on the outer side the vector is discarded. -/
def State.sendEdge (s : State) (t m op : Nat) (right : Bool) : State :=
  let side := if right then s.rightOf t m else s.leftOf t m
  s.issue t m op { a := true } (ifLane0 (fun _ c e w =>
    match side with
    | none => .ok (c, e, false)
    | some _ =>
      if 4 ≤ (if right then e.toRight else e.toLeft).length then .ok (c, { e with waiting := true }, true)
      else if right then .ok (c, { e with toRight := e.toRight ++ [e.vr w.a] }, false)
      else .ok (c, { e with toLeft := e.toLeft ++ [e.vr w.a] }, false)))

/-- A RECV from the neighbour `n`: an empty channel waits; on the outer side zeros come at once. -/
def State.recvEdge (s : State) (t m op : Nat) (left : Bool) : State :=
  let side := if left then s.leftOf t m else s.rightOf t m
  let chanOf := fun (x : Eng) => if left then x.toRight else x.toLeft
  let s' := s.issue t m op { d := true } (fun s c e w =>
    match side with
    | none => .ok (c, e.setV w.d (w.mask e) (fun _ => 0), false)
    | some n =>
      match chanOf (s.eng t n) with
      | [] => .ok (c, { e with waiting := true }, true)
      | v :: _ => .ok (c, e.setV w.d (w.mask e) (fun i => v.getD i 0), false))
  match side, (s.eng t m).fetch with
  | some n, some w =>
    if s.issuing t m && decide ((s.eng t m).cyc < s.get .TUN_LIMIT_SLICE_LIMIT t) && w.op == op && w.legal { d := true } &&
        !(chanOf (s.eng t n)).isEmpty then
      let x := s'.eng t n
      s'.setEng t n (if left then { x with toRight := x.toRight.drop 1 } else { x with toLeft := x.toLeft.drop 1 })
    else s'
  | _, _ => s'

/-- SENDR. -/
def execSendr (t m : Nat) (s : State) : Res State := .next (s.sendEdge t m 0x70 true)
/-- SENDL. -/
def execSendl (t m : Nat) (s : State) : Res State := .next (s.sendEdge t m 0x71 false)
/-- RECVL. -/
def execRecvl (t m : Nat) (s : State) : Res State := .next (s.recvEdge t m 0x72 true)
/-- RECVR. -/
def execRecvr (t m : Nat) (s : State) : Res State := .next (s.recvEdge t m 0x73 false)

/-- EDGE_WAIT_RESUME (R167): the channel an engine waits on has room or data, and the waiting SEND or RECV completes. -/
def execEdgeWaitResume (t m : Nat) (s : State) : Res State :=
  .next (if decide (t < 64) && (s.eng t m).running && (s.eng t m).waiting && !s.fenced 2 t then
      let s' := s.setEng t m { s.eng t m with waiting := false }
      match (s.eng t m).fetch.map IWord.op with
      | some 0x70 => s'.sendEdge t m 0x70 true
      | some 0x71 => s'.sendEdge t m 0x71 false
      | some 0x72 => s'.recvEdge t m 0x72 true
      | some 0x73 => s'.recvEdge t m 0x73 false
      | _ => s
    else s)

/-! ## Slices and lines -/

/-- Bytes a screened line of `n` nozzles occupies (R135). -/
def lineBytes (n : Nat) : Nat := (n + 255) / 256 * 64

/-- The next line of an engine: the lowest one released to screening that it has not ended and that is not in the lead yet (R165). -/
def State.nextSlice (s : State) (t m : Nat) : Option Nat :=
  let div := s.prog t 0x008 2
  ((s.chan t).released.filterMap (fun b =>
    let y := max b.first (max (s.eng t m).ended (s.chan t).screened)
    if y < b.first + b.lines * div then some y else none)).min?

/-- Is the STAGE slot of line `y` free, or already this line's (R165)? -/
def State.stageFree (s : State) (t y : Nat) : Bool :=
  let n := s.regionSize t regStage / lineBytes (s.tunNozzles t)
  decide (0 < n) && (s.chan t).stage.all (fun e => e.1 == y || e.1 % n != y % n)

/-- LINE_COMPLETE (R169, R25): the oldest staged line that every used engine has ended moves to the lead while it has room; the
lines of a fenced channel are discarded and counted. -/
def execLineComplete (t : Nat) (s : State) : Res State :=
  let c := s.chan t
  .next (match c.stage with
  | [] => s
  | e :: rest =>
    let out := s.fenced 1 t || s.fenced 2 t
    s.when (decide (t < 64) && s.lineDone t e.1 && (out || decide (c.lead.length < s.get .UB_LEAD_LINES t))) (fun s =>
      let c' := { c with stage := rest, screened := max c.screened (e.1 + 1) }
      (if out then s.setChan t { c' with discarded := c.discarded + 1 }
       else s.setChan t { c' with lead := c.lead ++ [{ no := e.1, codes := e.2 }] }).set .TUN_LINE_LINE e.1 t))

/-- TUN_FAULT (R173, R174): `count` engines of a tun fault in one cycle, the lowest being `m`. -/
def execTunFault (t m code count : Nat) (s : State) : Res State :=
  .next (s.when (decide (t < 64 ∧ m < 16 ∧ 1 ≤ code ∧ code ≤ 10 ∧ 1 ≤ count ∧ count ≤ 16))
    (fun s => s.faultTun t m code count))

/-- SLICE_OVERRUN (R166): fault 4. -/
def execSliceOverrun (t m : Nat) (s : State) : Res State :=
  .next (s.when (decide (t < 64) && (s.eng t m).running) (fun s => s.faultTun t m 4))

/-! ## Loading a tun (R160, R163, R176) -/

/-- The records of a TUN_SRAM payload: target, address, data (R163). -/
def sramRecords : Nat → List Byte → List (Nat × Nat × List Byte)
  | 0, _ => []
  | fuel + 1, b =>
    if b.length < 16 then []
    else
      let n := fieldAt b 8 4
      (fieldAt b 0 1, fieldAt b 4 4, sub b 16 n) :: sramRecords fuel (b.drop (16 + (n + 7) / 8 * 8))

/-- The records of a payload. -/
def recordsOf (b : List Byte) : List (Nat × Nat × List Byte) := sramRecords (b.length / 16) b

/-- One record applied. -/
def State.applyRecord (s : State) (t : Nat) (r : Nat × Nat × List Byte) : State :=
  if r.2.2.isEmpty then s
  else if r.1 = 0 then s.setChan t { s.chan t with sram := Memory.wrs (s.chan t).sram r.2.1 r.2.2 }
  else s.setEng t (r.1 - 1) { s.eng t (r.1 - 1) with lmem := Memory.wrs (s.eng t (r.1 - 1)).lmem r.2.1 r.2.2 }

/-- A range of a memory zeroed. -/
def zeroRange (m : Memory) (a n : Nat) : Memory := Tab.keep (fun k => !(decide (a ≤ k ∧ k < a + n))) m

/-- The engines of a tun loaded from the TUN_PROG and TUN_SRAM sections in force: registers, stacks, edge channels and local
stores zeroed, images written, records applied, CARRY zeroed unless kept (R160, R175, R176). -/
def State.loadTun (s : State) (t : Nat) (keepCarry : Bool) : State :=
  let p := s.sect 0x0020 t
  let ended := (s.chan t).pause
  let s := s.each 16 (fun s m =>
    let img := if s.engUsed t m then sub p (s.prog t (0x088 + 32 * m) 4) (s.prog t (0x08C + 32 * m) 4) else []
    s.setEng t m { istore := img, ended := match ended with | some c => c | none => (s.eng t m).ended })
  let s := if keepCarry then s
    else s.setChan t { s.chan t with sram := zeroRange (s.chan t).sram (s.regionBase t regCarry) (s.regionSize t regCarry) }
  let s := (recordsOf (s.sect 0x0021 t)).foldl (fun s r => s.applyRecord t r) s
  let s := ((s.set .TUN_LIMIT_SLICE_LIMIT (s.prog t 0x004 4) t).set .TUN_LIMIT_PLANE_DIV (s.prog t 0x008 2) t).set
    .SCR_GEN_GEN 0 t
  (s.set .TUN_STATUS_LOADED (b2n (s.hasSect 0x0020 t)) t).set .TUN_PROG_ID_ID (digestId (sha384 p)) t

/-- Is the section a program or store image of tun `t`? -/
def Sect.progOf (y : Sect) (t : Nat) : Bool := (y.type == 0x0020 || y.type == 0x0021) && y.index == t

/-- The committed change set whose PAUSE section for tun `t` is due first, with its commit line. -/
def State.pauseSet (s : State) (t : Nat) : Option (ChangeSet × Nat) :=
  (s.sets.filterMap (fun x =>
    match x.line with
    | some c => if x.image.sects.any (fun y => y.progOf t && !x.switched y) then some (x, c) else none
    | none => none)).head?

/-- TUN_PAUSE_POINT (R176 step 1): the screen stage reaches the commit line, so no slice starts at or above it; with no job in progress
nothing lies below it. A fenced or powered-off tun takes no pause (R177). -/
def execTunPausePoint (t : Nat) (s : State) : Res State :=
  .next (match s.pauseSet t with
  | none => s
  | some x => s.when (decide (t < 64 ∧ (s.chan t).pauseStep = 0) && !s.fenced 2 t && s.powered t &&
        (x.1.rule == 5 || decide (x.2 ≤ s.screenAt t))) (fun s =>
      (s.setChan t { s.chan t with pause := some x.2, pauseStep := 1 }).on .TUN_STATUS_PAUSED t))

/-! ## The content rules of TUN_PROG and TUN_SRAM (R162-R166) -/

/-- The fields of a byte string, for content rules. -/
def fld2 (b : List Byte) (o : Nat) : Nat := fieldAt b o 2
def fld4 (b : List Byte) (o : Nat) : Nat := fieldAt b o 4

/-- Has a TUN_PROG payload a zero size field (R162, R164)? -/
def tunProgZero (b : List Byte) : Bool :=
  zeroField b 2 2 || zeroField b 4 4 || zeroField b 8 2 || zeroField b 0xA 2 ||
  (List.range 7).any (fun r => zeroField b (0x44 + 8 * r) 4) ||
  (List.range 16).any (fun m => bit (fld2 b 0) m && (zeroField b (0x82 + 32 * m) 2 || zeroField b (0x8C + 32 * m) 4))

/-- Do the slices of the used engines cover nozzles from `n` on, in ascending order, exactly once? -/
def slicesOk (b : List Byte) (nozzles : Nat) : List Nat → Nat → Bool
  | [], n => n == nozzles
  | m :: t, n =>
    let first := fld2 b (0x80 + 32 * m)
    let count := fld2 b (0x82 + 32 * m)
    first == n && n % 32 == 0 && (count % 32 == 0 || n + count == nozzles) && slicesOk b nozzles t (n + count)

/-- The rules of R162 and R166 on a TUN_PROG payload: `nozzles` is the HEAD_GEOM count in force or in the same image (none:
refused), `rate` the RATE_MAX in force or in the same image. -/
def tunProgOk (b : List Byte) (nozzles : Option Nat) (rate : Nat) : Bool :=
  let mask := fld2 b 0
  let used := (List.range 16).filter (bit mask)
  let base := fun r => fld4 b (0x40 + 8 * r)
  let size := fun r => fld4 b (0x44 + 8 * r)
  decide (0x280 ≤ b.length) && mask != 0 && nozzles == some (fld2 b 2) && decide (fld4 b 4 ≤ 65535) &&
  decide (fld2 b 8 ≤ 2) && decide (fld2 b 0xA ≤ 16384 ∧ 2 * (2 * fld2 b 0xA) ≤ size 0) && zeroAt b 0xC 52 &&
  (List.range 7).all (fun r => base r % 64 == 0 && size r % 64 == 0 && decide (base r + size r ≤ 1048576)) &&
  (List.range 7).all (fun r => (List.range r).all (fun q => decide (base r + size r ≤ base q ∨ base q + size q ≤ base r))) &&
  zeroAt b 0x78 8 && slicesOk b (fld2 b 2) used 0 &&
  (List.range 16).all (fun m =>
    let o := 0x80 + 32 * m
    if bit mask m then
      decide (fld2 b (o + 4) < fld4 b (o + 0xC) / 8) && zeroAt b (o + 6) 2 && fld4 b (o + 8) % 8 == 0 &&
      fld4 b (o + 0xC) % 8 == 0 && decide (fld4 b (o + 0xC) ≤ 16384 ∧ fld4 b (o + 8) + fld4 b (o + 0xC) ≤ b.length) &&
      zeroAt b (o + 0x10) 16
    else zeroAt b o 32) &&
  decide (fld4 b 4 * rate * 5 ≤ 1600000000 * 4)

/-- Does the region table of `b` move or resize CURVE, MAP or PARAM against `old` (R164)? -/
def tablesMoved (b old : List Byte) : Bool :=
  [regCurve, regMap, regParam].any (fun r => sub b (0x40 + 8 * r) 8 != sub old (0x40 + 8 * r) 8)

/-- The form of the records of a TUN_SRAM payload (R163): whole records, reserved header bytes 0, data padded with 0x00. -/
def sramFormOk : Nat → List Byte → Bool
  | 0, b => b.isEmpty
  | fuel + 1, b =>
    b.isEmpty ||
    (let n := fieldAt b 8 4
     let next := 16 + (n + 7) / 8 * 8
     decide (next ≤ b.length) && zeroAt b 1 3 && zeroAt b 12 4 && zeroAt b (16 + n) (next - (16 + n)) && sramFormOk fuel (b.drop next))

/-- The rules of R163 on a TUN_SRAM payload under the TUN_PROG `p` of its tun: within their targets, in tun SRAM within CARRY and SCRATCH; a
record of LENGTH 0 is skipped. -/
def tunSramOk (b p : List Byte) : Bool :=
  let free := [regCarry, regScratch].map (fun r => (fieldAt p (0x40 + 8 * r) 4, fieldAt p (0x44 + 8 * r) 4))
  sramFormOk (b.length / 16) b &&
  (recordsOf b).all (fun r =>
    let n := r.2.2.length
    n == 0 || (if r.1 = 0 then inRanges free r.2.1 n else decide (r.1 ≤ 16 ∧ r.2.1 + n ≤ localSize)))

end Sys2Proof.Machine
end

