-- ==== Sys2Proof/Machine/Screen.lean ====
section
/-! DEFINITION. Screening tables: generations and the bank switch, the fire-stage bridge, the reduction above SMAX, and the
content rules of SCR_TABLES (spec/09_screening_and_compensation.md, R178-R198). The chain's arithmetic is that of CURVE and EDSTEP
(Engine.lean). -/

namespace Sys2Proof.Machine

/-! ## Table banks and curve slots (R191-R194) -/

/-- Curve slots of a tun: the CURVE region divided by 320 (R191). -/
def State.curveSlots (s : State) (t : Nat) : Nat := s.regionSize t regCurve / 320

/-- The slots the MAP bank `b` names. -/
def State.named (s : State) (t b : Nat) : List Nat :=
  (List.range (s.tunNozzles t)).map (fun n => s.mapEntry t b n % 4096)

/-- Is the inactive bank no longer in use: has every used engine started a slice at or above the switch line (R194)? -/
def State.inactiveFree (s : State) (t : Nat) : Bool :=
  let y := (s.chan t).switch
  !(s.chan t).retired || (s.usedEngs t).all (fun m =>
    ((s.eng t m).running && decide (y ≤ (s.eng t m).line)) || decide (y < (s.eng t m).ended))

/-- The free curve slots (R194). -/
def State.freeSlots (s : State) (t : Nat) : List Nat :=
  let b := (s.chan t).bank
  let used := s.named t b ++ (if s.inactiveFree t && (s.chan t).pendGen.isNone then [] else s.named t (1 - b))
  (List.range (s.curveSlots t)).filter (fun k => !used.contains k)

/-- Tun SRAM written. -/
def State.sramWr (s : State) (t a : Nat) (bs : List Byte) : State :=
  s.setChan t { s.chan t with sram := Memory.wrs (s.chan t).sram a bs }

/-- A MAP and PARAM bank and curve slots written: per nozzle its MAP entry, the PARAM bytes (taken as 0 up to the bank size,
R192), and the curves with their slots. -/
def State.writeBank (s : State) (t b : Nat) (map : List Nat) (param : List Byte) (curves : List (Nat × List Byte)) : State :=
  let s := curves.foldl (fun s k => s.sramWr t (s.regionBase t regCurve + 320 * k.1) k.2) s
  let s := s.sramWr t (s.regionBase t regMap + b * (s.regionSize t regMap / 2)) (map.flatMap (leBytes 2))
  let size := s.regionSize t regParam / 2
  s.sramWr t (s.regionBase t regParam + b * size) (param ++ List.replicate (size - param.length) 0)

/-- The parts of an SCR_TABLES payload (R192). -/
def scrNozzles (b : List Byte) : Nat := fieldAt b 0 2
def scrCurves (b : List Byte) : Nat := fieldAt b 2 2
def scrParamBytes (b : List Byte) : Nat := fieldAt b 4 4
def scrEntry (b : List Byte) (n : Nat) : Nat := fieldAt b (0x20 + 2 * n) 2
def scrP (b : List Byte) : Nat := up64 (0x20 + 2 * scrNozzles b)
def scrQ (b : List Byte) : Nat := up64 (scrP b + scrParamBytes b)

/-- The generation of an SCR_TABLES payload written into bank `bank`, curve `i` going to the `i`-th of the given slots; nozzles
that name one curve share its slot (R192). -/
def State.writeTables (s : State) (t bank : Nat) (b : List Byte) (slots : List Nat) : State :=
  let map := (List.range (scrNozzles b)).map (fun n => slots.getD (scrEntry b n % 4096) 0 + 4096 * bits (scrEntry b n) 12 1)
  let curves := (List.range (scrCurves b)).map (fun i => (slots.getD i 0, sub b (scrQ b + 320 * i) 320))
  s.writeBank t bank map (sub b (scrP b) (scrParamBytes b)) curves

/-- The nozzles OUT in the generation in force for line `y`, one bit each. -/
def State.outMask (s : State) (t y : Nat) : Nat :=
  ((List.range (s.tunNozzles t)).map (fun n => if bit (s.mapEntry t ((s.chan t).bankOf y) n) 12 then 2 ^ n else 0)).sum

/-- The bridge bits of the nozzles OUT in the generation that switches at line `y` will clear when firing reaches it (R198). -/
def State.willClear (s : State) (t y : Nat) : State :=
  s.setChan t { s.chan t with toSwitch := (s.chan t).toSwitch ++ [(y, s.outMask t y)] }

/-- The tables of channel `t` loaded afresh from the SCR_TABLES section in force, as bank 0 from line `y` (R57, R87, R175). -/
def State.loadTables (s : State) (t y : Nat) : State :=
  if s.hasSect 0x0031 t then
    let s := s.setChan t { s.chan t with bank := 0, switch := y, retired := false, pendGen := none }
    (s.writeTables t 0 (s.sect 0x0031 t) (List.range (s.curveSlots t))).willClear t y
  else s

/-- The tables of channel `t` as a full image without SCR_TABLES leaves them (R87). -/
def State.dropTables (s : State) (t : Nat) : State :=
  let m := zeroRange (zeroRange (zeroRange (s.chan t).sram (s.regionBase t regCurve) (s.regionSize t regCurve))
    (s.regionBase t regMap) (s.regionSize t regMap)) (s.regionBase t regParam) (s.regionSize t regParam)
  (s.setChan t { s.chan t with bank := 0, switch := 0, retired := false, pendGen := none, toSwitch := [], sram := m }).set .SCR_GEN_GEN 0 t

/-- The first change set that carries SCR_TABLES for channel `t` and has not switched it there; of the sets with the same commit
line the last one prevails (R95, R196). -/
def State.shadowSet (s : State) (t : Nat) : Option ChangeSet :=
  let l := s.sets.filter (fun x => x.has 0x0031 t && !x.applied.contains (sectKey 0x0031 t))
  match l with
  | [] => none
  | x :: _ => (l.filter (fun y => y.handle == x.handle || (x.line.isSome && y.line == x.line))).getLast?

/-- Is the section of the set written by a live replacement of the tun's program in the same set (R164, R193)? -/
def ChangeSet.withProg (x : ChangeSet) (t : Nat) : Bool := x.has 0x0020 t

/-- The shadow of channel `t` prepared as soon as it may be (R194, R196): a pending gravity-loop generation is discarded, and so is the shadow
of a set that is gone or that gives way to a later one with the same commit line (R95). -/
def State.prepShadow (s : State) (t : Nat) : State :=
  let stale := match s.shadowSet t with
    | none => (s.chan t).pendGen == some true
    | some x => (s.chan t).pendGen == some false || ((s.chan t).pendGen == some true && (s.chan t).shadowOf != x.handle)
  let s := if stale then s.setChan t { s.chan t with pendGen := none } else s
  match s.shadowSet t with
  | none => s
  | some x =>
    if (s.chan t).pendGen.isSome || x.withProg t || s.fenced 2 t || !s.powered t || !s.inactiveFree t then s
    else match findSect x.image.sects 0x0031 t with
    | none => s
    | some y =>
      let free := s.freeSlots t
      if free.length < scrCurves y.bytes then s
      else
        let s := s.writeTables t (1 - (s.chan t).bank) y.bytes free
        s.setChan t { s.chan t with pendGen := some true, shadowOf := x.handle }

/-- Every channel's shadow. -/
def State.prepShadows (s : State) : State := s.each 64 State.prepShadow

/-- The pending generation comes into force at line `y` (R194): SCR_GEN counts it, and the bridge bits of its OUT nozzles
clear when firing reaches `y` (R198). -/
def State.switchGen (s : State) (t y : Nat) : State :=
  let c := s.chan t
  ((s.setChan t { c with bank := 1 - c.bank, switch := y, retired := true, pendGen := none }).willClear t y).set .SCR_GEN_GEN
    (s.get .SCR_GEN_GEN t + 1) t

/-- GENERATION_SWITCH (R194): a generation of the gravity loop switches at the lowest line for which no engine has started a
slice; a change set's shadow waits for its commit line (R196). -/
def execGenerationSwitch (t : Nat) (s : State) : Res State :=
  .next (s.when (decide (t < 64) && (s.chan t).pendGen == some false) (fun s => s.switchGen t (s.screenNext t)))

/-- The block whose last line moves on to screening leaves its intake queue (R154). -/
def State.freeBlock (s : State) (t y : Nat) : State :=
  let c := s.chan t
  let div := s.prog t 0x008 2
  s.setChan t { c with intake := c.intake.filter (fun b => !(b.moved && y + 1 == b.first + b.lines * div)) }

/-- SLICE_START (R165): a start frees a bank for a shadow that waits for it (R194). -/
def execSliceStart (t m : Nat) (s : State) : Res State :=
  .next (match s.nextSlice t m with
  | none => s
  | some y =>
    let c := s.chan t
    s.when (decide (t < 64) && s.engUsed t m && !(s.eng t m).running && !s.fenced 2 t && s.is .TUN_STATUS_LOADED t &&
        s.clocked && s.stageFree t y && !s.screenHeld t y && (match c.pause with | some p => decide (y < p) | none => true)) (fun s =>
      let s := if c.stage.any (fun e => e.1 == y) then s
        else s.setChan t { c with stage := store [] c.stage y (List.replicate (s.tunNozzles t) 0) }
      let s := s.setEng t m { s.eng t m with running := true, waiting := false, line := y, pc := s.prog t (0x084 + 32 * m) 2, cyc := 0 }
      (s.freeBlock t y).prepShadow t))

/-! ## The bridge (R197, R198) -/

/-- The nozzles a bridge register can name. -/
def nozzleMask : Nat := 2 ^ 2560 - 1

/-- A write to SCR_BRIDGE_SETw. -/
def State.bridgeSet (s : State) (t w v : Nat) : State :=
  s.setChan t { s.chan t with setReq := (s.chan t).setReq ||| (v % 2 ^ 32) * 2 ^ (32 * w) }

/-- SCR_BRIDGE_SET_WRITE. -/
def execScrBridgeSetWrite (t w v : Nat) (s : State) : Res State :=
  .next (s.when (decide (t < 64 ∧ w < 80)) (fun s => s.reach .screen t (fun s => s.bridgeSet t w v)))

/-- A write to SCR_BRIDGE_CLRw. -/
def State.bridgeClr (s : State) (t w v : Nat) : State :=
  s.setChan t { s.chan t with clrReq := (s.chan t).clrReq ||| (v % 2 ^ 32) * 2 ^ (32 * w) }

/-- SCR_BRIDGE_CLR_WRITE. -/
def execScrBridgeClrWrite (t w v : Nat) (s : State) : Res State :=
  .next (s.when (decide (t < 64 ∧ w < 80)) (fun s => s.reach .screen t (fun s => s.bridgeClr t w v)))

/-- Bits of `a` that are not in `b`. -/
def andNot (a b : Nat) : Nat := a ^^^ (a &&& b)

/-- The line boundary before line `y` (R198): the gravity loop's changes, then the device's clearing of nozzles that are OUT
from its switch line on, then the host's requests under APPLY, set prevailing over clear. -/
def State.bridgeBoundary (s : State) (t y : Nat) : State :=
  let c := s.chan t
  let lateDue := decide (c.gravLate.1 ≤ y)
  let m := andNot c.bridge c.gravClr ||| c.gravSet ||| (if lateDue then c.gravLate.2 else 0)
  let m := (c.toSwitch.filter (fun e => decide (e.1 ≤ y))).foldl (fun m e => andNot m e.2) m
  let m := if c.apply then andNot m c.clrReq ||| c.setReq else m
  let s := if bit c.gravSet (s.get .GRAV_LAST_OUT_NOZZLE) && s.get .GRAV_LAST_OUT_CHANNEL == t then s.set .GRAV_LAST_OUT_LINE y else s
  s.setChan t { c with bridge := m, gravSet := 0, gravClr := 0, gravLate := if lateDue then (0, 0) else c.gravLate, toSwitch := c.toSwitch.filter (fun e => decide (y < e.1)), apply := false,
                       setReq := if c.apply then 0 else c.setReq, clrReq := if c.apply then 0 else c.clrReq }

/-- The recipient of a masked nozzle's strobes on press line `y` (R197). -/
def bridgeTo (twin : Bool) (count mask y n : Nat) : Option Nat :=
  let ok := fun m => decide (m < count) && !bit mask m
  let right := if ok (n + 1) then some (n + 1) else none
  let left := if 0 < n ∧ ok (n - 1) then some (n - 1) else none
  let pair := if n % 2 = 0 then n + 1 else n - 1
  if twin && ok pair then some pair
  else if y % 2 = 0 then right.orElse (fun _ => left) else left.orElse (fun _ => right)

/-- A line bridged (R197): the codes, and the strobes lost to the cap or for want of a recipient. -/
def bridgeLine (twin : Bool) (smax mask y : Nat) (codes : List Nat) : List Nat × Nat :=
  let count := codes.length
  let gives := (List.range count).filter (fun n => bit mask n && codes.getD n 0 != 0)
  let moves := gives.map (fun n => (bridgeTo twin count mask y n, codes.getD n 0))
  let sum := fun n => codes.getD n 0 + ((moves.filter (fun e => e.1 == some n)).map Prod.snd).sum
  let new := (List.range count).map (fun n =>
    if bit mask n then 0 else if moves.any (fun e => e.1 == some n) then min smax (sum n) else codes.getD n 0)
  let capped := ((List.range count).map (fun n =>
    if !bit mask n && moves.any (fun e => e.1 == some n) then sum n - smax else 0)).sum
  (new, capped + ((moves.filter (fun e => e.1.isNone)).map Prod.snd).sum)

/-- Codes above SMAX reduced to it (R190), and how many. -/
def reduceLine (smax : Nat) (codes : List Nat) : List Nat × Nat :=
  (codes.map (fun d => min d smax), (codes.filter (fun d => decide (smax < d))).length)

/-- SCR_BRIDGE_CTRL.APPLY. -/
def State.bridgeApply (s : State) (t : Nat) : State := s.setChan t { s.chan t with apply := true }

/-- SCR_BRIDGE_APPLY. -/
def execScrBridgeApply (t : Nat) (s : State) : Res State :=
  .next (s.when (decide (t < 64)) (fun s => s.reach .screen t (fun s => s.bridgeApply t)))

/-- SCR_BRIDGE_LOST_CLR (R197). -/
def execScrBridgeLostClr (t : Nat) (s : State) : Res State :=
  .next (s.reach .screen t (fun s => s.set .SCR_BRIDGE_LOST_COUNT 0 t))

/-- SCR_CLIP_CLR (R190). -/
def execScrClipClr (t : Nat) (s : State) : Res State :=
  .next (s.reach .screen t (fun s => s.set .SCR_CLIP_COUNT 0 t))

/-! ## The content rules of SCR_TABLES (R181-R193) -/

/-- The sections a section is judged with: those of the same image, else those in force. -/
abbrev Eff := Nat → Nat → Option (List Byte)

/-- A little-endian field of the section of a type and index, if there is one. -/
def Eff.f (e : Eff) (t i o n : Nat) : Option Nat := (e t i).map (fun b => fieldAt b o n)

/-- Has the payload a zero size field? -/
def scrZero (b : List Byte) : Bool :=
  zeroField b 0 2 || zeroField b 2 2 || zeroField b 4 4 || zeroField b (scrP b + 4) 2 || zeroField b (scrP b + 6) 1

/-- The rules of R181-R189 and R191 on a PARAM image of `n` nozzles under a TUN_PROG of this STRIP_WIDTH. -/
def paramOk (p : List Byte) (n width : Nat) : Bool :=
  let f := fieldAt p
  let twin := f 3 1
  let last := if twin = 1 then (n - 1) / 2 else n - 1
  let sl := f 0x10 2
  let sr := f 0x12 2
  decide (f 2 1 ≤ 1 ∧ twin ≤ 1 ∧ f 4 2 ≤ 2047 ∧ f 6 1 ≤ 3 ∧ 4 ≤ f 7 1 ∧ f 7 1 ≤ 8) &&
  decide (f 8 1 + f 9 1 + f 0xA 1 + f 0xB 1 + f 0xC 1 + f 0xD 1 = 2 ^ f 7 1) &&
  decide (sl ≤ 512 ∧ sr ≤ 512 ∧ sl + sr ≤ n ∧ 2 * (f 0x14 1 + f 0x15 1) ≤ 256) &&
  (List.range 512).all (fun i => decide (f (0x80 + 2 * i) 2 ≤ if i < sl then 256 else 0)) &&
  (List.range 512).all (fun i => decide (f (0x480 + 2 * i) 2 ≤ if i < sr then 256 else 0)) &&
  zeroAt p 0xF 1 && zeroAt p 0x16 42 && zeroAt p 0x880 (p.length - 0x880) &&
  decide (f 0 2 + last / 2 ^ f 2 1 < width) && (twin == 0 || n % 2 == 0)

/-- The rules of R190-R193 on an SCR_TABLES payload for channel `c`; `beside` a map in force, without a TUN_PROG of the channel in the same
image, only the spare slots are left. -/
def scrOk (e : Eff) (c : Nat) (beside : Bool) (b : List Byte) : Bool :=
  let n := scrNozzles b
  let curves := scrCurves b
  let slots := ((e.f 0x0020 c 0x4C 4).getD 0) / 320
  decide (0x20 ≤ b.length) && e.f 0x0030 c 0 2 == some n && b.length == scrQ b + 320 * curves && zeroAt b 8 24 &&
  decide (2176 ≤ scrParamBytes b ∧ scrParamBytes b ≤ ((e.f 0x0020 c 0x5C 4).getD 0) / 2) &&
  (List.range n).all (fun i => decide (scrEntry b i % 4096 < curves ∧ scrEntry b i < 8192)) &&
  decide (curves ≤ if beside then slots - n else slots) &&
  paramOk (sub b (scrP b) (scrParamBytes b)) n ((e.f 0x0020 c 0xA 2).getD 0) &&
  decide (fieldAt b (scrP b + 6) 1 ≤ (e.f 0x0032 0 0xB 1).getD 0)

end Sys2Proof.Machine
end

