-- ==== Sys2Proof/Machine/Pages.lean ====
section
/-! DEFINITION. Who manages the press, Job Store Addresses and the extent directory, pages, and the fetching of blocks
(spec/06_page_intake.md, R121-R133). -/

namespace Sys2Proof.Machine

/-- Is this device the active press manager: the press manager, or a trio member that has taken over (R358)? -/
def State.activeManager (s : State) : Bool :=
  (s.role == rolePress && (s.get .TRIO_STATUS_OWNER == 0 || s.is .TRIO_STATUS_ACTIVE)) ||
  (s.role == roleTrio && s.is .TRIO_STATUS_ACTIVE)

/-! ## Extents (R121-R125) -/

/-- Bytes of an extent, as a power of two. -/
def extentBits : Nat := 26

/-- The entry of extent `e` in the directory. -/
def State.extent (s : State) (e : Nat) : Option Extent := (s.extents.find? (fun x => x.1 == e)).map Prod.snd

/-- One byte at a Job Store Address: through the host window, which off the active press manager is reached over Wort, or from a
Wort-attached store (R32, R122; log entry 132); `none` where no extent is mapped. -/
def State.jsaByte (s : State) (a : Nat) : Option Byte :=
  match s.extent (a / 2 ^ extentBits) with
  | none => none
  | some x =>
    let o := x.base + a % 2 ^ extentBits
    some (if x.kind = 0 then Memory.rd s.hostMem o else Memory.rd s.storeMem (2 ^ 64 * x.port + o))

/-- Bytes at a Job Store Address; bytes of unmapped extents read 0 here, and the callers test the mapping. -/
def State.jsaRead (s : State) (a n : Nat) : List Byte := (List.range n).map (fun i => (s.jsaByte (a + i)).getD 0)

/-- The extents a range of bytes lies in. -/
def extentsOf (a n : Nat) : List Nat :=
  (List.range ((a + n - 1) / 2 ^ extentBits - a / 2 ^ extentBits + 1)).map (fun i => a / 2 ^ extentBits + i)

/-- Do the bytes lie in mapped extents that are not closing (R129)? -/
def State.jsaOpen (s : State) (a n : Nat) : Bool :=
  (extentsOf a n).all (fun e => match s.extent e with | some x => x.closing.isNone | none => false)

/-- Do the bytes lie in extents that serve reads for page `p`: mapped, and closing only if the page was accepted before (R124, R130)? -/
def State.jsaServes (s : State) (p : Page) (a n : Nat) : Bool :=
  (extentsOf a n).all (fun e => match s.extent e with
    | some x => (match x.closing with | some k => (s.pages.take k).any (fun q => q.first == p.first) | none => true)
    | none => false)

/-- Is a field a Job Store Address: bits [63:52] zero (R121)? -/
def jsaOk (v : Nat) : Bool := decide (v < 2 ^ 52)

/-- The run of a JSA_MAP or JSA_UNMAP in range and aligned (R123). -/
def runOk (jsa len : Nat) : Bool :=
  jsa % 2 ^ extentBits == 0 && len % 2 ^ extentBits == 0 && decide (jsa + len ≤ 2 ^ 52)

/-- First extent of a run, and how many extents it has. -/
def runOf (d : Desc) : Nat × Nat := (d.p 0x18 8 / 2 ^ extentBits, d.p 0x20 8 / 2 ^ extentBits)

/-- Is an extent of the run mapped? -/
def State.runMapped (s : State) (r : Nat × Nat) : Bool := s.extents.any (fun x => decide (r.1 ≤ x.1 ∧ x.1 < r.1 + r.2))

/-- The entries of a JSA_MAP put into the directory. -/
def State.mapExtents (s : State) (d : Desc) : State :=
  let r := runOf d
  let new := (List.range r.2).map (fun i =>
    (r.1 + i, ({ kind := d.p 0x10 1, port := d.p 0x11 1, base := d.p 0x28 8 + i * 2 ^ extentBits, closing := none } : Extent)))
  { s with extents := s.extents.filter (fun x => decide (x.1 < r.1)) ++ new ++ s.extents.filter (fun x => decide (r.1 + r.2 ≤ x.1)) }

/-- A JSA_MAP executed; the entries go to every bar manager (R125). -/
def State.jsaMap (s : State) (h : Nat) (d : Desc) : State :=
  let r := runOf d
  if s.runMapped r then s.finish h stBadState
  else ((s.mapExtents d).out (.wort "extentsMapped" [r.1, r.2, d.p 0x10 1, d.p 0x11 1, d.p 0x28 8])).done h r.2

/-- JSA_MAP (R123, R36). `told`: the copy that the active press manager sends to a bar manager or mirrors to a trio member (R122, R125),
with the same PARAM. -/
def execJsaMap (d : Desc) (s : State) (told : Bool := false) : Res State :=
  let kind := d.p 0x10 1
  let port := d.p 0x11 1
  let jsa := d.p 0x18 8
  let len := d.p 0x20 8
  let base := d.p 0x28 8
  .next (if told then s.when (!s.activeManager && !s.runMapped (runOf d)) (fun s => s.mapExtents d)
    else s.submit d
      { opcode := 0x0201, long := false, used := [(0x10, 1), (0x11, 1), (0x18, 8), (0x20, 8), (0x28, 8)], sizes := [len],
        range := decide (kind ≤ 1 ∧ port ≤ (if kind = 1 then 3 else 0)) && runOk jsa len && base % 4096 == 0,
        state := if !s.activeManager || s.runMapped (runOf d) then stBadState else 0 }
      (fun h s => s.firmware h (.jsaMap d) (fun s => s.jsaMap h d)))

/-! ## Page descriptors (R127) -/

/-- Plane entry `i`, of the descriptor at `desc`. -/
def planeAt (desc i : Nat) : Nat := desc + 32 + 32 * i

/-- A field of a structure in the job store. -/
def State.jf (s : State) (a n : Nat) : Nat := leNat (s.jsaRead a n)

/-- Planes of a descriptor, and strips of a plane. -/
def State.planesOf (s : State) (desc : Nat) : Nat := s.jf (desc + 4) 2
def State.stripsOf (s : State) (desc i : Nat) : Nat := s.jf (planeAt desc i + 4) 2

/-- The address of strip `j` of plane `i`. -/
def State.stripAt (s : State) (desc i j : Nat) : Nat := s.jf (planeAt desc i + 8) 8 + 16 * j

/-- The address of block `k` of a strip entry. -/
def State.blockAt (s : State) (strip k : Nat) : Nat := s.jf (strip + 8) 8 + 16 * k

/-- Does the header or a plane entry break a range, or hold a nonzero reserved byte, or name an extent that is unmapped or closing
(R129)? -/
def State.descBad (s : State) (desc : Nat) : Bool :=
  let n := s.planesOf desc
  !s.jsaOpen desc 32 || decide (128 < n) || !zeroAt (s.jsaRead desc 32) 6 26 || !s.jsaOpen (desc + 32) (32 * max n 1) ||
  (List.range n).any (fun i =>
    let p := s.jsaRead (planeAt desc i) 32
    decide (15 < fieldAt p 0 1 ∨ 7 < fieldAt p 1 1 ∨ 1 < fieldAt p 2 1 ∨ 2048 < fieldAt p 4 2) || !zeroAt p 3 1 ||
    !zeroAt p 6 2 || !zeroAt p 0x10 16 || !jsaOk (fieldAt p 8 8) || !s.jsaOpen (fieldAt p 8 8) (16 * max (fieldAt p 4 2) 1))

/-- PLANES and, where the plane entries can be read, the STRIPS of every plane: size fields. -/
def State.descSizes (s : State) (desc : Nat) : List Nat :=
  let n := s.planesOf desc
  n :: if n ≤ 128 ∧ s.jsaOpen (desc + 32) (32 * max n 1) then (List.range n).map (s.stripsOf desc) else []

/-- The bytes "PAGE". -/
def pageMagic : Nat := 0x45474150

/-! ## Pages (R126-R132) -/

/-- The page the host calls `id`, among those not ended. -/
def State.page (s : State) (id : Nat) : Option Page := s.pages.find? (fun p => p.id == id && decide (p.state ≤ 1))

/-- A page replaced. -/
def State.setPage (s : State) (p : Page) : State := { s with pages := s.pages.map (fun q => if q.first = p.first then p else q) }

/-- A declared page gap (R128, R132). -/
def State.addGap (s : State) (first n : Nat) : State :=
  if n = 0 ∨ s.gaps.contains (first, n) then s else { s with gaps := s.gaps ++ [(first, n)] }

/-- The first line of the next page accepted (R128): after a page with LAST, the first page of the next job. -/
def State.nextFirst (s : State) (gap : Nat) : Nat :=
  let last := s.jobEnds.getLast? == some s.pageEnd
  (if s.is .MOT_STATUS_JOB && !last then s.pageEnd else max (if last then s.pageEnd else 0) s.seq.next) + gap

/-- A page placed. -/
def State.addPage (s : State) (p : Page) : State :=
  let s := s.addGap (p.first - p.gap) p.gap
  State.on { s with pages := s.pages ++ [p], pageEnd := p.first + p.lines,
                    jobEnds := if p.last then s.jobEnds ++ [p.first + p.lines] else s.jobEnds } .MOT_STATUS_JOB

/-- An accepted page learnt from the active press manager, at its first line: a resend, a page known from its blocks, or a new one. -/
def State.pageTold (s : State) (d : Desc) (first : Nat) : State :=
  let last := bit (d.p 0x24 4) 1
  match s.pages.find? (fun p => p.first == first) with
  | some p => s.setPage { p with id := d.p 0x10 4, desc := d.p 0x18 8, state := 0, faults := [] }
  | none => s.addPage { id := d.p 0x10 4, handle := 0, first := first, lines := d.p 0x14 4, gap := d.p 0x20 4, last := last,
                        desc := d.p 0x18 8, state := 0, backsteps := 0, failLine := 0, sent := [] }

/-- PAGE_SUBMIT (R126, R129, R131): an accepted page goes to the bar managers and is mirrored to the trio (R352). `told`: what one of them
then learns, under the same PARAM, with the page's first line. -/
def execPageSubmit (d : Desc) (s : State) (told : Option Nat := none) : Res State :=
  let id := d.p 0x10 4
  let lines := d.p 0x14 4
  let desc := d.p 0x18 8
  let gap := d.p 0x20 4
  let flags := d.p 0x24 4
  let resend := bit flags 0
  let mgr := s.activeManager
  let readable := mgr && jsaOk desc && desc % 64 == 0 && s.jsaOpen desc 32
  let isPage := readable && s.jf desc 4 == pageMagic
  let old := s.page id
  let same := match old with | some p => p.lines == lines && p.gap == gap | none => true
  let right := if resend then (match old with | some p => p.state == 1 | none => false) else old.isNone
  .next (match told with
  | some first => s.when (!mgr) (fun s => s.pageTold d first)
  | none => s.submit d
    { opcode := 0x0203, long := false, used := [(0x10, 4), (0x14, 4), (0x18, 8), (0x20, 4), (0x24, 4)],
      sizes := if isPage then s.descSizes desc else [],
      range := jsaOk desc && desc % 64 == 0 && decide (flags < 4) && (!mgr || (s.jsaOpen desc 32 && !(isPage && s.descBad desc)))
        && !(mgr && resend && !same),
      counts := [lines],
      state := if !mgr || !right then stBadState else if !isPage then stCheckFailed else 0 }
    (fun h s =>
      match (if resend then old else none) with
      | some p =>
        let s := s.setPage { p with handle := h, desc := desc, state := 0, faults := [] }
        (s.out (.wort "pageAccepted" [p.first, id, lines, desc, gap, flags])).report h stAccepted false (p.first % 2 ^ 32) 0
      | none =>
        let first := s.nextFirst gap
        let s := s.addPage { id := id, handle := h, first := first, lines := lines, gap := gap, last := bit flags 1,
                             desc := desc, state := 0, backsteps := 0, failLine := 0, sent := [] }
        (s.out (.wort "pageAccepted" [first, id, lines, desc, gap, flags])).report h stAccepted false (first % 2 ^ 32) 0))

/-- The final completion of a page whose last line has fired (R129). -/
def State.endPage (s : State) (p : Page) (fired : Nat) : State :=
  let s := s.setPage { p with state := 2 }
  if p.backsteps = 0 then s.finish p.handle stDone fired 0
  else s.finish p.handle stDataLate fired (min p.backsteps 0xFFFF)

/-- PAGE_COMPLETE (R129): the page's last line has fired on every device; `fired` is how many of its lines fired. -/
def execPageComplete (id fired : Nat) (s : State) : Res State :=
  .next (match s.page id with
  | none => s
  | some p => s.when (p.state == 0 && s.activeManager && decide (p.first + p.lines ≤ s.seq.next ∧ fired ≤ p.lines))
      (fun s => s.endPage p fired))

/-- A fault found by this device, logged (R130). -/
def State.logFault (s : State) (cause ch : Nat) : State :=
  ((s.set .INT_FAULT_LOG_CAUSE cause).set .INT_FAULT_LOG_CHANNEL ch).bump .INT_FAULT_LOG_COUNT

/-- A fault of a page after acceptance: the first one completes it CHECK_FAILED (R130). -/
def State.pageFault (s : State) (id cause bar line : Nat) : State :=
  match s.page id with
  | none => s
  | some p =>
    if p.state = 0 then (s.setPage { p with state := 1, failLine := line }).finish p.handle stCheckFailed (line % 2 ^ 32)
      (cause % 16 + 16 * (bar % 16))
    else s.setPage { p with failLine := min p.failLine line }

/-- A fault of the page's strip `key`, whose channel is slot `slot`: it holds that channel (R140), and a resend covers the strip from
block `k` on (R131). -/
def State.noteFault (s : State) (id key k slot : Nat) : State :=
  match s.page id with
  | none => s
  | some p => s.setPage { p with sent := store 0 p.sent key (min k (look 0 p.sent key)), faults := p.faults.filter (fun f => f.1 != key) ++ [(key, slot)] }

/-- PAGE_FAULT (R130): a fault reported by the device that found it, on every device the report reaches: the one that owns the slot, a
bar manager, which passes it on, and the active press manager, which ends the page. -/
def execPageFault (id cause bar line strip block : Nat) (s : State) (slot : Nat := 0) : Res State :=
  .next (s.when (decide (1 ≤ cause ∧ cause ≤ 4)) (fun s =>
    let s := s.noteFault id strip block slot
    if s.activeManager then s.pageFault id cause bar line
    else if s.role = roleBar then s.out (.wort "pageFault" [id, cause, bar, line, strip, block, slot]) else s))

/-- A page's lines from `from_` on withdrawn from this device: its blocks leave the queues and its lines the reservoirs, and they and the
page's own gap become a declared gap, across which blank web passes (R132). -/
def State.dropPage (s : State) (p : Page) (from_ : Nat) : State :=
  let gone := fun y => decide (from_ ≤ y ∧ y < p.first + p.lines)
  let s := s.each 64 (fun s c =>
    let ch := s.chan c
    s.setChan c { ch with
      intake := ch.intake.filter (fun b => !(b.page == p.id && decide (from_ ≤ b.first))),
      released := ch.released.filter (fun b => !(b.page == p.id && decide (from_ ≤ b.first))),
      stage := ch.stage.filter (fun e => !gone e.1), lead := ch.lead.filter (fun l => !gone l.no),
      grant := ch.grant.filter (fun l => !gone l.no), preps := ch.preps.filter (fun l => !(l.rest && gone l.no)) })
  let g := if from_ = p.first then p.gap else 0
  State.addGap { s with gaps := s.gaps.filter (fun x => !(decide (0 < g) && x == (p.first - g, g))) } (from_ - g)
    (p.first + p.lines - from_ + g)

/-- Has any line of the page been screened here? -/
def State.pageScreened (s : State) (p : Page) : Bool := (List.range 64).any (fun t => decide (p.first < s.screenNext t))

/-- PAGE_CANCEL (R132): `elsewhere` is what the other devices answer to the question whether they have screened a line of the page.
`told`: what another device does, its lines from that one on being withdrawn. -/
def execPageCancel (d : Desc) (elsewhere : Bool) (s : State) (told : Option Nat := none) : Res State :=
  let id := d.p 0x10 4
  let ok := match s.page id with
    | some p => p.state == 1 || (!s.pageScreened p && !elsewhere)
    | none => false
  .next (match told with
  | some line => s.when (!s.activeManager) (fun s =>
      match s.page id with
      | some p => (s.setPage { p with state := 3 }).dropPage p line
      | none => s)
  | none => s.submit d
    { opcode := 0x0204, long := true, used := [(0x10, 4)], state := if s.activeManager && ok then 0 else stBadState }
    (fun h s =>
      match s.page id with
      | none => s.done h
      | some p =>
        let s := s.setPage { p with state := 3 }
        let line := if p.state = 1 then p.first + p.failLine else p.first
        let s := (s.dropPage p line).out (.wort "pageCancelled" [id, line])
        let s := if p.state = 0 then s.finish p.handle stDone (2 ^ 31) 0 else s
        s.done h))

/-! ## Fetching blocks (R124, R127, R130, R133) -/

/-- A strip that this bar manager serves: its key 2048 × plane entry + strip entry, the address of its entry, RES of its plane. -/
structure Strip where
  key  : Nat
  addr : Nat
  res  : Nat
  deriving DecidableEq, Repr

/-- Strip entry `j` of plane entry `i`. -/
def State.stripOf (s : State) (p : Page) (i j : Nat) : Strip :=
  { key := 2048 * i + j, addr := s.stripAt p.desc i j, res := s.jf (planeAt p.desc i + 2) 1 }

/-- The strips of a page's planes of this device's own bar (R133). -/
def State.strips (s : State) (p : Page) : List Strip :=
  (List.range (s.planesOf p.desc)).flatMap (fun i =>
    if s.jf (planeAt p.desc i) 1 = s.get .BAR_STATUS_BAR then (List.range (s.stripsOf p.desc i)).map (s.stripOf p i) else [])

/-- SLOT and BLOCKS of a strip entry, and BYTES and LINES of its block `k`. -/
def State.slotOf (s : State) (x : Strip) : Nat := s.jf x.addr 2
def State.blocksOf (s : State) (x : Strip) : Nat := s.jf (x.addr + 2) 2
def State.blockBytes (s : State) (x : Strip) (k : Nat) : Nat := s.jf (s.blockAt x.addr k + 8) 4
def State.blockLines (s : State) (x : Strip) (k : Nat) : Nat := s.jf (s.blockAt x.addr k + 12) 2

/-- Blocks of the strip sent so far; a strip with a fault sends no more until a resend (R130, R131). -/
def Page.sentOf (p : Page) (x : Strip) : Nat := look 0 p.sent x.key
def Page.faulty (p : Page) (x : Strip) : Bool := p.faults.any (fun f => f.1 == x.key)

/-- Is the page's operation running, or does it wait for a resend? -/
def Page.open_ (p : Page) : Bool := decide (p.state ≤ 1)

/-- Strips of accepted pages with blocks still to send. -/
def State.stripsLeft (s : State) (p : Page) : List Strip :=
  if p.open_ then (s.strips p).filter (fun x => !p.faulty x && decide (p.sentOf x < s.blocksOf x)) else []

/-- Has an accepted page an unfetched block in the extents of a run, as far as this device fetches (R124)? -/
def State.runUsed (s : State) (r : Nat × Nat) : Bool :=
  s.pages.any (fun p => (s.stripsLeft p).any (fun x =>
    (List.range (s.blocksOf x - p.sentOf x)).any (fun k =>
      let b := s.blockAt x.addr (p.sentOf x + k)
      (extentsOf (s.jf b 8) (s.jf (b + 8) 4)).any (fun e => decide (r.1 ≤ e ∧ e < r.1 + r.2)))))

/-- The mapped extents of a run closing (R124); those that are so already stay as they are. -/
def State.closeExtents (s : State) (r : Nat × Nat) : State :=
  { s with extents := s.extents.map (fun (x : Nat × Extent) =>
      if decide (r.1 ≤ x.1 ∧ x.1 < r.1 + r.2) && x.2.closing.isNone then (x.1, { x.2 with closing := some s.pages.length }) else x) }

/-- The closing extents of a run removed. -/
def State.dropExtents (s : State) (r : Nat × Nat) : State :=
  { s with extents := s.extents.filter (fun x => !(x.2.closing.isSome && decide (r.1 ≤ x.1 ∧ x.1 < r.1 + r.2))) }

/-- A JSA_UNMAP executed. -/
def State.jsaUnmap (s : State) (h : Nat) (d : Desc) : State :=
  let r := runOf d
  State.out { s.closeExtents r with unmaps := s.unmaps ++ [(h, r.1, r.2)] } (.wort "extentsClosing" [r.1, r.2])

/-- JSA_UNMAP (R124, R36): the mapped extents of the run are marked closing, `told` on a bar manager or trio member (R125). -/
def execJsaUnmap (d : Desc) (s : State) (told : Bool := false) : Res State :=
  let jsa := d.p 0x18 8
  let len := d.p 0x20 8
  .next (if told then s.when (!s.activeManager) (fun s => s.closeExtents (runOf d))
    else s.submit d
      { opcode := 0x0202, long := true, used := [(0x18, 8), (0x20, 8)], sizes := [len], range := runOk jsa len,
        state := if s.activeManager && s.runMapped (runOf d) then 0 else stBadState }
      (fun h s => s.firmware h (.jsaUnmap d) (fun s => s.jsaUnmap h d)))

/-- UNMAP_COMPLETE (R124): no accepted page has an unfetched block in the run of the JSA_UNMAP named by its handle, here or, as the bar
managers answer, `elsewhere`. `told`: a bar manager or trio member removes the entries of that run. -/
def execUnmapComplete (h : Nat) (s : State) (elsewhere : Bool := false) (told : Option (Nat × Nat) := none) : Res State :=
  .next (match told with
  | some r => s.when (!s.activeManager) (fun s => s.dropExtents r)
  | none => match s.unmaps.find? (fun u => u.1 == h) with
    | none => s
    | some u => s.when (!s.fwAway && !elsewhere && !s.runUsed u.2) (fun s =>
        let s := State.dropExtents { s with unmaps := s.unmaps.filter (fun x => x.1 != h) } u.2
        (s.out (.wort "extentsUnmapped" [u.2.1, u.2.2])).done h))

/-- Lines of a plane of resolution `res` in `lines` press lines, `high` telling a press resolution of 1,200 lines per inch: doubled, so
that the quotient stays whole (R127). -/
def planeLines2 (high : Bool) (lines res : Nat) : Nat :=
  match res, high with
  | 0, true => lines
  | 0, false => 2 * lines
  | _, true => 2 * lines
  | _, false => 4 * lines

/-- The first of the faults of R130 in a strip of page `p` and its block `k`, 0 if none. -/
def State.stripFault (s : State) (p : Page) (x : Strip) (k : Nat) : Nat :=
  let n := s.blocksOf x
  let b := s.blockAt x.addr k
  let bytes := s.blockBytes x k
  let total := ((List.range n).map (s.blockLines x)).sum
  if decide (2047 < s.slotOf x) || n == 0 || s.jf (x.addr + 4) 4 != 0 || !jsaOk (s.jf (x.addr + 8) 8) then 2
  else if !s.jsaServes p (s.jf (x.addr + 8) 8) (16 * n) then 3
  else if !jsaOk (s.jf b 8) || bytes == 0 || decide (16777216 < bytes) || s.blockLines x k == 0 ||
      decide (256 < s.blockLines x k) || s.jf (b + 14) 2 != 0 then 2
  else if decide (look 0 s.intakes (s.slotOf x) ≠ 0 ∧ look 0 s.intakes (s.slotOf x) / 2 < bytes) then 2
  else if !s.jsaServes p (s.jf b 8) bytes then 3
  else if 2 * total != planeLines2 (Config.pressHigh (s.get .GRS_IMAGE_ID_ID)) p.lines x.res then 4
  else 0

/-- Units of 4 KiB that `n` bytes take (R134). -/
def units (n : Nat) : Nat := (n + 4095) / 4096

/-- The first press line of block `k` of a strip. -/
def State.blockFirst (s : State) (p : Page) (x : Strip) (k : Nat) : Nat :=
  p.first + ((List.range k).map (s.blockLines x)).sum * p.lines / max 1 ((List.range (s.blocksOf x)).map (s.blockLines x)).sum

/-- Slots with free credit and a block to send. -/
def State.waitingSlots (s : State) : List Nat :=
  (s.pages.flatMap (fun p => (s.stripsLeft p).map s.slotOf)).filter (fun n => decide (0 < look 0 s.credits n))

/-- May the strip be served next: an earlier page has no block left for its slot, and no other slot with free credit has fewer available
lines, `counts` being what the devices of the bar report (R133)? -/
def State.servedNext (s : State) (p : Page) (x : Strip) (counts : List (Nat × Nat)) : Bool :=
  let n := s.slotOf x
  s.pages.all (fun q => decide (p.first ≤ q.first) || (s.stripsLeft q).all (fun y => s.slotOf y != n)) &&
  s.waitingSlots.all (fun m => decide (look 0 counts n ≤ look 0 counts m))

/-- A block on its way: to the device of its slot, by the port that the WORT section names for it. -/
def State.sendBlock (s : State) (p : Page) (x : Strip) (k : Nat) : State :=
  let n := s.slotOf x
  s.out (.wort "block" [Config.slicePort (s.sect 0x0052) (n / 64), n, p.id, k, s.blockFirst p x k, s.blockBytes x k])

/-- BLOCK_SEND (R133): the bar manager fetches the next block of a strip and sends it to the device that owns its slot, once that
slot has credit; a faulty entry ends the page (R130). `again`: a block already sent, asked for once more after it has failed its check, in
the room it still holds (R130, R134). While firmware is away, only what it has prepared is sent (R36, R37). -/
def execBlockSend (id plane strip : Nat) (s : State) (again : Option Nat := none) (counts : List (Nat × Nat) := []) : Res State :=
  .next (match s.page id with
  | none => s
  | some p =>
    let x := s.stripOf p plane strip
    let k := again.getD (p.sentOf x)
    s.when ((s.role == rolePress || s.role == roleBar || s.activeManager) && (s.strips p).contains x && !p.faulty x &&
        (!s.fwAway || decide (s.blockFirst p x k < s.prepared))) (fun s =>
      match again with
      | some k => s.when (decide (k < p.sentOf x)) (fun s => s.sendBlock p x k)
      | none =>
        if 0 < s.blocksOf x ∧ s.blocksOf x ≤ k then s
        else match s.stripFault p x k with
        | 0 => s.when (decide (units (s.blockBytes x k) ≤ look 0 s.credits (s.slotOf x)) && s.servedNext p x counts) (fun s =>
            let n := s.slotOf x
            let s := s.setPage { p with sent := store 0 p.sent x.key (k + 1) }
            State.sendBlock { s with credits := store 0 s.credits n (look 0 s.credits n - units (s.blockBytes x k)) } p x k)
        | f =>
          let n := s.slotOf x
          let bar := s.get .BAR_STATUS_BAR
          let line := s.blockFirst p x k - p.first
          let s := (s.logFault f (n % 64)).noteFault id x.key k n
          if s.activeManager then s.pageFault id f bar line
          else s.out (.wort "pageFault" [id, f, bar, line, x.key, k, n])))

/-! ## Clearing -/

/-- INT_FAULT_LOG_CLR (R130). -/
def execIntFaultLogClr (s : State) : Res State :=
  .next (s.reach .intake 0 (fun s =>
    s.clear [.INT_FAULT_LOG_CAUSE, .INT_FAULT_LOG_CHANNEL, .INT_FAULT_LOG_COUNT]))

end Sys2Proof.Machine
end

