-- ==== Sys2Proof/Machine/Codec.lean ====
section
/-! DEFINITION. The prediction codec: the block format, the decoder bit by bit, and the payload an encoder lane may write
(spec/07_codec.md, R145-R158). -/

namespace Sys2Proof.Machine

/-! ## Bits (R148) -/

/-- The payload as one bit string, bit 7 of byte 0 first. -/
def bitsOf (bs : List Byte) : List Bool := bs.flatMap (fun b => (List.range 8).map (fun i => b.toNat.testBit (7 - i)))

/-- The causes of CDC_FAIL.LAST_CAUSE. -/
def causeCheck : Nat := 1
def causeHeader : Nat := 2
def causeToken : Nat := 3
def causeLength : Nat := 4

/-! A reading of the bit string answers a value and the bits left, or the cause of failure; bits that run out are a payload length
breach (log entry 45). -/

/-- A field of `n` bits, most significant first. -/
def readBits : Nat → Nat → List Bool → Except Nat (Nat × List Bool)
  | 0, v, l => .ok (v, l)
  | _ + 1, _, [] => .error causeLength
  | n + 1, v, b :: l => readBits n (2 * v + b2n b) l

/-- The number of bits equal to `x` before the first other bit, which is consumed; at most `cap` are counted, and then nothing
more is consumed. -/
def readRun (x : Bool) : Nat → Nat → List Bool → Except Nat (Nat × List Bool)
  | 0, n, l => .ok (n, l)
  | _ + 1, _, [] => .error causeLength
  | cap + 1, n, b :: l => if b = x then readRun x cap (n + 1) l else .ok (n, l)

/-- EG(v). -/
def readEG (l : List Bool) : Except Nat (Nat × List Bool) := do
  let (z, l) ← readRun false 24 0 l
  if z = 24 then .error causeToken
  else
    let (r, l) ← readBits z 0 l
    .ok (2 ^ z - 1 + r, l)

/-- SE(v). -/
def readSE (l : List Bool) : Except Nat (Int × List Bool) := do
  let (u, l) ← readEG l
  .ok (if u % 2 = 1 then ((u + 1) / 2 : Nat) else -((u / 2 : Nat) : Int), l)

/-- RICE(m, k). -/
def readRice (depth k : Nat) (l : List Bool) : Except Nat (Nat × List Bool) := do
  let (q, l) ← readRun true 24 0 l
  if q = 24 then readBits depth 0 l
  else
    let (f, l) ← readBits k 0 l
    .ok (q * 2 ^ k + f, l)

/-! ## Prediction and contexts (R150-R152) -/

/-- The neighbours a, b and c of position `x`, from the samples of the line so far and the line above (none at y = 0). -/
def neighbours (depth : Nat) (row : List Nat) (above : Option (List Nat)) (x : Nat) : Nat × Nat × Nat :=
  match x, above with
  | 0, none => (2 ^ (depth - 1), 2 ^ (depth - 1), 2 ^ (depth - 1))
  | x + 1, none => (row.getD x 0, row.getD x 0, row.getD x 0)
  | 0, some u => (u.getD 0 0, u.getD 0 0, u.getD 0 0)
  | x + 1, some u => (row.getD x 0, u.getD (x + 1) 0, u.getD x 0)

/-- The prediction P. -/
def predict (a b c : Nat) : Nat := if max a b ≤ c then min a b else if c ≤ min a b then max a b else a + b - c

/-- The context of a sample. -/
def contextOf (depth a b c : Nat) : Nat :=
  let d := fun (x y : Nat) => if x ≤ y then y - x else x - y
  let h := (d b a + d b c + d a c) / 2 ^ (depth - 8)
  if h = 0 then 0 else if h ≤ 2 then 1 else if h ≤ 6 then 2 else if h ≤ 14 then 3 else if h ≤ 30 then 4
  else if h ≤ 62 then 5 else if h ≤ 126 then 6 else 7

/-- The eight contexts at the start of a block: accumulator and count. -/
def contexts0 (depth : Nat) : List (Nat × Nat) := List.replicate 8 (2 ^ (depth - 6), 1)

/-- The Rice parameter of a context. -/
def riceK (depth : Nat) (c : Nat × Nat) : Nat :=
  ((List.range depth).find? (fun k => decide (c.1 ≤ c.2 * 2 ^ k))).getD (depth - 1)

/-- A context after a sample. -/
def contextNext (c : Nat × Nat) (m : Nat) : Nat × Nat :=
  if c.2 + 1 = 64 then ((c.1 + m) / 2, 32) else (c.1 + m, c.2 + 1)

/-- The residual of a mapped value, and the mapped value of a residual (R151). -/
def unmapResidual (m : Nat) : Int := if m % 2 = 0 then (m / 2 : Nat) else -((m + 1) / 2 : Nat)
def mapResidual (e : Int) : Nat := if 0 ≤ e then (2 * e).toNat else (-2 * e - 1).toNat

/-! ## Decoding (R149) -/

/-- A line of one component while it is decoded: samples so far, contexts. -/
structure LineSt where
  row : List Nat
  ctx : List (Nat × Nat)

/-- `n` literal samples. -/
def readLiterals (depth : Nat) (above : Option (List Nat)) : Nat → LineSt → List Bool → Except Nat (LineSt × List Bool)
  | 0, z, l => .ok (z, l)
  | n + 1, z, l => do
    let (a, b, c) := neighbours depth z.row above z.row.length
    let t := contextOf depth a b c
    let cx := z.ctx.getD t (0, 1)
    let (m, l) ← readRice depth (riceK depth cx) l
    let v := (((predict a b c : Nat) + unmapResidual m) % (2 ^ depth : Nat)).toNat
    readLiterals depth above n { row := z.row ++ [v], ctx := z.ctx.set t (contextNext cx m) } l

/-- Which matches may occur: lines back, dx, length. A decoder takes every one. -/
abbrev Matches := Nat → Int → Nat → Bool
def anyMatch : Matches := fun _ _ _ => true

/-- One token at the present position of the line after `rows`, the lines so far, first line first; each field is judged as soon as it is
read. -/
def readToken (may : Matches) (depth width : Nat) (rows : List (List Nat)) (z : LineSt) (l : List Bool) :
    Except Nat (LineSt × List Bool) := do
  let left := width - z.row.length
  let (ty, l) ← readBits 1 0 l
  if ty = 0 then
    let (n, l) ← readEG l
    if left < n + 1 then .error causeToken else readLiterals depth rows.getLast? (n + 1) z l
  else
    let (d, l) ← readEG l
    if rows.length < d + 1 then .error causeToken
    else
      let (dx, l) ← readSE l
      let from_ : Int := z.row.length + dx
      if from_ < 0 ∨ (width : Int) ≤ from_ then .error causeToken
      else
        let (n, l) ← readEG l
        if left < n + 1 ∨ (width : Int) < from_ + (n + 1) ∨ may (d + 1) dx (n + 1) = false then .error causeToken
        else
          let src := rows.getD (rows.length - (d + 1)) []
          .ok ({ z with row := z.row ++ (List.range (n + 1)).map (fun i => src.getD (from_.toNat + i) 0) }, l)

/-- Tokens up to the end of the line. -/
def readLine (may : Matches) (depth width : Nat) (rows : List (List Nat)) : Nat → LineSt → List Bool → Except Nat (LineSt × List Bool)
  | 0, z, l => .ok (z, l)
  | fuel + 1, z, l =>
    if width ≤ z.row.length then .ok (z, l)
    else do
      let (z, l) ← readToken may depth width rows z l
      readLine may depth width rows fuel z l

/-- A component while its block is decoded: the lines so far and the contexts. -/
abbrev CompSt := List (List Nat) × List (Nat × Nat)

/-- One line of every component. -/
def readComps (may : Matches) (depth width : Nat) : List CompSt → List Bool → Except Nat (List CompSt × List Bool)
  | [], l => .ok ([], l)
  | (rows, ctx) :: t, l => do
    let (z, l) ← readLine may depth width rows width { row := [], ctx := ctx } l
    let (r, l) ← readComps may depth width t l
    .ok ((rows ++ [z.row], z.ctx) :: r, l)

/-- The lines of a block. -/
def readLines (may : Matches) (depth width : Nat) : Nat → List CompSt → List Bool → Except Nat (List CompSt × List Bool)
  | 0, cs, l => .ok (cs, l)
  | n + 1, cs, l => do
    let (cs, l) ← readComps may depth width cs l
    readLines may depth width n cs l

/-- A payload decoded: per component its lines. It must be used up to its last byte, with padding bits of 0. -/
def decodePayload (may : Matches) (depth width lines comps : Nat) (payload : List Byte) : Except Nat (List (List (List Nat))) := do
  let (cs, l) ← readLines may depth width lines (List.replicate comps ([], contexts0 depth)) (bitsOf payload)
  if l.length < 8 ∧ l.all (· == false) then .ok (cs.map Prod.fst) else .error causeLength

/-- The header fields of a block (R145). -/
def blkDepth (b : List Byte) : Nat := fieldAt b 3 1
def blkWidth (b : List Byte) : Nat := fieldAt b 4 2
def blkLines (b : List Byte) : Nat := fieldAt b 6 2
def blkComps (b : List Byte) : Nat := fieldAt b 9 1
def blkPayload (b : List Byte) : Nat := fieldAt b 0xC 4

/-- Does the header meet R145? -/
def blkHeaderOk (b : List Byte) : Bool :=
  decide (16 ≤ b.length) && fieldAt b 0 2 == 0x5043 && fieldAt b 2 1 == 1 && [8, 10, 12, 14].contains (blkDepth b) &&
  decide (1 ≤ blkWidth b ∧ blkWidth b ≤ 16384 ∧ 1 ≤ blkLines b ∧ blkLines b ≤ 256) &&
  (blkComps b == 1 || (blkComps b == 3 && blkDepth b == 8)) && fieldAt b 0xA 2 == 0 &&
  decide (1 ≤ blkPayload b ∧ blkPayload b ≤ 16777196)

/-- Does the header meet R145 and R147, for a tun of this STRIP_WIDTH and DECODE half? -/
def headerFits (width lines half : Nat) (b : List Byte) : Bool :=
  blkHeaderOk b && blkDepth b == 10 && blkComps b == 1 && blkWidth b == width && blkLines b == lines &&
  b.length == 20 + blkPayload b && decide (2 * width * lines ≤ half)

/-- The outcome of a block's check (R147, R153): the samples, or the first cause. -/
def checkBlock (width lines half : Nat) (b : List Byte) : Except Nat (List (List Nat)) :=
  if !headerFits width lines half b then .error causeHeader
  else if crc32c (sub b 0 (16 + blkPayload b)) ≠ fieldAt b (16 + blkPayload b) 4 then .error causeCheck
  else match decodePayload anyMatch 10 width lines 1 (sub b 16 (blkPayload b)) with
    | .ok cs => .ok (cs.headD [])
    | .error e => .error e

/-! ## Encoding (R151, R157, R158) -/

/-- The bits of a value, most significant first. -/
def putBits (n v : Nat) : List Bool := (List.range n).map (fun i => v.testBit (n - 1 - i))

/-- EG and RICE written. -/
def writeEG (v : Nat) : List Bool :=
  List.replicate (Nat.log2 (v + 1)) false ++ [true] ++ putBits (Nat.log2 (v + 1)) (v + 1)
def writeRice (depth k m : Nat) : List Bool :=
  if 24 ≤ m / 2 ^ k then List.replicate 24 true ++ putBits depth m
  else List.replicate (m / 2 ^ k) true ++ [false] ++ putBits k m

/-- The samples of a line written sample by sample, and the contexts after it. -/
def writeLiterals (depth : Nat) (above : Option (List Nat)) :
    List Nat → List Nat → List (Nat × Nat) → List Bool × List (Nat × Nat)
  | [], _, ctx => ([], ctx)
  | v :: t, row, ctx =>
    let n := neighbours depth row above row.length
    let cn := contextOf depth n.1 n.2.1 n.2.2
    let cx := ctx.getD cn (0, 1)
    let e := toSigned depth (v + 2 ^ depth - predict n.1 n.2.1 n.2.2)
    let r := writeLiterals depth above t (row ++ [v]) (ctx.set cn (contextNext cx (mapResidual e)))
    (writeRice depth (riceK depth cx) (mapResidual e) ++ r.1, r.2)

/-- A component while its block is encoded: the line above and the contexts. -/
abbrev CompEnc := Option (List Nat) × List (Nat × Nat)

/-- One line of every component as one literal run each. -/
def writeComps (depth : Nat) : List (List Nat) → List CompEnc → List Bool × List CompEnc
  | [], cs => ([], cs)
  | row :: t, cs =>
    let c := cs.headD (none, contexts0 depth)
    let w := writeLiterals depth c.1 row [] c.2
    let r := writeComps depth t cs.tail
    ([false] ++ writeEG (row.length - 1) ++ w.1 ++ r.1, (some row, w.2) :: r.2)

/-- The lines of a block as literal runs. -/
def writeLines (depth : Nat) : List (List (List Nat)) → List CompEnc → List Bool
  | [], _ => []
  | line :: t, cs =>
    let w := writeComps depth line cs
    w.1 ++ writeLines depth t w.2

/-- A bit string as bytes, padded with zero bits. -/
def packBits : Nat → List Bool → List Byte
  | 0, _ => []
  | fuel + 1, l =>
    if l.isEmpty then []
    else BitVec.ofNat 8 ((List.range 8).foldl (fun v i => 2 * v + b2n (l.getD i false)) 0) :: packBits fuel (l.drop 8)

/-- The payload of lines encoded as literal runs only (level 0). -/
def literalPayload (depth comps : Nat) (rows : List (List (List Nat))) : List Byte :=
  let l := writeLines depth rows (List.replicate comps (none, contexts0 depth))
  packBits l.length l

/-- The lines of a block, per component, as the decoder gives them. -/
def perComp (comps : Nat) (rows : List (List (List Nat))) : List (List (List Nat)) :=
  (List.range comps).map (fun c => rows.map (fun r => r.getD c []))

/-- The bounds of an effort level (R158): lines back, |dx|, shortest match; level 0 writes literal runs only. -/
def levelMatches (level : Nat) : Matches := fun d dx n =>
  match level with
  | 0 => false
  | 1 => decide (d ≤ 1 ∧ dx.natAbs ≤ 0 ∧ 16 ≤ n)
  | 2 => decide (d ≤ 1 ∧ dx.natAbs ≤ 4 ∧ 16 ≤ n)
  | 3 => decide (d ≤ 2 ∧ dx.natAbs ≤ 8 ∧ 12 ≤ n)
  | 4 => decide (d ≤ 4 ∧ dx.natAbs ≤ 16 ∧ 12 ≤ n)
  | 5 => decide (d ≤ 8 ∧ dx.natAbs ≤ 32 ∧ 8 ≤ n)
  | 6 => decide (d ≤ 16 ∧ dx.natAbs ≤ 64 ∧ 8 ≤ n)
  | 7 => decide (d ≤ 32 ∧ dx.natAbs ≤ 128 ∧ 8 ≤ n)
  | 8 => decide (d ≤ 64 ∧ dx.natAbs ≤ 256 ∧ 6 ≤ n)
  | _ => decide (d ≤ 255 ∧ dx.natAbs ≤ 512 ∧ 6 ≤ n)

/-- The payload an encoder lane writes: the implementation's choice where it decodes to the same samples with matches that the level
allows (log entry 46). -/
def encodePayload (level depth comps : Nat) (rows : List (List (List Nat))) : List Byte :=
  let p := Config.encoded level depth rows
  let width := ((rows.headD []).headD []).length
  match decodePayload (levelMatches level) depth width rows.length comps p with
  | .ok r => if r = perComp comps rows then p else literalPayload depth comps rows
  | .error _ => literalPayload depth comps rows

/-- A block of lines (R145). -/
def encodeBlock (level depth comps : Nat) (rows : List (List (List Nat))) : List Byte :=
  let p := encodePayload level depth comps rows
  let b := leBytes 2 0x5043 ++ leBytes 1 1 ++ leBytes 1 depth ++ leBytes 2 ((rows.headD []).headD []).length ++
    leBytes 2 rows.length ++ leBytes 1 level ++ leBytes 1 comps ++ leBytes 2 0 ++ leBytes 4 p.length ++ p
  b ++ leBytes 4 (crc32c b)

end Sys2Proof.Machine
end

