-- ==== Sys2Proof/Machine/Intake.lean ====
section
/-! DEFINITION. Intake queues and credit, decode lanes, release to screening, the line reservoirs, the detection of data late,
and the inspection archive (spec/06_page_intake.md, spec/07_codec.md, R134-R157). -/

namespace Sys2Proof.Machine

/-- A cause has gone: the channel takes part again from the first line of the first page that begins at or above `page`, and line `low`;
of two such bounds the later counts. -/
def State.rejoin (s : State) (c page low : Nat) : State :=
  let ch := s.chan c
  let old := fun n => if ch.out then n else 0
  s.setChan c { ch with out := true, joinFrom := max page (old ch.joinFrom), joinLow := max low (old ch.joinLow) }

/-- A head channel's or tun's fence is gone: from the first page none of whose blocks for the channel has yet entered its intake queue
(R175, R395). -/
def State.rejoinPage (s : State) (c : Nat) : State := s.rejoin c (s.chan c).lastFirst 0

/-- A hold, withholding or withdrawal of the device or channel has ended: from the first page none of whose blocks for the device has yet
entered intake, or the next line, whichever is later (R347, R348). -/
def State.rejoinDevice (s : State) (c : Nat) : State := s.rejoin c (maxOf (s.chans.map (fun e => e.2.lastFirst))) s.seq.next

/-- The line from which a channel that is out takes part again, once such a page is known. -/
def State.joinLine (s : State) (c : Nat) : Option Nat :=
  (s.pages.find? (fun p => decide ((s.chan c).joinFrom ≤ p.first))).map (fun p => max p.first (s.chan c).joinLow)

/-- The channel takes part again once firing reaches that line. -/
def State.joinAt (s : State) (c y : Nat) : State :=
  let due := match s.joinLine c with | some j => decide (j ≤ y) | none => false
  if (s.chan c).out && due then s.setChan c { s.chan c with out := false } else s

/-! ## Reservoirs (R136): the section's layout is the model's (log entry 14): LEAD, TAIL, INTAKE, LOW_WATER, HIGH_WATER and
MARGIN, four bytes each. -/

/-- The values of channel `c`'s RESERVOIR section in force. -/
def State.leadSize (s : State) (c : Nat) : Nat := s.sf 0x0013 c 0 4
def State.tailSize (s : State) (c : Nat) : Nat := s.sf 0x0013 c 4 4
def State.intakeSize (s : State) (c : Nat) : Nat := s.sf 0x0013 c 8 4
def State.lowWater (s : State) (c : Nat) : Nat := s.sf 0x0013 c 12 4
def State.highWater (s : State) (c : Nat) : Nat := s.sf 0x0013 c 16 4
def State.margin (s : State) (c : Nat) : Nat := s.sf 0x0013 c 20 4

/-- Zero size fields of a RESERVOIR payload. -/
def reservoirZero (b : List Byte) : Bool := zeroField b 0 4 || zeroField b 4 4 || zeroField b 8 4

/-- The rules of R136 on a RESERVOIR payload, with RATE_MAX (none: refused, R76). -/
def reservoirOk (rate : Option Nat) (b : List Byte) : Bool :=
  match rate with
  | none => false
  | some r =>
    let f := fun i => fieldAt b (4 * i) 4
    b.length == 24 && decide (r ≤ 2 * f 0 ∧ f 0 ≤ 16777215 ∧ f 1 ≤ 16777215) && f 2 % 4096 == 0 && f 3 % 64 == 0 &&
    decide (f 5 < f 3 ∧ f 3 < f 4 ∧ f 4 ≤ f 0 + 512) && f 4 % 64 == 0 && f 5 % 64 == 0 && decide (f 5 ≤ 16320)

/-- A RESERVOIR section in force shown in the underback's registers. -/
def State.applyReservoir (s : State) (c : Nat) (b : List Byte) : State :=
  let f := fun i => fieldAt b (4 * i) 4
  ((((s.set .UB_LEAD_LINES (f 0) c).set .UB_TAIL_LINES (f 1) c).set .UB_TAIL_MARGIN_64 (f 5 / 64) c).set
    .UB_WATER_LOW_64 (f 3 / 64) c).set .UB_HIGH_HIGH_64 (f 4 / 64) c

/-! ## Intake (R134) -/

/-- Bytes of channel `c`'s intake queue in use, in units of 4 KiB: a block that is being refetched keeps its room. -/
def State.intakeUsed (s : State) (c : Nat) : Nat := ((s.chan c).intake.map QBlock.room).sum

/-- INTAKE_CREDIT_GRANT (R134): device `dev` of this bar grants `n` units to its bar manager for channel `c`. On the device the
grant is bounded by the room in the queue, and INTAKE goes with the first one; the bar manager adds it to its credit. -/
def execIntakeCreditGrant (dev c n intake : Nat) (s : State) : Res State :=
  let mine := dev == s.get .BAR_STATUS_DEVICE
  let mgr := s.role == rolePress || s.role == roleBar
  let ok := decide (c < 64 ∧ 0 < n) &&
    (!mine || (decide (4096 * (n + (s.chan c).credit + s.intakeUsed c) ≤ s.intakeSize c) && intake == s.intakeSize c))
  .next (s.when ok (fun s =>
    let s := if mine then
        (s.setChan c { s.chan c with credit := (s.chan c).credit + n, reported := true }).out
          (.wort "credit" ([c, n] ++ if (s.chan c).reported then [] else [intake]))
      else s
    if mine && !mgr then s
    else
      let k := 64 * dev + c
      { s with credits := store 0 s.credits k (look 0 s.credits k + n), intakes := store 0 s.intakes k intake }))

/-- A page learnt from its blocks, on a device that did not accept it. -/
def State.learnPage (s : State) (id first lines gap : Nat) (last : Bool) : State :=
  if s.pages.any (fun p => p.first == first) then s
  else s.addPage { id := id, handle := 0, first := first, lines := lines, gap := gap, last := last, desc := 0, state := 0,
                   backsteps := 0, failLine := 0, sent := [] }

/-- Is `b` a failed block of this page and place in the strip, whose bytes are asked for again? -/
def QBlock.awaits (b : QBlock) (x : Arrival) : Bool := b.page == x.page && b.index == x.index && b.bytes.isEmpty

/-- Does the queue hold block `b` before the one arriving: an earlier page, or an earlier place in the strip? -/
def QBlock.ahead (b : QBlock) (x : Arrival) : Bool :=
  decide (b.pfirst < x.first) || (b.pfirst == x.first && decide (b.index < x.index))

/-- BLOCK_ARRIVAL (R134): a whole block that fits its credit is queued, in line order. A refetched copy takes the place and the room of
the block that failed; one that a resend brings after a second failure takes its place and new room (R130, R131). -/
def execBlockArrival (c : Nat) (x : Arrival) (s : State) : Res State :=
  let ch := s.chan c
  let n := units x.bytes.length
  let copy := ch.intake.any (fun b => b.awaits x && decide (b.fails < 2))
  .next (s.when (decide (c < 64) && !x.bytes.isEmpty && (copy || decide (n ≤ ch.credit))) (fun s =>
    let s := s.learnPage x.page x.first x.lines x.gap x.last
    if copy then
      s.setChan c { ch with intake := ch.intake.map (fun (b : QBlock) => if b.awaits x then { b with bytes := x.bytes } else b) }
    else
      let b : QBlock := { page := x.page, pfirst := x.first, index := x.index, first := x.line, lines := x.planeLines,
                          bytes := x.bytes, room := n }
      let q := if ch.intake.any (fun b => b.awaits x) then
          ch.intake.map (fun (b : QBlock) => if b.awaits x then { b with bytes := x.bytes, room := n, fails := 0 } else b)
        else ch.intake.filter (fun b => b.ahead x) ++ [b] ++ ch.intake.filter (fun b => !b.ahead x)
      s.setChan c { ch with intake := q, credit := ch.credit - n, lastFirst := max ch.lastFirst (x.first + 1) }))

/-! ## Decode lanes (R153-R156) -/

/-- The decode lanes of instance `i` that hold a block. -/
def State.lanesBusy (s : State) (i : Nat) : List Nat :=
  s.chans.flatMap (fun e => (e.2.intake.filter (fun b => b.lane != 0 && b.inst == i)).map (fun b => b.lane - 1))

/-- The lowest free lane of instance `i`. -/
def State.freeLane (s : State) (i : Nat) : Option Nat := (List.range 8).find? (fun j => !(s.lanesBusy i).contains j)

/-- The first element that satisfies a test, changed. -/
def mapFirst {α : Type} (p : α → Bool) (f : α → α) : List α → List α
  | [] => []
  | a :: t => if p a then f a :: t else a :: mapFirst p f t

/-- Does the block wait for a lane? -/
def QBlock.waits (b : QBlock) : Bool := b.lane == 0 && !b.passed && !b.bytes.isEmpty && decide (b.fails < 2)

/-- The plane lines of a channel's DECODE half, in bytes. -/
def State.decodeHalf (s : State) (t : Nat) : Nat := s.regionSize t regDecode / 2

/-- A failed block (R130, R153): counted; refetched after the first failure, reported after the second, when the later blocks of the strip
leave the queue with it until a resend brings them again. -/
def State.blockFailed (s : State) (i c cause : Nat) (b : QBlock) : State :=
  let s := ((s.bump .CDC_FAIL_COUNT 1 i).set .CDC_FAIL_LAST_CAUSE cause i).set .CDC_FAIL_LAST_CHANNEL c i
  let bad := { b with fails := b.fails + 1, lane := 0, bytes := [], room := if b.fails = 0 then b.room else 0 }
  let ch := s.chan c
  let put := fun (x : QBlock) => if x.page == b.page && x.index == b.index then bad else x
  if b.fails = 0 then
    (s.setChan c { ch with intake := ch.intake.map put }).out (.wort "refetch" [c, b.page, b.index])
  else
    let rest := ch.intake.filter (fun x => !(x.page == b.page && decide (b.index < x.index)))
    let s := s.setChan c { ch with intake := rest.map put }
    (s.logFault 1 c).out (.wort "pageFault" [b.page, 1, c, b.first - b.pfirst, b.index])

/-- BLOCK_DECODE_START (R153, R155): the channel's first waiting block takes the lowest free lane of the serving instance; one whose header
breaks R145 or R147 fails at once. -/
def execBlockDecodeStart (c : Nat) (s : State) : Res State :=
  let i := s.codecOf c
  .next (match s.freeLane i, (s.chan c).intake.find? QBlock.waits with
  | some j, some b =>
    s.when (decide (c < 64) && !s.fenced 3 i && !s.fenced 2 c && s.powered (118 + i) && s.powered c) (fun s =>
      if headerFits (s.prog c 0x00A 2) b.lines (s.decodeHalf c) b.bytes then
        let q := mapFirst QBlock.waits (fun (b : QBlock) => { b with inst := i, lane := j + 1 }) (s.chan c).intake
        s.setChan c { s.chan c with intake := q }
      else s.blockFailed i c causeHeader b)
  | _, _ => s)

/-- BLOCK_CHECK_DONE (R153): lane `j` of instance `i` ends its block. -/
def execBlockCheckDone (i j : Nat) (s : State) : Res State :=
  let holds := fun (b : QBlock) => b.inst == i && b.lane == j + 1
  .next (match s.chans.find? (fun e => e.2.intake.any holds) with
  | none => s
  | some e =>
    match e.2.intake.find? holds with
    | none => s
    | some b =>
      let c := e.1
      match checkBlock (s.prog c 0x00A 2) b.lines (s.decodeHalf c) b.bytes with
      | .ok rows =>
        let s := s.set .CDC_BLOCKS_COUNT (s.get .CDC_BLOCKS_COUNT i + 1) i
        let q := mapFirst holds (fun (b : QBlock) => { b with lane := 0, passed := true, samples := rows }) (s.chan c).intake
        s.setChan c { s.chan c with intake := q }
      | .error cause => s.blockFailed i c cause b)

/-- The samples of a block as the bytes of a DECODE half: 16 bits a sample, plane line by plane line. -/
def sampleBytes (rows : List (List Nat)) : List Byte := rows.flatMap (fun r => r.flatMap (leBytes 2))

/-- BLOCK_RELEASE (R154, R25): the oldest block that has not moved on, once passed, moves on to a free half of the decode buffer; it stays
in the queue until its last line has. For a fenced tun, or before the page from which the tun takes part again, the oldest block is released
unscreened, and its lines not yet screened are counted as discarded. -/
def execBlockRelease (c : Nat) (s : State) : Res State :=
  let ch := s.chan c
  let div := s.prog c 0x008 2
  .next (match ch.intake with
  | [] => s
  | b :: rest =>
    if 64 ≤ c then s
    else if s.fenced 2 c || decide (b.pfirst < ch.fromPage) then
      s.setChan c { ch with intake := rest, released := ch.released.filter (fun r => r.first != b.first),
                            discarded := ch.discarded + (b.first + b.lines * div - max b.first ch.screened) }
    else match ch.intake.find? (fun x => !x.moved) with
      | none => s
      | some b => s.when (b.passed && decide (ch.released.length < 2)) (fun s =>
          let q := mapFirst (fun x => !x.moved) (fun (x : QBlock) => { x with moved := true, samples := [] }) ch.intake
          let s := s.setChan c { ch with intake := q, half := 1 - ch.half, released := ch.released ++
            [{ first := b.first, page := b.page, pfirst := b.pfirst, lines := b.lines, half := ch.half }] }
          s.sramWr c (s.regionBase c regDecode + ch.half * s.decodeHalf c) (sampleBytes b.samples)))

/-- CDC_FAIL_CLR (R153). -/
def execCdcFailClr (i : Nat) (s : State) : Res State :=
  .next (s.reach .codec i (fun s =>
    s.clear [.CDC_FAIL_COUNT, .CDC_FAIL_LAST_CAUSE, .CDC_FAIL_LAST_CHANNEL] i))

/-! ## The grant buffer and the available lines (R135-R139) -/

/-- GRANT_REFILL (R135): hardware moves the lead's oldest line into the grant buffer of 512 lines; a fenced channel discards
arriving lines (R25). -/
def execGrantRefill (c : Nat) (s : State) : Res State :=
  let ch := s.chan c
  .next (match ch.lead with
  | [] => s
  | l :: rest =>
    if 64 ≤ c ∨ !s.powered c then s
    else if s.barred c || (ch.out && (match s.joinLine c with | some y => decide (l.no < y) | none => true)) then
      s.setChan c { ch with lead := rest, discarded := ch.discarded + 1 }
    else s.when (decide (ch.grant.length < 512)) (fun s => s.setChan c { ch with lead := rest, grant := ch.grant ++ [l] }))

/-- A count so large that no comparison of R137 exceeds it. -/
def manyLines : Nat := 2 ^ 64

/-- Consecutive lines from `y` on in the grant buffer or the lead or in a declared gap; past a job's last page no line is
missing (log entry 50). -/
def State.availFrom (s : State) (c : Nat) : Nat → Nat → Nat
  | 0, _ => 0
  | fuel + 1, y =>
    if s.jobEnds.any (fun n => decide (n ≤ y)) then manyLines
    else match s.gaps.find? (fun g => decide (g.1 ≤ y ∧ y < g.1 + g.2)) with
    | some g => (g.1 + g.2 - y) + s.availFrom c fuel (g.1 + g.2)
    | none =>
      if (s.chan c).grant.any (fun l => l.no == y) || (s.chan c).lead.any (fun l => l.no == y) then
        1 + s.availFrom c fuel (y + 1)
      else 0

/-- A of R137. -/
def State.avail (s : State) (c : Nat) : Nat :=
  s.availFrom c ((s.chan c).grant.length + (s.chan c).lead.length + s.gaps.length + 1) s.seq.next

/-- The press-wide name of this device's channel `c`, and that of an archive, in data-late reports (R26). -/
def State.lateSlot (s : State) (c : Nat) : Nat := 2048 * s.get .BAR_STATUS_BAR + 64 * s.get .BAR_STATUS_DEVICE + c
def archiveSlot : Nat := 32768

/-- Is the channel one that takes part in data-late detection: lines to fire, powered, in print? -/
def State.takesPart (s : State) (c : Nat) : Bool :=
  s.powered c && s.hasSect 0x0030 c && !s.outOfPrint c && s.is .MOT_STATUS_JOB && !s.is .FIRE_STATUS_WITHHELD

/-- The tests of R137 and R138 on channel `c`, made on every line event. Once the device's own manager is lost, no channel is data late: it
fires the lines it holds, and then behaves as fenced (R35). -/
def State.levelTest (s : State) (c : Nat) : State :=
  if !s.takesPart c then (s.off .UB_LEVEL_LATE c).off .UB_LEVEL_LOW c
  else
    let a := s.avail c
    let late := decide (a < s.get .MOT_STOPDIST_LINES + s.margin c)
    let low := decide (a < s.lowWater c)
    let s := if low && !s.is .UB_LEVEL_LOW c then s.telEvent 0x0001 c else s
    if s.upLost then ((if a = 0 then s.rejoinPage c else s).off .UB_LEVEL_LATE c).set .UB_LEVEL_LOW (b2n low) c
    else
    let s := if late && !s.is .UB_LEVEL_LATE c then
        { s.bump .UB_LATE_COUNT_COUNT 1 c with lateDue := s.lateDue ++ [(s.lateSlot c, s.seq.next + a)] }
      else s
    (s.set .UB_LEVEL_LATE (b2n late) c).set .UB_LEVEL_LOW (b2n low) c

/-- UB_LATE_COUNT_CLR (R137). -/
def execUbLateCountClr (c : Nat) (s : State) : Res State :=
  .next (s.reach .underback c (fun s => s.set .UB_LATE_COUNT_COUNT 0 c))

/-! ## The archive (R141-R144, R157) -/

/-- Bytes of a record in the ring (R142). -/
def ArchFrame.size (f : ArchFrame) : Nat := 32 + up64 f.bytes.length

/-- A record as ARCHIVE_READ copies it (R142). -/
def ArchFrame.record (f : ArchFrame) : List Byte :=
  leBytes 8 f.frame ++ leBytes 4 f.time ++ leBytes 1 f.cam ++ leBytes 3 0 ++ leBytes 4 f.bytes.length ++ leBytes 12 0 ++
  f.bytes ++ List.replicate (up64 f.bytes.length - f.bytes.length) 0

/-- Bytes in use of the ring. -/
def Archive.fill (a : Archive) : Nat := (a.frames.map ArchFrame.size).sum

/-- The hold ends once the fill is down to RESUME_PCT (R144). -/
def Archive.settle (a : Archive) : Archive :=
  { a with holding := a.holding && decide (a.resume * a.size < 100 * a.fill) }

/-- ARCHIVE_SETUP (R141). -/
def execArchiveSetup (d : Desc) (s : State) : Res State :=
  let mask := d.p 0x10 1
  let policy := d.p 0x11 1
  let pct := d.p 0x12 1
  let base := d.p 0x18 8
  let size := d.p 0x20 8
  .next (s.submit d
    { opcode := 0x0205, long := false, used := [(0x10, 1), (0x11, 1), (0x12, 1), (0x18, 8), (0x20, 8)], sizes := [size],
      range := decide (policy ≤ 1 ∧ (policy = 0 ∨ (1 ≤ pct ∧ pct ≤ 99)) ∧ 16777216 ≤ size) && base % 4096 == 0 &&
        size % 4096 == 0,
      state := if mask ≠ 0 ∧ s.archive.mask ≠ 0 then stBadState else 0 }
    (fun h s =>
      if mask = 0 then
        State.done ((State.bump { s with archive := {} } .INT_ARCH_DROPPED_COUNT s.archive.frames.length)) h
      else State.done { s with archive := { mask := mask, policy := policy, resume := pct, base := base, size := size } } h))

/-- The oldest frames that fit in `max` bytes, `n` at most, and those that stay. -/
def takeFrames : Nat → Nat → List ArchFrame → List ArchFrame × List ArchFrame
  | 0, _, l => ([], l)
  | _ + 1, _, [] => ([], [])
  | n + 1, max, f :: t =>
    if f.size ≤ max then
      let r := takeFrames n (max - f.size) t
      (f :: r.1, r.2)
    else ([], f :: t)

/-- ARCHIVE_READ (R142). -/
def execArchiveRead (d : Desc) (s : State) : Res State :=
  let n := d.p 0x10 4
  let max := d.p 0x14 4
  .next (s.submit d
    { opcode := 0x0206, long := true, used := [(0x10, 4), (0x14, 4), (0x18, 8)], sizes := [max], counts := [n],
      range := match s.archive.frames with | [] => true | f :: _ => decide (f.size ≤ max) }
    (fun h s =>
      let r := takeFrames n max s.archive.frames
      State.done { s with hostMem := Memory.wrs s.hostMem (d.p 0x18 8) (r.1.flatMap ArchFrame.record),
                          archive := { s.archive with frames := r.2 }.settle } h r.1.length))

/-- The encoder lane of codec instance `i`. -/
def State.enc (s : State) (i : Nat) : EncLane := look {} s.encs i
def State.setEnc (s : State) (i : Nat) (e : EncLane) : State := { s with encs := store {} s.encs i e }

/-- Is the lane in the midst of a frame? -/
def EncLane.busy (e : EncLane) : Bool := !(e.rows.isEmpty && e.bytes.isEmpty)

/-- Closing the open block; a block with no line is never written. -/
def EncLane.close (e : EncLane) : EncLane :=
  if e.rows.isEmpty then { e with flush := false }
  else { e with rows := [], flush := false, bytes := e.bytes ++ encodeBlock e.level e.depth e.comp e.rows }

/-- The record of an ended frame, its last block closed, waits for the ring. -/
def EncLane.pack (e : EncLane) : EncLane :=
  let e := e.close
  { wait := e.wait,
    ready := e.ready ++ if e.bytes.isEmpty then [] else [{ frame := e.frame, time := e.time, cam := e.cam, bytes := e.bytes }] }

/-- A line taken, or the end of the frame, by a lane that is free for it: the effort level of a block is the one at its first line (R158);
a block that is due to close closes first; the first line of a frame opens its record. -/
def EncLane.take (e : EncLane) (level : Nat) (i : EncItem) : EncLane :=
  match i.row with
  | none => { e with ended := e.busy }
  | some r =>
    let e := if e.rows.length = 256 ∨ e.flush then e.close else e
    let e := if e.busy then e else { e with cam := i.cam, frame := i.frame, time := i.time, depth := i.depth, comp := i.comp }
    { e with level := if e.rows.isEmpty then level else e.level, rows := e.rows ++ [r] }

/-- What has been brought, taken in order up to the end of a frame: what belongs to another camera than the one in hand waits. -/
def EncLane.feed (level : Nat) : Nat → EncLane → EncLane
  | 0, e => e
  | n + 1, e =>
    if e.ended then e
    else match e.wait.find? (fun i => !e.busy || i.cam == e.cam) with
      | none => e
      | some i => EncLane.feed level n ({ e with wait := e.wait.erase i }.take level i)

/-- The lane after it has gone on with what waits. -/
def EncLane.run (e : EncLane) (level : Nat) : EncLane :=
  let e := if e.ended then e.pack else e
  e.feed level e.wait.length

/-- The codec instance that encodes camera `x`: the number of its ISP pipe (log entry 61). -/
def State.encOf (s : State) (x : Nat) : Nat := s.sf 0x0040 x 3 1 % 4

/-- What a frame brings to its lane; an instance that is unpowered or fenced encodes nothing (log entry 61). -/
def State.encPut (s : State) (i : EncItem) : State :=
  let k := s.encOf i.cam
  let e := s.enc k
  if s.powered (118 + k) && !s.fenced 3 k then
    s.setEnc k (EncLane.run { e with wait := e.wait ++ [i] } (s.get .CDC_ENC_CTRL_LEVEL k))
  else s

/-- A line of a frame of camera `x` (R157). -/
def State.encLine (s : State) (x frame time depth comp : Nat) (row : List (List Nat)) : State :=
  s.encPut { cam := x, frame := frame, time := time, depth := depth, comp := comp, row := some row }

/-- The end of a frame of camera `x`. -/
def State.encEnd (s : State) (x frame : Nat) : State :=
  s.encPut { cam := x, frame := frame, time := 0, depth := 0, comp := 0, row := none }

/-- A lost frame leaves the lane: no record is written of it (log entry 61). -/
def State.encDrop (s : State) (x frame : Nat) : State :=
  let k := s.encOf x
  let e := s.enc k
  let e := { e with wait := e.wait.filter (fun i => !(i.cam == x && i.frame == frame)) }
  s.setEnc k (if e.busy && e.cam == x && e.frame == frame then { wait := e.wait, ready := e.ready } else e)

/-- ARCHIVE_BLOCK_CLOSE (R157): after 256 lines, at the end of the frame, or on a flush. -/
def execArchiveBlockClose (x : Nat) (s : State) : Res State :=
  let k := s.encOf x
  let e := s.enc k
  .next (s.when (decide (x < 8) && e.cam == x && !e.rows.isEmpty && (e.rows.length == 256 || e.ended || e.flush))
    (fun s => s.setEnc k e.close))

/-- CDC_ENC_CTRL.FLUSH (R157): no effect with no line pending. -/
def State.encFlush (s : State) (i : Nat) : State :=
  if (s.enc i).rows.isEmpty then s else s.setEnc i { s.enc i with flush := true }

/-- CDC_ENC_FLUSH. -/
def execCdcEncFlush (i : Nat) (s : State) : Res State :=
  .next (s.when (decide (i < 4)) (fun s => s.reach .codec i (fun s => s.encFlush i)))

/-- Room made under DROP: the oldest unread frames are overwritten and counted (R143). -/
def makeRoom : Nat → Nat → Archive → Nat × Archive
  | 0, _, a => (0, a)
  | fuel + 1, need, a =>
    if a.fill + need ≤ a.size then (0, a)
    else
      let r := makeRoom fuel need { a with frames := a.frames.drop 1 }
      (r.1 + 1, r.2)

/-- ARCHIVE_FRAME_WRITE (R143, R144): the record of a frame that ended in camera `x`'s lane enters the ring. -/
def execArchiveFrameWrite (x : Nat) (s : State) : Res State :=
  let k := s.encOf x
  let e := if (s.enc k).ended then (s.enc k).run (s.get .CDC_ENC_CTRL_LEVEL k) else s.enc k
  let a := s.archive
  .next (match e.ready.find? (fun f => f.cam == x) with
  | none => s
  | some f => s.when (decide (x < 8)) (fun s =>
    let s := s.setEnc k { e with ready := e.ready.erase f }
    if !bit a.mask x || (a.policy == 1 && decide (a.size < a.fill + f.size)) || decide (a.size < f.size) then
      s.bump .INT_ARCH_DROPPED_COUNT
    else
      let r : Nat × Archive := if a.policy = 1 then (0, a) else makeRoom a.frames.length f.size a
      let a' : Archive := { r.2 with frames := r.2.frames ++ [f] }
      let s := s.bump .INT_ARCH_DROPPED_COUNT r.1
      if a.policy = 1 ∧ 7 * a'.size < 8 * a'.fill ∧ !a.holding then
        { s with archive := { a' with holding := true }, lateDue := s.lateDue ++ [(archiveSlot, s.seq.next)] }
      else { s with archive := a' }))

/-- INT_ARCH_DROPPED_CLR (R143). -/
def execIntArchDroppedClr (s : State) : Res State :=
  .next (s.reach .intake 0 (fun s => s.set .INT_ARCH_DROPPED_COUNT 0))

end Sys2Proof.Machine
end

