-- ==== Sys2Proof/Machine/Kiln.lean ====
section
/-! DEFINITION. Head geometry and the order of slots (R204-R206), and the Kiln: the seal, the energy of a line, clipping, and the
interlock of head power (spec/10_firing.md, spec/11_kiln_energy_governor.md). -/

namespace Sys2Proof.Machine

/-! ## Head geometry (R204-R206) -/

/-- The group of nozzle `n` under a HEAD_GEOM payload. -/
def geomGroup (g : List Byte) (n : Nat) : Nat :=
  match fieldAt g 2 1 with
  | 0 => n % 32
  | 1 => n / 80
  | _ => fieldAt g (0x40 + n) 1 % 32

/-- The row of nozzle `n`. -/
def geomRow (g : List Byte) (n : Nat) : Nat := bits (fieldAt g (0x40 + n) 1) 5 2

/-- The group at position `i` of the order list (R205). -/
def geomOrder (g : List Byte) (i : Nat) : Nat :=
  match fieldAt g 3 1 with
  | 0 => i
  | 1 => fieldAt g 4 1 * i % 32
  | _ => fieldAt g (0x20 + i) 1

/-- Slots of a line (R205). -/
def slotsOf (conc : Nat) : Nat := (32 + conc - 1) / conc

/-- The slot in which nozzle `n` fires on line `y` (R205). -/
def geomSlot (g : List Byte) (conc y n : Nat) : Nat :=
  let p := ((List.range 32).find? (fun i => geomOrder g i == geomGroup g n)).getD 0 / conc
  if fieldAt g 5 1 = 1 then (p + slotsOf conc - y % slotsOf conc) % slotsOf conc else p

/-- ROW_DELAY of a row. -/
def geomDelay (g : List Byte) (r : Nat) : Nat := fieldAt g (0x10 + r) 1

/-- Zero size fields of a HEAD_GEOM payload. -/
def geomZero (b : List Byte) : Bool := zeroField b 0 2 || zeroField b 6 1 || zeroField b 8 2

/-- The rules of R204 and R215 on a HEAD_GEOM payload of channel `c`. -/
def geomOk (e : Eff) (c : Nat) (b : List Byte) : Bool :=
  let n := fieldAt b 0 2
  let rows := fieldAt b 6 1
  let same := fun (v : Option Nat) (w : Nat) => match v with | some x => x == w | none => true
  let param := (e 0x0031 c).map (fun p => fieldAt p (scrP p + 3) 1)
  decide (n ≤ 2560) && b.length == 0x40 + n && same (e.f 0x0020 c 2 2) n && same (e.f 0x0031 c 0 2) n &&
  decide (fieldAt b 2 1 ≤ 2 ∧ fieldAt b 3 1 ≤ 2 ∧ fieldAt b 5 1 ≤ 1 ∧ rows ≤ 4 ∧ fieldAt b 7 1 ≤ 1) &&
  decide (fieldAt b 4 1 % 2 = 1 ∧ fieldAt b 4 1 ≤ 31) && (fieldAt b 3 1 == 1 || fieldAt b 4 1 == 1) &&
  same param (fieldAt b 7 1) && decide (40 ≤ fieldAt b 8 2 ∧ fieldAt b 8 2 ≤ 1600 ∧ fieldAt b 0xA 2 ≤ 4095) &&
  (match e.f 0x0032 0 0xC 4, e.f 0x0032 0 4 2 with
    | some fl, some st => decide (fieldAt b 0xC 4 ≤ fl ∧ fieldAt b 8 2 ≤ st)
    | _, _ => false) &&
  (List.range 4).all (fun r => decide (geomDelay b r ≤ if 1 ≤ r ∧ r < rows then 63 else 0)) && zeroAt b 0x14 12 &&
  (if fieldAt b 3 1 = 2 then (List.range 32).all (fun g => (List.range 32).any (fun i => fieldAt b (0x20 + i) 1 == g))
    else zeroAt b 0x20 32) &&
  (List.range n).all (fun i =>
    let x := fieldAt b (0x40 + i) 1
    decide (x < 128 ∧ geomRow b i < rows) && (fieldAt b 2 1 == 2 || x % 32 == 0)) &&
  (List.range 32).all (fun g => decide (((List.range n).filter (fun i => geomGroup b i == g)).length ≤ 80)) &&
  (fieldAt b 7 1 == 0 || (List.range (n / 2)).all (fun k => geomRow b (2 * k) != geomRow b (2 * k + 1)))

/-! ## The KILN section (R218, R219) -/

/-- A field of channel `c`'s 16 bytes of a KILN payload. -/
def kilnETick (b : List Byte) (c : Nat) : Nat := fieldAt b (0x40 + 16 * c) 4
def kilnCapSlot (b : List Byte) (c : Nat) : Nat := fieldAt b (0x44 + 16 * c) 4
def kilnCapLine (b : List Byte) (c : Nat) : Nat := fieldAt b (0x48 + 16 * c) 4
def kilnCeil (b : List Byte) (c : Nat) : Nat := fieldAt b (0x4C + 16 * c) 2
def kilnSettle (b : List Byte) (c : Nat) : Nat := fieldAt b (0x4E + 16 * c) 2

/-- Is channel `c` used by a KILN payload? -/
def kilnUses (b : List Byte) (c : Nat) : Bool := bit (fieldAt b 0 8) c

/-- Zero size fields of a KILN payload. -/
def kilnZero (b : List Byte) : Bool :=
  (List.range 64).any (fun c => kilnUses b c && (zeroField b (0x40 + 16 * c) 4 || zeroField b (0x44 + 16 * c) 4 ||
    zeroField b (0x48 + 16 * c) 4 || zeroField b (0x4E + 16 * c) 2))

/-- No TRIM_INIT of the HEAD_GEOM sections exceeds the ceiling of its channel (R219). -/
def trimsUnder (e : Eff) (b : List Byte) : Bool :=
  (List.range 64).all (fun c => !kilnUses b c || (match e.f 0x0030 c 0xA 2 with
    | some t => decide (t ≤ kilnCeil b c) | none => true))

/-- The rules of R218 and R219 on a KILN payload. -/
def kilnOk (e : Eff) (b : List Byte) : Bool :=
  b.length == 1088 && zeroAt b 8 56 && trimsUnder e b &&
  (List.range 64).all (fun c =>
    if kilnUses b c then
      decide (kilnETick b c ≤ 1000000 ∧ kilnCapSlot b c ≤ kilnCapLine b c ∧ kilnCeil b c ≤ 4095 ∧
        kilnETick b c * 40 ≤ kilnCapSlot b c * 1000)
    else zeroAt b (0x40 + 16 * c) 16)

/-- Is channel `c` used by the sealed Kiln? -/
def State.kilnUsed (s : State) (c : Nat) : Bool :=
  match s.kiln with | some k => kilnUses k.payload c | none => false

/-! ## Energy and clipping (R220, R221) -/

/-- A line while it is clipped: kept codes, budgets of the slots and of the line in pJ, slots that refused a strobe, and whether
the line budget did. -/
structure ClipSt where
  kept    : List Nat
  slots   : List Nat
  line    : Nat
  refused : List Nat
  lineOut : Bool

/-- One test of R221: nozzle `n` of slot `sl` for its strobe `j` of energy `e`. -/
def clipStep (e j : Nat) (codes slotOf : List Nat) (z : ClipSt) (n : Nat) : ClipSt :=
  let sl := slotOf.getD n 0
  if codes.getD n 0 < j ∨ z.kept.getD n 0 ≠ j - 1 then z
  else if e ≤ z.slots.getD sl 0 ∧ e ≤ z.line then
    { z with kept := z.kept.set n j, slots := z.slots.set sl (z.slots.getD sl 0 - e), line := z.line - e }
  else
    { z with refused := if z.slots.getD sl 0 < e then insNat z.refused sl else z.refused,
             lineOut := z.lineOut || decide (z.line < e) }

/-- The procedure of R221. -/
def clipLine (e smax capSlot capLine y : Nat) (codes slotOf : List Nat) : ClipSt :=
  let n := codes.length
  let order := (List.range n).map (fun i => (y * 1021 % n + i) % n)
  (List.range smax).foldl (fun z j => order.foldl (clipStep e (j + 1) codes slotOf) z)
    { kept := List.replicate n 0, slots := List.replicate 32 (capSlot * 1000), line := capLine * 1000, refused := [],
      lineOut := false }

/-- The energy of each slot, in pJ (R220). -/
def slotEnergy (e : Nat) (codes slotOf : List Nat) (sl : Nat) : Nat :=
  e * (((List.range codes.length).filter (fun n => slotOf.getD n 0 == sl)).map (fun n => codes.getD n 0)).sum

/-- A line checked by the Kiln (R220-R222): the codes that fire, and for a clipped line the strobes removed, the lowest slot that
refused one, and the cause. -/
def kilnCheck (e smax capSlot capLine y : Nat) (codes slotOf : List Nat) : List Nat × Option (Nat × Nat × Nat) :=
  if (List.range 32).all (fun sl => decide (slotEnergy e codes slotOf sl ≤ capSlot * 1000)) && decide (e * codes.sum ≤ capLine * 1000)
  then (codes, none)
  else
    let z := clipLine e smax capSlot capLine y codes slotOf
    (z.kept, some (codes.sum - z.kept.sum, z.refused.headD 0, b2n (!z.refused.isEmpty) + 2 * b2n z.lineOut))

/-- A prepared line as the Kiln in force lets it fire, with its own firing values (R220-R222); an unsealed Kiln and a channel that is not
used check nothing. -/
def State.kilnPrep (s : State) (c : Nat) (p : Prep) : Prep :=
  match s.kiln with
  | some z =>
    if kilnUses z.payload c then
      let slotOf := (List.range p.line.length).map (geomSlot p.geom p.setup.conc p.no)
      let k := kilnCheck (kilnETick z.payload c * p.setup.strobe) p.setup.smax (kilnCapSlot z.payload c) (kilnCapLine z.payload c) p.no
        p.line slotOf
      { p with codes := k.1, clip := k.2 }
    else p
  | none => p

/-- The words of a line frame on lane `lane`: the header, and the codes of the even or odd nozzles, ascending (R209). -/
def headFrame (lane y : Nat) (codes : List Nat) : List Nat :=
  let own := ((List.range codes.length).filter (fun n => n % 2 == lane)).map (fun n => codes.getD n 0)
  (12 * 2 ^ 28 + y % 4096 * 2 ^ 16 + own.length) :: own

/-- The line frame of a prepared line loads into the head's load buffer (R209, R210). -/
def State.sendFrame (s : State) (c : Nat) (p : Prep) : State :=
  (s.out (.bus "headFrame" (c :: 0 :: headFrame 0 p.no p.codes))).out (.bus "headFrame" (c :: 1 :: headFrame 1 p.no p.codes))

/-- A KILN section applied (R82): an unsealed Kiln takes it and seals, and its caps hold from this tick for the lines already prepared
(R225); a sealed one keeps what it has. -/
def State.sealKiln (s : State) (payload : List Byte) (key : Nat) : State :=
  match s.kiln with
  | some _ => s
  | none =>
    let s := { s with kiln := some { payload := payload, key := key, digest := digestId (sha384 payload) } }
    s.each 64 (fun s c => (s.chan c).preps.foldl (fun s p =>
      let q := s.kilnPrep c p
      if q = p then s
      else (s.setChan c { s.chan c with preps := (s.chan c).preps.map (fun (x : Prep) => if x.no = p.no then q else x) }).sendFrame c q) s)

/-- A clipped line counted (R222), and the alarm of its window (R223). -/
def State.countClip (s : State) (c y removed slot cause : Nat) : State :=
  let s := (s.bump .KILN_CLIP_LINES_COUNT).bump .KILN_CH_CLIP_COUNT 1 0 c
  let s := s.set .KILN_CLIP_STROBES_COUNT (s.get .KILN_CLIP_STROBES_COUNT + removed)
  let s := ((s.set .KILN_CLIP_LAST_CHANNEL c).set .KILN_CLIP_LAST_SLOT slot).set .KILN_CLIP_LAST_CAUSE cause
  let w := y / 2 ^ 20
  let n := look 0 s.kilnWin w + 1
  let s := { s with kilnWin := store 0 (s.kilnWin.filter (fun e => decide (w ≤ e.1 + 1 ∧ e.1 ≤ w + 1))) w n }
  if s.is .KILN_ALARM_EN && decide (s.get .KILN_ALARM_THRESH < n) then
    if s.is .KILN_STATUS_ALARM then s else (s.on .KILN_STATUS_ALARM).vector .KILN_ALARM_VEC_VECTOR .KILN_ALARM_VEC_EN
  else s

/-! ## Head power (R225-R227) -/

/-- Do all conditions of R226 hold for channel `c`, is it not withdrawn (R348), and is the device in P0 (R58)? The ten microseconds of TRIM are the event's (log entry 5). -/
def State.powerOk (s : State) (c : Nat) : Bool :=
  s.kilnUsed c && s.is .FIRE_CH_STATUS_ENABLED c && !s.fenced 1 c &&
  (match s.kiln with | some k => decide (s.get .FIRE_CH_TRIM_APPLIED c ≤ kilnCeil k.payload c) | none => false) &&
  bit (s.get .KILN_HPWR_REQ_REQ 0 (c / 32)) (c % 32) && !bit s.withdrawn c && s.get .PWR_PSTATE_CUR == 0

/-- Is HPWR_EN_N of channel `c` active? -/
def State.headOn (s : State) (c : Nat) : Bool := bit (s.get .KILN_HPWR_ON_ON 0 (c / 32)) (c % 32)

/-- The time a head has been powered, as its record keeps it (R389). -/
def HeadRec.power (h : HeadRec) (now : Nat) (on : Bool) : HeadRec :=
  match h.since with
  | none => if on then { h with since := some now } else h
  | some t => if on then h else { h with since := none, powered := h.powered + (now - t) }

/-- HPWR_EN_N of channel `c` driven: active is low. Going active starts PWR_SETTLE (R226); a loss of a condition is then over (R227). -/
def State.headPower (s : State) (c : Nat) (on : Bool) : State :=
  let s := s.setChan c { s.chan c with settling := on, cut := false }
  let s := { s with heads := store {} s.heads c ((look ({} : HeadRec) s.heads c).power s.now on) }
  ((s.putB .KILN_HPWR_ON_ON (c % 32) on 0 (c / 32)).set .FIRE_CH_STATUS_HPWR (b2n on) c).out (.pin "HPWR_EN_N" c (b2n !on))

/-- May FIRE_N of channel `c` go active (R203, R225-R227, R395)? A channel that lost a condition waits until its power has been off. -/
def State.fireOk (s : State) (c : Nat) : Bool :=
  s.powerOk c && s.headOn c && !(s.chan c).settling && !(s.chan c).cut && !s.is .FIRE_STATUS_WITHHELD

/-- Channels that have head power and have lost a condition of R226 are latched: FIRE_N goes inactive at once, HPWR_EN_N follows at the end of
the line's schedule (R227). Every operation that may take a condition away ends with it. -/
def State.cutHeads (s : State) : State :=
  s.each 64 (fun s c => if s.headOn c && !s.powerOk c then s.setChan c { s.chan c with cut := true } else s)

/-- A write to KILN_HPWR_REQi. -/
def State.hpwrReq (s : State) (i v : Nat) : State := (s.set .KILN_HPWR_REQ_REQ v 0 i).cutHeads

/-- The length of a line's schedule in ticks (R207). -/
def Setup.tLine (u : Setup) : Nat := slotsOf u.conc * (u.smax * (u.strobe + u.gap) + u.dead)

/-- Has the schedule of the channel's last fired line ended (R208)? -/
def State.scheduleEnded (s : State) (c : Nat) : Bool :=
  (s.chan c).firing.all (fun x => decide (x.f + 128 * x.setup.tLine ≤ 128 * s.now))

/-- KILN_HPWR_REQ_WRITE (R226). -/
def execKilnHpwrReqWrite (i v : Nat) (s : State) : Res State := 
  .next (s.when (decide (i < 2)) (fun s => s.reach .kiln 0 (fun s => s.hpwrReq i v)))

/-- HEAD_POWER_ON (R226): PWR_SETTLE starts. -/
def execHeadPowerOn (c : Nat) (s : State) : Res State :=
  .next (s.when (decide (c < 64) && s.powerOk c && !s.headOn c) (fun s =>
    s.headPower c true))

/-- PWR_SETTLE_EXPIRY (R226). -/
def execPwrSettleExpiry (c : Nat) (s : State) : Res State :=
  .next (s.when (decide (c < 64) && s.headOn c) (fun s => s.setChan c { s.chan c with settling := false }))

/-- HEAD_POWER_OFF (R227): a condition of R226 has ceased to hold, and the line's schedule has ended, or for a fence the next line boundary has
come. -/
def execHeadPowerOff (c : Nat) (s : State) : Res State :=
  let boundary := s.fenced 1 c && (s.chan c).firing.any (fun x => decide (x.no + 1 < (s.chan c).reached))
  .next (s.when (decide (c < 64) && ((s.chan c).cut || !s.powerOk c) && s.headOn c && (s.scheduleEnded c || boundary)) (fun s =>
    s.headPower c false))

/-- KILN_CLIP_LINES_CLR (R222). -/
def execKilnClipLinesClr (s : State) : Res State :=
  .next (s.reach .kiln 0 (fun s => s.clear [.KILN_CLIP_LINES_COUNT, .KILN_CLIP_STROBES_COUNT,
    .KILN_CLIP_LAST_CHANNEL, .KILN_CLIP_LAST_SLOT, .KILN_CLIP_LAST_CAUSE]))

/-- KILN_UNSEALED_CLR (R225). -/
def execKilnUnsealedClr (s : State) : Res State :=
  .next (s.reach .kiln 0 (fun s => s.set .KILN_UNSEALED_COUNT 0))

/-- KILN_CH_CLIP_CLR (R222). -/
def execKilnChClipClr (c : Nat) (s : State) : Res State :=
  .next (s.when (decide (c < 64)) (fun s => s.reach .kiln 0 (fun s => s.set .KILN_CH_CLIP_COUNT 0 0 c)))

end Sys2Proof.Machine
end

