-- ==== Sys2Proof/Machine/Encoder.lean ====
section
/-! DEFINITION. Encoder inputs: samples, phase and position, the amplitude window, direction and speed, and the ENCODER section
(spec/13_encoders.md, R245-R249). Faults, which act on axes, are in Motion.lean. -/

namespace Sys2Proof.Machine

/-- Encoder input `x`. -/
def State.scale (s : State) (x : Nat) : Scale := look {} s.scales x
def State.setScale (s : State) (x : Nat) (e : Scale) : State := { s with scales := store {} s.scales x e }

/-- A field of encoder `x`'s block of the ENCODER section in force. -/
def State.encf (s : State) (x o n : Nat) : Nat := s.sf 0x0051 0 (0x10 + 32 * x + o) n

/-- Is encoder `x` used, and valid? -/
def State.encUsed (s : State) (x : Nat) : Bool := decide (x < 4) && bit (s.get .ENC_STATUS_USED) x
def State.encValid (s : State) (x : Nat) : Bool := bit (s.get .ENC_STATUS_VALID) x

/-- A signed register field. -/
def State.geti (s : State) (f : Fld) (i : Nat := 0) (k : Nat := 0) : Int := toSigned f.desc.width (s.get f i k)
def State.seti (s : State) (f : Fld) (v : Int) (i : Nat := 0) (k : Nat := 0) : State := s.set f (ofSigned f.desc.width v) i k

/-- A signed field that saturates. -/
def State.setSat (s : State) (f : Fld) (v : Int) (i : Nat := 0) (k : Nat := 0) : State :=
  s.seti f (clampInt (-(2 ^ (f.desc.width - 1) : Nat)) ((2 ^ (f.desc.width - 1) - 1 : Nat)) v) i k

/-- ENC_POSx. -/
def State.encPos (s : State) (x : Nat) : Int := s.geti .ENC_POS_COUNTS 0 x

/-- The corrected samples (R246): the offset taken off, cosine scaled by GAIN_COS / 4,096. -/
def State.corrected (s : State) (x sin cos : Nat) : Int × Int :=
  ((toSigned 12 sin) - toSigned 16 (s.encf x 0x18 2), ((toSigned 12 cos) - toSigned 16 (s.encf x 0x1A 2)) * s.encf x 0x1C 2 / 4096)

/-- Angles of 512, 256, … 1 counts, each with its cosine and sine to one common scale: 2^60, and √2 for the angle of 512. -/
def phaseAngles : List (Nat × Int × Int) :=
  [(512, 1, 1), (256, 1065160580698383124, 441203958630471860), (128, 1130768441178740757, 224923827593068887),
   (64, 1147369872436662991, 113006068906017470), (32, 1151532760162549490, 56571176913125535),
   (16, 1152574266204915294, 28294110113536504), (8, 1152834691737939372, 14148120384212745),
   (4, 1152899801185339687, 7074193361797233), (2, 1152916078738702569, 3537113327227485), (1, 1152920148139012899, 1768558744408523)]

/-- The whole counts in the angle of a vector of the first quadrant, and whether nothing is left over: each of the angles that the
vector still holds is turned off it. -/
def countsIn : List (Nat × Int × Int) → Int → Int → Nat × Bool
  | [], _, y => (0, y == 0)
  | (n, cos, sin) :: l, x, y =>
    if 0 ≤ y * cos - x * sin then
      let r := countsIn l (x * cos + y * sin) (y * cos - x * sin)
      (n + r.1, r.2)
    else countsIn l x y

/-- The phase atan2(p, c) of a corrected pair in 4,096 counts (R246); an angle between two counts goes to the one or the other
(log entry 51). -/
def phaseOf (p c : Int) : Nat :=
  let q : Nat × Int × Int :=
    if 0 < c ∧ 0 ≤ p then (0, c, p) else if 0 < p then (1024, p, -c) else if c < 0 then (2048, -c, -p) else (3072, -p, c)
  if p = 0 ∧ c = 0 then 0
  else
    let r := countsIn phaseAngles q.2.1 q.2.2
    (q.1 + r.1 + if r.2 then 0 else b2n (Config.phase p c)) % 4096

/-- M of R248, saturating at 16,383. -/
def amplitude (p c : Int) : Nat := min 16383 ((p * p + c * c).toNat * 4096 / (Config.halfVolt + 1) ^ 2)

/-- The signed phase change. -/
def phaseStep (old new : Nat) : Int := toSigned 12 (new + 4096 - old)

/-- Counts for a number of AX0 steps: × CPS_NUM / CPS_DEN (log entry 54). -/
def State.stepsToCounts (s : State) (x : Nat) (p : Int) : Int := p * s.encf x 8 4 / s.encf x 0xC 4

/-- The commanded position of an axis. -/
def State.axPos (s : State) (a : Nat) : Int := s.geti .MOT_POS_STEPS 0 a

/-- ENC_SLIP (R253): ENC_POS0 less the commanded position in counts, less the slip reference. -/
def State.slipNow (s : State) : Int := s.encPos 0 - s.stepsToCounts 0 (s.axPos 0) - (s.scale 0).slip0
def State.showSlip (s : State) : State := s.setSat .ENC_SLIP_COUNTS s.slipNow

/-- What follows the commanded position of AX0 (R250, R253): in dead reckoning ENC_POS0 and ENC_SPEED0, and ENC_SLIP always. -/
def State.drShow (s : State) : State :=
  let v : Int := s.get .MOT_SPEED_RATE 0 0
  let s := if s.is .ENC_STATUS_DR then
      (s.seti .ENC_POS_COUNTS (s.stepsToCounts 0 (s.axPos 0) + (s.scale 0).slip0) 0 0).seti .ENC_SPEED_RATE
        (s.stepsToCounts 0 (if bit (s.get .MOT_STATUS_DIR) 0 then v else -v)) 0 0
    else s
  s.showSlip

/-- The cause of the fault a sample makes (R246, R248): a phase jump, or VIOL_SAMPLES samples in a row outside the window; 0 for none. -/
def State.faultOf (s : State) (x m bad : Nat) (d : Int) : Nat :=
  if d < -1024 ∨ 1024 < d then 3
  else if bad < s.encf x 3 1 then 0
  else if m < s.encf x 4 2 then 1 else 2

/-- ENCODER_SAMPLE (R246, R248, R249): one sample pair of encoder `x`. A fault found is noted, and the position holds from it on. -/
def execEncoderSample (x sin cos : Nat) (s : State) : Res State :=
  .next (s.when (s.encUsed x) (fun s =>
    let e := s.scale x
    let p := s.corrected x sin cos
    let m := amplitude p.1 p.2
    let ph := phaseOf p.1 p.2
    let d := if e.seen then phaseStep e.phase ph else 0
    let out := decide (m < s.encf x 4 2 ∨ s.encf x 6 2 < m)
    let s := (s.set .ENC_AMP_NOW m 0 x).set .ENC_AMP_MIN (min m (s.get .ENC_AMP_MIN 0 x)) 0 x
    let bad := if out then e.bad + 1 else 0
    let good := if out || decide (d < -1024 ∨ 1024 < d) then 0 else e.good + 1
    let fault := if e.fault ≠ 0 ∨ e.faulted then e.fault else s.faultOf x m bad d
    let e := { e with seen := true, phase := ph, bad := bad, good := good, fault := fault }
    if s.encValid x && fault == 0 then
      let pos := s.encPos x + d
      let past := (pos :: e.past).take 2501
      let fwd := bit (s.get .ENC_STATUS_DIR) x
      let far := if fwd then max e.far pos else min e.far pos
      let s := (s.setScale x { e with past := past, far := far }).seti .ENC_POS_COUNTS pos 0 x
      let s := if x = 0 ∧ s.is .FIRE_STATUS_RUNNING then s
        else s.seti .ENC_SPEED_RATE ((pos - past.getLastD pos) * 10000) 0 x
      if x = 0 then s.showSlip else s
    else s.setScale x e))

/-- ENC_SPEED0 between the last two line events (R249), at an event applied at `t` (1/128 ticks). -/
def State.encAtLine (s : State) (t : Nat) : State :=
  let e := s.scale 0
  if !s.encUsed 0 then s
  else
    let s := if e.atTime ≠ 0 ∧ e.atTime < t ∧ s.encValid 0 then
        s.seti .ENC_SPEED_RATE ((s.encPos 0 - e.atLine) * 51200000000 / ((t - e.atTime : Nat) : Int)) 0 0
      else s
    s.setScale 0 { e with atLine := s.encPos 0, atTime := t }

/-- ENC_DIR_CHANGE (R249): the position has moved HYST counts against the direction. -/
def execEncDirChange (x : Nat) (s : State) : Res State :=
  let e := s.scale x
  let fwd := bit (s.get .ENC_STATUS_DIR) x
  let back := if fwd then e.far - s.encPos x else s.encPos x - e.far
  .next (s.when (s.encUsed x && s.encValid x && decide ((s.encf x 0x1E 2 : Int) ≤ back)) (fun s =>
    let s := (s.putB .ENC_STATUS_DIR x (!fwd)).setScale x { e with far := s.encPos x }
    let s := s.putB .ENC_EVENT_DIR_CHG x true
    let s := if bit (s.get .ENC_IRQ_DIR_EN) x then s.msix (s.get .ENC_IRQ_VECTOR) else s
    if x = 0 ∧ fwd ∧ bit (s.get .MOT_STATUS_MOVING) 0 ∧ bit (s.get .MOT_STATUS_DIR) 0 then s.bump .ENC_UNCMD_COUNT else s))

/-- ENC_UNCMD_CLR (R249). -/
def execEncUncmdClr (s : State) : Res State :=
  .next (s.reach .encoders 0 (fun s => s.set .ENC_UNCMD_COUNT 0))

/-- ENC_AMP_CLR (R248). -/
def execEncAmpClr (x : Nat) (s : State) : Res State :=
  .next (s.when (decide (x < 4)) (fun s => s.reach .encoders 0 (fun s => s.set .ENC_AMP_MIN 0x3FFF 0 x)))

/-- ENC_FAULT_CLR (R248). -/
def execEncFaultClr (x : Nat) (s : State) : Res State :=
  .next (s.when (decide (x < 4)) (fun s => s.reach .encoders 0 (fun s => s.clear [.ENC_FAULT_CAUSE, .ENC_FAULT_COUNT] 0 x)))

/-! ## The ENCODER section (R247) -/

/-- Zero size fields of an ENCODER payload. -/
def encoderZero (b : List Byte) : Bool :=
  (List.range 4).any (fun x =>
    let o := 0x10 + 32 * x
    bit (fieldAt b 0 1) x && (zeroField b (o + 3) 1 || zeroField b (o + 8) 4 || zeroField b (o + 0xC) 4 ||
      (x == 0 && (zeroField b (o + 0x10) 4 || zeroField b (o + 0x14) 4)) || zeroField b (o + 0x1E) 2))

/-- The rules of R247 on an ENCODER payload, with the AXES of the MOTION section. -/
def encoderOk (e : Eff) (b : List Byte) : Bool :=
  let used := fun x => bit (fieldAt b 0 1) x
  let f := fun x o n => fieldAt b (0x10 + 32 * x + o) n
  let s16 := fun v => toSigned 16 v
  b.length == 144 && decide (fieldAt b 0 1 < 16) && zeroAt b 1 15 &&
  (List.range 4).all (fun x =>
    if used x then
      decide (f x 0 1 ≤ 3 ∨ f x 0 1 = 0xFF) && (f x 0 1 != 0 || x == 0) && decide (f x 1 1 ≤ (if x = 0 then 0 else 2)) &&
      decide (f x 2 1 ≤ 1 ∧ 256 ≤ f x 4 2 ∧ f x 4 2 ≤ 4095 ∧ 4097 ≤ f x 6 2 ∧ f x 6 2 ≤ 16383) &&
      (if x = 0 then decide (f x 0x10 4 ≤ 16777215 ∧ f x 0x14 4 ≤ 16777215) else f x 0x10 4 == 0 && f x 0x14 4 == 0) &&
      decide (-512 ≤ s16 (f x 0x18 2) ∧ s16 (f x 0x18 2) ≤ 511 ∧ -512 ≤ s16 (f x 0x1A 2) ∧ s16 (f x 0x1A 2) ≤ 511) &&
      decide (3686 ≤ f x 0x1C 2 ∧ f x 0x1C 2 ≤ 4506 ∧ f x 0x1E 2 ≤ 4095) &&
      (f x 0 1 != 0xFF || (f x 8 4 == 1 && f x 0xC 4 == 1)) &&
      (List.range 4).all (fun y => y == x || !used y || f x 0 1 == 0xFF || f y 0 1 != f x 0 1)
    else zeroAt b (0x10 + 32 * x) 32) &&
  (!bit ((e.f 0x0050 0 0 1).getD 0) 0 || (used 0 && f 0 0 1 == 0))

/-- An ENCODER section in force: inputs start afresh, and are valid after 4,096 good samples (log entry 53). -/
def State.applyEncoder (s : State) (b : List Byte) : State :=
  ({ s with scales := [] } : State).set .ENC_STATUS_USED (fieldAt b 0 1) |>.set .ENC_STATUS_VALID 0

end Sys2Proof.Machine
end

