-- ==== Sys2Proof/Machine/Sense.lean ====
section
/-! DEFINITION. What firing hands to the Sight Glass: strobe windows, and events offered to the trigger sequencers
(spec/16_sight_glass.md, R295, R300). -/

namespace Sys2Proof.Machine

/-- Sense channel `c`, and sequencer `q`. -/
def State.sense (s : State) (c : Nat) : Sense := look {} s.senses c
def State.setSense (s : State) (c : Nat) (x : Sense) : State := { s with senses := store {} s.senses c x }
def State.ts (s : State) (q : Nat) : Ts := look {} s.tss q
def State.setTs (s : State) (q : Nat) (x : Ts) : State := { s with tss := store {} s.tss q x }

/-- Is this an event of a channel (R300)? -/
def SgEvent.ofChannel (e : SgEvent) : Bool := decide (e.cond ≤ 5) || e.cond == 7

/-- An event put behind those offered before it, but among those of its own tick by channel (R299). -/
def putEvent : List SgEvent → SgEvent → List SgEvent
  | [], e => [e]
  | x :: r, e =>
    if e.ofChannel && decide (e.arg < x.arg) && (x :: r).all (fun y => y.ofChannel && y.at_ / 128 == e.at_ / 128) then e :: x :: r
    else x :: putEvent r e

/-- An event offered while some sequencer is armed (R300). -/
def State.offer (s : State) (e : SgEvent) : State :=
  if s.tss.any (fun x => x.2.armed.isSome) then { s with sgEvents := putEvent s.sgEvents e } else s

/-- The channel block and mask of channel `c` in the SG section in force (R306). -/
def State.sgBlock (s : State) (c : Nat) : List Byte := sub (s.sect 0x0043 0) (0x40 + 32 * c) 32
def State.sgMask (s : State) (m : Nat) : List Byte :=
  if m < s.sf 0x0043 0 0 1 then sub (s.sect 0x0043 0) (0xA80 + 1040 * m) 1040 else []

/-- A line enters its schedule: its strobes are tested with the mask and channel block in force for it (R298). -/
def State.senseLine (s : State) (c : Nat) : State :=
  if s.hasSect 0x0043 0 ∧ s.powered 123 then
    let b := s.sgBlock c
    s.setSense c { s.sense c with block := b, mask := s.sgMask (fieldAt b 1 1) }
  else s

/-- FIRE_N of channel `c` goes active at `at_` (1/128 tick) for strobe `j`, `nf` nozzles firing, for `width` ticks: its window opens, and
the event is offered as condition 5. -/
def State.senseStrobe (s : State) (c at_ j nf width : Nat) : State :=
  if s.hasSect 0x0043 0 ∧ s.powered 123 then
    let x := s.sense c
    let w : Win := { e := at_ / 128, j := j, nf := nf, width := width, block := x.block, mask := x.mask }
    State.offer (s.setSense c { x with wins := (w :: x.wins).take 8 })
      { cond := 5, arg := c, at_ := at_ }
  else s

end Sys2Proof.Machine
end

