-- ==== Sys2Proof/Machine/Fire.lean ====
section
/-! DEFINITION. The trigger bus, line events, the taking and firing of lines, the strobe schedule and FIRE_COMMIT
(spec/10_firing.md, R199-R216, R448). Instants are counted in 1/128 CLK_FIRE tick. -/

namespace Sys2Proof.Machine

/-! ## Trigger-bus frames (R201) -/

/-- One shift of the CRC-8 register. -/
def crc8Bit (r : Nat) (b : Bool) : Nat :=
  let top := bit r 7 != b
  if top then (r * 2 % 256) ^^^ 0x07 else r * 2 % 256

/-- The CRC-8 of the 35 bits of TYPE and PAYLOAD. -/
def crc8 (v : Nat) : Nat := ((List.range 35).map (fun i => bit v (34 - i))).foldl crc8Bit 0

/-- Fields of a 48-bit frame. -/
def frameType (f : Nat) : Nat := bits f 44 3
def framePayload (f : Nat) : Nat := bits f 12 32

/-- Is the frame's CRC right? -/
def frameCrcOk (f : Nat) : Bool := crc8 (bits f 12 35) == bits f 4 8

/-- A frame of a type and payload. -/
def mkFrame (ty p : Nat) : Nat :=
  let v := ty * 2 ^ 32 + p % 2 ^ 32
  v * 2 ^ 12 + crc8 v * 16 + 15

/-- Is the frame one a device takes: START 0, a known TYPE, a right CRC (R201), outside a measurement (R338)? -/
def State.frameOk (s : State) (ty f : Nat) : Bool :=
  decide (f < 2 ^ 47) && frameType f == ty && frameCrcOk f && !s.is .BAR_STATUS_MEASURE

/-- BAD_TRIGGER_FRAME (R201). -/
def execBadTriggerFrame (f : Nat) (s : State) : Res State :=
  .next (s.when (!s.is .BAR_STATUS_MEASURE && !(frameCrcOk f && [1, 2, 3].contains (frameType f))) (fun s =>
    s.bump .FIRE_MISSED_COUNT))

/-- The device's line count adopted from the bus (R203): the upper half is kept, with a carry where the lower half wraps. -/
def adoptLine (expect n : Nat) : Nat :=
  let lo := expect % 2 ^ 32
  let hi := expect / 2 ^ 32
  if n < lo ∧ (n + 2 ^ 32 - lo) < 2 ^ 31 then (hi + 1) * 2 ^ 32 + n else hi * 2 ^ 32 + n

/-- Firing withheld from the adopted line on (R203, R346). -/
def State.withhold (s : State) : State :=
  (((s.on .FIRE_STATUS_WITHHELD).on .BAR_HOLD_RESYNC).bump .BAR_RESYNC_COUNT).noteCoverage

/-- A line-event frame of number `n` and reference instant `ref` checked against the count (R203); it is applied by
LINE_EVENT_APPLY. -/
def State.lineFrame (s : State) (n ref : Nat) : State :=
  let s := if s.is .ENC_STATUS_DR then s.bump .ENC_DR_LINES else s
  let q := s.seq
  let k := (n + 2 ^ 32 - q.expect % 2 ^ 32) % 2 ^ 32
  if k ≤ 3 then { s with seq := { q with expect := q.expect + k + 1, events := q.events ++ [(q.expect + k, ref, k)] } }
  else
    let y := adoptLine q.expect n
    State.withhold { s with seq := { q with expect := y + 1, events := q.events ++ [(y, ref, 0)], adopted := y } }

/-- LINE_EVENT_FRAME (R203). -/
def execLineEventFrame (f ref : Nat) (s : State) : Res State :=
  .next (s.when (s.frameOk 1 f) (fun s => s.lineFrame (framePayload f) ref))

/-- STOP_DISTANCE_FRAME (R201, R235): the frame belongs to the line-event frame that it follows, by the low 8 bits of its number. -/
def execStopDistanceFrame (f : Nat) (s : State) : Res State :=
  let y := s.seq.expect - 1
  .next (s.when (s.frameOk 3 f && decide (0 < s.seq.expect) && framePayload f / 2 ^ 24 == y % 256) (fun s =>
    let d := framePayload f % 2 ^ 24
    State.set { s with seq := { s.seq with dists := ((y, d) :: s.seq.dists.filter (fun e => e.1 != y)).take 64 } } .MOT_STOPDIST_LINES d))

/-- D_STOP of the line event `y` as received; without a valid frame for it, the largest of the last 64 line events (R235). -/
def State.distAt (s : State) (y : Nat) : Nat :=
  match s.seq.dists.find? (fun e => e.1 == y) with
  | some e => e.2
  | none => maxOf ((s.seq.dists.filter (fun e => decide (e.1 < y ∧ y < e.1 + 64))).map Prod.snd)

/-! ## Firing values (R207, R212-R215) -/

/-- Are the values in the ranges of R207, and is the strobe longer than DEAD (R213)? -/
def Setup.inRange (u : Setup) : Bool :=
  decide (40 ≤ u.strobe ∧ u.strobe ≤ 1600 ∧ 8 ≤ u.gap ∧ u.gap ≤ 200 ∧ 8 ≤ u.dead ∧ u.dead ≤ 200 ∧ 1 ≤ u.conc ∧ u.conc ≤ 8 ∧
    1 ≤ u.smax ∧ u.smax ≤ 3 ∧ u.dead < u.strobe)

/-- P_MIN for a maximum line rate (R213). -/
def pMin (rate : Nat) : Nat := 400000000 / rate

/-- No values: before any FIRE_SETUP. -/
def setup0 : Setup := { strobe := 0, gap := 0, dead := 0, conc := 0, smax := 0 }

/-- The firing values in force for line `y`. -/
def State.setupAt (s : State) (y : Nat) : Setup :=
  ((s.seq.setups.find? (fun e => decide (e.1 ≤ y))).map Prod.snd).getD setup0

/-- The channels with a HEAD_GEOM in force, and their MIN_PULSE. -/
def State.minPulses (s : State) : List (Nat × Nat) :=
  (List.range 64).filterMap (fun c => if s.hasSect 0x0030 c then some (c, s.sf 0x0030 c 8 2) else none)

/-- FIRE_MINPULSE kept up to date (R213). -/
def State.showMinPulse (s : State) : State :=
  let l := s.minPulses
  let m := max 40 (maxOf (l.map Prod.snd))
  (s.set .FIRE_MINPULSE_MIN m).set .FIRE_MINPULSE_CHANNEL (((l.find? (fun e => e.2 == m)).map Prod.fst).getD 0)

/-- The values in force from line `y` on, shown in FIRE_TIMING and FIRE_SCHED. -/
def State.setSetup (s : State) (y : Nat) (u : Setup) : State :=
  let s := { s with seq := { s.seq with setups := (y, u) :: (s.seq.setups.filter (fun (e : Nat × Setup) => decide (e.1 < y))).take 3 } }
  let s := ((s.set .FIRE_TIMING_STROBE u.strobe).set .FIRE_TIMING_GAP u.gap).set .FIRE_TIMING_DEAD u.dead
  (((s.set .FIRE_SCHED_CONC u.conc).set .FIRE_SCHED_SMAX u.smax).set .FIRE_SCHED_SLOTS (slotsOf u.conc)).set .FIRE_SCHED_T_LINE
    u.tLine

/-- The values of a FIRE_SETUP payload (R215). -/
def fireSetupOf (b : List Byte) : Setup :=
  { strobe := fieldAt b 4 2, gap := fieldAt b 6 2, dead := fieldAt b 8 2, conc := fieldAt b 0xA 1, smax := fieldAt b 0xB 1 }

/-- Zero size fields of a FIRE_SETUP payload. -/
def fireSetupZero (b : List Byte) : Bool :=
  zeroField b 0 4 || zeroField b 4 2 || zeroField b 6 2 || zeroField b 8 2 || zeroField b 0xA 1 || zeroField b 0xB 1

/-- The rules of R215 and R77 on a FIRE_SETUP payload, with the MIN_PULSE and FLIGHT_NS of every HEAD_GEOM. -/
def fireSetupOk (e : Eff) (b : List Byte) : Bool :=
  let u := fireSetupOf b
  let rate := fieldAt b 0 4
  b.length == 0x20 && decide (rate ≤ 200000 ∧ fieldAt b 0xC 4 ≤ 1000000 ∧ 128 ≤ fieldAt b 0x10 2 ∧ fieldAt b 0x10 2 ≤ 4095) &&
  zeroAt b 0x12 14 && u.inRange && decide (u.tLine ≤ pMin rate) &&
  (List.range 64).all (fun c => match e.f 0x0030 c 8 2, e.f 0x0030 c 0xC 4 with
    | some m, some fl => decide (m ≤ u.strobe ∧ fl ≤ fieldAt b 0xC 4)
    | _, _ => true)

/-- The FIRE_COMMIT whose apply line is `y`, in force already or not, gives way to a section in force from that line (R214). -/
def State.yieldCommit (s : State) (y : Nat) : State :=
  let s := match s.seq.commit with
    | some (h, _) => if s.get .FIRE_APPLY_LINE_LINE = y then
        (State.off { s with seq := { s.seq with commit := none } } .FIRE_STATUS_COMMIT_PENDING).finish h stNotApplied else s
    | none => s
  match s.seq.tested with
  | some (h, l, r) => if l = y then
      let s := State.finish { s with seq := { s.seq with tested := none } } h stNotApplied
      if r.isNone then s.off .FIRE_STATUS_COMMIT_PENDING else s
    else s
  | none => s

/-- A FIRE_SETUP section in force from line `y` (R215); a FIRE_COMMIT for the same line gives way to it (R214). -/
def State.applyFireSetup (s : State) (y : Nat) (b : List Byte) : State :=
  let rate := fieldAt b 0 4
  let s := s.setSetup y (fireSetupOf b)
  let s := ((s.set .FIRE_RATE_RATE_MAX rate).set .FIRE_PMIN_TICKS (pMin rate)).set .FIRE_TRIG_LAT (fieldAt b 0x10 2)
  ((s.set .FIRE_FLIGHT_FLIGHT_MAX (fieldAt b 0xC 4)).showMinPulse).yieldCommit y

/-- The firing values as a full image without FIRE_SETUP leaves them (R87): none. -/
def State.dropSetup (s : State) : State :=
  State.clear { s with seq := { s.seq with setups := [] } } [.FIRE_TIMING_STROBE, .FIRE_TIMING_GAP, .FIRE_TIMING_DEAD, .FIRE_SCHED_CONC,
    .FIRE_SCHED_SMAX, .FIRE_SCHED_SLOTS, .FIRE_SCHED_T_LINE, .FIRE_RATE_RATE_MAX, .FIRE_PMIN_TICKS, .FIRE_TRIG_LAT, .FIRE_FLIGHT_FLIGHT_MAX]

/-- Do the head ports run? Under the test clock every one stays in its reset state (R46). -/
def State.portsRun (s : State) : Bool := s.get .RST_STRAPS_CLK_MODE != 0

/-- A HEAD_GEOM section in force on channel `c`, shown in the head port's registers. -/
def State.applyGeom (s : State) (c : Nat) (b : List Byte) : State :=
  if !s.portsRun then s.showMinPulse
  else
  let s := ((s.set .FIRE_CH_GEOM_NOZZLES (fieldAt b 0 2) c).set .FIRE_CH_GEOM_TWIN (fieldAt b 7 1) c).set .FIRE_CH_GEOM_ROWS_M1
    (fieldAt b 6 1 - 1) c
  let s := ((s.set .FIRE_CH_GEOM_ROT (fieldAt b 5 1) c).set .FIRE_CH_GEOM_ORDER_MODE (fieldAt b 3 1) c).set .FIRE_CH_GEOM_STRIDE
    (fieldAt b 4 1) c
  (s.set .FIRE_CH_FLIGHT_FLIGHT_NS (fieldAt b 0xC 4) c).showMinPulse

/-- A channel enabled by the image (R216): TRIM starts at TRIM_INIT. -/
def State.enableChannel (s : State) (c : Nat) : State :=
  let t := s.sf 0x0030 c 0xA 2
  (((s.on .FIRE_CH_STATUS_ENABLED c).set .FIRE_CH_TRIM_CODE t c).set .FIRE_CH_TRIM_APPLIED t c).off .FIRE_CH_TRIM_BUSY c

/-- The tests of R213 on new values, against the values in force. -/
def State.commitOk (s : State) (u : Setup) : Bool :=
  u.inRange && decide (s.get .FIRE_MINPULSE_MIN ≤ u.strobe) &&
  (!s.hasSect 0x0032 || decide (u.tLine ≤ s.get .FIRE_PMIN_TICKS))

/-- FIRE_COMMIT (R212-R214). -/
def execFireCommit (d : Desc) (s : State) : Res State :=
  let u : Setup := { strobe := d.p 0x10 2, gap := d.p 0x12 2, dead := d.p 0x14 2, conc := d.p 0x16 1, smax := d.p 0x17 1 }
  let busy := s.seq.commit.isSome || s.is .FIRE_STATUS_COMMIT_PENDING || !s.hasSect 0x0032 ||
    s.sets.any (fun x => x.has 0x0032 0 && !x.applied.contains (sectKey 0x0032 0))
  .next (s.submit d
    { opcode := 0x0301, long := false, used := [(0x10, 2), (0x12, 2), (0x14, 2), (0x16, 1), (0x17, 1), (0x18, 8)],
      sizes := [u.strobe, u.gap, u.dead, u.conc, u.smax], range := s.commitOk u, state := if busy then stBadState else 0 }
    (fun h s =>
      let y := max (d.p 0x18 8) (s.seq.next + 2)
      let s := State.on { s with seq := { s.seq with commit := some (h, u) } } .FIRE_STATUS_COMMIT_PENDING
      (s.set .FIRE_APPLY_LINE_LINE y).report h stAccepted false (y % 2 ^ 32) 0))

/-- The test of R214 when the apply line is first taken: the values come into force, or nothing changes. -/
def State.testCommit (s : State) (y : Nat) : State :=
  match s.seq.commit with
  | some (h, u) =>
    let l := s.get .FIRE_APPLY_LINE_LINE
    if l ≤ y then
      if s.commitOk u then
        (State.off { s with seq := { s.seq with commit := none, tested := some (h, l, some u.tLine) } } .FIRE_STATUS_COMMIT_PENDING).setSetup l u
      else { s with seq := { s.seq with commit := none, tested := some (h, l, none) } }
    else s
  | none => s

/-- The final completion when the apply line's event is applied (R214). -/
def State.endCommit (s : State) (y : Nat) : State :=
  match s.seq.tested with
  | some (h, l, r) =>
    if l ≤ y then
      let s : State := { s with seq := { s.seq with tested := none } }
      match r with
      | some t => s.finish h stDone t 0
      | none => (s.off .FIRE_STATUS_COMMIT_PENDING).finish h stBadRange
    else s
  | none => s

/-! ## Taking a line (R206, R210, R448) -/

/-- The line after the last page of the latest job that ended at or below line `y`: the first line of a job that holds `y` (R128, R206). -/
def State.jobFirst (s : State) (y : Nat) : Nat :=
  maxOf ((s.pages.filter (fun p => p.last && decide (p.first + p.lines ≤ y))).map (fun p => p.first + p.lines))

/-- Line `y` as channel `c` takes it, and whether it comes from the grant buffer; blank where no page holds the line (R206). A channel that
is out of print has only the lines already in its buffer (R25). -/
def State.grantLine (s : State) (c y : Nat) : Option (Line × Bool) :=
  match ((s.chan c).grant ++ (s.chan c).fly).find? (fun l => l.no == y) with
  | some l => some (l, true)
  | none =>
    if s.outOfPrint c || s.pages.any (fun p => decide (p.state ≤ 2 ∧ p.first ≤ y ∧ y < p.first + p.lines)) then none
    else some ({ no := y, codes := List.replicate (s.sf 0x0030 c 0 2) 0 }, false)

/-- The codes of line `y` nozzle by nozzle from the row store, each row's from its own line; lines below `first`, the first of the job, give 0
(R206). -/
def assemble (g : List Byte) (rows : List RowLine) (first y n : Nat) : List Nat :=
  (List.range n).map (fun i =>
    let d := geomDelay g (geomRow g i)
    match rows.find? (fun r => decide (d ≤ y ∧ first ≤ r.no) && r.no == y - d) with
    | some r => r.codes.getD i 0
    | none => 0)

/-- A line put into the tail in its place: the oldest unreleased reference makes room when it is full, and is counted with the frames that
miss their references (R24, log entry 117). -/
def State.tailPut (s : State) (c : Nat) (l : TailLine) : State :=
  let t := (s.chan c).tail.filter (fun x => x.no != l.no)
  let full := decide (s.tailSize c ≤ t.length)
  let t := if full then t.drop 1 else t
  let s := s.setChan c { s.chan c with tail := t.filter (fun x => decide (x.no < l.no)) ++ l :: t.filter (fun x => decide (l.no < x.no)) }
  if full then s.bump .GRAV_CH_COUNT_TAIL_MISS 1 0 c else s

/-- A nozzle's lowered code written back into the tail line it came from (R222). -/
def tailFix (g : List Byte) (y : Nat) (old new : List Nat) (t : List TailLine) : List TailLine :=
  t.map (fun l => { l with codes := (List.range l.codes.length).map (fun i =>
    if l.no + geomDelay g (geomRow g i) = y ∧ new.getD i 0 < old.getD i 0 then new.getD i 0 else l.codes.getD i 0) })

/-- Line `y` in the reference tail as it fires or passes (R24): its codes as they left the row store, with what the Kiln lowered of the lines
it fires from written back (R222). -/
def State.enterTail (s : State) (c y : Nat) (p : Option Prep) : State :=
  let codes := match (s.chan c).rows.find? (fun r => r.no == y) with
    | some r => r.codes
    | none => ((s.grantLine c y).map (fun l => l.1.codes)).getD []
  let s := s.tailPut c { no := y, codes := codes, unfired := false }
  match p with
  | some p => s.setChan c { s.chan c with tail := tailFix p.geom y p.line p.codes (s.chan c).tail }
  | none => s

/-- A line leaves the grant buffer (R190, R197, R206): reduced, bridged, placed in the row store of 64 lines; the codes reduced and the
strobes lost. -/
def State.enterRow (s : State) (c y : Nat) (codes : List Nat) : State × Nat × Nat :=
  let u := s.setupAt y
  let s := s.bridgeBoundary c y
  let cut := reduceLine u.smax codes
  let br := bridgeLine (s.sf 0x0030 c 7 1 == 1) u.smax (s.chan c).bridge y cut.1
  let rows := ((s.chan c).rows.filter (fun r => r.no != y)) ++ [{ no := y, codes := br.1 }]
  (s.setChan c { s.chan c with rows := rows.drop (rows.length - 64) }, cut.2, br.2)

/-- Line `y` prepared for channel `c` (R210): out of the grant buffer into the row store, assembled, Kiln-checked, its frame loading from
`from_` on. What it reduces, loses and clips is counted once, at its F, so that a line prepared again at rest counts as last prepared, and a
line whose F falls in PWR_SETTLE not as clipped (R226, R448, log entry 128). -/
def State.prepare (s : State) (c y : Nat) (l : Line × Bool) (rest : Bool) (from_ : Nat) : State :=
  let g := s.sect 0x0030 c
  let u := s.setupAt y
  let r := s.enterRow c y l.1.codes
  let s := r.1
  let line := assemble g (s.chan c).rows (s.jobFirst y) y (fieldAt g 0 2)
  let p := s.kilnPrep c { no := y, line := line, codes := line, setup := u, geom := g, stock := l.2, rest := rest, from_ := from_,
                          bad := l.1.bad, cut := r.2.1, lost := r.2.2, clip := none }
  (s.setChan c { s.chan c with preps := ((s.chan c).preps.filter (fun q => q.no != y)) ++ [p], taken := y + 1 }).sendFrame c p

/-- What the preparation of a line counts (R190, R197, R222). -/
def State.countPrep (s : State) (c : Nat) (p : Prep) : State :=
  let s := (s.bump .SCR_CLIP_COUNT p.cut c).bump .SCR_BRIDGE_LOST_COUNT p.lost c
  match p.clip with
  | some (n, slot, cause) => if (s.chan c).settling then s else s.countClip c p.no n slot cause
  | none => s

/-- The line channel `c` fires next: the oldest line event due there, else the next line event. -/
def State.nextLine (s : State) (c : Nat) : Nat :=
  match (s.chan c).due with
  | (y, _) :: _ => y
  | [] => s.seq.next

/-- May channel `c` take lines at all: enabled and powered, with FIRE_SETUP in force, the firing clock running (R58)? -/
def State.takes (s : State) (c : Nat) : Bool :=
  decide (c < 64) && s.clocked && s.is .FIRE_CH_STATUS_ENABLED c && s.powered c && s.hasSect 0x0032

/-- LINE_TAKE (R210): at F of the line before it, which is `at_`, the next line is taken. -/
def execLineTake (c at_ : Nat) (s : State) : Res State :=
  let y := s.nextLine c
  .next (match s.grantLine c y with
  | none => s
  | some l => s.when (s.takes c && !(s.chan c).preps.any (fun p => p.no == y) && decide ((s.chan c).taken ≤ y) && !s.fireHeld y &&
      s.is .FIRE_STATUS_RUNNING && at_ == (s.chan c).lastF) (fun s => (s.testCommit y).prepare c y l false at_))

/-- F of channel `c` for an event applied at `t` (R208): FLIGHT_MAX less its FLIGHT_NS, to the nearest 1/128 tick. -/
def State.fAt (s : State) (c t : Nat) : Nat :=
  t + (2 * (s.get .FIRE_FLIGHT_FLIGHT_MAX - s.get .FIRE_CH_FLIGHT_FLIGHT_NS c) * 256 + 5) / 10

/-- The instant at which a frame's event is applied: its reference instant + TRIG_LAT − COMP/128 ticks (R202). -/
def State.eventAt (s : State) (ref : Nat) : Nat := ref + 128 * s.get .FIRE_TRIG_LAT - s.seq.comp

/-- The first line of a run on channel `c`, and its F once its frame has come (R448). -/
def State.firstLine (s : State) (c : Nat) : Nat × Option Nat :=
  match (s.chan c).due, s.seq.events with
  | (y, f) :: _, _ => (y, some f)
  | [], (y, ref, _) :: _ => (y, some (s.fAt c (s.eventAt ref)))
  | [], [] => (s.seq.next, none)

/-- Has a bridge change come for channel `c` that line `y`'s boundary would take (R198)? -/
def State.bridgeDue (s : State) (c y : Nat) : Bool :=
  let ch := s.chan c
  ch.apply || ch.gravSet != 0 || ch.gravClr != 0 || (ch.gravLate.2 != 0 && decide (ch.gravLate.1 ≤ y)) ||
    ch.toSwitch.any (fun e => decide (e.1 ≤ y))

/-- FIRST_LINE_PREPARE (R448): while AX0 stands, the next line to fire is prepared as soon as it is in the grant buffer, or as the blank line
of a gap, and again when a bridge change comes at least 4 µs before its F. `at_` is the instant, within the present tick. -/
def execFirstLinePrepare (c at_ : Nat) (s : State) : Res State :=
  let w := s.firstLine c
  let y := w.1
  let again := (match (s.chan c).preps.find? (fun p => p.no == y) with
    | none => s.axStopped
    | some p => (p.rest || s.axStopped) && !bit (s.get .MOT_STATUS_MOVING) 0 && s.bridgeDue c y) &&
    w.2.all (fun f => decide (at_ + 128 * 1600 ≤ f) || !(s.chan c).preps.any (fun p => p.no == y))
  .next (match s.grantLine c y with
  | none => s
  | some l => s.when (s.takes c && again && !s.fireHeld y && at_ / 128 == s.now) (fun s => (s.testCommit y).prepare c y l true at_))

/-! ## Line events applied (R202, R203) -/

/-- TRIM one line boundary nearer its code, by 64 at most (R216). -/
def State.stepTrim (s : State) (c : Nat) : State :=
  let a := s.get .FIRE_CH_TRIM_APPLIED c
  let t := s.get .FIRE_CH_TRIM_CODE c
  let n := if a < t then min t (a + 64) else max t (a - 64)
  if a = t ∨ !s.portsRun ∨ s.fenced 1 c then s else (s.set .FIRE_CH_TRIM_APPLIED n c).set .FIRE_CH_TRIM_BUSY (b2n (n != t)) c

/-- A line in the tail marked unfired (R203, R273). -/
def State.markUnfired (s : State) (c y : Nat) : State :=
  s.setChan c { s.chan c with tail := (s.chan c).tail.map (fun (l : TailLine) => if l.no = y then { l with unfired := true } else l) }

/-- A line missed (R203): taken from the grant buffer unfired, which is where it enters the row store, and marked unfired in the tail. -/
def State.missLine (s : State) (y : Nat) : State :=
  (s.bump .FIRE_MISSED_COUNT).each 64 (fun s c =>
    if s.is .FIRE_CH_STATUS_ENABLED c then
      let p := (s.chan c).preps.find? (fun p => p.no == y)
      let s := match p, s.grantLine c y with
        | some p, _ => s.countPrep c p
        | none, some (l, true) =>
          let r := s.enterRow c y l.codes
          (r.1.bump .SCR_CLIP_COUNT r.2.1 c).bump .SCR_BRIDGE_LOST_COUNT r.2.2 c
        | none, _ => s
      let s := ((s.enterTail c y p).markUnfired c y).bump .FIRE_CH_DROPPED_COUNT 1 c
      let ch := s.chan c
      s.setChan c { ch with preps := ch.preps.filter (fun p => p.no != y), grant := ch.grant.filter (fun l => l.no != y),
                            fly := ch.fly.filter (fun l => l.no != y), taken := max ch.taken (y + 1), reached := max ch.reached (y + 1) }
    else s)

/-- The first line of the next page while firing is withheld: of the first page known that lies above the adopted line and has not been
reached (R203). -/
def State.resyncAt (s : State) (y : Nat) : Option Nat :=
  ((s.pages.map Page.first).filter (fun f => decide (s.seq.adopted < f ∧ y ≤ f))).min?

/-- The grant lines at or below `y` used (R135): that of line `y` waits for its F. While firing is withheld, those below the first line of the
next page known are discarded, or all of them if none is known (R203). -/
def State.useGrant (s : State) (y : Nat) : State :=
  let held := s.is .FIRE_STATUS_WITHHELD
  let from_ := if held then s.resyncAt (y + 1) else some (y + 1)
  s.each 64 (fun s c =>
    let ch := s.chan c
    s.setChan c { ch with
      grant := ch.grant.filter (fun l => match from_ with | some f => decide (f ≤ l.no) | none => false),
      fly := if held then ch.fly else ch.fly ++ ch.grant.filter (fun l => l.no == y) })

/-- The line rate of two events applied at these instants, in lines/s. -/
def rateOf (t0 t1 : Nat) : Nat := if t0 < t1 then 51200000000 / (t1 - t0) else 0

/-- The exposure trigger of camera port `x` planned on line event `y` applied at `t` (R258), for covered line y − DELAY: its tick is
rounded to the nearest; `p` is the interval between the two latest line events. Instants are in 1/128 tick. -/
def State.planTrigger (s : State) (y t p x : Nat) : State :=
  let f := s.sf 0x0040 x
  let c := y - f 0xC 4
  let u := t * 1280 + s.get .FIRE_FLIGHT_FLIGHT_MAX * 65536 + f 0x10 1 * p * 5 - f 0x12 2 * 163840
  if s.hasSect 0x0040 x && decide (f 0xC 4 ≤ y) && c % max 1 (f 2 1) == 0 && !s.is .FIRE_STATUS_WITHHELD && !s.fenced 7 x &&
      s.powered (106 + x) then
    let m := look {} s.cams x
    { s with cams := store {} s.cams x { m with planned := m.planned ++ [(c, (u + 81920) / 163840)] } }
  else s

/-- Would FIRE_TRIG accept the COMP (R202)? -/
def State.compOk (s : State) (v : Nat) : Bool := decide (v ≤ (s.get .FIRE_TRIG_LAT - 100) * 128 ∧ v < 0xFFFF)

/-- A write to FIRE_TRIG.COMP (R202). -/
def State.writeComp (s : State) (v : Nat) : State :=
  if (s.get .FIRE_TRIG_LAT - 100) * 128 < v then s.on .FIRE_TRIG_ERR else s.set .FIRE_TRIG_COMP v

/-- The device's own causes become `m`, RESYNC apart, which firing sets and clears. A device newly held has its heads unpowered; one
newly a replacement has every channel unbound; a channel that nothing stops any more comes back under R348. -/
def State.setHold (s : State) (m : Nat) : State :=
  let old := s.holdMask
  let before := (List.range 64).filter s.barred
  let s := (List.range 8).foldl (fun s i => if i = hRESYNC then s else s.set (holdFlds.getD i .BAR_HOLD_IMAGE) (b2n (bit m i))) s
  let held := fun m => bit m hIMAGE || bit m hFW || bit m hEXCESS
  let s := if held m && !held old then (s.hpwrReq 0 0).hpwrReq 1 0 else s
  let s := if bit m hREPLACED && !bit old hREPLACED then
      State.each { s.set .BAR_UNBOUND_CH (2 ^ 64 - 1) with learning := 0 } 64 (fun s c => s.off .GRAV_CH_STATUS_BOUND 0 c)
    else s
  (before.foldl (fun s c => if s.barred c then s else s.rejoinDevice c) s).noteCoverage

/-- One cause of the device itself set or cleared. -/
def State.holdBit (s : State) (i : Nat) (on : Bool) : State := s.setHold (putBit s.holdMask i on)

/-- An owner notice takes effect on the line events from `y` on: COMP becomes TRIO_COMPt of the new owner, 0 on the owner (R358, R359). A device without a valid one
carries the COMP hold (R361). -/
def State.takeNotice (s : State) (y : Nat) : State :=
  match s.trio.notice with
  | none => s
  | some (t, yh) =>
    if y < yh then s
    else
      let s := { s with trio := { s.trio with notice := none } }
      if s.is .FIRE_STATUS_OWNER then (s.writeComp 0).holdBit hCOMP false
      else
        let v := s.get .TRIO_COMP_COMP 0 t
        let ok := s.is .TRIO_COMP_VALID 0 t && s.compOk v
        (if ok then s.writeComp v else s).holdBit hCOMP (!ok)

/-- Releases whose channels have all come back at line `y` complete (R348). -/
def State.endReleases (s : State) (y : Nat) : State :=
  s.rels.foldl (fun s r =>
    if (List.range 64).any (fun c => bit r.2 c && s.is .FIRE_CH_STATUS_ENABLED c && s.outOfPrint c) then s
    else if r.1 = 0 then State.out { s with rels := s.rels.filter (fun q => q != r) } (.wort "released" [y])
    else State.finish { s with rels := s.rels.filter (fun q => q.1 != r.1) } r.1 stDone (y % 2 ^ 32) 0) s

/-- The digest of each page whose first line is `y`, sent before that line fires by a manager to every device under it (R346): the line, the
PAGE_ID and the composite expected there. -/
def State.sendDigests (s : State) (y : Nat) : State :=
  if !s.manages || s.fwAway then s
  else
    (s.pages.filter (fun p => decide (p.state ≤ 1 ∧ p.first = y))).foldl (fun s p =>
      (s.devs.filter (fun x => decide (x.index < 512) && x.index != s.myIndex)).foldl (fun s x =>
        s.out (.wort "pageDigest" [x.index, y, p.id, s.expectAt x y])) s) s

/-- LINE_EVENT_APPLY (R202, R203): the oldest frame's event is applied at its reference instant + TRIG_LAT − COMP/128 ticks. A FIRE_COMMIT
whose apply line no channel took is tested now (R214). -/
def execLineEventApply (s : State) : Res State :=
  .next (if !s.clocked then s else match s.seq.events with
  | [] => s
  | (y, ref, missed) :: rest =>
    let t := s.eventAt ref
    let s : State := { s with seq := { s.seq with events := rest } }
    let s := (List.range missed).foldl (fun (s : State) k => s.missLine (y - missed + k)) s
    let s := s.useGrant y
    let s := (s.set .FIRE_LINE_LINE y).set .FIRE_STATUS_RUNNING (b2n !(s.line.hard && rest.isEmpty))
    let s := if s.line.hard then s.bump .MOT_HARD_LINES_COUNT else s
    let s := s.encAtLine t
    let last := if s.seq.latest = 0 then 0 else t - s.seq.latest
    let rate := if s.seq.latest = 0 then s.seq.rate else rateOf s.seq.latest t
    let s := s.takeNotice (y + 1)
    let d := if s.is .MOT_STATUS_OWN then s.get .MOT_STOPDIST_LINES else s.distAt y
    let s := { s with seq := { s.seq with next := y + 1, rate := rate, latest := t, comp := s.get .FIRE_TRIG_COMP,
                                          applied := ((y, t) :: s.seq.applied).take 64 },
                         line := { s.line with fired := s.line.fired || s.pages.any (fun p => decide (p.state ≤ 1 ∧ p.first ≤ y ∧ y < p.first + p.lines)) } }
    let s := s.set .MOT_STOPDIST_LINES d
    let s := (s.testCommit y).endCommit y
    let s := s.takeCalib 0 64
    let s := s.each 64 (fun s c =>
      let s := s.stepTrim c
      let s := s.joinAt c y
      if s.is .FIRE_CH_STATUS_ENABLED c then s.setChan c { s.chan c with due := (s.chan c).due ++ [(y, s.fAt c t)] } else s)
    let s := s.cutHeads
    let s := (s.endReleases y).noteCoverage.sendDigests y
    let s := s.each 64 State.levelTest
    let s := s.each 8 (fun s x => s.planTrigger y t last x)
    let s := s.offer { cond := 6, arg := y % 2 ^ 32, at_ := t }
    if y % 4096 = 0 then
      State.out { s with lineStamps := ((y, s.clock.stamp) :: s.lineStamps).take 4 } (.wort "timeStamp" [y, s.clock.stamp])
    else s)

/-- WITHHELD_RESYNC (R203, R346): the adopted event has been applied, and the next line to fire is the first line of the next page. -/
def execWithheldResync (s : State) : Res State :=
  .next (s.when (s.is .FIRE_STATUS_WITHHELD && decide (s.seq.adopted < s.seq.next) && s.resyncAt s.seq.next == some s.seq.next) (fun s =>
    (((s.off .FIRE_STATUS_WITHHELD).off .BAR_HOLD_RESYNC).noteCoverage).out (.wort "resynchronised" [s.seq.next])))

/-! ## Firing (R208, R209, R211) -/

/-- The start of strobe `j` (from 1) of slot `sl`, in ticks from F (R208). -/
def Setup.strobeAt (u : Setup) (sl j : Nat) : Nat := sl * (u.smax * (u.strobe + u.gap) + u.dead) + (j - 1) * (u.strobe + u.gap)

/-- The nozzles that fire on strobe `j` of slot `sl` (R208). -/
def Firing.nozzles (f : Firing) (sl j : Nat) : List Nat :=
  (List.range f.codes.length).filter (fun n => decide (j ≤ f.codes.getD n 0) && geomSlot f.geom f.setup.conc f.no n == sl)

/-- Is a strobe of the line still running at tick `now`: a FIRE_N pulse that has not yet ended (R208)? -/
def Firing.inStrobe (f : Firing) (now : Nat) : Bool := decide (128 * now < f.lit)

/-- The command windows of a line that fires, in 1/640 tick (R209). -/
def Firing.windows (f : Firing) : List (Nat × Nat) :=
  (List.range (slotsOf f.setup.conc)).flatMap (fun sl => (List.range f.setup.smax).filterMap (fun j =>
    if (f.nozzles sl (j + 1)).isEmpty then none
    else
      let a := 5 * f.f + 640 * f.setup.strobeAt sl (j + 1)
      some (a - 16 * 640, a)))

/-- When `need` units of lane time from `t` on have passed outside the windows. -/
def loadEnd : List (Nat × Nat) → Nat → Nat → Nat
  | [], t, need => t + need
  | (a, b) :: l, t, need =>
    if t + need ≤ a then t + need
    else if t < a then loadEnd l b (need - (a - t)) else loadEnd l (max t b) need

/-- Lane time of a frame, in 1/640 tick: a header of 32 bits and two bits for each of half the nozzles, a nanosecond a bit. -/
def frameTime (nozzles : Nat) : Nat := (32 + 2 * ((nozzles + 1) / 2)) * 256

/-- Is the frame of a prepared line loaded at the instant `t` (R210, R211), past the windows in which the lanes are reserved? A line after a
dropped one is loaded from the end of the last fired line's command windows. -/
def frameLoaded (last : Option Firing) (p : Prep) (t : Nat) : Bool :=
  let w := match last with | some x => x.windows | none => []
  let skipped := match last with | some x => decide (x.no + 1 < p.no) | none => false
  let from_ := if skipped then max (5 * p.from_) (maxOf (w.map Prod.snd)) else 5 * p.from_
  decide (loadEnd w from_ (frameTime (fieldAt p.geom 0 2)) ≤ 5 * t)

/-- FIRE_CH_STATUS.LOADED: the frame of the channel's next line is complete. -/
def State.frameReady (s : State) (c : Nat) : Bool :=
  (s.chan c).preps.any (fun p => p.no == s.nextLine c && frameLoaded (s.chan c).firing p (128 * s.now))

/-- A line dropped on channel `c` (R211): counted once in FIRE_DROPPED, however many channels drop it. -/
def State.dropLine (s : State) (c y : Nat) : State :=
  let s := if s.seq.drops.contains y then s
    else State.bump { s with seq := { s.seq with drops := (y :: s.seq.drops).take 512 } } .FIRE_DROPPED_COUNT
  ((s.bump .FIRE_CH_DROPPED_COUNT 1 c).markUnfired c y).telEvent 0x0002 c

/-- A channel whose GRAV block is not enabled releases each line from the tail as it fires (R275). -/
def State.releaseFired (s : State) (c y : Nat) : State :=
  if s.is .GRAV_CH_STATUS_EN 0 c then s
  else s.setChan c { s.chan c with tail := (s.chan c).tail.filter (fun l => decide (y < l.no)) }

/-- A line event passes unfired on channel `c`: counted where the channel is out of print (R25). -/
def State.passUnfired (s : State) (c y : Nat) : State :=
  let s := s.markUnfired c y
  if s.outOfPrint c then s.setChan c { s.chan c with unfired := (s.chan c).unfired + 1 } else s

/-- Line `y` enters its schedule on channel `c` at `f`. -/
def State.fireLine (s : State) (c f : Nat) (p : Prep) : State :=
  let s := s.setChan c { s.chan c with firing := some { no := p.no, codes := p.codes, setup := p.setup, geom := p.geom, f := f, begun := 0 } }
  let h := look {} s.heads c
  let s := { s with heads := store {} s.heads c { h with lines := h.lines + 1 } }
  s.set .FIRE_CH_LINES_COUNT (s.get .FIRE_CH_LINES_COUNT c + 1) c

/-- Does the schedule of the last fired line still run at `f`, or is the frame not loaded up to the first command's window (R209-R211)? -/
def tooSoon (last : Option Firing) (p : Prep) (f : Nat) : Bool :=
  (match last with | some x => decide (f < x.f + 128 * x.setup.tLine) | none => false) || !frameLoaded last p (f - 16 * 128)

/-- LINE_FIRE (R208, R211): F of the channel's oldest line event due has come. Lines taken from the grant buffer while the Kiln is unsealed are
counted (R225); a channel that is out of print fires the lines it had taken from its buffer (R25). -/
def execLineFire (c : Nat) (s : State) : Res State :=
  let ch := s.chan c
  .next (if !s.clocked then s else match ch.due with
  | [] => s
  | (y, f) :: rest =>
    let p := ch.preps.find? (fun p => p.no == y)
    let s := match p with | some p => s.countPrep c p | none => s
    let s := s.enterTail c y p
    let s := s.setChan c { s.chan c with due := rest, reached := max ch.reached (y + 1), lastF := f, preps := ch.preps.filter (fun p => decide (y < p.no)),
                                         fly := ch.fly.filter (fun l => decide (y < l.no)) }
    State.releaseFired (match p with
    | none => if s.outOfPrint c || s.is .FIRE_STATUS_WITHHELD then s.passUnfired c y else s.dropLine c y
    | some p =>
      if s.kiln.isNone then (if p.stock then s.bump .KILN_UNSEALED_COUNT else s).passUnfired c y
      else if p.bad || !s.fireOk c then s.passUnfired c y
      else if tooSoon ch.firing p f then s.dropLine c y
      else s.fireLine c f p) c y)

/-- The groups of nozzles, one bit each: the mask of a strobe command (R209). -/
def groupMask (g : List Byte) (l : List Nat) : Nat := l.foldl (fun m n => setBit' m (geomGroup g n)) 0
where setBit' (m i : Nat) : Nat := if bit m i then m else m + 2 ^ i

/-- The 20-bit word of a strobe command on lane `lane` (R209). -/
def strobeWord (lane : Nat) (first : Bool) (j mask : Nat) : Nat := (if first then 3 else 2) * 2 ^ 18 + j * 2 ^ 16 + bits mask (16 * lane) 16

/-- A strobe counted for every nozzle that takes part (R388): counts stop at 2^48 − 1; LIFE_WARN once per head, when the highest first
reaches its threshold (R389). -/
def State.countShots (s : State) (c : Nat) (l : List Nat) : State :=
  let s := { s with shots := l.foldl (fun t n => store 0 t (2560 * c + n) (min (look 0 t (2560 * c + n) + 1) (2 ^ 48 - 1))) s.shots }
  let h := look {} s.heads c
  if s.is .TEL_LIFE_WARN_EN && !h.warned && l.any (fun n => decide (s.get .TEL_LIFE_WARN_STROBES ≤ look 0 s.shots (2560 * c + n))) then
    State.telEvent { s with heads := store {} s.heads c { h with warned := true } } 0x000C c
  else s

/-- STROBE_START (R208): the next strobe of the line in its schedule starts, or is omitted with no command and no pulse; the first command of
a line carries 0b11, on both lanes (R209). Once FIRE_N is held inactive no further strobe starts (R227). -/
def execStrobeStart (c : Nat) (s : State) : Res State :=
  let ch := s.chan c
  .next (match ch.firing with
  | none => s
  | some f =>
    s.when (s.clocked && decide (f.begun < slotsOf f.setup.conc * f.setup.smax)) (fun s =>
      let sl := f.begun / f.setup.smax
      let j := f.begun % f.setup.smax + 1
      let l := f.nozzles sl j
      let at_ := f.f + 128 * f.setup.strobeAt sl j
      let fires := !l.isEmpty && s.fireOk c
      let s := s.setChan c { ch with firing := some { f with begun := f.begun + 1, sent := f.sent || fires,
                                                             lit := if fires then at_ + 128 * f.setup.strobe else f.lit } }
      let s := if f.begun = 0 then s.senseLine c else s
      if !fires then s
      else
        let m := groupMask f.geom l
        let s := s.out (.bus "strobeCommand" [c, strobeWord 0 (!f.sent) j m, strobeWord 1 (!f.sent) j m])
        ((s.out (.pin "FIRE_N" c f.setup.strobe)).countShots c l).senseStrobe c at_ j l.length f.setup.strobe))

/-! ## Register writes and counts -/

/-- FIRE_TRIG_COMP_WRITE (R202): it takes effect at the next line boundary, in LINE_EVENT_APPLY. -/
def execFireTrigCompWrite (v : Nat) (s : State) : Res State :=
  .next (s.reach .sequencer 0 (fun s => s.writeComp (v % 65536)))

/-- A write to FIRE_CH_TRIM.CODE (R216). -/
def State.writeTrim (s : State) (c v : Nat) : State :=
  if !s.portsRun then s
  else match s.kiln with
  | some k =>
    if kilnUses k.payload c && decide (kilnCeil k.payload c < v) then s.on .FIRE_CH_TRIM_REFUSED c
    else (s.set .FIRE_CH_TRIM_CODE v c).set .FIRE_CH_TRIM_BUSY (b2n (s.get .FIRE_CH_TRIM_APPLIED c != v)) c
  | none => (s.set .FIRE_CH_TRIM_CODE v c).set .FIRE_CH_TRIM_BUSY (b2n (s.get .FIRE_CH_TRIM_APPLIED c != v)) c

/-- FIRE_CH_TRIM_WRITE (R216). -/
def execFireChTrimWrite (c v : Nat) (s : State) : Res State :=
  .next (s.when (decide (c < 64)) (fun s => s.reach .headPort c (fun s => s.writeTrim c (v % 4096))))

/-- FIRE_DROPPED_CLR (R211). -/
def execFireDroppedClr (s : State) : Res State :=
  .next (s.reach .sequencer 0 (fun s => s.set .FIRE_DROPPED_COUNT 0))

/-- FIRE_MISSED_CLR (R203). -/
def execFireMissedClr (s : State) : Res State :=
  .next (s.reach .sequencer 0 (fun s => s.set .FIRE_MISSED_COUNT 0))

/-- FIRE_VOTE_CLR (R217). -/
def execFireVoteClr (s : State) : Res State :=
  .next (s.reach .sequencer 0 (fun s => s.clear [.FIRE_VOTE_DIS_A, .FIRE_VOTE_DIS_B, .FIRE_VOTE_DIS_C]))

/-- FIRE_CH_DROPPED_CLR (R211). -/
def execFireChDroppedClr (c : Nat) (s : State) : Res State :=
  .next (s.when (decide (c < 64)) (fun s => s.reach .headPort c (fun s => s.set .FIRE_CH_DROPPED_COUNT 0 c)))

end Sys2Proof.Machine
end

