-- ==== Sys2Proof/Machine/SightGlass.lean ====
section
/-! DEFINITION. The Sight Glass: sense channels, strobe masks and stop on violation, trigger sequencers, captures, triggers between
devices (spec/16_sight_glass.md, R293-R307). -/

namespace Sys2Proof.Machine

/-! ## Fences -/

/-- A head channel fenced (R395): no strobe starts, and its power goes at the end of the line's schedule (R227). -/
def State.fenceHead (s : State) (c cause : Nat) : State := (s.recordFence 1 c cause).cutHeads.noteCoverage

/-- A sequencer disarmed with the status of its SG_ARM; no record is kept. -/
def State.disarm (s : State) (q st result detail : Nat) : State :=
  match (s.ts q).armed with
  | none => s
  | some h => ((s.setTs q {}).putB .SG_STATUS_ARMED q false).finish h st result detail

/-- A sense channel fenced (R294): every capture that names it ends FENCED, and with LOSS_STOP its head channel is fenced too. -/
def State.fenceSense (s : State) (c cause : Nat) : State :=
  if s.fenced 9 c then s
  else
    let s := s.recordFence 9 c cause
    let s := s.each 4 (fun s q => if bit (s.ts q).mask c then s.disarm q stFenced 0 0 else s)
    if bit (fieldAt (s.sgBlock c) 0 1) 2 then s.fenceHead c cause else s

/-! ## Sequencers (R299-R302) -/

/-- The base of sequencer `q`'s block, and a field of its state `n`. -/
def sgSeq (q : Nat) : Nat := 0x840 + 144 * q
def State.seqf (s : State) (q n o w : Nat) : Nat := s.sf 0x0043 0 (sgSeq q + 0x10 + 16 * n + o) w

/-- A field of the present state of sequencer `q`. -/
def State.nowf (s : State) (q o w : Nat) : Nat := s.seqf q (s.ts q).state o w

/-- MODE of channel `c`: 0 TDC, 1 INTERP. -/
def State.sgMode (s : State) (c : Nat) : Nat := bits (fieldAt (s.sgBlock c) 0 1) 3 1

/-- The sequencer enters a state: its counter and timer start at 0; a comparator condition sets its channel's level. -/
def State.enterState (s : State) (q n : Nat) : State :=
  let s := s.setTs q { s.ts q with state := n, count := 0 }
  let c := s.nowf q 1 1 % 64
  if s.nowf q 0 1 = 1 ∨ s.nowf q 0 1 = 2 then s.setSense c { s.sense c with level := s.nowf q 6 2 } else s

/-- The latest line event applied at or before an instant, and the time since, saturating (R304). -/
def State.lineBefore (s : State) (at_ : Nat) : Nat × Nat :=
  match s.seq.applied.find? (fun e => decide (e.2 ≤ at_)) with
  | some e => (e.1, min (at_ - e.2) (2 ^ 32 - 1))
  | none => (0, 2 ^ 32 - 1)

/-- A bus trigger at the owner: queued up to 16 deep (R305). -/
def State.busEnqueue (s : State) (g line offset : Nat) : State :=
  if s.busQueue.length < 16 then { s with busQueue := s.busQueue ++ [(g, line, offset)] } else s.bump .SG_BUS_QDROP

/-- A trigger of sequencer `q` offered to the bus under BUS_TX (R305). -/
def State.busOffer (s : State) (q line offset : Nat) : State :=
  let g := s.sf 0x0043 0 (sgSeq q + 1) 1
  if 15 < g then s
  else if s.seq.applied.isEmpty then s.bump .SG_BUS_LATE
  else if s.is .FIRE_STATUS_OWNER then s.busEnqueue g line offset
  else { s with busFwd := s.busFwd ++ [(g, line, offset)] }

/-- Does the event meet the condition of state `n` (R300)? -/
def State.meetsAt (s : State) (q n : Nat) (e : SgEvent) : Bool :=
  let c := s.seqf q n 0 1
  c == e.cond && (e.only == 0 || (e.only == q + 1 && (c == 10 || s.seqf q n 6 2 == e.lvl))) &&
  (if c = 6 then s.seqf q n 0xC 4 == e.arg else if c = 8 then s.seqf q n 0xC 4 % 16 == e.arg
   else if c = 10 then true else s.seqf q n 1 1 == e.arg)

/-- Does the event meet the present state's condition? -/
def State.meets (s : State) (q : Nat) (e : SgEvent) : Bool := s.meetsAt q (s.ts q).state e

/-- An event taken by sequencer `q` (R299, R301): during hold-off events of state 0's condition are only seen off; the event that completes
the count moves on, or triggers. -/
def State.seqEvent (s : State) (q : Nat) (e : SgEvent) : State :=
  let t := s.ts q
  if t.armed.isNone || t.trig.isSome then s
  else if t.holdTk ∨ 0 < t.holdEv then
    if 0 < t.holdEv ∧ s.meetsAt q 0 e then s.setTs q { t with holdEv := t.holdEv - 1 } else s
  else if !s.meets q e then s
  else if t.count + 1 < s.nowf q 4 2 then s.setTs q { t with count := t.count + 1 }
  else if s.nowf q 2 1 = 0x0F then
    let l := s.lineBefore e.at_
    (s.setTs q { t with trig := some (e.at_, t.state, s.clock.stamp, l.1, l.2), mode := s.sgMode (s.nowf q 1 1 % 64) }).busOffer q l.1 l.2
  else s.enterState q (s.nowf q 2 1)

/-- An event taken by every sequencer. -/
def State.takeEvent (s : State) (e : SgEvent) : State := s.each 4 (fun s q => s.seqEvent q e)

/-- SEQUENCER_EVENT (R299): `edge` 0 takes the oldest event offered; 1 and 2 are a rising and a falling edge of the comparator of
channel `c`, measured at `at_` by the time-to-digital converter. In INTERP mode the sequencers' edges are placed from samples (R302) and
these move the comparator's output alone. -/
def execSequencerEvent (edge c at_ : Nat) (s : State) : Res State :=
  .next (s.when (s.powered 123 && s.hasSect 0x0043 0) (fun s =>
    if edge = 0 then
      match s.sgEvents with
      | [] => s
      | e :: rest => State.takeEvent { s with sgEvents := rest } e
    else if 2 < edge ∨ 64 ≤ c then s
    else
      let x := s.sense c
      let x := { x with comp := edge == 1 }
      if s.sgMode c = 1 then s.setSense c x
      else
        let x := if x.cross ≤ 1 then { x with edges := 0 } else { x with wait := (x.wait.1 + 1, x.wait.2) }
        (s.setSense c x).takeEvent { cond := edge, arg := c, at_ := at_ }))

/-- SEQUENCER_TIMEOUT (R299): TIMEOUT ticks have passed in the state. -/
def execSequencerTimeout (q : Nat) (s : State) : Res State :=
  let t := s.ts q
  .next (s.when (t.armed.isSome && t.trig.isNone && s.nowf q 8 4 != 0) (fun s => s.enterState q (s.nowf q 3 1)))

/-- SEQUENCER_HOLDOFF_END (R301). -/
def execSequencerHoldoffEnd (q : Nat) (s : State) : Res State :=
  .next (s.when (s.ts q).armed.isSome (fun s => s.setTs q { s.ts q with holdTk := false }))

/-- SG_CTRL.FORCE (R300). -/
def State.sgForce (s : State) (m : Nat) : State :=
  s.each 4 (fun s q => if bit m q then s.offer { cond := 10, arg := q, at_ := 128 * s.now, only := q + 1 } else s)

/-- SG_FORCE. -/
def execSgForce (m : Nat) (s : State) : Res State := .next (s.reach .sightGlass 0 (fun s => s.sgForce m))

/-- SG_CTRL.DISARM (R304). -/
def State.sgDisarm (s : State) (m : Nat) : State :=
  s.each 4 (fun s q => if bit m q then s.disarm q stDone (2 ^ 31) 0 else s)

/-- SG_DISARM. -/
def execSgDisarm (m : Nat) (s : State) : Res State := .next (s.reach .sightGlass 0 (fun s => s.sgDisarm m))

/-! ## Samples, masks, violations (R293-R298) -/

/-- The limits of point `i` of a mask for `nf` nozzles (R295). -/
def maskHi (block mask : List Byte) (nf i : Nat) : Int :=
  clampInt 0 4095 (toSigned 16 (fieldAt block 6 2) + ((fieldAt mask (0x10 + 2 * i) 2 * nf + 128) / 256 : Nat))
def maskLo (block mask : List Byte) (nf i : Nat) : Int :=
  clampInt 0 4095 (toSigned 16 (fieldAt block 8 2) + ((fieldAt mask (0x210 + 2 * i) 2 * nf + 128) / 256 : Nat))

/-- The tick from which a strobe's window takes samples: E + MASK_OFS of its line's block. -/
def Win.start (w : Win) : Int := w.e + toSigned 16 (fieldAt w.block 4 2)

/-- The place in `wins` of the strobe window a sample at tick `t` lies in, and its mask point (R295). -/
def Sense.window (x : Sense) (t : Nat) : Option (Nat × Nat) :=
  match x.wins.findIdx? (fun w => decide (w.start ≤ (t : Int))) with
  | none => none
  | some k =>
    let w := x.wins.getD k {}
    let i := ((t : Int) - w.start).toNat / 8
    if w.mask.isEmpty ∨ fieldAt w.mask 0 2 ≤ i then none else some (k, i)

/-- How a sample stands to its limits: 0 inside, 1 above, 2 below, 3 idle and above `idleHi`, IDLE_HI of the section in force. -/
def Sense.judge (x : Sense) (idleHi t code : Nat) : Nat :=
  match x.window t with
  | some (k, i) =>
    let w := x.wins.getD k {}
    if maskHi w.block w.mask w.nf i < code then 1 else if (code : Int) < maskLo w.block w.mask w.nf i then 2 else 0
  | none => if idleHi < code then 3 else 0

/-- A violating event counted under a channel block (R297): reaching VIOL_N is an event to be taken. -/
def State.countViol (s : State) (c : Nat) (b : List Byte) (kind point j t : Nat) : State :=
  let run := min (s.get .SG_VIOL_RUN 0 c + 1) 255
  let s := s.set .SG_VIOL_RUN run 0 c
  if fieldAt b 2 1 ≤ run ∧ (s.sense c).due.isNone then
    s.setSense c { s.sense c with due := some (kind, point, j, t, bit (fieldAt b 0 1) 1) }
  else s

/-- A strobe whose window has passed without a violation resets the count. -/
def State.closeWins (s : State) (c : Nat) (keep : Option Nat) : State :=
  let x := s.sense c
  let past := (List.range x.wins.length).filter (fun k => match keep with | some i => decide (i < k) | none => true)
  let clean := past.any (fun k => let w := x.wins.getD k {}; w.tested && !w.hit)
  let wins := (List.range x.wins.length).map (fun k =>
    let w := x.wins.getD k {}
    if past.contains k then { w with tested := false } else w)
  let s := s.setSense c { x with wins := wins }
  if clean then s.set .SG_VIOL_RUN 0 0 c else s

/-- One sample judged. -/
def State.judgeSample (s : State) (c t code : Nat) : State :=
  let x := s.sense c
  let v := x.judge (fieldAt (s.sgBlock c) 0xA 2) t code
  match x.window t with
  | some (k, i) =>
    let s := (s.closeWins c (some k))
    let x := s.sense c
    let w := x.wins.getD k {}
    let s := s.setSense c { x with idle := 0, wins := x.wins.set k { w with tested := true, hit := w.hit || v != 0 } }
    if v ≠ 0 ∧ !w.hit then s.countViol c w.block v i w.j t else s
  | none =>
    let s := if x.wins.any (fun w => decide (w.start ≤ (t : Int))) then s.closeWins c none else s
    let x := s.sense c
    let idle := if v = 3 then x.idle + 1 else 0
    let s := s.setSense c { x with idle := if idle = 8 then 0 else idle }
    if idle = 8 then s.countViol c (s.sgBlock c) 3 0 0 t else s

/-- Samples are judged once no later strobe can open a window at or before them: at once, or as far behind as MASK_OFS is
negative (R295). -/
def State.judgeAll (s : State) (c : Nat) : State :=
  let x := s.sense c
  let lag := ((-(toSigned 16 (fieldAt (s.sgBlock c) 4 2)) + 7) / 8).toNat
  let due := x.fifo.take (x.fifo.length - lag)
  due.foldl (fun s e => s.judgeSample c e.1 e.2) (s.setSense c { x with fifo := x.fifo.drop (x.fifo.length - lag) })

/-- The instant at which the line between two samples meets a level, in 1/128 tick (R302). -/
def interp (t s0 s1 l : Nat) : Nat :=
  if s0 < s1 then t * 128 + (l - s0) * 1024 / (s1 - s0) else t * 128 + (s0 - l) * 1024 / (s0 - s1)

/-- The level events a sample of channel `c` gives the sequencers: conditions 3 and 4, and in INTERP mode 1 and 2 (R300, R302). -/
def State.levelEvents (s : State) (c t old new : Nat) : State :=
  s.each 4 (fun s q =>
    let cond := s.nowf q 0 1
    let l := s.nowf q 6 2
    let mode := s.sgMode c
    let up := decide (old ≤ l ∧ l < new)
    let down := decide (l < old ∧ new ≤ l)
    let place := if mode = 1 ∧ 8 ≤ t then interp (t - 8) old new l else 128 * t
    if (s.ts q).armed.isNone || s.nowf q 1 1 != c then s
    else if ((cond = 3 ∨ (cond = 1 ∧ mode = 1)) ∧ up) ∨ ((cond = 4 ∨ (cond = 2 ∧ mode = 1)) ∧ down) then
      s.offer { cond := cond, arg := c, at_ := place, only := q + 1, lvl := l }
    else s)

/-- The 16 bits stored for a sample (R303). -/
def Sense.word (x : Sense) (idleHi t code : Nat) : Nat :=
  code + 4096 * b2n x.comp + 8192 * b2n (x.wins.any (fun w => decide (w.e ≤ t ∧ t < w.e + w.width))) +
  16384 * b2n (x.judge idleHi t code != 0)

/-- A capture stores every DECIM-th sample of its channels, counting from arming (R303), until its record is full. -/
def State.capture (s : State) (q t : Nat) : State :=
  let x := s.ts q
  let full := match x.trig with
    | some g => decide (max 1 (x.record - x.pre) ≤ (x.stored.filter (fun e => decide (g.1 ≤ e.1 * 128))).length)
    | none => false
  if x.armed.isNone || s.is .SG_STATUS_PAUSED || full then s
  else
    let keep := x.seen % max 1 x.decim == 0
    let words := ((List.range 64).filter (bit x.mask)).map (fun c =>
      (s.sense c).word (fieldAt (s.sgBlock c) 0xA 2) t (s.sense c).code)
    let l := if keep then x.stored ++ [(t, words)] else x.stored
    s.setTs q { x with seen := x.seen + 1, stored := l.drop (l.length - 32768) }

/-- SENSE_SAMPLE (R293, R295, R296): the 64 channels sample together at tick `t`. -/
def execSenseSample (t : Nat) (codes : List Nat) (s : State) : Res State :=
  .next (s.when (s.powered 123 && s.hasSect 0x0043 0) (fun s =>
    let s := s.each 64 (fun s c =>
      let x := s.sense c
      let code := min 4095 (codes.getD c 0)
      if !bit (fieldAt (s.sgBlock c) 0 1) 0 then s
      else
        let crossed := decide (x.code ≤ x.level ∧ x.level < code ∨ x.level < x.code ∧ code ≤ x.level)
        let x1 := { x with code := code, sat := if code = 4095 then min 4096 (x.sat + 1) else 0,
                           cross := if crossed then 0 else min 3 (x.cross + 1), wait := if crossed then (0, 0) else (0, x.wait.1),
                           edges := if crossed then 0 else x.edges + x.wait.2 }
        let s := s.levelEvents c t x.code code
        if s.fenced 9 c then s.setSense c x1
        else (s.setSense c { x1 with fifo := x1.fifo ++ [(t, code)] }).judgeAll c)
    s.each 4 (fun s q => s.capture q t)))

/-- SENSE_CHANNEL_FAULT (R294). -/
def execSenseChannelFault (c : Nat) (s : State) : Res State :=
  let x := s.sense c
  .next (s.when (decide (c < 64) && s.powered 123 && !s.fenced 9 c && (decide (4096 ≤ x.sat) ||
      (s.sgMode c == 0 && decide (16 ≤ x.edges)))) (fun s => (s.fenceSense c causeSense).on .SG_VIOL_SENSE_FAULT 0 c))

/-- MASK_VIOLATION (R297): the count has reached VIOL_N. -/
def execMaskViolation (c : Nat) (s : State) : Res State :=
  let x := s.sense c
  .next (match x.due with
  | none => s
  | some (kind, point, j, t, stop) =>
    let s := (s.setSense c { x with due := none }).set .SG_VIOL_RUN 0 0 c
    let s := ((s.set .SG_LAST_VIOL_CHANNEL c).set .SG_LAST_VIOL_KIND kind).set .SG_LAST_VIOL_POINT point
    let s := ((s.set .SG_LAST_VIOL_STROBE j).bump .SG_VIOL_COUNT 1 0 c).offer { cond := 7, arg := c, at_ := 128 * t }
    if stop then (s.fenceHead c causeMask).on .SG_VIOL_STOPPED 0 c else s)

/-- SG_VIOL_CLR (R297). -/
def execSgViolClr (c : Nat) (s : State) : Res State :=
  .next (s.when (decide (c < 64)) (fun s => s.reach .sightGlass 0 (fun s => s.clear [.SG_VIOL_STOPPED, .SG_VIOL_COUNT] 0 c)))

/-! ## Captures (R303, R304) -/

/-- SG_ARM (R304). -/
def execSgArm (d : Desc) (s : State) : Res State :=
  let q := d.p 0x10 1
  let mask := d.p 0x18 8
  let record := d.p 0x14 4
  let decim := d.p 0x12 2
  let chans := (List.range 64).filter (bit mask)
  .next (s.submit d
    { opcode := 0x0601, long := true,
      used := [(0x10, 1), (0x12, 2), (0x14, 4), (0x18, 8), (0x20, 4), (0x24, 2), (0x28, 4)],
      fenced := chans.any (s.fenced 9), sizes := [decim, record], counts := [mask],
      range := decide (q ≤ 3 ∧ decim ≤ 4096 ∧ record ≤ 32768 ∧ d.p 0x20 4 ≤ record) && s.sf 0x0043 0 (sgSeq q) 1 != 0 &&
        chans.all (fun c => bit (fieldAt (s.sgBlock c) 0 1) 0),
      state := if (s.ts q).armed.isSome || (List.range 4).any (fun r => (s.ts r).armed.isSome && chans.any (bit (s.ts r).mask))
        then stBadState else 0 }
    (fun h s =>
      let s := s.setTs q { armed := some h, decim := decim, record := record, pre := d.p 0x20 4, mask := mask,
                           holdTk := d.p 0x28 4 != 0, holdEv := d.p 0x24 2 }
      ((s.putB .SG_STATUS_ARMED q true).putB .SG_STATUS_RECORD q false).enterState q 0))

/-- The stored samples at or after the trigger point, and those before it. -/
def Ts.split (t : Ts) (at_ : Nat) : List (Nat × List Nat) × List (Nat × List Nat) :=
  (t.stored.filter (fun e => decide (e.1 * 128 < at_)), t.stored.filter (fun e => decide (at_ ≤ e.1 * 128)))

/-- CAPTURE_COMPLETE (R303, R304): samples from before arming read as not valid. -/
def execCaptureComplete (q : Nat) (s : State) : Res State :=
  let t := s.ts q
  .next (match t.armed, t.trig with
  | some h, some (at_, st, _) =>
    let p := t.split at_
    s.when (decide (max 1 (t.record - t.pre) ≤ p.2.length)) (fun s =>
      let chans := popcount 64 t.mask
      let before := (p.1.drop (p.1.length - t.pre)).map Prod.snd
      let pad := List.replicate (t.pre - before.length) (List.replicate chans 32768)
      let rec' := pad ++ before ++ (p.2.take (t.record - t.pre)).map Prod.snd
      let phase := ((p.2.head?.map Prod.fst).getD 0) * 128 - at_
      let s := s.setTs q { t with armed := none, stored := [], ready := some (phase, rec') }
      ((s.putB .SG_STATUS_ARMED q false).putB .SG_STATUS_RECORD q true).finish h stDone st 0)
  | _, _ => s)

/-- The header SG_READ writes (R304). -/
def sgHeader (q : Nat) (t : Ts) (first n : Nat) : List Byte :=
  let g := t.trig.getD (0, 0, 0, 0, 0)
  leBytes 1 q ++ leBytes 1 t.mode ++ leBytes 2 t.decim ++ leBytes 4 t.record ++ leBytes 4 t.pre ++ leBytes 4 g.2.2.1 ++
  leBytes 8 g.2.2.2.1 ++ leBytes 4 g.2.2.2.2 ++ leBytes 4 ((t.ready.map Prod.fst).getD 0) ++ leBytes 8 t.mask ++ leBytes 4 first ++
  leBytes 4 n ++ leBytes 16 0

/-- SG_READ (R304). -/
def execSgRead (d : Desc) (s : State) : Res State :=
  let q := d.p 0x10 1
  let n := d.p 0x14 4
  let first := d.p 0x18 4
  let addr := d.p 0x20 8
  let t := s.ts q
  .next (s.submit d
    { opcode := 0x0602, long := true, used := [(0x10, 1), (0x14, 4), (0x18, 4), (0x20, 8)], counts := [n],
      range := decide (q ≤ 3) && addr % 64 == 0 && (t.ready.isNone || decide (first + n ≤ t.record)),
      state := if t.ready.isNone then stBadState else 0 }
    (fun h s =>
      let words := (t.ready.map Prod.snd).getD []
      let body := (List.range (popcount 64 t.mask)).flatMap (fun c =>
        ((words.drop first).take n).flatMap (fun w => leBytes 2 (w.getD c 0)))
      State.done { s with hostMem := Memory.wrs s.hostMem addr (sgHeader q t first n ++ body) } h))

/-! ## Triggers between devices (R305) -/

/-- BUS_TRIGGER_FORWARD (R305): a trigger that came over Wort enters the owner's queue; any other device sends its oldest one to the
owner. -/
def execBusTriggerForward (g line offset : Nat) (s : State) : Res State :=
  .next (if s.is .FIRE_STATUS_OWNER then s.when (decide (g < 16)) (fun s => s.busEnqueue g line offset)
    else match s.busFwd with
    | [] => s
    | e :: rest => State.out { s with busFwd := rest } (.wort "busTrigger" [e.1, e.2.1, e.2.2]))

/-- A bus-trigger frame taken (R305). -/
def State.busTake (s : State) (f ref : Nat) : State :=
  let p := framePayload f
  (s.bump .SG_BUS_RX).offer { cond := 8, arg := p / 2 ^ 28, at_ := ref - s.seq.comp - p % 2 ^ 24 }

/-- SG_BUS_TRIGGER_FRAME (R305). -/
def execSgBusTriggerFrame (f ref : Nat) (s : State) : Res State :=
  .next (s.when (s.frameOk 2 f && s.powered 123) (fun s => s.busTake f ref))

/-- The owner's queued triggers sent in the gap after a line-event frame and its stop-distance frame, each 96 ticks long (R201, R305);
their places in the gap are the model's (log entry 72). -/
def State.busSend (s : State) (ref : Nat) : State :=
  let l := s.busQueue
  (List.range l.length).foldl (fun s k =>
    let e := l.getD k (0, 0, 0)
    let r := ref + 128 * 96 * (2 + k)
    match s.seq.applied.find? (fun x => x.1 == e.2.1) with
    | none => s.bump .SG_BUS_LATE
    | some x =>
      let d := r - (x.2 + e.2.2)
      if 0xFFFFFF < d then s.bump .SG_BUS_LATE
      else
        let f := mkFrame 2 (e.1 % 16 * 2 ^ 28 + d)
        (s.out (.bus "frame" [f])).busTake f r) { s with busQueue := [] }

/-- SG_BUS_CLR (R305). -/
def execSgBusClr (s : State) : Res State :=
  .next (s.reach .sightGlass 0 (fun s => s.clear [.SG_BUS_RX, .SG_BUS_LATE, .SG_BUS_QDROP]))

/-! ## The SG section (R306, R307) -/

/-- Zero size fields of the used blocks of an SG payload. -/
def sgZero (b : List Byte) : Bool :=
  (List.range 64).any (fun c =>
    let o := 0x40 + 32 * c
    bit (fieldAt b o 1) 0 && (zeroField b (o + 2) 1 || zeroField b (o + 3) 1 || zeroField b (o + 0xC) 4)) ||
  (List.range 4).any (fun q => (List.range (min 8 (fieldAt b (sgSeq q) 1))).any (fun n => zeroField b (sgSeq q + 0x14 + 16 * n) 2)) ||
  (List.range (min 16 (fieldAt b 0 1))).any (fun m => zeroField b (0xA80 + 1040 * m) 2)

/-- The rules of R306 on an SG payload. -/
def sgOk (b : List Byte) : Bool :=
  let f := fieldAt b
  let n := f 0 1
  decide (n ≤ 16 ∧ b.length = 0xA80 + 1040 * n) && zeroAt b 1 63 &&
  (List.range 64).all (fun c =>
    let o := 0x40 + 32 * c
    let ofs := toSigned 16 (f (o + 4) 2)
    if bit (f o 1) 0 then
      decide (f o 1 < 16 ∧ (f (o + 1) 1 < n ∨ f (o + 1) 1 = 0xFF) ∧ f (o + 0xA) 2 ≤ 4095) && decide (-64 ≤ ofs ∧ ofs ≤ 1600) &&
      zeroAt b (o + 0x10) 16
    else zeroAt b o 32) &&
  (List.range 4).all (fun q =>
    let o := sgSeq q
    let k := f o 1
    if k = 0 then zeroAt b o 144
    else
      decide (k ≤ 8 ∧ (f (o + 1) 1 ≤ 15 ∨ f (o + 1) 1 = 0xFF)) && zeroAt b (o + 2) 14 &&
      (List.range k).all (fun i =>
        let p := o + 0x10 + 16 * i
        decide (1 ≤ f p 1 ∧ f p 1 ≤ 10 ∧ f (p + 1) 1 ≤ 63 ∧ (f (p + 2) 1 < k ∨ f (p + 2) 1 = 0x0F) ∧ f (p + 3) 1 < k ∧ f (p + 6) 2 ≤ 4095) &&
        (f p 1 != 9 || f (p + 8) 4 != 0)) &&
      zeroAt b (o + 0x10 + 16 * k) (128 - 16 * k)) &&
  (List.range n).all (fun m =>
    let o := 0xA80 + 1040 * m
    let k := f o 2
    decide (k ≤ 256) && zeroAt b (o + 2) 14 && zeroAt b (o + 0x10 + 2 * k) (512 - 2 * k) && zeroAt b (o + 0x210 + 2 * k) (512 - 2 * k))

/-- An SG section comes into force in place of `old` (R307): captures pause; a sequencer whose block changes is disarmed. -/
def State.applySg (s : State) (old : List Byte) : State :=
  s.each 4 (fun s q =>
    if sub (s.sect 0x0043 0) (sgSeq q) 144 = sub old (sgSeq q) 144 then s
    else (s.disarm q stBadState 0 2))

end Sys2Proof.Machine
end

