-- ==== Sys2Proof/Machine/Motion.lean ====
section
/-! DEFINITION. Web motion: axes and their profiles, limit, web-break and splice inputs, the raising of line events, the backstep,
encoder faults and dead reckoning (spec/12_web_motion_and_backstep.md, spec/13_encoders.md, R199, R200, R229-R254). -/

namespace Sys2Proof.Machine

/-! ## The MOTION section (R231, R232) -/

/-- A field of axis `a`'s block of a MOTION payload. -/
def axisField (b : List Byte) (a o n : Nat) : Nat := fieldAt b (0x40 + 64 * a + o) n

/-- Zero size fields of a MOTION payload. -/
def motionZero (b : List Byte) : Bool :=
  zeroField b 4 2 || (List.range 4).any (fun a =>
    let z := fun o n => zeroField b (0x40 + 64 * a + o) n
    bit (fieldAt b 0 1) a && ((List.range 9).any (fun i => z (4 * i) 4) || z 0x2C 2 || (a == 0 && (z 0x24 4 || z 0x28 2))))

/-- ⌈RATE_MAX × H⌉ + 65 lines (R232), H = FLIGHT_MAX + TRIG_LAT × 2.5 ns + 1 µs. -/
def horizonLines (rate flight lat : Nat) : Nat := (rate * (2 * flight + 5 * lat + 2000) + 1999999999) / 2000000000 + 65

/-- The rules of R231, R232 and R247 on a MOTION payload of a device with this latched ROLE. -/
def motionOk (e : Eff) (role : Nat) (b : List Byte) : Bool :=
  let used := fun a => bit (fieldAt b 0 1) a
  let f := axisField b
  match e.f 0x0032 0 0 4, e.f 0x0032 0 0xC 4, e.f 0x0032 0 0x10 2 with
  | some rate, some flight, some lat =>
    b.length == 320 && decide (fieldAt b 0 1 < 16 ∧ fieldAt b 1 1 ≤ 1 ∧ fieldAt b 2 1 < 16) && bit (fieldAt b 2 1) 0 &&
    (used 0 || role == roleBar || role == roleWorker) && zeroAt b 3 1 && decide (fieldAt b 4 2 ≤ 1000) && zeroAt b 6 58 &&
    (List.range 4).all (fun a =>
      if used a then
        let vmax := f a 0x10 4
        decide (f a 0 4 ≤ if a = 0 then 64 else 65535) &&
        decide (f a 4 4 ≤ f a 0xC 4 ∧ f a 8 4 ≤ f a 0xC 4 ∧ f a 0xC 4 ≤ vmax ∧ vmax ≤ 12800000) &&
        (a != 0 || decide (vmax ≤ rate * f a 0 4)) &&
        (if a = 0 then decide (f a 4 4 ≤ f a 0x24 4 ∧ f a 0x24 4 ≤ vmax ∧ 16 ≤ f a 0x28 2 ∧ f a 0x28 2 ≤ 4096)
          else f a 0x24 4 == 0 && f a 0x28 2 == 0) &&
        decide (f a 0x2A 1 ≤ 2 ∧ f a 0x2B 1 ≤ 2 ∧ 4 ≤ f a 0x2C 2 ∧ f a 0x2C 2 ≤ 200000000 / max 1 vmax) &&
        zeroAt b (0x40 + 64 * a + 0x2E) 18
      else zeroAt b (0x40 + 64 * a) 64) &&
    (!used 0 || (bit ((e.f 0x0051 0 0 1).getD 0) 0 && e.f 0x0051 0 0x10 1 == some 0)) &&
    (List.range 64).all (fun c => match e.f 0x0013 c 20 4 with
      | some m => decide (horizonLines rate flight lat ≤ m) | none => true)
  | _, _, _ => false

/-- A field of axis `a` of the MOTION section in force, and whether the axis is used. -/
def State.mf (s : State) (a o n : Nat) : Nat := axisField (s.sect 0x0050) a o n
def State.axUsed (s : State) (a : Nat) : Bool := decide (a < 4) && bit (s.sf 0x0050 0 0 1) a

/-! ## Profiles (R233) -/

/-- The ceiling of a ratio. -/
def ceilDiv (a b : Nat) : Nat := if b = 0 then 0 else (a + b - 1) / b

/-- The ramp distance between a speed and the speed `w` at which the ramp ends or begins, in whole steps rounded up. -/
def rampSteps (v w knee a1 a2 : Nat) : Nat :=
  if knee < v then ceilDiv ((v ^ 2 - knee ^ 2) * a1 + (knee ^ 2 - w ^ 2) * a2) (2 * a1 * a2)
  else if w < v then ceilDiv (v ^ 2 - w ^ 2) (2 * a1)
  else 0

/-- The ramp distance from `v` down to rest, and the run-up distance to `v`, on axis `a`. -/
def State.rampDown (s : State) (a v : Nat) : Nat := rampSteps v (s.mf a 8 4) (s.mf a 0xC 4) (s.mf a 0x1C 4) (s.mf a 0x20 4)
def State.runUp (s : State) (a v : Nat) : Nat := rampSteps v (s.mf a 4 4) (s.mf a 0xC 4) (s.mf a 0x14 4) (s.mf a 0x18 4)

/-- A speed squared. On a ramp the square of the speed changes by twice the acceleration with each step. -/
def sq (v : Nat) : Rat := ((v * v : Nat) : Rat)

/-- The exact ramp distance between two squared speeds, `hi` the greater, with the accelerations below and above the squared knee. -/
def rampLen (hi lo knee : Rat) (a1 a2 : Nat) : Rat :=
  (hi - max lo knee) / (2 * a2) * (if max lo knee < hi then 1 else 0) + (min hi knee - lo) / (2 * a1) * (if lo < min hi knee then 1 else 0)

/-- The squared speed `d` steps on, faster or slower, at acceleration `a1` below the squared knee and `a2` above it. -/
def faster (w knee : Rat) (a1 a2 : Nat) (d : Rat) : Rat :=
  if knee ≤ w then w + 2 * a2 * d
  else if w + 2 * a1 * d ≤ knee then w + 2 * a1 * d
  else knee + 2 * a2 * (d - (knee - w) / (2 * a1))
def slower (w knee : Rat) (a1 a2 : Nat) (d : Rat) : Rat :=
  if w ≤ knee then w - 2 * a1 * d
  else if knee ≤ w - 2 * a2 * d then w - 2 * a2 * d
  else knee - 2 * a1 * (d - (w - knee) / (2 * a2))

/-- The squared speed `d` steps on, on the way to cruise speed `v`. -/
def State.towards (s : State) (a : Nat) (w : Rat) (v : Nat) (d : Rat) : Rat :=
  if d ≤ 0 then w
  else if w ≤ sq v then min (sq v) (faster w (sq (s.mf a 0xC 4)) (s.mf a 0x14 4) (s.mf a 0x18 4) d)
  else max (sq v) (slower w (sq (s.mf a 0xC 4)) (s.mf a 0x1C 4) (s.mf a 0x20 4) d)

/-- The greatest squared speed from which the steps can cease within `d` steps. -/
def State.stopsIn (s : State) (a : Nat) (d : Rat) : Rat := faster (sq (s.mf a 8 4)) (sq (s.mf a 0xC 4)) (s.mf a 0x1C 4) (s.mf a 0x20 4) d

/-- Axis `a`. -/
def State.axis (s : State) (a : Nat) : Axis := look {} s.axes a
def State.setAxis (s : State) (a : Nat) (x : Axis) : State := { s with axes := store {} s.axes a x }

/-- Is axis `a` moving, and forward? How many steps ahead of its position does `p` lie? -/
def State.moving' (s : State) (a : Nat) : Bool := bit (s.get .MOT_STATUS_MOVING) a
def State.forward (s : State) (a : Nat) : Bool := bit (s.get .MOT_STATUS_DIR) a
def State.ahead (s : State) (a : Nat) (p : Int) : Int := if s.forward a then p - s.axPos a else s.axPos a - p

/-- The cruise speed of the profile under way: V_REV in the positioning move of a backstep (R241). -/
def State.cruise (s : State) (a : Nat) : Nat := if (s.axis a).mode = 4 then s.mf a 0x24 4 else (s.axis a).cruise

/-- The part of the first step that a run-up rounded to whole steps spends at V_START (R233). -/
def State.slack (s : State) (a : Nat) : Rat :=
  if s.axPos a = (s.axis a).start then
    (s.runUp a (s.cruise a) : Nat) -
      rampLen (sq (s.cruise a)) (sq (s.mf a 4 4)) (sq (s.mf a 0xC 4)) (s.mf a 0x14 4) (s.mf a 0x18 4)
  else 0

/-- The squared speed `d` steps on with the changes of cruise speed planned, from squared speed `w` and cruise speed `v` at `e` steps on. -/
def State.legs (s : State) (a : Nat) (d : Rat) : List (Int × Nat) → Rat → Nat → Rat → Rat
  | [], w, v, e => s.towards a w v (d - e)
  | (p, u) :: l, w, v, e =>
    let f := max e (s.ahead a p)
    if f < d then s.legs a d l (s.towards a w v (f - e)) u f else s.towards a w v (d - e)

/-- The squared speed that axis `a` has `d` steps on, as planned (R233). -/
def State.speedAt (s : State) (a d : Nat) : Rat :=
  let x := s.axis a
  let free := s.legs a d x.changes x.v2 (s.cruise a) (s.slack a)
  match x.stopAt with
  | none => free
  | some p =>
    if (p - x.start).natAbs < s.rampDown a (s.mf a 4 4) then x.v2 else min free (s.stopsIn a ((s.ahead a p - d : Int) : Rat))

/-- S, the line-to-step ratio, and the step position of line `y` under the line origin (R230). -/
def State.stepsPerLine (s : State) : Nat := s.mf 0 0 4
def State.lineAt (s : State) (y : Nat) : Int := s.line.p0 + ((y : Int) - s.line.y0) * s.stepsPerLine

/-- The first line whose position does not lie behind AX0. -/
def State.lineHere (s : State) : Nat :=
  (s.line.y0 + (s.axPos 0 - s.line.p0 + s.stepsPerLine - 1) / (s.stepsPerLine : Int)).toNat

/-- D_STOP (R235). -/
def State.dStop (s : State) : Nat := ceilDiv (s.rampDown 0 (s.get .MOT_SPEED_RATE)) s.stepsPerLine

/-- The next line to fire: no line event has been raised for it or for a line above it. -/
def State.unfired (s : State) : Nat := max s.seq.next s.line.raised

/-! ## The plan horizon (R232, R234) -/

/-- FLIGHT_MAX + TRIG_LAT × 2.5 ns, by which a line event is sent ahead of its step, and the plan horizon H, in units of 0.5 ns. -/
def State.sentAhead (s : State) : Nat := 2 * s.sf 0x0032 0 0xC 4 + 5 * s.sf 0x0032 0 0x10 2
def State.horizon (s : State) : Nat := s.sentAhead + 2000

/-- The steps that lie within H, rounded up, at the present speed and acceleration (log entry 134). -/
def State.stepsWithin (s : State) (a : Nat) : Nat :=
  let w := (s.axis a).v2
  let v := s.get .MOT_SPEED_RATE 0 a
  let up := if w < sq (s.cruise a) then (if w < sq (s.mf a 0xC 4) then s.mf a 0x14 4 else s.mf a 0x18 4) else 0
  ceilDiv ((if sq v = w then v else v + 1) * s.horizon * 4000000000 + up * s.horizon * s.horizon) 8000000000000000000

/-- The first position after H at which a change on axis `a` may begin (R234): a line position on AX0, but with `byStep` (R242), and on
AX1-AX3, any step. -/
def State.firstAfter (s : State) (a : Nat) (byStep : Bool := false) : Int :=
  let n : Int := s.stepsWithin a
  let lines := a == 0 && !byStep
  if s.forward a then
    let p := s.axPos a + n
    if lines then p + (s.line.p0 - p) % (s.stepsPerLine : Int) else p
  else
    let p := s.axPos a - n
    if lines then p - (p - s.line.p0) % (s.stepsPerLine : Int) else p

/-! ## Starting and stopping an axis -/

/-- The backstep phase (R241). -/
def State.phase (s : State) : Nat := s.get .MOT_STATUS_BS_PHASE

/-- Does this device drive the step and direction pins of AX0: the timeline owner with its drivers enabled (R31, R229)? Under a role
conflict no timeline runs (R30). -/
def State.drives (s : State) : Bool := s.is .MOT_STATUS_OWN && s.trio.drivers && !s.conflict

/-- An axis set in motion from rest: V_START at once (R233); AX0 takes the slip reference (R253). -/
def State.startAxis (s : State) (a : Nat) (fwd : Bool) (x : Axis) : State :=
  let s := ((s.putB .MOT_STATUS_MOVING a true).putB .MOT_STATUS_DIR a fwd).putB .MOT_STATUS_HELD a false
  let s := s.set .MOT_SPEED_RATE (s.mf a 4 4) 0 a
  let s := if a ≠ 0 ∨ s.drives then s.out (.pin "AX_DIR" a (b2n fwd)) else s
  let s := s.setAxis a { x with start := s.axPos a, v2 := sq (s.mf a 4 4), changes := [] }
  if a = 0 then
    let s := { s with line := { s.line with hard := false, turn := false } }
    (s.setScale 0 { s.scale 0 with slip0 := s.encPos 0 - s.stepsToCounts 0 (s.axPos 0) }).drShow
  else s

/-- The operations of an axis that has come to rest complete (R237): a move with its distance, DETAIL 1 if ended short; a speed
with RESULT 1; stops. Those of an axis fenced end FENCED (R117). -/
def State.restOps (s : State) (a : Nat) (short : Bool) (st : Nat := stDone) : State :=
  let x := s.axis a
  let s := s.setAxis a { x with moveOp := none, speedOp := none, stopOps := [] }
  let dist := ofSigned 32 ((s.axPos a - x.start) / (s.mf a 0 4 : Int))
  let s := match x.moveOp with | some h => s.finish h st dist (b2n short) | none => s
  let s := match x.speedOp with | some h => s.finish h st 1 0 | none => s
  x.stopOps.foldl (fun s h => s.finish h st) s

/-- The MOT_STOP operations of AX0 complete, and nothing else: the web stands in a backstep (R237). -/
def State.stopsDone (s : State) : State :=
  let x := s.axis 0
  x.stopOps.foldl (fun s h => s.finish h stDone) (s.setAxis 0 { x with stopOps := [] })

/-- An axis comes to rest. -/
def State.restAxis (s : State) (a : Nat) : State :=
  let s := ((s.putB .MOT_STATUS_MOVING a false).set .MOT_SPEED_RATE 0 0 a).setAxis a
    { s.axis a with mode := 0, v2 := 0, stopAt := none, changes := [] }
  if a = 0 then { s.drShow with line := { s.line with live := false, turn := false } } else s

/-- A job has ended: the next one takes a new line origin (R128, R230). A page accepted behind it is a job in progress already. -/
def State.endJob (s : State) : State :=
  let n := s.jobEnds.headD 0
  State.set { s with jobEnds := s.jobEnds.tail,
                     line := { s.line with fired := false, jobStop := false, live := false, late := [], due := false, blame := none } }
    .MOT_STATUS_JOB (b2n (s.pages.any (fun p => decide (p.state ≤ 1 ∧ n ≤ p.first))))

/-- Has the job's last line been passed, so that the job ends as the web comes to rest (R128)? -/
def State.jobDone (s : State) : Bool := s.jobEnds.head?.any (fun n => decide (n ≤ s.unfired))
def State.closeJob (s : State) : State := if s.jobDone then s.endJob else s

/-- A hard stop (R239): no further step; AX0 takes the ENC0 position unless in dead reckoning (R250), and a backstep under way ends
(R240). A MOT_SPEED that waited for a ramped stop ends too (log entry 55). -/
def State.hardStop (s : State) (a : Nat) (st : Nat := stDone) : State :=
  if !s.moving' a && !(a == 0 && s.phase != 0) then s
  else
    let x := s.axis a
    let s := (s.restAxis a).putB .MOT_STATUS_HELD a true
    let s := if a = 0 then
        let p := if s.is .ENC_STATUS_DR || !s.encUsed 0 then s.axPos 0
          else (s.encPos 0 - (s.scale 0).slip0) * s.encf 0 0xC 4 / s.encf 0 8 4
        let s := (s.seti .MOT_POS_STEPS p 0 0).set .FIRE_STATUS_RUNNING (b2n !s.seq.events.isEmpty)
        let s := { s with line := { s.line with hard := true, due := false, assisted := none, jobStop := false, stay := false } }
        ((s.set .MOT_STATUS_BS_PHASE 0).drShow).closeJob
      else s
    let s := match x.next with | some n => (s.setAxis a { s.axis a with next := none }).finish n.1 st 1 0 | none => s
    s.restOps a true st

/-- The steps of a moving axis are planned to cease at `p`, or at the nearer point planned before (R233). -/
def State.stopBy (s : State) (a : Nat) (p : Int) : State :=
  let x := s.axis a
  let q := match x.stopAt with | some q => if s.ahead a q ≤ s.ahead a p then q else p | none => p
  let s := s.setAxis a { x with mode := 3, stopAt := some q }
  if a = 0 then { s with line := { s.line with pStop := q } } else s

/-- Where the steps cease if a ramp begins at `b` (R233). -/
def State.rampEnd (s : State) (a : Nat) (b : Int) : Int :=
  let n : Int := (rampLen (s.speedAt a (s.ahead a b).toNat) (sq (s.mf a 8 4)) (sq (s.mf a 0xC 4)) (s.mf a 0x1C 4) (s.mf a 0x20 4)).ceil
  if s.forward a then b + n else b - n

/-- A ramped stop: the ramp begins at the first position after H (R233, R234); a ramp under way is kept. -/
def State.rampStop (s : State) (a : Nat) (byStep : Bool := false) : State :=
  if !s.moving' a ∨ (s.axis a).mode = 3 then s else s.stopBy a (s.rampEnd a (s.firstAfter a byStep))

/-- The point beyond line `n` − 1 and before line `n` at which a ramp from the cruise speed ends that begins at a line position. -/
def State.lastStop (s : State) (n : Nat) : Int :=
  s.lineAt n - s.stepsPerLine + ((s.rampDown 0 (s.axis 0).aim % s.stepsPerLine : Nat) : Int)

/-- Can AX0 come to rest at `p` by a ramp that begins at `b`? -/
def State.canStop (s : State) (p b : Int) : Bool :=
  decide (b ≤ p) && decide (s.speedAt 0 (s.ahead 0 b).toNat ≤ s.stopsIn 0 ((p - b : Int) : Rat))

/-- Is it time for the stop after which line `n` − 1 is the last line whose position the web reaches: could its ramp not begin at the line
position after the next one that R234 allows (R128, R244)? -/
def State.lastDue (s : State) (n : Nat) : Bool := !s.canStop (s.lastStop n) (s.firstAfter 0 + s.stepsPerLine)

/-- That stop planned, or where it can no longer be planned a ramp from the first line position after H (R128, R244). -/
def State.planLast (s : State) (n : Nat) : State :=
  if s.canStop (s.lastStop n) (s.firstAfter 0) then s.stopBy 0 (s.lastStop n) else s.rampStop 0

/-- The limit input towards a direction, and the action set for it. -/
def State.limitOn (s : State) (a : Nat) (fwd : Bool) : Bool :=
  if fwd then bit (s.get .MOT_INPUTS_LIMB) a && s.mf a 0x2B 1 != 0 else bit (s.get .MOT_INPUTS_LIMA) a && s.mf a 0x2A 1 != 0

/-- A start of AX0 that sets the line origin (R230): from rest with no line of a job fired. -/
def State.startOrigin (s : State) (v : Nat) (x : Axis) : State :=
  let y := s.unfired
  let p : Int := s.axPos 0 + s.runUp 0 v + s.mf 0 0x28 2 * s.stepsPerLine
  let s := (s.startAxis 0 true { x with mode := 2, cruise := v, aim := v }).off .MOT_STATUS_RESUME_FAIL
  { s with line := { s.line with y0 := y, p0 := p, raised := y, live := true, late := [], due := false, blame := none, counted := false,
                                 fails := 0, stay := false, assisted := none, drBase := s.get .ENC_DR_LINES, drOver := false } }

/-- The web is held before a move of its own, which an active limit input bars (R239): no phase of a backstep goes on. -/
def State.holdWeb (s : State) : State :=
  (((s.restAxis 0).putB .MOT_STATUS_HELD 0 true).set .MOT_STATUS_BS_PHASE 0).restOps 0 true

/-- P_rev for a resume at line `n` (R241). -/
def State.revFor (s : State) (n : Nat) : Int := s.lineAt n - s.runUp 0 (s.axis 0).aim - s.mf 0 0x28 2 * s.stepsPerLine

/-- The axis sets out for P_rev, worked out afresh from the print speed asked for last (R241). -/
def State.setOut (s : State) : State :=
  let rev := s.revFor s.line.raised
  let s := State.seti { s with line := { s.line with pRev := rev } } .MOT_BS_DIST_STEPS (s.line.pStop - rev)
  if rev = s.axPos 0 then ((s.restAxis 0).set .MOT_STATUS_BS_PHASE 4).stopsDone
  else if s.limitOn 0 (decide (s.axPos 0 < rev)) then s.holdWeb
  else (s.startAxis 0 (decide (s.axPos 0 < rev)) { s.axis 0 with mode := 4, target := rev, stopAt := some rev }).set .MOT_STATUS_BS_PHASE 3

/-- The positioning move of a backstep or of a restart under R240: P_stop, N, P_rev and B fixed, and the axis set out (R241). -/
def State.position (s : State) : State :=
  let n := s.unfired
  let s := { s with line := { s.line with pStop := s.axPos 0, raised := n, hard := false, assisted := none } }
  (s.set .MOT_BS_RESUME_LINE n).setOut

/-- A restart under R240: positioning, refill wait and run-up of the backstep. -/
def State.restart (s : State) (v : Nat) : State :=
  let s := { s with line := { s.line with fails := 0, counted := false, stay := false, due := false, drBase := s.get .ENC_DR_LINES, drOver := false } }
  ((s.off .MOT_STATUS_RESUME_FAIL).setAxis 0 { s.axis 0 with aim := v }).position

/-- MOT_SPEED carried out (R237). While a stop runs it waits; in a backstep it sets the print speed, from line N on once the run-up has
begun (R241, log entry 134); on a moving axis the change begins after H (R234). -/
def State.setSpeed (s : State) (a h v : Nat) : State :=
  let x := s.axis a
  let p := if a = 0 then s.phase else 0
  if x.mode = 3 ∧ p ≠ 1 then
    let s := match x.next with | some n => s.finish n.1 stDone 1 0 | none => s
    s.setAxis a { x with next := some (h, v) }
  else
    let s := match x.speedOp with | some o => s.finish o stDone 1 0 | none => s
    let s := s.setAxis a { x with speedOp := some h, aim := v }
    let s := if a = 0 then { s with line := { s.line with stay := false } } else s
    if p = 4 then (if s.line.assisted.isSome ∨ s.revFor s.line.raised = s.line.pRev then s else s.setOut)
    else if p = 5 ∨ p = 6 then s.setAxis 0 { s.axis 0 with changes := (s.axis 0).changes ++ [(s.lineAt s.line.raised, v)] }
    else if p ≠ 0 then s
    else if s.moving' a then s.setAxis a { s.axis a with changes := (s.axis a).changes ++ [(s.firstAfter a, v)] }
    else if a ≠ 0 then s.startAxis a true { s.axis a with mode := 2, cruise := v }
    else if s.is .MOT_STATUS_JOB && s.line.fired then s.restart v
    else s.startOrigin v (s.axis 0)

/-! ## Commands (R236, R237) -/

/-- Is SPEED × RATIO outside V_START to V_MAX? -/
def State.badSpeed (s : State) (a v : Nat) : Bool := decide (v * s.mf a 0 4 < s.mf a 4 4 ∨ s.mf a 0x10 4 < v * s.mf a 0 4)

/-- The fields of R236 common to MOT_MOVE and MOT_SPEED in range, SPEED apart. -/
def State.motRange (s : State) (d : Desc) : Bool :=
  decide (d.p 0x10 1 ≤ 3) && s.axUsed (d.p 0x10 1) && d.p 0x14 4 == s.mf (d.p 0x10 1) 0 4

/-- A refusal for SPEED is counted in MOT_REFUSED (R236). -/
def countRefused (badRest : Bool) (s : State) : State := if badRest then s else s.bump .MOT_REFUSED_COUNT

/-- MOT_MOVE. -/
def execMotMove (d : Desc) (s : State) : Res State :=
  let a := d.p 0x10 1
  let dist := toSigned 64 (d.p 0x18 8)
  let v := d.p 0x20 4
  let ok := s.motRange d
  let bad := s.moving' a || s.limitOn a (decide (0 ≤ dist)) ||
    (a == 0 && (!s.is .MOT_STATUS_OWN || s.conflict || s.is .MOT_STATUS_JOB || s.phase != 0))
  .next (s.submit d
    { opcode := 0x0401, long := true, used := [(0x10, 1), (0x14, 4), (0x18, 8), (0x20, 4)], fenced := s.fenced 8 a,
      sizes := [d.p 0x14 4], counts := [d.p 0x18 8], range := ok && !s.badSpeed a v, state := if bad then stBadState else 0,
      onRange := countRefused (!(ok && s.badSpeed a v)) }
    (fun h s =>
      let to_ : Int := s.axPos a + dist * (s.mf a 0 4 : Nat)
      s.startAxis a (decide (0 < dist))
        { s.axis a with mode := 1, target := to_, stopAt := some to_, cruise := v * s.mf a 0 4, aim := v * s.mf a 0 4, moveOp := some h }))

/-- MOT_SPEED. -/
def execMotSpeed (d : Desc) (s : State) : Res State :=
  let a := d.p 0x10 1
  let v := d.p 0x20 4
  let ok := s.motRange d
  let bad := (!s.moving' a && s.limitOn a true) || (a == 0 && (!s.is .MOT_STATUS_OWN || s.conflict))
  .next (s.submit d
    { opcode := 0x0402, long := true, used := [(0x10, 1), (0x14, 4), (0x20, 4)], fenced := s.fenced 8 a,
      sizes := [d.p 0x14 4], range := ok && !s.badSpeed a v, state := if bad then stBadState else 0,
      onRange := countRefused (!(ok && s.badSpeed a v)) }
    (fun h s => s.setSpeed a h (v * s.mf a 0 4)))

/-- A ramped stop of AX0 asked for while its web may be in a backstep (R237, R239): one in phase 1, 3 or 4 runs to the end of its
positioning move, and the web then stays; a run-up ends on the ramp. A data-late condition turns such a ramp into a backstep (R242). -/
def State.webStop (s : State) : State :=
  if s.phase = 1 ∨ s.phase = 3 ∨ s.phase = 4 then { s with line := { s.line with stay := true } }
  else
    let turn := if (s.axis 0).mode = 3 then s.line.turn else true
    let s := (s.rampStop 0 (s.phase != 0)).set .MOT_STATUS_BS_PHASE 0
    { s with line := { s.line with turn := turn } }

/-- MOT_STOP carried out (R237). -/
def State.motStop (s : State) (a h mode : Nat) : State :=
  let x := s.axis a
  let add := s.setAxis a { x with stopOps := x.stopOps ++ [h] }
  if mode = 1 then (if s.moving' a || (a == 0 && s.phase != 0) then add.hardStop a else s.done h)
  else if a ≠ 0 then (if s.moving' a then add.rampStop a else s.done h)
  else if s.moving' 0 then add.webStop
  else if s.phase = 4 then (s.webStop).done h
  else s.done h

/-- MOT_STOP. -/
def execMotStop (d : Desc) (s : State) : Res State :=
  let a := d.p 0x10 1
  .next (s.submit d
    { opcode := 0x0403, long := true, used := [(0x10, 1), (0x11, 1)], fenced := s.fenced 8 a,
      range := decide (a ≤ 3 ∧ d.p 0x11 1 ≤ 1) && s.axUsed a, state := if a == 0 && !s.is .MOT_STATUS_OWN then stBadState else 0 }
    (fun h s => s.motStop a h (d.p 0x11 1)))

/-! ## Steps and rest -/

/-- Has axis `a` reached the point at which its steps cease? -/
def State.atStop (s : State) (a : Nat) : Bool := (s.axis a).stopAt == some (s.axPos a)

/-- STEP_ISSUE (R229, R233): one step of a moving axis towards its direction. `rate` is the step rate after it, in whole steps/s, and is the one
the profile gives (log entry 59). Under the test clock no axis steps (R46). -/
def execStepIssue (a rate : Nat) (s : State) : Res State :=
  let x := s.axis a
  let w := s.speedAt a 1
  .next (s.when (decide (a < 4) && s.moving' a && !s.atStop a && (a != 0 || s.drives) && s.get .RST_STRAPS_CLK_MODE != 0 &&
      decide (sq rate ≤ w ∧ w < sq (rate + 1)))
    (fun s =>
      let s := s.seti .MOT_POS_STEPS (s.axPos a + if s.forward a then 1 else -1) 0 a
      let s := (s.set .MOT_SPEED_RATE rate 0 a).out (.pin "AX_STEP_N" a (s.mf a 0x2C 2))
      let past := x.changes.filter (fun e => decide (s.ahead a e.1 ≤ 0))
      let s := s.setAxis a { x with v2 := w, cruise := ((past.getLast?).map Prod.snd).getD x.cruise,
                                    changes := x.changes.filter (fun e => decide (0 < s.ahead a e.1)) }
      if a = 0 then s.drShow else s))

/-- AXIS_AT_REST (R233, R237): the steps of an axis cease, at the target of its move or at the end of a ramped stop. On a device that
does not drive AX0, the rest of AX0 ends its line events (log entry 43). -/
def execAxisAtRest (a : Nat) (s : State) : Res State :=
  let x := s.axis a
  .next (if a = 0 ∧ !s.is .MOT_STATUS_OWN then (s.off .FIRE_STATUS_RUNNING).closeJob
    else if !(decide (a < 4) && s.moving' a && (x.mode == 1 || x.mode == 3) && s.atStop a && !(a == 0 && s.phase == 1)) then s
    else
      let s := (s.restAxis a).restOps a (s.axPos a != x.target)
      let s := if a = 0 then (s.off .FIRE_STATUS_RUNNING).closeJob else s
      match x.next with
      | some n => (s.setAxis a { s.axis a with next := none }).setSpeed a n.1 n.2
      | none => s)

/-- CRUISE_REACHED (R237): MOT_SPEED completes, but for one pending in a backstep or restart. -/
def execCruiseReached (a : Nat) (s : State) : Res State :=
  let x := s.axis a
  .next (match x.speedOp with
  | none => s
  | some h => s.when ((x.mode == 1 || x.mode == 2) && x.changes.isEmpty && decide (x.v2 = sq x.cruise) && !(a == 0 && s.phase != 0)) (fun s =>
      (s.setAxis a { x with speedOp := none }).done h))

/-! ## Inputs (R239) -/

/-- A ramped stop of an axis that no backstep follows: by a limit input, an encoder fault or DR_LIMIT (R239, R251, R254). -/
def State.plainStop (s : State) (a : Nat) : State :=
  let s := s.rampStop a (a == 0 && decide (5 ≤ s.phase))
  if a = 0 then State.set { s with line := { s.line with turn := false } } .MOT_STATUS_BS_PHASE 0 else s

/-- LIMIT_INPUT (R239): a filtered limit input changes; while the axis moves towards it, it acts. -/
def execLimitInput (a : Nat) (fwd active : Bool) (s : State) : Res State :=
  .next (s.when (decide (a < 4)) (fun s =>
    let s := if fwd then s.putB .MOT_INPUTS_LIMB a active else s.putB .MOT_INPUTS_LIMA a active
    let act := if fwd then s.mf a 0x2B 1 else s.mf a 0x2A 1
    if active && s.moving' a && s.forward a == fwd && act != 0 then
      let s := s.putB .MOT_INPUTS_LATCH (if fwd then a + 4 else a) true
      if act = 1 then s.hardStop a else (s.plainStop a).putB .MOT_STATUS_HELD a true
    else s))

/-- WEB_BREAK (R239). -/
def execWebBreak (active : Bool) (s : State) : Res State :=
  let fell := active && !s.is .MOT_INPUTS_BREAK
  let s := s.set .MOT_INPUTS_BREAK (b2n active)
  .next (if fell then
      let s := s.on .MOT_INPUTS_BREAK_SEEN
      s.each 4 (fun s a => if bit (s.sf 0x0050 0 2 1) a then s.hardStop a else s)
    else s)

/-- SPLICE (R239). -/
def execSplice (active : Bool) (s : State) : Res State :=
  let fell := active && !s.is .MOT_INPUTS_SPLICE
  let s := s.set .MOT_INPUTS_SPLICE (b2n active)
  .next (if fell then
      let s := ((s.on .MOT_INPUTS_SPLICE_SEEN).set .MOT_SPLICE_LINE_LINE (s.get .FIRE_LINE_LINE)).telEvent 0x0003 0
      if s.sf 0x0050 0 1 1 = 1 then s.webStop else s
    else s)

/-- JOB_END_STOP (R128): the ramp after the last page of a job, planned so that the page's last line is the last one reached. -/
def execJobEndStop (s : State) : Res State :=
  .next (match s.jobEnds.head? with
  | none => s
  | some n => s.when (s.is .MOT_STATUS_OWN && s.moving' 0 && s.forward 0 && s.line.live && (s.axis 0).mode == 2 && s.phase == 0 && s.lastDue n)
      (fun s =>
        let s := s.planLast n
        { s with line := { s.line with jobStop := true, turn := true } }))

/-! ## Line events (R199, R200) -/

/-- The step plan brings the event of line `y` now (R199): its position is reached, no line event is sent earlier than FLIGHT_MAX and
TRIG_LAT before its step, and the steps do not cease before it. -/
def State.stepDue (s : State) (y : Nat) : Bool :=
  let n := s.lineAt y - s.axPos 0
  let x := s.axis 0
  decide (0 ≤ n) && (match x.stopAt with | some p => decide (s.lineAt y ≤ p) | none => true) &&
  (decide (n ≤ 1) || decide (sq ((n.toNat - 1) * 2000000000) ≤ max x.v2 (s.speedAt 0 n.toNat) * sq s.sentAhead))

/-- In slaved mode the ENC0 position brings it (R200): the position of line `y` in counts less v × (FLIGHT_MAX + TRIG_LAT × 2.5 ns). -/
def State.slaveDue (s : State) (y : Nat) : Bool :=
  decide ((s.stepsToCounts 0 (s.lineAt y) + (s.scale 0).slip0 - s.encPos 0) * 2000000000 ≤ s.geti .ENC_SPEED_RATE * s.sentAhead)

/-- The next line whose event is due; lines behind the web are passed by, as after a take-over (log entry 134). -/
def State.lineDue (s : State) : Nat := if s.is .FIRE_STATUS_SLAVED then s.line.raised else max s.line.raised s.lineHere

/-- May line event `y` be raised (R199, R200, R230)? Line events of a job and of a web without one come alike; those from an announced hand-over
line on are for T0 (R359). -/
def State.mayRaise (s : State) (y : Nat) : Bool :=
  s.drives && s.is .FIRE_STATUS_OWNER && s.get .MASH_STATUS_STATE != 4 && s.line.live && s.moving' 0 && s.forward 0 &&
  ((s.axis 0).mode == 2 || (s.axis 0).mode == 3) && decide (s.phase ≤ 1) && !s.line.assisted.any (fun d => decide (d ≤ y)) &&
  !s.trio.handover.any (fun h => decide (h ≤ y)) &&
  (if s.is .FIRE_STATUS_SLAVED then s.slaveDue y else s.stepDue y)

/-- LINE_EVENT_RAISE (R199, R200): the owner sends the next line's frame and its stop-distance frame, and takes both itself. `ref` is
the reference instant of the frame. -/
def execLineEventRaise (ref : Nat) (s : State) : Res State :=
  let y := s.lineDue
  .next (s.when (s.mayRaise y) (fun s =>
    let d := s.dStop
    let s := { s with line := { s.line with raised := y + 1 } }
    let s := (s.out (.bus "frame" [mkFrame 1 y])).out (.bus "frame" [mkFrame 3 (y % 256 * 2 ^ 24 + d)])
    let s := s.set .MOT_STOPDIST_LINES d
    let inside := decide ((s.slipNow.natAbs : Nat) ≤ s.encf 0 0x10 4)
    let within := if inside then s.seq.within + 1 else 0
    let slave := !s.is .ENC_STATUS_DR && !inside && !s.line.noSlave
    let s := { s with seq := { s.seq with within := within }, line := { s.line with noSlave := s.line.noSlave && within < 64 } }
    ((if slave then s.on .FIRE_STATUS_SLAVED else s).lineFrame (y % 2 ^ 32) ref).busSend ref))

/-- SLAVED_MODE_EXIT (R200). -/
def execSlavedModeExit (s : State) : Res State :=
  .next (s.when (s.is .FIRE_STATUS_SLAVED && decide (64 ≤ s.seq.within)) (fun s => s.off .FIRE_STATUS_SLAVED))

/-! ## Data late and the backstep (R26, R139, R241-R244) -/

/-- The page that holds a line caused one backstep more (R129). -/
def State.blamePage (s : State) (y : Nat) : State :=
  { s with pages := s.pages.map (fun (p : Page) =>
      if p.first ≤ y ∧ y < p.first + p.lines then { p with backsteps := p.backsteps + 1 } else p) }

/-- DATA_LATE_REPORT (R26): a report raised here, or arriving from below, goes on to the bar manager and the active manager, who notes
the slot. In phases 1 to 4 the backstep under way covers it; otherwise another is due (R242), laid to the line's page (R129). -/
def execDataLateReport (slot line : Nat) (s : State) : Res State :=
  let mine := s.lateDue.contains (slot, line)
  let s := { s with lateDue := s.lateDue.filter (· != (slot, line)) }
  .next (if s.is .MOT_STATUS_OWN then
      let new := !decide (1 ≤ s.phase ∧ s.phase ≤ 4)
      { s with line := { s.line with late := insNat s.line.late slot, due := s.line.due || new,
                                     blame := if new && slot != archiveSlot && s.line.blame.isNone then some line else s.line.blame } }
    else if mine || s.role == roleBar || s.role == rolePress then s.out (.wort "dataLate" [slot, line]) else s)

/-- BACKSTEP_START (R241, R242): the ramp begins at the first line position after H, in phases 5 and 6 at the first step position. A ramp of
MOT_STOP, SPLICE_N or FLAGS.LAST under way becomes phase 1 and is kept; a MOT_SPEED that waited for it takes part in the backstep, and
without one the web stays after a MOT_STOP or SPLICE_N. -/
def execBackstepStart (s : State) : Res State :=
  let x := s.axis 0
  .next (s.when (s.is .MOT_STATUS_OWN && s.moving' 0 && s.forward 0 && s.line.due &&
      ((s.phase == 0 && (x.mode == 2 || (x.mode == 3 && s.line.turn))) || s.phase == 5 || s.phase == 6)) (fun s =>
    let stay := x.mode == 3 && x.next.isNone && (!s.line.jobStop || !x.stopOps.isEmpty)
    let s := match s.line.blame with | some y => s.blamePage y | none => s
    let s := s.rampStop 0 (s.phase != 0)
    let s := match x.next, x.speedOp with | some _, some o => s.finish o stDone 1 0 | _, _ => s
    let s := match x.next with
      | some n => s.setAxis 0 { s.axis 0 with next := none, speedOp := some n.1, aim := n.2 }
      | none => s
    State.set { s with line := { s.line with due := false, blame := none, counted := true, jobStop := false, turn := false,
                                             stay := stay || s.line.stay } } .MOT_STATUS_BS_PHASE 1))

/-- A backstep has been completed: it is counted where it was one (R243). -/
def State.countBackstep (s : State) : State :=
  let s := if s.line.counted then s.bump .MOT_BS_COUNT_BACKSTEPS else s
  { s with line := { s.line with counted := false } }

/-- BACKSTEP_STOPPED (R241, R244, R128): the steps cease at P_stop. Where the job's last line has been passed the web stays and the job ends;
after a backstep-assisted apply that nothing joined it does not reverse. -/
def execBackstepStopped (s : State) : Res State :=
  .next (s.when (s.is .MOT_STATUS_OWN && s.phase == 1 && s.atStop 0) (fun s =>
    let s := (s.restAxis 0).off .FIRE_STATUS_RUNNING
    let s := { s with line := { s.line with pStop := s.axPos 0 } }
    if s.jobDone then (((s.restOps 0 true).countBackstep).endJob).set .MOT_STATUS_BS_PHASE 0
    else
      let plain := match s.line.assisted with
        | some d => s.line.late.isEmpty && decide (s.unfired = d ∧ s.axPos 0 < s.lineAt d)
        | none => false
      if plain then ((s.set .MOT_BS_RESUME_LINE s.unfired).set .MOT_STATUS_BS_PHASE 4).stopsDone
      else s.position))

/-- BACKSTEP_POSITIONED (R241): P_rev is reached; a MOT_STOP completes, and the web stays (R237). A print speed set meanwhile moves P_rev. -/
def execBackstepPositioned (s : State) : Res State :=
  .next (s.when (s.is .MOT_STATUS_OWN && s.phase == 3 && s.atStop 0) (fun s => (s.restAxis 0).setOut))

/-- Are the waiting conditions of phase 4 met (R139, R93, R144, R237)? `others` says so for the channels of other devices. -/
def State.runUpOk (s : State) (others : Bool) : Bool :=
  others && !s.line.stay && !s.archive.holding && !s.fireHeld s.seq.next && !s.is .MOT_STATUS_RESUME_FAIL && !s.fenced 8 0 &&
  s.line.late.all (fun k => k != s.lateSlot (k % 64) || s.outOfPrint (k % 64) || decide (s.highWater (k % 64) ≤ s.avail (k % 64)))

/-- BACKSTEP_RUN_UP (R241, R244): from rest to the print speed. An assisted apply that did not reverse moves the line origin, and
MOT_GAP records the blank web. -/
def execBackstepRunUp (others : Bool) (s : State) : Res State :=
  .next (s.when (s.is .MOT_STATUS_OWN && s.phase == 4 && s.runUpOk others) (fun s =>
    let v := (s.axis 0).aim
    let s := match s.line.assisted with
      | some d =>
        let new : Int := s.axPos 0 + s.runUp 0 v + s.mf 0 0x28 2 * s.stepsPerLine
        let gap := ((new - s.lineAt d) / (s.stepsPerLine : Int)).toNat
        State.set { s with line := { s.line with y0 := d, p0 := new, raised := d, assisted := none } } .MOT_GAP_LINES gap
      | none => s
    if s.limitOn 0 true then s.holdWeb
    else (s.startAxis 0 true { s.axis 0 with mode := 5, cruise := v }).set .MOT_STATUS_BS_PHASE 5))

/-- BACKSTEP_SETTLE (R241): v_p is reached, at X_N − SETTLE × S. -/
def execBackstepSettle (s : State) : Res State :=
  .next (s.when (s.is .MOT_STATUS_OWN && s.phase == 5 && decide ((s.axis 0).v2 = sq (s.axis 0).cruise) &&
      decide (s.axPos 0 = s.lineAt s.line.raised - s.mf 0 0x28 2 * s.stepsPerLine)) (fun s => s.set .MOT_STATUS_BS_PHASE 6))

/-- The resume passes: the backstep ends, a MOT_SPEED completes, and line N is raised next. -/
def State.resume (s : State) : State :=
  let x := s.axis 0
  let s := s.countBackstep
  let s := { s with line := { s.line with late := if s.line.due then s.line.late else [], fails := 0, live := true } }
  let s := (s.setAxis 0 { x with mode := 2, speedOp := if x.changes.isEmpty then none else x.speedOp }).set .MOT_STATUS_BS_PHASE 0
  match x.speedOp with | some h => if x.changes.isEmpty then s.done h else s | none => s

/-- RESUME_TEST (R243): line event N is due. -/
def execResumeTest (s : State) : Res State :=
  let num : Int := s.encf 0 8 4
  let den : Int := s.encf 0 0xC 4
  let want : Int := (s.axis 0).cruise * num
  let dv := s.geti .ENC_SPEED_RATE 0 0 * den - want
  let slip := s.slipNow
  let dr := s.is .ENC_STATUS_DR
  let okV := decide (200 * dv.natAbs ≤ want.natAbs)
  let okP := decide (4 * (slip * den).natAbs ≤ (s.stepsPerLine * num).natAbs)
  .next (s.when (s.is .MOT_STATUS_OWN && s.phase == 6 && s.stepDue s.line.raised) (fun s =>
    let s := if dr then ((s.bump .MOT_BS_COUNT_UNVERIFIED).set .MOT_BS_ERR_SPEED 0).set .MOT_BS_ERR_POS 0
      else (s.setSat .MOT_BS_ERR_SPEED (dv * 100000 / want)).setSat .MOT_BS_ERR_POS (slip * den * 256 / (s.stepsPerLine * num))
    if dr || (okV && okP && !s.is .FIRE_STATUS_SLAVED) then s.resume
    else
      let s := s.bump .MOT_BS_COUNT_RETRIES
      let n := s.line.fails + 1
      let s := ({ s with line := { s.line with fails := n } } : State).rampStop 0
      if n = 3 then (s.on .MOT_STATUS_RESUME_FAIL).set .MOT_STATUS_BS_PHASE 0 else s.set .MOT_STATUS_BS_PHASE 1))

/-! ## Encoder faults (R248, R250-R254) -/

/-- The fault event and its vector. -/
def State.encIrq (s : State) (x : Nat) : State :=
  if bit (s.get .ENC_IRQ_FAULT_EN) x then s.msix (s.get .ENC_IRQ_VECTOR) else s

/-- ENCODER_FAULT (R248, R250, R254): the fault found in the samples acts. The owner and every trio member run dead reckoning on ENC0. -/
def execEncoderFault (x : Nat) (s : State) : Res State :=
  let e := s.scale x
  .next (s.when (s.encUsed x && e.fault != 0) (fun s =>
    let s := (s.putB .ENC_STATUS_VALID x false).putB .ENC_EVENT_FAULT_SEEN x true
    let s := ((s.set .ENC_FAULT_CAUSE e.fault 0 x).bump .ENC_FAULT_COUNT 1 0 x).encIrq x
    let s := s.setScale x { e with fault := 0, faulted := true }
    if x = 0 then
      if s.is .MOT_STATUS_OWN || s.role == rolePress || s.role == roleTrio then
        let s := ((s.on .ENC_STATUS_DR).set .ENC_DR_LINES 0).off .FIRE_STATUS_SLAVED
        State.drShow { s with line := { s.line with drBase := 0, drOver := false } }
      else s
    else
      let a := s.encf x 0 1
      if a = 1 ∨ a = 2 ∨ a = 3 then
        match s.encf x 1 1 with
        | 1 => s.hardStop a
        | 2 => s.plainStop a
        | _ => s
      else s))

/-- The position nearest `p` that carries the measured phase (R252). -/
def nearest (p : Int) (phase : Nat) : Int :=
  let d := phaseStep (p % 4096).toNat phase
  p + d

/-- ENCODER_RECOVER (R248, R252, R254): 4,096 good samples in a row make the input valid, at the start (log entry 53) and after a fault. -/
def execEncoderRecover (x : Nat) (s : State) : Res State :=
  let e := s.scale x
  .next (s.when (s.encUsed x && !s.encValid x && decide (4096 ≤ e.good)) (fun s =>
    let s := s.putB .ENC_STATUS_VALID x true
    let s := if e.faulted then (s.putB .ENC_EVENT_RECOVERED x true).encIrq x else s
    let a := s.encf x 0 1
    let dr := x == 0 && s.is .ENC_STATUS_DR
    let held := if dr then s.stepsToCounts 0 (s.axPos 0) + e.slip0
      else if x ≠ 0 ∧ a ≤ 3 then s.stepsToCounts x (s.axPos a) else s.encPos x
    let p := nearest held e.phase
    let s := (s.seti .ENC_POS_COUNTS p 0 x).setScale x { e with bad := 0, fault := 0, faulted := false, far := p, past := [] }
    if x = 0 then
      let s := if dr then s.setSat .ENC_REBASE_COUNTS (p - held) else s
      ({ s with line := { s.line with noSlave := dr || s.line.noSlave }, seq := { s.seq with within := 0 } } : State).off .ENC_STATUS_DR
        |>.showSlip
    else s))

/-- DR_LIMIT (R251): AX0 stops on the ramp without reversing, and the press is held with its job in progress. A start or restart allows
as many lines again. -/
def execDrLimit (s : State) : Res State :=
  .next (s.when (s.is .ENC_STATUS_DR && s.is .MOT_STATUS_OWN && !s.line.drOver &&
      decide (s.line.drBase + s.encf 0 0x14 4 ≤ s.get .ENC_DR_LINES)) (fun s =>
    let s := ({ s with line := { s.line with drOver := true } } : State).on .ENC_EVENT_DR_LIMIT
    let s := if s.is .ENC_IRQ_DR_EN then s.msix (s.get .ENC_IRQ_VECTOR) else s
    if s.phase = 3 ∨ s.phase = 4 then { s with line := { s.line with stay := true } } else s.plainStop 0))

/-! ## Counts -/

/-- MOT_BS_COUNT_CLR (R243). -/
def execMotBsCountClr (s : State) : Res State :=
  .next (s.reach .motion 0 (fun s =>
    s.clear [.MOT_BS_COUNT_BACKSTEPS, .MOT_BS_COUNT_RETRIES, .MOT_BS_COUNT_UNVERIFIED]))

/-- MOT_REFUSED_CLR (R236). -/
def execMotRefusedClr (s : State) : Res State :=
  .next (s.reach .motion 0 (fun s => s.set .MOT_REFUSED_COUNT 0))

/-- MOT_HARD_LINES_CLR (R240). -/
def execMotHardLinesClr (s : State) : Res State :=
  .next (s.reach .motion 0 (fun s => s.set .MOT_HARD_LINES_COUNT 0))

end Sys2Proof.Machine
end

