-- ==== Sys2Proof/Machine/Camera.lean ====
section
/-! DEFINITION. Camera ports, exposure triggers, the ISP pipes' six stages, frames lost and stale, and the statistics records
(spec/14_inspection_capture.md, R255-R272). -/

namespace Sys2Proof.Machine

/-! ## Ports -/

/-- Camera port `x`. -/
def State.cam (s : State) (x : Nat) : Cam := look {} s.cams x
def State.setCam (s : State) (x : Nat) (m : Cam) : State := { s with cams := store {} s.cams x m }

/-- A field of the CAMERA section of port `x`. -/
def State.cf (s : State) (x o n : Nat) : Nat := s.sf 0x0040 x o n

/-- The ISP pipe of port `x`, the port's place in it, and a field of its block of the ISP section (R268). -/
def State.pipeOf (s : State) (x : Nat) : Nat := s.cf x 3 1
def State.portPlace (s : State) (x : Nat) : Nat := if s.sf 0x0041 (s.pipeOf x) 1 1 = x then 0 else 1
def State.ispf (s : State) (x o n : Nat) : Nat := s.sf 0x0041 (s.pipeOf x) (0x40 + 64 * s.portPlace x + o) n

/-- Bits per pixel of a data type (R255), 0 for any other. -/
def dtBits (dt : Nat) : Nat := if dt = 0x24 then 24 else if dt = 0x2B then 10 else if dt = 0x2C then 12 else if dt = 0x2D then 14 else 0

/-- Exposures per device frame in press lines (R259), and the frame of a covered line. -/
def State.frameSpan (s : State) (x : Nat) : Nat := s.cf x 2 1 * s.cf x 8 2
def State.frameOf (s : State) (x c : Nat) : Nat := c / max 1 (s.frameSpan x) * s.frameSpan x

/-- The stream of a virtual channel. -/
def State.streamOf (s : State) (x vc : Nat) : Option Nat :=
  (List.range (min 3 (s.cf x 1 1))).find? (fun i => s.cf x (0x20 + 8 * i) 1 == vc)

/-- The data type of the port's streams, and the rows its lines carry. -/
def State.camDt (s : State) (x : Nat) : Nat := s.cf x 0x21 1
def State.rowsUsed (s : State) (x : Nat) : List Nat :=
  if s.camDt x = 0x24 then [0, 1, 2] else (List.range (min 3 (s.cf x 1 1))).map (fun i => s.cf x (0x22 + 8 * i) 1)

/-- Lines by which row `r` is delayed; components of one RGB888 row are not (R262). -/
def State.rowDly (s : State) (x r : Nat) : Nat := if s.camDt x = 0x24 then 0 else s.ispf x (0xA + r) 1

/-- Is the port working: configured, powered with its pipe, not fenced? -/
def State.camOn (s : State) (x : Nat) : Bool :=
  decide (x < 8) && s.hasSect 0x0040 x && s.hasSect 0x0041 (s.pipeOf x) && s.powered (106 + x) && s.powered (114 + s.pipeOf x) &&
  !s.fenced 7 x

/-! ## Lost frames (R270) -/

/-- The ranges in use: first column, count, target device, channel. -/
def State.ranges (s : State) (x : Nat) : List (Nat × Nat × Nat × Nat) :=
  (List.range 16).map (fun j => (s.cf x (0x40 + 8 * j) 2, s.cf x (0x42 + 8 * j) 2, s.cf x (0x44 + 8 * j) 2, s.cf x (0x46 + 8 * j) 1))

/-- A notice, record or line to each range in use. -/
def State.toRanges (s : State) (x : Nat) (f : Nat → Nat × Nat × Nat × Nat → Out) : State :=
  s.each 16 (fun s j => let r := (s.ranges x).getD j (0, 0, 0, 0); if r.2.1 = 0 then s else s.out (f j r))

/-- Frame `f` of port `x`, open or yet to open, is lost with a cause; it leaves the open frames and the encoder lane, and each range has
its notice. A frame whose record was sent, or that was lost before, is not lost again. -/
def State.loseOne (s : State) (x f cause : Nat) : State :=
  let m := s.cam x
  if f < m.top && !m.frames.any (fun g => g.no == f) then s
  else
    let s := s.setCam x { m with frames := m.frames.filter (fun g => g.no != f), top := max m.top (f + 1) }
    let s := (s.bump .CAM_LOST_COUNT 1 x).set .CAM_LOST_CAUSE cause x
    (s.encDrop x f).toRanges x (fun j r => .wort "lostNotice" [r.2.2.1, r.2.2.2, x, j, f])

/-- A frame is lost, and with it the frame before it if that still needs its row lines (R266). -/
def State.loseFrame (s : State) (x f cause : Nat) : State :=
  let needs := (s.rowsUsed x).any (fun r => s.rowDly x r != 0)
  let before := (s.cam x).frames.find? (fun g => g.no + s.frameSpan x == f && needs && decide (g.sent < s.cf x 8 2))
  let s := s.loseOne x f cause
  match before with
  | some g => s.loseOne x g.no 6
  | none => s

/-- Every open frame lost with one cause. -/
def State.loseAll (s : State) (x cause : Nat) : State :=
  (s.cam x).frames.foldl (fun s g => s.loseOne x g.no cause) s

/-- A port fenced (R270): its triggers stop at once; when the fence is lifted it waits for the camera's next frame start. -/
def State.stopCam (s : State) (x : Nat) : State :=
  let s := s.loseAll x 7
  (s.setCam x { s.cam x with planned := [], next := 0, trigs := [], cur := [(none, 0), (none, 0), (none, 0)], rows := [] }).off
    .CAM_STATUS_PAIRED x
def State.fenceCam (s : State) (x cause : Nat) : State := (s.recordFence 7 x cause).stopCam x

/-! ## Exposure triggers (R258-R261) -/

/-- EXPOSURE_TRIGGER (R258, R260): the oldest planned trigger of port `x` comes due. Exposures skipped since the one before were never
triggered. -/
def execExposureTrigger (x : Nat) (s : State) : Res State :=
  let m := s.cam x
  .next (match m.planned with
  | [] => s
  | (c, _) :: rest =>
    if !s.camOn x then
      let s := s.setCam x { m with planned := rest, next := c + max 1 (s.cf x 2 1) }
      if s.hasSect 0x0040 x then s.loseFrame x (s.frameOf x c) 7 else s
    else
      let f := s.frameOf x c
      let div := max 1 (s.cf x 2 1)
      let s := s.setCam x { m with planned := rest, next := c + div }
      let first := if m.next = 0 then f else m.next
      let skipped := if first < c then first else c
      let s := (List.range ((c - skipped) / div)).foldl (fun s k => s.loseFrame x (s.frameOf x (skipped + k * div)) 3) s
      if s.is .ISP_STATUS_PAUSED (s.pipeOf x) then s.loseFrame x f 7
      else if 16 ≤ m.trigs.length then s.loseFrame x f 4
      else
        let n := s.cam x
        let open_ := decide (f < n.top)
        let fr : CamFrame := { no := f, time := s.clock.stamp }
        let t : CamTrig := { line := c, left := 2 ^ (s.cf x 1 1) - 1 }
        let fs := if open_ then n.frames else n.frames ++ [fr]
        (s.setCam x { n with frames := fs, top := max n.top (f + 1), trigs := n.trigs ++ [t] }).out
          (.pin "CAM_TRIG_N" x (s.cf x 0xA 2)))

/-- FRAME_LATENCY_TIMEOUT (R260): the oldest trigger's row lines have not all come within LAT_MAX. -/
def execFrameLatencyTimeout (x : Nat) (s : State) : Res State :=
  let m := s.cam x
  .next (match m.trigs with
  | [] => s
  | t :: rest => s.when (s.camOn x) (fun s => (s.setCam x { m with trigs := rest }).loseFrame x (s.frameOf x t.line) 3))

/-- JOB_END_CLOSING_TRIGGER (R261): after a job's end the open frames are lost, and the camera's frame is completed by closing
triggers. -/
def execJobEndClosingTrigger (x : Nat) (s : State) : Res State :=
  let m := s.cam x
  .next (s.when (s.camOn x && s.axStopped && !s.is .MOT_STATUS_JOB && m.trigs.isEmpty && m.planned.isEmpty) (fun s =>
    let left := if m.frames.isEmpty then m.closing
      else (s.frameSpan x - (m.next - s.frameOf x (m.next - 1))) / max 1 (s.cf x 2 1)
    let s := s.loseAll x 5
    if left = 0 then s.setCam x { s.cam x with closing := 0 }
    else (s.setCam x { s.cam x with closing := left - 1, next := if left = 1 then 0 else m.next }).out
      (.pin "CAM_TRIG_N" x (s.cf x 0xA 2))))

/-! ## Packets (R255, R256, R259) -/

/-- CSI_LINK_CHANGE (R255). -/
def execCsiLinkChange (x : Nat) (up : Bool) (s : State) : Res State :=
  .next (s.when (decide (x < 8) && s.powered (106 + x)) (fun s => s.set .CAM_STATUS_LINK (b2n up) x))

/-- The frame a stream is in, and row lines of it received. -/
def Cam.at (m : Cam) (i : Nat) : Option Nat × Nat := m.cur.getD i (none, 0)
def Cam.setAt (m : Cam) (i : Nat) (v : Option Nat × Nat) : Cam := { m with cur := m.cur.set i v }

/-- The first frame being received on any stream. -/
def Cam.receiving (m : Cam) : Option Nat := (m.cur.filterMap Prod.fst).min?

/-- An uncorrectable header: the packet is discarded and the frame being received is lost with cause 1 (R256). -/
def State.badHeader (s : State) (x : Nat) : State :=
  let s := s.bump .CAM_PHY_ERR_ECC_FAIL 1 x
  match (s.cam x).receiving with
  | some f => s.loseFrame x f 1
  | none => s

/-- Frame start on stream `i` (R259): it pairs with the frame of the next trigger that stream has not answered; one that comes
inside a frame is a wrong marker (R260). -/
def State.frameStart (s : State) (x i : Nat) : State :=
  let s := match ((s.cam x).at i).1 with
    | some g => s.loseFrame x g 3
    | none => s
  let m := s.cam x
  match m.trigs.find? (fun t => bit t.left i) with
  | some t => (s.setCam x (m.setAt i (some (s.frameOf x t.line), 0))).on .CAM_STATUS_PAIRED x
  | none => s.setCam x (m.setAt i (none, 0))

/-- Frame end on stream `i`: due after row line FRAME_LINES (R259). The triggers of that frame await nothing more of the stream. -/
def State.frameEnd (s : State) (x i : Nat) : State :=
  let c := (s.cam x).at i
  match c.1 with
  | none => s
  | some f =>
    let s := if c.2 = s.cf x 8 2 then s else s.loseFrame x f 3
    let m := s.cam x
    let trigs := (m.trigs.map (fun (t : CamTrig) => if t.line < f + s.frameSpan x then { t with left := clrBit t.left i } else t)).filter
      (fun t => t.left != 0)
    let m := { m.setAt i (none, 0) with trigs := trigs }
    let s := s.setCam x m
    if m.cur.any (fun e => e.1 == some f) then s
    else s.encEnd x f

/-- CSI_SHORT_PACKET (R255, R256, R259): `hdr` is 0 for a good header, 1 for a corrected one, 2 for an uncorrectable one. -/
def execCsiShortPacket (x hdr vc dt : Nat) (s : State) : Res State :=
  .next (s.when (s.camOn x) (fun s =>
    if 2 ≤ hdr then s.badHeader x
    else
      let s := if hdr = 1 then s.bump .CAM_PHY_ERR_ECC_CORR 1 x else s
      match s.streamOf x vc with
      | none => s.bump .CAM_PHY_ERR_DT_DROP 1 x
      | some i => if dt = 0 then s.frameStart x i else if dt = 1 then s.frameEnd x i else s))

/-! ## The six stages (R262-R267) -/

/-- Stage 1: samples of 14 bits. -/
def normShift (dt : Nat) : Nat := if dt = 0x2B then 4 else if dt = 0x2C then 2 else if dt = 0x24 then 6 else 0

/-- Stage 2: a sample less the tracked level, and the level's next value (R263). -/
def blackSub (b v : Nat) : Nat := v - (b + 8) / 16
def blackNext (b first count : Nat) (px : List Nat) : Nat :=
  if count = 0 then b
  else
    let m := 16 * ((List.range count).map (fun i => px.getD (first + i) 0)).sum / count
    ((b : Int) + ((m : Int) - b + 32) / 64).toNat

/-- Stage 3 (R264): a listed pixel becomes the mean of its nearest unlisted neighbours, rounded half up. -/
def repair (bad : List Nat) (px : List Nat) : List Nat :=
  let n := px.length
  (List.range n).map (fun i =>
    if !bad.contains i then px.getD i 0
    else
      let left := ((List.range i).filter (fun j => !bad.contains j)).getLast?
      let right := ((List.range n).filter (fun j => decide (i < j) && !bad.contains j)).head?
      match left, right with
      | some a, some b => (px.getD a 0 + px.getD b 0 + 1) / 2
      | some a, none => px.getD a 0
      | none, some b => px.getD b 0
      | none, none => px.getD i 0)

/-- The defects of row `r` of port `x`, from the list of the ISP section. -/
def State.defects (s : State) (x r : Nat) : List Nat :=
  let b := s.sect 0x0041 (s.pipeOf x)
  let o := s.ispf x 0x2C 4
  (List.range (s.ispf x 0x12 2)).filterMap (fun k =>
    if fieldAt b (o + 4 * k + 2) 1 = r then some (fieldAt b (o + 4 * k) 2) else none)

/-- Stage 4 (R265). -/
def shade (g v : Nat) : Nat := min 16383 ((v * g + 2048) / 4096)

/-- Stage 5 (R266): a row moved across the web by `sh` sixteenths of a pixel towards higher pixels, interpolated, edges repeated. -/
def shiftRow (sh : Int) (px : List Nat) : List Nat :=
  let n : Int := px.length
  let at_ : Int → Int := fun k => (px.getD (clampInt 0 (n - 1) k).toNat 0 : Nat)
  (List.range px.length).map (fun i =>
    let q : Int := 16 * (i : Int) - sh
    let k := q / 16
    let f := q % 16
    (((16 - f) * at_ k + f * at_ (k + 1) + 8) / 16).toNat)

/-- Stage 6 (R267): `m` gives the matrix entries and `off` the offsets. -/
def colour (m : Nat → Nat → Int) (off : Nat → Int) (inp : List Nat) : List Nat :=
  (List.range 3).map (fun o =>
    (clampInt 0 16383 ((((List.range 3).map (fun r => m o r * (inp.getD r 0 : Nat))).sum + 2048) / 4096 + off o)).toNat)

/-- The gain row of row `r`: by its place among the streams' rows; the one row of RGB888 serves its three components (log entry 65). -/
def State.gainRow (s : State) (x r : Nat) : List Nat :=
  let k := if s.camDt x = 0x24 then 0 else ((s.rowsUsed x).filter (fun q => decide (q < r))).length
  (s.cam x).gains.getD k []

/-- A 16-bit field that shows a black level; of a level beyond the field spec/ states no reading: a free value (log entry 139). -/
def State.showBlack (s : State) (f : Fld) (v i k : Nat) : State :=
  if v < 65536 then s.set f v i k else s.free.2.set f s.free.1 i k

/-- The black level of row `r` of port `x` replaced, and its register (R263). -/
def State.setBlack (s : State) (x r v : Nat) : State :=
  let m := s.cam x
  (s.setCam x { m with black := m.black.set r v }).showBlack .ISP_BLACK_LEVEL v (s.pipeOf x) (3 * s.portPlace x + r)

/-- b_ref of row `r` taken from its black level (R271, R272). -/
def State.takeRef (s : State) (x r : Nat) : State :=
  let m := s.cam x
  let v := m.black.getD r 0
  (s.setCam x { m with blackRef := m.blackRef.set r v }).showBlack .ISP_BLACK_REF v (s.pipeOf x) (3 * s.portPlace x + r)

/-- Stages 1 to 4 on one row line. -/
def State.correctRow (s : State) (x r : Nat) (px : List Nat) : List Nat × State :=
  let b := (s.cam x).black.getD r 0
  let v := px.map (fun p => p * 2 ^ normShift (s.camDt x))
  let g := s.gainRow x r
  let w := repair (s.defects x r) (v.map (blackSub b))
  let out := (List.range w.length).map (fun j => shade (g.getD j 0) (w.getD j 0))
  let s := s.setBlack x r (blackNext b (s.ispf x 6 2) (s.ispf x 8 2) v)
  let m := s.cam x
  (out, s.setCam x { m with tracked := m.tracked.set r (min 256 (m.tracked.getD r 0 + 1)) })

/-- Does a row line make its frame STALE (R271)? -/
def State.rowStale (s : State) (x r : Nat) : Bool :=
  let m := s.cam x
  let b : Int := (m.black.getD r 0 : Nat)
  bit (s.get .ISP_RECAL_PORT (s.pipeOf x)) x || decide ((s.ispf x 0x34 2 : Nat) < (b - (m.blackRef.getD r 0 : Nat)).natAbs) ||
  decide (m.tracked.getD r 0 < 256)

/-- ISP_STATUS.SHADOW of pipe `i` kept up to date: a shadow table of one of its ports is written and not yet applied. -/
def State.showShadow (s : State) (i : Nat) : State :=
  s.set .ISP_STATUS_SHADOW (b2n ((List.range 8).any (fun x => s.hasSect 0x0040 x && s.pipeOf x == i && (s.cam x).shadow.isSome))) i

/-- The aligned line of exposure `e`, if every row line it needs has come. -/
def State.aligned (s : State) (x e : Nat) : Option (List (List Nat)) :=
  let used := s.rowsUsed x
  let m := s.cam x
  let rows := used.map (fun r => (r, (m.rows.find? (fun q => q.1 == r && q.2.1 == e + s.rowDly x r)).map (fun q => q.2.2)))
  if rows.any (fun q => q.2.isNone) then none
  else
    let sh := fun r => if s.camDt x = 0x24 then 0 else toSigned 8 (s.ispf x (0xE + r) 1)
    let moved := rows.map (fun q => (q.1, shiftRow (sh q.1) (q.2.getD [])))
    let comp := fun r => ((moved.find? (fun q => q.1 == r)).map Prod.snd).getD []
    let mat := fun o r => toSigned 16 (s.ispf x (0x14 + 2 * (3 * o + r)) 2)
    let off := fun o => toSigned 16 (s.ispf x (0x26 + 2 * o) 2)
    some ((List.range (s.cf x 6 2)).map (fun j => colour mat off ((List.range 3).map (fun r => (comp r).getD j 0))))

/-- Bins of a range, and the sums of a line's columns in them (R269). -/
def State.binOf (s : State) (x : Nat) : Nat := max 1 (s.ispf x 0x11 1)
def addBins (bin first count : Nat) (line : List (List Nat)) (sums : List (List Nat)) : List (List Nat) :=
  (List.range ((count + bin - 1) / bin)).map (fun k => (List.range 3).map (fun o =>
    (sums.getD k []).getD o 0 + ((List.range (min bin (count - bin * k))).map (fun j =>
      (line.getD (first + bin * k + j) []).getD o 0)).sum))

/-- The aligned line of exposure `e`, once complete, is sent to each range and summed (R269). -/
def State.sendAligned (s : State) (x e : Nat) : State :=
  let c := e * s.cf x 2 1
  let f := s.frameOf x c
  match (s.cam x).frames.find? (fun g => g.no == f), s.aligned x e with
  | some g, some line =>
    let r := s.ranges x
    let sums := (List.range 16).map (fun j =>
      let q := r.getD j (0, 0, 0, 0); addBins (s.binOf x) q.1 q.2.1 line (g.sums.getD j []))
    let g := { g with sent := g.sent + 1, sums := sums }
    let m := s.cam x
    let s := s.setCam x { m with frames := m.frames.map (fun h => if h.no = f then g else h) }
    s.toRanges x (fun j q => .wort "alignedLine" ([q.2.2.1, q.2.2.2, x, j, f, c] ++ ((line.drop q.1).take q.2.1).flatten))
  | _, _ => s

/-- Full-scale input samples of a range (R269). -/
def satCount (dt first count : Nat) (px : List (List Nat)) : Nat :=
  let full := if dt = 0x24 then 255 else 2 ^ dtBits dt - 1
  (((px.drop first).take count).filter (fun p => p.any (· == full))).length

/-- A good row line `k` of frame `f` on stream `i`: its exposure is no longer awaited; it passes the stages unless the frame is lost.
`px` holds each pixel's components. -/
def State.rowLine (s : State) (x i f k : Nat) (px : List (List Nat)) : State :=
  let c := f + k * s.cf x 2 1
  let m := s.cam x
  let waited := m.trigs.any (fun t => t.line == c && bit t.left i)
  let trigs := (m.trigs.map (fun (t : CamTrig) => if t.line = c then { t with left := clrBit t.left i } else t)).filter (fun t => t.left != 0)
  let s := s.setCam x { m.setAt i (some f, k + 1) with trigs := trigs }
  if !m.frames.any (fun g => g.no == f) then s
  else if s.cf x 8 2 ≤ k ∨ !waited then s.loseFrame x f 3
  else
    let dt := s.camDt x
    let pipe := s.pipeOf x
    let rows := if dt = 0x24 then [0, 1, 2] else [s.cf x (0x22 + 8 * i) 1]
    let s := if k = 0 ∧ m.apply then
        let s := s.setCam x { s.cam x with gains := m.shadow.getD m.gains, shadow := none, apply := false }
        (s.each 3 (fun s r => s.takeRef x r)).showShadow pipe
      else s
    let stale := rows.any (s.rowStale x)
    let rg := s.ranges x
    let n := s.cam x
    let s := s.setCam x { n with frames := n.frames.map (fun (g : CamFrame) => if g.no = f then
      { g with stale := g.stale || stale, sat := (List.range 16).map (fun j =>
          let q := rg.getD j (0, 0, 0, 0); g.sat.getD j 0 + satCount dt q.1 q.2.1 px) } else g) }
    let s := if bit s.archive.mask x then
        s.encLine x f ((n.frames.find? (fun g => g.no == f)).map CamFrame.time |>.getD 0) (if dt = 0x24 then 8 else dtBits dt)
          (if dt = 0x24 then 3 else 1) ((List.range (if dt = 0x24 then 3 else 1)).map (fun o => px.map (fun p => p.getD o 0)))
      else s
    let e := c / max 1 (s.cf x 2 1)
    rows.foldl (fun s r =>
      let v := s.correctRow x r (px.map (fun p => p.getD (if dt = 0x24 then r else 0) 0))
      let m := v.2.cam x
      let kept := m.rows.filter (fun q => decide (e < q.2.1 + 64) && !(q.1 == r && q.2.1 == e))
      let s := v.2.setCam x { m with rows := kept ++ [(r, e, v.1)] }
      if s.rowDly x r ≤ e then s.sendAligned x (e - s.rowDly x r) else s) s

/-- The pixels of a long packet with their components: three in turn for RGB888. -/
def pixelsOf (dt n : Nat) (px : List Nat) : List (List Nat) :=
  if dt = 0x24 then (List.range n).map (fun i => (List.range 3).map (fun o => px.getD (3 * i + o) 0))
  else (List.range n).map (fun i => [px.getD i 0])

/-- CSI_LONG_PACKET (R255, R256, R259): `pixels` are the payload's samples, unpacked; `wc` is the word count. -/
def execCsiLongPacket (x hdr vc dt wc : Nat) (crcOk : Bool) (pixels : List Nat) (s : State) : Res State :=
  .next (s.when (s.camOn x) (fun s =>
    if 2 ≤ hdr then s.badHeader x
    else
      let s := if hdr = 1 then s.bump .CAM_PHY_ERR_ECC_CORR 1 x else s
      match s.streamOf x vc with
      | none => s.bump .CAM_PHY_ERR_DT_DROP 1 x
      | some i =>
        if dt ≠ s.camDt x then s.bump .CAM_PHY_ERR_DT_DROP 1 x
        else
          let n := s.cf x 6 2
          let cur := (s.cam x).at i
          if !crcOk || 8 * wc != n * dtBits dt then
            let s := s.bump .CAM_PHY_ERR_CRC_FAIL 1 x
            match cur.1 with
            | some f => s.loseFrame x f 2
            | none => s
          else match cur.1 with
            | some f => s.rowLine x i f cur.2 (pixelsOf dt n (pixels.map (fun p => p % 2 ^ (if dt = 0x24 then 8 else dtBits dt))))
            | none => s))

/-! ## Records (R269, R271) -/

/-- The bytes of a statistics record of range `j`. -/
def State.statsRecord (s : State) (x j : Nat) (g : CamFrame) : List Byte :=
  let q := (s.ranges x).getD j (0, 0, 0, 0)
  leBytes 8 g.no ++ leBytes 4 g.time ++ leBytes 1 x ++ leBytes 1 (b2n g.stale) ++ leBytes 2 (s.cf x 8 2) ++ leBytes 2 q.1 ++
  leBytes 2 ((q.2.1 + s.binOf x - 1) / s.binOf x) ++ leBytes 4 (g.sat.getD j 0) ++
  leBytes 4 ((s.cam x).black.getD 0 0) ++ leBytes 4 0 ++
  ((g.sums.getD j []).flatMap (fun b => b.flatMap (leBytes 4)))

/-- FRAME_RECORD_SEND (R269): the last aligned line of the port's oldest open frame has been sent. -/
def execFrameRecordSend (x : Nat) (s : State) : Res State :=
  .next (match (s.cam x).frames with
  | [] => s
  | g :: rest => s.when (s.camOn x && decide (s.cf x 8 2 ≤ g.sent)) (fun s =>
      let s := s.toRanges x (fun j q => .wort "statsRecord" ([q.2.2.1, q.2.2.2, x, j] ++ (s.statsRecord x j g).map BitVec.toNat))
      let s := (s.setCam x { s.cam x with frames := rest }).set .CAM_FRAME_FRAME g.no x
      if g.stale then s.bump .CAM_STALE_COUNT 1 x else s))

/-- ISP_SHADOW_CTRL.APPLY (R272). -/
def State.ispApply (s : State) (i : Nat) : State :=
  let x := s.get .ISP_SHADOW_CTRL_PORT i
  s.when (decide (x < 8) && s.hasSect 0x0040 x && s.pipeOf x == i && (s.cam x).shadow.isSome) (fun s =>
    s.setCam x { s.cam x with apply := true })

/-- ISP_SHADOW_APPLY (R272). -/
def execIspShadowApply (i : Nat) (s : State) : Res State :=
  .next (s.when (decide (i < 4)) (fun s => s.reach .isp i (fun s => s.ispApply i)))

/-- CAM_LOST_CLR (R270). -/
def execCamLostClr (x : Nat) (s : State) : Res State :=
  .next (s.reach .camera x (fun s => s.clear [.CAM_LOST_COUNT, .CAM_LOST_CAUSE] x))

/-- CAM_PHY_ERR_CLR (R256). -/
def execCamPhyErrClr (x : Nat) (s : State) : Res State :=
  .next (s.reach .camera x (fun s =>
    s.clear [.CAM_PHY_ERR_ECC_CORR, .CAM_PHY_ERR_ECC_FAIL, .CAM_PHY_ERR_CRC_FAIL, .CAM_PHY_ERR_DT_DROP] x))

/-- CAM_STALE_CLR (R271). -/
def execCamStaleClr (x : Nat) (s : State) : Res State :=
  .next (s.reach .camera x (fun s => s.set .CAM_STALE_COUNT 0 x))

/-! ## The CAMERA and ISP sections (R257, R262, R264, R268) -/

/-- Zero size fields of a CAMERA payload. -/
def cameraZero (b : List Byte) : Bool :=
  zeroField b 0 1 || zeroField b 1 1 || zeroField b 2 1 || zeroField b 4 2 || zeroField b 6 2 || zeroField b 8 2 ||
  zeroField b 0xA 2 || zeroField b 0x14 2

/-- The load of pipe `i` under R262, four times over so that EXP_DIV divides it. -/
def pipeLoad (e : Eff) (i : Nat) : Nat :=
  ((List.range 8).map (fun x => match e 0x0040 x with
    | some b => if fieldAt b 3 1 = i then
        fieldAt b 6 2 * fieldAt b 1 1 * (e.f 0x0032 0 0 4).getD 0 * (4 / max 1 (fieldAt b 2 1)) else 0
    | none => 0)).sum

/-- The ports whose CAMERA sections name pipe `i`. -/
def pipePorts (e : Eff) (i : Nat) : List Nat :=
  (List.range 8).filter (fun x => (e.f 0x0040 x 3 1) == some i)

/-- The rules of R257 and R262 on the CAMERA payload of a port. -/
def cameraOk (e : Eff) (b : List Byte) : Bool :=
  let f := fieldAt b
  let n := f 1 1
  let streams := List.range n
  let dt := f 0x21 1
  let rows := streams.map (fun i => f (0x22 + 8 * i) 1)
  let rg := ((List.range 16).map (fun j => (f (0x40 + 8 * j) 2, f (0x42 + 8 * j) 2))).filter (fun r => r.2 != 0)
  b.length == 192 && [1, 2, 4].contains (f 0 1) && decide (n ≤ 3) && [1, 2, 4].contains (f 2 1) && decide (f 3 1 ≤ 3) &&
  decide (80 ≤ f 4 2 ∧ f 4 2 ≤ 4500 ∧ f 6 2 ≤ 16384 ∧ 16 ≤ f 8 2 ∧ f 8 2 ≤ 4096 ∧ 4 ≤ f 0xA 2 ∧ f 0xA 2 ≤ 4000) &&
  decide (f 0xC 4 ≤ 16777215) && zeroAt b 0x11 1 && decide (5 * f 0x12 2 ≤ 2 * (e.f 0x0032 0 0xC 4).getD 0) && zeroAt b 0x16 10 &&
  streams.all (fun i => decide (f (0x20 + 8 * i) 1 ≤ 15) && f (0x21 + 8 * i) 1 == dt && zeroAt b (0x23 + 8 * i) 5) &&
  decide ((streams.map (fun i => f (0x20 + 8 * i) 1)).Nodup) && dtBits dt != 0 &&
  (if dt = 0x24 then n == 1 && f 0x22 1 == 0xFF else rows.all (fun r => decide (r ≤ 2)) && decide rows.Nodup) &&
  zeroAt b (0x20 + 8 * n) (32 - 8 * n) &&
  (List.range 16).all (fun j =>
    let o := 0x40 + 8 * j
    if f (o + 2) 2 = 0 then zeroAt b o 8
    else decide (f o 2 + f (o + 2) 2 ≤ f 6 2 ∧ f (o + 4) 2 ≤ 511 ∧ f (o + 6) 1 ≤ 63) && zeroAt b (o + 7) 1) &&
  (List.range rg.length).all (fun j => (List.range j).all (fun k =>
    let p := rg.getD j (0, 0)
    let q := rg.getD k (0, 0)
    decide (p.1 + p.2 ≤ q.1 ∨ q.1 + q.2 ≤ p.1))) &&
  decide (f 6 2 * dtBits dt * n * (e.f 0x0032 0 0 4).getD 0 * 105 ≤ f 0 1 * f 4 2 * 1000000 * 100 * f 2 1) &&
  decide ((pipePorts e (f 3 1)).length ≤ 2 ∧ pipeLoad e (f 3 1) ≤ 12800000000)

/-- Zero size fields of an ISP payload. -/
def ispZero (b : List Byte) : Bool :=
  zeroField b 0 1 || (List.range (fieldAt b 0 1)).any (fun p =>
    decide (p < 2) && (zeroField b (0x40 + 64 * p + 0x11) 1 || zeroField b (0x40 + 64 * p + 0x34) 2))

/-- Are the five numbers from `i` on all in the list? -/
def runAt (l : List Nat) (i : Nat) : Bool := (List.range 5).all (fun k => l.contains (i + k))

/-- The rules of R264 and R268 on one port's block. -/
def ispBlockOk (cam : List Byte) (all b : List Byte) : Bool :=
  let f := fieldAt b
  let px := fieldAt cam 6 2
  let n := fieldAt cam 1 1
  let rgb := fieldAt cam 0x21 1 == 0x24
  let used := if rgb then [0] else (List.range n).map (fun i => fieldAt cam (0x22 + 8 * i) 1)
  let defs := (List.range (f 0x12 2)).map (fun k => sub all (f 0x2C 4 + 4 * k) 4)
  decide (f 6 2 < px ∧ f 8 2 ≤ 256 ∧ f 6 2 + f 8 2 ≤ px) && (List.range 3).all (fun r => decide (f (0xA + r) 1 ≤ 15)) &&
  (used.filter (fun r => f (0xA + r) 1 == 0)).length == 1 && zeroAt b 0xD 1 && [8, 16, 32, 64].contains (f 0x11 1) &&
  decide (f 0x12 2 ≤ 1024 ∧ f 0x2C 4 + 4 * f 0x12 2 ≤ all.length ∧ f 0x30 4 + 2 * n * px ≤ all.length) && zeroAt b 0x36 10 &&
  defs.all (fun d => decide (fieldAt d 0 2 < px ∧ fieldAt d 2 1 ≤ 2) && zeroAt d 3 1) &&
  (List.range 3).all (fun r =>
    let l := (defs.filter (fun d => fieldAt d 2 1 == r)).map (fun d => fieldAt d 0 2)
    !l.any (runAt l))

/-- The rules of R262 and R268 on the ISP payload of pipe `i`. -/
def ispOk (e : Eff) (i : Nat) (b : List Byte) : Bool :=
  let n := fieldAt b 0 1
  let ports := (List.range n).map (fun p => fieldAt b (1 + p) 1)
  decide (0x40 + 64 * n ≤ b.length ∧ n ≤ 2) && decide ports.Nodup && ports.all (fun x => (pipePorts e i).contains x) &&
  (pipePorts e i).length == n && zeroAt b (1 + n) (63 - n) && decide (pipeLoad e i ≤ 12800000000) &&
  (List.range n).all (fun p => match e 0x0040 (fieldAt b (1 + p) 1) with
    | some cam => ispBlockOk cam b (sub b (0x40 + 64 * p) 64)
    | none => false)

/-- ISP_STATUS.PORTS kept up to date. -/
def State.showPorts (s : State) : State :=
  s.each 4 (fun s i => s.set .ISP_STATUS_PORTS
    (((List.range 8).map (fun x => if s.hasSect 0x0040 x && s.pipeOf x == i then 2 ^ x else 0)).sum) i)

/-- A port's part of the ISP section comes into force: black levels from BLK_FIXED, gains from the section, no shadow (R263, R271, R272);
exposures planned stay planned. -/
def State.startPort (s : State) (x : Nat) : State :=
  let i := s.pipeOf x
  let b := s.sect 0x0041 i
  let px := s.cf x 6 2
  let o := s.ispf x 0x30 4
  let gains := (List.range (s.cf x 1 1)).map (fun k => (List.range px).map (fun j => fieldAt b (o + 2 * (k * px + j)) 2))
  let m := s.cam x
  let s := s.setCam x { planned := m.planned, next := m.next, top := m.top, closing := m.closing, gains := gains }
  (s.each 3 (fun s r => (s.setBlack x r (s.ispf x (2 * r) 2)).takeRef x r)).off .CAM_STATUS_PAIRED x

/-- An AUX commit of a CAMERA or ISP section reaches pipe `i`: its open frames are lost with cause 7, and it stops (R90, R270). Exposures
planned come due in the pause, or after it. -/
def State.pausePipe (s : State) (i : Nat) : State :=
  (s.each 8 (fun s x => if s.hasSect 0x0040 x ∧ s.pipeOf x = i then
      let m := s.cam x
      let s := s.stopCam x
      s.setCam x { s.cam x with planned := m.planned, next := m.next }
    else s)).on .ISP_STATUS_PAUSED i

/-- A CAMERA section in force for port `x`: black levels, gains and shadow stay those of the ISP section in force unless the section gives
the rows another shape (R263, R272). -/
def State.applyCamera (s : State) (x : Nat) : State :=
  let m := s.cam x
  let fits := m.gains.length == s.cf x 1 1 && m.gains.all (fun g => g.length == s.cf x 6 2)
  let s := if fits then
      (s.setCam x { m with trigs := [], frames := [], cur := [(none, 0), (none, 0), (none, 0)], rows := [] }).off .CAM_STATUS_PAIRED x
    else s.startPort x
  s.showPorts.each 4 (fun s i => s.showShadow i)

/-- An ISP section in force for pipe `i`: a shadow table not yet applied is discarded (R272). -/
def State.applyIsp (s : State) (i : Nat) : State :=
  (s.each 8 (fun s x => if s.hasSect 0x0040 x ∧ s.pipeOf x = i then s.startPort x else s)).showPorts.showShadow i

/-- Port or pipe powered off (R270): the frames of the ports it serves are lost with cause 7. -/
def State.camerasDown (s : State) (n : Nat) : State :=
  s.each 8 (fun s x => if s.hasSect 0x0040 x ∧ (n = 106 + x ∨ n = 114 + s.pipeOf x) then s.stopCam x else s)

end Sys2Proof.Machine
end

