-- ==== Sys2Proof/Machine/Gravity.lean ====
section
/-! DEFINITION. The gravity loop: what it compares, its estimator and window, the update law, outs and back-ins, generations,
persistence and re-binding (spec/15_gravity_loop.md, R273-R292). -/

namespace Sys2Proof.Machine

/-! ## The table in DRAM (R291) -/

/-- The address of channel `c`'s table. -/
def State.tblAddr (s : State) (c : Nat) : Nat := s.get .GRAV_TBL_ADDR_ADDR + 0x4000 * c

/-- The nozzles of channel `c`. -/
def State.chNozzles (s : State) (c : Nat) : Nat := s.sf 0x0030 c 0 2

/-- The entries of the table. -/
def State.gravTable (s : State) (c : Nat) : List Nat :=
  (List.range (s.chNozzles c)).map (fun n => leNat (Memory.rds s.dram (s.tblAddr c + 0x10 + 4 * n) 4))

/-- An entry's fields. -/
def entG (e : Nat) : Nat := bits e 0 16
def entOut (e : Nat) : Bool := bit e 16
def entHost (e : Nat) : Bool := bit e 17
def entT (e : Nat) : Nat := bits e 18 4
def mkEnt (g : Nat) (out host : Bool) (t : Nat) : Nat := g % 65536 + 65536 * b2n out + 131072 * b2n host + 262144 * (t % 16)

/-- The bytes of a table (R291). -/
def tableBytes (headId : Nat) (l : List Nat) : List Byte :=
  let head := leBytes 8 headId ++ leBytes 2 l.length ++ leBytes 2 0
  let ents := l.flatMap (leBytes 4)
  head ++ leBytes 4 (crc32c (head ++ ents)) ++ ents

/-- Does a table's CRC pass? -/
def tableOk (b : List Byte) : Bool :=
  fieldAt b 0xC 4 == crc32c (sub b 0 12 ++ (b.drop 16).take (4 * fieldAt b 8 2))

/-- The table written, its CRC current; the count of outs is shown. -/
def State.setTable (s : State) (c : Nat) (l : List Nat) : State :=
  State.set { s with dram := Memory.wrs s.dram (s.tblAddr c) (tableBytes (s.chan c).headId l) } .GRAV_CH_STATUS_OUT
    ((l.filter entOut).length) 0 c

/-- The loop of channel `c`, and of one nozzle. -/
def State.grav (s : State) (c : Nat) : Grav := look {} s.gravs c
def State.setGrav (s : State) (c : Nat) (g : Grav) : State := { s with gravs := store {} s.gravs c g }
def Grav.nz (g : Grav) (n : Nat) : Noz := look {} g.noz n
def Grav.setNz (g : Grav) (n : Nat) (x : Noz) : Grav := { g with noz := store {} g.noz n x }

/-! ## The GRAV section (R277) -/

/-- A field of the header, and of channel `c`'s block. -/
def State.gf (s : State) (o n : Nat) : Nat := s.sf 0x0042 0 o n
def State.gcf (s : State) (c o n : Nat) : Nat := s.gf (0x40 + 32 * c + o) n

/-- A field of the channel's print model. -/
def State.gmf (s : State) (c o n : Nat) : Nat := s.gf (0x840 + 2176 * s.gcf c 1 1 + o) n

/-- Is the loop of channel `c` enabled (GRAV_CH_STATUS.EN)? -/
def State.gravOn (s : State) (c : Nat) : Bool := decide (c < 64) && s.is .GRAV_CH_STATUS_EN 0 c

/-- Out by an SCR_TABLES section: the OUT bit of the nozzle's entry in the section in force (R287). -/
def State.hostOut (s : State) (c n : Nat) : Bool := bit (scrEntry (s.sect 0x0031 c) n) 12

/-- Is the nozzle live for the loop: it exists, and neither the loop nor the host holds it out (log entry 66)? -/
def State.liveNoz (s : State) (c n : Nat) (e : Nat) : Bool := decide (n < s.chNozzles c) && !entOut e && !s.hostOut c n

/-- The live nozzles. -/
def State.liveList (s : State) (c : Nat) : List Nat :=
  let t := s.gravTable c
  (List.range (s.chNozzles c)).filter (fun n => s.liveNoz c n (t.getD n 0))

/-! ## The reference (R273-R275) -/

/-- The code nozzle `n` printed on web line `y`, if the reference holds it (R273). -/
def State.printed (s : State) (c y n : Nat) : Option Nat :=
  let g := s.sect 0x0030 c
  let d := geomDelay g (geomRow g n)
  let t := (s.chan c).tail
  match t.find? (fun l => l.no == y) with
  | none => none
  | some l =>
    if l.unfired then some 0
    else if y < d then some 0
    else (t.find? (fun l => l.no == y - d)).map (fun l => l.codes.getD n 0)

/-- Lines below `y` leave the tail (R275), but for those the rows' delays still need. -/
def State.releaseTail (s : State) (c y : Nat) : State :=
  let g := s.sect 0x0030 c
  let keep := y - maxOf ((List.range 4).map (geomDelay g))
  s.setChan c { s.chan c with tail := (s.chan c).tail.filter (fun l => decide (keep ≤ l.no)) }

/-- Is this the source the channel's block names (R274)? -/
def State.gravSrc (s : State) (c dev port range : Nat) : Bool :=
  s.gravOn c && s.gcf c 4 2 == dev && s.gcf c 2 1 == port && s.gcf c 3 1 == range

/-- A piece from anywhere else (R274). -/
def State.foreign (s : State) : State := s.bump .GRAV_FOREIGN_COUNT

/-- Is the loop not taking records of the channel: paused, or the channel or tun fenced (R279, R288)? -/
def State.gravIdle (s : State) (c : Nat) : Bool := s.is .GRAV_STATUS_PAUSED || s.fenced 1 c || s.fenced 2 c

/-! ## The estimator (R280, R281) -/

/-- The present U0 of the channel in Q8 nozzles: the section's, moved by tracking (R290). -/
def State.u0 (s : State) (c : Nat) : Int := toSigned 32 (s.gcf c 8 4) + s.geti .GRAV_CH_QUAL_REG_OFS 0 c

/-- The weight of nozzle `n` for a pixel centred at `u` (R280). -/
def State.footW (s : State) (c n : Nat) (u : Int) : Nat :=
  s.gcf c (0x10 + (clampInt 0 15 ((256 * (n : Int) - u) / 128 + 8)).toNat) 1

/-- Coverage of a code in 1/1,024 of a cell; AREA[0] is 0. -/
def State.area (s : State) (c code : Nat) : Nat := if code = 0 then 0 else s.gmf c (2 * min code 3) 2

/-- One sample: its contributions to H and b per live nozzle, and |r| / NOISE (R280); `none` where the sample is excluded. -/
def State.sample (s : State) (c div : Nat) (live : List (Nat × Nat × Rat)) (j y : Nat) : Option (List (Nat × Rat × Rat) × Rat) :=
  let u := s.u0 c + (j : Int) * s.gcf c 0xC 2
  let w := live.map (fun e => (e.1, (s.footW c e.1 u : Rat), (e.2.1 : Rat) / 4096, e.2.2))
  let total : Rat := (w.map (fun e => e.2.1)).sum * div
  let noise : Rat := s.gmf c 8 2
  if total = 0 ∨ noise = 0 then none
  else
    let cov := (w.map (fun e => e.2.1 * e.2.2.1 * e.2.2.2)).sum / total
    let sat := decide (1 ≤ cov)
    let x := min 1 cov * 1024
    let i := min 1023 x.floor.toNat
    let t0 : Rat := s.gmf c (0x40 + 2 * i) 2
    let t1 : Rat := s.gmf c (0x40 + 2 * (i + 1)) 2
    let p := t0 + (t1 - t0) * (x - i)
    let slope := (t1 - t0) * 1024
    if (if slope < 0 then -slope else slope) < (s.gf 0x20 2 : Rat) then none
    else
      let r := (y : Rat) - p
      some (w.map (fun e =>
        let k := if sat then 0 else slope * e.2.1 * e.2.2.2 / total / noise
        (e.1, k * k, k * r / noise * 4096)), (if r < 0 then -r else r) / noise)

/-- Contributions of a sample added per nozzle. -/
def addRats (l : List Rat) (d : List (Nat × Rat)) : List Rat :=
  d.foldl (fun l e => l.set e.1 (l.getD e.1 0 + e.2)) l

/-- An aligned line taken into the work on its frame: `vals` holds the three channels of each pixel in turn. -/
def State.takeAligned (s : State) (c frame line div : Nat) (vals : List Nat) : State :=
  let n := s.chNozzles c
  let g := s.grav c
  let w := match g.work with
    | some w => if w.no = frame then w else { no := frame, div := div, h := List.replicate n 0, b := List.replicate n 0 }
    | none => { no := frame, div := div, h := List.replicate n 0, b := List.replicate n 0 }
  let lines := (List.range div).map (fun k => line + k)
  if w.miss then s.setGrav c { g with work := some w }
  else if lines.any (fun y => (List.range n).any (fun k => (s.printed c y k).isNone)) then
    (s.setGrav c { g with work := some { w with miss := true } }).bump .GRAV_CH_COUNT_TAIL_MISS 1 0 c
  else
    let t := s.gravTable c
    let live := (s.liveList c).map (fun k =>
      (k, entG (t.getD k 0), (lines.map (fun y => (s.area c ((s.printed c y k).getD 0) : Rat) / 1024)).sum))
    let och := s.gmf c 0 1
    let w := (List.range (vals.length / 3)).foldl (fun (w : GravWork) j =>
      match s.sample c div live j (vals.getD (3 * j + och) 0) with
      | none => w
      | some (l, r) => { w with h := addRats w.h (l.map (fun e => (e.1, e.2.1))), b := addRats w.b (l.map (fun e => (e.1, e.2.2))),
                                resid := w.resid + r, count := w.count + 1 }) w
    s.setGrav c { g with work := some w }

/-- An aligned line that comes while the channel takes none (R279, R288): its frame is not used, and releases its lines unexamined. -/
def State.passAligned (s : State) (c frame div : Nat) : State :=
  let g := s.grav c
  s.setGrav c { g with work := some { no := frame, div := div, h := [], b := [], miss := true } }

/-- ALIGNED_LINE_RECEIVE (R274): an aligned line of covered line `line`, exposure of `div` press lines, from a device, port and range. -/
def execAlignedLineReceive (c dev port range frame line div : Nat) (vals : List Nat) (s : State) : Res State :=
  .next (s.when (s.blockOn .gravity 0) (fun s =>
    if !s.gravSrc c dev port range then s.foreign
    else if s.gravIdle c then s.passAligned c frame div
    else s.takeAligned c frame line div vals))

/-- LOST_NOTICE_RECEIVE (R274, R275): `span` is how many press lines the lost frame covers; they are released unexamined. -/
def execLostNoticeReceive (c dev port range frame span : Nat) (s : State) : Res State :=
  .next (s.when (s.blockOn .gravity 0) (fun s =>
    if !s.gravSrc c dev port range then s.foreign
    else
      let g := s.grav c
      let keep := match g.work with | some w => if w.no = frame then none else some w | none => none
      (s.setGrav c { g with work := keep }).releaseTail c (frame + span)))

/-! ## Curves and generations (R284, R286, R288, R289) -/

/-- Entry `i` of the base curve of nozzle `n`, the one its SCR_TABLES section gives it. -/
def State.baseCurve (s : State) (c n i : Nat) : Nat :=
  let b := s.sect 0x0031 c
  bits (leNat (sub b (scrQ b + 320 * (scrEntry b n % 4096)) 320)) (10 * i) 10

/-- The corrected curve for gravity `g` (R284), packed (R186). -/
def correct (g b : Nat) : Nat := min 1023 ((b * 4096 + g / 2) / g)
def State.corrected' (s : State) (c n g : Nat) : List Byte :=
  leBytes 320 (((List.range 256).map (fun i => correct g (s.baseCurve c n i) * 2 ^ (10 * i))).sum)

/-- How far the gravity of a nozzle lies from the one of its curve. -/
def apart (g gc : Nat) : Nat := (g - gc) + (gc - g)

/-- The curves wanted, back-ins first, then the widest apart (R284, R286). -/
def State.wanted (s : State) (c : Nat) : List Nat :=
  let t := s.gravTable c
  let g := s.grav c
  let dead := s.gf 0x10 2
  let freeze := bit (s.gcf c 0 1) 1
  let due := (s.liveList c).filter (fun n =>
    let z := g.nz n
    z.gc == 0 || (!freeze && decide (dead ≤ apart (entG (t.getD n 0)) z.gc)))
  due.mergeSort (fun a b =>
    let ka := if (g.nz a).gc = 0 then 1000000 else apart (entG (t.getD a 0)) (g.nz a).gc
    let kb := if (g.nz b).gc = 0 then 1000000 else apart (entG (t.getD b 0)) (g.nz b).gc
    decide (kb ≤ ka))

/-- The loop prepares one generation of channel `c` (R194, R195, R288): the OUT bits as decided, and as many curves as there are free
slots. None is prepared while one is pending, a shadow or a fence holds the channel, or the inactive bank is in use. -/
def State.prepGravity (s : State) (c : Nat) : State :=
  let ch := s.chan c
  if ch.pendGen.isSome || s.gravHeld c || s.fenced 1 c || s.fenced 2 c || !s.powered c || !s.inactiveFree c || !s.gravOn c then s
  else
    let t := s.gravTable c
    let n := s.tunNozzles c
    let old := (List.range n).map (s.mapEntry c ch.bank)
    let free := s.freeSlots c
    let pick := (s.wanted c).take free.length
    let new := (List.range n).map (fun k =>
      let e := t.getD k 0
      let waits := ((s.grav c).nz k).gc == 0
      let out := entOut e || s.hostOut c k || (waits && !pick.contains k)
      let slot := match pick.idxOf? k with | some i => free.getD i 0 | none => old.getD k 0 % 4096
      slot + 4096 * b2n out)
    if new = old then s
    else
      let curves := (List.range pick.length).map (fun i =>
        let k := pick.getD i 0
        (free.getD i 0, s.corrected' c k (entG (t.getD k 0))))
      let size := s.regionSize c regParam / 2
      let param := Memory.rds ch.sram (s.regionBase c regParam + ch.bank * size) size
      let s := s.writeBank c (1 - ch.bank) new param curves
      let s := s.setGrav c (pick.foldl (fun g k => g.setNz k { g.nz k with gc := entG (t.getD k 0) }) (s.grav c))
      s.setChan c { s.chan c with pendGen := some false }

/-- The loop takes up tables that have been replaced or reloaded, in force from line `y` (R289): their curves become the base curves,
and what the loop holds out is bridged from their first line on. -/
def State.rebuildGravity (s : State) (c y : Nat) : State :=
  if !s.gravOn c then s
  else
    let t := s.gravTable c
    let new := (List.range t.length).map (fun n =>
      let e := t.getD n 0; mkEnt (entG e) (entOut e) (s.hostOut c n) (entT e))
    let mask := ((List.range t.length).map (fun n => if entOut (t.getD n 0) && !s.hostOut c n then 2 ^ n else 0)).sum
    let s := s.setTable c new
    let g := s.grav c
    let s := s.setGrav c { g with noz := g.noz.filterMap (fun (e : Nat × Noz) =>
      let z := { e.2 with gc := 4096 }
      if z = {} then none else some (e.1, z)) }
    (s.setChan c { s.chan c with gravLate := (y, mask) }).prepGravity c

/-! ## The update law (R281, R282) -/

/-- The information and the evidence of a nozzle in the window. -/
def Grav.infoOf (g : Grav) (n : Nat) : Int := (g.window.map (fun f => f.h.getD n 0)).sum
def Grav.evidence (g : Grav) (n : Nat) : Int := (g.window.map (fun f => f.b.getD n 0)).sum

/-- The mean gravity of the nearest live nozzles on each side, or of the one that exists; the nozzle's own where none does. -/
def nearMean (t live : List Nat) (n : Nat) : Rat :=
  let l := (live.filter (fun k => decide (k < n))).getLast?
  let r := (live.filter (fun k => decide (n < k))).head?
  let g := fun k => (entG (t.getD k 0) : Rat)
  match l, r with
  | some a, some b => (g a + g b) / 2
  | some a, none => g a
  | none, some b => g b
  | none, none => g n

/-- The change of gravity of one nozzle (R282), from the gravities before the update. -/
def State.gravStep (s : State) (c : Nat) (t live : List Nat) (n : Nat) : Int :=
  let w := s.grav c
  let mu : Rat := s.gf 0xA 2
  let h : Rat := w.infoOf n
  let step := ((w.evidence n : Rat) + mu * (nearMean t live n - entG (t.getD n 0))) / (h + s.gf 8 2 + mu)
  let m : Int := s.gf 0xE 2
  clampInt (-m) m (Config.gravRound (s.gf 0xC 2 * step / 4096))

/-- The update of every live nozzle with enough information (R282): evidence used is subtracted. -/
def State.gravUpdate (s : State) (c : Nat) : State :=
  let t := s.gravTable c
  let live := s.liveList c
  let w := s.grav c
  let ds := (live.filter (fun n => decide ((s.gf 4 4 : Int) ≤ w.infoOf n))).map (fun n => (n, s.gravStep c t live n))
  let new := ds.foldl (fun (l : List Nat) d =>
    let e := t.getD d.1 0
    let g := (clampInt (s.gf 0x18 2) (s.gf 0x1A 2) ((entG e : Int) + d.2)).toNat
    l.set d.1 (mkEnt g (entOut e) (entHost e) (entT e))) t
  let win := w.window.map (fun (f : GravFrame) =>
    { f with b := ds.foldl (fun (b : List Int) d => b.set d.1 (b.getD d.1 0 - f.h.getD d.1 0 * d.2)) f.b })
  (s.setGrav c { w with window := win }).setTable c new

/-- GRAV_CH_QUAL.VALID_PCT: live nozzles with enough information. -/
def State.showValid (s : State) (c : Nat) : State :=
  let live := s.liveList c
  let ok := live.filter (fun n => decide ((s.gf 4 4 : Int) ≤ (s.grav c).infoOf n))
  s.set .GRAV_CH_QUAL_VALID_PCT (if live.isEmpty then 0 else 100 * ok.length / live.length) 0 c

/-! ## Out and back in (R285-R287) -/

/-- The loop takes a nozzle out: its bridge bit is set, and its gravity freezes. -/
def State.nozOut (s : State) (c n : Nat) (high : Bool) : State :=
  let g := s.grav c
  let z := g.nz n
  let t := s.gravTable c
  let e := t.getD n 0
  let fails := if z.trial then min (entT e + 1) 15 else entT e
  let s := s.setTable c (t.set n (mkEnt (entG e) true (entHost e) fails))
  let s := s.setGrav c (g.setNz n { cnt := 0, gc := z.gc, outAt := s.seq.next })
  let s := s.setChan c { s.chan c with gravSet := setBit (s.chan c).gravSet n }
  let s := ((s.bump .GRAV_CH_COUNT_OUTS 1 0 c).set .GRAV_LAST_OUT_NOZZLE n).set .GRAV_LAST_OUT_CHANNEL c
  let s := ((s.set .GRAV_LAST_OUT_TRIAL (b2n z.trial)).set .GRAV_LAST_OUT_HIGH (b2n high)).set .GRAV_LAST_OUT_LINE (s.chan c).reached
  s.vector .GRAV_EVT_VEC_VECTOR .GRAV_EVT_VEC_EN

/-- The out test of one nozzle on one frame (R285), and the end of a trial that succeeds (R287). -/
def State.outTest (s : State) (c n : Nat) (h b : Int) : State :=
  let e := (s.gravTable c).getD n 0
  let need : Int := ((s.gf 4 4 + max 1 (s.gf 1 1) - 1) / max 1 (s.gf 1 1) : Nat)
  if !s.liveNoz c n e || decide (h < need) || decide (h ≤ 0) then s
  else
    let g := s.grav c
    let z := g.nz n
    let est : Rat := (entG e : Rat) + (b : Rat) / (h : Rat)
    let low : Rat := if z.trial then s.gf 0x16 2 else s.gf 0x12 2
    let high := decide ((s.gf 0x14 2 : Rat) < est)
    if decide (est < low) || high then
      if s.gf 2 1 ≤ z.cnt + 1 then s.nozOut c n high else s.setGrav c (g.setNz n { z with cnt := z.cnt + 1, good := 0 })
    else if z.trial ∧ s.gf 2 1 ≤ z.good + 1 then
      let s := s.setGrav c (g.setNz n { z with cnt := 0, trial := false, good := 0 })
      (s.setTable c ((s.gravTable c).set n (mkEnt (entG e) false (entHost e) 0))).bump .GRAV_CH_COUNT_BACKINS 1 0 c
    else s.setGrav c (g.setNz n { z with cnt := 0, good := if z.trial then z.good + 1 else 0 })

/-- Registration tracking (R290), once per WIN accepted frames: U0 moves by 16 Q8 units at most towards the offset of least residual,
within ±REG_TRACK of the section's. How far and which way is the estimator's: a free value (log entry 68). -/
def State.trackReg (s : State) (c : Nat) : State :=
  let lim : Int := s.gf 0x22 2
  let g := s.grav c
  if lim = 0 then s
  else if g.since + 1 < max 1 (s.gf 1 1) then s.setGrav c { g with since := g.since + 1 }
  else
    let s := s.setGrav c { g with since := 0 }
    let f := s.free
    let m : Int := ((f.1 % 33 : Nat) : Int) - 16
    let new := clampInt (-lim) lim (f.2.geti .GRAV_CH_QUAL_REG_OFS 0 c + m)
    (f.2.seti .GRAV_CH_QUAL_REG_OFS new 0 c).set .GRAV_CH_STATUS_REG_LIMIT (b2n (new.natAbs == lim.toNat)) 0 c

/-- An accepted frame of channel `c` (R281-R290). -/
def State.acceptFrame (s : State) (c : Nat) (w : GravWork) (stale : Bool) : State :=
  let h := w.h.map Config.gravRound
  let b := w.b.map Config.gravRound
  let s := s.set .GRAV_CH_QUAL_RESID (min 255 (Config.gravRound (if w.count = 0 then 0 else 32 * w.resid / w.count)).toNat) 0 c
  let s := (List.range (s.chNozzles c)).foldl (fun s n => s.outTest c n (h.getD n 0) (b.getD n 0)) s
  let s := if stale then s
    else
      let g := s.grav c
      let s := s.setGrav c { g with window := ({ no := w.no, h := h, b := b } :: g.window).take (s.gf 1 1) }
      (s.gravUpdate c).trackReg c
  (s.showValid c).prepGravity c

/-- STATS_RECORD_RECEIVE (R282): the record of a frame of `lines` aligned lines. A frame whose reference was not in the tail, or of which
no line came, is discarded. -/
def execStatsRecordReceive (c dev port range frame lines : Nat) (stale : Bool) (s : State) : Res State :=
  .next (s.when (s.blockOn .gravity 0) (fun s =>
    if !s.gravSrc c dev port range then s.foreign
    else
      let g := s.grav c
      let s1 := s.setGrav c { g with work := none }
      match g.work with
      | none => s1
      | some w =>
        if w.no ≠ frame then s
        else
          let s2 := if s.gravIdle c || w.miss then s1 else s1.acceptFrame c w stale
          s2.releaseTail c (frame + w.div * lines)))

/-- BACKIN_TRIAL (R287). -/
def execBackinTrial (c n : Nat) (s : State) : Res State :=
  let g := s.grav c
  let z := g.nz n
  let e := (s.gravTable c).getD n 0
  let t := entT e
  let waited := z.waive || decide (z.outAt + s.gf 0x1C 4 * 2 ^ min t 8 ≤ s.seq.next)
  .next (s.when (s.blockOn .gravity 0 && s.gravOn c && !s.gravIdle c && decide (n < s.chNozzles c) && entOut e && waited &&
      decide (t < s.gf 3 1) && !s.hostOut c n) (fun s =>
    let win := g.window.map (fun (f : GravFrame) => { f with h := f.h.set n 0, b := f.b.set n 0 })
    let s := s.setTable c ((s.gravTable c).set n (mkEnt 4096 false (entHost e) t))
    let s := s.setGrav c { g.setNz n { gc := if z.gc = 4096 then 4096 else 0, trial := true } with window := win }
    (s.setChan c { s.chan c with gravClr := setBit (s.chan c).gravClr n }).prepGravity c))

/-- GRAV_CH_CTRL.RESET_TRIALS (R287). -/
def State.resetTrials (s : State) (c : Nat) : State :=
  if !s.gravOn c then s
  else
    let t := s.gravTable c
    let s := s.setTable c (t.map (fun e => mkEnt (entG e) (entOut e) (entHost e) 0))
    let g := s.grav c
    s.setGrav c ((List.range t.length).foldl (fun g n => if entOut (t.getD n 0) then g.setNz n { g.nz n with waive := true } else g) g)

/-- RESET_TRIALS. -/
def execResetTrials (c : Nat) (s : State) : Res State :=
  .next (s.when (decide (c < 64)) (fun s => s.reach .gravity 0 (fun s => s.resetTrials c)))

/-- GRAV_CH_CTRL.CLEAR_WINDOW (R281): the window is cleared, gravities are kept. -/
def State.clearWindow (s : State) (c : Nat) : State := s.setGrav c { s.grav c with window := [] }

/-- CLEAR_WINDOW. -/
def execClearWindow (c : Nat) (s : State) : Res State :=
  .next (s.when (decide (c < 64)) (fun s => s.reach .gravity 0 (fun s => (s.clearWindow c).showValid c)))

/-- GRAV_FOREIGN_CLR (R274). -/
def execGravForeignClr (s : State) : Res State :=
  .next (s.reach .gravity 0 (fun s => s.set .GRAV_FOREIGN_COUNT 0))

/-- GRAV_CH_COUNT_CLR (R287). -/
def execGravChCountClr (c : Nat) (s : State) : Res State :=
  .next (s.when (decide (c < 64)) (fun s => s.reach .gravity 0 (fun s =>
    s.clear [.GRAV_CH_COUNT_OUTS, .GRAV_CH_COUNT_BACKINS, .GRAV_CH_COUNT_TAIL_MISS] 0 c)))

/-! ## Binding (R291, R292) -/

/-- A fresh table: every gravity 1.0, no outs. -/
def State.freshTable (s : State) (c : Nat) : State :=
  let l := (List.range (s.chNozzles c)).map (fun n => mkEnt 4096 false (s.hostOut c n) 0)
  (s.setTable c l).setGrav c {}

/-- A table installed whole; curves and outs follow under R289. -/
def State.installTable (s : State) (c : Nat) (b : List Byte) : State :=
  let l := (List.range (s.chNozzles c)).map (fun n => fieldAt b (16 + 4 * n) 4)
  let s := (s.setTable c l).setGrav c {}
  s.rebuildGravity c (s.screenNext c)

/-- The Cask record in force for a kind and key in the firmware's schema (R410). -/
def State.caskRec (s : State) (kind key : Nat) : Option CaskRec :=
  let l := s.cask.filter (fun r => r.kind == kind && r.key == key && (kind == 1 || r.schema == s.get .CASK_SCHEMA_CUR))
  l.foldl (fun a r => match a with | some x => if x.seq < r.seq then some r else a | none => some r) none

/-- Channel `c` is bound, or left unbound (R291, R343): an unbound channel does not fire, and one bound comes back under R348. With every
channel of the device bound, REPLACED clears and the device's identity is the bound one. -/
def State.setBound (s : State) (c : Nat) (on : Bool) : State :=
  let was := s.barred c
  let s := s.set .GRAV_CH_STATUS_BOUND (b2n on) 0 c
  let s := s.putB .BAR_UNBOUND_CH c (!on)
  let s := { s with learning := clrBit s.learning c }
  let s := (if was && !s.barred c then s.rejoinDevice c else s).noteCoverage
  if s.get .BAR_UNBOUND_CH = 0 ∧ s.is .BAR_HOLD_REPLACED then
    (s.off .BAR_HOLD_REPLACED).out (.wort "allBound" [s.get .BAR_SELF_ID_ID])
  else s

/-- A channel takes up its table when the loop starts (R291, R381), and its curves and outs are built anew from it (R289): DRAM's, if its CRC
passes and its HEAD_ID matches; else the checkpoint's; a head that differs from the checkpoint's starts afresh and is bound; without a
checkpoint the channel is unbound. -/
def State.startChannel (s : State) (c : Nat) : State :=
  let id := (s.chan c).headId
  let n := s.chNozzles c
  let ram := Memory.rds s.dram (s.tblAddr c) (16 + 4 * n)
  let s := if fieldAt ram 8 2 = n ∧ fieldAt ram 0 8 = id ∧ tableOk ram then
    ((s.setGrav c {}).setTable c (s.gravTable c)).setBound c (!s.is .BAR_HOLD_REPLACED)
  else match s.caskRec 3 c with
  | some r =>
    if fieldAt r.data 0 8 = id ∧ fieldAt r.data 8 2 = n then
      ((s.setTable c ((List.range n).map (fun k => fieldAt r.data (16 + 4 * k) 4))).setGrav c {}).setBound c (!s.is .BAR_HOLD_REPLACED)
    else (s.freshTable c).setBound c (!s.is .BAR_HOLD_REPLACED)
  | none => (s.freshTable c).setBound c false
  s.rebuildGravity c (s.screenNext c)

/-- A GRAV section comes into force (R279); `old` is the payload it replaces. -/
def State.applyGrav (s : State) (old : List Byte) : State :=
  let s := s.on .GRAV_STATUS_RUNNING
  s.each 64 (fun s c =>
    let en := bit (s.gcf c 0 1) 0
    let was := s.gravOn c
    let s := s.set .GRAV_CH_STATUS_EN (b2n en) 0 c
    if en && !was then s.startChannel c
    else if en then
      let o := 0x40 + 32 * c
      let new := s.sect 0x0042 0
      let moved := sub new (o + 1) 31 != sub old (o + 1) 31
      let s := if moved then (s.clearWindow c).setGrav c { (s.clearWindow c).grav c with work := none } else s
      let lim : Int := s.gf 0x22 2
      let ofs := if fieldAt new (o + 8) 4 = fieldAt old (o + 8) 4 then clampInt (-lim) lim (s.geti .GRAV_CH_QUAL_REG_OFS 0 c) else 0
      (s.seti .GRAV_CH_QUAL_REG_OFS ofs 0 c).set .GRAV_CH_STATUS_REG_LIMIT (b2n (lim != 0 && ofs.natAbs == lim.toNat)) 0 c
    else s.setGrav c {})

/-- Is channel `c` in a re-binding? -/
def State.rebinding (s : State) (c : Nat) : Bool :=
  s.rebinds.any (fun r => bit r.mask c && !bit r.bound c && !r.failed.any (fun f => f.1 == c))

/-- The channels of a mask. -/
def maskList (m : Nat) : List Nat := (List.range 64).filter (bit m)

/-- A re-binding whose every channel has its result completes (R292). -/
def State.endRebind (s : State) (r : Rebind) : State :=
  let n := popcount 64 r.bound
  if n + r.failed.length < popcount 64 r.mask then { s with rebinds := s.rebinds.map (fun q => if q.handle = r.handle then r else q) }
  else
    let s := { s with rebinds := s.rebinds.filter (fun q => q.handle != r.handle) }
    match r.failed.foldl (fun (a : Option (Nat × Nat)) f => match a with | some x => if f.1 < x.1 then some f else a | none => some f) none with
    | none => s.finish r.handle stDone n 0
    | some f => s.finish r.handle stCheckFailed n (f.1 + 256 * f.2)

/-- A channel is bound, or fails, and its vector is raised; a learn pass that ends without binding leaves it unbound (R343). -/
def State.bindResult (s : State) (r : Rebind) (c : Nat) (cause : Nat) : State :=
  let s := s.off .GRAV_CH_STATUS_LEARN 0 c
  let s := if cause = 0 then s.setBound c true else if cause = 3 then s.setBound c false else s
  let s := s.vector .GRAV_EVT_VEC_VECTOR .GRAV_EVT_VEC_EN
  s.endRebind (if cause = 0 then { r with bound := setBit r.bound c } else { r with failed := r.failed ++ [(c, cause)] })

/-- One table of an import checked (R292): 1 CRC, 2 HEAD_ID or NOZZLES. -/
def State.importCause (s : State) (c : Nat) (b : List Byte) : Nat :=
  if !tableOk b then 1 else if fieldAt b 0 8 ≠ (s.chan c).headId ∨ fieldAt b 8 2 ≠ s.chNozzles c then 2 else 0

/-- GRAV_REBIND (R292). -/
def execGravRebind (d : Desc) (s : State) : Res State :=
  let mode := d.p 0x10 1
  let pct := d.p 0x11 1
  let mask := d.p 0x18 8
  let src := d.p 0x20 8
  let lines := d.p 0x28 4
  .next (s.submit d
    { opcode := 0x0501, long := true, used := [(0x10, 1), (0x11, 1), (0x18, 8), (0x20, 8), (0x28, 4)], sizes := [lines],
      range := decide (mode ≤ 1) && (if mode = 0 then decide (1 ≤ pct ∧ pct ≤ 100) && src == 0
        else pct == 0 && src % 64 == 0 && lines == 1),
      counts := [mask],
      state := if !s.blockOn .gravity 0 || (maskList mask).any (fun c => !s.gravOn c || s.rebinding c) then stBadState else 0 }
    (fun h s =>
      let r : Rebind := { handle := h, mask := mask, pct := pct, until_ := s.seq.next + lines, bound := 0, failed := [] }
      let s := { s with rebinds := s.rebinds ++ [r] }
      if mode = 0 then
        (maskList mask).foldl (fun s c => ((s.freshTable c).on .GRAV_CH_STATUS_LEARN 0 c).off .GRAV_CH_STATUS_BOUND 0 c) s
      else
        (List.range (maskList mask).length).foldl (fun s i =>
          let c := (maskList mask).getD i 0
          let b := Memory.rds s.hostMem (src + 0x4000 * i) 0x4000
          let k := s.importCause c b
          match s.rebinds.find? (fun q => q.handle == h) with
          | none => s
          | some r => State.bindResult (if k = 0 then s.installTable c b else s) r c k) s))

/-- CHANNEL_BOUND (R292): a learn pass has PCT % of the channel's live nozzles at H_MIN. -/
def execChannelBound (c : Nat) (s : State) : Res State :=
  let live := s.liveList c
  let ok := live.filter (fun n => decide ((s.gf 4 4 : Int) ≤ (s.grav c).infoOf n))
  .next (match s.rebinds.find? (fun r => bit r.mask c && !bit r.bound c && !r.failed.any (fun f => f.1 == c)) with
  | none => s
  | some r => s.when (s.is .GRAV_CH_STATUS_LEARN 0 c && decide (r.pct * live.length ≤ 100 * ok.length)) (fun s => s.bindResult r c 0))

/-- LEARN_LIMIT (R292): LINES have passed. -/
def execLearnLimit (handle : Nat) (s : State) : Res State :=
  .next (match s.rebinds.find? (fun r => r.handle == handle) with
  | none => s
  | some r => s.when (decide (r.until_ ≤ s.seq.next)) (fun s =>
      ((maskList r.mask).filter (fun c => !bit r.bound c && !r.failed.any (fun f => f.1 == c))).foldl (fun s c =>
        match s.rebinds.find? (fun q => q.handle == handle) with
        | some q => s.bindResult q c 3
        | none => s) s))

/-! ## The rules of the GRAV section (R277, R278) -/

/-- Zero size fields of a GRAV payload, in its header or a block with EN 1; one in a model is another breach (R277). -/
def gravZero (b : List Byte) : Bool :=
  zeroField b 0 1 || zeroField b 1 1 || zeroField b 2 1 || zeroField b 4 4 || zeroField b 8 2 || zeroField b 0xC 2 ||
  zeroField b 0xE 2 || zeroField b 0x10 2 || zeroField b 0x1C 4 ||
  (List.range 64).any (fun c => bit (fieldAt b (0x40 + 32 * c) 1) 0 && zeroField b (0x40 + 32 * c + 0xC) 2)

/-- Is T strictly monotonic, each entry at most 16,383? -/
def monoT (m : List Byte) : Bool :=
  let t := fun i => fieldAt m (0x40 + 2 * i) 2
  (List.range 1025).all (fun i => decide (t i ≤ 16383)) &&
  ((List.range 1024).all (fun i => decide (t i < t (i + 1))) || (List.range 1024).all (fun i => decide (t (i + 1) < t i)))

/-- Lines in 64 mm (R278). -/
def l64 (high : Bool) : Nat := if high then 3024 else 1512

/-- The rule of R278 for a channel block whose camera is this device's. -/
def boundOk (high : Bool) (e : Eff) (frames port : Nat) : Bool :=
  match e 0x0040 port with
  | none => true
  | some cam =>
    let div := fieldAt cam 2 1
    let pipe := fieldAt cam 3 1
    let dly := match e 0x0041 pipe with
      | some i => if fieldAt cam 0x21 1 = 0x24 then 0
        else maxOf ((List.range (min 3 (fieldAt cam 1 1))).map (fun k =>
          fieldAt i (0x40 + 64 * (if fieldAt i 1 1 = port then 0 else 1) + 0xA + fieldAt cam (0x22 + 8 * k) 1) 1))
      | none => 0
    let rate := (e.f 0x0032 0 0 4).getD 0
    decide ((frames + 1) * div * fieldAt cam 8 2 + div * dly + (rate + 3999) / 4000 + 1 ≤ l64 high)

/-- The rules of R277 and R278 on a GRAV payload; `me` is this device's press device index, `high` a press resolution of 1,200. -/
def gravOk (high : Bool) (e : Eff) (me : Nat) (b : List Byte) : Bool :=
  let f := fieldAt b
  let n := f 0 1
  decide (n ≤ 8 ∧ b.length = 0x840 + 2176 * n ∧ f 1 1 ≤ 64 ∧ f 2 1 ≤ 8 ∧ f 3 1 ≤ 15 ∧ f 0xC 2 ≤ 4096 ∧ f 0xE 2 ≤ 1024) &&
  decide (f 0x10 2 ≤ 1024 ∧ f 0x12 2 < f 0x18 2 ∧ f 0x1A 2 < f 0x14 2 ∧ f 0x14 2 ≤ 16383 ∧ f 0x12 2 < f 0x16 2) &&
  decide (f 0x16 2 ≤ f 0x18 2 ∧ f 0x18 2 ≤ 4096 ∧ 4096 ≤ f 0x1A 2 ∧ f 0x1C 4 ≤ 16777215 ∧ f 0x22 2 ≤ 1024) && zeroAt b 0x24 28 &&
  (List.range 64).all (fun c =>
    let o := 0x40 + 32 * c
    if bit (f o 1) 0 then
      decide (f o 1 < 4 ∧ f (o + 1) 1 < n ∧ f (o + 2) 1 ≤ 7 ∧ f (o + 3) 1 ≤ 15 ∧ f (o + 4) 2 ≤ 511) && zeroAt b (o + 6) 2 &&
      zeroAt b (o + 0xE) 2 && !zeroAt b (o + 0x10) 16 && (f (o + 4) 2 != me || boundOk high e (f 2 1) (f (o + 2) 1))
    else zeroAt b o 32) &&
  (List.range n).all (fun m =>
    let q := sub b (0x840 + 2176 * m) 2176
    decide (fieldAt q 0 1 ≤ 2) && zeroAt q 1 1 && (List.range 3).all (fun k => decide (1 ≤ fieldAt q (2 + 2 * k) 2 ∧ fieldAt q (2 + 2 * k) 2 ≤ 4095)) &&
    fieldAt q 8 2 != 0 && zeroAt q 0xA 54 && monoT q && zeroAt q 0x842 62)

end Sys2Proof.Machine
end

