-- ==== Sys2Proof/Machine/Cask.lean ====
section
/-! DEFINITION. The flash arrays, FLS_PROGRAM and FLS_ERASE, and the Cask: its records, where they are written, and
compaction (spec/23_firmware_cask_flash.md, R399-R403, R410-R414). -/

namespace Sys2Proof.Machine

/-! ## The arrays (R399) -/

/-- Array `a`: 0 FLA, 1 FLB. -/
def State.array (s : State) (a : Nat) : Flash := look {} s.flash a

/-- Array `a` replaced. -/
def State.setArray (s : State) (a : Nat) (f : Flash) : State := { s with flash := store {} s.flash a f }

/-- Is the array used: 512 Mbit or 1 Gbit, and answering (R399)? -/
def State.arrayUsed (s : State) (a : Nat) : Bool := decide (0 < (s.array a).size)

/-- The start of the Cask region. -/
def State.caskBase (s : State) (a : Nat) : Nat := (s.array a).size - 0x1000000

/-- `n` bytes of an array from offset `o`, below its Cask region. An erased byte reads 0xFF; the table holds complements. -/
def State.flashRd (s : State) (a o n : Nat) : List Byte := (Memory.rds (s.array a).mem o n).map (fun b => ~~~ b)

/-- Bytes put into an array. -/
def State.flashWr (s : State) (a o : Nat) (bs : List Byte) : State :=
  s.setArray a { s.array a with mem := Memory.wrs (s.array a).mem o (bs.map (fun b => ~~~ b)) }

/-- Is the fetch window of the array open (R401)? -/
def State.window (s : State) (a : Nat) : Bool := if a = 0 then s.is .FLS_XIP_FLA_EN else s.is .FLS_XIP_FLB_EN

/-- The window of an array opened or closed. -/
def State.setWindow (s : State) (a : Nat) (on : Bool) : State :=
  if a = 0 then s.set .FLS_XIP_FLA_EN (b2n on) else if a = 1 then s.set .FLS_XIP_FLB_EN (b2n on) else s

/-- Pages of 256 bytes programmed in order; a bit programmed to 0 stays 0 until an erase. The first page that reads back otherwise than
written ends the run: its offset (R403). -/
def State.programPages : Nat → State → Nat → Nat → Nat → Option Nat × State
  | 0, s, _, _, _ => (none, s)
  | n + 1, s, a, o, src =>
    let want := Memory.rds s.hostMem src 256
    let got := List.zipWith (fun x y => x &&& y) (s.flashRd a o 256) want
    let s := s.flashWr a o got
    if got = want then State.programPages n s a (o + 256) (src + 256) else (some o, s)

/-- FLS_PROGRAM (R402, R403). -/
def execFlsProgram (d : Desc) (s : State) : Res State :=
  let a := d.p 0x10 1
  let n := d.p 0x14 4
  let o := d.p 0x18 4
  let h := d.p 0x20 8
  .next (s.submit d
    { opcode := 0x0901, long := true, used := [(0x10, 1), (0x14, 4), (0x18, 4), (0x20, 8)], counts := [n],
      range := decide (a ≤ 1) && n % 256 == 0 && o % 256 == 0 && decide (o + n ≤ s.caskBase a) && h % 64 == 0,
      state := if s.window a then stArrayInUse else 0 }
    (fun k s =>
      let r := s.programPages (n / 256) a o h
      match r.1 with
      | none => r.2.done k
      | some p => r.2.finish k stCheckFailed p 0))

/-- FLS_ERASE (R402, R403). -/
def execFlsErase (d : Desc) (s : State) : Res State :=
  let a := d.p 0x10 1
  let n := d.p 0x14 4
  let f := d.p 0x18 4
  .next (s.submit d
    { opcode := 0x0902, long := true, used := [(0x10, 1), (0x14, 4), (0x18, 4)], counts := [n],
      range := decide (a ≤ 1) && decide (65536 * (f + n) ≤ s.caskBase a), state := if s.window a then stArrayInUse else 0 }
    (fun k s => (s.setArray a { s.array a with mem := zeroRange (s.array a).mem (65536 * f) (65536 * n) }).done k))

/-! ## Records (R410) -/

/-- The bytes a record takes: its header of 32 and its data, padded to a multiple of 64. -/
def CaskRec.bytes (r : CaskRec) : Nat := up64 (32 + r.data.length)

/-- The record of highest SEQ among those of a kind, schema and key. -/
def State.caskLatest (s : State) (kind schema key : Nat) : Option CaskRec :=
  (s.cask.filter (fun r => r.kind == kind && r.schema == schema && r.key == key)).foldl
    (fun a r => match a with | some x => if x.seq < r.seq then some r else a | none => some r) none

/-- Is the record the one in force for its kind, schema and key? -/
def State.caskLive (s : State) (r : CaskRec) : Bool := s.caskLatest r.kind r.schema r.key == some r

/-- The next SEQ: above every one written. -/
def State.caskSeq (s : State) : Nat := maxOf (s.cask.map CaskRec.seq) + 1

/-- Bytes of records in a sector of the Cask region of array `a`, and whether it is erased. -/
def State.sectorFill (s : State) (a k : Nat) : Nat :=
  ((s.cask.filter (fun r => r.array == a && r.sector == k)).map CaskRec.bytes).sum
def State.sectorErased (s : State) (a k : Nat) : Bool := s.sectorFill a k == 0

/-- Erased sectors of the array's Cask region. -/
def State.caskFree (s : State) (a : Nat) : List Nat := (List.range 256).filter (s.sectorErased a)

/-- The member of a list with the least value of `f`, the first of equals. -/
def leastBy (f : Nat → Nat) (l : List Nat) : Option Nat :=
  l.foldl (fun a x => match a with | some y => if f x < f y then some x else a | none => some x) none

/-- The erase count of a sector. -/
def State.eraseCount (s : State) (a k : Nat) : Nat := look 0 s.erases (256 * a + k)

/-- Where a record of `n` bytes goes on the array: the sector being filled while it has room, else the erased sector with the lowest
erase count (R414). A sector's first 64 bytes hold its erase count. -/
def State.caskPlace (s : State) (a n : Nat) : Option Nat :=
  let cur := ((s.cask.filter (fun r => r.array == a)).getLast?).map CaskRec.sector
  match cur with
  | some k => if s.sectorFill a k + n ≤ 65536 - 64 then some k else leastBy (s.eraseCount a) (s.caskFree a)
  | none => leastBy (s.eraseCount a) (s.caskFree a)

/-- The array the boot pointer names ACTIVE (R405); the one booted from where there is no pointer. Its data is one byte each of ACTIVE,
PREVIOUS and STATE (log entry 14). -/
def State.bootPointer (s : State) : Option CaskRec := s.caskLatest 1 0 0
def State.ptrActive (s : State) : Nat := match s.bootPointer with | some r => fieldAt r.data 0 1 | none => s.get .FLS_BOOT_SRC % 2
def State.ptrPrev (s : State) : Nat := match s.bootPointer with | some r => fieldAt r.data 1 1 | none => s.get .FLS_BOOT_SRC % 2
def State.ptrState (s : State) : Nat := match s.bootPointer with | some r => fieldAt r.data 2 1 | none => 0

/-- The array Cask records are written to now (R411): one whose window is closed; of two, the one that is not ACTIVE. -/
def State.caskArray (s : State) : Option Nat :=
  let l := [0, 1].filter (fun a => s.arrayUsed a && !s.window a)
  match l with
  | [a, b] => some (if a = s.ptrActive then b else a)
  | [a] => some a
  | _ => none

/-- CASK_WEAR kept up to date. -/
def State.showWear (s : State) : State :=
  let s := s.set .CASK_WEAR_MAX_ERASE (min (maxOf (s.erases.map Prod.snd)) (2 ^ 20 - 1))
  match s.caskArray with
  | some a => s.set .CASK_WEAR_FREE (s.caskFree a).length
  | none => s

/-- A record appended on array `a`, with the next SEQ; dropped where no sector has room. -/
def State.caskAppend (s : State) (a kind schema key : Nat) (data : List Byte) : State :=
  let r : CaskRec := { array := a, sector := 0, kind := kind, schema := schema, key := key, seq := s.caskSeq, data := data }
  match s.caskPlace a r.bytes with
  | none => s
  | some k => State.showWear { s with cask := s.cask ++ [{ r with sector := k }] }

/-- A Cask write (R411): made, or deferred and counted while no window is closed. A device with no used array keeps nothing. -/
def State.caskPut (s : State) (kind schema key : Nat) (data : List Byte) : State :=
  if !s.arrayUsed 0 && !s.arrayUsed 1 then s
  else match s.caskArray with
  | some a => s.caskAppend a kind schema key data
  | none => State.bump { s with fw := { s.fw with due := s.fw.due ++ [(kind, schema, key, data)] } } .CASK_STATUS_DEFERRED

/-- A settings record in the firmware's schema. -/
def State.caskSave (s : State) (kind key : Nat) (data : List Byte) : State := s.caskPut kind (s.get .CASK_SCHEMA_CUR) key data

/-- Deferred writes made once a window closes (R411). -/
def State.caskFlush (s : State) : State :=
  match s.caskArray with
  | none => s
  | some a =>
    let l := s.fw.due
    l.foldl (fun s r => s.caskAppend a r.1 r.2.1 r.2.2.1 r.2.2.2) { s with fw := { s.fw with due := [] } }

/-- The boot pointer written (R405): kind 1, schema 0. -/
def State.writePointer (s : State) (active prev state : Nat) : State :=
  (s.caskPut 1 0 0 (leBytes 1 active ++ leBytes 1 prev ++ leBytes 1 state)).set .FLS_BOOT_STATE state

/-- CASK_RECORD_WRITE (R411): firmware that has taken over writes a settings record in its schema. -/
def execCaskRecordWrite (kind key : Nat) (data : List Byte) (s : State) : Res State :=
  .next (s.when (s.is .FLS_STATUS_READY && !s.fwAway && decide (2 ≤ kind ∧ kind ≤ 6) && (s.get .CASK_STATUS_STATE == 1 || s.get .CASK_STATUS_STATE == 3))
    (fun s => s.caskSave kind key data))

/-- The kinds and keys recorded in a schema. -/
def State.caskKeys (s : State) (schema : Nat) : List (Nat × Nat) :=
  ((s.cask.filter (fun r => r.schema == schema && r.kind != 1)).map (fun r => (r.kind, r.key))).eraseDups

/-- A sector of the Cask region erased, its records gone. -/
def State.eraseSector (s : State) (a k : Nat) : State :=
  { s with cask := s.cask.filter (fun r => !(r.array == a && r.sector == k)),
           erases := store 0 s.erases (256 * a + k) (s.eraseCount a k + 1) }

/-- Is the record to be kept: in force, or of the pinned schema (R412, R414)? -/
def State.caskKeep (s : State) (r : CaskRec) : Bool :=
  s.caskLive r || (decide (2 ≤ s.get .CASK_STATUS_STATE) && r.schema == s.get .CASK_SCHEMA_PINNED && r.kind != 1)

/-- Where compaction puts a record of `n` bytes copied out of sector `k`: as any new record, and never back into it. -/
def State.copyPlace (s : State) (a k n : Nat) : Option Nat :=
  match s.caskPlace a n with
  | some j => if j = k then leastBy (s.eraseCount a) (s.caskFree a) else some j
  | none => none

/-- CASK_COMPACTION (R414): below 48 erased sectors, the records to keep of the sector with the fewest are copied out, and it is erased;
of equals, the one with the lowest erase count. -/
def execCaskCompaction (s : State) : Res State :=
  .next (match s.caskArray with
  | none => s
  | some a => s.when (!s.fwAway && decide ((s.caskFree a).length < 48)) (fun s =>
      let kept := fun k => (s.cask.filter (fun r => r.array == a && r.sector == k && s.caskKeep r))
      let full := (List.range 256).filter (fun k => !s.sectorErased a k)
      match leastBy (fun k => (kept k).length * 2 ^ 32 + s.eraseCount a k) full with
      | none => s
      | some k =>
        let s' := (kept k).foldl (fun s r =>
          match s.copyPlace a k r.bytes with
          | some j => { s with cask := s.cask ++ [{ r with sector := j, seq := s.caskSeq }] }
          | none => s) s
        if s'.cask.length = s.cask.length + (kept k).length then (s'.eraseSector a k).showWear else s))

end Sys2Proof.Machine
end

