-- ==== Sys2Proof/Machine/Bar.lean ====
section
/-! DEFINITION. Managers and workers: enumeration, binding, the checks while printing, release, coverage
(spec/19_bar_hierarchy.md, R334-R349). -/

namespace Sys2Proof.Machine

/-! ## Causes of a hold (R344, R347) -/

/-- BAR_STATUS.STATE: 0 not enumerated, 2 printing, 3 held, 4 withheld, 5 excess, 6 conflict. -/
def stateOf (enumerated : Bool) (m : Nat) : Nat :=
  if bit m hCONFLICT then 6 else if bit m hEXCESS then 5 else if !enumerated then 0
  else if bit m hIMAGE || bit m hFW then 3
  else if bit m hTIME || bit m hRESYNC || bit m hCOMP then 4 else 2

/-! ## The devices of a manager -/

/-- The device enumerated at a press device index. -/
def State.dev (s : State) (i : Nat) : Option Dev := s.devs.find? (fun x => x.index == i)

/-- A device's entry replaced. -/
def State.putDev (s : State) (x : Dev) : State := { s with devs := s.devs.map (fun y => if y.index = x.index then x else y) }

/-- The binding of a position. -/
def State.bind (s : State) (i : Nat) : Bind := look {} s.binds i

/-- The binding of a position replaced. -/
def State.setBind (s : State) (i : Nat) (b : Bind) : State := { s with binds := store {} s.binds i b }

/-- A manager sets the causes of a device: in its table, in BAR_COV_CAUSE, and on the device, itself or over Wort. -/
def State.setCause (s : State) (i m : Nat) : State :=
  match s.dev i with
  | none => s
  | some x =>
    let s := (s.putDev { x with cause := m }).set .BAR_COV_CAUSE_HOLD m 0 i
    if s.is .BAR_STATUS_ENUMERATED && i == s.myIndex then s.setHold m
    else if m = x.cause then s else s.out (.wort "hold" [i, m])

/-- One cause of a device. -/
def State.causeBit (s : State) (i b : Nat) (on : Bool) : State :=
  match s.dev i with
  | none => s
  | some x => s.setCause i (putBit x.cause b on)

/-- The bindings and COMPs persisted (R341): records of 29 bytes, whose layout is the model's (log entry 14). -/
def State.saveBinds (s : State) : State :=
  s.caskSave 2 0 (s.binds.flatMap (fun (e : Nat × Bind) => leBytes 2 e.1 ++ leBytes 2 e.2.comp ++ leBytes 8 e.2.id ++
    leBytes 8 e.2.expect ++ leBytes 4 e.2.fwMin ++ leBytes 4 e.2.fwMax ++ leBytes 1 (b2n e.2.bound + 2 * b2n e.2.any)))

/-- The bindings and COMPs restored at boot from the record in force (R341, R412). -/
def State.restoreBinds (s : State) : State :=
  match s.caskRec 2 0 with
  | none => s
  | some r =>
    (List.range (r.data.length / 29)).foldl (fun s i =>
      let e := sub r.data (29 * i) 29
      s.setBind (fieldAt e 0 2) { bound := bit (fieldAt e 28 1) 0, any := bit (fieldAt e 28 1) 1, id := fieldAt e 4 8, comp := fieldAt e 2 2,
                                  expect := fieldAt e 12 8, fwMin := fieldAt e 20 4, fwMax := fieldAt e 24 4, persist := true }) s

/-- The causes that the checks of R344 find on a device, RESYNC, CONFLICT and EXCESS apart. A position never bound has no identity,
composite or band to compare. -/
def State.judge (s : State) (x : Dev) (unsync owner : Bool) : Nat :=
  let b := s.bind x.index
  let m := putBit 0 hIMAGE (b.bound && x.composite != b.expect)
  let m := putBit m hFW (b.bound && !(decide (b.fwMin ≤ x.fw ∧ x.fw ≤ b.fwMax)))
  let m := putBit m hTIME (unsync && !owner)
  let m := putBit m hCOMP (x.comp == 0xFFFF && !owner)
  putBit m hREPLACED (b.bound && x.id != b.id)

/-- A position bound to any identity takes the one present (R341). -/
def State.bindPresent (s : State) (i id : Nat) : State :=
  let b := s.bind i
  if b.bound && b.any then s.setBind i { b with id := id, any := false } else s

/-! ## Coverage (R349) -/

/-- A report of a coverage change taken: `unbound` are the device's unbound channels. A replacement whose every channel is bound is a
replacement no more, and its identity is the bound one (R343). Bit 3 of the causes: the device resynchronises (R346). -/
def State.coverageReport (s : State) (index mask cause unbound : Nat) : State :=
  let s := s.recordCoverage index (mask % 2 ^ 64) (cause % 8)
  let s := s.causeBit index hRESYNC (bit cause 3)
  match s.dev index with
  | none => s
  | some x =>
    let s := s.putDev { x with unbound := unbound % 2 ^ 64 }
    if unbound % 2 ^ 64 = 0 ∧ bit x.cause hREPLACED then
      let b := s.bind index
      let s := (s.setBind index { b with id := x.id }).causeBit index hREPLACED false
      if b.persist then s.saveBinds else s
    else s

/-- COVERAGE_REPORT (R349): one that comes during a firmware hand-over or stall waits for its end (R347). -/
def execCoverageReport (index mask cause unbound : Nat) (s : State) : Res State :=
  .next (s.when (s.manages && decide (index < 512)) (fun s =>
    s.firmware 0 (.coverage index mask cause unbound) (fun s => s.coverageReport index mask cause unbound)))

/-- Commands forwarded to devices that are lost complete FENCED (R117, R327). -/
def State.failRemote (s : State) (l : List Nat) : State :=
  (s.slots.filter (fun e => e.2.inUse && e.2.remote && !e.2.final && l.contains e.2.dest)).foldl
    (fun s e => s.finish (mkHandle e.2.gen e.1) stFenced) s

/-- A device's links are lost (R35, R332): its manager records all its channels, for a bar manager (device 0 of a bar) those of the whole
bar, and what was forwarded there is over; a device whose own manager is lost knows it. -/
def State.lostPeer (s : State) (id p : Nat) : State :=
  let s := if s.upPort = some p then { s with upLost := true } else s
  if !s.manages then s
  else match s.devs.find? (fun x => x.id == id && decide (x.index < 512)) with
  | none => s
  | some x =>
    let gone := s.devs.filter (fun y => y.index == x.index || (x.index % 32 == 0 && y.index / 32 == x.index / 32))
    (gone.foldl (fun s y => s.recordCoverage y.index (2 ^ 64 - 1) 2) s).failRemote (gone.map Dev.index)

/-! ## Enumeration (R334-R340) -/

/-- A breadth-first walk over trained ports in port order: each device reached with its upstream port and hops. It goes on from the
devices that `pass` allows. -/
def walk (links : Nat → List (Option (Nat × Nat))) (pass : Nat → Bool) : Nat → List (Nat × Nat × Nat) → List Nat → List (Nat × Nat × Nat)
  | 0, _, _ => []
  | _, [], _ => []
  | n + 1, x :: q, seen =>
    let new := if pass x.1 then
        (links x.1).foldl (fun (a : List (Nat × Nat × Nat)) l => match l with
          | some (d, up) => if seen.contains d || a.any (fun y => y.1 == d) then a else a ++ [(d, up, x.2.2 + 1)]
          | none => a) []
      else []
    x :: walk links pass n (q ++ new) (seen ++ new.map Prod.fst)

/-- The place in `found` of the press manager, at which the numbering begins: this device's, unless it is a trio member that sees one. -/
def rootOf (found : List Found) : Nat :=
  if ((found[0]?).map (fun x => x.seen.role)) == some 1 then 0
  else ((List.range found.length).find? (fun i => ((found[i]?).map (fun x => x.seen.role)) == some 1)).getD 0

/-- Is the device at place `d` a manager of a bar? -/
def managerAt (found : List Found) (d : Nat) : Bool :=
  d == rootOf found || (match found[d]? with | some x => x.seen.role == 1 || x.seen.role == 2 | none => false)

/-- The numbers in bar `b` of manager `m` (its place, upstream port, hops), but for devices of the bars before it: for each device its place,
press device index (0xFFFF excess), upstream port and hops from its bar manager (R334, R335). -/
def barNumbers (found : List Found) (before : List Nat) (b : Nat) (m : Nat × Nat × Nat) : List (Nat × Nat × Nat × Nat) :=
  let links := fun d => ((found[d]?).map Found.links).getD []
  let bad := decide (16 ≤ b) || decide (4 < m.2.2)
  let own := (walk links (fun d => d == m.1 || !managerAt found d) (found.length + 1) [(m.1, m.2.1, 0)] [m.1]).filter (fun x =>
    x.1 == m.1 || (!managerAt found x.1 && !before.contains x.1))
  (List.range own.length).map (fun d =>
    let x := own.getD d (0, 0, 0)
    (x.1, if bad || decide (32 ≤ d) || decide (7 < x.2.2) then 0xFFFF else 32 * b + d, x.2.1, x.2.2))

/-- The numbers enumeration gives in the whole press (R334, R335). -/
def numbers (found : List Found) : List (Nat × Nat × Nat × Nat) :=
  let links := fun d => ((found[d]?).map Found.links).getD []
  let r := rootOf found
  let bars := (walk links (fun _ => true) (found.length + 1) [(r, 0xFF, 0)] [r]).filter (fun x => managerAt found x.1)
  (List.range bars.length).foldl (fun (a : List (Nat × Nat × Nat × Nat)) b =>
    a ++ barNumbers found (a.map Prod.fst) b (bars.getD b (0, 0, 0))) []

/-- Half of a measured delay, rounded half up (R338). -/
def halfUp (v : Int) : Int := (v + 1) / 2

/-- The entry of a device in the result table (R337). -/
def Dev.entry (x : Dev) : List Byte :=
  leBytes 2 x.index ++ leBytes 1 x.role ++ leBytes 1 (stateOf (x.index != 0xFFFF) x.cause) ++ leBytes 1 x.up ++ leBytes 1 x.hops ++
  leBytes 2 x.cause ++ leBytes 8 x.id ++ leBytes 8 x.composite ++ leBytes 4 x.fw ++ leBytes 2 x.comp ++ leBytes 2 0

/-- COMP of the device at place `k`: 0 on the owner, which is this device; as measured; else as recorded (R338, R339). -/
def State.compFor (s : State) (measure : Bool) (x : Found) (k index : Nat) : Nat :=
  if k = 0 then 0
  else if measure then
    let v := halfUp (x.echo - 524288)
    if 0 ≤ v ∧ s.compOk v.toNat then v.toNat else 0xFFFF
  else if s.compOk (s.bind index).comp then (s.bind index).comp else 0xFFFF

/-- The delay of a device from trio member `t` in 1/128 ticks (R361): `x` is the device, the member's own COMP from T0 is `ct`. -/
def trioDelay (x : Found) (t : Nat) (ct c : Nat) : Int := x.trio.getD (t - 1) 0 + ct - c - 524288

/-- The trio delays of a device written by its bar manager (R361): its own registers for this device, over Wort for another. -/
def State.writeTrioComps (s : State) (found : List Found) (comps : List (Nat × Nat)) (k index : Nat) : State :=
  match found[k]? with
  | none => s
  | some x =>
    let c := ((comps.find? (fun y => y.1 == k)).map Prod.snd).getD 0
    [0, 1, 2].foldl (fun s t =>
      let m := (List.range found.length).find? (fun j => ((found[j]?).map Found.pos).getD 0 == t && t != 0)
      let ct : Nat := match m with | some j => ((comps.find? (fun y => y.1 == j)).map Prod.snd).getD 0 | none => 0
      let v : Int := if t = 0 then c else if m = some k then 0 else if k = 0 then ct else trioDelay x t ct c
      if t ≠ 0 ∧ m.isNone ∨ v < 0 ∨ 65535 < v then s
      else if index = s.myIndex then (s.set .TRIO_COMP_COMP v.toNat 0 t).on .TRIO_COMP_VALID 0 t
      else s.out (.wort "trioComp" [index, t, v.toNat])) s

/-- A replacement's channels are all unbound (R343). -/
def Dev.unboundIf (x : Dev) : Dev := if bit x.cause hREPLACED then { x with unbound := 2 ^ 64 - 1 } else x

/-- One device found, numbered `n` and checked (R337-R340): its entry, its measured COMP recorded, and, where it is this device's to manage,
what it is told. `clash` says whether there are too many press managers, too many trio members. -/
def State.enumDevice (s : State) (measure : Bool) (found : List Found) (comps : List (Nat × Nat)) (clash : Bool × Bool)
    (n : Nat × Nat × Nat × Nat) : State :=
  match found[n.1]? with
  | none => s
  | some x =>
    let comp := ((comps.find? (fun y => y.1 == n.1)).map Prod.snd).getD 0xFFFF
    let s := s.bindPresent n.2.1 x.seen.id
    let v : Dev := { index := n.2.1, role := x.seen.role, up := n.2.2.1, hops := n.2.2.2, cause := 0, id := x.seen.id,
                     composite := x.seen.composite, fw := x.seen.fw, comp := comp, unbound := x.seen.unbound }
    let m := if n.2.1 = 0xFFFF then putBit 0 hEXCESS true else s.judge v x.seen.unsync (n.1 == 0)
    let m := putBit m hCONFLICT ((x.seen.role == 1 && clash.1) || (x.seen.role == 0 && clash.2))
    let s := { s with devs := s.devs ++ [Dev.unboundIf { v with cause := m }] }
    if n.2.1 = 0xFFFF then s.out (.wort "excess" [x.seen.id])
    else
      let s := if measure && n.1 != 0 then s.out (.bus "probe" [n.2.1]) else s
      let s := if measure && comp != 0xFFFF && n.1 != 0 then s.setBind n.2.1 { s.bind n.2.1 with comp := comp } else s
      let s := s.set .BAR_COV_CAUSE_HOLD m 0 n.2.1
      if n.2.1 / 32 != s.get .BAR_STATUS_BAR && n.2.1 % 32 != 0 then s
      else
        let s := if measure then s.writeTrioComps found comps n.1 n.2.1 else s
        if n.1 = 0 then s.setHold m
        else s.out (.wort "numbered" [n.2.1, n.2.2.1, n.2.2.2, comp, m + 256 * b2n (clash.1 || clash.2)])

/-- The devices numbered and checked in press index order, with excess devices last; measured COMPs are persisted with the bindings. -/
def State.enumAll (s : State) (measure : Bool) (found : List Found) (nums : List (Nat × Nat × Nat × Nat)) (clash : Bool × Bool) : State :=
  let comps := nums.map (fun n => (n.1, match found[n.1]? with | some x => s.compFor measure x n.1 n.2.1 | none => 0xFFFF))
  let order := (nums.filter (fun n => n.2.1 != 0xFFFF)) ++ (nums.filter (fun n => n.2.1 == 0xFFFF))
  let s := order.foldl (fun s n => s.enumDevice measure found comps clash n) { s with devs := [] }
  if measure && s.binds.any (fun e => e.2.persist) then s.saveBinds else s

/-- BAR_ENUM executed. With MEASURE every device treats bus edges as probes meanwhile, this one until the command completes, in this same step
(R338). -/
def State.barEnum (s : State) (h : Nat) (d : Desc) (found : List Found) : State :=
  let measure := bit (d.p 0x10 1) 0
  let max := d.p 0x14 2
  let addr := d.p 0x18 8
  let nums := numbers found
  let roles := fun r => (nums.filter (fun n => ((found[n.1]?).map (fun x => x.seen.role)) == some r)).length
  let clash := (decide (1 < roles 1), decide (2 < roles 0))
  let me := (nums.find? (fun n => n.1 == 0)).getD (0, 0, 0xFF, 0)
  let i := if me.2.1 = 0xFFFF then 0 else me.2.1
  let s := (((s.on .BAR_STATUS_ENUMERATED).set .BAR_STATUS_BAR (i / 32)).set .BAR_STATUS_DEVICE (i % 32)).set .BAR_STATUS_INDEX i
  let s := { s with upPort := if me.2.2.1 < 4 then some me.2.2.1 else none, upLost := false, clash := clash.1 || clash.2 }
  let s := if measure then (s.out (.wort "measure" [1])).set .FIRE_TRIG_COMP 0 else s
  let s := s.enumAll measure found nums clash
  let s := if measure then s.out (.wort "measure" [0]) else s
  let out := s.devs.take max
  let s := { s with hostMem := Memory.wrs s.hostMem addr (out.flatMap Dev.entry) }
  let clashes := (s.devs.filter (fun x => bit x.cause hCONFLICT)).length
  let result := s.devs.length % 65536 + 65536 * out.length
  if clash.1 || clash.2 then s.finish h stMismatch result clashes else s.finish h stDone result 0

/-- A bar manager enumerates its bar, as the press manager has told it (R337). -/
def State.enumBar (s : State) (measure : Bool) (found : List Found) : State :=
  s.enumAll measure found (barNumbers found [] (s.get .BAR_STATUS_BAR) (0, (s.upPort.getD 0xFF), 0)) (false, false)

/-- BAR_ENUM (R336-R339, R361). `found` lists the devices reached over trained ports, this device first. `told`: a bar manager does its part
under the same PARAM. -/
def execBarEnum (d : Desc) (found : List Found) (s : State) (told : Bool := false) : Res State :=
  let flags := d.p 0x10 1
  let max := d.p 0x14 2
  let addr := d.p 0x18 8
  .next (if told then s.when (s.role == roleBar && s.is .BAR_STATUS_ENUMERATED && !s.activeManager && !s.fwAway)
      (fun s => s.enumBar (bit flags 0) found)
    else s.submit d
      { opcode := 0x0701, long := true, used := [(0x10, 1), (0x14, 2), (0x18, 8)], sizes := [max],
        range := decide (flags < 2) && decide (max ≤ 1024) && addr % 64 == 0,
        state := if !s.activeManager || bit (s.get .MOT_STATUS_MOVING) 0 || s.is .MOT_STATUS_JOB then stBadState else 0 }
      (fun h s => s.firmware h (.barEnum d found) (fun s => s.barEnum h d found)))

/-- LINK_UP_ENUMERATION (R340). On the manager: the device `x` comes up at position `index`, takes its recorded COMP and is checked; beyond
the limits it is excess. On the device itself (`own`): it learns its number, COMP and causes from its manager, and in bit 8 of them whether the
press has a role conflict (R30). -/
def execLinkUpEnumeration (own : Bool) (index up hops : Nat) (x : BarSeen) (comp cause : Nat) (s : State) : Res State :=
  .next (if own then
      let s := { s with upPort := some up, upLost := false }
      let s := if index < 512 then
          (((s.on .BAR_STATUS_ENUMERATED).set .BAR_STATUS_BAR (index / 32)).set .BAR_STATUS_DEVICE (index % 32)).set .BAR_STATUS_INDEX index
        else s
      let s := if s.compOk comp then s.set .FIRE_TRIG_COMP comp else s
      State.setHold { s with clash := bit cause 8 } (cause % 256)
    else s.when (s.manages && !s.fwAway) (fun s =>
      if 512 ≤ index ∨ 7 < hops then s.out (.wort "excess" [x.id])
      else
        let s := s.bindPresent index x.id
        let c := if s.compOk (s.bind index).comp then (s.bind index).comp else 0xFFFF
        let v : Dev := { index := index, role := x.role, up := up, hops := hops, cause := 0, id := x.id, composite := x.composite,
                         fw := x.fw, comp := c, unbound := x.unbound }
        let m := s.judge v x.unsync false
        let s := { s with devs := s.devs.filter (fun (y : Dev) => y.index != index) ++ [Dev.unboundIf { v with cause := m }] }
        let s := s.set .BAR_COV_CAUSE_HOLD m 0 index
        let s := if s.is .BAR_COV_CAUSE_LOST 0 index then
            s.recordCoverage index (s.get .BAR_COV_MAP_CH 0 index) (s.get .BAR_COV_CAUSE_FENCED 0 index + 4 * s.get .BAR_COV_CAUSE_CHANNELS 0 index)
          else s
        s.out (.wort "numbered" [index, up, hops, c, m + 256 * b2n s.conflict])))

/-! ## Binding (R341-R343) -/

/-- The bind entries of a BAR_BIND. -/
def State.bindEntries (s : State) (d : Desc) : List (List Byte) :=
  (List.range (d.p 0x10 2)).map (fun i => Memory.rds s.hostMem (d.p 0x18 8 + 32 * i) 32)

/-- Bind entries taken (R341): each replaces the binding of its position, which is checked again; with how many positions pass every check. -/
def State.takeBinds (s : State) (persist : Bool) (ents : List (List Byte)) : State × Nat :=
  let r := ents.foldl (fun (a : State × Nat) e =>
    let s := a.1
    let i := fieldAt e 0 2
    let comp := fieldAt e 4 2
    let b : Bind := { bound := true, any := fieldAt e 2 2 == 1, id := fieldAt e 8 8,
                      comp := if comp = 0xFFFF then (s.bind i).comp else comp, expect := fieldAt e 0x10 8,
                      fwMin := fieldAt e 0x18 4, fwMax := fieldAt e 0x1C 4, persist := persist }
    let s := s.setBind i b
    match s.dev i with
    | none => (s, a.2)
    | some x =>
      let s := s.bindPresent i x.id
      let x := { x with comp := if comp = 0xFFFF ∨ !s.compOk comp then x.comp else comp }
      let s := s.putDev x
      let keep := putBit (putBit 0 hRESYNC (bit x.cause hRESYNC)) hTIME (bit x.cause hTIME)
      let m := s.judge x false (i == s.myIndex) ||| keep ||| (putBit (putBit 0 hCONFLICT (bit x.cause hCONFLICT)) hEXCESS (bit x.cause hEXCESS))
      let s := if bit m hREPLACED && !bit x.cause hREPLACED then s.putDev { x with unbound := 2 ^ 64 - 1 } else s
      (s.setCause i m, a.2 + b2n (m == 0))) (s, 0)
  (if persist then r.1.saveBinds else r.1, r.2)

/-- BAR_BIND executed: the other bar managers are told. -/
def State.barBind (s : State) (h : Nat) (d : Desc) : State :=
  let r := s.takeBinds (bit (d.p 0x12 1) 0) (s.bindEntries d)
  (r.1.out (.wort "bind" (d.param.map BitVec.toNat))).done h r.2

/-- Is a bind table free of what R341 refuses? -/
def bindsOk (ents : List (List Byte)) : Bool :=
  decide ((ents.map (fun e => fieldAt e 0 2)).Nodup) && ents.all (fun e =>
    decide (fieldAt e 0 2 < 512 ∧ fieldAt e 2 2 < 2 ∧ fieldAt e 0x18 4 ≤ fieldAt e 0x1C 4) && fieldAt e 6 2 == 0 &&
    !(fieldAt e 2 2 == 1 && fieldAt e 8 8 != 0))

/-- BAR_BIND (R341). `told`: a bar manager takes the entries of its bar, as the press manager has told it under the same PARAM. -/
def execBarBind (d : Desc) (s : State) (told : Bool := false) : Res State :=
  let n := d.p 0x10 2
  let flags := d.p 0x12 1
  let addr := d.p 0x18 8
  let ents := s.bindEntries d
  .next (if told then s.when (s.role == roleBar && s.is .BAR_STATUS_ENUMERATED && !s.activeManager && !s.fwAway && bindsOk ents)
      (fun s => (s.takeBinds (bit flags 0) (ents.filter (fun e => fieldAt e 0 2 / 32 == s.get .BAR_STATUS_BAR))).1)
    else s.submit d
      { opcode := 0x0702, long := true, used := [(0x10, 2), (0x12, 1), (0x18, 8)], counts := [n],
        range := decide (flags < 2) && addr % 64 == 0 && bindsOk ents,
        state := if s.activeManager then 0 else stBadState }
      (fun h s => s.firmware h (.barBind d) (fun s => s.barBind h d)))

/-! ## Release (R348) -/

/-- The channels of a mask released or withdrawn on this device under a MODE. -/
def State.release (s : State) (mode mask : Nat) : State :=
  let before := (List.range 64).filter s.barred
  let s := if mode = 3 then { s with withdrawn := s.withdrawn ||| mask } else { s with withdrawn := andNot s.withdrawn mask }
  let s := if mode = 1 then
      let l := (maskList mask).filter (fun c => bit (s.get .BAR_UNBOUND_CH) c && s.rebinding c)
      { s with learning := l.foldl setBit s.learning }
    else s
  let s := if mode = 2 then
      (maskList mask).foldl (fun s c => if bit (s.get .BAR_UNBOUND_CH) c then (s.freshTable c).setBound c true else s) s
    else s
  (before.foldl (fun s c => if s.barred c then s else s.rejoinDevice c) s.cutHeads).noteCoverage

/-- A release in force, at once or once every channel named that has a head is back (R348): `h` is the command, 0 where a manager waits for the
report. -/
def State.releaseEnd (s : State) (h mode mask : Nat) : State :=
  if mode != 3 && (List.range 64).any (fun c => bit mask c && s.is .FIRE_CH_STATUS_ENABLED c && s.outOfPrint c) then
    { s with rels := s.rels ++ [(h, mask)] }
  else if h = 0 then s.out (.wort "released" [s.seq.next])
  else s.done h (s.seq.next % 2 ^ 32)

/-- BAR_RELEASE executed. -/
def State.barRelease (s : State) (h : Nat) (d : Desc) : State :=
  let i := d.p 0x10 2
  let mode := d.p 0x12 1
  let mask := d.p 0x18 8
  if !(s.is .BAR_STATUS_ENUMERATED && i == s.myIndex) then
    let x := s.slot (handleSlot h)
    (s.setSlot (handleSlot h) { x with remote := true, dest := i }).out (.wort "release" [i, mode, mask])
  else
    (s.release mode mask).releaseEnd h mode mask

/-- BAR_RELEASE (R348). From its queue the active press manager releases channels of its own device, or has another do so, whose report
completes the command. `told`: this device does what its manager has told it, under the same PARAM. -/
def execBarRelease (told : Bool) (d : Desc) (s : State) : Res State :=
  let i := d.p 0x10 2
  let mode := d.p 0x12 1
  let mask := d.p 0x18 8
  let me := s.is .BAR_STATUS_ENUMERATED && i == s.myIndex
  let dev := s.dev i
  let held := match dev with
    | some x => bit x.cause hIMAGE || bit x.cause hFW || bit x.cause hCONFLICT || bit x.cause hEXCESS
    | none => false
  let unbound := if me then s.get .BAR_UNBOUND_CH else match dev with | some x => x.unbound | none => 0
  .next (if told then s.when (me && !s.activeManager && decide (mode ≤ 3)) (fun s => (s.release mode mask).releaseEnd 0 mode mask)
    else s.submit d
      { opcode := 0x0703, long := true, used := [(0x10, 2), (0x12, 1), (0x18, 8)], counts := [mask],
        range := decide (mode ≤ 3) && dev.isSome,
        state := if !s.activeManager || held || (mode == 0 && (unbound &&& mask) != 0) then stBadState else 0 }
      (fun h s => s.firmware h (.barRelease d) (fun s => s.barRelease h d)))

/-! ## Time and digests (R345, R346) -/

/-- An offset judged: above 50 ns the TIME cause is set, at or below 20 ns cleared, between them kept. -/
def offsetCause (was : Bool) (ofs : Int) : Bool := if 50 < ofs.natAbs then true else if ofs.natAbs ≤ 20 then false else was

/-- TIME_STAMP_REPORT (R345). On the manager: the stamp `value` of device `index` for a line, against its own stamp of that line. On the
device itself (`own`): its manager writes the offset `value`. -/
def execTimeStampReport (own : Bool) (index line value : Nat) (s : State) : Res State :=
  .next (if own then
      (s.set .BAR_TIME_OFS_NS value).holdBit hTIME (offsetCause (s.is .BAR_HOLD_TIME) (toSigned 32 value))
    else s.when (s.manages && !s.fwAway) (fun s =>
      match s.dev index, s.lineStamps.find? (fun e => e.1 == line) with
      | some x, some e =>
        let ofs := toSigned 32 (value + 2 ^ 32 - e.2 % 2 ^ 32)
        (s.causeBit index hTIME (offsetCause (bit x.cause hTIME) ofs)).out (.wort "offset" [index, ofSigned 32 ofs])
      | _, _ => s))

/-- TIME_STAMP_LATE (R345): no stamp within 8,192 lines of the event counts as above 50 ns, unless it fell due while firmware was away
(R347). -/
def execTimeStampLate (own : Bool) (index line : Nat) (s : State) : Res State :=
  .next (if own then s.holdBit hTIME true
    else s.when (s.manages && !s.fwAway && decide (line + 8192 ≤ s.seq.next ∧ s.backAt ≤ line + 8192))
      (fun s => s.causeBit index hTIME true))

/-- The manager's page queue adopted as far as its digest says (R346): its next page is `page`, at `line`. -/
def State.adoptPage (s : State) (line page : Nat) : State :=
  let ahead := fun (p : Page) => decide (s.seq.next ≤ p.first)
  let l := (s.pages.filter (fun p => !ahead p || (p.id == page || decide (line < p.first)))).map (fun (p : Page) =>
    if ahead p && p.id == page then { p with first := line } else p)
  { s with pages := l }

/-- PAGE_DIGEST (R346): the manager's line, page and composite for the next page, against the device's own. A page that differs
resynchronises the device; a composite alone that differs holds it. -/
def execPageDigest (line page composite : Nat) (s : State) : Res State :=
  .next (s.when (!s.fwAway && s.is .BAR_STATUS_ENUMERATED) (fun s =>
    let mine := s.pages.find? (fun p => decide (s.seq.next ≤ p.first))
    let same := match mine with | some p => p.first == line && p.id == page | none => false
    if same then (if s.compositeAt line = composite then s.holdBit hIMAGE false else s.holdBit hIMAGE true)
    else
      let s := s.adoptPage line page
      if s.is .FIRE_STATUS_WITHHELD then s else s.withhold))

/-! ## Clears -/

/-- BAR_RESYNC.CLR. -/
def execBarResyncClr (s : State) : Res State := .next (s.reach .hierarchy 0 (fun s => s.set .BAR_RESYNC_COUNT 0))

/-- BAR_COV_EVENTS.CLR. -/
def execBarCovEventsClr (s : State) : Res State :=
  .next (s.reach .hierarchy 0 (fun s => s.set .BAR_COV_EVENTS_COUNT 0))

end Sys2Proof.Machine
end

