-- ==== Sys2Proof/Machine/Lane.lean ====
section
/-! DEFINITION. What a Wort data lane does to the blocks it carries (spec/18_wort_links.md, R319, R320, R329): 66-bit blocks, scrambling,
alignment groups and Reed-Solomon codewords. Blocks and codewords are numbers whose bit 0 goes first (log entry 137). -/

namespace Sys2Proof.Machine

/-! ## Blocks (R319, R320, R329) -/

/-- A data block of 64 bits, and a control block of a type with its fields in bits [65:10]: the sync header stands in bits [1:0]. -/
def dataBlock (v : Nat) : Nat := 1 + 4 * (v % 2 ^ 64)
def controlBlock (type fields : Nat) : Nat := 2 + 4 * (type % 256) + 2 ^ 10 * (fields % 2 ^ 56)

/-- The blocks of a flit: 32 data blocks of 8 bytes (R329). -/
def flitBlocks (b : List Byte) : List Nat := (List.range 32).map (fun j => dataBlock (fieldAt b (8 * j) 8))

/-! ## The scrambler 1 + x^39 + x^58 -/

/-- The next `n` bits, at most 39, of a stream whose last 58 scrambled bits are `h`, newest highest: each is mixed with those 39 and 58
before it. -/
def mixBits (h v n : Nat) : Nat := v % 2 ^ n ^^^ h / 2 ^ 19 % 2 ^ n ^^^ h % 2 ^ n

/-- The last 58 scrambled bits once `n` more, `v`, have gone. -/
def shiftBits (h v n : Nat) : Nat := (h + 2 ^ 58 * v) / 2 ^ n

/-- 64 payload bits scrambled, and the history they leave. -/
def scramble (h v : Nat) : Nat × Nat :=
  let a := mixBits h v 39
  let h1 := shiftBits h a 39
  let b := mixBits h1 (v / 2 ^ 39) 25
  (a + 2 ^ 39 * b, shiftBits h1 b 25)

/-- 64 bits descrambled, and the history they leave. -/
def descramble (h v : Nat) : Nat × Nat :=
  let a := mixBits h v 39
  let h1 := shiftBits h (v % 2 ^ 39) 39
  let b := mixBits h1 (v / 2 ^ 39) 25
  (a + 2 ^ 39 * b, shiftBits h1 (v / 2 ^ 39 % 2 ^ 25) 25)

/-! ## RS(272,258) over 10-bit symbols -/

/-- A symbol times x, and the product of two, in GF(2^10) with x^10 + x^3 + 1. -/
def gfTwice (a : Nat) : Nat := if a < 512 then 2 * a else (2 * a) ^^^ 0x409
def gfMul (a b : Nat) : Nat :=
  ((List.range 10).foldl (fun (r : Nat × Nat) i => (if bit b i then r.1 ^^^ r.2 else r.1, gfTwice r.2)) (0, a)).1

/-- α^n, and the inverse of a symbol: its 1,022nd power. -/
def gfPow (n : Nat) : Nat := (List.range n).foldl (fun a _ => gfTwice a) 1
def gfInv (a : Nat) : Nat := ((List.range 9).foldl (fun (r : Nat × Nat) _ => let q := gfMul r.2 r.2; (gfMul r.1 q, q)) (1, a)).1

/-- A polynomial, lowest coefficient first, at a point; a multiple of one added to another. -/
def gfEval (p : List Nat) (x : Nat) : Nat := p.foldr (fun c r => c ^^^ gfMul r x) 0
def gfAdd (p q : List Nat) (k : Nat) : List Nat :=
  (List.range (max p.length q.length)).map (fun i => p.getD i 0 ^^^ gfMul k (q.getD i 0))

/-- The generator, the product of x + α^j for j below 14, lowest coefficient first. -/
def rsGen : List Nat := (List.range 14).foldl (fun g j => gfAdd (0 :: g) g (gfPow j)) [1]

/-- The 14 parity symbols of 258 message symbols, the first symbol being the highest power. -/
def rsParity (m : List Nat) : List Nat :=
  let g := (rsGen.take 14).reverse
  m.foldl (fun r c => let f := c ^^^ r.headD 0; ((r.drop 1 ++ [0]).zip g).map (fun (e : Nat × Nat) => e.1 ^^^ gfMul f e.2)) (List.replicate 14 0)

/-- A codeword of 272 symbols. -/
def rsEncode (m : List Nat) : List Nat := m ++ rsParity m

/-- The 14 syndromes of a received codeword: all 0 for a codeword. -/
def rsSyndromes (w : List Nat) : List Nat := (List.range 14).map (fun j => gfEval w.reverse (gfPow j))

/-- The shortest recurrence of the syndromes: its polynomial and length. `b` is the one before its latest change of length, found with
discrepancy `d` and `m` steps ago. -/
def rsLocate (syn : List Nat) : List Nat → List Nat → List Nat → Nat → Nat → Nat → List Nat × Nat
  | [], c, _, len, _, _ => (c, len)
  | n :: ns, c, b, len, m, d =>
    let e := ((List.range (len + 1)).map (fun i => gfMul (c.getD i 0) (if i ≤ n then syn.getD (n - i) 0 else 0))).foldl (· ^^^ ·) 0
    if e = 0 then rsLocate syn ns c b len (m + 1) d
    else
      let c' := gfAdd c (List.replicate m 0 ++ b) (gfMul e (gfInv d))
      if 2 * len ≤ n then rsLocate syn ns c' c (n + 1 - len) 1 e else rsLocate syn ns c' b len (m + 1) d

/-- A received codeword corrected where up to 7 symbols are wrong: its message and how many were; none where it is uncorrectable. -/
def rsDecode (w : List Nat) : Option (List Nat × Nat) :=
  let syn := rsSyndromes w
  if w.length ≠ 272 then none
  else if syn.all (· == 0) then some (w.take 258, 0)
  else
    let r := rsLocate syn (List.range 14) [1] [1] 0 1 1
    let at_ := (List.range 272).filter (fun i => gfEval r.1 (gfPow (1023 - (271 - i))) == 0)
    let omega := (List.range 14).map (fun i => ((List.range (i + 1)).map (fun j => gfMul (r.1.getD j 0) (syn.getD (i - j) 0))).foldl (· ^^^ ·) 0)
    let slope := (List.range (r.1.length - 1)).map (fun i => if i % 2 = 0 then r.1.getD (i + 1) 0 else 0)
    let fixed := (List.range 272).map (fun i =>
      let x := gfPow (1023 - (271 - i))
      if at_.contains i then w.getD i 0 ^^^ gfMul (gfPow (271 - i)) (gfMul (gfEval omega x) (gfInv (gfEval slope x))) else w.getD i 0)
    if 7 < r.2 ∨ at_.length ≠ r.2 ∨ !(rsSyndromes fixed).all (· == 0) then none else some (fixed.take 258, at_.length)

/-! ## A lane's coder -/

/-- The 258 message symbols in a number of 2,580 bits. -/
def symbolsOf (v : Nat) : List Nat := (List.range 258).map (fun j => v / 2 ^ (10 * j) % 1024)

/-- A block put on the lane: its payload scrambled, its 66 bits joined to the codeword under way; a codeword that is full goes out. -/
def LaneTx.put (x : LaneTx) (block : Nat) : LaneTx × Option (List Nat) :=
  let y := scramble x.scr (block / 4)
  let acc := x.acc + 2 ^ x.len * (block % 4 + 4 * y.1)
  let last := x.place == 1289
  let x := { x with scr := y.2, place := if last then 0 else x.place + 1, group := if last then (x.group + 1) % 65536 else x.group }
  if x.len + 66 < 2580 then ({ x with acc := acc, len := x.len + 66 }, none)
  else ({ x with acc := acc / 2 ^ 2580, len := x.len + 66 - 2580 }, some (rsEncode (symbolsOf (acc % 2 ^ 2580))))

/-- The ALIGN block of lane `k` of port `p` (R320). -/
def LaneTx.align (x : LaneTx) (p k : Nat) : Nat := controlBlock 0x2D (k % 16 + 16 * (p % 4) + 64 * x.group)

/-- A block that the port hands to its lane `k`: at the head of each group of 1,290 the lane first inserts ALIGN. -/
def LaneTx.send (x : LaneTx) (p k block : Nat) : LaneTx × List (List Nat) :=
  let a := if x.place = 0 then x.put (x.align p k) else (x, none)
  let b := a.1.put block
  (b.1, a.2.toList ++ b.2.toList)

end Sys2Proof.Machine
end

