-- ==== Sys2Proof/Machine/Wort.lean ====
section
/-! DEFINITION. Wort links: bring-up, lanes and their retraining, width, flits, store reads, and the WORT section
(spec/18_wort_links.md, R318-R333). -/

namespace Sys2Proof.Machine

/-- Port `p` outside its registers. -/
def State.wport (s : State) (p : Nat) : WortPort := look {} s.wports p

/-- Port `p` replaced. -/
def State.setWport (s : State) (p : Nat) (w : WortPort) : State := { s with wports := store {} s.wports p w }

/-- The defaults of R326 as a port's block. -/
def wortDefault : List Byte :=
  leBytes 1 1 ++ leBytes 1 0xFF ++ leBytes 1 1 ++ leBytes 1 16 ++ leBytes 4 1048576 ++ leBytes 2 8 ++ leBytes 1 16 ++ leBytes 1 8 ++
  leBytes 2 512 ++ leBytes 2 512 ++ leBytes 2 512 ++ leBytes 2 512 ++ leBytes 1 4 ++ leBytes 1 4 ++ leBytes 1 4 ++ leBytes 41 0

/-- The block of port `p` in a WORT payload, the defaults where there is none. -/
def wortBlock (b : List Byte) (p : Nat) : List Byte := if b.isEmpty then wortDefault else sub b (64 * p) 64

/-- A field of port `p` in force. -/
def State.wf (s : State) (p o n : Nat) : Nat := fieldAt (wortBlock (s.sect 0x0052) p) o n

/-- Is the port used, powered and not fenced? -/
def State.wortOn (s : State) (p : Nat) : Bool :=
  decide (p < 4) && s.wf p 0 1 == 1 && s.powered (72 + 9 * p) && !s.fenced 5 p

/-- Does the port carry traffic? -/
def State.wortUp (s : State) (p : Nat) : Bool :=
  decide (p < 4) && (s.get .WL_PORT_STATUS_STATE p == 2 || s.get .WL_PORT_STATUS_STATE p == 3)

/-- Lanes the port may use: allowed by the section, powered and not fenced. -/
def State.wortLanes (s : State) (p : Nat) : List Nat :=
  (List.range 8).filter (fun k => bit (s.wf p 1 1) k && s.powered (64 + 9 * p + k) && !s.fenced 4 (9 * p + k))

/-- The mask of a list of lanes. -/
def laneMask (l : List Nat) : Nat := l.foldl setBit 0

/-- A mask with lanes 7 - k in place of k. -/
def mirror8 (m : Nat) : Nat := laneMask ((List.range 8).filter (fun k => bit m (7 - k)))

/-! ## Blocks dealt to the lanes (R319, R328) -/

/-- One block dealt: to the next active lane in ascending order, which codes it. -/
def State.dealBlock (s : State) (p block : Nat) : State :=
  let w := s.wport p
  let l := (List.range 8).filter (fun k => bit (s.get .WL_PORT_STATUS_ACTIVE p) k)
  match (l.find? (fun k => decide (w.turn ≤ k))).orElse fun _ => l.head? with
  | none => s
  | some k =>
    let r := (look {} w.lanes k).send p k block
    let s := s.setWport p { w with lanes := store {} w.lanes k r.1, turn := k + 1 }
    r.2.foldl (fun s c => s.out (.wort "codeword" ((9 * p + k) :: c))) s

/-- A flit sent, whole. -/
def State.sendFlit (s : State) (p : Nat) (b : List Byte) : State :=
  (flitBlocks b).foldl (fun s x => s.dealBlock p x) (s.out (.wort "flit" (p :: b.map BitVec.toNat)))

/-- A control block sent (R320). -/
def State.sendControl (s : State) (p : Nat) (name : String) (args : List Nat) (type fields : Nat) : State :=
  (s.out (.wort name (p :: args))).dealBlock p (controlBlock type fields)

/-! ## Width (R328) and fences -/

/-- The active lanes shown: mask, each lane, and state 2 or 3. -/
def State.setActive (s : State) (p m : Nat) : State :=
  let s := s.set .WL_PORT_STATUS_ACTIVE m p
  let s := s.each 8 (fun s k => s.set .WL_LANE_STATUS_ACTIVE (b2n (bit m k)) (9 * p + k))
  if s.wortUp p then s.set .WL_PORT_STATUS_STATE (if m = 0xFF then 2 else 3) p else s

/-- The port carries nothing: no lane, no peer, no credit. -/
def State.wortQuiet (s : State) (p state : Nat) : State :=
  let s := (s.setActive p 0).set .WL_PORT_STATUS_STATE state p
  (s.set .WL_PEER_ID 0 p).each 4 (fun s v => s.set .WL_VC_CREDIT_AVAIL 0 p v)

/-- What the port held is discarded; its history of lane retrains stays. -/
def State.wortDrop (s : State) (p : Nat) : State := s.setWport p { hist := (s.wport p).hist }

/-- DOWN sent four times by a port that was up (R332). -/
def State.sendDown (s : State) (p cause : Nat) : State :=
  if s.wortUp p then s.each 4 (fun s _ => s.sendControl p "down" [cause] 0x78 cause) else s

/-- A port fenced (R327, R395): it sends DOWN and nothing more, and the packets it held are discarded. -/
def State.fencePort (s : State) (p cause : Nat) : State :=
  let s := s.sendDown p 2
  let s := if s.get .WL_PEER_ID p = 0 then s else s.lostPeer (s.get .WL_PEER_ID p) p
  let s := (s.recordFence 5 p cause).wortQuiet p 5
  let s := s.each 9 (fun s k => s.off .WL_LANE_STATUS_WAITING (9 * p + k))
  s.wortDrop p

/-- Is a lane of the port retraining alone? -/
def State.laneBusy (s : State) (p : Nat) : Bool :=
  (List.range 8).any (fun k =>
    decide (2 ≤ s.get .WL_LANE_STATUS_STAGE (9 * p + k) ∧ s.get .WL_LANE_STATUS_STAGE (9 * p + k) ≤ 6))

/-- The next lane that waits begins its retrain (R325). -/
def State.nextLane (s : State) (p : Nat) : State :=
  if s.laneBusy p || !s.wortUp p then s
  else match (List.range 8).find? (fun k => s.is .WL_LANE_STATUS_WAITING (9 * p + k)) with
  | none => s
  | some k => (s.off .WL_LANE_STATUS_WAITING (9 * p + k)).set .WL_LANE_STATUS_STAGE 2 (9 * p + k)

/-- The active set changes: WIDTH names the new mask for the second group boundary ahead (R328). -/
def State.sendWidth (s : State) (p m : Nat) : State :=
  let group := (((s.wport p).lanes.head?).map (fun e => e.2.group)).getD 0
  (s.setWport p { s.wport p with width := some m }).sendControl p "width" [m] 0x66 (m + 256 * ((group + 2) % 65536))

/-- The mask the port is about to have. -/
def State.nextMask (s : State) (p : Nat) : Nat := (s.wport p).width.getD (s.get .WL_PORT_STATUS_ACTIVE p)

/-- A lane fenced (R321, R325, R395): a retrain of it is abandoned, the port goes on with the others, and with none, or without its
clock lane, the port is fenced. -/
def State.fenceLane (s : State) (i cause : Nat) : State :=
  if s.fenced 4 i then s
  else
    let p := i / 9
    let k := i % 9
    let s := s.recordFence 4 i cause
    let s := ((s.off .WL_LANE_STATUS_ACTIVE i).off .WL_LANE_STATUS_WAITING i).set .WL_LANE_STATUS_STAGE 0 i
    if k = 8 then
      (s.each 8 (fun s j => (s.recordFence 4 (9 * p + j) cause).set .WL_LANE_STATUS_STAGE 0 (9 * p + j))).fencePort p cause
    else if (s.wortLanes p).isEmpty then s.fencePort p cause
    else if !s.wortUp p then s
    else
      let m := clrBit (s.nextMask p) k
      if m = 0 then s.fencePort p cause else (s.sendWidth p m).nextLane p

/-- A lane leaves the port and retrains alone, or waits while another does (R325). -/
def State.leaveLane (s : State) (p k : Nat) : State :=
  let i := 9 * p + k
  if !s.wortUp p || !s.is .WL_LANE_STATUS_ACTIVE i then s
  else
    let busy := s.laneBusy p
    let s := s.off .WL_LANE_STATUS_ACTIVE i
    let s := if busy then (s.on .WL_LANE_STATUS_WAITING i).set .WL_LANE_STATUS_STAGE 1 i else s.set .WL_LANE_STATUS_STAGE 2 i
    let m := clrBit (s.nextMask p) k
    if m = 0 then s.fencePort p causeLink else s.sendWidth p m

/-- Domain `n` is about to be switched off: a data lane leaves its port, which goes on with the others; with a port's own domain its
links are lost. -/
def State.wortDown (s : State) (n : Nat) : State :=
  if n < 64 ∨ 100 ≤ n then s
  else
    let p := (n - 64) / 9
    let k := (n - 64) % 9
    if k = 8 then (if s.get .WL_PEER_ID p = 0 then s else s.lostPeer (s.get .WL_PEER_ID p) p)
    else if !s.wortUp p || !bit (s.nextMask p) k then s
    else
      let m := clrBit (s.nextMask p) k
      if m = 0 then s.fencePort p causeLink else s.sendWidth p m

/-- Domain `n` of a data lane has been switched on: the lane of a port that is up trains, and rejoins it. -/
def State.wortLaneUp (s : State) (n : Nat) : State :=
  let p := (n - 64) / 9
  let k := (n - 64) % 9
  if n < 64 ∨ 100 ≤ n ∨ k = 8 then s
  else if !s.wortUp p || !(s.wortLanes p).contains k then s
  else ((s.on .WL_LANE_STATUS_WAITING (n - 64)).set .WL_LANE_STATUS_STAGE 1 (n - 64)).nextLane p

/-! ## Bring-up (R321-R323, R327) -/

/-- INIT sent with a mask of lanes (R323): identity, ROLE, port, mask and the receive-buffer shares. -/
def State.sendInit (s : State) (p m : Nat) : State :=
  s.out (.wort "init" ([p, s.get .BAR_SELF_ID_ID, s.get .RST_STRAPS_ROLE, p, m] ++ (List.range 4).map (fun v => s.wf p (0xC + 2 * v) 2)))

/-- The port begins to train, at power-up or anew (R321, R327): `state` 1 training, 4 a retrain that keeps the replay buffer. -/
def State.wortTrain (s : State) (p state : Nat) : State :=
  let s := (s.setActive p 0).set .WL_PORT_STATUS_STATE state p
  let s := s.off .WL_PORT_STATUS_REVERSED p
  let s := s.each 9 (fun s k =>
    if s.fenced 4 (9 * p + k) then s
    else (s.set .WL_LANE_STATUS_STAGE 1 (9 * p + k)).off .WL_LANE_STATUS_WAITING (9 * p + k))
  s.setWport p { s.wport p with width := none, own := 0, lanes := [], turn := 0 }

/-- The port as a whole retrains (R327): counted; it sends nothing and keeps its replay buffer. -/
def State.wortRetrain (s : State) (p : Nat) : State :=
  if !s.wortOn p then s
  else
    let again := s.wortUp p || s.get .WL_PORT_STATUS_STATE p == 4
    let s := s.bump .WL_PORT_ERR_RETRAINS 1 p
    s.wortTrain p (if again then 4 else 1)

/-- The stages up to ORDER on one data lane: its result shown, or the lane fenced. -/
def State.trainLane (s : State) (p k : Nat) (x : LaneTrain) : State :=
  let i := 9 * p + k
  let s := (((s.set .WL_LANE_EYE_WIDTH x.width i).set .WL_LANE_EYE_TRAINED x.width i).off .WL_LANE_EYE_DRIFT i).set
    .WL_LANE_STATUS_INVERTED (b2n x.inverted) i
  if x.fail ≠ 0 ∨ x.width < s.wf p 3 1 then s.fenceLane i causeLink else s.set .WL_LANE_STATUS_STAGE 5 i

/-- ORDER and DESKEW (R322): reversed where every lane carries its mirror, else the lanes that match; then INIT is sent. -/
def State.orderLanes (s : State) (p : Nat) (num : Nat → Nat) : State :=
  let l := (s.wortLanes p).filter (fun k => s.get .WL_LANE_STATUS_STAGE (9 * p + k) == 5)
  let rev := !l.isEmpty && l.all (fun k => num k == 7 - k)
  if rev && s.wf p 2 1 == 0 then s.fencePort p causeLink
  else
    let s := s.set .WL_PORT_STATUS_REVERSED (b2n rev) p
    let s := l.foldl (fun s k => if rev || num k == k then s else s.fenceLane (9 * p + k) causeLink) s
    let l := if rev then l else l.filter (fun k => num k == k)
    if s.fenced 5 p then s
    else if l.isEmpty then s.fencePort p causeLink
    else
      let s := l.foldl (fun s k => s.set .WL_LANE_STATUS_STAGE 7 (9 * p + k)) s
      let s := s.set .WL_LANE_STATUS_STAGE 7 (9 * p + 8)
      (s.setWport p { s.wport p with own := laneMask l }).sendInit p (laneMask l)

/-- PORT_TRAIN (R321, R322): stages CLOCK to DESKEW on every lane of a port that is down or training. -/
def execPortTrain (p : Nat) (clock : Bool) (lanes : List LaneTrain) (s : State) : Res State :=
  let st := s.get .WL_PORT_STATUS_STATE p
  .next (s.when (s.wortOn p && lanes.length == 8 && (st == 0 || st == 1 || st == 4)) (fun s =>
    let s := if st = 0 then s.wortTrain p 1 else s
    if !clock then s.fenceLane (9 * p + 8) causeLink
    else
      let s := (s.wortLanes p).foldl (fun s k => s.trainLane p k (lanes.getD k ⟨1, 0, false, 0⟩)) s
      if s.fenced 5 p then s else s.orderLanes p (fun k => (lanes.getD k ⟨1, 0, false, 0⟩).number)))

/-- TRAIN_STAGE_TIMEOUT (R321): lane `k` of a port in training fails at its stage's limit. -/
def execTrainStageTimeout (p k : Nat) (s : State) : Res State :=
  let g := s.get .WL_LANE_STATUS_STAGE (9 * p + k)
  .next (s.when (s.wortOn p && decide (k < 9) && decide (1 ≤ g ∧ g ≤ 7) && !s.is .WL_LANE_STATUS_WAITING (9 * p + k))
    (fun s => s.fenceLane (9 * p + k) causeLink))

/-- Flits sent again, oldest first. -/
def State.resend (s : State) (p : Nat) (l : List Flit) : State :=
  l.foldl (fun s f => s.sendFlit p f.bytes) s

/-- A flit (R329): its VC, type, `flags` (4 first, 8 last) and payload. -/
def mkFlit (seq vc type flags : Nat) (payload : List Byte) : List Byte :=
  let b := leBytes 1 (vc + flags) ++ leBytes 2 seq ++ leBytes 1 payload.length ++ leBytes 1 type ++ leBytes 3 0 ++ sub payload 0 244
  b ++ leBytes 4 (crc32c b)

/-- The flits of a packet, each of up to 244 bytes of its payload; TYPE stands in the first (R329). -/
def packetFlits (vc type : Nat) (payload : List Byte) : List (Nat × Nat × Nat × List Byte) :=
  let n := max 1 ((payload.length + 243) / 244)
  (List.range n).map (fun i =>
    (vc, if i = 0 then type else 0, 4 * b2n (i == 0) + 8 * b2n (i + 1 == n), (payload.drop (244 * i)).take 244))

/-- The VC served next, of those with a flit that waits and a credit, and the turn it leaves (R330): VC0 first, the others by weighted round
robin in flits. -/
def State.pickVc (s : State) (p : Nat) : Option (Nat × Nat × Nat) :=
  let w := s.wport p
  let ready := fun v => w.waiting.any (fun e => e.1 == v) && s.get .WL_VC_CREDIT_AVAIL p v != 0
  if ready 0 then some (0, w.serve, w.quota)
  else if 0 < w.quota ∧ ready w.serve then some (w.serve, w.serve, w.quota - 1)
  else (([0, 1, 2].map (fun d => (w.serve + d) % 3 + 1)).find? ready).map (fun v => (v, v, s.wf p (0x13 + v) 1 - 1))

/-- Flits that wait are sent while a credit of a VC and room in the replay buffer of 512 flits last (R330, R331). -/
def State.sendWaiting : Nat → State → Nat → State
  | 0, s, _ => s
  | n + 1, s, p =>
    let w := s.wport p
    match s.pickVc p with
    | none => s
    | some (vc, serve, quota) =>
      match w.waiting.find? (fun e => e.1 == vc) with
      | none => s
      | some (_, type, flags, payload) =>
        if !s.wortUp p || decide (512 ≤ w.replay.length) then s
        else
          let f := mkFlit w.txSeq vc type flags payload
          let s := s.set .WL_VC_CREDIT_AVAIL (s.get .WL_VC_CREDIT_AVAIL p vc - 1) p vc
          let s := s.setWport p { w with waiting := w.waiting.eraseP (fun e => e.1 == vc), serve := serve, quota := quota,
                                         txSeq := (w.txSeq + 1) % 4096,
                                         replay := w.replay ++ [{ seq := w.txSeq, vc := vc, bytes := f }] }
          State.sendWaiting n (s.sendFlit p f) p

/-- As many as go. -/
def State.sendAll (s : State) (p : Nat) : State := s.sendWaiting (s.wport p).waiting.length p

/-- INIT (R323, R330): the port comes up with the lanes both ends have, the peer's shares as credits less what its unacknowledged
flits hold, and sends every unacknowledged flit again (R327). On a port that is up it exchanges new shares (R333). -/
def execInit (p id role port mask : Nat) (shares : List Nat) (s : State) : Res State :=
  let st := s.get .WL_PORT_STATUS_STATE p
  let w := s.wport p
  .next (s.when (s.wortOn p && decide (port < 4) && decide (role < 4) && (s.wortUp p || ((st == 1 || st == 4) && w.own != 0)))
    (fun s =>
      let peer := if s.is .WL_PORT_STATUS_REVERSED p then mirror8 mask else mask
      let s := s.set .WL_PEER_ID id p
      let s := s.each 4 (fun s v =>
        (s.set .WL_VC_CREDIT_AVAIL (shares.getD v 0 - (w.replay.filter (fun f => f.vc == v)).length) p v).set
          .WL_VC_CREDIT_SHARE (s.wf p (0xC + 2 * v) 2) p v)
      let s := s.setWport p { w with role := role }
      if s.wortUp p then s.sendAll p
      else
        let m := w.own &&& peer
        if m = 0 then s.fencePort p causeLink
        else
          let s := s.set .WL_PORT_STATUS_STATE 3 p
          let s := (s.setActive p m).each 9 (fun s k => if k = 8 ∨ bit m k then s.set .WL_LANE_STATUS_STAGE 8 (9 * p + k) else s)
          ((s.setWport p { s.wport p with naked := false }).resend p w.replay).sendAll p))

/-! ## Control blocks -/

/-- CREDIT (R330). -/
def execCredit (p : Nat) (counts : List Nat) (s : State) : Res State :=
  .next (s.when (s.wortUp p) (fun s =>
    (s.each 4 (fun s v => s.bump .WL_VC_CREDIT_AVAIL (counts.getD v 0 % 4096) p v)).sendAll p))

/-- The flits after a sequence, if the sequence is one of those unacknowledged or the one before them. -/
def flitsAfter (l : List Flit) (seq : Nat) : List Flit :=
  if l.any (fun f => f.seq == seq) then (l.dropWhile (fun f => f.seq != seq)).drop 1 else l

/-- ACK (R331): flits up to the sequence acknowledged leave the replay buffer. -/
def execAck (p seq : Nat) (s : State) : Res State :=
  .next (s.when (s.wortUp p) (fun s =>
    (s.setWport p { s.wport p with replay := flitsAfter (s.wport p).replay (seq % 4096) }).sendAll p))

/-- NAK (R331): the flits after the last good sequence are sent again; one replayed REPLAY_MAX times retrains the port (R327). -/
def execNak (p seq : Nat) (s : State) : Res State :=
  .next (s.when (s.wortUp p) (fun s =>
    let l := (flitsAfter (s.wport p).replay (seq % 4096)).map (fun (f : Flit) => { f with replays := f.replays + 1 })
    let s := s.setWport p { s.wport p with replay := l }
    let s := s.resend p l
    if l.any (fun f => decide (s.wf p 0xB 1 ≤ f.replays)) then s.wortRetrain p else s.sendAll p))

/-- WIDTH (R328): the peer names a new mask for a later boundary. -/
def execWidth (p mask : Nat) (s : State) : Res State :=
  .next (s.when (s.wortUp p) (fun s =>
    let m := if s.is .WL_PORT_STATUS_REVERSED p then mirror8 (mask % 256) else mask % 256
    s.setWport p { s.wport p with width := some m }))

/-- WIDTH_SWITCH (R328): the boundary named comes; only lanes that are trained carry traffic. -/
def execWidthSwitch (p : Nat) (s : State) : Res State :=
  .next (s.when (s.wortUp p) (fun s =>
    match (s.wport p).width with
    | none => s
    | some m =>
      let m := laneMask ((s.wortLanes p).filter (fun k => bit m k && s.get .WL_LANE_STATUS_STAGE (9 * p + k) == 8))
      let s := s.setWport p { s.wport p with width := none }
      if m = 0 then s.fencePort p causeLink else s.setActive p m))

/-- DOWN (R332): the link is dropped and coverage loss reported for the sender; the port trains again when the sender returns. -/
def execDown (p cause : Nat) (s : State) : Res State :=
  .next (s.when (s.wortUp p) (fun s =>
    let s := (s.lostPeer (s.get .WL_PEER_ID p) p).out (.wort "coverageLossOf" [s.get .WL_PEER_ID p, cause])
    let s := (s.wortQuiet p 0).each 9 (fun s k =>
      if s.fenced 4 (9 * p + k) then s
      else (s.set .WL_LANE_STATUS_STAGE 0 (9 * p + k)).off .WL_LANE_STATUS_WAITING (9 * p + k))
    s.wortDrop p))

/-- The control block types of R320. -/
def controlTypes : List Nat := [0x1E, 0x2D, 0x33, 0x4B, 0x55, 0x66, 0x78, 0x87, 0x99, 0xAA]

/-- RESERVED_CONTROL_BLOCK (R320). -/
def execReservedControlBlock (p type : Nat) (s : State) : Res State :=
  .next (s.when (s.wortOn p && decide (type < 256) && !controlTypes.contains type) (fun s => s.bump .WL_PORT_ERR_DISCARDS 1 p))

/-! ## Flits (R329-R331) -/

/-- Store data of a tag (R329): the bytes are those of the store at the read's address. -/
def State.takeStore (s : State) (p tag offset : Nat) (bytes : List Byte) : State :=
  let w := s.wport p
  match w.reads.find? (fun r => r.tag == tag) with
  | none => s
  | some r =>
    if r.len < offset + bytes.length then s
    else
      let r' := { r with got := r.got + bytes.length }
      let l := w.reads.filter (fun x => x.tag != tag)
      let s := s.setWport p { w with reads := if r'.got < r.len then l ++ [r'] else l }
      State.out { s with storeMem := Memory.wrs s.storeMem (2 ^ 64 * p + r.addr + offset) bytes }
        (.reply "storeData" [p, tag, offset, bytes.length])

/-- A whole packet leaves the receive buffer: store data goes to its read, a STORE_RD of LENGTH 0 is discarded and counted, any other
is handed on; its flits' credits are returned. -/
def State.takePacket (s : State) (p vc type flits : Nat) (b : List Byte) : State :=
  let s := s.sendControl p "credit" [vc, flits] 0x33 (flits % 4096 * 2 ^ (12 * vc))
  if type = 0x0C then s.takeStore p (fieldAt b 0 4) (fieldAt b 4 4) (b.drop 8)
  else if type = 0x0B ∧ fieldAt b 8 4 = 0 then s.bump .WL_PORT_ERR_DISCARDS 1 p
  else s.out (.reply "packet" ([p, vc, type] ++ b.map BitVec.toNat))

/-- A flit accepted: its payload joins its packet; an ACK goes out once per 32 flits. -/
def State.takeFlit (s : State) (p : Nat) (b : List Byte) : State :=
  let w := s.wport p
  let h := fieldAt b 0 1
  let vc := h % 4
  let old := (w.parts.find? (fun x => x.1 == vc)).getD (vc, 0, [], 0)
  let (type, body, n) := if bit h 2 then (fieldAt b 4 1, [], 0) else (old.2.1, old.2.2.1, old.2.2.2)
  let body := body ++ sub b 8 (min 244 (fieldAt b 3 1))
  let rest := w.parts.filter (fun x => x.1 != vc)
  let due := decide (32 ≤ w.unacked + 1)
  let s := s.setWport p { w with rxNext := (w.rxNext + 1) % 4096, naked := false, unacked := if due then 0 else w.unacked + 1,
                                 parts := if bit h 3 then rest else rest ++ [(vc, type, body, n + 1)] }
  let s := if due then s.sendControl p "ack" [w.rxNext] 0x4B w.rxNext else s
  if bit h 3 then s.takePacket p vc type (n + 1) body else s

/-- FLIT_RECEIVE (R319, R331): accepted in sequence; a duplicate discarded silently; any other discarded, with one NAK. `words` are the
codewords its blocks lay in as they arrived: one that is uncorrectable spoils the flit. -/
def execFlitReceive (p : Nat) (bytes : List Byte) (words : List (List Nat)) (s : State) : Res State :=
  .next (s.when (s.wortUp p && bytes.length == 256) (fun s =>
    let w := s.wport p
    let seq := fieldAt bytes 1 2 % 4096
    let good := words.all (fun c => (rsDecode c).isSome) && crc32c (bytes.take 252) == fieldAt bytes 0xFC 4
    let back := (w.rxNext + 4096 - seq) % 4096
    if good && seq == w.rxNext then s.takeFlit p bytes
    else if good && decide (1 ≤ back ∧ back ≤ 512) then s
    else if w.naked then s
    else (((s.setWport p { w with naked := true }).bump .WL_PORT_ERR_NAKS 1 p).sendControl p "nak"
      [(w.rxNext + 4095) % 4096] 0x55 ((w.rxNext + 4095) % 4096))))

/-- STORE_RD (R329): a read of a Wort-attached store is sent on VC3; one with LENGTH 0 is discarded and counted. -/
def execStoreRd (p jsa len tag : Nat) (s : State) : Res State :=
  .next (s.when (s.wortOn p) (fun s =>
    if len = 0 then s.bump .WL_PORT_ERR_DISCARDS 1 p
    else if jsa % 64 ≠ 0 ∨ len % 64 ≠ 0 ∨ 4096 < len ∨ (s.wport p).reads.any (fun r => r.tag == tag % 2 ^ 32) then s
    else
      let w := s.wport p
      let body := leBytes 8 jsa ++ leBytes 4 len ++ leBytes 4 tag
      (s.setWport p { w with waiting := w.waiting ++ packetFlits 3 0x0B body,
                             reads := w.reads ++ [{ tag := tag % 2 ^ 32, addr := jsa % 2 ^ 64, len := len, got := 0 }] }).sendAll p))

/-- STORE_DATA (R329): a packet of store data for a tag. -/
def execStoreData (p tag offset : Nat) (bytes : List Byte) (s : State) : Res State :=
  .next (s.when (s.wortUp p) (fun s => s.takeStore p tag offset bytes))

/-! ## Lane quality (R324, R325) -/

/-- Ticks in an hour. -/
def hourTicks : Nat := 1440000000000

/-- Retrains of lane `i` in the past hour (WL_LANE_RETRAINS.HOUR). -/
def State.laneHour (s : State) (i : Nat) : Nat :=
  ((s.wport (i / 9)).hist.filter (fun h => h.1 == i % 9 && decide (s.now < h.2 + hourTicks))).length

/-- FEC_WINDOW_END (R324, R325): the window's counts, judged against the limits. -/
def execFecWindowEnd (i corr uncorr : Nat) (s : State) : Res State :=
  let p := i / 9
  .next (s.when (s.wortOn p && decide (i % 9 < 8) && s.is .WL_LANE_STATUS_ACTIVE i) (fun s =>
    let s := (s.set .WL_LANE_FEC_CORR (min corr (2 ^ 24 - 1)) i).set .WL_LANE_FEC_UNCORR (min uncorr 255) i
    if s.wf p 8 2 ≤ uncorr ∨ s.wf p 4 4 < corr then s.leaveLane p (i % 9) else s))

/-- LANE_RETRAIN (R325). With nothing found yet: lane `i` meets a condition within a window (its uncorrectable codewords or corrected
symbols, or its phase at `drift`) and leaves the port. With a result: its stages 2 to 6 end; it rejoins, or is fenced where it failed
or has retrained more than RETRAIN_MAX times in the past hour; then a lane that waits begins. -/
def execLaneRetrain (i drift : Nat) (found : Option LaneTrain) (s : State) : Res State :=
  let p := i / 9
  let k := i % 9
  let g := s.get .WL_LANE_STATUS_STAGE i
  .next (s.when (s.wortOn p && decide (k < 8)) (fun s =>
    match found with
    | none => s.when (s.is .WL_LANE_STATUS_ACTIVE i) (fun s => (s.set .WL_LANE_EYE_DRIFT (drift % 16) i).leaveLane p k)
    | some x => s.when (s.wortUp p && decide (2 ≤ g ∧ g ≤ 6)) (fun s =>
      let w := s.wport p
      let s := s.setWport p { w with hist := (k, s.now) :: w.hist }
      let s := s.bump .WL_LANE_RETRAINS_TOTAL 1 i
      let want := if s.is .WL_PORT_STATUS_REVERSED p then 7 - k else k
      if s.wf p 0xA 1 < s.laneHour i ∨ x.number ≠ want then s.fenceLane i causeLink
      else
        let s := s.trainLane p k x
        if s.fenced 4 i then s
        else ((s.set .WL_LANE_STATUS_STAGE 8 i).sendWidth p (setBit (s.nextMask p) k)).nextLane p)))

/-- PORT_RETRAIN (R327): more than half of the active lanes lose lock within one group. -/
def execPortRetrain (p lost : Nat) (s : State) : Res State :=
  .next (s.when (s.wortUp p && decide (popcount 8 (s.get .WL_PORT_STATUS_ACTIVE p) < 2 * lost)) (fun s => s.wortRetrain p))

/-- EYE_RECALIBRATION (R324, R325): the width a shadow sampler measures. -/
def execEyeRecalibration (i width : Nat) (s : State) : Res State :=
  let p := i / 9
  .next (s.when (s.wortOn p && decide (i % 9 < 8) && s.is .WL_LANE_STATUS_ACTIVE i) (fun s =>
    let s := s.set .WL_LANE_EYE_WIDTH (min width 64) i
    if width < s.wf p 3 1 then s.leaveLane p (i % 9) else s))

/-! ## Register writes -/

/-- WL_PORT_CTRL.RETRAIN (R327). -/
def execWlPortRetrainWrite (p : Nat) (s : State) : Res State :=
  .next (s.reach .wortPort p (fun s => s.wortRetrain p))

/-- WL_LANE_STATUS.RETRAIN (R325), ignored for the clock lane. -/
def State.laneRetrainWrite (s : State) (i : Nat) : State := if i % 9 < 8 then s.leaveLane (i / 9) (i % 9) else s

/-- WL_LANE_STATUS.RETRAIN. -/
def execWlLaneRetrainWrite (i : Nat) (s : State) : Res State :=
  .next (s.reach .wortLane i (fun s => s.laneRetrainWrite i))

/-- WL_PORT_ERR.CLR (R331). -/
def execWlPortErrClr (p : Nat) (s : State) : Res State :=
  .next (s.reach .wortPort p (fun s => s.clear [.WL_PORT_ERR_NAKS, .WL_PORT_ERR_RETRAINS, .WL_PORT_ERR_DISCARDS] p))

/-- WL_LANE_RETRAINS.CLR (R325). -/
def execWlLaneRetrainsClr (i : Nat) (s : State) : Res State :=
  .next (s.reach .wortLane i (fun s => s.off .WL_LANE_RETRAINS_TOTAL i))

/-! ## The WORT section (R333) -/

/-- A zero size field in the block of a used port. -/
def wortZero (b : List Byte) : Bool :=
  (List.range 4).any (fun p =>
    let x := sub b (64 * p) 64
    fieldAt x 0 1 == 1 && ([(1, 1), (3, 1), (4, 4), (8, 2), (0xA, 1), (0xB, 1), (0xC, 2), (0xE, 2), (0x10, 2), (0x12, 2), (0x14, 1),
      (0x15, 1), (0x16, 1)].any (fun f => fieldAt x f.1 f.2 == 0)))

/-- The rules of R333 on a WORT payload. -/
def wortOk (b : List Byte) : Bool :=
  b.length == 256 && (List.range 4).all (fun p =>
    let x := sub b (64 * p) 64
    let sh := (List.range 4).map (fun v => fieldAt x (0xC + 2 * v) 2)
    if fieldAt x 0 1 = 0 then zeroAt x 0 64
    else fieldAt x 0 1 == 1 && decide (fieldAt x 2 1 ≤ 1) && decide (4 ≤ fieldAt x 3 1 ∧ fieldAt x 3 1 ≤ 63) &&
      decide (fieldAt x 8 2 ≤ 1024) && decide (fieldAt x 0xB 1 ≤ 15) && sh.all (fun n => decide (16 ≤ n)) &&
      decide (sh.sum ≤ 2048) && (List.range 3).all (fun v => decide (fieldAt x (0x14 + v) 1 ≤ 15)) && zeroAt x 0x17 41)

/-- A WORT section comes into force (R333): a port whose lanes or reversal change retrains, one whose shares change sends INIT, a port
newly used trains, one no longer used stops. -/
def State.applyWort (s : State) (old : List Byte) : State :=
  s.each 4 (fun s p =>
    let a := wortBlock old p
    let b := wortBlock (s.sect 0x0052) p
    let on := fieldAt b 0 1 == 1
    if !s.powered (72 + 9 * p) then s
    else if !on then (if fieldAt a 0 1 == 1 then (s.wortQuiet p (if s.fenced 5 p then 5 else 0)).wortDrop p else s)
    else if s.fenced 5 p then s
    else if fieldAt a 0 1 == 0 then s.wortTrain p 1
    else if fieldAt a 1 1 != fieldAt b 1 1 || fieldAt a 2 1 != fieldAt b 2 1 then s.wortRetrain p
    else if sub a 0xC 8 != sub b 0xC 8 then s.sendInit p (s.wport p).own
    else s)

end Sys2Proof.Machine
end

