-- ==== Sys2Proof/Machine/Trio.lean ====
section
/-! DEFINITION. The manager trio: state frames, qualification, verdicts, STEP_OWN, take-over and return
(spec/20_manager_trio.md, R350-R361). -/

namespace Sys2Proof.Machine

/-- The trio's vector. -/
def State.trioVector (s : State) : State := s.vector .TRIO_EVT_VEC_VECTOR .TRIO_EVT_VEC_EN

/-- This member's position (R350): the press manager is T0; 3 if none. -/
def State.pos (s : State) : Nat := if s.role = rolePress then 0 else if s.role = roleTrio then s.get .TRIO_STATUS_POS else 3

/-- A member strapped to a clock of its own never qualifies (R351). -/
def State.clkBad (s : State) : Bool := decide (s.pos < 3) && decide (s.get .RST_STRAPS_CLK_MODE < 2)

/-- Is the trio block's domain up and the device a member? -/
def State.member (s : State) : Bool := s.powered 127 && decide (s.pos < 3)

/-- MEMBERS and DEGRADED with one member's qualification as told (R352). -/
def State.setMember (s : State) (t : Nat) (on : Bool) : State :=
  let s := s.putB .TRIO_STATUS_MEMBERS t on
  s.set .TRIO_STATUS_DEGRADED (b2n (popcount 3 (s.get .TRIO_STATUS_MEMBERS) < 3))

/-- Qualified members. -/
def State.members (s : State) : Nat := popcount 3 (s.get .TRIO_STATUS_MEMBERS)

/-- A member loses its qualification (R353): counted where it had it; the count towards a return starts again. -/
def State.unqualify (s : State) (t : Nat) : State :=
  let had := bit (s.get .TRIO_STATUS_MEMBERS) t
  let s := s.setMember t false
  let s := if t = s.pos then { (s.off .TRIO_STATUS_QUALIFIED).off .TRIO_AGREE_LINES with trio := { s.trio with agree := 0 } } else s
  if had then (s.bump .TRIO_EVENTS_UNQUAL).trioVector else s

/-- An ACTIVE frame missed (R352, R353): agreement starts again, and at the second in a row qualification is lost. The member may still take
over from the one that fell silent (R355; log entry 142). -/
def State.missFrame (s : State) : State :=
  let s := s.off .TRIO_AGREE_LINES
  let s := { s with trio := { s.trio with missed := s.trio.missed + 1, agree := 0 } }
  if 2 ≤ s.trio.missed ∧ s.is .TRIO_STATUS_QUALIFIED ∧ !s.is .TRIO_STATUS_ACTIVE then
    State.unqualify { s with trio := { s.trio with lapsed := true } } s.pos
  else s

/-- A return announced and not made is cancelled (R360). -/
def State.cancelReturn (s : State) : State :=
  { (s.off .TRIO_STATUS_REVERT_PENDING).off .TRIO_AGREE_LINES with trio := { s.trio with handover := none, revert := false, notice := none } }

/-- STEP_OWN and the drivers released (R356, R40): the member no longer drives the timeline. -/
def State.releaseOwn (s : State) : State :=
  let s := { s with trio := { s.trio with pulling := false, claiming := false, drivers := false, wants := false } }
  (((s.off .TRIO_STATUS_ACTIVE).off .MOT_STATUS_OWN).off .FIRE_STATUS_OWNER).out (.pin "STEP_OWN" 0 1)

/-- STEP_OWN pulled low (R356). -/
def State.takeOwn (s : State) : State :=
  let s := { s with trio := { s.trio with pulling := true, claiming := true, wants := false, yields := 0 } }
  (s.on .MOT_STATUS_OWN).out (.pin "STEP_OWN" 0 0)

/-- STEP_OWN pulled low and CLAIM sent; until the drivers are enabled TRIO_STATUS.STUCK reads 1 and its vector has been raised (R356). -/
def State.pullOwn (s : State) : State := s.trioVector.takeOwn.out (.wort "trioClaim" [s.pos])

/-- The drivers enabled: the member is active, and its own COMP is 0 (R356, R202). -/
def State.enableDrivers (s : State) : State :=
  let s := { s with trio := { s.trio with claiming := false, drivers := true, missed := 0, lapsed := false, yielding := false, verdicts := [] } }
  let s := (((s.on .TRIO_STATUS_ACTIVE).on .MOT_STATUS_OWN).on .FIRE_STATUS_OWNER).set .TRIO_STATUS_OWNER (s.pos % 3)
  let s := if s.pos < 3 && !s.clkBad then (s.on .TRIO_STATUS_QUALIFIED).setMember s.pos true else s
  let s := if s.moving' 0 && s.drives then s.out (.pin "AX_DIR" 0 (b2n (s.forward 0))) else s
  s.writeComp 0

/-! ## State frames (R352) -/

/-- PLAN: the sections that fix the step plan, and TRIO_CFG. -/
def State.planCrc (s : State) : Nat :=
  crc32c (sha384 (s.sect 0x0050) ++ sha384 (s.sect 0x0051) ++ sha384 (s.sect 0x0032) ++
    leBytes 4 (s.get .TRIO_CFG_REVERT_LINES + 2 ^ 31 * s.get .TRIO_CFG_REVERT_EN))

/-- The next queued page. -/
def State.nextPage (s : State) : Option Page := s.pages.find? (fun p => decide (s.seq.next ≤ p.first))

/-- A state frame less its CRC; `horizon` is the CRC of the planned step times. BAD_VERDICT is the sender's own for the line. -/
def State.frameBody (s : State) (horizon : Nat) : List Byte :=
  let bad := s.trio.verdicts.any (fun v => v.1 == s.pos && v.2 == s.get .FIRE_LINE_LINE)
  let flags := b2n (s.is .TRIO_STATUS_ACTIVE) + 2 * b2n (s.is .TRIO_STATUS_QUALIFIED) + 4 * b2n bad + 8 * b2n s.trio.revert +
    16 * b2n s.trio.yielding + 32 * b2n s.trio.claiming
  leBytes 8 (s.get .FIRE_LINE_LINE) ++ leBytes 1 s.pos ++ leBytes 1 flags ++ leBytes 2 0 ++ leBytes 4 s.planCrc ++
  leBytes 8 (ofSigned 64 (s.axPos 0)) ++ leBytes 4 (s.get .MOT_SPEED_RATE) ++ leBytes 4 (s.get .MOT_STOPDIST_LINES) ++
  leBytes 8 s.line.y0 ++ leBytes 8 (ofSigned 64 s.line.p0) ++ leBytes 1 s.phase ++ leBytes 7 0 ++
  leBytes 8 (if 3 ≤ s.phase then s.get .MOT_BS_RESUME_LINE else s.unfired) ++ leBytes 8 (ofSigned 64 s.line.pStop) ++ leBytes 8 (ofSigned 64 s.line.pRev) ++
  leBytes 8 ((s.nextPage.map Page.first).getD 0) ++ leBytes 4 ((s.nextPage.map Page.id).getD 0) ++
  leBytes 4 (s.trio.handover.getD 0) ++ leBytes 4 horizon ++ leBytes 24 0

/-- On the active member, a return announced is cancelled once a backstep has begun or T0 is not qualified, and every device is told who stays
the owner (R360). -/
def State.checkReturn (s : State) : State :=
  if s.is .TRIO_STATUS_ACTIVE ∧ s.trio.handover.isSome ∧ (s.phase ≠ 0 ∨ !bit (s.get .TRIO_STATUS_MEMBERS) 0) then
    s.cancelReturn.out (.wort "ownerNotice" [s.pos, 0])
  else s

/-- STATE_FRAME_SEND (R352): the member's frame goes out on both trio ports. -/
def execStateFrameSend (horizon : Nat) (s : State) : Res State :=
  .next (s.when s.member (fun s =>
    let s := s.checkReturn
    let b := s.frameBody horizon
    (s.out (.wort "stateFrame" ((b ++ leBytes 4 (crc32c b)).map BitVec.toNat)))))

/-- The active member's frame loaded into a standby's planner (R352). What a frame does not carry is worked out from the phase: the kind of
movement, its direction and where it ends, and for an axis that sets out from rest the slip reference (R253, log entry 135). -/
def State.loadPlan (s : State) (b : List Byte) : State :=
  let pos := toSigned 64 (fieldAt b 0x10 8)
  let rate := fieldAt b 0x18 4
  let phase := fieldAt b 0x30 1
  let stop := toSigned 64 (fieldAt b 0x40 8)
  let rev := toSigned 64 (fieldAt b 0x48 8)
  let runs := decide (rate ≠ 0)
  let fwd := if phase = 3 then decide (pos ≤ rev) else decide (phase ≠ 0 ∨ s.axPos 0 ≤ pos)
  let begins := runs && !s.moving' 0
  let x := s.axis 0
  let line := { s.line with y0 := fieldAt b 0x20 8, p0 := toSigned 64 (fieldAt b 0x28 8), pStop := stop, pRev := rev,
                            raised := if 3 ≤ phase then fieldAt b 0x38 8 else max (fieldAt b 0 8 + 1) s.seq.expect,
                            live := runs && decide (phase ≤ 1), hard := s.line.hard && !begins }
  let s := { s with line := line }
  let s := ((s.set .MOT_POS_STEPS (fieldAt b 0x10 8) 0 0).set .MOT_SPEED_RATE rate).set .MOT_STATUS_BS_PHASE phase
  let s := (s.putB .MOT_STATUS_MOVING 0 runs).set .MOT_STOPDIST_LINES (fieldAt b 0x1C 4)
  let s := if runs then (s.putB .MOT_STATUS_DIR 0 fwd).putB .MOT_STATUS_HELD 0 false else s
  let s := s.setAxis 0 { x with
    mode := if !runs then 0 else if phase = 0 then 2 else if phase = 1 then 3 else if phase = 3 then 4 else 5
    target := rev, start := if begins then pos else x.start, v2 := sq rate, changes := []
    stopAt := if !runs then none else if phase = 1 then some stop else if phase = 3 then some rev else none
    cruise := if runs ∧ phase = 0 then rate else x.cruise, aim := if runs ∧ phase = 0 then rate else x.aim }
  let s := if begins then s.setScale 0 { s.scale 0 with slip0 := s.encPos 0 - s.stepsToCounts 0 pos } else s
  s.drShow

/-- The full line number of an announced hand-over line, from its low half and the line of the frame. -/
def lineNear (line lo : Nat) : Nat := line / 2 ^ 32 * 2 ^ 32 + lo + (if lo < line % 2 ^ 32 then 2 ^ 32 else 0)

/-- A frame of the active member on a standby (R352, R353, R359, R360). -/
def State.activeFrame (s : State) (b : List Byte) (horizon : Nat) : State :=
  let plan := fieldAt b 0xC 4 == s.planCrc
  let clean := plan && fieldAt b 0x60 4 == horizon && !s.trio.badLine
  let ho := fieldAt b 0x5C 4
  let s := { s with trio := { s.trio with missed := 0, lapsed := false, badLine := false, agree := if clean then s.trio.agree + 1 else 0,
                                          yielding := s.trio.yielding && fieldAt b 8 1 == s.get .TRIO_LAST_FROM,
                                          verdicts := s.trio.verdicts.filter (fun v => decide (fieldAt b 0 8 < v.2 + 2)) } }
  let s := s.loadPlan b
  let s := if !plan then s.unqualify s.pos else s
  let s := if s.pos = 0 ∧ s.is .TRIO_STATUS_QUALIFIED then
      (if clean then s.bump .TRIO_AGREE_LINES else s.off .TRIO_AGREE_LINES)
    else s
  if fieldAt b 0x30 1 ≠ 0 then (if s.trio.handover.isSome || s.trio.revert then s.cancelReturn else s)
  else if ho ≠ 0 ∧ s.pos = 0 then
    State.on { s with trio := { s.trio with handover := some (lineNear (fieldAt b 0 8) ho) } } .TRIO_STATUS_REVERT_PENDING
  else s

/-- The positions that gave a bad verdict alone, once the frame of another standby for the line carries none: each is outvoted (R355). -/
def State.outvote (s : State) (p line : Nat) : State :=
  let l := s.trio.verdicts.filter (fun v => v.2 == line && v.1 != p && v.1 != s.get .TRIO_STATUS_OWNER)
  let s := l.foldl (fun s v => s.unqualify v.1) s
  { s with trio := { s.trio with verdicts := s.trio.verdicts.filter (fun v => !(v.2 == line && v.1 != p)) } }

/-- A YIELD of member `p` received (R356): with one from each of the other two, the member that pulls STEP_OWN releases it and its drivers. -/
def State.takeYield (s : State) (p : Nat) : State :=
  let s := { s with trio := { s.trio with yields := setBit s.trio.yields p } }
  if s.trio.pulling ∧ ([0, 1, 2].filter (fun t => t != s.pos)).all (fun t => bit s.trio.yields t) then
    (State.releaseOwn { s with trio := { s.trio with yields := 0 } }).unqualify s.pos
  else s

/-- A CLAIM of member `p` received (R356): one of higher position that has not enabled its drivers gives way. -/
def State.takeClaim (s : State) (p : Nat) : State := if s.trio.claiming && decide (p < s.pos) then s.releaseOwn else s

/-- The member at the other end of a trio port (R350). -/
def State.peerAt (s : State) (port : Nat) : Nat :=
  if s.pos = 0 then port + 1 else if s.pos = 1 then (if port = 0 then 2 else 0) else (if port = 0 then 0 else 1)

/-- FLAGS of the frame of member `p` for a line, ACTIVE apart (R352). -/
def State.takeFlags (s : State) (p flags line : Nat) : State :=
  let s := (s.setMember p (bit flags 1)).checkReturn
  let s := if s.members == 3 && !bit flags 2 && !bit flags 0 then s.outvote p line else s
  let s : State := if p == 0 && bit flags 3 then { s with trio := { s.trio with revert := true } } else s
  let s := if bit flags 4 && s.trio.pulling then s.takeYield p else s
  if bit flags 5 then s.takeClaim p else s

/-- STATE_FRAME_RECEIVE (R350, R352, R353, R356): a frame that fails its CRC, or does not come in its time (no bytes), is discarded; one of the
active member counts as missed. `horizon` is the CRC of the member's own planned step times. A trio member learns its position from the port
on which T0 reaches it. -/
def execStateFrameReceive (port : Nat) (bytes : List Byte) (horizon : Nat) (s : State) : Res State :=
  let p := fieldAt bytes 8 1
  let flags := fieldAt bytes 9 1
  let good := bytes.length == 128 && crc32c (bytes.take 0x7C) == fieldAt bytes 0x7C 4 && decide (p < 3)
  .next (s.when (s.powered 127 && (s.role == rolePress || s.role == roleTrio)) (fun s =>
    if !good then (if s.peerAt port = s.get .TRIO_STATUS_OWNER then s.missFrame else s)
    else
      let s := if s.role = roleTrio ∧ p = 0 then
          State.set { s with trio := { s.trio with t0 := true } } .TRIO_STATUS_POS (if port = 1 then 1 else 2)
        else s
      if s.pos = p ∨ 3 ≤ s.pos then s
      else
        let s := { s with trio := { s.trio with frames := store [] s.trio.frames p bytes } }
        let s := s.takeFlags p flags (fieldAt bytes 0 8)
        if bit flags 0 ∧ !s.is .TRIO_STATUS_ACTIVE then (s.set .TRIO_STATUS_OWNER p).activeFrame bytes horizon else s))

/-- QUALIFY (R353): 1,024 agreeing lines, or 10 ms of agreeing frames with AX0 stopped. -/
def execQualify (stopped : Bool) (s : State) : Res State :=
  .next (s.when (s.member && !s.is .TRIO_STATUS_ACTIVE && !s.is .TRIO_STATUS_QUALIFIED && !s.clkBad &&
      (decide (1024 ≤ s.trio.agree) || (stopped && s.axStopped && decide (1000 ≤ s.trio.agree)))) (fun s =>
    ((s.on .TRIO_STATUS_QUALIFIED).setMember s.pos true).off .TRIO_AGREE_LINES))

/-! ## Verdicts and take-over (R354-R358) -/

/-- BAD_VERDICT (R354, R355): member `pos` finds its stream at odds with the balls for a line. An active member yields by itself; a standby
of two members is unqualified; of three, the other standby's verdict decides. -/
def execBadVerdict (pos line : Nat) (s : State) : Res State :=
  .next (s.when (s.member && decide (pos < 3)) (fun s =>
    if pos = s.pos ∧ s.is .TRIO_STATUS_ACTIVE then
      let s := ((s.set .TRIO_LAST_CAUSE 3).set .TRIO_LAST_FROM pos)
      let s := { s with trio := { s.trio with yielding := true } }
      (s.releaseOwn.unqualify pos).out (.wort "trioYield" [pos, 3])
    else if !bit (s.get .TRIO_STATUS_MEMBERS) pos then s
    else
      let s := { s with trio := { s.trio with verdicts := (pos, line) :: s.trio.verdicts, agree := if pos = s.pos then 0 else s.trio.agree } }
      let pair := decide (s.members ≤ 2)
      let s : State := if pos = s.pos then
          let s : State := { s with trio := { s.trio with badLine := true, lapsed := s.trio.lapsed || pair } }
          (s.off .TRIO_AGREE_LINES).out (.wort "trioBad" [pos, line])
        else s
      if pair then s.unqualify pos else s))

/-- Have both standbys found the active member bad for one line? -/
def State.bothBad (s : State) : Bool :=
  s.trio.verdicts.any (fun v => v.1 == s.pos && s.trio.verdicts.any (fun w => w.2 == v.2 && w.1 != s.pos && w.1 != s.get .TRIO_STATUS_OWNER))

/-- The owner a take-over gives: T0 if it is a qualified standby, else the qualified standby of lower position (R358). This member counts
though it has lapsed. -/
def State.heir (s : State) : Option Nat :=
  [0, 1, 2].find? (fun t => (bit (s.get .TRIO_STATUS_MEMBERS) t || t == s.pos) && t != s.get .TRIO_STATUS_OWNER)

/-- May a standby decide a take-over for `cause` (R355)? 1: both standbys bad for one line; 2: the active member silent, for two frames and a
planned step absent while AX0 moves, for 100 while it stands; 3: the active member has yielded. -/
def State.takeoverDue (s : State) (cause : Nat) : Bool :=
  if cause = 1 then s.is .TRIO_STATUS_QUALIFIED && s.bothBad
  else (s.is .TRIO_STATUS_QUALIFIED || s.trio.lapsed) &&
    (if cause = 2 then (if s.axStopped then decide (100 ≤ s.trio.missed) else decide (2 ≤ s.trio.missed) && s.trio.badLine)
     else cause == 3 && bit s.trio.yields (s.get .TRIO_STATUS_OWNER))

/-- A submission descriptor of no queue, for an operation the device starts itself. -/
def noDesc (op : Nat) : Desc := { sq := 0, opcode := op, flags := 0, rsv3 := 0, target := 0xFFFF, rsv6 := 0, tag := 0, param := [] }

/-- Mirrored pages and change sets not yet ended are reported ACCEPTED anew on CQ0 (R358). -/
def State.adopt (s : State) : State :=
  let s := (s.pages.filter (fun p => decide (p.state ≤ 1))).foldl (fun s p =>
    let a := s.allot (noDesc 0x0203) 0x0203
    let s := State.report { a.2 with pages := a.2.pages.map (fun (q : Page) => if q.first = p.first then { q with handle := a.1 } else q) }
      a.1 stAccepted false p.id 0x0100
    s) s
  s.sets.foldl (fun s x =>
    let a := s.allot (noDesc 0x0102) 0x0102
    State.report { a.2 with sets := a.2.sets.map (fun (y : ChangeSet) => if y.commitOp = x.commitOp then { y with commitOp := a.1 } else y) }
      a.1 stAccepted false (x.line.getD 0 % 2 ^ 32) 0x0100) s

/-- TAKEOVER (R355, R358): a take-over is decided for `cause`; the standbys send YIELD, and the heir claims and catches up. -/
def execTakeover (cause catchup : Nat) (s : State) : Res State :=
  let owner := s.get .TRIO_STATUS_OWNER
  .next (s.when (s.member && !s.is .TRIO_STATUS_ACTIVE && s.takeoverDue cause) (fun s =>
    let s := s.out (.wort "trioYield" [owner, cause])
    let heir := s.heir.getD s.pos
    let s := (((s.set .TRIO_LAST_CAUSE cause).set .TRIO_LAST_FROM owner).set .TRIO_LAST_TO heir).set .TRIO_LAST_CATCHUP (min catchup 65535)
    let s := (s.bump .TRIO_EVENTS_TAKEOVERS).set .TRIO_HANDOVER_LINE s.seq.next
    let s := (s.setMember owner false).cancelReturn
    let s := { s with trio := { s.trio with verdicts := [], missed := 0, lapsed := false, badLine := false, yields := 0, yielding := true } }
    let s := s.trioVector
    if heir = s.pos then
      (State.adopt { s with trio := { s.trio with wants := true } }).out (.wort "ownerNotice" [s.pos])
    else s))

/-- YIELD (R356): received from another member. -/
def execYield (pos : Nat) (s : State) : Res State :=
  .next (s.when (s.member && decide (pos < 3) && pos != s.pos) (fun s => s.takeYield pos))

/-- CLAIM (R356): STEP_OWN has read high for 16 ticks and this member claims; or a CLAIM of another arrives. -/
def execClaim (pos : Nat) (s : State) : Res State :=
  .next (s.when (s.member && decide (pos < 3)) (fun s =>
    if pos = s.pos then (if s.trio.wants && !s.trio.pulling then s.pullOwn else s) else s.takeClaim pos))

/-- DRIVER_ENABLE (R356): 48 ticks after the claim. -/
def execDriverEnable (s : State) : Res State :=
  .next (s.when s.trio.claiming (fun s => s.enableDrivers))

/-- FIRST_OWNER_CLAIM (R357): the press manager with its image in force and AX0 stopped claims, unless STEP_OWN is held; a trio member
whose image has been in force for 1 s without a frame of T0 claims as in a take-over. `at_`: the position that its trained trio links give such
a member (R350). -/
def execFirstOwnerClaim (held : Bool) (s : State) (at_ : Nat := 0) : Res State :=
  let press := s.role == rolePress && bit (s.sf 0x0050 0 0 1) 0
  let s := if s.role = roleTrio ∧ (at_ = 1 ∨ at_ = 2) ∧ s.powered 127 then s.set .TRIO_STATUS_POS at_ else s
  let trio := s.role == roleTrio && decide (s.pos < 3) && !s.trio.t0
  .next (s.when (s.powered 127 && s.powered 124 && s.fullImage.isSome && !s.conflict && s.axStopped && !s.trio.pulling && (press || trio))
    (fun s =>
      if held then s
      else if press then s.pullOwn
      else (s.adopt.out (.wort "ownerNotice" [s.pos])).pullOwn))

/-! ## Owner notice and return (R358-R360) -/

/-- OWNER_NOTICE (R358, R359): COMP switches at the next line boundary, or at the announced line. A member learns the owner. -/
def execOwnerNotice (t line : Nat) (s : State) : Res State :=
  .next (s.when (decide (t < 3)) (fun s =>
    let s := { s with trio := { s.trio with notice := some (t, line) } }
    if line = 0 ∧ s.pos < 3 then s.set .TRIO_STATUS_OWNER t else s))

/-- May a return start (R360)? -/
def State.returnOk (s : State) : Bool :=
  s.phase == 0 && (s.axStopped || s.forward 0) && s.members == 3

/-- REVERT_REQ (R359): on T0, TRIO_AGREE has reached REVERT_LINES; on the active member, T0's request has arrived and the hand-over line is
announced: the next line to end + 64, or at once with AX0 stopped. -/
def execRevertReq (s : State) : Res State :=
  .next (s.when (s.member && s.returnOk) (fun s =>
    if s.is .TRIO_STATUS_ACTIVE then
      if s.pos = 0 ∨ !s.trio.revert ∨ s.trio.handover.isSome then s
      else
        let y := if s.axStopped then s.seq.next else s.seq.next + 64
        (State.on { s with trio := { s.trio with handover := some y, notice := some (0, y) } } .TRIO_STATUS_REVERT_PENDING).out
          (.wort "ownerNotice" [0, y])
    else if s.pos = 0 ∧ s.is .TRIO_STATUS_QUALIFIED ∧ s.is .TRIO_CFG_REVERT_EN ∧
        s.get .TRIO_CFG_REVERT_LINES ≤ s.get .TRIO_AGREE_LINES then
      { s with trio := { s.trio with revert := true } }
    else s))

/-- PRIMARY_RETURN (R359): line y_h − 1 has ended; T0 takes STEP_OWN, which needs no CLAIM, and the active member releases it 4 ticks
later. -/
def execPrimaryReturn (s : State) : Res State :=
  .next (match s.trio.handover with
  | none => s
  | some y =>
    s.when (s.member && s.phase == 0 && (s.axStopped || (s.forward 0 && decide (y ≤ s.seq.next))) && bit (s.get .TRIO_STATUS_MEMBERS) 0 &&
        (s.is .TRIO_STATUS_ACTIVE || s.pos == 0)) (fun s =>
      let from_ := s.get .TRIO_STATUS_OWNER
      let s := if s.is .TRIO_STATUS_ACTIVE then s.releaseOwn.set .TRIO_STATUS_OWNER 0
        else s.takeOwn.enableDrivers
      let s := (((s.set .TRIO_LAST_CAUSE 4).set .TRIO_LAST_FROM from_).set .TRIO_LAST_TO 0).set .TRIO_LAST_CATCHUP 0
      let s := (s.bump .TRIO_EVENTS_REVERTS).set .TRIO_HANDOVER_LINE y
      let n := s.trio.notice
      let s := s.cancelReturn
      State.trioVector { s with trio := { s.trio with notice := if s.is .TRIO_STATUS_ACTIVE then none else n } }))

/-! ## Register writes -/

/-- A write of TRIO_CFG (R359, R115): a REVERT_LINES of 0 makes it ignored. -/
def State.trioCfg (s : State) (v : Nat) : State :=
  if v % 2 ^ 24 = 0 then s.on .TRIO_STATUS_ERR
  else (s.set .TRIO_CFG_REVERT_LINES v).set .TRIO_CFG_REVERT_EN (v / 2 ^ 31)

/-- TRIO_CFG_WRITE. -/
def execTrioCfgWrite (v : Nat) (s : State) : Res State := .next (s.reach .trio 0 (fun s => s.trioCfg v))

/-- TRIO_EVENTS.CLR. -/
def execTrioEventsClr (s : State) : Res State :=
  .next (s.reach .trio 0 (fun s => s.clear [.TRIO_EVENTS_TAKEOVERS, .TRIO_EVENTS_REVERTS, .TRIO_EVENTS_UNQUAL]))

end Sys2Proof.Machine
end

