-- ==== Sys2Proof/Machine/Grist.lean ====
section
/-! DEFINITION. The Grist map (R60-R69): entries as they read, the table's CRC, the LAYOUT section, rewrites and generations. -/

namespace Sys2Proof.Machine

/-! ## Entries (R60-R63) -/

/-- A domain number as an entry carries it: 0xFF for PD_AON (R62). -/
def pwrCode (b : Block) (i k : Nat) : Nat :=
  match b.domains i, k with
  | [], 0 => 0xFF
  | l, k => l.getD k 0xFE

/-- The place a block has in the default image, as far as spec/ gives it: the two fixed blocks (R61) and the head ports (R69, worked
example); else open (R63, log entry 80). -/
def defaultPlace (b : Block) (i : Nat) : Nat × Nat :=
  match b with
  | .grist => (0, 0x1000)
  | .rcp => (0x1000, 0x1000)
  | .headPort => (0x02290000 + 0x8000 * i, 0x8000)
  | _ => ((Config.defaultPlace b.code i).1, (Config.defaultPlace b.code i).2)

/-- FLAGS (R63). -/
def State.entryFlags (s : State) (e : GEntry) : Nat :=
  b2n (s.blockOn e.block e.inst) + 2 * b2n (s.blockFenced e.block e.inst) +
  4 * b2n ((e.off, e.size) == defaultPlace e.block e.inst)

/-- The CAPS bits that a chapter defines: of a tun, the mask of engines present (spec/08_tuns_and_engines.md); undefined bits read 0 (R61). -/
def Block.capsMask (b : Block) : Nat := if b = .tun then 0xFFFF else 0

/-- The 32 bytes of an entry (R61) with the FLAGS given. -/
def GEntry.bytes (e : GEntry) (flags : Nat) : List Byte :=
  let u := e.block.fenceUnits e.inst
  leBytes 2 e.block.code ++ leBytes 2 e.inst ++ leBytes 2 e.version ++ leBytes 2 e.regrev ++ leBytes 4 e.off ++ leBytes 4 e.size ++
  leBytes 4 (e.caps &&& e.block.capsMask) ++ leBytes 1 (pwrCode e.block e.inst 0) ++ leBytes 1 (pwrCode e.block e.inst 1) ++
  leBytes 1 (pwrCode e.block e.inst 0) ++ leBytes 1 flags ++ leBytes 1 u.1 ++ leBytes 1 u.2.1 ++ leBytes 1 u.2.2 ++ leBytes 5 0

/-- GRS_TABLE_CRC: every FLAGS byte taken as 0. -/
def tableCrc (l : List GEntry) : Nat := crc32c (l.flatMap (fun e => e.bytes 0))

/-- Table offset: its first and last BAR0 offset (R60). -/
def tableBase : Nat := 0x2000
def tableEnd : Nat := 0x20000

/-- A byte of the entry table as it reads. -/
def State.tableByte (s : State) (l : List GEntry) (o : Nat) : Byte :=
  match l[(o - tableBase) / 32]? with
  | some e => (e.bytes (s.entryFlags e)).getD ((o - tableBase) % 32) 0
  | none => 0

/-! ## The LAYOUT section (R61; 20 bytes a block, log entry 14) -/

/-- The block of a TYPE code. -/
def blockOf (code : Nat) : Option Block := Block.all.find? (fun b => b.code == code)

/-- Instances of a block (R64). -/
def Block.instances (b : Block) : Nat :=
  match b with
  | .tun | .screen | .underback | .grantBuf | .headPort => 64
  | .codec | .isp | .wortPort => 4
  | .camera => 8
  | .ethernet => 2
  | .wortLane => 36
  | .ddr | .sparge => 6
  | _ => 1

/-- The records of a LAYOUT payload: TYPE, INSTANCE, OFFSET, SIZE, VERSION, REGREV, CAPS. -/
def layoutRecs (b : List Byte) : List (List Byte) := (List.range (b.length / 20)).map (fun i => sub b (20 * i) 20)

/-- An entry from a record. -/
def layoutEntry (r : List Byte) : Option GEntry :=
  (blockOf (fieldAt r 0 2)).map (fun b =>
    { block := b, inst := fieldAt r 2 2, version := fieldAt r 12 2, regrev := fieldAt r 14 2, off := fieldAt r 4 4, size := fieldAt r 8 4,
      caps := fieldAt r 16 4 })

/-- The order of entries (R60). -/
def entryLt (a b : GEntry) : Bool :=
  decide (a.block.code < b.block.code ∨ (a.block.code = b.block.code ∧ a.inst < b.inst))

/-- An entry put in its place. -/
def insEntry : List GEntry → GEntry → List GEntry
  | [], e => [e]
  | a :: t, e => if entryLt e a then e :: a :: t else a :: insEntry t e

/-- The entries of a LAYOUT payload, with the two the device enters itself (R61). -/
def layoutEntries (b : List Byte) : List GEntry :=
  let l := ((layoutRecs b).filterMap layoutEntry).filter (fun e => e.block != .grist && e.block != .rcp)
  (fixedEntries ++ l).foldl insEntry []

/-- A size field of 0. -/
def layoutZero (b : List Byte) : Bool := (layoutRecs b).any (fun r => fieldAt r 8 4 == 0)

/-- The rules of R60 and R61. -/
def layoutOk (b : List Byte) : Bool :=
  let l := layoutEntries b
  decide (0 < b.length) && b.length % 20 == 0 &&
  (layoutRecs b).all (fun r => match layoutEntry r with
    | none => false
    | some e =>
      decide (e.inst < e.block.instances) && e.off % 4096 == 0 && e.size % 4096 == 0 && decide (0 < e.size ∧ e.off + e.size ≤ 0x10000000) &&
      (if e.block = .grist ∨ e.block = .rcp then (e.off, e.size) == defaultPlace e.block e.inst else decide (tableEnd ≤ e.off))) &&
  decide (((layoutRecs b).map (fun r => (fieldAt r 0 2, fieldAt r 2 2))).Nodup) && decide (l.length ≤ 3840) &&
  (List.range l.length).all (fun i => (l.drop (i + 1)).all (fun y =>
    match l[i]? with | some x => decide (x.off + x.size ≤ y.off ∨ y.off + y.size ≤ x.off) | none => true))

/-! ## Rewrites (R66) -/

/-- A rewrite falls due: it starts at once, or waits for those before it. -/
def State.rewrite (s : State) (cause : Nat) (entries : List GEntry) (imageId : Nat) : State :=
  let idle := s.gristDue.isEmpty
  let s := { s with gristDue := s.gristDue ++ [{ cause := cause, entries := entries, imageId := imageId }] }
  if idle then s.set .GRS_GEN_GEN (s.get .GRS_GEN_GEN + 1) else s

/-- A partial reload's rewrite, which changes no entry. -/
def State.rewriteSame (s : State) (cause : Nat) : State :=
  match s.gristDue.getLast? with
  | some r => s.rewrite cause r.entries r.imageId
  | none => s.rewrite cause s.grist (s.get .GRS_IMAGE_ID_ID)

/-- GRIST_REWRITE (R66): the odd period ends; the next rewrite due starts. -/
def execGristRewrite (s : State) : Res State :=
  .next (match s.gristDue with
  | [] => s
  | r :: rest =>
    let s := State.set { s with grist := r.entries, gristDue := rest } .GRS_CAUSE_CAUSE r.cause
    let s := (s.set .GRS_IMAGE_ID_ID r.imageId).set .GRS_GEN_GEN (s.get .GRS_GEN_GEN + 1)
    let s := s.vector .GRS_NOTIFY_VECTOR .GRS_NOTIFY_EN
    if rest.isEmpty then s else s.set .GRS_GEN_GEN (s.get .GRS_GEN_GEN + 1))

/-- GRS_STALE_CLR (R66). -/
def execGrsStaleClr (s : State) : Res State := .next (s.when (s.powered 131) (fun s => s.clear [.GRS_STALE_COUNT]))

/-- The boot set written (R65). -/
def State.bootTable (s : State) : State :=
  ({ s with grist := bootSet, gristDue := [] } : State).set .GRS_CAUSE_CAUSE 0 |>.set .GRS_IMAGE_ID_ID 0

end Sys2Proof.Machine
end

