-- ==== Sys2Proof/Machine/Ddr.lean ====
section
/-! DEFINITION. The DDR5 memory controllers and what reaches DRAM through them: training, the address map, refresh, replay, ECC and
poison, rehoming, the sparge (R362-R384), COPY (R114) and the BAR4 window (R99). -/

namespace Sys2Proof.Machine

/-- A DDR channel outside its registers. -/
def State.ddr (s : State) (i : Nat) : DdrCh := look {} s.ddrs i
def State.setDdr (s : State) (i : Nat) (x : DdrCh) : State := { s with ddrs := store {} s.ddrs i x }

/-- The states of DDR_STATUS. -/
def ddrAbsent : Nat := 0
def ddrTraining : Nat := 1
def ddrUp : Nat := 2
def ddrEvac : Nat := 3
def ddrFenced : Nat := 4
def ddrRehomed : Nat := 5
def ddrSelf : Nat := 6

/-- Does the channel serve requests? -/
def State.ddrServes (s : State) (i : Nat) : Bool :=
  let st := s.get .DDR_STATUS_STATE i
  st == ddrUp || st == ddrEvac || st == ddrRehomed

/-! ## The address map (R363, R365-R368) -/

/-- The map in force: grain, the channel of each slot, bytes mirrored per channel, bytes reserved per channel, capacity of one channel. -/
structure DMap where
  grain  : Nat
  list   : List Nat
  mirror : Nat
  spare  : Nat
  cap    : Nat

/-- The boot map (R363), or the DDR_MAP in force (R365). -/
def State.dmap (s : State) : DMap :=
  let trained := (List.range 6).filter (fun i => (s.ddr i).up)
  let cap := ((trained.head?).map (fun i => (s.ddr i).geom.getD 0 0)).getD 0 * 2 ^ 30
  if s.hasSect 0x0012 then
    let n := s.sf 0x0012 0 4 1
    { grain := s.sf 0x0012 0 0 4, list := (List.range n).map (fun k => s.sf 0x0012 0 (5 + k) 1),
      mirror := s.sf 0x0012 0 0xC 4 * 2 ^ 30 / n, spare := s.sf 0x0012 0 0x10 8, cap := cap }
  else { grain := 4096, list := trained, mirror := 0, spare := 0, cap := cap }

/-- Usable bytes per channel, and of the device (R366). -/
def DMap.usable (m : DMap) : Nat := m.cap - m.spare - m.mirror
def DMap.size (m : DMap) : Nat := m.list.length * m.usable

/-- Slot and channel address of a device address (R366). -/
def DMap.place (m : DMap) (a : Nat) : Nat × Nat :=
  let u := a / m.grain
  (u % m.list.length, u / m.list.length * m.grain + a % m.grain)

/-- Device address of a usable channel address on a slot (R366). -/
def DMap.back (m : DMap) (slot x : Nat) : Nat := (x / m.grain * m.list.length + slot) * m.grain + x % m.grain

/-- Does the device address lie in the mirrored region (R368)? -/
def DMap.mirrored (m : DMap) (a : Nat) : Bool := decide (a < m.list.length * m.mirror)

/-- The survivors of channel `k`, and where one of its channel addresses goes (R377). -/
def DMap.survivors (m : DMap) (k : Nat) : List Nat := m.list.filter (· != k)
def DMap.rehome (m : DMap) (k x : Nat) : Nat × Nat :=
  let v := x / m.grain
  let l := m.survivors k
  (l.getD (v % l.length) k, m.cap - m.spare + v / l.length * m.grain + x % m.grain)

/-- The device address that a channel address holds: usable, second copy, or rehomed here (R366, R368, R377). -/
def State.ddrHolds (s : State) (i x : Nat) : Option Nat :=
  let m := s.dmap
  match m.list.idxOf? i with
  | none => none
  | some slot =>
    let n := m.list.length
    if x < m.usable then some (m.back slot x)
    else if x < m.cap - m.spare then some (m.back ((slot + n - 1) % n) (x - m.usable))
    else match s.rehomed with
      | none => none
      | some k =>
        let l := m.survivors k
        match l.idxOf? i, m.list.idxOf? k with
        | some j, some ks =>
          let v := (x - (m.cap - m.spare)) / m.grain * l.length + j
          let x0 := v * m.grain + x % m.grain
          if x0 < m.usable then some (m.back ks x0)
          else if x0 < m.cap - m.spare then some (m.back ((ks + n - 1) % n) (x0 - m.usable))
          else none
        | _, _ => none

/-! ## Reads and writes (R368, R375, R376) -/

/-- Does a channel answer now: trained, not fenced, and not in self-refresh? -/
def State.ddrAlive (s : State) (i : Nat) : Bool := (s.ddr i).up && !s.fenced 6 i && !(s.ddr i).asleep

/-- Is a channel address on a slot held somewhere, in place or rehomed (R377)? -/
def State.ddrStands (s : State) (slot x : Nat) : Bool :=
  let m := s.dmap
  let k := m.list.getD slot 6
  s.ddrAlive k || (s.rehomed == some k && s.ddrAlive (m.rehome k x).1)

/-! ## Banks and rows (R367, R370) -/

/-- The bursts that `n` bytes from `a` touch, as their first addresses. -/
def burstsOf (a n : Nat) : List Nat := if n = 0 then [] else (List.range ((a + n - 1) / 64 - a / 64 + 1)).map (fun j => (a / 64 + j) * 64)

/-- The bank, as State.banks numbers it, and the row that channel address `x` of channel `i` is issued to (R367): with HASH the bank group and
the bank are mixed with the row. -/
def State.bankOf (s : State) (i x : Nat) : Nat × Nat :=
  let half := s.dmap.cap / ((s.ddr i).geom.getD 3 0 + 1)
  let y := x % half
  let row := y / 2 ^ 19
  let hash := !s.hasSect 0x0012 || s.sf 0x0012 0 0xB 1 == 1
  let bg := if hash then (y / 2 ^ 14 ^^^ row) % 8 else y / 2 ^ 14 % 8
  let bank := if hash then (y / 2 ^ 17 ^^^ row / 8) % 4 else y / 2 ^ 17 % 4
  (1024 * i + 64 * (x / half) + 32 * (y / 64 % 2) + 8 * bank + bg, row)

/-- One access to a row of a bank (R370): with PRED 1 its counter rises for the bank's previous row and falls for another, and the row stays
open where it is 2 or 3; otherwise the access carries auto-precharge. No request is queued behind it (log entry 138). -/
def State.accessBank (s : State) (k row : Nat) : State :=
  let b := look {} s.banks k
  let pred := s.hasSect 0x0012 && s.sf 0x0012 0 0x19 1 == 1
  let ctr := if !pred then b.ctr else if b.row = some row then min 3 (b.ctr + 1) else b.ctr - 1
  { s with banks := store {} s.banks k { row := some row, ctr := ctr, last := if pred && decide (2 ≤ ctr) then some s.now else none } }

/-- The row open in a bank: it is closed after IDLE_CLOSE cycles of CLK_DDR, 3 to a tick, without an access (R370). -/
def State.openRow (s : State) (k : Nat) : Option Nat :=
  let b := look {} s.banks k
  match b.last with
  | some t => if 3 * (s.now - t) < s.sf 0x0012 0 0x1A 2 then b.row else none
  | none => none

/-- Every bank of channel `i` precharged; the counters stay (R370, R371, R374). -/
def State.precharge (s : State) (i : Nat) : State :=
  { s with banks := s.banks.map (fun (e : Nat × Bank) => if e.1 / 1024 = i then (e.1, { e.2 with last := none }) else e) }

/-- One burst at channel address `x` of a slot accessed, where it stands. -/
def State.accessBurst (s : State) (slot x : Nat) : State :=
  let m := s.dmap
  let k := m.list.getD slot 6
  let place := if s.ddrAlive k then some (k, x) else if s.rehomed = some k then some (m.rehome k x) else none
  match place with
  | some p => let b := s.bankOf p.1 p.2; s.accessBank b.1 b.2
  | none => s

/-- `n` bytes from device address `a` accessed burst by burst; a write goes to both copies of the mirrored region (R368). -/
def State.dramTouch (s : State) (a n : Nat) (write : Bool) : State :=
  (burstsOf a n).foldl (fun (s : State) b =>
    let m := s.dmap
    let p := m.place b
    if m.size ≤ b then s
    else
      let s := s.accessBurst p.1 p.2
      if write && m.mirrored b then s.accessBurst ((p.1 + 1) % m.list.length) (m.usable + p.2) else s) s

/-! ## What a read gives -/

/-- Does the first copy read good at the rehomed place of a channel that failed (R376)? -/
def State.ddrCopied (s : State) (k x burst : Nat) : Bool :=
  !(s.rehomed == some k && s.is .DDR_EVAC_UNPLANNED k) || decide (x < (s.ddr k).copied) || (s.ddr k).healed.contains burst

/-- Is the device address inside installed DRAM, and on no fenced channel (R99)? -/
def State.dramAt (s : State) (a : Nat) : Bool :=
  let m := s.dmap
  let p := m.place a
  decide (a < m.size) && (s.ddrStands p.1 p.2 ||
    (m.mirrored a && s.ddrStands ((p.1 + 1) % m.list.length) (m.usable + p.2)))

/-- Does the burst of a device address read poisoned (R375, R376)? -/
def State.dramBad (s : State) (a : Nat) : Bool :=
  let m := s.dmap
  let p := m.place a
  let first := s.ddrStands p.1 p.2 && s.ddrCopied (m.list.getD p.1 6) p.2 (a / 64)
  let second := m.mirrored a && s.ddrStands ((p.1 + 1) % m.list.length) (m.usable + p.2)
  s.poison.contains (a / 64) || !(first || second)

/-- Do all of `n` bytes from `a` lie inside installed DRAM and on no fenced channel (R99)? -/
def State.dramOk (s : State) (a n : Nat) : Bool := (burstsOf a n).all s.dramAt

/-- Does any burst of `n` bytes from `a` read poisoned? -/
def State.dramPoisoned (s : State) (a n : Nat) : Bool := (burstsOf a n).any s.dramBad

/-- A write to the frame buffer of the viewport (R428, R429). -/
def State.vpTouch (s : State) (a n : Nat) : State :=
  let c := s.vp.cfg
  if c.en && decide (a < c.base + c.stride * c.vact ∧ c.base < a + n) then
    { s with vp := { s.vp with touched := true, due := s.vp.due || c.mode } }
  else s

/-- Bytes written to DRAM: those on a fenced channel are discarded (R376), and a burst written whole loses its poison (R375). -/
def State.dramWr (s : State) (a : Nat) (bs : List Byte) : State :=
  let n := bs.length
  let sound := s.dramOk a n
  let mem := if sound then Memory.wrs s.dram a bs
    else (List.range n).foldl (fun m i => if s.dramAt (a + i) then Memory.wr m (a + i) (bs.getD i 0) else m) s.dram
  let whole := ((burstsOf a n).filter (fun b => decide (a ≤ b ∧ b + 64 ≤ a + n) && s.dramAt b)).map (· / 64)
  let s := { s with dram := mem, poison := s.poison.filter (fun b => !whole.contains b) }
  let s := match s.rehomed with
    | none => s
    | some k =>
      let mine := whole.filter (fun b => (s.dmap.list.getD (s.dmap.place (64 * b)).1 6) == k)
      s.setDdr k { s.ddr k with healed := mine.foldl insNat (s.ddr k).healed }
  (s.vpTouch a n).dramTouch a n true

/-! ## COPY and BAR4 -/

/-- COPY (R114, R375): bytes ahead of a poisoned burst have been copied when it ends CHECK_FAILED (log entry 77). -/
def execCopy (d : Desc) (s : State) : Res State :=
  let dir := d.p 0x10 1
  let host := d.p 0x18 8
  let dev := d.p 0x20 8
  let n := d.p 0x28 4
  .next (s.submit d
    { opcode := 0x0006, long := true, used := [(0x10, 1), (0x18, 8), (0x20, 8), (0x28, 4)], counts := [n],
      range := decide (dir ≤ 1 ∧ dev + n ≤ s.dmap.size) }
    (fun h s =>
      if dir = 1 then State.done (s.dramWr dev (Memory.rds s.hostMem host n)) h
      else
        let good := match (burstsOf dev n).find? s.dramBad with
          | none => n
          | some b => b - dev
        let s := { s.dramTouch dev n false with hostMem := Memory.wrs s.hostMem host (Memory.rds s.dram dev good) }
        if good = n then State.done s h else s.finish h stCheckFailed 0 1))

/-- BAR4_ACCESS (R99, R375): `addr` is the offset in BAR4. A read returns its bytes and how it completed: 0 successful, 1 Unsupported
Request with all ones, 2 poisoned. -/
def execBar4Access (write : Bool) (addr n : Nat) (bytes : List Byte) (s : State) : Res State :=
  let a := s.get .QM_BAR4_BASE_BASE + addr
  let len := if write then bytes.length else n
  .next (s.when (s.powered 131 && s.powered 126 && decide (addr + len ≤ 64 * 2 ^ 30)) (fun s =>
    if !s.dramOk a len then
      let s := s.out (.reply "bar4" [1])
      if write then s else { s with rdata := 2 ^ (8 * n) - 1 }
    else if write then (s.dramWr a bytes).out (.reply "bar4" [0])
    else State.out { s.dramTouch a n false with rdata := leNat (Memory.rds s.dram a n) } (.reply "bar4" [if s.dramPoisoned a n then 2 else 0])))

/-! ## Training (R363) -/

/-- The geometry of a channel: device width, density, ranks. -/
def State.ddrGeom (s : State) (i : Nat) : Nat × Nat × Nat :=
  let g := (s.ddr i).geom
  (g.getD 1 0, g.getD 2 0, g.getD 3 0)

/-- DDR_STATUS.SLOT of every channel, as the map in force says. -/
def State.showSlots (s : State) : State :=
  s.each 6 (fun s i => s.set .DDR_STATUS_SLOT ((s.dmap.list.idxOf? i).getD 0xFF) i)

/-- A channel that is out from training. -/
def State.ddrOut (s : State) (i state : Nat) : State := (s.set .DDR_STATUS_STATE state i).recordFence 6 i causeDdr

/-- Once every channel has ended its training, those whose geometry differs from that of the lowest-numbered one that trained are
fenced (R363). -/
def State.endTraining (s : State) : State :=
  if (List.range 6).any (fun i => s.get .DDR_STATUS_STATE i == ddrTraining) then s
  else
    match (List.range 6).find? (fun i => (s.ddr i).up) with
    | none => s
    | some k =>
      (s.each 6 (fun s i => if (s.ddr i).up && s.ddrGeom i != s.ddrGeom k then
        (s.setDdr i { s.ddr i with up := false }).ddrOut i ddrFenced else s)).showSlots

/-- What R362 supports. -/
def Dimm.ok (x : Dimm) : Bool :=
  x.supported && decide (x.density ≤ 2 ∧ (x.ranks = 1 ∨ x.ranks = 2) ∧ 16 ≤ x.gib ∧ x.gib ≤ 128 ∧ 14 ≤ x.rowBits ∧ x.rowBits ≤ 17)

/-- DDR_GEOM of a channel, as its DIMM's SPD hub gives it: GiB, x8, density, ranks − 1, row bits. -/
def State.showGeom (s : State) (i : Nat) (g : List Nat) : State :=
  let s := ((s.set .DDR_GEOM_GIB (g.getD 0 0) i).set .DDR_GEOM_X8 (g.getD 1 0) i).set .DDR_GEOM_DENSITY (g.getD 2 0) i
  (s.set .DDR_GEOM_RANKS_M1 (g.getD 3 0) i).set .DDR_GEOM_ROW_BITS (g.getD 4 0) i

/-- DDR_TRAIN (R363): channel `i` has read its DIMM, none if it is empty, and trained. -/
def execDdrTrain (i : Nat) (dimm : Option Dimm) (ok : Bool) (s : State) : Res State :=
  .next (s.when (decide (i < 6) && s.get .DDR_STATUS_STATE i == ddrTraining) (fun s =>
    match dimm with
    | none => (s.ddrOut i ddrAbsent).endTraining
    | some x =>
      let g := [x.gib, b2n x.x8, x.density, x.ranks - 1, x.rowBits]
      let s := s.showGeom i g
      if Dimm.ok x && ok then ((s.set .DDR_STATUS_STATE ddrUp i).setDdr i { up := true, geom := g }).endTraining
      else (s.ddrOut i ddrFenced).endTraining))

/-! ## Refresh and temperature (R371, R372) -/

/-- REFRESH (R370-R372): every bank is precharged, and the grid takes the interval that the latest readings call for. A channel that replays
refreshes at the end of its replay (R374). -/
def execRefresh (s : State) : Res State :=
  let hot := (List.range 6).any (fun i => s.ddrServes i && decide (85 < s.get .DDR_STATUS_TEMP i))
  .next (s.each 6 (fun s i =>
    if !s.ddrServes i then s
    else if s.is .DDR_STATUS_REPLAYING i then (s.setDdr i { s.ddr i with behind := true }).set .DDR_STATUS_HOT (b2n hot) i
    else ((s.precharge i).takeCalib (128 + i) 1).set .DDR_STATUS_HOT (b2n hot) i))

/-- DIMM_TEMP_READ (R372). -/
def execDimmTempRead (i deg : Nat) (s : State) : Res State :=
  .next (s.when (decide (i < 6 ∧ deg < 256) && s.ddrServes i) (fun s =>
    let s := s.set .DDR_STATUS_TEMP deg i
    if 95 < deg then (s.on .DDR_STATUS_HOT_ALARM i).telEvent 0x0004 i else s))

/-! ## Fencing and rehoming (R376-R379) -/

/-- Bytes of the channel copied by an evacuation up to now: 8 GB/s, in ascending channel address (R378, log entry 78). -/
def State.evacuated (s : State) (i : Nat) : Nat :=
  match (s.ddr i).evac with
  | none => 0
  | some t => min ((s.now - t) * 20 / 64 * 64) (s.dmap.cap - s.dmap.spare)

/-- DDR_EVAC.PCT: how far the evacuation under way has come, or where the latest one stopped (R378). -/
def State.evacPct (s : State) (i : Nat) : Nat :=
  if (s.ddr i).evac.isNone then s.get .DDR_EVAC_PCT i else s.evacuated i * 100 / max 1 (s.dmap.cap - s.dmap.spare)

/-- The survivors show that a channel has been rehomed on them. -/
def State.showRehome (s : State) (i : Nat) : State :=
  (s.dmap.survivors i).foldl (fun s k => if s.get .DDR_STATUS_STATE k = ddrUp then s.set .DDR_STATUS_STATE ddrRehomed k else s) s

/-- Of the channels the map lists, is one other than `i` fenced? -/
def State.otherFenced (s : State) (i : Nat) : Bool := s.dmap.list.any (fun k => k != i && s.fenced 6 k)

/-- Are two channels of the map down (R379)? -/
def State.twoDown (s : State) : Bool := s.dmap.list.any (fun i => s.fenced 6 i && s.otherFenced i)

/-- Every head channel fenced, when a second channel of the map is (R379). -/
def State.secondFence (s : State) (i : Nat) : State :=
  if s.dmap.list.contains i && s.otherFenced i then s.each 64 (fun s c => s.fenceHead c causeMem) else s

/-- A channel fenced without notice (R376): rehomed at once where the map reserves room and no other channel uses it. -/
def State.ddrFail (s : State) (i cause : Nat) : State :=
  if s.fenced 6 i then s
  else
    let m := s.dmap
    let copied := s.evacuated i
    let room := decide (0 < m.spare) && m.list.contains i && s.rehomed.isNone &&
      (List.range 6).all (fun k => k == i || s.get .DDR_STATUS_STATE k != ddrEvac)
    let s := s.set .DDR_EVAC_PCT (s.evacPct i) i
    let s := ((s.set .DDR_STATUS_STATE ddrFenced i).off .DDR_STATUS_REPLAYING i).set .SPG_STATUS_PASS_PCT 0 i
    let s := (s.setDdr i { s.ddr i with alerts := 0, spg := 0, evac := none, copied := copied, healed := [], ues := [], behind := false }).recordFence 6 i cause
    let s := if room then
        let s := State.on { s with rehomed := some i } .DDR_EVAC_UNPLANNED i
        (s.bump .DDR_EVAC_LOST ((m.usable - max m.mirror copied) / 64) i).showRehome i
      else s
    s.secondFence i

/-- DDR_CHANNEL_FAIL (R376): the channel loses training. -/
def execDdrChannelFail (i : Nat) (s : State) : Res State :=
  .next (s.when (decide (i < 6) && s.ddrServes i) (fun s => s.ddrFail i causeDdr))

/-- EVACUATION_DONE (R378, R379). -/
def execEvacuationDone (i : Nat) (s : State) : Res State :=
  .next (s.when (decide (i < 6) && s.get .DDR_STATUS_STATE i == ddrEvac) (fun s =>
    let s := ((s.set .DDR_EVAC_PCT 100 i).set .DDR_STATUS_STATE ddrFenced i).setDdr i { s.ddr i with evac := none, spg := 0 }
    ((State.recordFence { s with rehomed := some i } 6 i causeSet).showRehome i).secondFence i))

/-! ## Replay (R374) -/

/-- ALERT_N (R374): `crc` a write CRC, `same` on the command of the latest alert. The fourth on one command fences the channel. -/
def execAlertN (i : Nat) (crc same : Bool) (s : State) : Res State :=
  .next (s.when (decide (i < 6) && s.ddrServes i && !s.is .DDR_STATUS_REPLAYING i) (fun s =>
    let n := if same then (s.ddr i).alerts + 1 else 1
    let s := (s.setDdr i { s.ddr i with alerts := n, crc := crc }).on .DDR_STATUS_REPLAYING i
    if 4 ≤ n then s.ddrFail i causeMem else s))

/-- ALERT_N_HIGH (R374): the replay runs and is counted; it precharges every bank, as the refresh that fell within it does once more. -/
def execAlertNHigh (i : Nat) (s : State) : Res State :=
  .next (s.when (decide (i < 6) && s.is .DDR_STATUS_REPLAYING i) (fun s =>
    let s := (if (s.ddr i).behind then s.takeCalib (128 + i) 1 else s).setDdr i { s.ddr i with behind := false }
    let s := ((s.precharge i).off .DDR_STATUS_REPLAYING i).bump .DDR_ALERT_REPLAYS 1 i
    if (s.ddr i).crc then s.bump .DDR_ALERT_CRC 1 i else s))

/-- DDR_ALERT_CLR (R374). -/
def execDdrAlertClr (i : Nat) (s : State) : Res State :=
  .next (s.reach .ddr i (fun s => s.clear [.DDR_ALERT_REPLAYS, .DDR_ALERT_CRC] i))

/-- DDR_ECC_CLR (R375). -/
def execDdrEccClr (i : Nat) (s : State) : Res State :=
  .next (s.reach .ddr i (fun s =>
    s.clear [.DDR_ECC_CE, .DDR_ECC_UE, .DDR_ECC_ADDR_ADDR, .DDR_ECC_ADDR_MIRRORED] i))

/-! ## ECC (R375) -/

/-- One uncorrectable burst more on a channel: more than 16 in one second fence it (R376). -/
def State.noteUe (s : State) (i : Nat) : State :=
  let ues := s.now :: (s.ddr i).ues.filter (fun t => decide (s.now < t + 400000000))
  let s := s.setDdr i { s.ddr i with ues := ues }
  if 16 < ues.length then s.ddrFail i causeMem else s

/-- An uncorrectable burst at channel address `x`: counted, recorded, and poisoned unless the mirrored region restores it. -/
def State.burstLost (s : State) (i x : Nat) (both : Bool) : State :=
  let b := x / 64 * 64
  let a := s.ddrHolds i b
  let mir := (a.map s.dmap.mirrored).getD false
  let s := ((s.bump .DDR_ECC_UE 1 i).set .DDR_ECC_ADDR_ADDR b i).set .DDR_ECC_ADDR_MIRRORED (b2n mir) i
  let s := match a with
    | some a => if mir && !both then s else { s with poison := insNat s.poison (a / 64) }
    | none => s
  s.noteUe i

/-! ## Self-refresh (R380-R382) -/

/-- Self-refresh entry of every channel in service (R380): it answers nothing until it has left it again. -/
def State.selfRefresh (s : State) : State :=
  s.each 6 (fun s i => if s.ddrServes i then (s.set .DDR_STATUS_STATE ddrSelf i).setDdr i { s.ddr i with asleep := true } else s)

/-- Device addresses kept when rank 1 loses its contents (R381): those whose first copy lies in rank 0. -/
def State.rankKept (s : State) (a : Nat) : Bool :=
  let m := s.dmap
  decide (a < m.size) && (decide ((m.place a).2 * 2 < m.cap))

/-- SELF_REFRESH_EXIT (R380): the controller, powered again with its reset values (R57), restarts CK, leaves self-refresh and retrains; a
channel that fails to retrain is fenced under R376. -/
def execSelfRefreshExit (i : Nat) (ok : Bool) (s : State) : Res State :=
  .next (s.when (decide (i < 6) && (s.ddr i).asleep && s.is .PWR_PSTATE_BUSY && s.get .PWR_PSTATE_REQ != 2 &&
      bit (s.get .PWR_REQ_ON 0 3) (4 + i)) (fun s =>
    let st := match s.rehomed with | some k => if k != i && s.dmap.list.contains i then ddrRehomed else ddrUp | none => ddrUp
    let s := (s.putB .PWR_STATE_ON (4 + i) true 0 3).setDdr i { s.ddr i with asleep := false }
    let s := ((s.showGeom i (s.ddr i).geom).set .DDR_STATUS_STATE st i).showSlots
    if ok then s else s.ddrFail i causeDdr))

/-! ## The sparge (R383, R384) -/

/-- SPARGE_READ (R383, R384): the next burst read clean (0), corrected (1) or uncorrectable (2). -/
def execSpargeRead (i found : Nat) (s : State) : Res State :=
  let st := s.get .DDR_STATUS_STATE i
  .next (s.when (decide (i < 6) && s.is .SPG_CTRL_EN i && (st == ddrUp || st == ddrRehomed) && !s.is .DDR_STATUS_REPLAYING i) (fun s =>
    let x := (s.ddr i).spg
    let cap := s.get .DDR_GEOM_GIB i * 2 ^ 30
    let s := if found = 1 then s.bump .SPG_FOUND_CE 1 i
      else if found = 2 then
        match s.ddrHolds i x with
        | some a => if s.dmap.mirrored a then s else State.bump { s with poison := insNat s.poison (a / 64) } .SPG_FOUND_UE 1 i
        | none => s.bump .SPG_FOUND_UE 1 i
      else s
    let at_ := s.bankOf i x
    let s := s.accessBank at_.1 at_.2
    let next := if cap ≤ x + 64 then 0 else x + 64
    let s := (s.setDdr i { s.ddr i with spg := next }).set .SPG_STATUS_PASS_PCT (next * 100 / max cap 1) i
    let s := if next = 0 then s.bump .SPG_STATUS_PASSES 1 i else s
    if found = 2 then s.noteUe i else s))

/-- SPG_FOUND_CLR (R383). -/
def execSpgFoundClr (i : Nat) (s : State) : Res State :=
  .next (s.reach .sparge i (fun s => s.clear [.SPG_FOUND_CE, .SPG_FOUND_UE] i))

/-- A write of SPG_CTRL: a PERIOD_H of 0 is ignored (R115, R383). -/
def State.spgCtrl (s : State) (i v : Nat) : State :=
  let s := s.set .SPG_CTRL_EN (bits v 31 1) i
  if v % 256 = 0 then s else s.set .SPG_CTRL_PERIOD_H (v % 256) i

/-- SPG_CTRL_WRITE (R383). -/
def execSpgCtrlWrite (i v : Nat) (s : State) : Res State :=
  .next (s.reach .sparge i (fun s => s.spgCtrl i v))

/-! ## The DDR_MAP section (R365, R377) -/

/-- A size field of 0 (R365). -/
def ddrMapZero (b : List Byte) : Bool := zeroField b 0 4 || zeroField b 4 1 || zeroField b 0xC 4 || zeroField b 0x1A 2

/-- The least MIRROR_GIB of a device in this role (R368). -/
def mirrorMin (role : Nat) : Nat := if role = roleBar ∨ role = rolePress then 4 else 2

/-- The rules of R365 and R377; `cap` is the capacity of one channel. -/
def ddrMapOk (role cap : Nat) (b : List Byte) : Bool :=
  let grain := fieldAt b 0 4
  let n := fieldAt b 4 1
  let list := (List.range 6).map (fun k => fieldAt b (5 + k) 1)
  let live := list.take n
  let gib := fieldAt b 0xC 4
  let spare := fieldAt b 0x10 8
  let idle := fieldAt b 0x1A 2
  b.length == 32 && (List.range 17).any (fun k => grain == 2 ^ k) && decide (128 ≤ grain ∧ grain ≤ 65536 ∧ 2 ≤ n ∧ n ≤ 6) &&
  live.all (fun c => decide (c < 6)) && decide live.Nodup && (list.drop n).all (· == 0xFF) && decide (fieldAt b 0xB 1 ≤ 1) &&
  gib % (n / Nat.gcd n 1024) == 0 && decide (mirrorMin role ≤ gib) && spare % grain == 0 && bit (fieldAt b 0x18 1) 0 &&
  decide (fieldAt b 0x19 1 ≤ 1 ∧ 16 ≤ idle ∧ idle ≤ 4096) && zeroAt b 0x1C 4 && decide (spare + gib * 2 ^ 30 / n < cap) &&
  (spare == 0 || decide (ceilDiv ((cap - spare) / grain) (n - 1) * grain ≤ spare))

/-- May a partial image carry this DDR_MAP over the one in force: only PRED and IDLE_CLOSE differ (R365)? -/
def ddrMapSame (b old : List Byte) : Bool := sub b 0 0x19 == sub old 0 0x19 && sub b 0x1C 4 == sub old 0x1C 4

end Sys2Proof.Machine
end

