-- ==== Sys2Proof/Machine/Background.lean ====
section
/-! DEFINITION. Background work: the SRAM scrub, recalibration, firing counts and head records, telemetry, and the fences that host
software sets and lifts (R385-R398, R441). -/

namespace Sys2Proof.Machine

/-! ## Scrubbing and recalibration (R385-R387) -/

/-- A codec instance fenced: its blocks in progress are discarded and wait again; a tun whose both instances are fenced leaves its channel
as fenced, which is reported (R156). -/
def State.fenceCodec (s : State) (i cause : Nat) : State :=
  let s := (s.recordFence 3 i cause).noteCoverage
  s.each 64 (fun s c =>
    let ch := s.chan c
    if ch.intake.any (fun b => b.inst == i && b.lane != 0) then
      s.setChan c { ch with intake := ch.intake.map (fun (b : QBlock) => if b.inst == i && b.lane != 0 then { b with lane := 0 } else b) }
    else s)

/-- A correction measured: it waits for the boundary of its unit, and a later one takes its place. -/
def State.calibrate (s : State) (k : Nat) (v : Int) : State := { s with calibDue := store 0 s.calibDue k v }

/-- RECALIBRATION (R272, R386, R387): `value` is the correction measured: unit 0 the TRIM converter of CHc (codes), 1 the comparator delay of
sense channel c (ps), 2 the delays of DDR channel i (steps), 3 temperature sensor k (1/8 °C). Unit 4 is the shading of a camera port, which
the host drives with ISP_RECAL set: `gains` are written into the port's shadow table. Wort eyes have a command of their own. A fenced or
unpowered unit is not recalibrated. The correction comes into force at the unit's own boundary: the next line, at once between two strobes,
the next refresh, the next sample. -/
def execRecalibration (unit inst : Nat) (value : Int) (gains : List (List Nat)) (s : State) : Res State :=
  .next (match unit with
  | 0 => s.when (decide (inst < 64) && s.powered inst && s.uses .headPort inst && !s.fenced 1 inst) (fun s =>
      if 8 < value.natAbs then s.telEvent 0x000A inst else s.calibrate inst value)
  | 1 => s.when (decide (inst < 64) && s.powered 123 && s.uses .sightGlass 0 && !s.fenced 9 inst) (fun s =>
      if 100 < value.natAbs then s.telEvent 0x000B inst else (s.calibrate (64 + inst) value).takeCalib (64 + inst) 1)
  | 2 => s.when (decide (inst < 6) && s.ddrServes inst) (fun s => s.calibrate (128 + inst) (clampInt (-1) 1 value))
  | 3 => s.when (decide (inst < 40) && s.powered 130) (fun s => s.calibrate (192 + inst) (clampInt (-16) 16 value))
  | 4 =>
    let i := s.pipeOf inst
    s.when (decide (inst < 8) && s.powered (114 + i) && s.hasSect 0x0041 i && s.hasSect 0x0040 inst && !s.fenced 7 inst &&
        bit (s.get .ISP_RECAL_PORT i) inst && s.get .ISP_SHADOW_CTRL_PORT i == inst) (fun s =>
      (s.setCam inst { s.cam inst with shadow := some (gains.map (fun l => l.map (trunc 16))) }).showShadow i)
  | _ => s)

/-! ## Firing counts and head records (R388-R391, R441) -/

/-- The nozzle counts of a channel. -/
def State.counts (s : State) (c n : Nat) : List Nat := (List.range n).map (fun k => look 0 s.shots (2560 * c + k))

/-- Seconds powered. -/
def HeadRec.seconds (h : HeadRec) (now : Nat) : Nat := (h.power now false).powered / 400000000

/-- A head record (R389). -/
def State.headRecord (s : State) (c : Nat) : List Byte :=
  let h := look {} s.heads c
  let l := s.counts c 2560
  let top := maxOf l
  leBytes 8 h.id ++ leBytes 8 l.sum ++ leBytes 8 h.lines ++ leBytes 8 (h.seconds s.now) ++ leBytes 8 top ++
    leBytes 2 ((l.idxOf? top).getD 0) ++ List.replicate 22 0

/-- Is there a record of a head at all? -/
def State.headSeen (s : State) (c : Nat) : Bool :=
  look ({} : HeadRec) s.heads c != {} || s.shots.any (fun e => e.1 / 2560 == c)

/-- The CRC-8 of an identity, x^8 + x^4 + x^3 + x^2 + 1 from 0xFF (R441). -/
def idCrc (bs : List Byte) : Nat :=
  bs.foldl (fun r b => (List.range 8).foldl (fun r _ => if r < 128 then 2 * r else (2 * r % 256) ^^^ 0x1D) (r ^^^ b.toNat)) 0xFF

/-- What a cell of the reply carries, from the levels of HEAD_ID 10 µs and 30 µs into it: 1 low first, 0 low last; two levels alike are a
coding error (R441). -/
def cellBit (x : Bool × Bool) : Option Nat := if x.1 == x.2 then none else some (b2n !x.1)

/-- The identity a reply gives (R441): a preamble of eight cells, then 64 cells of data, the least significant bit of byte 0 first, whose top
byte is the CRC of the others; none for an absent reply, a coding error, a preamble not found or a CRC that fails. -/
def idOk (cells : List (Bool × Bool)) : Option Nat :=
  let l := cells.filterMap cellBit
  let id := (l.drop 8).foldr (fun b n => b + 2 * n) 0
  if cells.length = 72 ∧ l.length = 72 ∧ l.take 8 = [1, 0, 1, 0, 1, 0, 1, 0] ∧ idCrc (leBytes 7 id) = id / 2 ^ 56 then some id else none

/-- The identity three reads at most give: that of the first that succeeds, else 0; none while reads are still to come. -/
def idOf (reads : List (List (Bool × Bool))) : Option Nat :=
  match (reads.take 3).filterMap idOk with
  | id :: _ => some id
  | [] => if 3 ≤ reads.length then some 0 else none

/-- The nozzle counts of a channel replaced. -/
def State.putCounts (s : State) (c : Nat) (l : List Nat) : State :=
  { s with shots := (List.range 2560).foldl (fun t k => store 0 t (2560 * c + k) (l.getD k 0)) s.shots }

/-- The record a channel starts with for head `id` (R382, R389, R390): that of the latest checkpoint of this head at boot, else zero. -/
def State.newHead (s : State) (c id : Nat) (boot : Bool) : State :=
  let since := (look ({} : HeadRec) s.heads c).since.map (fun _ => s.now)
  let zero := State.putCounts { s with heads := store {} s.heads c { id := id, since := since } } c []
  if !boot || id = 0 then zero
  else match s.caskRec 5 0, s.caskRec 4 c with
  | some r, some n =>
    let h := sub r.data (64 * c) 64
    if fieldAt h 0 8 ≠ id then zero
    else
      let l := (List.range (n.data.length / 8)).map (fun k => fieldAt n.data (8 * k) 6)
      let s := { s with heads := store {} s.heads c { id := id, lines := fieldAt h 0x10 8, powered := fieldAt h 0x18 8 * 400000000,
                                                      since := since,
                                                      warned := s.is .TEL_LIFE_WARN_EN && decide (s.get .TEL_LIFE_WARN_STROBES ≤ maxOf l) } }
      s.putCounts c l
  | _, _ => zero

/-- HEAD_ID_READ (R389, R390, R441): the identity read at the enable of channel `c`, from up to three reads, each the cells of a reply
(none: no reply by 90 µs). A head other than the record's starts a record of its own, and the old one is kept in the Cask. -/
def execHeadIdRead (c : Nat) (reads : List (List (Bool × Bool))) (s : State) : Res State :=
  .next (s.when (decide (c < 64) && s.powered c && s.is .FIRE_CH_STATUS_ENABLED c) (fun s =>
    match idOf reads with
    | none => s
    | some id =>
      let boot := (s.chan c).headId == 0
      let h := look {} s.heads c
      let s := s.setChan c { s.chan c with headId := id }
      let s := if h.id = id ∧ s.headSeen c ∧ id ≠ 0 then s
        else
          let s := if s.headSeen c then
              s.caskSave 6 0 (s.headRecord c ++ (s.counts c (s.chNozzles c)).flatMap (leBytes 8))
            else s
          s.newHead c id boot
      if s.gravOn c then s.startChannel c else s))

/-- The records of a checkpoint: gravity tables, nozzle counts, head records (R291, R390). -/
def State.saveCounts (s : State) : State :=
  let s := s.each 64 (fun s c =>
    let s := if s.gravOn c then s.caskSave 3 c (tableBytes (s.chan c).headId (s.gravTable c)) else s
    if s.headSeen c then s.caskSave 4 c ((s.counts c (s.chNozzles c)).flatMap (leBytes 8)) else s)
  s.caskSave 5 0 ((List.range 64).flatMap s.headRecord)

/-- A checkpoint made by firmware that is in charge; one that falls due in a hand-over waits for its end (R390). -/
def State.checkpoint (s : State) : State :=
  let st := s.get .CASK_STATUS_STATE
  if !s.is .FLS_STATUS_READY then s
  else if s.fwAway then { s with fw := { s.fw with ckptDue := true } }
  else if st = 0 ∨ st = 4 then s
  else s.saveCounts.telEvent 0x000D 0

/-- CHECKPOINT (R390). -/
def execCheckpoint (s : State) : Res State := .next s.checkpoint

/-- The line up to which the counts of a channel include every line. -/
def State.countedLine (s : State) (c : Nat) : Nat :=
  (match (s.chan c).firing with | some f => f.no | none => (s.chan c).reached) - 1

/-- FIRE_COUNTS_READ (R391). -/
def execFireCountsRead (d : Desc) (s : State) : Res State :=
  let c := d.p 0x10 1
  let kind := d.p 0x11 1
  let first := d.p 0x12 2
  let n := d.p 0x14 2
  .next (s.submit d
    { opcode := 0x0302, long := true, used := [(0x10, 1), (0x11, 1), (0x12, 2), (0x14, 2), (0x18, 8)], counts := [n],
      range := decide (c < 64 ∧ kind ≤ 1) && d.p 0x18 8 % 64 == 0 &&
        (if kind = 0 then decide (first + n ≤ s.chNozzles c) else first == 0 && decide (n ≤ 1)) }
    (fun h s =>
      let bs := if kind = 0 then ((s.counts c 2560).drop first |>.take n).flatMap (leBytes 8) else s.headRecord c
      State.done { s with hostMem := Memory.wrs s.hostMem (d.p 0x18 8) bs } h (s.countedLine c % 2 ^ 32)))

/-! ## Telemetry (R392-R394) -/

/-- The nominal of supply monitor `i` in mV (R435). -/
def railNominal (i : Nat) : Nat :=
  if i < 8 then 750 else if i < 10 then 800 else if i = 10 then 750 else if i = 11 then 1800 else if i < 16 then 900
  else if i < 18 then 1200 else if i < 24 then 1100
  else [900, 1200, 1800, 1800, 1200, 1800, 900, 1200].getD (i - 24) 0

/-- TELEMETRY_SAMPLE (R392): sensor `i` in 1/8 °C (16 bits, signed), or supply monitor `i` in mV. -/
def execTelemetrySample (supply : Bool) (i value : Nat) (s : State) : Res State :=
  .next (s.when (s.powered 130 && decide (i < if supply then 32 else 40)) (fun s =>
    if supply then
      let v := value % 65536
      let old := s.supplies.find? (fun e => e.1 == i)
      let e := match old with | some x => (i, min x.2.1 v, max x.2.2 v) | none => (i, v, v)
      let s := { s with supplies := s.supplies.filter (fun x => x.1 != i) ++ [e] }
      if 3 * railNominal i < 100 * ((v : Int) - railNominal i).natAbs && !bit s.supplyMask i then
        State.telEvent { s with supplyMask := setBit s.supplyMask i } 0x0009 i
      else s
    else
      let s := s.takeCalib (192 + i) 1
      let v := toSigned 16 value
      let s := s.seti .TEL_TEMP_NOW v 0 i
      let s := s.seti .TEL_TEMP_MAX (max v (s.geti .TEL_TEMP_MAX 0 i)) 0 i
      let limit : Int := 8 * s.get .TEL_TWARN_DEG
      if limit < v && !bit s.hotMask i then State.telEvent { s with hotMask := setBit s.hotMask i } 0x0008 i
      else if v ≤ limit - 40 then { s with hotMask := clrBit s.hotMask i }
      else s))

/-- UB_LEVEL.AVAIL as it reads (R137). -/
def State.availShown (s : State) (c : Nat) : Nat :=
  if s.powered c then min (s.avail c) (2 ^ Fld.UB_LEVEL_AVAIL.desc.width - 1) else 0

/-- A snapshot (R393). -/
def State.snapBytes (s : State) : List Byte :=
  leBytes 4 s.clock.stamp ++ leBytes 4 0 ++ leBytes 8 (s.get .FIRE_LINE_LINE) ++
  (List.range 40).flatMap (fun k => leBytes 2 (s.get .TEL_TEMP_NOW 0 k)) ++
  (List.range 32).flatMap (fun k => match s.supplies.find? (fun e => e.1 == k) with
    | some e => leBytes 2 e.2.1 ++ leBytes 2 e.2.2
    | none => leBytes 4 0) ++
  (List.range 64).flatMap (fun c => leBytes 4 (s.availShown c)) ++
  (List.range 64).flatMap (fun c => leBytes 2 (if s.powered c then (s.chan c).grant.length else 0)) ++
  (List.range 36).flatMap (fun i => leBytes 1 (s.get .WL_LANE_EYE_WIDTH i)) ++ List.replicate 380 0

/-- SNAPSHOT (R393): into the ring of 256; the oldest unread one is overwritten and counted. -/
def execSnapshot (s : State) : Res State :=
  .next (s.when (s.powered 130) (fun s =>
    let b := s.snapBytes
    let s := if s.snaps.length < 256 then { s with snaps := s.snaps ++ [b] }
      else State.bump { s with snaps := s.snaps.drop 1 ++ [b] } .TEL_STATUS_SNAP_LOST
    { s with lastSnap := b, supplies := [], supplyMask := 0 }))

/-- A log entry of 16 bytes (R393). -/
def TelEvt.bytes (e : TelEvt) : List Byte := leBytes 4 e.time ++ leBytes 2 e.code ++ leBytes 2 e.unit ++ leBytes 8 e.line

/-- TEL_READ (R394). -/
def execTelRead (d : Desc) (s : State) : Res State :=
  let kind := d.p 0x10 1
  let n := d.p 0x14 4
  .next (s.submit d
    { opcode := 0x0803, long := true, used := [(0x10, 1), (0x14, 4), (0x18, 8)], counts := [n],
      range := decide (kind ≤ 1) && d.p 0x18 8 % 64 == 0 }
    (fun h s =>
      if kind = 0 then
        let l := s.snaps.take n
        State.done { s with hostMem := Memory.wrs s.hostMem (d.p 0x18 8) l.flatten, snaps := s.snaps.drop n } h l.length
      else
        let l := s.telLog.take n
        State.done { s with hostMem := Memory.wrs s.hostMem (d.p 0x18 8) (l.flatMap TelEvt.bytes), telLog := s.telLog.drop n } h l.length))

/-- TEL_STATUS_CLR (R393). -/
def execTelStatusClr (s : State) : Res State :=
  .next (s.reach .telemetry 0 (fun s => s.clear [.TEL_STATUS_SNAP_LOST, .TEL_STATUS_LOG_LOST]))

/-- TEL_SCRUB_CLR (R385). -/
def execTelScrubClr (s : State) : Res State := .next (s.reach .telemetry 0 (fun s => s.clear [.TEL_SCRUB_CORR]))

/-- TEL_TEMP_CLR (R392): MAX becomes NOW. -/
def execTelTempClr (i : Nat) (s : State) : Res State :=
  .next (s.when (decide (i < 40)) (fun s => s.reach .telemetry 0 (fun s => s.seti .TEL_TEMP_MAX (s.geti .TEL_TEMP_NOW 0 i) 0 i)))

/-! ## Fences (R395-R398) -/

/-- The fence units of each class (R62). -/
def fenceUnits (k : Nat) : Nat := [0, 64, 64, 4, 36, 4, 6, 8, 4, 64].getD k 0

/-- Does the image in force use the unit (R396)? -/
def State.fenceUsed (s : State) (k i : Nat) : Bool :=
  match k with
  | 1 => s.uses .headPort i
  | 2 => s.uses .tun i
  | 3 => s.uses .codec i
  | 4 => s.uses .wortLane i
  | 5 => s.uses .wortPort i
  | 6 => s.uses .ddr i
  | 7 => s.uses .camera i
  | 8 => s.uses .motion 0 && s.axUsed i
  | 9 => s.uses .sightGlass 0
  | _ => false

/-- Check 5 of FENCE_SET and FENCE_LIFT. -/
def State.fenceRange (s : State) (d : Desc) : Bool :=
  decide (d.p 0x11 1 < fenceUnits (d.p 0x10 1)) && s.fenceUsed (d.p 0x10 1) (d.p 0x11 1)

/-- A unit fenced at the request of host software (R395, R396). -/
def State.fenceUnit (s : State) (k i : Nat) : State :=
  match k with
  | 1 => s.fenceHead i causeSet
  | 2 => s.fenceTun i causeSet
  | 3 => s.fenceCodec i causeSet
  | 4 => s.fenceLane i causeSet
  | 5 => s.fencePort i causeSet
  | 7 => s.fenceCam i causeSet
  | 8 => (s.recordFence 8 i causeSet).hardStop i stFenced
  | 9 => s.fenceSense i causeSet
  | _ => s

/-- May a DDR channel be evacuated (R378, R396)? -/
def State.evacOk (s : State) (i : Nat) : Bool :=
  decide (0 < s.dmap.spare) && s.dmap.list.contains i && s.rehomed.isNone &&
  (List.range 6).all (fun k => k == i || s.get .DDR_STATUS_STATE k != ddrEvac) && s.ddrServes i

/-- FENCE_SET (R378, R396): RESULT 0 newly fenced, 1 already fenced, 2 an evacuation has started. -/
def execFenceSet (d : Desc) (s : State) : Res State :=
  let k := d.p 0x10 1
  let i := d.p 0x11 1
  .next (s.submit d
    { opcode := 0x0801, long := false, used := [(0x10, 1), (0x11, 1)], range := s.fenceRange d,
      state := if k = 6 ∧ !s.evacOk i ∧ !(s.fenced 6 i ∧ 0 < s.dmap.spare ∧ s.rehomed.all (· == i)) then stBadState else 0 }
    (fun h s =>
      if k = 6 ∧ !s.fenced 6 i then
        let s := if s.get .DDR_STATUS_STATE i = ddrEvac then s
          else ((s.set .DDR_STATUS_STATE ddrEvac i).set .SPG_STATUS_PASS_PCT 0 i).setDdr i
            { s.ddr i with evac := some s.now, spg := 0, copied := 0, healed := [] }
        s.done h 2
      else if s.fenced k i then s.done h 1
      else (s.fenceUnit k i).done h 0))

/-- The domain of a fence unit, as its block has it. -/
def State.fencePowered (s : State) (k i : Nat) : Bool :=
  match k with
  | 1 | 2 => s.powered i
  | 3 => s.powered (118 + i)
  | 4 => s.powered (64 + i)
  | 5 => s.powered (72 + 9 * i)
  | 7 => s.powered (106 + i)
  | 8 => s.powered 124
  | 9 => s.powered 123
  | _ => false

/-- The recovery step of each class (R395). A channel that nothing bars any more takes part again: after a codec's fence from the next page
(R156), else from the first one none of whose blocks has arrived (R175). -/
def State.liftUnit (s : State) (k i : Nat) : State :=
  let was := (List.range 64).filter s.barred
  let s := s.recordLift k i
  let s := match k with
    | 1 => s.set .SG_VIOL_RUN 0 0 i
    | 2 =>
      let s := s.setChan i { s.chan i with fromPage := (s.chan i).lastFirst }
      (((s.loadTun i false).loadTables i (s.screenNext i)).rebuildGravity i (s.screenNext i)).rewriteSame 2
    | 4 =>
      if s.wortUp (i / 9) then s.set .WL_LANE_STATUS_STAGE 2 i
      else if s.wortOn (i / 9) then s.set .WL_LANE_STATUS_STAGE 1 i else s
    | 5 => s.wortTrain i 1
    | 8 => s.putB .MOT_STATUS_HELD i false
    | 9 => s.off .SG_VIOL_SENSE_FAULT 0 i
    | _ => s
  (was.foldl (fun s c => if s.barred c then s else if k = 3 then s.rejoin c s.seq.next 0 else s.rejoinPage c) s).noteCoverage

/-- The line from which a unit takes part again, 0 where it is not tied to lines or no such page is known yet (R397). -/
def State.liftLine (s : State) (k i : Nat) : Nat :=
  if k = 1 ∨ k = 2 then
    match s.joinLine i with
    | some y => y % 2 ^ 32
    | none => 0
  else 0

/-- FENCE_LIFT (R397, R398): `ok` tells whether the recovery step of the unit succeeds; that of a head channel cannot while two DDR channels of
the map are down (R379). -/
def execFenceLift (d : Desc) (ok : Bool) (s : State) : Res State :=
  let k := d.p 0x10 1
  let i := d.p 0x11 1
  .next (s.submit d
    { opcode := 0x0802, long := true, used := [(0x10, 1), (0x11, 1)], range := s.fenceRange d,
      state := if !s.fenced k i || k == 6 || !s.fencePowered k i then stBadState else 0 }
    (fun h s =>
      if !ok || (k == 1 && s.twoDown) then s.finish h stCheckFailed 0 (s.get .FENCE_LAST_CAUSE)
      else
        let s := s.liftUnit k i
        s.done h (s.liftLine k i)))

/-- FENCE_LAST_CLR (R396). -/
def execFenceLastClr (s : State) : Res State :=
  .next (s.reach .fence 0 (fun s => s.clear [.FENCE_LAST_CLASS, .FENCE_LAST_INDEX, .FENCE_LAST_CAUSE]))

end Sys2Proof.Machine
end

