-- ==== Sys2Proof/Machine/Viewport.lean ====
section
/-! DEFINITION. The operator viewport (R423-R430): its shadows, timing, transfers and panel commands. -/

namespace Sys2Proof.Machine

/-- Bytes per pixel. -/
def pixelBytes (fmt : Nat) : Nat := if fmt = 0 then 3 else 2

/-- ERR of a COMMIT of the shadows as they stand, 0 if they pass (R426). -/
def State.vpErr (s : State) : Nat :=
  let hact := s.get .VP_H_TIMING_HACTIVE
  let vact := s.get .VP_V_TIMING_VACTIVE
  let vfp := s.get .VP_V_TIMING_VFP
  let fixed := vact + s.get .VP_V_TIMING_VSYNC + s.get .VP_V_TIMING_VBP
  let htotal := hact + s.get .VP_H_TIMING_HFP + s.get .VP_H_TIMING_HSYNC + s.get .VP_H_TIMING_HBP
  let vmax := s.get .VP_VFP_MAX_LINES
  let pclk := s.get .VP_LINK_PCLK
  let lanes := s.get .VP_LINK_LANES
  let mbps := 10 * s.get .VP_LINK_LANE_MBPS_10
  let px := pixelBytes (s.get .VP_CTRL_FORMAT)
  let base := s.get .VP_FB_BASE_ADDR
  let stride := s.get .VP_FB_STRIDE_BYTES
  let fields := [hact, s.get .VP_H_TIMING_HFP, s.get .VP_H_TIMING_HSYNC, s.get .VP_H_TIMING_HBP, vact, vfp, s.get .VP_V_TIMING_VSYNC,
    s.get .VP_V_TIMING_VBP, pclk, lanes, vmax]
  if fields.any (· == 0) then stBadZero
  else if hact ≤ 1920 ∧ vact ≤ 1200 ∧ 10000 ≤ pclk ∧ pclk ≤ 200000 ∧ (lanes = 1 ∨ lanes = 2 ∨ lanes = 4) ∧ 80 ≤ mbps ∧ mbps ≤ 2500 ∧
    vfp ≤ vmax ∧ fixed + vmax ≤ 4095 ∧ pclk * 1000 ≤ 61 * htotal * (fixed + vfp) ∧ pclk * (8 * px) * 115 ≤ lanes * mbps * 100000 ∧
    base % 4096 = 0 ∧ stride % 64 = 0 ∧ hact * px ≤ stride ∧ base + stride * vact ≤ s.dmap.size then 0
  else stBadRange

/-- The shadows as values to come into force. -/
def State.vpShadow (s : State) : VpCfg :=
  { en := s.is .VP_CTRL_EN, mode := s.is .VP_CTRL_MODE, fmt := s.is .VP_CTRL_FORMAT, still := s.get .VP_CTRL_STATIC_FRAMES,
    base := s.get .VP_FB_BASE_ADDR, stride := s.get .VP_FB_STRIDE_BYTES, hact := s.get .VP_H_TIMING_HACTIVE,
    htotal := s.get .VP_H_TIMING_HACTIVE + s.get .VP_H_TIMING_HFP + s.get .VP_H_TIMING_HSYNC + s.get .VP_H_TIMING_HBP,
    vact := s.get .VP_V_TIMING_VACTIVE, vfp := s.get .VP_V_TIMING_VFP,
    vrest := s.get .VP_V_TIMING_VSYNC + s.get .VP_V_TIMING_VBP, vfpMax := s.get .VP_VFP_MAX_LINES, pclk := s.get .VP_LINK_PCLK,
    lanes := s.get .VP_LINK_LANES, tePol := s.is .VP_LINK_TE_POL, mbps := 10 * s.get .VP_LINK_LANE_MBPS_10 }

/-- Does the link send video, and does it run in command mode? -/
def State.vpVideo (s : State) : Bool := s.vp.cfg.en && !s.vp.cfg.mode
def State.vpCommand (s : State) : Bool := s.vp.cfg.en && s.vp.cfg.mode

/-- The shadows come into force (R427). A change of mode, lane count or lane rate restarts the link, and with it the frame. -/
def State.vpCapture (s : State) : State :=
  let old := s.vp.cfg
  let new := s.vpShadow
  let restart := old.en != new.en || old.mode != new.mode || old.lanes != new.lanes || old.mbps != new.mbps
  let s := { s with vp := { s.vp with cfg := new, line := if restart then 0 else new.vact, porch := 0, late := false,
                                      due := new.en && new.mode, refresh := s.vp.refresh && new.en && new.mode } }
  let s := ((s.off .VP_STATUS_PENDING).bump .VP_COUNTS_COMMITS).set .VP_STATUS_RUNNING (b2n s.vpVideo)
  if restart then s.off .VP_STATUS_EXTENDED |>.out (.bus "dsiRestart" [b2n new.en, b2n new.mode, new.lanes, new.mbps]) else s

/-- VP_CTRL.COMMIT written (R426, R427): refused under its checks, or pending; one written in vertical blanking waits for the next. -/
def State.vpCommit (s : State) : State :=
  let e := s.vpErr
  if e ≠ 0 then (s.set .VP_STATUS_ERR e).off .VP_STATUS_PENDING
  else
    let late := s.vpVideo && decide (s.vp.cfg.vact ≤ s.vp.line) && (s.vp.late || !s.is .VP_STATUS_PENDING)
    State.on { s with vp := { s.vp with late := late, touched := true, due := s.vp.due || s.vpCommand } } .VP_STATUS_PENDING

/-- VP_COMMIT (R426). -/
def execVpCommit (s : State) : Res State := .next (s.reach .viewport 0 State.vpCommit)

/-- VP_SHADOW_CAPTURE (R427): at the start of vertical blanking in video mode; at once while the link is disabled. -/
def execVpShadowCapture (s : State) : Res State :=
  .next (s.when (s.powered 128 && s.is .VP_STATUS_PENDING &&
    (!s.vp.cfg.en || (s.vpVideo && s.vp.line == s.vp.cfg.vact && s.vp.porch == 0 && !s.vp.late))) State.vpCapture)

/-! ## Panel commands (R430) -/

/-- A panel command sent. -/
def State.vpPanel (s : State) : State :=
  match s.vp.cmd with
  | none => s
  | some (dt, bs) => (State.off { s with vp := { s.vp with cmd := none } } .VP_CMD_CTRL_BUSY).out (.bus "dsiCommand" (dt :: bs.map BitVec.toNat))

/-- VP_CMD_CTRL.SEND written (R430): ignored while BUSY, and for a data type or length that is not supported (log entry 79). -/
def State.vpSend (s : State) : State :=
  let dt := s.get .VP_CMD_CTRL_DT
  let len := s.get .VP_CMD_CTRL_LEN
  if s.is .VP_CMD_CTRL_BUSY || !([0x05, 0x15, 0x39, 0x29].contains dt) || decide (16 < len) then s.on .VP_STATUS_CMD_ERR
  else
    let bs := ((List.range 4).flatMap (fun w => leBytes 4 (s.get .VP_CMD_DATA_BYTES 0 w))).take len
    let s := State.on { s with vp := { s.vp with cmd := some (dt, bs) } } .VP_CMD_CTRL_BUSY
    if s.vpVideo then s else s.vpPanel

/-- VP_CMD_SEND (R430). -/
def execVpCmdSend (s : State) : Res State := .next (s.reach .viewport 0 State.vpSend)

/-! ## Video mode (R424, R425, R429) -/

/-- The bytes of active line `k` of the frame buffer, and whether a burst of them reads poisoned (R424, R425). -/
def State.vpPixels (s : State) (k : Nat) : List Byte × Bool :=
  let c := s.vp.cfg
  let a := c.base + k * c.stride
  let n := c.hact * pixelBytes (b2n c.fmt)
  (Memory.rds s.dram a n, s.dramPoisoned a n)

/-- An active line sent; a poisoned burst turns the rest of it black and counts it (R425). -/
def State.vpSendLine (s : State) (k : Nat) : State :=
  let p := s.vpPixels k
  let s := s.dramTouch (s.vp.cfg.base + k * s.vp.cfg.stride) (s.vp.cfg.hact * pixelBytes (b2n s.vp.cfg.fmt)) false
  let s := if p.2 && !s.vp.black then s.bump .VP_COUNTS_UNDERRUN else s
  State.out { s with vp := { s.vp with black := false } } (.bus "dsiLine" [k, b2n (p.2 || s.vp.black), leNat p.1])

/-- May the front porch be extended: STATIC_FRAMES frames without a change (R429)? -/
def State.vpStatic (s : State) : Bool :=
  let c := s.vp.cfg
  s.vpVideo && decide (0 < c.still ∧ c.still ≤ s.vp.quiet) && !s.vp.touched

/-- VP_VIDEO_LINE (R424, R427, R429): the line about to be sent is sent: an active line, a line of front porch, or one of sync and back
porch. -/
def execVpVideoLine (s : State) : Res State :=
  .next (s.when (s.powered 128 && s.vpVideo) (fun s =>
    let c := s.vp.cfg
    let k := s.vp.line
    if k < c.vact then
      let s := s.vpSendLine k
      let s := { s with vp := { s.vp with line := k + 1, porch := 0 } }
      if k + 1 = c.vact then s.vpPanel else s
    else if k = c.vact then
      let s := if s.vp.porch = 0 ∧ s.is .VP_STATUS_PENDING ∧ !s.vp.late then s.vpCapture else s
      if s.vp.line ≠ s.vp.cfg.vact then s
      else
        let c := s.vp.cfg
        let n := s.vp.porch + 1
        let s := if c.vfp ≤ n ∧ s.vpStatic then s.on .VP_STATUS_EXTENDED else s
        let ends := if s.is .VP_STATUS_EXTENDED then decide (c.vfpMax ≤ n ∨ (s.vp.touched ∧ c.vfp ≤ n)) else decide (c.vfp ≤ n)
        { s with vp := { s.vp with porch := n, line := if ends then k + 1 else k } }
    else if k < c.vact + c.vrest then { s with vp := { s.vp with line := k + 1 } }
    else
      State.off { s with vp := { s.vp with line := 0, porch := 0, late := false, touched := false,
                                           quiet := if s.vp.touched then 0 else min (s.vp.quiet + 1) 255 } } .VP_STATUS_EXTENDED))

/-- STATIC_BLANK_EXTEND (R429): the front porch is lengthened. -/
def execStaticBlankExtend (s : State) : Res State :=
  .next (s.when (s.powered 128 && s.vpStatic && s.vp.line == s.vp.cfg.vact) (fun s => s.on .VP_STATUS_EXTENDED))

/-- VP_LINE_UNDERRUN (R425): the data of the line being sent has not arrived. -/
def execVpLineUnderrun (s : State) : Res State :=
  .next (s.when (s.powered 128 && s.vp.cfg.en && !s.vp.black) (fun s =>
    State.bump { s with vp := { s.vp with black := s.vpVideo } } .VP_COUNTS_UNDERRUN))

/-! ## Command mode (R428) -/

/-- A transfer: a COMMIT comes into force first, then every line is read and sent (log entry 17). -/
def State.vpTransfer (s : State) : State :=
  let s := if s.is .VP_STATUS_PENDING then s.vpCapture else s
  if !s.vpCommand then s
  else State.each { s with vp := { s.vp with due := false, touched := false, refresh := false } } s.vp.cfg.vact State.vpSendLine

/-- VP_CTRL.REFRESH written (R428). -/
def State.vpRefresh (s : State) : State :=
  if s.vpCommand then { s with vp := { s.vp with due := true, refresh := true } } else s

/-- VP_REFRESH (R428). -/
def execVpRefresh (s : State) : Res State := .next (s.reach .viewport 0 State.vpRefresh)

/-- TE_IN_EDGE (R428): the edge that TE_POL selects starts a pending transfer. -/
def execTeInEdge (rising : Bool) (s : State) : Res State :=
  .next (s.when (s.powered 128 && s.vpCommand && s.vp.due && rising != s.vp.cfg.tePol) State.vpTransfer)

/-- TE_TIMEOUT (R428): 100 ms of a pending transfer have passed without an edge. -/
def execTeTimeout (s : State) : Res State :=
  .next (s.when (s.powered 128 && s.vpCommand && s.vp.due) (fun s => s.vpTransfer.bump .VP_COUNTS_NO_TE))

/-- VP_COUNTS_CLR (R428). -/
def execVpCountsClr (s : State) : Res State :=
  .next (s.reach .viewport 0 (fun s => s.clear [.VP_COUNTS_UNDERRUN, .VP_COUNTS_NO_TE, .VP_COUNTS_COMMITS]))

end Sys2Proof.Machine
end

