-- ==== Sys2Proof/Machine/Apply.lean ====
section
/-! DEFINITION. Bringing sections into force: what writing a section into its block does, the stages of a change set, gaps and web
stops, pauses, and the completion of a set (R57, R76, R90-R97, R176, R196). -/

namespace Sys2Proof.Machine

/-! ## One section -/

/-- The domain of the block that a section configures, none in PD_AON or where several blocks take part (R19, R74). -/
def sectDomain (t i : Nat) : Option Nat :=
  match t with
  | 0x0013 | 0x0020 | 0x0021 | 0x0030 | 0x0031 => some i
  | 0x0032 | 0x0050 | 0x0051 => some 124
  | 0x0040 => some (106 + i)
  | 0x0041 => some (114 + i)
  | 0x0042 => some 122
  | 0x0043 => some 123
  | 0x0053 => some 125
  | _ => none

/-- A FIRE_SETUP payload with the strobe width that a FIRE_COMMIT has put in its place (R212, R215). -/
def State.strobed (s : State) (b : List Byte) : List Byte :=
  match s.seq.setups.head? with
  | some e => b.take 4 ++ leBytes 2 e.2.strobe ++ b.drop 6
  | none => b

/-- What the sections in force come to, the sealed Kiln's payload standing for its section (R82) and the strobe in force for that of
FIRE_SETUP (R215). -/
def State.effNow (s : State) : Eff := fun t i =>
  if t = 0x0060 then s.kiln.map Seal.payload
  else (findSect s.sects t i).map (fun z => if t = 0x0032 then s.strobed z.bytes else z.bytes)

/-- Every structure in DRAM emptied when a full commit changes a map in force (R365). -/
def State.emptyDram (s : State) : State :=
  { s with dram := [], poison := [], extents := [], shots := [], archive := {},
           heads := s.heads.map (fun (e : Nat × HeadRec) => (e.1, { id := e.2.id, since := e.2.since.map (fun _ => s.now) })),
           chans := s.chans.map (fun (e : Nat × Chan) =>
             (e.1, { e.2 with intake := [], credit := 0, reported := false, released := [], stage := [], lead := [], tail := [] })) }

/-- A channel's port enabled by its first HEAD_GEOM; under the test clock every head port stays in its reset state (R46, R216). -/
def State.enablePort (s : State) (c : Nat) : State :=
  if s.is .FIRE_CH_STATUS_ENABLED c || !s.portsRun then s else s.enableChannel c

/-- The section of a type and index, just put among those in force in place of `old`, written into its block, to hold from line `y` on
(R74, R87, R90). A block whose domain is off keeps the stored copy only; a fenced tun takes it up when its fence is lifted (R96). -/
def State.enact (s : State) (t i y : Nat) (old : List Byte) : State :=
  let b := s.sect t i
  if !((sectDomain t i).map s.powered).getD true then s
  else match t with
  | 0x0012 => (if !old.isEmpty && !ddrMapSame b old then s.emptyDram else s).showSlots
  | 0x0013 => s.applyReservoir i b
  | 0x0020 | 0x0021 => if s.fenced 2 i then s else s.loadTun i false
  | 0x0030 => ((s.dropCalib i).applyGeom i b).enablePort i
  | 0x0031 => if s.fenced 2 i then s else (s.loadTables i y).rebuildGravity i y
  | 0x0032 => s.applyFireSetup y b
  | 0x0040 => s.applyCamera i
  | 0x0041 => s.applyIsp i
  | 0x0042 => s.applyGrav old
  | 0x0043 => s.applySg old
  | 0x0051 => s.applyEncoder b
  | 0x0052 => s.applyWort old
  | 0x0053 => s.applyTimeNet b
  | _ => s

/-- Sections of a list in the order of their types. -/
def byType (l : List Sect) : List Sect :=
  [0x0001, 0x0002, 0x0010, 0x0011, 0x0012, 0x0013, 0x0030, 0x0032, 0x0020, 0x0021, 0x0031, 0x0040, 0x0041, 0x0043, 0x0050, 0x0051, 0x0042,
   0x0052, 0x0053].flatMap (fun t => l.filter (fun x => x.type == t))

/-- The sections in force whose block lies in domain `n`. -/
def State.sectsOf (s : State) (n : Nat) : List Sect :=
  (byType s.sects).filter (fun x => (sectDomain x.type x.index == some n && x.type != 0x0021) ||
    (x.type == 0x0052 && (List.range 4).any (fun p => n == 72 + 9 * p)))

/-- The sections whose block lies in domain `n` reloaded when the domain has been powered up (R57). -/
def State.reloadDomain (s : State) (n : Nat) : State :=
  (s.sectsOf n).foldl (fun s x =>
    if x.type = 0x0052 then
      let p := (n - 72) / 9
      if s.wortOn p && !s.fenced 5 p then s.wortTrain p 1 else s
    else if x.type = 0x0042 then s.applyGrav []
    else s.enact x.type x.index (if x.type = 0x0031 then s.screenNext x.index else s.seq.next) []) s

/-! ## Staged images -/

/-- The staged image of a handle; handle 0 is the boot image's. -/
def State.stagedOf (s : State) (h : Nat) : Option Staged := s.staged.find? (fun x => x.handle == h)

/-- A staged image released: its staging slot and the slot of its handle are freed (R109). -/
def State.releaseStaged (s : State) (h : Nat) : State :=
  let s := { s with staged := s.staged.filter (fun x => x.handle != h) }
  if s.live h then s.freeSlot (handleSlot h) else s

/-- The MASH_COMMIT that waits for a full image of this handle. -/
def State.commitOpOf (s : State) (h : Nat) : Nat :=
  match s.slots.find? (fun e => e.2.inUse && e.2.opcode == 0x0102 && !e.2.final && fieldAt e.2.param 0 4 == h) with
  | some e => mkHandle e.2.gen e.1
  | none => 0

/-- The shadow of every channel whose change set is gone discarded (R196); the next set's is prepared. -/
def State.dropShadows (s : State) : State :=
  s.prepShadows

/-- A change set dropped: nothing of it comes into force and its slot is freed; a set that spans devices is dropped on all of them (R34, R91). -/
def State.dropAs (s : State) (x : ChangeSet) (status : Nat) : State :=
  let s := { s with sets := s.sets.filter (fun y => y.handle != x.handle) }
  let s := if x.others.isEmpty || !s.activeManager then s else s.out (.wort "changeSetDropped" (x.handle :: x.others))
  ((s.finish x.commitOp status).releaseStaged x.handle).dropShadows

/-- A change set completes NOT_APPLIED (R91). -/
def State.dropSet (s : State) (x : ChangeSet) : State := s.dropAs x stNotApplied

/-- Would the sealed Kiln refuse the image's KILN section (R82)? -/
def State.kilnRefuses (s : State) (l : List Sect) : Bool :=
  match s.kiln, findSect l 0x0060 0 with
  | some k, some x => digestId (sha384 x.bytes) != k.digest || x.bytes != k.payload
  | _, _ => false

/-! ## Recording a switch -/

/-- Sections of a set recorded as switched. -/
def State.recordSwitch (s : State) (handle : Nat) (keys : List Nat) : State :=
  { s with sets := s.sets.map (fun (x : ChangeSet) => if x.handle = handle then { x with applied := keys ++ x.applied } else x) }

/-- Does the set's KILN section differ from the payload sealed, or from the one that an earlier set with a final line will seal (R82)? -/
def State.kilnClash (s : State) (x : ChangeSet) : Bool :=
  s.kilnRefuses x.image.sects ||
  (match findSect x.image.sects 0x0060 0 with
   | some z => s.kiln.isNone && (s.sets.takeWhile (fun w => w.handle != x.handle)).any (fun w =>
       w.line.isSome && ((findSect w.image.sects 0x0060 0).map Sect.bytes).any (· != z.bytes))
   | none => false)

/-- The composites that other devices have once a set is in force, as their answers say (R342). -/
def State.setAfter (s : State) (handle : Nat) (l : List (Nat × Nat)) : State :=
  { s with sets := s.sets.map (fun (x : ChangeSet) => if x.handle = handle then { x with after := l } else x) }

/-- The choice of a set's line made final, with the rule that chose it (R91). A set whose KILN section the Kiln, sealed since or to be sealed
before it, refuses is refused whole with BAD_STATE while nothing of it is in force (R82, log entry 127). -/
def State.finalLine (s : State) (handle y rule : Nat) : State :=
  match s.sets.find? (fun x => x.handle == handle && x.line.isNone) with
  | none => s
  | some x =>
    if s.kilnClash x then
      let s := (s.set .MASH_ERR_STATUS stBadState).set .MASH_ERR_CHECK 8
      (s.set .MASH_ERR_SECTION ((x.image.sects.findIdx? (fun z => z.type == 0x0060)).getD 0x1FFF)).dropAs x stBadState
    else State.prepShadows { s with sets := s.sets.map (fun (x : ChangeSet) =>
      if x.handle = handle then { x with line := some y, rule := rule, final := true } else x) }

/-- A section of a change set in force from line `y`. -/
def State.bring (s : State) (x : ChangeSet) (z : Sect) (y : Nat) : State :=
  let old := s.sect z.type z.index
  let s := if z.type = 0x0060 then s.sealKiln z.bytes x.image.sealKey
    else State.enact { s with sects := putSect s.sects z } z.type z.index y old
  s.recordSwitch x.handle [sectKey z.type z.index]

/-- BACKSTEP_ASSISTED_APPLY (R92, R244): the web stops so that DEADLINE_LINE − 1 is the last line whose position it reaches, which makes
the choice of that line final. -/
def execBackstepAssistedApply (s : State) : Res State :=
  .next (match s.setLines.find? (fun e => (e.2.map Prod.snd) == some 4 && !e.1.allSwitched) with
  | none => s
  | some e =>
    let d := (e.2.map Prod.fst).getD 0
    s.when (s.is .MOT_STATUS_OWN && s.moving' 0 && s.forward 0 && s.line.live && (s.axis 0).mode == 2 && s.phase == 0 &&
        (e.1.line.isSome || !s.fwAway) && s.lastDue d) (fun s =>
      let s := s.finalLine e.1.handle d 4
      s.when (s.sets.any (fun x => x.handle == e.1.handle)) (fun s =>
        let s := s.planLast d
        State.set { s with line := { s.line with assisted := some d, counted := false, jobStop := false, turn := false } }
          .MOT_STATUS_BS_PHASE 1)))

/-! ## The stages (R90, R91) -/

/-- Has the screen or fire stage a reason to call the line final now: the stage has reached it, or nothing lies between (R91)? -/
def State.reached (s : State) (x : ChangeSet) (y rule : Nat) : Bool :=
  decide (y ≤ s.stageAt x) || rule == 3 || rule == 5 || (rule == 2 && s.gaps.any (fun g => decide (g.1 + g.2 = y ∧ g.1 ≤ s.fireReach)))

/-- The other devices that take part in a set which spans devices: those held are left out of the offers (R34, spec/19_bar_hierarchy.md). -/
def State.concerned (s : State) (x : ChangeSet) : List Nat :=
  x.others.filter (fun i => match s.devs.find? (fun d => d.index == i) with | some d => d.cause == 0 | none => true)

/-- The line the press manager sets for a set that spans devices (R34, R95): the highest of the lines offered, this device's own among them;
where a device cannot meet it, the first line after a page gap above it; where one of them offers none, DEADLINE_LINE if the host asked for a
backstep. -/
def State.commonLine (s : State) (x : ChangeSet) (floor : Nat) (offers : List (Option Nat)) : Option (Nat × Nat) :=
  let backstep := (s.canMeet x floor x.deadline).bind (fun r => if x.bsOk then some (x.deadline, r) else none)
  match s.chooseLine x floor, offers.all Option.isSome && offers.length == (s.concerned x).length with
  | some c, true =>
    let y := maxOfLines offers c.1
    match s.canMeet x floor y with
    | some r => some (y, r)
    | none =>
      match ((s.gapEnds x).filter (fun g => decide (y ≤ g ∧ g ≤ x.deadline))).min? with
      | some g => some (g, 2)
      | none => backstep
  | _, _ => backstep
where maxOfLines (l : List (Option Nat)) (n : Nat) : Nat := l.foldl (fun m o => max m (o.getD 0)) n

/-- COMMIT_LINE_FINAL (R91): the first stage concerned reaches the line chosen for the first set whose choice is still open. For a set that
spans devices (R34, R95) the active manager sets the line from the `offers` of the other devices concerned, once they have all answered that
they can apply the set there, each with the composite it will have (`agree`); another device takes the line `given` it, and answers. Firmware does this work, and none of it
is done while firmware is away (R36). -/
def execCommitLineFinal (s : State) (offers : List (Option Nat) := []) (agree : Option (List Nat) := none)
    (given : Option Nat := none) : Res State :=
  .next (s.when (!s.fwAway) (fun s => match s.setFloors.find? (fun e => e.1.line.isNone) with
  | none => s
  | some (x, floor, c) =>
    if x.others.isEmpty then
      match c with
      | none => s
      | some c => s.when (s.reached x c.1 c.2) (fun s => s.finalLine x.handle c.1 c.2)
    else if s.activeManager then
      match s.commonLine x floor offers with
      | none => s
      | some y =>
        match agree with
        | none => s
        | some l => ((s.out (.wort "changeSetLine" (y.1 :: s.concerned x))).setAfter x.handle ((s.concerned x).zip l)).finalLine x.handle y.1 y.2
    else
      match given with
      | none => s.out (.wort "changeSetOffer" (match s.chooseLine x floor with | some y => [1, y.1] | none => [0]))
      | some y =>
        match s.canMeet x floor y with
        | some r =>
          let s := s.finalLine x.handle y r
          s.out (.wort "changeSetVerdict" [1, y, s.compositeAt y])
        | none => s.out (.wort "changeSetVerdict" [0, y])))

/-- The first set with a final line that still has to switch the section. -/
def State.switchSet (s : State) (t i : Nat) : Option (ChangeSet × Sect × Nat) :=
  (s.sets.filterMap (fun x => match x.line, findSect x.image.sects t i with
    | some y, some z => if x.switched z then none else some (x, z, y)
    | _, _ => none)).head?

/-- Has the fire stage of channel `c` no line below `y` left? -/
def State.doneBelow (s : State) (c y : Nat) : Bool := (s.chan c).grant.all (fun l => decide (y ≤ l.no))

/-- The screen stage's switch to a set's SCR_TABLES (R96, R194, R196): its shadow becomes the generation in force. Of sets with the same
line the last one's section prevails (R95). -/
def State.switchTables (s : State) (x : ChangeSet) (y t : Nat) : State :=
  let same := s.sets.filter (fun z => z.line == x.line && z.has 0x0031 t && !z.applied.contains (sectKey 0x0031 t))
  let last := same.getLast?.getD x
  match findSect last.image.sects 0x0031 t with
  | none => s
  | some z =>
    let done := fun (s : State) => same.foldl (fun s w => s.recordSwitch w.handle [sectKey 0x0031 t]) s
    if !s.powered t || s.fenced 2 t then done { s with sects := putSect s.sects z }
    else
      let s := s.prepShadow t
      if (s.chan t).pendGen = some true then
        let at_ := max y (s.screenNext t)
        let s := ({ s with sects := putSect s.sects z } : State).switchGen t at_
        done (s.rebuildGravity t at_)
      else s

/-- May a section of an AUX type pause its pipeline, and its pause (R90, R270)? -/
def State.auxPause (s : State) (t i : Nat) : State :=
  match t with
  | 0x0040 => s.pausePipe (s.cf i 3 1 % 4)
  | 0x0041 => s.pausePipe i
  | 0x0042 => s.on .GRAV_STATUS_PAUSED
  | 0x0043 => s.on .SG_STATUS_PAUSED
  | _ => s

/-- CHANGE_SET_STAGE_SWITCH (R90, R96): the stage of a SWAP or AUX section reaches the commit line; tables that come with a new program of
the same tun are written by its load (R193). For a tun that is fenced or off, whose screen stage stands still, the line is reached when
firing reaches it (log entry 126). -/
def execChangeSetStageSwitch (type index : Nat) (s : State) : Res State :=
  .next (match s.switchSet type index with
  | none => s
  | some (x, z, y) =>
    let stop := decide (3 ≤ x.rule) && s.axStopped
    match sectClass type with
    | .swap =>
      if type = 0x0031 then
        let idle := !s.powered index || s.fenced 2 index
        s.when ((!x.withProg index || idle) && (stop || decide (y ≤ if idle then s.fireReach else s.screenAt index)))
          (fun s => s.switchTables x y index)
      else s.when ((stop || decide (y ≤ s.fireReach)) && (type != 0x0030 || s.doneBelow index y)) (fun s => s.bring x z y)
    | .aux => s.when (stop || decide (y ≤ s.fireReach)) (fun s =>
        let s := if ((sectDomain type index).map s.powered).getD true then s.auxPause type index else s
        s.bring x z y)
    | .pause => s.when ((!s.powered index || s.fenced 2 index) && (stop || decide (y ≤ s.fireReach))) (fun s => s.bring x z y)
    | _ => s)

/-- AUX_PAUSE_END (R90): unit 0-3 ISP pipe, 4 the gravity loop, 5 the Sight Glass. -/
def execAuxPauseEnd (unit : Nat) (s : State) : Res State :=
  .next (match unit with
  | 4 => s.off .GRAV_STATUS_PAUSED
  | 5 => s.off .SG_STATUS_PAUSED
  | i => s.when (decide (i < 4)) (fun s => s.off .ISP_STATUS_PAUSED i))

/-- Is no line in flight at the fire stage (R90)? -/
def State.noLine (s : State) : Bool := s.chans.all (fun e => e.2.firing.isNone && e.2.preps.isEmpty && e.2.due.isEmpty)

/-- May a GAP or STOP section of a set whose line is `y` by this rule be applied now: in the page gap that ends there, or at a web stop
with `y` the next line to fire (R90-R93)? -/
def State.gapOpen (s : State) (stop : Bool) (y rule : Nat) : Bool :=
  if rule = 2 then
    !stop && s.noLine && s.gaps.any (fun g => decide (g.1 + g.2 = y ∧ g.1 ≤ s.seq.next ∧ s.seq.next ≤ y))
  else s.axStopped && s.noLine && (rule == 5 || decide (s.seq.next = y))

/-- A LAYOUT or POWER section takes effect with the set (R94); the other GAP and STOP sections are written into their blocks at once. -/
def execGapSectionApply (type index : Nat) (s : State) : Res State :=
  let c := sectClass type
  .next (s.when (c == .gap || c == .stop) (fun s =>
    match s.setLines.find? (fun e => e.1.has type index && !e.1.applied.contains (sectKey type index)) with
    | some (x, some (y, r)) =>
      match findSect x.image.sects type index with
      | some z => s.when (s.gapOpen (c == .stop) y r && (x.line.isSome || !s.fwAway)) (fun s =>
          let s := s.finalLine x.handle y r
          if s.sets.any (fun w => w.handle == x.handle) then s.bring x z y else s)
      | none => s
    | _ => s))

/-! ## A pause: TUN_PROG and TUN_SRAM (R176, R177) -/

/-- Blocks not yet released, those partly screened among them, are decoded again from the intake queue (R154, R176). -/
def State.decodeAgain (s : State) (t : Nat) : State :=
  let c := s.chan t
  s.setChan t { c with released := [], intake := c.intake.map (fun (b : QBlock) =>
    if b.passed then { b with passed := false, moved := false, lane := 0, samples := [] } else b) }

/-- TUN_PROG_LOAD_DONE (R176 steps 2-4): earlier slices have ended and drained, the new images and records are in place, tables that come
with the program are written (R164, R193), and the engines restart with the commit line. `late` says that the pause outlasted QUIESCE_US
(R177). -/
def execTunProgLoadDone (t : Nat) (late : Bool) (s : State) : Res State :=
  .next (match s.pauseSet t with
  | none => s
  | some (x, y) => s.when (decide (t < 64 ∧ (s.chan t).pauseStep = 1) && (s.chan t).stage.isEmpty &&
        (List.range 16).all (fun m => !(s.eng t m).running)) (fun s =>
      let prog := x.image.sects.filter (fun z => z.progOf t)
      let tabs := x.image.sects.filter (fun z => z.type == 0x0031 && z.index == t && x.withProg t)
      let old := (s.regionBase t regCarry, s.regionSize t regCarry)
      let dec := (s.regionBase t regDecode, s.regionSize t regDecode)
      let s := State.recordSwitch { s with sects := (prog ++ tabs).foldl putSect s.sects } x.handle
        ((prog ++ tabs).map (fun z => sectKey z.type z.index))
      let carry := (s.regionBase t regCarry, s.regionSize t regCarry)
      let keep := carry == old && !(recordsOf (s.sect 0x0021 t)).any (fun r =>
        r.1 == 0 && !r.2.2.isEmpty && decide (r.2.1 < carry.1 + carry.2 ∧ carry.1 < r.2.1 + r.2.2.length))
      let s := s.loadTun t keep
      let s := if (s.regionBase t regDecode, s.regionSize t regDecode) = dec then s else s.decodeAgain t
      let s := if tabs.isEmpty then s else (s.loadTables t y).rebuildGravity t y
      let s := s.setChan t { s.chan t with pause := none, pauseStep := 0 }
      let s := (s.off .TUN_STATUS_PAUSED t).bump .TUN_PAUSE_COUNT 1 t
      if late then s.bump .TUN_PAUSE_OVER 1 t else s))

end Sys2Proof.Machine
end

