-- ==== Sys2Proof/Machine/Power.lean ====
section
/-! DEFINITION. Domain power switching and the power states (R54-R59, R380, R381). -/

namespace Sys2Proof.Machine

/-! ## Which blocks a domain holds (R19, R55, R62) -/

/-- The block instances that lie in domain `n`. -/
def domainBlocks (n : Nat) : List (Block × Nat) :=
  (Block.all.flatMap (fun b => (List.range b.instances).map (fun i => (b, i)))).filter (fun e => (e.1.domains e.2).contains n)

/-- Does the structure in force, once the rewrites due are made, use a block instance? -/
def State.usesNow (s : State) (b : Block) (i : Nat) : Bool :=
  match s.gristDue.getLast? with
  | some r => r.entries.any (fun e => e.block == b && e.inst == i)
  | none => s.uses b i

/-- Is domain `n` kept on by a block that the loaded image uses and that is not fenced (R55)? A block without fence units shares the fate
of the fenced blocks beside it, and alone it keeps its domain on. -/
def State.domainInUse (s : State) (n : Nat) : Bool :=
  let used := (domainBlocks n).filter (fun e => s.usesNow e.1 e.2)
  let units := used.filter (fun e => (e.1.fenceUnits e.2).1 != 0)
  s.fullImage.isSome && !used.isEmpty && (units.isEmpty || units.any (fun e => !s.blockFenced e.1 e.2))

/-- Is a request to switch domain `n` off refused (R55)? -/
def State.offRefused (s : State) (n : Nat) : Bool :=
  [126, 130, 131].contains n || s.domainInUse n || (n == 124 && (bit (s.get .MOT_STATUS_MOVING) 0 || s.trio.pulling))

/-- A request for one domain (R55, R56): on, or off unless refused. -/
def State.requestDomain (s : State) (n : Nat) (on : Bool) : State :=
  let now := bit (s.get .PWR_REQ_ON 0 (n / 32)) (n % 32)
  if on then s.putB .PWR_REQ_ON (n % 32) true 0 (n / 32)
  else if !now && !s.powered n then s
  else if s.offRefused n then
    (s.putB .PWR_ERR_REFUSED (n % 32) true 0 (n / 32)).putB .PWR_REQ_ON (n % 32) true 0 (n / 32)
  else s.putB .PWR_REQ_ON (n % 32) false 0 (n / 32)

/-- A write of PWR_REQn (R55): in PWR_REQ4 only bits 3:0 exist. -/
def State.pwrReq (s : State) (n v : Nat) : State :=
  s.each (if n = 4 then 4 else 32) (fun s i => s.requestDomain (32 * n + i) (bit v i))

/-- PWR_REQ_WRITE (R55). -/
def execPwrReqWrite (n v : Nat) (s : State) : Res State := .next (s.when (decide (n < 5)) (fun s => s.pwrReq n v))

/-! ## The reset of one domain (R11, R57) -/

/-- A channel with its domain reset: what stands in DRAM and what the fire stage keeps stays; blocks not yet released are decoded again. -/
def Chan.reset (c : Chan) : Chan :=
  { intake := c.intake.map (fun (b : QBlock) => { b with passed := false, moved := false, lane := 0, samples := [] }), credit := c.credit,
    reported := c.reported, out := c.out, fromPage := c.fromPage, joinFrom := c.joinFrom, joinLow := c.joinLow, lastFirst := c.lastFirst, lead := c.lead, tail := c.tail,
    taken := c.taken, reached := c.reached, screened := c.screened, discarded := c.discarded, unfired := c.unfired, headId := c.headId }

/-- Does a field keep its value when a reset domain it lies in is reset: sticky, a fuse or a strap (R11, R12)? -/
def FKey.stays (k : FKey) : Bool := k.fld.desc.keep != .dom

/-- The units of domain `n` as a reset leaves them. -/
def State.resetUnits (s : State) (n : Nat) : State :=
  if n < 64 then
    let s := if s.headOn n then s.headPower n false else s
    ({ s with engs := Tab.keep (fun k => k / 16 != n) s.engs } : State).setChan n (s.chan n).reset
  else if n < 100 then (if n % 9 = 0 then { s with wports := Tab.keep (fun k => k != (n - 72) / 9) s.wports } else s)
  else if n < 106 then { s with ddrs := Tab.keep (fun k => k != n - 100) s.ddrs }
  else if n < 114 then { s with cams := Tab.keep (fun k => k != n - 106) s.cams }
  else if n < 118 then s
  else if n < 122 then
    let i := n - 118
    { s with encs := Tab.keep (fun x => x != i) s.encs,
             chans := s.chans.map (fun (e : Nat × Chan) => (e.1, { e.2 with intake := e.2.intake.map (fun (b : QBlock) =>
               if b.inst = i ∧ !b.passed then { b with lane := 0 } else b) })) }
  else match n with
  | 122 => State.clear { (s.rebinds.foldl (fun s r => s.finish r.handle stFenced) s) with gravs := [], rebinds := [] } []
  | 123 =>
    let s := s.each 4 (fun s q => s.disarm q stFenced 0 0)
    { s with senses := [], tss := [], sgEvents := [], busQueue := [], busFwd := [] }
  | 124 =>
    let s := match s.seq.commit with | some (h, _) => s.finish h stNotApplied | none => s
    let s := match s.seq.tested with | some (h, _) => s.finish h stNotApplied | none => s
    { s with seq := {}, axes := [], line := {}, scales := [] }
  | 125 => { s with eths := [] }
  | 127 => { (if s.trio.pulling then s.releaseOwn else s) with trio := {} }
  | 128 => { s with vp := {} }
  | 129 => { s with usb := {}, ep1 := [] }
  | _ => s

/-- The balls of a domain in reset at rest on their pulls (R49): single-ended balls high, differential pairs at differential high, no strobe
and no step (R50). A FIRE_N or AX_STEP_N value of 0 is no pulse. -/
def restPins (n : Nat) : List Out :=
  if n < 64 then [.pin "FIRE_N" n 0, .pin "HPWR_EN_N" n 1, .pin "HEAD_ID" n 1, .pin "HEAD_DATA" n 1, .pin "HEAD_CLK" n 1]
  else if n = 124 then (List.range 4).flatMap (fun a => [.pin "AX_STEP_N" a 0, .pin "AX_DIR" a 1])
  else if n = 127 then [.pin "STEP_OWN" 0 1]
  else []

/-- Domain `n` in reset: its balls rest (R49). -/
def State.restBalls (s : State) (n : Nat) : State := { s with outbox := (restPins n).reverse ++ s.outbox }

/-- Domain `n` reset: its registers and the latches of them take their reset values (R11), and its balls rest (R49). -/
def State.resetDomain (s : State) (n : Nat) : State :=
  let mine := fun (r : Reg) (i : Nat) => r.desc.rst.domain i == some n
  let s := (s.resetUnits n).restBalls n
  { s with regs := Tab.keep (fun k => !mine k.fld.desc.reg k.inst || k.stays) s.regs,
           hiLatch := Tab.keep (fun k => !mine k.reg k.inst) s.hiLatch, loBuf := Tab.keep (fun k => !mine k.reg k.inst) s.loBuf }

/-- The power bit of a domain. -/
def State.setPower (s : State) (n : Nat) (on : Bool) : State := s.putB .PWR_STATE_ON (n % 32) on 0 (n / 32)

/-- Domain `n` powered up (R56, R57): a DDR channel released trains (R363) unless its fence stands. -/
def State.domainUp (s : State) (n : Nat) : State :=
  let s := (s.resetDomain n).setPower n true
  let s := if 100 ≤ n ∧ n < 106 then s.set .DDR_STATUS_STATE (if s.fenced 6 (n - 100) then ddrFenced else ddrTraining) (n - 100) else s
  (s.reloadDomain n).wortLaneUp n

/-- Domain `n` powered up by itself: where sections belong to it, their reload is a partial reload with a rewrite of its own (R66). -/
def State.domainOn (s : State) (n : Nat) : State :=
  if (s.sectsOf n).isEmpty then s.domainUp n else (s.domainUp n).rewriteSame 2

/-- Domain `n` powered down. -/
def State.domainDown (s : State) (n : Nat) : State := (((s.camerasDown n).wortDown n).resetDomain n).setPower n false

/-- Are the blocks of domain `n` quiescent (R56): no slice runs and no line is in its schedule, no lane decodes, no burst moves, no axis
steps? What R56 leaves open is log entry 113. -/
def State.quiescent (s : State) (n : Nat) : Bool :=
  if n < 64 then (s.chan n).firing.isNone && (List.range 16).all (fun m => !(s.eng n m).running)
  else if 100 ≤ n ∧ n < 106 then s.get .DDR_STATUS_STATE (n - 100) != ddrEvac && !s.is .DDR_STATUS_REPLAYING (n - 100)
  else if 118 ≤ n ∧ n < 122 then (s.lanesBusy (n - 118)).isEmpty
  else n != 124 || s.get .MOT_STATUS_MOVING == 0

/-- The domains whose request and state differ, lowest first (R56). -/
def State.switching (s : State) : List Nat :=
  (List.range 132).filter (fun n => bit (s.get .PWR_REQ_ON 0 (n / 32)) (n % 32) != s.powered n)

/-- DOMAIN_SWITCH (R56): the next waiting domain switches; requests wait while the release sequence runs, and in P2 (R58). A domain to be
switched off whose blocks are not yet quiescent lets the next one go first (log entry 113). -/
def execDomainSwitch (s : State) : Res State :=
  .next (s.when (s.is .RST_STATUS_DONE && s.get .PWR_PSTATE_CUR != 2) (fun s =>
    match s.switching.filter (fun n => !s.powered n || s.quiescent n) with
    | [] => s
    | n :: _ => if s.powered n then s.domainDown n else s.domainOn n))

/-! ## Power states (R58, R59) -/

/-- May P1 or P2 be entered (R59)? -/
def State.restful (s : State) : Bool := s.axStopped && s.chans.all (fun e => e.2.grant.isEmpty) && !s.trio.pulling

/-- Does RETAIN omit a rank that is present (R381)? -/
def State.losesRank (s : State) : Bool :=
  s.hasSect 0x0012 && !bit (s.sf 0x0012 0 0x18 1) 1 && (List.range 6).any (fun i => (s.ddr i).up && s.get .DDR_GEOM_RANKS_M1 i == 1)

/-- The contents of a lost rank (R381). Where a ring lies is not given, so a free value says whether it touches the rank. -/
def State.loseRank (s : State) : State :=
  let a := s.free
  let b := a.2.free
  let s := b.2
  let s := s.each 64 (fun s c => if bit a.1 c then s.setChan c { s.chan c with intake := [], credit := 0, lead := [] } else s)
  let gone := (List.range s.staged.length).filter (fun i => bit b.1 (i + 1))
  let s := gone.foldl (fun (s : State) i =>
    match s.staged[i]? with
    | some x => if x.handle = 0 ∨ x.committed then s else s.freeSlot (handleSlot x.handle)
    | none => s) s
  { s with dram := Tab.keep s.rankKept s.dram, poison := s.poison.filter (fun x => s.rankKept (64 * x)),
           archive := if bit b.1 0 then { s.archive with frames := [] } else s.archive,
           staged := ((List.range s.staged.length).filter (fun i => !(gone.contains i))).filterMap (fun i => s.staged[i]?) }

/-- The domains that stay on in P2 (R58). -/
def p2Domains : List Nat := [124, 126, 130, 131]

/-- The domain of a DDR channel in self-refresh switched off: its registers take their reset values (R11, R56); what its DIMM holds and where
its bursts stand is no register (log entry 81). -/
def State.ddrDown (s : State) (i : Nat) : State :=
  let x := s.ddr i
  (s.domainDown (100 + i)).setDdr i { x with alerts := 0, crc := false, spg := 0, ues := [] }

/-- Every channel in service into self-refresh, and its domain off (R380). -/
def State.ddrSleep (s : State) : State :=
  s.selfRefresh.each 6 (fun s i => if (s.ddr i).asleep && s.powered (100 + i) then s.ddrDown i else s)

/-- Entry to P2 (R58, R380, R381, R390): a checkpoint, self-refresh, the ranks not retained lost, the domains off. -/
def State.enterP2 (s : State) : State :=
  let s := s.checkpoint
  let lost := s.losesRank
  let s := if lost then s.loseRank else s
  s.ddrSleep.each 132 (fun s n => if p2Domains.contains n || !s.powered n then s else s.domainDown n)

/-- Return from P2 (R57, R58): every domain requested on is powered up, and each that has sections is reloaded with a rewrite of its own (R66);
the DDR channels are up by SELF_REFRESH_EXIT. -/
def State.leaveP2 (s : State) : State :=
  s.each 132 (fun s n => if s.powered n || !bit (s.get .PWR_REQ_ON 0 (n / 32)) (n % 32) then s else s.domainOn n)

/-- A write of PWR_PSTATE.REQ (R58, R59). -/
def State.pstate (s : State) (v : Nat) : State :=
  let bad := v == 3 || (decide (1 ≤ v) && !s.restful) || (v == 2 && s.losesRank && s.is .MOT_STATUS_JOB)
  if bad then (s.on .PWR_PSTATE_REFUSED).set .PWR_PSTATE_REQ (s.get .PWR_PSTATE_CUR)
  else
    let s := s.set .PWR_PSTATE_REQ v
    if s.get .PWR_PSTATE_CUR = v then (if v = 2 then s.ddrSleep else s).off .PWR_PSTATE_BUSY else s.on .PWR_PSTATE_BUSY

/-- PSTATE_REQUEST (R59). -/
def execPstateRequest (v : Nat) (s : State) : Res State := .next (s.when (decide (v < 4)) (fun s => s.pstate v))

/-- P1 or P2 entered: head power is disabled (R58). -/
def State.headsOff (s : State) : State := s.each 64 (fun s c => if s.headOn c then s.headPower c false else s)

/-- PSTATE_TRANSITION_DONE (R58): on the way out of P2 every DDR channel has left self-refresh. -/
def execPstateTransitionDone (s : State) : Res State :=
  let old := s.get .PWR_PSTATE_CUR
  let new := s.get .PWR_PSTATE_REQ
  .next (s.when (s.is .PWR_PSTATE_BUSY && (old != 2 || (List.range 6).all (fun i => !(s.ddr i).asleep || !bit (s.get .PWR_REQ_ON 0 3) (4 + i)))) (fun s =>
    let s := if new = 0 then s else s.headsOff
    let s := if new = 2 then s.enterP2 else s
    let s := if old = 2 then s.leaveP2 else s
    (s.set .PWR_PSTATE_CUR new).off .PWR_PSTATE_BUSY))

end Sys2Proof.Machine
end

