-- ==== Sys2Proof/Machine/Mash.lean ====
section
/-! DEFINITION. Mash images: the checks of R83, the loader's front end, full commits and change sets (R70-R97). -/

namespace Sys2Proof.Machine

/-! ## The header, the directory and the signature block (R71, R72, R78, R79) -/

/-- A refusal: the status, the check that failed, the directory index of the section (0x1FFF: none). -/
structure Refused where
  status : Nat
  check  : Nat
  sect   : Nat
  deriving DecidableEq, Repr

/-- The index of a failure that no section is tied to. -/
def noSection : Nat := 0x1FFF

/-- SECT_COUNT, SIG_OFFSET, and the end of the directory. -/
def sectCount (b : List Byte) : Nat := fieldAt b 0x12 2
def sigOffset (b : List Byte) : Nat := fieldAt b 0x18 4
def dirEnd (b : List Byte) : Nat := 0x80 + 32 * sectCount b

/-- Is the image partial? -/
def isPartial (b : List Byte) : Bool := fieldAt b 0x10 1 == 1

/-- The directory entry of an index, and its payload's place. -/
def dirEntry (b : List Byte) (i : Nat) : List Byte := sub b (0x80 + 32 * i) 32
def entOffset (e : List Byte) : Nat := fieldAt e 8 4
def entLength (e : List Byte) : Nat := fieldAt e 0xC 4

/-- Every directory entry, in order. -/
def directory (b : List Byte) : List (List Byte) := (List.range (sectCount b)).map (dirEntry b)

/-- The section of a directory entry. -/
def sectOf (b : List Byte) (e : List Byte) : Sect :=
  { type := fieldAt e 0 2, scope := fieldAt e 2 1, index := fieldAt e 4 2, version := fieldAt e 6 2, quiesce := fieldAt e 0x14 4,
    bytes := sub b (entOffset e) (entLength e) }

/-- The index of the first member of a list that passes. -/
def firstIndex {α : Type} (p : α → Bool) (l : List α) : Option Nat := (List.range l.length).find? (fun i => (l[i]?.map p).getD false)

/-- Check 1 (R83): integrity first, then the header's fields; `len` is the LENGTH of the command. -/
def check1 (b : List Byte) (len : Nat) : Option Refused :=
  let f := fieldAt b
  if b.length < 128 || b.length != len || b.length != f 8 4 || f 0 4 != 0x4853414D || f 0x50 4 != crc32c (sub b 0 0x50) || f 5 1 != 1 then
    some ⟨stCheckFailed, 1, noSection⟩
  else if f 6 2 == 0x80 && f 0x14 4 == 0x80 && f 0x11 1 == 0 && zeroAt b 0x54 44 && decide (f 0x10 1 ≤ 1 ∧ sectCount b ≤ 4096) &&
      decide (f 8 4 ≤ 0x10000000 ∧ f 0x2C 4 ≤ 63) && (isPartial b || f 0x30 8 == 0) && (f 0x1C 4 == 512 || f 0x1C 4 == 768) &&
      decide (sigOffset b + f 0x1C 4 = f 8 4 ∧ dirEnd b ≤ sigOffset b) && sigOffset b % 64 == 0 then none
  else some ⟨stBadRange, 1, noSection⟩

/-- Check 2. -/
def check2 (b : List Byte) : Option Refused := if sectCount b = 0 then some ⟨stBadZero, 2, noSection⟩ else none

/-- A signature block's certificates. -/
def certCount (g : List Byte) : Nat := fieldAt g 4 1
def certAt (g : List Byte) (k : Nat) : List Byte := sub g (0x100 + 256 * k) 256
def certUsage (c : List Byte) (i : Nat) : Bool := bit (fieldAt c 4 2) i
def certOem (c : List Byte) : Nat := fieldAt c 0x10 4

/-- The form of a signature block of `len` bytes (R78, R79). -/
def sigForm (g : List Byte) (len : Nat) : Bool :=
  fieldAt g 0 4 == 0x4749534D && (certCount g == 1 || certCount g == 2) && len == 256 + 256 * certCount g && decide (fieldAt g 5 1 ≤ 1) &&
  zeroAt g 6 2 && zeroAt g 0xC8 56 && (List.range (certCount g)).all (fun k =>
    let c := certAt g k
    fieldAt c 0 4 == 0x5452434D && zeroAt c 7 1 && zeroAt c 0x14 4 && zeroAt c 0x79 39)

/-- Does a certificate verify against an unrevoked root slot and meet the OEM lock (R80)? -/
def State.certOk (s : State) (c : List Byte) : Bool :=
  let slot := fieldAt c 6 1
  let lock := s.get .MASH_OEM_OEM_ID
  decide (slot < 4) && !bit (s.get .MASH_ROLLBACK_ROOT_REVOKED) slot &&
  Config.ecdsaOk (Config.rootKey slot) (sha384 (sub c 0 0xA0)) (sub c 0xA0 96) &&
  (lock == 0 || certOem c == 0 || certOem c == lock)

/-- The rules of R80 on signed bytes and their signature block: certificate 0 has usage bit `usage`, every certificate verifies (R81), and
the level is not below `min`. -/
def State.signedOk (s : State) (signed g : List Byte) (usage level min : Nat) : Bool :=
  s.certOk (certAt g 0) && certUsage (certAt g 0) usage && (certCount g == 1 || s.certOk (certAt g 1)) &&
  Config.ecdsaOk (sub (certAt g 0) 0x18 97) (sha384 signed) (sub g 8 96) && decide (min ≤ level)

/-- The certificate that seals a KILN section (R81). -/
def sealCert (g : List Byte) : Option (List Byte) :=
  if certUsage (certAt g 0) 0 && certUsage (certAt g 0) 1 then some (certAt g 0)
  else if certCount g = 2 ∧ certUsage (certAt g 1) 1 then some (certAt g 1) else none

/-- Is the KILN payload of a directory entry sealed as R81 asks? -/
def kilnSealOk (b g e : List Byte) : Bool :=
  match sealCert g with
  | none => false
  | some c =>
    certOem c != 0 && fieldAt g 5 1 == 1 && decide (dirEnd b ≤ entOffset e ∧ entOffset e + entLength e ≤ sigOffset b) &&
    Config.ecdsaOk (sub c 0x18 97) (sha384 (sub b (entOffset e) (entLength e))) (sub g 0x68 96)

/-- Check 3. -/
def State.check3 (s : State) (b : List Byte) : Option Refused :=
  let g := b.drop (sigOffset b)
  if !sigForm g g.length || !s.signedOk (b.take (sigOffset b)) g 0 (fieldAt b 0x2C 4) (s.get .MASH_ROLLBACK_MIN) then
    some ⟨stBadSignature, 3, noSection⟩
  else (firstIndex (fun e => fieldAt e 0 2 == 0x0060 && !kilnSealOk b g e) (directory b)).map (fun i => ⟨stBadSignature, 3, i⟩)

/-- Check 4: a partial image needs a full image in force to modify (log entry 82). -/
def State.check4 (s : State) (b : List Byte) : Option Refused :=
  let letter := fieldAt b 0xE 1
  let digit := fieldAt b 0xF 1
  let mine := (s.get .GRS_DEVICE_STEP_LETTER, s.get .GRS_DEVICE_STEP_DIGIT)
  let fw := s.get .FLS_FW_VER_VERSION
  if fieldAt b 0xC 2 == 0x6440 && decide (letter < mine.1 ∨ (letter = mine.1 ∧ digit ≤ mine.2)) &&
      decide (fieldAt b 0x24 4 ≤ fw ∧ fw ≤ fieldAt b 0x28 4) &&
      (!isPartial b || (s.fullImage.isSome && fieldAt b 0x30 8 == s.get .GRS_IMAGE_ID_ID)) then none
  else some ⟨stMismatch, 4, noSection⟩

/-- Directory indices in the order of their payloads. -/
def bySpan (l : List (Nat × Nat × Nat)) : List (Nat × Nat × Nat) :=
  l.foldl (fun acc x => (acc.takeWhile (fun y => decide (y.1 < x.1 ∨ (y.1 = x.1 ∧ y.2.2 < x.2.2)))) ++ [x] ++
    acc.dropWhile (fun y => decide (y.1 < x.1 ∨ (y.1 = x.1 ∧ y.2.2 < x.2.2)))) []

/-- The breaches between payloads, from position `pos` on: of an overlap the index that begins later, nonzero bytes between (R72). -/
def spanBreaches (b : List Byte) (stop : Nat) : List (Nat × Nat × Nat) → Nat → List Nat
  | [], pos => if zeroAt b pos (stop - pos) then [] else [noSection]
  | x :: t, pos =>
    (if x.1 < pos then [x.2.2] else if zeroAt b pos (x.1 - pos) then [] else [noSection]) ++ spanBreaches b stop t (max pos x.2.1)

/-- Check 5: the directory's layout (R72, R73). -/
def check5 (b : List Byte) : Option Refused :=
  let d := directory b
  match firstIndex (fun e => entLength e == 0) d with
  | some i => some ⟨stBadZero, 5, i⟩
  | none =>
    let key := fun (e : List Byte) => (fieldAt e 0 2, fieldAt e 2 1, fieldAt e 4 2)
    let bad := (List.range d.length).filter (fun i =>
      let e := d.getD i []
      !(zeroAt e 3 1 && zeroAt e 0x18 8 && entOffset e % 64 == 0 && decide (dirEnd b ≤ entOffset e) &&
        decide (entOffset e + entLength e ≤ sigOffset b)) || (d.take i).any (fun x => key x == key e))
    let spans := bySpan ((List.range d.length).map (fun i => (entOffset (d.getD i []), entOffset (d.getD i []) + entLength (d.getD i []), i)))
    (bad ++ spanBreaches b (sigOffset b) spans (dirEnd b)).min?.map (fun i => ⟨stBadRange, 5, i⟩)

/-- Check 6: every section CRC. -/
def check6 (b : List Byte) : Option Refused :=
  (firstIndex (fun e => crc32c (sub b (entOffset e) (entLength e)) != fieldAt e 0x10 4) (directory b)).map (fun i => ⟨stCheckFailed, 6, i⟩)

/-! ## Section content (R73-R77) -/

/-- The scope a type allows and the number of its indices (R74, R75); none for a reserved type. -/
def typeScope (t : Nat) : Option (Nat × Nat) :=
  match t with
  | 0x0001 | 0x0002 | 0x0010 | 0x0011 | 0x0012 | 0x0032 | 0x00F0 => some (0, 1)
  | 0x0020 | 0x0021 => some (1, 64)
  | 0x0013 | 0x0030 | 0x0031 => some (2, 64)
  | 0x0040 => some (3, 8)
  | 0x0041 => some (3, 4)
  | 0x0042 | 0x0043 | 0x0050 | 0x0051 | 0x0052 | 0x0053 | 0x0060 => some (3, 1)
  | _ => none

/-- The rules of R75 on a directory entry. -/
def entryOk (x : Sect) : Bool :=
  match typeScope x.type with
  | none => false
  | some (sc, n) =>
    x.scope == sc && decide (x.index < n) && (x.type == 0x00F0 || x.version / 256 == 1) &&
    (sectClass x.type != .swap || x.quiesce == 0) && (sectClass x.type != .pause || decide (x.quiesce ≤ 20000))

/-- Has a payload a size field of 0? -/
def payloadZero (x : Sect) : Bool :=
  match x.type with
  | 0x0001 => layoutZero x.bytes
  | 0x0011 => (List.range (x.bytes.length / 12)).any (fun i => zeroField x.bytes (12 * i + 4) 4)
  | 0x0012 => ddrMapZero x.bytes
  | 0x0013 => reservoirZero x.bytes
  | 0x0020 => tunProgZero x.bytes
  | 0x0030 => geomZero x.bytes
  | 0x0031 => scrZero x.bytes
  | 0x0032 => fireSetupZero x.bytes
  | 0x0040 => cameraZero x.bytes
  | 0x0041 => ispZero x.bytes
  | 0x0042 => gravZero x.bytes
  | 0x0043 => sgZero x.bytes
  | 0x0050 => motionZero x.bytes
  | 0x0051 => encoderZero x.bytes
  | 0x0052 => wortZero x.bytes
  | 0x0060 => kilnZero x.bytes
  | _ => false

/-- The model's POWER layout (log entry 14): five 32-bit words, bit n of the map of domains used standing for PD n; then the domain-to-block
assignment, a record of 8 bytes for each block listed: TYPE, INSTANCE, its two domains, coded as R62 has them, and two reserved bytes. The
domains of a block are fixed (R54, R62), and a record that says otherwise is out of range. -/
def powerSectOk (b : List Byte) : Bool :=
  decide (20 ≤ b.length) && b.length % 8 == 4 && decide (leNat (b.take 20) < 2 ^ 132) &&
  (List.range (b.length / 8 - 2)).all (fun k =>
    let r := sub b (20 + 8 * k) 8
    match blockOf (fieldAt r 0 2) with
    | none => false
    | some t =>
      let i := fieldAt r 2 2
      decide (i < t.instances) && fieldAt r 4 1 == pwrCode t i 0 && fieldAt r 5 1 == pwrCode t i 1 && zeroAt r 6 2)

/-- The model's ROUTE layout (log entry 14): per tun the primary and the alternate codec instance, and the line-network links, per tun the
underback and the grant buffer it feeds: those of its own channel, since no tun can be routed to another (R20). -/
def routeOk (b : List Byte) : Bool :=
  b.length == 256 && (b.take 128).all (fun x => decide (x.toNat < 4)) &&
  (List.range 64).all (fun t => fieldAt b (128 + 2 * t) 1 == t && fieldAt b (129 + 2 * t) 1 == t)

/-- The model's QUEUES layout (log entry 14). -/
def queuesOk (b : List Byte) : Bool :=
  b.length % 12 == 0 && (List.range (b.length / 12)).all (fun i =>
    let f := fieldAt (sub b (12 * i) 12)
    decide (f 0 2 < 16384 ∧ f 4 4 ≤ 65536 ∧ f 8 2 < 2048) && depthOk (f 4 4) && f 10 2 == 0 &&
    (List.range i).all (fun j => fieldAt b (12 * j) 2 != f 0 2))

/-- The types judged against a FIRE_SETUP (R76). -/
def needsSetup : List Nat := [0x0013, 0x0020, 0x0031, 0x0030, 0x0050, 0x0040, 0x0041, 0x0042]

/-- What the payload rules of every block need to know besides the sections: a partial image, GRS_IMAGE_ID of the full image, the role, one
DDR channel's capacity, the device's index, the program and the map in force. -/
structure Judge where
  partial_ : Bool
  id       : Nat
  role     : Nat
  cap      : Nat
  me       : Nat
  prog     : Nat → Option (List Byte)
  map      : Option (List Byte)

/-- The rules of R76, R77 and the blocks' chapters on a payload; `own` says that the section is the image's, `with_` which sections the
image carries. -/
def payloadOk (j : Judge) (e : Eff) (own : Bool) (with_ : Nat → Nat → Bool) (x : Sect) : Bool :=
  let b := x.bytes
  let i := x.index
  (!needsSetup.contains x.type || (e 0x0032 0).isSome) &&
  match x.type with
  | 0x0001 => layoutOk b
  | 0x0002 => powerSectOk b
  | 0x0010 => routeOk b
  | 0x0011 => queuesOk b
  | 0x0012 => ddrMapOk j.role j.cap b && (!(own && j.partial_) || (match j.map with | some m => ddrMapSame b m | none => false))
  | 0x0013 => reservoirOk (e.f 0x0032 0 0 4) b
  | 0x0020 => tunProgOk b (e.f 0x0030 i 0 2) ((e.f 0x0032 0 0 4).getD 0) &&
    (!(own && j.partial_) || with_ 0x0031 i || (match j.prog i with | some p => !tablesMoved b p | none => true))
  | 0x0021 => (match e 0x0020 i with | some p => tunSramOk b p | none => false)
  | 0x0030 => geomOk e i b
  | 0x0031 => scrOk e i (own && j.partial_ && !with_ 0x0020 i) b
  | 0x0032 => fireSetupOk e b
  | 0x0040 => cameraOk e b
  | 0x0041 => ispOk e i b
  | 0x0042 => gravOk (Config.pressHigh j.id) e j.me b
  | 0x0043 => sgOk b
  | 0x0050 => motionOk e j.role b
  | 0x0051 => encoderOk e b
  | 0x0052 => wortOk b
  | 0x0053 => timeNetOk b
  | 0x0060 => kilnOk e b
  | _ => true

/-- The types of an image's sections on whose values a section in force depends (R83). -/
def dependsOn (t : Nat) : List Nat :=
  match t with
  | 0x0013 => [0x0032]
  | 0x0020 => [0x0030, 0x0032]
  | 0x0021 => [0x0020]
  | 0x0030 => [0x0020, 0x0031, 0x0032]
  | 0x0031 => [0x0020, 0x0030, 0x0032]
  | 0x0032 => [0x0030]
  | 0x0040 => [0x0040, 0x0032]
  | 0x0041 => [0x0040, 0x0032]
  | 0x0042 => [0x0040, 0x0041, 0x0032]
  | 0x0050 => [0x0032, 0x0051, 0x0013]
  | 0x0051 => [0x0050]
  | 0x0060 => [0x0030]
  | _ => []

/-- The sections of a list over those in force. -/
def overlay (l : List Sect) (e : Eff) : Eff := fun t i => ((findSect l t i).map Sect.bytes).orElse (fun _ => e t i)

/-- The image's section that breaks the section `x` in force: the lowest whose values alone break it, else the lowest it depends on. -/
def breaker (j : Judge) (e : Eff) (l : List Sect) (x : Sect) : Option Nat :=
  if (l.any (fun y => (dependsOn x.type).contains y.type)) && !payloadOk j (overlay l e) false (fun _ _ => false) x then
    let alone := (List.range l.length).find? (fun i => match l[i]? with
      | some y => (dependsOn x.type).contains y.type && !payloadOk j (overlay [y] e) false (fun _ _ => false) x
      | none => false)
    alone.orElse (fun _ => firstIndex (fun (y : Sect) => (dependsOn x.type).contains y.type) l)
  else none

/-- The sections in force that an image leaves as they are: for a full image the sealed Kiln alone. -/
def State.keptSects (s : State) (full : Bool) (l : List Sect) : List Sect :=
  (if full then [] else s.sects.filter (fun x => !l.any (fun y => y.type == x.type && y.index == x.index))) ++
  (match s.kiln with
   | some k => [{ type := 0x0060, scope := 3, index := 0, version := 0x0100, quiesce := 0, bytes := k.payload }]
   | none => [])

/-- What the rules need of the present state. -/
def State.judgeOf (s : State) (b : List Byte) : Judge :=
  { partial_ := isPartial b, id := if isPartial b then fieldAt b 0x30 8 else digestId (sha384 (b.take (sigOffset b))), role := s.role, cap := s.dmap.cap, me := s.myIndex,
    prog := fun i => (findSect s.sects 0x0020 i).map Sect.bytes,
    map := (findSect s.sects 0x0012 0).map Sect.bytes }

/-- Check 7 (R75-R77, R83). -/
def State.check7 (s : State) (b : List Byte) : Option Refused :=
  let l := (directory b).map (sectOf b)
  let full := !isPartial b
  let base : Eff := if full then fun t _ => if t = 0x0060 then s.kiln.map Seal.payload else none else s.effNow
  let j := s.judgeOf b
  let e := overlay l base
  let with_ := fun t i => l.any (fun y => y.type == t && y.index == i)
  match firstIndex payloadZero l with
  | some i => some ⟨stBadZero, 7, i⟩
  | none =>
    match firstIndex (fun x => !(entryOk x && payloadOk j e true with_ x)) l with
    | some i => some ⟨stBadRange, 7, i⟩
    | none =>
      if full && !([0x0001, 0x0002, 0x0010].all (fun t => with_ t 0)) then some ⟨stBadRange, 7, noSection⟩
      else (((s.keptSects full l).filterMap (breaker j base l)).min?).map (fun i => ⟨stBadRange, 7, i⟩)

/-! ## State (R82, R87, R364) -/

/-- Do the conditions of R87 hold? -/
def State.fullOk (s : State) : Bool := s.axStopped && s.chans.all (fun e => e.2.grant.isEmpty) && !s.trio.pulling

/-- Have fewer than two DDR channels trained, or are fewer than two left (R364)? -/
def State.fewDdr (s : State) : Bool := decide (((List.range 6).filter s.ddrAlive).length < 2)

/-- Check 8. -/
def State.check8 (s : State) (b : List Byte) : Option Refused :=
  let l := (directory b).map (sectOf b)
  if s.kilnRefuses l then some ⟨stBadState, 8, (firstIndex (fun (x : Sect) => x.type == 0x0060) l).getD noSection⟩
  else if !isPartial b && (!s.fullOk || s.fewDdr) then some ⟨stBadState, 8, noSection⟩
  else none

/-- The image that has passed every check. -/
def imageOf (b : List Byte) : Image :=
  let g := b.drop (sigOffset b)
  { full := !isPartial b, version := fieldAt b 0x20 4, rollback := fieldAt b 0x2C 4, fwMin := fieldAt b 0x24 4, fwMax := fieldAt b 0x28 4,
    baseId := fieldAt b 0x30 8, hash := sha384 (b.take (sigOffset b)), sealKey := ((sealCert g).map (fun c => fieldAt c 8 8)).getD 0,
    sects := (directory b).map (sectOf b) }

/-- Checks 1 to 4, and 5 to 8: the first that fails. -/
def State.verify (s : State) (b : List Byte) (len : Nat) : Option Refused :=
  (check1 b len).orElse fun _ => (check2 b).orElse fun _ => (s.check3 b).orElse fun _ => s.check4 b
def State.checkRest (s : State) (b : List Byte) : Option Refused :=
  (check5 b).orElse fun _ => (check6 b).orElse fun _ => (s.check7 b).orElse fun _ => s.check8 b

/-! ## Staged images -/

/-- A committed full image taken into APPLY cancels every staged partial image (R87). -/
def State.enterApply (s : State) (handle : Nat) : State :=
  let parts := s.staged.filter (fun x => !x.image.full)
  let s := s.sets.foldl State.dropSet s
  let s := parts.foldl (fun s x => s.releaseStaged x.handle) s
  let s := s.each 64 (fun s c => if (s.chan c).pause.isSome then
    (s.setChan c { s.chan c with pause := none, pauseStep := 0 }).off .TUN_STATUS_PAUSED c else s)
  State.set { s with staged := s.staged.map (fun (x : Staged) => if x.handle = handle then { x with applying := true } else x) }
    .MASH_STATUS_STATE 4

/-- The map a full image brings differs from the one in force while a job is in progress (R365). -/
def State.mapInJob (s : State) (x : Image) : Bool :=
  s.is .MOT_STATUS_JOB && (match findSect x.sects 0x0012 0 with
    | some m => s.hasSect 0x0012 && !ddrMapSame m.bytes (s.sect 0x0012)
    | none => s.hasSect 0x0012)

/-- May the full image be committed now (R82, R87, R365)? -/
def State.commitNow (s : State) (x : Image) : Bool := s.fullOk && !s.kilnRefuses x.sects && !s.mapInJob x

/-- A full commit that waited for the front end: taken up, or refused (R86). -/
def State.tryFull (s : State) (x : Staged) : State :=
  if s.get .MASH_STATUS_STATE ≠ 0 then s
  else if s.commitNow x.image then s.enterApply x.handle
  else State.finish { s with staged := s.staged.map (fun (y : Staged) => if y.handle = x.handle then { y with committed := false } else y) }
    (s.commitOpOf x.handle) stBadState

/-- The front end is IDLE again: the full commits that waited for it are tested in the order of their acceptance until one is taken up
(R86). -/
def State.frontIdle (s : State) : State :=
  let s := State.set { s with loading := none } .MASH_STATUS_STATE 0
  (s.staged.filter (fun x => x.image.full && x.committed)).foldl State.tryFull s

/-- May the front end take another image (R86)? -/
def State.frontFree (s : State) : Bool := s.loading.isNone && s.get .MASH_STATUS_STATE == 0

/-- An image refused: MASH_ERR records why; the slot is freed (R83, R86). A boot image that fails is cause 4 of FLS_BOOT (R406). -/
def State.refuseImage (s : State) (x : Loading) (r : Refused) : State :=
  let s := ((s.set .MASH_ERR_STATUS r.status).set .MASH_ERR_CHECK r.check).set .MASH_ERR_SECTION r.sect
  let s := if x.boot then s.set .FLS_BOOT_CAUSE 4 else s.finish x.handle r.status
  s.frontIdle

/-! ## The commands (R84-R86) -/

/-- MASH_STAGE (R84-R86): it waits in its queue until the front end is IDLE. -/
def execMashStage (d : Desc) (s : State) : Res State :=
  let host := d.p 0x10 1
  let src := d.p 0x18 8
  let n := d.p 0x20 4
  .next (s.when s.frontFree (fun s => s.submit d
    { opcode := 0x0101, long := true, used := [(0x10, 1), (0x18, 8), (0x20, 4)], counts := [n],
      range := decide (host ≤ 1 ∧ n ≤ 0x10000000) && (host == 1 || decide (src < 2 ^ 52)),
      state := if 4 ≤ s.staged.length then stBadState else 0 }
    (fun h s => State.set { s with loading := some { handle := h, source := src, host := host == 1, length := n, bytes := [], boot := false } }
      .MASH_STATUS_STATE 1)))

/-- The bytes of a source; one that cannot be read gives none. -/
def State.sourceBytes (s : State) (x : Loading) : List Byte :=
  if x.boot then x.bytes
  else if x.host then Memory.rds s.hostMem x.source x.length
  else if s.jsaOpen x.source x.length then s.jsaRead x.source x.length else []

/-- MASH_RECEIVE_DONE (R83, R86). -/
def execMashReceiveDone (s : State) : Res State :=
  .next (match s.loading with
  | none => s
  | some x => s.when (s.get .MASH_STATUS_STATE == 1) (fun s =>
      let b := s.sourceBytes x
      match s.verify b (if x.boot then b.length else x.length) with
      | some r => s.refuseImage x r
      | none => State.set { s with loading := some { x with bytes := b } } .MASH_STATUS_STATE 3))

/-- MASH_CHECK_DONE (R83, R86): the boot image is committed at once (R88). -/
def execMashCheckDone (s : State) : Res State :=
  .next (match s.loading with
  | none => s
  | some x => s.when (s.get .MASH_STATUS_STATE == 3) (fun s =>
      match s.checkRest x.bytes with
      | some r => s.refuseImage x r
      | none =>
        let g : Staged := { handle := x.handle, image := imageOf x.bytes, committed := x.boot }
        let s := { s with staged := s.staged ++ [g] }
        if x.boot then s.frontIdle
        else
          let s := s.setSlot (handleSlot x.handle) { s.slot (handleSlot x.handle) with keep := true }
          (s.done x.handle).frontIdle))

/-- MASH_COMMIT (R84-R87, R91). `others` are the press device indices of the other devices that a set which spans devices concerns (R34). A
partial image whose KILN section the Kiln, sealed since it was staged, refuses is refused with BAD_STATE (R82). -/
def execMashCommit (d : Desc) (s : State) (others : List Nat := []) : Res State :=
  let k := d.p 0x10 4
  let target := d.p 0x18 8
  let deadline := d.p 0x20 8
  let it := if k = 0 then none else s.stagedOf k
  .next (s.submit d
    { opcode := 0x0102, long := true, used := [(0x10, 4), (0x14, 4), (0x18, 8), (0x20, 8)],
      range := decide (d.p 0x14 4 ≤ 1) && (match it with
        | some x => x.image.full || decide (target ≤ deadline ∧ s.get .FIRE_LINE_LINE < deadline)
        | none => true),
      state := match it with
        | none => stBadState
        | some x => if x.committed || (x.image.full && s.frontFree && !s.commitNow x.image) || (!x.image.full && s.kilnRefuses x.image.sects)
            then stBadState else 0 }
    (fun h s =>
      match it with
      | none => s
      | some x =>
        let it : Staged := { x with committed := true }
        let s : State := { s with staged := s.staged.filter (fun (y : Staged) => y.handle != k) ++ [it] }
        if x.image.full then (if s.frontFree then s.enterApply k else s)
        else
          State.prepShadows { s with sets := s.sets ++ [{ handle := k, commitOp := h, image := x.image, target := target, deadline := deadline,
                                                          bsOk := bit (d.p 0x14 4) 0, line := none, rule := 0, final := false, applied := [],
                                                          others := others }] }))

/-- May a staged image still be released (R84)? -/
def State.mayAbort (s : State) (x : Staged) : Bool :=
  if x.image.full then !(x.committed && s.get .MASH_STATUS_STATE == 4)
  else (s.sets.find? (fun y => y.handle == x.handle)).all (fun y => y.line.isNone)

/-- A staged image aborted: its MASH_COMMIT, if any, completes NOT_APPLIED. -/
def State.abortStaged (s : State) (x : Staged) : State :=
  match s.sets.find? (fun y => y.handle == x.handle) with
  | some y => s.dropSet y
  | none =>
    let s := if x.committed then s.finish (s.commitOpOf x.handle) stNotApplied else s
    s.releaseStaged x.handle

/-- MASH_ABORT (R84). -/
def execMashAbort (d : Desc) (s : State) : Res State :=
  let k := d.p 0x10 4
  let it := if k = 0 then none else s.stagedOf k
  .next (s.submit d
    { opcode := 0x0103, long := false, used := [(0x10, 4)],
      state := match it with | none => stBadState | some x => if s.mayAbort x then 0 else stBadState }
    (fun h s => match it with | none => s | some x => (s.abortStaged x).done h))

/-- MASH_RB_ADVANCE (R84): fuses are blown. -/
def execMashRbAdvance (d : Desc) (s : State) : Res State :=
  let level := s.fullImage.map Image.rollback
  .next (s.submit d
    { opcode := 0x0104, long := false, range := (match level with | some l => decide (s.get .MASH_ROLLBACK_MIN ≤ l) | none => true),
      state := if level.isNone then stBadState else 0 }
    (fun h s => (s.set .MASH_ROLLBACK_MIN (level.getD 0)).done h))

/-! ## Full commits (R87) -/

/-- The composite of the structure has changed on a device that manages itself (R342, R344): its manager compares, and for a change set
first advances the expected value. -/
def State.compositeMoved (s : State) (old : Nat) (advance : Bool) : State :=
  match s.dev s.myIndex with
  | none => s
  | some x =>
    if !s.is .BAR_STATUS_ENUMERATED || s.fwAway then s
    else
      let new := s.get .MASH_COMPOSITE_ID
      let b := s.bind s.myIndex
      let s := if advance && b.bound && b.expect == old && !bit x.cause hIMAGE then s.setBind s.myIndex { b with expect := new } else s
      let b := s.bind s.myIndex
      (s.putDev { x with composite := new }).causeBit s.myIndex hIMAGE (b.bound && b.expect != new)

/-- The domains as a POWER section states (R55, R87): one it omits is switched off under the rules of domain power switching. -/
def State.applyPower (s : State) (b : List Byte) : State := s.each 132 (fun s n => s.requestDomain n (bit (leNat b) n))

/-- What an image that carries no section of a type leaves of its block. -/
def State.unused (s : State) (old : List Sect) : State :=
  let gone := fun (t i : Nat) => (findSect old t i).isSome && !s.hasSect t i
  let was := fun (t : Nat) => ((findSect old t 0).map Sect.bytes).getD []
  let s := if gone 0x0012 0 then s.emptyDram.showSlots else s
  let s := s.each 64 (fun s c => if gone 0x0013 c then s.applyReservoir c [] else s)
  let s := (s.each 64 (fun s c => if gone 0x0030 c then (s.off .FIRE_CH_STATUS_ENABLED c).applyGeom c [] else s)).cutHeads
  let s := if gone 0x0032 0 then s.dropSetup else s
  let s := s.each 4 (fun s i => if gone 0x0041 i && s.powered (114 + i) then s.applyIsp i else s)
  let s := if gone 0x0043 0 then { s.applySg (was 0x0043) with senses := [], sgEvents := [] } else s
  let s := s.each 4 (fun s a => if a != 0 && !s.axUsed a then s.hardStop a else s)
  let s := if gone 0x0051 0 then (s.applyEncoder []).clear [.ENC_STATUS_DR, .FIRE_STATUS_SLAVED] else s
  let s := s.each 64 (fun s c => if gone 0x0020 c && s.powered c then s.loadTun c false else s)
  let s := s.each 64 (fun s c => if gone 0x0031 c then s.dropTables c else s)
  let s := s.each 8 (fun s x => if gone 0x0040 x then s.stopCam x else s)
  let s := if gone 0x0042 0 then
      State.off { (s.each 64 (fun s c => s.off .GRAV_CH_STATUS_EN 0 c)) with gravs := [] } .GRAV_STATUS_RUNNING
    else s
  let s := if gone 0x0052 0 then s.applyWort (was 0x0052) else s
  if gone 0x0053 0 then s.applyTimeNet (List.replicate 64 0) else s

/-- A full image written into every block (R87). -/
def State.applyFull (s : State) (x : Image) : State :=
  let before := s.sects
  let oldId := s.get .MASH_COMPOSITE_ID
  let was := fun (z : Sect) => ((findSect before z.type z.index).map Sect.bytes).getD []
  let s := match findSect x.sects 0x0060 0 with | some z => s.sealKiln z.bytes x.sealKey | none => s
  let s := { s with sects := x.sects.filter (fun z => z.type != 0x0060 && z.type != 0x00F0), fullImage := some x, composite := x.hash }
  let s := State.unused { s with trio := { s.trio with t0 := false } } before
  let s := (byType s.sects).foldl (fun s z => if z.type = 0x0021 then s else s.enact z.type z.index (if z.type = 0x0031 then s.screenNext z.index else s.seq.next) (was z)) s
  let id := digestId x.hash
  let s := ((s.set .MASH_IMAGE_VER_VERSION x.version).set .MASH_PATCHES_COUNT 0).set .MASH_COMPOSITE_ID id
  let s := s.rewrite 1 (layoutEntries (s.sect 0x0001)) id
  (s.applyPower (s.sect 0x0002)).compositeMoved oldId false

/-- FULL_COMMIT_APPLY (R87). -/
def execFullCommitApply (s : State) : Res State :=
  .next (match s.staged.find? (fun x => x.applying) with
  | none => s
  | some x => s.when (s.get .MASH_STATUS_STATE == 4) (fun s =>
      let op := s.commitOpOf x.handle
      let s := s.applyFull x.image
      ((s.done op).releaseStaged x.handle).frontIdle))

/-! ## Change sets complete (R91, R94) -/

/-- CHANGE_SET_IN_FORCE (R94): the first set, with every section in force, at the line it was committed for. -/
def execChangeSetInForce (s : State) : Res State :=
  .next (match s.sets with
  | [] => s
  | x :: rest =>
    match x.line with
    | none => s
    | some y => s.when (x.allSwitched && (decide (y ≤ s.seq.next) || x.rule == 5)) (fun s =>
        let old := s.get .MASH_COMPOSITE_ID
        let c := sha384 (s.composite ++ x.image.hash)
        let s := State.bump { s with sets := rest, composite := c } .MASH_PATCHES_COUNT
        let s := s.set .MASH_COMPOSITE_ID (digestId c)
        let entries := if x.has 0x0001 0 then layoutEntries (s.sect 0x0001)
          else match s.gristDue.getLast? with | some r => r.entries | none => s.grist
        let id := match s.gristDue.getLast? with | some r => r.imageId | none => s.get .GRS_IMAGE_ID_ID
        let s := s.rewrite 3 entries id
        let s := if x.has 0x0002 0 then s.applyPower (s.sect 0x0002) else s
        let s := (s.done x.commitOp).releaseStaged x.handle
        (s.compositeMoved old true).dropShadows))

/-- CHANGE_SET_DEADLINE_MISSED (R91): no rule is met by the time the stage concerned reaches DEADLINE_LINE. -/
def execChangeSetDeadlineMissed (s : State) : Res State :=
  .next (s.when (!s.fwAway) (fun s =>
    match s.setLines.find? (fun e => e.1.line.isNone && e.2.isNone && decide (e.1.deadline ≤ s.stageAt e.1)) with
    | none => s
    | some e => s.dropSet e.1))

/-- MASH_ERR.CLR (R83). -/
def execMashErrClr (s : State) : Res State :=
  .next (s.reach .mash 0 (fun s => s.clear [.MASH_ERR_STATUS, .MASH_ERR_CHECK, .MASH_ERR_SECTION]))

end Sys2Proof.Machine
end

