-- ==== Sys2Proof/Machine/Firmware.lean ====
section
/-! DEFINITION. Firmware: boot from the arrays, over PCIe and over Wort, the settings it reads, the boot commit, settling, migration, and
the warm hand-over (R400-R413, R88, R364). -/

namespace Sys2Proof.Machine

/-! ## Firmware images (R400) -/

/-- The longest firmware image. -/
def fwMax : Nat := 0x007FF000

/-- LENGTH and VERSION of a firmware image. -/
def fwLength (b : List Byte) : Nat := fieldAt b 8 4
def fwVersion (b : List Byte) : Nat := fieldAt b 4 4

/-- The bytes of its signature block, whose length follows from its count of certificates: one or two; none where neither fits. -/
def fwSig (b : List Byte) : List Byte :=
  let tail := fun k => b.drop (b.length - (256 + 256 * k))
  if decide (64 + 768 ≤ b.length) && sigForm (tail 2) 768 then tail 2
  else if decide (64 + 512 ≤ b.length) && sigForm (tail 1) 512 then tail 1 else []

/-- Is the firmware image accepted (R80, R400)? Its ROLLBACK has a fuse counter of its own. -/
def State.fwOk (s : State) (b : List Byte) : Bool :=
  let g := fwSig b
  !g.isEmpty && b.length == fwLength b && decide (b.length ≤ fwMax) && fieldAt b 0 4 == 0x4957464D && decide (fieldAt b 0xC 4 ≤ 63) &&
  zeroAt b 0x14 44 && fieldAt g 5 1 == 0 &&
  s.signedOk (b.take (b.length - g.length)) g 2 (fieldAt b 0xC 4) (s.get .FLS_BOOT_FW_ROLLBACK)

/-- The firmware image in an array, as long as its header says. -/
def State.arrayFw (s : State) (a : Nat) : List Byte :=
  let n := fwLength (s.flashRd a 0x1000 64)
  if s.arrayUsed a && decide (n ≤ fwMax) then s.flashRd a 0x1000 n else []

/-- The Mash image in an array, as long as its header says (R70, R399). -/
def State.arrayMash (s : State) (a : Nat) : List Byte :=
  let n := fieldAt (s.flashRd a 0x00800000 16) 8 4
  if s.arrayUsed a && decide (n ≤ (s.array a).size - 0x01800000) then s.flashRd a 0x00800000 n else []

/-! ## Boot (R404, R405) -/

/-- Firmware `b` of source `src` takes over, its set's Mash image being `m`: it runs from its array with the window open, or from DRAM. -/
def State.takeOver (s : State) (src : Nat) (b m : List Byte) : State :=
  let s : State := { s with fw := { image := b, mash := m, due := s.fw.due } }
  let s := (s.set .FLS_BOOT_SRC src).set .FLS_FW_VER_VERSION (fwVersion b)
  let s := (s.off .FLS_BOOT_WAIT_HOST).on .FLS_STATUS_READY
  (s.setWindow 0 (src == 0)).setWindow 1 (src == 1)

/-- Boot from array `a`; if its firmware fails the check, from the other; if both fail, the ROM waits for a host load. -/
def State.bootFrom (s : State) (a : Nat) : State :=
  let b := s.arrayFw a
  let c := s.arrayFw (1 - a)
  if s.fwOk b then s.takeOver a b (s.arrayMash a)
  else if s.fwOk c then s.takeOver (1 - a) c (s.arrayMash (1 - a))
  else s.on .FLS_BOOT_WAIT_HOST

/-- The set that the boot pointer chooses (R405). -/
def State.bootByPointer (s : State) : State :=
  let active := s.ptrActive
  let prev := s.ptrPrev
  let s := s.set .FLS_BOOT_STATE s.ptrState
  match s.ptrState with
  | 0 => s.bootFrom active
  | 1 =>
    if s.get .FLS_BOOT_TRIES < 2 then (s.bump .FLS_BOOT_TRIES).bootFrom active
    else ((s.on .FLS_BOOT_FELL_BACK).set .FLS_BOOT_CAUSE 5).bootFrom prev
  | _ => if prev = active then s.on .FLS_BOOT_WAIT_HOST else (s.on .FLS_BOOT_FELL_BACK).bootFrom prev

/-- BOOT_ROM (R404): after DONE, and after PD130 alone has been reset. Without a DDR channel no Wort load can be served (R364). -/
def execBootRom (s : State) : Res State :=
  .next (s.when (s.is .RST_STATUS_DONE && s.powered 130 && !s.is .FLS_STATUS_READY) (fun s =>
    let src := s.get .RST_STRAPS_BOOT_SRC
    let s := s.set .FLS_STATUS_PRESENT (b2n (s.arrayUsed 0) + 2 * b2n (s.arrayUsed 1))
    if src = 1 then s.on .FLS_BOOT_WAIT_HOST
    else if src = 0 then
      State.set { s with fw := { due := s.fw.due } } .FLS_BOOT_WAIT_HOST
        (b2n ((List.range 6).all (fun i => !s.ddrAlive i && s.get .DDR_STATUS_STATE i != ddrTraining)))
    else match s.bootPointer with
    | some _ => s.bootByPointer
    | none => s.bootFrom (3 - src)))

/-- Does the ROM take a host load now? -/
def State.hostLoadOpen (s : State) : Bool :=
  s.is .RST_STATUS_DONE && s.powered 130 && !s.is .FLS_STATUS_READY && (s.is .FLS_BOOT_WAIT_HOST || s.get .RST_STRAPS_BOOT_SRC == 1)

/-- The write of FLS_HOSTLOAD.MASH_LEN (R404, R364): the images stand at device addresses 0 and 0x1000_0000. -/
def State.hostLoad (s : State) (len : Nat) : State :=
  let s := s.set .FLS_HOSTLOAD_MASH_LEN len
  s.when s.hostLoadOpen (fun s =>
    let n := s.get .FLS_HOSTLOAD_FW_LEN
    let read := fun a k => if s.dramOk a k && !s.dramPoisoned a k then Memory.rds s.dram a k else []
    let b := if n ≤ fwMax then read 0 n else []
    let m := if len ≤ 0x10000000 then read 0x10000000 len else []
    if n = 0 ∨ len = 0 ∨ !s.fwOk b then s.on .FLS_BOOT_WAIT_HOST else s.takeOver 2 b m)

/-- FLS_HOSTLOAD_WRITE (R404). -/
def execFlsHostloadWrite (len : Nat) (s : State) : Res State := .next (s.reach .flash 0 (fun s => s.hostLoad len))

/-- WORT_IMAGE_LOAD (R329, R404): a packet of type 0x0D with bytes of the firmware or the Mash image, `last` at its end. The port on which
the first arrives serves the load. -/
def execWortImageLoad (p : Nat) (mash : Bool) (bytes : List Byte) (last : Bool) (s : State) : Res State :=
  .next (s.when (decide (p < 4) && s.wortUp p && s.is .RST_STATUS_DONE && s.powered 130 && !s.is .FLS_STATUS_READY &&
      s.get .RST_STRAPS_BOOT_SRC == 0 && !s.is .FLS_BOOT_WAIT_HOST && (s.fw.wortFrom.getD p) == p && mash == s.fw.wortDone &&
      (List.range 6).any s.ddrAlive) (fun s =>
    let f := { s.fw with wortFrom := some p }
    if !mash then { s with fw := { f with wortFw := f.wortFw ++ bytes, wortDone := last } }
    else
      let f := { f with wortMash := f.wortMash ++ bytes }
      let s : State := { s with fw := f }
      if !last then s
      else if s.fwOk f.wortFw then s.takeOver 3 f.wortFw f.wortMash
      else State.on { s with fw := { due := s.fw.due } } .FLS_BOOT_WAIT_HOST))

/-! ## Settings (R406, R412) -/

/-- Schemas in which settings are recorded. -/
def State.caskSchemas (s : State) : List Nat := ((s.cask.filter (fun r => r.kind != 1)).map CaskRec.schema).eraseDups

/-- What a firmware of schema `own` that reads `reads` besides finds: 0 nothing readable, 1 its own schema, 2 an older one; and which. -/
def State.settingsOf (s : State) (own : Nat) (reads : List Nat) : Nat × Nat :=
  let l := s.caskSchemas.filter (fun x => x == own || reads.contains x)
  if l.isEmpty then (0, 0) else if maxOf l = own then (1, own) else (2, maxOf l)

/-- The bindings restored from the settings just read (R341). -/
def State.readBinds (s : State) : State := State.restoreBinds { s with binds := [] }

/-- Firmware of schema `own` reads its settings: `fault` 2 damaged, 3 invalid. Its cause if they are unreadable, else 0, and the state of
the Cask as it then is. A device with no used array has none (R410). -/
def State.readSettings (s : State) (own : Nat) (reads : List Nat) (fault : Nat) : Nat × State :=
  let s := s.set .CASK_SCHEMA_CUR own
  if !s.arrayUsed 0 && !s.arrayUsed 1 then (0, s.set .CASK_STATUS_STATE 0)
  else
    let r := s.settingsOf own reads
    let cause := if r.1 = 0 then 1 else if fault = 2 ∨ fault = 3 then fault else 0
    if cause ≠ 0 then (cause, (s.set .CASK_STATUS_STATE 4).set .CASK_SCHEMA_PINNED 0)
    else if r.1 = 2 then (0, (s.set .CASK_SCHEMA_PINNED r.2).set .CASK_STATUS_STATE 2)
    else
      let old := s.caskSchemas.filter (fun x => decide (x < own))
      (0, ((s.set .CASK_SCHEMA_PINNED (maxOf old)).set .CASK_STATUS_STATE (if old.isEmpty then 1 else 3)).readBinds)

/-- The Mash image of the set staged and to be committed (R88), unless a full image is in force. -/
def State.stageBoot (s : State) : State :=
  if s.fullImage.isSome || s.loading.isSome then s
  else State.set { s with loading := some { handle := 0, source := 0, host := false, length := s.fw.mash.length, bytes := s.fw.mash,
                                            boot := true } } .MASH_STATUS_STATE 1

/-- BOOT_IMAGE_COMMIT (R88, R406, R412): booted firmware reads its settings and, unless they are unreadable, stages the Mash image. -/
def execBootImageCommit (schema : Nat) (reads : List Nat) (fault : Nat) (s : State) : Res State :=
  .next (s.when (s.is .FLS_STATUS_READY && !s.fw.settings && s.frontFree) (fun s =>
    let r := s.readSettings schema reads fault
    let s := r.2
    let s : State := { s with fw := { s.fw with settings := true, booted := true } }
    if r.1 = 0 then s.showWear.stageBoot else s.set .FLS_BOOT_CAUSE r.1))

/-- Is the firmware that of a trial set, booted and not handed over to? -/
def State.onTrial (s : State) : Bool :=
  s.fw.booted && s.get .FLS_BOOT_STATE == 1 && !s.is .FLS_BOOT_FELL_BACK && s.get .FLS_BOOT_SRC == s.ptrActive

/-- BOOT_SETTLE (R406, R364). -/
def execBootSettle (s : State) : Res State :=
  let cause := s.get .FLS_BOOT_CAUSE
  .next (s.when (s.is .FLS_STATUS_READY && s.fw.settings && s.onTrial) (fun s =>
    if cause ≠ 0 then
      if cause = 4 ∧ s.fewDdr then s else s.writePointer s.ptrActive s.ptrPrev 2
    else if s.fullImage.isSome then
      ((s.writePointer s.ptrActive s.ptrPrev 0).set .FLS_BOOT_TRIES 0).off .FLS_BOOT_FELL_BACK
    else s))

/-- CASK_MIGRATION (R412): a complete new copy of the older settings in the firmware's own schema; the older records stay pinned. -/
def execCaskMigration (s : State) : Res State :=
  let old := s.get .CASK_SCHEMA_PINNED
  let cur := s.get .CASK_SCHEMA_CUR
  .next (s.when (!s.fwAway && s.get .CASK_STATUS_STATE == 2 && s.caskArray.isSome) (fun s =>
    let s := (s.caskKeys old).foldl (fun s k =>
      match s.caskLatest k.1 old k.2 with
      | some r => s.caskPut k.1 cur k.2 (Config.migrated k.1 old cur r.data)
      | none => s) s
    (s.set .CASK_STATUS_STATE 3).readBinds))

/-- Records dropped, and every sector left without a record by that erased. -/
def State.caskDrop (s : State) (gone : CaskRec → Bool) : State :=
  let hit := ((s.cask.filter gone).map (fun r => 256 * r.array + r.sector)).eraseDups
  let s : State := { s with cask := s.cask.filter (fun r => !gone r) }
  let s := hit.foldl (fun s k => if s.sectorErased (k / 256) (k % 256) then s.eraseSector (k / 256) (k % 256) else s) s
  s.showWear

/-- CASK_CONFIRM executed. -/
def State.caskConfirm (s : State) (h : Nat) (d : Desc) : State :=
  let cur := s.get .CASK_SCHEMA_CUR
  if d.p 0x10 1 = 0 then
    let s := s.caskDrop (fun r => r.kind != 1 && decide (r.schema < cur))
    ((s.set .CASK_SCHEMA_PINNED 0).set .CASK_STATUS_STATE 1).done h
  else
    let s := s.caskDrop (fun r => r.kind != 1 && r.schema == cur)
    let s := ((s.caskPut 2 cur 0 []).caskPut 5 cur 0 (List.replicate 4096 0)).writePointer s.ptrActive s.ptrPrev 0
    let s := ({ s with binds := [] } : State).set .CASK_STATUS_STATE 1
    ((s.set .FLS_BOOT_CAUSE 0).stageBoot).done h

/-- CASK_CONFIRM (R413). -/
def execCaskConfirm (d : Desc) (s : State) : Res State :=
  let mode := d.p 0x10 1
  let cause := s.get .FLS_BOOT_CAUSE
  let ok := if mode = 0 then s.get .CASK_STATUS_STATE == 3
    else decide (1 ≤ cause ∧ cause ≤ 3) && s.fullImage.isNone && s.frontFree && s.is .FLS_STATUS_READY
  .next (s.submit d
    { opcode := 0x0903, long := true, used := [(0x10, 1)], range := decide (mode ≤ 1), state := if ok then 0 else stBadState }
    (fun h s => s.firmware h (.caskConfirm d) (fun s => s.caskConfirm h d)))

/-! ## Fetch windows (R401) -/

/-- A write of FLS_XIP by the management cores; a window that closes lets deferred Cask writes go on (R411). -/
def State.xipWrite (s : State) (v : Nat) : State := ((s.setWindow 0 (bit v 0)).setWindow 1 (bit v 1)).caskFlush

/-- FLS_XIP_WRITE (R401): host writes are ignored. -/
def execFlsXipWrite (fw : Bool) (v : Nat) (s : State) : Res State := .next (s.when fw (fun s => s.reach .flash 0 (fun s => s.xipWrite v)))

/-! ## The warm hand-over (R407-R409) -/

/-- The firmware image an FW_HANDOVER names. -/
def State.handImage (s : State) (d : Desc) : List Byte :=
  let n := d.p 0x14 4
  if fwMax < n then [] else if d.p 0x10 1 = 1 then Memory.rds s.hostMem (d.p 0x18 8) n
  else if s.arrayUsed (d.p 0x11 1) then s.flashRd (d.p 0x11 1) 0x1000 n else []

/-- Does VERSION lie within the band of the Mash image in force? -/
def State.fwBand (s : State) (v : Nat) : Bool :=
  match s.fullImage with | some m => decide (m.fwMin ≤ v ∧ v ≤ m.fwMax) | none => true

/-- FW_HANDOVER (R407, R408): accepted, it opens the window of its source, and phases 1 and 2 run. -/
def execFwHandover (d : Desc) (s : State) : Res State :=
  let kind := d.p 0x10 1
  let arr := d.p 0x11 1
  let flags := d.p 0x12 1
  let n := d.p 0x14 4
  let addr := d.p 0x18 8
  let b := s.handImage d
  .next (s.submit d
    { opcode := 0x0904, long := true, used := [(0x10, 1), (0x11, 1), (0x12, 1), (0x14, 4), (0x18, 8)], sizes := [n],
      range := decide (kind ≤ 1 ∧ flags ≤ 1 ∧ n ≤ fwMax) &&
        (if kind = 0 then decide (arr ≤ 1) && addr == 0 else arr == 0 && flags == 0 && addr % 64 == 0),
      state := if s.fw.hand.isSome || s.get .MASH_STATUS_STATE == 4 then stBadState
        else if !s.fwOk b then stBadSignature
        else if !s.fwBand (fwVersion b) then stMismatch else 0 }
    (fun h s =>
      let src := if kind = 0 then arr else 2
      let s := (s.setWindow src true).checkpoint.fwLeaves
      State.on { s with fw := { s.fw with hand := some { handle := h, image := b, src := src, setBoot := bit flags 0,
                                                         old := s.get .FLS_BOOT_SRC } } } .FLS_STATUS_HANDOVER))

/-- A command that waited for firmware executed (R36). -/
def State.fwRun (s : State) (e : Nat × FwOp) : State :=
  match e.2 with
  | .jsaMap d => s.jsaMap e.1 d
  | .jsaUnmap d => s.jsaUnmap e.1 d
  | .barEnum d found => s.barEnum e.1 d found
  | .barBind d => s.barBind e.1 d
  | .barRelease d => s.barRelease e.1 d
  | .caskConfirm d => s.caskConfirm e.1 d
  | .coverage i m k u => s.coverageReport i m k u

/-- Firmware is back, unless something else still keeps it away: a checkpoint that fell due is made, and the commands that waited are
executed in fetch order (R36, R409). -/
def State.fwBack (s : State) : State :=
  if s.fwAway then s
  else
    let due := s.fw.ckptDue
    let l := s.fwDue
    let s : State := { s with fw := { s.fw with ckptDue := false }, fwDue := [], backAt := s.seq.next }
    l.foldl State.fwRun (if due then s.checkpoint else s)

/-- The hand-over is over. -/
def State.handEnd (s : State) : State := (State.off { s with fw := { s.fw with hand := none } } .FLS_STATUS_HANDOVER).fwBack

/-- The registers of PD130 that stand as the old firmware's hand-over block has them. -/
def Reg.handed (r : Reg) : Bool := [Block.flash, .cask, .hierarchy].contains r.desc.block

/-- PD130 reset (R42, R89, R409): images still with the front end are discarded, the telemetry logs emptied; `keep` tells which registers
stand. -/
def State.resetMgmt (s : State) (keep : Reg → Bool) : State :=
  let mine := fun (r : Reg) => r.desc.rst == .pd 130 && !keep r
  let s := match s.loading with
    | some x => if x.boot then s else s.finish x.handle stNotApplied
    | none => s
  let front := s.get .MASH_STATUS_STATE
  let s : State := { s with loading := none, telLog := [], snaps := [], lastSnap := [], hotMask := 0, supplies := [], supplyMask := 0,
                            regs := Tab.keep (fun k => !mine k.fld.desc.reg || k.stays) s.regs,
                            hiLatch := Tab.keep (fun k => !mine k.reg) s.hiLatch, loBuf := Tab.keep (fun k => !mine k.reg) s.loBuf }
  if front = 4 then s.set .MASH_STATUS_STATE 4 else s.frontIdle

/-- A hand-back (R409): PD130 is reset and the old firmware goes on; no pointer is written. -/
def State.handBack (s : State) (x : Handover) (detail : Nat) : State :=
  let s := s.resetMgmt Reg.handed
  let s := if x.src = x.old then s else (s.setWindow x.src false).caskFlush
  let s := (s.bump .FLS_HANDOVER_HANDBACKS).handEnd
  s.finish x.handle stCheckFailed 0 detail

/-- The firmware VERSION that device `i` now runs, checked against its band at the end of its hand-over (R344, R408). -/
def State.checkBand (s : State) (i v : Nat) : State :=
  match s.dev i with
  | some y =>
    let b := s.bind i
    (s.putDev { y with fw := v }).causeBit i hFW (b.bound && !(decide (b.fwMin ≤ v ∧ v ≤ b.fwMax)))
  | none => s

/-- HANDOVER_FREEZE (R344, R408, R409): the new firmware, of schema `schema` and reading `reads` besides, sets READY `ms` ms after the stop and
reads its settings. `told`: on a manager, a device under it has ended its hand-over and reports its index and VERSION. -/
def execHandoverFreeze (ms schema : Nat) (reads : List Nat) (fault : Nat) (s : State) (told : Option (Nat × Nat) := none) : Res State :=
  .next (match told, s.fw.hand with
  | some r, _ => s.when (s.manages && !s.fwAway) (fun s => s.checkBand r.1 r.2)
  | none, none => s
  | none, some x => s.when (decide (ms ≤ 200)) (fun s =>
      let was := s
      let s := (((s.bump .FLS_HANDOVER_COUNT).set .FLS_HANDOVER_LAST_MS ms).set .FLS_BOOT_SRC x.src).set .FLS_FW_VER_VERSION
        (fwVersion x.image)
      let r := s.readSettings schema reads fault
      if r.1 ≠ 0 then was.handBack x 2
      else
        let s := r.2
        let s : State := { s with fw := { s.fw with image := x.image, settings := true, booted := false } }
        let s := if x.old = x.src then s else (s.setWindow x.old false).caskFlush
        let s := if x.setBoot then
            (s.writePointer x.src (if x.old < 2 then x.old else s.ptrActive) 1).set .FLS_BOOT_TRIES 0
          else s
        let s := s.handEnd
        let me := s.myIndex
        let v := fwVersion x.image
        let s := if !s.is .BAR_STATUS_ENUMERATED then s
          else if s.manages then s.checkBand me v else s.out (.wort "firmware" [me, v])
        s.done x.handle (fwVersion x.image)))

/-- HANDOVER_TIMEOUT (R409): READY has not been set within 200 ms of the freeze. -/
def execHandoverTimeout (s : State) : Res State :=
  .next (match s.fw.hand with
  | none => s
  | some x => s.handBack x 1)

end Sys2Proof.Machine
end

