-- ==== Sys2Proof/Machine/Reset.lean ====
section
/-! DEFINITION. Reset sources and their reach, the head-safe sequence, the release sequence, the PLL, function-level reset, and the
errors that end in a reset (R39-R53, R89, R101, R217, R375, R385, R437). -/

namespace Sys2Proof.Machine

/-! ## What a reset leaves (R39, R382) -/

/-- Does a register field keep its value through a warm reset (R11, R12, R39)? -/
def State.warmKeeps (s : State) (k : FKey) : Bool :=
  match k.fld.desc.keep with
  | .kiln => s.kiln.isSome
  | .dom => k.fld.desc.reg.desc.rst == .aonPor
  | _ => true

/-- Does it keep its value through a power-on reset: a fuse? -/
def FKey.fuse (k : FKey) : Bool := k.fld.desc.keep == .fuse

/-- Does it keep its value while every switched domain is held in reset: what PD_AON holds, and what any reset leaves? -/
def FKey.aonKeeps (k : FKey) : Bool :=
  match k.fld.desc.reg.desc.rst with
  | .aon => true
  | .aonPor => true
  | _ => k.stays

/-- Every domain's balls at rest (R49). -/
def State.allRest (s : State) : State := s.each 132 State.restBalls

/-- The state of the switched domains lost; host memory, stores, DRAM, flash and the Kiln stand, with the register fields that pass and the
latches and buffers of the reset domains `half` names. Head power is cut (R227) and every ball rests (R49). -/
def State.lose (s : State) (keep : FKey → Bool) (half : Dom → Bool) : State :=
  let s := s.headsOff.allRest
  { State.reset with
    regs := Tab.keep keep s.regs, hiLatch := Tab.keep (fun k => half k.reg.desc.rst) s.hiLatch,
    loBuf := Tab.keep (fun k => half k.reg.desc.rst) s.loBuf, hostMem := s.hostMem, storeMem := s.storeMem, dram := s.dram, poison := s.poison, now := s.now,
    freeCtr := s.freeCtr, outbox := s.outbox, rdata := s.rdata, clock := s.clock, pllSeen := s.pllSeen, kiln := s.kiln, shots := s.shots,
    heads := s.heads.map (fun (e : Nat × HeadRec) => (e.1, { e.2 with warned := false })), flash := s.flash, cask := s.cask,
    erases := s.erases, pending := s.pending }

/-- The release sequence begins (R47, R48): with the PLL locked and no thermal hold, step 1 follows step 0 at once. -/
def State.begin_ (s : State) : State :=
  let lock := s.is .CLK_STATUS_CORE_LOCK
  let s := s.set .RST_STATUS_PLL_WAIT (b2n !lock)
  if lock && !s.is .RST_STATUS_THERM_HOLD then s.set .RST_STATUS_STEP 1 else s

/-- Each port that is up sends DOWN (R332). -/
def State.downAll (s : State) (cause : Nat) : State := s.each 4 (fun s p => s.sendDown p cause)

/-- The reset domain of a register that only a power-on reset resets (R10). -/
def Dom.por (d : Dom) : Bool := d == .aonPor

/-- The reset domains that a loss of the PLL does not reset: those of PD_AON (R53). -/
def Dom.always (d : Dom) : Bool := d == .aonPor || d == .aon

/-- A warm reset asserted (R39): the PLL runs on unless it must relock (R48), and a thermal hold stands until every sensor is cool. -/
def State.warmLose (s : State) (relock : Bool) : State :=
  let lock := s.is .CLK_STATUS_CORE_LOCK && !relock
  let hold := s.get .RST_STATUS_THERM_HOLD
  let s := s.lose s.warmKeeps Dom.por
  ((s.set .CLK_STATUS_CORE_LOCK (b2n lock)).set .RST_STATUS_THERM_HOLD hold).begin_

/-- A warm reset (R39): every port that is up sends DOWN (R332) first. -/
def State.warmReset (s : State) (relock : Bool) : State := (s.downAll 3).warmLose relock

/-- The straps latched (R45). -/
def State.latch (s : State) (straps : Nat) : State :=
  let s := (s.set .RST_STRAPS_BOOT_SRC straps).set .RST_STRAPS_CLK_MODE (straps / 4)
  (s.set .RST_STRAPS_ROLE (straps / 16)).set .CLK_STATUS_SRC (straps / 4)

/-- A power-on reset (R39): everything but what stands outside the device's logic: fuses, flash, and what the host holds. Every ball rests
(R49). -/
def State.powerOn (s : State) : State :=
  let s := s.allRest
  { State.reset with regs := Tab.keep FKey.fuse s.regs, hostMem := s.hostMem, storeMem := s.storeMem, flash := s.flash, cask := s.cask,
                     erases := s.erases, freeCtr := s.freeCtr, outbox := s.outbox, rdata := s.rdata, pending := s.pending }

/-- POWER_ON_RESET (R39, R45). -/
def execPowerOnReset (straps : Nat) (s : State) : Res State := .next (s.powerOn.latch straps).begin_

/-- RESET_N_RESET (R39, R45, R48): low for `ns` ns; of a pulse from 100 ns to 1 µs `taken` says whether it resets. -/
def execResetNReset (ns : Nat) (taken : Bool) (straps : Nat) (s : State) : Res State :=
  .next (s.when (decide (1000 ≤ ns) || (decide (100 ≤ ns) && taken)) (fun s =>
    let s := s.on .RST_CAUSE_PIN
    let moved := straps / 4 % 4 != s.get .RST_STRAPS_CLK_MODE
    (s.latch straps).warmReset moved))

/-- SOFTWARE_RESET (R39, R390): the counts are checkpointed first. -/
def State.softReset (s : State) : State := (s.checkpoint.on .RST_CAUSE_SW).warmReset false

/-- SOFTWARE_RESET (R39). -/
def execSoftwareReset (key : Nat) (s : State) : Res State := .next (s.when (key == 0xA5) State.softReset)

/-- WORT_RESET_REQUEST (R43, R332): a reset frame of `blocks` RESET blocks on port `p`. -/
def execWortResetRequest (p blocks : Nat) (s : State) : Res State :=
  .next (s.when (decide (4 ≤ blocks) && s.wortUp p) (fun s =>
    if (match s.upPort with | some u => u == p | none => !s.is .BAR_STATUS_ENUMERATED) then
      ((s.set .RST_CAUSE_INFO_WORT_PORT p).on .RST_CAUSE_WORT).warmReset false
    else s.telEvent 0x0005 p))

/-! ## The watchdog (R42) -/

/-- The management watchdog expires: PD130 alone is reset, or the whole device on a second expiry. -/
def State.watchdog (s : State) : State :=
  let s := s.on .RST_CAUSE_WDOG
  if s.wdogWait then s.warmReset false
  else
    let s := match s.fw.hand with | some x => s.finish x.handle stNotApplied | none => s
    let s := match s.loading with | some x => if x.boot then { s with loading := none } else s | none => s
    let s := s.resetMgmt (fun _ => false)
    { s.fwLeaves with wdogWait := true, fw := { ckptDue := s.fw.ckptDue }, devs := [], binds := [], upPort := none, upLost := false }

/-- WATCHDOG_EXPIRY (R42). -/
def execWatchdogExpiry (s : State) : Res State := .next (s.when (s.powered 130) State.watchdog)

/-- WDOG_OK (R42). -/
def execWdogOk (s : State) : Res State := .next (if s.wdogWait then State.fwBack { s with wdogWait := false } else s)

/-! ## The head-safe sequence (R40, R41) -/

/-- Up to tick 8: FIRE_N and HPWR_EN_N inactive, the steps held, STEP_OWN released. -/
def State.headStop (s : State) : State :=
  let s := s.each 64 (fun s c => if (s.chan c).firing.isSome then s.out (.pin "FIRE_N" c 0) else s)
  let s := s.headsOff
  let s := s.each 4 (fun s a => s.putB .MOT_STATUS_HELD a true)
  if s.trio.pulling then s.releaseOwn else s

/-- Has a channel a strobe in progress, which the sequence would cut? -/
def State.inStrobe (s : State) : Bool :=
  s.chans.any (fun e => match e.2.firing with | some f => f.inStrobe s.now | none => false)

/-- The whole sequence, and the warm reset at its tick 400: a line whose strobe ended early counts in FIRE_DROPPED after restart. -/
def State.headSafe (s : State) : State :=
  let cut := s.inStrobe
  let s := (s.headStop.downAll 1).warmLose false
  if cut then s.set .FIRE_DROPPED_COUNT 1 else s

/-- THERMAL_TRIP (R39, R40): release is held until every sensor is cool. -/
def execThermalTrip (sensor : Nat) (s : State) : Res State :=
  .next (s.when (decide (sensor < 40)) (fun s =>
    (((s.set .RST_CAUSE_INFO_THERM_SENSOR sensor).on .RST_CAUSE_THERM).on .RST_STATUS_THERM_HOLD).headSafe))

/-- THERMAL_RELEASE (R39): every sensor reads below 100 °C. -/
def execThermalRelease (s : State) : Res State :=
  .next (s.when (s.is .RST_STATUS_THERM_HOLD) (fun s => (s.off .RST_STATUS_THERM_HOLD).begin_))

/-- A critical-state error: unit 0 the firing sequencer, 1 the Kiln, 2 the trio state, 3 the queue manager. The Kiln's clears its state at
tick 0 (R41). -/
def State.critical (s : State) (unit : Nat) (dbe : Bool) : State :=
  let s := match unit with
    | 0 => s.on .RST_CAUSE_CRIT_FIRE
    | 1 =>
      let s := s.on .RST_CAUSE_CRIT_KILN
      { s with kiln := none, kilnWin := [], regs := Tab.keep (fun k => k.fld.desc.reg.desc.block != Block.kiln || k.fld == Fld.KILN_HPWR_ON_ON) s.regs }
    | 2 => s.on .RST_CAUSE_CRIT_TRIO
    | _ => s.on .RST_CAUSE_CRIT_QM
  (s.set .RST_CAUSE_INFO_CRIT_DBE (b2n dbe)).headSafe

/-- CRITICAL_STATE_ERROR (R40, R41). -/
def execCriticalStateError (unit : Nat) (dbe : Bool) (s : State) : Res State := .next (s.when (decide (unit < 4)) (fun s => s.critical unit dbe))

/-- SUPPLY_FAIL (R437): rail monitor `monitor` falls below power-good; the always-on rails, 10 and 11, take PD_AON with them. Power-on reset
is asserted with the straps as last latched, until they are sampled anew. -/
def execSupplyFail (monitor : Nat) (s : State) : Res State :=
  .next (s.when (decide (monitor < 32)) (fun s =>
    let straps := s.get .RST_STRAPS_BOOT_SRC + 4 * s.get .RST_STRAPS_CLK_MODE + 16 * s.get .RST_STRAPS_ROLE
    ((if monitor = 10 ∨ monitor = 11 then s else s.headStop).powerOn.latch straps).begin_))

/-! ## Release and the PLL (R46-R48, R53) -/

/-- The domains released at a step (R47). -/
def releaseDomains (step : Nat) : List Nat :=
  let span := fun a n => (List.range n).map (fun i => a + i)
  match step with
  | 2 => [130]
  | 3 => span 100 6
  | 4 => [131]
  | 5 => span 64 36
  | 14 => span 106 12
  | 15 => span 118 12
  | n => if 6 ≤ n ∧ n ≤ 13 then span (8 * (n - 6)) 8 else []

/-- A domain powered and released: it starts from its reset values, which it holds. The sequence releases every domain; an off request, written
while it runs or kept through a loss of the PLL, waits for its end (R47, R56, log entry 114). -/
def State.releaseDomain (s : State) (n : Nat) : State :=
  let s := s.setPower n true
  let s := if 100 ≤ n ∧ n < 106 then s.set .DDR_STATUS_STATE (if s.fenced 6 (n - 100) then ddrFenced else ddrTraining) (n - 100) else s
  if 64 ≤ n ∧ n < 100 ∧ n % 9 = 0 ∧ !s.fenced 5 ((n - 72) / 9) then s.wortTrain ((n - 72) / 9) 1 else s

/-- RELEASE_STEP (R47, R65): the boot set is written after PD131, and GRS_GEN is 2 before DONE. -/
def execReleaseStep (s : State) : Res State :=
  let n := s.get .RST_STATUS_STEP + 1
  .next (s.when (decide (2 ≤ n ∧ n ≤ 16) && s.is .CLK_STATUS_CORE_LOCK && !s.is .RST_STATUS_THERM_HOLD) (fun s =>
    let s := (releaseDomains n).foldl State.releaseDomain (s.set .RST_STATUS_STEP n)
    let s := if n = 4 then s.bootTable else s
    if n = 16 then (s.set .GRS_GEN_GEN 2).on .RST_STATUS_DONE else s))

/-- The core PLL has locked; a relock advances EPOCH and sets UNSYNC (R312). -/
def State.locked (s : State) : State :=
  let s := if s.pllSeen then s.newEpoch.on .TIME_STATUS_UNSYNC else s
  State.begin_ { (s.on .CLK_STATUS_CORE_LOCK).off .RST_STATUS_CLK_ABSENT with pllSeen := true }

/-- CORE_PLL_LOCK (R48). -/
def execCorePllLock (s : State) : Res State := .next (s.when (!s.is .CLK_STATUS_CORE_LOCK && !s.lolHold) State.locked)

/-- CLOCK_ABSENT_TIMEOUT (R46): the selected source is one the device receives. -/
def execClockAbsentTimeout (s : State) : Res State :=
  let m := s.get .RST_STRAPS_CLK_MODE
  .next (s.when (!s.is .CLK_STATUS_CORE_LOCK && (m == 1 || m == 2)) (fun s => s.on .RST_STATUS_CLK_ABSENT))

/-- PLL_LOSS_OF_LOCK (R53): the head-safe sequence, and every switched domain held in reset. -/
def execPllLossOfLock (s : State) : Res State :=
  .next (s.when (s.is .CLK_STATUS_CORE_LOCK) (fun s =>
    let wait := s.wdogWait
    let cut := s.inStrobe
    let s := (s.headStop.downAll 1).lose FKey.aonKeeps Dom.always
    let s := (((s.set .RST_STATUS_STEP 0).off .RST_STATUS_DONE).off .CLK_STATUS_CORE_LOCK).on .CLK_STATUS_LOL
    let s := (s.each 5 (fun s i => s.set .PWR_STATE_ON 0 0 i)).on .RST_STATUS_PLL_WAIT
    let s := if cut then s.set .FIRE_DROPPED_COUNT 1 else s
    { s with wdogWait := wait, lolHold := true, dram := [], poison := [], shots := [], heads := [] }))

/-- PLL_RELOCK (R53). -/
def execPllRelock (s : State) : Res State := .next (s.when s.lolHold (fun s => State.locked { s with lolHold := false }))

/-! ## Function-level and hot reset (R101) -/

/-- The slots as an FLR leaves them: what runs is dropped at its end, what is done and undelivered is dropped now. -/
def State.flrSlots (s : State) : State :=
  let mine := fun (x : Slot) => x.inUse && x.route != 3
  let due := s.pairs.flatMap (fun e => (e.2.overflow ++ e.2.held).filter (fun x => x.final && x.frees))
  let gone := fun (e : Nat × Slot) => mine e.2 && e.2.final && (e.2.held || due.any (fun x => x.handle == mkHandle e.2.gen e.1))
  let dead := s.slots.filter gone
  let s := dead.foldl (fun s e => if e.2.keep then s.setSlot e.1 { e.2 with held := false } else s.freeSlot e.1) s
  let s := s.bump .QM_FLR_DROPPED_COUNT dead.length
  { s with slots := s.slots.map (fun (e : Nat × Slot) => if mine e.2 && !e.2.final then (e.1, { e.2 with route := 2 }) else e), pairs := [] }

/-- A function-level reset (R101): the pairs disabled and their windows cleared, the queue manager's registers but QM_FLR_DROPPED at their
reset values, the vectors masked, and staged images whose line is open released. -/
def State.flr (s : State) : State :=
  let s := s.flrSlots.clear [.QM_CTRL_EN, .QM_STATUS_READY, .QM_STATUS_ERR, .QM_ASQ_BASE_BASE, .QM_ACQ_BASE_BASE, .QM_ADMIN_DEPTH_DEPTH,
    .QM_DB_ERR_COUNT, .QM_DB_ERR_LAST_QID, .QM_OVF_LAST_QID, .QM_OVF_LAST_COUNT, .QM_BAR4_BASE_BASE]
  let s : State := { s with msixOpen := [], msixPend := [], msixTab := [], turns := [] }
  s.staged.foldl (fun s x => if x.handle ≠ 0 ∧ s.mayAbort x then s.abortStaged x else s) s

/-- FLR (R101). -/
def execFlr (s : State) : Res State := .next (s.when (s.powered 131) State.flr)

/-- HOT_RESET (R101). -/
def execHotReset (s : State) : Res State := .next (s.when (s.powered 131) State.flr)

/-! ## The sequencer's copies (R217) -/

/-- The count of a copy's disagreements. -/
def voteCount (k : Nat) : Fld := [Fld.FIRE_VOTE_DIS_A, .FIRE_VOTE_DIS_B].getD k .FIRE_VOTE_DIS_C

/-- SEQUENCER_COPY_DISAGREE (R217): the copies of `mask` disagree with the majority, or show a parity error. -/
def execSequencerCopyDisagree (mask : Nat) (s : State) : Res State :=
  let off := s.get .FIRE_VOTE_MASKED
  let l := (List.range 3).filter (fun k => bit mask k && !bit off k)
  .next (s.when (s.powered 124) (fun s =>
    match l with
    | [] => s
    | [k] =>
      if off ≠ 0 then s.critical 0 false
      else
        let y := s.seq.next
        let last := look 0 s.seq.disagree k
        let s := s.bump (voteCount k)
        let s : State := { s with seq := { s.seq with disagree := store 0 s.seq.disagree k (y + 1) } }
        if last ≠ 0 ∧ y + 1 < last + 1024 then (s.putB .FIRE_VOTE_MASKED k true).on .FIRE_STATUS_DEGRADED else s
    | _ => s.critical 0 false))

/-! ## Memory errors (R375, R385) -/

/-- A staged image lost to poison (R375): its MASH_COMMIT, if any, completes NOT_APPLIED. -/
def State.loseStaged (s : State) (i : Nat) : State :=
  match s.staged[i]? with
  | some x => if x.handle = 0 then { s with staged := s.staged.filter (fun y => y.handle != 0) } else s.abortStaged x
  | none =>
    match s.loading with
    | some x =>
      if x.boot then State.frontIdle (s.set .FLS_BOOT_CAUSE 4) else (s.finish x.handle stCheckFailed).frontIdle
    | none => s

/-- What a poisoned burst does to its reader: 1 line `part` of channel `unit` on its way to the grant buffer, 2 a line of its reference
tail, 3 its block `part` in the intake queue, 4 staged image `part`, 5 archive frame `part`. -/
def State.poisoned (s : State) (hold unit part : Nat) : State :=
  let ch := s.chan unit
  match hold with
  | 1 => s.setChan unit { ch with lead := ch.lead.map (fun (l : Line) => if l.no = part then { l with bad := true } else l) }
  | 2 => s.setChan unit { ch with tail := ch.tail.map (fun (l : TailLine) => if l.no = part then { l with unfired := true } else l) }
  | 3 => match ch.intake[part]? with
    | some b => if b.passed then s else s.blockFailed (s.codecOf unit) unit 1 b
    | none => s
  | 4 => s.loseStaged part
  | 5 =>
    let n := (s.archive.frames.filter (fun f => f.frame == part)).length
    State.bump { s with archive := { s.archive with frames := s.archive.frames.filter (fun f => f.frame != part) } } .INT_ARCH_DROPPED_COUNT n
  | _ => s

/-- UNCORRECTABLE_BURST (R375): at channel address `x` of channel `i`, `both` copies where the region is mirrored; its reader as `poisoned`
has it. A mirrored burst lost makes firmware note it and reset the device. -/
def execUncorrectableBurst (i x : Nat) (both : Bool) (hold unit part : Nat) (s : State) : Res State :=
  .next (s.when (decide (i < 6 ∧ unit < 64 ∧ x < s.dmap.cap)) (fun s =>
    if s.fenced 6 i then s.poisoned hold unit part
    else s.when (s.ddrServes i) (fun s =>
      let mir := ((s.ddrHolds i (x / 64 * 64)).map s.dmap.mirrored).getD false
      let s := s.burstLost i x both
      if !mir then s.poisoned hold unit part
      else if both then
        let r := s.free
        (r.2.telEvent (r.1 % 65536) i).softReset
      else s)))

/-- A single-bit error of a tun corrected and counted (R160): source 1 an instruction store, 2 a local store, 3 the SRAM. -/
def State.tunCorrected (s : State) (t src m : Nat) : State :=
  ((s.bump .TUN_ECC_CORR 1 t).set .TUN_ECC_LAST_SRC src t).set .TUN_ECC_LAST_ENGINE m t

/-- SRAM_SCRUB (R385): a word with an error is read in memory 0 the SRAM of tun `unit`, 1 an engine store of it (`part` = 2 × engine, + 1
the local store), 2 the grant buffer of channel `unit` (`part` the line), 3 a codec instance, 4 a camera port, 5 the management SRAM,
6 the XIP cache. A single-bit error is corrected and counted; a double-bit error has the outcome the table gives. -/
def execSramScrub (memory unit part : Nat) (double : Bool) (s : State) : Res State :=
  .next (match memory with
  | 0 => s.when (decide (unit < 64) && s.powered unit) (fun s =>
      if double then s.faultTun unit 15 7 else s.tunCorrected unit 3 0)
  | 1 => s.when (decide (unit < 64 ∧ part < 32) && s.powered unit) (fun s =>
      if double then s.faultTun unit (part / 2) (5 + part % 2) else s.tunCorrected unit (1 + part % 2) (part / 2))
  | 2 => s.when (decide (unit < 64) && s.powered unit) (fun s =>
      if double then
        let ch := s.chan unit
        s.setChan unit { ch with grant := ch.grant.map (fun (l : Line) => if l.no = part then { l with bad := true } else l) }
      else s.bump .TEL_SCRUB_CORR)
  | 3 => s.when (decide (unit < 4) && s.powered (118 + unit)) (fun s =>
      if double then s.fenceCodec unit causeMem else s.bump .TEL_SCRUB_CORR)
  | 4 => s.when (decide (unit < 8) && s.powered (106 + unit)) (fun s =>
      if double then s.fenceCam unit causeMem else s.bump .TEL_SCRUB_CORR)
  | 5 => s.when (s.powered 130) (fun s => if double then s.watchdog else s.bump .TEL_SCRUB_CORR)
  | 6 => if double then s else s.bump .TEL_SCRUB_CORR
  | _ => s)

end Sys2Proof.Machine
end

