-- ==== Sys2Proof/Machine/Access.lean ====
section
/-! DEFINITION. Access to registers: what each field reads as, where an offset lies, 32-bit and 64-bit accesses with their latches and
buffers, the effects of writes (R10-R14, R63, R66, R115, R447), and the clears that no block's file holds. -/

namespace Sys2Proof.Machine

/-! ## What a field reads as -/

/-- The oldest transmit stamp of a port as it reads (R316). -/
def State.stamp0 (s : State) (p : Nat) : TxStamp :=
  (s.eth p).queue.headD { sec := 0, ns := 0, frac := 0, seq := 0, type := 0, epoch := 0, mac := false }

/-- The value of a field: what `regs` holds, or for a field that mirrors other state that state. -/
def State.view (s : State) (f : Fld) (i k : Nat) : Nat :=
  match f with
  | .GRS_TABLE_COUNT_COUNT => s.grist.length
  | .GRS_TABLE_CRC_CRC => tableCrc s.grist
  | .MASH_STATUS_STAGED => s.staged.length + b2n s.loading.isSome
  | .MASH_STATUS_WAITING => (s.sets.filter (fun x => x.line.isNone)).length
  | .MASH_STATUS_FULL_OK => b2n s.fullImage.isSome
  | .QM_STATUS_OPTAB_FULL => b2n (decide (slotCount ≤ s.slotsUsed))
  | .QM_OPTAB_IN_USE => s.slotsUsed
  | .UB_LEVEL_AVAIL => s.availShown i
  | .UB_LEVEL_HELD => b2n ((s.chan i).intake.any (fun b => decide (2 ≤ b.fails)) ||
      s.pages.any (fun p => p.open_ && p.faults.any (fun f => f.2 == 64 * s.get .BAR_STATUS_DEVICE + i)))
  | .GB_LEVEL_LINES => (s.chan i).grant.length
  | .JSA_MAPPED_EXTENTS => s.extents.length
  | .INT_ARCH_STATUS_FILL_PCT => s.archive.fill * 100 / max s.archive.size 1
  | .INT_ARCH_STATUS_EN => b2n (decide (0 < s.archive.size))
  | .INT_ARCH_STATUS_POLICY => s.archive.policy
  | .INT_ARCH_STATUS_HOLDING => b2n s.archive.holding
  | .CDC_STATUS_LANES_BUSY => laneMask (s.lanesBusy i)
  | .CDC_STATUS_ENC_BUSY => b2n !(s.enc i).rows.isEmpty
  | .CDC_STATUS_FENCED => b2n (s.fenced 3 i)
  | .TUN_STATUS_RUNNING => laneMask ((List.range 16).filter (fun m => (s.eng i m).running))
  | .TUN_STATUS_FENCED => b2n (s.fenced 2 i)
  | .FIRE_CH_STATUS_LOADED => b2n (s.frameReady i)
  | .SCR_SWITCH_LINE => (s.chan i).switch
  | .SCR_STATUS_BANK => (s.chan i).bank
  | .SCR_STATUS_PENDING => b2n (s.chan i).pendGen.isSome
  | .SCR_STATUS_SHADOW => b2n ((s.chan i).pendGen == some true)
  | .SCR_STATUS_GRAV_HELD => b2n (s.gravHeld i)
  | .SCR_STATUS_FREE => (s.freeSlots i).length
  | .SCR_OUT_OUT => popcount 2560 (s.outMask i (s.chan i).switch)
  | .SCR_OUT_BRIDGED => popcount 2560 (s.chan i).bridge
  | .SCR_BRIDGE_CTRL_APPLY => b2n (s.chan i).apply
  | .ISP_SHADOW_CTRL_APPLY => b2n ((List.range 8).any (fun x => s.pipeOf x == i && (s.cam x).apply))
  | .CDC_ENC_CTRL_FLUSH => b2n (s.enc i).flush
  | .VP_CTRL_COMMIT => s.get .VP_STATUS_PENDING
  | .WL_PORT_CTRL_RETRAIN => b2n (s.get .WL_PORT_STATUS_STATE i == 4)
  | .WL_LANE_STATUS_RETRAIN => b2n (s.wortUp (i / 9) &&
      (s.is .WL_LANE_STATUS_WAITING i || decide (2 ≤ s.get .WL_LANE_STATUS_STAGE i ∧ s.get .WL_LANE_STATUS_STAGE i ≤ 6)))
  | .VP_CTRL_REFRESH => b2n s.vp.refresh
  | .SCR_BRIDGE_CTRL_STAGED => b2n ((s.chan i).setReq != 0 || (s.chan i).clrReq != 0)
  | .SCR_BRIDGE_SET_NOZ => bits (s.chan i).bridge (32 * k) 32
  | .SCR_BRIDGE_CLR_NOZ => bits (s.chan i).clrReq (32 * k) 32
  | .FIRE_CH_STATUS_FENCED => b2n (s.fenced 1 i)
  | .KILN_STATUS_SEALED => b2n s.kiln.isSome
  | .KILN_SEAL_KEY_KEY_ID => match s.kiln with | some x => x.key | none => 0
  | .KILN_DIGEST_ID => match s.kiln with | some x => x.digest | none => 0
  | .CAM_STATUS_FENCED => b2n (s.fenced 7 i)
  | .CAM_STATUS_PENDING => (s.cam i).trigs.length
  | .ISP_RECAL_PORT => s.get f i k &&& s.get .ISP_STATUS_PORTS i
  | .GRAV_STATUS_REBIND => b2n !s.rebinds.isEmpty
  | .GRAV_CH_STATUS_HELD => b2n (s.gravHeld k || s.fenced 1 k || s.fenced 2 k)
  | .TIME_NS_STAMP => s.clock.stamp
  | .TIME_NS_B_STAMP => s.clock.stamp
  | .ETH_TXTS_STATUS_LEVEL => (s.eth i).queue.length
  | .ETH_TXTS_ENTRY0_NS => (s.stamp0 i).ns
  | .ETH_TXTS_ENTRY1_SEC_LO => (s.stamp0 i).sec % 2 ^ 32
  | .ETH_TXTS_ENTRY2_SEC_HI => (s.stamp0 i).sec / 2 ^ 32
  | .ETH_TXTS_ENTRY2_FRAC => (s.stamp0 i).frac
  | .ETH_TXTS_ENTRY3_SEQ_ID => (s.stamp0 i).seq
  | .ETH_TXTS_ENTRY3_MSG_TYPE => (s.stamp0 i).type
  | .ETH_TXTS_ENTRY3_EPOCH => (s.stamp0 i).epoch
  | .ETH_TXTS_ENTRY3_MAC => b2n (s.stamp0 i).mac
  | .ETH_TXTS_ENTRY3_VALID => b2n !(s.eth i).queue.isEmpty
  | .WL_LANE_STATUS_FENCED => b2n (s.fenced 4 i)
  | .WL_LANE_RETRAINS_HOUR => min (s.laneHour i) 255
  | .BAR_STATUS_ROLE => s.role
  | .BAR_STATUS_STATE => stateOf (s.is .BAR_STATUS_ENUMERATED) s.holdMask
  | .DDR_EVAC_PCT => s.evacPct i
  | .TRIO_STATUS_POS => s.pos
  | .TRIO_STATUS_STUCK => b2n (s.trio.pulling && !s.trio.drivers && decide (popcount 3 s.trio.yields < 2))
  | .TRIO_STATUS_CLK_BAD => b2n s.clkBad
  | .TEL_STATUS_SNAPS => s.snaps.length
  | .SPG_STATUS_WAITING =>
    b2n (s.is .SPG_CTRL_EN i && (s.is .DDR_STATUS_REPLAYING i || s.get .DDR_STATUS_STATE i == ddrSelf))
  | f => s.get f i k

/-- The value of a register: reserved bits and write-only fields contribute nothing; a self-clearing field reads 1 until its action is
complete, which for most is at once (R12, R13). -/
def State.regRead (s : State) (r : Reg) (i k : Nat) : Nat :=
  (r.fields.map (fun f =>
    if f.desc.access == .wo then 0 else (s.view f i k % 2 ^ f.desc.width) * 2 ^ f.desc.lo)).sum

/-! ## Where an offset lies (R13, R14, R60) -/

/-- What stands at a BAR0 offset: a half of a register, a byte of the entry table, a block that is moving, or nothing. -/
inductive Spot where
  | reg (r : Reg) (i k : Nat) (upper : Bool)
  | table (o : Nat)
  | moving
  | empty
  deriving DecidableEq, Repr

/-- The register of a block at an offset, its index, and which half. -/
def Block.at (b : Block) (i o : Nat) : Spot :=
  match b.regs.findSome? (fun r =>
    let d := r.desc
    let k := if d.stride = 0 then 0 else (o - d.off) / d.stride
    let x := if d.stride = 0 then o - d.off else (o - d.off) % d.stride
    if d.off ≤ o ∧ k < d.count ∧ (x = 0 ∨ (x = 4 ∧ d.width = 64)) then some (Spot.reg r i k (x == 4)) else none) with
  | some x => x
  | none => .empty

/-- Does an entry's range hold the offset? -/
def GEntry.holds (e : GEntry) (o : Nat) : Bool := decide (e.off ≤ o ∧ o < e.off + e.size)

/-- What stands at an offset now: a block not powered reads 0 and ignores writes (R14, R63). -/
def State.spot (s : State) (o : Nat) : Spot :=
  if o < 0x1000 then (if s.powered 131 then Block.grist.at 0 o else .empty)
  else if o < 0x2000 then Block.rcp.at 0 (o - 0x1000)
  else if o < tableEnd then (if s.powered 131 then .table o else .empty)
  else match s.grist.find? (fun e => e.holds o) with
  | some e =>
    if s.moving e.block e.inst then .moving
    else if s.blockOn e.block e.inst then e.block.at e.inst (o - e.off) else .empty
  | none => if s.gristDue.any (fun r => r.entries.any (fun e => e.holds o && s.moving e.block e.inst)) then .moving else .empty

/-! ## Reads -/

/-- In the odd period, does place `j` of the map read new? It is a free value (R66): places 0 to 3 the header's fields, 16 + n entry n. -/
def State.reads (s : State) (j : Nat) : Bool := !s.gristDue.isEmpty && (Config.freeValue (s.freeCtr + j)).toNat % 2 == 1

/-- After an access in the odd period further free values are to come. -/
def State.drawn (s : State) : State := if s.gristDue.isEmpty then s else { s with freeCtr := s.freeCtr + 4096 }

/-- A register as it reads now: in the odd period four header registers read old or new. -/
def State.regNow (s : State) (r : Reg) (i k : Nat) : Nat :=
  match r, s.gristDue with
  | .GRS_IMAGE_ID, x :: _ => if s.reads 0 then x.imageId else s.regRead r i k
  | .GRS_TABLE_COUNT, x :: _ => if s.reads 1 then x.entries.length + (s.regRead r i k - s.grist.length) else s.regRead r i k
  | .GRS_TABLE_CRC, x :: _ => if s.reads 2 then tableCrc x.entries else s.regRead r i k
  | .GRS_CAUSE, x :: _ => if s.reads 3 then x.cause else s.regRead r i k
  | _, _ => s.regRead r i k

/-- The table as it reads at entry `n`. -/
def State.tableNow (s : State) (n : Nat) : List GEntry :=
  match s.gristDue with
  | x :: _ => if s.reads (16 + n) then x.entries else s.grist
  | [] => s.grist

/-- The 32-bit word at an offset, read without any effect (R418). -/
def State.peek (s : State) (o : Nat) : Nat :=
  match s.spot o with
  | .reg r i k up => if up then s.regNow r i k / 2 ^ 32 else s.regNow r i k % 2 ^ 32
  | .table o => leNat ((List.range 4).map (fun j => s.tableByte (s.tableNow ((o - tableBase) / 32)) (o + j)))
  | _ => 0

/-- The order of latch and buffer keys. -/
def HalfKey.lt (a b : HalfKey) : Bool :=
  let n := fun (x : HalfKey) => ((x.reg.ctorIdx * 2 + b2n x.fw) * 1024 + x.inst) * 1024 + x.idx
  decide (n a < n b)

/-- What a read of a register does beyond returning it: the stamp's shadows (R310), the oldest transmit stamp taken (R316). -/
def State.readAct (s : State) (r : Reg) (i : Nat) (up : Bool) : State :=
  match r with
  | .TIME_NS => s.timeNsRead false
  | .TIME_NS_B => s.timeNsRead true
  | .ETH_TXTS_ENTRY3 => if up then s else s.txtsPop i
  | _ => s

/-- A 32-bit read (R10): the lower half of a 64-bit register live, its upper half latched in the same cycle; the upper half from the
latch. -/
def State.read32 (s : State) (fw : Bool) (o : Nat) : State :=
  match s.spot o with
  | .reg r i k false =>
    let v := s.regNow r i k
    let s : State := if r.desc.width = 64 then
      { s with hiLatch := Tab.put HalfKey.lt (fun _ => 0) s.hiLatch ⟨fw, r, i, k⟩ (v / 2 ^ 32) } else s
    State.drawn { s.readAct r i false with rdata := v % 2 ^ 32 }
  | .reg r i k true => { s with rdata := Tab.get (fun _ => 0) s.hiLatch ⟨fw, r, i, k⟩ }
  | .table _ => State.drawn { s with rdata := s.peek o }
  | .moving => State.stale { s with rdata := 0 }
  | .empty => { s with rdata := 0 }

/-- An 8-byte read (R10): both halves of a 64-bit register in one cycle; anywhere else two 32-bit reads in ascending order. -/
def State.read64 (s : State) (fw : Bool) (o : Nat) : State :=
  let pair := fun (s : State) =>
    let a := s.read32 fw o
    let b := a.read32 fw (o + 4)
    { b with rdata := a.rdata + 2 ^ 32 * b.rdata }
  match s.spot o with
  | .reg r i k false => if r.desc.width = 64 then State.drawn { s.readAct r i false with rdata := s.regNow r i k } else pair s
  | .moving => if o % 8 = 0 then State.stale { s with rdata := 0 } else pair s
  | _ => pair s

/-- Where BAR2 stands in the offsets of host accesses: behind the 256 MiB of BAR0 (R99, log entry 136). Firmware has no such window. -/
def bar2Base : Nat := 2 ^ 28

/-- REG64_LOWER_READ (R10): a read of 4 bytes at an offset, or with `wide` of 8. -/
def execReg64LowerRead (fw : Bool) (offset : Nat) (s : State) (wide : Bool := false) : Res State :=
  .next (s.when (offset % 4 == 0) (fun s =>
    if bar2Base ≤ offset then
      (if fw then s
       else { s with rdata := s.bar2Read (offset - bar2Base) + if wide then 2 ^ 32 * s.bar2Read (offset + 4 - bar2Base) else 0 })
    else if wide then s.read64 fw offset else s.read32 fw offset))

/-- TIME_NS_READ (R310): returns the stamp and, in the same tick, latches the shadows of the reader's own set. -/
def execTimeNsRead (fw : Bool) (s : State) : Res State := .next (s.reachRd .time 0 (fun s => s.timeNsRead fw))

/-- ETH_TXTS_ENTRY_POP (R316). -/
def execEthTxtsEntryPop (p : Nat) (s : State) : Res State := .next (s.reachRd .ethernet p (fun s => s.txtsPop p))

/-! ## Writes -/

/-- The state a command leads to. -/
def State.via (s : State) (r : Res State) : State := match r with | .next t => t | _ => s

/-- The bits of `fv` that `fm` writes over `old`. -/
def merge (old fv fm : Nat) : Nat := (old ^^^ (old &&& fm)) ||| (fv &&& fm)

/-- Fields whose writes have a rule of their own and are not simply stored. -/
def Fld.special (f : Fld) : Bool :=
  [Fld.PWR_REQ_ON, .PWR_PSTATE_REQ, .QM_CTRL_EN, .QM_BAR4_BASE_BASE, .QM_ASQ_BASE_BASE, .QM_ACQ_BASE_BASE, .CDC_ENC_CTRL_LEVEL, .FIRE_TRIG_COMP, .FIRE_CH_TRIM_CODE,
   .KILN_HPWR_REQ_REQ, .TIME_INCR_INCR, .TRIO_CFG_REVERT_LINES, .TRIO_CFG_REVERT_EN, .SPG_CTRL_PERIOD_H, .SPG_CTRL_EN, .FLS_XIP_FLA_EN,
   .FLS_XIP_FLB_EN, .FLS_HOSTLOAD_MASH_LEN, .VP_FB_BASE_ADDR].contains f

/-- One field written with the bits that `m` marks (R12, R447). -/
def State.writeField (s : State) (f : Fld) (i k v m : Nat) : State :=
  let d := f.desc
  let fm := bits m d.lo d.width
  let fv := bits v d.lo d.width
  if fm = 0 then s
  else match d.access with
  | .rw | .rws => if f.special then s else s.set f (merge (s.get f i k) fv fm) i k
  | .rwk => if s.kiln.isSome then s.on .KILN_STATUS_LOCK_WRITE else s.set f (merge (s.get f i k) fv fm) i k
  | .w1c => s.set f (merge (s.get f i k) 0 (fv &&& fm)) i k
  | _ => s

/-- EN 0 disconnects the service port (R415): it leaves its address and configuration, and a transfer in hand is abandoned. -/
def State.usbIdle (s : State) : State :=
  let s := if s.usb.open_ then s.bump .USB_COUNTS_ABANDONED else s
  let s : State := { s with usb := { s.usb with open_ := false, halted := false, test := 0 } }
  ((s.off .USB_STATUS_CONFIGURED).set .USB_STATUS_ADDRESS 0).off .USB_STATUS_SUSPENDED

/-- TUN_FAULT.CLR, TUN_ECC.CLR and TUN_SLICE_MAXm.CLR (R160, R166, R174). -/
def State.tunFaultClr (s : State) (t : Nat) : State :=
  s.clear [.TUN_FAULT_CODE, .TUN_FAULT_ENGINE, .TUN_FAULT_PC, .TUN_FAULT_COUNT, .TUN_FAULT_LINE_LINE] t
def State.tunEccClr (s : State) (t : Nat) : State := s.clear [.TUN_ECC_CORR, .TUN_ECC_LAST_SRC, .TUN_ECC_LAST_ENGINE] t
def State.sliceClr (s : State) (t m : Nat) : State := s.set .TUN_SLICE_MAX_CYCLES 0 t m

/-- What a write does beyond storing: `b x` says that bit x is written 1, `n` is the whole register as written, `m` marks the bits. -/
def State.act (s : State) (fw : Bool) (r : Reg) (i k v m : Nat) : State :=
  let old := s.regRead r i k
  let n := merge old v m
  let b := fun x => bit (v &&& m) x
  match r with
  | .RST_CTRL =>
    let s := if b 1 && s.wdogWait then State.fwBack { s with wdogWait := false } else s
    if b 0 && bits v 8 8 == 0xA5 then s.softReset else s
  | .PWR_REQ => s.pwrReq k n
  | .PWR_PSTATE => s.pstate (n % 4)
  | .GRS_STALE => if b 31 then s.via (execGrsStaleClr s) else s
  | .MASH_ERR => if b 31 then s.via (execMashErrClr s) else s
  | .QM_CTRL => if m % 2 = 1 then s.adminEnable (b 0) else s
  | .QM_DB_ERR => if b 31 then s.clear [.QM_DB_ERR_COUNT, .QM_DB_ERR_LAST_QID] else s
  | .QM_ASQ_BASE => s.set .QM_ASQ_BASE_BASE (n / 4096 * 4096)
  | .QM_ACQ_BASE => s.set .QM_ACQ_BASE_BASE (n / 4096 * 4096)
  | .QM_BAR4_BASE => s.set .QM_BAR4_BASE_BASE (n / 2 ^ 36 * 2 ^ 36)
  | .QM_FLR_DROPPED => if b 31 then s.clear [.QM_FLR_DROPPED_COUNT] else s
  | .UB_LATE_COUNT => if b 31 then s.via (execUbLateCountClr i s) else s
  | .INT_ARCH_DROPPED => if b 31 then s.via (execIntArchDroppedClr s) else s
  | .INT_FAULT_LOG => if b 31 then s.via (execIntFaultLogClr s) else s
  | .CDC_ENC_CTRL =>
    let s := if n % 16 < 10 then s.set .CDC_ENC_CTRL_LEVEL (n % 16) i else s
    if b Fld.CDC_ENC_CTRL_FLUSH.desc.lo then s.encFlush i else s
  | .CDC_FAIL => if b 31 then s.via (execCdcFailClr i s) else s
  | .TUN_FAULT => if b 31 then s.tunFaultClr i else s
  | .TUN_ECC => if b 31 then s.tunEccClr i else s
  | .TUN_SLICE_MAX => if b 31 then s.sliceClr i k else s
  | .SCR_BRIDGE_SET => s.bridgeSet i k (v &&& m)
  | .SCR_BRIDGE_CLR => s.bridgeClr i k (v &&& m)
  | .SCR_BRIDGE_CTRL => if b Fld.SCR_BRIDGE_CTRL_APPLY.desc.lo then s.bridgeApply i else s
  | .SCR_BRIDGE_LOST => if b Fld.SCR_BRIDGE_LOST_CLR.desc.lo then s.via (execScrBridgeLostClr i s) else s
  | .SCR_CLIP => if b Fld.SCR_CLIP_CLR.desc.lo then s.via (execScrClipClr i s) else s
  | .FIRE_DROPPED => if b Fld.FIRE_DROPPED_CLR.desc.lo then s.via (execFireDroppedClr s) else s
  | .FIRE_MISSED => if b Fld.FIRE_MISSED_CLR.desc.lo then s.via (execFireMissedClr s) else s
  | .FIRE_VOTE => if b Fld.FIRE_VOTE_CLR.desc.lo then s.via (execFireVoteClr s) else s
  | .FIRE_TRIG => if m % 2 ^ 16 = 0 then s else s.writeComp (n % 2 ^ 16)
  | .FIRE_CH_TRIM => if m % 2 ^ 12 = 0 then s else s.writeTrim i (n % 2 ^ 12)
  | .FIRE_CH_DROPPED => if b Fld.FIRE_CH_DROPPED_CLR.desc.lo then s.via (execFireChDroppedClr i s) else s
  | .KILN_HPWR_REQ => s.hpwrReq k n
  | .KILN_CLIP_LINES => if b Fld.KILN_CLIP_LINES_CLR.desc.lo then s.via (execKilnClipLinesClr s) else s
  | .KILN_UNSEALED => if b Fld.KILN_UNSEALED_CLR.desc.lo then s.via (execKilnUnsealedClr s) else s
  | .KILN_CH_CLIP => if b Fld.KILN_CH_CLIP_CLR.desc.lo then s.via (execKilnChClipClr k s) else s
  | .MOT_BS_COUNT => if b Fld.MOT_BS_COUNT_CLR.desc.lo then s.via (execMotBsCountClr s) else s
  | .MOT_REFUSED => if b Fld.MOT_REFUSED_CLR.desc.lo then s.via (execMotRefusedClr s) else s
  | .MOT_HARD_LINES => if b Fld.MOT_HARD_LINES_CLR.desc.lo then s.via (execMotHardLinesClr s) else s
  | .ENC_UNCMD => if b Fld.ENC_UNCMD_CLR.desc.lo then s.via (execEncUncmdClr s) else s
  | .ENC_AMP => if b Fld.ENC_AMP_CLR.desc.lo then s.via (execEncAmpClr k s) else s
  | .ENC_FAULT => if b Fld.ENC_FAULT_CLR.desc.lo then s.via (execEncFaultClr k s) else s
  | .CAM_LOST => if b Fld.CAM_LOST_CLR.desc.lo then s.via (execCamLostClr i s) else s
  | .CAM_PHY_ERR => if b Fld.CAM_PHY_ERR_CLR.desc.lo then s.via (execCamPhyErrClr i s) else s
  | .CAM_STALE => if b Fld.CAM_STALE_CLR.desc.lo then s.via (execCamStaleClr i s) else s
  | .ISP_SHADOW_CTRL => if b Fld.ISP_SHADOW_CTRL_APPLY.desc.lo then s.ispApply i else s
  | .GRAV_FOREIGN => if b Fld.GRAV_FOREIGN_CLR.desc.lo then s.via (execGravForeignClr s) else s
  | .GRAV_CH_COUNT => if b Fld.GRAV_CH_COUNT_CLR.desc.lo then s.via (execGravChCountClr k s) else s
  | .GRAV_CH_CTRL =>
    let s := if b Fld.GRAV_CH_CTRL_RESET_TRIALS.desc.lo then s.resetTrials k else s
    if b Fld.GRAV_CH_CTRL_CLEAR_WINDOW.desc.lo then (s.clearWindow k).showValid k else s
  | .SG_CTRL =>
    let s := s.sgForce (bits (v &&& m) Fld.SG_CTRL_FORCE.desc.lo 4)
    s.sgDisarm (bits (v &&& m) Fld.SG_CTRL_DISARM.desc.lo 4)
  | .SG_BUS => if b Fld.SG_BUS_CLR.desc.lo then s.via (execSgBusClr s) else s
  | .SG_VIOL => if b Fld.SG_VIOL_CLR.desc.lo then s.via (execSgViolClr k s) else s
  | .TIME_CMD =>
    if b Fld.TIME_CMD_LOAD.desc.lo then s.timeLoad (b Fld.TIME_CMD_ADJ.desc.lo) else if b Fld.TIME_CMD_ADJ.desc.lo then s.timeAdj else s
  | .TIME_INCR => s.timeIncr n
  | .ETH_TXTS_STATUS => if b 31 then s.clear [.ETH_TXTS_STATUS_OVF] i else s
  | .WL_PORT_CTRL => if b Fld.WL_PORT_CTRL_RETRAIN.desc.lo then s.wortRetrain i else s
  | .WL_PORT_ERR => if b Fld.WL_PORT_ERR_CLR.desc.lo then s.via (execWlPortErrClr i s) else s
  | .WL_LANE_STATUS => if b Fld.WL_LANE_STATUS_RETRAIN.desc.lo then s.laneRetrainWrite i else s
  | .WL_LANE_RETRAINS => if b Fld.WL_LANE_RETRAINS_CLR.desc.lo then s.via (execWlLaneRetrainsClr i s) else s
  | .TRIO_CFG => s.trioCfg n
  | .TRIO_EVENTS => if b Fld.TRIO_EVENTS_CLR.desc.lo then s.via (execTrioEventsClr s) else s
  | .BAR_RESYNC => if b Fld.BAR_RESYNC_CLR.desc.lo then s.via (execBarResyncClr s) else s
  | .BAR_COV_EVENTS => if b Fld.BAR_COV_EVENTS_CLR.desc.lo then s.via (execBarCovEventsClr s) else s
  | .DDR_ECC => if b Fld.DDR_ECC_CLR.desc.lo then s.via (execDdrEccClr i s) else s
  | .DDR_ALERT => if b Fld.DDR_ALERT_CLR.desc.lo then s.via (execDdrAlertClr i s) else s
  | .SPG_CTRL => s.spgCtrl i n
  | .SPG_FOUND => if b Fld.SPG_FOUND_CLR.desc.lo then s.via (execSpgFoundClr i s) else s
  | .FENCE_LAST => if b Fld.FENCE_LAST_CLR.desc.lo then s.via (execFenceLastClr s) else s
  | .TEL_STATUS => if b Fld.TEL_STATUS_CLR.desc.lo then s.via (execTelStatusClr s) else s
  | .TEL_SCRUB => if b Fld.TEL_SCRUB_CLR.desc.lo then s.via (execTelScrubClr s) else s
  | .TEL_TEMP => if b Fld.TEL_TEMP_CLR.desc.lo then s.via (execTelTempClr k s) else s
  | .FLS_XIP => if fw then s.xipWrite n else s
  | .FLS_HOSTLOAD => if m / 2 ^ 32 = 0 then s else s.hostLoad (n / 2 ^ 32)
  | .USB_CTRL => if s.is .USB_CTRL_EN then s else s.usbIdle
  | .USB_COUNTS => if b 31 then s.clear [.USB_COUNTS_ABANDONED, .USB_COUNTS_STALLS, .USB_COUNTS_EVT_LOST] else s
  | .VP_FB_BASE => s.set .VP_FB_BASE_ADDR (n / 4096 * 4096)
  | .VP_CTRL =>
    let s := if b Fld.VP_CTRL_COMMIT.desc.lo then s.vpCommit else s
    if b Fld.VP_CTRL_REFRESH.desc.lo then s.vpRefresh else s
  | .VP_CMD_CTRL => if b Fld.VP_CMD_CTRL_SEND.desc.lo then s.vpSend else s
  | .VP_COUNTS => if b Fld.VP_COUNTS_CLR.desc.lo then s.via (execVpCountsClr s) else s
  | _ => s

/-- A register written with the bits that `m` marks: each field under its access code, then what the write sets off. -/
def State.writeReg (s : State) (fw : Bool) (r : Reg) (i k v m : Nat) : State :=
  (r.fields.foldl (fun s f => s.writeField f i k v m) s).act fw r i k v m

/-- The low and the high 32 bits of a mask. -/
def loMask : Nat := 2 ^ 32 - 1
def hiMask : Nat := 2 ^ 64 - 2 ^ 32

/-- A 32-bit write by host software or firmware (R10). -/
def State.write32 (s : State) (fw : Bool) (o v : Nat) : State :=
  match s.spot o with
  | .reg r i k false =>
    if r.desc.width = 64 then
      { s with loBuf := Tab.put HalfKey.lt (fun _ => 0) s.loBuf ⟨fw, r, i, k⟩ (v % 2 ^ 32 + 1) }
    else s.writeReg fw r i k (v % 2 ^ 32) loMask
  | .reg r i k true =>
    let lo := Tab.get (fun _ => 0) s.loBuf ⟨fw, r, i, k⟩
    let s : State := { s with loBuf := Tab.erase s.loBuf ⟨fw, r, i, k⟩ }
    if lo = 0 then s.writeReg fw r i k (v % 2 ^ 32 * 2 ^ 32) hiMask
    else s.writeReg fw r i k (v % 2 ^ 32 * 2 ^ 32 + (lo - 1)) (hiMask + loMask)
  | .moving => s.stale
  | _ => s

/-- An 8-byte write (R10): both halves of a 64-bit register in one cycle; anywhere else two 32-bit writes in ascending order. -/
def State.write64 (s : State) (fw : Bool) (o v : Nat) : State :=
  let pair := fun (s : State) => (s.write32 fw o v).write32 fw (o + 4) (v / 2 ^ 32)
  match s.spot o with
  | .reg r i k false => if r.desc.width = 64 then s.writeReg fw r i k (v % 2 ^ 64) (hiMask + loMask) else pair s
  | .moving => if o % 8 = 0 then s.stale else pair s
  | _ => pair s

/-- REG64_LOWER_WRITE (R10). -/
def execReg64LowerWrite (fw : Bool) (offset v : Nat) (s : State) : Res State :=
  .next (match s.spot offset with
  | .reg r _ _ false => s.when (r.desc.width == 64) (fun s => s.write32 fw offset v)
  | .moving => s.stale
  | _ => s)

/-- REG64_UPPER_WRITE (R10). -/
def execReg64UpperWrite (fw : Bool) (offset v : Nat) (s : State) : Res State :=
  .next (match s.spot offset with
  | .reg _ _ _ true => s.write32 fw offset v
  | .moving => s.stale
  | _ => s)

/-- REGISTER_WRITE (R10, R12, R13, R66): `wide` an 8-byte access. -/
def execRegisterWrite (fw wide : Bool) (offset v : Nat) (s : State) : Res State :=
  .next (s.when (offset % 4 == 0) (fun s =>
    if bar2Base ≤ offset then
      (if fw then s
       else
         let s := s.bar2Write (offset - bar2Base) (v % 2 ^ 32)
         if wide then s.bar2Write (offset + 4 - bar2Base) (v / 2 ^ 32 % 2 ^ 32) else s)
    else if wide then s.write64 fw offset v else s.write32 fw offset v))

/-! ## The time counter's commands -/

/-- TIME_LOAD (R311). -/
def execTimeLoad (adj : Bool) (s : State) : Res State := .next (s.reach .time 0 (fun s => s.timeLoad adj))

/-- TIME_ADJUST (R311). -/
def execTimeAdjust (s : State) : Res State := .next (s.reach .time 0 State.timeAdj)

/-- TIME_INCR_WRITE (R311). -/
def execTimeIncrWrite (v : Nat) (s : State) : Res State := .next (s.reach .time 0 (fun s => s.timeIncr v))

/-! ## Clears -/

/-- TUN_FAULT_CLR (R174). -/
def execTunFaultClr (t : Nat) (s : State) : Res State := .next (s.reach .tun t (fun s => s.tunFaultClr t))

/-- TUN_ECC_CLR (R160). -/
def execTunEccClr (t : Nat) (s : State) : Res State := .next (s.reach .tun t (fun s => s.tunEccClr t))

/-- TUN_SLICE_MAX_CLR (R166). -/
def execTunSliceMaxClr (t m : Nat) (s : State) : Res State :=
  .next (s.when (decide (m < 16)) (fun s => s.reach .tun t (fun s => s.sliceClr t m)))

/-- ETH_TXTS_CLR (R316). -/
def execEthTxtsClr (p : Nat) (s : State) : Res State :=
  .next (s.reach .ethernet p (fun s => s.clear [.ETH_TXTS_STATUS_OVF] p))

/-- QM_DB_ERR_CLR (R104). -/
def execQmDbErrClr (s : State) : Res State :=
  .next (s.reach .qm 0 (fun s => s.clear [.QM_DB_ERR_COUNT, .QM_DB_ERR_LAST_QID]))

/-- QM_FLR_DROPPED_CLR (R101). -/
def execQmFlrDroppedClr (s : State) : Res State :=
  .next (s.reach .qm 0 (fun s => s.clear [.QM_FLR_DROPPED_COUNT]))

/-- USB_COUNTS_CLR (R420). -/
def execUsbCountsClr (s : State) : Res State :=
  .next (s.reach .usb 0 (fun s => s.clear [.USB_COUNTS_ABANDONED, .USB_COUNTS_STALLS, .USB_COUNTS_EVT_LOST]))

end Sys2Proof.Machine
end

