-- ==== Sys2Proof/Machine/Usb.lean ====
section
/-! DEFINITION. The USB service port (R415-R422): standard and vendor requests on EP0, the gated register writes, the event queue of EP1.
Where the spec leaves descriptor bytes and corners of USB 2.0 open the choice is log entry 104. -/

namespace Sys2Proof.Machine

/-! ## The port -/

/-- The port is connected: powered, enabled, VBUS present, and not in a test mode, which only a power cycle ends (R415). -/
def State.usbLive (s : State) : Bool := s.powered 129 && s.is .USB_CTRL_EN && s.is .USB_STATUS_VBUS && s.usb.test == 0

/-- The bus can carry a transaction. -/
def State.usbOn (s : State) : Bool := s.usbLive && !s.is .USB_STATUS_SUSPENDED

/-- A control transfer in hand is abandoned and counted (R420). -/
def State.usbAbandon (s : State) : State :=
  if s.usb.open_ then State.bump { s with usb := { s.usb with open_ := false } } .USB_COUNTS_ABANDONED else s

/-- STALL on EP0, counted. -/
def State.usbStall (s : State) : State := (s.bump .USB_COUNTS_STALLS).out (.reply "STALL" [])

/-- Data returned on EP0, cut at the length asked for. -/
def State.usbData (s : State) (len : Nat) (bs : List Byte) : State := s.out (.reply "EP0" ((bs.take len).map (·.toNat)))

/-- A request on EP0: NAK while words of a REG_WRITE wait to be applied (R419), else a transfer in hand is abandoned (R420) and the request
is served. -/
def State.usbRequest (s : State) (f : State → State) : State :=
  s.when s.usbOn (fun s => if s.usb.due.isEmpty then f s.usbAbandon else s.out (.reply "NAK" []))

/-- USB_ATTACH (R415). -/
def execUsbAttach (s : State) : Res State := .next (s.when (s.powered 129) (fun s => s.on .USB_STATUS_VBUS))

/-- USB_SUSPEND (R415). -/
def execUsbSuspend (s : State) : Res State := .next (s.when s.usbOn (fun s => s.on .USB_STATUS_SUSPENDED))

/-- USB_RESUME (R415). -/
def execUsbResume (s : State) : Res State := .next (s.when s.usbLive (fun s => s.off .USB_STATUS_SUSPENDED))

/-- USB_BUS_RESET (R420): the transfer abandoned, the EP1 queue emptied, the default address; `hs` the speed of the handshake that follows. -/
def execUsbBusReset (hs : Bool) (s : State) : Res State :=
  .next (s.when s.usbLive (fun s =>
    let s := s.usbAbandon
    let s : State := { s with ep1 := [], usb := { s.usb with halted := false } }
    (((s.set .USB_STATUS_ADDRESS 0).off .USB_STATUS_CONFIGURED).off .USB_STATUS_SUSPENDED).set .USB_STATUS_HS (b2n hs)))

/-- USB_DETACH (R420): VBUS is lost. -/
def execUsbDetach (s : State) : Res State :=
  .next (s.when (s.powered 129 && s.is .USB_STATUS_VBUS) (fun s => (s.usbIdle.off .USB_STATUS_VBUS).off .USB_STATUS_HS))

/-- USB_SETUP_ABANDON (R420). -/
def execUsbSetupAbandon (s : State) : Res State := .next (s.when s.usbOn (fun s => s.usbAbandon))

/-- EP1_IN_TRANSACTION (R422): the oldest event is sent and removed. -/
def execEp1InTransaction (s : State) : Res State :=
  .next (s.when (s.usbOn && s.is .USB_STATUS_CONFIGURED && !s.usb.halted) (fun s =>
    match s.ep1 with
    | e :: rest => State.out { s with ep1 := rest } (.reply "EP1" (e.bytes.map (·.toNat)))
    | [] => s))

/-! ## Vendor requests (R417) -/

/-- A register's value in its width, 0 where its block has no power (R14). -/
def State.usbReg (s : State) (r : Reg) : List Byte :=
  leBytes (r.desc.width / 8) (if s.blockOn r.desc.block 0 then s.regNow r 0 0 else 0)

/-- GET_INFO (R417). -/
def execGetInfo (value index len : Nat) (s : State) : Res State :=
  .next (s.usbRequest (fun s =>
    if value = 0 ∧ index = 0 ∧ len = 64 then
      let bs := [Reg.GRS_DEVICE, .BAR_SELF_ID, .RST_STRAPS, .FLS_FW_VER, .MASH_COMPOSITE, .GRS_GEN, .FLS_BOOT, .BAR_STATUS].flatMap s.usbReg
      s.usbData 64 (bs ++ List.replicate (64 - bs.length) 0)
    else s.usbStall))

/-- Does a request name words of BAR0: an offset of a multiple of 4 and a length from 4 to `most`, a multiple of 4 (R417)? -/
def wordsOk (offset len most : Nat) : Bool :=
  decide (offset < 2 ^ 32 ∧ offset % 4 = 0 ∧ 4 ≤ len ∧ len ≤ most ∧ len % 4 = 0)

/-- USB_REG_READ (R417, R418): reads without any side effect; a word of a moving block is counted as R66 says. -/
def execUsbRegRead (offset len : Nat) (s : State) : Res State :=
  .next (s.usbRequest (fun s =>
    if wordsOk offset len 4096 then
      let places := (List.range (len / 4)).map (fun j => offset + 4 * j)
      let t := places.foldl (fun (x : State) o => if x.spot o == .moving then x.stale else x) s
      State.drawn (t.usbData len (places.flatMap (fun o => leBytes 4 (s.peek o))))
    else s.usbStall))

/-- USB_REG_WRITE (R417, R419): `status` the status stage arrived; the gate is sampled there, and the words wait to be applied. -/
def execUsbRegWrite (offset len : Nat) (words : List Nat) (status : Bool) (s : State) : Res State :=
  .next (s.usbRequest (fun s =>
    if !(wordsOk offset len 256 && words.length == len / 4) then s.usbStall
    else if !status then { s with usb := { s.usb with open_ := true } }
    else if s.is .USB_CTRL_SVC_WRITE then
      State.out { s with usb := { s.usb with due := words.zipIdx.map (fun x => (offset + 4 * x.2, x.1 % 2 ^ 32)) } } (.reply "ACK" [])
    else s.usbStall))

/-- One word of a REG_WRITE applied: a half of a 64-bit register alone, no write buffer used, USB_CTRL left as it is (R419). -/
def State.svcWord (s : State) (o v : Nat) : State :=
  match s.spot o with
  | .reg r i k up =>
    if r == .USB_CTRL then s
    else if up then s.writeReg false r i k (v * 2 ^ 32) hiMask else s.writeReg false r i k v loMask
  | .moving => s.stale
  | _ => s

/-- The words of a REG_WRITE in ascending order, both halves of a 64-bit register in one write (R419). -/
def State.svcWords : State → List (Nat × Nat) → State
  | s, [] => s
  | s, [x] => s.svcWord x.1 x.2
  | s, x :: y :: rest =>
    match s.spot x.1, s.spot y.1 with
    | .reg r i k false, .reg _ _ _ true => (s.writeReg false r i k (x.2 + y.2 * 2 ^ 32) (hiMask + loMask)).svcWords rest
    | _, _ => (s.svcWord x.1 x.2).svcWords (y :: rest)

/-- USB_REG_WRITE_APPLY (R419, R421). -/
def execUsbRegWriteApply (s : State) : Res State :=
  .next (s.when (s.powered 129) (fun s => State.svcWords { s with usb := { s.usb with due := [] } } s.usb.due))

/-- TEL_PEEK (R417): the latest snapshot stays; before the first one there is none, and the bytes returned are free values (log entry 6). -/
def execTelPeek (value index len : Nat) (s : State) : Res State :=
  .next (s.usbRequest (fun s =>
    if value = 0 ∧ index = 0 ∧ len = 1024 then
      if s.lastSnap.isEmpty then
        State.usbData { s with freeCtr := s.freeCtr + 1024 } 1024
          ((List.range 1024).map (fun j => (Config.freeValue (s.freeCtr + j)).setWidth 8))
      else s.usbData 1024 s.lastSnap
    else s.usbStall))

/-! ## Standard requests (R416) -/

/-- The serial-number string: BAR_SELF_ID as 16 uppercase hex digits. -/
def State.usbSerial (s : State) : List Byte :=
  let id := leNat (s.usbReg .BAR_SELF_ID)
  (List.range 16).flatMap (fun j =>
    let d := bits id (60 - 4 * j) 4
    leBytes 2 (if d < 10 then 0x30 + d else 0x37 + d))

/-- The device descriptor. -/
def State.usbDevDesc (s : State) : List Byte :=
  let bcd := 0x100 * (s.get .GRS_DEVICE_STEP_LETTER - 0x40) + (s.get .GRS_DEVICE_STEP_DIGIT - 0x30)
  [18, 1, 0x00, 0x02, 0, 0, 0, 64] ++ leBytes 2 (s.get .USB_ID_VID) ++ leBytes 2 (s.get .USB_ID_PID) ++ leBytes 2 bcd ++ [0, 0, 1, 1]

/-- The configuration with its one interface and EP1, as type `t` gives it for a speed. -/
def usbCfgDesc (t : Nat) (hs : Bool) : List Byte :=
  [9, BitVec.ofNat 8 t, 25, 0, 1, 1, 0, 0xC0, 0, 9, 4, 0, 0, 1, 0xFF, 0, 0, 0, 7, 5, 0x81, 3, 16, 0, if hs then 4 else 1]

/-- The descriptor asked for, if there is one. -/
def State.usbDesc (s : State) (value : Nat) : Option (List Byte) :=
  match value / 256, value % 256 with
  | 1, 0 => some s.usbDevDesc
  | 2, 0 => some (usbCfgDesc 2 (s.is .USB_STATUS_HS))
  | 3, 0 => some [4, 3, 0x09, 0x04]
  | 3, 1 => some ([34, 3] ++ s.usbSerial)
  | 6, 0 => some [10, 6, 0x00, 0x02, 0, 0, 0, 64, 1, 0]
  | 7, 0 => some (usbCfgDesc 7 (!s.is .USB_STATUS_HS))
  | _, _ => none

/-- A standard request, by its type and number; anything not listed is answered with STALL. -/
def State.usbStandard (s : State) (type request value index len : Nat) : State :=
  let cfg := s.is .USB_STATUS_CONFIGURED
  let addressed := s.get .USB_STATUS_ADDRESS != 0
  let ack := fun (x : State) => x.out (.reply "ACK" [])
  let ask := fun (c : Bool) (bs : List Byte) => if c && len != 0 then s.usbData len bs else s.usbStall
  let go := fun (c : Bool) (x : State) => if c && len == 0 then ack x else s.usbStall
  let halt := fun (h : Bool) => if index == 0x81 then ({ s with usb := { s.usb with halted := h } } : State) else s
  match request, type with
  | 0, 0x80 => ask (value == 0 && index == 0) [1, 0]
  | 0, 0x81 => ask (cfg && value == 0 && index == 0) [0, 0]
  | 0, 0x82 => ask (value == 0 && (index % 128 == 0 || (index == 0x81 && cfg))) [if index == 0x81 && s.usb.halted then 1 else 0, 0]
  | 1, 2 => go (value == 0 && (index % 128 == 0 || (index == 0x81 && cfg))) (halt false)
  | 3, 2 => go (value == 0 && (index % 128 == 0 || (index == 0x81 && cfg))) (halt true)
  | 3, 0 => go (value == 2 && index % 256 == 0 && decide (1 ≤ index / 256 ∧ index / 256 ≤ 5))
      { s with usb := { s.usb with test := index / 256 } }
  | 5, 0 => go (decide (value < 128) && index == 0 && !cfg) (s.set .USB_STATUS_ADDRESS value)
  | 6, 0x80 => match s.usbDesc value with | some bs => ask true bs | none => s.usbStall
  | 8, 0x80 => ask (value == 0 && index == 0) [if cfg then 1 else 0]
  | 9, 0 => go (addressed && decide (value < 2) && index == 0)
      (State.set { s with usb := { s.usb with halted := false } } .USB_STATUS_CONFIGURED value)
  | 10, 0x81 => ask (cfg && value == 0 && index == 0) [0]
  | 11, 1 => go (cfg && value == 0 && index == 0) { s with usb := { s.usb with halted := false } }
  | _, _ => s.usbStall

/-- USB_STANDARD_REQUEST (R416). -/
def execUsbStandardRequest (type request value index len : Nat) (s : State) : Res State :=
  .next (s.usbRequest (fun s => s.usbStandard type request value index len))

end Sys2Proof.Machine
end

