-- ==== Sys2Proof/Machine/Dispatch.lean ====
section
/-! DEFINITION. Dispatch: one arm per command, each one direct call of its meaning. -/

namespace Sys2Proof.Machine

def exec (i : Instr) (s : State) : Host.Outcome State Fault Refusal :=
  match i with
  | .powerOnReset straps => Sys2Proof.Machine.execPowerOnReset straps s
  | .resetNReset ns taken straps => Sys2Proof.Machine.execResetNReset ns taken straps s
  | .watchdogExpiry => Sys2Proof.Machine.execWatchdogExpiry s
  | .wdogOk => Sys2Proof.Machine.execWdogOk s
  | .softwareReset key => Sys2Proof.Machine.execSoftwareReset key s
  | .wortResetRequest p blocks => Sys2Proof.Machine.execWortResetRequest p blocks s
  | .thermalTrip sensor => Sys2Proof.Machine.execThermalTrip sensor s
  | .thermalRelease => Sys2Proof.Machine.execThermalRelease s
  | .criticalStateError unit dbe => Sys2Proof.Machine.execCriticalStateError unit dbe s
  | .releaseStep => Sys2Proof.Machine.execReleaseStep s
  | .corePllLock => Sys2Proof.Machine.execCorePllLock s
  | .clockAbsentTimeout => Sys2Proof.Machine.execClockAbsentTimeout s
  | .pllLossOfLock => Sys2Proof.Machine.execPllLossOfLock s
  | .pllRelock => Sys2Proof.Machine.execPllRelock s
  | .supplyFail monitor => Sys2Proof.Machine.execSupplyFail monitor s
  | .pwrReqWrite n v => Sys2Proof.Machine.execPwrReqWrite n v s
  | .domainSwitch => Sys2Proof.Machine.execDomainSwitch s
  | .pstateRequest v => Sys2Proof.Machine.execPstateRequest v s
  | .pstateTransitionDone => Sys2Proof.Machine.execPstateTransitionDone s
  | .reg64LowerRead fw offset wide => Sys2Proof.Machine.execReg64LowerRead fw offset s wide
  | .reg64LowerWrite fw offset v => Sys2Proof.Machine.execReg64LowerWrite fw offset v s
  | .reg64UpperWrite fw offset v => Sys2Proof.Machine.execReg64UpperWrite fw offset v s
  | .registerWrite fw wide offset v => Sys2Proof.Machine.execRegisterWrite fw wide offset v s
  | .gristRewrite => Sys2Proof.Machine.execGristRewrite s
  | .grsStaleClr => Sys2Proof.Machine.execGrsStaleClr s
  | .nop d => Sys2Proof.Machine.execNop d s
  | .queueCreate d => Sys2Proof.Machine.execQueueCreate d s
  | .queueDelete d => Sys2Proof.Machine.execQueueDelete d s
  | .queueResume d => Sys2Proof.Machine.execQueueResume d s
  | .handleQuery d => Sys2Proof.Machine.execHandleQuery d s
  | .copy d => Sys2Proof.Machine.execCopy d s
  | .mashStage d => Sys2Proof.Machine.execMashStage d s
  | .mashCommit d others => Sys2Proof.Machine.execMashCommit d s others
  | .mashAbort d => Sys2Proof.Machine.execMashAbort d s
  | .mashRbAdvance d => Sys2Proof.Machine.execMashRbAdvance d s
  | .mashReceiveDone => Sys2Proof.Machine.execMashReceiveDone s
  | .mashCheckDone => Sys2Proof.Machine.execMashCheckDone s
  | .fullCommitApply => Sys2Proof.Machine.execFullCommitApply s
  | .bootImageCommit schema reads fault => Sys2Proof.Machine.execBootImageCommit schema reads fault s
  | .commitLineFinal offers agree given => Sys2Proof.Machine.execCommitLineFinal s offers agree given
  | .changeSetStageSwitch type index => Sys2Proof.Machine.execChangeSetStageSwitch type index s
  | .changeSetInForce => Sys2Proof.Machine.execChangeSetInForce s
  | .changeSetDeadlineMissed => Sys2Proof.Machine.execChangeSetDeadlineMissed s
  | .gapSectionApply type index => Sys2Proof.Machine.execGapSectionApply type index s
  | .backstepAssistedApply => Sys2Proof.Machine.execBackstepAssistedApply s
  | .sqTailDoorbell n v => Sys2Proof.Machine.execSqTailDoorbell n v s
  | .cqHeadDoorbell n v => Sys2Proof.Machine.execCqHeadDoorbell n v s
  | .qmCtrlEnWrite en => Sys2Proof.Machine.execQmCtrlEnWrite en s
  | .flr => Sys2Proof.Machine.execFlr s
  | .hotReset => Sys2Proof.Machine.execHotReset s
  | .completionDue handle status result detail => Sys2Proof.Machine.execCompletionDue handle status result detail s
  | .cqAggTimeout n => Sys2Proof.Machine.execCqAggTimeout n s
  | .msixUnmask v => Sys2Proof.Machine.execMsixUnmask v s
  | .jsaMap d told => Sys2Proof.Machine.execJsaMap d s told
  | .jsaUnmap d told => Sys2Proof.Machine.execJsaUnmap d s told
  | .unmapComplete handle elsewhere told => Sys2Proof.Machine.execUnmapComplete handle s elsewhere told
  | .pageSubmit d told => Sys2Proof.Machine.execPageSubmit d s told
  | .pageCancel d elsewhere told => Sys2Proof.Machine.execPageCancel d elsewhere s told
  | .pageComplete id fired => Sys2Proof.Machine.execPageComplete id fired s
  | .pageFault id cause bar line strip block slot => Sys2Proof.Machine.execPageFault id cause bar line strip block s slot
  | .blockSend id plane strip again counts => Sys2Proof.Machine.execBlockSend id plane strip s again counts
  | .intakeCreditGrant dev c n intake => Sys2Proof.Machine.execIntakeCreditGrant dev c n intake s
  | .blockArrival c x => Sys2Proof.Machine.execBlockArrival c x s
  | .grantRefill c => Sys2Proof.Machine.execGrantRefill c s
  | .dataLateReport slot line => Sys2Proof.Machine.execDataLateReport slot line s
  | .archiveSetup d => Sys2Proof.Machine.execArchiveSetup d s
  | .archiveRead d => Sys2Proof.Machine.execArchiveRead d s
  | .archiveFrameWrite x => Sys2Proof.Machine.execArchiveFrameWrite x s
  | .ubLateCountClr c => Sys2Proof.Machine.execUbLateCountClr c s
  | .intArchDroppedClr => Sys2Proof.Machine.execIntArchDroppedClr s
  | .intFaultLogClr => Sys2Proof.Machine.execIntFaultLogClr s
  | .blockDecodeStart c => Sys2Proof.Machine.execBlockDecodeStart c s
  | .blockCheckDone i0 j => Sys2Proof.Machine.execBlockCheckDone i0 j s
  | .blockRelease c => Sys2Proof.Machine.execBlockRelease c s
  | .archiveBlockClose x => Sys2Proof.Machine.execArchiveBlockClose x s
  | .cdcEncFlush i0 => Sys2Proof.Machine.execCdcEncFlush i0 s
  | .cdcFailClr i0 => Sys2Proof.Machine.execCdcFailClr i0 s
  | .sliceStart t m => Sys2Proof.Machine.execSliceStart t m s
  | .engineNop t m => Sys2Proof.Machine.execEngineNop t m s
  | .jmp t m => Sys2Proof.Machine.execJmp t m s
  | .jnz t m => Sys2Proof.Machine.execJnz t m s
  | .jz t m => Sys2Proof.Machine.execJz t m s
  | .loop t m => Sys2Proof.Machine.execLoop t m s
  | .call t m => Sys2Proof.Machine.execCall t m s
  | .ret t m => Sys2Proof.Machine.execRet t m s
  | .endl t m cycles => Sys2Proof.Machine.execEndl t m cycles s
  | .trap t m => Sys2Proof.Machine.execTrap t m s
  | .sadd t m => Sys2Proof.Machine.execSadd t m s
  | .ssub t m => Sys2Proof.Machine.execSsub t m s
  | .smov t m => Sys2Proof.Machine.execSmov t m s
  | .sand t m => Sys2Proof.Machine.execSand t m s
  | .sor t m => Sys2Proof.Machine.execSor t m s
  | .sshl t m => Sys2Proof.Machine.execSshl t m s
  | .sshr t m => Sys2Proof.Machine.execSshr t m s
  | .smul t m => Sys2Proof.Machine.execSmul t m s
  | .srd t m => Sys2Proof.Machine.execSrd t m s
  | .vadd t m => Sys2Proof.Machine.execVadd t m s
  | .vsub t m => Sys2Proof.Machine.execVsub t m s
  | .vmin t m => Sys2Proof.Machine.execVmin t m s
  | .vmax t m => Sys2Proof.Machine.execVmax t m s
  | .vand t m => Sys2Proof.Machine.execVand t m s
  | .vor t m => Sys2Proof.Machine.execVor t m s
  | .vxor t m => Sys2Proof.Machine.execVxor t m s
  | .vshl t m => Sys2Proof.Machine.execVshl t m s
  | .vshr t m => Sys2Proof.Machine.execVshr t m s
  | .vsra t m => Sys2Proof.Machine.execVsra t m s
  | .vsel t m => Sys2Proof.Machine.execVsel t m s
  | .vcmp t m => Sys2Proof.Machine.execVcmp t m s
  | .vmov t m => Sys2Proof.Machine.execVmov t m s
  | .viota t m => Sys2Proof.Machine.execViota t m s
  | .vmul t m => Sys2Proof.Machine.execVmul t m s
  | .vmulw t m => Sys2Proof.Machine.execVmulw t m s
  | .vmac t m => Sys2Proof.Machine.execVmac t m s
  | .vnarrow t m => Sys2Proof.Machine.execVnarrow t m s
  | .vslide t m => Sys2Proof.Machine.execVslide t m s
  | .vbcast t m => Sys2Proof.Machine.execVbcast t m s
  | .vperm t m => Sys2Proof.Machine.execVperm t m s
  | .ldl t m => Sys2Proof.Machine.execLdl t m s
  | .stl t m => Sys2Proof.Machine.execStl t m s
  | .ldgl t m => Sys2Proof.Machine.execLdgl t m s
  | .ldt t m => Sys2Proof.Machine.execLdt t m s
  | .stt t m => Sys2Proof.Machine.execStt t m s
  | .ldtm t m => Sys2Proof.Machine.execLdtm t m s
  | .curve t m => Sys2Proof.Machine.execCurve t m s
  | .edstep t m => Sys2Proof.Machine.execEdstep t m s
  | .emit t m => Sys2Proof.Machine.execEmit t m s
  | .sendr t m => Sys2Proof.Machine.execSendr t m s
  | .sendl t m => Sys2Proof.Machine.execSendl t m s
  | .recvl t m => Sys2Proof.Machine.execRecvl t m s
  | .recvr t m => Sys2Proof.Machine.execRecvr t m s
  | .edgeWaitResume t m => Sys2Proof.Machine.execEdgeWaitResume t m s
  | .tunFault t m code count => Sys2Proof.Machine.execTunFault t m code count s
  | .sliceOverrun t m => Sys2Proof.Machine.execSliceOverrun t m s
  | .lineComplete t => Sys2Proof.Machine.execLineComplete t s
  | .tunPausePoint t => Sys2Proof.Machine.execTunPausePoint t s
  | .tunProgLoadDone t late => Sys2Proof.Machine.execTunProgLoadDone t late s
  | .tunFaultClr t => Sys2Proof.Machine.execTunFaultClr t s
  | .tunEccClr t => Sys2Proof.Machine.execTunEccClr t s
  | .tunSliceMaxClr t m => Sys2Proof.Machine.execTunSliceMaxClr t m s
  | .generationSwitch t => Sys2Proof.Machine.execGenerationSwitch t s
  | .scrBridgeSetWrite t w v => Sys2Proof.Machine.execScrBridgeSetWrite t w v s
  | .scrBridgeClrWrite t w v => Sys2Proof.Machine.execScrBridgeClrWrite t w v s
  | .scrBridgeApply t => Sys2Proof.Machine.execScrBridgeApply t s
  | .scrBridgeLostClr t => Sys2Proof.Machine.execScrBridgeLostClr t s
  | .scrClipClr t => Sys2Proof.Machine.execScrClipClr t s
  | .lineEventRaise ref => Sys2Proof.Machine.execLineEventRaise ref s
  | .slavedModeExit => Sys2Proof.Machine.execSlavedModeExit s
  | .lineEventFrame f ref => Sys2Proof.Machine.execLineEventFrame f ref s
  | .stopDistanceFrame f => Sys2Proof.Machine.execStopDistanceFrame f s
  | .badTriggerFrame f => Sys2Proof.Machine.execBadTriggerFrame f s
  | .lineEventApply => Sys2Proof.Machine.execLineEventApply s
  | .withheldResync => Sys2Proof.Machine.execWithheldResync s
  | .lineTake c at_ => Sys2Proof.Machine.execLineTake c at_ s
  | .firstLinePrepare c at_ => Sys2Proof.Machine.execFirstLinePrepare c at_ s
  | .lineFire c => Sys2Proof.Machine.execLineFire c s
  | .strobeStart c => Sys2Proof.Machine.execStrobeStart c s
  | .fireCommit d => Sys2Proof.Machine.execFireCommit d s
  | .fireTrigCompWrite v => Sys2Proof.Machine.execFireTrigCompWrite v s
  | .fireChTrimWrite c v => Sys2Proof.Machine.execFireChTrimWrite c v s
  | .sequencerCopyDisagree mask => Sys2Proof.Machine.execSequencerCopyDisagree mask s
  | .fireDroppedClr => Sys2Proof.Machine.execFireDroppedClr s
  | .fireMissedClr => Sys2Proof.Machine.execFireMissedClr s
  | .fireVoteClr => Sys2Proof.Machine.execFireVoteClr s
  | .fireChDroppedClr c => Sys2Proof.Machine.execFireChDroppedClr c s
  | .kilnHpwrReqWrite i0 v => Sys2Proof.Machine.execKilnHpwrReqWrite i0 v s
  | .headPowerOn c => Sys2Proof.Machine.execHeadPowerOn c s
  | .pwrSettleExpiry c => Sys2Proof.Machine.execPwrSettleExpiry c s
  | .headPowerOff c => Sys2Proof.Machine.execHeadPowerOff c s
  | .kilnClipLinesClr => Sys2Proof.Machine.execKilnClipLinesClr s
  | .kilnUnsealedClr => Sys2Proof.Machine.execKilnUnsealedClr s
  | .kilnChClipClr c => Sys2Proof.Machine.execKilnChClipClr c s
  | .motMove d => Sys2Proof.Machine.execMotMove d s
  | .motSpeed d => Sys2Proof.Machine.execMotSpeed d s
  | .motStop d => Sys2Proof.Machine.execMotStop d s
  | .stepIssue a rate => Sys2Proof.Machine.execStepIssue a rate s
  | .axisAtRest a => Sys2Proof.Machine.execAxisAtRest a s
  | .cruiseReached a => Sys2Proof.Machine.execCruiseReached a s
  | .limitInput a fwd active => Sys2Proof.Machine.execLimitInput a fwd active s
  | .webBreak active => Sys2Proof.Machine.execWebBreak active s
  | .splice active => Sys2Proof.Machine.execSplice active s
  | .jobEndStop => Sys2Proof.Machine.execJobEndStop s
  | .backstepStart => Sys2Proof.Machine.execBackstepStart s
  | .backstepStopped => Sys2Proof.Machine.execBackstepStopped s
  | .backstepPositioned => Sys2Proof.Machine.execBackstepPositioned s
  | .backstepRunUp others => Sys2Proof.Machine.execBackstepRunUp others s
  | .backstepSettle => Sys2Proof.Machine.execBackstepSettle s
  | .resumeTest => Sys2Proof.Machine.execResumeTest s
  | .motBsCountClr => Sys2Proof.Machine.execMotBsCountClr s
  | .motRefusedClr => Sys2Proof.Machine.execMotRefusedClr s
  | .motHardLinesClr => Sys2Proof.Machine.execMotHardLinesClr s
  | .encoderFault x => Sys2Proof.Machine.execEncoderFault x s
  | .encoderRecover x => Sys2Proof.Machine.execEncoderRecover x s
  | .drLimit => Sys2Proof.Machine.execDrLimit s
  | .encDirChange x => Sys2Proof.Machine.execEncDirChange x s
  | .encUncmdClr => Sys2Proof.Machine.execEncUncmdClr s
  | .encAmpClr x => Sys2Proof.Machine.execEncAmpClr x s
  | .encFaultClr x => Sys2Proof.Machine.execEncFaultClr x s
  | .exposureTrigger x => Sys2Proof.Machine.execExposureTrigger x s
  | .csiShortPacket x hdr vc dt => Sys2Proof.Machine.execCsiShortPacket x hdr vc dt s
  | .csiLongPacket x hdr vc dt wc crcOk pixels => Sys2Proof.Machine.execCsiLongPacket x hdr vc dt wc crcOk pixels s
  | .frameLatencyTimeout x => Sys2Proof.Machine.execFrameLatencyTimeout x s
  | .jobEndClosingTrigger x => Sys2Proof.Machine.execJobEndClosingTrigger x s
  | .frameRecordSend x => Sys2Proof.Machine.execFrameRecordSend x s
  | .ispShadowApply i0 => Sys2Proof.Machine.execIspShadowApply i0 s
  | .camLostClr x => Sys2Proof.Machine.execCamLostClr x s
  | .camPhyErrClr x => Sys2Proof.Machine.execCamPhyErrClr x s
  | .camStaleClr x => Sys2Proof.Machine.execCamStaleClr x s
  | .alignedLineReceive c dev port range frame line div vals => Sys2Proof.Machine.execAlignedLineReceive c dev port range frame line div vals s
  | .statsRecordReceive c dev port range frame lines stale => Sys2Proof.Machine.execStatsRecordReceive c dev port range frame lines stale s
  | .lostNoticeReceive c dev port range frame span => Sys2Proof.Machine.execLostNoticeReceive c dev port range frame span s
  | .backinTrial c n => Sys2Proof.Machine.execBackinTrial c n s
  | .gravRebind d => Sys2Proof.Machine.execGravRebind d s
  | .channelBound c => Sys2Proof.Machine.execChannelBound c s
  | .learnLimit handle => Sys2Proof.Machine.execLearnLimit handle s
  | .gravForeignClr => Sys2Proof.Machine.execGravForeignClr s
  | .gravChCountClr c => Sys2Proof.Machine.execGravChCountClr c s
  | .resetTrials c => Sys2Proof.Machine.execResetTrials c s
  | .clearWindow c => Sys2Proof.Machine.execClearWindow c s
  | .senseChannelFault c => Sys2Proof.Machine.execSenseChannelFault c s
  | .maskViolation c => Sys2Proof.Machine.execMaskViolation c s
  | .sequencerEvent edge c at_ => Sys2Proof.Machine.execSequencerEvent edge c at_ s
  | .sequencerTimeout q => Sys2Proof.Machine.execSequencerTimeout q s
  | .sequencerHoldoffEnd q => Sys2Proof.Machine.execSequencerHoldoffEnd q s
  | .captureComplete q => Sys2Proof.Machine.execCaptureComplete q s
  | .sgArm d => Sys2Proof.Machine.execSgArm d s
  | .sgRead d => Sys2Proof.Machine.execSgRead d s
  | .sgForce m => Sys2Proof.Machine.execSgForce m s
  | .sgDisarm m => Sys2Proof.Machine.execSgDisarm m s
  | .busTriggerForward g line offset => Sys2Proof.Machine.execBusTriggerForward g line offset s
  | .sgBusTriggerFrame f ref => Sys2Proof.Machine.execSgBusTriggerFrame f ref s
  | .sgBusClr => Sys2Proof.Machine.execSgBusClr s
  | .sgViolClr c => Sys2Proof.Machine.execSgViolClr c s
  | .timeNsRead fw => Sys2Proof.Machine.execTimeNsRead fw s
  | .timeLoad adj => Sys2Proof.Machine.execTimeLoad adj s
  | .timeAdjust => Sys2Proof.Machine.execTimeAdjust s
  | .timeIncrWrite v => Sys2Proof.Machine.execTimeIncrWrite v s
  | .ptpEventStamp p tx atMac sec units seq type => Sys2Proof.Machine.execPtpEventStamp p tx atMac sec units seq type s
  | .txStampPush p => Sys2Proof.Machine.execTxStampPush p s
  | .ethTxtsEntryPop p => Sys2Proof.Machine.execEthTxtsEntryPop p s
  | .ethTxtsClr p => Sys2Proof.Machine.execEthTxtsClr p s
  | .portTrain p clock lanes => Sys2Proof.Machine.execPortTrain p clock lanes s
  | .trainStageTimeout p k => Sys2Proof.Machine.execTrainStageTimeout p k s
  | .init p id role port mask shares => Sys2Proof.Machine.execInit p id role port mask shares s
  | .credit p counts => Sys2Proof.Machine.execCredit p counts s
  | .ack p seq => Sys2Proof.Machine.execAck p seq s
  | .nak p seq => Sys2Proof.Machine.execNak p seq s
  | .width p mask => Sys2Proof.Machine.execWidth p mask s
  | .widthSwitch p => Sys2Proof.Machine.execWidthSwitch p s
  | .down p cause => Sys2Proof.Machine.execDown p cause s
  | .reservedControlBlock p type => Sys2Proof.Machine.execReservedControlBlock p type s
  | .flitReceive p bytes words => Sys2Proof.Machine.execFlitReceive p bytes words s
  | .storeRd p jsa len tag => Sys2Proof.Machine.execStoreRd p jsa len tag s
  | .storeData p tag offset bytes => Sys2Proof.Machine.execStoreData p tag offset bytes s
  | .fecWindowEnd i0 corr uncorr => Sys2Proof.Machine.execFecWindowEnd i0 corr uncorr s
  | .laneRetrain i0 drift found => Sys2Proof.Machine.execLaneRetrain i0 drift found s
  | .portRetrain p lost => Sys2Proof.Machine.execPortRetrain p lost s
  | .eyeRecalibration i0 width => Sys2Proof.Machine.execEyeRecalibration i0 width s
  | .wlPortRetrainWrite p => Sys2Proof.Machine.execWlPortRetrainWrite p s
  | .wlLaneRetrainWrite i0 => Sys2Proof.Machine.execWlLaneRetrainWrite i0 s
  | .wlPortErrClr p => Sys2Proof.Machine.execWlPortErrClr p s
  | .wlLaneRetrainsClr i0 => Sys2Proof.Machine.execWlLaneRetrainsClr i0 s
  | .barEnum d found told => Sys2Proof.Machine.execBarEnum d found s told
  | .barBind d told => Sys2Proof.Machine.execBarBind d s told
  | .barRelease told d => Sys2Proof.Machine.execBarRelease told d s
  | .linkUpEnumeration own index up hops x comp cause => Sys2Proof.Machine.execLinkUpEnumeration own index up hops x comp cause s
  | .timeStampReport own index line value => Sys2Proof.Machine.execTimeStampReport own index line value s
  | .timeStampLate own index line => Sys2Proof.Machine.execTimeStampLate own index line s
  | .pageDigest line page composite => Sys2Proof.Machine.execPageDigest line page composite s
  | .coverageReport index mask cause unbound => Sys2Proof.Machine.execCoverageReport index mask cause unbound s
  | .barResyncClr => Sys2Proof.Machine.execBarResyncClr s
  | .barCovEventsClr => Sys2Proof.Machine.execBarCovEventsClr s
  | .stateFrameSend horizon => Sys2Proof.Machine.execStateFrameSend horizon s
  | .stateFrameReceive port bytes horizon => Sys2Proof.Machine.execStateFrameReceive port bytes horizon s
  | .qualify stopped => Sys2Proof.Machine.execQualify stopped s
  | .badVerdict pos line => Sys2Proof.Machine.execBadVerdict pos line s
  | .takeover cause catchup => Sys2Proof.Machine.execTakeover cause catchup s
  | .yield pos => Sys2Proof.Machine.execYield pos s
  | .claim pos => Sys2Proof.Machine.execClaim pos s
  | .driverEnable => Sys2Proof.Machine.execDriverEnable s
  | .firstOwnerClaim held position => Sys2Proof.Machine.execFirstOwnerClaim held s position
  | .ownerNotice t line => Sys2Proof.Machine.execOwnerNotice t line s
  | .revertReq => Sys2Proof.Machine.execRevertReq s
  | .primaryReturn => Sys2Proof.Machine.execPrimaryReturn s
  | .trioCfgWrite v => Sys2Proof.Machine.execTrioCfgWrite v s
  | .trioEventsClr => Sys2Proof.Machine.execTrioEventsClr s
  | .ddrTrain i0 dimm ok => Sys2Proof.Machine.execDdrTrain i0 dimm ok s
  | .refresh => Sys2Proof.Machine.execRefresh s
  | .dimmTempRead i0 deg => Sys2Proof.Machine.execDimmTempRead i0 deg s
  | .alertN i0 crc same => Sys2Proof.Machine.execAlertN i0 crc same s
  | .uncorrectableBurst i0 x both hold unit part => Sys2Proof.Machine.execUncorrectableBurst i0 x both hold unit part s
  | .ddrChannelFail i0 => Sys2Proof.Machine.execDdrChannelFail i0 s
  | .evacuationDone i0 => Sys2Proof.Machine.execEvacuationDone i0 s
  | .selfRefreshExit i0 ok => Sys2Proof.Machine.execSelfRefreshExit i0 ok s
  | .ddrEccClr i0 => Sys2Proof.Machine.execDdrEccClr i0 s
  | .ddrAlertClr i0 => Sys2Proof.Machine.execDdrAlertClr i0 s
  | .spargeRead i0 found => Sys2Proof.Machine.execSpargeRead i0 found s
  | .sramScrub memory unit part double => Sys2Proof.Machine.execSramScrub memory unit part double s
  | .recalibration unit inst value gains => Sys2Proof.Machine.execRecalibration unit inst value gains s
  | .headIdRead c reads => Sys2Proof.Machine.execHeadIdRead c reads s
  | .checkpoint => Sys2Proof.Machine.execCheckpoint s
  | .fireCountsRead d => Sys2Proof.Machine.execFireCountsRead d s
  | .telemetrySample supply i0 value => Sys2Proof.Machine.execTelemetrySample supply i0 value s
  | .snapshot => Sys2Proof.Machine.execSnapshot s
  | .telRead d => Sys2Proof.Machine.execTelRead d s
  | .fenceSet d => Sys2Proof.Machine.execFenceSet d s
  | .fenceLift d ok => Sys2Proof.Machine.execFenceLift d ok s
  | .fenceLastClr => Sys2Proof.Machine.execFenceLastClr s
  | .telStatusClr => Sys2Proof.Machine.execTelStatusClr s
  | .telScrubClr => Sys2Proof.Machine.execTelScrubClr s
  | .telTempClr i0 => Sys2Proof.Machine.execTelTempClr i0 s
  | .spgFoundClr i0 => Sys2Proof.Machine.execSpgFoundClr i0 s
  | .spgCtrlWrite i0 v => Sys2Proof.Machine.execSpgCtrlWrite i0 v s
  | .bootRom => Sys2Proof.Machine.execBootRom s
  | .bootSettle => Sys2Proof.Machine.execBootSettle s
  | .flsProgram d => Sys2Proof.Machine.execFlsProgram d s
  | .flsErase d => Sys2Proof.Machine.execFlsErase d s
  | .caskConfirm d => Sys2Proof.Machine.execCaskConfirm d s
  | .fwHandover d => Sys2Proof.Machine.execFwHandover d s
  | .handoverFreeze ms schema reads fault told => Sys2Proof.Machine.execHandoverFreeze ms schema reads fault s told
  | .handoverTimeout => Sys2Proof.Machine.execHandoverTimeout s
  | .flsXipWrite fw v => Sys2Proof.Machine.execFlsXipWrite fw v s
  | .flsHostloadWrite len => Sys2Proof.Machine.execFlsHostloadWrite len s
  | .wortImageLoad p mash bytes last => Sys2Proof.Machine.execWortImageLoad p mash bytes last s
  | .caskRecordWrite kind key data => Sys2Proof.Machine.execCaskRecordWrite kind key data s
  | .caskMigration => Sys2Proof.Machine.execCaskMigration s
  | .caskCompaction => Sys2Proof.Machine.execCaskCompaction s
  | .getInfo value index len => Sys2Proof.Machine.execGetInfo value index len s
  | .usbRegRead offset len => Sys2Proof.Machine.execUsbRegRead offset len s
  | .usbRegWrite offset len words status => Sys2Proof.Machine.execUsbRegWrite offset len words status s
  | .usbRegWriteApply => Sys2Proof.Machine.execUsbRegWriteApply s
  | .telPeek value index len => Sys2Proof.Machine.execTelPeek value index len s
  | .usbStandardRequest type request value index len => Sys2Proof.Machine.execUsbStandardRequest type request value index len s
  | .usbBusReset hs => Sys2Proof.Machine.execUsbBusReset hs s
  | .usbDetach => Sys2Proof.Machine.execUsbDetach s
  | .usbSetupAbandon => Sys2Proof.Machine.execUsbSetupAbandon s
  | .usbCountsClr => Sys2Proof.Machine.execUsbCountsClr s
  | .vpCommit => Sys2Proof.Machine.execVpCommit s
  | .vpShadowCapture => Sys2Proof.Machine.execVpShadowCapture s
  | .vpRefresh => Sys2Proof.Machine.execVpRefresh s
  | .teInEdge rising => Sys2Proof.Machine.execTeInEdge rising s
  | .teTimeout => Sys2Proof.Machine.execTeTimeout s
  | .staticBlankExtend => Sys2Proof.Machine.execStaticBlankExtend s
  | .vpLineUnderrun => Sys2Proof.Machine.execVpLineUnderrun s
  | .vpCmdSend => Sys2Proof.Machine.execVpCmdSend s
  | .vpCountsClr => Sys2Proof.Machine.execVpCountsClr s
  | .mashErrClr => Sys2Proof.Machine.execMashErrClr s
  | .qmDbErrClr => Sys2Proof.Machine.execQmDbErrClr s
  | .qmFlrDroppedClr => Sys2Proof.Machine.execQmFlrDroppedClr s
  | .timeCounterTick => Sys2Proof.Machine.execTimeCounterTick s
  | .encoderSample x sin cos => Sys2Proof.Machine.execEncoderSample x sin cos s
  | .senseSample tick codes => Sys2Proof.Machine.execSenseSample tick codes s
  | .auxPauseEnd unit => Sys2Proof.Machine.execAuxPauseEnd unit s
  | .bar4Access write addr n bytes => Sys2Proof.Machine.execBar4Access write addr n bytes s
  | .usbAttach => Sys2Proof.Machine.execUsbAttach s
  | .usbSuspend => Sys2Proof.Machine.execUsbSuspend s
  | .usbResume => Sys2Proof.Machine.execUsbResume s
  | .ep1InTransaction => Sys2Proof.Machine.execEp1InTransaction s
  | .ethLinkChange p up => Sys2Proof.Machine.execEthLinkChange p up s
  | .csiLinkChange x up => Sys2Proof.Machine.execCsiLinkChange x up s
  | .vpVideoLine => Sys2Proof.Machine.execVpVideoLine s
  | .alertNHigh i0 => Sys2Proof.Machine.execAlertNHigh i0 s

end Sys2Proof.Machine
end

