-- ==== Sys2Proof/Laws/State.lean ====
section
/-! SUPPORT. What the named updates of State leave unchanged: one lemma a field, each true by definition. -/

namespace Sys2Proof.Machine

@[simp] theorem State.set_hostMem (s : State) (f : Fld) (v i k : Nat) : (s.set f v i k).hostMem = s.hostMem := rfl
@[simp] theorem State.set_dram (s : State) (f : Fld) (v i k : Nat) : (s.set f v i k).dram = s.dram := rfl
@[simp] theorem State.set_poison (s : State) (f : Fld) (v i k : Nat) : (s.set f v i k).poison = s.poison := rfl
@[simp] theorem State.set_now (s : State) (f : Fld) (v i k : Nat) : (s.set f v i k).now = s.now := rfl
@[simp] theorem State.set_freeCtr (s : State) (f : Fld) (v i k : Nat) : (s.set f v i k).freeCtr = s.freeCtr := rfl
@[simp] theorem State.set_outbox (s : State) (f : Fld) (v i k : Nat) : (s.set f v i k).outbox = s.outbox := rfl
@[simp] theorem State.set_rdata (s : State) (f : Fld) (v i k : Nat) : (s.set f v i k).rdata = s.rdata := rfl
@[simp] theorem State.set_hiLatch (s : State) (f : Fld) (v i k : Nat) : (s.set f v i k).hiLatch = s.hiLatch := rfl
@[simp] theorem State.set_loBuf (s : State) (f : Fld) (v i k : Nat) : (s.set f v i k).loBuf = s.loBuf := rfl
@[simp] theorem State.set_wdogWait (s : State) (f : Fld) (v i k : Nat) : (s.set f v i k).wdogWait = s.wdogWait := rfl
@[simp] theorem State.set_lolHold (s : State) (f : Fld) (v i k : Nat) : (s.set f v i k).lolHold = s.lolHold := rfl
@[simp] theorem State.set_pllSeen (s : State) (f : Fld) (v i k : Nat) : (s.set f v i k).pllSeen = s.pllSeen := rfl
@[simp] theorem State.set_grist (s : State) (f : Fld) (v i k : Nat) : (s.set f v i k).grist = s.grist := rfl
@[simp] theorem State.set_gristDue (s : State) (f : Fld) (v i k : Nat) : (s.set f v i k).gristDue = s.gristDue := rfl
@[simp] theorem State.set_loading (s : State) (f : Fld) (v i k : Nat) : (s.set f v i k).loading = s.loading := rfl
@[simp] theorem State.set_staged (s : State) (f : Fld) (v i k : Nat) : (s.set f v i k).staged = s.staged := rfl
@[simp] theorem State.set_sets (s : State) (f : Fld) (v i k : Nat) : (s.set f v i k).sets = s.sets := rfl
@[simp] theorem State.set_sects (s : State) (f : Fld) (v i k : Nat) : (s.set f v i k).sects = s.sects := rfl
@[simp] theorem State.set_composite (s : State) (f : Fld) (v i k : Nat) : (s.set f v i k).composite = s.composite := rfl
@[simp] theorem State.set_fullImage (s : State) (f : Fld) (v i k : Nat) : (s.set f v i k).fullImage = s.fullImage := rfl
@[simp] theorem State.set_pairs (s : State) (f : Fld) (v i k : Nat) : (s.set f v i k).pairs = s.pairs := rfl
@[simp] theorem State.set_slots (s : State) (f : Fld) (v i k : Nat) : (s.set f v i k).slots = s.slots := rfl
@[simp] theorem State.set_msixOpen (s : State) (f : Fld) (v i k : Nat) : (s.set f v i k).msixOpen = s.msixOpen := rfl
@[simp] theorem State.set_msixPend (s : State) (f : Fld) (v i k : Nat) : (s.set f v i k).msixPend = s.msixPend := rfl
@[simp] theorem State.set_msixTab (s : State) (f : Fld) (v i k : Nat) : (s.set f v i k).msixTab = s.msixTab := rfl
@[simp] theorem State.set_turns (s : State) (f : Fld) (v i k : Nat) : (s.set f v i k).turns = s.turns := rfl
@[simp] theorem State.set_clock (s : State) (f : Fld) (v i k : Nat) : (s.set f v i k).clock = s.clock := rfl
@[simp] theorem State.set_eths (s : State) (f : Fld) (v i k : Nat) : (s.set f v i k).eths = s.eths := rfl
@[simp] theorem State.set_telLog (s : State) (f : Fld) (v i k : Nat) : (s.set f v i k).telLog = s.telLog := rfl
@[simp] theorem State.set_chans (s : State) (f : Fld) (v i k : Nat) : (s.set f v i k).chans = s.chans := rfl
@[simp] theorem State.set_engs (s : State) (f : Fld) (v i k : Nat) : (s.set f v i k).engs = s.engs := rfl
@[simp] theorem State.set_extents (s : State) (f : Fld) (v i k : Nat) : (s.set f v i k).extents = s.extents := rfl
@[simp] theorem State.set_pages (s : State) (f : Fld) (v i k : Nat) : (s.set f v i k).pages = s.pages := rfl
@[simp] theorem State.set_gaps (s : State) (f : Fld) (v i k : Nat) : (s.set f v i k).gaps = s.gaps := rfl
@[simp] theorem State.set_unmaps (s : State) (f : Fld) (v i k : Nat) : (s.set f v i k).unmaps = s.unmaps := rfl
@[simp] theorem State.set_fwDue (s : State) (f : Fld) (v i k : Nat) : (s.set f v i k).fwDue = s.fwDue := rfl
@[simp] theorem State.set_backAt (s : State) (f : Fld) (v i k : Nat) : (s.set f v i k).backAt = s.backAt := rfl
@[simp] theorem State.set_clash (s : State) (f : Fld) (v i k : Nat) : (s.set f v i k).clash = s.clash := rfl
@[simp] theorem State.set_coverage (s : State) (f : Fld) (v i k : Nat) : (s.set f v i k).coverage = s.coverage := rfl
@[simp] theorem State.set_prepared (s : State) (f : Fld) (v i k : Nat) : (s.set f v i k).prepared = s.prepared := rfl
@[simp] theorem State.set_credits (s : State) (f : Fld) (v i k : Nat) : (s.set f v i k).credits = s.credits := rfl
@[simp] theorem State.set_intakes (s : State) (f : Fld) (v i k : Nat) : (s.set f v i k).intakes = s.intakes := rfl
@[simp] theorem State.set_storeMem (s : State) (f : Fld) (v i k : Nat) : (s.set f v i k).storeMem = s.storeMem := rfl
@[simp] theorem State.set_archive (s : State) (f : Fld) (v i k : Nat) : (s.set f v i k).archive = s.archive := rfl
@[simp] theorem State.set_encs (s : State) (f : Fld) (v i k : Nat) : (s.set f v i k).encs = s.encs := rfl
@[simp] theorem State.set_seq (s : State) (f : Fld) (v i k : Nat) : (s.set f v i k).seq = s.seq := rfl
@[simp] theorem State.set_kiln (s : State) (f : Fld) (v i k : Nat) : (s.set f v i k).kiln = s.kiln := rfl
@[simp] theorem State.set_pageEnd (s : State) (f : Fld) (v i k : Nat) : (s.set f v i k).pageEnd = s.pageEnd := rfl
@[simp] theorem State.set_jobEnds (s : State) (f : Fld) (v i k : Nat) : (s.set f v i k).jobEnds = s.jobEnds := rfl
@[simp] theorem State.set_lateDue (s : State) (f : Fld) (v i k : Nat) : (s.set f v i k).lateDue = s.lateDue := rfl
@[simp] theorem State.set_withdrawn (s : State) (f : Fld) (v i k : Nat) : (s.set f v i k).withdrawn = s.withdrawn := rfl
@[simp] theorem State.set_learning (s : State) (f : Fld) (v i k : Nat) : (s.set f v i k).learning = s.learning := rfl
@[simp] theorem State.set_kilnWin (s : State) (f : Fld) (v i k : Nat) : (s.set f v i k).kilnWin = s.kilnWin := rfl
@[simp] theorem State.set_shots (s : State) (f : Fld) (v i k : Nat) : (s.set f v i k).shots = s.shots := rfl
@[simp] theorem State.set_axes (s : State) (f : Fld) (v i k : Nat) : (s.set f v i k).axes = s.axes := rfl
@[simp] theorem State.set_line (s : State) (f : Fld) (v i k : Nat) : (s.set f v i k).line = s.line := rfl
@[simp] theorem State.set_scales (s : State) (f : Fld) (v i k : Nat) : (s.set f v i k).scales = s.scales := rfl
@[simp] theorem State.set_cams (s : State) (f : Fld) (v i k : Nat) : (s.set f v i k).cams = s.cams := rfl
@[simp] theorem State.set_gravs (s : State) (f : Fld) (v i k : Nat) : (s.set f v i k).gravs = s.gravs := rfl
@[simp] theorem State.set_rebinds (s : State) (f : Fld) (v i k : Nat) : (s.set f v i k).rebinds = s.rebinds := rfl
@[simp] theorem State.set_flash (s : State) (f : Fld) (v i k : Nat) : (s.set f v i k).flash = s.flash := rfl
@[simp] theorem State.set_cask (s : State) (f : Fld) (v i k : Nat) : (s.set f v i k).cask = s.cask := rfl
@[simp] theorem State.set_erases (s : State) (f : Fld) (v i k : Nat) : (s.set f v i k).erases = s.erases := rfl
@[simp] theorem State.set_senses (s : State) (f : Fld) (v i k : Nat) : (s.set f v i k).senses = s.senses := rfl
@[simp] theorem State.set_tss (s : State) (f : Fld) (v i k : Nat) : (s.set f v i k).tss = s.tss := rfl
@[simp] theorem State.set_sgEvents (s : State) (f : Fld) (v i k : Nat) : (s.set f v i k).sgEvents = s.sgEvents := rfl
@[simp] theorem State.set_busQueue (s : State) (f : Fld) (v i k : Nat) : (s.set f v i k).busQueue = s.busQueue := rfl
@[simp] theorem State.set_busFwd (s : State) (f : Fld) (v i k : Nat) : (s.set f v i k).busFwd = s.busFwd := rfl
@[simp] theorem State.set_wports (s : State) (f : Fld) (v i k : Nat) : (s.set f v i k).wports = s.wports := rfl
@[simp] theorem State.set_upPort (s : State) (f : Fld) (v i k : Nat) : (s.set f v i k).upPort = s.upPort := rfl
@[simp] theorem State.set_upLost (s : State) (f : Fld) (v i k : Nat) : (s.set f v i k).upLost = s.upLost := rfl
@[simp] theorem State.set_binds (s : State) (f : Fld) (v i k : Nat) : (s.set f v i k).binds = s.binds := rfl
@[simp] theorem State.set_devs (s : State) (f : Fld) (v i k : Nat) : (s.set f v i k).devs = s.devs := rfl
@[simp] theorem State.set_lineStamps (s : State) (f : Fld) (v i k : Nat) : (s.set f v i k).lineStamps = s.lineStamps := rfl
@[simp] theorem State.set_rels (s : State) (f : Fld) (v i k : Nat) : (s.set f v i k).rels = s.rels := rfl
@[simp] theorem State.set_trio (s : State) (f : Fld) (v i k : Nat) : (s.set f v i k).trio = s.trio := rfl
@[simp] theorem State.set_ddrs (s : State) (f : Fld) (v i k : Nat) : (s.set f v i k).ddrs = s.ddrs := rfl
@[simp] theorem State.set_rehomed (s : State) (f : Fld) (v i k : Nat) : (s.set f v i k).rehomed = s.rehomed := rfl
@[simp] theorem State.set_banks (s : State) (f : Fld) (v i k : Nat) : (s.set f v i k).banks = s.banks := rfl
@[simp] theorem State.set_heads (s : State) (f : Fld) (v i k : Nat) : (s.set f v i k).heads = s.heads := rfl
@[simp] theorem State.set_calib (s : State) (f : Fld) (v i k : Nat) : (s.set f v i k).calib = s.calib := rfl
@[simp] theorem State.set_calibDue (s : State) (f : Fld) (v i k : Nat) : (s.set f v i k).calibDue = s.calibDue := rfl
@[simp] theorem State.set_snaps (s : State) (f : Fld) (v i k : Nat) : (s.set f v i k).snaps = s.snaps := rfl
@[simp] theorem State.set_lastSnap (s : State) (f : Fld) (v i k : Nat) : (s.set f v i k).lastSnap = s.lastSnap := rfl
@[simp] theorem State.set_hotMask (s : State) (f : Fld) (v i k : Nat) : (s.set f v i k).hotMask = s.hotMask := rfl
@[simp] theorem State.set_supplies (s : State) (f : Fld) (v i k : Nat) : (s.set f v i k).supplies = s.supplies := rfl
@[simp] theorem State.set_supplyMask (s : State) (f : Fld) (v i k : Nat) : (s.set f v i k).supplyMask = s.supplyMask := rfl
@[simp] theorem State.set_fw (s : State) (f : Fld) (v i k : Nat) : (s.set f v i k).fw = s.fw := rfl
@[simp] theorem State.set_usb (s : State) (f : Fld) (v i k : Nat) : (s.set f v i k).usb = s.usb := rfl
@[simp] theorem State.set_vp (s : State) (f : Fld) (v i k : Nat) : (s.set f v i k).vp = s.vp := rfl
@[simp] theorem State.set_pending (s : State) (f : Fld) (v i k : Nat) : (s.set f v i k).pending = s.pending := rfl

@[simp] theorem State.out_regs (s : State) (o : Out) : (s.out o).regs = s.regs := rfl
@[simp] theorem State.out_hostMem (s : State) (o : Out) : (s.out o).hostMem = s.hostMem := rfl
@[simp] theorem State.out_dram (s : State) (o : Out) : (s.out o).dram = s.dram := rfl
@[simp] theorem State.out_poison (s : State) (o : Out) : (s.out o).poison = s.poison := rfl
@[simp] theorem State.out_now (s : State) (o : Out) : (s.out o).now = s.now := rfl
@[simp] theorem State.out_freeCtr (s : State) (o : Out) : (s.out o).freeCtr = s.freeCtr := rfl
@[simp] theorem State.out_rdata (s : State) (o : Out) : (s.out o).rdata = s.rdata := rfl
@[simp] theorem State.out_hiLatch (s : State) (o : Out) : (s.out o).hiLatch = s.hiLatch := rfl
@[simp] theorem State.out_loBuf (s : State) (o : Out) : (s.out o).loBuf = s.loBuf := rfl
@[simp] theorem State.out_wdogWait (s : State) (o : Out) : (s.out o).wdogWait = s.wdogWait := rfl
@[simp] theorem State.out_lolHold (s : State) (o : Out) : (s.out o).lolHold = s.lolHold := rfl
@[simp] theorem State.out_pllSeen (s : State) (o : Out) : (s.out o).pllSeen = s.pllSeen := rfl
@[simp] theorem State.out_grist (s : State) (o : Out) : (s.out o).grist = s.grist := rfl
@[simp] theorem State.out_gristDue (s : State) (o : Out) : (s.out o).gristDue = s.gristDue := rfl
@[simp] theorem State.out_loading (s : State) (o : Out) : (s.out o).loading = s.loading := rfl
@[simp] theorem State.out_staged (s : State) (o : Out) : (s.out o).staged = s.staged := rfl
@[simp] theorem State.out_sets (s : State) (o : Out) : (s.out o).sets = s.sets := rfl
@[simp] theorem State.out_sects (s : State) (o : Out) : (s.out o).sects = s.sects := rfl
@[simp] theorem State.out_composite (s : State) (o : Out) : (s.out o).composite = s.composite := rfl
@[simp] theorem State.out_fullImage (s : State) (o : Out) : (s.out o).fullImage = s.fullImage := rfl
@[simp] theorem State.out_pairs (s : State) (o : Out) : (s.out o).pairs = s.pairs := rfl
@[simp] theorem State.out_slots (s : State) (o : Out) : (s.out o).slots = s.slots := rfl
@[simp] theorem State.out_msixOpen (s : State) (o : Out) : (s.out o).msixOpen = s.msixOpen := rfl
@[simp] theorem State.out_msixPend (s : State) (o : Out) : (s.out o).msixPend = s.msixPend := rfl
@[simp] theorem State.out_msixTab (s : State) (o : Out) : (s.out o).msixTab = s.msixTab := rfl
@[simp] theorem State.out_turns (s : State) (o : Out) : (s.out o).turns = s.turns := rfl
@[simp] theorem State.out_clock (s : State) (o : Out) : (s.out o).clock = s.clock := rfl
@[simp] theorem State.out_eths (s : State) (o : Out) : (s.out o).eths = s.eths := rfl
@[simp] theorem State.out_telLog (s : State) (o : Out) : (s.out o).telLog = s.telLog := rfl
@[simp] theorem State.out_chans (s : State) (o : Out) : (s.out o).chans = s.chans := rfl
@[simp] theorem State.out_engs (s : State) (o : Out) : (s.out o).engs = s.engs := rfl
@[simp] theorem State.out_extents (s : State) (o : Out) : (s.out o).extents = s.extents := rfl
@[simp] theorem State.out_pages (s : State) (o : Out) : (s.out o).pages = s.pages := rfl
@[simp] theorem State.out_gaps (s : State) (o : Out) : (s.out o).gaps = s.gaps := rfl
@[simp] theorem State.out_unmaps (s : State) (o : Out) : (s.out o).unmaps = s.unmaps := rfl
@[simp] theorem State.out_fwDue (s : State) (o : Out) : (s.out o).fwDue = s.fwDue := rfl
@[simp] theorem State.out_backAt (s : State) (o : Out) : (s.out o).backAt = s.backAt := rfl
@[simp] theorem State.out_clash (s : State) (o : Out) : (s.out o).clash = s.clash := rfl
@[simp] theorem State.out_coverage (s : State) (o : Out) : (s.out o).coverage = s.coverage := rfl
@[simp] theorem State.out_prepared (s : State) (o : Out) : (s.out o).prepared = s.prepared := rfl
@[simp] theorem State.out_credits (s : State) (o : Out) : (s.out o).credits = s.credits := rfl
@[simp] theorem State.out_intakes (s : State) (o : Out) : (s.out o).intakes = s.intakes := rfl
@[simp] theorem State.out_storeMem (s : State) (o : Out) : (s.out o).storeMem = s.storeMem := rfl
@[simp] theorem State.out_archive (s : State) (o : Out) : (s.out o).archive = s.archive := rfl
@[simp] theorem State.out_encs (s : State) (o : Out) : (s.out o).encs = s.encs := rfl
@[simp] theorem State.out_seq (s : State) (o : Out) : (s.out o).seq = s.seq := rfl
@[simp] theorem State.out_kiln (s : State) (o : Out) : (s.out o).kiln = s.kiln := rfl
@[simp] theorem State.out_pageEnd (s : State) (o : Out) : (s.out o).pageEnd = s.pageEnd := rfl
@[simp] theorem State.out_jobEnds (s : State) (o : Out) : (s.out o).jobEnds = s.jobEnds := rfl
@[simp] theorem State.out_lateDue (s : State) (o : Out) : (s.out o).lateDue = s.lateDue := rfl
@[simp] theorem State.out_withdrawn (s : State) (o : Out) : (s.out o).withdrawn = s.withdrawn := rfl
@[simp] theorem State.out_learning (s : State) (o : Out) : (s.out o).learning = s.learning := rfl
@[simp] theorem State.out_kilnWin (s : State) (o : Out) : (s.out o).kilnWin = s.kilnWin := rfl
@[simp] theorem State.out_shots (s : State) (o : Out) : (s.out o).shots = s.shots := rfl
@[simp] theorem State.out_axes (s : State) (o : Out) : (s.out o).axes = s.axes := rfl
@[simp] theorem State.out_line (s : State) (o : Out) : (s.out o).line = s.line := rfl
@[simp] theorem State.out_scales (s : State) (o : Out) : (s.out o).scales = s.scales := rfl
@[simp] theorem State.out_cams (s : State) (o : Out) : (s.out o).cams = s.cams := rfl
@[simp] theorem State.out_gravs (s : State) (o : Out) : (s.out o).gravs = s.gravs := rfl
@[simp] theorem State.out_rebinds (s : State) (o : Out) : (s.out o).rebinds = s.rebinds := rfl
@[simp] theorem State.out_flash (s : State) (o : Out) : (s.out o).flash = s.flash := rfl
@[simp] theorem State.out_cask (s : State) (o : Out) : (s.out o).cask = s.cask := rfl
@[simp] theorem State.out_erases (s : State) (o : Out) : (s.out o).erases = s.erases := rfl
@[simp] theorem State.out_senses (s : State) (o : Out) : (s.out o).senses = s.senses := rfl
@[simp] theorem State.out_tss (s : State) (o : Out) : (s.out o).tss = s.tss := rfl
@[simp] theorem State.out_sgEvents (s : State) (o : Out) : (s.out o).sgEvents = s.sgEvents := rfl
@[simp] theorem State.out_busQueue (s : State) (o : Out) : (s.out o).busQueue = s.busQueue := rfl
@[simp] theorem State.out_busFwd (s : State) (o : Out) : (s.out o).busFwd = s.busFwd := rfl
@[simp] theorem State.out_wports (s : State) (o : Out) : (s.out o).wports = s.wports := rfl
@[simp] theorem State.out_upPort (s : State) (o : Out) : (s.out o).upPort = s.upPort := rfl
@[simp] theorem State.out_upLost (s : State) (o : Out) : (s.out o).upLost = s.upLost := rfl
@[simp] theorem State.out_binds (s : State) (o : Out) : (s.out o).binds = s.binds := rfl
@[simp] theorem State.out_devs (s : State) (o : Out) : (s.out o).devs = s.devs := rfl
@[simp] theorem State.out_lineStamps (s : State) (o : Out) : (s.out o).lineStamps = s.lineStamps := rfl
@[simp] theorem State.out_rels (s : State) (o : Out) : (s.out o).rels = s.rels := rfl
@[simp] theorem State.out_trio (s : State) (o : Out) : (s.out o).trio = s.trio := rfl
@[simp] theorem State.out_ddrs (s : State) (o : Out) : (s.out o).ddrs = s.ddrs := rfl
@[simp] theorem State.out_rehomed (s : State) (o : Out) : (s.out o).rehomed = s.rehomed := rfl
@[simp] theorem State.out_banks (s : State) (o : Out) : (s.out o).banks = s.banks := rfl
@[simp] theorem State.out_heads (s : State) (o : Out) : (s.out o).heads = s.heads := rfl
@[simp] theorem State.out_calib (s : State) (o : Out) : (s.out o).calib = s.calib := rfl
@[simp] theorem State.out_calibDue (s : State) (o : Out) : (s.out o).calibDue = s.calibDue := rfl
@[simp] theorem State.out_snaps (s : State) (o : Out) : (s.out o).snaps = s.snaps := rfl
@[simp] theorem State.out_lastSnap (s : State) (o : Out) : (s.out o).lastSnap = s.lastSnap := rfl
@[simp] theorem State.out_hotMask (s : State) (o : Out) : (s.out o).hotMask = s.hotMask := rfl
@[simp] theorem State.out_supplies (s : State) (o : Out) : (s.out o).supplies = s.supplies := rfl
@[simp] theorem State.out_supplyMask (s : State) (o : Out) : (s.out o).supplyMask = s.supplyMask := rfl
@[simp] theorem State.out_fw (s : State) (o : Out) : (s.out o).fw = s.fw := rfl
@[simp] theorem State.out_usb (s : State) (o : Out) : (s.out o).usb = s.usb := rfl
@[simp] theorem State.out_vp (s : State) (o : Out) : (s.out o).vp = s.vp := rfl
@[simp] theorem State.out_pending (s : State) (o : Out) : (s.out o).pending = s.pending := rfl

end Sys2Proof.Machine
end

