-- ==== Sys2Proof/Laws/Tab.lean ====
section
/-! SUPPORT. The laws of sparse tables: read after write, and that every operation keeps the canonical form. -/

namespace Sys2Proof.Machine

variable {κ α : Type} [DecidableEq κ]

@[simp] theorem Tab.get_nil (d : κ → α) (k : κ) : Tab.get d [] k = d k := rfl

@[simp] theorem Tab.get_erase_same (d : κ → α) (t : List (κ × α)) (k : κ) :
    Tab.get d (Tab.erase t k) k = d k := by
  induction t with
  | nil => rfl
  | cons e t ih =>
    by_cases h : e.1 = k
    · simp [Tab.erase, h, ih]
    · simp [Tab.erase, h, Tab.get, ih]

theorem Tab.get_erase_ne (d : κ → α) (t : List (κ × α)) {k j : κ} (hj : j ≠ k) :
    Tab.get d (Tab.erase t k) j = Tab.get d t j := by
  induction t with
  | nil => rfl
  | cons e t ih =>
    by_cases h : e.1 = k
    · have : e.1 ≠ j := fun h' => hj (h'.symm.trans h)
      simp [Tab.erase, h, ih, Tab.get, Ne.symm hj]
    · simp [Tab.erase, h, Tab.get, ih]

@[simp] theorem Tab.get_ins_same (lt : κ → κ → Bool) (d : κ → α) (t : List (κ × α)) (k : κ) (v : α) :
    Tab.get d (Tab.ins lt t k v) k = v := by
  induction t with
  | nil => simp [Tab.ins, Tab.get]
  | cons e t ih =>
    by_cases h : e.1 = k
    · simp [Tab.ins, h, Tab.get]
    · by_cases hl : lt k e.1
      · simp [Tab.ins, h, hl, Tab.get]
      · simp [Tab.ins, h, hl, Tab.get, ih]

theorem Tab.get_ins_ne (lt : κ → κ → Bool) (d : κ → α) (t : List (κ × α)) (v : α) {k j : κ} (hj : j ≠ k) :
    Tab.get d (Tab.ins lt t k v) j = Tab.get d t j := by
  induction t with
  | nil => simp [Tab.ins, Tab.get, Ne.symm hj]
  | cons e t ih =>
    by_cases h : e.1 = k
    · simp [Tab.ins, h, Tab.get, Ne.symm hj]
    · by_cases hl : lt k e.1
      · simp [Tab.ins, h, hl, Tab.get, Ne.symm hj]
      · simp [Tab.ins, h, hl, Tab.get, ih]

theorem Tab.mem_erase {t : List (κ × α)} {k : κ} {e : κ × α} (h : e ∈ Tab.erase t k) : e ∈ t := by
  induction t with
  | nil => simp [Tab.erase] at h
  | cons f t ih =>
    by_cases hf : f.1 = k
    · rw [Tab.erase, if_pos hf] at h; exact List.mem_cons_of_mem _ (ih h)
    · rw [Tab.erase, if_neg hf] at h
      rcases List.mem_cons.mp h with h | h
      · exact h ▸ List.mem_cons_self
      · exact List.mem_cons_of_mem _ (ih h)

theorem Tab.mem_ins {lt : κ → κ → Bool} {t : List (κ × α)} {k : κ} {v : α} {e : κ × α}
    (h : e ∈ Tab.ins lt t k v) : e = (k, v) ∨ e ∈ t := by
  induction t with
  | nil => simpa [Tab.ins] using h
  | cons f t ih =>
    by_cases hf : f.1 = k
    · rw [Tab.ins, if_pos hf] at h
      rcases List.mem_cons.mp h with h | h
      · exact .inl h
      · exact .inr (List.mem_cons_of_mem _ h)
    · by_cases hl : lt k f.1
      · rw [Tab.ins, if_neg hf, if_pos hl] at h
        rcases List.mem_cons.mp h with h | h
        · exact .inl h
        · exact .inr h
      · rw [Tab.ins, if_neg hf, if_neg hl] at h
        rcases List.mem_cons.mp h with h | h
        · exact .inr (h ▸ List.mem_cons_self)
        · rcases ih h with h | h
          · exact .inl h
          · exact .inr (List.mem_cons_of_mem _ h)

theorem Tab.rising_erase {lt : κ → κ → Bool} {t : List (κ × α)} (h : Tab.rising lt t = true) (k : κ) :
    Tab.rising lt (Tab.erase t k) = true := by
  induction t with
  | nil => rfl
  | cons e t ih =>
    simp only [Tab.rising, Bool.and_eq_true, List.all_eq_true] at h
    by_cases he : e.1 = k
    · simpa [Tab.erase, he] using ih h.2
    · simp only [Tab.erase, he, if_false, Tab.rising, Bool.and_eq_true, List.all_eq_true]
      exact ⟨fun f hf => h.1 f (Tab.mem_erase hf), ih h.2⟩

theorem Tab.rising_ins {lt : κ → κ → Bool}
    (htr : ∀ a b c, lt a b = true → lt b c = true → lt a c = true)
    (hto : ∀ a b, a ≠ b → lt a b = false → lt b a = true)
    {t : List (κ × α)} (h : Tab.rising lt t = true) (k : κ) (v : α) :
    Tab.rising lt (Tab.ins lt t k v) = true := by
  induction t with
  | nil => simp [Tab.ins, Tab.rising]
  | cons e t ih =>
    have h' := h
    simp only [Tab.rising, Bool.and_eq_true, List.all_eq_true] at h
    by_cases he : e.1 = k
    · simp only [Tab.ins, he, if_true, Tab.rising, Bool.and_eq_true, List.all_eq_true]
      exact ⟨fun f hf => he ▸ h.1 f hf, h.2⟩
    · by_cases hl : lt k e.1 = true
      · simp only [Tab.ins, he, hl, if_false, if_true, Tab.rising, Bool.and_eq_true, List.all_eq_true]
        refine ⟨fun f hf => ?_, h.1, h.2⟩
        rcases List.mem_cons.mp hf with hf | hf
        · exact hf ▸ hl
        · exact htr _ _ _ hl (h.1 f hf)
      · rw [Tab.ins, if_neg he, if_neg hl]
        simp only [Tab.rising, Bool.and_eq_true, List.all_eq_true]
        refine ⟨fun f hf => ?_, ih h.2⟩
        rcases Tab.mem_ins hf with hf | hf
        · rw [hf]; exact hto _ _ (Ne.symm he) (by simpa using hl)
        · exact h.1 f hf

variable [DecidableEq α]

/-- A key reads as it was last written. -/
@[simp] theorem Tab.get_put_same (lt : κ → κ → Bool) (d : κ → α) (t : List (κ × α)) (k : κ) (v : α) :
    Tab.get d (Tab.put lt d t k v) k = v := by
  unfold Tab.put
  split
  · next h => simp [h]
  · simp

/-- A write leaves every other key as it was. -/
theorem Tab.get_put_ne (lt : κ → κ → Bool) (d : κ → α) (t : List (κ × α)) (v : α) {k j : κ} (hj : j ≠ k) :
    Tab.get d (Tab.put lt d t k v) j = Tab.get d t j := by
  unfold Tab.put
  split
  · exact Tab.get_erase_ne d t hj
  · exact Tab.get_ins_ne lt d t v hj

theorem Tab.get_put (lt : κ → κ → Bool) (d : κ → α) (t : List (κ × α)) (v : α) (k j : κ) :
    Tab.get d (Tab.put lt d t k v) j = if j = k then v else Tab.get d t j := by
  by_cases h : j = k
  · subst h; simp
  · simp [h, Tab.get_put_ne lt d t v h]

/-- A write keeps the canonical form. -/
theorem Tab.wf_put {lt : κ → κ → Bool} {d : κ → α}
    (htr : ∀ a b c, lt a b = true → lt b c = true → lt a c = true)
    (hto : ∀ a b, a ≠ b → lt a b = false → lt b a = true)
    {t : List (κ × α)} (h : Tab.wf lt d t = true) (k : κ) (v : α) : Tab.wf lt d (Tab.put lt d t k v) = true := by
  simp only [Tab.wf, Bool.and_eq_true, List.all_eq_true, decide_eq_true_eq] at h ⊢
  unfold Tab.put
  split
  · exact ⟨Tab.rising_erase h.1 k, fun e he => h.2 e (Tab.mem_erase he)⟩
  · next hv =>
    refine ⟨Tab.rising_ins htr hto h.1 k v, fun e he => ?_⟩
    rcases Tab.mem_ins he with he | he
    · rw [he]; exact hv
    · exact h.2 e he

omit [DecidableEq κ] in
/-- Dropping entries keeps the canonical form. -/
theorem Tab.wf_keep {lt : κ → κ → Bool} {d : κ → α} {t : List (κ × α)} (h : Tab.wf lt d t = true)
    (p : κ → Bool) : Tab.wf lt d (Tab.keep p t) = true := by
  simp only [Tab.wf, Bool.and_eq_true, List.all_eq_true, decide_eq_true_eq] at h ⊢
  refine ⟨?_, fun e he => h.2 e (List.mem_of_mem_filter he)⟩
  have h1 := h.1
  clear h
  induction t with
  | nil => rfl
  | cons e t ih =>
    simp only [Tab.rising, Bool.and_eq_true, List.all_eq_true] at h1
    by_cases hp : p e.1
    · simp only [Tab.keep, List.filter_cons, hp, if_true, Tab.rising, Bool.and_eq_true, List.all_eq_true]
      exact ⟨fun f hf => h1.1 f (List.mem_of_mem_filter hf), ih h1.2⟩
    · simpa [Tab.keep, List.filter_cons, hp] using ih h1.2

theorem ltNat_trans (a b c : Nat) (h₁ : ltNat a b = true) (h₂ : ltNat b c = true) : ltNat a c = true := by
  simp [ltNat] at *; omega

theorem ltNat_total (a b : Nat) (h : a ≠ b) (h₁ : ltNat a b = false) : ltNat b a = true := by
  simp [ltNat] at *; omega

end Sys2Proof.Machine
end

