-- ==== Sys2Proof/Laws/Ops.lean ====
section
/-! SUPPORT. What the register operations and the memory operations do: read after write, and that they keep the canonical form. -/

namespace Sys2Proof.Machine

/-! ## Register fields -/

/-- A field reads as it was last written, within its width. -/
@[simp] theorem State.get_set_same (s : State) (f : Fld) (v i k : Nat) : (s.set f v i k).get f i k = v % 2 ^ f.desc.width := by
  simp [State.get, State.set]

/-- A write of a field leaves every other field as it was. -/
theorem State.get_set_ne (s : State) {f g : Fld} (v i k : Nat) {j l : Nat} (h : g ≠ f ∨ j ≠ i ∨ l ≠ k) :
    (s.set f v i k).get g j l = s.get g j l := by
  unfold State.get State.set
  refine Tab.get_put_ne _ _ _ _ ?_
  intro e
  injection e with e1 e2 e3
  exact h.elim (fun x => x e1) (fun x => x.elim (fun x => x e2) (fun x => x e3))

theorem State.get_set (s : State) (f g : Fld) (v i k j l : Nat) :
    (s.set f v i k).get g j l = if g = f ∧ j = i ∧ l = k then v % 2 ^ f.desc.width else s.get g j l := by
  by_cases h : g = f ∧ j = i ∧ l = k
  · obtain ⟨rfl, rfl, rfl⟩ := h; simp
  · rw [if_neg h]
    refine State.get_set_ne s v i k ?_
    by_cases h1 : g = f
    · by_cases h2 : j = i
      · exact .inr (.inr (fun h3 => h ⟨h1, h2, h3⟩))
      · exact .inr (.inl h2)
    · exact .inl h1

/-- A write of another field, the case in which the fields differ by name. -/
theorem State.get_set_fld (s : State) {f g : Fld} (h : g ≠ f) (v i k j l : Nat) : (s.set f v i k).get g j l = s.get g j l :=
  State.get_set_ne s v i k (.inl h)

/-- A write changes nothing but the register fields. -/
theorem State.set_frame (s : State) (f : Fld) (v i k : Nat) : s.set f v i k = { s with regs := (s.set f v i k).regs } := rfl

@[simp] theorem State.get_out (s : State) (o : Out) (f : Fld) (i k : Nat) : (s.out o).get f i k = s.get f i k := rfl

theorem State.on_eq (s : State) (f : Fld) (i k : Nat) : s.on f i k = s.set f 1 i k := rfl
theorem State.off_eq (s : State) (f : Fld) (i k : Nat) : s.off f i k = s.set f 0 i k := rfl
theorem State.bump_eq (s : State) (f : Fld) (n i k : Nat) :
    s.bump f n i k = s.set f (min (s.get f i k + n) (2 ^ f.desc.width - 1)) i k := rfl

/-- A count that saturates reads as the sum or as its highest value. -/
theorem State.get_bump_same (s : State) (f : Fld) (n i k : Nat) :
    (s.bump f n i k).get f i k = min (s.get f i k + n) (2 ^ f.desc.width - 1) := by
  rw [State.bump_eq, State.get_set_same, Nat.mod_eq_of_lt]
  have : 0 < 2 ^ f.desc.width := Nat.two_pow_pos _
  omega

@[simp] theorem State.when_true (s : State) (f : State → State) : s.when true f = f s := rfl
@[simp] theorem State.when_false (s : State) (f : State → State) : s.when false f = s := rfl

/-- A property that each round keeps is kept by all rounds. -/
theorem State.each_keeps {P : State → Prop} (n : Nat) (f : State → Nat → State) (h : ∀ s i, P s → P (f s i)) (s : State) (hs : P s) :
    P (s.each n f) := by
  unfold State.each
  generalize List.range n = l
  induction l generalizing s with
  | nil => exact hs
  | cons a l ih => exact ih _ (h _ _ hs)

/-! ## Memory -/

@[simp] theorem Memory.rd_nil (a : Nat) : Memory.rd [] a = 0 := rfl

/-- A byte reads as it was last written. -/
@[simp] theorem Memory.rd_wr_same (m : Memory) (a : Nat) (v : Byte) : Memory.rd (Memory.wr m a v) a = v := by
  simp [Memory.rd, Memory.wr]

/-- A write of one byte leaves every other byte as it was. -/
theorem Memory.rd_wr_ne (m : Memory) {a b : Nat} (v : Byte) (h : b ≠ a) : Memory.rd (Memory.wr m a v) b = Memory.rd m b :=
  Tab.get_put_ne _ _ _ _ h

/-- A write of several bytes leaves every byte outside them as it was. -/
theorem Memory.rd_wrs_out (bs : List Byte) (m : Memory) (a : Nat) {b : Nat} (h : b < a ∨ a + bs.length ≤ b) :
    Memory.rd (Memory.wrs m a bs) b = Memory.rd m b := by
  induction bs generalizing m a with
  | nil => rfl
  | cons x t ih =>
    simp only [List.length_cons] at h
    rw [Memory.wrs, ih _ _ (by omega), Memory.rd_wr_ne _ _ (by omega)]

/-- The bytes written read back. -/
theorem Memory.rd_wrs_in (bs : List Byte) (m : Memory) (a j : Nat) (h : j < bs.length) :
    Memory.rd (Memory.wrs m a bs) (a + j) = bs.getD j 0 := by
  induction bs generalizing m a j with
  | nil => simp at h
  | cons x t ih =>
    cases j with
    | zero => rw [Memory.wrs, Memory.rd_wrs_out _ _ _ (by omega)]; simp
    | succ j =>
      have := ih (Memory.wr m a x) (a + 1) j (by simpa using h)
      rw [Memory.wrs, show a + (j + 1) = a + 1 + j by omega, this]
      simp

/-- A write of one byte keeps the canonical form. -/
theorem Memory.wf_wr {m : Memory} (h : Memory.wf m = true) (a : Nat) (v : Byte) : Memory.wf (Memory.wr m a v) = true :=
  Tab.wf_put ltNat_trans ltNat_total h a v

/-- A write of several bytes keeps the canonical form. -/
theorem Memory.wf_wrs (bs : List Byte) {m : Memory} (h : Memory.wf m = true) (a : Nat) : Memory.wf (Memory.wrs m a bs) = true := by
  induction bs generalizing m a with
  | nil => exact h
  | cons x t ih => exact ih (Memory.wf_wr h a x) (a + 1)

/-- Dropping bytes keeps the canonical form. -/
theorem Memory.wf_keep {m : Memory} (h : Memory.wf m = true) (p : Nat → Bool) : Memory.wf (Tab.keep p m) = true := Tab.wf_keep h p

/-! ## The order of register keys -/

theorem FKey.lt_trans (a b c : FKey) (h₁ : FKey.lt a b = true) (h₂ : FKey.lt b c = true) : FKey.lt a c = true := by
  simp only [FKey.lt, decide_eq_true_eq] at *; omega

theorem FKey.lt_total (a b : FKey) (h : a ≠ b) (h₁ : FKey.lt a b = false) : FKey.lt b a = true := by
  simp only [FKey.lt, decide_eq_true_eq, decide_eq_false_iff_not] at *
  by_contra hn
  have hf : a.fld.ctorIdx = b.fld.ctorIdx := by omega
  have hi : a.inst = b.inst := by omega
  have hk : a.idx = b.idx := by omega
  apply h
  cases a; cases b
  simp only at hf hi hk
  subst hi hk
  simp only [FKey.mk.injEq, and_true]
  rename_i f _ _ g
  have : Fld.ofNat f.ctorIdx = Fld.ofNat g.ctorIdx := by rw [hf]
  rwa [Fld.ofNat_ctorIdx, Fld.ofNat_ctorIdx] at this

end Sys2Proof.Machine
end

