-- ==== Sys2Proof/WellFormed.lean ====
section
/-! DEFINITION. Which commands are well formed: every unit number names a unit the device has, every operand fits the width the spec
gives it. The meanings are total: a command that is not well formed is an event that cannot occur (log entry 7). -/

namespace Sys2Proof

/-- A descriptor of R106: each field in its width and 48 bytes of PARAM. -/
def Desc.ok (d : Desc) : Bool :=
  decide (d.sq < 16384 ∧ d.opcode < 2 ^ 16 ∧ d.flags < 2 ^ 8 ∧ d.rsv3 < 2 ^ 8 ∧ d.target < 2 ^ 16 ∧ d.rsv6 < 2 ^ 16 ∧ d.tag < 2 ^ 64 ∧
    d.param.length = 48)

/-- What goes with a block over Wort: a page identity in its width, and bytes. -/
def Arrival.ok (x : Arrival) : Bool := decide (x.page < 2 ^ 32 ∧ 0 < x.bytes.length)

/-- Is a command well formed? -/
def Instr.wf (i : Instr) : Bool :=
  match i with
  | .powerOnReset straps => decide (straps < 64)
  | .resetNReset _ _ straps => decide (straps < 64)
  | .watchdogExpiry => true
  | .wdogOk => true
  | .softwareReset key => decide (key < 256)
  | .wortResetRequest p _ => decide (p < 4)
  | .thermalTrip sensor => decide (sensor < 40)
  | .thermalRelease => true
  | .criticalStateError unit _ => decide (unit < 4)
  | .releaseStep => true
  | .corePllLock => true
  | .clockAbsentTimeout => true
  | .pllLossOfLock => true
  | .pllRelock => true
  | .supplyFail monitor => decide (monitor < 32)
  | .pwrReqWrite n v => decide (n < 5 ∧ v < 2 ^ 32)
  | .domainSwitch => true
  | .pstateRequest v => decide (v < 4)
  | .pstateTransitionDone => true
  | .reg64LowerRead _ offset _ => decide (offset < 2 ^ 28 ∧ offset % 4 = 0)
  | .reg64LowerWrite _ offset v => decide (offset < 2 ^ 28 ∧ offset % 8 = 0 ∧ v < 2 ^ 32)
  | .reg64UpperWrite _ offset v => decide (offset < 2 ^ 28 ∧ offset % 8 = 4 ∧ v < 2 ^ 32)
  | .registerWrite _ wide offset v => decide (offset < 2 ^ 28 ∧ offset % 4 = 0 ∧ v < 2 ^ 64 ∧ (wide || decide (v < 2 ^ 32)) = true ∧ (!wide || offset % 8 == 0) = true)
  | .gristRewrite => true
  | .grsStaleClr => true
  | .nop d => decide (d.ok = true)
  | .queueCreate d => decide (d.ok = true)
  | .queueDelete d => decide (d.ok = true)
  | .queueResume d => decide (d.ok = true)
  | .handleQuery d => decide (d.ok = true)
  | .copy d => decide (d.ok = true)
  | .mashStage d => decide (d.ok = true)
  | .mashCommit d others => decide (d.ok = true) && others.all (fun o => decide (o < 512))
  | .mashAbort d => decide (d.ok = true)
  | .mashRbAdvance d => decide (d.ok = true)
  | .mashReceiveDone => true
  | .mashCheckDone => true
  | .fullCommitApply => true
  | .bootImageCommit _ _ fault => decide (fault < 4)
  | .commitLineFinal _ _ _ => true
  | .changeSetStageSwitch type index => decide (type < 2 ^ 16 ∧ index < 64)
  | .changeSetInForce => true
  | .changeSetDeadlineMissed => true
  | .gapSectionApply type index => decide (type < 2 ^ 16 ∧ index < 64)
  | .backstepAssistedApply => true
  | .sqTailDoorbell n v => decide (n < 16384 ∧ v < 2 ^ 32)
  | .cqHeadDoorbell n v => decide (n < 16384 ∧ v < 2 ^ 32)
  | .qmCtrlEnWrite _ => true
  | .flr => true
  | .hotReset => true
  | .completionDue handle status result detail => decide (handle < 2 ^ 32 ∧ status < 256 ∧ result < 2 ^ 32 ∧ detail < 2 ^ 16)
  | .cqAggTimeout n => decide (n < 16384)
  | .msixUnmask v => decide (v < 2048)
  | .jsaMap d _ => decide (d.ok = true)
  | .jsaUnmap d _ => decide (d.ok = true)
  | .unmapComplete handle _ _ => decide (handle < 2 ^ 32)
  | .pageSubmit d _ => decide (d.ok = true)
  | .pageCancel d _ _ => decide (d.ok = true)
  | .pageComplete id _ => decide (id < 2 ^ 32)
  | .pageFault id cause _ _ _ _ _ => decide (id < 2 ^ 32 ∧ 1 ≤ cause ∧ cause ≤ 4)
  | .blockSend id _ _ _ _ => decide (id < 2 ^ 32)
  | .intakeCreditGrant _ c n _ => decide (c < 64 ∧ 0 < n)
  | .blockArrival c x => decide (c < 64 ∧ x.ok = true)
  | .grantRefill c => decide (c < 64)
  | .dataLateReport slot _ => decide (slot ≤ 2048)
  | .archiveSetup d => decide (d.ok = true)
  | .archiveRead d => decide (d.ok = true)
  | .archiveFrameWrite x => decide (x < 8)
  | .ubLateCountClr c => decide (c < 64)
  | .intArchDroppedClr => true
  | .intFaultLogClr => true
  | .blockDecodeStart c => decide (c < 64)
  | .blockCheckDone i j => decide (i < 4 ∧ j < 16)
  | .blockRelease c => decide (c < 64)
  | .archiveBlockClose x => decide (x < 8)
  | .cdcEncFlush i => decide (i < 4)
  | .cdcFailClr i => decide (i < 4)
  | .sliceStart t m => decide (t < 64 ∧ m < 16)
  | .engineNop t m => decide (t < 64 ∧ m < 16)
  | .jmp t m => decide (t < 64 ∧ m < 16)
  | .jnz t m => decide (t < 64 ∧ m < 16)
  | .jz t m => decide (t < 64 ∧ m < 16)
  | .loop t m => decide (t < 64 ∧ m < 16)
  | .call t m => decide (t < 64 ∧ m < 16)
  | .ret t m => decide (t < 64 ∧ m < 16)
  | .endl t m _ => decide (t < 64 ∧ m < 16)
  | .trap t m => decide (t < 64 ∧ m < 16)
  | .sadd t m => decide (t < 64 ∧ m < 16)
  | .ssub t m => decide (t < 64 ∧ m < 16)
  | .smov t m => decide (t < 64 ∧ m < 16)
  | .sand t m => decide (t < 64 ∧ m < 16)
  | .sor t m => decide (t < 64 ∧ m < 16)
  | .sshl t m => decide (t < 64 ∧ m < 16)
  | .sshr t m => decide (t < 64 ∧ m < 16)
  | .smul t m => decide (t < 64 ∧ m < 16)
  | .srd t m => decide (t < 64 ∧ m < 16)
  | .vadd t m => decide (t < 64 ∧ m < 16)
  | .vsub t m => decide (t < 64 ∧ m < 16)
  | .vmin t m => decide (t < 64 ∧ m < 16)
  | .vmax t m => decide (t < 64 ∧ m < 16)
  | .vand t m => decide (t < 64 ∧ m < 16)
  | .vor t m => decide (t < 64 ∧ m < 16)
  | .vxor t m => decide (t < 64 ∧ m < 16)
  | .vshl t m => decide (t < 64 ∧ m < 16)
  | .vshr t m => decide (t < 64 ∧ m < 16)
  | .vsra t m => decide (t < 64 ∧ m < 16)
  | .vsel t m => decide (t < 64 ∧ m < 16)
  | .vcmp t m => decide (t < 64 ∧ m < 16)
  | .vmov t m => decide (t < 64 ∧ m < 16)
  | .viota t m => decide (t < 64 ∧ m < 16)
  | .vmul t m => decide (t < 64 ∧ m < 16)
  | .vmulw t m => decide (t < 64 ∧ m < 16)
  | .vmac t m => decide (t < 64 ∧ m < 16)
  | .vnarrow t m => decide (t < 64 ∧ m < 16)
  | .vslide t m => decide (t < 64 ∧ m < 16)
  | .vbcast t m => decide (t < 64 ∧ m < 16)
  | .vperm t m => decide (t < 64 ∧ m < 16)
  | .ldl t m => decide (t < 64 ∧ m < 16)
  | .stl t m => decide (t < 64 ∧ m < 16)
  | .ldgl t m => decide (t < 64 ∧ m < 16)
  | .ldt t m => decide (t < 64 ∧ m < 16)
  | .stt t m => decide (t < 64 ∧ m < 16)
  | .ldtm t m => decide (t < 64 ∧ m < 16)
  | .curve t m => decide (t < 64 ∧ m < 16)
  | .edstep t m => decide (t < 64 ∧ m < 16)
  | .emit t m => decide (t < 64 ∧ m < 16)
  | .sendr t m => decide (t < 64 ∧ m < 16)
  | .sendl t m => decide (t < 64 ∧ m < 16)
  | .recvl t m => decide (t < 64 ∧ m < 16)
  | .recvr t m => decide (t < 64 ∧ m < 16)
  | .edgeWaitResume t m => decide (t < 64 ∧ m < 16)
  | .tunFault t m code count => decide (t < 64 ∧ m < 16 ∧ 1 ≤ code ∧ code ≤ 10 ∧ 1 ≤ count ∧ count ≤ 16)
  | .sliceOverrun t m => decide (t < 64 ∧ m < 16)
  | .lineComplete t => decide (t < 64)
  | .tunPausePoint t => decide (t < 64)
  | .tunProgLoadDone t _ => decide (t < 64)
  | .tunFaultClr t => decide (t < 64)
  | .tunEccClr t => decide (t < 64)
  | .tunSliceMaxClr t m => decide (t < 64 ∧ m < 16)
  | .generationSwitch t => decide (t < 64)
  | .scrBridgeSetWrite t w v => decide (t < 64 ∧ w < 80 ∧ v < 2 ^ 32)
  | .scrBridgeClrWrite t w v => decide (t < 64 ∧ w < 80 ∧ v < 2 ^ 32)
  | .scrBridgeApply t => decide (t < 64)
  | .scrBridgeLostClr t => decide (t < 64)
  | .scrClipClr t => decide (t < 64)
  | .lineEventRaise _ => true
  | .slavedModeExit => true
  | .lineEventFrame f _ => decide (f < 2 ^ 48)
  | .stopDistanceFrame f => decide (f < 2 ^ 48)
  | .badTriggerFrame f => decide (f < 2 ^ 48)
  | .lineEventApply => true
  | .withheldResync => true
  | .lineTake c _ => decide (c < 64)
  | .firstLinePrepare c _ => decide (c < 64)
  | .lineFire c => decide (c < 64)
  | .strobeStart c => decide (c < 64)
  | .fireCommit d => decide (d.ok = true)
  | .fireTrigCompWrite v => decide (v < 2 ^ 16)
  | .fireChTrimWrite c v => decide (c < 64 ∧ v < 2 ^ 12)
  | .sequencerCopyDisagree mask => decide (mask < 8)
  | .fireDroppedClr => true
  | .fireMissedClr => true
  | .fireVoteClr => true
  | .fireChDroppedClr c => decide (c < 64)
  | .kilnHpwrReqWrite i v => decide (i < 2 ∧ v < 2 ^ 32)
  | .headPowerOn c => decide (c < 64)
  | .pwrSettleExpiry c => decide (c < 64)
  | .headPowerOff c => decide (c < 64)
  | .kilnClipLinesClr => true
  | .kilnUnsealedClr => true
  | .kilnChClipClr c => decide (c < 64)
  | .motMove d => decide (d.ok = true)
  | .motSpeed d => decide (d.ok = true)
  | .motStop d => decide (d.ok = true)
  | .stepIssue a rate => decide (a < 4 ∧ 0 < rate)
  | .axisAtRest a => decide (a < 4)
  | .cruiseReached a => decide (a < 4)
  | .limitInput a _ _ => decide (a < 4)
  | .webBreak _ => true
  | .splice _ => true
  | .jobEndStop => true
  | .backstepStart => true
  | .backstepStopped => true
  | .backstepPositioned => true
  | .backstepRunUp _ => true
  | .backstepSettle => true
  | .resumeTest => true
  | .motBsCountClr => true
  | .motRefusedClr => true
  | .motHardLinesClr => true
  | .encoderFault x => decide (x < 4)
  | .encoderRecover x => decide (x < 4)
  | .drLimit => true
  | .encDirChange x => decide (x < 4)
  | .encUncmdClr => true
  | .encAmpClr x => decide (x < 4)
  | .encFaultClr x => decide (x < 4)
  | .exposureTrigger x => decide (x < 8)
  | .csiShortPacket x hdr vc dt => decide (x < 8 ∧ hdr < 3 ∧ vc < 4 ∧ dt < 64)
  | .csiLongPacket x hdr vc dt wc _ _ => decide (x < 8 ∧ hdr < 3 ∧ vc < 4 ∧ dt < 64 ∧ wc < 2 ^ 16)
  | .frameLatencyTimeout x => decide (x < 8)
  | .jobEndClosingTrigger x => decide (x < 8)
  | .frameRecordSend x => decide (x < 8)
  | .ispShadowApply i => decide (i < 4)
  | .camLostClr x => decide (x < 8)
  | .camPhyErrClr x => decide (x < 8)
  | .camStaleClr x => decide (x < 8)
  | .alignedLineReceive c dev port _ _ _ _ _ => decide (c < 64 ∧ dev < 512 ∧ port < 8)
  | .statsRecordReceive c dev port _ _ _ _ => decide (c < 64 ∧ dev < 512 ∧ port < 8)
  | .lostNoticeReceive c dev port _ _ _ => decide (c < 64 ∧ dev < 512 ∧ port < 8)
  | .backinTrial c _ => decide (c < 64)
  | .gravRebind d => decide (d.ok = true)
  | .channelBound c => decide (c < 64)
  | .learnLimit handle => decide (handle < 2 ^ 32)
  | .gravForeignClr => true
  | .gravChCountClr c => decide (c < 64)
  | .resetTrials c => decide (c < 64)
  | .clearWindow c => decide (c < 64)
  | .senseChannelFault c => decide (c < 64)
  | .maskViolation c => decide (c < 64)
  | .sequencerEvent edge c _ => decide (edge < 3 ∧ c < 64)
  | .sequencerTimeout q => decide (q < 4)
  | .sequencerHoldoffEnd q => decide (q < 4)
  | .captureComplete q => decide (q < 4)
  | .sgArm d => decide (d.ok = true)
  | .sgRead d => decide (d.ok = true)
  | .sgForce m => decide (m < 16)
  | .sgDisarm m => decide (m < 16)
  | .busTriggerForward g _ _ => decide (g < 16)
  | .sgBusTriggerFrame f _ => decide (f < 2 ^ 48)
  | .sgBusClr => true
  | .sgViolClr c => decide (c < 64)
  | .timeNsRead _ => true
  | .timeLoad _ => true
  | .timeAdjust => true
  | .timeIncrWrite v => decide (v < 2 ^ 32)
  | .ptpEventStamp p _ _ _ _ seq type => decide (p < 2 ∧ seq < 2 ^ 16 ∧ type < 16)
  | .txStampPush p => decide (p < 2)
  | .ethTxtsEntryPop p => decide (p < 2)
  | .ethTxtsClr p => decide (p < 2)
  | .portTrain p _ lanes => decide (p < 4 ∧ lanes.length = 8)
  | .trainStageTimeout p k => decide (p < 4 ∧ k < 9)
  | .init p _ role port mask shares => decide (p < 4 ∧ role < 4 ∧ port < 4 ∧ mask < 256 ∧ shares.length = 4)
  | .credit p counts => decide (p < 4 ∧ counts.length = 4)
  | .ack p seq => decide (p < 4 ∧ seq < 4096)
  | .nak p seq => decide (p < 4 ∧ seq < 4096)
  | .width p mask => decide (p < 4 ∧ mask < 256)
  | .widthSwitch p => decide (p < 4)
  | .down p _ => decide (p < 4)
  | .reservedControlBlock p type => decide (p < 4 ∧ type < 256)
  | .flitReceive p bytes words => decide (p < 4 ∧ bytes.length = 256 ∧ words.all (fun c => c.length == 272 && c.all (fun x => decide (x < 1024))) = true)
  | .storeRd p jsa len _ => decide (p < 4 ∧ jsa % 64 = 0 ∧ len % 64 = 0 ∧ len ≤ 4096)
  | .storeData p _ _ _ => decide (p < 4)
  | .fecWindowEnd i _ _ => decide (i < 36)
  | .laneRetrain i _ _ => decide (i < 36)
  | .portRetrain p _ => decide (p < 4)
  | .eyeRecalibration i _ => decide (i < 36)
  | .wlPortRetrainWrite p => decide (p < 4)
  | .wlLaneRetrainWrite i => decide (i < 36)
  | .wlPortErrClr p => decide (p < 4)
  | .wlLaneRetrainsClr i => decide (i < 36)
  | .barEnum d _ _ => decide (d.ok = true)
  | .barBind d _ => decide (d.ok = true)
  | .barRelease _ d => decide (d.ok = true)
  | .linkUpEnumeration _ _ up _ _ _ _ => decide (up < 4)
  | .timeStampReport _ index _ value => decide (index < 512 ∧ value < 2 ^ 32)
  | .timeStampLate _ index _ => decide (index < 512)
  | .pageDigest _ page composite => decide (page < 2 ^ 32 ∧ composite < 2 ^ 64)
  | .coverageReport index mask cause unbound => decide (index < 512 ∧ mask < 2 ^ 64 ∧ cause < 8 ∧ unbound < 2 ^ 64)
  | .barResyncClr => true
  | .barCovEventsClr => true
  | .stateFrameSend _ => true
  | .stateFrameReceive port bytes _ => decide (port < 2 ∧ (bytes.length = 128 ∨ bytes = []))
  | .qualify _ => true
  | .badVerdict pos _ => decide (pos < 3)
  | .takeover cause _ => decide (1 ≤ cause ∧ cause ≤ 3)
  | .yield pos => decide (pos < 3)
  | .claim pos => decide (pos < 3)
  | .driverEnable => true
  | .firstOwnerClaim _ _ => true
  | .ownerNotice t _ => decide (t < 3)
  | .revertReq => true
  | .primaryReturn => true
  | .trioCfgWrite v => decide (v < 2 ^ 32)
  | .trioEventsClr => true
  | .ddrTrain i _ _ => decide (i < 6)
  | .refresh => true
  | .dimmTempRead i deg => decide (i < 6 ∧ deg < 256)
  | .alertN i _ _ => decide (i < 6)
  | .uncorrectableBurst i _ _ _ unit _ => decide (i < 6 ∧ unit < 64)
  | .ddrChannelFail i => decide (i < 6)
  | .evacuationDone i => decide (i < 6)
  | .selfRefreshExit i _ => decide (i < 6)
  | .ddrEccClr i => decide (i < 6)
  | .ddrAlertClr i => decide (i < 6)
  | .spargeRead i found => decide (i < 6 ∧ found < 4)
  | .sramScrub memory unit _ _ => decide (memory < 7 ∧ unit < 64)
  | .recalibration _ inst _ _ => decide (inst < 64)
  | .headIdRead c _ => decide (c < 64)
  | .checkpoint => true
  | .fireCountsRead d => decide (d.ok = true)
  | .telemetrySample supply i value => decide (i < (if supply then 32 else 40) ∧ value < 2 ^ 16)
  | .snapshot => true
  | .telRead d => decide (d.ok = true)
  | .fenceSet d => decide (d.ok = true)
  | .fenceLift d _ => decide (d.ok = true)
  | .fenceLastClr => true
  | .telStatusClr => true
  | .telScrubClr => true
  | .telTempClr i => decide (i < 40)
  | .spgFoundClr i => decide (i < 6)
  | .spgCtrlWrite i v => decide (i < 6 ∧ v < 2 ^ 32)
  | .bootRom => true
  | .bootSettle => true
  | .flsProgram d => decide (d.ok = true)
  | .flsErase d => decide (d.ok = true)
  | .caskConfirm d => decide (d.ok = true)
  | .fwHandover d => decide (d.ok = true)
  | .handoverFreeze _ _ _ fault _ => decide (fault < 4)
  | .handoverTimeout => true
  | .flsXipWrite _ v => decide (v < 2 ^ 32)
  | .flsHostloadWrite len => decide (len < 2 ^ 32)
  | .wortImageLoad p _ _ _ => decide (p < 4)
  | .caskRecordWrite kind _ _ => decide (2 ≤ kind ∧ kind ≤ 6)
  | .caskMigration => true
  | .caskCompaction => true
  | .getInfo value index len => decide (value < 2 ^ 16 ∧ index < 2 ^ 16 ∧ len < 2 ^ 16)
  | .usbRegRead offset len => decide (offset < 2 ^ 32 ∧ len < 2 ^ 16)
  | .usbRegWrite offset len _ _ => decide (offset < 2 ^ 32 ∧ len < 2 ^ 16)
  | .usbRegWriteApply => true
  | .telPeek value index len => decide (value < 2 ^ 16 ∧ index < 2 ^ 16 ∧ len < 2 ^ 16)
  | .usbStandardRequest type request value index len => decide (type < 256 ∧ request < 256 ∧ value < 2 ^ 16 ∧ index < 2 ^ 16 ∧ len < 2 ^ 16)
  | .usbBusReset _ => true
  | .usbDetach => true
  | .usbSetupAbandon => true
  | .usbCountsClr => true
  | .vpCommit => true
  | .vpShadowCapture => true
  | .vpRefresh => true
  | .teInEdge _ => true
  | .teTimeout => true
  | .staticBlankExtend => true
  | .vpLineUnderrun => true
  | .vpCmdSend => true
  | .vpCountsClr => true
  | .mashErrClr => true
  | .qmDbErrClr => true
  | .qmFlrDroppedClr => true
  | .timeCounterTick => true
  | .encoderSample x sin cos => decide (x < 4 ∧ sin < 2 ^ 14 ∧ cos < 2 ^ 14)
  | .senseSample _ codes => decide (codes.length = 64)
  | .auxPauseEnd unit => decide (unit < 6)
  | .bar4Access write addr _ bytes => decide (addr < 2 ^ 36 ∧ (write || bytes.isEmpty) = true)
  | .usbAttach => true
  | .usbSuspend => true
  | .usbResume => true
  | .ep1InTransaction => true
  | .ethLinkChange p _ => decide (p < 2)
  | .csiLinkChange x _ => decide (x < 8)
  | .vpVideoLine => true
  | .alertNHigh i => decide (i < 6)

end Sys2Proof
end

