-- ==== Sys2Proof/Safety.lean ====
section
/-! DEFINITION. The terms in which claims are stated: what a step keeps, what a command leaves unchanged, and when a pixel engine issues
an instruction and a queue starts a command. -/

namespace Sys2Proof.Machine

/-- The command runs to a next state with property `P`. -/
def Runs (i : Instr) (s : State) (P : State → Prop) : Prop := ∃ t, exec i s = .next t ∧ P t

/-- Between `s` and `t` nothing but the register fields marked by `p` differs: no other field, no memory, no queue. -/
def OnlyRegs (s t : State) (p : Fld → Nat → Nat → Prop) : Prop :=
  t = { s with regs := t.regs } ∧ ∀ f i k, ¬ p f i k → t.get f i k = s.get f i k

/-- The command runs, sets each field of the list, at instance `j` and index `k`, to the value beside it, and changes nothing else. -/
def SetsOnly (i : Instr) (s : State) (fs : List (Fld × Nat)) (j k : Nat) : Prop :=
  Runs i s (fun t => OnlyRegs s t (fun f a b => a = j ∧ b = k ∧ f ∈ fs.map Prod.fst) ∧ ∀ e ∈ fs, t.get e.1 j k = e.2)

/-- Every byte of host memory and of DRAM reads as before. -/
def SameMemory (s t : State) : Prop :=
  (∀ a, Memory.rd t.hostMem a = Memory.rd s.hostMem a) ∧ (∀ a, Memory.rd t.dram a = Memory.rd s.dram a)

/-- What every step keeps (R12, R13): the register fields are listed in the canonical form and each fits its width, so that reserved bits
read 0; host memory and DRAM are in the canonical form. -/
structure State.Inv (s : State) : Prop where
  regs    : Tab.wf FKey.lt FKey.dflt s.regs = true
  widths  : ∀ e ∈ s.regs, e.2 < 2 ^ e.1.fld.desc.width
  hostMem : Memory.wf s.hostMem = true
  dram    : Memory.wf s.dram = true

/-! ## Pixel engines -/

/-- Engine `m` of tun `t` issues the word `w`, which has opcode `op` and which R170 allows, within its slice limit (R166). -/
structure Issues (s : State) (t m op : Nat) (u : Uses) (w : IWord) : Prop where
  issuing : s.issuing t m = true
  limit   : (s.eng t m).cyc < s.get .TUN_LIMIT_SLICE_LIMIT t
  fetch   : (s.eng t m).fetch = some w
  op      : w.op = op
  legal   : w.legal u = true

/-- The same with lane 0 of the word's predicate 1, as R170 asks of scalar and control instructions. -/
structure Issues0 (s : State) (t m op : Nat) (u : Uses) (w : IWord) : Prop extends Issues s t m op u w where
  lane0 : bit (w.mask (s.ticked t m)) 0 = true

/-- From `s` to `s'` engine `m` of tun `t` has become `e` and its channel `c`; nothing else differs but the count of free values. -/
structure EngStep (s : State) (t m : Nat) (c : Chan) (e : Eng) (s' : State) : Prop where
  eng   : s'.eng t m = e
  chan  : s'.chan t = c
  engs  : ∀ n, n ≠ 16 * t + m → look {} s'.engs n = look {} s.engs n
  chans : ∀ n, n ≠ t → s'.chan n = s.chan n
  frame : s' = { s with engs := s'.engs, chans := s'.chans, freeCtr := s'.freeCtr }

/-! ## Commands from a queue -/

/-- The state in which a command's own effect starts, and its handle: the descriptor fetched in its queue's turn, a slot allotted, the tag remembered (R105,
R108, R110). -/
def State.started (s : State) (d : Desc) (op : Nat) : Nat × State :=
  let p := s.pair d.sq
  let s := if d.sq = viaWort then s else (s.tookTurn d.sq).setPair d.sq { p with sqHead := (p.sqHead + 1) % p.depth }
  let a := s.allot d op
  (a.1, a.2.remember d op a.1)

/-- A long command's start: ACCEPTED has been reported (R108). -/
def State.startedLong (s : State) (d : Desc) (op : Nat) : Nat × State :=
  let a := s.started d op
  (a.1, a.2.report a.1 stAccepted false 0 0)

/-- A descriptor that its queue may fetch now and that passes the checks common to all commands (R105, R106, R110, R112): the opcode and
its class, no repeated tag, this device as TARGET, reserved and unused bytes 0. -/
structure Accepts (s : State) (d : Desc) (op : Nat) (used : List (Nat × Nat)) : Prop where
  fetch  : s.mayFetch d = true
  opcode : d.opcode = op
  cls    : s.classOk d.sq (op / 256) = true
  tag    : d.tag = 0 ∨ (s.pair d.sq).tags.find? (fun t => t.tag == d.tag) = none
  target : s.targetSelf d = true
  rsv    : d.rsvZero = true
  unused : d.unusedZero used = true

end Sys2Proof.Machine
end

