-- ==== Sys2Proof/Certificates/Slice0/Obligations.lean ====
section
/-! DEFINITION. The statements for the provers: what the commands of each family do, what they leave unchanged, and what every step keeps. -/

open Sys2Proof Sys2Proof.Machine

/-- A step takes the command at the front of the queue and runs it with the queue's rest; an empty queue idles (log entry 1, the model's
choice). -/
def Obligations.StepRunsFrontCommand : Prop :=
  (∀ (c : Instr) (rest : List Instr) (s : State), s.pending = c :: rest → step s = exec c { s with pending := rest }) ∧
  (∀ s : State, s.pending = [] → step s = .next s)

/-- State.reset: the time counter at 0 with its start rate and UNSYNC set (R308, R312), every switched domain off (R47), no queue pair
enabled (R102), the Kiln unsealed (R41), no unit fenced, no command waiting. That memory lists nothing is log entry 8. -/
def Obligations.ResetLeaves : Prop :=
  let s := State.reset
  s.clock = { sec := 0, nsf := 0, frac := 0 } ∧ s.get .TIME_INCR_INCR = 0x0000000280000000 ∧ s.is .TIME_STATUS_UNSYNC = true ∧
  (∀ n, n < 132 → s.powered n = false) ∧ (∀ n, (s.pair n).enabled = false) ∧ s.kiln = none ∧
  (∀ k i, s.fenced k i = false) ∧ s.is .RST_STATUS_DONE = false ∧ s.pending = [] ∧ s.hostMem = [] ∧ s.dram = []

/-- The invariant of StepKeepsInvariant holds at State.reset. -/
def Obligations.ResetKeepsInvariant : Prop := State.reset.Inv

/-- Every command, in every state that meets the invariant, leads to a state that meets it: each register field fits its width, so that
reserved bits read 0 (R13), and the tables of registers and memories stay in canonical form. -/
def Obligations.StepKeepsInvariant : Prop :=
  ∀ s t : State, s.Inv → step s = .next t → t.Inv

/-- A bit of a register that lies in no field, or in a write-only one, reads 0 (R12, R13). -/
def Obligations.ReservedBitsReadZero : Prop :=
  ∀ (s : State) (r : Reg) (i k x : Nat),
    (∀ f ∈ r.fields, f.desc.access ≠ .wo → ¬ (f.desc.lo ≤ x ∧ x < f.desc.lo + f.desc.width)) →
    (s.regRead r i k).testBit x = false

/-- R171: the control instructions set the pc, the loop stack and the return stack as their rows say; LOOP with a count of 0, or an empty
body, skips the body, and what lies behind a skipped body or a CALL may end an enclosing body (loopBack). Every other engine, channel, register and byte of memory stays (EngStep). R171 LOOP: an engine at the end of its innermost body runs it again with the count lowered, or leaves it after the last pass; elsewhere its pc advances
by one. -/
def Obligations.EngineControl : Prop :=
  (∀ (s : State) (t m : Nat) (w : IWord),
  (Issues s t m 0x00 {} w → Runs (.engineNop t m) s (EngStep s t m (s.chan t) (s.ticked t m).advance)) ∧
  (Issues0 s t m 0x01 { imm := true } w → Runs (.jmp t m) s (EngStep s t m (s.chan t) { s.ticked t m with pc := w.imm % 2048 })) ∧
  (Issues0 s t m 0x02 { a := true, imm := true } w → Runs (.jnz t m) s (EngStep s t m (s.chan t) (if (s.eng t m).sr w.a ≠ 0 then { s.ticked t m with pc := w.imm % 2048 } else (s.ticked t m).advance))) ∧
  (Issues0 s t m 0x03 { a := true, imm := true } w → Runs (.jz t m) s (EngStep s t m (s.chan t) (if (s.eng t m).sr w.a = 0 then { s.ticked t m with pc := w.imm % 2048 } else (s.ticked t m).advance))) ∧
  (Issues0 s t m 0x04 { a := true, imm := true } w → (s.eng t m).sr w.a ≠ 0 → w.imm % 2048 ≠ 0 → (s.eng t m).lstack.length < 4 → Runs (.loop t m) s (EngStep s t m (s.chan t) { s.ticked t m with pc := (s.eng t m).pc + 1, lstack := ((s.eng t m).pc + 1, (s.eng t m).pc + w.imm % 2048, (s.eng t m).sr w.a) :: (s.eng t m).lstack })) ∧
  (Issues0 s t m 0x04 { a := true, imm := true } w → (s.eng t m).sr w.a = 0 ∨ w.imm % 2048 = 0 → Runs (.loop t m) s (EngStep s t m (s.chan t) { s.ticked t m with pc := (loopBack ((s.eng t m).pc + w.imm % 2048) (s.eng t m).lstack).1, lstack := (loopBack ((s.eng t m).pc + w.imm % 2048) (s.eng t m).lstack).2 })) ∧
  (Issues0 s t m 0x05 { imm := true } w → (s.eng t m).rstack.length < 8 → Runs (.call t m) s (EngStep s t m (s.chan t) { s.ticked t m with pc := w.imm % 2048, rstack := ((s.eng t m).pc + 1) :: (s.eng t m).rstack })) ∧
  (∀ a r, Issues0 s t m 0x06 {} w → (s.eng t m).rstack = a :: r →
    Runs (.ret t m) s (EngStep s t m (s.chan t) { s.ticked t m with pc := (loopBack (a - 1) (s.eng t m).lstack).1, lstack := (loopBack (a - 1) (s.eng t m).lstack).2, rstack := r }))) ∧
  (∀ e : Eng, (∀ l ∈ e.lstack, e.pc ≠ l.2.1) → e.advance.pc = e.pc + 1 ∧ e.advance.lstack = e.lstack) ∧
  (∀ (e : Eng) (first last n : Nat) (rest : List (Nat × Nat × Nat)), e.lstack = (first, last, n) :: rest → e.pc = last → 1 < n →
    e.advance.pc = first ∧ e.advance.lstack = (first, last, n - 1) :: rest) ∧
  (∀ (e : Eng) (first last : Nat) (rest : List (Nat × Nat × Nat)), e.lstack = (first, last, 1) :: rest → e.pc = last →
    (∀ l ∈ rest, l.2.1 ≠ last) → e.advance.pc = last + 1 ∧ e.advance.lstack = rest)

/-- ENDL (R165, R166) within SLICE_LIMIT ends the slice and records the longest one, which takes a cycle an instruction at least; TRAP is
fault 9, which stops every engine of the tun, fences it, discards the STAGE contents of incomplete lines and, as the first fault, is
recorded (R173, R174). -/
def Obligations.EngineEndLine : Prop :=
  (∀ (s : State) (t m n : Nat) (w : IWord), Issues0 s t m 0x07 {} w → n ≤ s.get .TUN_LIMIT_SLICE_LIMIT t →
    Runs (.endl t m n) s (fun x => (x.eng t m).running = false ∧ (x.eng t m).ended = (s.eng t m).line + 1 ∧
      x.get .TUN_SLICE_MAX_CYCLES t m = max (s.get .TUN_SLICE_MAX_CYCLES t m) (max n ((s.eng t m).cyc + 1)) % 2 ^ Fld.TUN_SLICE_MAX_CYCLES.desc.width ∧
      SameMemory s x)) ∧
  (∀ (s : State) (t m : Nat) (w : IWord), Issues0 s t m 0x08 { imm := true } w → s.get .TUN_FAULT_CODE t = 0 →
    Runs (.trap t m) s (fun x => x.fenced 2 t = true ∧ (∀ j, j < 16 → (x.eng t j).running = false) ∧
      x.get .TUN_FAULT_CODE t = 9 ∧ x.get .TUN_FAULT_ENGINE t = m % 16 ∧
      (x.chan t).stage = (s.chan t).stage.filter (fun e => s.lineDone t e.1) ∧ SameMemory s x))

/-- R170, R171: the scalar instructions write S[D] with their result, the B-operand being S[B] or the sign-extended IMM16. A shift by the
width or more, and the cycle count that SRD 7 reads, is a free value, the latter bounded by the cycles taken at least and by SLICE_LIMIT (log entries 32,
33). Nothing else changes (EngStep). -/
def Obligations.EngineScalar : Prop :=
  ∀ (s : State) (t m : Nat) (w : IWord),
  (Issues0 s t m 0x10 usesScalar w → Runs (.sadd t m) s (EngStep s t m (s.chan t) ((s.ticked t m).setS w.d ((s.ticked t m).sr w.a + w.sop (s.ticked t m))).advance)) ∧
  (Issues0 s t m 0x11 usesScalar w → Runs (.ssub t m) s (EngStep s t m (s.chan t) ((s.ticked t m).setS w.d ((s.ticked t m).sr w.a + 2 ^ 32 - w.sop (s.ticked t m))).advance)) ∧
  (Issues0 s t m 0x12 { d := true, bop := 1 } w → Runs (.smov t m) s (EngStep s t m (s.chan t) ((s.ticked t m).setS w.d (w.sop (s.ticked t m))).advance)) ∧
  (Issues0 s t m 0x13 usesScalar w → Runs (.sand t m) s (EngStep s t m (s.chan t) ((s.ticked t m).setS w.d ((s.ticked t m).sr w.a &&& w.sop (s.ticked t m))).advance)) ∧
  (Issues0 s t m 0x14 usesScalar w → Runs (.sor t m) s (EngStep s t m (s.chan t) ((s.ticked t m).setS w.d ((s.ticked t m).sr w.a ||| w.sop (s.ticked t m))).advance)) ∧
  (Issues0 s t m 0x17 usesScalar w → Runs (.smul t m) s (EngStep s t m (s.chan t) ((s.ticked t m).setS w.d ((s.ticked t m).sr w.a * w.sop (s.ticked t m))).advance)) ∧
  (Issues0 s t m 0x15 usesScalar w → Runs (.sshl t m) s (fun x => ∃ v, (w.sop (s.ticked t m) < 32 → v = (s.ticked t m).sr w.a * 2 ^ (w.sop (s.ticked t m))) ∧
    EngStep s t m (s.chan t) ((s.ticked t m).setS w.d v).advance x)) ∧
  (Issues0 s t m 0x16 usesScalar w → Runs (.sshr t m) s (fun x => ∃ v, (w.sop (s.ticked t m) < 32 → v = (s.ticked t m).sr w.a / 2 ^ (w.sop (s.ticked t m))) ∧
    EngStep s t m (s.chan t) ((s.ticked t m).setS w.d v).advance x)) ∧
  (Issues0 s t m 0x18 { d := true, aux := fun x => decide (x ≤ 9) } w → Runs (.srd t m) s (fun x => ∃ v,
    (w.aux = 0 → v = (s.ticked t m).line) ∧ (w.aux = 1 → v = (s.ticked t m).line / 2 ^ 32) ∧ (w.aux = 2 → v = s.sliceFirst t m) ∧
    (w.aux = 3 → v = s.sliceCount t m) ∧ (w.aux = 4 → v = m) ∧ (w.aux = 5 → v = t) ∧ (w.aux = 6 → v = (s.chan t).bankOf (s.ticked t m).line) ∧
    (w.aux = 8 → v = s.planeLine t (s.ticked t m).line) ∧ (w.aux = 9 → ∀ b, s.relOf t (s.ticked t m).line = some b → v = (s.ticked t m).line - b.pfirst) ∧
    (w.aux ≠ 7 → EngStep s t m (s.chan t) ((s.ticked t m).setS w.d v).advance x) ∧
    (w.aux = 7 → (s.ticked t m).cyc ≤ v ∧ v ≤ s.get .TUN_LIMIT_SLICE_LIMIT t ∧
      EngStep s t m (s.chan t) (Eng.setS { s.ticked t m with cyc := v } w.d v).advance x)))

/-- R159, R170: what writing an engine's registers does. A vector write changes the masked lanes alone; P0 reads as all ones whatever is
written to it. -/
def Obligations.EngineRegisters : Prop :=
  (∀ (e : Eng) (r q v : Nat), (e.setS r v).sr q = if q = r then v % 2 ^ 32 else e.sr q) ∧
  (∀ (e : Eng) (r q mask i : Nat) (f : Nat → Nat), i < 32 →
    (e.setV r mask f).lane q i = if q = r ∧ bit mask i = true then f i % 65536 else e.lane q i) ∧
  (∀ (e : Eng) (r q v : Nat), (e.setP r v).pr q = if q = 0 then 2 ^ 32 - 1 else if q = r then v % 2 ^ 32 else e.pr q) ∧
  (∀ (e : Eng) (r v q mask : Nat) (f : Nat → Nat), (e.setS r v).vr q = e.vr q ∧ (e.setV r mask f).sr q = e.sr q ∧
    (e.setP r v).sr q = e.sr q ∧ (e.setS r v).pc = e.pc ∧ (e.setV r mask f).lmem = e.lmem)

/-- R170, R171: the lane-wise instructions write the enabled lanes of V[D], or of P[D] for VCMP, with their results. A lane shift by 16 or
more is a free value (log entry 32). Nothing else changes (EngStep). -/
def Obligations.EngineVector : Prop :=
  ∀ (s : State) (t m : Nat) (w : IWord),
  (Issues s t m 0x20 usesLaneSat w → Runs (.vadd t m) s
    (EngStep s t m (s.chan t) ((s.ticked t m).setV w.d (w.mask (s.ticked t m)) (fun i => satTo16 w.sat (laneInt w.sat ((s.ticked t m).lane w.a i) + laneInt w.sat (w.vop (s.ticked t m) i)))).advance)) ∧
  (Issues s t m 0x21 usesLaneSat w → Runs (.vsub t m) s
    (EngStep s t m (s.chan t) ((s.ticked t m).setV w.d (w.mask (s.ticked t m)) (fun i => satTo16 w.sat (laneInt w.sat ((s.ticked t m).lane w.a i) - laneInt w.sat (w.vop (s.ticked t m) i)))).advance)) ∧
  (Issues s t m 0x22 usesMinMax w → Runs (.vmin t m) s
    (EngStep s t m (s.chan t) ((s.ticked t m).setV w.d (w.mask (s.ticked t m)) (fun i => if laneLe w ((s.ticked t m).lane w.a i) (w.vop (s.ticked t m) i) then (s.ticked t m).lane w.a i else w.vop (s.ticked t m) i)).advance)) ∧
  (Issues s t m 0x23 usesMinMax w → Runs (.vmax t m) s
    (EngStep s t m (s.chan t) ((s.ticked t m).setV w.d (w.mask (s.ticked t m)) (fun i => if laneLe w ((s.ticked t m).lane w.a i) (w.vop (s.ticked t m) i) then w.vop (s.ticked t m) i else (s.ticked t m).lane w.a i)).advance)) ∧
  (Issues s t m 0x24 usesLane w → Runs (.vand t m) s
    (EngStep s t m (s.chan t) ((s.ticked t m).setV w.d (w.mask (s.ticked t m)) (fun i => (s.ticked t m).lane w.a i &&& w.vop (s.ticked t m) i)).advance)) ∧
  (Issues s t m 0x25 usesLane w → Runs (.vor t m) s
    (EngStep s t m (s.chan t) ((s.ticked t m).setV w.d (w.mask (s.ticked t m)) (fun i => (s.ticked t m).lane w.a i ||| w.vop (s.ticked t m) i)).advance)) ∧
  (Issues s t m 0x26 usesLane w → Runs (.vxor t m) s
    (EngStep s t m (s.chan t) ((s.ticked t m).setV w.d (w.mask (s.ticked t m)) (fun i => (s.ticked t m).lane w.a i ^^^ w.vop (s.ticked t m) i)).advance)) ∧
  (Issues s t m 0x2A { d := true, a := true, c := true, bop := 2 } w → w.c < 8 → Runs (.vsel t m) s
    (EngStep s t m (s.chan t) ((s.ticked t m).setV w.d (w.mask (s.ticked t m)) (fun i => if bit ((s.ticked t m).pr w.c) i then (s.ticked t m).lane w.a i else w.vop (s.ticked t m) i)).advance)) ∧
  (Issues s t m 0x2C { d := true, bop := 2 } w → Runs (.vmov t m) s
    (EngStep s t m (s.chan t) ((s.ticked t m).setV w.d (w.mask (s.ticked t m)) (fun i => w.vop (s.ticked t m) i)).advance)) ∧
  (Issues s t m 0x2D { d := true, a := true } w → Runs (.viota t m) s
    (EngStep s t m (s.chan t) ((s.ticked t m).setV w.d (w.mask (s.ticked t m)) (fun i => (s.ticked t m).sr w.a + i)).advance)) ∧
  (Issues s t m 0x2B { d := true, a := true, bop := 2, aux := fun x => decide (x ≤ 5) } w → 1 ≤ w.d → w.d < 8 → Runs (.vcmp t m) s
    (EngStep s t m (s.chan t) ((s.ticked t m).setP w.d (maskOf (fun i => if bit (w.mask (s.ticked t m)) i then vcond w.aux ((s.ticked t m).lane w.a i) (w.vop (s.ticked t m) i) else bit ((s.ticked t m).pr w.d) i))).advance)) ∧
  (Issues s t m 0x27 usesLane w → Runs (.vshl t m) s (fun x => ∃ f : Nat → Nat, (∀ i, w.vop (s.ticked t m) i < 16 → f i = (s.ticked t m).lane w.a i * 2 ^ (w.vop (s.ticked t m) i)) ∧
    EngStep s t m (s.chan t) ((s.ticked t m).setV w.d (w.mask (s.ticked t m)) f).advance x)) ∧
  (Issues s t m 0x28 usesLane w → Runs (.vshr t m) s (fun x => ∃ f : Nat → Nat, (∀ i, w.vop (s.ticked t m) i < 16 → f i = (s.ticked t m).lane w.a i / 2 ^ (w.vop (s.ticked t m) i)) ∧
    EngStep s t m (s.chan t) ((s.ticked t m).setV w.d (w.mask (s.ticked t m)) f).advance x)) ∧
  (Issues s t m 0x29 usesLane w → Runs (.vsra t m) s (fun x => ∃ f : Nat → Nat, (∀ i, w.vop (s.ticked t m) i < 16 → f i = ofSigned 16 (toSigned 16 ((s.ticked t m).lane w.a i) / 2 ^ (w.vop (s.ticked t m) i))) ∧
    EngStep s t m (s.chan t) ((s.ticked t m).setV w.d (w.mask (s.ticked t m)) f).advance x))

/-- R171: multiplies with their rounding and saturation, the accumulating pair of VMAC, and the permutations. Nothing else changes
(EngStep). -/
def Obligations.EngineMultiplyPermute : Prop :=
  ∀ (s : State) (t m : Nat) (w : IWord),
  (Issues s t m 0x30 usesMul w → Runs (.vmul t m) s
    (EngStep s t m (s.chan t) ((s.ticked t m).setV w.d (w.mask (s.ticked t m)) (fun i => satTo16 w.sat ((mulInt w.aux ((s.ticked t m).lane w.a i) * mulInt w.aux (w.vop (s.ticked t m) i) + mulRound w) / 2 ^ w.shift))).advance)) ∧
  (Issues s t m 0x31 usesMulWide w → w.d % 2 = 0 → Runs (.vmulw t m) s (EngStep s t m (s.chan t)
    ((s.ticked t m).setPair w.d (w.mask (s.ticked t m)) (fun i => ofSigned 32 (mulInt w.aux ((s.ticked t m).lane w.a i) * mulInt w.aux (w.vop (s.ticked t m) i)))).advance)) ∧
  (Issues s t m 0x32 usesMulWide w → w.d % 2 = 0 → Runs (.vmac t m) s (EngStep s t m (s.chan t)
    ((s.ticked t m).setPair w.d (w.mask (s.ticked t m)) (fun i => ofSigned 32 (((s.ticked t m).pair w.d i : Int) + mulInt w.aux ((s.ticked t m).lane w.a i) * mulInt w.aux (w.vop (s.ticked t m) i)))).advance)) ∧
  (Issues s t m 0x33 { d := true, a := true, shift := true, sat := true, aux := fun x => decide (x ≤ 3) } w → w.a % 2 = 0 → Runs (.vnarrow t m) s
    (EngStep s t m (s.chan t) ((s.ticked t m).setV w.d (w.mask (s.ticked t m)) (fun i => satTo16 w.sat (((if bit w.aux 1 then ((s.ticked t m).pair w.a i : Int) else toSigned 32 ((s.ticked t m).pair w.a i)) + mulRound w) / 2 ^ w.shift))).advance)) ∧
  (Issues s t m 0x40 { d := true, a := true, c := true, aux := fun x => bits x 5 2 == 0 } w → Runs (.vslide t m) s
    (EngStep s t m (s.chan t) ((s.ticked t m).setV w.d (w.mask (s.ticked t m)) (fun i => if bit w.aux 7 then (if i + w.aux % 32 < 32 then (s.ticked t m).lane w.a (i + w.aux % 32) else (s.ticked t m).lane w.c i) else (if w.aux % 32 ≤ i then (s.ticked t m).lane w.a (i - w.aux % 32) else (s.ticked t m).lane w.c i))).advance)) ∧
  (Issues s t m 0x41 { d := true, a := true, aux := fun x => decide (x < 32) } w → Runs (.vbcast t m) s
    (EngStep s t m (s.chan t) ((s.ticked t m).setV w.d (w.mask (s.ticked t m)) (fun _ => (s.ticked t m).lane w.a w.aux)).advance)) ∧
  (Issues s t m 0x42 { d := true, a := true, b := true } w → Runs (.vperm t m) s
    (EngStep s t m (s.chan t) ((s.ticked t m).setV w.d (w.mask (s.ticked t m)) (fun i => (s.ticked t m).lane w.a ((s.ticked t m).lane w.b i % 32))).advance))

/-- R161, R171: loads and stores at the addresses their rows give. Nothing else changes (EngStep); which bytes a store changes is said by
EngineStores. R8, R170: STL and STT write the two bytes of each enabled lane, the low one first, and leave every other byte as it was. -/
def Obligations.EngineMemory : Prop :=
  (∀ (s : State) (t m : Nat) (w : IWord),
  (Issues s t m 0x50 { d := true, a := true, imm := true } w → w.addr (s.ticked t m) % 64 = 0 → w.addr (s.ticked t m) + 64 ≤ localSize → Runs (.ldl t m) s
    (EngStep s t m (s.chan t) ((s.ticked t m).setV w.d (w.mask (s.ticked t m)) (fun i => lanesOf (Memory.rds (s.ticked t m).lmem (w.addr (s.ticked t m)) 64) i)).advance)) ∧
  (Issues s t m 0x51 { a := true, c := true, imm := true } w → w.addr (s.ticked t m) % 64 = 0 → w.addr (s.ticked t m) + 64 ≤ localSize → Runs (.stl t m) s (EngStep s t m (s.chan t)
    (Eng.advance { s.ticked t m with lmem := storeLanes (s.ticked t m).lmem (w.addr (s.ticked t m)) (w.mask (s.ticked t m)) ((s.ticked t m).lane w.c) }))) ∧
  (Issues s t m 0x52 { d := true, a := true, b := true } w → (∀ i, i < 32 → bit (w.mask (s.ticked t m)) i = true → ((s.ticked t m).sr w.a + 2 * (s.ticked t m).lane w.b i) % 2 ^ 32 + 2 ≤ localSize) → Runs (.ldgl t m) s
    (EngStep s t m (s.chan t) ((s.ticked t m).setV w.d (w.mask (s.ticked t m)) (fun i => leNat (Memory.rds (s.ticked t m).lmem (((s.ticked t m).sr w.a + 2 * (s.ticked t m).lane w.b i) % 2 ^ 32) 2))).advance)) ∧
  (Issues s t m 0x53 { d := true, a := true, imm := true } w → s.ldtOk t (w.addr (s.ticked t m)) = true → Runs (.ldt t m) s
    (EngStep s t m (s.chan t) ((s.ticked t m).setV w.d (w.mask (s.ticked t m)) (fun i => lanesOf (Memory.rds (s.chan t).sram (w.addr (s.ticked t m)) 64) i)).advance)) ∧
  (Issues s t m 0x54 { a := true, c := true, imm := true } w → s.sttOk t (w.addr (s.ticked t m)) = true → Runs (.stt t m) s (EngStep s t m
    { s.chan t with sram := storeLanes (s.chan t).sram (w.addr (s.ticked t m)) (w.mask (s.ticked t m)) ((s.ticked t m).lane w.c) } (s.ticked t m).advance)) ∧
  (Issues s t m 0x55 { d := true, a := true, imm := true, aux := fun x => decide (x ≤ 1) } w → w.addr (s.ticked t m) + 64 ≤ s.regionSize t (if w.aux = 0 then regMap else regParam) / 2 → Runs (.ldtm t m) s
    (EngStep s t m (s.chan t) ((s.ticked t m).setV w.d (w.mask (s.ticked t m)) (fun i => lanesOf (Memory.rds (s.chan t).sram (s.regionBase t (if w.aux = 0 then regMap else regParam) + (s.chan t).bankOf (s.ticked t m).line * (s.regionSize t (if w.aux = 0 then regMap else regParam) / 2) + w.addr (s.ticked t m)) 64) i)).advance))) ∧
  (∀ (mem : Memory) (a mask : Nat) (f : Nat → Nat),
    (∀ i, i < 32 → bit mask i = true → Memory.rd (storeLanes mem a mask f) (a + 2 * i) = BitVec.ofNat 8 (f i) ∧
      Memory.rd (storeLanes mem a mask f) (a + 2 * i + 1) = BitVec.ofNat 8 (f i / 256)) ∧
    (∀ b, (∀ i, i < 32 → bit mask i = true → b ≠ a + 2 * i ∧ b ≠ a + 2 * i + 1) → Memory.rd (storeLanes mem a mask f) b = Memory.rd mem b))

/-- R171, R186, R187: the screening instructions. An input of CURVE above 1,023 gives a free value (log entry 31). EMIT writes the dot codes
of its 32 nozzles into the STAGE slot of the engine's line. R187 for one lane: the bounds of the dot code and of the residual, the carried error, and, where the 32-bit sums do not wrap, what the
residual is. -/
def Obligations.EngineScreening : Prop :=
  (∀ (s : State) (t m : Nat) (w : IWord),
  (Issues s t m 0x60 { d := true, a := true, b := true } w → Runs (.curve t m) s (fun x => ∃ f : Nat → Nat,
    (∀ i, f i % 65536 = (if s.tunNozzles t ≤ (s.ticked t m).lane w.b i then 0
      else s.curveAt t (s.mapEntry t ((s.chan t).bankOf (s.ticked t m).line) ((s.ticked t m).lane w.b i) % 4096) ((s.ticked t m).lane w.a i)) % 65536 ∨
      (1023 < (s.ticked t m).lane w.a i ∧ (s.ticked t m).lane w.b i < s.tunNozzles t)) ∧
    EngStep s t m (s.chan t) ((s.ticked t m).setV w.d (w.mask (s.ticked t m)) f).advance x)) ∧
  (Issues s t m 0x61 { d := true, a := true, b := true, c := true, shift := true, aux := fun _ => true } w →
    Runs (.edstep t m) s (EngStep s t m (s.chan t) (edLanes s.freeCtr w (w.mask (s.ticked t m)) (List.range 32) (s.ticked t m)).advance)) ∧
  (∀ row, Issues s t m 0x62 { a := true, b := true } w → (s.ticked t m).sr w.b % 32 = 0 →
    (∀ i, i < 32 → (s.ticked t m).sr w.b + i < s.tunNozzles t →
      s.sliceFirst t m ≤ (s.ticked t m).sr w.b + i ∧ (s.ticked t m).sr w.b + i < s.sliceFirst t m + s.sliceCount t m) →
    row = look [] (s.chan t).stage (s.ticked t m).line →
    Runs (.emit t m) s (fun x => x.eng t m = (s.ticked t m).advance ∧ SameMemory s x ∧ x.regs = s.regs ∧
      ∀ n, n < row.length → (look [] (x.chan t).stage (s.ticked t m).line).getD n 0 =
        if (s.ticked t m).sr w.b ≤ n ∧ n < (s.ticked t m).sr w.b + 32 ∧ bit (w.mask (s.ticked t m)) (n - (s.ticked t m).sr w.b) = true then (s.ticked t m).lane w.a (n - (s.ticked t m).sr w.b) % 4
        else row.getD n 0))) ∧
  (∀ (va vc sc : Int) (level maxdot kr kshift fd fc : Nat),
    let r := edLane va vc sc level maxdot kr kshift fd fc
    r.1 ≤ maxdot ∧ -4096 ≤ r.2.1 ∧ r.2.1 ≤ 4095 ∧
    (0 < level → level < 2048 → maxdot ≤ 3 → -32768 ≤ va → va ≤ 32767 → -32768 ≤ vc → vc ≤ 32767 → -1073741824 ≤ sc → sc ≤ 1073741824 →
      -4096 ≤ va + sc - r.1 * level → va + sc - r.1 * level ≤ 4095 → r.2.1 = va + sc - r.1 * level) ∧
    (0 < kshift → r.2.2 * 2 ^ kshift ≤ r.2.1 * kr + 2 ^ (kshift - 1) ∧ r.2.1 * kr + 2 ^ (kshift - 1) < (r.2.2 + 1) * 2 ^ kshift))

/-- R167: the edge channels between neighbouring used engines. -/
def Obligations.EngineEdges : Prop :=
  ∀ (s : State) (t m : Nat) (w : IWord),
  (Issues0 s t m 0x70 { a := true } w → s.rightOf t m = none → Runs (.sendr t m) s (EngStep s t m (s.chan t) (s.ticked t m).advance)) ∧
  (∀ n, Issues0 s t m 0x70 { a := true } w → s.rightOf t m = some n → (s.ticked t m).toRight.length < 4 → Runs (.sendr t m) s (EngStep s t m (s.chan t)
    (Eng.advance { s.ticked t m with toRight := (s.ticked t m).toRight ++ [(s.ticked t m).vr w.a] }))) ∧
  (∀ n, Issues0 s t m 0x70 { a := true } w → s.rightOf t m = some n → 4 ≤ (s.ticked t m).toRight.length → Runs (.sendr t m) s (EngStep s t m (s.chan t)
    { s.ticked t m with waiting := true })) ∧
  (Issues0 s t m 0x71 { a := true } w → s.leftOf t m = none → Runs (.sendl t m) s (EngStep s t m (s.chan t) (s.ticked t m).advance)) ∧
  (∀ n, Issues0 s t m 0x71 { a := true } w → s.leftOf t m = some n → (s.ticked t m).toLeft.length < 4 → Runs (.sendl t m) s (EngStep s t m (s.chan t)
    (Eng.advance { s.ticked t m with toLeft := (s.ticked t m).toLeft ++ [(s.ticked t m).vr w.a] }))) ∧
  (∀ n, Issues0 s t m 0x71 { a := true } w → s.leftOf t m = some n → 4 ≤ (s.ticked t m).toLeft.length → Runs (.sendl t m) s (EngStep s t m (s.chan t)
    { s.ticked t m with waiting := true })) ∧
  (Issues s t m 0x72 { d := true } w → s.leftOf t m = none → Runs (.recvl t m) s (EngStep s t m (s.chan t)
    ((s.ticked t m).setV w.d (w.mask (s.ticked t m)) (fun _ => 0)).advance)) ∧
  (∀ n v l, Issues s t m 0x72 { d := true } w → s.leftOf t m = some n → (s.eng t n).toRight = v :: l → Runs (.recvl t m) s (fun x =>
    x.eng t m = ((s.ticked t m).setV w.d (w.mask (s.ticked t m)) (fun i => v.getD i 0)).advance ∧ x.eng t n = { s.eng t n with toRight := l } ∧
    x = { s with engs := x.engs, chans := x.chans })) ∧
  (∀ n, Issues s t m 0x72 { d := true } w → s.leftOf t m = some n → (s.eng t n).toRight = [] → Runs (.recvl t m) s (EngStep s t m (s.chan t)
    { s.ticked t m with waiting := true })) ∧
  (Issues s t m 0x73 { d := true } w → s.rightOf t m = none → Runs (.recvr t m) s (EngStep s t m (s.chan t)
    ((s.ticked t m).setV w.d (w.mask (s.ticked t m)) (fun _ => 0)).advance)) ∧
  (∀ n v l, Issues s t m 0x73 { d := true } w → s.rightOf t m = some n → (s.eng t n).toLeft = v :: l → Runs (.recvr t m) s (fun x =>
    x.eng t m = ((s.ticked t m).setV w.d (w.mask (s.ticked t m)) (fun i => v.getD i 0)).advance ∧ x.eng t n = { s.eng t n with toLeft := l } ∧
    x = { s with engs := x.engs, chans := x.chans })) ∧
  (∀ n, Issues s t m 0x73 { d := true } w → s.rightOf t m = some n → (s.eng t n).toLeft = [] → Runs (.recvr t m) s (EngStep s t m (s.chan t)
    { s.ticked t m with waiting := true })) ∧
  (∀ n, t < 64 → (s.ticked t m).running = true → (s.ticked t m).waiting = true → s.fenced 2 t = false → s.engUsed t m = true → s.get .PWR_PSTATE_CUR = 0 →
    (s.eng t m).cyc < s.get .TUN_LIMIT_SLICE_LIMIT t → (s.ticked t m).fetch = some w → w.op = 0x70 → w.legal { a := true } = true → bit (w.mask (s.ticked t m)) 0 = true → s.rightOf t m = some n →
    (s.ticked t m).toRight.length < 4 → Runs (.edgeWaitResume t m) s (fun x =>
      x.eng t m = Eng.advance { s.ticked t m with waiting := false, toRight := (s.ticked t m).toRight ++ [(s.ticked t m).vr w.a] } ∧ x.chan t = s.chan t ∧
      x = { s with engs := x.engs, chans := x.chans }))

/-- R162, R166, R170, R173, R174: an engine that runs off its image, meets an illegal word or has used up its slice limit faults its tun;
a fault in one tun changes no
other tun's engines or channels. Shown for SADD, whose word the engine is at. -/
def Obligations.EngineFaults : Prop :=
  (∀ (s : State) (t m : Nat), s.issuing t m = true → (s.eng t m).cyc < s.get .TUN_LIMIT_SLICE_LIMIT t → (s.eng t m).fetch = none →
    Runs (.sadd t m) s (fun x => x = s.faultTun t m 10)) ∧
  (∀ (s : State) (t m : Nat), s.issuing t m = true → s.get .TUN_LIMIT_SLICE_LIMIT t ≤ (s.eng t m).cyc →
    Runs (.sadd t m) s (fun x => x = s.faultTun t m 4)) ∧
  (∀ (s : State) (t m : Nat) (w : IWord), s.issuing t m = true → (s.eng t m).cyc < s.get .TUN_LIMIT_SLICE_LIMIT t → (s.eng t m).fetch = some w → w.op = 0x10 → w.legal usesScalar = false →
    Runs (.sadd t m) s (fun x => x = s.faultTun t m 1)) ∧
  (∀ (s : State) (t m code n : Nat), t < 64 → let x := s.faultTun t m code n
    x.fenced 2 t = true ∧ (∀ j, j < 16 → (x.eng t j).running = false) ∧
    (x.chan t).stage = (s.chan t).stage.filter (fun e => s.lineDone t e.1) ∧
    (∀ u j, u ≠ t → j < 16 → x.eng u j = s.eng u j) ∧ (∀ u, u ≠ t → x.chan u = s.chan u) ∧
    (s.get .TUN_FAULT_CODE t ≠ 0 → x.get .TUN_FAULT_CODE t = s.get .TUN_FAULT_CODE t) ∧
    SameMemory s x ∧ x.slots = s.slots ∧ x.pairs = s.pairs)

/-- R308: the whole counter, in units of 2^-32 ns, grows by TIME_INCR on a tick, modulo 2^48 s; NSF stays below a second; a warm reset
leaves the counter, a power-on reset sets it to 0. While the core PLL is unlocked the counter holds (R312). -/
def Obligations.TimeCounterTick : Prop :=
  let units := fun (c : Clock) => (c.sec * 1000000000 + c.nsf) * 2 ^ 32 + c.frac
  (∀ s : State, s.is .CLK_STATUS_CORE_LOCK = true → s.clock.nsf < 1000000000 → s.clock.frac < 2 ^ 32 → s.clock.sec < 2 ^ 48 →
    s.get .TIME_INCR_INCR ≤ 1000000000 * 2 ^ 32 →
    Runs .timeCounterTick s (fun t => t = { s with now := s.now + 1, clock := t.clock } ∧
      units t.clock = (units s.clock + s.get .TIME_INCR_INCR) % (2 ^ 48 * 1000000000 * 2 ^ 32) ∧
      t.clock.nsf < 1000000000 ∧ t.clock.frac < 2 ^ 32 ∧ t.clock.sec < 2 ^ 48)) ∧
  (∀ s : State, s.is .CLK_STATUS_CORE_LOCK = false → Runs .timeCounterTick s (fun t => t = s)) ∧
  (∀ (s : State) (b : Bool), (s.warmReset b).clock = s.clock) ∧ (∀ s : State, s.powerOn.clock = { sec := 0, nsf := 0, frac := 0 })

/-- R309-R311: the read with its latches, the load, the adjustment and the rate, each with what it leaves unchanged. R313-R316: stamps
taken, pushed and read, and link changes. Which of two neighbours a latency rounds to is free (log entry 21), so the
instant is said for latencies of whole units of 2^-16 ns. -/
def Obligations.TimeAndPtp : Prop :=
  (∀ s : State, s.reachable .time 0 = true → s.clock.sec < 2 ^ 48 → s.clock.nsf < 2 ^ 30 →
    Runs (.timeNsRead false) s (fun t => t.rdata = s.clock.stamp ∧ t.get .TIME_SEC_LO_SEC = s.clock.sec % 2 ^ 32 ∧
      t.get .TIME_SEC_HI_SEC = s.clock.sec / 2 ^ 32 ∧ t.get .TIME_NSF_NS = s.clock.nsf ∧
      t = { s with rdata := t.rdata, regs := t.regs } ∧
      ∀ f i k, f ≠ .TIME_SEC_LO_SEC → f ≠ .TIME_SEC_HI_SEC → f ≠ .TIME_NSF_NS → t.get f i k = s.get f i k)) ∧
  (∀ s : State, s.reachable .time 0 = true → s.clock.sec < 2 ^ 48 → s.clock.nsf < 2 ^ 30 →
    Runs (.timeNsRead true) s (fun t => t.rdata = s.clock.stamp ∧ t.get .TIME_SEC_LO_B_SEC = s.clock.sec % 2 ^ 32 ∧
      t.get .TIME_SEC_HI_B_SEC = s.clock.sec / 2 ^ 32 ∧ t.get .TIME_NSF_B_NS = s.clock.nsf ∧
      t = { s with rdata := t.rdata, regs := t.regs } ∧
      ∀ f i k, f ≠ .TIME_SEC_LO_B_SEC → f ≠ .TIME_SEC_HI_B_SEC → f ≠ .TIME_NSF_B_NS → t.get f i k = s.get f i k)) ∧
  (∀ s : State, s.reachable .time 0 = true → s.get .TIME_SET_NS_NS < 1000000000 →
    Runs (.timeLoad false) s (fun t => t = { s with clock := t.clock, regs := t.regs } ∧
      t.clock = { sec := s.get .TIME_SET_SEC_HI_SEC * 2 ^ 32 + s.get .TIME_SET_SEC_LO_SEC, nsf := s.get .TIME_SET_NS_NS, frac := 0 } ∧
      t.get .TIME_STATUS_EPOCH = (s.get .TIME_STATUS_EPOCH + 1) % 2 ^ Fld.TIME_STATUS_EPOCH.desc.width ∧
      ∀ f i k, f ≠ .TIME_STATUS_EPOCH → t.get f i k = s.get f i k)) ∧
  (∀ s : State, s.reachable .time 0 = true → 1000000000 ≤ s.get .TIME_SET_NS_NS →
    Runs (.timeLoad false) s (fun t => OnlyRegs s t (fun f i k => f = .TIME_STATUS_ERR ∧ i = 0 ∧ k = 0) ∧ t.get .TIME_STATUS_ERR = 1)) ∧
  (∀ s : State, s.reachable .time 0 = true → -999999999 ≤ toSigned 32 (s.get .TIME_ADJ_NS) → toSigned 32 (s.get .TIME_ADJ_NS) ≤ 999999999 →
    s.clock.nsf < 1000000000 → s.clock.sec < 2 ^ 48 →
    Runs .timeAdjust s (fun t => t = { s with clock := t.clock, regs := t.regs } ∧ t.clock.frac = s.clock.frac ∧
      (t.clock.sec * 1000000000 + t.clock.nsf : Int) =
        ((s.clock.sec * 1000000000 + s.clock.nsf : Int) + toSigned 32 (s.get .TIME_ADJ_NS)) % (2 ^ 48 * 1000000000) ∧
      t.get .TIME_STATUS_EPOCH = (s.get .TIME_STATUS_EPOCH + 1) % 2 ^ Fld.TIME_STATUS_EPOCH.desc.width ∧
      ∀ f i k, f ≠ .TIME_STATUS_EPOCH → t.get f i k = s.get f i k)) ∧
  (∀ (s : State) (v : Nat), s.reachable .time 0 = true → 0x000000027F5C28F6 ≤ v → v ≤ 0x0000000280A3D70A →
    Runs (.timeIncrWrite v) s (fun t => OnlyRegs s t (fun f i k => f = .TIME_INCR_INCR ∧ i = 0 ∧ k = 0) ∧ t.get .TIME_INCR_INCR = v)) ∧
  (∀ (s : State) (v : Nat), s.reachable .time 0 = true → (v < 0x000000027F5C28F6 ∨ 0x0000000280A3D70A < v) →
    Runs (.timeIncrWrite v) s (fun t => OnlyRegs s t (fun f i k => f = .TIME_STATUS_ERR ∧ i = 0 ∧ k = 0) ∧ t.get .TIME_STATUS_ERR = 1)) ∧
  (∀ (s : State) (p sec units seq type : Nat), p < 2 → s.is .ETH_STATUS_LINK p = true → (s.eth p).lockLost = false →
    s.is .ETH_STATUS_STAMP_POINT p = false → toSigned 32 (s.eth p).txLat * 65536 % 1000 = 0 →
    Runs (.ptpEventStamp p true false sec units seq type) s (fun t =>
      t = { s with eths := t.eths } ∧ (t.eth p).queue = (s.eth p).queue ∧ ∃ e, (t.eth p).taken = some e ∧ e.mac = false ∧
        e.seq = seq % 65536 ∧ e.type = type % 16 ∧ e.epoch = s.get .TIME_STATUS_EPOCH % 16 ∧
        (e.sec, e.ns, e.frac) = stampAt sec units (toSigned 32 (s.eth p).txLat * 65536 / 1000))) ∧
  (∀ (s : State) (p sec units seq type : Nat), p < 2 → s.is .ETH_STATUS_LINK p = true →
    Runs (.ptpEventStamp p true true sec units seq type) s (fun t => (∃ e, (t.eth p).taken = some e ∧ e.mac = true) ∧
      t.get .ETH_STATUS_MAC_STAMPS p = min (s.get .ETH_STATUS_MAC_STAMPS p + 1) (2 ^ Fld.ETH_STATUS_MAC_STAMPS.desc.width - 1) ∧
      SameMemory s t)) ∧
  (∀ (s : State) (p : Nat) (e : TxStamp), (s.eth p).taken = some e → (s.eth p).queue.length < 16 →
    Runs (.txStampPush p) s (fun t => t = { s with eths := t.eths } ∧ (t.eth p).queue = (s.eth p).queue ++ [e] ∧ (t.eth p).taken = none)) ∧
  (∀ (s : State) (p : Nat) (e : TxStamp), (s.eth p).taken = some e → 16 ≤ (s.eth p).queue.length →
    Runs (.txStampPush p) s (fun t => (t.eth p).queue = (s.eth p).queue ∧
      t.get .ETH_TXTS_STATUS_OVF p = min (s.get .ETH_TXTS_STATUS_OVF p + 1) (2 ^ Fld.ETH_TXTS_STATUS_OVF.desc.width - 1) ∧
      t.get .ETH_TXTS_LOST_SEQ_ID p = e.seq % 2 ^ Fld.ETH_TXTS_LOST_SEQ_ID.desc.width ∧
      t = { s with eths := t.eths, regs := t.regs })) ∧
  (∀ (s : State) (p : Nat) (e : TxStamp) (l : List TxStamp), s.reachable .ethernet p = true → (s.eth p).queue = e :: l →
    Runs (.ethTxtsEntryPop p) s (fun t => (t.eth p).queue = l ∧ t = { s with eths := t.eths, rdata := t.rdata } ∧
      t.rdata = e.seq + 2 ^ 16 * e.type + 2 ^ 20 * e.epoch + 2 ^ 24 * b2n e.mac + 2 ^ 25)) ∧
  (∀ (s : State) (p : Nat) (up : Bool), p < 2 → s.get .ETH_STATUS_MODE p ≠ 0 →
    Runs (.ethLinkChange p up) s (fun t => t.is .ETH_STATUS_LINK p = up ∧ (t.eth p).lockLost = !up ∧
      (∀ f i k, ¬ (f = .ETH_STATUS_LINK ∧ i = p ∧ k = 0) → t.get f i k = s.get f i k) ∧ t = { s with eths := t.eths, regs := t.regs }))

/-- R66, R67: the odd period ends with the rewrite's entries, cause and image in force and GRS_GEN advanced, wrapping from 0xFFFF_FFFF to 0;
a rewrite that waits starts at once. -/
def Obligations.GristRewrite : Prop :=
  (∀ (s : State) (r : GRewrite), s.gristDue = [r] → s.is .GRS_NOTIFY_EN = false →
    Runs .gristRewrite s (fun t => t.grist = r.entries ∧ t.gristDue = [] ∧ t.get .GRS_GEN_GEN = (s.get .GRS_GEN_GEN + 1) % 2 ^ 32 ∧
      t.get .GRS_CAUSE_CAUSE = r.cause % 2 ^ Fld.GRS_CAUSE_CAUSE.desc.width ∧ t.get .GRS_IMAGE_ID_ID = r.imageId % 2 ^ 64 ∧
      (∀ f i k, f ≠ .GRS_GEN_GEN → f ≠ .GRS_CAUSE_CAUSE → f ≠ .GRS_IMAGE_ID_ID → t.get f i k = s.get f i k) ∧
      t = { s with regs := t.regs, grist := t.grist, gristDue := t.gristDue })) ∧
  (∀ (s : State) (r : GRewrite) (l : List GRewrite), s.gristDue = r :: l → l ≠ [] → s.is .GRS_NOTIFY_EN = true →
    s.msixOpen.contains (s.get .GRS_NOTIFY_VECTOR) = true →
    Runs .gristRewrite s (fun t => t.grist = r.entries ∧ t.gristDue = l ∧ t.get .GRS_GEN_GEN = (s.get .GRS_GEN_GEN + 2) % 2 ^ 32 ∧
      t.outbox = .msix (s.get .GRS_NOTIFY_VECTOR) :: s.outbox))

/-- R105, R108, R110: the queue's turn counts the descriptor, the head moves on by one modulo the depth, the slot's generation advances
from 255 to 1, the handle names the slot,
and a tag other than 0 is remembered. Which free slot is taken is log entry 11. -/
def Obligations.CommandStart : Prop :=
  ∀ (s : State) (d : Desc) (op : Nat) (used : List (Nat × Nat)), Accepts s d op used → d.sq ≠ viaWort →
    let r := s.started d op
    (r.2.pair d.sq).sqHead = ((s.pair d.sq).sqHead + 1) % (s.pair d.sq).depth ∧ r.2.live r.1 = true ∧
    (s.slot (handleSlot r.1)).inUse = false ∧ handleGen r.1 = (if (s.slot (handleSlot r.1)).gen = 255 then 1 else (s.slot (handleSlot r.1)).gen + 1) ∧
    (∀ n, n ≠ d.sq → r.2.pair n = s.pair n) ∧ (∀ j, j ≠ handleSlot r.1 → r.2.slot j = s.slot j) ∧
    (d.tag ≠ 0 → ∃ e ∈ (r.2.pair d.sq).tags, e.tag = d.tag ∧ e.opcode = op ∧ e.crc = crc32c d.param ∧ e.handle = r.1) ∧
    r.2 = { s with pairs := r.2.pairs, slots := r.2.slots, turns := r.2.turns } ∧ r.2.turns = (s.tookTurn d.sq).turns

/-- R107, R109, R114, R118: an entry's bytes at the tail of its completion queue, and where it waits while the queue is full. -/
def Obligations.CompletionWritten : Prop :=
  (∀ (s : State) (n : Nat) (e : CqEntry), (s.pair n).fenced = false → (s.pair n).overflow = [] → (s.pair n).room = true →
    let t := s.deliver n e
    let a := (s.pair n).cqBase + 16 * (s.pair n).cqTail
    (∀ j, j < 16 → Memory.rd t.hostMem (a + j) = (cqBytes n (s.pair n) e).getD j 0) ∧
    (∀ b, (b < a ∨ a + 16 ≤ b) → Memory.rd t.hostMem b = Memory.rd s.hostMem b) ∧
    (t.pair n).cqTail = (if (s.pair n).cqTail + 1 = (s.pair n).depth then 0 else (s.pair n).cqTail + 1) ∧
    (t.pair n).phase = (if (s.pair n).cqTail + 1 = (s.pair n).depth then !(s.pair n).phase else (s.pair n).phase) ∧
    t.regs = s.regs ∧ t.dram = s.dram ∧ (∀ m, m ≠ n → t.pair m = s.pair m) ∧
    (e.final = true → e.frees = true → s.live e.handle = true → (s.slot (handleSlot e.handle)).keep = false →
      (t.slot (handleSlot e.handle)).inUse = false) ∧
    (∀ j, j ≠ handleSlot e.handle → t.slot j = s.slot j)) ∧
  (∀ (s : State) (n : Nat) (e : CqEntry), (s.pair n).fenced = false → (s.pair n).overflow.length < 256 → (s.pair n).room = false →
    let t := s.deliver n e
    (t.pair n).overflow = (s.pair n).overflow ++ [e] ∧ t.hostMem = s.hostMem ∧ t.regs = s.regs) ∧
  (∀ (s : State) (n : Nat) (e : CqEntry), (s.pair n).fenced = false → 256 ≤ (s.pair n).overflow.length →
    let t := s.deliver n e
    (t.pair n).fenced = true ∧ t.get .QM_OVF_LAST_QID = n % 2 ^ Fld.QM_OVF_LAST_QID.desc.width ∧ t.hostMem = s.hostMem)

/-- R103, R113, R114, R119, R120: the effects of the queue commands once every check has passed, followed by the completion DONE. R102,
R105, R110, R112: the first checks on a fetched descriptor, shown for NOP: nothing happens while the queue may not fetch; another
opcode completes BAD_OPCODE and takes no slot; a repeated tag reports the earlier status. A foreign class is shown for MASH_RB_ADVANCE:
BAD_OPCODE with DETAIL 1. -/
def Obligations.QueueCommands : Prop :=
  (∀ (s : State) (d : Desc), Accepts s d 0x0001 [] →
    Runs (.nop d) s (fun t => t = (s.started d 0x0001).2.done (s.started d 0x0001).1)) ∧
  (∀ (s : State) (d : Desc) (r : List Byte) (q depth : Nat),
    Accepts s d 0x0002 [(0x10, 2), (0x14, 4), (0x18, 8), (0x20, 8), (0x28, 2), (0x2A, 2)] → q = d.p 0x10 2 → depth = d.p 0x14 4 →
    q ≠ 0 → q < 16384 → s.assign q = some r → depthOk depth = true → depth ≤ fieldAt r 4 4 → d.p 0x18 8 % 4096 = 0 → d.p 0x20 8 % 4096 = 0 →
    1 ≤ d.p 0x28 2 → d.p 0x28 2 ≤ 255 → 1 ≤ d.p 0x2A 2 → d.p 0x2A 2 ≤ 1000 → (s.pair q).enabled = false → d.sq ≠ q →
    Runs (.queueCreate d) s (fun t => t.pair q = { enabled := true, depth := depth, sqBase := d.p 0x18 8, cqBase := d.p 0x20 8, aggCount := d.p 0x28 2, aggUsec := d.p 0x2A 2 } ∧
      t = State.done ((s.started d 0x0002).2.setPair q (t.pair q)) (s.started d 0x0002).1)) ∧
  (∀ (s : State) (d : Desc), Accepts s d 0x0003 [(0x10, 2)] → d.p 0x10 2 ≠ 0 → d.p 0x10 2 < 16384 → (s.pair (d.p 0x10 2)).enabled = true →
    Runs (.queueDelete d) s (fun t => t = ((s.started d 0x0003).2.disablePair (d.p 0x10 2) 1).done (s.started d 0x0003).1 ∧
      (d.sq ≠ d.p 0x10 2 → (t.pair (d.p 0x10 2)).enabled = false))) ∧
  (∀ (s : State) (d : Desc) (q : Nat), Accepts s d 0x0004 [(0x10, 2)] → q = d.p 0x10 2 → q < 16384 → d.sq ≠ q → (s.pair q).fenced = true →
    (s.pair q).resuming = false →
    Runs (.queueResume d) s (fun t =>
      t = (State.done ((s.started d 0x0004).2.setPair q { s.pair q with resuming := true }) (s.started d 0x0004).1).drainAll q)) ∧
  (∀ (s : State) (d : Desc), Accepts s d 0x0005 [(0x10, 4)] → s.live (d.p 0x10 4) = true → 
    Runs (.handleQuery d) s (fun t => ∃ u, t = State.done u (s.started d 0x0005).1
      ((s.slot (handleSlot (d.p 0x10 4))).status + 256 * b2n (s.slot (handleSlot (d.p 0x10 4))).final) ∧ u.regs = s.regs ∧
      u.hostMem = s.hostMem ∧ (∀ j, j ≠ handleSlot (d.p 0x10 4) → u.slot j = (s.started d 0x0005).2.slot j) ∧
      (u.slot (handleSlot (d.p 0x10 4))).inUse = !((s.slot (handleSlot (d.p 0x10 4))).held && (s.slot (handleSlot (d.p 0x10 4))).final && !(s.slot (handleSlot (d.p 0x10 4))).keep) ∧
      (u.slot (handleSlot (d.p 0x10 4))).held = false ∧ (u.slot (handleSlot (d.p 0x10 4))).gen = (s.slot (handleSlot (d.p 0x10 4))).gen ∧
      ∀ e ∈ (u.pair (s.slot (handleSlot (d.p 0x10 4))).sq).held, e.handle ≠ d.p 0x10 4)) ∧
  (∀ (s : State) (d : Desc),
    (s.mayFetch d = false → Runs (.nop d) s (fun t => t = s)) ∧
    (s.mayFetch d = true → d.opcode ≠ 0x0001 → Runs (.nop d) s (fun t => (∀ j, t.slot j = s.slot j) ∧ t.regs = s.regs ∧
      (d.sq ≠ viaWort → t = State.deliver ((s.tookTurn d.sq).setPair d.sq { s.pair d.sq with sqHead := ((s.pair d.sq).sqHead + 1) % (s.pair d.sq).depth })
        d.sq { handle := 0, status := stBadOpcode, final := true, result := 0, detail := 0, irq := d.irq, frees := false }))) ∧
    (∀ e, s.mayFetch d = true → d.sq ≠ viaWort → d.opcode = 0x0001 → d.tag ≠ 0 →
      (s.pair d.sq).tags.find? (fun t => t.tag == d.tag) = some e → e.opcode = 0x0001 → e.crc = crc32c d.param →
      Runs (.nop d) s (fun t => t = State.deliver ((s.tookTurn d.sq).setPair d.sq { s.pair d.sq with sqHead := ((s.pair d.sq).sqHead + 1) % (s.pair d.sq).depth })
        d.sq { handle := e.handle, status := stDuplicate, final := true, result := e.status, detail := 0, irq := d.irq, frees := false })) ∧
    (s.mayFetch d = true → d.sq ≠ viaWort → d.opcode = 0x0104 → s.classOk d.sq 1 = false →
      Runs (.mashRbAdvance d) s (fun t => t = State.deliver ((s.tookTurn d.sq).setPair d.sq { s.pair d.sq with sqHead := ((s.pair d.sq).sqHead + 1) % (s.pair d.sq).depth })
        d.sq { handle := 0, status := stBadOpcode, final := true, result := 0, detail := 1, irq := d.irq, frees := false })))

/-- R100, R104, R106, R114, R115: doorbells, the admin pair, the aggregation timer, vectors and completions that arrive for forwarded
commands. -/
def Obligations.DoorbellsAndVectors : Prop :=
  (∀ (s : State) (n v : Nat), n < 16384 → (s.pair n).enabled = true → v < (s.pair n).depth →
    Runs (.sqTailDoorbell n v) s (fun t => t.pair n = { s.pair n with sqTail := v } ∧ t = { s with pairs := t.pairs } ∧
      ∀ m, m ≠ n → t.pair m = s.pair m)) ∧
  (∀ (s : State) (n v : Nat), n < 16384 → ((s.pair n).enabled = false ∨ (s.pair n).depth ≤ v) →
    Runs (.sqTailDoorbell n v) s (fun t => OnlyRegs s t (fun f _ _ => f = .QM_DB_ERR_COUNT ∨ f = .QM_DB_ERR_LAST_QID) ∧
      t.get .QM_DB_ERR_COUNT = min (s.get .QM_DB_ERR_COUNT + 1) (2 ^ Fld.QM_DB_ERR_COUNT.desc.width - 1) ∧
      t.get .QM_DB_ERR_LAST_QID = n % 2 ^ Fld.QM_DB_ERR_LAST_QID.desc.width)) ∧
  (∀ (s : State) (n v : Nat), n < 16384 → (s.pair n).enabled = true → v < (s.pair n).depth → (s.pair n).fenced = false → (s.pair n).overflow = [] →
    (v + (s.pair n).depth - (s.pair n).cqHead) % (s.pair n).depth ≤ (s.pair n).unread →
    Runs (.cqHeadDoorbell n v) s (fun t => t.pair n = { s.pair n with cqHead := v } ∧ t = { s with pairs := t.pairs })) ∧
  (∀ s : State, s.reachable .qm 0 = true → s.is .QM_CTRL_EN = false → depthOk (s.get .QM_ADMIN_DEPTH_DEPTH) = true →
    Runs (.qmCtrlEnWrite true) s (fun t => t.pair 0 = { enabled := true, depth := s.get .QM_ADMIN_DEPTH_DEPTH, sqBase := s.get .QM_ASQ_BASE_BASE, cqBase := s.get .QM_ACQ_BASE_BASE } ∧ t.is .QM_CTRL_EN = true ∧ t.is .QM_STATUS_READY = true ∧
      t = { s with pairs := t.pairs, regs := t.regs })) ∧
  (∀ s : State, s.reachable .qm 0 = true → s.is .QM_CTRL_EN = false → s.get .QM_ADMIN_DEPTH_DEPTH = 0 →
    Runs (.qmCtrlEnWrite true) s (fun t => OnlyRegs s t (fun f i k => f = .QM_STATUS_ERR ∧ i = 0 ∧ k = 0) ∧ t.get .QM_STATUS_ERR = 0x21)) ∧
  (∀ (s : State) (n : Nat), (s.pair n).enabled = true → 0 < (s.pair n).unsig →
    Runs (.cqAggTimeout n) s (fun t => (t.pair n).unsig = 0 ∧ t.regs = s.regs ∧
      (s.msixOpen.contains (s.cqVector n) = true → t.outbox = .msix (s.cqVector n) :: s.outbox) ∧
      (s.msixOpen.contains (s.cqVector n) = false → s.cqVector n ∈ t.msixPend))) ∧
  (∀ (s : State) (v : Nat), v < 2048 →
    Runs (.msixUnmask v) s (fun t => v ∈ t.msixOpen ∧ v ∉ t.msixPend ∧
      t.outbox = (if s.msixPend.contains v then [.msix v] else []) ++ s.outbox ∧
      t = { s with msixOpen := t.msixOpen, msixPend := t.msixPend, outbox := t.outbox })) ∧
  (∀ (s : State) (h st r x : Nat), s.live h = true → (s.slot (handleSlot h)).remote = true → (s.slot (handleSlot h)).final = false →
    (s.slot (handleSlot h)).route = 0 → st < 256 → st ≠ stAccepted → r < 2 ^ 32 → x < 2 ^ 16 →
    Runs (.completionDue h st r x) s (fun t => t = State.deliver (s.noteStatus (s.slot (handleSlot h)).sq h st true)
      (s.slot (handleSlot h)).sq { handle := h, status := st, final := true, result := r, detail := x, irq := (s.slot (handleSlot h)).irq, frees := true }))

/-- R415, R420, R422: events of the USB bus. R416-R419: the requests on EP0. Descriptor bytes are log entry 104. -/
def Obligations.UsbPort : Prop :=
  (∀ s : State, s.powered 129 = true →
    Runs .usbAttach s (fun t => OnlyRegs s t (fun f i k => f = .USB_STATUS_VBUS ∧ i = 0 ∧ k = 0) ∧ t.is .USB_STATUS_VBUS = true)) ∧
  (∀ s : State, s.usbOn = true →
    Runs .usbSuspend s (fun t => OnlyRegs s t (fun f i k => f = .USB_STATUS_SUSPENDED ∧ i = 0 ∧ k = 0) ∧ t.is .USB_STATUS_SUSPENDED = true)) ∧
  (∀ s : State, s.usbLive = true →
    Runs .usbResume s (fun t => OnlyRegs s t (fun f i k => f = .USB_STATUS_SUSPENDED ∧ i = 0 ∧ k = 0) ∧ t.is .USB_STATUS_SUSPENDED = false)) ∧
  (∀ (s : State) (hs : Bool), s.usbLive = true →
    Runs (.usbBusReset hs) s (fun t => t.ep1 = [] ∧ t.get .USB_STATUS_ADDRESS = 0 ∧ t.is .USB_STATUS_CONFIGURED = false ∧
      t.is .USB_STATUS_SUSPENDED = false ∧ t.is .USB_STATUS_HS = hs ∧ t.usb.open_ = false ∧ t.usb.due = s.usb.due ∧
      t.get .USB_COUNTS_ABANDONED = (if s.usb.open_ then min (s.get .USB_COUNTS_ABANDONED + 1) (2 ^ Fld.USB_COUNTS_ABANDONED.desc.width - 1)
        else s.get .USB_COUNTS_ABANDONED) ∧ t = { s with regs := t.regs, ep1 := t.ep1, usb := t.usb })) ∧
  (∀ s : State, s.powered 129 = true → s.is .USB_STATUS_VBUS = true → s.usb.open_ = true →
    Runs .usbDetach s (fun t => t.is .USB_STATUS_VBUS = false ∧ t.is .USB_STATUS_CONFIGURED = false ∧ t.usb.open_ = false ∧
      t.get .USB_COUNTS_ABANDONED = min (s.get .USB_COUNTS_ABANDONED + 1) (2 ^ Fld.USB_COUNTS_ABANDONED.desc.width - 1) ∧
      t = { s with regs := t.regs, usb := t.usb })) ∧
  (∀ s : State, s.usbOn = true → s.usb.open_ = true →
    Runs .usbSetupAbandon s (fun t => t.usb = { s.usb with open_ := false } ∧
      t.get .USB_COUNTS_ABANDONED = min (s.get .USB_COUNTS_ABANDONED + 1) (2 ^ Fld.USB_COUNTS_ABANDONED.desc.width - 1) ∧
      t = { s with regs := t.regs, usb := t.usb })) ∧
  (∀ (s : State) (e : TelEvt) (l : List TelEvt), s.usbOn = true → s.is .USB_STATUS_CONFIGURED = true → s.usb.halted = false → s.ep1 = e :: l →
    Runs .ep1InTransaction s (fun t => t.ep1 = l ∧ t.outbox = .reply "EP1" (e.bytes.map (·.toNat)) :: s.outbox ∧
      t = { s with ep1 := t.ep1, outbox := t.outbox })) ∧
  (∀ s : State, s.usbOn = true → s.usb.due = [] → s.usb.open_ = false → Runs (.getInfo 0 0 64) s (fun t => ∃ l, l.length = 64 ∧ t = s.out (.reply "EP0" l))) ∧
  (∀ (s : State) (o n : Nat), s.usbOn = true → s.usb.due = [] → s.usb.open_ = false → wordsOk o n 4096 = true → s.gristDue = [] →
    Runs (.usbRegRead o n) s (fun t => t = s.out (.reply "EP0"
      ((((List.range (n / 4)).flatMap (fun j => leBytes 4 (s.peek (o + 4 * j)))).take n).map (·.toNat))))) ∧
  (∀ (s : State) (o n : Nat) (w : List Nat), s.usbOn = true → s.usb.due = [] → s.usb.open_ = false → wordsOk o n 256 = true → w.length = n / 4 → s.is .USB_CTRL_SVC_WRITE = true →
    Runs (.usbRegWrite o n w true) s (fun t => t.usb.due = w.zipIdx.map (fun x => (o + 4 * x.2, x.1 % 2 ^ 32)) ∧
      t = { s with usb := t.usb, outbox := t.outbox })) ∧
  (∀ (s : State) (o n : Nat) (w : List Nat), s.usbOn = true → s.usb.due = [] → s.usb.open_ = false → wordsOk o n 256 = true → w.length = n / 4 → s.is .USB_CTRL_SVC_WRITE = false →
    Runs (.usbRegWrite o n w true) s (fun t => t.usb = s.usb ∧ t = (s.bump .USB_COUNTS_STALLS).out (.reply "STALL" []))) ∧
  (∀ (s : State) (r : Reg) (i k o v : Nat), s.powered 129 = true → s.usb.due = [(o, v)] → v < 2 ^ 32 → r ≠ .USB_CTRL →
    s.spot o = .reg r i k false →
    Runs .usbRegWriteApply s (fun t => t = State.writeReg { s with usb := { s.usb with due := [] } } false r i k v loMask)) ∧
  (∀ (s u : State) (r r2 : Reg) (i k i2 k2 o v w : Nat), s.powered 129 = true → s.usb.due = [(o, v), (o + 4, w)] → r ≠ .USB_CTRL →
    r2 ≠ .USB_CTRL → s.spot o = .reg r i k false → s.spot (o + 4) = .reg r2 i2 k2 false →
    u = State.writeReg { s with usb := { s.usb with due := [] } } false r i k v loMask → u.spot (o + 4) = .reg r2 i2 k2 false →
    Runs .usbRegWriteApply s (fun t => t = u.writeReg false r2 i2 k2 w loMask)) ∧
  (∀ (s : State) (r : Reg) (i k o v w : Nat), s.powered 129 = true → s.usb.due = [(o, v), (o + 4, w)] → s.spot o = .reg r i k false →
    s.spot (o + 4) = .reg r i k true →
    Runs .usbRegWriteApply s (fun t => t = State.writeReg { s with usb := { s.usb with due := [] } } false r i k (v + w * 2 ^ 32) (hiMask + loMask))) ∧
  (∀ s : State, s.powered 129 = true → s.usb.due = [] → Runs .usbRegWriteApply s (fun t => t = s)) ∧
  (∀ s : State, s.usbOn = true → s.usb.due = [] → s.usb.open_ = false → s.lastSnap ≠ [] →
    Runs (.telPeek 0 0 1024) s (fun t => t = s.out (.reply "EP0" ((s.lastSnap.take 1024).map (·.toNat))))) ∧
  (∀ (s : State) (a : Nat), s.usbOn = true → s.usb.due = [] → s.usb.open_ = false → s.is .USB_STATUS_CONFIGURED = false → a < 128 →
    Runs (.usbStandardRequest 0 5 a 0 0) s (fun t => t.get .USB_STATUS_ADDRESS = a ∧ t.outbox = .reply "ACK" [] :: s.outbox ∧
      t = { s with regs := t.regs, outbox := t.outbox })) ∧
  (∀ s : State, s.usbOn = true → s.usb.due = [] → s.usb.open_ = false → s.get .USB_STATUS_ADDRESS ≠ 0 →
    Runs (.usbStandardRequest 0 9 1 0 0) s (fun t => t.is .USB_STATUS_CONFIGURED = true ∧ t = { s with regs := t.regs, usb := t.usb, outbox := t.outbox })) ∧
  (∀ (s : State) (v x n : Nat), s.usbOn = true → s.usb.due = [] → s.usb.open_ = false → 
    Runs (.usbStandardRequest 0 7 v x n) s (fun t => t = (s.bump .USB_COUNTS_STALLS).out (.reply "STALL" []))) ∧
  (∀ (s : State) (v x n : Nat), s.usbOn = true → s.usb.due ≠ [] → Runs (.getInfo v x n) s (fun t => t = s.out (.reply "NAK" [])))

/-- R10, R66: the halves of a 64-bit register with the latch and the write buffer of each agent, whole writes, and accesses to a block that
is moving. -/
def Obligations.RegisterAccess : Prop :=
  (∀ (s : State) (fw : Bool) (o i k : Nat) (r : Reg), o % 4 = 0 → o < bar2Base → s.spot o = .reg r i k false → r.desc.width = 64 →
    s.gristDue = [] → r ≠ .TIME_NS → r ≠ .TIME_NS_B → r ≠ .ETH_TXTS_ENTRY3 →
    Runs (.reg64LowerRead fw o) s (fun t => t.rdata = s.regRead r i k % 2 ^ 32 ∧
      Tab.get (fun _ => 0) t.hiLatch ⟨fw, r, i, k⟩ = s.regRead r i k / 2 ^ 32 ∧
      (∀ x, x ≠ ⟨fw, r, i, k⟩ → Tab.get (fun _ => 0) t.hiLatch x = Tab.get (fun _ => 0) s.hiLatch x) ∧
      t = { s with rdata := t.rdata, hiLatch := t.hiLatch })) ∧
  (∀ (s : State) (fw : Bool) (o i k : Nat) (r : Reg), o % 4 = 0 → o < bar2Base → s.spot o = .reg r i k true →
    Runs (.reg64LowerRead fw o) s (fun t => t = { s with rdata := Tab.get (fun _ => 0) s.hiLatch ⟨fw, r, i, k⟩ })) ∧
  (∀ (s : State) (fw : Bool) (o i k : Nat) (r : Reg), o % 4 = 0 → o < bar2Base → s.spot o = .reg r i k false → r.desc.width = 64 →
    s.gristDue = [] → r ≠ .TIME_NS → r ≠ .TIME_NS_B → r ≠ .ETH_TXTS_ENTRY3 →
    Runs (.reg64LowerRead fw o true) s (fun t => t = { s with rdata := s.regRead r i k })) ∧
  (∀ (s : State) (fw : Bool) (o i k : Nat), o % 4 = 0 → o < bar2Base → s.spot o = .reg .TIME_NS i k false → s.gristDue = [] →
    Runs (.reg64LowerRead fw o) s (fun t => t.rdata = s.regRead .TIME_NS i k % 2 ^ 32 ∧
      t = { s.timeNsRead false with rdata := t.rdata, hiLatch := t.hiLatch })) ∧
  (∀ (s : State) (fw : Bool) (o : Nat), o % 4 = 0 → o < bar2Base → s.spot o = .empty →
    Runs (.reg64LowerRead fw o) s (fun t => t = { s with rdata := 0 })) ∧
  (∀ (s : State) (o : Nat), o % 4 = 0 → bar2Base ≤ o → o < bar2Base + 0x40000 →
    Runs (.reg64LowerRead false o) s (fun t => t = { s with rdata := 0 })) ∧
  (∀ (s : State) (n v : Nat), n < 16384 → v < 2 ^ 32 →
    Runs (.registerWrite false false (bar2Base + 16 * n) v) s (fun t => exec (.sqTailDoorbell n v) s = .next t) ∧
    Runs (.registerWrite false false (bar2Base + 16 * n + 4) v) s (fun t => exec (.cqHeadDoorbell n v) s = .next t) ∧
    Runs (.registerWrite false false (bar2Base + 16 * n + 8) v) s (fun t => t = s)) ∧
  (∀ (s : State) (fw : Bool) (o v i k : Nat) (r : Reg), s.spot o = .reg r i k false → r.desc.width = 64 →
    Runs (.reg64LowerWrite fw o v) s (fun t => Tab.get (fun _ => 0) t.loBuf ⟨fw, r, i, k⟩ = v % 2 ^ 32 + 1 ∧ t = { s with loBuf := t.loBuf })) ∧
  (∀ (s : State) (fw : Bool) (o v i k x : Nat) (r : Reg), s.spot o = .reg r i k true →
    Tab.get (fun _ => 0) s.loBuf ⟨fw, r, i, k⟩ = x + 1 →
    Runs (.reg64UpperWrite fw o v) s (fun t => t = State.writeReg { s with loBuf := Tab.erase s.loBuf ⟨fw, r, i, k⟩ } fw r i k
      (v % 2 ^ 32 * 2 ^ 32 + x) (hiMask + loMask))) ∧
  (∀ (s : State) (fw : Bool) (o v i k : Nat) (r : Reg), s.spot o = .reg r i k true → Tab.get (fun _ => 0) s.loBuf ⟨fw, r, i, k⟩ = 0 →
    Runs (.reg64UpperWrite fw o v) s (fun t => t = State.writeReg { s with loBuf := Tab.erase s.loBuf ⟨fw, r, i, k⟩ } fw r i k
      (v % 2 ^ 32 * 2 ^ 32) hiMask)) ∧
  (∀ (s : State) (fw : Bool) (o v i k : Nat) (r : Reg), o % 4 = 0 → o < bar2Base → s.spot o = .reg r i k false → r.desc.width = 32 →
    Runs (.registerWrite fw false o v) s (fun t => t = s.writeReg fw r i k (v % 2 ^ 32) loMask)) ∧
  (∀ (s : State) (fw : Bool) (o v i k : Nat) (r : Reg), o % 8 = 0 → o < bar2Base → s.spot o = .reg r i k false → r.desc.width = 64 →
    Runs (.registerWrite fw true o v) s (fun t => t = s.writeReg fw r i k (v % 2 ^ 64) (hiMask + loMask))) ∧
  (∀ (s : State) (fw : Bool) (o v : Nat), o % 4 = 0 → o < bar2Base → s.spot o = .moving →
    Runs (.registerWrite fw false o v) s (fun t => t = s.bump .GRS_STALE_COUNT)) ∧
  (∀ (s : State) (fw : Bool) (o v : Nat), o % 4 = 0 → o < bar2Base → s.spot o = .empty → Runs (.registerWrite fw false o v) s (fun t => t = s))

/-- R12: the access codes, for one field `f` of an instance under a write of value `v` with mask `m`; fields with a rule of their own are
left to it. -/
def Obligations.FieldAccessCodes : Prop :=
  ∀ (s : State) (f : Fld) (i k v m : Nat), s.get f i k < 2 ^ f.desc.width →
    let fm := bits m f.desc.lo f.desc.width
    let t := s.writeField f i k v m
    (fm = 0 → t = s) ∧ (f.desc.access = .ro → t = s) ∧
    (f.desc.access = .rw → f.special = false → fm ≠ 0 →
      OnlyRegs s t (fun g j l => g = f ∧ j = i ∧ l = k) ∧
      ∀ x, x < f.desc.width → (t.get f i k).testBit x = if m.testBit (f.desc.lo + x) then v.testBit (f.desc.lo + x) else (s.get f i k).testBit x) ∧
    (f.desc.access = .w1c → fm ≠ 0 →
      OnlyRegs s t (fun g j l => g = f ∧ j = i ∧ l = k) ∧
      ∀ x, x < f.desc.width →
        (t.get f i k).testBit x = ((s.get f i k).testBit x && !(m.testBit (f.desc.lo + x) && v.testBit (f.desc.lo + x)))) ∧
    (f.desc.access = .rwk → s.kiln.isSome = true → fm ≠ 0 → t = s.on .KILN_STATUS_LOCK_WRITE)

/-- R165, R166, R169, R174, R176, R194: the events of a tun that are no instruction. -/
def Obligations.TunLines : Prop :=
  (∀ (s : State) (t m y : Nat), t < 64 → s.engUsed t m = true → (s.eng t m).running = false → s.fenced 2 t = false →
    s.is .TUN_STATUS_LOADED t = true → s.nextSlice t m = some y → s.stageFree t y = true → s.screenHeld t y = false →
    (∀ p, (s.chan t).pause = some p → y < p) → s.clocked = true →
    Runs (.sliceStart t m) s (fun x => x.eng t m = { s.eng t m with running := true, waiting := false, line := y, pc := s.prog t (0x084 + 32 * m) 2, cyc := 0 } ∧
      ((s.chan t).stage.any (fun e => e.1 == y) = false → look [] (x.chan t).stage y = List.replicate (s.tunNozzles t) 0) ∧
      ((s.chan t).stage.any (fun e => e.1 == y) = true → (x.chan t).stage = (s.chan t).stage) ∧ (x.chan t).lead = (s.chan t).lead ∧
      (∀ n, n ≠ 16 * t + m → look {} x.engs n = look {} s.engs n) ∧ (∀ n, n ≠ t → x.chan n = s.chan n) ∧
      x = { s with engs := x.engs, chans := x.chans })) ∧
  (∀ (s : State) (t m : Nat), s.clocked = false → Runs (.sliceStart t m) s (fun x => x = s)) ∧
  (∀ (s : State) (t y : Nat) (codes : List Nat) (rest : List (Nat × List Nat)), (s.chan t).stage = (y, codes) :: rest → t < 64 →
    s.fenced 2 t = false → s.fenced 1 t = false → (∀ j ∈ s.usedEngs t, y < (s.eng t j).ended) →
    (s.chan t).lead.length < s.get .UB_LEAD_LINES t →
    Runs (.lineComplete t) s (fun x => x.chan t = { s.chan t with stage := rest, screened := max (s.chan t).screened (y + 1), lead := (s.chan t).lead ++ [{ no := y, codes := codes }] } ∧ (∀ n, n ≠ t → x.chan n = s.chan n) ∧
      x.get .TUN_LINE_LINE t = y % 2 ^ Fld.TUN_LINE_LINE.desc.width ∧ x = { s with chans := x.chans, regs := x.regs })) ∧
  (∀ (s : State) (t y : Nat) (codes : List Nat) (rest : List (Nat × List Nat)), (s.chan t).stage = (y, codes) :: rest → t < 64 →
    (s.fenced 2 t = true ∨ s.fenced 1 t = true) → (∀ j ∈ s.usedEngs t, y < (s.eng t j).ended) →
    Runs (.lineComplete t) s (fun x => x.chan t = { s.chan t with stage := rest, screened := max (s.chan t).screened (y + 1), discarded := (s.chan t).discarded + 1 })) ∧
  (∀ (s : State) (t m : Nat), t < 64 → (s.eng t m).running = true → Runs (.sliceOverrun t m) s (fun x => x = s.faultTun t m 4)) ∧
  (∀ (s : State) (t m code n : Nat), t < 64 → m < 16 → 1 ≤ code → code ≤ 10 → 1 ≤ n → n ≤ 16 →
    Runs (.tunFault t m code n) s (fun x => x = s.faultTun t m code n ∧ x.fenced 2 t = true ∧
      x.get .TUN_FAULT_COUNT t = min (s.get .TUN_FAULT_COUNT t + n) (2 ^ Fld.TUN_FAULT_COUNT.desc.width - 1))) ∧
  (∀ (s : State) (t y : Nat) (c : ChangeSet), s.pauseSet t = some (c, y) → t < 64 → (s.chan t).pauseStep = 0 → s.fenced 2 t = false →
    s.powered t = true → (c.rule = 5 ∨ y ≤ s.screenAt t) →
    Runs (.tunPausePoint t) s (fun x => (x.chan t).pause = some y ∧ (x.chan t).pauseStep = 1 ∧ x.is .TUN_STATUS_PAUSED t = true ∧
      x = { s with chans := x.chans, regs := x.regs })) ∧
  (∀ (s : State) (t y : Nat) (late : Bool) (c : ChangeSet), s.pauseSet t = some (c, y) → t < 64 → (s.chan t).pauseStep = 1 →
    (s.chan t).stage = [] → (∀ m, m < 16 → (s.eng t m).running = false) →
    Runs (.tunProgLoadDone t late) s (fun x => (x.chan t).pause = none ∧ (x.chan t).pauseStep = 0 ∧ x.is .TUN_STATUS_PAUSED t = false)) ∧
  (∀ (s : State) (t : Nat), t < 64 → (s.chan t).pendGen = some false →
    Runs (.generationSwitch t) s (fun x => (x.chan t).bank = 1 - (s.chan t).bank ∧ (x.chan t).switch = s.screenNext t ∧ (x.chan t).retired = true ∧
      (x.chan t).pendGen = none ∧ x.get .SCR_GEN_GEN t = (s.get .SCR_GEN_GEN t + 1) % 2 ^ Fld.SCR_GEN_GEN.desc.width ∧
      (∀ n, n ≠ t → x.chan n = s.chan n) ∧ x = { s with chans := x.chans, regs := x.regs }))

/-- R198: host requests on the fire-stage bridge of a channel wait for the line boundary. R198: set prevails over clear under APPLY, and
requests without APPLY wait. R190, R197: the codes of a line after the bridge and after the reduction. -/
def Obligations.Bridging : Prop :=
  (∀ (s : State) (t w v : Nat), t < 64 → w < 80 → s.reachable .screen t = true →
    Runs (.scrBridgeSetWrite t w v) s (fun x => x.chan t = { s.chan t with setReq := (s.chan t).setReq ||| (v % 2 ^ 32) * 2 ^ (32 * w) } ∧
      (∀ n, n ≠ t → x.chan n = s.chan n) ∧ x = { s with chans := x.chans })) ∧
  (∀ (s : State) (t w v : Nat), t < 64 → w < 80 → s.reachable .screen t = true →
    Runs (.scrBridgeClrWrite t w v) s (fun x => x.chan t = { s.chan t with clrReq := (s.chan t).clrReq ||| (v % 2 ^ 32) * 2 ^ (32 * w) } ∧
      (∀ n, n ≠ t → x.chan n = s.chan n) ∧ x = { s with chans := x.chans })) ∧
  (∀ (s : State) (t : Nat), t < 64 → s.reachable .screen t = true →
    Runs (.scrBridgeApply t) s (fun x => x.chan t = { s.chan t with apply := true } ∧ x.chan t = { x.chan t with bridge := (s.chan t).bridge } ∧
      (∀ n, n ≠ t → x.chan n = s.chan n) ∧ x = { s with chans := x.chans })) ∧
  (∀ (s : State) (t y n : Nat),
    ((s.chan t).apply = true → (s.chan t).setReq.testBit n = true → ((s.bridgeBoundary t y).chan t).bridge.testBit n = true) ∧
    ((s.chan t).apply = true → (s.chan t).setReq.testBit n = false → (s.chan t).clrReq.testBit n = true →
      ((s.bridgeBoundary t y).chan t).bridge.testBit n = false) ∧
    ((s.chan t).apply = false → ((s.bridgeBoundary t y).chan t).setReq = (s.chan t).setReq ∧
      ((s.bridgeBoundary t y).chan t).clrReq = (s.chan t).clrReq) ∧
    ((s.bridgeBoundary t y).chan t).apply = false ∧ (∀ u, u ≠ t → (s.bridgeBoundary t y).chan u = s.chan u)) ∧
  (∀ (twin : Bool) (smax mask y : Nat) (codes : List Nat),
    let r := (bridgeLine twin smax mask y codes).1
    r.length = codes.length ∧ (∀ n, n < codes.length → mask.testBit n = true → r.getD n 0 = 0) ∧
    (∀ n, n < codes.length → mask.testBit n = false → (∀ m, m < codes.length → mask.testBit m = true → codes.getD m 0 ≠ 0 →
      bridgeTo twin codes.length mask y m ≠ some n) → r.getD n 0 = codes.getD n 0) ∧
    (∀ m n, m < codes.length → n < codes.length → mask.testBit m = true → codes.getD m 0 ≠ 0 →
      bridgeTo twin codes.length mask y m = some n → r.getD n 0 ≤ smax)) ∧
  (∀ (smax : Nat) (codes : List Nat), (∀ n, n < codes.length → (reduceLine smax codes).1.getD n 0 = min (codes.getD n 0) smax) ∧
    (reduceLine smax codes).1.length = codes.length ∧ (reduceLine smax codes).2 = codes.countP (fun c => smax < c))

/-- R90, R91, R96: the events between the commit of a change set and its coming into force, each ending with its record. R34: the line of
a set that spans devices. A set that the Kiln refuses is dropped as its line becomes final (log entry 127). -/
def Obligations.ChangeSetStages : Prop :=
  (∀ (s : State) (o : List (Option Nat)) (a : Option (List Nat)) (g : Option Nat) (x : ChangeSet) (fl y r : Nat), s.fwAway = false →
    s.setFloors.find? (fun e => e.1.line.isNone) = some (x, fl, some (y, r)) → x.others = [] → s.reached x y r = true → s.kilnClash x = false →
    Runs (.commitLineFinal o a g) s (fun t => t = { s with sets := t.sets, chans := t.chans } ∧
      t.sets = s.sets.map (fun z => if z.handle = x.handle then { z with line := some y, rule := r, final := true } else z))) ∧
  (∀ (s : State) (o : List (Option Nat)) (a : Option (List Nat)) (g : Option Nat) (x : ChangeSet) (fl y r : Nat), s.fwAway = false →
    s.setFloors.find? (fun e => e.1.line.isNone) = some (x, fl, some (y, r)) → x.others = [] → s.reached x y r = true → s.kilnClash x = true →
    Runs (.commitLineFinal o a g) s (fun t => t.sets = s.sets.filter (fun z => z.handle != x.handle) ∧ t.kiln = s.kiln ∧
      t.sects = s.sects ∧ t.get .MASH_ERR_CHECK = 8)) ∧
  (∀ (s : State) (o : List (Option Nat)) (l : List Nat) (g : Option Nat) (x : ChangeSet) (fl : Nat) (c : Option (Nat × Nat)) (y r : Nat), s.fwAway = false →
    s.setFloors.find? (fun e => e.1.line.isNone) = some (x, fl, c) → x.others ≠ [] → s.activeManager = true →
    s.commonLine x fl o = some (y, r) → s.kilnClash x = false →
    Runs (.commitLineFinal o (some l) g) s (fun t => t = { s with sets := t.sets, chans := t.chans, outbox := t.outbox } ∧
      t.outbox = .wort "changeSetLine" (y :: s.concerned x) :: s.outbox ∧
      t.sets = s.sets.map (fun z => if z.handle = x.handle then
        { z with after := (s.concerned x).zip l, line := some y, rule := r, final := true } else z))) ∧
  (∀ (s : State) (o : List (Option Nat)) (a : Option (List Nat)) (x : ChangeSet) (fl : Nat) (c : Option (Nat × Nat)) (y r : Nat), s.fwAway = false →
    s.setFloors.find? (fun e => e.1.line.isNone) = some (x, fl, c) → x.others ≠ [] → s.activeManager = false →
    s.canMeet x fl y = some r → s.kilnClash x = false →
    Runs (.commitLineFinal o a (some y)) s (fun t => t = { s with sets := t.sets, chans := t.chans, outbox := t.outbox } ∧
      t.outbox = .wort "changeSetVerdict" [1, y, State.compositeAt { s with sets := t.sets } y] :: s.outbox ∧
      t.sets = s.sets.map (fun z => if z.handle = x.handle then { z with line := some y, rule := r, final := true } else z))) ∧
  (∀ (s : State) (o : List (Option Nat)) (a : Option (List Nat)) (g : Option Nat), s.fwAway = true →
    Runs (.commitLineFinal o a g) s (fun t => t = s)) ∧
  (∀ (s : State) (x : ChangeSet) (z : Sect) (k i y : Nat), s.switchSet k i = some (x, z, y) → sectClass k = .swap → k ≠ 0x0031 →
    ((3 ≤ x.rule ∧ s.axStopped = true) ∨ y ≤ s.fireReach) → (k = 0x0030 → s.doneBelow i y = true) →
    Runs (.changeSetStageSwitch k i) s (fun t => t = s.bring x z y ∧
      ∀ w ∈ t.sets, w.handle = x.handle → sectKey z.type z.index ∈ w.applied)) ∧
  (∀ (s : State) (x : ChangeSet) (z : Sect) (i y : Nat), s.switchSet 0x0031 i = some (x, z, y) → x.withProg i = false →
    s.powered i = true → s.fenced 2 i = false → ((3 ≤ x.rule ∧ s.axStopped = true) ∨ y ≤ s.screenAt i) →
    Runs (.changeSetStageSwitch 0x0031 i) s (fun t => t = s.switchTables x y i)) ∧
  (∀ (s : State) (x : ChangeSet) (z : Sect) (k i y : Nat), s.switchSet k i = some (x, z, y) → sectClass k = .aux →
    ((3 ≤ x.rule ∧ s.axStopped = true) ∨ y ≤ s.fireReach) →
    Runs (.changeSetStageSwitch k i) s (fun t =>
      (t = s.bring x z y ∨ t = (s.auxPause k i).bring x z y) ∧
      (((sectDomain k i).map s.powered).getD true = true → t = (s.auxPause k i).bring x z y) ∧
      ∀ w ∈ t.sets, w.handle = x.handle → sectKey z.type z.index ∈ w.applied)) ∧
  (∀ (s : State) (x : ChangeSet) (z : Sect) (k i y : Nat), s.switchSet k i = some (x, z, y) → sectClass k = .pause →
    (s.powered i = false ∨ s.fenced 2 i = true) → ((3 ≤ x.rule ∧ s.axStopped = true) ∨ y ≤ s.fireReach) →
    Runs (.changeSetStageSwitch k i) s (fun t => t = s.bring x z y ∧
      ∀ w ∈ t.sets, w.handle = x.handle → sectKey z.type z.index ∈ w.applied)) ∧
  (∀ s : State, Runs (.auxPauseEnd 4) s (fun t => OnlyRegs s t (fun f i k => f = .GRAV_STATUS_PAUSED ∧ i = 0 ∧ k = 0) ∧
    t.is .GRAV_STATUS_PAUSED = false)) ∧
  (∀ s : State, Runs (.auxPauseEnd 5) s (fun t => OnlyRegs s t (fun f i k => f = .SG_STATUS_PAUSED ∧ i = 0 ∧ k = 0) ∧
    t.is .SG_STATUS_PAUSED = false)) ∧
  (∀ (s : State) (i : Nat), i < 4 → Runs (.auxPauseEnd i) s (fun t => OnlyRegs s t (fun f j k => f = .ISP_STATUS_PAUSED ∧ j = i ∧ k = 0) ∧
    t.is .ISP_STATUS_PAUSED i = false)) ∧
  (∀ (s : State) (x : ChangeSet) (z : Sect) (k i y r : Nat), (sectClass k = .gap ∨ sectClass k = .stop) →
    s.setLines.find? (fun e => e.1.has k i && !e.1.applied.contains (sectKey k i)) = some (x, some (y, r)) →
    findSect x.image.sects k i = some z → s.gapOpen (sectClass k == .stop) y r = true → (x.line.isSome = true ∨ s.fwAway = false) →
    (s.finalLine x.handle y r).sets.any (fun w => w.handle == x.handle) = true →
    Runs (.gapSectionApply k i) s (fun t => t = (s.finalLine x.handle y r).bring x z y ∧
      ∀ w ∈ t.sets, w.handle = x.handle → sectKey z.type z.index ∈ w.applied))

/-- R83-R87: staging, checking, committing and aborting images, and the rollback level. -/
def Obligations.MashCommands : Prop :=
  (∀ (s : State) (d : Desc), s.frontFree = true → Accepts s d 0x0101 [(0x10, 1), (0x18, 8), (0x20, 4)] → d.p 0x10 1 ≤ 1 →
    1 ≤ d.p 0x20 4 → d.p 0x20 4 ≤ 0x10000000 → (d.p 0x10 1 = 1 ∨ d.p 0x18 8 < 2 ^ 52) → s.staged.length < 4 →
    Runs (.mashStage d) s (fun t => t.loading = some { handle := (s.started d 0x0101).1, source := d.p 0x18 8, host := d.p 0x10 1 == 1, length := d.p 0x20 4, bytes := [], boot := false } ∧ t.get .MASH_STATUS_STATE = 1 ∧ t.staged = s.staged ∧ t.sects = s.sects)) ∧
  (∀ (s : State) (x : Loading), s.loading = some x → s.get .MASH_STATUS_STATE = 1 →
    s.verify (s.sourceBytes x) (if x.boot then (s.sourceBytes x).length else x.length) = none →
    Runs .mashReceiveDone s (fun t => t.loading = some { x with bytes := s.sourceBytes x } ∧ t.get .MASH_STATUS_STATE = 3 ∧
      t = { s with loading := t.loading, regs := t.regs })) ∧
  (∀ (s : State) (x : Loading) (r : Refused), s.loading = some x → s.get .MASH_STATUS_STATE = 1 → x.boot = false →
    s.verify (s.sourceBytes x) x.length = some r → s.staged.find? (fun y => y.image.full && y.committed) = none →
    Runs .mashReceiveDone s (fun t => t.loading = none ∧ t.get .MASH_STATUS_STATE = 0 ∧
      t.get .MASH_ERR_STATUS = r.status % 2 ^ Fld.MASH_ERR_STATUS.desc.width ∧ t.get .MASH_ERR_CHECK = r.check % 2 ^ Fld.MASH_ERR_CHECK.desc.width ∧
      t.get .MASH_ERR_SECTION = r.sect % 2 ^ Fld.MASH_ERR_SECTION.desc.width ∧ t.staged = s.staged ∧ t.sects = s.sects)) ∧
  (∀ (s : State) (x : Loading), s.loading = some x → s.get .MASH_STATUS_STATE = 3 → x.boot = false → s.checkRest x.bytes = none →
    s.staged.find? (fun y => y.image.full && y.committed) = none →
    Runs .mashCheckDone s (fun t => t.loading = none ∧ t.get .MASH_STATUS_STATE = 0 ∧
      t.staged = s.staged ++ [{ handle := x.handle, image := imageOf x.bytes, committed := false }] ∧ t.sects = s.sects)) ∧
  (∀ (s : State) (d : Desc) (others : List Nat) (x : Staged), Accepts s d 0x0102 [(0x10, 4), (0x14, 4), (0x18, 8), (0x20, 8)] → d.p 0x10 4 ≠ 0 →
    s.stagedOf (d.p 0x10 4) = some x → x.image.full = false → x.committed = false → d.p 0x14 4 ≤ 1 → d.p 0x18 8 ≤ d.p 0x20 8 →
    s.get .FIRE_LINE_LINE < d.p 0x20 8 → s.kilnRefuses x.image.sects = false →
    Runs (.mashCommit d others) s (fun t => t.sets = s.sets ++ [{ handle := d.p 0x10 4, commitOp := (s.started d 0x0102).1, image := x.image, target := d.p 0x18 8, deadline := d.p 0x20 8, bsOk := bit (d.p 0x14 4) 0, line := none, rule := 0, final := false, applied := [], others := others }] ∧
      t.sects = s.sects)) ∧
  (∀ (s : State) (d : Desc) (others : List Nat) (x : Staged), Accepts s d 0x0102 [(0x10, 4), (0x14, 4), (0x18, 8), (0x20, 8)] → d.p 0x10 4 ≠ 0 →
    s.stagedOf (d.p 0x10 4) = some x → x.image.full = true → x.committed = false → d.p 0x14 4 ≤ 1 → s.frontFree = true →
    s.commitNow x.image = true →
    Runs (.mashCommit d others) s (fun t => t.get .MASH_STATUS_STATE = 4 ∧ t.sets = [] ∧
      (∀ y ∈ t.staged, y.handle = d.p 0x10 4 → y.applying = true) ∧ t.sects = s.sects)) ∧
  (∀ (s : State) (d : Desc) (x : Staged), Accepts s d 0x0103 [(0x10, 4)] → d.p 0x10 4 ≠ 0 → s.stagedOf (d.p 0x10 4) = some x →
    s.mayAbort x = true →
    Runs (.mashAbort d) s (fun t => t = State.done ((s.started d 0x0103).2.abortStaged x) (s.started d 0x0103).1 ∧
      t.stagedOf (d.p 0x10 4) = none ∧ t.sects = s.sects)) ∧
  (∀ (s : State) (d : Desc) (x : Image), Accepts s d 0x0104 [] → s.fullImage = some x → s.get .MASH_ROLLBACK_MIN ≤ x.rollback →
    Runs (.mashRbAdvance d) s (fun t => t.get .MASH_ROLLBACK_MIN = x.rollback % 2 ^ Fld.MASH_ROLLBACK_MIN.desc.width ∧
      (∀ f i k, f ≠ .MASH_ROLLBACK_MIN → f ≠ .QM_OVF_LAST_QID → f ≠ .QM_OVF_LAST_COUNT → f ≠ .QM_FLR_DROPPED_COUNT → t.get f i k = s.get f i k)))

/-- R87, R91, R94: the end of a full commit, of a change set, and of one whose deadline is missed. -/
def Obligations.ImagesInForce : Prop :=
  (∀ (s : State) (x : Staged), s.staged.find? (fun y => y.applying) = some x → s.get .MASH_STATUS_STATE = 4 →
    Runs .fullCommitApply s (fun t =>
      t = (((s.applyFull x.image).done (s.commitOpOf x.handle)).releaseStaged x.handle).frontIdle ∧ t.loading = none ∧
      t.sects = x.image.sects.filter (fun z => z.type != 0x0060 && z.type != 0x00F0) ∧ t.fullImage = some x.image ∧
      t.composite = x.image.hash ∧ t.get .MASH_PATCHES_COUNT = 0)) ∧
  (∀ (s : State) (x : ChangeSet) (rest : List ChangeSet) (y : Nat), s.sets = x :: rest → x.line = some y → x.allSwitched = true →
    (y ≤ s.seq.next ∨ x.rule = 5) →
    Runs .changeSetInForce s (fun t => t.composite = sha384 (s.composite ++ x.image.hash) ∧ t.sets = rest ∧ t.sects = s.sects ∧
      t.get .MASH_PATCHES_COUNT = min (s.get .MASH_PATCHES_COUNT + 1) (2 ^ Fld.MASH_PATCHES_COUNT.desc.width - 1) ∧
      ∃ u : State, u.pairs = s.pairs ∧ u.slots = s.slots ∧
        t = (((u.done x.commitOp).releaseStaged x.handle).compositeMoved (s.get .MASH_COMPOSITE_ID) true).dropShadows)) ∧
  (∀ (s : State) (x : ChangeSet), s.fwAway = false →
    s.setLines.find? (fun e => e.1.line.isNone && e.2.isNone && decide (e.1.deadline ≤ s.stageAt e.1)) = some (x, none) →
    Runs .changeSetDeadlineMissed s (fun t => t = s.dropSet x ∧ (∀ z ∈ t.sets, z.handle ≠ x.handle) ∧ t.sects = s.sects))

/-- R72, R73, R83: SECT_COUNT and LENGTH of 0 refuse the image, and what check 5 lets pass has no overlapping payloads. -/
def Obligations.ImageZeroSizes : Prop :=
  (∀ b : List Byte, sectCount b = 0 → check2 b = some ⟨stBadZero, 2, noSection⟩) ∧
  (∀ (b : List Byte) (i : Nat), i < sectCount b → entLength (dirEntry b i) = 0 → (∀ j, j < i → entLength (dirEntry b j) ≠ 0) →
    check5 b = some ⟨stBadZero, 5, i⟩) ∧
  (∀ (b : List Byte) (i j : Nat), check5 b = none → i < j → j < sectCount b →
    entOffset (dirEntry b i) + entLength (dirEntry b i) ≤ entOffset (dirEntry b j) ∨
    entOffset (dirEntry b j) + entLength (dirEntry b j) ≤ entOffset (dirEntry b i))

/-- R12, R13: each CLR bit of the print path clears the counts and latches its register description names, and nothing else. -/
def Obligations.ClearsOfPrintPath : Prop :=
  (∀ (s : State) (t : Nat), s.reachable .tun t = true → 
    SetsOnly (.tunFaultClr t) s [(.TUN_FAULT_CODE, 0), (.TUN_FAULT_ENGINE, 0), (.TUN_FAULT_PC, 0), (.TUN_FAULT_COUNT, 0), (.TUN_FAULT_LINE_LINE, 0)] t 0) ∧
  (∀ (s : State) (t : Nat), s.reachable .tun t = true → 
    SetsOnly (.tunEccClr t) s [(.TUN_ECC_CORR, 0), (.TUN_ECC_LAST_SRC, 0), (.TUN_ECC_LAST_ENGINE, 0)] t 0) ∧
  (∀ (s : State) (t : Nat) (m : Nat), m < 16 → s.reachable .tun t = true → 
    SetsOnly (.tunSliceMaxClr t m) s [(.TUN_SLICE_MAX_CYCLES, 0)] t m) ∧
  (∀ (s : State), s.reachable .qm 0 = true → 
    SetsOnly .qmDbErrClr s [(.QM_DB_ERR_COUNT, 0), (.QM_DB_ERR_LAST_QID, 0)] 0 0) ∧
  (∀ (s : State), s.reachable .qm 0 = true → 
    SetsOnly .qmFlrDroppedClr s [(.QM_FLR_DROPPED_COUNT, 0)] 0 0) ∧
  (∀ (s : State), s.reachable .encoders 0 = true → 
    SetsOnly .encUncmdClr s [(.ENC_UNCMD_COUNT, 0)] 0 0) ∧
  (∀ (s : State) (x : Nat), x < 4 → s.reachable .encoders 0 = true → 
    SetsOnly (.encAmpClr x) s [(.ENC_AMP_MIN, 0x3FFF)] 0 x) ∧
  (∀ (s : State) (x : Nat), x < 4 → s.reachable .encoders 0 = true → 
    SetsOnly (.encFaultClr x) s [(.ENC_FAULT_CAUSE, 0), (.ENC_FAULT_COUNT, 0)] 0 x) ∧
  (∀ (s : State), s.reachable .sequencer 0 = true → 
    SetsOnly .fireDroppedClr s [(.FIRE_DROPPED_COUNT, 0)] 0 0) ∧
  (∀ (s : State), s.reachable .sequencer 0 = true → 
    SetsOnly .fireMissedClr s [(.FIRE_MISSED_COUNT, 0)] 0 0) ∧
  (∀ (s : State), s.reachable .sequencer 0 = true → 
    SetsOnly .fireVoteClr s [(.FIRE_VOTE_DIS_A, 0), (.FIRE_VOTE_DIS_B, 0), (.FIRE_VOTE_DIS_C, 0)] 0 0) ∧
  (∀ (s : State) (c : Nat), c < 64 → s.reachable .headPort c = true → 
    SetsOnly (.fireChDroppedClr c) s [(.FIRE_CH_DROPPED_COUNT, 0)] c 0) ∧
  (∀ (s : State) (i : Nat), s.reachable .codec i = true → 
    SetsOnly (.cdcFailClr i) s [(.CDC_FAIL_COUNT, 0), (.CDC_FAIL_LAST_CAUSE, 0), (.CDC_FAIL_LAST_CHANNEL, 0)] i 0) ∧
  (∀ (s : State) (c : Nat), s.reachable .underback c = true → 
    SetsOnly (.ubLateCountClr c) s [(.UB_LATE_COUNT_COUNT, 0)] c 0) ∧
  (∀ (s : State), s.reachable .intake 0 = true → 
    SetsOnly .intArchDroppedClr s [(.INT_ARCH_DROPPED_COUNT, 0)] 0 0) ∧
  (∀ (s : State), s.reachable .kiln 0 = true → 
    SetsOnly .kilnClipLinesClr s [(.KILN_CLIP_LINES_COUNT, 0), (.KILN_CLIP_STROBES_COUNT, 0), (.KILN_CLIP_LAST_CHANNEL, 0), (.KILN_CLIP_LAST_SLOT, 0), (.KILN_CLIP_LAST_CAUSE, 0)] 0 0) ∧
  (∀ (s : State), s.reachable .kiln 0 = true → 
    SetsOnly .kilnUnsealedClr s [(.KILN_UNSEALED_COUNT, 0)] 0 0) ∧
  (∀ (s : State) (c : Nat), c < 64 → s.reachable .kiln 0 = true → 
    SetsOnly (.kilnChClipClr c) s [(.KILN_CH_CLIP_COUNT, 0)] 0 c) ∧
  (∀ (s : State), s.reachable .mash 0 = true → 
    SetsOnly .mashErrClr s [(.MASH_ERR_STATUS, 0), (.MASH_ERR_CHECK, 0), (.MASH_ERR_SECTION, 0)] 0 0) ∧
  (∀ (s : State), s.reachable .motion 0 = true → 
    SetsOnly .motBsCountClr s [(.MOT_BS_COUNT_BACKSTEPS, 0), (.MOT_BS_COUNT_RETRIES, 0), (.MOT_BS_COUNT_UNVERIFIED, 0)] 0 0) ∧
  (∀ (s : State), s.reachable .motion 0 = true → 
    SetsOnly .motRefusedClr s [(.MOT_REFUSED_COUNT, 0)] 0 0) ∧
  (∀ (s : State), s.reachable .motion 0 = true → 
    SetsOnly .motHardLinesClr s [(.MOT_HARD_LINES_COUNT, 0)] 0 0) ∧
  (∀ (s : State), s.reachable .intake 0 = true → 
    SetsOnly .intFaultLogClr s [(.INT_FAULT_LOG_CAUSE, 0), (.INT_FAULT_LOG_CHANNEL, 0), (.INT_FAULT_LOG_COUNT, 0)] 0 0) ∧
  (∀ (s : State) (t : Nat), s.reachable .screen t = true → 
    SetsOnly (.scrBridgeLostClr t) s [(.SCR_BRIDGE_LOST_COUNT, 0)] t 0) ∧
  (∀ (s : State) (t : Nat), s.reachable .screen t = true → 
    SetsOnly (.scrClipClr t) s [(.SCR_CLIP_COUNT, 0)] t 0)

/-- R12, R13: each CLR bit of the camera, inspection and service blocks clears the counts and latches its register description names, and
nothing else. R12, R13: each CLR bit of the memory, link, hierarchy and background blocks clears the counts and latches its register
description names, and nothing else. -/
def Obligations.ClearsOfBlocks : Prop :=
  (∀ (s : State) (p : Nat), s.reachable .ethernet p = true → 
    SetsOnly (.ethTxtsClr p) s [(.ETH_TXTS_STATUS_OVF, 0)] p 0) ∧
  (∀ (s : State), s.reachable .usb 0 = true → 
    SetsOnly .usbCountsClr s [(.USB_COUNTS_ABANDONED, 0), (.USB_COUNTS_STALLS, 0), (.USB_COUNTS_EVT_LOST, 0)] 0 0) ∧
  (∀ (s : State) (x : Nat), s.reachable .camera x = true → 
    SetsOnly (.camLostClr x) s [(.CAM_LOST_COUNT, 0), (.CAM_LOST_CAUSE, 0)] x 0) ∧
  (∀ (s : State) (x : Nat), s.reachable .camera x = true → 
    SetsOnly (.camPhyErrClr x) s [(.CAM_PHY_ERR_ECC_CORR, 0), (.CAM_PHY_ERR_ECC_FAIL, 0), (.CAM_PHY_ERR_CRC_FAIL, 0), (.CAM_PHY_ERR_DT_DROP, 0)] x 0) ∧
  (∀ (s : State) (x : Nat), s.reachable .camera x = true → 
    SetsOnly (.camStaleClr x) s [(.CAM_STALE_COUNT, 0)] x 0) ∧
  (∀ (s : State), s.reachable .gravity 0 = true → 
    SetsOnly .gravForeignClr s [(.GRAV_FOREIGN_COUNT, 0)] 0 0) ∧
  (∀ (s : State) (c : Nat), c < 64 → s.reachable .gravity 0 = true → 
    SetsOnly (.gravChCountClr c) s [(.GRAV_CH_COUNT_OUTS, 0), (.GRAV_CH_COUNT_BACKINS, 0), (.GRAV_CH_COUNT_TAIL_MISS, 0)] 0 c) ∧
  (∀ (s : State) (c : Nat), c < 64 → s.reachable .sightGlass 0 = true → 
    SetsOnly (.sgViolClr c) s [(.SG_VIOL_STOPPED, 0), (.SG_VIOL_COUNT, 0)] 0 c) ∧
  (∀ (s : State), s.reachable .sightGlass 0 = true → 
    SetsOnly .sgBusClr s [(.SG_BUS_RX, 0), (.SG_BUS_LATE, 0), (.SG_BUS_QDROP, 0)] 0 0) ∧
  (∀ (s : State), s.reachable .viewport 0 = true → 
    SetsOnly .vpCountsClr s [(.VP_COUNTS_UNDERRUN, 0), (.VP_COUNTS_NO_TE, 0), (.VP_COUNTS_COMMITS, 0)] 0 0) ∧
  (∀ (s : State), s.reachable .telemetry 0 = true → 
    SetsOnly .telStatusClr s [(.TEL_STATUS_SNAP_LOST, 0), (.TEL_STATUS_LOG_LOST, 0)] 0 0) ∧
  (∀ (s : State), s.reachable .telemetry 0 = true → 
    SetsOnly .telScrubClr s [(.TEL_SCRUB_CORR, 0)] 0 0) ∧
  (∀ (s : State), s.reachable .fence 0 = true → 
    SetsOnly .fenceLastClr s [(.FENCE_LAST_CLASS, 0), (.FENCE_LAST_INDEX, 0), (.FENCE_LAST_CAUSE, 0)] 0 0) ∧
  (∀ (s : State), s.reachable .hierarchy 0 = true → 
    SetsOnly .barResyncClr s [(.BAR_RESYNC_COUNT, 0)] 0 0) ∧
  (∀ (s : State), s.reachable .hierarchy 0 = true → 
    SetsOnly .barCovEventsClr s [(.BAR_COV_EVENTS_COUNT, 0)] 0 0) ∧
  (∀ (s : State) (i : Nat), s.reachable .ddr i = true → 
    SetsOnly (.ddrAlertClr i) s [(.DDR_ALERT_REPLAYS, 0), (.DDR_ALERT_CRC, 0)] i 0) ∧
  (∀ (s : State) (i : Nat), s.reachable .ddr i = true → 
    SetsOnly (.ddrEccClr i) s [(.DDR_ECC_CE, 0), (.DDR_ECC_UE, 0), (.DDR_ECC_ADDR_ADDR, 0), (.DDR_ECC_ADDR_MIRRORED, 0)] i 0) ∧
  (∀ (s : State) (i : Nat), s.reachable .sparge i = true → 
    SetsOnly (.spgFoundClr i) s [(.SPG_FOUND_CE, 0), (.SPG_FOUND_UE, 0)] i 0) ∧
  (∀ (s : State), s.powered 131 = true → 
    SetsOnly .grsStaleClr s [(.GRS_STALE_COUNT, 0)] 0 0) ∧
  (∀ (s : State), s.reachable .trio 0 = true → 
    SetsOnly .trioEventsClr s [(.TRIO_EVENTS_TAKEOVERS, 0), (.TRIO_EVENTS_REVERTS, 0), (.TRIO_EVENTS_UNQUAL, 0)] 0 0) ∧
  (∀ (s : State) (p : Nat), s.reachable .wortPort p = true → 
    SetsOnly (.wlPortErrClr p) s [(.WL_PORT_ERR_NAKS, 0), (.WL_PORT_ERR_RETRAINS, 0), (.WL_PORT_ERR_DISCARDS, 0)] p 0) ∧
  (∀ (s : State) (i : Nat), s.reachable .wortLane i = true → 
    SetsOnly (.wlLaneRetrainsClr i) s [(.WL_LANE_RETRAINS_TOTAL, 0)] i 0) ∧
  (∀ (s : State) (i : Nat), i < 40 → s.reachable .telemetry 0 = true →
    -16384 ≤ s.geti .TEL_TEMP_NOW 0 i → s.geti .TEL_TEMP_NOW 0 i < 16384 →
    Runs (.telTempClr i) s (fun t => OnlyRegs s t (fun f j k => f = .TEL_TEMP_MAX ∧ j = 0 ∧ k = i) ∧ t.geti .TEL_TEMP_MAX 0 i = s.geti .TEL_TEMP_NOW 0 i))

/-- R122-R125, R130, R133: mapping and unmapping extents of the job store, and the fetching of a block; R36: what waits for firmware. -/
def Obligations.ExtentsAndBlocks : Prop :=
  (∀ (s : State) (d : Desc) (e0 n : Nat), Accepts s d 0x0201 [(0x10, 1), (0x11, 1), (0x18, 8), (0x20, 8), (0x28, 8)] →
    d.p 0x10 1 ≤ 1 → d.p 0x11 1 ≤ (if d.p 0x10 1 = 1 then 3 else 0) → runOk (d.p 0x18 8) (d.p 0x20 8) = true → d.p 0x28 8 % 4096 = 0 →
    d.p 0x20 8 ≠ 0 → s.activeManager = true → e0 = d.p 0x18 8 / 2 ^ 26 → n = d.p 0x20 8 / 2 ^ 26 →
    (∀ x ∈ s.extents, x.1 < e0 ∨ e0 + n ≤ x.1) → s.fwAway = false →
    Runs (.jsaMap d) s (fun t =>
      (∀ i, i < n → t.extent (e0 + i) = some { kind := d.p 0x10 1, port := d.p 0x11 1, base := d.p 0x28 8 + i * 2 ^ 26, closing := none }) ∧
      (∀ e, (e < e0 ∨ e0 + n ≤ e) → t.extent e = s.extent e) ∧
      t = State.done (State.out { (s.started d 0x0201).2 with extents := t.extents }
        (.wort "extentsMapped" [e0, n, d.p 0x10 1, d.p 0x11 1, d.p 0x28 8])) (s.started d 0x0201).1 n)) ∧
  (∀ (s : State) (d : Desc), Accepts s d 0x0201 [(0x10, 1), (0x11, 1), (0x18, 8), (0x20, 8), (0x28, 8)] →
    d.p 0x10 1 ≤ 1 → d.p 0x11 1 ≤ (if d.p 0x10 1 = 1 then 3 else 0) → runOk (d.p 0x18 8) (d.p 0x20 8) = true → d.p 0x28 8 % 4096 = 0 →
    d.p 0x20 8 ≠ 0 → s.activeManager = true → s.runMapped (runOf d) = false → s.fwAway = true →
    Runs (.jsaMap d) s (fun t => t = { (s.started d 0x0201).2 with fwDue := s.fwDue ++ [((s.started d 0x0201).1, .jsaMap d)] })) ∧
  (∀ (s : State) (d : Desc) (e0 n : Nat), s.activeManager = false → e0 = d.p 0x18 8 / 2 ^ 26 → n = d.p 0x20 8 / 2 ^ 26 →
    (∀ x ∈ s.extents, x.1 < e0 ∨ e0 + n ≤ x.1) →
    Runs (.jsaMap d true) s (fun t => t = { s with extents := t.extents } ∧
      (∀ i, i < n → t.extent (e0 + i) = some { kind := d.p 0x10 1, port := d.p 0x11 1, base := d.p 0x28 8 + i * 2 ^ 26, closing := none }) ∧
      (∀ e, (e < e0 ∨ e0 + n ≤ e) → t.extent e = s.extent e))) ∧
  (∀ (s : State) (d : Desc) (e0 n : Nat), Accepts s d 0x0202 [(0x18, 8), (0x20, 8)] → runOk (d.p 0x18 8) (d.p 0x20 8) = true →
    d.p 0x20 8 ≠ 0 → s.activeManager = true → e0 = d.p 0x18 8 / 2 ^ 26 → n = d.p 0x20 8 / 2 ^ 26 →
    (∃ x ∈ s.extents, e0 ≤ x.1 ∧ x.1 < e0 + n) → s.fwAway = false →
    Runs (.jsaUnmap d) s (fun t =>
      t.extents = s.extents.map (fun x => if e0 ≤ x.1 ∧ x.1 < e0 + n ∧ x.2.closing = none then
        (x.1, { x.2 with closing := some s.pages.length }) else x) ∧
      t.unmaps = s.unmaps ++ [((s.startedLong d 0x0202).1, e0, n)] ∧
      t = State.out { (s.startedLong d 0x0202).2 with extents := t.extents, unmaps := t.unmaps } (.wort "extentsClosing" [e0, n]))) ∧
  (∀ (s : State) (d : Desc), s.activeManager = false → Runs (.jsaUnmap d true) s (fun t => t = s.closeExtents (runOf d))) ∧
  (∀ (s : State) (h e0 n : Nat), s.unmaps.find? (fun u => u.1 == h) = some (h, e0, n) → s.runUsed (e0, n) = false → s.fwAway = false →
    Runs (.unmapComplete h false none) s (fun t => t.unmaps = s.unmaps.filter (fun x => x.1 != h) ∧
      t.extents = s.extents.filter (fun x => !(x.2.closing.isSome && decide (e0 ≤ x.1 ∧ x.1 < e0 + n))) ∧
      t = State.done (State.out { s with unmaps := t.unmaps, extents := t.extents } (.wort "extentsUnmapped" [e0, n])) h)) ∧
  (∀ (s : State) (h e0 n : Nat) (b : Bool), s.activeManager = false →
    Runs (.unmapComplete h b (some (e0, n))) s (fun t => t = { s with extents := s.extents.filter (fun x => !(x.2.closing.isSome && decide (e0 ≤ x.1 ∧ x.1 < e0 + n))) })) ∧
  (∀ (s : State) (id i j : Nat) (counts : List (Nat × Nat)) (p : Page) (x : Strip), s.page id = some p → x = s.stripOf p i j →
    (s.role = rolePress ∨ s.role = roleBar ∨ s.activeManager = true) → x ∈ s.strips p → p.faulty x = false → s.fwAway = false →
    p.sentOf x < s.blocksOf x → s.stripFault p x (p.sentOf x) = 0 →
    units (s.blockBytes x (p.sentOf x)) ≤ look 0 s.credits (s.slotOf x) → s.servedNext p x counts = true →
    Runs (.blockSend id i j none counts) s (fun t =>
      t.pages = (s.setPage { p with sent := store 0 p.sent x.key (p.sentOf x + 1) }).pages ∧
      look 0 t.credits (s.slotOf x) = look 0 s.credits (s.slotOf x) - units (s.blockBytes x (p.sentOf x)) ∧
      (∀ n, n ≠ s.slotOf x → look 0 t.credits n = look 0 s.credits n) ∧
      t.outbox = .wort "block" [Config.slicePort (s.sect 0x0052) (s.slotOf x / 64), s.slotOf x, p.id, p.sentOf x,
        s.blockFirst p x (p.sentOf x), s.blockBytes x (p.sentOf x)] :: s.outbox ∧
      t = { s with pages := t.pages, credits := t.credits, outbox := t.outbox })) ∧
  (∀ (s : State) (id i j k : Nat) (counts : List (Nat × Nat)) (p : Page) (x : Strip), s.page id = some p → x = s.stripOf p i j →
    (s.role = rolePress ∨ s.role = roleBar ∨ s.activeManager = true) → x ∈ s.strips p → p.faulty x = false → s.fwAway = false →
    k < p.sentOf x →
    Runs (.blockSend id i j (some k) counts) s (fun t => t = s.sendBlock p x k ∧ t = { s with outbox := t.outbox })) ∧
  (∀ (s : State) (id i j : Nat) (counts : List (Nat × Nat)) (p : Page) (x : Strip), s.page id = some p → x = s.stripOf p i j →
    (s.role = rolePress ∨ s.role = roleBar ∨ s.activeManager = true) → x ∈ s.strips p → p.faulty x = false → s.fwAway = false →
    (s.blocksOf x = 0 ∨ p.sentOf x < s.blocksOf x) → s.stripFault p x (p.sentOf x) ≠ 0 →
    Runs (.blockSend id i j none counts) s (fun t => t.credits = s.credits ∧
      t.get .INT_FAULT_LOG_COUNT = min (s.get .INT_FAULT_LOG_COUNT + 1) (2 ^ Fld.INT_FAULT_LOG_COUNT.desc.width - 1) ∧ t.get .INT_FAULT_LOG_CAUSE = s.stripFault p x (p.sentOf x) ∧
      t.get .INT_FAULT_LOG_CHANNEL = s.slotOf x % 64)) ∧
  (∀ (s : State) (id i j : Nat) (a : Option Nat) (counts : List (Nat × Nat)), s.page id = none → Runs (.blockSend id i j a counts) s (fun t => t = s))

/-- R126, R128-R132: the life of a page, on the active press manager and on the devices it tells. -/
def Obligations.PagesSubmitted : Prop :=
  (∀ (s : State) (d : Desc) (id first h : Nat), Accepts s d 0x0203 [(0x10, 4), (0x14, 4), (0x18, 8), (0x20, 4), (0x24, 4)] →
    s.activeManager = true → jsaOk (d.p 0x18 8) = true → d.p 0x18 8 % 64 = 0 → (d.p 0x24 4 = 0 ∨ d.p 0x24 4 = 2) →
    s.jsaOpen (d.p 0x18 8) 32 = true → s.jf (d.p 0x18 8) 4 = pageMagic → s.descBad (d.p 0x18 8) = false →
    (∀ n ∈ s.descSizes (d.p 0x18 8), n ≠ 0) → d.p 0x14 4 ≠ 0 → id = d.p 0x10 4 → s.page id = none → first = s.nextFirst (d.p 0x20 4) →
    h = (s.started d 0x0203).1 →
    Runs (.pageSubmit d none) s (fun t => t.pages = s.pages ++ [{ id := id, handle := h, first := first, lines := d.p 0x14 4, gap := d.p 0x20 4, last := bit (d.p 0x24 4) 1, desc := d.p 0x18 8, state := 0, backsteps := 0, failLine := 0, sent := [] }] ∧
      t.pageEnd = first + d.p 0x14 4 ∧
      t.jobEnds = (if bit (d.p 0x24 4) 1 then s.jobEnds ++ [first + d.p 0x14 4] else s.jobEnds) ∧ t.is .MOT_STATUS_JOB = true ∧
      ∃ u, t = State.report u h stAccepted false (first % 2 ^ 32) 0 ∧ u.hostMem = s.hostMem)) ∧
  (∀ (s : State) (d : Desc) (p : Page) (h : Nat), Accepts s d 0x0203 [(0x10, 4), (0x14, 4), (0x18, 8), (0x20, 4), (0x24, 4)] →
    s.activeManager = true → jsaOk (d.p 0x18 8) = true → d.p 0x18 8 % 64 = 0 → (d.p 0x24 4 = 1 ∨ d.p 0x24 4 = 3) →
    s.jsaOpen (d.p 0x18 8) 32 = true → s.jf (d.p 0x18 8) 4 = pageMagic → s.descBad (d.p 0x18 8) = false →
    (∀ n ∈ s.descSizes (d.p 0x18 8), n ≠ 0) → d.p 0x14 4 ≠ 0 → s.page (d.p 0x10 4) = some p → p.state = 1 → p.lines = d.p 0x14 4 →
    p.gap = d.p 0x20 4 → h = (s.started d 0x0203).1 →
    Runs (.pageSubmit d none) s (fun t => t = State.report (((s.started d 0x0203).2.setPage { p with handle := h, desc := d.p 0x18 8, state := 0, faults := [] }).out (.wort "pageAccepted" [p.first, d.p 0x10 4, d.p 0x14 4, d.p 0x18 8, d.p 0x20 4, d.p 0x24 4])) h stAccepted false
      (p.first % 2 ^ 32) 0)) ∧
  (∀ (s : State) (d : Desc) (first : Nat), s.activeManager = false → s.pages.find? (fun p => p.first == first) = none →
    Runs (.pageSubmit d (some first)) s (fun t => t.pages = s.pages ++ [{ id := d.p 0x10 4, handle := 0, first := first, lines := d.p 0x14 4, gap := d.p 0x20 4, last := bit (d.p 0x24 4) 1, desc := d.p 0x18 8, state := 0, backsteps := 0, failLine := 0, sent := [] }] ∧
      t.is .MOT_STATUS_JOB = true ∧ t = { s with pages := t.pages, gaps := t.gaps, pageEnd := t.pageEnd, jobEnds := t.jobEnds, regs := t.regs })) ∧
  (∀ (s : State) (id fired : Nat) (p : Page), s.page id = some p → p.state = 0 → s.activeManager = true → p.first + p.lines ≤ s.seq.next →
    fired ≤ p.lines →
    Runs (.pageComplete id fired) s (fun t => t = (if p.backsteps = 0 then (s.setPage { p with state := 2 }).finish p.handle stDone fired 0
      else (s.setPage { p with state := 2 }).finish p.handle stDataLate fired (min p.backsteps 0xFFFF)))) ∧
  (∀ (s : State) (id cause bar line strip block slot : Nat) (p : Page), s.page id = some p → p.state = 0 → s.activeManager = true →
    1 ≤ cause → cause ≤ 4 → bar < 16 →
    Runs (.pageFault id cause bar line strip block slot) s (fun t => t = State.finish (s.setPage { p with state := 1, failLine := line, sent := store 0 p.sent strip (min block (look 0 p.sent strip)), faults := p.faults.filter (fun f => f.1 != strip) ++ [(strip, slot)] })
      p.handle stCheckFailed (line % 2 ^ 32) (cause + 16 * bar))) ∧
  (∀ (s : State) (id cause bar line strip block slot : Nat) (p : Page), s.page id = some p → s.activeManager = false → s.role = roleWorker →
    1 ≤ cause → cause ≤ 4 →
    Runs (.pageFault id cause bar line strip block slot) s (fun t => t = s.setPage { p with sent := store 0 p.sent strip (min block (look 0 p.sent strip)), faults := p.faults.filter (fun f => f.1 != strip) ++ [(strip, slot)] })) ∧
  (∀ (s : State) (d : Desc) (p : Page) (h : Nat) (u : State), Accepts s d 0x0204 [(0x10, 4)] → s.activeManager = true →
    s.page (d.p 0x10 4) = some p → p.state = 0 → s.pageScreened p = false → h = (s.startedLong d 0x0204).1 →
    u = (((s.startedLong d 0x0204).2.setPage { p with state := 3 }).dropPage p p.first).out (.wort "pageCancelled" [d.p 0x10 4, p.first]) →
    Runs (.pageCancel d false none) s (fun t => t = (u.finish p.handle stDone (2 ^ 31) 0).done h)) ∧
  (∀ (s : State) (d : Desc) (e : Bool) (p : Page) (h : Nat), Accepts s d 0x0204 [(0x10, 4)] → s.activeManager = true →
    s.page (d.p 0x10 4) = some p → p.state = 1 → h = (s.startedLong d 0x0204).1 →
    Runs (.pageCancel d e none) s (fun t => t = State.done ((((s.startedLong d 0x0204).2.setPage { p with state := 3 }).dropPage p
      (p.first + p.failLine)).out (.wort "pageCancelled" [d.p 0x10 4, p.first + p.failLine])) h)) ∧
  (∀ (s : State) (d : Desc) (e : Bool) (p : Page) (y : Nat), s.activeManager = false → s.page (d.p 0x10 4) = some p →
    Runs (.pageCancel d e (some y)) s (fun t => t = (s.setPage { p with state := 3 }).dropPage p y ∧
      ∀ c, (∀ l ∈ (t.chan c).grant, l.no < y ∨ p.first + p.lines ≤ l.no) ∨ 64 ≤ c))

/-- R25, R134, R135, R153-R155: blocks and lines on their way through one channel. -/
def Obligations.IntakeQueue : Prop :=
  (∀ (s : State) (c n dev : Nat), dev = s.get .BAR_STATUS_DEVICE → s.role ≠ rolePress → s.role ≠ roleBar → c < 64 → 0 < n →
    4096 * (n + (s.chan c).credit + s.intakeUsed c) ≤ s.intakeSize c →
    Runs (.intakeCreditGrant dev c n (s.intakeSize c)) s (fun t =>
      t.chan c = { s.chan c with credit := (s.chan c).credit + n, reported := true } ∧ (∀ m, m ≠ c → t.chan m = s.chan m) ∧
      t = { s with chans := t.chans, outbox := t.outbox })) ∧
  (∀ (s : State) (dev c n z : Nat), dev ≠ s.get .BAR_STATUS_DEVICE → c < 64 → 0 < n →
    Runs (.intakeCreditGrant dev c n z) s (fun t => look 0 t.credits (64 * dev + c) = look 0 s.credits (64 * dev + c) + n ∧
      look 0 t.intakes (64 * dev + c) = z ∧ (∀ m, m ≠ 64 * dev + c → look 0 t.credits m = look 0 s.credits m) ∧
      t = { s with credits := t.credits, intakes := t.intakes })) ∧
  (∀ (s : State) (c : Nat) (x : Arrival), c < 64 → x.bytes ≠ [] → units x.bytes.length ≤ (s.chan c).credit →
    (∀ b ∈ (s.chan c).intake, ¬ (b.page = x.page ∧ b.index = x.index ∧ b.bytes = [])) →
    Runs (.blockArrival c x) s (fun t =>
      (t.chan c).intake = (s.chan c).intake.filter (fun b => b.ahead x) ++ [{ page := x.page, pfirst := x.first, index := x.index, first := x.line, lines := x.planeLines, bytes := x.bytes, room := units x.bytes.length }] ++ (s.chan c).intake.filter (fun b => !b.ahead x) ∧
      (t.chan c).credit = (s.chan c).credit - units x.bytes.length ∧ (t.chan c).lastFirst = max (s.chan c).lastFirst (x.first + 1) ∧
      (∀ m, m ≠ c → t.chan m = s.chan m) ∧ t = (s.learnPage x.page x.first x.lines x.gap x.last).setChan c (t.chan c))) ∧
  (∀ (s : State) (c : Nat) (x : Arrival), c < 64 → x.bytes ≠ [] →
    (∃ b ∈ (s.chan c).intake, b.page = x.page ∧ b.index = x.index ∧ b.bytes = [] ∧ b.fails < 2) →
    Runs (.blockArrival c x) s (fun t =>
      (t.chan c).intake = (s.chan c).intake.map (fun b => if b.page = x.page ∧ b.index = x.index ∧ b.bytes = [] then
        { b with bytes := x.bytes } else b) ∧ (t.chan c).credit = (s.chan c).credit ∧
      t = (s.learnPage x.page x.first x.lines x.gap x.last).setChan c (t.chan c))) ∧
  (∀ (s : State) (c : Nat) (x : Arrival), c < 64 → x.bytes ≠ [] → units x.bytes.length ≤ (s.chan c).credit →
    (∃ b ∈ (s.chan c).intake, b.page = x.page ∧ b.index = x.index ∧ b.bytes = []) →
    (∀ b ∈ (s.chan c).intake, b.page = x.page → b.index = x.index → b.bytes = [] → 2 ≤ b.fails) →
    Runs (.blockArrival c x) s (fun t =>
      (t.chan c).intake = (s.chan c).intake.map (fun b => if b.page = x.page ∧ b.index = x.index ∧ b.bytes = [] then
        { b with bytes := x.bytes, room := units x.bytes.length, fails := 0 } else b) ∧
      (t.chan c).credit = (s.chan c).credit - units x.bytes.length)) ∧
  (∀ (s : State) (c : Nat) (x : Arrival), (s.chan c).credit < units x.bytes.length → (∀ b ∈ (s.chan c).intake, b.bytes ≠ []) →
    Runs (.blockArrival c x) s (fun t => t = s)) ∧
  (∀ (s : State) (c i j : Nat) (b : QBlock), c < 64 → i = s.codecOf c → s.freeLane i = some j → s.fenced 3 i = false →
    s.fenced 2 c = false → s.powered (118 + i) = true → s.powered c = true → (s.chan c).intake.find? QBlock.waits = some b →
    headerFits (s.prog c 0x00A 2) b.lines (s.decodeHalf c) b.bytes = true →
    Runs (.blockDecodeStart c) s (fun t => t.chan c = { s.chan c with intake := mapFirst QBlock.waits (fun b => { b with inst := i, lane := j + 1 }) (s.chan c).intake } ∧
      (∀ m, m ≠ c → t.chan m = s.chan m) ∧ t = { s with chans := t.chans })) ∧
  (∀ (s : State) (c i j : Nat) (b : QBlock), c < 64 → i = s.codecOf c → s.freeLane i = some j → s.fenced 3 i = false →
    s.fenced 2 c = false → s.powered (118 + i) = true → s.powered c = true → (s.chan c).intake.find? QBlock.waits = some b →
    headerFits (s.prog c 0x00A 2) b.lines (s.decodeHalf c) b.bytes = false →
    Runs (.blockDecodeStart c) s (fun t => t = s.blockFailed i c causeHeader b)) ∧
  (∀ (s : State) (i j c : Nat) (x : Chan) (b : QBlock) (rows : List (List Nat)),
    s.chans.find? (fun e => e.2.intake.any (fun b => b.inst == i && b.lane == j + 1)) = some (c, x) →
    x.intake.find? (fun b => b.inst == i && b.lane == j + 1) = some b →
    checkBlock (s.prog c 0x00A 2) b.lines (s.decodeHalf c) b.bytes = .ok rows →
    Runs (.blockCheckDone i j) s (fun t => t.get .CDC_BLOCKS_COUNT i = (s.get .CDC_BLOCKS_COUNT i + 1) % 2 ^ Fld.CDC_BLOCKS_COUNT.desc.width ∧
      (t.chan c).intake = mapFirst (fun b => b.inst == i && b.lane == j + 1) (fun b => { b with lane := 0, passed := true, samples := rows })
        (s.chan c).intake ∧ t = { s with chans := t.chans, regs := t.regs })) ∧
  (∀ (s : State) (i j c cause : Nat) (x : Chan) (b : QBlock),
    s.chans.find? (fun e => e.2.intake.any (fun b => b.inst == i && b.lane == j + 1)) = some (c, x) →
    x.intake.find? (fun b => b.inst == i && b.lane == j + 1) = some b →
    checkBlock (s.prog c 0x00A 2) b.lines (s.decodeHalf c) b.bytes = .error cause →
    Runs (.blockCheckDone i j) s (fun t => t = s.blockFailed i c cause b ∧
      t.get .CDC_FAIL_COUNT i = min (s.get .CDC_FAIL_COUNT i + 1) (2 ^ Fld.CDC_FAIL_COUNT.desc.width - 1) ∧
      t.get .CDC_FAIL_LAST_CAUSE i = cause % 2 ^ Fld.CDC_FAIL_LAST_CAUSE.desc.width ∧ t.get .CDC_FAIL_LAST_CHANNEL i = c % 2 ^ Fld.CDC_FAIL_LAST_CHANNEL.desc.width)) ∧
  (∀ (s : State) (c : Nat) (a b : QBlock) (l : List QBlock), c < 64 → (s.chan c).intake = a :: l → s.fenced 2 c = false →
    (s.chan c).fromPage ≤ a.pfirst → (s.chan c).intake.find? (fun x => !x.moved) = some b → b.passed = true → (s.chan c).released.length < 2 →
    Runs (.blockRelease c) s (fun t => (t.chan c).intake = mapFirst (fun x => !x.moved) (fun x => { x with moved := true, samples := [] }) (s.chan c).intake ∧
      (t.chan c).half = 1 - (s.chan c).half ∧
      (t.chan c).released = (s.chan c).released ++ [{ first := b.first, page := b.page, pfirst := b.pfirst, lines := b.lines, half := (s.chan c).half }] ∧ (∀ m, m ≠ c → t.chan m = s.chan m) ∧ t.hostMem = s.hostMem ∧ t.dram = s.dram)) ∧
  (∀ (s : State) (c : Nat) (b : QBlock) (l : List QBlock), c < 64 → (s.chan c).intake = b :: l →
    (s.fenced 2 c = true ∨ b.pfirst < (s.chan c).fromPage) →
    Runs (.blockRelease c) s (fun t => t.chan c = { s.chan c with intake := l, released := (s.chan c).released.filter (fun r => r.first != b.first), discarded := (s.chan c).discarded + (b.first + b.lines * s.prog c 0x008 2 - max b.first (s.chan c).screened) } ∧
      (∀ m, m ≠ c → t.chan m = s.chan m) ∧ t = { s with chans := t.chans })) ∧
  (∀ (s : State) (c : Nat) (x : Line) (l : List Line), c < 64 → (s.chan c).lead = x :: l → s.powered c = true → s.barred c = false →
    (s.chan c).out = false → (s.chan c).grant.length < 512 →
    Runs (.grantRefill c) s (fun t => t.chan c = { s.chan c with lead := l, grant := (s.chan c).grant ++ [x] } ∧
      (∀ m, m ≠ c → t.chan m = s.chan m) ∧ t = { s with chans := t.chans })) ∧
  (∀ (s : State) (c : Nat) (x : Line) (l : List Line), c < 64 → (s.chan c).lead = x :: l → s.powered c = true → s.barred c = true →
    Runs (.grantRefill c) s (fun t => t.chan c = { s.chan c with lead := l, discarded := (s.chan c).discarded + 1 } ∧
      (∀ m, m ≠ c → t.chan m = s.chan m) ∧ t = { s with chans := t.chans })) ∧
  (∀ (s : State) (c : Nat), (s.chan c).lead = [] → Runs (.grantRefill c) s (fun t => t = s))

/-- R141-R144, R157: the archive ring and the encoder lanes that fill it. -/
def Obligations.InspectionArchive : Prop :=
  (∀ (s : State) (d : Desc) (h : Nat), Accepts s d 0x0205 [(0x10, 1), (0x11, 1), (0x12, 1), (0x18, 8), (0x20, 8)] → d.p 0x11 1 ≤ 1 →
    (d.p 0x11 1 = 0 ∨ (1 ≤ d.p 0x12 1 ∧ d.p 0x12 1 ≤ 99)) → 16777216 ≤ d.p 0x20 8 → d.p 0x18 8 % 4096 = 0 → d.p 0x20 8 % 4096 = 0 →
    d.p 0x10 1 ≠ 0 → s.archive.mask = 0 → h = (s.started d 0x0205).1 →
    Runs (.archiveSetup d) s (fun t => t = State.done { (s.started d 0x0205).2 with archive := { mask := d.p 0x10 1, policy := d.p 0x11 1, resume := d.p 0x12 1, base := d.p 0x18 8, size := d.p 0x20 8 } } h)) ∧
  (∀ (s : State) (d : Desc) (h : Nat), Accepts s d 0x0205 [(0x10, 1), (0x11, 1), (0x12, 1), (0x18, 8), (0x20, 8)] → d.p 0x11 1 = 0 →
    16777216 ≤ d.p 0x20 8 → d.p 0x18 8 % 4096 = 0 → d.p 0x20 8 % 4096 = 0 → d.p 0x10 1 = 0 → h = (s.started d 0x0205).1 →
    Runs (.archiveSetup d) s (fun t => t = State.done (State.bump { (s.started d 0x0205).2 with archive := {} } .INT_ARCH_DROPPED_COUNT
      s.archive.frames.length) h ∧ t.archive = {})) ∧
  (∀ (s : State) (d : Desc) (h n m : Nat), Accepts s d 0x0206 [(0x10, 4), (0x14, 4), (0x18, 8)] → n = d.p 0x10 4 → m = d.p 0x14 4 → n ≠ 0 →
    m ≠ 0 → (∀ f ∈ s.archive.frames.head?, f.size ≤ m) → h = (s.startedLong d 0x0206).1 →
    Runs (.archiveRead d) s (fun t => t.archive = { s.archive with frames := (takeFrames n m s.archive.frames).2 }.settle ∧
      t = State.done { (s.startedLong d 0x0206).2 with archive := t.archive, hostMem := Memory.wrs (s.startedLong d 0x0206).2.hostMem (d.p 0x18 8) ((takeFrames n m s.archive.frames).1.flatMap ArchFrame.record) } h (takeFrames n m s.archive.frames).1.length)) ∧
  (∀ (n m : Nat) (l : List ArchFrame), (takeFrames n m l).1 ++ (takeFrames n m l).2 = l ∧ (takeFrames n m l).1.length ≤ n ∧
    ((takeFrames n m l).1.map ArchFrame.size).sum ≤ m) ∧
  (∀ (s : State) (x k : Nat), x < 8 → k = s.encOf x → (s.enc k).cam = x → (s.enc k).rows ≠ [] →
    ((s.enc k).rows.length = 256 ∨ (s.enc k).ended = true ∨ (s.enc k).flush = true) →
    Runs (.archiveBlockClose x) s (fun t => t.enc k = { s.enc k with rows := [], flush := false, bytes := (s.enc k).bytes ++ encodeBlock (s.enc k).level (s.enc k).depth (s.enc k).comp (s.enc k).rows } ∧
      (∀ j, j ≠ k → t.enc j = s.enc j) ∧ t = { s with encs := t.encs })) ∧
  (∀ (s : State) (i : Nat), i < 4 → s.reachable .codec i = true → (s.enc i).rows ≠ [] →
    Runs (.cdcEncFlush i) s (fun t => t = { s with encs := t.encs } ∧ t.enc i = { s.enc i with flush := true } ∧
      ∀ j, j ≠ i → t.enc j = s.enc j)) ∧
  (∀ (s : State) (i : Nat), i < 4 → s.reachable .codec i = true → (s.enc i).rows = [] → Runs (.cdcEncFlush i) s (fun t => t = s)) ∧
  (∀ (s : State) (x k : Nat) (f : ArchFrame), x < 8 → k = s.encOf x → (s.enc k).ended = false →
    (s.enc k).ready.find? (fun g => g.cam == x) = some f →
    bit s.archive.mask x = true → s.archive.policy ≠ 1 → f.size ≤ s.archive.size →
    Runs (.archiveFrameWrite x) s (fun t => t.enc k = { s.enc k with ready := (s.enc k).ready.erase f } ∧
      t = { s with archive := t.archive, encs := t.encs, regs := t.regs } ∧ ∃ n,
        t.archive = { s.archive with frames := s.archive.frames.drop n ++ [f] } ∧ t.archive.fill ≤ s.archive.size ∧
        (s.archive.fill + f.size ≤ s.archive.size → n = 0) ∧
        t.get .INT_ARCH_DROPPED_COUNT = min (s.get .INT_ARCH_DROPPED_COUNT + n) (2 ^ Fld.INT_ARCH_DROPPED_COUNT.desc.width - 1))) ∧
  (∀ (s : State) (x k : Nat) (f : ArchFrame), x < 8 → k = s.encOf x → (s.enc k).ended = false →
    (s.enc k).ready.find? (fun g => g.cam == x) = some f →
    s.archive.policy = 1 → s.archive.size < s.archive.fill + f.size →
    Runs (.archiveFrameWrite x) s (fun t => t.archive = s.archive ∧ t.enc k = { s.enc k with ready := (s.enc k).ready.erase f } ∧ t.get .INT_ARCH_DROPPED_COUNT =
      min (s.get .INT_ARCH_DROPPED_COUNT + 1) (2 ^ Fld.INT_ARCH_DROPPED_COUNT.desc.width - 1)))

/-- R220, R221: the codes that the Kiln lets fire stay within the budget of every slot and of the line, for every line, strobe energy and
order of slots. -/
def Obligations.KilnBudgets : Prop :=
  ∀ (e smax capSlot capLine y : Nat) (codes slotOf : List Nat),
    let r := (kilnCheck e smax capSlot capLine y codes slotOf).1
    e * r.sum ≤ capLine * 1000 ∧ (∀ sl, sl < 32 → slotEnergy e r slotOf sl ≤ capSlot * 1000) ∧ r.length = codes.length ∧
    (∀ n, r.getD n 0 ≤ codes.getD n 0)

/-- R82, R218, R226, R227: the interlock of head power, and the seal of the Kiln. -/
def Obligations.HeadPower : Prop :=
  (∀ (s : State) (i v : Nat), i < 2 → s.reachable .kiln 0 = true →
    Runs (.kilnHpwrReqWrite i v) s (fun t => OnlyRegs { s with chans := t.chans } t (fun f j k => f = .KILN_HPWR_REQ_REQ ∧ j = 0 ∧ k = i) ∧
      t.get .KILN_HPWR_REQ_REQ 0 i = v % 2 ^ Fld.KILN_HPWR_REQ_REQ.desc.width ∧
      (∀ c, t.chan c = { s.chan c with cut := (t.chan c).cut }) ∧
      ∀ c, c < 64 → (t.chan c).cut = ((s.chan c).cut || (t.headOn c && !t.powerOk c)))) ∧
  (∀ (s : State) (c : Nat), c < 64 → s.powerOk c = true → s.headOn c = false →
    Runs (.headPowerOn c) s (fun t => t.headOn c = true ∧ t.is .FIRE_CH_STATUS_HPWR c = true ∧ t.chan c = { s.chan c with settling := true, cut := false } ∧
      t.fireOk c = false ∧ t.outbox = .pin "HPWR_EN_N" c 0 :: s.outbox ∧ (∀ n, n ≠ c → t.chan n = s.chan n ∧ t.headOn n = s.headOn n) ∧
      t = { s with regs := t.regs, chans := t.chans, heads := t.heads, outbox := t.outbox })) ∧
  (∀ (s : State) (c : Nat), c < 64 → s.headOn c = true →
    Runs (.pwrSettleExpiry c) s (fun t => t.chan c = { s.chan c with settling := false } ∧ (∀ n, n ≠ c → t.chan n = s.chan n) ∧
      t = { s with chans := t.chans })) ∧
  (∀ (s : State) (c : Nat), c < 64 → ((s.chan c).cut = true ∨ s.powerOk c = false) → s.headOn c = true →
    (s.scheduleEnded c = true ∨ (s.fenced 1 c = true ∧ ∃ x, (s.chan c).firing = some x ∧ x.no + 1 < (s.chan c).reached)) →
    Runs (.headPowerOff c) s (fun t => t.headOn c = false ∧ t.chan c = { s.chan c with settling := false, cut := false } ∧ t.is .FIRE_CH_STATUS_HPWR c = false ∧ t.fireOk c = false ∧
      t.outbox = .pin "HPWR_EN_N" c 1 :: s.outbox ∧ (∀ n, n ≠ c → t.chan n = s.chan n ∧ t.headOn n = s.headOn n) ∧
      t = { s with regs := t.regs, chans := t.chans, heads := t.heads, outbox := t.outbox })) ∧
  (∀ (s : State) (c : Nat), s.scheduleEnded c = false → s.fenced 1 c = false → Runs (.headPowerOff c) s (fun t => t = s)) ∧
  (∀ (s : State) (c : Nat), (s.chan c).cut = true → s.fireOk c = false) ∧
  (∀ (s : State) (k : Seal) (b : List Byte) (key : Nat), s.kiln = some k → s.sealKiln b key = s) ∧
  (∀ (s : State) (b : List Byte) (key : Nat), s.kiln = none →
    let t := s.sealKiln b key
    t.kiln = some { payload := b, key := key, digest := digestId (sha384 b) } ∧ t = { s with kiln := t.kiln, chans := t.chans, outbox := t.outbox } ∧
    ∀ c p, c < 64 → (s.chan c).preps = [p] → (t.chan c).preps = [t.kilnPrep c p])

/-- R246, R248, R249: one sample pair, and a change of direction. -/
def Obligations.EncoderSamples : Prop :=
  (∀ (s : State) (x sin cos m : Nat), s.encUsed x = true → m = amplitude (s.corrected x sin cos).1 (s.corrected x sin cos).2 →
    Runs (.encoderSample x sin cos) s (fun t => t.get .ENC_AMP_NOW 0 x = m ∧ t.get .ENC_AMP_MIN 0 x = min m (s.get .ENC_AMP_MIN 0 x) ∧
      (t.scale x).phase = phaseOf (s.corrected x sin cos).1 (s.corrected x sin cos).2 ∧ (∀ y, y ≠ x → t.scale y = s.scale y) ∧
      OnlyRegs { s with scales := t.scales } t (fun f i k => (f = .ENC_AMP_NOW ∨ f = .ENC_AMP_MIN ∨ f = .ENC_POS_COUNTS ∨ f = .ENC_SPEED_RATE ∨
        (f = .ENC_SLIP_COUNTS ∧ x = 0)) ∧ i = 0 ∧ (k = x ∨ f = .ENC_SLIP_COUNTS)))) ∧
  (∀ (s : State) (x sin cos m : Nat) (d : Int), s.encUsed x = true → s.encValid x = true → (s.scale x).seen = true → (s.scale x).fault = 0 → 0 < s.encf x 3 1 →
    m = amplitude (s.corrected x sin cos).1 (s.corrected x sin cos).2 → s.encf x 4 2 ≤ m → m ≤ s.encf x 6 2 →
    d = phaseStep (s.scale x).phase (phaseOf (s.corrected x sin cos).1 (s.corrected x sin cos).2) → -1024 ≤ d → d ≤ 1024 →
    Runs (.encoderSample x sin cos) s (fun t => t.get .ENC_POS_COUNTS 0 x = ofSigned Fld.ENC_POS_COUNTS.desc.width (s.encPos x + d))) ∧
  (∀ (s : State) (x sin cos : Nat), s.encUsed x = true → s.encValid x = false →
    Runs (.encoderSample x sin cos) s (fun t => t.encPos x = s.encPos x)) ∧
  (∀ (s : State) (x sin cos m : Nat), s.encUsed x = true → (s.scale x).seen = true → (s.scale x).fault = 0 → (s.scale x).faulted = false →
    m = amplitude (s.corrected x sin cos).1 (s.corrected x sin cos).2 → m < s.encf x 4 2 → s.encf x 3 1 ≤ (s.scale x).bad + 1 →
    -1024 ≤ phaseStep (s.scale x).phase (phaseOf (s.corrected x sin cos).1 (s.corrected x sin cos).2) →
    phaseStep (s.scale x).phase (phaseOf (s.corrected x sin cos).1 (s.corrected x sin cos).2) ≤ 1024 →
    Runs (.encoderSample x sin cos) s (fun t => (t.scale x).fault = 1 ∧ (t.scale x).bad = (s.scale x).bad + 1 ∧ t.encPos x = s.encPos x)) ∧
  (∀ (s : State) (x : Nat), s.encUsed x = true → s.encValid x = true →
    (s.encf x 0x1E 2 : Int) ≤ (if bit (s.get .ENC_STATUS_DIR) x then (s.scale x).far - s.encPos x else s.encPos x - (s.scale x).far) →
    Runs (.encDirChange x) s (fun t => bit (t.get .ENC_STATUS_DIR) x = !bit (s.get .ENC_STATUS_DIR) x ∧ bit (t.get .ENC_EVENT_DIR_CHG) x = true ∧
      t.encPos x = s.encPos x ∧ t = { s with regs := t.regs, scales := t.scales, outbox := t.outbox, msixPend := t.msixPend }))

/-- R201-R203, R216, R235: what arrives on the trigger bus, the application of the oldest line event, and COMP and TRIM. -/
def Obligations.LineEvents : Prop :=
  (∀ (s : State) (f : Nat), s.is .BAR_STATUS_MEASURE = false → (frameCrcOk f = false ∨ frameType f = 0 ∨ 3 < frameType f) →
    Runs (.badTriggerFrame f) s (fun t => OnlyRegs s t (fun f i k => f = .FIRE_MISSED_COUNT ∧ i = 0 ∧ k = 0) ∧
      t.get .FIRE_MISSED_COUNT = min (s.get .FIRE_MISSED_COUNT + 1) (2 ^ Fld.FIRE_MISSED_COUNT.desc.width - 1))) ∧
  (∀ (s : State) (f r k : Nat), s.frameOk 1 f = true → k ≤ 3 → framePayload f = (s.seq.expect + k) % 2 ^ 32 →
    Runs (.lineEventFrame f r) s (fun t => t.seq = { s.seq with expect := s.seq.expect + k + 1, events := s.seq.events ++ [(s.seq.expect + k, r, k)] } ∧
      OnlyRegs { s with seq := t.seq } t (fun f i k => f = .ENC_DR_LINES ∧ i = 0 ∧ k = 0) ∧
      t.get .ENC_DR_LINES = (if s.is .ENC_STATUS_DR then min (s.get .ENC_DR_LINES + 1) (2 ^ Fld.ENC_DR_LINES.desc.width - 1) else s.get .ENC_DR_LINES))) ∧
  (∀ (s : State) (f r : Nat), s.frameOk 1 f = true → 3 < (framePayload f + 2 ^ 32 - s.seq.expect % 2 ^ 32) % 2 ^ 32 →
    Runs (.lineEventFrame f r) s (fun t => t.is .FIRE_STATUS_WITHHELD = true ∧ t.is .BAR_HOLD_RESYNC = true ∧
      t.get .BAR_RESYNC_COUNT = min (s.get .BAR_RESYNC_COUNT + 1) (2 ^ Fld.BAR_RESYNC_COUNT.desc.width - 1) ∧ t.seq = { s.seq with expect := adoptLine s.seq.expect (framePayload f) + 1, adopted := adoptLine s.seq.expect (framePayload f), events := s.seq.events ++ [(adoptLine s.seq.expect (framePayload f), r, 0)] } ∧
      t = { s with regs := t.regs, seq := t.seq, coverage := t.coverage, outbox := t.outbox, msixPend := t.msixPend })) ∧
  (∀ (s : State) (f : Nat), s.frameOk 3 f = true → 0 < s.seq.expect → framePayload f / 2 ^ 24 = (s.seq.expect - 1) % 256 →
    Runs (.stopDistanceFrame f) s (fun t => t.get .MOT_STOPDIST_LINES = framePayload f % 2 ^ 24 % 2 ^ Fld.MOT_STOPDIST_LINES.desc.width ∧
      t.seq.dists.head? = some (s.seq.expect - 1, framePayload f % 2 ^ 24) ∧ t = { s with regs := t.regs, seq := { s.seq with dists := t.seq.dists } })) ∧
  (∀ (s : State) (y r m : Nat) (l : List (Nat × Nat × Nat)), s.clocked = true → s.seq.events = (y, r, m) :: l →
    Runs .lineEventApply s (fun t => t.seq.next = y + 1 ∧ t.seq.events = l ∧ t.seq.latest = r + 128 * s.get .FIRE_TRIG_LAT - s.seq.comp ∧
      t.get .FIRE_LINE_LINE = y % 2 ^ Fld.FIRE_LINE_LINE.desc.width ∧ t.dram = s.dram ∧ t.kiln = s.kiln)) ∧
  (∀ s : State, s.clocked = false → Runs .lineEventApply s (fun t => t = s)) ∧
  (∀ s : State, s.is .FIRE_STATUS_WITHHELD = true → s.seq.adopted < s.seq.next → s.resyncAt s.seq.next = some s.seq.next →
    Runs .withheldResync s (fun t => t.is .FIRE_STATUS_WITHHELD = false ∧ t.is .BAR_HOLD_RESYNC = false ∧
      t.outbox.head? = some (.wort "resynchronised" [s.seq.next]) ∧
      t = { s with regs := t.regs, coverage := t.coverage, outbox := t.outbox, msixPend := t.msixPend })) ∧
  (∀ (s : State) (v : Nat), s.reachable .sequencer 0 = true → v < 65536 → v ≤ (s.get .FIRE_TRIG_LAT - 100) * 128 →
    Runs (.fireTrigCompWrite v) s (fun t => OnlyRegs s t (fun f i k => f = .FIRE_TRIG_COMP ∧ i = 0 ∧ k = 0) ∧
      t.get .FIRE_TRIG_COMP = v % 2 ^ Fld.FIRE_TRIG_COMP.desc.width)) ∧
  (∀ (s : State) (v : Nat), s.reachable .sequencer 0 = true → v < 65536 → (s.get .FIRE_TRIG_LAT - 100) * 128 < v →
    Runs (.fireTrigCompWrite v) s (fun t => OnlyRegs s t (fun f i k => f = .FIRE_TRIG_ERR ∧ i = 0 ∧ k = 0) ∧ t.is .FIRE_TRIG_ERR = true)) ∧
  (∀ (s : State) (c v : Nat) (k : Seal), c < 64 → s.reachable .headPort c = true → s.portsRun = true → s.kiln = some k → kilnUses k.payload c = true →
    v < 4096 → kilnCeil k.payload c < v →
    Runs (.fireChTrimWrite c v) s (fun t => OnlyRegs s t (fun f i k => f = .FIRE_CH_TRIM_REFUSED ∧ i = c ∧ k = 0) ∧
      t.is .FIRE_CH_TRIM_REFUSED c = true)) ∧
  (∀ (s : State) (c v : Nat), c < 64 → s.reachable .headPort c = true → s.portsRun = true → v < 4096 →
    (∀ k, s.kiln = some k → kilnUses k.payload c = true → v ≤ kilnCeil k.payload c) →
    Runs (.fireChTrimWrite c v) s (fun t => OnlyRegs s t (fun f i k => (f = .FIRE_CH_TRIM_CODE ∨ f = .FIRE_CH_TRIM_BUSY) ∧ i = c ∧ k = 0) ∧
      t.get .FIRE_CH_TRIM_CODE c = v % 2 ^ Fld.FIRE_CH_TRIM_CODE.desc.width ∧ t.is .FIRE_CH_TRIM_BUSY c = decide (s.get .FIRE_CH_TRIM_APPLIED c ≠ v)))

/-- R206, R208-R212, R225, R227, R448: one channel's line from the grant buffer to its strobes, and the acceptance of a FIRE_COMMIT. -/
def Obligations.LinesFired : Prop :=
  (∀ (s : State) (d : Desc) (u : Setup) (h y : Nat), Accepts s d 0x0301 [(0x10, 2), (0x12, 2), (0x14, 2), (0x16, 1), (0x17, 1), (0x18, 8)] →
    u = { strobe := d.p 0x10 2, gap := d.p 0x12 2, dead := d.p 0x14 2, conc := d.p 0x16 1, smax := d.p 0x17 1 } → s.commitOk u = true →
    s.is .FIRE_STATUS_COMMIT_PENDING = false → s.seq.commit = none → s.hasSect 0x0032 = true →
    (∀ x ∈ s.sets, x.has 0x0032 0 = true → x.applied.contains (sectKey 0x0032 0) = true) → h = (s.started d 0x0301).1 →
    y = max (d.p 0x18 8) (s.seq.next + 2) →
    Runs (.fireCommit d) s (fun t => t.seq = { s.seq with commit := some (h, u) } ∧
      t.is .FIRE_STATUS_COMMIT_PENDING = true ∧ t.get .FIRE_APPLY_LINE_LINE = y % 2 ^ Fld.FIRE_APPLY_LINE_LINE.desc.width ∧
      t.get .FIRE_TIMING_STROBE = s.get .FIRE_TIMING_STROBE ∧ ∃ u, t = State.report u h stAccepted false (y % 2 ^ 32) 0 ∧ u.hostMem = s.hostMem)) ∧
  (∀ (s : State) (c y : Nat) (l : Line × Bool), y = s.nextLine c → s.grantLine c y = some l → s.takes c = true →
    (∀ p ∈ (s.chan c).preps, p.no ≠ y) → (s.chan c).taken ≤ y → s.fireHeld y = false → s.is .FIRE_STATUS_RUNNING = true →
    Runs (.lineTake c (s.chan c).lastF) s (fun t => t = (s.testCommit y).prepare c y l false (s.chan c).lastF ∧
      (t.chan c).taken = y + 1 ∧ (∃ p ∈ (t.chan c).preps, p.no = y ∧ p.rest = false ∧ p.stock = l.2 ∧ p.bad = l.1.bad) ∧
      (∀ n, n ≠ c → t.chan n = s.chan n) ∧ t = { s with regs := t.regs, seq := t.seq, chans := t.chans, outbox := t.outbox })) ∧
  (∀ (s : State) (c a y : Nat) (l : Line × Bool), a / 128 = s.now → y = (s.firstLine c).1 → s.grantLine c y = some l → s.takes c = true →
    (∀ p ∈ (s.chan c).preps, p.no ≠ y) → s.axStopped = true → s.fireHeld y = false →
    Runs (.firstLinePrepare c a) s (fun t => t = (s.testCommit y).prepare c y l true a ∧
      (t.chan c).taken = y + 1 ∧ (∃ p ∈ (t.chan c).preps, p.no = y ∧ p.rest = true ∧ p.bad = l.1.bad) ∧
      (∀ n, n ≠ c → t.chan n = s.chan n) ∧ t = { s with regs := t.regs, seq := t.seq, chans := t.chans, outbox := t.outbox })) ∧
  (∀ (s : State) (c a y : Nat) (l : Line × Bool) (p : Prep), a / 128 = s.now → s.firstLine c = (y, none) → s.grantLine c y = some l → s.takes c = true →
    (s.chan c).preps.find? (fun p => p.no == y) = some p → p.rest = true → bit (s.get .MOT_STATUS_MOVING) 0 = false →
    s.bridgeDue c y = true → s.fireHeld y = false →
    Runs (.firstLinePrepare c a) s (fun t => t = (s.testCommit y).prepare c y l true a)) ∧
  (∀ (s : State) (c y f : Nat) (l : List (Nat × Nat)) (p : Prep), s.clocked = true → (s.chan c).due = (y, f) :: l →
    (s.chan c).preps.find? (fun p => p.no == y) = some p → s.kiln.isSome = true → p.bad = false → s.fireOk c = true →
    tooSoon (s.chan c).firing p f = false →
    Runs (.lineFire c) s (fun t => (t.chan c).firing = some { no := y, codes := p.codes, setup := p.setup, geom := p.geom, f := f, begun := 0 } ∧
      (t.chan c).due = l ∧ (t.chan c).reached = max (s.chan c).reached (y + 1) ∧
      t.get .FIRE_CH_LINES_COUNT c = (s.get .FIRE_CH_LINES_COUNT c + 1) % 2 ^ Fld.FIRE_CH_LINES_COUNT.desc.width ∧
      (∀ n, n ≠ c → t.chan n = s.chan n) ∧ t.hostMem = s.hostMem)) ∧
  (∀ (s : State) (c y f : Nat) (l : List (Nat × Nat)), s.clocked = true → (s.chan c).due = (y, f) :: l →
    (s.chan c).preps.find? (fun p => p.no == y) = none → s.outOfPrint c = false → s.is .FIRE_STATUS_WITHHELD = false →
    Runs (.lineFire c) s (fun t => (t.chan c).firing = (s.chan c).firing ∧ (t.chan c).due = l ∧
      t.get .FIRE_CH_DROPPED_COUNT c = min (s.get .FIRE_CH_DROPPED_COUNT c + 1) (2 ^ Fld.FIRE_CH_DROPPED_COUNT.desc.width - 1) ∧
      t.get .FIRE_CH_LINES_COUNT c = s.get .FIRE_CH_LINES_COUNT c)) ∧
  (∀ (s : State) (c y f : Nat) (l : List (Nat × Nat)) (p : Prep), s.clocked = true → (s.chan c).due = (y, f) :: l →
    (s.chan c).preps.find? (fun p => p.no == y) = some p → s.kiln = none → p.stock = true →
    Runs (.lineFire c) s (fun t => (t.chan c).firing = (s.chan c).firing ∧ (t.chan c).due = l ∧
      t.get .KILN_UNSEALED_COUNT = min (s.get .KILN_UNSEALED_COUNT + 1) (2 ^ Fld.KILN_UNSEALED_COUNT.desc.width - 1) ∧ t.get .FIRE_CH_LINES_COUNT c = s.get .FIRE_CH_LINES_COUNT c)) ∧
  (∀ (s : State) (c y f : Nat) (l : List (Nat × Nat)) (p : Prep), s.clocked = true → (s.chan c).due = (y, f) :: l →
    (s.chan c).preps.find? (fun p => p.no == y) = some p → s.kiln.isSome = true → p.bad = false → s.fireOk c = true →
    tooSoon (s.chan c).firing p f = true →
    Runs (.lineFire c) s (fun t => (t.chan c).firing = (s.chan c).firing ∧ (t.chan c).due = l ∧
      t.get .FIRE_CH_DROPPED_COUNT c = min (s.get .FIRE_CH_DROPPED_COUNT c + 1) (2 ^ Fld.FIRE_CH_DROPPED_COUNT.desc.width - 1) ∧ t.get .FIRE_CH_LINES_COUNT c = s.get .FIRE_CH_LINES_COUNT c)) ∧
  (∀ (s : State) (c : Nat) (f : Firing), s.clocked = true → (s.chan c).firing = some f → f.begun < slotsOf f.setup.conc * f.setup.smax →
    s.fireOk c = true → f.nozzles (f.begun / f.setup.smax) (f.begun % f.setup.smax + 1) ≠ [] →
    Runs (.strobeStart c) s (fun t => (t.chan c).firing = some { f with begun := f.begun + 1, sent := true, lit := f.f + 128 * f.setup.strobeAt (f.begun / f.setup.smax) (f.begun % f.setup.smax + 1) + 128 * f.setup.strobe } ∧
      .pin "FIRE_N" c f.setup.strobe ∈ t.outbox ∧
      (∀ n, n ≠ c → t.chan n = s.chan n) ∧ t.hostMem = s.hostMem ∧ t.kiln = s.kiln)) ∧
  (∀ (s : State) (c : Nat) (f : Firing), s.clocked = true → (s.chan c).firing = some f → f.begun < slotsOf f.setup.conc * f.setup.smax →
    s.fireOk c = false →
    Runs (.strobeStart c) s (fun t => (t.chan c).firing = some { f with begun := f.begun + 1 } ∧ t.outbox = s.outbox ∧ t.shots = s.shots)) ∧
  (∀ (s : State) (c : Nat), s.clocked = false → Runs (.lineFire c) s (fun t => t = s) ∧ Runs (.strobeStart c) s (fun t => t = s))

/-- R293-R305: the commands of the Sight Glass. -/
def Obligations.SightGlass : Prop :=
  (∀ (s : State) (x : Nat) (codes : List Nat), s.powered 123 = true → s.hasSect 0x0043 0 = true →
    Runs (.senseSample x codes) s (fun t => (∀ c, c < 64 →
        (bit (fieldAt (s.sgBlock c) 0 1) 0 = true → (t.sense c).code = min 4095 (codes.getD c 0)) ∧
        (bit (fieldAt (s.sgBlock c) 0 1) 0 = false → t.sense c = s.sense c)) ∧ t.hostMem = s.hostMem ∧ t.dram = s.dram ∧ t.chans = s.chans)) ∧
  (∀ (s : State) (c : Nat), c < 64 → s.powered 123 = true → s.fenced 9 c = false → 4096 ≤ (s.sense c).sat →
    Runs (.senseChannelFault c) s (fun t => t = (s.fenceSense c causeSense).on .SG_VIOL_SENSE_FAULT 0 c ∧ t.fenced 9 c = true ∧
      t.is .SG_VIOL_SENSE_FAULT 0 c = true)) ∧
  (∀ (s : State) (c kind point j x : Nat) (stop : Bool), (s.sense c).due = some (kind, point, j, x, stop) → c < 64 →
    Runs (.maskViolation c) s (fun t => (t.sense c).due = none ∧ t.get .SG_VIOL_RUN 0 c = 0 ∧ t.get .SG_LAST_VIOL_CHANNEL = c % 2 ^ Fld.SG_LAST_VIOL_CHANNEL.desc.width ∧
      t.get .SG_LAST_VIOL_KIND = kind % 2 ^ Fld.SG_LAST_VIOL_KIND.desc.width ∧ t.get .SG_LAST_VIOL_POINT = point % 2 ^ Fld.SG_LAST_VIOL_POINT.desc.width ∧
      t.get .SG_LAST_VIOL_STROBE = j % 2 ^ Fld.SG_LAST_VIOL_STROBE.desc.width ∧ t.get .SG_VIOL_COUNT 0 c = min (s.get .SG_VIOL_COUNT 0 c + 1) (2 ^ Fld.SG_VIOL_COUNT.desc.width - 1) ∧
      (stop = true → t.fenced 1 c = true ∧ t.is .SG_VIOL_STOPPED 0 c = true) ∧
      (stop = false → ∀ k, t.get .FENCE_MAP_UNITS 0 k = s.get .FENCE_MAP_UNITS 0 k))) ∧
  (∀ (s : State) (e : SgEvent) (l : List SgEvent) (c x : Nat), s.powered 123 = true → s.hasSect 0x0043 0 = true → s.sgEvents = e :: l →
    Runs (.sequencerEvent 0 c x) s (fun t => t.hostMem = s.hostMem ∧ t.sgEvents = l ∧ ∀ q, q < 4 → (s.ts q).armed.isSome = true → (s.ts q).trig = none →
      s.meets q e = true → (s.ts q).holdTk = false → (s.ts q).holdEv = 0 →
      ((s.ts q).count + 1 < s.nowf q 4 2 → t.ts q = { s.ts q with count := (s.ts q).count + 1 }) ∧
      (s.nowf q 4 2 ≤ (s.ts q).count + 1 → s.nowf q 2 1 ≠ 0x0F → t.ts q = { s.ts q with state := s.nowf q 2 1, count := 0 }) ∧
      (s.nowf q 4 2 ≤ (s.ts q).count + 1 → s.nowf q 2 1 = 0x0F →
        (t.ts q).trig = some (e.at_, (s.ts q).state, s.clock.stamp, s.lineBefore e.at_)))) ∧
  (∀ (s : State) (c x : Nat), s.powered 123 = true → s.hasSect 0x0043 0 = true → c < 64 → s.sgMode c = 1 →
    Runs (.sequencerEvent 1 c x) s (fun t => t = s.setSense c { s.sense c with comp := true }) ∧
    Runs (.sequencerEvent 2 c x) s (fun t => t = s.setSense c { s.sense c with comp := false })) ∧
  (∀ (s : State) (c x : Nat), s.powered 123 = true → s.hasSect 0x0043 0 = true → c < 64 → s.sgMode c = 0 →
    Runs (.sequencerEvent 1 c x) s (fun t => (t.sense c).comp = true ∧ t.sgEvents = s.sgEvents ∧
      (1 < (s.sense c).cross → (t.sense c).wait.1 = (s.sense c).wait.1 + 1) ∧ ((s.sense c).cross ≤ 1 → (t.sense c).edges = 0))) ∧
  (∀ (s : State) (q : Nat), (s.ts q).armed.isSome = true → (s.ts q).trig = none → s.nowf q 8 4 ≠ 0 →
    Runs (.sequencerTimeout q) s (fun t => t.ts q = { s.ts q with state := s.nowf q 3 1, count := 0 } ∧ (∀ r, r ≠ q → t.ts r = s.ts r) ∧
      t = { s with tss := t.tss, senses := t.senses })) ∧
  (∀ (s : State) (q : Nat), (s.ts q).armed.isSome = true →
    Runs (.sequencerHoldoffEnd q) s (fun t => t.ts q = { s.ts q with holdTk := false } ∧ (∀ r, r ≠ q → t.ts r = s.ts r) ∧
      t = { s with tss := t.tss })) ∧
  (∀ (s : State) (m : Nat), s.reachable .sightGlass 0 = true → s.tss.any (fun x => x.2.armed.isSome) = true →
    Runs (.sgForce m) s (fun t => t = { s with sgEvents := t.sgEvents } ∧ t.sgEvents = s.sgEvents ++
      ((List.range 4).filter (bit m)).map (fun q => { cond := 10, arg := q, at_ := 128 * s.now, only := q + 1 }))) ∧
  (∀ (s : State) (m : Nat), s.reachable .sightGlass 0 = true →
    Runs (.sgDisarm m) s (fun t => ∀ q, q < 4 → t.ts q = if bit m q ∧ (s.ts q).armed.isSome then {} else s.ts q)) ∧
  (∀ (s : State) (d : Desc) (q h : Nat), Accepts s d 0x0601 [(0x10, 1), (0x12, 2), (0x14, 4), (0x18, 8), (0x20, 4), (0x24, 2), (0x28, 4)] →
    q = d.p 0x10 1 → q ≤ 3 → 1 ≤ d.p 0x12 2 → d.p 0x12 2 ≤ 4096 → 1 ≤ d.p 0x14 4 → d.p 0x14 4 ≤ 32768 → d.p 0x20 4 ≤ d.p 0x14 4 →
    d.p 0x18 8 ≠ 0 → s.sf 0x0043 0 (sgSeq q) 1 ≠ 0 →
    (∀ c, c < 64 → bit (d.p 0x18 8) c = true → s.fenced 9 c = false ∧ bit (fieldAt (s.sgBlock c) 0 1) 0 = true) →
    (∀ r, r < 4 → (s.ts r).armed = none) → h = (s.startedLong d 0x0601).1 →
    Runs (.sgArm d) s (fun t => (t.ts q).armed = some h ∧ (t.ts q).mask = d.p 0x18 8 ∧ (t.ts q).record = d.p 0x14 4 ∧ (t.ts q).pre = d.p 0x20 4 ∧
      (t.ts q).decim = d.p 0x12 2 ∧ (t.ts q).state = 0 ∧ (t.ts q).trig = none ∧ bit (t.get .SG_STATUS_ARMED) q = true ∧
      (∀ r, r ≠ q → t.ts r = s.ts r))) ∧
  (∀ (s : State) (q h x n : Nat) (r : Nat × Nat × Nat), (s.ts q).armed = some h → (s.ts q).trig = some (x, n, r) → q < 4 →
    max 1 ((s.ts q).record - (s.ts q).pre) ≤ ((s.ts q).split x).2.length →
    Runs (.captureComplete q) s (fun t => (t.ts q).armed = none ∧ (t.ts q).ready.isSome = true ∧ bit (t.get .SG_STATUS_ARMED) q = false ∧
      bit (t.get .SG_STATUS_RECORD) q = true ∧ (∀ r, r ≠ q → t.ts r = s.ts r) ∧ ∃ u, t = State.finish u h stDone n 0 ∧ u.hostMem = s.hostMem)) ∧
  (∀ (s : State) (d : Desc) (q h x : Nat) (w : List (List Nat)), Accepts s d 0x0602 [(0x10, 1), (0x14, 4), (0x18, 4), (0x20, 8)] →
    q = d.p 0x10 1 → q ≤ 3 → d.p 0x20 8 % 64 = 0 → (s.ts q).ready = some (x, w) → d.p 0x14 4 ≠ 0 → d.p 0x18 4 + d.p 0x14 4 ≤ (s.ts q).record →
    h = (s.startedLong d 0x0602).1 →
    Runs (.sgRead d) s (fun t => t = State.done { (s.startedLong d 0x0602).2 with hostMem := Memory.wrs (s.startedLong d 0x0602).2.hostMem (d.p 0x20 8) (sgHeader q (s.ts q) (d.p 0x18 4) (d.p 0x14 4) ++ (List.range (popcount 64 (s.ts q).mask)).flatMap (fun c => ((w.drop (d.p 0x18 4)).take (d.p 0x14 4)).flatMap (fun z => leBytes 2 (z.getD c 0)))) } h)) ∧
  (∀ (s : State) (g y o : Nat), s.is .FIRE_STATUS_OWNER = true → g < 16 → s.busQueue.length < 16 →
    Runs (.busTriggerForward g y o) s (fun t => t = { s with busQueue := s.busQueue ++ [(g, y, o)] })) ∧
  (∀ (s : State) (g y o : Nat), s.is .FIRE_STATUS_OWNER = true → g < 16 → 16 ≤ s.busQueue.length →
    Runs (.busTriggerForward g y o) s (fun t => OnlyRegs s t (fun f i k => f = .SG_BUS_QDROP ∧ i = 0 ∧ k = 0) ∧ t.get .SG_BUS_QDROP = min (s.get .SG_BUS_QDROP + 1) (2 ^ Fld.SG_BUS_QDROP.desc.width - 1))) ∧
  (∀ (s : State) (g y o : Nat) (e : Nat × Nat × Nat) (l : List (Nat × Nat × Nat)), s.is .FIRE_STATUS_OWNER = false → s.busFwd = e :: l →
    Runs (.busTriggerForward g y o) s (fun t => t = State.out { s with busFwd := l } (.wort "busTrigger" [e.1, e.2.1, e.2.2]))) ∧
  (∀ (s : State) (f r : Nat), s.frameOk 2 f = true → s.powered 123 = true →
    Runs (.sgBusTriggerFrame f r) s (fun t => t.get .SG_BUS_RX = min (s.get .SG_BUS_RX + 1) (2 ^ Fld.SG_BUS_RX.desc.width - 1) ∧ t = { s with regs := t.regs, sgEvents := t.sgEvents } ∧
      (s.tss.any (fun x => x.2.armed.isSome) = true → t.sgEvents = s.sgEvents ++ [{ cond := 8, arg := framePayload f / 2 ^ 28, at_ := r - s.seq.comp - framePayload f % 2 ^ 24 }])))

/-- R128, R229, R230, R233, R234, R236-R239: axes at work. That the rate after a step is the one the profile gives is log entry 59. -/
def Obligations.Axes : Prop :=
  (∀ (s : State) (d : Desc) (a h v : Nat), Accepts s d 0x0401 [(0x10, 1), (0x14, 4), (0x18, 8), (0x20, 4)] → a = d.p 0x10 1 → v = d.p 0x20 4 →
    s.motRange d = true → s.badSpeed a v = false → d.p 0x14 4 ≠ 0 → d.p 0x18 8 ≠ 0 → s.fenced 8 a = false → s.moving' a = false →
    s.limitOn a (decide (0 ≤ toSigned 64 (d.p 0x18 8))) = false →
    (a = 0 → s.is .MOT_STATUS_OWN = true ∧ s.conflict = false ∧ s.is .MOT_STATUS_JOB = false ∧ s.phase = 0) → h = (s.startedLong d 0x0401).1 →
    Runs (.motMove d) s (fun t => t.moving' a = true ∧ t.forward a = decide (0 < toSigned 64 (d.p 0x18 8)) ∧
      t.axis a = { s.axis a with mode := 1, target := s.axPos a + toSigned 64 (d.p 0x18 8) * (s.mf a 0 4 : Nat), start := s.axPos a, stopAt := some (s.axPos a + toSigned 64 (d.p 0x18 8) * (s.mf a 0 4 : Nat)), v2 := Machine.sq (s.mf a 4 4), cruise := v * s.mf a 0 4, aim := v * s.mf a 0 4, changes := [], moveOp := some h } ∧
      t.axPos a = s.axPos a ∧ t.get .MOT_SPEED_RATE 0 a = s.mf a 4 4 % 2 ^ Fld.MOT_SPEED_RATE.desc.width ∧
      (∀ b, b ≠ a → t.axis b = s.axis b))) ∧
  (∀ (s : State) (d : Desc) (a h v : Nat), Accepts s d 0x0402 [(0x10, 1), (0x14, 4), (0x20, 4)] → a = d.p 0x10 1 → v = d.p 0x20 4 →
    s.motRange d = true → s.badSpeed a v = false → d.p 0x14 4 ≠ 0 → s.fenced 8 a = false → (s.moving' a = true ∨ s.limitOn a true = false) →
    (a = 0 → s.is .MOT_STATUS_OWN = true ∧ s.conflict = false) → h = (s.startedLong d 0x0402).1 →
    Runs (.motSpeed d) s (fun t => t = (s.startedLong d 0x0402).2.setSpeed a h (v * s.mf a 0 4) ∧
      (s.moving' a = true → (s.axis a).mode ≠ 3 → (a = 0 → s.phase = 0) →
        t.axis a = { s.axis a with speedOp := some h, aim := v * s.mf a 0 4, changes := (s.axis a).changes ++ [(s.firstAfter a, v * s.mf a 0 4)] }) ∧
      (s.moving' a = true → (s.axis a).mode = 3 → (a = 0 → s.phase = 0) → (t.axis a).next = some (h, v * s.mf a 0 4)) ∧
      (s.moving' a = false → a ≠ 0 → (s.axis a).mode ≠ 3 → t.moving' a = true ∧ t.forward a = true ∧ (t.axis a).mode = 2 ∧
        (t.axis a).cruise = v * s.mf a 0 4))) ∧
  (∀ (s : State) (d : Desc) (a h : Nat), Accepts s d 0x0403 [(0x10, 1), (0x11, 1)] → a = d.p 0x10 1 → a ≤ 3 → d.p 0x11 1 ≤ 1 →
    s.axUsed a = true → s.fenced 8 a = false → (a = 0 → s.is .MOT_STATUS_OWN = true) → h = (s.startedLong d 0x0403).1 →
    Runs (.motStop d) s (fun t => t = (s.startedLong d 0x0403).2.motStop a h (d.p 0x11 1) ∧
      (d.p 0x11 1 = 1 → t.moving' a = false) ∧
      (d.p 0x11 1 = 0 → s.moving' a = true → (a = 0 → s.phase = 0) → (t.axis a).mode = 3 ∧ h ∈ (t.axis a).stopOps))) ∧
  (∀ (s : State) (a r : Nat), a < 4 → s.moving' a = true → s.atStop a = false → (a = 0 → s.drives = true) →
    s.get .RST_STRAPS_CLK_MODE ≠ 0 → Machine.sq r ≤ s.speedAt a 1 → s.speedAt a 1 < Machine.sq (r + 1) →
    Runs (.stepIssue a r) s (fun t => t.get .MOT_POS_STEPS 0 a = ofSigned Fld.MOT_POS_STEPS.desc.width (s.axPos a + if s.forward a then 1 else -1) ∧
      t.get .MOT_SPEED_RATE 0 a = r % 2 ^ Fld.MOT_SPEED_RATE.desc.width ∧ (t.axis a).v2 = s.speedAt a 1 ∧
      .pin "AX_STEP_N" a (s.mf a 0x2C 2) ∈ t.outbox ∧
      (∀ b, b ≠ a → t.axPos b = s.axPos b ∧ t.axis b = s.axis b) ∧ t = { s with regs := t.regs, axes := t.axes, outbox := t.outbox })) ∧
  (∀ (s : State) (a : Nat), a < 4 → s.moving' a = true → ((s.axis a).mode = 1 ∨ (s.axis a).mode = 3) → s.atStop a = true → (s.axis a).next = none →
    (a = 0 → s.is .MOT_STATUS_OWN = true ∧ s.phase ≠ 1) →
    Runs (.axisAtRest a) s (fun t => t.moving' a = false ∧ t.get .MOT_SPEED_RATE 0 a = 0 ∧ t.axPos a = s.axPos a ∧
      (t.axis a).moveOp = none ∧ (t.axis a).speedOp = none ∧ (t.axis a).stopOps = [] ∧ (t.axis a).mode = 0)) ∧
  (∀ s : State, s.is .MOT_STATUS_OWN = false →
    Runs (.axisAtRest 0) s (fun t => t = (s.off .FIRE_STATUS_RUNNING).closeJob ∧ t.is .FIRE_STATUS_RUNNING = false ∧ t.axes = s.axes)) ∧
  (∀ (s : State) (a h : Nat), (s.axis a).speedOp = some h → ((s.axis a).mode = 1 ∨ (s.axis a).mode = 2) → (s.axis a).changes = [] →
    (s.axis a).v2 = Machine.sq (s.axis a).cruise → (a = 0 → s.phase = 0) →
    Runs (.cruiseReached a) s (fun t => t = State.done (s.setAxis a { s.axis a with speedOp := none }) h)) ∧
  (∀ (s : State) (a : Nat) (fwd on : Bool), a < 4 →
    Runs (.limitInput a fwd on) s (fun t => bit (t.get (if fwd then .MOT_INPUTS_LIMB else .MOT_INPUTS_LIMA)) a = on)) ∧
  (∀ (s : State) (a : Nat) (fwd : Bool), a < 4 → s.moving' a = true → s.forward a = fwd →
    (if fwd then s.mf a 0x2B 1 else s.mf a 0x2A 1) = 1 →
    Runs (.limitInput a fwd true) s (fun t => t.moving' a = false ∧ bit (t.get .MOT_STATUS_HELD) a = true ∧
      bit (t.get .MOT_INPUTS_LATCH) (if fwd then a + 4 else a) = true)) ∧
  (∀ (s : State) (a : Nat) (fwd : Bool), a < 4 → s.moving' a = true → s.forward a = fwd →
    (if fwd then s.mf a 0x2B 1 else s.mf a 0x2A 1) = 2 →
    Runs (.limitInput a fwd true) s (fun t => t.moving' a = true ∧ (t.axis a).mode = 3 ∧ bit (t.get .MOT_STATUS_HELD) a = true ∧
      bit (t.get .MOT_INPUTS_LATCH) (if fwd then a + 4 else a) = true)) ∧
  (∀ s : State, s.is .MOT_INPUTS_BREAK = false →
    Runs (.webBreak true) s (fun t => t.is .MOT_INPUTS_BREAK = true ∧ t.is .MOT_INPUTS_BREAK_SEEN = true ∧
      ∀ a, a < 4 → bit (s.sf 0x0050 0 2 1) a = true → t.moving' a = false)) ∧
  (∀ s : State, Runs (.webBreak false) s (fun t => OnlyRegs s t (fun f i k => f = .MOT_INPUTS_BREAK ∧ i = 0 ∧ k = 0) ∧
    t.is .MOT_INPUTS_BREAK = false)) ∧
  (∀ s : State, s.is .MOT_INPUTS_SPLICE = false →
    Runs (.splice true) s (fun t => t.is .MOT_INPUTS_SPLICE = true ∧ t.is .MOT_INPUTS_SPLICE_SEEN = true ∧
      t.get .MOT_SPLICE_LINE_LINE = s.get .FIRE_LINE_LINE % 2 ^ Fld.MOT_SPLICE_LINE_LINE.desc.width ∧ (s.sf 0x0050 0 1 1 ≠ 1 → t.axes = s.axes))) ∧
  (∀ (s : State) (n : Nat), s.jobEnds.head? = some n → s.is .MOT_STATUS_OWN = true → s.moving' 0 = true → s.forward 0 = true →
    s.line.live = true → (s.axis 0).mode = 2 → s.phase = 0 → s.lastDue n = true →
    Runs .jobEndStop s (fun t => t = { s.planLast n with line := { (s.planLast n).line with jobStop := true, turn := true } } ∧ (t.axis 0).mode = 3))

/-- R26, R199, R200, R240-R244, R248, R250-R252: AX0 while lines are raised, in a backstep and without its encoder. -/
def Obligations.BackstepAndFaults : Prop :=
  (∀ (s : State) (r y : Nat), y = s.lineDue → s.mayRaise y = true →
    Runs (.lineEventRaise r) s (fun t => t.line.raised = y + 1 ∧ .bus "frame" [mkFrame 1 y] ∈ t.outbox ∧
      .bus "frame" [mkFrame 3 (y % 256 * 2 ^ 24 + s.dStop)] ∈ t.outbox ∧
      t.get .MOT_STOPDIST_LINES = s.dStop % 2 ^ Fld.MOT_STOPDIST_LINES.desc.width ∧ t.chans = s.chans ∧ t.hostMem = s.hostMem)) ∧
  (∀ s : State, s.is .FIRE_STATUS_SLAVED = true → 64 ≤ s.seq.within →
    Runs .slavedModeExit s (fun t => OnlyRegs s t (fun f i k => f = .FIRE_STATUS_SLAVED ∧ i = 0 ∧ k = 0) ∧ t.is .FIRE_STATUS_SLAVED = false)) ∧
  (∀ (s : State) (k y : Nat) (new : Bool), s.is .MOT_STATUS_OWN = true → new = !decide (1 ≤ s.phase ∧ s.phase ≤ 4) →
    Runs (.dataLateReport k y) s (fun t => t = { s with lateDue := s.lateDue.filter (· != (k, y)), line := { s.line with late := insNat s.line.late k, due := s.line.due || new, blame := if new && k != archiveSlot && s.line.blame.isNone then some y else s.line.blame } })) ∧
  (∀ (s : State) (k y : Nat), s.is .MOT_STATUS_OWN = false →
    (s.lateDue.contains (k, y) = true ∨ s.role = roleBar ∨ s.role = rolePress) →
    Runs (.dataLateReport k y) s (fun t => t = { s with lateDue := s.lateDue.filter (· != (k, y)), outbox := .wort "dataLate" [k, y] :: s.outbox })) ∧
  (∀ s : State, s.is .MOT_STATUS_OWN = true → s.moving' 0 = true → s.forward 0 = true → s.line.due = true →
    ((s.phase = 0 ∧ ((s.axis 0).mode = 2 ∨ (s.axis 0).mode = 3 ∧ s.line.turn = true)) ∨ s.phase = 5 ∨ s.phase = 6) →
    Runs .backstepStart s (fun t => t.phase = 1 ∧ (t.axis 0).mode = 3 ∧ t.line.due = false ∧ t.line.blame = none ∧ t.line.counted = true ∧
      t.line.jobStop = false ∧ t.line.turn = false ∧ t.line.late = s.line.late ∧
      (s.line.blame = none → t.pages = s.pages) ∧ (∀ y, s.line.blame = some y → t.pages = (s.blamePage y).pages))) ∧
  (∀ (s : State) (x : ChangeSet) (d : Nat), s.setLines.find? (fun e => (e.2.map Prod.snd) == some 4 && !e.1.allSwitched) = some (x, some (d, 4)) →
    s.is .MOT_STATUS_OWN = true → s.moving' 0 = true → s.forward 0 = true → s.line.live = true → (s.axis 0).mode = 2 → s.phase = 0 →
    (x.line.isSome = true ∨ s.fwAway = false) → s.lastDue d = true → (∀ z ∈ s.sets, z.handle = x.handle → s.kilnClash z = false) →
    Runs .backstepAssistedApply s (fun t => t.phase = 1 ∧ t.line.assisted = some d ∧ (t.axis 0).mode = 3 ∧
      (x.line = none → ∀ z ∈ t.sets, z.handle = x.handle → z.line = some d ∧ z.rule = 4 ∧ z.final = true))) ∧
  (∀ s : State, s.is .MOT_STATUS_OWN = true → s.phase = 1 → s.atStop 0 = true → s.jobDone = false → s.line.assisted = none →
    Runs .backstepStopped s (fun t => t.is .FIRE_STATUS_RUNNING = false ∧ t.line.pStop = s.axPos 0 ∧
      t.line.pRev = s.lineAt s.unfired - s.runUp 0 (s.axis 0).aim - s.mf 0 0x28 2 * s.stepsPerLine ∧
      t.get .MOT_BS_RESUME_LINE = s.unfired % 2 ^ Fld.MOT_BS_RESUME_LINE.desc.width ∧
      (t.line.pRev ≠ t.line.pStop → s.limitOn 0 (decide (t.line.pStop < t.line.pRev)) = false → t.phase = 3 ∧ t.moving' 0 = true) ∧
      (t.line.pRev ≠ t.line.pStop → s.limitOn 0 (decide (t.line.pStop < t.line.pRev)) = true → t.phase = 0 ∧ t.moving' 0 = false) ∧
      (t.line.pRev = t.line.pStop → t.phase = 4 ∧ t.moving' 0 = false))) ∧
  (∀ (s : State) (d : Nat), s.is .MOT_STATUS_OWN = true → s.phase = 1 → s.atStop 0 = true → s.jobDone = false → s.line.assisted = some d →
    s.line.late = [] → s.unfired = d → s.axPos 0 < s.lineAt d →
    Runs .backstepStopped s (fun t => t.phase = 4 ∧ t.moving' 0 = false ∧ t.line.assisted = some d ∧ t.axPos 0 = s.axPos 0)) ∧
  (∀ s : State, s.is .MOT_STATUS_OWN = true → s.phase = 1 → s.atStop 0 = true → s.jobDone = true →
    Runs .backstepStopped s (fun t => t.phase = 0 ∧ t.moving' 0 = false ∧ t.jobEnds = s.jobEnds.tail ∧ t.line.late = [] ∧ t.line.fired = false)) ∧
  (∀ s : State, s.is .MOT_STATUS_OWN = true → s.phase = 3 → s.atStop 0 = true → s.revFor s.line.raised = s.axPos 0 →
    Runs .backstepPositioned s (fun t => t.phase = 4 ∧ t.moving' 0 = false ∧ (t.axis 0).stopOps = [] ∧ t.axPos 0 = s.axPos 0)) ∧
  (∀ (s : State) (o : Bool), s.is .MOT_STATUS_OWN = true → s.phase = 4 → s.runUpOk o = true → s.line.assisted = none → s.limitOn 0 true = false →
    Runs (.backstepRunUp o) s (fun t => t.phase = 5 ∧ t.moving' 0 = true ∧ t.forward 0 = true ∧ (t.axis 0).mode = 5 ∧
      (t.axis 0).cruise = (s.axis 0).aim ∧ t.axPos 0 = s.axPos 0 ∧ t.line.raised = s.line.raised)) ∧
  (∀ (s : State) (o : Bool) (d : Nat), s.is .MOT_STATUS_OWN = true → s.phase = 4 → s.runUpOk o = true → s.line.assisted = some d →
    Runs (.backstepRunUp o) s (fun t => t.line.y0 = d ∧ t.line.raised = d ∧ t.line.assisted = none ∧
      t.line.p0 = s.axPos 0 + s.runUp 0 (s.axis 0).aim + s.mf 0 0x28 2 * s.stepsPerLine ∧
      t.get .MOT_GAP_LINES = ((t.line.p0 - s.lineAt d) / (s.stepsPerLine : Int)).toNat % 2 ^ Fld.MOT_GAP_LINES.desc.width)) ∧
  (∀ (s : State) (o : Bool), s.phase = 4 → s.runUpOk o = false → Runs (.backstepRunUp o) s (fun t => t = s)) ∧
  (∀ s : State, s.is .MOT_STATUS_OWN = true → s.phase = 5 → (s.axis 0).v2 = Machine.sq (s.axis 0).cruise →
    s.axPos 0 = s.lineAt s.line.raised - s.mf 0 0x28 2 * s.stepsPerLine →
    Runs .backstepSettle s (fun t => OnlyRegs s t (fun f i k => f = .MOT_STATUS_BS_PHASE ∧ i = 0 ∧ k = 0) ∧ t.phase = 6)) ∧
  (∀ s : State, s.is .MOT_STATUS_OWN = true → s.phase = 6 → s.stepDue s.line.raised = true → s.is .ENC_STATUS_DR = true →
    Runs .resumeTest s (fun t => t.phase = 0 ∧ t.get .MOT_BS_COUNT_UNVERIFIED = min (s.get .MOT_BS_COUNT_UNVERIFIED + 1) (2 ^ Fld.MOT_BS_COUNT_UNVERIFIED.desc.width - 1) ∧ t.get .MOT_BS_ERR_SPEED = 0 ∧ t.get .MOT_BS_ERR_POS = 0 ∧
      (t.axis 0).mode = 2 ∧ (s.line.due = false → t.line.late = []) ∧ t.line.live = true ∧
      (s.line.counted = true → t.get .MOT_BS_COUNT_BACKSTEPS = min (s.get .MOT_BS_COUNT_BACKSTEPS + 1) (2 ^ Fld.MOT_BS_COUNT_BACKSTEPS.desc.width - 1)))) ∧
  (∀ (s : State) (v want slip n d : Int), s.is .MOT_STATUS_OWN = true → s.phase = 6 → s.stepDue s.line.raised = true → s.is .ENC_STATUS_DR = false →
    s.is .FIRE_STATUS_SLAVED = false → n = s.encf 0 8 4 → d = s.encf 0 0xC 4 → v = s.geti .ENC_SPEED_RATE 0 0 → want = (s.axis 0).cruise * n →
    slip = s.slipNow → 200 * (v * d - want).natAbs ≤ want.natAbs → 4 * (slip * d).natAbs ≤ (s.stepsPerLine * n).natAbs →
    Runs .resumeTest s (fun t => t.phase = 0 ∧ (t.axis 0).mode = 2 ∧ t.line.fails = 0 ∧ t.line.live = true ∧
      (s.line.counted = true → t.get .MOT_BS_COUNT_BACKSTEPS = min (s.get .MOT_BS_COUNT_BACKSTEPS + 1) (2 ^ Fld.MOT_BS_COUNT_BACKSTEPS.desc.width - 1)))) ∧
  (∀ s : State, s.is .MOT_STATUS_OWN = true → s.phase = 6 → s.stepDue s.line.raised = true → s.is .ENC_STATUS_DR = false →
    s.is .FIRE_STATUS_SLAVED = true →
    Runs .resumeTest s (fun t => t.get .MOT_BS_COUNT_RETRIES = min (s.get .MOT_BS_COUNT_RETRIES + 1) (2 ^ Fld.MOT_BS_COUNT_RETRIES.desc.width - 1) ∧ t.line.fails = s.line.fails + 1 ∧ (s.moving' 0 = true → (t.axis 0).mode = 3) ∧
      t.phase = (if s.line.fails + 1 = 3 then 0 else 1) ∧ (s.line.fails + 1 = 3 → t.is .MOT_STATUS_RESUME_FAIL = true))) ∧
  (∀ (s : State) (x : Nat), s.encUsed x = true → (s.scale x).fault ≠ 0 →
    Runs (.encoderFault x) s (fun t => t.encValid x = false ∧ bit (t.get .ENC_EVENT_FAULT_SEEN) x = true ∧
      t.get .ENC_FAULT_COUNT 0 x = min (s.get .ENC_FAULT_COUNT 0 x + 1) (2 ^ Fld.ENC_FAULT_COUNT.desc.width - 1) ∧ t.get .ENC_FAULT_CAUSE 0 x = (s.scale x).fault % 2 ^ Fld.ENC_FAULT_CAUSE.desc.width ∧
      (t.scale x).fault = 0 ∧ (t.scale x).faulted = true ∧
      (x = 0 → (s.is .MOT_STATUS_OWN = true ∨ s.role = rolePress ∨ s.role = roleTrio) →
        t.is .ENC_STATUS_DR = true ∧ t.get .ENC_DR_LINES = 0 ∧ t.is .FIRE_STATUS_SLAVED = false))) ∧
  (∀ (s : State) (x : Nat), s.encUsed x = true → s.encValid x = false → 4096 ≤ (s.scale x).good →
    Runs (.encoderRecover x) s (fun t => t.encValid x = true ∧ ((s.scale x).faulted = true → bit (t.get .ENC_EVENT_RECOVERED) x = true) ∧
      (x = 0 → t.is .ENC_STATUS_DR = false ∧ (s.is .ENC_STATUS_DR = true → t.line.noSlave = true)))) ∧
  (∀ s : State, s.is .ENC_STATUS_DR = true → s.is .MOT_STATUS_OWN = true → s.line.drOver = false →
    s.line.drBase + s.encf 0 0x14 4 ≤ s.get .ENC_DR_LINES →
    Runs .drLimit s (fun t => t.is .ENC_EVENT_DR_LIMIT = true ∧ t.line.drOver = true ∧ t.is .MOT_STATUS_JOB = s.is .MOT_STATUS_JOB ∧
      (s.moving' 0 = true → s.phase = 0 → (t.axis 0).mode = 3)))

/-- R255, R256, R258-R261, R265, R267, R269, R271, R272: the commands of the camera ports and ISP pipes, and the range of what the stages
give. -/
def Obligations.Cameras : Prop :=
  (∀ (s : State) (x c w : Nat) (l : List (Nat × Nat)), (s.cam x).planned = (c, w) :: l → s.camOn x = true →
    ((s.cam x).next = c ∧ c ≠ 0 ∨ (s.cam x).next = 0 ∧ s.frameOf x c = c) → s.is .ISP_STATUS_PAUSED (s.pipeOf x) = false →
    (s.cam x).trigs.length < 16 →
    Runs (.exposureTrigger x) s (fun t => (t.cam x).planned = l ∧ (t.cam x).next = c + max 1 (s.cf x 2 1) ∧
      (t.cam x).trigs = (s.cam x).trigs ++ [{ line := c, left := 2 ^ s.cf x 1 1 - 1 }] ∧
      t.outbox = .pin "CAM_TRIG_N" x (s.cf x 0xA 2) :: s.outbox ∧ (∀ y, y ≠ x → t.cam y = s.cam y) ∧
      t = { s with cams := t.cams, outbox := t.outbox })) ∧
  (∀ (s : State) (x : Nat) (g : CamTrig) (l : List CamTrig), (s.cam x).trigs = g :: l → s.camOn x = true →
    Runs (.frameLatencyTimeout x) s (fun t => t = (s.setCam x { s.cam x with trigs := l }).loseFrame x (s.frameOf x g.line) 3 ∧
      (t.cam x).trigs = l ∧ ∀ y, y ≠ x → t.cam y = s.cam y)) ∧
  (∀ (s : State) (x n : Nat), s.camOn x = true → s.axStopped = true → s.is .MOT_STATUS_JOB = false → (s.cam x).trigs = [] →
    (s.cam x).planned = [] → (s.cam x).frames = [] → (s.cam x).closing = n + 1 →
    Runs (.jobEndClosingTrigger x) s (fun t => t.cam x = { s.cam x with closing := n, next := if n = 0 then 0 else (s.cam x).next } ∧
      t.outbox = .pin "CAM_TRIG_N" x (s.cf x 0xA 2) :: s.outbox ∧ t = { s with cams := t.cams, outbox := t.outbox })) ∧
  (∀ (s : State) (x : Nat) (up : Bool), x < 8 → s.powered (106 + x) = true →
    Runs (.csiLinkChange x up) s (fun t => OnlyRegs s t (fun f i k => f = .CAM_STATUS_LINK ∧ i = x ∧ k = 0) ∧ t.is .CAM_STATUS_LINK x = up)) ∧
  (∀ (s : State) (x h v d : Nat), s.camOn x = true → 2 ≤ h →
    Runs (.csiShortPacket x h v d) s (fun t => t = s.badHeader x ∧ t.get .CAM_PHY_ERR_ECC_FAIL x = min (s.get .CAM_PHY_ERR_ECC_FAIL x + 1) (2 ^ Fld.CAM_PHY_ERR_ECC_FAIL.desc.width - 1))) ∧
  (∀ (s : State) (x v d : Nat), s.camOn x = true → s.streamOf x v = none →
    Runs (.csiShortPacket x 0 v d) s (fun t => OnlyRegs s t (fun f i k => f = .CAM_PHY_ERR_DT_DROP ∧ i = x ∧ k = 0) ∧
      t.get .CAM_PHY_ERR_DT_DROP x = min (s.get .CAM_PHY_ERR_DT_DROP x + 1) (2 ^ Fld.CAM_PHY_ERR_DT_DROP.desc.width - 1))) ∧
  (∀ (s : State) (x v d i : Nat), s.camOn x = true → s.streamOf x v = some i → d ≠ 0 → d ≠ 1 →
    Runs (.csiShortPacket x 1 v d) s (fun t => OnlyRegs s t (fun f i k => f = .CAM_PHY_ERR_ECC_CORR ∧ i = x ∧ k = 0) ∧
      t.get .CAM_PHY_ERR_ECC_CORR x = min (s.get .CAM_PHY_ERR_ECC_CORR x + 1) (2 ^ Fld.CAM_PHY_ERR_ECC_CORR.desc.width - 1))) ∧
  (∀ (s : State) (x v i : Nat) (g : CamTrig), s.camOn x = true → s.streamOf x v = some i → ((s.cam x).at i).1 = none →
    (s.cam x).trigs.find? (fun t => bit t.left i) = some g →
    Runs (.csiShortPacket x 0 v 0) s (fun t => t.cam x = (s.cam x).setAt i (some (s.frameOf x g.line), 0) ∧ t.is .CAM_STATUS_PAIRED x = true ∧
      t = { s with cams := t.cams, regs := t.regs })) ∧
  (∀ (s : State) (x v i : Nat), s.camOn x = true → s.streamOf x v = some i →
    Runs (.csiShortPacket x 0 v 1) s (fun t => t = s.frameEnd x i)) ∧
  (∀ (s : State) (x v i f wc : Nat) (px : List Nat), s.camOn x = true → s.streamOf x v = some i → 8 * wc = s.cf x 6 2 * dtBits (s.camDt x) →
    ((s.cam x).at i).1 = some f →
    Runs (.csiLongPacket x 0 v (s.camDt x) wc true px) s (fun t => t = s.rowLine x i f ((s.cam x).at i).2
      (pixelsOf (s.camDt x) (s.cf x 6 2) (px.map (fun p => p % 2 ^ (if s.camDt x = 0x24 then 8 else dtBits (s.camDt x)))))) ) ∧
  (∀ (s : State) (x v i wc : Nat) (px : List Nat), s.camOn x = true → s.streamOf x v = some i → ((s.cam x).at i).1 = none →
    Runs (.csiLongPacket x 0 v (s.camDt x) wc false px) s (fun t => OnlyRegs s t (fun f i k => f = .CAM_PHY_ERR_CRC_FAIL ∧ i = x ∧ k = 0) ∧
      t.get .CAM_PHY_ERR_CRC_FAIL x = min (s.get .CAM_PHY_ERR_CRC_FAIL x + 1) (2 ^ Fld.CAM_PHY_ERR_CRC_FAIL.desc.width - 1))) ∧
  (∀ (s : State) (x v d wc : Nat) (ok : Bool) (px : List Nat), s.camOn x = true → (s.streamOf x v = none ∨ d ≠ s.camDt x) →
    Runs (.csiLongPacket x 0 v d wc ok px) s (fun t => OnlyRegs s t (fun f i k => f = .CAM_PHY_ERR_DT_DROP ∧ i = x ∧ k = 0) ∧
      t.get .CAM_PHY_ERR_DT_DROP x = min (s.get .CAM_PHY_ERR_DT_DROP x + 1) (2 ^ Fld.CAM_PHY_ERR_DT_DROP.desc.width - 1))) ∧
  (∀ (s : State) (x : Nat) (g : CamFrame) (l : List CamFrame), (s.cam x).frames = g :: l → s.camOn x = true → s.cf x 8 2 ≤ g.sent →
    Runs (.frameRecordSend x) s (fun t => t.cam x = { s.cam x with frames := l } ∧ t.get .CAM_FRAME_FRAME x = g.no % 2 ^ Fld.CAM_FRAME_FRAME.desc.width ∧
      t.get .CAM_STALE_COUNT x = (if g.stale then min (s.get .CAM_STALE_COUNT x + 1) (2 ^ Fld.CAM_STALE_COUNT.desc.width - 1) else s.get .CAM_STALE_COUNT x) ∧
      t = { s with cams := t.cams, regs := t.regs, outbox := t.outbox })) ∧
  (∀ (s : State) (i x : Nat), i < 4 → s.reachable .isp i = true → x = s.get .ISP_SHADOW_CTRL_PORT i → x < 8 → s.hasSect 0x0040 x = true →
    s.pipeOf x = i → (s.cam x).shadow.isSome = true →
    Runs (.ispShadowApply i) s (fun t => t.cam x = { s.cam x with apply := true } ∧ (∀ y, y ≠ x → t.cam y = s.cam y) ∧ t = { s with cams := t.cams })) ∧
  (∀ (s : State) (x r : Nat) (px : List Nat), ∀ v ∈ (s.correctRow x r px).1, v ≤ 16383) ∧
  (∀ (m : Nat → Nat → Int) (off : Nat → Int) (inp : List Nat), ∀ v ∈ colour m off inp, v ≤ 16383)

/-- R274, R275, R281, R282, R287, R291, R292: what reaches the gravity loop, and what the host asks of it. -/
def Obligations.GravityLoop : Prop :=
  (∀ (s : State) (c dev port range frame line div : Nat) (vals : List Nat), s.blockOn .gravity 0 = true → s.gravSrc c dev port range = false →
    Runs (.alignedLineReceive c dev port range frame line div vals) s (fun t => OnlyRegs s t (fun f i k => f = .GRAV_FOREIGN_COUNT ∧ i = 0 ∧ k = 0) ∧
      t.get .GRAV_FOREIGN_COUNT = min (s.get .GRAV_FOREIGN_COUNT + 1) (2 ^ Fld.GRAV_FOREIGN_COUNT.desc.width - 1))) ∧
  (∀ (s : State) (c dev port range frame line div : Nat) (vals : List Nat), s.blockOn .gravity 0 = true → s.gravSrc c dev port range = true →
    s.gravIdle c = true → Runs (.alignedLineReceive c dev port range frame line div vals) s (fun t => t = s.passAligned c frame div ∧
      (∃ w, (t.grav c).work = some w ∧ w.no = frame ∧ w.miss = true) ∧ (t.grav c).window = (s.grav c).window ∧ t = { s with gravs := t.gravs })) ∧
  (∀ (s : State) (c dev port range frame line div : Nat) (vals : List Nat), s.blockOn .gravity 0 = true → s.gravSrc c dev port range = true →
    s.gravIdle c = false →
    Runs (.alignedLineReceive c dev port range frame line div vals) s (fun t => t = s.takeAligned c frame line div vals ∧
      (∃ w, (t.grav c).work = some w ∧ w.no = frame) ∧ (t.grav c).window = (s.grav c).window ∧ (∀ n, n ≠ c → t.grav n = s.grav n) ∧
      t.dram = s.dram ∧ t.chans = s.chans)) ∧
  (∀ (s : State) (c dev port range frame span : Nat), s.blockOn .gravity 0 = true → s.gravSrc c dev port range = true →
    Runs (.lostNoticeReceive c dev port range frame span) s (fun t => (∀ w, (t.grav c).work = some w → w.no ≠ frame) ∧
      (t.grav c).window = (s.grav c).window ∧ t = { s with gravs := t.gravs, chans := t.chans })) ∧
  (∀ (s : State) (c dev port range frame n : Nat) (stale : Bool) (w : GravWork), s.blockOn .gravity 0 = true →
    s.gravSrc c dev port range = true → (s.grav c).work = some w → w.no = frame → s.gravIdle c = false → w.miss = false →
    Runs (.statsRecordReceive c dev port range frame n stale) s (fun t =>
      t = ((s.setGrav c { s.grav c with work := none }).acceptFrame c w stale).releaseTail c (frame + w.div * n))) ∧
  (∀ (s : State) (c dev port range frame n : Nat) (stale : Bool) (w : GravWork), s.blockOn .gravity 0 = true →
    s.gravSrc c dev port range = true → (s.grav c).work = some w → w.no = frame → (s.gravIdle c = true ∨ w.miss = true) →
    Runs (.statsRecordReceive c dev port range frame n stale) s (fun t => (t.grav c).work = none ∧ (t.grav c).window = (s.grav c).window ∧
      t = { s with gravs := t.gravs, chans := t.chans })) ∧
  (∀ (s : State) (c n e : Nat), s.blockOn .gravity 0 = true → s.gravOn c = true → s.gravIdle c = false → n < s.chNozzles c →
    e = (s.gravTable c).getD n 0 → entOut e = true →
    (((s.grav c).nz n).waive = true ∨ ((s.grav c).nz n).outAt + s.gf 0x1C 4 * 2 ^ min (entT e) 8 ≤ s.seq.next) → entT e < s.gf 3 1 →
    s.hostOut c n = false →
    Runs (.backinTrial c n) s (fun t => (t.chan c).gravClr = setBit (s.chan c).gravClr n ∧ ((t.grav c).nz n).trial = true ∧
      (∀ m, m ≠ c → t.chan m = s.chan m ∧ t.grav m = s.grav m) ∧ t.hostMem = s.hostMem)) ∧
  (∀ (s : State) (c : Nat), c < 64 → s.reachable .gravity 0 = true → s.gravOn c = true →
    Runs (.resetTrials c) s (fun t => t.gravTable c = (s.gravTable c).map (fun e => mkEnt (entG e) (entOut e) (entHost e) 0) ∧
      (∀ n, n < s.chNozzles c → entOut ((s.gravTable c).getD n 0) = true → ((t.grav c).nz n).waive = true) ∧ t.chans = s.chans ∧
      t.hostMem = s.hostMem)) ∧
  (∀ (s : State) (c : Nat), c < 64 → s.reachable .gravity 0 = true →
    Runs (.clearWindow c) s (fun t => t.grav c = { s.grav c with window := [] } ∧ (∀ n, n ≠ c → t.grav n = s.grav n) ∧ t.dram = s.dram ∧
      OnlyRegs { s with gravs := t.gravs } t (fun f i k => f = .GRAV_CH_QUAL_VALID_PCT ∧ i = 0 ∧ k = c))) ∧
  (∀ (s : State) (d : Desc) (h : Nat), Accepts s d 0x0501 [(0x10, 1), (0x11, 1), (0x18, 8), (0x20, 8), (0x28, 4)] → d.p 0x10 1 = 0 →
    1 ≤ d.p 0x11 1 → d.p 0x11 1 ≤ 100 → d.p 0x20 8 = 0 → d.p 0x28 4 ≠ 0 → d.p 0x18 8 ≠ 0 → s.blockOn .gravity 0 = true →
    (∀ c, c < 64 → bit (d.p 0x18 8) c = true → s.gravOn c = true ∧ s.rebinding c = false) → h = (s.startedLong d 0x0501).1 →
    Runs (.gravRebind d) s (fun t => t.rebinds = s.rebinds ++ [{ handle := h, mask := d.p 0x18 8, pct := d.p 0x11 1, until_ := s.seq.next + d.p 0x28 4, bound := 0, failed := [] }] ∧
      ∀ c, c < 64 → bit (d.p 0x18 8) c = true → t.is .GRAV_CH_STATUS_LEARN 0 c = true ∧ t.is .GRAV_CH_STATUS_BOUND 0 c = false)) ∧
  (∀ (s : State) (c : Nat) (r : Rebind), s.rebinds.find? (fun r => bit r.mask c && !bit r.bound c && !r.failed.any (fun f => f.1 == c)) = some r →
    s.is .GRAV_CH_STATUS_LEARN 0 c = true →
    r.pct * (s.liveList c).length ≤ 100 * ((s.liveList c).filter (fun n => decide ((s.gf 4 4 : Int) ≤ (s.grav c).infoOf n))).length →
    Runs (.channelBound c) s (fun t => t = s.bindResult r c 0 ∧ t.is .GRAV_CH_STATUS_LEARN 0 c = false ∧ t.is .GRAV_CH_STATUS_BOUND 0 c = true)) ∧
  (∀ (s : State) (h c : Nat) (r : Rebind), s.rebinds.find? (fun r => r.handle == h) = some r → r.until_ ≤ s.seq.next →
    (maskList r.mask).filter (fun c => !bit r.bound c && !r.failed.any (fun f => f.1 == c)) = [c] →
    Runs (.learnLimit h) s (fun t => t = s.bindResult r c 3 ∧ t.is .GRAV_CH_STATUS_LEARN 0 c = false ∧ t.is .GRAV_CH_STATUS_BOUND 0 c = false)) ∧
  (∀ (s : State) (h : Nat) (r : Rebind), s.rebinds.find? (fun r => r.handle == h) = some r → s.seq.next < r.until_ →
    Runs (.learnLimit h) s (fun t => t = s)) ∧
  (∀ (s : State) (c n : Nat) (l live : List Nat), (s.gravStep c l live n).natAbs ≤ s.gf 0xE 2)

/-- R334, R336, R340, R341, R345, R346, R348, R349: the commands of the hierarchy. -/
def Obligations.Hierarchy : Prop :=
  (∀ (s : State) (i m c u : Nat), s.manages = true → i < 512 → s.fwAway = false → s.dev i = none →
    Runs (.coverageReport i m c u) s (fun t => t = s.recordCoverage i (m % 2 ^ 64) (c % 8) ∧ t.get .BAR_COV_MAP_CH 0 i = m % 2 ^ 64 ∧
      t.get .BAR_COV_CAUSE_FENCED 0 i = c % 2 ∧ t.get .BAR_COV_CAUSE_LOST 0 i = c / 2 % 2 ∧ t.get .BAR_COV_EVENTS_COUNT = min (s.get .BAR_COV_EVENTS_COUNT + 1) (2 ^ Fld.BAR_COV_EVENTS_COUNT.desc.width - 1) ∧
      t.hostMem = s.hostMem)) ∧
  (∀ (s : State) (i m c u : Nat) (x : Dev), s.manages = true → i < 512 → s.fwAway = false → s.dev i = some x →
    (s.is .BAR_STATUS_ENUMERATED = true → i ≠ s.myIndex) →
    Runs (.coverageReport i m c u) s (fun t => t.get .BAR_COV_MAP_CH 0 i = m % 2 ^ 64 ∧ t.get .BAR_COV_CAUSE_FENCED 0 i = c % 2 ∧
      t.get .BAR_COV_CAUSE_LOST 0 i = c / 2 % 2 ∧ t.get .BAR_COV_EVENTS_COUNT = min (s.get .BAR_COV_EVENTS_COUNT + 1) (2 ^ Fld.BAR_COV_EVENTS_COUNT.desc.width - 1) ∧
      ∃ v, t.dev i = some v ∧ v.unbound = u % 2 ^ 64 ∧ bit v.cause hRESYNC = bit c 3)) ∧
  (∀ (s : State) (i m c u : Nat), s.manages = true → i < 512 → s.fwAway = true →
    Runs (.coverageReport i m c u) s (fun t => t = { s with fwDue := s.fwDue ++ [(0, .coverage i m c u)] })) ∧
  (∀ (s : State) (d : Desc) (l : List Found), Accepts s d 0x0701 [(0x10, 1), (0x14, 2), (0x18, 8)] → d.p 0x10 1 < 2 → d.p 0x14 2 ≠ 0 →
    d.p 0x14 2 ≤ 1024 → d.p 0x18 8 % 64 = 0 → s.activeManager = true → bit (s.get .MOT_STATUS_MOVING) 0 = false → s.is .MOT_STATUS_JOB = false →
    s.fwAway = false →
    Runs (.barEnum d l) s (fun t => t.is .BAR_STATUS_ENUMERATED = true ∧
      (rootOf l = 0 → t.get .BAR_STATUS_INDEX = 0 ∧ t.get .BAR_STATUS_DEVICE = 0 ∧ t.upPort = none) ∧ t.upLost = false ∧ (∀ x ∈ t.devs, x.index = 0xFFFF ∨ x.index < 512) ∧ t.dram = s.dram)) ∧
  (∀ (s : State) (d : Desc) (l : List Found), s.role = roleBar → s.is .BAR_STATUS_ENUMERATED = true → s.activeManager = false → s.fwAway = false →
    Runs (.barEnum d l true) s (fun t => t = s.enumBar (bit (d.p 0x10 1) 0) l ∧ t.is .BAR_STATUS_ENUMERATED = true)) ∧
  (∀ (s : State) (i u h c m : Nat) (x : BarSeen), i < 512 →
    Runs (.linkUpEnumeration true i u h x c m) s (fun t => t.upPort = some u ∧ t.upLost = false ∧ t.is .BAR_STATUS_ENUMERATED = true ∧
      t.get .BAR_STATUS_INDEX = i ∧ t.get .BAR_STATUS_BAR = i / 32 ∧ t.get .BAR_STATUS_DEVICE = i % 32)) ∧
  (∀ (s : State) (i u h c m : Nat) (x : BarSeen), s.manages = true → s.fwAway = false → i < 512 → h ≤ 7 →
    Runs (.linkUpEnumeration false i u h x c m) s (fun t => ∃ v, t.dev i = some v ∧ v.role = x.role ∧ v.up = u ∧ v.hops = h ∧ v.id = x.id ∧
      v.composite = x.composite ∧ v.fw = x.fw ∧ (∀ j, j ≠ i → t.dev j = s.dev j))) ∧
  (∀ (s : State) (i u h c m : Nat) (x : BarSeen), s.manages = true → s.fwAway = false → (512 ≤ i ∨ 7 < h) →
    Runs (.linkUpEnumeration false i u h x c m) s (fun t => t = s.out (.wort "excess" [x.id]))) ∧
  (∀ (s : State) (d : Desc) (n : Nat) (e : Nat → List Byte), Accepts s d 0x0702 [(0x10, 2), (0x12, 1), (0x18, 8)] → n = d.p 0x10 2 → n ≠ 0 →
    d.p 0x12 1 < 2 → d.p 0x18 8 % 64 = 0 → s.activeManager = true → s.fwAway = false →
    (∀ i, i < n → e i = Memory.rds s.hostMem (d.p 0x18 8 + 32 * i) 32 ∧
      e i = Memory.rds (s.startedLong d 0x0702).2.hostMem (d.p 0x18 8 + 32 * i) 32) →
    (∀ i j, i < j → j < n → fieldAt (e i) 0 2 ≠ fieldAt (e j) 0 2) →
    (∀ i, i < n → fieldAt (e i) 0 2 < 512 ∧ fieldAt (e i) 2 2 < 2 ∧ fieldAt (e i) 0x18 4 ≤ fieldAt (e i) 0x1C 4 ∧ fieldAt (e i) 6 2 = 0 ∧
      (fieldAt (e i) 2 2 = 1 → fieldAt (e i) 8 8 = 0)) →
    Runs (.barBind d) s (fun t => ∀ i, i < n → (t.bind (fieldAt (e i) 0 2)).bound = true ∧
      (t.bind (fieldAt (e i) 0 2)).expect = fieldAt (e i) 0x10 8 ∧ (t.bind (fieldAt (e i) 0 2)).fwMin = fieldAt (e i) 0x18 4 ∧
      (t.bind (fieldAt (e i) 0 2)).fwMax = fieldAt (e i) 0x1C 4)) ∧
  (∀ (s : State) (d : Desc), s.is .BAR_STATUS_ENUMERATED = true → d.p 0x10 2 = s.myIndex → s.activeManager = false → d.p 0x12 1 ≤ 3 →
    Runs (.barRelease true d) s (fun t => t = (s.release (d.p 0x12 1) (d.p 0x18 8)).releaseEnd 0 (d.p 0x12 1) (d.p 0x18 8))) ∧
  (∀ (s : State) (d : Desc) (l : List (List Byte)), s.role = roleBar → s.is .BAR_STATUS_ENUMERATED = true → s.activeManager = false →
    s.fwAway = false → l = s.bindEntries d → bindsOk l = true →
    Runs (.barBind d true) s (fun t => t = (s.takeBinds (bit (d.p 0x12 1) 0)
      (l.filter (fun e => fieldAt e 0 2 / 32 == s.get .BAR_STATUS_BAR))).1)) ∧
  (∀ (s : State) (d : Desc) (x : Dev) (h : Nat), Accepts s d 0x0703 [(0x10, 2), (0x12, 1), (0x18, 8)] → s.dev (d.p 0x10 2) = some x →
    s.is .BAR_STATUS_ENUMERATED = true → d.p 0x12 1 ≤ 3 → d.p 0x18 8 ≠ 0 → s.activeManager = true → s.fwAway = false →
    (d.p 0x12 1 = 0 → (if d.p 0x10 2 = s.myIndex then s.get .BAR_UNBOUND_CH else x.unbound) &&& d.p 0x18 8 = 0) →
    bit x.cause hIMAGE = false → bit x.cause hFW = false → bit x.cause hCONFLICT = false → bit x.cause hEXCESS = false →
    h = (s.startedLong d 0x0703).1 →
    Runs (.barRelease false d) s (fun t =>
      (d.p 0x10 2 = s.myIndex → t = ((s.startedLong d 0x0703).2.release (d.p 0x12 1) (d.p 0x18 8)).releaseEnd h (d.p 0x12 1) (d.p 0x18 8) ∧
        (d.p 0x12 1 = 3 → t.withdrawn = s.withdrawn ||| d.p 0x18 8)) ∧
      (d.p 0x10 2 ≠ s.myIndex → .wort "release" [d.p 0x10 2, d.p 0x12 1, d.p 0x18 8] ∈ t.outbox ∧ t.withdrawn = s.withdrawn))) ∧
  (∀ (s : State) (i y v : Nat), Runs (.timeStampReport true i y v) s (fun t => t.get .BAR_TIME_OFS_NS = v % 2 ^ Fld.BAR_TIME_OFS_NS.desc.width ∧
    t.is .BAR_HOLD_TIME = offsetCause (s.is .BAR_HOLD_TIME) (toSigned 32 v))) ∧
  (∀ (s : State) (i y v a : Nat) (x : Dev), s.manages = true → s.fwAway = false → s.dev i = some x →
    s.lineStamps.find? (fun e => e.1 == y) = some (y, a) →
    Runs (.timeStampReport false i y v) s (fun t => t = (s.causeBit i hTIME (offsetCause (bit x.cause hTIME) (toSigned 32 (v + 2 ^ 32 - a % 2 ^ 32)))).out
      (.wort "offset" [i, ofSigned 32 (toSigned 32 (v + 2 ^ 32 - a % 2 ^ 32))]))) ∧
  (∀ (s : State) (i y : Nat), Runs (.timeStampLate true i y) s (fun t => t.is .BAR_HOLD_TIME = true)) ∧
  (∀ (s : State) (i y : Nat), s.manages = true → s.fwAway = false → y + 8192 ≤ s.seq.next → s.backAt ≤ y + 8192 →
    Runs (.timeStampLate false i y) s (fun t => t = s.causeBit i hTIME true)) ∧
  (∀ (s : State) (y n c : Nat) (p : Page), s.fwAway = false → s.is .BAR_STATUS_ENUMERATED = true →
    s.pages.find? (fun p => decide (s.seq.next ≤ p.first)) = some p → p.first = y → p.id = n →
    Runs (.pageDigest y n c) s (fun t => t.is .BAR_HOLD_IMAGE = decide (s.compositeAt y ≠ c) ∧ t.pages = s.pages)) ∧
  (∀ (s : State) (y n c : Nat) (p : Page), s.fwAway = false → s.is .BAR_STATUS_ENUMERATED = true →
    s.pages.find? (fun p => decide (s.seq.next ≤ p.first)) = some p → (p.first ≠ y ∨ p.id ≠ n) → s.is .FIRE_STATUS_WITHHELD = false →
    Runs (.pageDigest y n c) s (fun t => t.pages = (s.adoptPage y n).pages ∧ t.is .FIRE_STATUS_WITHHELD = true ∧ t.is .BAR_HOLD_RESYNC = true ∧ t.get .BAR_RESYNC_COUNT = min (s.get .BAR_RESYNC_COUNT + 1) (2 ^ Fld.BAR_RESYNC_COUNT.desc.width - 1)))

/-- R350, R352-R360: the commands of the trio. -/
def Obligations.ManagerTrio : Prop :=
  (∀ (s u : State) (h : Nat), s.member = true → u = s.checkReturn →
    Runs (.stateFrameSend h) s (fun t => (u.frameBody h).length = 124 ∧
      t = u.out (.wort "stateFrame" ((u.frameBody h ++ leBytes 4 (crc32c (u.frameBody h))).map BitVec.toNat)))) ∧
  (∀ (s : State) (p h : Nat) (b : List Byte), s.powered 127 = true → (s.role = rolePress ∨ s.role = roleTrio) →
    (b.length ≠ 128 ∨ crc32c (b.take 0x7C) ≠ fieldAt b 0x7C 4 ∨ 3 ≤ fieldAt b 8 1) →
    Runs (.stateFrameReceive p b h) s (fun t => t = (if s.peerAt p = s.get .TRIO_STATUS_OWNER then s.missFrame else s) ∧
      (s.peerAt p = s.get .TRIO_STATUS_OWNER → t.trio.missed = s.trio.missed + 1 ∧ t.trio.agree = 0 ∧ t.get .TRIO_AGREE_LINES = 0))) ∧
  (∀ (s : State) (p h : Nat) (b : List Byte), s.powered 127 = true → s.role = rolePress → b.length = 128 →
    crc32c (b.take 0x7C) = fieldAt b 0x7C 4 → (fieldAt b 8 1 = 1 ∨ fieldAt b 8 1 = 2) → bit (fieldAt b 9 1) 0 = false →
    Runs (.stateFrameReceive p b h) s (fun t => look [] t.trio.frames (fieldAt b 8 1) = b ∧
      bit (t.get .TRIO_STATUS_MEMBERS) (fieldAt b 8 1) = bit (fieldAt b 9 1) 1)) ∧
  (∀ (s : State) (w : Bool), s.member = true → s.is .TRIO_STATUS_ACTIVE = false → s.is .TRIO_STATUS_QUALIFIED = false → s.clkBad = false →
    (1024 ≤ s.trio.agree ∨ (w = true ∧ s.axStopped = true ∧ 1000 ≤ s.trio.agree)) →
    Runs (.qualify w) s (fun t => t.is .TRIO_STATUS_QUALIFIED = true ∧ bit (t.get .TRIO_STATUS_MEMBERS) s.pos = true ∧
      t = { s with regs := t.regs })) ∧
  (∀ (s : State) (y : Nat), s.member = true → s.is .TRIO_STATUS_ACTIVE = true →
    Runs (.badVerdict s.pos y) s (fun t => t.is .TRIO_STATUS_ACTIVE = false ∧ t.is .MOT_STATUS_OWN = false ∧ t.is .FIRE_STATUS_OWNER = false ∧
      t.get .TRIO_LAST_CAUSE = 3 ∧ bit (t.get .TRIO_STATUS_MEMBERS) s.pos = false ∧ t.trio.pulling = false)) ∧
  (∀ (s : State) (p y : Nat), s.member = true → p < 3 → p ≠ s.pos → bit (s.get .TRIO_STATUS_MEMBERS) p = true → s.members ≤ 2 →
    Runs (.badVerdict p y) s (fun t => bit (t.get .TRIO_STATUS_MEMBERS) p = false ∧ t.get .TRIO_EVENTS_UNQUAL = min (s.get .TRIO_EVENTS_UNQUAL + 1) (2 ^ Fld.TRIO_EVENTS_UNQUAL.desc.width - 1))) ∧
  (∀ (s : State) (c n : Nat), s.member = true → s.is .TRIO_STATUS_ACTIVE = false → s.takeoverDue c = true →
    Runs (.takeover c n) s (fun t => t.get .TRIO_EVENTS_TAKEOVERS = min (s.get .TRIO_EVENTS_TAKEOVERS + 1) (2 ^ Fld.TRIO_EVENTS_TAKEOVERS.desc.width - 1) ∧ t.get .TRIO_LAST_CAUSE = c % 2 ^ Fld.TRIO_LAST_CAUSE.desc.width ∧
      t.get .TRIO_LAST_TO = s.heir.getD s.pos % 2 ^ Fld.TRIO_LAST_TO.desc.width ∧ (s.heir.getD s.pos = s.pos → t.trio.wants = true) ∧
      t.get .TRIO_LAST_FROM = s.get .TRIO_STATUS_OWNER % 2 ^ Fld.TRIO_LAST_FROM.desc.width ∧ t.get .TRIO_HANDOVER_LINE = s.seq.next % 2 ^ Fld.TRIO_HANDOVER_LINE.desc.width ∧
      .wort "trioYield" [s.get .TRIO_STATUS_OWNER, c] ∈ t.outbox)) ∧
  (∀ (s : State) (p : Nat), s.member = true → p < 3 → p ≠ s.pos → s.trio.pulling = false →
    Runs (.yield p) s (fun t => t = { s with trio := { s.trio with yields := setBit s.trio.yields p } })) ∧
  (∀ (s : State) (p : Nat), s.member = true → p < 3 → p ≠ s.pos → s.trio.pulling = true →
    (∀ q, q < 3 → q ≠ s.pos → q ≠ p → bit s.trio.yields q = true) →
    Runs (.yield p) s (fun t => t.trio.pulling = false ∧ t.is .TRIO_STATUS_ACTIVE = false ∧ t.is .MOT_STATUS_OWN = false ∧ t.is .FIRE_STATUS_OWNER = false ∧
      t.trio.yields = 0 ∧ t.trio.drivers = false)) ∧
  (∀ s : State, s.member = true → s.trio.wants = true → s.trio.pulling = false →
    Runs (.claim s.pos) s (fun t => t.trio.pulling = true ∧ t.trio.claiming = true ∧ t.is .MOT_STATUS_OWN = true ∧
      .pin "STEP_OWN" 0 0 ∈ t.outbox ∧ .wort "trioClaim" [s.pos] ∈ t.outbox)) ∧
  (∀ (s : State) (p : Nat), s.member = true → p < s.pos → s.trio.claiming = true →
    Runs (.claim p) s (fun t => t = s.releaseOwn ∧ t.trio.pulling = false ∧ t.is .MOT_STATUS_OWN = false)) ∧
  (∀ s : State, s.trio.claiming = true →
    Runs .driverEnable s (fun t => t.is .TRIO_STATUS_ACTIVE = true ∧ t.is .MOT_STATUS_OWN = true ∧ t.is .FIRE_STATUS_OWNER = true ∧
      t.trio.drivers = true ∧ t.trio.claiming = false ∧ t.get .FIRE_TRIG_COMP = 0)) ∧
  (∀ (s : State) (held : Bool) (a : Nat), s.role = rolePress → bit (s.sf 0x0050 0 0 1) 0 = true → s.powered 127 = true → s.powered 124 = true →
    s.fullImage.isSome = true → s.conflict = false → s.axStopped = true → s.trio.pulling = false →
    Runs (.firstOwnerClaim held a) s (fun t => t = if held then s else s.pullOwn)) ∧
  (∀ (s : State) (a : Nat), s.role = roleTrio → (a = 1 ∨ a = 2) → s.trio.t0 = false → s.powered 127 = true → s.powered 124 = true →
    s.fullImage.isSome = true → s.conflict = false → s.axStopped = true → s.trio.pulling = false →
    Runs (.firstOwnerClaim false a) s (fun t => t.get .TRIO_STATUS_POS = a ∧ t.trio.pulling = true ∧ t.trio.claiming = true ∧
      t.is .MOT_STATUS_OWN = true ∧ .wort "trioClaim" [a] ∈ t.outbox)) ∧
  (∀ (s : State) (t y : Nat), t < 3 →
    Runs (.ownerNotice t y) s (fun u => u.trio = { s.trio with notice := some (t, y) } ∧
      u.get .TRIO_STATUS_OWNER = (if y = 0 ∧ s.pos < 3 then t else s.get .TRIO_STATUS_OWNER) ∧ u = { s with trio := u.trio, regs := u.regs })) ∧
  (∀ s : State, s.member = true → s.returnOk = true → s.is .TRIO_STATUS_ACTIVE = false → s.pos = 0 → s.is .TRIO_STATUS_QUALIFIED = true →
    s.is .TRIO_CFG_REVERT_EN = true → s.get .TRIO_CFG_REVERT_LINES ≤ s.get .TRIO_AGREE_LINES →
    Runs .revertReq s (fun t => t = { s with trio := { s.trio with revert := true } })) ∧
  (∀ (s : State) (y : Nat), s.member = true → s.returnOk = true → s.is .TRIO_STATUS_ACTIVE = true → s.pos ≠ 0 → s.trio.revert = true →
    s.trio.handover = none → y = (if s.axStopped then s.seq.next else s.seq.next + 64) →
    Runs .revertReq s (fun t => t.trio.handover = some y ∧ t.trio.notice = some (0, y) ∧ t.is .TRIO_STATUS_REVERT_PENDING = true ∧
      t.outbox = .wort "ownerNotice" [0, y] :: s.outbox)) ∧
  (∀ (s : State) (y : Nat), s.member = true → s.trio.handover = some y → s.phase = 0 → bit (s.get .TRIO_STATUS_MEMBERS) 0 = true →
    (s.axStopped = true ∨ s.forward 0 = true ∧ y ≤ s.seq.next) → s.is .TRIO_STATUS_ACTIVE = true →
    Runs .primaryReturn s (fun t => t.is .TRIO_STATUS_ACTIVE = false ∧ t.is .MOT_STATUS_OWN = false ∧ t.get .TRIO_STATUS_OWNER = 0 ∧
      t.get .TRIO_EVENTS_REVERTS = min (s.get .TRIO_EVENTS_REVERTS + 1) (2 ^ Fld.TRIO_EVENTS_REVERTS.desc.width - 1) ∧ t.get .TRIO_HANDOVER_LINE = y % 2 ^ Fld.TRIO_HANDOVER_LINE.desc.width ∧ t.trio.handover = none)) ∧
  (∀ (s : State) (y : Nat), s.member = true → s.trio.handover = some y → s.phase = 0 → bit (s.get .TRIO_STATUS_MEMBERS) 0 = true →
    (s.axStopped = true ∨ s.forward 0 = true ∧ y ≤ s.seq.next) → s.is .TRIO_STATUS_ACTIVE = false → s.pos = 0 →
    Runs .primaryReturn s (fun t => t.is .TRIO_STATUS_ACTIVE = true ∧ t.is .MOT_STATUS_OWN = true ∧ t.is .FIRE_STATUS_OWNER = true ∧
      t.get .TRIO_STATUS_OWNER = 0 ∧ t.trio.drivers = true ∧ t.get .TRIO_EVENTS_REVERTS = min (s.get .TRIO_EVENTS_REVERTS + 1) (2 ^ Fld.TRIO_EVENTS_REVERTS.desc.width - 1) ∧ t.trio.handover = none)) ∧
  (∀ (s : State) (v : Nat), s.reachable .trio 0 = true → v % 2 ^ 24 = 0 →
    Runs (.trioCfgWrite v) s (fun t => OnlyRegs s t (fun f i k => f = .TRIO_STATUS_ERR ∧ i = 0 ∧ k = 0) ∧ t.is .TRIO_STATUS_ERR = true)) ∧
  (∀ (s : State) (v : Nat), s.reachable .trio 0 = true → v % 2 ^ 24 ≠ 0 →
    Runs (.trioCfgWrite v) s (fun t => OnlyRegs s t (fun f i k => (f = .TRIO_CFG_REVERT_LINES ∨ f = .TRIO_CFG_REVERT_EN) ∧ i = 0 ∧ k = 0) ∧
      t.get .TRIO_CFG_REVERT_LINES = v % 2 ^ Fld.TRIO_CFG_REVERT_LINES.desc.width ∧ t.get .TRIO_CFG_REVERT_EN = v / 2 ^ 31 % 2))

/-- R320-R332: the commands of a Wort port and its lanes. -/
def Obligations.WortLinks : Prop :=
  (∀ (s : State) (p : Nat) (l : List LaneTrain), s.wortOn p = true → l.length = 8 → s.get .WL_PORT_STATUS_STATE p = 1 →
    s.fenced 4 (9 * p + 8) = false →
    Runs (.portTrain p false l) s (fun t => t.fenced 4 (9 * p + 8) = true ∧ t.fenced 5 p = true ∧ t.get .WL_PORT_STATUS_STATE p = 5)) ∧
  (∀ (s u : State) (p : Nat) (l : List LaneTrain), s.wortOn p = true → l.length = 8 →
    (s.get .WL_PORT_STATUS_STATE p = 1 ∨ s.get .WL_PORT_STATUS_STATE p = 4) →
    u = (s.wortLanes p).foldl (fun s k => s.trainLane p k (l.getD k ⟨1, 0, false, 0⟩)) s →
    Runs (.portTrain p true l) s (fun t => t = if u.fenced 5 p then u else u.orderLanes p (fun k => (l.getD k ⟨1, 0, false, 0⟩).number))) ∧
  (∀ (s : State) (p k g : Nat), s.wortOn p = true → k < 9 → g = s.get .WL_LANE_STATUS_STAGE (9 * p + k) → 1 ≤ g → g ≤ 7 →
    s.is .WL_LANE_STATUS_WAITING (9 * p + k) = false →
    Runs (.trainStageTimeout p k) s (fun t => t = s.fenceLane (9 * p + k) causeLink ∧ t.fenced 4 (9 * p + k) = true)) ∧
  (∀ (s : State) (p id r port m n : Nat) (sh : List Nat), s.wortOn p = true → port < 4 → r < 4 → s.get .WL_PORT_STATUS_STATE p = 1 →
    s.is .WL_PORT_STATUS_REVERSED p = false → (s.wport p).own < 256 → n = (s.wport p).own &&& m → n ≠ 0 →
    Runs (.init p id r port m sh) s (fun t => t.get .WL_PORT_STATUS_STATE p = (if n = 0xFF then 2 else 3) ∧
      t.get .WL_PORT_STATUS_ACTIVE p = n ∧ t.get .WL_PEER_ID p = id % 2 ^ Fld.WL_PEER_ID.desc.width ∧ (t.wport p).role = r)) ∧
  (∀ (s : State) (p : Nat) (l : List Nat), s.wortUp p = true → (s.wport p).waiting = [] →
    Runs (.credit p l) s (fun t => OnlyRegs s t (fun f i k => f = .WL_VC_CREDIT_AVAIL ∧ i = p ∧ k < 4) ∧
      ∀ v, v < 4 → t.get .WL_VC_CREDIT_AVAIL p v = min (s.get .WL_VC_CREDIT_AVAIL p v + l.getD v 0 % 4096) (2 ^ Fld.WL_VC_CREDIT_AVAIL.desc.width - 1))) ∧
  (∀ (s : State) (p n : Nat), s.wortUp p = true → (s.wport p).waiting = [] →
    Runs (.ack p n) s (fun t => t = s.setWport p { s.wport p with replay := flitsAfter (s.wport p).replay (n % 4096) })) ∧
  (∀ (s : State) (p n : Nat) (l : List Flit), s.wortUp p = true → (s.wport p).waiting = [] →
    l = (flitsAfter (s.wport p).replay (n % 4096)).map (fun f => { f with replays := f.replays + 1 }) →
    (∀ f ∈ l, f.replays < s.wf p 0xB 1) →
    Runs (.nak p n) s (fun t => t = (s.setWport p { s.wport p with replay := l }).resend p l)) ∧
  (∀ (s : State) (p m : Nat), s.wortUp p = true → s.is .WL_PORT_STATUS_REVERSED p = false →
    Runs (.width p m) s (fun t => t = s.setWport p { s.wport p with width := some (m % 256) })) ∧
  (∀ (s : State) (p m n : Nat), s.wortUp p = true → (s.wport p).width = some m →
    n = laneMask ((s.wortLanes p).filter (fun k => bit m k && s.get .WL_LANE_STATUS_STAGE (9 * p + k) == 8)) → n ≠ 0 →
    Runs (.widthSwitch p) s (fun t => t.get .WL_PORT_STATUS_ACTIVE p = n ∧ (t.wport p).width = none ∧
      t = { s with regs := t.regs, wports := t.wports })) ∧
  (∀ (s : State) (p c : Nat), s.wortUp p = true →
    Runs (.down p c) s (fun t => t.get .WL_PORT_STATUS_STATE p = 0 ∧ t.get .WL_PORT_STATUS_ACTIVE p = 0 ∧ t.get .WL_PEER_ID p = 0 ∧
      t.wport p = { hist := (s.wport p).hist })) ∧
  (∀ (s : State) (p y : Nat), s.wortOn p = true → y < 256 → controlTypes.contains y = false →
    Runs (.reservedControlBlock p y) s (fun t => OnlyRegs s t (fun f i k => f = .WL_PORT_ERR_DISCARDS ∧ i = p ∧ k = 0) ∧
      t.get .WL_PORT_ERR_DISCARDS p = min (s.get .WL_PORT_ERR_DISCARDS p + 1) (2 ^ Fld.WL_PORT_ERR_DISCARDS.desc.width - 1))) ∧
  (∀ (s : State) (p : Nat) (b : List Byte) (w : List (List Nat)), s.wortUp p = true → b.length = 256 → crc32c (b.take 252) = fieldAt b 0xFC 4 →
    fieldAt b 1 2 % 4096 = (s.wport p).rxNext → (∀ c ∈ w, (rsDecode c).isSome = true) →
    Runs (.flitReceive p b w) s (fun t => t = s.takeFlit p b ∧ (t.wport p).rxNext = ((s.wport p).rxNext + 1) % 4096)) ∧
  (∀ (s : State) (p : Nat) (b : List Byte) (w : List (List Nat)) (c : List Nat), s.wortUp p = true → b.length = 256 → c ∈ w → rsDecode c = none →
    (s.wport p).naked = false →
    Runs (.flitReceive p b w) s (fun t => (t.wport p).naked = true ∧ (t.wport p).rxNext = (s.wport p).rxNext ∧ t.get .WL_PORT_ERR_NAKS p = min (s.get .WL_PORT_ERR_NAKS p + 1) (2 ^ Fld.WL_PORT_ERR_NAKS.desc.width - 1) ∧
      .wort "nak" [p, ((s.wport p).rxNext + 4095) % 4096] ∈ t.outbox ∧ t = { s with wports := t.wports, regs := t.regs, outbox := t.outbox })) ∧
  (∀ (s : State) (p : Nat) (b : List Byte) (w : List (List Nat)) (c : List Nat), s.wortUp p = true → b.length = 256 → c ∈ w → rsDecode c = none →
    (s.wport p).naked = true → Runs (.flitReceive p b w) s (fun t => t = s)) ∧
  (∀ h v : Nat, v < 2 ^ 64 → descramble h (scramble h v).1 = (v, (scramble h v).2)) ∧
  (∀ (s : State) (p a g : Nat), s.wortOn p = true →
    Runs (.storeRd p a 0 g) s (fun t => OnlyRegs s t (fun f i k => f = .WL_PORT_ERR_DISCARDS ∧ i = p ∧ k = 0) ∧ t.get .WL_PORT_ERR_DISCARDS p = min (s.get .WL_PORT_ERR_DISCARDS p + 1) (2 ^ Fld.WL_PORT_ERR_DISCARDS.desc.width - 1))) ∧
  (∀ (s : State) (p a n g : Nat), s.wortOn p = true → n ≠ 0 → a % 64 = 0 → n % 64 = 0 → n ≤ 4096 → (∀ r ∈ (s.wport p).reads, r.tag ≠ g % 2 ^ 32) →
    Runs (.storeRd p a n g) s (fun t => (t.wport p).reads = (s.wport p).reads ++ [{ tag := g % 2 ^ 32, addr := a % 2 ^ 64, len := n, got := 0 }] ∧
      t.storeMem = s.storeMem)) ∧
  (∀ (s : State) (p g o : Nat) (r : StoreRead) (b : List Byte), s.wortUp p = true → (s.wport p).reads.find? (fun r => r.tag == g) = some r →
    o + b.length ≤ r.len →
    Runs (.storeData p g o b) s (fun t => t.storeMem = Memory.wrs s.storeMem (2 ^ 64 * p + r.addr + o) b ∧
      (t.wport p).reads = (s.wport p).reads.filter (fun x => x.tag != g) ++
        (if r.got + b.length < r.len then [{ r with got := r.got + b.length }] else []) ∧ t.hostMem = s.hostMem ∧ t.regs = s.regs)) ∧
  (∀ (s : State) (i c u : Nat), s.wortOn (i / 9) = true → i % 9 < 8 → s.is .WL_LANE_STATUS_ACTIVE i = true → u < s.wf (i / 9) 8 2 →
    c ≤ s.wf (i / 9) 4 4 →
    Runs (.fecWindowEnd i c u) s (fun t => OnlyRegs s t (fun f j k => (f = .WL_LANE_FEC_CORR ∨ f = .WL_LANE_FEC_UNCORR) ∧ j = i ∧ k = 0) ∧
      t.get .WL_LANE_FEC_CORR i = min c (2 ^ 24 - 1) ∧ t.get .WL_LANE_FEC_UNCORR i = min u 255)) ∧
  (∀ (s : State) (i d : Nat), s.wortOn (i / 9) = true → i % 9 < 8 → s.is .WL_LANE_STATUS_ACTIVE i = true →
    Runs (.laneRetrain i d none) s (fun t => t = (s.set .WL_LANE_EYE_DRIFT (d % 16) i).leaveLane (i / 9) (i % 9))) ∧
  (∀ (s : State) (i d g : Nat) (x : LaneTrain), s.wortOn (i / 9) = true → s.wortUp (i / 9) = true → i % 9 < 8 → i < 36 →
    g = s.get .WL_LANE_STATUS_STAGE i → 2 ≤ g → g ≤ 6 → s.laneHour i + 1 ≤ s.wf (i / 9) 0xA 1 → s.is .WL_PORT_STATUS_REVERSED (i / 9) = false →
    x.number = i % 9 → x.fail = 0 → s.wf (i / 9) 3 1 ≤ x.width → s.fenced 4 i = false → s.is .WL_LANE_STATUS_WAITING i = false →
    Runs (.laneRetrain i d (some x)) s (fun t => t.get .WL_LANE_STATUS_STAGE i = 8 ∧ t.get .WL_LANE_RETRAINS_TOTAL i = min (s.get .WL_LANE_RETRAINS_TOTAL i + 1) (2 ^ Fld.WL_LANE_RETRAINS_TOTAL.desc.width - 1) ∧
      t.fenced 4 i = false)) ∧
  (∀ (s : State) (p n : Nat), s.wortUp p = true → s.wortOn p = true → popcount 8 (s.get .WL_PORT_STATUS_ACTIVE p) < 2 * n →
    Runs (.portRetrain p n) s (fun t => t = s.wortRetrain p ∧ t.get .WL_PORT_STATUS_STATE p = 4 ∧ t.get .WL_PORT_ERR_RETRAINS p = min (s.get .WL_PORT_ERR_RETRAINS p + 1) (2 ^ Fld.WL_PORT_ERR_RETRAINS.desc.width - 1))) ∧
  (∀ (s : State) (i w : Nat), s.wortOn (i / 9) = true → i % 9 < 8 → s.is .WL_LANE_STATUS_ACTIVE i = true → s.wf (i / 9) 3 1 ≤ w →
    Runs (.eyeRecalibration i w) s (fun t => OnlyRegs s t (fun f j k => f = .WL_LANE_EYE_WIDTH ∧ j = i ∧ k = 0) ∧
      t.get .WL_LANE_EYE_WIDTH i = min w 64)) ∧
  (∀ (s : State) (p : Nat), s.reachable .wortPort p = true → s.wortOn p = true →
    Runs (.wlPortRetrainWrite p) s (fun t => t = s.wortRetrain p ∧ t.get .WL_PORT_ERR_RETRAINS p = min (s.get .WL_PORT_ERR_RETRAINS p + 1) (2 ^ Fld.WL_PORT_ERR_RETRAINS.desc.width - 1))) ∧
  (∀ (s : State) (i : Nat), s.reachable .wortLane i = true → i % 9 < 8 →
    Runs (.wlLaneRetrainWrite i) s (fun t => t = s.leaveLane (i / 9) (i % 9))) ∧
  (∀ (s : State) (i : Nat), s.reachable .wortLane i = true → i % 9 = 8 → Runs (.wlLaneRetrainWrite i) s (fun t => t = s))

/-- R99, R114, R363, R366, R371, R372, R374, R376, R378, R380, R383: the commands of the memory controllers, and the map of R366. -/
def Obligations.DramControllers : Prop :=
  (∀ (s : State) (d : Desc) (h : Nat), Accepts s d 0x0006 [(0x10, 1), (0x18, 8), (0x20, 8), (0x28, 4)] → d.p 0x10 1 = 1 → d.p 0x28 4 ≠ 0 →
    d.p 0x20 8 + d.p 0x28 4 ≤ s.dmap.size → h = (s.startedLong d 0x0006).1 →
    Runs (.copy d) s (fun t => t = State.done ((s.startedLong d 0x0006).2.dramWr (d.p 0x20 8)
      (Memory.rds (s.startedLong d 0x0006).2.hostMem (d.p 0x18 8) (d.p 0x28 4))) h)) ∧
  (∀ (s : State) (d : Desc) (h : Nat), Accepts s d 0x0006 [(0x10, 1), (0x18, 8), (0x20, 8), (0x28, 4)] → d.p 0x10 1 = 0 → d.p 0x28 4 ≠ 0 →
    d.p 0x20 8 + d.p 0x28 4 ≤ s.dmap.size → (burstsOf (d.p 0x20 8) (d.p 0x28 4)).find? s.dramBad = none → h = (s.startedLong d 0x0006).1 →
    Runs (.copy d) s (fun t => t.dram = s.dram ∧ t = State.done { (s.startedLong d 0x0006).2.dramTouch (d.p 0x20 8) (d.p 0x28 4) false with hostMem := Memory.wrs (s.startedLong d 0x0006).2.hostMem (d.p 0x18 8) (Memory.rds s.dram (d.p 0x20 8) (d.p 0x28 4)) } h)) ∧
  (∀ (s : State) (a n : Nat), s.powered 131 = true → s.powered 126 = true → a + n ≤ 64 * 2 ^ 30 →
    s.dramOk (s.get .QM_BAR4_BASE_BASE + a) n = false →
    Runs (.bar4Access false a n []) s (fun t => t.rdata = 2 ^ (8 * n) - 1 ∧ t.dram = s.dram ∧ t = { s with rdata := t.rdata, outbox := .reply "bar4" [1] :: s.outbox })) ∧
  (∀ (s : State) (a n : Nat), s.powered 131 = true → s.powered 126 = true → a + n ≤ 64 * 2 ^ 30 →
    s.dramOk (s.get .QM_BAR4_BASE_BASE + a) n = true →
    Runs (.bar4Access false a n []) s (fun t => t.rdata = leNat (Memory.rds s.dram (s.get .QM_BAR4_BASE_BASE + a) n) ∧
      t.outbox = .reply "bar4" [if s.dramPoisoned (s.get .QM_BAR4_BASE_BASE + a) n then 2 else 0] :: s.outbox ∧
      t = { s with rdata := t.rdata, outbox := t.outbox, banks := t.banks })) ∧
  (∀ (s : State) (a : Nat) (b : List Byte), s.powered 131 = true → s.powered 126 = true → a + b.length ≤ 64 * 2 ^ 30 →
    s.dramOk (s.get .QM_BAR4_BASE_BASE + a) b.length = true →
    Runs (.bar4Access true a 0 b) s (fun t => t.dram = Memory.wrs s.dram (s.get .QM_BAR4_BASE_BASE + a) b ∧ t.hostMem = s.hostMem ∧ t.regs = s.regs)) ∧
  (∀ (s : State) (a : Nat) (b : List Byte), s.powered 131 = true → s.powered 126 = true → a + b.length ≤ 64 * 2 ^ 30 →
    s.dramOk (s.get .QM_BAR4_BASE_BASE + a) b.length = false →
    Runs (.bar4Access true a 0 b) s (fun t => t = s.out (.reply "bar4" [1]))) ∧
  (∀ (s : State) (i : Nat) (ok : Bool), i < 6 → s.get .DDR_STATUS_STATE i = 1 →
    Runs (.ddrTrain i none ok) s (fun t => t.fenced 6 i = true)) ∧
  (∀ (s : State) (i j : Nat) (x : Dimm), i < 6 → s.get .DDR_STATUS_STATE i = 1 → j < 6 → j ≠ i → s.get .DDR_STATUS_STATE j = 1 → Dimm.ok x = true →
    Runs (.ddrTrain i (some x) true) s (fun t => t.get .DDR_STATUS_STATE i = 2 ∧ (t.ddr i).up = true ∧
      t.get .DDR_GEOM_GIB i = x.gib % 2 ^ Fld.DDR_GEOM_GIB.desc.width ∧ t.get .DDR_GEOM_X8 i = b2n x.x8 ∧ t = { s with regs := t.regs, ddrs := t.ddrs })) ∧
  (∀ s : State, Runs .refresh s (fun t => t.hostMem = s.hostMem ∧ t.dram = s.dram ∧
    ∀ i, i < 6 → s.ddrServes i = true →
      t.is .DDR_STATUS_HOT i = (List.range 6).any (fun j => s.ddrServes j && decide (85 < s.get .DDR_STATUS_TEMP j)) ∧
      (s.is .DDR_STATUS_REPLAYING i = true → (t.ddr i).behind = true) ∧
      (s.is .DDR_STATUS_REPLAYING i = false → ∀ k, k / 1024 = i → t.openRow k = none))) ∧
  (∀ (s : State) (i g : Nat), i < 6 → g < 256 → s.ddrServes i = true →
    Runs (.dimmTempRead i g) s (fun t => t.get .DDR_STATUS_TEMP i = g % 2 ^ Fld.DDR_STATUS_TEMP.desc.width ∧ (g ≤ 95 → t = s.set .DDR_STATUS_TEMP g i) ∧
      (95 < g → t.is .DDR_STATUS_HOT_ALARM i = true))) ∧
  (∀ (s : State) (i : Nat), i < 6 → s.ddrServes i = true → s.fenced 6 i = false →
    Runs (.ddrChannelFail i) s (fun t => t = s.ddrFail i causeDdr ∧ t.fenced 6 i = true ∧ t.get .DDR_STATUS_STATE i = 4 ∧ t.dram = s.dram)) ∧
  (∀ (s : State) (i : Nat), i < 6 → s.get .DDR_STATUS_STATE i = 3 →
    Runs (.evacuationDone i) s (fun t => t.fenced 6 i = true ∧ t.get .DDR_STATUS_STATE i = 4 ∧ t.get .DDR_EVAC_PCT i = 100 ∧ t.rehomed = some i)) ∧
  (∀ (s : State) (i n : Nat) (crc same : Bool), i < 6 → s.ddrServes i = true → s.is .DDR_STATUS_REPLAYING i = false →
    n = (if same then (s.ddr i).alerts + 1 else 1) → n < 4 →
    Runs (.alertN i crc same) s (fun t => t.is .DDR_STATUS_REPLAYING i = true ∧ t.ddr i = { s.ddr i with alerts := n, crc := crc } ∧
      t = { s with regs := t.regs, ddrs := t.ddrs })) ∧
  (∀ (s : State) (i : Nat) (crc : Bool), i < 6 → s.ddrServes i = true → s.is .DDR_STATUS_REPLAYING i = false → 3 ≤ (s.ddr i).alerts →
    s.fenced 6 i = false →
    Runs (.alertN i crc true) s (fun t => t.fenced 6 i = true ∧ t.get .DDR_STATUS_STATE i = 4)) ∧
  (∀ (s : State) (i : Nat), i < 6 → s.is .DDR_STATUS_REPLAYING i = true →
    Runs (.alertNHigh i) s (fun t => t.is .DDR_STATUS_REPLAYING i = false ∧ t.get .DDR_ALERT_REPLAYS i = min (s.get .DDR_ALERT_REPLAYS i + 1) (2 ^ Fld.DDR_ALERT_REPLAYS.desc.width - 1) ∧
      t.get .DDR_ALERT_CRC i = (if (s.ddr i).crc then min (s.get .DDR_ALERT_CRC i + 1) (2 ^ Fld.DDR_ALERT_CRC.desc.width - 1) else s.get .DDR_ALERT_CRC i) ∧
      (t.ddr i).behind = false ∧ (∀ k, k / 1024 = i → t.openRow k = none) ∧ t.hostMem = s.hostMem ∧ t.dram = s.dram)) ∧
  (∀ (s : State) (i : Nat), i < 6 → (s.ddr i).asleep = true → s.is .PWR_PSTATE_BUSY = true → s.get .PWR_PSTATE_REQ ≠ 2 →
    bit (s.get .PWR_REQ_ON 0 3) (4 + i) = true → s.rehomed = none →
    Runs (.selfRefreshExit i true) s (fun t => t.get .DDR_STATUS_STATE i = 2 ∧ t.ddr i = { s.ddr i with asleep := false } ∧
      bit (t.get .PWR_STATE_ON 0 3) (4 + i) = true ∧ t.get .DDR_GEOM_GIB i = (s.ddr i).geom.getD 0 0 % 2 ^ Fld.DDR_GEOM_GIB.desc.width ∧
      t = { s with regs := t.regs, ddrs := t.ddrs })) ∧
  (∀ (s : State) (i : Nat), i < 6 → (s.ddr i).asleep = true → s.is .PWR_PSTATE_BUSY = true → s.get .PWR_PSTATE_REQ ≠ 2 →
    bit (s.get .PWR_REQ_ON 0 3) (4 + i) = true → s.fenced 6 i = false →
    Runs (.selfRefreshExit i false) s (fun t => t.fenced 6 i = true ∧ t.get .DDR_STATUS_STATE i = 4)) ∧
  (∀ (s : State) (i n : Nat), i < 6 → s.is .SPG_CTRL_EN i = true → (s.get .DDR_STATUS_STATE i = 2 ∨ s.get .DDR_STATUS_STATE i = 5) →
    s.is .DDR_STATUS_REPLAYING i = false → n = (if s.get .DDR_GEOM_GIB i * 2 ^ 30 ≤ (s.ddr i).spg + 64 then 0 else (s.ddr i).spg + 64) →
    Runs (.spargeRead i 1) s (fun t => t.ddr i = { s.ddr i with spg := n } ∧ t.get .SPG_FOUND_CE i = min (s.get .SPG_FOUND_CE i + 1) (2 ^ Fld.SPG_FOUND_CE.desc.width - 1) ∧
      t.get .SPG_STATUS_PASSES i = (if n = 0 then min (s.get .SPG_STATUS_PASSES i + 1) (2 ^ Fld.SPG_STATUS_PASSES.desc.width - 1) else s.get .SPG_STATUS_PASSES i) ∧
      t = { s with regs := t.regs, ddrs := t.ddrs, banks := t.banks })) ∧
  (∀ (s : State) (i v : Nat), i < 6 → s.reachable .sparge i = true →
    Runs (.spgCtrlWrite i v) s (fun t => OnlyRegs s t (fun f j k => (f = .SPG_CTRL_EN ∨ f = .SPG_CTRL_PERIOD_H) ∧ j = i ∧ k = 0) ∧
      t.is .SPG_CTRL_EN i = v.testBit 31 ∧
      t.get .SPG_CTRL_PERIOD_H i = (if v % 256 = 0 then s.get .SPG_CTRL_PERIOD_H i else v % 256))) ∧
  (∀ (m : DMap) (k x : Nat), k < m.list.length → 0 < m.grain → m.place (m.back k x) = (k, x))

/-- R402, R403, R410, R411, R414: what stands in the flash arrays, and the records of the Cask. -/
def Obligations.CaskRecords : Prop :=
  (∀ (s u : State) (d : Desc) (a n o h : Nat), Accepts s d 0x0901 [(0x10, 1), (0x14, 4), (0x18, 4), (0x20, 8)] → a = d.p 0x10 1 →
    n = d.p 0x14 4 → o = d.p 0x18 4 → a ≤ 1 → n % 256 = 0 → n ≠ 0 → o % 256 = 0 → o + n ≤ s.caskBase a → d.p 0x20 8 % 64 = 0 →
    s.window a = false → h = (s.startedLong d 0x0901).1 → u = (s.startedLong d 0x0901).2 →
    Runs (.flsProgram d) s (fun t => ∃ f : List (Nat × Flash),
      (∀ b, b ≠ a → look {} f b = look {} s.flash b) ∧
      (∀ j, (j < o ∨ o + n ≤ j) → Memory.rd (look {} f a).mem j = Memory.rd (s.array a).mem j) ∧
      ((t = State.done { u with flash := f } h ∧ (State.flashRd { u with flash := f } a o n) = Memory.rds u.hostMem (d.p 0x20 8) n) ∨
       (∃ p, o ≤ p ∧ p < o + n ∧ t = State.finish { u with flash := f } h stCheckFailed p 0)))) ∧
  (∀ (s : State) (a o src : Nat),
    (s.programPages 1 a o src).2.flashRd a o 256 = List.zipWith (fun x y => x &&& y) (s.flashRd a o 256) (Memory.rds s.hostMem src 256)) ∧
  (∀ (s u : State) (d : Desc) (a n o h : Nat), Accepts s d 0x0902 [(0x10, 1), (0x14, 4), (0x18, 4)] → a = d.p 0x10 1 → n = d.p 0x14 4 →
    o = d.p 0x18 4 → a ≤ 1 → n ≠ 0 → 65536 * (o + n) ≤ s.caskBase a → s.window a = false → h = (s.startedLong d 0x0902).1 →
    u = (s.startedLong d 0x0902).2 →
    Runs (.flsErase d) s (fun t => ∃ f : List (Nat × Flash), t = State.done { u with flash := f } h ∧
      (∀ b, b ≠ a → look {} f b = look {} s.flash b) ∧
      (∀ j, 65536 * o ≤ j → j < 65536 * (o + n) → State.flashRd { u with flash := f } a j 1 = [0xFF]) ∧
      (∀ j, (j < 65536 * o ∨ 65536 * (o + n) ≤ j) → Memory.rd (look {} f a).mem j = Memory.rd (s.array a).mem j))) ∧
  (∀ (s : State) (kind key a k : Nat) (x : List Byte), s.is .FLS_STATUS_READY = true → s.fwAway = false → 2 ≤ kind → kind ≤ 6 →
    (s.get .CASK_STATUS_STATE = 1 ∨ s.get .CASK_STATUS_STATE = 3) → s.caskArray = some a → s.caskPlace a (up64 (32 + x.length)) = some k →
    Runs (.caskRecordWrite kind key x) s (fun t =>
      t.cask = s.cask ++ [{ array := a, sector := k, kind := kind, schema := s.get .CASK_SCHEMA_CUR, key := key, seq := s.caskSeq, data := x }] ∧
      (∀ r ∈ s.cask, r.seq < s.caskSeq) ∧ t = { s with cask := t.cask, regs := t.regs } ∧
      OnlyRegs { s with cask := t.cask } t (fun f i _ => (f = .CASK_WEAR_MAX_ERASE ∨ f = .CASK_WEAR_FREE) ∧ i = 0))) ∧
  (∀ (s : State) (kind key : Nat) (x : List Byte), s.is .FLS_STATUS_READY = true → s.fwAway = false → 2 ≤ kind → kind ≤ 6 →
    (s.get .CASK_STATUS_STATE = 1 ∨ s.get .CASK_STATUS_STATE = 3) → s.caskArray = none → s.arrayUsed 0 = true →
    Runs (.caskRecordWrite kind key x) s (fun t => t.cask = s.cask ∧
      t.fw = { s.fw with due := s.fw.due ++ [(kind, s.get .CASK_SCHEMA_CUR, key, x)] } ∧ t.get .CASK_STATUS_DEFERRED = min (s.get .CASK_STATUS_DEFERRED + 1) (2 ^ Fld.CASK_STATUS_DEFERRED.desc.width - 1))) ∧
  (∀ (s : State) (a k : Nat), s.fwAway = false → s.caskArray = some a → (s.caskFree a).length < 48 → k < 256 → s.sectorErased a k = false →
    s.eraseCount a k < 2 ^ 32 → (∀ r ∈ s.cask, r.array = a → r.sector = k → s.caskKeep r = false) →
    (∀ j, j < 256 → j ≠ k → s.sectorErased a j = false → s.eraseCount a k < s.eraseCount a j ∨
      ∃ r ∈ s.cask, r.array = a ∧ r.sector = j ∧ s.caskKeep r = true) →
    Runs .caskCompaction s (fun t => t = (s.eraseSector a k).showWear ∧ t.eraseCount a k = s.eraseCount a k + 1 ∧
      ∀ r, r ∈ t.cask ↔ r ∈ s.cask ∧ ¬ (r.array = a ∧ r.sector = k))) ∧
  (∀ s : State, Runs .caskCompaction s (fun t => ∀ r ∈ s.cask, s.caskKeep r = true →
    ∃ x ∈ t.cask, x.kind = r.kind ∧ x.schema = r.schema ∧ x.key = r.key ∧ x.data = r.data))

/-- R401, R404-R409, R412, R413: the commands of firmware. -/
def Obligations.Firmware : Prop :=
  (∀ s : State, s.is .RST_STATUS_DONE = true → s.powered 130 = true → s.is .FLS_STATUS_READY = false → s.get .RST_STRAPS_BOOT_SRC = 1 →
    Runs .bootRom s (fun t => t.is .FLS_BOOT_WAIT_HOST = true ∧ t.is .FLS_STATUS_READY = false ∧
      OnlyRegs s t (fun f i k => (f = .FLS_STATUS_PRESENT ∨ f = .FLS_BOOT_WAIT_HOST) ∧ i = 0 ∧ k = 0))) ∧
  (∀ (s : State) (a : Nat), s.is .RST_STATUS_DONE = true → s.powered 130 = true → s.is .FLS_STATUS_READY = false →
    2 ≤ s.get .RST_STRAPS_BOOT_SRC → s.bootPointer = none → a = 3 - s.get .RST_STRAPS_BOOT_SRC → s.fwOk (s.arrayFw a) = true →
    Runs .bootRom s (fun t => t.is .FLS_STATUS_READY = true ∧ t.get .FLS_BOOT_SRC = a ∧ t.is .FLS_BOOT_WAIT_HOST = false ∧
      t.fw.image = s.arrayFw a ∧ t.fw.mash = s.arrayMash a ∧ t.is .FLS_XIP_FLA_EN = (a == 0) ∧ t.is .FLS_XIP_FLB_EN = (a == 1) ∧
      t = { s with regs := t.regs, fw := t.fw })) ∧
  (∀ (s : State) (r : CaskRec), s.is .RST_STATUS_DONE = true → s.powered 130 = true → s.is .FLS_STATUS_READY = false →
    2 ≤ s.get .RST_STRAPS_BOOT_SRC → s.bootPointer = some r → s.ptrState = 1 → s.get .FLS_BOOT_TRIES < 2 →
    Runs .bootRom s (fun t => t.get .FLS_BOOT_TRIES = s.get .FLS_BOOT_TRIES + 1 ∧ t.get .FLS_BOOT_STATE = 1 ∧
      t = { s with regs := t.regs, fw := t.fw })) ∧
  (∀ (s : State) (r : CaskRec), s.is .RST_STATUS_DONE = true → s.powered 130 = true → s.is .FLS_STATUS_READY = false →
    2 ≤ s.get .RST_STRAPS_BOOT_SRC → s.bootPointer = some r → s.ptrState = 1 → 2 ≤ s.get .FLS_BOOT_TRIES →
    Runs .bootRom s (fun t => t.is .FLS_BOOT_FELL_BACK = true ∧ t.get .FLS_BOOT_CAUSE = 5 ∧ t = { s with regs := t.regs, fw := t.fw })) ∧
  (∀ (s : State) (n len : Nat), s.reachable .flash 0 = true → s.hostLoadOpen = true → n = s.get .FLS_HOSTLOAD_FW_LEN → n ≤ fwMax → n ≠ 0 →
    len ≠ 0 → len ≤ 0x10000000 → s.dramOk 0 n = true → s.dramPoisoned 0 n = false → s.dramOk 0x10000000 len = true →
    s.dramPoisoned 0x10000000 len = false → s.fwOk (Memory.rds s.dram 0 n) = true →
    Runs (.flsHostloadWrite len) s (fun t => t.is .FLS_STATUS_READY = true ∧ t.get .FLS_BOOT_SRC = 2 ∧ t.fw.image = Memory.rds s.dram 0 n ∧
      t.fw.mash = Memory.rds s.dram 0x10000000 len ∧ t = { s with regs := t.regs, fw := t.fw })) ∧
  (∀ (s : State) (p : Nat) (mash last : Bool) (bs : List Byte), p < 4 → s.wortUp p = true → s.is .RST_STATUS_DONE = true →
    s.powered 130 = true → s.is .FLS_STATUS_READY = false → s.get .RST_STRAPS_BOOT_SRC = 0 → s.is .FLS_BOOT_WAIT_HOST = false →
    (s.fw.wortFrom = none ∨ s.fw.wortFrom = some p) → mash = s.fw.wortDone → (∃ i, i < 6 ∧ s.ddrAlive i = true) →
    Runs (.wortImageLoad p mash bs last) s (fun t =>
      (mash = false → t = { s with fw := { s.fw with wortFrom := some p, wortFw := s.fw.wortFw ++ bs, wortDone := last } }) ∧
      (mash = true → last = false → t = { s with fw := { s.fw with wortFrom := some p, wortMash := s.fw.wortMash ++ bs } }) ∧
      (mash = true → last = true → s.fwOk s.fw.wortFw = true → t.is .FLS_STATUS_READY = true ∧ t.get .FLS_BOOT_SRC = 3 ∧
        t.fw.image = s.fw.wortFw ∧ t.fw.mash = s.fw.wortMash ++ bs))) ∧
  (∀ (s : State) (own fault : Nat) (l : List Nat), s.is .FLS_STATUS_READY = true → s.fw.settings = false → s.frontFree = true →
    s.arrayUsed 0 = false → s.arrayUsed 1 = false → s.fullImage = none →
    Runs (.bootImageCommit own l fault) s (fun t => t.fw = { s.fw with settings := true, booted := true } ∧ t.get .MASH_STATUS_STATE = 1 ∧
      t.loading = some { handle := 0, source := 0, host := false, length := s.fw.mash.length, bytes := s.fw.mash, boot := true } ∧
      t = { s with regs := t.regs, fw := t.fw, loading := t.loading })) ∧
  (∀ (s : State) (own fault : Nat) (l : List Nat), s.is .FLS_STATUS_READY = true → s.fw.settings = false → s.frontFree = true →
    s.arrayUsed 0 = true → (fault = 2 ∨ fault = 3) →
    Runs (.bootImageCommit own l fault) s (fun t => t.get .FLS_BOOT_CAUSE = (if (s.settingsOf own l).1 = 0 then 1 else fault) ∧
      t.get .CASK_STATUS_STATE = 4 ∧ t.loading = s.loading ∧ t.cask = s.cask ∧ t.flash = s.flash)) ∧
  (∀ s : State, s.is .FLS_STATUS_READY = true → s.fw.settings = true → s.onTrial = true → s.get .FLS_BOOT_CAUSE = 0 →
    s.fullImage.isSome = true →
    Runs .bootSettle s (fun t => t.get .FLS_BOOT_STATE = 0 ∧ t.get .FLS_BOOT_TRIES = 0 ∧ t.is .FLS_BOOT_FELL_BACK = false ∧
      t = { s with regs := t.regs, cask := t.cask, fw := t.fw })) ∧
  (∀ s : State, s.is .FLS_STATUS_READY = true → s.fw.settings = true → s.onTrial = true → s.get .FLS_BOOT_CAUSE ≠ 0 →
    ¬ (s.get .FLS_BOOT_CAUSE = 4 ∧ s.fewDdr = true) →
    Runs .bootSettle s (fun t => t.get .FLS_BOOT_STATE = 2 ∧ t = { s with regs := t.regs, cask := t.cask, fw := t.fw })) ∧
  (∀ s : State, s.fwAway = false → s.get .CASK_STATUS_STATE = 2 → s.caskArray.isSome = true →
    Runs .caskMigration s (fun t => t.get .CASK_STATUS_STATE = 3 ∧ (∀ r ∈ s.cask, r ∈ t.cask) ∧ t.flash = s.flash)) ∧
  (∀ (s u : State) (d : Desc) (h : Nat), Accepts s d 0x0903 [(0x10, 1)] → d.p 0x10 1 = 0 → s.get .CASK_STATUS_STATE = 3 →
    s.fwAway = false → h = (s.startedLong d 0x0903).1 →
    u = (((s.startedLong d 0x0903).2.caskDrop (fun r => r.kind != 1 && decide (r.schema < s.get .CASK_SCHEMA_CUR))).set
      .CASK_SCHEMA_PINNED 0).set .CASK_STATUS_STATE 1 →
    Runs (.caskConfirm d) s (fun t => t = u.done h ∧
      u.cask = s.cask.filter (fun r => !(r.kind != 1 && decide (r.schema < s.get .CASK_SCHEMA_CUR))))) ∧
  (∀ (s : State) (d : Desc), Accepts s d 0x0903 [(0x10, 1)] → d.p 0x10 1 = 0 → s.get .CASK_STATUS_STATE = 3 → s.fwAway = true →
    Runs (.caskConfirm d) s (fun t => t = { (s.startedLong d 0x0903).2 with fwDue := s.fwDue ++ [((s.startedLong d 0x0903).1, .caskConfirm d)] })) ∧
  (∀ (s : State) (d : Desc), Accepts s d 0x0903 [(0x10, 1)] → s.fwAway = false → d.p 0x10 1 = 1 → 1 ≤ s.get .FLS_BOOT_CAUSE → s.get .FLS_BOOT_CAUSE ≤ 3 →
    s.fullImage = none → s.frontFree = true → s.is .FLS_STATUS_READY = true →
    Runs (.caskConfirm d) s (fun t => t.get .FLS_BOOT_CAUSE = 0 ∧ t.get .CASK_STATUS_STATE = 1 ∧ t.binds = [] ∧
      t.get .MASH_STATUS_STATE = 1 ∧ t.flash = s.flash)) ∧
  (∀ (s : State) (v : Nat), s.reachable .flash 0 = true →
    Runs (.flsXipWrite true v) s (fun t => t.is .FLS_XIP_FLA_EN = bit v 0 ∧ t.is .FLS_XIP_FLB_EN = bit v 1 ∧ t.flash = s.flash ∧
      (∀ r ∈ s.cask, r ∈ t.cask) ∧ (v % 4 = 3 → t.cask = s.cask ∧ t.fw = s.fw) ∧ t = { s with regs := t.regs, cask := t.cask, fw := t.fw })) ∧
  (∀ (s : State) (v : Nat), Runs (.flsXipWrite false v) s (fun t => t = s)) ∧
  (∀ (s : State) (d : Desc) (a h : Nat) (b : List Byte), Accepts s d 0x0904 [(0x10, 1), (0x11, 1), (0x12, 1), (0x14, 4), (0x18, 8)] →
    d.p 0x10 1 = 0 → a = d.p 0x11 1 → a ≤ 1 → d.p 0x12 1 ≤ 1 → d.p 0x14 4 ≠ 0 → d.p 0x14 4 ≤ fwMax → d.p 0x18 8 = 0 → s.fw.hand = none →
    s.get .MASH_STATUS_STATE ≠ 4 → b = s.flashRd a 0x1000 (d.p 0x14 4) → s.arrayUsed a = true → s.fwOk b = true →
    s.fwBand (fwVersion b) = true → h = (s.startedLong d 0x0904).1 →
    Runs (.fwHandover d) s (fun t => t.is .FLS_STATUS_HANDOVER = true ∧ t.fw.hand = some { handle := h, image := b, src := a, setBoot := bit (d.p 0x12 1) 0, old := s.get .FLS_BOOT_SRC } ∧
      (if a = 0 then t.is .FLS_XIP_FLA_EN else t.is .FLS_XIP_FLB_EN) = true ∧ t.flash = s.flash ∧ t.dram = s.dram ∧ t.kiln = s.kiln)) ∧
  (∀ (s : State) (ms own fault : Nat) (l : List Nat) (x : Handover), s.fw.hand = some x → s.fwDue = [] → ms ≤ 200 →
    ((s.arrayUsed 0 = false ∧ s.arrayUsed 1 = false) ∨ ((s.settingsOf own l).1 ≠ 0 ∧ fault ≠ 2 ∧ fault ≠ 3)) →
    Runs (.handoverFreeze ms own l fault none) s (fun t => t.get .FLS_BOOT_SRC = x.src % 2 ^ Fld.FLS_BOOT_SRC.desc.width ∧
      t.get .FLS_FW_VER_VERSION = fwVersion x.image % 2 ^ Fld.FLS_FW_VER_VERSION.desc.width ∧ t.get .FLS_HANDOVER_LAST_MS = ms % 2 ^ Fld.FLS_HANDOVER_LAST_MS.desc.width ∧
      t.get .FLS_HANDOVER_COUNT = min (s.get .FLS_HANDOVER_COUNT + 1) (2 ^ Fld.FLS_HANDOVER_COUNT.desc.width - 1) ∧ t.is .FLS_STATUS_HANDOVER = false ∧ t.fw.hand = none ∧ t.fw.image = x.image ∧ t.flash = s.flash)) ∧
  (∀ (s : State) (ms own fault : Nat) (l : List Nat) (x : Handover), s.fw.hand = some x → ms ≤ 200 →
    (s.arrayUsed 0 = true ∨ s.arrayUsed 1 = true) → ((s.settingsOf own l).1 = 0 ∨ fault = 2 ∨ fault = 3) →
    Runs (.handoverFreeze ms own l fault none) s (fun t => t = s.handBack x 2)) ∧
  (∀ (s : State) (ms own fault i v : Nat) (l : List Nat), s.manages = true → s.fwAway = false →
    Runs (.handoverFreeze ms own l fault (some (i, v))) s (fun t => t = s.checkBand i v ∧ ∀ x, s.dev i = some x → ∃ y, t.dev i = some y ∧
      y.fw = v ∧ bit y.cause hFW = ((s.bind i).bound && !decide ((s.bind i).fwMin ≤ v ∧ v ≤ (s.bind i).fwMax)))) ∧
  (∀ (s : State) (x : Handover), s.fw.hand = some x → Runs .handoverTimeout s (fun t => t = s.handBack x 1)) ∧
  (∀ (s : State) (x : Handover), s.fw.hand = some x → s.fwDue = [] →
    Runs .handoverTimeout s (fun t => t.is .FLS_STATUS_HANDOVER = false ∧ t.fw.hand = none ∧ t.fw.image = s.fw.image ∧
      t.get .FLS_HANDOVER_HANDBACKS = min (s.get .FLS_HANDOVER_HANDBACKS + 1) (2 ^ Fld.FLS_HANDOVER_HANDBACKS.desc.width - 1) ∧ t.get .FLS_BOOT_STATE = s.get .FLS_BOOT_STATE ∧ t.flash = s.flash))

/-- R386, R387, R389-R394, R441: the background work. -/
def Obligations.BackgroundWork : Prop :=
  (∀ (s : State) (c : Nat) (v : Int) (g : List (List Nat)), c < 64 → s.powered c = true → s.uses .headPort c = true → s.fenced 1 c = false →
    Runs (.recalibration 0 c v g) s (fun t => t = if 8 < v.natAbs then s.telEvent 0x000A c else
      s.calibrate c v)) ∧
  (∀ (s : State) (c : Nat) (v : Int) (g : List (List Nat)), c < 64 → s.powered 123 = true → s.uses .sightGlass 0 = true →
    s.fenced 9 c = false →
    Runs (.recalibration 1 c v g) s (fun t => t = if 100 < v.natAbs then s.telEvent 0x000B c else
      (s.calibrate (64 + c) v).takeCalib (64 + c) 1)) ∧
  (∀ (s : State) (i : Nat) (v : Int) (g : List (List Nat)), i < 6 → s.ddrServes i = true →
    Runs (.recalibration 2 i v g) s (fun t => ∃ x : Int, -1 ≤ x ∧ x ≤ 1 ∧ (-1 ≤ v → v ≤ 1 → x = v) ∧
      t = s.calibrate (128 + i) x)) ∧
  (∀ (s : State) (i : Nat) (v : Int) (g : List (List Nat)), i < 40 → s.powered 130 = true →
    Runs (.recalibration 3 i v g) s (fun t => ∃ x : Int, -16 ≤ x ∧ x ≤ 16 ∧ (-16 ≤ v → v ≤ 16 → x = v) ∧
      t = s.calibrate (192 + i) x)) ∧
  (∀ (s : State) (x i : Nat) (v : Int) (g : List (List Nat)), x < 8 → i = s.pipeOf x → s.powered (114 + i) = true → s.hasSect 0x0041 i = true →
    s.hasSect 0x0040 x = true → s.fenced 7 x = false → bit (s.get .ISP_RECAL_PORT i) x = true → s.get .ISP_SHADOW_CTRL_PORT i = x →
    Runs (.recalibration 4 x v g) s (fun t => t.cam x = { s.cam x with shadow := some (g.map (fun l => l.map (trunc 16))) } ∧
      (∀ y, y ≠ x → t.cam y = s.cam y) ∧ t.calib = s.calib ∧ t = { s with cams := t.cams, regs := t.regs })) ∧
  (∀ (s : State) (c id : Nat) (l : List (List (Bool × Bool))), c < 64 → s.powered c = true → s.is .FIRE_CH_STATUS_ENABLED c = true →
    idOf l = some id → id ≠ 0 → s.headSeen c = true → (look {} s.heads c).id = id →
    Runs (.headIdRead c l) s (fun t => t = if s.gravOn c then (s.setChan c { s.chan c with headId := id }).startChannel c
      else s.setChan c { s.chan c with headId := id })) ∧
  (∀ (s : State) (c id : Nat) (l : List (List (Bool × Bool))), c < 64 → s.powered c = true → s.is .FIRE_CH_STATUS_ENABLED c = true →
    idOf l = some id → (look {} s.heads c).id ≠ id → (s.chan c).headId ≠ 0 →
    Runs (.headIdRead c l) s (fun t => (look {} t.heads c).id = id ∧ (look {} t.heads c).lines = 0 ∧ (∀ n, n < 2560 → look 0 t.shots (2560 * c + n) = 0) ∧
      (t.chan c).headId = id ∧ t.kiln = s.kiln ∧ t.flash = s.flash)) ∧
  (∀ (s : State) (c : Nat) (l : List (List (Bool × Bool))), idOf l = none → Runs (.headIdRead c l) s (fun t => t = s)) ∧
  (∀ l : List (List (Bool × Bool)), l.length = 3 → (∀ r ∈ l, idOk r = none) → idOf l = some 0) ∧
  (∀ s : State, s.is .FLS_STATUS_READY = true → s.fwAway = false → s.get .CASK_STATUS_STATE ≠ 0 →
    s.get .CASK_STATUS_STATE ≠ 4 → Runs .checkpoint s (fun t => t = s.saveCounts.telEvent 0x000D 0)) ∧
  (∀ s : State, s.is .FLS_STATUS_READY = true → s.fwAway = true →
    Runs .checkpoint s (fun t => t = { s with fw := { s.fw with ckptDue := true } })) ∧
  (∀ (s u : State) (d : Desc) (c n h : Nat), Accepts s d 0x0302 [(0x10, 1), (0x11, 1), (0x12, 2), (0x14, 2), (0x18, 8)] → c = d.p 0x10 1 →
    n = d.p 0x14 2 → c < 64 → n ≠ 0 → d.p 0x18 8 % 64 = 0 →
    (d.p 0x11 1 = 0 ∧ d.p 0x12 2 + n ≤ s.chNozzles c ∨ d.p 0x11 1 = 1 ∧ d.p 0x12 2 = 0 ∧ n = 1) → h = (s.startedLong d 0x0302).1 →
    u = (s.startedLong d 0x0302).2 →
    Runs (.fireCountsRead d) s (fun t => t = State.done { u with hostMem := Memory.wrs u.hostMem (d.p 0x18 8) (if d.p 0x11 1 = 0 then (((s.counts c 2560).drop (d.p 0x12 2)).take n).flatMap (leBytes 8) else s.headRecord c) } h
        (s.countedLine c % 2 ^ 32))) ∧
  (∀ (s : State) (c : Nat), (s.headRecord c).length = 64) ∧
  (∀ (s : State) (i v : Nat), s.powered 130 = true → i < 40 → -16384 ≤ toSigned 16 v → toSigned 16 v < 16384 →
    Runs (.telemetrySample false i v) s (fun t => t.geti .TEL_TEMP_NOW 0 i = toSigned 16 v ∧
      t.geti .TEL_TEMP_MAX 0 i = max (toSigned 16 v) (s.geti .TEL_TEMP_MAX 0 i) ∧ t.supplies = s.supplies)) ∧
  (∀ (s : State) (i v : Nat) (a b : Nat), s.powered 130 = true → i < 32 → s.supplies.find? (fun e => e.1 == i) = some (i, a, b) →
    Runs (.telemetrySample true i v) s (fun t => t.supplies.find? (fun e => e.1 == i) = some (i, min a (v % 65536), max b (v % 65536)) ∧
      ∀ j, t.geti .TEL_TEMP_NOW 0 j = s.geti .TEL_TEMP_NOW 0 j)) ∧
  (∀ (s : State) (i v : Nat), s.powered 130 = true → i < 32 → s.supplies.find? (fun e => e.1 == i) = none →
    Runs (.telemetrySample true i v) s (fun t => t.supplies.find? (fun e => e.1 == i) = some (i, v % 65536, v % 65536))) ∧
  (∀ s : State, s.snapBytes.length = 1024) ∧
  (∀ s : State, s.powered 130 = true → s.snaps.length ≤ 256 →
    Runs .snapshot s (fun t => t.lastSnap = s.snapBytes ∧ t.snaps = (if s.snaps.length < 256 then s.snaps else s.snaps.drop 1) ++ [s.snapBytes] ∧
      t.supplies = [] ∧ t.supplyMask = 0 ∧ (s.snaps.length < 256 → t.regs = s.regs) ∧
      (s.snaps.length = 256 → t.get .TEL_STATUS_SNAP_LOST = min (s.get .TEL_STATUS_SNAP_LOST + 1) (2 ^ Fld.TEL_STATUS_SNAP_LOST.desc.width - 1)))) ∧
  (∀ e : TelEvt, e.bytes.length = 16) ∧
  (∀ (s u : State) (d : Desc) (n h : Nat), Accepts s d 0x0803 [(0x10, 1), (0x14, 4), (0x18, 8)] → d.p 0x10 1 ≤ 1 → n = d.p 0x14 4 → n ≠ 0 →
    d.p 0x18 8 % 64 = 0 → h = (s.startedLong d 0x0803).1 → u = (s.startedLong d 0x0803).2 →
    Runs (.telRead d) s (fun t =>
      (d.p 0x10 1 = 0 → t = State.done { u with hostMem := Memory.wrs u.hostMem (d.p 0x18 8) (u.snaps.take n).flatten, snaps := u.snaps.drop n } h
        (u.snaps.take n).length) ∧
      (d.p 0x10 1 = 1 → t = State.done { u with hostMem := Memory.wrs u.hostMem (d.p 0x18 8) ((u.telLog.take n).flatMap TelEvt.bytes), telLog := u.telLog.drop n } h (u.telLog.take n).length)))

/-- R378, R395-R398: fences. -/
def Obligations.Fences : Prop :=
  (∀ (s u : State) (d : Desc) (k i h : Nat), Accepts s d 0x0801 [(0x10, 1), (0x11, 1)] → k = d.p 0x10 1 → i = d.p 0x11 1 → k ≠ 6 →
    s.fenceRange d = true → s.fenced k i = false → h = (s.started d 0x0801).1 → u = (s.started d 0x0801).2.fenceUnit k i →
    Runs (.fenceSet d) s (fun t => t = u.done h 0 ∧ u.fenced k i = true)) ∧
  (∀ (s : State) (d : Desc) (k i : Nat), Accepts s d 0x0801 [(0x10, 1), (0x11, 1)] → k = d.p 0x10 1 → i = d.p 0x11 1 → k ≠ 6 →
    s.fenceRange d = true → s.fenced k i = true →
    Runs (.fenceSet d) s (fun t => t = State.done (s.started d 0x0801).2 (s.started d 0x0801).1 1)) ∧
  (∀ (s u : State) (d : Desc) (i h : Nat), Accepts s d 0x0801 [(0x10, 1), (0x11, 1)] → d.p 0x10 1 = 6 → i = d.p 0x11 1 →
    s.fenceRange d = true → s.evacOk i = true → s.get .DDR_STATUS_STATE i ≠ ddrEvac → s.fenced 6 i = false → h = (s.started d 0x0801).1 →
    u = (((s.started d 0x0801).2.set .DDR_STATUS_STATE ddrEvac i).set .SPG_STATUS_PASS_PCT 0 i).setDdr i
      { s.ddr i with evac := some s.now, spg := 0, copied := 0, healed := [] } →
    Runs (.fenceSet d) s (fun t => t = u.done h 2)) ∧
  (∀ (s : State) (d : Desc) (i : Nat), Accepts s d 0x0801 [(0x10, 1), (0x11, 1)] → d.p 0x10 1 = 6 → i = d.p 0x11 1 → s.fenceRange d = true →
    s.fenced 6 i = true → (s.evacOk i = true ∨ 0 < s.dmap.spare ∧ s.rehomed.all (· == i) = true) →
    Runs (.fenceSet d) s (fun t => t = State.done (s.started d 0x0801).2 (s.started d 0x0801).1 1)) ∧
  (∀ (s u : State) (d : Desc) (k i h : Nat), Accepts s d 0x0802 [(0x10, 1), (0x11, 1)] → k = d.p 0x10 1 → i = d.p 0x11 1 → k ≠ 6 →
    s.fenceRange d = true → s.fenced k i = true → s.fencePowered k i = true → (k = 1 → s.twoDown = false) → h = (s.startedLong d 0x0802).1 →
    u = (s.startedLong d 0x0802).2 →
    Runs (.fenceLift d true) s (fun t => t = State.done (u.liftUnit k i) h ((u.liftUnit k i).liftLine k i))) ∧
  (∀ (s : State) (d : Desc) (k i h : Nat) (ok : Bool), Accepts s d 0x0802 [(0x10, 1), (0x11, 1)] → k = d.p 0x10 1 → i = d.p 0x11 1 → k ≠ 6 →
    s.fenceRange d = true → s.fenced k i = true → s.fencePowered k i = true → (ok = false ∨ k = 1 ∧ s.twoDown = true) →
    h = (s.startedLong d 0x0802).1 →
    Runs (.fenceLift d ok) s (fun t => t = State.finish (s.startedLong d 0x0802).2 h stCheckFailed 0 (s.get .FENCE_LAST_CAUSE))) ∧
  (∀ (s : State) (k i cause : Nat), i < 64 → s.fenced k i = false → let t := s.recordFence k i cause
    t.fenced k i = true ∧ (∀ j l, l < 64 → ¬ (j = k ∧ l = i) → t.fenced j l = s.fenced j l) ∧ t.get .FENCE_LAST_CLASS = k % 2 ^ Fld.FENCE_LAST_CLASS.desc.width ∧
    t.get .FENCE_LAST_INDEX = i % 2 ^ Fld.FENCE_LAST_INDEX.desc.width ∧ t.get .FENCE_LAST_CAUSE = cause % 2 ^ Fld.FENCE_LAST_CAUSE.desc.width ∧ SameMemory s t ∧
    t.chans = s.chans ∧ t.kiln = s.kiln) ∧
  (∀ (s : State) (k i cause : Nat), s.fenced k i = true → s.recordFence k i cause = s) ∧
  (∀ (s : State) (k i : Nat), let t := s.recordLift k i
    t.fenced k i = false ∧ (∀ j l, l < 64 → ¬ (j = k ∧ l = i) → t.fenced j l = s.fenced j l) ∧ t.get .FENCE_LAST_CAUSE = s.get .FENCE_LAST_CAUSE ∧
    SameMemory s t ∧ t.chans = s.chans)

/-- R424-R430: the commands of the viewport. -/
def Obligations.Viewport : Prop :=
  (∀ s : State, s.reachable .viewport 0 = true → s.vpErr ≠ 0 →
    Runs .vpCommit s (fun t => OnlyRegs s t (fun f i k => (f = .VP_STATUS_ERR ∨ f = .VP_STATUS_PENDING) ∧ i = 0 ∧ k = 0) ∧
      t.get .VP_STATUS_ERR = s.vpErr % 2 ^ Fld.VP_STATUS_ERR.desc.width ∧ t.is .VP_STATUS_PENDING = false)) ∧
  (∀ s : State, s.reachable .viewport 0 = true → s.vpErr = 0 →
    Runs .vpCommit s (fun t => t.is .VP_STATUS_PENDING = true ∧ t.vp.cfg = s.vp.cfg ∧ t.vp.touched = true ∧ t.vp.line = s.vp.line ∧
      OnlyRegs { s with vp := t.vp } t (fun f i k => f = .VP_STATUS_PENDING ∧ i = 0 ∧ k = 0))) ∧
  (∀ s : State, s.powered 128 = true → s.is .VP_STATUS_PENDING = true →
    (s.vp.cfg.en = false ∨ s.vpVideo = true ∧ s.vp.line = s.vp.cfg.vact ∧ s.vp.porch = 0 ∧ s.vp.late = false) →
    Runs .vpShadowCapture s (fun t => t.vp.cfg = s.vpShadow ∧ t.is .VP_STATUS_PENDING = false ∧ t.is .VP_STATUS_RUNNING = t.vpVideo ∧
      t.get .VP_COUNTS_COMMITS = min (s.get .VP_COUNTS_COMMITS + 1) (2 ^ Fld.VP_COUNTS_COMMITS.desc.width - 1) ∧ SameMemory s t)) ∧
  (∀ s : State, s.reachable .viewport 0 = true →
    (s.is .VP_CMD_CTRL_BUSY = true ∨ s.get .VP_CMD_CTRL_DT ∉ [0x05, 0x15, 0x39, 0x29] ∨ 16 < s.get .VP_CMD_CTRL_LEN) →
    Runs .vpCmdSend s (fun t => OnlyRegs s t (fun f i k => f = .VP_STATUS_CMD_ERR ∧ i = 0 ∧ k = 0) ∧ t.is .VP_STATUS_CMD_ERR = true)) ∧
  (∀ (s : State) (b : List Byte), s.reachable .viewport 0 = true → s.is .VP_CMD_CTRL_BUSY = false →
    s.get .VP_CMD_CTRL_DT ∈ [0x05, 0x15, 0x39, 0x29] → s.get .VP_CMD_CTRL_LEN ≤ 16 →
    b = ((List.range 4).flatMap (fun w => leBytes 4 (s.get .VP_CMD_DATA_BYTES 0 w))).take (s.get .VP_CMD_CTRL_LEN) →
    Runs .vpCmdSend s (fun t =>
      (s.vpVideo = true → t.vp = { s.vp with cmd := some (s.get .VP_CMD_CTRL_DT, b) } ∧ t.is .VP_CMD_CTRL_BUSY = true ∧ t.outbox = s.outbox) ∧
      (s.vpVideo = false → t.vp = { s.vp with cmd := none } ∧ t.is .VP_CMD_CTRL_BUSY = false ∧
        t.outbox = .bus "dsiCommand" (s.get .VP_CMD_CTRL_DT :: b.map BitVec.toNat) :: s.outbox))) ∧
  (∀ (s : State) (k : Nat), s.powered 128 = true → s.vpVideo = true → k = s.vp.line → k + 1 < s.vp.cfg.vact → (s.vpPixels k).2 = false →
    s.vp.black = false →
    Runs .vpVideoLine s (fun t => t = { s with vp := { s.vp with line := k + 1, porch := 0, black := false }, banks := t.banks, outbox := .bus "dsiLine" [k, 0, leNat (s.vpPixels k).1] :: s.outbox })) ∧
  (∀ (s : State) (k : Nat), s.powered 128 = true → s.vpVideo = true → k = s.vp.line → k + 1 < s.vp.cfg.vact → (s.vpPixels k).2 = true →
    s.vp.black = false →
    Runs .vpVideoLine s (fun t => t.outbox = .bus "dsiLine" [k, 1, leNat (s.vpPixels k).1] :: s.outbox ∧ t.vp.line = k + 1 ∧
      OnlyRegs { s with vp := t.vp, outbox := t.outbox, banks := t.banks } t (fun f i j => f = .VP_COUNTS_UNDERRUN ∧ i = 0 ∧ j = 0) ∧
      t.get .VP_COUNTS_UNDERRUN = min (s.get .VP_COUNTS_UNDERRUN + 1) (2 ^ Fld.VP_COUNTS_UNDERRUN.desc.width - 1))) ∧
  (∀ s : State, s.powered 128 = true → s.vpVideo = true → s.vp.cfg.vact < s.vp.line → s.vp.line < s.vp.cfg.vact + s.vp.cfg.vrest →
    Runs .vpVideoLine s (fun t => t = { s with vp := { s.vp with line := s.vp.line + 1 } })) ∧
  (∀ s : State, s.powered 128 = true → s.vpVideo = true → s.vp.line = s.vp.cfg.vact + s.vp.cfg.vrest → 0 < s.vp.cfg.vrest →
    Runs .vpVideoLine s (fun t => t.vp.line = 0 ∧ t.vp.porch = 0 ∧ t.is .VP_STATUS_EXTENDED = false ∧ t.vp.cfg = s.vp.cfg)) ∧
  (∀ s : State, s.powered 128 = true → s.vpStatic = true → s.vp.line = s.vp.cfg.vact →
    Runs .staticBlankExtend s (fun t => t.is .VP_STATUS_EXTENDED = true ∧ OnlyRegs s t (fun f i k => f = .VP_STATUS_EXTENDED ∧ i = 0 ∧ k = 0))) ∧
  (∀ s : State, s.powered 128 = true → s.vp.cfg.en = true → s.vp.black = false →
    Runs .vpLineUnderrun s (fun t => t.vp = { s.vp with black := s.vpVideo } ∧ t.get .VP_COUNTS_UNDERRUN = min (s.get .VP_COUNTS_UNDERRUN + 1) (2 ^ Fld.VP_COUNTS_UNDERRUN.desc.width - 1) ∧
      OnlyRegs { s with vp := t.vp } t (fun f i k => f = .VP_COUNTS_UNDERRUN ∧ i = 0 ∧ k = 0))) ∧
  (∀ s : State, s.reachable .viewport 0 = true → s.vpCommand = true →
    Runs .vpRefresh s (fun t => t = { s with vp := { s.vp with due := true, refresh := true } })) ∧
  (∀ (s : State) (r : Bool), s.powered 128 = true → s.vpCommand = true → s.vp.due = true → r ≠ s.vp.cfg.tePol →
    s.is .VP_STATUS_PENDING = false →
    Runs (.teInEdge r) s (fun t => t = State.each { s with vp := { s.vp with due := false, touched := false, refresh := false } } s.vp.cfg.vact State.vpSendLine ∧
      t.vp.due = false ∧ t.vp.cfg = s.vp.cfg)) ∧
  (∀ (s : State) (r : Bool), s.powered 128 = true → s.vpCommand = true → s.vp.due = true → r ≠ s.vp.cfg.tePol →
    s.is .VP_STATUS_PENDING = true → s.vpShadow.en = true → s.vpShadow.mode = true →
    Runs (.teInEdge r) s (fun t => t.vp.cfg = s.vpShadow ∧ t.is .VP_STATUS_PENDING = false ∧ t.vp.due = false ∧ t.get .VP_COUNTS_COMMITS = min (s.get .VP_COUNTS_COMMITS + 1) (2 ^ Fld.VP_COUNTS_COMMITS.desc.width - 1))) ∧
  (∀ s : State, s.powered 128 = true → s.vpCommand = true → s.vp.due = true → s.is .VP_STATUS_PENDING = false →
    Runs .teTimeout s (fun t => t = s.vpTransfer.bump .VP_COUNTS_NO_TE ∧ t.vp.due = false ∧ t.get .VP_COUNTS_NO_TE = min (s.get .VP_COUNTS_NO_TE + 1) (2 ^ Fld.VP_COUNTS_NO_TE.desc.width - 1)))

/-- R59: a request for P1 or P2 that the motion, a grant buffer or STEP_OWN forbids sets REFUSED, gives REQ the value of CUR and changes
nothing else; one that they allow is taken, but for a P2 that would lose a rank of the job's data (R381); a request for P0 is taken always, and one for P2
in P2 puts DDR channels that are up back into self-refresh. -/
def Obligations.PowerStateRequest : Prop :=
  (∀ (s : State) (v : Nat), (v = 1 ∨ v = 2) →
    ¬ (s.axStopped = true ∧ (∀ e ∈ s.chans, e.2.grant = []) ∧ s.trio.pulling = false) →
    Runs (.pstateRequest v) s (fun t => t.is .PWR_PSTATE_REFUSED = true ∧ t.get .PWR_PSTATE_REQ = s.get .PWR_PSTATE_CUR % 4 ∧
      OnlyRegs s t (fun f i k => (f = .PWR_PSTATE_REFUSED ∨ f = .PWR_PSTATE_REQ) ∧ i = 0 ∧ k = 0))) ∧
  (∀ (s : State) (v : Nat), (v = 1 ∨ v = 2) → s.axStopped = true → (∀ e ∈ s.chans, e.2.grant = []) → s.trio.pulling = false →
    ¬ (v = 2 ∧ s.losesRank = true ∧ s.is .MOT_STATUS_JOB = true) → (v = 2 → s.get .PWR_PSTATE_CUR ≠ 2) →
    Runs (.pstateRequest v) s (fun t => t.get .PWR_PSTATE_REQ = v ∧ t.is .PWR_PSTATE_BUSY = (s.get .PWR_PSTATE_CUR != v) ∧
      t.get .PWR_PSTATE_REFUSED = s.get .PWR_PSTATE_REFUSED ∧
      OnlyRegs s t (fun f i k => (f = .PWR_PSTATE_REQ ∨ f = .PWR_PSTATE_BUSY) ∧ i = 0 ∧ k = 0))) ∧
  (∀ s : State, s.axStopped = true → (∀ e ∈ s.chans, e.2.grant = []) → s.trio.pulling = false → s.get .PWR_PSTATE_CUR = 2 →
    ¬ (s.losesRank = true ∧ s.is .MOT_STATUS_JOB = true) →
    Runs (.pstateRequest 2) s (fun t => t = ((s.set .PWR_PSTATE_REQ 2).ddrSleep).off .PWR_PSTATE_BUSY)) ∧
  (∀ s : State, Runs (.pstateRequest 0) s (fun t => t.get .PWR_PSTATE_REQ = 0 ∧ t.is .PWR_PSTATE_BUSY = (s.get .PWR_PSTATE_CUR != 0) ∧
      OnlyRegs s t (fun f i k => (f = .PWR_PSTATE_REQ ∨ f = .PWR_PSTATE_BUSY) ∧ i = 0 ∧ k = 0)))

/-- R55-R58: domain switching and the completion of a power state change. -/
def Obligations.PowerDomains : Prop :=
  (∀ (s : State) (n v : Nat), n < 5 →
    Runs (.pwrReqWrite n v) s (fun t => OnlyRegs s t (fun f i k => (f = .PWR_REQ_ON ∨ f = .PWR_ERR_REFUSED) ∧ i = 0 ∧ k = n) ∧
      ∀ i, i < (if n = 4 then 4 else 32) →
        bit (t.get .PWR_REQ_ON 0 n) i = (bit v i || ((bit (s.get .PWR_REQ_ON 0 n) i || s.powered (32 * n + i)) && s.offRefused (32 * n + i))) ∧
        bit (t.get .PWR_ERR_REFUSED 0 n) i = (bit (s.get .PWR_ERR_REFUSED 0 n) i ||
          (!bit v i && (bit (s.get .PWR_REQ_ON 0 n) i || s.powered (32 * n + i)) && s.offRefused (32 * n + i))))) ∧
  (∀ (s : State) (n : Nat) (l : List Nat), s.is .RST_STATUS_DONE = true → s.get .PWR_PSTATE_CUR ≠ 2 → s.switching.filter (fun n => !s.powered n || s.quiescent n) = n :: l →
    s.powered n = true → Runs .domainSwitch s (fun t => t = s.domainDown n ∧ t.powered n = false)) ∧
  (∀ (s : State) (n : Nat) (l : List Nat), s.is .RST_STATUS_DONE = true → s.get .PWR_PSTATE_CUR ≠ 2 → s.switching.filter (fun n => !s.powered n || s.quiescent n) = n :: l →
    s.powered n = false → s.sectsOf n = [] → Runs .domainSwitch s (fun t => t = s.domainUp n ∧ t.powered n = true)) ∧
  (∀ (s : State) (n : Nat) (l : List Nat), s.is .RST_STATUS_DONE = true → s.get .PWR_PSTATE_CUR ≠ 2 → s.switching.filter (fun n => !s.powered n || s.quiescent n) = n :: l →
    s.powered n = false → s.sectsOf n ≠ [] → Runs .domainSwitch s (fun t => t = (s.domainUp n).rewriteSame 2)) ∧
  (∀ s : State, s.is .PWR_PSTATE_BUSY = true → s.get .PWR_PSTATE_CUR ≠ 2 → s.get .PWR_PSTATE_REQ = 0 →
    Runs .pstateTransitionDone s (fun t => OnlyRegs s t (fun f i k => (f = .PWR_PSTATE_CUR ∨ f = .PWR_PSTATE_BUSY) ∧ i = 0 ∧ k = 0) ∧
      t.get .PWR_PSTATE_CUR = 0 ∧ t.is .PWR_PSTATE_BUSY = false)) ∧
  (∀ s : State, s.is .PWR_PSTATE_BUSY = true → s.get .PWR_PSTATE_CUR ≠ 2 → s.get .PWR_PSTATE_REQ = 1 →
    Runs .pstateTransitionDone s (fun t => t.get .PWR_PSTATE_CUR = 1 ∧ t.is .PWR_PSTATE_BUSY = false ∧
      (∀ c, c < 64 → t.headOn c = false) ∧ (∀ n, t.powered n = s.powered n) ∧ SameMemory s t ∧
      ∀ c, t.chan c = s.chan c ∨ s.headOn c = true ∧ t.chan c = { s.chan c with settling := false, cut := false }))

/-- R39-R48, R53, R101: the resets, by what each loses and keeps, and the release sequence. That a loss of the PLL empties the DRAM is log
entry 115, that the sequence releases every domain is entry 114. -/
def Obligations.Resets : Prop :=
  (∀ (s : State) (b : Bool), let t := s.warmReset b
    t.dram = s.dram ∧ t.hostMem = s.hostMem ∧ t.flash = s.flash ∧ t.cask = s.cask ∧ t.kiln = s.kiln ∧ t.clock = s.clock ∧ t.pending = s.pending ∧
    t.chans = [] ∧ t.engs = [] ∧ t.pages = [] ∧ t.slots = [] ∧ t.pairs = [] ∧ t.wdogWait = false ∧ t.is .RST_STATUS_DONE = false ∧
    (∀ f ∈ Reg.RST_CAUSE.fields, t.get f = s.get f) ∧ (∀ n, n < 132 → t.powered n = false)) ∧
  (∀ (s : State) (v : Nat), Runs (.powerOnReset v) s (fun t => t.kiln = none ∧ t.dram = [] ∧ t.chans = [] ∧ t.hostMem = s.hostMem ∧
    t.flash = s.flash ∧ t.cask = s.cask ∧ t.get .RST_STATUS_STEP = 0 ∧ t.is .RST_STATUS_PLL_WAIT = true ∧ t.is .RST_CAUSE_POR = true ∧
    t.get .RST_STRAPS_BOOT_SRC = v % 4 ∧ t.get .RST_STRAPS_CLK_MODE = v / 4 % 4 ∧ t.get .RST_STRAPS_ROLE = v / 16 % 4)) ∧
  (∀ (s : State) (ns v : Nat) (b : Bool), (1000 ≤ ns ∨ 100 ≤ ns ∧ b = true) →
    Runs (.resetNReset ns b v) s (fun t => t = ((s.on .RST_CAUSE_PIN).latch v).warmReset (v / 4 % 4 != s.get .RST_STRAPS_CLK_MODE) ∧
      t.is .RST_CAUSE_PIN = true)) ∧
  (∀ (s : State) (ns v : Nat) (b : Bool), ns < 100 → Runs (.resetNReset ns b v) s (fun t => t = s)) ∧
  (∀ s : State, Runs (.softwareReset 0xA5) s (fun t => t = (s.checkpoint.on .RST_CAUSE_SW).warmReset false ∧ t.is .RST_CAUSE_SW = true)) ∧
  (∀ (s : State) (v : Nat), v ≠ 0xA5 → Runs (.softwareReset v) s (fun t => t = s)) ∧
  (∀ (s : State) (p n : Nat), 4 ≤ n → s.wortUp p = true → (s.upPort = some p ∨ s.upPort = none ∧ s.is .BAR_STATUS_ENUMERATED = false) →
    Runs (.wortResetRequest p n) s (fun t => t.is .RST_CAUSE_WORT = true ∧ t.get .RST_CAUSE_INFO_WORT_PORT = p ∧ t.chans = [] ∧ t.dram = s.dram)) ∧
  (∀ (s : State) (p n : Nat), 4 ≤ n → s.wortUp p = true → (∃ q, s.upPort = some q ∧ q ≠ p) →
    Runs (.wortResetRequest p n) s (fun t => t = s.telEvent 0x0005 p)) ∧
  (∀ s : State, s.powered 130 = true → s.wdogWait = false →
    Runs .watchdogExpiry s (fun t => t.is .RST_CAUSE_WDOG = true ∧ t.wdogWait = true ∧ t.fw = { ckptDue := s.fw.ckptDue } ∧ t.dram = s.dram ∧ t.kiln = s.kiln ∧ t.flash = s.flash)) ∧
  (∀ s : State, s.powered 130 = true → s.wdogWait = true →
    Runs .watchdogExpiry s (fun t => t = (s.on .RST_CAUSE_WDOG).warmReset false ∧ t.wdogWait = false ∧ t.is .RST_CAUSE_WDOG = true)) ∧
  (∀ s : State, s.wdogWait = false → Runs .wdogOk s (fun t => t = s)) ∧
  (∀ s : State, s.wdogWait = true → s.is .FLS_STATUS_HANDOVER = true → Runs .wdogOk s (fun t => t = { s with wdogWait := false })) ∧
  (∀ s : State, s.wdogWait = true → s.is .FLS_STATUS_HANDOVER = false → s.fw.ckptDue = false → s.fwDue = [] →
    Runs .wdogOk s (fun t => t = { s with wdogWait := false, backAt := s.seq.next })) ∧
  (∀ (s : State) (n : Nat), n < 40 → Runs (.thermalTrip n) s (fun t => t.is .RST_CAUSE_THERM = true ∧ t.get .RST_CAUSE_INFO_THERM_SENSOR = n ∧
    t.is .RST_STATUS_THERM_HOLD = true ∧ t.get .RST_STATUS_STEP = 0 ∧ t.chans = [] ∧ (∀ c, c < 64 → t.headOn c = false) ∧ t.dram = s.dram)) ∧
  (∀ s : State, s.is .RST_STATUS_THERM_HOLD = true →
    Runs .thermalRelease s (fun t => t.is .RST_STATUS_THERM_HOLD = false ∧ t.is .RST_STATUS_PLL_WAIT = !s.is .CLK_STATUS_CORE_LOCK ∧
      t.get .RST_STATUS_STEP = (if s.is .CLK_STATUS_CORE_LOCK then 1 else s.get .RST_STATUS_STEP) ∧ t = { s with regs := t.regs })) ∧
  (∀ (s : State) (n : Nat) (b : Bool), n < 4 → Runs (.criticalStateError n b) s (fun t =>
    (match n with | 0 => t.is .RST_CAUSE_CRIT_FIRE | 1 => t.is .RST_CAUSE_CRIT_KILN | 2 => t.is .RST_CAUSE_CRIT_TRIO | _ => t.is .RST_CAUSE_CRIT_QM) = true ∧
    t.is .RST_CAUSE_INFO_CRIT_DBE = b ∧ t.kiln = (if n = 1 then none else s.kiln) ∧ t.chans = [] ∧ (∀ c, c < 64 → t.headOn c = false))) ∧
  (∀ (s : State) (n : Nat), n < 32 → Runs (.supplyFail n) s (fun t => t.kiln = none ∧ t.dram = [] ∧ t.chans = [] ∧ t.flash = s.flash ∧
    t.get .RST_STATUS_STEP = 0 ∧ t.is .RST_CAUSE_POR = true)) ∧
  (∀ (s : State) (n : Nat), n = s.get .RST_STATUS_STEP + 1 → 2 ≤ n → n ≤ 16 → s.is .CLK_STATUS_CORE_LOCK = true →
    s.is .RST_STATUS_THERM_HOLD = false →
    Runs .releaseStep s (fun t => t.get .RST_STATUS_STEP = n ∧ t.is .RST_STATUS_DONE = (s.is .RST_STATUS_DONE || n == 16) ∧
      (∀ d, d < 132 → t.powered d = (s.powered d || (releaseDomains n).contains d)) ∧
      (n = 16 → t.get .GRS_GEN_GEN = 2) ∧ SameMemory s t)) ∧
  (∀ d, d < 132 → ∃ n, 2 ≤ n ∧ n ≤ 15 ∧ d ∈ releaseDomains n ∧ ∀ m, d ∈ releaseDomains m → m = n) ∧
  (∀ s : State, s.is .CLK_STATUS_CORE_LOCK = false → s.lolHold = false →
    Runs .corePllLock s (fun t => t.is .CLK_STATUS_CORE_LOCK = true ∧ t.is .RST_STATUS_CLK_ABSENT = false ∧ t.is .RST_STATUS_PLL_WAIT = false ∧
      t.pllSeen = true ∧ t.get .TIME_STATUS_EPOCH = (if s.pllSeen then (s.get .TIME_STATUS_EPOCH + 1) % 2 ^ Fld.TIME_STATUS_EPOCH.desc.width else s.get .TIME_STATUS_EPOCH) ∧
      t = { s with regs := t.regs, pllSeen := true })) ∧
  (∀ s : State, s.is .CLK_STATUS_CORE_LOCK = false → (s.get .RST_STRAPS_CLK_MODE = 1 ∨ s.get .RST_STRAPS_CLK_MODE = 2) →
    Runs .clockAbsentTimeout s (fun t => t.is .RST_STATUS_CLK_ABSENT = true ∧
      OnlyRegs s t (fun f i k => f = .RST_STATUS_CLK_ABSENT ∧ i = 0 ∧ k = 0))) ∧
  (∀ s : State, s.is .CLK_STATUS_CORE_LOCK = true →
    Runs .pllLossOfLock s (fun t => t.is .CLK_STATUS_CORE_LOCK = false ∧ t.is .CLK_STATUS_LOL = true ∧ t.is .RST_STATUS_PLL_WAIT = true ∧
      t.is .RST_STATUS_DONE = false ∧ t.get .RST_STATUS_STEP = 0 ∧ (∀ n, n < 132 → t.powered n = false) ∧ (∀ c, c < 64 → t.headOn c = false) ∧
      t.chans = [] ∧ t.dram = [] ∧ t.lolHold = true ∧ t.kiln = s.kiln ∧ t.flash = s.flash)) ∧
  (∀ s : State, s.lolHold = true →
    Runs .pllRelock s (fun t => t.is .CLK_STATUS_CORE_LOCK = true ∧ t.lolHold = false ∧ t.pllSeen = true ∧ t.is .RST_STATUS_PLL_WAIT = false)) ∧
  (∀ (s : State) (c : Instr), (c = .flr ∨ c = .hotReset) → s.powered 131 = true →
    Runs c s (fun t => t = s.flr ∧ t.is .QM_CTRL_EN = false ∧ t.is .QM_STATUS_READY = false ∧ t.msixOpen = [] ∧ t.get .QM_ASQ_BASE_BASE = 0 ∧
      t.get .QM_ADMIN_DEPTH_DEPTH = 0 ∧ t.dram = s.dram))

/-- R217, R375, R385: the sequencer's three copies, uncorrectable bursts and the SRAM scrub. -/
def Obligations.CopiesAndScrub : Prop :=
  (∀ (s : State) (m k : Nat), s.powered 124 = true → s.get .FIRE_VOTE_MASKED = 0 → k < 3 → m = 2 ^ k →
    (look 0 s.seq.disagree k = 0 ∨ look 0 s.seq.disagree k + 1023 ≤ s.seq.next) →
    Runs (.sequencerCopyDisagree m) s (fun t => t.get (voteCount k) = min (s.get (voteCount k) + 1) (2 ^ (voteCount k).desc.width - 1) ∧
      look 0 t.seq.disagree k = s.seq.next + 1 ∧ t.get .FIRE_VOTE_MASKED = 0 ∧ t = { s with regs := t.regs, seq := t.seq })) ∧
  (∀ (s : State) (m k : Nat), s.powered 124 = true → s.get .FIRE_VOTE_MASKED = 0 → k < 3 → m = 2 ^ k →
    look 0 s.seq.disagree k ≠ 0 → s.seq.next + 1 < look 0 s.seq.disagree k + 1024 →
    Runs (.sequencerCopyDisagree m) s (fun t => t.get .FIRE_VOTE_MASKED = 2 ^ k ∧ t.is .FIRE_STATUS_DEGRADED = true ∧
      t = { s with regs := t.regs, seq := t.seq })) ∧
  (∀ (s : State) (m : Nat), s.powered 124 = true → s.get .FIRE_VOTE_MASKED = 0 → (m = 3 ∨ m = 5 ∨ m = 6 ∨ m = 7) →
    Runs (.sequencerCopyDisagree m) s (fun t => t = s.critical 0 false ∧ t.is .RST_CAUSE_CRIT_FIRE = true)) ∧
  (∀ (s : State) (i x hold unit part : Nat) (b : Bool), i < 6 → unit < 64 → x < s.dmap.cap → s.fenced 6 i = false → s.ddrServes i = true →
    ((s.ddrHolds i (x / 64 * 64)).map s.dmap.mirrored).getD false = false →
    Runs (.uncorrectableBurst i x b hold unit part) s (fun t => t = (s.burstLost i x b).poisoned hold unit part)) ∧
  (∀ (s : State) (i x hold unit part : Nat), i < 6 → unit < 64 → x < s.dmap.cap → s.fenced 6 i = false → s.ddrServes i = true →
    (s.ddrHolds i (x / 64 * 64)).map s.dmap.mirrored = some true →
    Runs (.uncorrectableBurst i x false hold unit part) s (fun t => t = s.burstLost i x false)) ∧
  (∀ (s : State) (i x : Nat), (s.ddr i).ues.length < 16 → (s.ddrHolds i (x / 64 * 64)).map s.dmap.mirrored = some true →
    let t := s.burstLost i x false
    t.poison = s.poison ∧ t.get .DDR_ECC_UE i = min (s.get .DDR_ECC_UE i + 1) (2 ^ Fld.DDR_ECC_UE.desc.width - 1) ∧ t.is .DDR_ECC_ADDR_MIRRORED i = true ∧
    t.dram = s.dram) ∧
  (∀ (s : State) (t p : Nat), t < 64 → s.powered t = true →
    Runs (.sramScrub 0 t p false) s (fun u => u = s.tunCorrected t 3 0 ∧ u.get .TUN_ECC_CORR t = min (s.get .TUN_ECC_CORR t + 1) (2 ^ Fld.TUN_ECC_CORR.desc.width - 1)) ∧
    Runs (.sramScrub 0 t p true) s (fun u => u = s.faultTun t 15 7)) ∧
  (∀ (s : State) (t p : Nat), t < 64 → p < 32 → s.powered t = true →
    Runs (.sramScrub 1 t p false) s (fun u => u = s.tunCorrected t (1 + p % 2) (p / 2)) ∧
    Runs (.sramScrub 1 t p true) s (fun u => u = s.faultTun t (p / 2) (5 + p % 2))) ∧
  (∀ (s : State) (i p : Nat), i < 4 → s.powered (118 + i) = true → s.fenced 3 i = false →
    Runs (.sramScrub 3 i p true) s (fun t => t.fenced 3 i = true ∧ t.get .FENCE_LAST_CAUSE = 3 ∧
      ∀ c, c < 64 → ∀ b ∈ (t.chan c).intake, b.inst = i → b.lane = 0)) ∧
  (∀ (s : State) (m n p : Nat), (m = 2 ∧ n < 64 ∧ s.powered n = true ∨ m = 3 ∧ n < 4 ∧ s.powered (118 + n) = true ∨
      m = 4 ∧ n < 8 ∧ s.powered (106 + n) = true ∨ m = 5 ∧ s.powered 130 = true ∨ m = 6) →
    Runs (.sramScrub m n p false) s (fun t => OnlyRegs s t (fun f i k => f = .TEL_SCRUB_CORR ∧ i = 0 ∧ k = 0) ∧ t.get .TEL_SCRUB_CORR = min (s.get .TEL_SCRUB_CORR + 1) (2 ^ Fld.TEL_SCRUB_CORR.desc.width - 1)))
end

