-- ==== Sys2Proof/Laws/Engine.lean ====
section
/-! SUPPORT. What issuing an instruction can do, and the tables of channels and engines. -/

namespace Sys2Proof.Machine

/-! ## Tables keyed by a unit number -/

theorem look_store {α : Type} [DecidableEq α] (d : α) (t : List (Nat × α)) (k j : Nat) (v : α) :
    look d (store d t k v) j = if j = k then v else look d t j := Tab.get_put ..

@[simp] theorem look_store_same {α : Type} [DecidableEq α] (d : α) (t : List (Nat × α)) (k : Nat) (v : α) :
    look d (store d t k v) k = v := Tab.get_put_same ..

theorem look_store_ne {α : Type} [DecidableEq α] (d : α) (t : List (Nat × α)) (v : α) {k j : Nat} (h : j ≠ k) :
    look d (store d t k v) j = look d t j := Tab.get_put_ne _ _ _ _ h

@[simp] theorem State.chan_setChan (s : State) (c : Nat) (x : Chan) : (s.setChan c x).chan c = x := look_store_same ..

theorem State.chan_setChan_ne (s : State) (x : Chan) {c n : Nat} (h : n ≠ c) : (s.setChan c x).chan n = s.chan n := look_store_ne _ _ _ h

@[simp] theorem State.chan_setEng (s : State) (t m c : Nat) (e : Eng) : (s.setEng t m e).chan c = s.chan c := rfl

@[simp] theorem State.eng_setEng (s : State) (t m : Nat) (e : Eng) : (s.setEng t m e).eng t m = e := look_store_same ..

@[simp] theorem State.eng_setChan (s : State) (c t m : Nat) (x : Chan) : (s.setChan c x).eng t m = s.eng t m := rfl

/-- Another engine of a tun with sixteen. -/
theorem State.eng_setEng_ne (s : State) (e : Eng) {t m u j : Nat} (hm : m < 16) (hj : j < 16) (h : u ≠ t ∨ j ≠ m) :
    (s.setEng t m e).eng u j = s.eng u j := look_store_ne _ _ _ (by omega)

@[simp] theorem State.get_setChan (s : State) (c : Nat) (x : Chan) (f : Fld) (i k : Nat) : (s.setChan c x).get f i k = s.get f i k := rfl
@[simp] theorem State.get_setEng (s : State) (t m : Nat) (e : Eng) (f : Fld) (i k : Nat) : (s.setEng t m e).get f i k = s.get f i k := rfl

/-! ## Issue -/

/-- Channel and engine written together, and nothing else. -/
theorem engStep_put (s : State) (t m : Nat) (c : Chan) (e : Eng) : EngStep s t m c e ((s.setChan t c).setEng t m e) where
  eng := State.eng_setEng ..
  chan := (State.chan_setEng ..).trans (State.chan_setChan ..)
  engs := fun _ h => look_store_ne _ _ _ h
  chans := fun _ h => State.chan_setChan_ne s c h
  frame := rfl

/-- An instruction that an engine issues and that does not fault: its body's channel and engine, the pc advanced unless the body set it,
and nothing else. -/
theorem State.issue_ok {s : State} {t m op : Nat} {u : Uses} {w : IWord} (h : Issues s t m op u w)
    {body : State → Chan → Eng → IWord → Effect} {r : Chan × Eng × Bool} (hb : body s (s.chan t) (s.ticked t m) w = .ok r) :
    s.issue t m op u body = (s.setChan t r.1).setEng t m (if r.2.2 then r.2.1 else r.2.1.advance) := by
  simp [State.issue, h.issuing, Nat.not_le.mpr h.limit, h.fetch, h.op, h.legal, hb]

theorem State.issue_step {s : State} {t m op : Nat} {u : Uses} {w : IWord} (h : Issues s t m op u w)
    {body : State → Chan → Eng → IWord → Effect} {c : Chan} {e : Eng} {b : Bool} (hb : body s (s.chan t) (s.ticked t m) w = .ok (c, e, b)) :
    EngStep s t m c (if b then e else e.advance) (s.issue t m op u body) := by
  rw [State.issue_ok h hb]; exact engStep_put ..

/-- One that faults stops and fences its tun with the fault's code. -/
theorem State.issue_fault {s : State} {t m op : Nat} {u : Uses} {w : IWord} (h : Issues s t m op u w)
    {body : State → Chan → Eng → IWord → Effect} {code : Nat} (hb : body s (s.chan t) (s.ticked t m) w = .error code) :
    s.issue t m op u body = s.faultTun t m code := by
  simp [State.issue, h.issuing, Nat.not_le.mpr h.limit, h.fetch, h.op, h.legal, hb]

/-- A scalar or control body runs where lane 0 of the predicate is 1. -/
theorem ifLane0_eq {s : State} {t m op : Nat} {u : Uses} {w : IWord} (h : Issues0 s t m op u w) (f : State → Chan → Eng → IWord → Effect) :
    ifLane0 f s (s.chan t) (s.ticked t m) w = f s (s.chan t) (s.ticked t m) w := by
  simp [ifLane0, h.lane0]

end Sys2Proof.Machine
end

