-- ==== Sys2Proof/Laws/Queue.lean ====
section
/-! SUPPORT. What the submission of a command can do once its descriptor is accepted, and what fetching it leaves unchanged. -/

namespace Sys2Proof.Machine

/-! ## What fetching a descriptor changes: the pairs and the slots alone -/

@[simp] theorem State.get_setPair (s : State) (n : Nat) (p : QPair) (f : Fld) (i k : Nat) : (s.setPair n p).get f i k = s.get f i k := rfl
@[simp] theorem State.get_setSlot (s : State) (n : Nat) (x : Slot) (f : Fld) (i k : Nat) : (s.setSlot n x).get f i k = s.get f i k := rfl

/-- The tag is remembered in the pair. -/
theorem State.remember_frame (s : State) (d : Desc) (op h : Nat) : s.remember d op h = { s with pairs := (s.remember d op h).pairs } := by
  unfold State.remember; split <;> rfl

/-- Allotting a slot changes slots alone. -/
theorem State.allot_frame (s : State) (d : Desc) (op : Nat) : (s.allot d op).2 = { s with slots := (s.allot d op).2.slots } := rfl

/-- Taking a turn changes the turns alone. -/
theorem State.tookTurn_frame (s : State) (n : Nat) : s.tookTurn n = { s with turns := (s.tookTurn n).turns } := rfl

/-- Fetching the descriptor changes pairs and turns alone. -/
theorem State.fetched_some (s : State) (d : Desc) (p : QPair) :
    ∃ P T, (if d.sq = viaWort then s else (s.tookTurn d.sq).setPair d.sq p) = { s with pairs := P, turns := T } := by
  split
  · exact ⟨_, _, rfl⟩
  · exact ⟨_, _, rfl⟩

/-- Starting a command changes pairs, slots and turns alone. -/
theorem State.started_some (s : State) (d : Desc) (op : Nat) :
    ∃ P S T, (s.started d op).2 = { s with pairs := P, slots := S, turns := T } := by
  obtain ⟨P, T, h⟩ := s.fetched_some d { s.pair d.sq with sqHead := ((s.pair d.sq).sqHead + 1) % (s.pair d.sq).depth }
  unfold State.started
  simp only [h]
  rw [State.remember_frame, State.allot_frame]
  exact ⟨_, _, _, rfl⟩

/-- The same, with the values named. -/
theorem State.started_frame (s : State) (d : Desc) (op : Nat) :
    (s.started d op).2 = { s with pairs := (s.started d op).2.pairs, slots := (s.started d op).2.slots, turns := (s.started d op).2.turns } := by
  obtain ⟨P, S, T, h⟩ := s.started_some d op
  rw [h]

@[simp] theorem State.get_started (s : State) (d : Desc) (op : Nat) (f : Fld) (i k : Nat) : (s.started d op).2.get f i k = s.get f i k := by
  rw [State.started_frame]; rfl

/-! ## A command that passes its checks -/

/-- The checks of R112 from 3 to 7 that are common to all commands pass; what remains are those of the command itself. -/
theorem State.checks_ok {s t : State} {d : Desc} {c : Cmd} {op : Nat} {used : List (Nat × Nat)} (h : Accepts s d op used)
    (ht : t.targetSelf d = s.targetSelf d) (hu : c.used = used) (hf : c.fenced = false) (hs : c.sizes.any (· == 0) = false)
    (hr : c.range = true) (hc : c.counts.any (· == 0) = false) : t.checks d c = (c.state, c.detail) := by
  have h1 := h.target
  simp [State.checks, State.targetOk, ht, h1, hf, hs, hr, hc, h.rsv, hu, h.unused]

/-- A command whose checks pass starts and has its effect. -/
theorem State.submit_ok {s : State} {d : Desc} {c : Cmd} {op : Nat} {used : List (Nat × Nat)} (h : Accepts s d op used)
    (ho : c.opcode = op) (hu : c.used = used) (hf : c.fenced = false) (hs : c.sizes.any (· == 0) = false) (hr : c.range = true)
    (hc : c.counts.any (· == 0) = false) (hst : c.state = 0) (act : Nat → State → State) :
    s.submit d c act = if c.long then act (s.startedLong d op).1 (s.startedLong d op).2 else act (s.started d op).1 (s.started d op).2 := by
  have htag : (if d.tag = 0 then none else (s.pair d.sq).tags.find? (fun t => t.tag == d.tag)) = none := by
    rcases h.tag with h1 | h1 <;> simp [h1]
  have ht : ∀ t : State, t.regs = s.regs → t.targetSelf d = true := by
    intro t e
    have := h.target
    simpa [State.targetSelf, State.is, State.get, State.myIndex, e] using this
  have hcls : ∀ t : State, t.sects = s.sects → t.classOk d.sq (op / 256) = true := by
    intro t e
    have := h.cls
    simpa [State.classOk, State.assign, State.sect, e] using this
  have hst' : (s.started d op).2.targetSelf d = true := ht _ (by rw [State.started_frame])
  have hck : (s.started d op).2.checks d c = (0, c.detail) := by
    rw [State.checks_ok h (hst'.trans h.target.symm) hu hf hs hr hc, hst]
  have hop : ¬ d.opcode ≠ c.opcode := by rw [h.opcode, ho]; simp
  have hcl : (if d.sq = viaWort then s else (s.tookTurn d.sq).setPair d.sq { s.pair d.sq with sqHead := ((s.pair d.sq).sqHead + 1) % (s.pair d.sq).depth }).classOk
      d.sq (c.opcode / 256) = true := by rw [ho]; apply hcls; split <;> rfl
  unfold State.submit
  rw [if_neg (by simp [h.fetch])]
  simp only []
  rw [if_neg hop, if_neg (by rw [hcl]; simp), htag, ho]
  show (if (!(s.started d op).2.targetSelf d && ((s.started d op).2.checks d c).1 != stFenced && (s.started d op).2.targetOk d && d.rsvZero) = true
    then _ else if ((s.started d op).2.checks d c).1 ≠ 0 then _ else if c.long = true then _ else _) = _
  rw [hck, hst']
  rfl

/-- A short command whose checks pass. -/
theorem State.submit_short {s : State} {d : Desc} {c : Cmd} {op : Nat} {used : List (Nat × Nat)} (h : Accepts s d op used)
    (ho : c.opcode = op) (hu : c.used = used) (hl : c.long = false) (hf : c.fenced = false) (hs : c.sizes.any (· == 0) = false)
    (hr : c.range = true) (hc : c.counts.any (· == 0) = false) (hst : c.state = 0) (act : Nat → State → State) :
    s.submit d c act = act (s.started d op).1 (s.started d op).2 := by
  rw [State.submit_ok h ho hu hf hs hr hc hst, hl]; rfl

/-- A long command whose checks pass. -/
theorem State.submit_long {s : State} {d : Desc} {c : Cmd} {op : Nat} {used : List (Nat × Nat)} (h : Accepts s d op used)
    (ho : c.opcode = op) (hu : c.used = used) (hl : c.long = true) (hf : c.fenced = false) (hs : c.sizes.any (· == 0) = false)
    (hr : c.range = true) (hc : c.counts.any (· == 0) = false) (hst : c.state = 0) (act : Nat → State → State) :
    s.submit d c act = act (s.startedLong d op).1 (s.startedLong d op).2 := by
  rw [State.submit_ok h ho hu hf hs hr hc hst, hl]; rfl

/-- A command that its queue may not fetch yet waits there. -/
theorem State.submit_wait {s : State} {d : Desc} (h : s.mayFetch d = false) (c : Cmd) (act : Nat → State → State) :
    s.submit d c act = s := by
  simp [State.submit, h]

end Sys2Proof.Machine
end

