-- ==== Sys2Proof/Machine/Balls.lean ====
section
/-! DEFINITION. Where the balls lie (spec/25_balls_and_electrical.md, R432-R434). The package takes no part in any step. -/

namespace Sys2Proof.Machine

/-- The letters that name rows: no I, O, Q, R, S, X or Z (R432). -/
def rowLetters : List String := ["A", "B", "C", "D", "E", "F", "G", "H", "J", "K", "L", "M", "N", "P", "T", "U", "V", "W", "Y"]

/-- The name of row `i`, 1 to 65 (R432). -/
def rowName (i : Nat) : String := (["", "A", "B", "C"].getD ((i - 1) / 19) "") ++ rowLetters.getD ((i - 1) % 19) ""

/-- The name of the ball at a row and a column (R432). -/
def ballName (p : Nat × Nat) : String := rowName p.1 ++ toString p.2

/-- Is the position populated (R432)? -/
def populated (p : Nat × Nat) : Bool :=
  decide (1 ≤ p.1 ∧ p.1 ≤ 65 ∧ 1 ≤ p.2 ∧ p.2 ≤ 65) && !decide (26 ≤ p.1 ∧ p.1 ≤ 40 ∧ 26 ≤ p.2 ∧ p.2 ≤ 40)

/-- The regions of balls (R433); rows J to AF of the middle columns hold peripheral balls among those of the core. -/
inductive Region where
  | west | east | north | south | peripheral | core
  deriving DecidableEq, Repr

/-- The region of a position. -/
def regionOf (p : Nat × Nat) : Region :=
  if p.2 ≤ 8 then .west
  else if 58 ≤ p.2 then .east
  else if p.1 ≤ 8 then .north
  else if 41 ≤ p.1 then .south
  else if p.1 ≤ 25 then .peripheral
  else .core

/-- The signals of a head port in the order of its two rows (R434). -/
def headSignals : List String :=
  ["DATA0_P", "DATA0_N", "DATA1_P", "DATA1_N", "CLK_P", "CLK_N", "FIRE_N_P", "FIRE_N_N", "HPWR_EN_N", "HEAD_ID", "SENSE", "TRIM"]

/-- The ball of signal `k` of head port CHc (R434). -/
def headBall (c k : Nat) : Nat × Nat :=
  (2 * (c % 32) + 1 + k / 6, if c < 32 then k % 6 + 1 else 65 - k % 6)

end Sys2Proof.Machine
end

