-- ==== Sys2Proof/Tests/Slice0.lean ====
section
/-! SUPPORT. Tests: ill-formed commands that WellFormed refuses, values that spec/ works out, and for every hypothesis of
Certificates/Slice0/Obligations.lean a state and operands that meet it. -/

namespace Sys2Proof.Tests

open Sys2Proof.Machine

-- one theorem at a time: each kernel check holds a stack of its own
set_option Elab.async false

/-! ## Small states -/

/-- `n` bytes, zero but for the little-endian fields (offset, bytes, value) of the list. -/
def bytesOf (n : Nat) (l : List (Nat × Nat × Nat)) : List Byte :=
  l.foldl (fun b x => b.take x.1 ++ leBytes x.2.1 x.2.2 ++ b.drop (x.1 + x.2.1)) (List.replicate n 0)

/-- Every domain powered and the release sequence complete. -/
def on0 : State :=
  let s := (List.range 4).foldl (fun (s : State) k => s.set .PWR_STATE_ON 0xFFFFFFFF 0 k) State.reset
  (((s.set .PWR_STATE_ON 0xF 0 4).set .RST_STATUS_STEP 16).on .RST_STATUS_DONE).on .CLK_STATUS_CORE_LOCK

/-- A block instance listed in the Grist table. -/
def blk (s : State) (b : Block) (i : Nat := 0) : State :=
  { s with grist := s.grist ++ [{ block := b, inst := i, version := 0x0100, regrev := 0x0100, off := 0x200000, size := 0x1000, caps := 0 }] }

/-- A section in force. -/
def sec (s : State) (t i n : Nat) (l : List (Nat × Nat × Nat)) : State :=
  { s with sects := s.sects ++ [{ type := t, scope := 0, index := i, version := 1, quiesce := 0, bytes := bytesOf n l }] }

/-- The admin pair enabled with a descriptor waiting. -/
def adm (s : State) : State := s.setPair 0 { enabled := true, depth := 16, sqBase := 0x10000, cqBase := 0x20000, sqTail := 1 }

/-- A descriptor on the admin pair with these PARAM fields. -/
def dsc (op : Nat) (l : List (Nat × Nat × Nat)) : Desc :=
  { sq := 0, opcode := op, flags := 0, rsv3 := 0, target := 0xFFFF, rsv6 := 0, tag := 0,
    param := bytesOf 48 (l.map (fun x => (x.1 - 0x10, x.2.1, x.2.2))) }

/-- An instruction word from its opcode and fields (lowest bit, value). -/
def iw (op : Nat) (l : List (Nat × Nat)) : Nat := op * 2 ^ 56 + (l.map (fun x => x.2 * 2 ^ x.1)).sum

/-- Tun `t` with a program for engines 14 and 15, of which engine `m` runs, holds this word in its instruction store, and is otherwise `e`. -/
def tun (t m op : Nat) (l : List (Nat × Nat)) (e : Eng) : State :=
  { sec (on0.set .TUN_LIMIT_SLICE_LIMIT 1000 t) 0x0020 t 0x280 [(0, 2, 0xC000), (2, 2, 64), (4, 4, 1000), (8, 2, 1), (0xA, 2, 64), (0x40, 4, 0x1000), (0x44, 4, 0x1000), (0x50, 4, 0x2000),
      (0x54, 4, 0x400), (0x58, 4, 0x3000), (0x5C, 4, 0x400), (0x60, 4, 0x4000), (0x64, 4, 0x1000), (0x68, 4, 0x6000), (0x6C, 4, 0x1000), (0x70, 4, 0x5000), (0x74, 4, 0x1000),
      (0x242, 2, 32), (0x260, 2, 32), (0x262, 2, 32)] with
    engs := [(16 * t + m, { e with running := true, istore := leBytes 8 (iw op l) })] }

/-- A section, an image and a change set of such sections. -/
def sct (t i : Nat) (n : Nat := 64) (l : List (Nat × Nat × Nat) := []) : Sect :=
  { type := t, scope := 0, index := i, version := 0x0100, quiesce := 0, bytes := bytesOf n l }
def img (full : Bool) (l : List Sect) : Image :=
  { full := full, version := 1, rollback := 63, fwMin := 0, fwMax := 0, baseId := 0, hash := [], sealKey := 0, sects := l }
def cset (l : List Sect) (line : Option Nat) (rule : Nat) : ChangeSet :=
  { handle := 0x01000000, commitOp := 0x01000001, image := img false l, target := 0, deadline := 100, bsOk := false, line := line, rule := rule,
    final := line.isSome, applied := [] }

/-- A partial image with one NOTE section of 64 zero bytes and one certificate. -/
def mashImg : List Byte :=
  let h := bytesOf 80 [(0, 4, 0x4853414D), (5, 1, 1), (6, 2, 0x80), (8, 4, 0x300), (0xC, 2, 0x6440), (0x10, 1, 1), (0x12, 2, 1), (0x14, 4, 0x80),
    (0x18, 4, 0x100), (0x1C, 4, 512), (0x28, 4, 0xFFFFFFFF)]
  h ++ leBytes 4 0x4A1B5E4C ++ List.replicate 44 0 ++
  bytesOf 32 [(0, 2, 0xF0), (6, 2, 0x100), (8, 4, 0xC0), (0xC, 4, 64), (0x10, 4, 0x3C8EB67)] ++ List.replicate 96 0 ++
  bytesOf 512 [(0, 4, 0x4749534D), (4, 1, 1), (0x100, 4, 0x5452434D), (0x104, 2, 1)]

/-- The manager of a press with one extent mapped, which holds a page descriptor block at 0x1000 with one strip of one block of `n` lines. -/
def job (n : Nat) : State :=
  { on0.set .RST_STRAPS_ROLE 1 with
    extents := [(0, { kind := 0, port := 0, base := 0, closing := none })],
    hostMem := Memory.wrs (Memory.wrs (Memory.wrs [] 0x1000 (bytesOf 64 [(0, 4, 0x45474150), (4, 2, 1), (0x24, 2, 1), (0x28, 8, 0x2000)]))
      0x2000 (bytesOf 16 [(0, 2, 2047), (2, 2, 1), (8, 8, 0x3000)])) 0x3000 (bytesOf 16 [(0, 8, 0x4000), (8, 4, 5000), (12, 2, n)]),
    credits := [(2047, 2)] }
def pg (lines state : Nat) : Page :=
  { id := 9, handle := 0x01000000, first := 100, lines := lines, gap := 0, last := false, desc := 0x1000, state := state, backsteps := 0,
    failLine := 0, sent := [] }

/-- The Kiln sealed for channel 63 with trim ceiling 4,000, and every condition of head power met. -/
def kln : State :=
  (({ on0 with kiln := some { payload := bytesOf 0x440 [(0, 8, 2 ^ 63), (0x43C, 2, 4000)], key := 1, digest := 0 } } : State).on
    .FIRE_CH_STATUS_ENABLED 63).set .KILN_HPWR_REQ_REQ 0x80000000 0 1

/-- A compressed block of one line. -/
def blk1 (px : List Nat) : List Byte :=
  let p := literalPayload 10 1 [[px]]
  let b := bytesOf 16 [(0, 2, 0x5043), (2, 1, 1), (3, 1, 10), (4, 2, px.length), (6, 2, 1), (9, 1, 1), (12, 4, p.length)] ++ p
  b ++ leBytes 4 (crc32c b)

/-- Axes 0 and 3 configured, both moving forward at 1,000 steps/s with 2 steps a line; this device drives AX0. -/
def mot : State :=
  { (((sec (on0.set .RST_STRAPS_CLK_MODE 1) 0x0050 0 320 ([(0, 1, 9), (2, 1, 9), (4, 2, 10)] ++ [0, 3].flatMap (fun a => [(0x40 + 64 * a, 4, 2),
      (0x44 + 64 * a, 4, 100), (0x48 + 64 * a, 4, 100), (0x4C + 64 * a, 4, 200), (0x50 + 64 * a, 4, 1000), (0x54 + 64 * a, 4, 50), (0x58 + 64 * a, 4, 50),
      (0x5C + 64 * a, 4, 50), (0x60 + 64 * a, 4, 50), (0x68 + 64 * a, 2, 16), (0x6A + 64 * a, 1, 1), (0x6B + 64 * a, 1, 1), (0x6C + 64 * a, 2, 9)]))).set
    .MOT_STATUS_MOVING 9).set .MOT_STATUS_DIR 9).on .MOT_STATUS_OWN with trio := { drivers := true } }

/-- Camera port 7 on ISP pipe 3 with three streams of 4-pixel RAW10 lines, 2 exposures a frame. -/
def cam7 : State :=
  sec (sec on0 0x0040 7 0xC0 [(1, 1, 3), (2, 1, 1), (3, 1, 3), (6, 2, 4), (8, 2, 2), (0xA, 2, 9), (0x20, 1, 0), (0x21, 1, 0x2B), (0x28, 1, 1),
    (0x29, 1, 0x2B), (0x2A, 1, 1), (0x30, 1, 2), (0x31, 1, 0x2B), (0x32, 1, 2)]) 0x0041 3 0xC0 [(1, 1, 7)]

/-- The gravity loop on channel 63, which has one nozzle and is watched by range 15 of port 7 of device 511. -/
def grv : State :=
  ((sec (sec (blk on0 .gravity) 0x0042 0 0x10C0 [(1, 1, 1), (3, 1, 1), (0x822, 1, 7), (0x823, 1, 15), (0x824, 2, 511)]) 0x0030 63 64 [(0, 2, 1)]).on
    .GRAV_CH_STATUS_EN 0 63)

/-- The Sight Glass with channel 63 and two states of sequencer 3 configured: state 0 waits twice for a forced trigger. -/
def sgl : State :=
  sec (blk on0 .sightGlass) 0x0043 0 0xA80 [(0x40 + 32 * 63, 1, 9), (0x9F0, 1, 2), (0x9F1, 1, 255), (0xA00, 1, 10), (0xA02, 1, 0x0F), (0xA03, 1, 1),
    (0xA04, 2, 2), (0xA08, 4, 100)]

/-- A DRAM of two trained channels, 0 and 1, of 16 GiB each. -/
def dr2 : State :=
  { (((on0.set .DDR_GEOM_GIB 16 0).set .DDR_GEOM_GIB 16 1).set .DDR_STATUS_STATE 2 0).set .DDR_STATUS_STATE 2 1 with
    ddrs := [(0, { up := true, geom := [16] }), (1, { up := true, geom := [16] })] }

/-- A firmware image of 576 bytes with one certificate, and an array that holds it. -/
def fwImg : List Byte :=
  bytesOf 64 [(0, 4, 0x4957464D), (4, 4, 7), (8, 4, 576), (0xC, 4, 63)] ++
  bytesOf 512 [(0, 4, 0x4749534D), (4, 1, 1), (0x100, 4, 0x5452434D), (0x104, 2, 4)]
def fwArr : Flash := { size := 0x4000000, mem := Memory.wrs [] 0x1000 (fwImg.map (fun b => ~~~ b)) }

/-- A record of the Cask on array 1. -/
def rec1 (sector kind schema seq : Nat) (data : List Byte) : CaskRec :=
  { array := 1, sector := sector, kind := kind, schema := schema, key := 0, seq := seq, data := data }

/-- The cells of HEAD_ID's answer with this identity. -/
def cells (id : Nat) : List (Bool × Bool) :=
  (List.range 72).map (fun j => let b := if j < 8 then j % 2 == 0 else bit id (j - 8); (!b, b))

/-- A head's identity with its CRC, and channel 63 enabled with that head's record. -/
def hid : List Byte := leBytes 7 0x77 ++ leBytes 1 (idCrc (leBytes 7 0x77))
def hdc (id : Nat) : State := { on0.on .FIRE_CH_STATUS_ENABLED 63 with heads := [(63, { id := id, lines := 5 })] }

/-- The viewport's registers for 640 by 480 pixels at 25 MHz over one lane. -/
def vpr : State :=
  [(Fld.VP_H_TIMING_HACTIVE, 640), (.VP_H_TIMING_HFP, 16), (.VP_H_TIMING_HSYNC, 96), (.VP_H_TIMING_HBP, 48), (.VP_V_TIMING_VACTIVE, 480),
    (.VP_V_TIMING_VFP, 10), (.VP_V_TIMING_VSYNC, 2), (.VP_V_TIMING_VBP, 33), (.VP_VFP_MAX_LINES, 10), (.VP_LINK_PCLK, 25000), (.VP_LINK_LANES, 1),
    (.VP_LINK_LANE_MBPS_10, 100), (.VP_FB_STRIDE_BYTES, 2560)].foldl (fun s x => s.set x.1 x.2) (blk dr2 .viewport)

/-- The viewport sending video of 2 active lines of 4 pixels, 1 line of front porch and 2 of sync and back porch; in command mode if `m`. -/
def vpv (m : Bool := false) : State :=
  { vpr with vp := { cfg := { en := true, mode := m, still := 1, stride := 64, hact := 4, htotal := 8, vact := 2, vfp := 1, vrest := 2, vfpMax := 9 }, quiet := 1 } }

/-! ## WellFormed

Each check refuses a command that fails it alone (`refused`), and a command at the least operands passes (`accepted`). -/

/-- Every check on a descriptor's fields. -/
theorem refused_desc : ([{ dsc 1 [] with sq := 16384 }, { dsc 1 [] with opcode := 2 ^ 16 }, { dsc 1 [] with flags := 2 ^ 8 }, { dsc 1 [] with rsv3 := 2 ^ 8 },
    { dsc 1 [] with target := 2 ^ 16 }, { dsc 1 [] with rsv6 := 2 ^ 16 }, { dsc 1 [] with tag := 2 ^ 64 }, { dsc 1 [] with param := [] }] : List Desc).all
    (fun d => !d.ok) = true ∧ (dsc 1 []).ok = true := by decide +kernel

theorem refused_0 : ([
    .powerOnReset 64, .resetNReset 0 false 64, .softwareReset 256, .wortResetRequest 4 0, .thermalTrip 40, .criticalStateError 4 false,
     .supplyFail 32, .pwrReqWrite 5 0, .pwrReqWrite 0 (2 ^ 32), .pstateRequest 4, .reg64LowerRead false (2 ^ 28) false,
     .reg64LowerRead false 1 false, .reg64LowerWrite false (2 ^ 28) 0, .reg64LowerWrite false 1 0, .reg64LowerWrite false 0 (2 ^ 32),
     .reg64UpperWrite false (2 ^ 28) 0, .reg64UpperWrite false 5 0, .reg64UpperWrite false 4 (2 ^ 32), .registerWrite false false (2 ^ 28) 0,
     .registerWrite false false 1 0, .registerWrite false false 0 (2 ^ 64), .registerWrite false false 0 (2 ^ 32), .registerWrite false true 4 0,
     .nop { dsc 1 [] with tag := 2 ^ 64 }, .queueCreate { dsc 1 [] with tag := 2 ^ 64 }, .queueDelete { dsc 1 [] with tag := 2 ^ 64 },
     .queueResume { dsc 1 [] with tag := 2 ^ 64 }, .handleQuery { dsc 1 [] with tag := 2 ^ 64 }, .copy { dsc 1 [] with tag := 2 ^ 64 },
     .mashStage { dsc 1 [] with tag := 2 ^ 64 }, .mashCommit { dsc 1 [] with tag := 2 ^ 64 } [], .mashCommit (dsc 1 []) [512],
     .mashAbort { dsc 1 [] with tag := 2 ^ 64 }, .mashRbAdvance { dsc 1 [] with tag := 2 ^ 64 }, .bootImageCommit 0 [] 4,
     .changeSetStageSwitch (2 ^ 16) 0, .changeSetStageSwitch 0 64, .gapSectionApply (2 ^ 16) 0, .gapSectionApply 0 64, .sqTailDoorbell 16384 0,
     .sqTailDoorbell 0 (2 ^ 32), .cqHeadDoorbell 16384 0, .cqHeadDoorbell 0 (2 ^ 32), .completionDue (2 ^ 32) 0 0 0, .completionDue 0 256 0 0,
     .completionDue 0 0 (2 ^ 32) 0, .completionDue 0 0 0 (2 ^ 16), .cqAggTimeout 16384, .msixUnmask 2048,
     .jsaMap { dsc 1 [] with tag := 2 ^ 64 } false, .jsaUnmap { dsc 1 [] with tag := 2 ^ 64 } false, .unmapComplete (2 ^ 32) false none,
     .pageSubmit { dsc 1 [] with tag := 2 ^ 64 } none, .pageCancel { dsc 1 [] with tag := 2 ^ 64 } false none, .pageComplete (2 ^ 32) 0,
     .pageFault (2 ^ 32) 1 0 0 0 0 0, .pageFault 0 0 0 0 0 0 0, .pageFault 0 5 0 0 0 0 0, .blockSend (2 ^ 32) 0 0 none [],
     .intakeCreditGrant 0 64 1 0] : List Instr).all (fun i => !i.wf) = true := by decide +kernel

theorem refused_1 : ([
    .intakeCreditGrant 0 0 0 0,
     .blockArrival 64 { page := 0, first := 0, lines := 0, gap := 0, last := false, index := 0, line := 0, planeLines := 0, bytes := [0] },
     .blockArrival 0 { page := 0, first := 0, lines := 0, gap := 0, last := false, index := 0, line := 0, planeLines := 0, bytes := [] },
     .grantRefill 64, .dataLateReport 2049 0, .archiveSetup { dsc 1 [] with tag := 2 ^ 64 }, .archiveRead { dsc 1 [] with tag := 2 ^ 64 },
     .archiveFrameWrite 8, .ubLateCountClr 64, .blockDecodeStart 64, .blockCheckDone 4 0, .blockCheckDone 0 16, .blockRelease 64,
     .archiveBlockClose 8, .cdcEncFlush 4, .cdcFailClr 4, .sliceStart 64 0, .sliceStart 0 16, .engineNop 64 0, .engineNop 0 16, .jmp 64 0,
     .jmp 0 16, .jnz 64 0, .jnz 0 16, .jz 64 0, .jz 0 16, .loop 64 0, .loop 0 16, .call 64 0, .call 0 16, .ret 64 0, .ret 0 16, .endl 64 0 0,
     .endl 0 16 0, .trap 64 0, .trap 0 16, .sadd 64 0, .sadd 0 16, .ssub 64 0, .ssub 0 16, .smov 64 0, .smov 0 16, .sand 64 0, .sand 0 16,
     .sor 64 0, .sor 0 16, .sshl 64 0, .sshl 0 16, .sshr 64 0, .sshr 0 16, .smul 64 0, .smul 0 16, .srd 64 0, .srd 0 16, .vadd 64 0, .vadd 0 16,
     .vsub 64 0, .vsub 0 16, .vmin 64 0, .vmin 0 16] : List Instr).all (fun i => !i.wf) = true := by decide +kernel

theorem refused_2 : ([
    .vmax 64 0, .vmax 0 16, .vand 64 0, .vand 0 16, .vor 64 0, .vor 0 16, .vxor 64 0, .vxor 0 16, .vshl 64 0, .vshl 0 16, .vshr 64 0, .vshr 0 16,
     .vsra 64 0, .vsra 0 16, .vsel 64 0, .vsel 0 16, .vcmp 64 0, .vcmp 0 16, .vmov 64 0, .vmov 0 16, .viota 64 0, .viota 0 16, .vmul 64 0,
     .vmul 0 16, .vmulw 64 0, .vmulw 0 16, .vmac 64 0, .vmac 0 16, .vnarrow 64 0, .vnarrow 0 16, .vslide 64 0, .vslide 0 16, .vbcast 64 0,
     .vbcast 0 16, .vperm 64 0, .vperm 0 16, .ldl 64 0, .ldl 0 16, .stl 64 0, .stl 0 16, .ldgl 64 0, .ldgl 0 16, .ldt 64 0, .ldt 0 16, .stt 64 0,
     .stt 0 16, .ldtm 64 0, .ldtm 0 16, .curve 64 0, .curve 0 16, .edstep 64 0, .edstep 0 16, .emit 64 0, .emit 0 16, .sendr 64 0, .sendr 0 16,
     .sendl 64 0, .sendl 0 16, .recvl 64 0, .recvl 0 16] : List Instr).all (fun i => !i.wf) = true := by decide +kernel

theorem refused_3 : ([
    .recvr 64 0, .recvr 0 16, .edgeWaitResume 64 0, .edgeWaitResume 0 16, .tunFault 64 0 1 1, .tunFault 0 16 1 1, .tunFault 0 0 0 1,
     .tunFault 0 0 11 1, .tunFault 0 0 1 0, .tunFault 0 0 1 17, .sliceOverrun 64 0, .sliceOverrun 0 16, .lineComplete 64, .tunPausePoint 64,
     .tunProgLoadDone 64 false, .tunFaultClr 64, .tunEccClr 64, .tunSliceMaxClr 64 0, .tunSliceMaxClr 0 16, .generationSwitch 64,
     .scrBridgeSetWrite 64 0 0, .scrBridgeSetWrite 0 80 0, .scrBridgeSetWrite 0 0 (2 ^ 32), .scrBridgeClrWrite 64 0 0, .scrBridgeClrWrite 0 80 0,
     .scrBridgeClrWrite 0 0 (2 ^ 32), .scrBridgeApply 64, .scrBridgeLostClr 64, .scrClipClr 64, .lineEventFrame (2 ^ 48) 0,
     .stopDistanceFrame (2 ^ 48), .badTriggerFrame (2 ^ 48), .lineTake 64 0, .firstLinePrepare 64 0, .lineFire 64, .strobeStart 64,
     .fireCommit { dsc 1 [] with tag := 2 ^ 64 }, .fireTrigCompWrite (2 ^ 16), .fireChTrimWrite 64 0, .fireChTrimWrite 0 (2 ^ 12),
     .sequencerCopyDisagree 8, .fireChDroppedClr 64, .kilnHpwrReqWrite 2 0, .kilnHpwrReqWrite 0 (2 ^ 32), .headPowerOn 64, .pwrSettleExpiry 64,
     .headPowerOff 64, .kilnChClipClr 64, .motMove { dsc 1 [] with tag := 2 ^ 64 }, .motSpeed { dsc 1 [] with tag := 2 ^ 64 },
     .motStop { dsc 1 [] with tag := 2 ^ 64 }, .stepIssue 4 1, .stepIssue 0 0, .axisAtRest 4, .cruiseReached 4, .limitInput 4 false false,
     .encoderFault 4, .encoderRecover 4, .encDirChange 4, .encAmpClr 4] : List Instr).all (fun i => !i.wf) = true := by decide +kernel

theorem refused_4 : ([
    .encFaultClr 4, .exposureTrigger 8, .csiShortPacket 8 0 0 0, .csiShortPacket 0 3 0 0, .csiShortPacket 0 0 4 0, .csiShortPacket 0 0 0 64,
     .csiLongPacket 8 0 0 0 0 false [], .csiLongPacket 0 3 0 0 0 false [], .csiLongPacket 0 0 4 0 0 false [], .csiLongPacket 0 0 0 64 0 false [],
     .csiLongPacket 0 0 0 0 (2 ^ 16) false [], .frameLatencyTimeout 8, .jobEndClosingTrigger 8, .frameRecordSend 8, .ispShadowApply 4,
     .camLostClr 8, .camPhyErrClr 8, .camStaleClr 8, .alignedLineReceive 64 0 0 0 0 0 0 [], .alignedLineReceive 0 512 0 0 0 0 0 [],
     .alignedLineReceive 0 0 8 0 0 0 0 [], .statsRecordReceive 64 0 0 0 0 0 false, .statsRecordReceive 0 512 0 0 0 0 false,
     .statsRecordReceive 0 0 8 0 0 0 false, .lostNoticeReceive 64 0 0 0 0 0, .lostNoticeReceive 0 512 0 0 0 0, .lostNoticeReceive 0 0 8 0 0 0,
     .backinTrial 64 0, .gravRebind { dsc 1 [] with tag := 2 ^ 64 }, .channelBound 64, .learnLimit (2 ^ 32), .gravChCountClr 64, .resetTrials 64,
     .clearWindow 64, .senseChannelFault 64, .maskViolation 64, .sequencerEvent 3 0 0, .sequencerEvent 0 64 0, .sequencerTimeout 4,
     .sequencerHoldoffEnd 4, .captureComplete 4, .sgArm { dsc 1 [] with tag := 2 ^ 64 }, .sgRead { dsc 1 [] with tag := 2 ^ 64 }, .sgForce 16,
     .sgDisarm 16, .busTriggerForward 16 0 0, .sgBusTriggerFrame (2 ^ 48) 0, .sgViolClr 64, .timeIncrWrite (2 ^ 32),
     .ptpEventStamp 2 false false 0 0 0 0, .ptpEventStamp 0 false false 0 0 (2 ^ 16) 0, .ptpEventStamp 0 false false 0 0 0 16, .txStampPush 2,
     .ethTxtsEntryPop 2, .ethTxtsClr 2, .portTrain 4 false (List.replicate 8 ⟨0, 0, false, 0⟩), .portTrain 0 false [], .trainStageTimeout 4 0,
     .trainStageTimeout 0 9, .init 4 0 0 0 0 (List.replicate 4 0)] : List Instr).all (fun i => !i.wf) = true := by decide +kernel

theorem refused_5 : ([
    .init 0 0 4 0 0 (List.replicate 4 0), .init 0 0 0 4 0 (List.replicate 4 0), .init 0 0 0 0 256 (List.replicate 4 0), .init 0 0 0 0 0 [],
     .credit 4 (List.replicate 4 0), .credit 0 [], .ack 4 0, .ack 0 4096, .nak 4 0, .nak 0 4096, .width 4 0, .width 0 256, .widthSwitch 4,
     .down 4 0, .reservedControlBlock 4 0, .reservedControlBlock 0 256, .flitReceive 4 (List.replicate 256 0) [], .flitReceive 0 [] [],
     .flitReceive 0 (List.replicate 256 0) [[0]], .flitReceive 0 (List.replicate 256 0) [List.replicate 272 1024], .storeRd 4 0 0 0,
     .storeRd 0 1 0 0, .storeRd 0 0 1 0, .storeRd 0 0 4097 0, .storeData 4 0 0 [], .fecWindowEnd 36 0 0, .laneRetrain 36 0 none, .portRetrain 4 0,
     .eyeRecalibration 36 0, .wlPortRetrainWrite 4, .wlLaneRetrainWrite 36, .wlPortErrClr 4, .wlLaneRetrainsClr 36,
     .barEnum { dsc 1 [] with tag := 2 ^ 64 } [] false, .barBind { dsc 1 [] with tag := 2 ^ 64 } false,
     .barRelease false { dsc 1 [] with tag := 2 ^ 64 },
     .linkUpEnumeration false 0 4 0 { role := 3, id := 5, composite := 6, fw := 7, unsync := true, unbound := 0 } 0 0,
     .timeStampReport false 512 0 0, .timeStampReport false 0 0 (2 ^ 32), .timeStampLate false 512 0, .pageDigest 0 (2 ^ 32) 0,
     .pageDigest 0 0 (2 ^ 64), .coverageReport 512 0 0 0, .coverageReport 0 (2 ^ 64) 0 0, .coverageReport 0 0 8 0, .coverageReport 0 0 0 (2 ^ 64),
     .stateFrameReceive 2 [] 0, .stateFrameReceive 0 [0] 0, .badVerdict 3 0, .takeover 0 0, .takeover 4 0, .yield 3, .claim 3, .ownerNotice 3 0,
     .trioCfgWrite (2 ^ 32), .ddrTrain 6 none false, .dimmTempRead 6 0, .dimmTempRead 0 256, .alertN 6 false false,
     .uncorrectableBurst 6 0 false 0 0 0] : List Instr).all (fun i => !i.wf) = true := by decide +kernel

theorem refused_6 : ([
    .uncorrectableBurst 0 0 false 0 64 0, .ddrChannelFail 6, .evacuationDone 6, .selfRefreshExit 6 false, .ddrEccClr 6, .ddrAlertClr 6,
     .spargeRead 6 0, .spargeRead 0 4, .sramScrub 7 0 0 false, .sramScrub 0 64 0 false, .recalibration 0 64 0 [], .headIdRead 64 [],
     .fireCountsRead { dsc 1 [] with tag := 2 ^ 64 }, .telemetrySample false 40 0, .telemetrySample true 32 0, .telemetrySample false 0 (2 ^ 16),
     .telRead { dsc 1 [] with tag := 2 ^ 64 }, .fenceSet { dsc 1 [] with tag := 2 ^ 64 }, .fenceLift { dsc 1 [] with tag := 2 ^ 64 } false,
     .telTempClr 40, .spgFoundClr 6, .spgCtrlWrite 6 0, .spgCtrlWrite 0 (2 ^ 32), .flsProgram { dsc 1 [] with tag := 2 ^ 64 },
     .flsErase { dsc 1 [] with tag := 2 ^ 64 }, .caskConfirm { dsc 1 [] with tag := 2 ^ 64 }, .fwHandover { dsc 1 [] with tag := 2 ^ 64 },
     .handoverFreeze 0 0 [] 4 none, .flsXipWrite false (2 ^ 32), .flsHostloadWrite (2 ^ 32), .wortImageLoad 4 false [] false,
     .caskRecordWrite 1 0 [], .caskRecordWrite 7 0 [], .getInfo (2 ^ 16) 0 0, .getInfo 0 (2 ^ 16) 0, .getInfo 0 0 (2 ^ 16), .usbRegRead (2 ^ 32) 0,
     .usbRegRead 0 (2 ^ 16), .usbRegWrite (2 ^ 32) 0 [] false, .usbRegWrite 0 (2 ^ 16) [] false, .telPeek (2 ^ 16) 0 0, .telPeek 0 (2 ^ 16) 0,
     .telPeek 0 0 (2 ^ 16), .usbStandardRequest 256 0 0 0 0, .usbStandardRequest 0 256 0 0 0, .usbStandardRequest 0 0 (2 ^ 16) 0 0,
     .usbStandardRequest 0 0 0 (2 ^ 16) 0, .usbStandardRequest 0 0 0 0 (2 ^ 16), .encoderSample 4 0 0, .encoderSample 0 (2 ^ 14) 0,
     .encoderSample 0 0 (2 ^ 14), .senseSample 0 [], .auxPauseEnd 6, .bar4Access false (2 ^ 36) 0 [], .bar4Access false 0 0 [0],
     .ethLinkChange 2 false, .csiLinkChange 8 false, .alertNHigh 6] : List Instr).all (fun i => !i.wf) = true := by decide +kernel


theorem accepted_0 : ([
    .powerOnReset 0, .resetNReset 0 false 0, .softwareReset 0, .wortResetRequest 0 0, .thermalTrip 0, .criticalStateError 0 false, .supplyFail 0,
     .pwrReqWrite 0 0, .pstateRequest 0, .reg64LowerRead false 0 false, .reg64LowerWrite false 0 0, .reg64UpperWrite false 4 0,
     .registerWrite false false 0 0, .nop (dsc 1 []), .queueCreate (dsc 1 []), .queueDelete (dsc 1 []), .queueResume (dsc 1 []),
     .handleQuery (dsc 1 []), .copy (dsc 1 []), .mashStage (dsc 1 []), .mashCommit (dsc 1 []) [], .mashAbort (dsc 1 []), .mashRbAdvance (dsc 1 []),
     .bootImageCommit 0 [] 0, .changeSetStageSwitch 0 0, .gapSectionApply 0 0, .sqTailDoorbell 0 0, .cqHeadDoorbell 0 0, .completionDue 0 0 0 0,
     .cqAggTimeout 0, .msixUnmask 0, .jsaMap (dsc 1 []) false, .jsaUnmap (dsc 1 []) false, .unmapComplete 0 false none,
     .pageSubmit (dsc 1 []) none, .pageCancel (dsc 1 []) false none, .pageComplete 0 0, .pageFault 0 1 0 0 0 0 0, .blockSend 0 0 0 none [],
     .intakeCreditGrant 0 0 1 0,
     .blockArrival 0 { page := 0, first := 0, lines := 0, gap := 0, last := false, index := 0, line := 0, planeLines := 0, bytes := [0] },
     .grantRefill 0, .dataLateReport 0 0, .archiveSetup (dsc 1 []), .archiveRead (dsc 1 []), .archiveFrameWrite 0, .ubLateCountClr 0,
     .blockDecodeStart 0, .blockCheckDone 0 0, .blockRelease 0, .archiveBlockClose 0, .cdcEncFlush 0, .cdcFailClr 0, .sliceStart 0 0,
     .engineNop 0 0, .jmp 0 0, .jnz 0 0, .jz 0 0, .loop 0 0, .call 0 0] : List Instr).all Instr.wf = true := by decide +kernel

theorem accepted_1 : ([
    .ret 0 0, .endl 0 0 0, .trap 0 0, .sadd 0 0, .ssub 0 0, .smov 0 0, .sand 0 0, .sor 0 0, .sshl 0 0, .sshr 0 0, .smul 0 0, .srd 0 0, .vadd 0 0,
     .vsub 0 0, .vmin 0 0, .vmax 0 0, .vand 0 0, .vor 0 0, .vxor 0 0, .vshl 0 0, .vshr 0 0, .vsra 0 0, .vsel 0 0, .vcmp 0 0, .vmov 0 0, .viota 0 0,
     .vmul 0 0, .vmulw 0 0, .vmac 0 0, .vnarrow 0 0, .vslide 0 0, .vbcast 0 0, .vperm 0 0, .ldl 0 0, .stl 0 0, .ldgl 0 0, .ldt 0 0, .stt 0 0,
     .ldtm 0 0, .curve 0 0, .edstep 0 0, .emit 0 0, .sendr 0 0, .sendl 0 0, .recvl 0 0, .recvr 0 0, .edgeWaitResume 0 0, .tunFault 0 0 1 1,
     .sliceOverrun 0 0, .lineComplete 0, .tunPausePoint 0, .tunProgLoadDone 0 false, .tunFaultClr 0, .tunEccClr 0, .tunSliceMaxClr 0 0,
     .generationSwitch 0, .scrBridgeSetWrite 0 0 0, .scrBridgeClrWrite 0 0 0, .scrBridgeApply 0, .scrBridgeLostClr 0] : List Instr).all Instr.wf = true := by decide +kernel

theorem accepted_2 : ([
    .scrClipClr 0, .lineEventFrame 0 0, .stopDistanceFrame 0, .badTriggerFrame 0, .lineTake 0 0, .firstLinePrepare 0 0, .lineFire 0,
     .strobeStart 0, .fireCommit (dsc 1 []), .fireTrigCompWrite 0, .fireChTrimWrite 0 0, .sequencerCopyDisagree 0, .fireChDroppedClr 0,
     .kilnHpwrReqWrite 0 0, .headPowerOn 0, .pwrSettleExpiry 0, .headPowerOff 0, .kilnChClipClr 0, .motMove (dsc 1 []), .motSpeed (dsc 1 []),
     .motStop (dsc 1 []), .stepIssue 0 1, .axisAtRest 0, .cruiseReached 0, .limitInput 0 false false, .encoderFault 0, .encoderRecover 0,
     .encDirChange 0, .encAmpClr 0, .encFaultClr 0, .exposureTrigger 0, .csiShortPacket 0 0 0 0, .csiLongPacket 0 0 0 0 0 false [],
     .frameLatencyTimeout 0, .jobEndClosingTrigger 0, .frameRecordSend 0, .ispShadowApply 0, .camLostClr 0, .camPhyErrClr 0, .camStaleClr 0,
     .alignedLineReceive 0 0 0 0 0 0 0 [], .statsRecordReceive 0 0 0 0 0 0 false, .lostNoticeReceive 0 0 0 0 0 0, .backinTrial 0 0,
     .gravRebind (dsc 1 []), .channelBound 0, .learnLimit 0, .gravChCountClr 0, .resetTrials 0, .clearWindow 0, .senseChannelFault 0,
     .maskViolation 0, .sequencerEvent 0 0 0, .sequencerTimeout 0, .sequencerHoldoffEnd 0, .captureComplete 0, .sgArm (dsc 1 []),
     .sgRead (dsc 1 []), .sgForce 0, .sgDisarm 0] : List Instr).all Instr.wf = true := by decide +kernel

theorem accepted_3 : ([
    .busTriggerForward 0 0 0, .sgBusTriggerFrame 0 0, .sgViolClr 0, .timeIncrWrite 0, .ptpEventStamp 0 false false 0 0 0 0, .txStampPush 0,
     .ethTxtsEntryPop 0, .ethTxtsClr 0, .portTrain 0 false (List.replicate 8 ⟨0, 0, false, 0⟩), .trainStageTimeout 0 0,
     .init 0 0 0 0 0 (List.replicate 4 0), .credit 0 (List.replicate 4 0), .ack 0 0, .nak 0 0, .width 0 0, .widthSwitch 0, .down 0 0,
     .reservedControlBlock 0 0, .flitReceive 0 (List.replicate 256 0) [], .storeRd 0 0 0 0, .storeData 0 0 0 [], .fecWindowEnd 0 0 0,
     .laneRetrain 0 0 none, .portRetrain 0 0, .eyeRecalibration 0 0, .wlPortRetrainWrite 0, .wlLaneRetrainWrite 0, .wlPortErrClr 0,
     .wlLaneRetrainsClr 0, .barEnum (dsc 1 []) [] false, .barBind (dsc 1 []) false, .barRelease false (dsc 1 []),
     .linkUpEnumeration false 0 0 0 { role := 3, id := 5, composite := 6, fw := 7, unsync := true, unbound := 0 } 0 0,
     .timeStampReport false 0 0 0, .timeStampLate false 0 0, .pageDigest 0 0 0, .coverageReport 0 0 0 0, .stateFrameReceive 0 [] 0,
     .badVerdict 0 0, .takeover 1 0, .yield 0, .claim 0, .ownerNotice 0 0, .trioCfgWrite 0, .ddrTrain 0 none false, .dimmTempRead 0 0,
     .alertN 0 false false, .uncorrectableBurst 0 0 false 0 0 0, .ddrChannelFail 0, .evacuationDone 0, .selfRefreshExit 0 false, .ddrEccClr 0,
     .ddrAlertClr 0, .spargeRead 0 0, .sramScrub 0 0 0 false, .recalibration 0 0 0 [], .headIdRead 0 [], .fireCountsRead (dsc 1 []),
     .telemetrySample false 0 0, .telRead (dsc 1 [])] : List Instr).all Instr.wf = true := by decide +kernel

theorem accepted_4 : ([
    .fenceSet (dsc 1 []), .fenceLift (dsc 1 []) false, .telTempClr 0, .spgFoundClr 0, .spgCtrlWrite 0 0, .flsProgram (dsc 1 []),
     .flsErase (dsc 1 []), .caskConfirm (dsc 1 []), .fwHandover (dsc 1 []), .handoverFreeze 0 0 [] 0 none, .flsXipWrite false 0,
     .flsHostloadWrite 0, .wortImageLoad 0 false [] false, .caskRecordWrite 2 0 [], .getInfo 0 0 0, .usbRegRead 0 0, .usbRegWrite 0 0 [] false,
     .telPeek 0 0 0, .usbStandardRequest 0 0 0 0 0, .encoderSample 0 0 0, .senseSample 0 (List.replicate 64 0), .auxPauseEnd 0,
     .bar4Access false 0 0 [], .ethLinkChange 0 false, .csiLinkChange 0 false, .alertNHigh 0] : List Instr).all Instr.wf = true := by decide +kernel

/-! ## Values that spec/ works out

Each expected result stands in the section named. -/

/-- spec/04_mash_image.md, R72. -/
theorem test_crc32c : crc32c [0x31, 0x32, 0x33, 0x34, 0x35, 0x36, 0x37, 0x38, 0x39] = 0xE3069283 := by decide +kernel

/-- spec/07_codec.md, the worked example before R153. -/
theorem test_codec : decodePayload anyMatch 10 4 2 1 [0x10, 0x0C, 0x11, 0xE4] = .ok [[[512, 515, 515, 510], [512, 515, 515, 510]]] := by rfl

/-- spec/05_command_queues.md, the worked example after R109: the slot's generation goes from 0x39 to 0x3A. -/
theorem test_handle : mkHandle (0x39 + 1) 8000 = 0x3A001F40 ∧ handleSlot 0x3A001F40 = 8000 ∧ handleGen 0x3A001F40 = 0x3A := by decide

/-- spec/15_gravity_loop.md, the example in R284. -/
theorem test_gravity_curve : correct 3686 512 = 569 := by decide

/-- spec/10_firing.md, its worked example: P_MIN, and T_LINE of the request accepted and of the one refused. -/
theorem test_t_line : pMin 150000 = 2666 ∧ Setup.tLine { strobe := 200, gap := 8, dead := 20, conc := 8, smax := 3 } = 2576 ∧
    Setup.tLine { strobe := 220, gap := 8, dead := 20, conc := 8, smax := 3 } = 2816 := by decide

/-- spec/09_screening_and_compensation.md, "five nozzles through the chain", step 6: nozzle 102 is masked. -/
theorem test_edstep :
    let e := edLanes 0 (IWord.of (iw 0x61 [(47, 3), (42, 1), (37, 30), (32, 2), (28, 4), (16, 7)])) 0x1B (List.range 5)
      { v := [(1, [650, 868, 0, 914, 690]), (2, [12, 0xFFEC, 0, 5, 0xFFF8])], sreg := [(30, 341 + 2048 * 3), (2, 30)] }
    (List.range 5).map (e.lane 3) = [0xFFFA, 0x02E6, 0, 0xFF93, 0xFFF2] ∧ e.sr 2 = 2 ^ 32 - 2 := by decide +kernel

/-- spec/02_reset_clocks_power.md, the worked example of R55: PD101 is refused, PD096 to PD103 else are let go. -/
theorem test_domain_refused :
    Runs (.pwrReqWrite 3 0xFFFFFF00) (({ on0 with fullImage := some (img true []) } : State).set .FENCE_MAP_UNITS 0xF00000000 0 4 |>.set .FENCE_MAP_UNITS 8 0 5
      |>.set .FENCE_MAP_UNITS 0xD 0 6 |>.set .PWR_REQ_ON 0xFFFFFFFF 0 3)
      (fun t => t.get .PWR_ERR_REFUSED 0 3 = 0x20 ∧ t.get .PWR_REQ_ON 0 3 = 0xFFFFFF20) := ⟨_, rfl, by decide +kernel⟩

/-- R308: a tick advances the counter by INCR, 2.5 ns. -/
theorem test_tick : Runs .timeCounterTick on0 (fun t => t.clock = { sec := 0, nsf := 2, frac := 0x80000000 } ∧ t.now = 1) := ⟨_, rfl, by decide +kernel⟩

/-- R171: SADD wraps at 32 bits. -/
theorem test_sadd : Runs (.sadd 63 15) (tun 63 15 0x10 [(47, 31), (42, 30), (24, 1), (0, 1)] { sreg := [(30, 0xFFFFFFFF)] })
    (fun t => (t.eng 63 15).sr 31 = 0 ∧ (t.eng 63 15).pc = 1) := ⟨_, rfl, by decide +kernel⟩

/-! ## Every hypothesis of Obligations.lean is met -/

/-- Accepts, decided. -/
theorem accepts_of {s : State} {d : Desc} {op : Nat} {used : List (Nat × Nat)}
    (h : (s.mayFetch d && d.opcode == op && s.classOk d.sq (op / 256) &&
      (d.tag == 0 || ((s.pair d.sq).tags.find? (fun t => t.tag == d.tag)).isNone) && s.targetSelf d && d.rsvZero && d.unusedZero used) = true) :
    Accepts s d op used := by
  simp only [Bool.and_eq_true, beq_iff_eq] at h
  obtain ⟨⟨⟨⟨⟨⟨h1, h2⟩, h3⟩, h4⟩, h5⟩, h6⟩, h7⟩ := h
  refine ⟨h1, h2, h3, ?_, h5, h6, h7⟩
  simpa only [Bool.or_eq_true, beq_iff_eq, Option.isNone_iff_eq_none] using h4

/-- Issues, decided. -/
theorem issues_of {s : State} {t m op : Nat} {u : Uses} {w : IWord}
    (h : (s.issuing t m && decide ((s.eng t m).cyc < s.get .TUN_LIMIT_SLICE_LIMIT t) && (s.eng t m).fetch == some w && w.op == op && w.legal u) = true) : Issues s t m op u w := by
  simp only [Bool.and_eq_true, beq_iff_eq, decide_eq_true_eq] at h
  obtain ⟨⟨⟨⟨h1, h2⟩, h3⟩, h4⟩, h5⟩ := h
  exact ⟨h1, h2, h3, h4, h5⟩

/-- Issues0, decided. -/
theorem issues0_of {s : State} {t m op : Nat} {u : Uses} {w : IWord}
    (h : (s.issuing t m && decide ((s.eng t m).cyc < s.get .TUN_LIMIT_SLICE_LIMIT t) && (s.eng t m).fetch == some w && w.op == op && w.legal u && bit (w.mask (s.ticked t m)) 0) = true) :
    Issues0 s t m op u w := by
  simp only [Bool.and_eq_true] at h
  exact ⟨issues_of (by simpa only [Bool.and_eq_true] using h.1), h.2⟩

/-- CRC-32C with every step's value worked out before the next, for the kernel. -/
def forced {α : Type} (n : Nat) (f : Nat → α) : α := match n with | 0 => f 0 | k + 1 => f (k + 1)
def crcForced : List Byte → Nat → Nat
  | [], c => c
  | b :: bs, c => forced (crcByte (BitVec.ofNat 32 c) b).toNat (crcForced bs)

theorem crcForced_eq (bs : List Byte) (c : BitVec 32) : crcForced bs c.toNat = (bs.foldl crcByte c).toNat := by
  induction bs generalizing c with
  | nil => rfl
  | cons b bs ih =>
    have h : ∀ (n : Nat) (f : Nat → Nat), forced n f = f n := fun n f => by cases n <;> rfl
    rw [crcForced, h, BitVec.ofNat_toNat, BitVec.setWidth_eq, ih, List.foldl_cons]

theorem crc32c_forced (bs : List Byte) : crc32c bs = 4294967295 - crcForced bs 4294967295 := by
  have h := crcForced_eq bs 0xFFFFFFFF#32
  rw [crc32c, BitVec.toNat_not, ← h]
  rfl

/-- What was written reads back. -/
theorem rds_wrs (m : Memory) (a n : Nat) (bs : List Byte) (h : n ≤ bs.length) : Memory.rds (Memory.wrs m a bs) a n = bs.take n := by
  apply List.ext_getElem
  · simp [Memory.rds, h]
  · intro j h1 h2
    simp only [Memory.rds, List.length_map, List.length_range] at h1
    simp only [Memory.rds, List.getElem_map, List.getElem_range, List.getElem_take]
    rw [Memory.rd_wrs_in bs m a j (by omega)]
    simp [List.getD_eq_getElem?_getD, List.getElem?_eq_getElem (show j < bs.length by omega)]

theorem fwImg_length : fwImg.length = 576 := by decide +kernel

theorem rds_fw : Memory.rds (Memory.wrs [] 0 fwImg) 0 576 = fwImg := by
  rw [rds_wrs _ _ _ _ (Nat.le_of_eq fwImg_length.symm), List.take_of_length_le (Nat.le_of_eq fwImg_length)]

theorem fwArr_rd (s : State) (a n : Nat) (h : n ≤ 576) : (s.setArray a fwArr).flashRd a 0x1000 n = fwImg.take n := by
  have e : (s.setArray a fwArr).array a = fwArr := by simp [State.array, State.setArray]
  have l : n ≤ (fwImg.map (fun b => ~~~ b)).length := by rw [List.length_map, fwImg_length]; exact h
  rw [State.flashRd, e, fwArr, rds_wrs _ _ _ _ l, List.map_take, List.map_map,
    show (fun (b : Byte) => ~~~ b) ∘ (fun b => ~~~ b) = id from funext (fun b => BitVec.not_not), List.map_id]

theorem fwArr_all (s : State) (a : Nat) : (s.setArray a fwArr).flashRd a 0x1000 576 = fwImg := by
  rw [fwArr_rd _ _ _ (Nat.le_refl _), List.take_of_length_le (Nat.le_of_eq fwImg_length)]

theorem fwArr_fw (s : State) (a : Nat) : (s.setArray a fwArr).arrayFw a = fwImg := by
  have e : (s.setArray a fwArr).array a = fwArr := by simp [State.array, State.setArray]
  have l : fwLength (fwImg.take 64) = 576 := by decide +kernel
  have u : (s.setArray a fwArr).arrayUsed a = true := by rw [State.arrayUsed, e]; rfl
  rw [State.arrayFw, fwArr_rd _ _ _ (by omega), l, u, fwArr_all]
  rfl

/-- The invariant holds at reset with a command waiting, and the step there runs. -/
theorem wit_StepKeepsInvariant : ∃ s t : State, s.Inv ∧ step s = .next t :=
  ⟨{ State.reset with pending := [.timeCounterTick] }, _, ⟨by decide +kernel, by decide +kernel, by decide +kernel, by decide +kernel⟩, rfl⟩

theorem wit_StepRunsFrontCommand :
    (∃ (c : Instr) (rest : List Instr) (s : State), s.pending = c :: rest) ∧
    (∃ (s : State), s.pending = []) :=
  ⟨⟨.timeCounterTick, [.powerOnReset 0], { on0 with pending := [.timeCounterTick, .powerOnReset 0] }, by decide +kernel⟩,
    ⟨State.reset, by decide +kernel⟩⟩

theorem wit_ReservedBitsReadZero :
    (∃ (r : Reg) (x : Nat), (∀ f ∈ r.fields, f.desc.access ≠ .wo → ¬ (f.desc.lo ≤ x ∧ x < f.desc.lo + f.desc.width))) :=
  ⟨.RST_STATUS, 31, by decide +kernel⟩

theorem wit_EngineControl :
    (∃ (s : State) (t : Nat) (m : Nat) (w : IWord), Issues s t m 0x00 {} w) ∧
    (∃ (s : State) (t : Nat) (m : Nat) (w : IWord), Issues0 s t m 0x01 { imm := true } w) ∧
    (∃ (s : State) (t : Nat) (m : Nat) (w : IWord), Issues0 s t m 0x02 { a := true, imm := true } w) ∧
    (∃ (s : State) (t : Nat) (m : Nat) (w : IWord), Issues0 s t m 0x03 { a := true, imm := true } w) ∧
    (∃ (s : State) (t : Nat) (m : Nat) (w : IWord), Issues0 s t m 0x04 { a := true, imm := true } w ∧ (s.eng t m).sr w.a ≠ 0 ∧ w.imm % 2048 ≠ 0 ∧ (s.eng t
      m).lstack.length < 4) ∧
    (∃ (s : State) (t : Nat) (m : Nat) (w : IWord), Issues0 s t m 0x04 { a := true, imm := true } w ∧ ((s.eng t m).sr w.a = 0 ∨ w.imm % 2048 = 0)) ∧
    (∃ (s : State) (t : Nat) (m : Nat) (w : IWord), Issues0 s t m 0x05 { imm := true } w ∧ (s.eng t m).rstack.length < 8) ∧
    (∃ (s : State) (t : Nat) (m : Nat) (w : IWord) (a : _) (r : _), Issues0 s t m 0x06 {} w ∧ (s.eng t m).rstack = a :: r) ∧
    (∃ (e : Eng), (∀ l ∈ e.lstack, e.pc ≠ l.2.1)) ∧
    (∃ (e : Eng) (first : Nat) (last : Nat) (n : Nat) (rest : List (Nat × Nat × Nat)), e.lstack = (first, last, n) :: rest ∧ e.pc = last ∧ 1 < n) ∧
    (∃ (e : Eng) (first : Nat) (last : Nat) (rest : List (Nat × Nat × Nat)), e.lstack = (first, last, 1) :: rest ∧ e.pc = last ∧ (∀ l ∈ rest, l.2.1 ≠ last)) :=
  ⟨⟨tun 63 15 0x00 [] {}, 63, 15, IWord.of (iw 0x00 []), issues_of (by decide +kernel)⟩,
    ⟨tun 63 15 0x01 [(0, 2047)] {}, 63, 15, IWord.of (iw 0x01 [(0, 2047)]), issues0_of (by decide +kernel)⟩,
    ⟨tun 63 15 0x02 [(42, 31), (0, 7)] { sreg := [(31, 1)] }, 63, 15, IWord.of (iw 0x02 [(42, 31), (0, 7)]), issues0_of (by decide +kernel)⟩,
    ⟨tun 63 15 0x03 [(42, 31), (0, 7)] {}, 63, 15, IWord.of (iw 0x03 [(42, 31), (0, 7)]), issues0_of (by decide +kernel)⟩,
    ⟨tun 63 15 0x04 [(42, 31), (0, 2047)] { sreg := [(31, 1)], lstack := [(0, 0, 1), (0, 0, 1), (0, 0, 1)] }, 63, 15, IWord.of (iw 0x04 [(42, 31), (0,
    2047)]), issues0_of (by decide +kernel), by decide +kernel⟩,
    ⟨tun 63 15 0x04 [(42, 31), (0, 2047)] {}, 63, 15, IWord.of (iw 0x04 [(42, 31), (0, 2047)]), issues0_of (by decide +kernel), by decide +kernel⟩,
    ⟨tun 63 15 0x05 [(0, 2047)] { rstack := [1, 2, 3, 4, 5, 6, 7] }, 63, 15, IWord.of (iw 0x05 [(0, 2047)]), issues0_of (by decide +kernel),
    by decide +kernel⟩,
    ⟨tun 63 15 0x06 [] { rstack := [2047, 1] }, 63, 15, IWord.of (iw 0x06 []), 2047, [1], issues0_of (by decide +kernel), by decide +kernel⟩,
    ⟨{ pc := 5, lstack := [(0, 4, 2)] }, by decide +kernel⟩,
    ⟨{ pc := 5, lstack := [(3, 5, 2)] }, 3, 5, 2, [], by decide +kernel⟩,
    ⟨{ pc := 5, lstack := [(3, 5, 1), (0, 9, 1)] }, 3, 5, [(0, 9, 1)], by decide +kernel⟩⟩

theorem wit_EngineEndLine :
    (∃ (s : State) (t : Nat) (m : Nat) (n : Nat) (w : IWord), Issues0 s t m 0x07 {} w ∧ n ≤ s.get .TUN_LIMIT_SLICE_LIMIT t) ∧
    (∃ (s : State) (t : Nat) (m : Nat) (w : IWord), Issues0 s t m 0x08 { imm := true } w ∧ s.get .TUN_FAULT_CODE t = 0) :=
  ⟨⟨tun 63 15 0x07 [] {}, 63, 15, 0, IWord.of (iw 0x07 []), issues0_of (by decide +kernel), by decide +kernel⟩,
    ⟨tun 63 15 0x08 [(0, 65535)] {}, 63, 15, IWord.of (iw 0x08 [(0, 65535)]), issues0_of (by decide +kernel), by decide +kernel⟩⟩

theorem wit_EngineScalar :
    (∃ (s : State) (t : Nat) (m : Nat) (w : IWord), Issues0 s t m 0x10 usesScalar w) ∧
    (∃ (s : State) (t : Nat) (m : Nat) (w : IWord), Issues0 s t m 0x11 usesScalar w) ∧
    (∃ (s : State) (t : Nat) (m : Nat) (w : IWord), Issues0 s t m 0x12 { d := true, bop := 1 } w) ∧
    (∃ (s : State) (t : Nat) (m : Nat) (w : IWord), Issues0 s t m 0x13 usesScalar w) ∧
    (∃ (s : State) (t : Nat) (m : Nat) (w : IWord), Issues0 s t m 0x14 usesScalar w) ∧
    (∃ (s : State) (t : Nat) (m : Nat) (w : IWord), Issues0 s t m 0x17 usesScalar w) ∧
    (∃ (s : State) (t : Nat) (m : Nat) (w : IWord), Issues0 s t m 0x15 usesScalar w) ∧
    (∃ (s : State) (t : Nat) (m : Nat) (w : IWord), Issues0 s t m 0x16 usesScalar w) ∧
    (∃ (s : State) (t : Nat) (m : Nat) (w : IWord), (Issues0 s t m 0x18 { d := true, aux := fun x => decide (x ≤ 9) } w)) :=
  ⟨⟨tun 63 15 0x10 [(47, 31), (42, 30), (24, 1), (0, 65535)] {}, 63, 15, IWord.of (iw 0x10 [(47, 31), (42, 30), (24, 1), (0, 65535)]), issues0_of
    (by decide +kernel)⟩,
    ⟨tun 63 15 0x11 [(47, 31), (42, 30), (37, 29)] {}, 63, 15, IWord.of (iw 0x11 [(47, 31), (42, 30), (37, 29)]), issues0_of (by decide +kernel)⟩,
    ⟨tun 63 15 0x12 [(47, 31), (24, 1), (0, 65535)] {}, 63, 15, IWord.of (iw 0x12 [(47, 31), (24, 1), (0, 65535)]), issues0_of (by decide +kernel)⟩,
    ⟨tun 63 15 0x13 [(47, 31), (42, 30), (37, 29)] {}, 63, 15, IWord.of (iw 0x13 [(47, 31), (42, 30), (37, 29)]), issues0_of (by decide +kernel)⟩,
    ⟨tun 63 15 0x14 [(47, 31), (42, 30), (24, 1), (0, 65535)] {}, 63, 15, IWord.of (iw 0x14 [(47, 31), (42, 30), (24, 1), (0, 65535)]), issues0_of
    (by decide +kernel)⟩,
    ⟨tun 63 15 0x17 [(47, 31), (42, 30), (37, 29)] {}, 63, 15, IWord.of (iw 0x17 [(47, 31), (42, 30), (37, 29)]), issues0_of (by decide +kernel)⟩,
    ⟨tun 63 15 0x15 [(47, 31), (42, 30), (24, 1), (0, 31)] {}, 63, 15, IWord.of (iw 0x15 [(47, 31), (42, 30), (24, 1), (0, 31)]), issues0_of
    (by decide +kernel)⟩,
    ⟨tun 63 15 0x16 [(47, 31), (42, 30), (24, 1), (0, 31)] {}, 63, 15, IWord.of (iw 0x16 [(47, 31), (42, 30), (24, 1), (0, 31)]), issues0_of
    (by decide +kernel)⟩,
    ⟨tun 63 15 0x18 [(47, 31), (16, 9)] {}, 63, 15, IWord.of (iw 0x18 [(47, 31), (16, 9)]), issues0_of (by decide +kernel)⟩⟩

theorem wit_EngineRegisters :
    (∃ (i : Nat), i < 32) :=
  ⟨31, by decide +kernel⟩

theorem wit_EngineVector :
    (∃ (s : State) (t : Nat) (m : Nat) (w : IWord), Issues s t m 0x20 usesLaneSat w) ∧
    (∃ (s : State) (t : Nat) (m : Nat) (w : IWord), Issues s t m 0x21 usesLaneSat w) ∧
    (∃ (s : State) (t : Nat) (m : Nat) (w : IWord), Issues s t m 0x22 usesMinMax w) ∧
    (∃ (s : State) (t : Nat) (m : Nat) (w : IWord), Issues s t m 0x23 usesMinMax w) ∧
    (∃ (s : State) (t : Nat) (m : Nat) (w : IWord), Issues s t m 0x24 usesLane w) ∧
    (∃ (s : State) (t : Nat) (m : Nat) (w : IWord), Issues s t m 0x25 usesLane w) ∧
    (∃ (s : State) (t : Nat) (m : Nat) (w : IWord), Issues s t m 0x26 usesLane w) ∧
    (∃ (s : State) (t : Nat) (m : Nat) (w : IWord), Issues s t m 0x2A { d := true, a := true, c := true, bop := 2 } w ∧ w.c < 8) ∧
    (∃ (s : State) (t : Nat) (m : Nat) (w : IWord), Issues s t m 0x2C { d := true, bop := 2 } w) ∧
    (∃ (s : State) (t : Nat) (m : Nat) (w : IWord), Issues s t m 0x2D { d := true, a := true } w) ∧
    (∃ (s : State) (t : Nat) (m : Nat) (w : IWord), (Issues s t m 0x2B { d := true, a := true, bop := 2, aux := fun x => decide (x ≤ 5) } w) ∧ 1 ≤ w.d ∧
      w.d < 8) ∧
    (∃ (s : State) (t : Nat) (m : Nat) (w : IWord), Issues s t m 0x27 usesLane w) ∧
    (∃ (s : State) (t : Nat) (m : Nat) (w : IWord), Issues s t m 0x28 usesLane w) ∧
    (∃ (s : State) (t : Nat) (m : Nat) (w : IWord), Issues s t m 0x29 usesLane w) :=
  ⟨⟨tun 63 15 0x20 [(47, 31), (42, 30), (24, 1), (0, 15)] {}, 63, 15, IWord.of (iw 0x20 [(47, 31), (42, 30), (24, 1), (0, 15)]), issues_of
    (by decide +kernel)⟩,
    ⟨tun 63 15 0x21 [(47, 31), (42, 30), (37, 29)] {}, 63, 15, IWord.of (iw 0x21 [(47, 31), (42, 30), (37, 29)]), issues_of (by decide +kernel)⟩,
    ⟨tun 63 15 0x22 [(47, 31), (42, 30), (24, 1), (0, 15)] {}, 63, 15, IWord.of (iw 0x22 [(47, 31), (42, 30), (24, 1), (0, 15)]), issues_of
    (by decide +kernel)⟩,
    ⟨tun 63 15 0x23 [(47, 31), (42, 30), (37, 29)] {}, 63, 15, IWord.of (iw 0x23 [(47, 31), (42, 30), (37, 29)]), issues_of (by decide +kernel)⟩,
    ⟨tun 63 15 0x24 [(47, 31), (42, 30), (24, 1), (0, 15)] {}, 63, 15, IWord.of (iw 0x24 [(47, 31), (42, 30), (24, 1), (0, 15)]), issues_of
    (by decide +kernel)⟩,
    ⟨tun 63 15 0x25 [(47, 31), (42, 30), (37, 29)] {}, 63, 15, IWord.of (iw 0x25 [(47, 31), (42, 30), (37, 29)]), issues_of (by decide +kernel)⟩,
    ⟨tun 63 15 0x26 [(47, 31), (42, 30), (24, 1), (0, 15)] {}, 63, 15, IWord.of (iw 0x26 [(47, 31), (42, 30), (24, 1), (0, 15)]), issues_of
    (by decide +kernel)⟩,
    ⟨tun 63 15 0x2A [(47, 31), (42, 30), (37, 29), (32, 7)] {}, 63, 15, IWord.of (iw 0x2A [(47, 31), (42, 30), (37, 29), (32, 7)]), issues_of
    (by decide +kernel), by decide +kernel⟩,
    ⟨tun 63 15 0x2C [(47, 31), (37, 29)] {}, 63, 15, IWord.of (iw 0x2C [(47, 31), (37, 29)]), issues_of (by decide +kernel)⟩,
    ⟨tun 63 15 0x2D [(47, 31), (42, 30)] {}, 63, 15, IWord.of (iw 0x2D [(47, 31), (42, 30)]), issues_of (by decide +kernel)⟩,
    ⟨tun 63 15 0x2B [(47, 7), (42, 30), (37, 29), (16, 5)] {}, 63, 15, IWord.of (iw 0x2B [(47, 7), (42, 30), (37, 29), (16, 5)]), issues_of
    (by decide +kernel), by decide +kernel⟩,
    ⟨tun 63 15 0x27 [(47, 31), (42, 30), (24, 1), (0, 15)] {}, 63, 15, IWord.of (iw 0x27 [(47, 31), (42, 30), (24, 1), (0, 15)]), issues_of
    (by decide +kernel)⟩,
    ⟨tun 63 15 0x28 [(47, 31), (42, 30), (24, 1), (0, 15)] {}, 63, 15, IWord.of (iw 0x28 [(47, 31), (42, 30), (24, 1), (0, 15)]), issues_of
    (by decide +kernel)⟩,
    ⟨tun 63 15 0x29 [(47, 31), (42, 30), (24, 1), (0, 15)] {}, 63, 15, IWord.of (iw 0x29 [(47, 31), (42, 30), (24, 1), (0, 15)]), issues_of
    (by decide +kernel)⟩⟩

theorem wit_EngineMultiplyPermute :
    (∃ (s : State) (t : Nat) (m : Nat) (w : IWord), Issues s t m 0x30 usesMul w) ∧
    (∃ (s : State) (t : Nat) (m : Nat) (w : IWord), Issues s t m 0x31 usesMulWide w ∧ w.d % 2 = 0) ∧
    (∃ (s : State) (t : Nat) (m : Nat) (w : IWord), Issues s t m 0x32 usesMulWide w ∧ w.d % 2 = 0) ∧
    (∃ (s : State) (t : Nat) (m : Nat) (w : IWord), (Issues s t m 0x33 { d := true, a := true, shift := true, sat := true, aux := fun x => decide (x ≤ 3) }
      w) ∧ w.a % 2 = 0) ∧
    (∃ (s : State) (t : Nat) (m : Nat) (w : IWord), (Issues s t m 0x40 { d := true, a := true, c := true, aux := fun x => bits x 5 2 == 0 } w)) ∧
    (∃ (s : State) (t : Nat) (m : Nat) (w : IWord), (Issues s t m 0x41 { d := true, a := true, aux := fun x => decide (x < 32) } w)) ∧
    (∃ (s : State) (t : Nat) (m : Nat) (w : IWord), Issues s t m 0x42 { d := true, a := true, b := true } w) :=
  ⟨⟨tun 63 15 0x30 [(47, 31), (42, 30), (37, 29), (28, 15), (16, 3)] {}, 63, 15, IWord.of (iw 0x30 [(47, 31), (42, 30), (37, 29), (28, 15), (16, 3)]),
    issues_of (by decide +kernel)⟩,
    ⟨tun 63 15 0x31 [(47, 30), (42, 29), (37, 28)] {}, 63, 15, IWord.of (iw 0x31 [(47, 30), (42, 29), (37, 28)]), issues_of (by decide +kernel),
    by decide +kernel⟩,
    ⟨tun 63 15 0x32 [(47, 30), (42, 29), (37, 28)] {}, 63, 15, IWord.of (iw 0x32 [(47, 30), (42, 29), (37, 28)]), issues_of (by decide +kernel),
    by decide +kernel⟩,
    ⟨tun 63 15 0x33 [(47, 31), (42, 30), (28, 15)] {}, 63, 15, IWord.of (iw 0x33 [(47, 31), (42, 30), (28, 15)]), issues_of (by decide +kernel),
    by decide +kernel⟩,
    ⟨tun 63 15 0x40 [(47, 31), (42, 30), (32, 29), (16, 159)] {}, 63, 15, IWord.of (iw 0x40 [(47, 31), (42, 30), (32, 29), (16, 159)]), issues_of
    (by decide +kernel)⟩,
    ⟨tun 63 15 0x41 [(47, 31), (42, 30), (16, 31)] {}, 63, 15, IWord.of (iw 0x41 [(47, 31), (42, 30), (16, 31)]), issues_of (by decide +kernel)⟩,
    ⟨tun 63 15 0x42 [(47, 31), (42, 30), (37, 29)] {}, 63, 15, IWord.of (iw 0x42 [(47, 31), (42, 30), (37, 29)]), issues_of (by decide +kernel)⟩⟩

theorem wit_EngineMemory :
    (∃ (s : State) (t : Nat) (m : Nat) (w : IWord), Issues s t m 0x50 { d := true, a := true, imm := true } w ∧ w.addr (s.ticked t m) % 64 = 0 ∧ w.addr
      (s.ticked t m) + 64 ≤ localSize) ∧
    (∃ (s : State) (t : Nat) (m : Nat) (w : IWord), Issues s t m 0x51 { a := true, c := true, imm := true } w ∧ w.addr (s.ticked t m) % 64 = 0 ∧ w.addr
      (s.ticked t m) + 64 ≤ localSize) ∧
    (∃ (s : State) (t : Nat) (m : Nat) (w : IWord), Issues s t m 0x52 { d := true, a := true, b := true } w ∧ (∀ i, i < 32 → bit (w.mask (s.ticked t m)) i
      = true → ((s.ticked t m).sr w.a + 2 * (s.ticked t m).lane w.b i) % 2 ^ 32 + 2 ≤ localSize)) ∧
    (∃ (s : State) (t : Nat) (m : Nat) (w : IWord), Issues s t m 0x53 { d := true, a := true, imm := true } w ∧ s.ldtOk t (w.addr (s.ticked t m)) = true) ∧
    (∃ (s : State) (t : Nat) (m : Nat) (w : IWord), Issues s t m 0x54 { a := true, c := true, imm := true } w ∧ s.sttOk t (w.addr (s.ticked t m)) = true) ∧
    (∃ (s : State) (t : Nat) (m : Nat) (w : IWord), (Issues s t m 0x55 { d := true, a := true, imm := true, aux := fun x => decide (x ≤ 1) } w) ∧ w.addr
      (s.ticked t m) + 64 ≤ s.regionSize t (if w.aux = 0 then regMap else regParam) / 2) ∧
    (∃ (mask : Nat) (i : _), i < 32 ∧ bit mask i = true) ∧
    (∃ (a : Nat) (mask : Nat) (b : _), (∀ i, i < 32 → bit mask i = true → b ≠ a + 2 * i ∧ b ≠ a + 2 * i + 1)) :=
  ⟨⟨tun 63 15 0x50 [(47, 31), (42, 30), (0, 64)] { sreg := [(30, 0x7F80)] }, 63, 15, IWord.of (iw 0x50 [(47, 31), (42, 30), (0, 64)]), issues_of
    (by decide +kernel), by decide +kernel⟩,
    ⟨tun 63 15 0x51 [(42, 30), (32, 31), (0, 64)] { sreg := [(30, 0x7F80)] }, 63, 15, IWord.of (iw 0x51 [(42, 30), (32, 31), (0, 64)]), issues_of
    (by decide +kernel), by decide +kernel⟩,
    ⟨tun 63 15 0x52 [(47, 31), (42, 30), (37, 29)] { sreg := [(30, 0x7FFE)] }, 63, 15, IWord.of (iw 0x52 [(47, 31), (42, 30), (37, 29)]), issues_of
    (by decide +kernel), by decide +kernel⟩,
    ⟨tun 63 15 0x53 [(47, 31), (42, 30)] { sreg := [(30, 0x5FC0)] }, 63, 15, IWord.of (iw 0x53 [(47, 31), (42, 30)]), issues_of (by decide +kernel),
    by decide +kernel⟩,
    ⟨tun 63 15 0x54 [(42, 30), (32, 31)] { sreg := [(30, 0x5FC0)] }, 63, 15, IWord.of (iw 0x54 [(42, 30), (32, 31)]), issues_of (by decide +kernel),
    by decide +kernel⟩,
    ⟨tun 63 15 0x55 [(47, 31), (42, 30), (16, 1), (0, 64)] { sreg := [(30, 0x180)] }, 63, 15, IWord.of (iw 0x55 [(47, 31), (42, 30), (16, 1), (0, 64)]),
    issues_of (by decide +kernel), by decide +kernel⟩,
    ⟨0x80000000, 31, by decide +kernel⟩,
    ⟨0x7FC0, 0x80000000, 0x7FFD, by decide +kernel⟩⟩

theorem wit_EngineScreening :
    (∃ (s : State) (t : Nat) (m : Nat) (w : IWord), Issues s t m 0x60 { d := true, a := true, b := true } w) ∧
    (∃ (s : State) (t : Nat) (m : Nat) (w : IWord), (Issues s t m 0x61 { d := true, a := true, b := true, c := true, shift := true, aux := fun _ => true }
      w)) ∧
    (∃ (s : State) (t : Nat) (m : Nat) (w : IWord) (row : _), Issues s t m 0x62 { a := true, b := true } w ∧ (s.ticked t m).sr w.b % 32 = 0 ∧ (∀ i, i < 32
      → (s.ticked t m).sr w.b + i < s.tunNozzles t → s.sliceFirst t m ≤ (s.ticked t m).sr w.b + i ∧ (s.ticked t m).sr w.b + i < s.sliceFirst t m +
      s.sliceCount t m) ∧ row = look [] (s.chan t).stage (s.ticked t m).line) :=
  ⟨⟨tun 63 15 0x60 [(47, 31), (42, 30), (37, 29)] {}, 63, 15, IWord.of (iw 0x60 [(47, 31), (42, 30), (37, 29)]), issues_of (by decide +kernel)⟩,
    ⟨tun 63 15 0x61 [(47, 31), (42, 30), (37, 29), (32, 28), (28, 4)] {}, 63, 15, IWord.of (iw 0x61 [(47, 31), (42, 30), (37, 29), (32, 28), (28, 4)]),
    issues_of (by decide +kernel)⟩,
    ⟨tun 63 15 0x62 [(42, 30), (37, 29)] { sreg := [(29, 32)] }, 63, 15, IWord.of (iw 0x62 [(42, 30), (37, 29)]), look [] ((tun 63 15 0x62 [(42, 30), (37,
    29)] { sreg := [(29, 32)] }).chan 63).stage 0, issues_of (by decide +kernel), by decide +kernel⟩⟩

theorem wit_EngineEdges :
    (∃ (s : State) (t : Nat) (m : Nat) (w : IWord), Issues0 s t m 0x70 { a := true } w ∧ s.rightOf t m = none) ∧
    (∃ (s : State) (t : Nat) (m : Nat) (w : IWord) (n : _), Issues0 s t m 0x70 { a := true } w ∧ s.rightOf t m = some n ∧ (s.ticked t m).toRight.length < 4) ∧
    (∃ (s : State) (t : Nat) (m : Nat) (w : IWord) (n : _), Issues0 s t m 0x70 { a := true } w ∧ s.rightOf t m = some n ∧ 4 ≤ (s.ticked t m).toRight.length) ∧
    (∃ (s : State) (t : Nat) (m : Nat) (w : IWord), Issues0 s t m 0x71 { a := true } w ∧ s.leftOf t m = none) ∧
    (∃ (s : State) (t : Nat) (m : Nat) (w : IWord) (n : _), Issues0 s t m 0x71 { a := true } w ∧ s.leftOf t m = some n ∧ (s.ticked t m).toLeft.length < 4) ∧
    (∃ (s : State) (t : Nat) (m : Nat) (w : IWord) (n : _), Issues0 s t m 0x71 { a := true } w ∧ s.leftOf t m = some n ∧ 4 ≤ (s.ticked t m).toLeft.length) ∧
    (∃ (s : State) (t : Nat) (m : Nat) (w : IWord), Issues s t m 0x72 { d := true } w ∧ s.leftOf t m = none) ∧
    (∃ (s : State) (t : Nat) (m : Nat) (w : IWord) (n : _) (v : _) (l : _), Issues s t m 0x72 { d := true } w ∧ s.leftOf t m = some n ∧ (s.eng t n).toRight
      = v :: l) ∧
    (∃ (s : State) (t : Nat) (m : Nat) (w : IWord) (n : _), Issues s t m 0x72 { d := true } w ∧ s.leftOf t m = some n ∧ (s.eng t n).toRight = []) ∧
    (∃ (s : State) (t : Nat) (m : Nat) (w : IWord), Issues s t m 0x73 { d := true } w ∧ s.rightOf t m = none) ∧
    (∃ (s : State) (t : Nat) (m : Nat) (w : IWord) (n : _) (v : _) (l : _), Issues s t m 0x73 { d := true } w ∧ s.rightOf t m = some n ∧ (s.eng t n).toLeft
      = v :: l) ∧
    (∃ (s : State) (t : Nat) (m : Nat) (w : IWord) (n : _), Issues s t m 0x73 { d := true } w ∧ s.rightOf t m = some n ∧ (s.eng t n).toLeft = []) ∧
    (∃ (s : State) (t : Nat) (m : Nat) (w : IWord) (n : _), t < 64 ∧ (s.ticked t m).running = true ∧ (s.ticked t m).waiting = true ∧ s.fenced 2 t = false ∧
      s.engUsed t m = true ∧ s.get .PWR_PSTATE_CUR = 0 ∧ (s.eng t m).cyc < s.get .TUN_LIMIT_SLICE_LIMIT t ∧ (s.ticked t m).fetch = some w ∧ w.op =
      0x70 ∧ w.legal { a := true } = true ∧ bit (w.mask (s.ticked t m)) 0 = true ∧ s.rightOf t m = some n ∧ (s.ticked t m).toRight.length < 4) :=
  ⟨⟨tun 63 15 0x70 [(42, 30)] {}, 63, 15, IWord.of (iw 0x70 [(42, 30)]), issues0_of (by decide +kernel), by decide +kernel⟩,
    ⟨tun 63 14 0x70 [(42, 30)] { toRight := [[1], [2], [3]] }, 63, 14, IWord.of (iw 0x70 [(42, 30)]), 15, issues0_of (by decide +kernel),
    by decide +kernel⟩,
    ⟨tun 63 14 0x70 [(42, 30)] { toRight := [[1], [2], [3], [4]] }, 63, 14, IWord.of (iw 0x70 [(42, 30)]), 15, issues0_of (by decide +kernel),
    by decide +kernel⟩,
    ⟨tun 63 14 0x71 [(42, 30)] {}, 63, 14, IWord.of (iw 0x71 [(42, 30)]), issues0_of (by decide +kernel), by decide +kernel⟩,
    ⟨tun 63 15 0x71 [(42, 30)] { toLeft := [[1], [2], [3]] }, 63, 15, IWord.of (iw 0x71 [(42, 30)]), 14, issues0_of (by decide +kernel),
    by decide +kernel⟩,
    ⟨tun 63 15 0x71 [(42, 30)] { toLeft := [[1], [2], [3], [4]] }, 63, 15, IWord.of (iw 0x71 [(42, 30)]), 14, issues0_of (by decide +kernel),
    by decide +kernel⟩,
    ⟨tun 63 14 0x72 [(47, 31)] {}, 63, 14, IWord.of (iw 0x72 [(47, 31)]), issues_of (by decide +kernel), by decide +kernel⟩,
    ⟨(tun 63 15 0x72 [(47, 31)] {}).setEng 63 14 { toRight := [[7], [8]] }, 63, 15, IWord.of (iw 0x72 [(47, 31)]), 14, [7], [[8]], issues_of
    (by decide +kernel), by decide +kernel⟩,
    ⟨tun 63 15 0x72 [(47, 31)] {}, 63, 15, IWord.of (iw 0x72 [(47, 31)]), 14, issues_of (by decide +kernel), by decide +kernel⟩,
    ⟨tun 63 15 0x73 [(47, 31)] {}, 63, 15, IWord.of (iw 0x73 [(47, 31)]), issues_of (by decide +kernel), by decide +kernel⟩,
    ⟨(tun 63 14 0x73 [(47, 31)] {}).setEng 63 15 { toLeft := [[7], [8]] }, 63, 14, IWord.of (iw 0x73 [(47, 31)]), 15, [7], [[8]], issues_of
    (by decide +kernel), by decide +kernel⟩,
    ⟨tun 63 14 0x73 [(47, 31)] {}, 63, 14, IWord.of (iw 0x73 [(47, 31)]), 15, issues_of (by decide +kernel), by decide +kernel⟩,
    ⟨tun 63 14 0x70 [(42, 30)] { toRight := [[1], [2], [3]], waiting := true }, 63, 14, IWord.of (iw 0x70 [(42, 30)]), 15, by decide +kernel⟩⟩

theorem wit_EngineFaults :
    (∃ (s : State) (t : Nat) (m : Nat), s.issuing t m = true ∧ (s.eng t m).cyc < s.get .TUN_LIMIT_SLICE_LIMIT t ∧ (s.eng t m).fetch = none) ∧
    (∃ (s : State) (t : Nat) (m : Nat), s.issuing t m = true ∧ s.get .TUN_LIMIT_SLICE_LIMIT t ≤ (s.eng t m).cyc) ∧
    (∃ (s : State) (t : Nat) (m : Nat) (w : IWord), s.issuing t m = true ∧ (s.eng t m).cyc < s.get .TUN_LIMIT_SLICE_LIMIT t ∧ (s.eng t m).fetch = some w ∧
      w.op = 0x10 ∧ w.legal usesScalar = false) ∧
    (∃ (t : Nat), t < 64) :=
  ⟨⟨tun 63 15 0x10 [] { pc := 1 }, 63, 15, by decide +kernel⟩,
    ⟨tun 63 15 0x10 [] { cyc := 1000 }, 63, 15, by decide +kernel⟩,
    ⟨tun 63 15 0x10 [(26, 1)] {}, 63, 15, IWord.of (iw 0x10 [(26, 1)]), by decide +kernel⟩,
    ⟨63, by decide +kernel⟩⟩

theorem wit_TimeAndPtp :
    (∃ (s : State), s.reachable .time 0 = true ∧ s.clock.sec < 2 ^ 48 ∧ s.clock.nsf < 2 ^ 30) ∧
    (∃ (s : State), s.reachable .time 0 = true ∧ s.clock.sec < 2 ^ 48 ∧ s.clock.nsf < 2 ^ 30) ∧
    (∃ (s : State), s.reachable .time 0 = true ∧ s.get .TIME_SET_NS_NS < 1000000000) ∧
    (∃ (s : State), s.reachable .time 0 = true ∧ 1000000000 ≤ s.get .TIME_SET_NS_NS) ∧
    (∃ (s : State), s.reachable .time 0 = true ∧ -999999999 ≤ toSigned 32 (s.get .TIME_ADJ_NS) ∧ toSigned 32 (s.get .TIME_ADJ_NS) ≤ 999999999 ∧ s.clock.nsf
      < 1000000000 ∧ s.clock.sec < 2 ^ 48) ∧
    (∃ (s : State) (v : Nat), s.reachable .time 0 = true ∧ 0x000000027F5C28F6 ≤ v ∧ v ≤ 0x0000000280A3D70A) ∧
    (∃ (s : State) (v : Nat), s.reachable .time 0 = true ∧ (v < 0x000000027F5C28F6 ∨ 0x0000000280A3D70A < v)) ∧
    (∃ (s : State) (p : Nat), p < 2 ∧ s.is .ETH_STATUS_LINK p = true ∧ (s.eth p).lockLost = false ∧ s.is .ETH_STATUS_STAMP_POINT p = false ∧ toSigned 32
      (s.eth p).txLat * 65536 % 1000 = 0) ∧
    (∃ (s : State) (p : Nat), p < 2 ∧ s.is .ETH_STATUS_LINK p = true) ∧
    (∃ (s : State) (p : Nat) (e : TxStamp), (s.eth p).taken = some e ∧ (s.eth p).queue.length < 16) ∧
    (∃ (s : State) (p : Nat) (e : TxStamp), (s.eth p).taken = some e ∧ 16 ≤ (s.eth p).queue.length) ∧
    (∃ (s : State) (p : Nat) (e : TxStamp) (l : List TxStamp), s.reachable .ethernet p = true ∧ (s.eth p).queue = e :: l) ∧
    (∃ (s : State) (p : Nat), p < 2 ∧ s.get .ETH_STATUS_MODE p ≠ 0) :=
  ⟨⟨{ on0 with clock := { sec := 281474976710655, nsf := 999999999, frac := 7 } }, by decide +kernel⟩,
    ⟨{ on0 with clock := { sec := 281474976710655, nsf := 999999999, frac := 7 } }, by decide +kernel⟩,
    ⟨on0.set .TIME_SET_NS_NS 999999999, by decide +kernel⟩,
    ⟨on0.set .TIME_SET_NS_NS 1000000000, by decide +kernel⟩,
    ⟨{ on0.set .TIME_ADJ_NS 999999999 with clock := { sec := 281474976710655, nsf := 999999999, frac := 7 } }, by decide +kernel⟩,
    ⟨on0, 0x0000000280A3D70A, by decide +kernel⟩,
    ⟨on0, 0x0000000280A3D70B, by decide +kernel⟩,
    ⟨(on0.on .ETH_STATUS_LINK 1).setEth 1 { txLat := 1000 }, 1, by decide +kernel⟩,
    ⟨on0.on .ETH_STATUS_LINK 1, 1, by decide +kernel⟩,
    ⟨on0.setEth 1
    { taken := some { sec := 1, ns := 2, frac := 3, seq := 65535, type := 15, epoch := 15, mac := true }, queue := List.replicate 15 { sec := 1, ns := 2, frac := 3, seq := 65535, type := 15, epoch := 15, mac := true } },
    1, { sec := 1, ns := 2, frac := 3, seq := 65535, type := 15, epoch := 15, mac := true }, by decide +kernel⟩,
    ⟨on0.setEth 1
    { taken := some { sec := 1, ns := 2, frac := 3, seq := 65535, type := 15, epoch := 15, mac := true }, queue := List.replicate 16 { sec := 1, ns := 2, frac := 3, seq := 65535, type := 15, epoch := 15, mac := true } },
    1, { sec := 1, ns := 2, frac := 3, seq := 65535, type := 15, epoch := 15, mac := true }, by decide +kernel⟩,
    ⟨(blk on0 .ethernet 1).setEth 1 { queue := [{ sec := 1, ns := 2, frac := 3, seq := 65535, type := 15, epoch := 15, mac := true }] }, 1,
    { sec := 1, ns := 2, frac := 3, seq := 65535, type := 15, epoch := 15, mac := true }, [], by decide +kernel⟩,
    ⟨on0.set .ETH_STATUS_MODE 1 1, 1, by decide +kernel⟩⟩

theorem wit_GristRewrite :
    (∃ (s : State) (r : GRewrite), s.gristDue = [r] ∧ s.is .GRS_NOTIFY_EN = false) ∧
    (∃ (s : State) (r : GRewrite) (l : List GRewrite), s.gristDue = r :: l ∧ l ≠ [] ∧ s.is .GRS_NOTIFY_EN = true ∧ s.msixOpen.contains (s.get
      .GRS_NOTIFY_VECTOR) = true) :=
  ⟨⟨{ on0 with gristDue := [{ cause := 1, entries := fixedEntries, imageId := 5 }] }, { cause := 1, entries := fixedEntries, imageId := 5 },
    by decide +kernel⟩,
    ⟨{ on0.on .GRS_NOTIFY_EN with gristDue := [{ cause := 1, entries := fixedEntries, imageId := 5 }, { cause := 1, entries := fixedEntries, imageId := 5 }], msixOpen := [0] },
    { cause := 1, entries := fixedEntries, imageId := 5 }, [{ cause := 1, entries := fixedEntries, imageId := 5 }], by decide +kernel⟩⟩

theorem wit_CommandStart :
    (∃ (s : State) (d : Desc) (op : Nat) (used : List (Nat × Nat)), Accepts s d op used ∧ d.sq ≠ viaWort) :=
  ⟨adm on0, { dsc 1 [] with tag := 5 }, 1, [], accepts_of (by decide +kernel), by decide +kernel⟩

theorem wit_CompletionWritten :
    (∃ (s : State) (n : Nat), (s.pair n).fenced = false ∧ (s.pair n).overflow = [] ∧ (s.pair n).room = true) ∧
    (∃ (s : State) (n : Nat), (s.pair n).fenced = false ∧ (s.pair n).overflow.length < 256 ∧ (s.pair n).room = false) ∧
    (∃ (s : State) (n : Nat), (s.pair n).fenced = false ∧ 256 ≤ (s.pair n).overflow.length) :=
  ⟨⟨on0.setPair 16383 { enabled := true, depth := 4, cqBase := 0x1000, cqHead := 1, cqTail := 3 }, 16383, by decide +kernel⟩,
    ⟨on0.setPair 16383 { enabled := true, depth := 4, cqBase := 0x1000, cqHead := 0, cqTail := 3 }, 16383, by decide +kernel⟩,
    ⟨on0.setPair 16383
    { enabled := true, depth := 4, cqTail := 3, overflow := List.replicate 256 { handle := 0x01000000, status := 1, final := true, result := 2, detail := 3, irq := false, frees := true } },
    16383, by decide +kernel⟩⟩

theorem wit_QueueCommands :
    (∃ (s : State) (d : Desc), Accepts s d 0x0001 []) ∧
    (∃ (s : State) (d : Desc) (r : List Byte) (q : Nat) (depth : Nat), Accepts s d 0x0002 [(0x10, 2), (0x14, 4), (0x18, 8), (0x20, 8), (0x28, 2), (0x2A,
      2)] ∧ q = d.p 0x10 2 ∧ depth = d.p 0x14 4 ∧ q ≠ 0 ∧ q < 16384 ∧ s.assign q = some r ∧ depthOk depth = true ∧ depth ≤ fieldAt r 4 4 ∧ d.p 0x18 8
      % 4096 = 0 ∧ d.p 0x20 8 % 4096 = 0 ∧ 1 ≤ d.p 0x28 2 ∧ d.p 0x28 2 ≤ 255 ∧ 1 ≤ d.p 0x2A 2 ∧ d.p 0x2A 2 ≤ 1000 ∧ (s.pair q).enabled = false ∧ d.sq
      ≠ q) ∧
    (∃ (s : State) (d : Desc), Accepts s d 0x0003 [(0x10, 2)] ∧ d.p 0x10 2 ≠ 0 ∧ d.p 0x10 2 < 16384 ∧ (s.pair (d.p 0x10 2)).enabled = true) ∧
    (∃ (s : State) (d : Desc) (q : Nat), Accepts s d 0x0004 [(0x10, 2)] ∧ q = d.p 0x10 2 ∧ q < 16384 ∧ d.sq ≠ q ∧ (s.pair q).fenced = true ∧ (s.pair
      q).resuming = false) ∧
    (∃ (s : State) (d : Desc), Accepts s d 0x0005 [(0x10, 4)] ∧ s.live (d.p 0x10 4) = true) ∧
    (∃ (s : State) (d : Desc), Accepts s d 0x0005 [(0x10, 4)] ∧ s.live (d.p 0x10 4) = true) ∧
    (∃ (s : State) (d : Desc), s.mayFetch d = false) ∧
    (∃ (s : State) (d : Desc), s.mayFetch d = true ∧ d.opcode ≠ 0x0001) ∧
    (∃ (s : State) (d : Desc) (e : _), s.mayFetch d = true ∧ d.sq ≠ viaWort ∧ d.opcode = 0x0001 ∧ d.tag ≠ 0 ∧ (s.pair d.sq).tags.find? (fun t => t.tag ==
      d.tag) = some e ∧ e.opcode = 0x0001 ∧ e.crc = crc32c d.param) ∧
    (∃ (s : State) (d : Desc), s.mayFetch d = true ∧ d.sq ≠ viaWort ∧ d.opcode = 0x0104 ∧ s.classOk d.sq 1 = false) :=
  ⟨⟨adm on0, dsc 1 [], accepts_of (by decide +kernel)⟩,
    ⟨adm (sec on0 0x0011 0 12 [(0, 2, 16383), (4, 4, 65536), (8, 2, 5)]), dsc 2 [(0x10, 2, 16383), (0x14, 4, 65536), (0x18, 8, 4096), (0x20, 8, 8192),
    (0x28, 2, 255), (0x2A, 2, 1000)], bytesOf 12 [(0, 2, 16383), (4, 4, 65536), (8, 2, 5)], _, _, accepts_of (by decide +kernel), rfl, rfl,
    by decide +kernel⟩,
    ⟨adm (on0.setPair 16383 { enabled := true, depth := 4 }), dsc 3 [(0x10, 2, 16383)], accepts_of (by decide +kernel), by decide +kernel⟩,
    ⟨adm (on0.setPair 16383 { enabled := true, depth := 4, fenced := true }), dsc 4 [(0x10, 2, 16383)], _, accepts_of (by decide +kernel), rfl,
    by decide +kernel⟩,
    ⟨(adm on0).setSlot 0 { inUse := true, gen := 1, status := 1 }, dsc 5 [(0x10, 4, 0x01000000)], accepts_of (by decide +kernel), by decide +kernel⟩,
    ⟨{ (adm on0).setSlot 0 { inUse := true, gen := 1, status := 1, final := true, held := true, sq := 7 } with pairs := (on0.setPair 7 { enabled := true, depth := 4, held := [{ handle := 0x01000000, status := 1, final := true, result := 2, detail := 3, irq := false, frees := true }] }).pairs ++ (adm on0).pairs },
    dsc 5 [(0x10, 4, 0x01000000)], accepts_of (by decide +kernel), by decide +kernel⟩,
    ⟨on0, dsc 1 [], by decide +kernel⟩,
    ⟨adm on0, dsc 2 [], by decide +kernel⟩,
    ⟨((adm on0).setPair 0 { (adm on0).pair 0 with tags := [{ tag := 5, opcode := 1, crc := crc32c (List.replicate 48 0), handle := 7, status := 1 }] }),
    { dsc 1 [] with tag := 5 }, ({ tag := 5, opcode := 1, crc := crc32c (List.replicate 48 0), handle := 7, status := 1 } : TagEntry),
    by decide +kernel⟩,
    ⟨(on0.setPair 3 { enabled := true, depth := 4, sqTail := 1 }), { dsc 0x0104 [] with sq := 3 }, by decide +kernel⟩⟩

theorem wit_DoorbellsAndVectors :
    (∃ (s : State) (n : Nat) (v : Nat), n < 16384 ∧ (s.pair n).enabled = true ∧ v < (s.pair n).depth) ∧
    (∃ (s : State) (n : Nat) (v : Nat), n < 16384 ∧ ((s.pair n).enabled = false ∨ (s.pair n).depth ≤ v)) ∧
    (∃ (s : State) (n : Nat) (v : Nat), n < 16384 ∧ (s.pair n).enabled = true ∧ v < (s.pair n).depth ∧ (s.pair n).fenced = false ∧ (s.pair n).overflow = []
      ∧ (v + (s.pair n).depth - (s.pair n).cqHead) % (s.pair n).depth ≤ (s.pair n).unread) ∧
    (∃ (s : State), s.reachable .qm 0 = true ∧ s.is .QM_CTRL_EN = false ∧ depthOk (s.get .QM_ADMIN_DEPTH_DEPTH) = true) ∧
    (∃ (s : State), s.reachable .qm 0 = true ∧ s.is .QM_CTRL_EN = false ∧ s.get .QM_ADMIN_DEPTH_DEPTH = 0) ∧
    (∃ (s : State) (n : Nat), (s.pair n).enabled = true ∧ 0 < (s.pair n).unsig) ∧
    (∃ (v : Nat), v < 2048) ∧
    (∃ (s : State) (h : Nat) (st : Nat) (r : Nat) (x : Nat), s.live h = true ∧ (s.slot (handleSlot h)).remote = true ∧ (s.slot (handleSlot h)).final =
      false ∧ (s.slot (handleSlot h)).route = 0 ∧ st < 256 ∧ st ≠ stAccepted ∧ r < 2 ^ 32 ∧ x < 2 ^ 16) :=
  ⟨⟨on0.setPair 16383 { enabled := true, depth := 4, cqTail := 3, unsig := 1 }, 16383, 3, by decide +kernel⟩,
    ⟨on0.setPair 16383 { enabled := true, depth := 4, cqTail := 3, unsig := 1 }, 16383, 4, by decide +kernel⟩,
    ⟨on0.setPair 16383 { enabled := true, depth := 4, cqTail := 3, unsig := 1 }, 16383, 3, by decide +kernel⟩,
    ⟨on0.set .QM_ADMIN_DEPTH_DEPTH 4096, by decide +kernel⟩,
    ⟨on0, by decide +kernel⟩,
    ⟨on0.setPair 16383 { enabled := true, depth := 4, cqTail := 3, unsig := 1 }, 16383, by decide +kernel⟩,
    ⟨2047, by decide +kernel⟩,
    ⟨(adm on0).setSlot 0 { inUse := true, gen := 1, remote := true }, 0x01000000, 255, 4294967295, 65535, by decide +kernel⟩⟩

theorem wit_UsbPort :
    (∃ (s : State), s.powered 129 = true) ∧
    (∃ (s : State), s.usbOn = true) ∧
    (∃ (s : State), s.usbLive = true) ∧
    (∃ (s : State), s.usbLive = true) ∧
    (∃ (s : State), s.powered 129 = true ∧ s.is .USB_STATUS_VBUS = true ∧ s.usb.open_ = true) ∧
    (∃ (s : State), s.usbOn = true ∧ s.usb.open_ = true) ∧
    (∃ (s : State) (e : TelEvt) (l : List TelEvt), s.usbOn = true ∧ s.is .USB_STATUS_CONFIGURED = true ∧ s.usb.halted = false ∧ s.ep1 = e :: l) ∧
    (∃ (s : State), s.usbOn = true ∧ s.usb.due = [] ∧ s.usb.open_ = false) ∧
    (∃ (s : State) (o : Nat) (n : Nat), s.usbOn = true ∧ s.usb.due = [] ∧ s.usb.open_ = false ∧ wordsOk o n 4096 = true ∧ s.gristDue = []) ∧
    (∃ (s : State) (o : Nat) (n : Nat) (w : List Nat), s.usbOn = true ∧ s.usb.due = [] ∧ s.usb.open_ = false ∧ wordsOk o n 256 = true ∧ w.length = n / 4 ∧
      s.is .USB_CTRL_SVC_WRITE = true) ∧
    (∃ (s : State) (o : Nat) (n : Nat) (w : List Nat), s.usbOn = true ∧ s.usb.due = [] ∧ s.usb.open_ = false ∧ wordsOk o n 256 = true ∧ w.length = n / 4 ∧
      s.is .USB_CTRL_SVC_WRITE = false) ∧
    (∃ (s : State) (r : Reg) (i : Nat) (k : Nat) (o : Nat) (v : Nat), s.powered 129 = true ∧ s.usb.due = [(o, v)] ∧ v < 2 ^ 32 ∧ r ≠ .USB_CTRL ∧ s.spot o =
      .reg r i k false) ∧
    (∃ (s : State) (u : State) (r : Reg) (r2 : Reg) (i : Nat) (k : Nat) (i2 : Nat) (k2 : Nat) (o : Nat) (v : Nat) (w : Nat), u = State.writeReg
      { s with usb := { s.usb with due := [] } } false r i k v loMask ∧ s.powered 129 = true ∧ s.usb.due = [(o, v), (o + 4, w)] ∧ r ≠ .USB_CTRL ∧ r2 ≠
      .USB_CTRL ∧ s.spot o = .reg r i k false ∧ s.spot (o + 4) = .reg r2 i2 k2 false ∧ u.spot (o + 4) = .reg r2 i2 k2 false) ∧
    (∃ (s : State) (r : Reg) (i : Nat) (k : Nat) (o : Nat) (v : Nat) (w : Nat), s.powered 129 = true ∧ s.usb.due = [(o, v), (o + 4, w)] ∧ s.spot o = .reg r
      i k false ∧ s.spot (o + 4) = .reg r i k true) ∧
    (∃ (s : State), s.powered 129 = true ∧ s.usb.due = []) ∧
    (∃ (s : State), s.usbOn = true ∧ s.usb.due = [] ∧ s.usb.open_ = false ∧ s.lastSnap ≠ []) ∧
    (∃ (s : State) (a : Nat), s.usbOn = true ∧ s.usb.due = [] ∧ s.usb.open_ = false ∧ s.is .USB_STATUS_CONFIGURED = false ∧ a < 128) ∧
    (∃ (s : State), s.usbOn = true ∧ s.usb.due = [] ∧ s.usb.open_ = false ∧ s.get .USB_STATUS_ADDRESS ≠ 0) ∧
    (∃ (s : State), s.usbOn = true ∧ s.usb.due = [] ∧ s.usb.open_ = false) ∧
    (∃ (s : State), s.usbOn = true ∧ s.usb.due ≠ []) :=
  ⟨⟨on0, by decide +kernel⟩,
    ⟨(((on0.on .USB_CTRL_EN).on .USB_STATUS_VBUS).on .USB_CTRL_SVC_WRITE), by decide +kernel⟩,
    ⟨(((on0.on .USB_CTRL_EN).on .USB_STATUS_VBUS).on .USB_CTRL_SVC_WRITE).on .USB_STATUS_SUSPENDED, by decide +kernel⟩,
    ⟨{ (((on0.on .USB_CTRL_EN).on .USB_STATUS_VBUS).on .USB_CTRL_SVC_WRITE) with usb := { open_ := true } }, by decide +kernel⟩,
    ⟨{ (((on0.on .USB_CTRL_EN).on .USB_STATUS_VBUS).on .USB_CTRL_SVC_WRITE) with usb := { open_ := true } }, by decide +kernel⟩,
    ⟨{ (((on0.on .USB_CTRL_EN).on .USB_STATUS_VBUS).on .USB_CTRL_SVC_WRITE) with usb := { open_ := true } }, by decide +kernel⟩,
    ⟨{ (((on0.on .USB_CTRL_EN).on .USB_STATUS_VBUS).on .USB_CTRL_SVC_WRITE).on .USB_STATUS_CONFIGURED with ep1 := [{ time := 1, code := 2, unit := 3, line := 4 }] },
    { time := 1, code := 2, unit := 3, line := 4 }, [], by decide +kernel⟩,
    ⟨(((on0.on .USB_CTRL_EN).on .USB_STATUS_VBUS).on .USB_CTRL_SVC_WRITE), by decide +kernel⟩,
    ⟨(((on0.on .USB_CTRL_EN).on .USB_STATUS_VBUS).on .USB_CTRL_SVC_WRITE), 0, 4096, by decide +kernel⟩,
    ⟨(((on0.on .USB_CTRL_EN).on .USB_STATUS_VBUS).on .USB_CTRL_SVC_WRITE), 0x1000, 8, [1, 2], by decide +kernel⟩,
    ⟨(((on0.on .USB_CTRL_EN).on .USB_STATUS_VBUS).on .USB_CTRL_SVC_WRITE).off .USB_CTRL_SVC_WRITE, 0x1000, 8, [1, 2], by decide +kernel⟩,
    ⟨{ (((on0.on .USB_CTRL_EN).on .USB_STATUS_VBUS).on .USB_CTRL_SVC_WRITE) with usb := { due := [(0x1010, 4294967295)] } }, .RST_CTRL, 0, 0, 0x1010,
    4294967295, by decide +kernel⟩,
    ⟨{ (((on0.on .USB_CTRL_EN).on .USB_STATUS_VBUS).on .USB_CTRL_SVC_WRITE) with usb := { due := [(0x1000, 1), (0x1004, 4294967295)] } }, _, .RST_CAUSE,
    .RST_CAUSE_INFO, 0, 0, 0, 0, 0x1000, 1, 4294967295, rfl, by decide +kernel⟩,
    ⟨{ blk (((on0.on .USB_CTRL_EN).on .USB_STATUS_VBUS).on .USB_CTRL_SVC_WRITE) .qm with usb := { due := [(0x200008, 4294967295), (0x20000C, 4294967295)] } },
    .QM_ASQ_BASE, 0, 0, 0x200008, 4294967295, 4294967295, by decide +kernel⟩,
    ⟨(((on0.on .USB_CTRL_EN).on .USB_STATUS_VBUS).on .USB_CTRL_SVC_WRITE), by decide +kernel⟩,
    ⟨{ (((on0.on .USB_CTRL_EN).on .USB_STATUS_VBUS).on .USB_CTRL_SVC_WRITE) with lastSnap := List.replicate 1024 1 }, by decide +kernel⟩,
    ⟨(((on0.on .USB_CTRL_EN).on .USB_STATUS_VBUS).on .USB_CTRL_SVC_WRITE), 127, by decide +kernel⟩,
    ⟨(((on0.on .USB_CTRL_EN).on .USB_STATUS_VBUS).on .USB_CTRL_SVC_WRITE).set .USB_STATUS_ADDRESS 127, by decide +kernel⟩,
    ⟨(((on0.on .USB_CTRL_EN).on .USB_STATUS_VBUS).on .USB_CTRL_SVC_WRITE), by decide +kernel⟩,
    ⟨{ (((on0.on .USB_CTRL_EN).on .USB_STATUS_VBUS).on .USB_CTRL_SVC_WRITE) with usb := { due := [(0x1010, 1)] } }, by decide +kernel⟩⟩

theorem wit_RegisterAccess :
    (∃ (s : State) (o : Nat) (i : Nat) (k : Nat) (r : Reg), o % 4 = 0 ∧ o < bar2Base ∧ s.spot o = .reg r i k false ∧ r.desc.width = 64 ∧ s.gristDue = [] ∧
      r ≠ .TIME_NS ∧ r ≠ .TIME_NS_B ∧ r ≠ .ETH_TXTS_ENTRY3) ∧
    (∃ (s : State) (o : Nat) (i : Nat) (k : Nat) (r : Reg), o % 4 = 0 ∧ o < bar2Base ∧ s.spot o = .reg r i k true) ∧
    (∃ (s : State) (o : Nat) (i : Nat) (k : Nat) (r : Reg), o % 4 = 0 ∧ o < bar2Base ∧ s.spot o = .reg r i k false ∧ r.desc.width = 64 ∧ s.gristDue = [] ∧
      r ≠ .TIME_NS ∧ r ≠ .TIME_NS_B ∧ r ≠ .ETH_TXTS_ENTRY3) ∧
    (∃ (s : State) (o : Nat) (i : Nat) (k : Nat), o % 4 = 0 ∧ o < bar2Base ∧ s.spot o = .reg .TIME_NS i k false ∧ s.gristDue = []) ∧
    (∃ (s : State) (o : Nat), o % 4 = 0 ∧ o < bar2Base ∧ s.spot o = .empty) ∧
    (∃ (o : Nat), o % 4 = 0 ∧ bar2Base ≤ o ∧ o < bar2Base + 0x40000) ∧
    (∃ (n : Nat) (v : Nat), n < 16384 ∧ v < 2 ^ 32) ∧
    (∃ (s : State) (o : Nat) (i : Nat) (k : Nat) (r : Reg), s.spot o = .reg r i k false ∧ r.desc.width = 64) ∧
    (∃ (s : State) (fw : Bool) (o : Nat) (i : Nat) (k : Nat) (x : Nat) (r : Reg), s.spot o = .reg r i k true ∧ Tab.get (fun _ => 0) s.loBuf ⟨fw, r, i, k⟩ =
      x + 1) ∧
    (∃ (s : State) (fw : Bool) (o : Nat) (i : Nat) (k : Nat) (r : Reg), s.spot o = .reg r i k true ∧ Tab.get (fun _ => 0) s.loBuf ⟨fw, r, i, k⟩ = 0) ∧
    (∃ (s : State) (o : Nat) (i : Nat) (k : Nat) (r : Reg), o % 4 = 0 ∧ o < bar2Base ∧ s.spot o = .reg r i k false ∧ r.desc.width = 32) ∧
    (∃ (s : State) (o : Nat) (i : Nat) (k : Nat) (r : Reg), o % 8 = 0 ∧ o < bar2Base ∧ s.spot o = .reg r i k false ∧ r.desc.width = 64) ∧
    (∃ (s : State) (o : Nat), o % 4 = 0 ∧ o < bar2Base ∧ s.spot o = .moving) ∧
    (∃ (s : State) (o : Nat), o % 4 = 0 ∧ o < bar2Base ∧ s.spot o = .empty) :=
  ⟨⟨blk on0 .qm, 0x200008, 0, 0, .QM_ASQ_BASE, by decide +kernel⟩,
    ⟨blk on0 .qm, 0x20000C, 0, 0, .QM_ASQ_BASE, by decide +kernel⟩,
    ⟨blk on0 .qm, 0x200008, 0, 0, .QM_ASQ_BASE, by decide +kernel⟩,
    ⟨blk on0 .time, 0x200000, 0, 0, by decide +kernel⟩,
    ⟨on0, 0xFFFFF0, by decide +kernel⟩,
    ⟨bar2Base + 0x3FFFC, by decide +kernel⟩,
    ⟨0, 0, by decide +kernel⟩,
    ⟨blk on0 .qm, 0x200008, 0, 0, .QM_ASQ_BASE, by decide +kernel⟩,
    ⟨{ blk on0 .qm with loBuf := [(⟨false, .QM_ASQ_BASE, 0, 0⟩, 8)] }, false, 0x20000C, 0, 0, 7, .QM_ASQ_BASE, by decide +kernel⟩,
    ⟨blk on0 .qm, false, 0x20000C, 0, 0, .QM_ASQ_BASE, by decide +kernel⟩,
    ⟨on0, 0x1010, 0, 0, .RST_CTRL, by decide +kernel⟩,
    ⟨blk on0 .qm, 0x200008, 0, 0, .QM_ASQ_BASE, by decide +kernel⟩,
    ⟨{ on0 with gristDue := [{ cause := 1, entries := [{ block := .usb, inst := 0, version := 0x0100, regrev := 0x0100, off := 0x200000, size := 0x1000, caps := 0 }], imageId := 0 }] },
    0x200FFC, by decide +kernel⟩,
    ⟨on0, 0xFFFFF0, by decide +kernel⟩⟩

theorem wit_FieldAccessCodes :
    (∃ (s : State) (f : Fld) (i : Nat) (k : Nat), s.get f i k < 2 ^ f.desc.width) :=
  ⟨on0, .TIME_ADJ_NS, 0, 0, by decide +kernel⟩

theorem wit_TunLines :
    (∃ (s : State) (t : Nat) (m : Nat) (y : Nat), t < 64 ∧ s.engUsed t m = true ∧ (s.eng t m).running = false ∧ s.fenced 2 t = false ∧ s.is
      .TUN_STATUS_LOADED t = true ∧ s.nextSlice t m = some y ∧ s.stageFree t y = true ∧ s.screenHeld t y = false ∧ (∀ p, (s.chan t).pause = some p → y
      < p) ∧ s.clocked = true) ∧
    (∃ (s : State), s.clocked = false) ∧
    (∃ (s : State) (t : Nat) (y : Nat) (codes : List Nat) (rest : List (Nat × List Nat)), (s.chan t).stage = (y, codes) :: rest ∧ t < 64 ∧ s.fenced 2 t =
      false ∧ s.fenced 1 t = false ∧ (∀ j ∈ s.usedEngs t, y < (s.eng t j).ended) ∧ (s.chan t).lead.length < s.get .UB_LEAD_LINES t) ∧
    (∃ (s : State) (t : Nat) (y : Nat) (codes : List Nat) (rest : List (Nat × List Nat)), (s.chan t).stage = (y, codes) :: rest ∧ t < 64 ∧ (s.fenced 2 t =
      true ∨ s.fenced 1 t = true) ∧ (∀ j ∈ s.usedEngs t, y < (s.eng t j).ended)) ∧
    (∃ (s : State) (t : Nat) (m : Nat), t < 64 ∧ (s.eng t m).running = true) ∧
    (∃ (t : Nat) (m : Nat) (code : Nat) (n : Nat), t < 64 ∧ m < 16 ∧ 1 ≤ code ∧ code ≤ 10 ∧ 1 ≤ n ∧ n ≤ 16) ∧
    (∃ (s : State) (t : Nat) (y : Nat) (c : ChangeSet), s.pauseSet t = some (c, y) ∧ t < 64 ∧ (s.chan t).pauseStep = 0 ∧ s.fenced 2 t = false ∧ s.powered t
      = true ∧ (c.rule = 5 ∨ y ≤ s.screenAt t)) ∧
    (∃ (s : State) (t : Nat) (y : Nat) (c : ChangeSet), s.pauseSet t = some (c, y) ∧ t < 64 ∧ (s.chan t).pauseStep = 1 ∧ (s.chan t).stage = [] ∧ (∀ m, m <
      16 → (s.eng t m).running = false)) ∧
    (∃ (s : State) (t : Nat), t < 64 ∧ (s.chan t).pendGen = some false) :=
  ⟨⟨(((tun 63 14 0 [] {}).setEng 63 14 {}).on .TUN_STATUS_LOADED 63).setChan 63
    { released := [{ first := 5, page := 1, pfirst := 0, lines := 2, half := 0 }], pause := some 6 }, 63, 14, 5, by decide +kernel⟩,
    ⟨on0.set .PWR_PSTATE_CUR 1, by decide +kernel⟩,
    ⟨((tun 63 14 0 [] {}).setEng 63 14 { ended := 6 }).setEng 63 15 { ended := 6 } |>.setChan 63 { stage := [(5, [1, 2])] } |>.set .UB_LEAD_LINES 1 63,
    63, 5, [1, 2], [], by decide +kernel⟩,
    ⟨(((tun 63 14 0 [] {}).setEng 63 14 { ended := 6 }).setEng 63 15 { ended := 6 } |>.setChan 63 { stage := [(5, [1, 2])] }).fenceUnit 2 63, 63, 5, [1,
    2], [], by decide +kernel⟩,
    ⟨(tun 63 14 0 [] {}), 63, 14, by decide +kernel⟩,
    ⟨63, 15, 10, 16, by decide +kernel⟩,
    ⟨{ (tun 63 14 0 [] {}) with sets := [cset [sct 0x0020 63] (some 0) 1] }, 63, 0, cset [sct 0x0020 63] (some 0) 1, by decide +kernel⟩,
    ⟨(({ on0 with sets := [cset [sct 0x0020 63] (some 7) 1] } : State).setChan 63 { pauseStep := 1 }), 63, 7, cset [sct 0x0020 63] (some 7) 1,
    by decide +kernel⟩,
    ⟨on0.setChan 63 { pendGen := some false }, 63, by decide +kernel⟩⟩

theorem wit_Bridging :
    (∃ (s : State) (t : Nat) (w : Nat), t < 64 ∧ w < 80 ∧ s.reachable .screen t = true) ∧
    (∃ (s : State) (t : Nat) (w : Nat), t < 64 ∧ w < 80 ∧ s.reachable .screen t = true) ∧
    (∃ (s : State) (t : Nat), t < 64 ∧ s.reachable .screen t = true) ∧
    (∃ (s : State) (t : Nat) (n : Nat), (s.chan t).apply = true ∧ (s.chan t).setReq.testBit n = true) ∧
    (∃ (s : State) (t : Nat) (n : Nat), (s.chan t).apply = true ∧ (s.chan t).setReq.testBit n = false ∧ (s.chan t).clrReq.testBit n = true) ∧
    (∃ (s : State) (t : Nat), (s.chan t).apply = false) ∧
    (∃ (t : Nat) (u : _), u ≠ t) ∧
    (∃ (codes : List Nat) (n : _), n < codes.length) :=
  ⟨⟨blk on0 .screen 63, 63, 79, by decide +kernel⟩,
    ⟨blk on0 .screen 63, 63, 79, by decide +kernel⟩,
    ⟨blk on0 .screen 63, 63, by decide +kernel⟩,
    ⟨on0.setChan 63 { apply := true, setReq := 2 ^ 2559, clrReq := 2 ^ 2559 }, 63, 2559, by decide +kernel⟩,
    ⟨on0.setChan 63 { apply := true, clrReq := 2 ^ 2559 }, 63, 2559, by decide +kernel⟩,
    ⟨on0.setChan 63 { setReq := 2 ^ 2559 }, 63, by decide +kernel⟩,
    ⟨63, 62, by decide +kernel⟩,
    ⟨[3, 0, 2], 2, by decide +kernel⟩⟩

theorem wit_ChangeSetStages :
    (∃ (s : State) (x : ChangeSet) (fl : Nat) (y : Nat) (r : Nat), s.fwAway = false ∧ s.setFloors.find? (fun e => e.1.line.isNone) = some (x, fl, some (y,
      r)) ∧ x.others = [] ∧ s.reached x y r = true ∧ s.kilnClash x = false) ∧
    (∃ (s : State) (x : ChangeSet) (fl : Nat) (y : Nat) (r : Nat), s.fwAway = false ∧ s.setFloors.find? (fun e => e.1.line.isNone) = some (x, fl, some (y,
      r)) ∧ x.others = [] ∧ s.reached x y r = true ∧ s.kilnClash x = true) ∧
    (∃ (s : State) (o : List (Option Nat)) (x : ChangeSet) (fl : Nat) (c : Option (Nat × Nat)) (y : Nat) (r : Nat), s.fwAway = false ∧ s.setFloors.find?
      (fun e => e.1.line.isNone) = some (x, fl, c) ∧ x.others ≠ [] ∧ s.activeManager = true ∧ s.commonLine x fl o = some (y, r) ∧ s.kilnClash x =
      false) ∧
    (∃ (s : State) (x : ChangeSet) (fl : Nat) (c : Option (Nat × Nat)) (y : Nat) (r : Nat), s.fwAway = false ∧ s.setFloors.find? (fun e => e.1.line.isNone)
      = some (x, fl, c) ∧ x.others ≠ [] ∧ s.activeManager = false ∧ s.canMeet x fl y = some r ∧ s.kilnClash x = false) ∧
    (∃ (s : State), s.fwAway = true) ∧
    (∃ (s : State) (x : ChangeSet) (z : Sect) (k : Nat) (i : Nat) (y : Nat), s.switchSet k i = some (x, z, y) ∧ sectClass k = .swap ∧ k ≠ 0x0031 ∧ ((3 ≤
      x.rule ∧ s.axStopped = true) ∨ y ≤ s.fireReach) ∧ (k = 0x0030 → s.doneBelow i y = true)) ∧
    (∃ (s : State) (x : ChangeSet) (z : Sect) (i : Nat) (y : Nat), s.switchSet 0x0031 i = some (x, z, y) ∧ x.withProg i = false ∧ s.powered i = true ∧
      s.fenced 2 i = false ∧ ((3 ≤ x.rule ∧ s.axStopped = true) ∨ y ≤ s.screenAt i)) ∧
    (∃ (s : State) (x : ChangeSet) (z : Sect) (k : Nat) (i : Nat) (y : Nat), s.switchSet k i = some (x, z, y) ∧ sectClass k = .aux ∧ ((3 ≤ x.rule ∧
      s.axStopped = true) ∨ y ≤ s.fireReach)) ∧
    (∃ (s : State) (x : ChangeSet) (z : Sect) (k : Nat) (i : Nat) (y : Nat), s.switchSet k i = some (x, z, y) ∧ sectClass k = .pause ∧ (s.powered i = false
      ∨ s.fenced 2 i = true) ∧ ((3 ≤ x.rule ∧ s.axStopped = true) ∨ y ≤ s.fireReach)) ∧
    (∃ (i : Nat), i < 4) ∧
    (∃ (s : State) (x : ChangeSet) (z : Sect) (k : Nat) (i : Nat) (y : Nat) (r : Nat), (sectClass k = .gap ∨ sectClass k = .stop) ∧ s.setLines.find? (fun e
      => e.1.has k i && !e.1.applied.contains (sectKey k i)) = some (x, some (y, r)) ∧ findSect x.image.sects k i = some z ∧ s.gapOpen (sectClass k ==
      .stop) y r = true ∧ (x.line.isSome = true ∨ s.fwAway = false) ∧ (s.finalLine x.handle y r).sets.any (fun w => w.handle == x.handle) = true) :=
  ⟨⟨({ on0 with sets := [cset [sct 0x0032 0] none 0] } : State).on .MOT_STATUS_JOB, cset [sct 0x0032 0] none 0, 0, 0, 1, by decide +kernel⟩,
    ⟨({ { on0 with kiln := some { payload := [], key := 1, digest := 0 } } with sets := [cset [sct 0x0060 0] none 0] } : State), cset [sct 0x0060 0] none
    0, 0, 0, 5, by decide +kernel⟩,
    ⟨({ job 1 with sets := [{ cset [sct 0x0032 0] none 0 with others := [7, 9] }] } : State).on .MOT_STATUS_JOB, [some 60, some 3],
    { cset [sct 0x0032 0] none 0 with others := [7, 9] }, 0, none, 60, 1, by decide +kernel⟩,
    ⟨({ on0 with sets := [{ cset [sct 0x0032 0] none 0 with others := [7, 9] }] } : State).on .MOT_STATUS_JOB,
    { cset [sct 0x0032 0] none 0 with others := [7, 9] }, 0, none, 60, 1, by decide +kernel⟩,
    ⟨on0.on .FLS_STATUS_HANDOVER, by decide +kernel⟩,
    ⟨({ on0 with sets := [cset [sct 0x0030 63] (some 0) 1] } : State), cset [sct 0x0030 63] (some 0) 1, sct 0x0030 63, 0x0030, 63, 0, by decide +kernel⟩,
    ⟨({ on0 with sets := [cset [sct 0x0031 63] (some 0) 1] } : State), cset [sct 0x0031 63] (some 0) 1, sct 0x0031 63, 63, 0, by decide +kernel⟩,
    ⟨({ on0 with sets := [cset [sct 0x0043 0] (some 0) 1] } : State), cset [sct 0x0043 0] (some 0) 1, sct 0x0043 0, 0x0043, 0, 0, by decide +kernel⟩,
    ⟨({ on0 with sets := [cset [sct 0x0020 63] (some 0) 1] } : State).set .PWR_STATE_ON 0 0 1, cset [sct 0x0020 63] (some 0) 1, sct 0x0020 63, 0x0020, 63,
    0, by decide +kernel⟩,
    ⟨3, by decide +kernel⟩,
    ⟨({ on0 with sets := [cset [sct 0x0010 0] (some 0) 5] } : State), cset [sct 0x0010 0] (some 0) 5, sct 0x0010 0, 0x0010, 0, 0, 5, by decide +kernel⟩⟩

theorem wit_MashCommands :
    (∃ (s : State) (d : Desc), Accepts s d 0x0101 [(0x10, 1), (0x18, 8), (0x20, 4)] ∧ s.frontFree = true ∧ d.p 0x10 1 ≤ 1 ∧ 1 ≤ d.p 0x20 4 ∧ d.p 0x20 4 ≤
      0x10000000 ∧ (d.p 0x10 1 = 1 ∨ d.p 0x18 8 < 2 ^ 52) ∧ s.staged.length < 4) ∧
    (∃ (s : State) (x : Loading) (r : Refused), s.loading = some x ∧ s.get .MASH_STATUS_STATE = 1 ∧ x.boot = false ∧ s.verify (s.sourceBytes x) x.length =
      some r ∧ s.staged.find? (fun y => y.image.full && y.committed) = none) ∧
    (∃ (s : State) (x : Loading), s.checkRest x.bytes = none ∧ s.loading = some x ∧ s.get .MASH_STATUS_STATE = 3 ∧ x.boot = false ∧ s.staged.find? (fun y
      => y.image.full && y.committed) = none) ∧
    (∃ (s : State) (d : Desc) (x : Staged), Accepts s d 0x0102 [(0x10, 4), (0x14, 4), (0x18, 8), (0x20, 8)] ∧ d.p 0x10 4 ≠ 0 ∧ s.stagedOf (d.p 0x10 4) =
      some x ∧ x.image.full = false ∧ x.committed = false ∧ d.p 0x14 4 ≤ 1 ∧ d.p 0x18 8 ≤ d.p 0x20 8 ∧ s.get .FIRE_LINE_LINE < d.p 0x20 8 ∧
      s.kilnRefuses x.image.sects = false) ∧
    (∃ (s : State) (d : Desc) (x : Staged), Accepts s d 0x0102 [(0x10, 4), (0x14, 4), (0x18, 8), (0x20, 8)] ∧ d.p 0x10 4 ≠ 0 ∧ s.stagedOf (d.p 0x10 4) =
      some x ∧ x.image.full = true ∧ x.committed = false ∧ d.p 0x14 4 ≤ 1 ∧ s.frontFree = true ∧ s.commitNow x.image = true) ∧
    (∃ (s : State) (d : Desc) (x : Staged), Accepts s d 0x0103 [(0x10, 4)] ∧ d.p 0x10 4 ≠ 0 ∧ s.stagedOf (d.p 0x10 4) = some x ∧ s.mayAbort x = true) ∧
    (∃ (s : State) (d : Desc) (x : Image), Accepts s d 0x0104 [] ∧ s.fullImage = some x ∧ s.get .MASH_ROLLBACK_MIN ≤ x.rollback) :=
  ⟨⟨adm on0, dsc 0x0101 [(0x10, 1, 1), (0x18, 8, 0xFFFFFFFFFFFFFFFF), (0x20, 4, 0x10000000)], accepts_of (by decide +kernel), by decide +kernel⟩,
    ⟨{ on0.set .MASH_STATUS_STATE 1 with loading := some { handle := 0x01000000, source := 0, host := true, length := 5, bytes := [], boot := false } },
    { handle := 0x01000000, source := 0, host := true, length := 5, bytes := [], boot := false }, ⟨stCheckFailed, 1, noSection⟩, by decide +kernel⟩,
    ⟨{ on0.set .MASH_STATUS_STATE 3 with loading := some { handle := 0x01000000, source := 0, host := false, length := 0x300, bytes := mashImg, boot := false }, fullImage := some (img true []) },
    { handle := 0x01000000, source := 0, host := false, length := 0x300, bytes := mashImg, boot := false },
    (by unfold State.checkRest check6; simp only [crc32c_forced]; decide +kernel), by decide +kernel⟩,
    ⟨adm ({ on0 with staged := [{ handle := 0x01000000, image := img false [], committed := false }] }), dsc 0x0102 [(0x10, 4, 0x01000000), (0x14, 4, 1),
    (0x18, 8, 100), (0x20, 8, 100)], { handle := 0x01000000, image := img false [], committed := false }, accepts_of (by decide +kernel),
    by decide +kernel⟩,
    ⟨adm ({ on0 with staged := [{ handle := 0x01000000, image := img true [], committed := false }] }), dsc 0x0102 [(0x10, 4, 0x01000000), (0x14, 4, 1)],
    { handle := 0x01000000, image := img true [], committed := false }, accepts_of (by decide +kernel), by decide +kernel⟩,
    ⟨adm ({ on0 with staged := [{ handle := 0x01000000, image := img true [], committed := true }] }), dsc 0x0103 [(0x10, 4, 0x01000000)],
    { handle := 0x01000000, image := img true [], committed := true }, accepts_of (by decide +kernel), by decide +kernel⟩,
    ⟨adm ({ on0 with fullImage := some (img true []) }), dsc 0x0104 [], img true [], accepts_of (by decide +kernel), by decide +kernel⟩⟩

/-- Where every signature verifies (Config.ecdsaOk is a free value). -/
theorem wit_MashCommands_signed (hv : ∀ k d g, Config.ecdsaOk k d g = true) :
    (∃ (s : State) (x : Loading), s.verify (s.sourceBytes x) (if x.boot then (s.sourceBytes x).length else x.length) = none ∧ s.loading = some x ∧ s.get
      .MASH_STATUS_STATE = 1) :=
  ⟨{ on0.set .MASH_STATUS_STATE 1 with loading := some { handle := 0x01000000, source := 0, host := false, length := 0, bytes := mashImg, boot := true }, fullImage := some (img true []) },
    { handle := 0x01000000, source := 0, host := false, length := 0, bytes := mashImg, boot := true },
    (by unfold State.verify check1 State.check3 State.signedOk State.certOk kilnSealOk; simp only [hv, crc32c_forced]; decide +kernel),
    by decide +kernel⟩

theorem wit_ImagesInForce :
    (∃ (s : State) (x : Staged), s.staged.find? (fun y => y.applying) = some x ∧ s.get .MASH_STATUS_STATE = 4) ∧
    (∃ (s : State) (x : ChangeSet) (rest : List ChangeSet) (y : Nat), s.sets = x :: rest ∧ x.line = some y ∧ x.allSwitched = true ∧ (y ≤ s.seq.next ∨
      x.rule = 5)) ∧
    (∃ (s : State) (x : ChangeSet), s.fwAway = false ∧ s.setLines.find? (fun e => e.1.line.isNone && e.2.isNone && decide (e.1.deadline ≤ s.stageAt e.1)) =
      some (x, none)) :=
  ⟨⟨{ on0.set .MASH_STATUS_STATE 4 with staged := [{ handle := 0x01000000, image := img true [], committed := true, applying := true }] },
    { handle := 0x01000000, image := img true [], committed := true, applying := true }, by decide +kernel⟩,
    ⟨{ on0 with sets := [cset [] (some 0) 1] }, cset [] (some 0) 1, [], 0, by decide +kernel⟩,
    ⟨({ on0 with sets := [{ cset [sct 0x0053 0] none 0 with target := 1, deadline := 0 }] } : State).on .MOT_STATUS_JOB,
    { cset [sct 0x0053 0] none 0 with target := 1, deadline := 0 }, by decide +kernel⟩⟩

theorem wit_ImageZeroSizes :
    (∃ (b : List Byte), sectCount b = 0) ∧
    (∃ (b : List Byte) (i : Nat), i < sectCount b ∧ entLength (dirEntry b i) = 0 ∧ (∀ j, j < i → entLength (dirEntry b j) ≠ 0)) ∧
    (∃ (b : List Byte) (i : Nat) (j : Nat), check5 b = none ∧ i < j ∧ j < sectCount b) :=
  ⟨⟨List.replicate 128 0, by decide +kernel⟩,
    ⟨bytesOf 0xC0 [(0x12, 2, 2), (0x8C, 4, 64)], 1, by decide +kernel⟩,
    ⟨bytesOf 0x200 [(0x12, 2, 2), (0x18, 4, 0x200), (0x80, 2, 1), (0x88, 4, 0xC0), (0x8C, 4, 64), (0xA0, 2, 2), (0xA8, 4, 0x100), (0xAC, 4, 64)], 0, 1,
    by decide +kernel⟩⟩

theorem wit_ClearsOfPrintPath :
    (∃ (s : State) (t : Nat), s.reachable .tun t = true) ∧
    (∃ (s : State) (t : Nat), s.reachable .tun t = true) ∧
    (∃ (s : State) (t : Nat) (m : Nat), m < 16 ∧ s.reachable .tun t = true) ∧
    (∃ (s : State), s.reachable .qm 0 = true) ∧
    (∃ (s : State), s.reachable .qm 0 = true) ∧
    (∃ (s : State), s.reachable .encoders 0 = true) ∧
    (∃ (s : State) (x : Nat), x < 4 ∧ s.reachable .encoders 0 = true) ∧
    (∃ (s : State) (x : Nat), x < 4 ∧ s.reachable .encoders 0 = true) ∧
    (∃ (s : State), s.reachable .sequencer 0 = true) ∧
    (∃ (s : State), s.reachable .sequencer 0 = true) ∧
    (∃ (s : State), s.reachable .sequencer 0 = true) ∧
    (∃ (s : State) (c : Nat), c < 64 ∧ s.reachable .headPort c = true) ∧
    (∃ (s : State) (i : Nat), s.reachable .codec i = true) ∧
    (∃ (s : State) (c : Nat), s.reachable .underback c = true) ∧
    (∃ (s : State), s.reachable .intake 0 = true) ∧
    (∃ (s : State), s.reachable .kiln 0 = true) ∧
    (∃ (s : State), s.reachable .kiln 0 = true) ∧
    (∃ (s : State) (c : Nat), c < 64 ∧ s.reachable .kiln 0 = true) ∧
    (∃ (s : State), s.reachable .mash 0 = true) ∧
    (∃ (s : State), s.reachable .motion 0 = true) ∧
    (∃ (s : State), s.reachable .motion 0 = true) ∧
    (∃ (s : State), s.reachable .motion 0 = true) ∧
    (∃ (s : State), s.reachable .intake 0 = true) ∧
    (∃ (s : State) (t : Nat), s.reachable .screen t = true) ∧
    (∃ (s : State) (t : Nat), s.reachable .screen t = true) :=
  ⟨⟨(blk on0 .tun 63).set .TUN_FAULT_CODE 1 63 0, 63, by decide +kernel⟩,
    ⟨(blk on0 .tun 63).set .TUN_ECC_CORR 1 63 0, 63, by decide +kernel⟩,
    ⟨(blk on0 .tun 63).set .TUN_SLICE_MAX_CYCLES 1 63 15, 63, 15, by decide +kernel⟩,
    ⟨(blk on0 .qm 0).set .QM_DB_ERR_COUNT 1 0 0, by decide +kernel⟩,
    ⟨(blk on0 .qm 0).set .QM_FLR_DROPPED_COUNT 1 0 0, by decide +kernel⟩,
    ⟨(blk on0 .encoders 0).set .ENC_UNCMD_COUNT 1 0 0, by decide +kernel⟩,
    ⟨(blk on0 .encoders 0).set .ENC_AMP_MIN 1 0 3, 3, by decide +kernel⟩,
    ⟨(blk on0 .encoders 0).set .ENC_FAULT_CAUSE 1 0 3, 3, by decide +kernel⟩,
    ⟨(blk on0 .sequencer 0).set .FIRE_DROPPED_COUNT 1 0 0, by decide +kernel⟩,
    ⟨(blk on0 .sequencer 0).set .FIRE_MISSED_COUNT 1 0 0, by decide +kernel⟩,
    ⟨(blk on0 .sequencer 0).set .FIRE_VOTE_DIS_A 1 0 0, by decide +kernel⟩,
    ⟨(blk on0 .headPort 63).set .FIRE_CH_DROPPED_COUNT 1 63 0, 63, by decide +kernel⟩,
    ⟨(blk on0 .codec 3).set .CDC_FAIL_COUNT 1 3 0, 3, by decide +kernel⟩,
    ⟨(blk on0 .underback 63).set .UB_LATE_COUNT_COUNT 1 63 0, 63, by decide +kernel⟩,
    ⟨(blk on0 .intake 0).set .INT_ARCH_DROPPED_COUNT 1 0 0, by decide +kernel⟩,
    ⟨(blk on0 .kiln 0).set .KILN_CLIP_LINES_COUNT 1 0 0, by decide +kernel⟩,
    ⟨(blk on0 .kiln 0).set .KILN_UNSEALED_COUNT 1 0 0, by decide +kernel⟩,
    ⟨(blk on0 .kiln 0).set .KILN_CH_CLIP_COUNT 1 0 63, 63, by decide +kernel⟩,
    ⟨(blk on0 .mash 0).set .MASH_ERR_STATUS 1 0 0, by decide +kernel⟩,
    ⟨(blk on0 .motion 0).set .MOT_BS_COUNT_BACKSTEPS 1 0 0, by decide +kernel⟩,
    ⟨(blk on0 .motion 0).set .MOT_REFUSED_COUNT 1 0 0, by decide +kernel⟩,
    ⟨(blk on0 .motion 0).set .MOT_HARD_LINES_COUNT 1 0 0, by decide +kernel⟩,
    ⟨(blk on0 .intake 0).set .INT_FAULT_LOG_CAUSE 1 0 0, by decide +kernel⟩,
    ⟨(blk on0 .screen 63).set .SCR_BRIDGE_LOST_COUNT 1 63 0, 63, by decide +kernel⟩,
    ⟨(blk on0 .screen 63).set .SCR_CLIP_COUNT 1 63 0, 63, by decide +kernel⟩⟩

theorem wit_ClearsOfBlocks :
    (∃ (s : State) (p : Nat), s.reachable .ethernet p = true) ∧
    (∃ (s : State), s.reachable .usb 0 = true) ∧
    (∃ (s : State) (x : Nat), s.reachable .camera x = true) ∧
    (∃ (s : State) (x : Nat), s.reachable .camera x = true) ∧
    (∃ (s : State) (x : Nat), s.reachable .camera x = true) ∧
    (∃ (s : State), s.reachable .gravity 0 = true) ∧
    (∃ (s : State) (c : Nat), c < 64 ∧ s.reachable .gravity 0 = true) ∧
    (∃ (s : State) (c : Nat), c < 64 ∧ s.reachable .sightGlass 0 = true) ∧
    (∃ (s : State), s.reachable .sightGlass 0 = true) ∧
    (∃ (s : State), s.reachable .viewport 0 = true) ∧
    (∃ (s : State), s.reachable .telemetry 0 = true) ∧
    (∃ (s : State), s.reachable .telemetry 0 = true) ∧
    (∃ (s : State), s.reachable .fence 0 = true) ∧
    (∃ (s : State), s.reachable .hierarchy 0 = true) ∧
    (∃ (s : State), s.reachable .hierarchy 0 = true) ∧
    (∃ (s : State) (i : Nat), s.reachable .ddr i = true) ∧
    (∃ (s : State) (i : Nat), s.reachable .ddr i = true) ∧
    (∃ (s : State) (i : Nat), s.reachable .sparge i = true) ∧
    (∃ (s : State), s.powered 131 = true) ∧
    (∃ (s : State), s.reachable .trio 0 = true) ∧
    (∃ (s : State) (p : Nat), s.reachable .wortPort p = true) ∧
    (∃ (s : State) (i : Nat), s.reachable .wortLane i = true) ∧
    (∃ (s : State) (i : Nat), i < 40 ∧ s.reachable .telemetry 0 = true ∧ -16384 ≤ s.geti .TEL_TEMP_NOW 0 i ∧ s.geti .TEL_TEMP_NOW 0 i < 16384) :=
  ⟨⟨(blk on0 .ethernet 1).set .ETH_TXTS_STATUS_OVF 1 1 0, 1, by decide +kernel⟩,
    ⟨(blk on0 .usb 0).set .USB_COUNTS_ABANDONED 1 0 0, by decide +kernel⟩,
    ⟨(blk on0 .camera 7).set .CAM_LOST_COUNT 1 7 0, 7, by decide +kernel⟩,
    ⟨(blk on0 .camera 7).set .CAM_PHY_ERR_ECC_CORR 1 7 0, 7, by decide +kernel⟩,
    ⟨(blk on0 .camera 7).set .CAM_STALE_COUNT 1 7 0, 7, by decide +kernel⟩,
    ⟨(blk on0 .gravity 0).set .GRAV_FOREIGN_COUNT 1 0 0, by decide +kernel⟩,
    ⟨(blk on0 .gravity 0).set .GRAV_CH_COUNT_OUTS 1 0 63, 63, by decide +kernel⟩,
    ⟨(blk on0 .sightGlass 0).set .SG_VIOL_STOPPED 1 0 63, 63, by decide +kernel⟩,
    ⟨(blk on0 .sightGlass 0).set .SG_BUS_RX 1 0 0, by decide +kernel⟩,
    ⟨(blk on0 .viewport 0).set .VP_COUNTS_UNDERRUN 1 0 0, by decide +kernel⟩,
    ⟨(blk on0 .telemetry 0).set .TEL_STATUS_SNAP_LOST 1 0 0, by decide +kernel⟩,
    ⟨(blk on0 .telemetry 0).set .TEL_SCRUB_CORR 1 0 0, by decide +kernel⟩,
    ⟨(blk on0 .fence 0).set .FENCE_LAST_CLASS 1 0 0, by decide +kernel⟩,
    ⟨(blk on0 .hierarchy 0).set .BAR_RESYNC_COUNT 1 0 0, by decide +kernel⟩,
    ⟨(blk on0 .hierarchy 0).set .BAR_COV_EVENTS_COUNT 1 0 0, by decide +kernel⟩,
    ⟨(blk on0 .ddr 5).set .DDR_ALERT_REPLAYS 1 5 0, 5, by decide +kernel⟩,
    ⟨(blk on0 .ddr 5).set .DDR_ECC_CE 1 5 0, 5, by decide +kernel⟩,
    ⟨(blk on0 .sparge 5).set .SPG_FOUND_CE 1 5 0, 5, by decide +kernel⟩,
    ⟨(blk on0 .telemetry 0).set .GRS_STALE_COUNT 1 0 0, by decide +kernel⟩,
    ⟨(blk on0 .trio 0).set .TRIO_EVENTS_TAKEOVERS 1 0 0, by decide +kernel⟩,
    ⟨(blk on0 .wortPort 3).set .WL_PORT_ERR_NAKS 1 3 0, 3, by decide +kernel⟩,
    ⟨(blk on0 .wortLane 35).set .WL_LANE_RETRAINS_TOTAL 1 35 0, 35, by decide +kernel⟩,
    ⟨(blk on0 .telemetry 0).set .TEL_TEMP_NOW 5 0 39, 39, by decide +kernel⟩⟩

theorem wit_ExtentsAndBlocks :
    (∃ (s : State) (d : Desc) (e0 : Nat) (n : Nat), Accepts s d 0x0201 [(0x10, 1), (0x11, 1), (0x18, 8), (0x20, 8), (0x28, 8)] ∧ e0 = d.p 0x18 8 / 2 ^ 26 ∧
      n = d.p 0x20 8 / 2 ^ 26 ∧ d.p 0x10 1 ≤ 1 ∧ d.p 0x11 1 ≤ (if d.p 0x10 1 = 1 then 3 else 0) ∧ runOk (d.p 0x18 8) (d.p 0x20 8) = true ∧ d.p 0x28 8
      % 4096 = 0 ∧ d.p 0x20 8 ≠ 0 ∧ s.activeManager = true ∧ (∀ x ∈ s.extents, x.1 < e0 ∨ e0 + n ≤ x.1) ∧ s.fwAway = false) ∧
    (∃ (s : State) (d : Desc), Accepts s d 0x0201 [(0x10, 1), (0x11, 1), (0x18, 8), (0x20, 8), (0x28, 8)] ∧ d.p 0x10 1 ≤ 1 ∧ d.p 0x11 1 ≤ (if d.p 0x10 1 =
      1 then 3 else 0) ∧ runOk (d.p 0x18 8) (d.p 0x20 8) = true ∧ d.p 0x28 8 % 4096 = 0 ∧ d.p 0x20 8 ≠ 0 ∧ s.activeManager = true ∧ s.runMapped (runOf
      d) = false ∧ s.fwAway = true) ∧
    (∃ (s : State) (d : Desc) (e0 : Nat) (n : Nat), s.activeManager = false ∧ e0 = d.p 0x18 8 / 2 ^ 26 ∧ n = d.p 0x20 8 / 2 ^ 26 ∧ (∀ x ∈ s.extents, x.1 <
      e0 ∨ e0 + n ≤ x.1)) ∧
    (∃ (s : State) (d : Desc) (e0 : Nat) (n : Nat), Accepts s d 0x0202 [(0x18, 8), (0x20, 8)] ∧ runOk (d.p 0x18 8) (d.p 0x20 8) = true ∧ d.p 0x20 8 ≠ 0 ∧
      s.activeManager = true ∧ e0 = d.p 0x18 8 / 2 ^ 26 ∧ n = d.p 0x20 8 / 2 ^ 26 ∧ (∃ x ∈ s.extents, e0 ≤ x.1 ∧ x.1 < e0 + n) ∧ s.fwAway = false) ∧
    (∃ (s : State), s.activeManager = false) ∧
    (∃ (s : State) (h : Nat) (e0 : Nat) (n : Nat), s.unmaps.find? (fun u => u.1 == h) = some (h, e0, n) ∧ s.runUsed (e0, n) = false ∧ s.fwAway = false) ∧
    (∃ (s : State), s.activeManager = false) ∧
    (∃ (s : State) (id : Nat) (i : Nat) (j : Nat) (counts : List (Nat × Nat)) (p : Page) (x : Strip), x = s.stripOf p i j ∧ s.page id = some p ∧
      s.stripFault p x (p.sentOf x) = 0 ∧ (s.role = rolePress ∨ s.role = roleBar ∨ s.activeManager = true) ∧ x ∈ s.strips p ∧ p.faulty x = false ∧
      s.fwAway = false ∧ p.sentOf x < s.blocksOf x ∧ units (s.blockBytes x (p.sentOf x)) ≤ look 0 s.credits (s.slotOf x) ∧ s.servedNext p x counts =
      true) ∧
    (∃ (s : State) (id : Nat) (i : Nat) (j : Nat) (k : Nat) (p : Page) (x : Strip), x = s.stripOf p i j ∧ s.page id = some p ∧ (s.role = rolePress ∨ s.role
      = roleBar ∨ s.activeManager = true) ∧ x ∈ s.strips p ∧ p.faulty x = false ∧ s.fwAway = false ∧ k < p.sentOf x) ∧
    (∃ (s : State) (id : Nat) (i : Nat) (j : Nat) (p : Page) (x : Strip), x = s.stripOf p i j ∧ s.stripFault p x (p.sentOf x) ≠ 0 ∧ s.page id = some p ∧
      (s.role = rolePress ∨ s.role = roleBar ∨ s.activeManager = true) ∧ x ∈ s.strips p ∧ p.faulty x = false ∧ s.fwAway = false ∧ (s.blocksOf x = 0 ∨
      p.sentOf x < s.blocksOf x)) ∧
    (∃ (s : State) (id : Nat), s.page id = none) :=
  ⟨⟨adm (on0.set .RST_STRAPS_ROLE 1), dsc 0x0201 [(0x10, 1, 1), (0x11, 1, 3), (0x18, 8, 0xFFFFFF8000000), (0x20, 8, 0x4000000), (0x28, 8, 0x1000)], _, _,
    accepts_of (by decide +kernel), rfl, rfl, by decide +kernel⟩,
    ⟨adm (on0.set .RST_STRAPS_ROLE 1 |>.on .FLS_STATUS_HANDOVER), dsc 0x0201 [(0x10, 1, 1), (0x11, 1, 3), (0x18, 8, 0xFFFFFF8000000), (0x20, 8,
    0x4000000), (0x28, 8, 0x1000)], accepts_of (by decide +kernel), by decide +kernel⟩,
    ⟨on0, dsc 0x0201 [(0x10, 1, 1), (0x11, 1, 3), (0x18, 8, 0xFFFFFF8000000), (0x20, 8, 0x4000000), (0x28, 8, 0x1000)], (dsc 0x0201 [(0x10, 1, 1), (0x11,
    1, 3), (0x18, 8, 0xFFFFFF8000000), (0x20, 8, 0x4000000), (0x28, 8, 0x1000)]).p 0x18 8 / 2 ^ 26, 1, by decide +kernel⟩,
    ⟨adm ({ on0.set .RST_STRAPS_ROLE 1 with extents := [(0, { kind := 0, port := 0, base := 0, closing := none })] }), dsc 0x0202 [(0x18, 8, 0), (0x20, 8,
    0x4000000)], 0, 1, accepts_of (by decide +kernel), by decide +kernel⟩,
    ⟨{ on0 with extents := [(0, { kind := 0, port := 0, base := 0, closing := none })] }, by decide +kernel⟩,
    ⟨{ on0.set .RST_STRAPS_ROLE 1 with extents := [(0, { kind := 0, port := 0, base := 0, closing := some 0 })], unmaps := [(7, 0, 1)] }, 7, 0, 1,
    by decide +kernel⟩,
    ⟨{ on0 with extents := [(0, { kind := 0, port := 0, base := 0, closing := some 0 })] }, by decide +kernel⟩,
    ⟨{ job 1 with pages := [pg (if Config.pressHigh 0 then 2 else 1) 0] }, 9, 0, 0, [(2047, 3)], pg (if Config.pressHigh 0 then 2 else 1) 0, _, rfl, rfl,
    (by unfold State.stripFault planeLines2; simp only [show ∀ ps, State.get { job 1 with pages := ps } .GRS_IMAGE_ID_ID = 0 from fun _ => rfl]; generalize Config.pressHigh 0 = b; cases b <;> decide +kernel),
    by decide +kernel⟩,
    ⟨{ job 1 with pages := [{ pg 77 0 with sent := [(0, 1)] }] }, 9, 0, 0, 0, { pg 77 0 with sent := [(0, 1)] }, _, rfl, by decide +kernel⟩,
    ⟨{ job 1 with pages := [pg 77 0] }, 9, 0, 0, pg 77 0, _, rfl,
    (by unfold State.stripFault planeLines2; generalize Config.pressHigh _ = b; cases b <;> decide +kernel), by decide +kernel⟩,
    ⟨on0, 9, by decide +kernel⟩⟩

theorem wit_PagesSubmitted :
    (∃ (s : State) (d : Desc) (id : Nat) (first : Nat) (h : Nat), Accepts s d 0x0203 [(0x10, 4), (0x14, 4), (0x18, 8), (0x20, 4), (0x24, 4)] ∧ id = d.p
      0x10 4 ∧ first = s.nextFirst (d.p 0x20 4) ∧ h = (s.started d 0x0203).1 ∧ s.activeManager = true ∧ jsaOk (d.p 0x18 8) = true ∧ d.p 0x18 8 % 64 =
      0 ∧ (d.p 0x24 4 = 0 ∨ d.p 0x24 4 = 2) ∧ s.jsaOpen (d.p 0x18 8) 32 = true ∧ s.jf (d.p 0x18 8) 4 = pageMagic ∧ s.descBad (d.p 0x18 8) = false ∧ (∀
      n ∈ s.descSizes (d.p 0x18 8), n ≠ 0) ∧ d.p 0x14 4 ≠ 0 ∧ s.page id = none) ∧
    (∃ (s : State) (d : Desc) (p : Page) (h : Nat), Accepts s d 0x0203 [(0x10, 4), (0x14, 4), (0x18, 8), (0x20, 4), (0x24, 4)] ∧ h = (s.started d 0x0203).1
      ∧ s.activeManager = true ∧ jsaOk (d.p 0x18 8) = true ∧ d.p 0x18 8 % 64 = 0 ∧ (d.p 0x24 4 = 1 ∨ d.p 0x24 4 = 3) ∧ s.jsaOpen (d.p 0x18 8) 32 =
      true ∧ s.jf (d.p 0x18 8) 4 = pageMagic ∧ s.descBad (d.p 0x18 8) = false ∧ (∀ n ∈ s.descSizes (d.p 0x18 8), n ≠ 0) ∧ d.p 0x14 4 ≠ 0 ∧ s.page (d.p
      0x10 4) = some p ∧ p.state = 1 ∧ p.lines = d.p 0x14 4 ∧ p.gap = d.p 0x20 4) ∧
    (∃ (s : State) (first : Nat), s.activeManager = false ∧ s.pages.find? (fun p => p.first == first) = none) ∧
    (∃ (s : State) (id : Nat) (fired : Nat) (p : Page), s.page id = some p ∧ p.state = 0 ∧ s.activeManager = true ∧ p.first + p.lines ≤ s.seq.next ∧ fired
      ≤ p.lines) ∧
    (∃ (s : State) (id : Nat) (cause : Nat) (bar : Nat) (p : Page), s.page id = some p ∧ p.state = 0 ∧ s.activeManager = true ∧ 1 ≤ cause ∧ cause ≤ 4 ∧ bar
      < 16) ∧
    (∃ (s : State) (id : Nat) (cause : Nat) (p : Page), s.page id = some p ∧ s.activeManager = false ∧ s.role = roleWorker ∧ 1 ≤ cause ∧ cause ≤ 4) ∧
    (∃ (s : State) (d : Desc) (p : Page) (h : Nat) (u : State), Accepts s d 0x0204 [(0x10, 4)] ∧ h = (s.startedLong d 0x0204).1 ∧ u = (((s.startedLong d
      0x0204).2.setPage { p with state := 3 }).dropPage p p.first).out (.wort "pageCancelled" [d.p 0x10 4, p.first]) ∧ s.activeManager = true ∧ s.page
      (d.p 0x10 4) = some p ∧ p.state = 0 ∧ s.pageScreened p = false) ∧
    (∃ (s : State) (d : Desc) (p : Page) (h : Nat), Accepts s d 0x0204 [(0x10, 4)] ∧ h = (s.startedLong d 0x0204).1 ∧ s.activeManager = true ∧ s.page (d.p
      0x10 4) = some p ∧ p.state = 1) ∧
    (∃ (s : State) (d : Desc) (p : Page), s.activeManager = false ∧ s.page (d.p 0x10 4) = some p) :=
  ⟨⟨adm (job 1), dsc 0x0203 [(0x10, 4, 9), (0x14, 4, 77), (0x18, 8, 0x1000), (0x24, 4, 2)], _, _, _, accepts_of (by decide +kernel), rfl, rfl, rfl,
    by decide +kernel⟩,
    ⟨adm ({ job 1 with pages := [pg 77 1] }), dsc 0x0203 [(0x10, 4, 9), (0x14, 4, 77), (0x18, 8, 0x1000), (0x24, 4, 3)], pg 77 1, _, accepts_of
    (by decide +kernel), rfl, by decide +kernel⟩,
    ⟨on0, 5, by decide +kernel⟩,
    ⟨{ job 1 with pages := [pg 77 0], seq := { next := 177 } }, 9, 77, pg 77 0, by decide +kernel⟩,
    ⟨{ job 1 with pages := [pg 77 0] }, 9, 4, 15, pg 77 0, by decide +kernel⟩,
    ⟨{ on0.set .RST_STRAPS_ROLE 3 with pages := [pg 77 0] }, 9, 4, pg 77 0, by decide +kernel⟩,
    ⟨adm ({ job 1 with pages := [pg 77 0] }), dsc 0x0204 [(0x10, 4, 9)], pg 77 0, _, _, accepts_of (by decide +kernel), rfl, rfl, by decide +kernel⟩,
    ⟨adm ({ job 1 with pages := [pg 77 1] }), dsc 0x0204 [(0x10, 4, 9)], pg 77 1, _, accepts_of (by decide +kernel), rfl, by decide +kernel⟩,
    ⟨{ on0 with pages := [pg 77 0] }, dsc 0x0204 [(0x10, 4, 9)], pg 77 0, by decide +kernel⟩⟩

theorem wit_IntakeQueue :
    (∃ (s : State) (c : Nat) (n : Nat) (dev : Nat), dev = s.get .BAR_STATUS_DEVICE ∧ s.role ≠ rolePress ∧ s.role ≠ roleBar ∧ c < 64 ∧ 0 < n ∧ 4096 * (n +
      (s.chan c).credit + s.intakeUsed c) ≤ s.intakeSize c) ∧
    (∃ (s : State) (dev : Nat) (c : Nat) (n : Nat), dev ≠ s.get .BAR_STATUS_DEVICE ∧ c < 64 ∧ 0 < n) ∧
    (∃ (s : State) (c : Nat) (x : Arrival), c < 64 ∧ x.bytes ≠ [] ∧ units x.bytes.length ≤ (s.chan c).credit ∧ (∀ b ∈ (s.chan c).intake, ¬ (b.page = x.page
      ∧ b.index = x.index ∧ b.bytes = []))) ∧
    (∃ (s : State) (c : Nat) (x : Arrival), c < 64 ∧ x.bytes ≠ [] ∧ (∃ b ∈ (s.chan c).intake, b.page = x.page ∧ b.index = x.index ∧ b.bytes = [] ∧ b.fails
      < 2)) ∧
    (∃ (s : State) (c : Nat) (x : Arrival), c < 64 ∧ x.bytes ≠ [] ∧ units x.bytes.length ≤ (s.chan c).credit ∧ (∃ b ∈ (s.chan c).intake, b.page = x.page ∧
      b.index = x.index ∧ b.bytes = []) ∧ (∀ b ∈ (s.chan c).intake, b.page = x.page → b.index = x.index → b.bytes = [] → 2 ≤ b.fails)) ∧
    (∃ (s : State) (c : Nat) (x : Arrival), (s.chan c).credit < units x.bytes.length ∧ (∀ b ∈ (s.chan c).intake, b.bytes ≠ [])) ∧
    (∃ (s : State) (c : Nat) (i : Nat) (j : Nat) (b : QBlock), i = s.codecOf c ∧ c < 64 ∧ s.freeLane i = some j ∧ s.fenced 3 i = false ∧ s.fenced 2 c =
      false ∧ s.powered (118 + i) = true ∧ s.powered c = true ∧ (s.chan c).intake.find? QBlock.waits = some b ∧ headerFits (s.prog c 0x00A 2) b.lines
      (s.decodeHalf c) b.bytes = true) ∧
    (∃ (s : State) (c : Nat) (i : Nat) (j : Nat) (b : QBlock), i = s.codecOf c ∧ c < 64 ∧ s.freeLane i = some j ∧ s.fenced 3 i = false ∧ s.fenced 2 c =
      false ∧ s.powered (118 + i) = true ∧ s.powered c = true ∧ (s.chan c).intake.find? QBlock.waits = some b ∧ headerFits (s.prog c 0x00A 2) b.lines
      (s.decodeHalf c) b.bytes = false) ∧
    (∃ (s : State) (i : Nat) (j : Nat) (c : Nat) (x : Chan) (b : QBlock) (rows : List (List Nat)), s.chans.find? (fun e => e.2.intake.any (fun b => b.inst
      == i && b.lane == j + 1)) = some (c, x) ∧ x.intake.find? (fun b => b.inst == i && b.lane == j + 1) = some b ∧ checkBlock (s.prog c 0x00A 2)
      b.lines (s.decodeHalf c) b.bytes = .ok rows) ∧
    (∃ (s : State) (i : Nat) (j : Nat) (c : Nat) (cause : Nat) (x : Chan) (b : QBlock), s.chans.find? (fun e => e.2.intake.any (fun b => b.inst == i &&
      b.lane == j + 1)) = some (c, x) ∧ x.intake.find? (fun b => b.inst == i && b.lane == j + 1) = some b ∧ checkBlock (s.prog c 0x00A 2) b.lines
      (s.decodeHalf c) b.bytes = .error cause) ∧
    (∃ (s : State) (c : Nat) (a : QBlock) (b : QBlock) (l : List QBlock), c < 64 ∧ (s.chan c).intake = a :: l ∧ s.fenced 2 c = false ∧ (s.chan c).fromPage
      ≤ a.pfirst ∧ (s.chan c).intake.find? (fun x => !x.moved) = some b ∧ b.passed = true ∧ (s.chan c).released.length < 2) ∧
    (∃ (s : State) (c : Nat) (b : QBlock) (l : List QBlock), c < 64 ∧ (s.chan c).intake = b :: l ∧ (s.fenced 2 c = true ∨ b.pfirst < (s.chan c).fromPage)) ∧
    (∃ (s : State) (c : Nat) (x : Line) (l : List Line), c < 64 ∧ (s.chan c).lead = x :: l ∧ s.powered c = true ∧ s.barred c = false ∧ (s.chan c).out =
      false ∧ (s.chan c).grant.length < 512) ∧
    (∃ (s : State) (c : Nat) (x : Line) (l : List Line), c < 64 ∧ (s.chan c).lead = x :: l ∧ s.powered c = true ∧ s.barred c = true) ∧
    (∃ (s : State) (c : Nat), (s.chan c).lead = []) :=
  ⟨⟨sec on0 0x0013 63 24 [(8, 4, 0x4000)], 63, 4, _, rfl, by decide +kernel⟩,
    ⟨on0, 31, 63, 1, by decide +kernel⟩,
    ⟨on0.setChan 63 { credit := 1 }, 63,
    { page := 1, first := 0, lines := 2, gap := 0, last := false, index := 3, line := 0, planeLines := 1, bytes := [1, 2, 3] }, by decide +kernel⟩,
    ⟨on0.setChan 63
    { intake := [{ page := 1, pfirst := 0, index := 3, first := 0, lines := 1, bytes := [], fails := 1, inst := 0, lane := 0, passed := false }] },
    63, { page := 1, first := 0, lines := 2, gap := 0, last := false, index := 3, line := 0, planeLines := 1, bytes := [1, 2, 3] }, by decide +kernel⟩,
    ⟨on0.setChan 63
    { credit := 1, intake := [{ page := 1, pfirst := 0, index := 3, first := 0, lines := 1, bytes := [], fails := 2, inst := 0, lane := 0, passed := false }] },
    63, { page := 1, first := 0, lines := 2, gap := 0, last := false, index := 3, line := 0, planeLines := 1, bytes := [1, 2, 3] }, by decide +kernel⟩,
    ⟨on0, 63, { page := 1, first := 0, lines := 2, gap := 0, last := false, index := 3, line := 0, planeLines := 1, bytes := [1, 2, 3] },
    by decide +kernel⟩,
    ⟨(sec on0 0x0020 63 0x280 [(8, 2, 1), (0xA, 2, 2), (0x44, 4, 0x1000)]).setChan 63
    { intake := [{ page := 1, pfirst := 0, index := 3, first := 0, lines := 1, bytes := (blk1 [5, 1023]), fails := 0, inst := 0, lane := 0, passed := false }] },
    63, _, 0,
    { page := 1, pfirst := 0, index := 3, first := 0, lines := 1, bytes := (blk1 [5, 1023]), fails := 0, inst := 0, lane := 0, passed := false }, rfl,
    by decide +kernel⟩,
    ⟨(sec on0 0x0020 63 0x280 [(8, 2, 1), (0xA, 2, 2), (0x44, 4, 0x1000)]).setChan 63
    { intake := [{ page := 1, pfirst := 0, index := 3, first := 0, lines := 1, bytes := [1, 2], fails := 0, inst := 0, lane := 0, passed := false }] },
    63, _, 0, { page := 1, pfirst := 0, index := 3, first := 0, lines := 1, bytes := [1, 2], fails := 0, inst := 0, lane := 0, passed := false }, rfl,
    by decide +kernel⟩,
    ⟨(sec on0 0x0020 63 0x280 [(8, 2, 1), (0xA, 2, 2), (0x44, 4, 0x1000)]).setChan 63
    { intake := [{ page := 1, pfirst := 0, index := 3, first := 0, lines := 1, bytes := (blk1 [5, 1023]), fails := 0, inst := 3, lane := 8, passed := false }] },
    3, 7, 63,
    { intake := [{ page := 1, pfirst := 0, index := 3, first := 0, lines := 1, bytes := (blk1 [5, 1023]), fails := 0, inst := 3, lane := 8, passed := false }] },
    { page := 1, pfirst := 0, index := 3, first := 0, lines := 1, bytes := (blk1 [5, 1023]), fails := 0, inst := 3, lane := 8, passed := false }, [[5,
    1023]], by decide +kernel⟩,
    ⟨(sec on0 0x0020 63 0x280 [(8, 2, 1), (0xA, 2, 2), (0x44, 4, 0x1000)]).setChan 63
    { intake := [{ page := 1, pfirst := 0, index := 3, first := 0, lines := 1, bytes := [1, 2], fails := 0, inst := 3, lane := 8, passed := false }] },
    3, 7, 63, causeHeader,
    { intake := [{ page := 1, pfirst := 0, index := 3, first := 0, lines := 1, bytes := [1, 2], fails := 0, inst := 3, lane := 8, passed := false }] },
    { page := 1, pfirst := 0, index := 3, first := 0, lines := 1, bytes := [1, 2], fails := 0, inst := 3, lane := 8, passed := false },
    by decide +kernel⟩,
    ⟨(sec on0 0x0020 63 0x280 [(8, 2, 1), (0xA, 2, 2), (0x44, 4, 0x1000)]).setChan 63
    { intake := [{ page := 1, pfirst := 0, index := 3, first := 0, lines := 1, bytes := [1], fails := 0, inst := 0, lane := 0, passed := true }] },
    63, { page := 1, pfirst := 0, index := 3, first := 0, lines := 1, bytes := [1], fails := 0, inst := 0, lane := 0, passed := true },
    { page := 1, pfirst := 0, index := 3, first := 0, lines := 1, bytes := [1], fails := 0, inst := 0, lane := 0, passed := true }, [],
    by decide +kernel⟩,
    ⟨on0.setChan 63
    { intake := [{ page := 1, pfirst := 0, index := 3, first := 0, lines := 1, bytes := [1], fails := 0, inst := 0, lane := 0, passed := true }], fromPage := 1 },
    63, { page := 1, pfirst := 0, index := 3, first := 0, lines := 1, bytes := [1], fails := 0, inst := 0, lane := 0, passed := true }, [],
    by decide +kernel⟩,
    ⟨on0.setChan 63 { lead := [{ no := 5, codes := [1] }] }, 63, { no := 5, codes := [1] }, [], by decide +kernel⟩,
    ⟨(on0.set .FENCE_MAP_UNITS (2 ^ 63) 0 1).setChan 63 { lead := [{ no := 5, codes := [1] }] }, 63, { no := 5, codes := [1] }, [], by decide +kernel⟩,
    ⟨on0, 63, by decide +kernel⟩⟩

theorem wit_InspectionArchive :
    (∃ (s : State) (d : Desc) (h : Nat), Accepts s d 0x0205 [(0x10, 1), (0x11, 1), (0x12, 1), (0x18, 8), (0x20, 8)] ∧ h = (s.started d 0x0205).1 ∧ d.p 0x11
      1 ≤ 1 ∧ (d.p 0x11 1 = 0 ∨ (1 ≤ d.p 0x12 1 ∧ d.p 0x12 1 ≤ 99)) ∧ 16777216 ≤ d.p 0x20 8 ∧ d.p 0x18 8 % 4096 = 0 ∧ d.p 0x20 8 % 4096 = 0 ∧ d.p 0x10
      1 ≠ 0 ∧ s.archive.mask = 0) ∧
    (∃ (s : State) (d : Desc) (h : Nat), Accepts s d 0x0205 [(0x10, 1), (0x11, 1), (0x12, 1), (0x18, 8), (0x20, 8)] ∧ h = (s.started d 0x0205).1 ∧ d.p 0x11
      1 = 0 ∧ 16777216 ≤ d.p 0x20 8 ∧ d.p 0x18 8 % 4096 = 0 ∧ d.p 0x20 8 % 4096 = 0 ∧ d.p 0x10 1 = 0) ∧
    (∃ (s : State) (d : Desc) (h : Nat) (n : Nat) (m : Nat), Accepts s d 0x0206 [(0x10, 4), (0x14, 4), (0x18, 8)] ∧ n = d.p 0x10 4 ∧ m = d.p 0x14 4 ∧ h =
      (s.startedLong d 0x0206).1 ∧ n ≠ 0 ∧ m ≠ 0 ∧ (∀ f ∈ s.archive.frames.head?, f.size ≤ m)) ∧
    (∃ (s : State) (x : Nat) (k : Nat), k = s.encOf x ∧ x < 8 ∧ (s.enc k).cam = x ∧ (s.enc k).rows ≠ [] ∧ ((s.enc k).rows.length = 256 ∨ (s.enc k).ended =
      true ∨ (s.enc k).flush = true)) ∧
    (∃ (s : State) (i : Nat), i < 4 ∧ s.reachable .codec i = true ∧ (s.enc i).rows ≠ []) ∧
    (∃ (s : State) (i : Nat), i < 4 ∧ s.reachable .codec i = true ∧ (s.enc i).rows = []) ∧
    (∃ (s : State) (x : Nat) (k : Nat) (f : ArchFrame), k = s.encOf x ∧ x < 8 ∧ (s.enc k).ended = false ∧ (s.enc k).ready.find? (fun g => g.cam == x) =
      some f ∧ bit s.archive.mask x = true ∧ s.archive.policy ≠ 1 ∧ f.size ≤ s.archive.size) ∧
    (∃ (s : State) (x : Nat) (k : Nat) (f : ArchFrame), k = s.encOf x ∧ x < 8 ∧ (s.enc k).ended = false ∧ (s.enc k).ready.find? (fun g => g.cam == x) =
      some f ∧ s.archive.policy = 1 ∧ s.archive.size < s.archive.fill + f.size) :=
  ⟨⟨adm on0, dsc 0x0205 [(0x10, 1, 255), (0x11, 1, 1), (0x12, 1, 99), (0x18, 8, 4096), (0x20, 8, 16777216)], _, accepts_of (by decide +kernel), rfl,
    by decide +kernel⟩,
    ⟨adm ({ on0 with archive := { mask := 255, frames := [{ frame := 1, time := 2, cam := 7, bytes := [1, 2] }] } }), dsc 0x0205 [(0x18, 8, 4096), (0x20,
    8, 16777216)], _, accepts_of (by decide +kernel), rfl, by decide +kernel⟩,
    ⟨adm ({ on0 with archive := { mask := 255, frames := [{ frame := 1, time := 2, cam := 7, bytes := [1, 2] }] } }), dsc 0x0206 [(0x10, 4, 1), (0x14, 4,
    96), (0x18, 8, 4096)], _, _, _, accepts_of (by decide +kernel), rfl, rfl, rfl, by decide +kernel⟩,
    ⟨(sec (on0.setEnc 3 { cam := 7, rows := [[[1]]], flush := true, depth := 8 }) 0x0040 7 0xC0 [(3, 1, 3)]), 7, _, rfl, by decide +kernel⟩,
    ⟨blk (on0.setEnc 3 { rows := [[[1]]], depth := 8 }) .codec 3, 3, by decide +kernel⟩,
    ⟨blk on0 .codec 3, 3, by decide +kernel⟩,
    ⟨{ sec (on0.setEnc 3 { ready := [{ frame := 1, time := 2, cam := 7, bytes := [1, 2] }] }) 0x0040 7 0xC0 [(3, 1, 3)] with archive := { mask := 128, size := 96 } },
    7, _, { frame := 1, time := 2, cam := 7, bytes := [1, 2] }, rfl, by decide +kernel⟩,
    ⟨{ sec (on0.setEnc 3 { ready := [{ frame := 1, time := 2, cam := 7, bytes := [1, 2] }] }) 0x0040 7 0xC0 [(3, 1, 3)] with archive := { mask := 128, size := 95, policy := 1, frames := [{ frame := 1, time := 2, cam := 7, bytes := [1, 2] }] } },
    7, _, { frame := 1, time := 2, cam := 7, bytes := [1, 2] }, rfl, by decide +kernel⟩⟩

theorem wit_HeadPower :
    (∃ (s : State) (i : Nat), i < 2 ∧ s.reachable .kiln 0 = true) ∧
    (∃ (s : State) (c : Nat), c < 64 ∧ s.powerOk c = true ∧ s.headOn c = false) ∧
    (∃ (s : State) (c : Nat), c < 64 ∧ s.headOn c = true) ∧
    (∃ (s : State) (c : Nat), c < 64 ∧ ((s.chan c).cut = true ∨ s.powerOk c = false) ∧ s.headOn c = true ∧ (s.scheduleEnded c = true ∨ (s.fenced 1 c = true
      ∧ ∃ x, (s.chan c).firing = some x ∧ x.no + 1 < (s.chan c).reached))) ∧
    (∃ (s : State) (c : Nat), s.scheduleEnded c = false ∧ s.fenced 1 c = false) ∧
    (∃ (s : State) (c : Nat), (s.chan c).cut = true) ∧
    (∃ (s : State) (k : Seal), s.kiln = some k) ∧
    (∃ (s : State), s.kiln = none) :=
  ⟨⟨on0, 1, by decide +kernel⟩,
    ⟨kln, 63, by decide +kernel⟩,
    ⟨on0.set .KILN_HPWR_ON_ON 0x80000000 0 1, 63, by decide +kernel⟩,
    ⟨on0.set .KILN_HPWR_ON_ON 0x80000000 0 1, 63, by decide +kernel⟩,
    ⟨on0.setChan 63
    { firing := some { no := 5, codes := [1], setup := { strobe := 100, gap := 10, dead := 10, conc := 8, smax := 1 }, geom := [], f := 1000, begun := 0 } },
    63, by decide +kernel⟩,
    ⟨on0.setChan 63 { cut := true }, 63, by decide +kernel⟩,
    ⟨{ on0 with kiln := some { payload := [], key := 1, digest := 0 } }, { payload := [], key := 1, digest := 0 }, by decide +kernel⟩,
    ⟨on0, by decide +kernel⟩⟩

theorem wit_EncoderSamples :
    (∃ (s : State) (x : Nat) (sin : Nat) (cos : Nat) (m : Nat), m = amplitude (s.corrected x sin cos).1 (s.corrected x sin cos).2 ∧ s.encUsed x = true) ∧
    (∃ (s : State) (x : Nat) (sin : Nat) (cos : Nat) (m : Nat) (d : Int), m = amplitude (s.corrected x sin cos).1 (s.corrected x sin cos).2 ∧ d = phaseStep
      (s.scale x).phase (phaseOf (s.corrected x sin cos).1 (s.corrected x sin cos).2) ∧ s.encf x 4 2 ≤ m ∧ m ≤ s.encf x 6 2 ∧ s.encUsed x = true ∧
      s.encValid x = true ∧ (s.scale x).seen = true ∧ (s.scale x).fault = 0 ∧ 0 < s.encf x 3 1 ∧ -1024 ≤ d ∧ d ≤ 1024) ∧
    (∃ (s : State) (x : Nat), s.encUsed x = true ∧ s.encValid x = false) ∧
    (∃ (s : State) (x : Nat) (sin : Nat) (cos : Nat) (m : Nat), m = amplitude (s.corrected x sin cos).1 (s.corrected x sin cos).2 ∧ m < s.encf x 4 2 ∧
      s.encUsed x = true ∧ (s.scale x).seen = true ∧ (s.scale x).fault = 0 ∧ (s.scale x).faulted = false ∧ s.encf x 3 1 ≤ (s.scale x).bad + 1 ∧ -1024
      ≤ phaseStep (s.scale x).phase (phaseOf (s.corrected x sin cos).1 (s.corrected x sin cos).2) ∧ phaseStep (s.scale x).phase (phaseOf (s.corrected
      x sin cos).1 (s.corrected x sin cos).2) ≤ 1024) ∧
    (∃ (s : State) (x : Nat), s.encUsed x = true ∧ s.encValid x = true ∧ (s.encf x 0x1E 2 : Int) ≤ (if bit (s.get .ENC_STATUS_DIR) x then (s.scale x).far -
      s.encPos x else s.encPos x - (s.scale x).far)) :=
  ⟨⟨((sec on0 0x0051 0 0x90 [(0x73, 1, 1), (0x74, 2, 0), (0x76, 2, 16383), (0x8C, 2, 4096), (0x8E, 2, 1)]).set .ENC_STATUS_USED 8), 3, 0, 1, _, rfl,
    by decide +kernel⟩,
    ⟨(((sec on0 0x0051 0 0x90 [(0x73, 1, 1), (0x74, 2, 0), (0x76, 2, 16383), (0x8C, 2, 4096), (0x8E, 2, 1)]).set .ENC_STATUS_USED 8).set .ENC_STATUS_VALID
    8).setScale 3 { seen := true }, 3, 0, 1, _, _, rfl, rfl, Nat.le_trans (m := 0) (by decide +kernel) (Nat.zero_le _), Nat.le_trans (m := 16383)
    (show amplitude _ _ ≤ 16383 from Nat.min_le_left _ _) (by decide +kernel), by decide +kernel⟩,
    ⟨((sec on0 0x0051 0 0x90 [(0x73, 1, 1), (0x74, 2, 0), (0x76, 2, 16383), (0x8C, 2, 4096), (0x8E, 2, 1)]).set .ENC_STATUS_USED 8), 3, by decide +kernel⟩,
    ⟨((sec on0 0x0051 0 0x90 [(0x73, 1, 1), (0x74, 2, 5), (0x76, 2, 16383), (0x8C, 2, 4096), (0x8E, 2, 1)]).set .ENC_STATUS_USED 8).setScale 3
    { seen := true }, 3, 0, 0, _, rfl, Nat.lt_of_le_of_lt (Nat.min_le_right _ _) (Nat.lt_of_le_of_lt (Nat.div_le_self _ _) (by decide +kernel)),
    by decide +kernel⟩,
    ⟨((sec on0 0x0051 0 0x90 [(0x73, 1, 1), (0x74, 2, 0), (0x76, 2, 16383), (0x8C, 2, 4096), (0x8E, 2, 0)]).set .ENC_STATUS_USED 8).set .ENC_STATUS_VALID
    8, 3, by decide +kernel⟩⟩

theorem wit_LineEvents :
    (∃ (s : State) (f : Nat), s.is .BAR_STATUS_MEASURE = false ∧ (frameCrcOk f = false ∨ frameType f = 0 ∨ 3 < frameType f)) ∧
    (∃ (s : State) (f : Nat) (k : Nat), s.frameOk 1 f = true ∧ k ≤ 3 ∧ framePayload f = (s.seq.expect + k) % 2 ^ 32) ∧
    (∃ (s : State) (f : Nat), s.frameOk 1 f = true ∧ 3 < (framePayload f + 2 ^ 32 - s.seq.expect % 2 ^ 32) % 2 ^ 32) ∧
    (∃ (s : State) (f : Nat), s.frameOk 3 f = true ∧ 0 < s.seq.expect ∧ framePayload f / 2 ^ 24 = (s.seq.expect - 1) % 256) ∧
    (∃ (s : State) (y : Nat) (r : Nat) (m : Nat) (l : List (Nat × Nat × Nat)), s.clocked = true ∧ s.seq.events = (y, r, m) :: l) ∧
    (∃ (s : State), s.clocked = false) ∧
    (∃ (s : State), s.is .FIRE_STATUS_WITHHELD = true ∧ s.seq.adopted < s.seq.next ∧ s.resyncAt s.seq.next = some s.seq.next) ∧
    (∃ (s : State) (v : Nat), s.reachable .sequencer 0 = true ∧ v < 65536 ∧ v ≤ (s.get .FIRE_TRIG_LAT - 100) * 128) ∧
    (∃ (s : State) (v : Nat), s.reachable .sequencer 0 = true ∧ v < 65536 ∧ (s.get .FIRE_TRIG_LAT - 100) * 128 < v) ∧
    (∃ (s : State) (c : Nat) (v : Nat) (k : Seal), c < 64 ∧ s.reachable .headPort c = true ∧ s.portsRun = true ∧ s.kiln = some k ∧ kilnUses k.payload c =
      true ∧ v < 4096 ∧ kilnCeil k.payload c < v) ∧
    (∃ (s : State) (c : Nat) (v : Nat), c < 64 ∧ s.reachable .headPort c = true ∧ s.portsRun = true ∧ v < 4096 ∧ (∀ k, s.kiln = some k → kilnUses k.payload
      c = true → v ≤ kilnCeil k.payload c)) :=
  ⟨⟨on0, 0, by decide +kernel⟩,
    ⟨{ on0 with seq := { expect := 4294967295 } }, mkFrame 1 2, 3, by decide +kernel⟩,
    ⟨on0, mkFrame 1 4, by decide +kernel⟩,
    ⟨{ on0 with seq := { expect := 256 } }, mkFrame 3 0xFFFFFFFF, by decide +kernel⟩,
    ⟨{ on0 with seq := { events := [(5, 1000, 2)] } }, 5, 1000, 2, [], by decide +kernel⟩,
    ⟨on0.set .PWR_PSTATE_CUR 1, by decide +kernel⟩,
    ⟨{ on0.on .FIRE_STATUS_WITHHELD with pages := [pg 77 0], seq := { next := 100, adopted := 5 } }, by decide +kernel⟩,
    ⟨(blk on0 .sequencer).set .FIRE_TRIG_LAT 101, 128, by decide +kernel⟩,
    ⟨(blk on0 .sequencer).set .FIRE_TRIG_LAT 101, 129, by decide +kernel⟩,
    ⟨blk (kln.set .RST_STRAPS_CLK_MODE 1) .headPort 63, 63, 4001, (kln.kiln.getD { payload := [], key := 1, digest := 0 }), by decide +kernel⟩,
    ⟨blk (kln.set .RST_STRAPS_CLK_MODE 1) .headPort 63, 63, 4000, by decide +kernel⟩⟩

theorem wit_LinesFired :
    (∃ (s : State) (d : Desc) (u : Setup) (h : Nat) (y : Nat), Accepts s d 0x0301 [(0x10, 2), (0x12, 2), (0x14, 2), (0x16, 1), (0x17, 1), (0x18, 8)] ∧ u =
      { strobe := d.p 0x10 2, gap := d.p 0x12 2, dead := d.p 0x14 2, conc := d.p 0x16 1, smax := d.p 0x17 1 } ∧ h = (s.started d 0x0301).1 ∧ y = max
      (d.p 0x18 8) (s.seq.next + 2) ∧ s.commitOk u = true ∧ s.is .FIRE_STATUS_COMMIT_PENDING = false ∧ s.seq.commit = none ∧ s.hasSect 0x0032 = true ∧
      (∀ x ∈ s.sets, x.has 0x0032 0 = true → x.applied.contains (sectKey 0x0032 0) = true)) ∧
    (∃ (s : State) (c : Nat) (y : Nat) (l : Line × Bool), y = s.nextLine c ∧ s.grantLine c y = some l ∧ s.takes c = true ∧ (∀ p ∈ (s.chan c).preps, p.no ≠
      y) ∧ (s.chan c).taken ≤ y ∧ s.fireHeld y = false ∧ s.is .FIRE_STATUS_RUNNING = true) ∧
    (∃ (s : State) (c : Nat) (a : Nat) (y : Nat) (l : Line × Bool), y = (s.firstLine c).1 ∧ a / 128 = s.now ∧ s.grantLine c y = some l ∧ s.takes c = true ∧
      (∀ p ∈ (s.chan c).preps, p.no ≠ y) ∧ s.axStopped = true ∧ s.fireHeld y = false) ∧
    (∃ (s : State) (c : Nat) (a : Nat) (y : Nat) (l : Line × Bool) (p : Prep), a / 128 = s.now ∧ s.firstLine c = (y, none) ∧ s.grantLine c y = some l ∧
      s.takes c = true ∧ (s.chan c).preps.find? (fun p => p.no == y) = some p ∧ p.rest = true ∧ bit (s.get .MOT_STATUS_MOVING) 0 = false ∧ s.bridgeDue
      c y = true ∧ s.fireHeld y = false) ∧
    (∃ (s : State) (c : Nat) (y : Nat) (f : Nat) (l : List (Nat × Nat)) (p : Prep), s.clocked = true ∧ (s.chan c).due = (y, f) :: l ∧ (s.chan
      c).preps.find? (fun p => p.no == y) = some p ∧ s.kiln.isSome = true ∧ p.bad = false ∧ s.fireOk c = true ∧ tooSoon (s.chan c).firing p f = false) ∧
    (∃ (s : State) (c : Nat) (y : Nat) (f : Nat) (l : List (Nat × Nat)), s.clocked = true ∧ (s.chan c).due = (y, f) :: l ∧ (s.chan c).preps.find? (fun p =>
      p.no == y) = none ∧ s.outOfPrint c = false ∧ s.is .FIRE_STATUS_WITHHELD = false) ∧
    (∃ (s : State) (c : Nat) (y : Nat) (f : Nat) (l : List (Nat × Nat)) (p : Prep), s.clocked = true ∧ (s.chan c).due = (y, f) :: l ∧ (s.chan
      c).preps.find? (fun p => p.no == y) = some p ∧ s.kiln = none ∧ p.stock = true) ∧
    (∃ (s : State) (c : Nat) (y : Nat) (f : Nat) (l : List (Nat × Nat)) (p : Prep), s.clocked = true ∧ (s.chan c).due = (y, f) :: l ∧ (s.chan
      c).preps.find? (fun p => p.no == y) = some p ∧ s.kiln.isSome = true ∧ p.bad = false ∧ s.fireOk c = true ∧ tooSoon (s.chan c).firing p f = true) ∧
    (∃ (s : State) (c : Nat) (f : Firing), s.clocked = true ∧ (s.chan c).firing = some f ∧ f.begun < slotsOf f.setup.conc * f.setup.smax ∧ s.fireOk c =
      true ∧ f.nozzles (f.begun / f.setup.smax) (f.begun % f.setup.smax + 1) ≠ []) ∧
    (∃ (s : State) (c : Nat) (f : Firing), s.clocked = true ∧ (s.chan c).firing = some f ∧ f.begun < slotsOf f.setup.conc * f.setup.smax ∧ s.fireOk c =
      false) ∧
    (∃ (s : State), s.clocked = false) :=
  ⟨⟨adm ((sec on0 0x0032 0 64 []).set .FIRE_PMIN_TICKS 1000000), dsc 0x0301 [(0x10, 2, 1600), (0x12, 2, 200), (0x14, 2, 200), (0x16, 1, 8), (0x17, 1, 3),
    (0x18, 8, 7)], _, _, _, accepts_of (by decide +kernel), rfl, rfl, rfl, by decide +kernel⟩,
    ⟨(((sec on0 0x0032 0 64 []).on .FIRE_CH_STATUS_ENABLED 63).on .FIRE_STATUS_RUNNING).setChan 63
    { grant := [{ no := 5, codes := [1] }], reached := 5, taken := 5, due := [(5, 900)] }, 63, _, ({ no := 5, codes := [1] }, true), rfl,
    by decide +kernel⟩,
    ⟨({ ((sec on0 0x0032 0 64 []).on .FIRE_CH_STATUS_ENABLED 63) with seq := { next := 5 } } : State).setChan 63 { grant := [{ no := 5, codes := [1] }] },
    63, 127, _, ({ no := 5, codes := [1] }, true), rfl, by decide +kernel⟩,
    ⟨({ ((sec on0 0x0032 0 64 []).on .FIRE_CH_STATUS_ENABLED 63) with seq := { next := 5 } } : State).setChan 63
    { grant := [{ no := 5, codes := [1] }], apply := true, preps := [{ no := 5, line := [1], codes := [1], setup := { strobe := 100, gap := 10, dead := 10, conc := 8, smax := 1 }, geom := [], stock := true, rest := true, from_ := 0, bad := false, cut := 0, lost := 0, clip := none }] },
    63, 127, 5, ({ no := 5, codes := [1] }, true),
    { no := 5, line := [1], codes := [1], setup := { strobe := 100, gap := 10, dead := 10, conc := 8, smax := 1 }, geom := [], stock := true, rest := true, from_ := 0, bad := false, cut := 0, lost := 0, clip := none },
    by decide +kernel⟩,
    ⟨(kln.set .KILN_HPWR_ON_ON 0x80000000 0 1).setChan 63
    { due := [(5, 100000)], preps := [{ no := 5, line := [1], codes := [1], setup := { strobe := 100, gap := 10, dead := 10, conc := 8, smax := 1 }, geom := [], stock := true, rest := false, from_ := 0, bad := false, cut := 0, lost := 0, clip := none }] },
    63, 5, 100000, [],
    { no := 5, line := [1], codes := [1], setup := { strobe := 100, gap := 10, dead := 10, conc := 8, smax := 1 }, geom := [], stock := true, rest := false, from_ := 0, bad := false, cut := 0, lost := 0, clip := none },
    by decide +kernel⟩,
    ⟨({ on0 with pages := [pg 77 0] } : State).setChan 63 { due := [(100, 5)] }, 63, 100, 5, [], by decide +kernel⟩,
    ⟨on0.setChan 63
    { due := [(5, 100000)], preps := [{ no := 5, line := [1], codes := [1], setup := { strobe := 100, gap := 10, dead := 10, conc := 8, smax := 1 }, geom := [], stock := true, rest := false, from_ := 0, bad := false, cut := 0, lost := 0, clip := none }] },
    63, 5, 100000, [],
    { no := 5, line := [1], codes := [1], setup := { strobe := 100, gap := 10, dead := 10, conc := 8, smax := 1 }, geom := [], stock := true, rest := false, from_ := 0, bad := false, cut := 0, lost := 0, clip := none },
    by decide +kernel⟩,
    ⟨(kln.set .KILN_HPWR_ON_ON 0x80000000 0 1).setChan 63
    { due := [(5, 1001)], preps := [{ no := 5, line := [1], codes := [1], setup := { strobe := 100, gap := 10, dead := 10, conc := 8, smax := 1 }, geom := [], stock := true, rest := false, from_ := 0, bad := false, cut := 0, lost := 0, clip := none }], firing := some { no := 5, codes := [1], setup := { strobe := 100, gap := 10, dead := 10, conc := 8, smax := 1 }, geom := [], f := 1000, begun := 0 } },
    63, 5, 1001, [],
    { no := 5, line := [1], codes := [1], setup := { strobe := 100, gap := 10, dead := 10, conc := 8, smax := 1 }, geom := [], stock := true, rest := false, from_ := 0, bad := false, cut := 0, lost := 0, clip := none },
    by decide +kernel⟩,
    ⟨(kln.set .KILN_HPWR_ON_ON 0x80000000 0 1).setChan 63
    { firing := some { no := 5, codes := [1], setup := { strobe := 100, gap := 10, dead := 10, conc := 8, smax := 1 }, geom := [], f := 1000, begun := 0 } },
    63, { no := 5, codes := [1], setup := { strobe := 100, gap := 10, dead := 10, conc := 8, smax := 1 }, geom := [], f := 1000, begun := 0 },
    by decide +kernel⟩,
    ⟨on0.setChan 63
    { firing := some { no := 5, codes := [1], setup := { strobe := 100, gap := 10, dead := 10, conc := 8, smax := 1 }, geom := [], f := 1000, begun := 3 } },
    63, { no := 5, codes := [1], setup := { strobe := 100, gap := 10, dead := 10, conc := 8, smax := 1 }, geom := [], f := 1000, begun := 3 },
    by decide +kernel⟩,
    ⟨on0.set .PWR_PSTATE_CUR 1, by decide +kernel⟩⟩

theorem wit_SightGlass :
    (∃ (s : State), s.powered 123 = true ∧ s.hasSect 0x0043 0 = true) ∧
    (∃ (s : State) (c : Nat), c < 64 ∧ s.powered 123 = true ∧ s.fenced 9 c = false ∧ 4096 ≤ (s.sense c).sat) ∧
    (∃ (s : State) (c : Nat) (kind : Nat) (point : Nat) (j : Nat) (x : Nat) (stop : Bool), (s.sense c).due = some (kind, point, j, x, stop) ∧ c < 64) ∧
    (∃ (s : State) (e : SgEvent) (l : List SgEvent), s.powered 123 = true ∧ s.hasSect 0x0043 0 = true ∧ s.sgEvents = e :: l) ∧
    (∃ (s : State) (c : Nat), s.powered 123 = true ∧ s.hasSect 0x0043 0 = true ∧ c < 64 ∧ s.sgMode c = 1) ∧
    (∃ (s : State) (c : Nat), s.powered 123 = true ∧ s.hasSect 0x0043 0 = true ∧ c < 64 ∧ s.sgMode c = 0) ∧
    (∃ (s : State) (q : Nat), (s.ts q).armed.isSome = true ∧ (s.ts q).trig = none ∧ s.nowf q 8 4 ≠ 0) ∧
    (∃ (s : State) (q : Nat), (s.ts q).armed.isSome = true) ∧
    (∃ (s : State), s.reachable .sightGlass 0 = true ∧ s.tss.any (fun x => x.2.armed.isSome) = true) ∧
    (∃ (s : State), s.reachable .sightGlass 0 = true) ∧
    (∃ (s : State) (d : Desc) (q : Nat) (h : Nat), Accepts s d 0x0601 [(0x10, 1), (0x12, 2), (0x14, 4), (0x18, 8), (0x20, 4), (0x24, 2), (0x28, 4)] ∧ h =
      (s.startedLong d 0x0601).1 ∧ q = d.p 0x10 1 ∧ q ≤ 3 ∧ 1 ≤ d.p 0x12 2 ∧ d.p 0x12 2 ≤ 4096 ∧ 1 ≤ d.p 0x14 4 ∧ d.p 0x14 4 ≤ 32768 ∧ d.p 0x20 4 ≤
      d.p 0x14 4 ∧ d.p 0x18 8 ≠ 0 ∧ s.sf 0x0043 0 (sgSeq q) 1 ≠ 0 ∧ (∀ c, c < 64 → bit (d.p 0x18 8) c = true → s.fenced 9 c = false ∧ bit (fieldAt
      (s.sgBlock c) 0 1) 0 = true) ∧ (∀ r, r < 4 → (s.ts r).armed = none)) ∧
    (∃ (s : State) (q : Nat) (h : Nat) (x : Nat) (n : Nat) (r : Nat × Nat × Nat), (s.ts q).armed = some h ∧ (s.ts q).trig = some (x, n, r) ∧ q < 4 ∧ max 1
      ((s.ts q).record - (s.ts q).pre) ≤ ((s.ts q).split x).2.length) ∧
    (∃ (s : State) (d : Desc) (q : Nat) (h : Nat) (x : Nat) (w : List (List Nat)), Accepts s d 0x0602 [(0x10, 1), (0x14, 4), (0x18, 4), (0x20, 8)] ∧ h =
      (s.startedLong d 0x0602).1 ∧ q = d.p 0x10 1 ∧ q ≤ 3 ∧ d.p 0x20 8 % 64 = 0 ∧ (s.ts q).ready = some (x, w) ∧ d.p 0x14 4 ≠ 0 ∧ d.p 0x18 4 + d.p
      0x14 4 ≤ (s.ts q).record) ∧
    (∃ (s : State) (g : Nat), s.is .FIRE_STATUS_OWNER = true ∧ g < 16 ∧ s.busQueue.length < 16) ∧
    (∃ (s : State) (g : Nat), s.is .FIRE_STATUS_OWNER = true ∧ g < 16 ∧ 16 ≤ s.busQueue.length) ∧
    (∃ (s : State) (e : Nat × Nat × Nat) (l : List (Nat × Nat × Nat)), s.is .FIRE_STATUS_OWNER = false ∧ s.busFwd = e :: l) ∧
    (∃ (s : State) (f : Nat), s.frameOk 2 f = true ∧ s.powered 123 = true) :=
  ⟨⟨sgl, by decide +kernel⟩,
    ⟨sgl.setSense 63 { sat := 4096 }, 63, by decide +kernel⟩,
    ⟨sgl.setSense 63 { due := some (1, 2, 3, 4) }, 63, 1, 2, 3, 4, false, by decide +kernel⟩,
    ⟨{ sgl.setTs 3 { armed := some 5 } with sgEvents := [{ cond := 10, arg := 3, at_ := 0 }] }, { cond := 10, arg := 3, at_ := 0 }, [], by decide +kernel⟩,
    ⟨sgl, 63, by decide +kernel⟩,
    ⟨sgl.setTs 3 { armed := some 5 }, 0, by decide +kernel⟩,
    ⟨sgl.setTs 3 { armed := some 5, holdTk := true }, 3, by decide +kernel⟩,
    ⟨sgl.setTs 3 { armed := some 5, holdTk := true }, 3, by decide +kernel⟩,
    ⟨sgl.setTs 3 { armed := some 5 }, by decide +kernel⟩,
    ⟨adm sgl, by decide +kernel⟩,
    ⟨adm sgl, dsc 0x0601 [(0x10, 1, 3), (0x12, 2, 4096), (0x14, 4, 32768), (0x18, 8, 0x8000000000000000), (0x20, 4, 32768)], 3, _, accepts_of
    (by decide +kernel), rfl, by decide +kernel⟩,
    ⟨sgl.setTs 3 { armed := some 5, record := 2, pre := 1, mask := 1, trig := some (100, 0, 0, 0, 0), stored := [(0, [1]), (1, [2])] }, 3, 5, 100, 0, (0,
    0, 0), by decide +kernel⟩,
    ⟨adm (sgl.setTs 3 { record := 2, mask := 1, ready := some (100, [[1], [2]]) }), dsc 0x0602 [(0x10, 1, 3), (0x14, 4, 2), (0x20, 8, 64)], 3, _, 100,
    [[1], [2]], accepts_of (by decide +kernel), rfl, by decide +kernel⟩,
    ⟨{ on0.on .FIRE_STATUS_OWNER with busQueue := List.replicate 15 (1, 2, 3) }, 15, by decide +kernel⟩,
    ⟨{ on0.on .FIRE_STATUS_OWNER with busQueue := List.replicate 16 (1, 2, 3) }, 15, by decide +kernel⟩,
    ⟨{ on0 with busFwd := [(1, 2, 3)] }, (1, 2, 3), [], by decide +kernel⟩,
    ⟨sgl.setTs 3 { armed := some 5 }, mkFrame 2 0xF0000007, by decide +kernel⟩⟩

theorem wit_Axes :
    (∃ (s : State) (d : Desc) (a : Nat) (h : Nat) (v : Nat), Accepts s d 0x0401 [(0x10, 1), (0x14, 4), (0x18, 8), (0x20, 4)] ∧ h = (s.startedLong d
      0x0401).1 ∧ a = d.p 0x10 1 ∧ v = d.p 0x20 4 ∧ s.motRange d = true ∧ s.badSpeed a v = false ∧ d.p 0x14 4 ≠ 0 ∧ d.p 0x18 8 ≠ 0 ∧ s.fenced 8 a =
      false ∧ s.moving' a = false ∧ s.limitOn a (decide (0 ≤ toSigned 64 (d.p 0x18 8))) = false ∧ (a = 0 → s.is .MOT_STATUS_OWN = true ∧ s.conflict =
      false ∧ s.is .MOT_STATUS_JOB = false ∧ s.phase = 0)) ∧
    (∃ (s : State) (d : Desc) (a : Nat) (h : Nat) (v : Nat), Accepts s d 0x0402 [(0x10, 1), (0x14, 4), (0x20, 4)] ∧ h = (s.startedLong d 0x0402).1 ∧ a =
      d.p 0x10 1 ∧ v = d.p 0x20 4 ∧ s.motRange d = true ∧ s.badSpeed a v = false ∧ d.p 0x14 4 ≠ 0 ∧ s.fenced 8 a = false ∧ (s.moving' a = true ∨
      s.limitOn a true = false) ∧ (a = 0 → s.is .MOT_STATUS_OWN = true ∧ s.conflict = false)) ∧
    (∃ (s : State) (d : Desc) (a : Nat) (h : Nat) (v : Nat), Accepts s d 0x0402 [(0x10, 1), (0x14, 4), (0x20, 4)] ∧ h = (s.startedLong d 0x0402).1 ∧ a =
      d.p 0x10 1 ∧ v = d.p 0x20 4 ∧ s.motRange d = true ∧ s.badSpeed a v = false ∧ d.p 0x14 4 ≠ 0 ∧ s.fenced 8 a = false ∧ (s.moving' a = true ∨
      s.limitOn a true = false) ∧ (a = 0 → s.is .MOT_STATUS_OWN = true ∧ s.conflict = false)) ∧
    (∃ (s : State) (d : Desc) (a : Nat) (h : Nat), Accepts s d 0x0403 [(0x10, 1), (0x11, 1)] ∧ h = (s.startedLong d 0x0403).1 ∧ a = d.p 0x10 1 ∧ a ≤ 3 ∧
      d.p 0x11 1 ≤ 1 ∧ s.axUsed a = true ∧ s.fenced 8 a = false ∧ (a = 0 → s.is .MOT_STATUS_OWN = true)) ∧
    (∃ (s : State) (a : Nat) (r : Nat), a < 4 ∧ s.moving' a = true ∧ s.atStop a = false ∧ (a = 0 → s.drives = true) ∧ s.get .RST_STRAPS_CLK_MODE ≠ 0 ∧
      Machine.sq r ≤ s.speedAt a 1 ∧ s.speedAt a 1 < Machine.sq (r + 1)) ∧
    (∃ (s : State) (a : Nat), a < 4 ∧ s.moving' a = true ∧ ((s.axis a).mode = 1 ∨ (s.axis a).mode = 3) ∧ s.atStop a = true ∧ (s.axis a).next = none ∧ (a =
      0 → s.is .MOT_STATUS_OWN = true ∧ s.phase ≠ 1)) ∧
    (∃ (s : State), s.is .MOT_STATUS_OWN = false) ∧
    (∃ (s : State) (a : Nat) (h : Nat), (s.axis a).speedOp = some h ∧ ((s.axis a).mode = 1 ∨ (s.axis a).mode = 2) ∧ (s.axis a).changes = [] ∧ (s.axis a).v2
      = Machine.sq (s.axis a).cruise ∧ (a = 0 → s.phase = 0)) ∧
    (∃ (a : Nat), a < 4) ∧
    (∃ (s : State) (a : Nat) (fwd : Bool), a < 4 ∧ s.moving' a = true ∧ s.forward a = fwd ∧ (if fwd then s.mf a 0x2B 1 else s.mf a 0x2A 1) = 1) ∧
    (∃ (s : State) (a : Nat) (fwd : Bool), a < 4 ∧ s.moving' a = true ∧ s.forward a = fwd ∧ (if fwd then s.mf a 0x2B 1 else s.mf a 0x2A 1) = 2) ∧
    (∃ (s : State), s.is .MOT_INPUTS_BREAK = false) ∧
    (∃ (s : State), s.is .MOT_INPUTS_SPLICE = false) ∧
    (∃ (s : State) (n : Nat), s.jobEnds.head? = some n ∧ s.is .MOT_STATUS_OWN = true ∧ s.moving' 0 = true ∧ s.forward 0 = true ∧ s.line.live = true ∧
      (s.axis 0).mode = 2 ∧ s.phase = 0 ∧ s.lastDue n = true) :=
  ⟨⟨adm (mot.set .MOT_STATUS_MOVING 0), dsc 0x0401 [(0x10, 1, 3), (0x14, 4, 2), (0x18, 8, 0xFFFFFFFFFFFFFFFF), (0x20, 4, 500)], 3, _, 500, accepts_of
    (by decide +kernel), rfl, by decide +kernel⟩,
    ⟨adm (mot.setAxis 0 { mode := 2 }), dsc 0x0402 [(0x10, 1, 0), (0x14, 4, 2), (0x20, 4, 500)], 0, _, 500, accepts_of (by decide +kernel), rfl,
    by decide +kernel⟩,
    ⟨adm (mot.setAxis 0 { mode := 2 }), dsc 0x0402 [(0x10, 1, 0), (0x14, 4, 2), (0x20, 4, 500)], 0, _, 500, accepts_of (by decide +kernel), rfl,
    by decide +kernel⟩,
    ⟨adm (mot.setAxis 3 { mode := 2 }), dsc 0x0403 [(0x10, 1, 3), (0x11, 1, 1)], 3, _, accepts_of (by decide +kernel), rfl, by decide +kernel⟩,
    ⟨mot.setAxis 3 { mode := 2, cruise := 1000, v2 := 1000000 }, 3, 1000, by decide +kernel⟩,
    ⟨mot.setAxis 3 { mode := 1, moveOp := some 5, stopAt := some 0 }, 3, by decide +kernel⟩,
    ⟨on0.on .FIRE_STATUS_RUNNING, by decide +kernel⟩,
    ⟨mot.setAxis 3 { mode := 2, cruise := 1000, v2 := 1000000, speedOp := some 5 }, 3, 5, by decide +kernel⟩,
    ⟨3, by decide +kernel⟩,
    ⟨mot.setAxis 3 { mode := 2 }, 3, true, by decide +kernel⟩,
    ⟨{ mot with sects := mot.sects.map (fun x => { x with bytes := x.bytes.set 0x12B 2 }) }, 3, true, by decide +kernel⟩,
    ⟨mot, by decide +kernel⟩,
    ⟨mot, by decide +kernel⟩,
    ⟨({ mot with jobEnds := [1], line := { live := true } } : State).setAxis 0 { mode := 2, cruise := 1000, v2 := 1000000 }, 1, by decide +kernel⟩⟩

theorem wit_BackstepAndFaults :
    (∃ (s : State) (y : Nat), y = s.lineDue ∧ s.mayRaise y = true) ∧
    (∃ (s : State), s.is .FIRE_STATUS_SLAVED = true ∧ 64 ≤ s.seq.within) ∧
    (∃ (s : State) (new : Bool), new = !decide (1 ≤ s.phase ∧ s.phase ≤ 4) ∧ s.is .MOT_STATUS_OWN = true) ∧
    (∃ (s : State) (k : Nat) (y : Nat), s.is .MOT_STATUS_OWN = false ∧ (s.lateDue.contains (k, y) = true ∨ s.role = roleBar ∨ s.role = rolePress)) ∧
    (∃ (s : State), s.is .MOT_STATUS_OWN = true ∧ s.moving' 0 = true ∧ s.forward 0 = true ∧ s.line.due = true ∧ ((s.phase = 0 ∧ ((s.axis 0).mode = 2 ∨
      (s.axis 0).mode = 3 ∧ s.line.turn = true)) ∨ s.phase = 5 ∨ s.phase = 6)) ∧
    (∃ (s : State) (x : ChangeSet) (d : Nat), s.setLines.find? (fun e => (e.2.map Prod.snd) == some 4 && !e.1.allSwitched) = some (x, some (d, 4)) ∧ s.is
      .MOT_STATUS_OWN = true ∧ s.moving' 0 = true ∧ s.forward 0 = true ∧ s.line.live = true ∧ (s.axis 0).mode = 2 ∧ s.phase = 0 ∧ (x.line.isSome =
      true ∨ s.fwAway = false) ∧ s.lastDue d = true ∧ (∀ z ∈ s.sets, z.handle = x.handle → s.kilnClash z = false)) ∧
    (∃ (s : State), s.is .MOT_STATUS_OWN = true ∧ s.phase = 1 ∧ s.atStop 0 = true ∧ s.jobDone = false ∧ s.line.assisted = none) ∧
    (∃ (s : State) (d : Nat), s.is .MOT_STATUS_OWN = true ∧ s.phase = 1 ∧ s.atStop 0 = true ∧ s.jobDone = false ∧ s.line.assisted = some d ∧ s.line.late =
      [] ∧ s.unfired = d ∧ s.axPos 0 < s.lineAt d) ∧
    (∃ (s : State), s.is .MOT_STATUS_OWN = true ∧ s.phase = 1 ∧ s.atStop 0 = true ∧ s.jobDone = true) ∧
    (∃ (s : State), s.is .MOT_STATUS_OWN = true ∧ s.phase = 3 ∧ s.atStop 0 = true ∧ s.revFor s.line.raised = s.axPos 0) ∧
    (∃ (s : State) (o : Bool), s.is .MOT_STATUS_OWN = true ∧ s.phase = 4 ∧ s.runUpOk o = true ∧ s.line.assisted = none ∧ s.limitOn 0 true = false) ∧
    (∃ (s : State) (o : Bool) (d : Nat), s.is .MOT_STATUS_OWN = true ∧ s.phase = 4 ∧ s.runUpOk o = true ∧ s.line.assisted = some d) ∧
    (∃ (s : State) (o : Bool), s.phase = 4 ∧ s.runUpOk o = false) ∧
    (∃ (s : State), s.is .MOT_STATUS_OWN = true ∧ s.phase = 5 ∧ (s.axis 0).v2 = Machine.sq (s.axis 0).cruise ∧ s.axPos 0 = s.lineAt s.line.raised - s.mf 0
      0x28 2 * s.stepsPerLine) ∧
    (∃ (s : State), s.is .MOT_STATUS_OWN = true ∧ s.phase = 6 ∧ s.stepDue s.line.raised = true ∧ s.is .ENC_STATUS_DR = true) ∧
    (∃ (s : State) (v : Int) (want : Int) (slip : Int) (n : Int) (d : Int), n = s.encf 0 8 4 ∧ d = s.encf 0 0xC 4 ∧ v = s.geti .ENC_SPEED_RATE 0 0 ∧ want =
      (s.axis 0).cruise * n ∧ slip = s.slipNow ∧ s.is .MOT_STATUS_OWN = true ∧ s.phase = 6 ∧ s.stepDue s.line.raised = true ∧ s.is .ENC_STATUS_DR =
      false ∧ s.is .FIRE_STATUS_SLAVED = false ∧ 200 * (v * d - want).natAbs ≤ want.natAbs ∧ 4 * (slip * d).natAbs ≤ (s.stepsPerLine * n).natAbs) ∧
    (∃ (s : State), s.is .MOT_STATUS_OWN = true ∧ s.phase = 6 ∧ s.stepDue s.line.raised = true ∧ s.is .ENC_STATUS_DR = false ∧ s.is .FIRE_STATUS_SLAVED =
      true) ∧
    (∃ (s : State) (x : Nat), s.encUsed x = true ∧ (s.scale x).fault ≠ 0) ∧
    (∃ (s : State) (x : Nat), s.encUsed x = true ∧ s.encValid x = false ∧ 4096 ≤ (s.scale x).good) ∧
    (∃ (s : State), s.is .ENC_STATUS_DR = true ∧ s.is .MOT_STATUS_OWN = true ∧ s.line.drOver = false ∧ s.line.drBase + s.encf 0 0x14 4 ≤ s.get
      .ENC_DR_LINES) :=
  ⟨⟨{ (mot.on .FIRE_STATUS_OWNER).setAxis 0 { mode := 2, cruise := 1000, v2 := 1000000 } with line := { y0 := 5, raised := 5, live := true } }, 5,
    by decide +kernel⟩,
    ⟨{ on0.on .FIRE_STATUS_SLAVED with seq := { within := 64 } }, by decide +kernel⟩,
    ⟨{ mot with lateDue := [(7, 100)], pages := [pg 77 0] }, _, rfl, by decide +kernel⟩,
    ⟨{ on0 with lateDue := [(7, 100)] }, 7, 100, by decide +kernel⟩,
    ⟨{ mot.setAxis 0 { mode := 2, cruise := 1000, v2 := 1000000 } with line := { late := [7], due := true, blame := some 3 } }, by decide +kernel⟩,
    ⟨{ (mot.on .MOT_STATUS_JOB).setAxis 0 { mode := 2, cruise := 1000, v2 := 1000000 } with sets := [{ cset [sct 0x0010 0] none 0 with target := 0, deadline := 1, bsOk := true }], line := { live := true } },
    { cset [sct 0x0010 0] none 0 with target := 0, deadline := 1, bsOk := true }, 1, by decide +kernel⟩,
    ⟨(mot.set .MOT_STATUS_BS_PHASE 1).setAxis 0 { mode := 3, stopAt := some 0 }, by decide +kernel⟩,
    ⟨{ (mot.set .MOT_STATUS_BS_PHASE 1).setAxis 0 { mode := 3, stopAt := some 0 } with line := { assisted := some 9, raised := 9 } }, 9,
    by decide +kernel⟩,
    ⟨{ (mot.set .MOT_STATUS_BS_PHASE 1).setAxis 0 { mode := 3, stopAt := some 0 } with jobEnds := [0] }, by decide +kernel⟩,
    ⟨{ (mot.set .MOT_STATUS_BS_PHASE 3).setAxis 0 { mode := 4, stopAt := some 0, stopOps := [5] } with line := { raised := 40 } } |> fun s =>
    { s with line := { s.line with p0 := - s.revFor 40 } }, by decide +kernel⟩,
    ⟨(mot.set .MOT_STATUS_BS_PHASE 4), true, by decide +kernel⟩,
    ⟨{ (mot.set .MOT_STATUS_BS_PHASE 4) with line := { assisted := some 9 } }, true, 9, by decide +kernel⟩,
    ⟨(mot.set .MOT_STATUS_BS_PHASE 4), false, by decide +kernel⟩,
    ⟨{ (mot.set .MOT_STATUS_BS_PHASE 5) with line := { raised := 9, p0 := 14 } }, by decide +kernel⟩,
    ⟨{ ((mot.set .MOT_STATUS_BS_PHASE 6).on .ENC_STATUS_DR) with line := { counted := true, late := [1] } }, by decide +kernel⟩,
    ⟨(mot.set .MOT_STATUS_BS_PHASE 6), _, _, _, _, _, rfl, rfl, rfl, rfl, rfl, by decide +kernel⟩,
    ⟨{ ((mot.set .MOT_STATUS_BS_PHASE 6).on .FIRE_STATUS_SLAVED) with line := { fails := 2 } }, by decide +kernel⟩,
    ⟨(((sec on0 0x0051 0 0x90 [(0x13, 1, 1), (0x24, 4, 7), (0x73, 1, 1), (0x74, 2, 0), (0x76, 2, 16383), (0x8C, 2, 4096), (0x8E, 2, 1)]).set
    .ENC_STATUS_USED 9).set .ENC_STATUS_VALID 9).setScale 3 { fault := 1 }, 3, by decide +kernel⟩,
    ⟨(((sec on0 0x0051 0 0x90 [(0x13, 1, 1), (0x24, 4, 7), (0x73, 1, 1), (0x74, 2, 0), (0x76, 2, 16383), (0x8C, 2, 4096), (0x8E, 2, 1)]).set
    .ENC_STATUS_USED 9).on .ENC_STATUS_DR).setScale 0 { good := 4096 }, 0, by decide +kernel⟩,
    ⟨(mot.on .ENC_STATUS_DR).setAxis 0 { mode := 2 }, by decide +kernel⟩⟩

theorem wit_Cameras :
    (∃ (s : State) (x : Nat) (c : Nat) (w : Nat) (l : List (Nat × Nat)), (s.cam x).planned = (c, w) :: l ∧ s.camOn x = true ∧ ((s.cam x).next = c ∧ c ≠ 0 ∨
      (s.cam x).next = 0 ∧ s.frameOf x c = c) ∧ s.is .ISP_STATUS_PAUSED (s.pipeOf x) = false ∧ (s.cam x).trigs.length < 16) ∧
    (∃ (s : State) (x : Nat) (g : CamTrig) (l : List CamTrig), (s.cam x).trigs = g :: l ∧ s.camOn x = true) ∧
    (∃ (s : State) (x : Nat) (n : Nat), s.camOn x = true ∧ s.axStopped = true ∧ s.is .MOT_STATUS_JOB = false ∧ (s.cam x).trigs = [] ∧ (s.cam x).planned =
      [] ∧ (s.cam x).frames = [] ∧ (s.cam x).closing = n + 1) ∧
    (∃ (s : State) (x : Nat), x < 8 ∧ s.powered (106 + x) = true) ∧
    (∃ (s : State) (x : Nat) (h : Nat), s.camOn x = true ∧ 2 ≤ h) ∧
    (∃ (s : State) (x : Nat) (v : Nat), s.camOn x = true ∧ s.streamOf x v = none) ∧
    (∃ (s : State) (x : Nat) (v : Nat) (d : Nat) (i : Nat), s.camOn x = true ∧ s.streamOf x v = some i ∧ d ≠ 0 ∧ d ≠ 1) ∧
    (∃ (s : State) (x : Nat) (v : Nat) (i : Nat) (g : CamTrig), s.camOn x = true ∧ s.streamOf x v = some i ∧ ((s.cam x).at i).1 = none ∧ (s.cam
      x).trigs.find? (fun t => bit t.left i) = some g) ∧
    (∃ (s : State) (x : Nat) (v : Nat) (i : Nat), s.camOn x = true ∧ s.streamOf x v = some i) ∧
    (∃ (s : State) (x : Nat) (v : Nat) (i : Nat) (f : Nat) (wc : Nat), s.camOn x = true ∧ s.streamOf x v = some i ∧ 8 * wc = s.cf x 6 2 * dtBits (s.camDt
      x) ∧ ((s.cam x).at i).1 = some f) ∧
    (∃ (s : State) (x : Nat) (v : Nat) (i : Nat), s.camOn x = true ∧ s.streamOf x v = some i ∧ ((s.cam x).at i).1 = none) ∧
    (∃ (s : State) (x : Nat) (v : Nat) (d : Nat), s.camOn x = true ∧ (s.streamOf x v = none ∨ d ≠ s.camDt x)) ∧
    (∃ (s : State) (x : Nat) (g : CamFrame) (l : List CamFrame), (s.cam x).frames = g :: l ∧ s.camOn x = true ∧ s.cf x 8 2 ≤ g.sent) ∧
    (∃ (s : State) (i : Nat) (x : Nat), x = s.get .ISP_SHADOW_CTRL_PORT i ∧ i < 4 ∧ s.reachable .isp i = true ∧ x < 8 ∧ s.hasSect 0x0040 x = true ∧
      s.pipeOf x = i ∧ (s.cam x).shadow.isSome = true) :=
  ⟨⟨cam7.setCam 7 { planned := [(4, 9)] }, 7, 4, 9, [], by decide +kernel⟩,
    ⟨cam7.setCam 7 { trigs := [{ line := 5, left := 7 }], frames := [{ no := 4, time := 0 }] }, 7, { line := 5, left := 7 }, [], by decide +kernel⟩,
    ⟨cam7.setCam 7 { closing := 1, next := 5 }, 7, 0, by decide +kernel⟩,
    ⟨on0, 7, by decide +kernel⟩,
    ⟨cam7, 7, 2, by decide +kernel⟩,
    ⟨cam7, 7, 3, by decide +kernel⟩,
    ⟨cam7, 7, 2, 2, 2, by decide +kernel⟩,
    ⟨cam7.setCam 7 { trigs := [{ line := 5, left := 4 }] }, 7, 2, 2, { line := 5, left := 4 }, by decide +kernel⟩,
    ⟨cam7.setCam 7 { cur := [(none, 0), (none, 0), (some 4, 1)] }, 7, 2, 2, by decide +kernel⟩,
    ⟨cam7.setCam 7 { cur := [(none, 0), (none, 0), (some 4, 0)], frames := [{ no := 4, time := 0 }] }, 7, 2, 2, 4, 5, by decide +kernel⟩,
    ⟨cam7, 7, 2, 2, by decide +kernel⟩,
    ⟨cam7, 7, 2, 0x2C, by decide +kernel⟩,
    ⟨cam7.setCam 7 { frames := [{ no := 4, time := 0, stale := true, sent := 2 }] }, 7, { no := 4, time := 0, stale := true, sent := 2 }, [],
    by decide +kernel⟩,
    ⟨((blk cam7 .isp 3).set .ISP_SHADOW_CTRL_PORT 7 3).setCam 7 { shadow := some [] }, 3, _, rfl, by decide +kernel⟩⟩

theorem wit_GravityLoop :
    (∃ (s : State) (c : Nat) (dev : Nat) (port : Nat) (range : Nat), s.blockOn .gravity 0 = true ∧ s.gravSrc c dev port range = false) ∧
    (∃ (s : State) (c : Nat) (dev : Nat) (port : Nat) (range : Nat), s.blockOn .gravity 0 = true ∧ s.gravSrc c dev port range = true ∧ s.gravIdle c = true) ∧
    (∃ (s : State) (c : Nat) (dev : Nat) (port : Nat) (range : Nat), s.blockOn .gravity 0 = true ∧ s.gravSrc c dev port range = true ∧ s.gravIdle c = false) ∧
    (∃ (s : State) (c : Nat) (dev : Nat) (port : Nat) (range : Nat), s.blockOn .gravity 0 = true ∧ s.gravSrc c dev port range = true) ∧
    (∃ (s : State) (c : Nat) (dev : Nat) (port : Nat) (range : Nat) (frame : Nat) (w : GravWork), s.blockOn .gravity 0 = true ∧ s.gravSrc c dev port range
      = true ∧ (s.grav c).work = some w ∧ w.no = frame ∧ s.gravIdle c = false ∧ w.miss = false) ∧
    (∃ (s : State) (c : Nat) (dev : Nat) (port : Nat) (range : Nat) (frame : Nat) (w : GravWork), s.blockOn .gravity 0 = true ∧ s.gravSrc c dev port range
      = true ∧ (s.grav c).work = some w ∧ w.no = frame ∧ (s.gravIdle c = true ∨ w.miss = true)) ∧
    (∃ (s : State) (c : Nat) (n : Nat) (e : Nat), e = (s.gravTable c).getD n 0 ∧ s.blockOn .gravity 0 = true ∧ s.gravOn c = true ∧ s.gravIdle c = false ∧ n
      < s.chNozzles c ∧ entOut e = true ∧ (((s.grav c).nz n).waive = true ∨ ((s.grav c).nz n).outAt + s.gf 0x1C 4 * 2 ^ min (entT e) 8 ≤ s.seq.next) ∧
      entT e < s.gf 3 1 ∧ s.hostOut c n = false) ∧
    (∃ (s : State) (c : Nat), c < 64 ∧ s.reachable .gravity 0 = true ∧ s.gravOn c = true) ∧
    (∃ (s : State) (c : Nat), c < 64 ∧ s.reachable .gravity 0 = true) ∧
    (∃ (s : State) (d : Desc) (h : Nat), Accepts s d 0x0501 [(0x10, 1), (0x11, 1), (0x18, 8), (0x20, 8), (0x28, 4)] ∧ h = (s.startedLong d 0x0501).1 ∧ d.p
      0x10 1 = 0 ∧ 1 ≤ d.p 0x11 1 ∧ d.p 0x11 1 ≤ 100 ∧ d.p 0x20 8 = 0 ∧ d.p 0x28 4 ≠ 0 ∧ d.p 0x18 8 ≠ 0 ∧ s.blockOn .gravity 0 = true ∧ (∀ c, c < 64 →
      bit (d.p 0x18 8) c = true → s.gravOn c = true ∧ s.rebinding c = false)) ∧
    (∃ (s : State) (c : Nat) (r : Rebind), s.rebinds.find? (fun r => bit r.mask c && !bit r.bound c && !r.failed.any (fun f => f.1 == c)) = some r ∧ s.is
      .GRAV_CH_STATUS_LEARN 0 c = true ∧ r.pct * (s.liveList c).length ≤ 100 * ((s.liveList c).filter (fun n => decide ((s.gf 4 4 : Int) ≤ (s.grav
      c).infoOf n))).length) ∧
    (∃ (s : State) (h : Nat) (c : Nat) (r : Rebind), s.rebinds.find? (fun r => r.handle == h) = some r ∧ r.until_ ≤ s.seq.next ∧ (maskList r.mask).filter
      (fun c => !bit r.bound c && !r.failed.any (fun f => f.1 == c)) = [c]) ∧
    (∃ (s : State) (h : Nat) (r : Rebind), s.rebinds.find? (fun r => r.handle == h) = some r ∧ s.seq.next < r.until_) :=
  ⟨⟨grv, 63, 511, 7, 14, by decide +kernel⟩,
    ⟨grv.on .GRAV_STATUS_PAUSED, 63, 511, 7, 15, by decide +kernel⟩,
    ⟨grv, 63, 511, 7, 15, by decide +kernel⟩,
    ⟨grv.setGrav 63 { work := some { no := 4, div := 1, h := [], b := [], miss := false } }, 63, 511, 7, 15, by decide +kernel⟩,
    ⟨grv.setGrav 63 { work := some { no := 4, div := 1, h := [], b := [], miss := false } }, 63, 511, 7, 15, 4,
    { no := 4, div := 1, h := [], b := [], miss := false }, by decide +kernel⟩,
    ⟨grv.setGrav 63 { work := some { no := 4, div := 1, h := [], b := [], miss := true } }, 63, 511, 7, 15, 4,
    { no := 4, div := 1, h := [], b := [], miss := true }, by decide +kernel⟩,
    ⟨{ grv with dram := Memory.wrs [] 0xFC010 (leBytes 4 65536) }, 63, 0, _, rfl, by decide +kernel⟩,
    ⟨{ grv with dram := Memory.wrs [] 0xFC010 (leBytes 4 65536) }, 63, by decide +kernel⟩,
    ⟨grv, 63, by decide +kernel⟩,
    ⟨adm grv, dsc 0x0501 [(0x11, 1, 100), (0x18, 8, 0x8000000000000000), (0x28, 4, 0xFFFFFFFF)], _, accepts_of (by decide +kernel), rfl,
    by decide +kernel⟩,
    ⟨{ grv.on .GRAV_CH_STATUS_LEARN 0 63 with rebinds := [{ handle := 5, mask := 0x8000000000000000, pct := 100, until_ := 9, bound := 0, failed := [] }] },
    63, { handle := 5, mask := 0x8000000000000000, pct := 100, until_ := 9, bound := 0, failed := [] }, by decide +kernel⟩,
    ⟨{ grv.on .GRAV_CH_STATUS_LEARN 0 63 with rebinds := [{ handle := 5, mask := 0x8000000000000000, pct := 100, until_ := 0, bound := 0, failed := [] }] },
    5, 63, { handle := 5, mask := 0x8000000000000000, pct := 100, until_ := 0, bound := 0, failed := [] }, by decide +kernel⟩,
    ⟨{ grv with rebinds := [{ handle := 5, mask := 0x8000000000000000, pct := 100, until_ := 1, bound := 0, failed := [] }] }, 5,
    { handle := 5, mask := 0x8000000000000000, pct := 100, until_ := 1, bound := 0, failed := [] }, by decide +kernel⟩⟩

theorem wit_Hierarchy :
    (∃ (s : State) (i : Nat), s.manages = true ∧ i < 512 ∧ s.fwAway = false ∧ s.dev i = none) ∧
    (∃ (s : State) (i : Nat) (x : Dev), s.manages = true ∧ i < 512 ∧ s.fwAway = false ∧ s.dev i = some x ∧ (s.is .BAR_STATUS_ENUMERATED = true → i ≠
      s.myIndex)) ∧
    (∃ (s : State) (i : Nat), s.manages = true ∧ i < 512 ∧ s.fwAway = true) ∧
    (∃ (s : State) (d : Desc), Accepts s d 0x0701 [(0x10, 1), (0x14, 2), (0x18, 8)] ∧ d.p 0x10 1 < 2 ∧ d.p 0x14 2 ≠ 0 ∧ d.p 0x14 2 ≤ 1024 ∧ d.p 0x18 8 % 64
      = 0 ∧ s.activeManager = true ∧ bit (s.get .MOT_STATUS_MOVING) 0 = false ∧ s.is .MOT_STATUS_JOB = false ∧ s.fwAway = false) ∧
    (∃ (s : State), s.role = roleBar ∧ s.is .BAR_STATUS_ENUMERATED = true ∧ s.activeManager = false ∧ s.fwAway = false) ∧
    (∃ (i : Nat), i < 512) ∧
    (∃ (s : State) (i : Nat) (h : Nat), s.manages = true ∧ s.fwAway = false ∧ i < 512 ∧ h ≤ 7) ∧
    (∃ (s : State) (i : Nat) (h : Nat), s.manages = true ∧ s.fwAway = false ∧ (512 ≤ i ∨ 7 < h)) ∧
    (∃ (s : State) (i : Nat) (h : Nat), s.manages = true ∧ s.fwAway = false ∧ (512 ≤ i ∨ 7 < h)) ∧
    (∃ (s : State) (d : Desc) (n : Nat) (e : Nat → List Byte), Accepts s d 0x0702 [(0x10, 2), (0x12, 1), (0x18, 8)] ∧ (∀ i, i < n → e i = Memory.rds
      s.hostMem (d.p 0x18 8 + 32 * i) 32 ∧ e i = Memory.rds (s.startedLong d 0x0702).2.hostMem (d.p 0x18 8 + 32 * i) 32) ∧ (∀ i j, i < j → j < n →
      fieldAt (e i) 0 2 ≠ fieldAt (e j) 0 2) ∧ n = d.p 0x10 2 ∧ n ≠ 0 ∧ d.p 0x12 1 < 2 ∧ d.p 0x18 8 % 64 = 0 ∧ s.activeManager = true ∧ s.fwAway =
      false ∧ (∀ i, i < n → fieldAt (e i) 0 2 < 512 ∧ fieldAt (e i) 2 2 < 2 ∧ fieldAt (e i) 0x18 4 ≤ fieldAt (e i) 0x1C 4 ∧ fieldAt (e i) 6 2 = 0 ∧
      (fieldAt (e i) 2 2 = 1 → fieldAt (e i) 8 8 = 0))) ∧
    (∃ (s : State) (d : Desc), s.is .BAR_STATUS_ENUMERATED = true ∧ d.p 0x10 2 = s.myIndex ∧ s.activeManager = false ∧ d.p 0x12 1 ≤ 3) ∧
    (∃ (s : State) (d : Desc) (l : List (List Byte)), l = s.bindEntries d ∧ s.role = roleBar ∧ s.is .BAR_STATUS_ENUMERATED = true ∧ s.activeManager = false
      ∧ s.fwAway = false ∧ bindsOk l = true) ∧
    (∃ (s : State) (d : Desc) (x : Dev) (h : Nat), Accepts s d 0x0703 [(0x10, 2), (0x12, 1), (0x18, 8)] ∧ h = (s.startedLong d 0x0703).1 ∧ s.dev (d.p 0x10
      2) = some x ∧ s.is .BAR_STATUS_ENUMERATED = true ∧ d.p 0x12 1 ≤ 3 ∧ d.p 0x18 8 ≠ 0 ∧ s.activeManager = true ∧ s.fwAway = false ∧ (d.p 0x12 1 = 0
      → (if d.p 0x10 2 = s.myIndex then s.get .BAR_UNBOUND_CH else x.unbound) &&& d.p 0x18 8 = 0) ∧ bit x.cause hIMAGE = false ∧ bit x.cause hFW =
      false ∧ bit x.cause hCONFLICT = false ∧ bit x.cause hEXCESS = false) ∧
    (∃ (s : State) (i : Nat) (y : Nat) (a : Nat) (x : Dev), s.manages = true ∧ s.fwAway = false ∧ s.dev i = some x ∧ s.lineStamps.find? (fun e => e.1 == y)
      = some (y, a)) ∧
    (∃ (s : State) (y : Nat), s.manages = true ∧ s.fwAway = false ∧ y + 8192 ≤ s.seq.next ∧ s.backAt ≤ y + 8192) ∧
    (∃ (s : State) (y : Nat) (n : Nat) (p : Page), s.fwAway = false ∧ s.is .BAR_STATUS_ENUMERATED = true ∧ s.pages.find? (fun p => decide (s.seq.next ≤
      p.first)) = some p ∧ p.first = y ∧ p.id = n) ∧
    (∃ (s : State) (y : Nat) (n : Nat) (p : Page), s.fwAway = false ∧ s.is .BAR_STATUS_ENUMERATED = true ∧ s.pages.find? (fun p => decide (s.seq.next ≤
      p.first)) = some p ∧ (p.first ≠ y ∨ p.id ≠ n) ∧ s.is .FIRE_STATUS_WITHHELD = false) :=
  ⟨⟨on0.set .RST_STRAPS_ROLE 1, 511, by decide +kernel⟩,
    ⟨{ on0.set .RST_STRAPS_ROLE 1 with devs := [{ index := 511, role := 3, up := 1, hops := 1, cause := 0, id := 5, composite := 6, fw := 7, comp := 0, unbound := 0 }] },
    511, { index := 511, role := 3, up := 1, hops := 1, cause := 0, id := 5, composite := 6, fw := 7, comp := 0, unbound := 0 }, by decide +kernel⟩,
    ⟨(on0.set .RST_STRAPS_ROLE 1).on .FLS_STATUS_HANDOVER, 511, by decide +kernel⟩,
    ⟨adm (on0.set .RST_STRAPS_ROLE 1), dsc 0x0701 [(0x10, 1, 1), (0x14, 2, 1024), (0x18, 8, 0x4000)], accepts_of (by decide +kernel), by decide +kernel⟩,
    ⟨(on0.set .RST_STRAPS_ROLE 2).on .BAR_STATUS_ENUMERATED, by decide +kernel⟩,
    ⟨511, by decide +kernel⟩,
    ⟨on0.set .RST_STRAPS_ROLE 1, 511, 7, by decide +kernel⟩,
    ⟨on0.set .RST_STRAPS_ROLE 1, 512, 0, by decide +kernel⟩,
    ⟨on0.set .RST_STRAPS_ROLE 1, 0, 8, by decide +kernel⟩,
    ⟨adm
    ({ on0.set .RST_STRAPS_ROLE 1 with hostMem := Memory.wrs (Memory.wrs [] 64 (bytesOf 32 [(0, 2, 511), (0x10, 8, 9), (0x1C, 4, 8)])) 96 (bytesOf 32 [(2, 2, 1), (0x18, 4, 8), (0x1C, 4, 8)]) }),
    dsc 0x0702 [(0x10, 2, 2), (0x12, 1, 1), (0x18, 8, 64)], 2, fun i => Memory.rds (adm
    ({ on0.set .RST_STRAPS_ROLE 1 with hostMem := Memory.wrs (Memory.wrs [] 64 (bytesOf 32 [(0, 2, 511), (0x10, 8, 9), (0x1C, 4, 8)])) 96 (bytesOf 32 [(2, 2, 1), (0x18, 4, 8), (0x1C, 4, 8)]) })).hostMem
    ((dsc 0x0702 [(0x10, 2, 2), (0x12, 1, 1), (0x18, 8, 64)]).p 0x18 8 + 32 * i) 32, accepts_of (by decide +kernel), fun i hi =>
    ⟨rfl, by (obtain rfl | rfl : i = 0 ∨ i = 1 := by omega) <;> decide +kernel⟩, fun i j h1 h2 =>
    by obtain ⟨rfl, rfl⟩ : i = 0 ∧ j = 1 := ⟨by omega, by omega⟩; decide +kernel, by decide +kernel⟩,
    ⟨on0.on .BAR_STATUS_ENUMERATED, dsc 0x0703 [(0x12, 1, 3), (0x18, 8, 0x8000000000000000)], by decide +kernel⟩,
    ⟨{ (on0.set .RST_STRAPS_ROLE 2).on .BAR_STATUS_ENUMERATED with hostMem := Memory.wrs [] 64 (bytesOf 32 [(0, 2, 1), (0x10, 8, 9), (0x1C, 4, 8)]) }, dsc
    0x0702 [(0x10, 2, 1), (0x12, 1, 1), (0x18, 8, 64)], _, rfl, by decide +kernel⟩,
    ⟨adm
    ({ (on0.set .RST_STRAPS_ROLE 1).on .BAR_STATUS_ENUMERATED with devs := [{ index := 0, role := 3, up := 1, hops := 1, cause := 0, id := 5, composite := 6, fw := 7, comp := 0, unbound := 0 }] }),
    dsc 0x0703 [(0x12, 1, 3), (0x18, 8, 0x8000000000000000)],
    { index := 0, role := 3, up := 1, hops := 1, cause := 0, id := 5, composite := 6, fw := 7, comp := 0, unbound := 0 }, _, accepts_of
    (by decide +kernel), rfl, by decide +kernel⟩,
    ⟨{ on0.set .RST_STRAPS_ROLE 1 with devs := [{ index := 511, role := 3, up := 1, hops := 1, cause := 0, id := 5, composite := 6, fw := 7, comp := 0, unbound := 0 }], lineStamps := [(5, 100)] },
    511, 5, 100, { index := 511, role := 3, up := 1, hops := 1, cause := 0, id := 5, composite := 6, fw := 7, comp := 0, unbound := 0 },
    by decide +kernel⟩,
    ⟨{ on0.set .RST_STRAPS_ROLE 1 with devs := [{ index := 511, role := 3, up := 1, hops := 1, cause := 0, id := 5, composite := 6, fw := 7, comp := 0, unbound := 0 }], seq := { next := 8197 } },
    5, by decide +kernel⟩,
    ⟨{ on0.on .BAR_STATUS_ENUMERATED with pages := [pg 2 0], seq := { next := 100 } }, 100, 9, pg 2 0, by decide +kernel⟩,
    ⟨{ on0.on .BAR_STATUS_ENUMERATED with pages := [pg 2 0], seq := { next := 100 } }, 101, 9, pg 2 0, by decide +kernel⟩⟩

theorem wit_ManagerTrio :
    (∃ (s : State) (u : State), u = s.checkReturn ∧ s.member = true) ∧
    (∃ (s : State) (b : List Byte), (b.length ≠ 128 ∨ crc32c (b.take 0x7C) ≠ fieldAt b 0x7C 4 ∨ 3 ≤ fieldAt b 8 1) ∧ s.powered 127 = true ∧ (s.role =
      rolePress ∨ s.role = roleTrio)) ∧
    (∃ (s : State) (b : List Byte), crc32c (b.take 0x7C) = fieldAt b 0x7C 4 ∧ s.powered 127 = true ∧ s.role = rolePress ∧ b.length = 128 ∧ (fieldAt b 8 1 =
      1 ∨ fieldAt b 8 1 = 2) ∧ bit (fieldAt b 9 1) 0 = false) ∧
    (∃ (s : State) (w : Bool), s.member = true ∧ s.is .TRIO_STATUS_ACTIVE = false ∧ s.is .TRIO_STATUS_QUALIFIED = false ∧ s.clkBad = false ∧ (1024 ≤
      s.trio.agree ∨ (w = true ∧ s.axStopped = true ∧ 1000 ≤ s.trio.agree))) ∧
    (∃ (s : State) (w : Bool), s.member = true ∧ s.is .TRIO_STATUS_ACTIVE = false ∧ s.is .TRIO_STATUS_QUALIFIED = false ∧ s.clkBad = false ∧ (1024 ≤
      s.trio.agree ∨ (w = true ∧ s.axStopped = true ∧ 1000 ≤ s.trio.agree))) ∧
    (∃ (s : State), s.member = true ∧ s.is .TRIO_STATUS_ACTIVE = true) ∧
    (∃ (s : State) (p : Nat), s.member = true ∧ p < 3 ∧ p ≠ s.pos ∧ bit (s.get .TRIO_STATUS_MEMBERS) p = true ∧ s.members ≤ 2) ∧
    (∃ (s : State) (c : Nat), s.member = true ∧ s.is .TRIO_STATUS_ACTIVE = false ∧ s.takeoverDue c = true) ∧
    (∃ (s : State) (p : Nat), s.member = true ∧ p < 3 ∧ p ≠ s.pos ∧ s.trio.pulling = false) ∧
    (∃ (s : State) (p : Nat), s.member = true ∧ p < 3 ∧ p ≠ s.pos ∧ s.trio.pulling = true ∧ (∀ q, q < 3 → q ≠ s.pos → q ≠ p → bit s.trio.yields q = true)) ∧
    (∃ (s : State), s.member = true ∧ s.trio.wants = true ∧ s.trio.pulling = false) ∧
    (∃ (s : State) (p : Nat), s.member = true ∧ p < s.pos ∧ s.trio.claiming = true) ∧
    (∃ (s : State), s.trio.claiming = true) ∧
    (∃ (s : State), s.role = rolePress ∧ bit (s.sf 0x0050 0 0 1) 0 = true ∧ s.powered 127 = true ∧ s.powered 124 = true ∧ s.fullImage.isSome = true ∧
      s.conflict = false ∧ s.axStopped = true ∧ s.trio.pulling = false) ∧
    (∃ (s : State) (a : Nat), s.role = roleTrio ∧ (a = 1 ∨ a = 2) ∧ s.trio.t0 = false ∧ s.powered 127 = true ∧ s.powered 124 = true ∧ s.fullImage.isSome =
      true ∧ s.conflict = false ∧ s.axStopped = true ∧ s.trio.pulling = false) ∧
    (∃ (t : Nat), t < 3) ∧
    (∃ (s : State), s.member = true ∧ s.returnOk = true ∧ s.is .TRIO_STATUS_ACTIVE = false ∧ s.pos = 0 ∧ s.is .TRIO_STATUS_QUALIFIED = true ∧ s.is
      .TRIO_CFG_REVERT_EN = true ∧ s.get .TRIO_CFG_REVERT_LINES ≤ s.get .TRIO_AGREE_LINES) ∧
    (∃ (s : State) (y : Nat), y = (if s.axStopped then s.seq.next else s.seq.next + 64) ∧ s.member = true ∧ s.returnOk = true ∧ s.is .TRIO_STATUS_ACTIVE =
      true ∧ s.pos ≠ 0 ∧ s.trio.revert = true ∧ s.trio.handover = none) ∧
    (∃ (s : State) (y : Nat), s.member = true ∧ s.trio.handover = some y ∧ s.phase = 0 ∧ bit (s.get .TRIO_STATUS_MEMBERS) 0 = true ∧ (s.axStopped = true ∨
      s.forward 0 = true ∧ y ≤ s.seq.next) ∧ s.is .TRIO_STATUS_ACTIVE = true) ∧
    (∃ (s : State) (y : Nat), s.member = true ∧ s.trio.handover = some y ∧ s.phase = 0 ∧ bit (s.get .TRIO_STATUS_MEMBERS) 0 = true ∧ (s.axStopped = true ∨
      s.forward 0 = true ∧ y ≤ s.seq.next) ∧ s.is .TRIO_STATUS_ACTIVE = false ∧ s.pos = 0) ∧
    (∃ (s : State) (v : Nat), s.reachable .trio 0 = true ∧ v % 2 ^ 24 = 0) ∧
    (∃ (s : State) (v : Nat), s.reachable .trio 0 = true ∧ v % 2 ^ 24 ≠ 0) :=
  ⟨⟨on0.set .RST_STRAPS_ROLE 1, _, rfl, by decide +kernel⟩,
    ⟨on0.set .RST_STRAPS_ROLE 1, bytesOf 128 [(8, 1, 2), (9, 1, 2), (0x7C, 4, 5)], Or.inr (Or.inl (by rw [crc32c_forced]; decide +kernel)),
    by decide +kernel⟩,
    ⟨on0.set .RST_STRAPS_ROLE 1, bytesOf 128 [(8, 1, 2), (9, 1, 2), (0x7C, 4, 0x52669E95)], (by rw [crc32c_forced]; decide +kernel), by decide +kernel⟩,
    ⟨{ on0.set .RST_STRAPS_ROLE 1 with trio := { agree := 1024 } }, false, by decide +kernel⟩,
    ⟨{ (on0.set .RST_STRAPS_ROLE 0).set .TRIO_STATUS_POS 2 with trio := { agree := 1000 } }, true, by decide +kernel⟩,
    ⟨((on0.set .RST_STRAPS_ROLE 0).set .TRIO_STATUS_POS 2).on .TRIO_STATUS_ACTIVE, by decide +kernel⟩,
    ⟨(on0.set .RST_STRAPS_ROLE 1).set .TRIO_STATUS_MEMBERS 5, 2, by decide +kernel⟩,
    ⟨(((on0.set .RST_STRAPS_ROLE 0).set .TRIO_STATUS_POS 2).on .TRIO_STATUS_QUALIFIED).set .TRIO_STATUS_MEMBERS 6 |> fun s =>
    { s with trio := { missed := 100 } }, 2, by decide +kernel⟩,
    ⟨{ on0.set .RST_STRAPS_ROLE 1 with trio := { yields := 4 } }, 1, by decide +kernel⟩,
    ⟨{ on0.set .RST_STRAPS_ROLE 1 with trio := { yields := 4, pulling := true } }, 1, by decide +kernel⟩,
    ⟨{ (on0.set .RST_STRAPS_ROLE 0).set .TRIO_STATUS_POS 2 with trio := { wants := true } }, by decide +kernel⟩,
    ⟨{ (on0.set .RST_STRAPS_ROLE 0).set .TRIO_STATUS_POS 2 with trio := { claiming := true } }, 0, by decide +kernel⟩,
    ⟨{ (on0.set .RST_STRAPS_ROLE 0).set .TRIO_STATUS_POS 2 with trio := { claiming := true } }, by decide +kernel⟩,
    ⟨{ (mot.set .RST_STRAPS_ROLE 1).set .MOT_STATUS_MOVING 8 with fullImage := some (img true []) }, by decide +kernel⟩,
    ⟨{ ((on0.set .RST_STRAPS_ROLE 0).set .TRIO_STATUS_POS 3) with fullImage := some (img true []) }, 2, by decide +kernel⟩,
    ⟨0, by decide +kernel⟩,
    ⟨(((((on0.set .RST_STRAPS_ROLE 1).set .TRIO_STATUS_MEMBERS 7).on .TRIO_STATUS_QUALIFIED).on .TRIO_CFG_REVERT_EN).set .TRIO_CFG_REVERT_LINES 5).set
    .TRIO_AGREE_LINES 5, by decide +kernel⟩,
    ⟨{ (((on0.set .RST_STRAPS_ROLE 0).set .TRIO_STATUS_POS 2).set .TRIO_STATUS_MEMBERS 7).on .TRIO_STATUS_ACTIVE with trio := { revert := true }, seq := { next := 5 } },
    _, rfl, by decide +kernel⟩,
    ⟨{ (((on0.set .RST_STRAPS_ROLE 0).set .TRIO_STATUS_POS 2).set .TRIO_STATUS_MEMBERS 7).on .TRIO_STATUS_ACTIVE with trio := { handover := some 5 }, seq := { next := 5 } },
    5, by decide +kernel⟩,
    ⟨{ ((on0.set .RST_STRAPS_ROLE 1).set .TRIO_STATUS_MEMBERS 7) with trio := { handover := some 5 }, seq := { next := 5 } }, 5, by decide +kernel⟩,
    ⟨blk on0 .trio, 0x81000000, by decide +kernel⟩,
    ⟨blk on0 .trio, 0x80FFFFFF, by decide +kernel⟩⟩

theorem wit_WortLinks :
    (∃ (s : State) (p : Nat) (l : List LaneTrain), s.wortOn p = true ∧ l.length = 8 ∧ s.get .WL_PORT_STATUS_STATE p = 1 ∧ s.fenced 4 (9 * p + 8) = false) ∧
    (∃ (s : State) (u : State) (p : Nat) (l : List LaneTrain), u = (s.wortLanes p).foldl (fun s k => s.trainLane p k (l.getD k ⟨1, 0, false, 0⟩)) s ∧
      s.wortOn p = true ∧ l.length = 8 ∧ (s.get .WL_PORT_STATUS_STATE p = 1 ∨ s.get .WL_PORT_STATUS_STATE p = 4)) ∧
    (∃ (s : State) (p : Nat) (k : Nat) (g : Nat), g = s.get .WL_LANE_STATUS_STAGE (9 * p + k) ∧ s.wortOn p = true ∧ k < 9 ∧ 1 ≤ g ∧ g ≤ 7 ∧ s.is
      .WL_LANE_STATUS_WAITING (9 * p + k) = false) ∧
    (∃ (s : State) (p : Nat) (r : Nat) (port : Nat) (m : Nat) (n : Nat), n = (s.wport p).own &&& m ∧ s.wortOn p = true ∧ port < 4 ∧ r < 4 ∧ s.get
      .WL_PORT_STATUS_STATE p = 1 ∧ s.is .WL_PORT_STATUS_REVERSED p = false ∧ (s.wport p).own < 256 ∧ n ≠ 0) ∧
    (∃ (s : State) (p : Nat) (r : Nat) (port : Nat) (m : Nat) (n : Nat), n = (s.wport p).own &&& m ∧ s.wortOn p = true ∧ port < 4 ∧ r < 4 ∧ s.get
      .WL_PORT_STATUS_STATE p = 1 ∧ s.is .WL_PORT_STATUS_REVERSED p = false ∧ (s.wport p).own < 256 ∧ n ≠ 0) ∧
    (∃ (s : State) (p : Nat), s.wortUp p = true ∧ (s.wport p).waiting = []) ∧
    (∃ (s : State) (p : Nat), s.wortUp p = true ∧ (s.wport p).waiting = []) ∧
    (∃ (s : State) (p : Nat) (n : Nat) (l : List Flit), l = (flitsAfter (s.wport p).replay (n % 4096)).map (fun f => { f with replays := f.replays + 1 }) ∧
      s.wortUp p = true ∧ (s.wport p).waiting = [] ∧ (∀ f ∈ l, f.replays < s.wf p 0xB 1)) ∧
    (∃ (s : State) (p : Nat), s.wortUp p = true ∧ s.is .WL_PORT_STATUS_REVERSED p = false) ∧
    (∃ (s : State) (p : Nat) (m : Nat) (n : Nat), n = laneMask ((s.wortLanes p).filter (fun k => bit m k && s.get .WL_LANE_STATUS_STAGE (9 * p + k) == 8))
      ∧ s.wortUp p = true ∧ (s.wport p).width = some m ∧ n ≠ 0) ∧
    (∃ (s : State) (p : Nat), s.wortUp p = true) ∧
    (∃ (s : State) (p : Nat) (y : Nat), s.wortOn p = true ∧ y < 256 ∧ controlTypes.contains y = false) ∧
    (∃ (s : State) (p : Nat) (b : List Byte) (w : List (List Nat)), crc32c (b.take 252) = fieldAt b 0xFC 4 ∧ s.wortUp p = true ∧ b.length = 256 ∧ fieldAt b
      1 2 % 4096 = (s.wport p).rxNext ∧ (∀ c ∈ w, (rsDecode c).isSome = true)) ∧
    (∃ (s : State) (p : Nat) (b : List Byte) (w : List (List Nat)) (c : List Nat), s.wortUp p = true ∧ b.length = 256 ∧ c ∈ w ∧ rsDecode c = none ∧
      (s.wport p).naked = false) ∧
    (∃ (s : State) (p : Nat) (b : List Byte) (w : List (List Nat)) (c : List Nat), s.wortUp p = true ∧ b.length = 256 ∧ c ∈ w ∧ rsDecode c = none ∧
      (s.wport p).naked = true) ∧
    (∃ (v : Nat), v < 2 ^ 64) ∧
    (∃ (s : State) (p : Nat), s.wortOn p = true) ∧
    (∃ (s : State) (p : Nat) (a : Nat) (n : Nat) (g : Nat), s.wortOn p = true ∧ n ≠ 0 ∧ a % 64 = 0 ∧ n % 64 = 0 ∧ n ≤ 4096 ∧ (∀ r ∈ (s.wport p).reads,
      r.tag ≠ g % 2 ^ 32)) ∧
    (∃ (s : State) (p : Nat) (g : Nat) (o : Nat) (r : StoreRead) (b : List Byte), s.wortUp p = true ∧ (s.wport p).reads.find? (fun r => r.tag == g) = some
      r ∧ o + b.length ≤ r.len) ∧
    (∃ (s : State) (i : Nat) (c : Nat) (u : Nat), s.wortOn (i / 9) = true ∧ i % 9 < 8 ∧ s.is .WL_LANE_STATUS_ACTIVE i = true ∧ u < s.wf (i / 9) 8 2 ∧ c ≤
      s.wf (i / 9) 4 4) ∧
    (∃ (s : State) (i : Nat), s.wortOn (i / 9) = true ∧ i % 9 < 8 ∧ s.is .WL_LANE_STATUS_ACTIVE i = true) ∧
    (∃ (s : State) (i : Nat) (g : Nat) (x : LaneTrain), g = s.get .WL_LANE_STATUS_STAGE i ∧ s.wortOn (i / 9) = true ∧ s.wortUp (i / 9) = true ∧ i % 9 < 8 ∧
      i < 36 ∧ 2 ≤ g ∧ g ≤ 6 ∧ s.laneHour i + 1 ≤ s.wf (i / 9) 0xA 1 ∧ s.is .WL_PORT_STATUS_REVERSED (i / 9) = false ∧ x.number = i % 9 ∧ x.fail = 0 ∧
      s.wf (i / 9) 3 1 ≤ x.width ∧ s.fenced 4 i = false ∧ s.is .WL_LANE_STATUS_WAITING i = false) ∧
    (∃ (s : State) (p : Nat) (n : Nat), s.wortUp p = true ∧ s.wortOn p = true ∧ popcount 8 (s.get .WL_PORT_STATUS_ACTIVE p) < 2 * n) ∧
    (∃ (s : State) (i : Nat) (w : Nat), s.wortOn (i / 9) = true ∧ i % 9 < 8 ∧ s.is .WL_LANE_STATUS_ACTIVE i = true ∧ s.wf (i / 9) 3 1 ≤ w) ∧
    (∃ (s : State) (p : Nat), s.reachable .wortPort p = true ∧ s.wortOn p = true) ∧
    (∃ (s : State) (i : Nat), s.reachable .wortLane i = true ∧ i % 9 < 8) ∧
    (∃ (s : State) (i : Nat), s.reachable .wortLane i = true ∧ i % 9 = 8) :=
  ⟨⟨(on0.set .WL_PORT_STATUS_STATE 1 3), 3, List.replicate 8 ⟨1, 0, false, 0⟩, by decide +kernel⟩,
    ⟨(on0.set .WL_PORT_STATUS_STATE 4 3), _, 3, List.replicate 8 ⟨1, 0, false, 0⟩, rfl, by decide +kernel⟩,
    ⟨on0.set .WL_LANE_STATUS_STAGE 7 35, 3, 8, _, rfl, by decide +kernel⟩,
    ⟨(on0.set .WL_PORT_STATUS_STATE 1 3).setWport 3 { own := 0x0F }, 3, 3, 3, 0xFF, _, rfl, by decide +kernel⟩,
    ⟨(on0.set .WL_PORT_STATUS_STATE 1 3).setWport 3 { own := 0xFF }, 3, 0, 0, 0xFF, _, rfl, by decide +kernel⟩,
    ⟨(on0.set .WL_PORT_STATUS_STATE 2 3), 3, by decide +kernel⟩,
    ⟨(on0.set .WL_PORT_STATUS_STATE 3 3).setWport 3 { replay := [{ seq := 4095, vc := 3, bytes := [], replays := 0 }] }, 3, by decide +kernel⟩,
    ⟨(on0.set .WL_PORT_STATUS_STATE 2 3).setWport 3 { replay := [{ seq := 4095, vc := 3, bytes := [], replays := 6 }] }, 3, 4094, _, rfl,
    by decide +kernel⟩,
    ⟨(on0.set .WL_PORT_STATUS_STATE 2 3), 3, by decide +kernel⟩,
    ⟨(on0.set .WL_PORT_STATUS_STATE 2 3).setWport 3 { width := some 0x80 } |>.set .WL_LANE_STATUS_STAGE 8 34, 3, 0x80, _, rfl, by decide +kernel⟩,
    ⟨(on0.set .WL_PORT_STATUS_STATE 3 3), 3, by decide +kernel⟩,
    ⟨on0, 3, 255, by decide +kernel⟩,
    ⟨(on0.set .WL_PORT_STATUS_STATE 2 3).setWport 3 { rxNext := 4095 }, 3, bytesOf 256 [(1, 2, 4095), (0xFC, 4, 0x2A9ABC93)], [],
    (by rw [crc32c_forced]; decide +kernel), by decide +kernel⟩,
    ⟨(on0.set .WL_PORT_STATUS_STATE 2 3), 3, List.replicate 256 0, [[]], [], by decide +kernel⟩,
    ⟨(on0.set .WL_PORT_STATUS_STATE 2 3).setWport 3 { naked := true }, 3, List.replicate 256 0, [[]], [], by decide +kernel⟩,
    ⟨0, by decide +kernel⟩,
    ⟨on0, 3, by decide +kernel⟩,
    ⟨on0, 3, 0xFFFFFFFFFFFFFFC0, 4096, 0xFFFFFFFF, by decide +kernel⟩,
    ⟨(on0.set .WL_PORT_STATUS_STATE 2 3).setWport 3 { reads := [{ tag := 5, addr := 64, len := 2, got := 0 }] }, 3, 5, 0,
    { tag := 5, addr := 64, len := 2, got := 0 }, [7, 8], by decide +kernel⟩,
    ⟨(on0.on .WL_LANE_STATUS_ACTIVE 34), 34, 0, 0, by decide +kernel⟩,
    ⟨(on0.on .WL_LANE_STATUS_ACTIVE 34), 34, by decide +kernel⟩,
    ⟨(on0.set .WL_PORT_STATUS_STATE 2 3).set .WL_LANE_STATUS_STAGE 6 34, 34, _, ⟨0, 16, false, 7⟩, rfl, by decide +kernel⟩,
    ⟨(on0.set .WL_PORT_STATUS_STATE 3 3).set .WL_PORT_STATUS_ACTIVE 0x80 3, 3, 1, by decide +kernel⟩,
    ⟨(on0.on .WL_LANE_STATUS_ACTIVE 34), 34, 16, by decide +kernel⟩,
    ⟨on0, 0, by decide +kernel⟩,
    ⟨blk on0 .wortLane 34, 34, by decide +kernel⟩,
    ⟨blk on0 .wortLane 35, 35, by decide +kernel⟩⟩

theorem wit_DramControllers :
    (∃ (s : State) (d : Desc) (h : Nat), Accepts s d 0x0006 [(0x10, 1), (0x18, 8), (0x20, 8), (0x28, 4)] ∧ h = (s.startedLong d 0x0006).1 ∧ d.p 0x10 1 = 1
      ∧ d.p 0x28 4 ≠ 0 ∧ d.p 0x20 8 + d.p 0x28 4 ≤ s.dmap.size) ∧
    (∃ (s : State) (d : Desc) (h : Nat), Accepts s d 0x0006 [(0x10, 1), (0x18, 8), (0x20, 8), (0x28, 4)] ∧ h = (s.startedLong d 0x0006).1 ∧ d.p 0x10 1 = 0
      ∧ d.p 0x28 4 ≠ 0 ∧ d.p 0x20 8 + d.p 0x28 4 ≤ s.dmap.size ∧ (burstsOf (d.p 0x20 8) (d.p 0x28 4)).find? s.dramBad = none) ∧
    (∃ (s : State) (a : Nat) (n : Nat), s.powered 131 = true ∧ s.powered 126 = true ∧ a + n ≤ 64 * 2 ^ 30 ∧ s.dramOk (s.get .QM_BAR4_BASE_BASE + a) n =
      false) ∧
    (∃ (s : State) (a : Nat) (n : Nat), s.powered 131 = true ∧ s.powered 126 = true ∧ a + n ≤ 64 * 2 ^ 30 ∧ s.dramOk (s.get .QM_BAR4_BASE_BASE + a) n =
      true) ∧
    (∃ (s : State) (a : Nat) (b : List Byte), s.powered 131 = true ∧ s.powered 126 = true ∧ a + b.length ≤ 64 * 2 ^ 30 ∧ s.dramOk (s.get .QM_BAR4_BASE_BASE
      + a) b.length = true) ∧
    (∃ (s : State) (a : Nat) (b : List Byte), s.powered 131 = true ∧ s.powered 126 = true ∧ a + b.length ≤ 64 * 2 ^ 30 ∧ s.dramOk (s.get .QM_BAR4_BASE_BASE
      + a) b.length = false) ∧
    (∃ (s : State) (i : Nat), i < 6 ∧ s.get .DDR_STATUS_STATE i = 1) ∧
    (∃ (s : State) (i : Nat) (j : Nat) (x : Dimm), i < 6 ∧ s.get .DDR_STATUS_STATE i = 1 ∧ j < 6 ∧ j ≠ i ∧ s.get .DDR_STATUS_STATE j = 1 ∧ Dimm.ok x = true) ∧
    (∃ (s : State) (i : Nat) (g : Nat), i < 6 ∧ g < 256 ∧ s.ddrServes i = true) ∧
    (∃ (s : State) (i : Nat) (g : Nat), i < 6 ∧ g < 256 ∧ s.ddrServes i = true) ∧
    (∃ (s : State) (i : Nat), i < 6 ∧ s.ddrServes i = true ∧ s.fenced 6 i = false) ∧
    (∃ (s : State) (i : Nat), i < 6 ∧ s.get .DDR_STATUS_STATE i = 3) ∧
    (∃ (s : State) (i : Nat) (n : Nat) (same : Bool), i < 6 ∧ s.ddrServes i = true ∧ s.is .DDR_STATUS_REPLAYING i = false ∧ n = (if same then (s.ddr
      i).alerts + 1 else 1) ∧ n < 4) ∧
    (∃ (s : State) (i : Nat), i < 6 ∧ s.ddrServes i = true ∧ s.is .DDR_STATUS_REPLAYING i = false ∧ 3 ≤ (s.ddr i).alerts ∧ s.fenced 6 i = false) ∧
    (∃ (s : State) (i : Nat), i < 6 ∧ s.is .DDR_STATUS_REPLAYING i = true) ∧
    (∃ (s : State) (i : Nat), i < 6 ∧ (s.ddr i).asleep = true ∧ s.is .PWR_PSTATE_BUSY = true ∧ s.get .PWR_PSTATE_REQ ≠ 2 ∧ bit (s.get .PWR_REQ_ON 0 3) (4 +
      i) = true ∧ s.rehomed = none) ∧
    (∃ (s : State) (i : Nat), i < 6 ∧ (s.ddr i).asleep = true ∧ s.is .PWR_PSTATE_BUSY = true ∧ s.get .PWR_PSTATE_REQ ≠ 2 ∧ bit (s.get .PWR_REQ_ON 0 3) (4 +
      i) = true ∧ s.fenced 6 i = false) ∧
    (∃ (s : State) (i : Nat) (n : Nat), n = (if s.get .DDR_GEOM_GIB i * 2 ^ 30 ≤ (s.ddr i).spg + 64 then 0 else (s.ddr i).spg + 64) ∧ i < 6 ∧ s.is
      .SPG_CTRL_EN i = true ∧ (s.get .DDR_STATUS_STATE i = 2 ∨ s.get .DDR_STATUS_STATE i = 5) ∧ s.is .DDR_STATUS_REPLAYING i = false) ∧
    (∃ (s : State) (i : Nat) (n : Nat), n = (if s.get .DDR_GEOM_GIB i * 2 ^ 30 ≤ (s.ddr i).spg + 64 then 0 else (s.ddr i).spg + 64) ∧ i < 6 ∧ s.is
      .SPG_CTRL_EN i = true ∧ (s.get .DDR_STATUS_STATE i = 2 ∨ s.get .DDR_STATUS_STATE i = 5) ∧ s.is .DDR_STATUS_REPLAYING i = false) ∧
    (∃ (s : State) (i : Nat), i < 6 ∧ s.reachable .sparge i = true) ∧
    (∃ (s : State) (i : Nat), i < 6 ∧ s.reachable .sparge i = true) ∧
    (∃ (m : DMap) (k : Nat), k < m.list.length ∧ 0 < m.grain) :=
  ⟨⟨adm dr2, dsc 0x0006 [(0x10, 1, 1), (0x18, 8, 64), (0x20, 8, 0x7FFFFFFFC), (0x28, 4, 4)], _, accepts_of (by decide +kernel), rfl, by decide +kernel⟩,
    ⟨adm dr2, dsc 0x0006 [(0x18, 8, 64), (0x20, 8, 0x7FFFFFFFC), (0x28, 4, 4)], _, accepts_of (by decide +kernel), rfl, by decide +kernel⟩,
    ⟨on0, 0xFFFFFFFFF, 1, by decide +kernel⟩,
    ⟨dr2, 0x7FFFFFFFF, 1, by decide +kernel⟩,
    ⟨dr2, 0x7FFFFFFFF, [0xAB], by decide +kernel⟩,
    ⟨dr2, 0x800000000, [0xAB], by decide +kernel⟩,
    ⟨on0.set .DDR_STATUS_STATE 1 5, 5, by decide +kernel⟩,
    ⟨(on0.set .DDR_STATUS_STATE 1 5).set .DDR_STATUS_STATE 1 4, 5, 4,
    { gib := 128, x8 := true, density := 2, ranks := 2, rowBits := 17, supported := true }, by decide +kernel⟩,
    ⟨dr2, 1, 255, by decide +kernel⟩,
    ⟨dr2, 1, 95, by decide +kernel⟩,
    ⟨dr2, 1, by decide +kernel⟩,
    ⟨dr2.set .DDR_STATUS_STATE 3 1, 1, by decide +kernel⟩,
    ⟨dr2.setDdr 1 { up := true, alerts := 2 }, 1, 3, true, by decide +kernel⟩,
    ⟨dr2.setDdr 1 { up := true, alerts := 3 }, 1, by decide +kernel⟩,
    ⟨(dr2.setDdr 1 { up := true, crc := true }).on .DDR_STATUS_REPLAYING 1, 1, by decide +kernel⟩,
    ⟨((dr2.setDdr 1 { up := true, geom := [16], asleep := true }).set .DDR_STATUS_STATE 6 1).on .PWR_PSTATE_BUSY |>.set .PWR_REQ_ON 0xFFFFFFFF 0 3, 1,
    by decide +kernel⟩,
    ⟨((dr2.setDdr 1 { up := true, geom := [16], asleep := true }).set .DDR_STATUS_STATE 6 1).on .PWR_PSTATE_BUSY |>.set .PWR_REQ_ON 0xFFFFFFFF 0 3, 1,
    by decide +kernel⟩,
    ⟨(dr2.setDdr 1 { up := true, spg := 0x3FFFFFFC0 }).on .SPG_CTRL_EN 1, 1, _, rfl, by decide +kernel⟩,
    ⟨dr2.on .SPG_CTRL_EN 1, 1, _, rfl, by decide +kernel⟩,
    ⟨blk on0 .sparge 5, 5, by decide +kernel⟩,
    ⟨blk on0 .sparge 5, 5, by decide +kernel⟩,
    ⟨{ grain := 4096, list := [0, 5], mirror := 0, spare := 0, cap := 0 }, 1, by decide +kernel⟩⟩

theorem wit_CaskRecords :
    (∃ (s : State) (u : State) (d : Desc) (a : Nat) (n : Nat) (o : Nat) (h : Nat), Accepts s d 0x0901 [(0x10, 1), (0x14, 4), (0x18, 4), (0x20, 8)] ∧ a =
      d.p 0x10 1 ∧ n = d.p 0x14 4 ∧ o = d.p 0x18 4 ∧ h = (s.startedLong d 0x0901).1 ∧ u = (s.startedLong d 0x0901).2 ∧ a ≤ 1 ∧ n % 256 = 0 ∧ n ≠ 0 ∧ o
      % 256 = 0 ∧ o + n ≤ s.caskBase a ∧ d.p 0x20 8 % 64 = 0 ∧ s.window a = false) ∧
    (∃ (s : State) (u : State) (d : Desc) (a : Nat) (n : Nat) (o : Nat) (h : Nat), Accepts s d 0x0902 [(0x10, 1), (0x14, 4), (0x18, 4)] ∧ a = d.p 0x10 1 ∧
      n = d.p 0x14 4 ∧ o = d.p 0x18 4 ∧ h = (s.startedLong d 0x0902).1 ∧ u = (s.startedLong d 0x0902).2 ∧ a ≤ 1 ∧ n ≠ 0 ∧ 65536 * (o + n) ≤ s.caskBase
      a ∧ s.window a = false) ∧
    (∃ (s : State) (kind : Nat) (a : Nat) (k : Nat) (x : List Byte), s.is .FLS_STATUS_READY = true ∧ s.fwAway = false ∧ 2 ≤ kind ∧ kind ≤ 6 ∧ (s.get
      .CASK_STATUS_STATE = 1 ∨ s.get .CASK_STATUS_STATE = 3) ∧ s.caskArray = some a ∧ s.caskPlace a (up64 (32 + x.length)) = some k) ∧
    (∃ (s : State) (kind : Nat), s.is .FLS_STATUS_READY = true ∧ s.fwAway = false ∧ 2 ≤ kind ∧ kind ≤ 6 ∧ (s.get .CASK_STATUS_STATE = 1 ∨ s.get
      .CASK_STATUS_STATE = 3) ∧ s.caskArray = none ∧ s.arrayUsed 0 = true) ∧
    (∃ (s : State) (a : Nat) (k : Nat), s.fwAway = false ∧ s.caskArray = some a ∧ (s.caskFree a).length < 48 ∧ k < 256 ∧ s.sectorErased a k = false ∧
      s.eraseCount a k < 2 ^ 32 ∧ (∀ r ∈ s.cask, r.array = a → r.sector = k → s.caskKeep r = false) ∧ (∀ j, j < 256 → j ≠ k → s.sectorErased a j =
      false → s.eraseCount a k < s.eraseCount a j ∨ ∃ r ∈ s.cask, r.array = a ∧ r.sector = j ∧ s.caskKeep r = true)) :=
  ⟨⟨adm on0, _, dsc 0x0901 [(0x10, 1, 1), (0x14, 4, 256), (0x18, 4, 0x2FFFF00), (0x20, 8, 64)], _, _, _, _, accepts_of (by decide +kernel), rfl, rfl,
    rfl, rfl, rfl, by decide +kernel⟩,
    ⟨adm on0, _, dsc 0x0902 [(0x10, 1, 1), (0x14, 4, 1), (0x18, 4, 0x2FF)], _, _, _, _, accepts_of (by decide +kernel), rfl, rfl, rfl, rfl, rfl,
    by decide +kernel⟩,
    ⟨(on0.on .FLS_STATUS_READY).set .CASK_STATUS_STATE 3, 6, 1, 0, [1], by decide +kernel⟩,
    ⟨(((on0.on .FLS_STATUS_READY).set .CASK_STATUS_STATE 1).on .FLS_XIP_FLA_EN).on .FLS_XIP_FLB_EN, 2, by decide +kernel⟩,
    ⟨{ on0 with cask := (List.range 209).map (fun j => rec1 j 2 0 (300 - j) []), erases := (List.range 208).map (fun j => (256 + j, 1)) }, 1, 208,
    by decide +kernel⟩⟩

theorem wit_Firmware :
    (∃ (s : State), s.is .RST_STATUS_DONE = true ∧ s.powered 130 = true ∧ s.is .FLS_STATUS_READY = false ∧ s.get .RST_STRAPS_BOOT_SRC = 1) ∧
    (∃ (s : State) (r : CaskRec), s.is .RST_STATUS_DONE = true ∧ s.powered 130 = true ∧ s.is .FLS_STATUS_READY = false ∧ 2 ≤ s.get .RST_STRAPS_BOOT_SRC ∧
      s.bootPointer = some r ∧ s.ptrState = 1 ∧ s.get .FLS_BOOT_TRIES < 2) ∧
    (∃ (s : State) (r : CaskRec), s.is .RST_STATUS_DONE = true ∧ s.powered 130 = true ∧ s.is .FLS_STATUS_READY = false ∧ 2 ≤ s.get .RST_STRAPS_BOOT_SRC ∧
      s.bootPointer = some r ∧ s.ptrState = 1 ∧ 2 ≤ s.get .FLS_BOOT_TRIES) ∧
    (∃ (s : State) (p : Nat) (mash : Bool), p < 4 ∧ s.wortUp p = true ∧ s.is .RST_STATUS_DONE = true ∧ s.powered 130 = true ∧ s.is .FLS_STATUS_READY =
      false ∧ s.get .RST_STRAPS_BOOT_SRC = 0 ∧ s.is .FLS_BOOT_WAIT_HOST = false ∧ (s.fw.wortFrom = none ∨ s.fw.wortFrom = some p) ∧ mash =
      s.fw.wortDone ∧ (∃ i, i < 6 ∧ s.ddrAlive i = true)) ∧
    (∃ (s : State), s.is .FLS_STATUS_READY = true ∧ s.fw.settings = false ∧ s.frontFree = true ∧ s.arrayUsed 0 = false ∧ s.arrayUsed 1 = false ∧
      s.fullImage = none) ∧
    (∃ (s : State) (fault : Nat), s.is .FLS_STATUS_READY = true ∧ s.fw.settings = false ∧ s.frontFree = true ∧ s.arrayUsed 0 = true ∧ (fault = 2 ∨ fault =
      3)) ∧
    (∃ (s : State), s.is .FLS_STATUS_READY = true ∧ s.fw.settings = true ∧ s.onTrial = true ∧ s.get .FLS_BOOT_CAUSE = 0 ∧ s.fullImage.isSome = true) ∧
    (∃ (s : State), s.is .FLS_STATUS_READY = true ∧ s.fw.settings = true ∧ s.onTrial = true ∧ s.get .FLS_BOOT_CAUSE ≠ 0 ∧ ¬ (s.get .FLS_BOOT_CAUSE = 4 ∧
      s.fewDdr = true)) ∧
    (∃ (s : State), s.fwAway = false ∧ s.get .CASK_STATUS_STATE = 2 ∧ s.caskArray.isSome = true) ∧
    (∃ (s : State) (u : State) (d : Desc) (h : Nat), Accepts s d 0x0903 [(0x10, 1)] ∧ h = (s.startedLong d 0x0903).1 ∧ u = (((s.startedLong d
      0x0903).2.caskDrop (fun r => r.kind != 1 && decide (r.schema < s.get .CASK_SCHEMA_CUR))).set .CASK_SCHEMA_PINNED 0).set .CASK_STATUS_STATE 1 ∧
      d.p 0x10 1 = 0 ∧ s.get .CASK_STATUS_STATE = 3 ∧ s.fwAway = false) ∧
    (∃ (s : State) (d : Desc), Accepts s d 0x0903 [(0x10, 1)] ∧ d.p 0x10 1 = 0 ∧ s.get .CASK_STATUS_STATE = 3 ∧ s.fwAway = true) ∧
    (∃ (s : State) (d : Desc), Accepts s d 0x0903 [(0x10, 1)] ∧ s.fwAway = false ∧ d.p 0x10 1 = 1 ∧ 1 ≤ s.get .FLS_BOOT_CAUSE ∧ s.get .FLS_BOOT_CAUSE ≤ 3 ∧
      s.fullImage = none ∧ s.frontFree = true ∧ s.is .FLS_STATUS_READY = true) ∧
    (∃ (s : State), s.reachable .flash 0 = true) ∧
    (∃ (s : State), s.reachable .flash 0 = true) ∧
    (∃ (s : State) (ms : Nat) (own : Nat) (fault : Nat) (l : List Nat) (x : Handover), s.fw.hand = some x ∧ s.fwDue = [] ∧ ms ≤ 200 ∧ ((s.arrayUsed 0 =
      false ∧ s.arrayUsed 1 = false) ∨ ((s.settingsOf own l).1 ≠ 0 ∧ fault ≠ 2 ∧ fault ≠ 3))) ∧
    (∃ (s : State) (ms : Nat) (own : Nat) (fault : Nat) (l : List Nat) (x : Handover), s.fw.hand = some x ∧ s.fwDue = [] ∧ ms ≤ 200 ∧ ((s.arrayUsed 0 =
      false ∧ s.arrayUsed 1 = false) ∨ ((s.settingsOf own l).1 ≠ 0 ∧ fault ≠ 2 ∧ fault ≠ 3))) ∧
    (∃ (s : State) (ms : Nat) (own : Nat) (fault : Nat) (l : List Nat) (x : Handover), s.fw.hand = some x ∧ ms ≤ 200 ∧ (s.arrayUsed 0 = true ∨ s.arrayUsed
      1 = true) ∧ ((s.settingsOf own l).1 = 0 ∨ fault = 2 ∨ fault = 3)) ∧
    (∃ (s : State), s.manages = true ∧ s.fwAway = false) ∧
    (∃ (s : State) (x : Handover), s.fw.hand = some x) ∧
    (∃ (s : State) (x : Handover), s.fw.hand = some x ∧ s.fwDue = []) :=
  ⟨⟨on0.set .RST_STRAPS_BOOT_SRC 1, by decide +kernel⟩,
    ⟨{ (on0.set .RST_STRAPS_BOOT_SRC 3).set .FLS_BOOT_TRIES 1 with cask := [rec1 0 1 0 1 [1, 0, 1]] }, rec1 0 1 0 1 [1, 0, 1], by decide +kernel⟩,
    ⟨{ (on0.set .RST_STRAPS_BOOT_SRC 3).set .FLS_BOOT_TRIES 2 with cask := [rec1 0 1 0 1 [1, 0, 1]] }, rec1 0 1 0 1 [1, 0, 1], by decide +kernel⟩,
    ⟨(dr2.set .WL_PORT_STATUS_STATE 2 3).set .RST_STRAPS_BOOT_SRC 0, 3, false, by decide +kernel⟩,
    ⟨{ (on0.on .FLS_STATUS_READY) with flash := [] }, by decide +kernel⟩,
    ⟨(on0.on .FLS_STATUS_READY), 3, by decide +kernel⟩,
    ⟨{ ((on0.on .FLS_STATUS_READY).set .FLS_BOOT_STATE 1) with fw := { settings := true, booted := true }, fullImage := some (img true []) },
    by decide +kernel⟩,
    ⟨{ ((on0.on .FLS_STATUS_READY).set .FLS_BOOT_STATE 1).set .FLS_BOOT_CAUSE 3 with fw := { settings := true, booted := true } }, by decide +kernel⟩,
    ⟨on0.set .CASK_STATUS_STATE 2, by decide +kernel⟩,
    ⟨adm ({ (on0.set .CASK_STATUS_STATE 3).set .CASK_SCHEMA_CUR 2 with cask := [rec1 0 2 1 1 [], rec1 0 2 2 2 []] }), _, dsc 0x0903 [], _, accepts_of
    (by decide +kernel), rfl, rfl, by decide +kernel⟩,
    ⟨adm ((on0.set .CASK_STATUS_STATE 3).on .FLS_STATUS_HANDOVER), dsc 0x0903 [], accepts_of (by decide +kernel), by decide +kernel⟩,
    ⟨adm ((on0.on .FLS_STATUS_READY).set .FLS_BOOT_CAUSE 3), dsc 0x0903 [(0x10, 1, 1)], accepts_of (by decide +kernel), by decide +kernel⟩,
    ⟨blk on0 .flash, by decide +kernel⟩,
    ⟨blk on0 .flash, by decide +kernel⟩,
    ⟨{ on0 with fw := { hand := some { handle := 0x01000000, image := [], src := 1, setBoot := true, old := 0 } }, flash := [] }, 200, 5, 0, [],
    { handle := 0x01000000, image := [], src := 1, setBoot := true, old := 0 }, by decide +kernel⟩,
    ⟨{ on0 with fw := { hand := some { handle := 0x01000000, image := [], src := 1, setBoot := true, old := 0 } }, cask := [rec1 0 2 5 1 []] }, 200, 5, 0,
    [], { handle := 0x01000000, image := [], src := 1, setBoot := true, old := 0 }, by decide +kernel⟩,
    ⟨{ on0 with fw := { hand := some { handle := 0x01000000, image := [], src := 1, setBoot := true, old := 0 } } }, 0, 0, 0, [],
    { handle := 0x01000000, image := [], src := 1, setBoot := true, old := 0 }, by decide +kernel⟩,
    ⟨{ on0.set .RST_STRAPS_ROLE 1 with devs := [{ index := 511, role := 3, up := 1, hops := 1, cause := 0, id := 5, composite := 6, fw := 7, comp := 0, unbound := 0 }] },
    by decide +kernel⟩,
    ⟨{ on0 with fw := { hand := some { handle := 0x01000000, image := [], src := 1, setBoot := true, old := 0 } } },
    { handle := 0x01000000, image := [], src := 1, setBoot := true, old := 0 }, by decide +kernel⟩,
    ⟨{ on0 with fw := { hand := some { handle := 0x01000000, image := [], src := 1, setBoot := true, old := 0 } } },
    { handle := 0x01000000, image := [], src := 1, setBoot := true, old := 0 }, by decide +kernel⟩⟩

/-- Where every signature verifies (Config.ecdsaOk is a free value). -/
theorem wit_Firmware_signed (hv : ∀ k d g, Config.ecdsaOk k d g = true) :
    (∃ (s : State) (a : Nat), s.fwOk (s.arrayFw a) = true ∧ s.is .RST_STATUS_DONE = true ∧ s.powered 130 = true ∧ s.is .FLS_STATUS_READY = false ∧ 2 ≤
      s.get .RST_STRAPS_BOOT_SRC ∧ s.bootPointer = none ∧ a = 3 - s.get .RST_STRAPS_BOOT_SRC) ∧
    (∃ (s : State) (n : Nat) (len : Nat), s.fwOk (Memory.rds s.dram 0 n) = true ∧ s.reachable .flash 0 = true ∧ s.hostLoadOpen = true ∧ n = s.get
      .FLS_HOSTLOAD_FW_LEN ∧ n ≤ fwMax ∧ n ≠ 0 ∧ len ≠ 0 ∧ len ≤ 0x10000000 ∧ s.dramOk 0 n = true ∧ s.dramPoisoned 0 n = false ∧ s.dramOk 0x10000000
      len = true ∧ s.dramPoisoned 0x10000000 len = false) ∧
    (∃ (s : State) (d : Desc) (a : Nat) (h : Nat) (b : List Byte), Accepts s d 0x0904 [(0x10, 1), (0x11, 1), (0x12, 1), (0x14, 4), (0x18, 8)] ∧ h =
      (s.startedLong d 0x0904).1 ∧ b = s.flashRd a 0x1000 (d.p 0x14 4) ∧ s.fwOk b = true ∧ d.p 0x10 1 = 0 ∧ a = d.p 0x11 1 ∧ a ≤ 1 ∧ d.p 0x12 1 ≤ 1 ∧
      d.p 0x14 4 ≠ 0 ∧ d.p 0x14 4 ≤ fwMax ∧ d.p 0x18 8 = 0 ∧ s.fw.hand = none ∧ s.get .MASH_STATUS_STATE ≠ 4 ∧ s.arrayUsed a = true ∧ s.fwBand
      (fwVersion b) = true) :=
  ⟨⟨(on0.set .RST_STRAPS_BOOT_SRC 3).setArray 0 fwArr, 0,
    (by rw [fwArr_fw]; unfold State.fwOk State.signedOk State.certOk; simp only [hv]; decide +kernel), by decide +kernel⟩,
    ⟨blk ({ (dr2.on .FLS_BOOT_WAIT_HOST).set .FLS_HOSTLOAD_FW_LEN 576 with dram := Memory.wrs [] 0 fwImg }) .flash, 576, 64,
    (by dsimp only [blk]; rw [rds_fw]; unfold State.fwOk State.signedOk State.certOk; simp only [hv]; decide +kernel), by decide +kernel⟩,
    ⟨(adm on0).setArray 1 fwArr, dsc 0x0904 [(0x11, 1, 1), (0x12, 1, 1), (0x14, 4, 576)], 1, _, fwImg, accepts_of (by decide +kernel), rfl,
    (by rw [show (dsc 0x0904 [(0x11, 1, 1), (0x12, 1, 1), (0x14, 4, 576)]).p 0x14 4 = 576 from by decide +kernel, fwArr_all]),
    (by unfold State.fwOk State.signedOk State.certOk; simp only [hv]; decide +kernel), by decide +kernel⟩⟩

theorem wit_BackgroundWork :
    (∃ (s : State) (c : Nat), c < 64 ∧ s.powered c = true ∧ s.uses .headPort c = true ∧ s.fenced 1 c = false) ∧
    (∃ (s : State) (c : Nat), c < 64 ∧ s.powered c = true ∧ s.uses .headPort c = true ∧ s.fenced 1 c = false) ∧
    (∃ (s : State) (c : Nat), c < 64 ∧ s.powered 123 = true ∧ s.uses .sightGlass 0 = true ∧ s.fenced 9 c = false) ∧
    (∃ (s : State) (c : Nat), c < 64 ∧ s.powered 123 = true ∧ s.uses .sightGlass 0 = true ∧ s.fenced 9 c = false) ∧
    (∃ (s : State) (i : Nat), i < 6 ∧ s.ddrServes i = true) ∧
    (∃ (s : State) (i : Nat), i < 40 ∧ s.powered 130 = true) ∧
    (∃ (s : State) (x : Nat) (i : Nat), i = s.pipeOf x ∧ x < 8 ∧ s.powered (114 + i) = true ∧ s.hasSect 0x0041 i = true ∧ s.hasSect 0x0040 x = true ∧
      s.fenced 7 x = false ∧ bit (s.get .ISP_RECAL_PORT i) x = true ∧ s.get .ISP_SHADOW_CTRL_PORT i = x) ∧
    (∃ (s : State) (c : Nat) (id : Nat) (l : List (List (Bool × Bool))), c < 64 ∧ s.powered c = true ∧ s.is .FIRE_CH_STATUS_ENABLED c = true ∧ idOf l =
      some id ∧ id ≠ 0 ∧ s.headSeen c = true ∧ (look {} s.heads c).id = id) ∧
    (∃ (s : State) (c : Nat) (id : Nat) (l : List (List (Bool × Bool))), c < 64 ∧ s.powered c = true ∧ s.is .FIRE_CH_STATUS_ENABLED c = true ∧ idOf l =
      some id ∧ (look {} s.heads c).id ≠ id ∧ (s.chan c).headId ≠ 0) ∧
    (∃ (l : List (List (Bool × Bool))), idOf l = none) ∧
    (∃ (l : List (List (Bool × Bool))), l.length = 3 ∧ (∀ r ∈ l, idOk r = none)) ∧
    (∃ (s : State), s.is .FLS_STATUS_READY = true ∧ s.fwAway = false ∧ s.get .CASK_STATUS_STATE ≠ 0 ∧ s.get .CASK_STATUS_STATE ≠ 4) ∧
    (∃ (s : State), s.is .FLS_STATUS_READY = true ∧ s.fwAway = true) ∧
    (∃ (s : State) (u : State) (d : Desc) (c : Nat) (n : Nat) (h : Nat), Accepts s d 0x0302 [(0x10, 1), (0x11, 1), (0x12, 2), (0x14, 2), (0x18, 8)] ∧ c =
      d.p 0x10 1 ∧ n = d.p 0x14 2 ∧ h = (s.startedLong d 0x0302).1 ∧ u = (s.startedLong d 0x0302).2 ∧ c < 64 ∧ n ≠ 0 ∧ d.p 0x18 8 % 64 = 0 ∧ (d.p 0x11
      1 = 0 ∧ d.p 0x12 2 + n ≤ s.chNozzles c ∨ d.p 0x11 1 = 1 ∧ d.p 0x12 2 = 0 ∧ n = 1)) ∧
    (∃ (s : State) (u : State) (d : Desc) (c : Nat) (n : Nat) (h : Nat), Accepts s d 0x0302 [(0x10, 1), (0x11, 1), (0x12, 2), (0x14, 2), (0x18, 8)] ∧ c =
      d.p 0x10 1 ∧ n = d.p 0x14 2 ∧ h = (s.startedLong d 0x0302).1 ∧ u = (s.startedLong d 0x0302).2 ∧ c < 64 ∧ n ≠ 0 ∧ d.p 0x18 8 % 64 = 0 ∧ (d.p 0x11
      1 = 0 ∧ d.p 0x12 2 + n ≤ s.chNozzles c ∨ d.p 0x11 1 = 1 ∧ d.p 0x12 2 = 0 ∧ n = 1)) ∧
    (∃ (s : State) (i : Nat) (v : Nat), s.powered 130 = true ∧ i < 40 ∧ -16384 ≤ toSigned 16 v ∧ toSigned 16 v < 16384) ∧
    (∃ (s : State) (i : Nat) (a : Nat) (b : Nat), s.powered 130 = true ∧ i < 32 ∧ s.supplies.find? (fun e => e.1 == i) = some (i, a, b)) ∧
    (∃ (s : State) (i : Nat), s.powered 130 = true ∧ i < 32 ∧ s.supplies.find? (fun e => e.1 == i) = none) ∧
    (∃ (s : State), s.powered 130 = true ∧ s.snaps.length ≤ 256) ∧
    (∃ (s : State), s.powered 130 = true ∧ s.snaps.length ≤ 256) ∧
    (∃ (s : State) (u : State) (d : Desc) (n : Nat) (h : Nat), Accepts s d 0x0803 [(0x10, 1), (0x14, 4), (0x18, 8)] ∧ n = d.p 0x14 4 ∧ h = (s.startedLong d
      0x0803).1 ∧ u = (s.startedLong d 0x0803).2 ∧ d.p 0x10 1 ≤ 1 ∧ n ≠ 0 ∧ d.p 0x18 8 % 64 = 0) ∧
    (∃ (s : State) (u : State) (d : Desc) (n : Nat) (h : Nat), Accepts s d 0x0803 [(0x10, 1), (0x14, 4), (0x18, 8)] ∧ n = d.p 0x14 4 ∧ h = (s.startedLong d
      0x0803).1 ∧ u = (s.startedLong d 0x0803).2 ∧ d.p 0x10 1 ≤ 1 ∧ n ≠ 0 ∧ d.p 0x18 8 % 64 = 0) :=
  ⟨⟨blk on0 .headPort 63, 63, by decide +kernel⟩,
    ⟨blk on0 .headPort 63, 63, by decide +kernel⟩,
    ⟨blk on0 .sightGlass, 63, by decide +kernel⟩,
    ⟨blk on0 .sightGlass, 63, by decide +kernel⟩,
    ⟨dr2, 1, by decide +kernel⟩,
    ⟨on0, 39, by decide +kernel⟩,
    ⟨(sec (sec on0 0x0041 3 64 []) 0x0040 7 64 [(3, 1, 3)]).set .ISP_RECAL_PORT 255 3 |>.set .ISP_SHADOW_CTRL_PORT 7 3, 7, _, rfl, by decide +kernel⟩,
    ⟨hdc (leNat hid), 63, leNat hid, [[], cells (leNat hid)], by decide +kernel⟩,
    ⟨(hdc 5).setChan 63 { headId := 5 }, 63, leNat hid, [[], [], cells (leNat hid)], by decide +kernel⟩,
    ⟨[[], []], by decide +kernel⟩,
    ⟨[[], [(true, true)], cells 0], by decide +kernel⟩,
    ⟨(on0.on .FLS_STATUS_READY).set .CASK_STATUS_STATE 1, by decide +kernel⟩,
    ⟨(on0.on .FLS_STATUS_READY).on .FLS_STATUS_HANDOVER, by decide +kernel⟩,
    ⟨adm (sec (hdc 5) 0x0030 63 64 [(0, 2, 4)]), _, dsc 0x0302 [(0x10, 1, 63), (0x12, 2, 3), (0x14, 2, 1), (0x18, 8, 64)], _, _, _, accepts_of
    (by decide +kernel), rfl, rfl, rfl, rfl, by decide +kernel⟩,
    ⟨adm (sec (hdc 5) 0x0030 63 64 [(0, 2, 4)]), _, dsc 0x0302 [(0x10, 1, 63), (0x11, 1, 1), (0x14, 2, 1), (0x18, 8, 64)], _, _, _, accepts_of
    (by decide +kernel), rfl, rfl, rfl, rfl, by decide +kernel⟩,
    ⟨{ on0 with supplies := [(31, 5, 9)] }, 31, 0xFFFF, by decide +kernel⟩,
    ⟨{ on0 with supplies := [(31, 5, 9)] }, 31, 5, 9, by decide +kernel⟩,
    ⟨on0, 31, by decide +kernel⟩,
    ⟨on0, by decide +kernel⟩,
    ⟨{ on0 with snaps := List.replicate 256 [] }, by decide +kernel⟩,
    ⟨adm ({ on0 with snaps := [[1], [2]] }), _, dsc 0x0803 [(0x14, 4, 1), (0x18, 8, 64)], _, _, accepts_of (by decide +kernel), rfl, rfl, rfl,
    by decide +kernel⟩,
    ⟨adm on0, _, dsc 0x0803 [(0x10, 1, 1), (0x14, 4, 0xFFFFFFFF), (0x18, 8, 64)], _, _, accepts_of (by decide +kernel), rfl, rfl, rfl, by decide +kernel⟩⟩

theorem wit_Fences :
    (∃ (s : State) (u : State) (d : Desc) (k : Nat) (i : Nat) (h : Nat), Accepts s d 0x0801 [(0x10, 1), (0x11, 1)] ∧ k = d.p 0x10 1 ∧ i = d.p 0x11 1 ∧ h =
      (s.started d 0x0801).1 ∧ u = (s.started d 0x0801).2.fenceUnit k i ∧ k ≠ 6 ∧ s.fenceRange d = true ∧ s.fenced k i = false) ∧
    (∃ (s : State) (u : State) (d : Desc) (k : Nat) (i : Nat) (h : Nat), Accepts s d 0x0801 [(0x10, 1), (0x11, 1)] ∧ k = d.p 0x10 1 ∧ i = d.p 0x11 1 ∧ h =
      (s.started d 0x0801).1 ∧ u = (s.started d 0x0801).2.fenceUnit k i ∧ k ≠ 6 ∧ s.fenceRange d = true ∧ s.fenced k i = false) ∧
    (∃ (s : State) (d : Desc) (k : Nat) (i : Nat), Accepts s d 0x0801 [(0x10, 1), (0x11, 1)] ∧ k = d.p 0x10 1 ∧ i = d.p 0x11 1 ∧ k ≠ 6 ∧ s.fenceRange d =
      true ∧ s.fenced k i = true) ∧
    (∃ (s : State) (u : State) (d : Desc) (i : Nat) (h : Nat), Accepts s d 0x0801 [(0x10, 1), (0x11, 1)] ∧ i = d.p 0x11 1 ∧ h = (s.started d 0x0801).1 ∧ u
      = (((s.started d 0x0801).2.set .DDR_STATUS_STATE ddrEvac i).set .SPG_STATUS_PASS_PCT 0 i).setDdr i
      { s.ddr i with evac := some s.now, spg := 0, copied := 0, healed := [] } ∧ d.p 0x10 1 = 6 ∧ s.fenceRange d = true ∧ s.evacOk i = true ∧ s.get
      .DDR_STATUS_STATE i ≠ ddrEvac ∧ s.fenced 6 i = false) ∧
    (∃ (s : State) (d : Desc) (i : Nat), Accepts s d 0x0801 [(0x10, 1), (0x11, 1)] ∧ i = d.p 0x11 1 ∧ d.p 0x10 1 = 6 ∧ s.fenceRange d = true ∧ s.fenced 6 i
      = true ∧ (s.evacOk i = true ∨ 0 < s.dmap.spare ∧ s.rehomed.all (· == i) = true)) ∧
    (∃ (s : State) (u : State) (d : Desc) (k : Nat) (i : Nat) (h : Nat), Accepts s d 0x0802 [(0x10, 1), (0x11, 1)] ∧ k = d.p 0x10 1 ∧ i = d.p 0x11 1 ∧ h =
      (s.startedLong d 0x0802).1 ∧ u = (s.startedLong d 0x0802).2 ∧ k ≠ 6 ∧ s.fenceRange d = true ∧ s.fenced k i = true ∧ s.fencePowered k i = true ∧
      (k = 1 → s.twoDown = false)) ∧
    (∃ (s : State) (d : Desc) (k : Nat) (i : Nat) (h : Nat) (ok : Bool), Accepts s d 0x0802 [(0x10, 1), (0x11, 1)] ∧ k = d.p 0x10 1 ∧ i = d.p 0x11 1 ∧ h =
      (s.startedLong d 0x0802).1 ∧ k ≠ 6 ∧ s.fenceRange d = true ∧ s.fenced k i = true ∧ s.fencePowered k i = true ∧ (ok = false ∨ k = 1 ∧ s.twoDown =
      true)) ∧
    (∃ (s : State) (k : Nat) (i : Nat), i < 64 ∧ s.fenced k i = false) ∧
    (∃ (s : State) (k : Nat) (i : Nat), s.fenced k i = true) :=
  ⟨⟨adm (blk on0 .tun 63), _, dsc 0x0801 [(0x10, 1, 2), (0x11, 1, 63)], _, _, _, accepts_of (by decide +kernel), rfl, rfl, rfl, rfl, by decide +kernel⟩,
    ⟨adm (blk on0 .sightGlass), _, dsc 0x0801 [(0x10, 1, 9), (0x11, 1, 63)], _, _, _, accepts_of (by decide +kernel), rfl, rfl, rfl, rfl,
    by decide +kernel⟩,
    ⟨adm ((blk on0 .tun 63).recordFence 2 63 1), dsc 0x0801 [(0x10, 1, 2), (0x11, 1, 63)], _, _, accepts_of (by decide +kernel), rfl, rfl,
    by decide +kernel⟩,
    ⟨adm (sec dr2 0x0012 0 64 [(0, 4, 4096), (4, 1, 2), (6, 1, 1), (0x10, 8, 0x200000000)]), _, dsc 0x0801 [(0x10, 1, 6), (0x11, 1, 1)], _, _, accepts_of
    (by decide +kernel), rfl, rfl, rfl, by decide +kernel⟩,
    ⟨adm ((sec dr2 0x0012 0 64 [(0, 4, 4096), (4, 1, 2), (6, 1, 1), (0x10, 8, 0x200000000)]).recordFence 6 1 1), dsc 0x0801 [(0x10, 1, 6), (0x11, 1, 1)],
    _, accepts_of (by decide +kernel), rfl, by decide +kernel⟩,
    ⟨adm ((blk on0 .tun 63).recordFence 2 63 1), _, dsc 0x0802 [(0x10, 1, 2), (0x11, 1, 63)], _, _, _, accepts_of (by decide +kernel), rfl, rfl, rfl, rfl,
    by decide +kernel⟩,
    ⟨adm ((blk on0 .tun 63).recordFence 2 63 1), dsc 0x0802 [(0x10, 1, 2), (0x11, 1, 63)], _, _, _, false, accepts_of (by decide +kernel), rfl, rfl, rfl,
    by decide +kernel⟩,
    ⟨on0, 9, 63, by decide +kernel⟩,
    ⟨on0.recordFence 9 63 7, 9, 63, by decide +kernel⟩⟩

theorem wit_Viewport :
    (∃ (s : State), s.reachable .viewport 0 = true ∧ s.vpErr ≠ 0) ∧
    (∃ (s : State), s.reachable .viewport 0 = true ∧ s.vpErr = 0) ∧
    (∃ (s : State), s.powered 128 = true ∧ s.is .VP_STATUS_PENDING = true ∧ (s.vp.cfg.en = false ∨ s.vpVideo = true ∧ s.vp.line = s.vp.cfg.vact ∧
      s.vp.porch = 0 ∧ s.vp.late = false)) ∧
    (∃ (s : State), s.powered 128 = true ∧ s.is .VP_STATUS_PENDING = true ∧ (s.vp.cfg.en = false ∨ s.vpVideo = true ∧ s.vp.line = s.vp.cfg.vact ∧
      s.vp.porch = 0 ∧ s.vp.late = false)) ∧
    (∃ (s : State), s.reachable .viewport 0 = true ∧ (s.is .VP_CMD_CTRL_BUSY = true ∨ s.get .VP_CMD_CTRL_DT ∉ [0x05, 0x15, 0x39, 0x29] ∨ 16 < s.get
      .VP_CMD_CTRL_LEN)) ∧
    (∃ (s : State), s.reachable .viewport 0 = true ∧ (s.is .VP_CMD_CTRL_BUSY = true ∨ s.get .VP_CMD_CTRL_DT ∉ [0x05, 0x15, 0x39, 0x29] ∨ 16 < s.get
      .VP_CMD_CTRL_LEN)) ∧
    (∃ (s : State) (b : List Byte), b = ((List.range 4).flatMap (fun w => leBytes 4 (s.get .VP_CMD_DATA_BYTES 0 w))).take (s.get .VP_CMD_CTRL_LEN) ∧
      s.reachable .viewport 0 = true ∧ s.is .VP_CMD_CTRL_BUSY = false ∧ s.get .VP_CMD_CTRL_DT ∈ [0x05, 0x15, 0x39, 0x29] ∧ s.get .VP_CMD_CTRL_LEN ≤ 16) ∧
    (∃ (s : State) (b : List Byte), b = ((List.range 4).flatMap (fun w => leBytes 4 (s.get .VP_CMD_DATA_BYTES 0 w))).take (s.get .VP_CMD_CTRL_LEN) ∧
      s.reachable .viewport 0 = true ∧ s.is .VP_CMD_CTRL_BUSY = false ∧ s.get .VP_CMD_CTRL_DT ∈ [0x05, 0x15, 0x39, 0x29] ∧ s.get .VP_CMD_CTRL_LEN ≤ 16) ∧
    (∃ (s : State) (k : Nat), s.powered 128 = true ∧ s.vpVideo = true ∧ k = s.vp.line ∧ k + 1 < s.vp.cfg.vact ∧ (s.vpPixels k).2 = false ∧ s.vp.black =
      false) ∧
    (∃ (s : State) (k : Nat), s.powered 128 = true ∧ s.vpVideo = true ∧ k = s.vp.line ∧ k + 1 < s.vp.cfg.vact ∧ (s.vpPixels k).2 = true ∧ s.vp.black =
      false) ∧
    (∃ (s : State), s.powered 128 = true ∧ s.vpVideo = true ∧ s.vp.cfg.vact < s.vp.line ∧ s.vp.line < s.vp.cfg.vact + s.vp.cfg.vrest) ∧
    (∃ (s : State), s.powered 128 = true ∧ s.vpVideo = true ∧ s.vp.line = s.vp.cfg.vact + s.vp.cfg.vrest ∧ 0 < s.vp.cfg.vrest) ∧
    (∃ (s : State), s.powered 128 = true ∧ s.vpStatic = true ∧ s.vp.line = s.vp.cfg.vact) ∧
    (∃ (s : State), s.powered 128 = true ∧ s.vp.cfg.en = true ∧ s.vp.black = false) ∧
    (∃ (s : State), s.reachable .viewport 0 = true ∧ s.vpCommand = true) ∧
    (∃ (s : State) (r : Bool), s.powered 128 = true ∧ s.vpCommand = true ∧ s.vp.due = true ∧ r ≠ s.vp.cfg.tePol ∧ s.is .VP_STATUS_PENDING = false) ∧
    (∃ (s : State) (r : Bool), s.powered 128 = true ∧ s.vpCommand = true ∧ s.vp.due = true ∧ r ≠ s.vp.cfg.tePol ∧ s.is .VP_STATUS_PENDING = true ∧
      s.vpShadow.en = true ∧ s.vpShadow.mode = true) ∧
    (∃ (s : State), s.powered 128 = true ∧ s.vpCommand = true ∧ s.vp.due = true ∧ s.is .VP_STATUS_PENDING = false) :=
  ⟨⟨vpr.set .VP_VFP_MAX_LINES 9, by decide +kernel⟩,
    ⟨vpr, by decide +kernel⟩,
    ⟨vpr.on .VP_STATUS_PENDING, by decide +kernel⟩,
    ⟨{ vpv.on .VP_STATUS_PENDING with vp := { vpv.vp with line := 2 } }, by decide +kernel⟩,
    ⟨blk on0 .viewport, by decide +kernel⟩,
    ⟨(vpr.set .VP_CMD_CTRL_DT 0x29).set .VP_CMD_CTRL_LEN 17, by decide +kernel⟩,
    ⟨(vpr.set .VP_CMD_CTRL_DT 0x29).set .VP_CMD_CTRL_LEN 16, _, rfl, by decide +kernel⟩,
    ⟨(vpv.set .VP_CMD_CTRL_DT 0x29).set .VP_CMD_CTRL_LEN 16, _, rfl, by decide +kernel⟩,
    ⟨vpv, 0, by decide +kernel⟩,
    ⟨{ vpv with poison := [0] }, 0, by decide +kernel⟩,
    ⟨{ vpv with vp := { vpv.vp with line := 3 } }, by decide +kernel⟩,
    ⟨{ vpv with vp := { vpv.vp with line := 4 } }, by decide +kernel⟩,
    ⟨{ vpv with vp := { vpv.vp with line := 2 } }, by decide +kernel⟩,
    ⟨vpv true, by decide +kernel⟩,
    ⟨vpv true, by decide +kernel⟩,
    ⟨{ vpv true with vp := { (vpv true).vp with due := true } }, true, by decide +kernel⟩,
    ⟨{ ((vpv true).on .VP_STATUS_PENDING).on .VP_CTRL_EN |>.on .VP_CTRL_MODE with vp := { (vpv true).vp with due := true } }, true, by decide +kernel⟩,
    ⟨{ vpv true with vp := { (vpv true).vp with due := true } }, by decide +kernel⟩⟩

theorem wit_PowerStateRequest :
    (∃ (s : State) (v : Nat), (v = 1 ∨ v = 2) ∧ (¬ (s.axStopped = true ∧ (∀ e ∈ s.chans, e.2.grant = []) ∧ s.trio.pulling = false))) ∧
    (∃ (s : State) (v : Nat), (v = 1 ∨ v = 2) ∧ (¬ (s.axStopped = true ∧ (∀ e ∈ s.chans, e.2.grant = []) ∧ s.trio.pulling = false))) ∧
    (∃ (s : State) (v : Nat), (v = 1 ∨ v = 2) ∧ s.axStopped = true ∧ (∀ e ∈ s.chans, e.2.grant = []) ∧ s.trio.pulling = false ∧ ¬ (v = 2 ∧ s.losesRank =
      true ∧ s.is .MOT_STATUS_JOB = true) ∧ (v = 2 → s.get .PWR_PSTATE_CUR ≠ 2)) ∧
    (∃ (s : State) (v : Nat), (v = 1 ∨ v = 2) ∧ s.axStopped = true ∧ (∀ e ∈ s.chans, e.2.grant = []) ∧ s.trio.pulling = false ∧ ¬ (v = 2 ∧ s.losesRank =
      true ∧ s.is .MOT_STATUS_JOB = true) ∧ (v = 2 → s.get .PWR_PSTATE_CUR ≠ 2)) ∧
    (∃ (s : State), s.axStopped = true ∧ (∀ e ∈ s.chans, e.2.grant = []) ∧ s.trio.pulling = false ∧ s.get .PWR_PSTATE_CUR = 2 ∧ ¬ (s.losesRank = true ∧
      s.is .MOT_STATUS_JOB = true)) :=
  ⟨⟨on0.set .MOT_STATUS_MOVING 1, 2, by decide +kernel⟩,
    ⟨on0.on .FIRE_STATUS_RUNNING, 1, by decide +kernel⟩,
    ⟨on0, 2, by decide +kernel⟩,
    ⟨on0, 1, by decide +kernel⟩,
    ⟨on0.set .PWR_PSTATE_CUR 2, by decide +kernel⟩⟩

theorem wit_PowerDomains :
    (∃ (n : Nat), n < 5) ∧
    (∃ (n : Nat), n < 5) ∧
    (∃ (s : State) (n : Nat) (l : List Nat), s.is .RST_STATUS_DONE = true ∧ s.get .PWR_PSTATE_CUR ≠ 2 ∧ s.switching.filter (fun n => !s.powered n ||
      s.quiescent n) = n :: l ∧ s.powered n = true) ∧
    (∃ (s : State) (n : Nat) (l : List Nat), s.is .RST_STATUS_DONE = true ∧ s.get .PWR_PSTATE_CUR ≠ 2 ∧ s.switching.filter (fun n => !s.powered n ||
      s.quiescent n) = n :: l ∧ s.powered n = false ∧ s.sectsOf n = []) ∧
    (∃ (s : State) (n : Nat) (l : List Nat), s.is .RST_STATUS_DONE = true ∧ s.get .PWR_PSTATE_CUR ≠ 2 ∧ s.switching.filter (fun n => !s.powered n ||
      s.quiescent n) = n :: l ∧ s.powered n = false ∧ s.sectsOf n ≠ []) ∧
    (∃ (s : State), s.is .PWR_PSTATE_BUSY = true ∧ s.get .PWR_PSTATE_CUR ≠ 2 ∧ s.get .PWR_PSTATE_REQ = 0) ∧
    (∃ (s : State), s.is .PWR_PSTATE_BUSY = true ∧ s.get .PWR_PSTATE_CUR ≠ 2 ∧ s.get .PWR_PSTATE_REQ = 1) :=
  ⟨⟨4, by decide +kernel⟩,
    ⟨0, by decide +kernel⟩,
    ⟨(on0.set .PWR_REQ_ON 0xFFFFFFFE 0 0), 0, [], by decide +kernel⟩,
    ⟨on0.putB .PWR_STATE_ON 31 false 0 1, 63, [], by decide +kernel⟩,
    ⟨sec (on0.putB .PWR_STATE_ON 31 false 0 1) 0x0030 63 64 [], 63, [], by decide +kernel⟩,
    ⟨(on0.on .PWR_PSTATE_BUSY).set .PWR_PSTATE_CUR 1, by decide +kernel⟩,
    ⟨(on0.on .PWR_PSTATE_BUSY).set .PWR_PSTATE_REQ 1, by decide +kernel⟩⟩

theorem wit_Resets :
    (∃ (ns : Nat) (b : Bool), (1000 ≤ ns ∨ 100 ≤ ns ∧ b = true)) ∧
    (∃ (ns : Nat) (b : Bool), (1000 ≤ ns ∨ 100 ≤ ns ∧ b = true)) ∧
    (∃ (ns : Nat), ns < 100) ∧
    (∃ (v : Nat), v ≠ 0xA5) ∧
    (∃ (s : State) (p : Nat) (n : Nat), 4 ≤ n ∧ s.wortUp p = true ∧ (s.upPort = some p ∨ s.upPort = none ∧ s.is .BAR_STATUS_ENUMERATED = false)) ∧
    (∃ (s : State) (p : Nat) (n : Nat), 4 ≤ n ∧ s.wortUp p = true ∧ (s.upPort = some p ∨ s.upPort = none ∧ s.is .BAR_STATUS_ENUMERATED = false)) ∧
    (∃ (s : State) (p : Nat) (n : Nat), 4 ≤ n ∧ s.wortUp p = true ∧ (∃ q, s.upPort = some q ∧ q ≠ p)) ∧
    (∃ (s : State), s.powered 130 = true ∧ s.wdogWait = false) ∧
    (∃ (s : State), s.powered 130 = true ∧ s.wdogWait = true) ∧
    (∃ (s : State), s.wdogWait = false) ∧
    (∃ (s : State), s.wdogWait = true ∧ s.is .FLS_STATUS_HANDOVER = true) ∧
    (∃ (s : State), s.wdogWait = true ∧ s.is .FLS_STATUS_HANDOVER = false ∧ s.fw.ckptDue = false ∧ s.fwDue = []) ∧
    (∃ (n : Nat), n < 40) ∧
    (∃ (n : Nat), n < 40) ∧
    (∃ (s : State), s.is .RST_STATUS_THERM_HOLD = true) ∧
    (∃ (n : Nat), n < 4) ∧
    (∃ (n : Nat), n < 4) ∧
    (∃ (n : Nat), n < 32) ∧
    (∃ (s : State) (n : Nat), n = s.get .RST_STATUS_STEP + 1 ∧ 2 ≤ n ∧ n ≤ 16 ∧ s.is .CLK_STATUS_CORE_LOCK = true ∧ s.is .RST_STATUS_THERM_HOLD = false) ∧
    (∃ (s : State) (n : Nat), n = s.get .RST_STATUS_STEP + 1 ∧ 2 ≤ n ∧ n ≤ 16 ∧ s.is .CLK_STATUS_CORE_LOCK = true ∧ s.is .RST_STATUS_THERM_HOLD = false) ∧
    (∃ (d : _), d < 132) ∧
    (∃ (s : State), s.is .CLK_STATUS_CORE_LOCK = false ∧ s.lolHold = false) ∧
    (∃ (s : State), s.is .CLK_STATUS_CORE_LOCK = false ∧ (s.get .RST_STRAPS_CLK_MODE = 1 ∨ s.get .RST_STRAPS_CLK_MODE = 2)) ∧
    (∃ (s : State), s.is .CLK_STATUS_CORE_LOCK = true) ∧
    (∃ (s : State), s.is .CLK_STATUS_CORE_LOCK = true) ∧
    (∃ (s : State), s.lolHold = true) ∧
    (∃ (s : State) (c : Instr), (c = .flr ∨ c = .hotReset) ∧ s.powered 131 = true) ∧
    (∃ (s : State) (c : Instr), (c = .flr ∨ c = .hotReset) ∧ s.powered 131 = true) :=
  ⟨⟨1000, false, by decide +kernel⟩,
    ⟨100, true, by decide +kernel⟩,
    ⟨99, by decide +kernel⟩,
    ⟨0xA4, by decide +kernel⟩,
    ⟨on0.set .WL_PORT_STATUS_STATE 2 3, 3, 4, by decide +kernel⟩,
    ⟨{ on0.set .WL_PORT_STATUS_STATE 2 3 with upPort := some 3 }, 3, 4, by decide +kernel⟩,
    ⟨{ on0.set .WL_PORT_STATUS_STATE 2 3 with upPort := some 2 }, 3, 4, by decide +kernel⟩,
    ⟨on0, by decide +kernel⟩,
    ⟨{ on0 with wdogWait := true }, by decide +kernel⟩,
    ⟨on0, by decide +kernel⟩,
    ⟨{ on0.on .FLS_STATUS_HANDOVER with wdogWait := true }, by decide +kernel⟩,
    ⟨{ on0 with wdogWait := true }, by decide +kernel⟩,
    ⟨3, by decide +kernel⟩,
    ⟨1, by decide +kernel⟩,
    ⟨on0.on .RST_STATUS_THERM_HOLD, by decide +kernel⟩,
    ⟨3, by decide +kernel⟩,
    ⟨1, by decide +kernel⟩,
    ⟨0, by decide +kernel⟩,
    ⟨(State.reset.on .CLK_STATUS_CORE_LOCK).set .RST_STATUS_STEP 15, 16, by decide +kernel⟩,
    ⟨(State.reset.on .CLK_STATUS_CORE_LOCK).set .RST_STATUS_STEP 1, 2, by decide +kernel⟩,
    ⟨131, by decide +kernel⟩,
    ⟨on0.off .CLK_STATUS_CORE_LOCK, by decide +kernel⟩,
    ⟨(on0.off .CLK_STATUS_CORE_LOCK).set .RST_STRAPS_CLK_MODE 2, by decide +kernel⟩,
    ⟨on0, by decide +kernel⟩,
    ⟨on0, by decide +kernel⟩,
    ⟨{ on0.off .CLK_STATUS_CORE_LOCK with lolHold := true }, by decide +kernel⟩,
    ⟨on0, .hotReset, by decide +kernel⟩,
    ⟨on0, .flr, by decide +kernel⟩⟩

theorem wit_CopiesAndScrub :
    (∃ (s : State) (m : Nat) (k : Nat), s.powered 124 = true ∧ s.get .FIRE_VOTE_MASKED = 0 ∧ k < 3 ∧ m = 2 ^ k ∧ (look 0 s.seq.disagree k = 0 ∨ look 0
      s.seq.disagree k + 1023 ≤ s.seq.next)) ∧
    (∃ (s : State) (m : Nat) (k : Nat), s.powered 124 = true ∧ s.get .FIRE_VOTE_MASKED = 0 ∧ k < 3 ∧ m = 2 ^ k ∧ (look 0 s.seq.disagree k = 0 ∨ look 0
      s.seq.disagree k + 1023 ≤ s.seq.next)) ∧
    (∃ (s : State) (m : Nat) (k : Nat), s.powered 124 = true ∧ s.get .FIRE_VOTE_MASKED = 0 ∧ k < 3 ∧ m = 2 ^ k ∧ look 0 s.seq.disagree k ≠ 0 ∧ s.seq.next +
      1 < look 0 s.seq.disagree k + 1024) ∧
    (∃ (s : State) (m : Nat), s.powered 124 = true ∧ s.get .FIRE_VOTE_MASKED = 0 ∧ (m = 3 ∨ m = 5 ∨ m = 6 ∨ m = 7)) ∧
    (∃ (s : State) (m : Nat), s.powered 124 = true ∧ s.get .FIRE_VOTE_MASKED = 0 ∧ (m = 3 ∨ m = 5 ∨ m = 6 ∨ m = 7)) ∧
    (∃ (s : State) (i : Nat) (x : Nat) (unit : Nat), i < 6 ∧ unit < 64 ∧ x < s.dmap.cap ∧ s.fenced 6 i = false ∧ s.ddrServes i = true ∧ ((s.ddrHolds i (x /
      64 * 64)).map s.dmap.mirrored).getD false = false) ∧
    (∃ (s : State) (i : Nat) (x : Nat) (unit : Nat), i < 6 ∧ unit < 64 ∧ x < s.dmap.cap ∧ s.fenced 6 i = false ∧ s.ddrServes i = true ∧ (s.ddrHolds i (x /
      64 * 64)).map s.dmap.mirrored = some true) ∧
    (∃ (s : State) (i : Nat) (x : Nat), (s.ddr i).ues.length < 16 ∧ (s.ddrHolds i (x / 64 * 64)).map s.dmap.mirrored = some true) ∧
    (∃ (s : State) (t : Nat), t < 64 ∧ s.powered t = true) ∧
    (∃ (s : State) (t : Nat) (p : Nat), t < 64 ∧ p < 32 ∧ s.powered t = true) ∧
    (∃ (s : State) (i : Nat), i < 4 ∧ s.powered (118 + i) = true ∧ s.fenced 3 i = false) ∧
    (∃ (s : State) (m : Nat) (n : Nat), (m = 2 ∧ n < 64 ∧ s.powered n = true ∨ m = 3 ∧ n < 4 ∧ s.powered (118 + n) = true ∨ m = 4 ∧ n < 8 ∧ s.powered (106
      + n) = true ∨ m = 5 ∧ s.powered 130 = true ∨ m = 6)) ∧
    (∃ (s : State) (m : Nat) (n : Nat), (m = 2 ∧ n < 64 ∧ s.powered n = true ∨ m = 3 ∧ n < 4 ∧ s.powered (118 + n) = true ∨ m = 4 ∧ n < 8 ∧ s.powered (106
      + n) = true ∨ m = 5 ∧ s.powered 130 = true ∨ m = 6)) ∧
    (∃ (s : State) (m : Nat) (n : Nat), (m = 2 ∧ n < 64 ∧ s.powered n = true ∨ m = 3 ∧ n < 4 ∧ s.powered (118 + n) = true ∨ m = 4 ∧ n < 8 ∧ s.powered (106
      + n) = true ∨ m = 5 ∧ s.powered 130 = true ∨ m = 6)) ∧
    (∃ (s : State) (m : Nat) (n : Nat), (m = 2 ∧ n < 64 ∧ s.powered n = true ∨ m = 3 ∧ n < 4 ∧ s.powered (118 + n) = true ∨ m = 4 ∧ n < 8 ∧ s.powered (106
      + n) = true ∨ m = 5 ∧ s.powered 130 = true ∨ m = 6)) ∧
    (∃ (s : State) (m : Nat) (n : Nat), (m = 2 ∧ n < 64 ∧ s.powered n = true ∨ m = 3 ∧ n < 4 ∧ s.powered (118 + n) = true ∨ m = 4 ∧ n < 8 ∧ s.powered (106
      + n) = true ∨ m = 5 ∧ s.powered 130 = true ∨ m = 6)) :=
  ⟨⟨on0, 4, 2, by decide +kernel⟩,
    ⟨{ on0 with seq := { next := 1024, disagree := [(2, 1)] } }, 4, 2, by decide +kernel⟩,
    ⟨{ on0 with seq := { next := 1023, disagree := [(2, 1)] } }, 4, 2, by decide +kernel⟩,
    ⟨on0, 3, by decide +kernel⟩,
    ⟨on0, 7, by decide +kernel⟩,
    ⟨dr2, 1, 0x3FFFFFFFF, 63, by decide +kernel⟩,
    ⟨sec dr2 0x0012 0 64 [(0, 4, 4096), (4, 1, 2), (6, 1, 1), (0xC, 4, 2)], 1, 0x3FFFFFFFF, 63, by decide +kernel⟩,
    ⟨sec dr2 0x0012 0 64 [(0, 4, 4096), (4, 1, 2), (6, 1, 1), (0xC, 4, 2)], 1, 0x3FFFFFFFF, by decide +kernel⟩,
    ⟨on0, 63, by decide +kernel⟩,
    ⟨on0, 63, 31, by decide +kernel⟩,
    ⟨on0.setChan 63 { intake := [{ page := 1, pfirst := 0, index := 3, first := 0, lines := 1, bytes := [1], inst := 3, lane := 8 }] }, 3,
    by decide +kernel⟩,
    ⟨on0, 2, 63, by decide +kernel⟩,
    ⟨on0, 3, 3, by decide +kernel⟩,
    ⟨on0, 4, 7, by decide +kernel⟩,
    ⟨on0, 5, 0, by decide +kernel⟩,
    ⟨on0, 6, 0, by decide +kernel⟩⟩

end Sys2Proof.Tests
end

section
/-! PROOF. Requests for power states (R58, R59): what a write of PWR_PSTATE.REQ does when it is refused and when it is taken. -/

namespace Sys2Proof.Machine

/-! ## Writes of register fields and `OnlyRegs` -/

theorem OnlyRegs.refl (s : State) (p : Fld → Nat → Nat → Prop) : OnlyRegs s s p := ⟨rfl, fun _ _ _ _ => rfl⟩

/-- A field that is not marked reads as before. -/
theorem OnlyRegs.get_eq {s t : State} {p : Fld → Nat → Nat → Prop} (h : OnlyRegs s t p) {f : Fld} {i k : Nat} (hf : ¬ p f i k) :
    t.get f i k = s.get f i k :=
  h.2 f i k hf

/-- One more write of a marked field keeps the frame. -/
theorem OnlyRegs.set {s t : State} {p : Fld → Nat → Nat → Prop} (h : OnlyRegs s t p) {f : Fld} {i k : Nat} (hf : p f i k) (v : Nat) :
    OnlyRegs s (t.set f v i k) p := by
  refine ⟨by rw [State.set_frame, h.1], fun g j l hg => ?_⟩
  have hne : ¬ (g = f ∧ j = i ∧ l = k) := by
    rintro ⟨rfl, rfl, rfl⟩
    exact hg hf
  rw [State.get_set, if_neg hne, h.get_eq hg]

/-! ## Which requests are taken -/

/-- `State.restful` is R59's condition for P1 and P2. -/
theorem State.restful_iff (s : State) :
    s.restful = true ↔ s.axStopped = true ∧ (∀ e ∈ s.chans, e.2.grant = []) ∧ s.trio.pulling = false := by
  simp [State.restful, and_assoc]

/-- The requests that are taken: P0 always, P1 and P2 at rest (R59), and P2 only where it loses no rank of the job's data (R381). -/
structure State.Grants (s : State) (v : Nat) : Prop where
  known : v < 3
  rest  : 1 ≤ v → s.restful = true
  ranks : ¬ (v = 2 ∧ s.losesRank = true ∧ s.is .MOT_STATUS_JOB = true)

theorem State.grants_zero (s : State) : s.Grants 0 where
  known := by decide
  rest h := absurd h (by decide)
  ranks h := absurd h.1 (by decide)

theorem execPstateRequest_of_lt {v : Nat} (hv : v < 4) (s : State) : execPstateRequest v s = .next (s.pstate v) := by
  simp [execPstateRequest, hv]

/-- A request that runs has the properties of the state that `State.pstate` gives. -/
theorem runs_pstateRequest {v : Nat} (hv : v < 4) {s : State} {P : State → Prop} (h : P (s.pstate v)) : Runs (.pstateRequest v) s P :=
  ⟨s.pstate v, execPstateRequest_of_lt hv s, h⟩

/-! ## What the request leaves -/

/-- P1 or P2 refused while the device is not at rest. -/
theorem State.pstate_of_not_restful {s : State} {v : Nat} (hv : 1 ≤ v) (h : s.restful = false) :
    s.pstate v = (s.on .PWR_PSTATE_REFUSED).set .PWR_PSTATE_REQ (s.get .PWR_PSTATE_CUR) := by
  rw [State.pstate, if_pos (by simp [hv, h])]

/-- A request that is taken: REQ is written first, and CUR, which it leaves as it was, decides the rest. -/
theorem State.pstate_of_grants {s : State} {v : Nat} (h : s.Grants v) :
    s.pstate v = if s.get .PWR_PSTATE_CUR = v then
        (if v = 2 then (s.set .PWR_PSTATE_REQ v).ddrSleep else s.set .PWR_PSTATE_REQ v).off .PWR_PSTATE_BUSY
      else (s.set .PWR_PSTATE_REQ v).on .PWR_PSTATE_BUSY := by
  obtain ⟨hknown, hrest, hranks⟩ := h
  have hnotbad : ¬ (v == 3 || (decide (1 ≤ v) && !s.restful) || (v == 2 && s.losesRank && s.is .MOT_STATUS_JOB)) = true := by
    simp only [Bool.or_eq_true, Bool.and_eq_true, beq_iff_eq, decide_eq_true_eq, Bool.not_eq_true', and_assoc]
    rintro ((hthree | ⟨hpos, hbusy⟩) | hlost)
    · omega
    · simp [hrest hpos] at hbusy
    · exact hranks hlost
  rw [State.pstate, if_neg hnotbad]
  simp only [State.get_set_fld s (f := .PWR_PSTATE_REQ) (g := .PWR_PSTATE_CUR) (by decide)]

/-- P2 asked for in P2: the DDR channels that are up go back into self-refresh, and the transition under way is given up (R58, R380). -/
theorem State.pstate_two_of_grants {s : State} (h : s.Grants 2) (hcur : s.get .PWR_PSTATE_CUR = 2) :
    s.pstate 2 = ((s.set .PWR_PSTATE_REQ 2).ddrSleep).off .PWR_PSTATE_BUSY := by
  rw [State.pstate_of_grants h, if_pos hcur, if_pos rfl]

/-- Every other request that is taken is two writes: REQ, and BUSY, which says whether CUR differs. -/
theorem State.pstate_eq_writes {s : State} {v : Nat} (h : s.Grants v) (hp2 : v = 2 → s.get .PWR_PSTATE_CUR ≠ 2) :
    s.pstate v = (s.set .PWR_PSTATE_REQ v).set .PWR_PSTATE_BUSY (b2n (s.get .PWR_PSTATE_CUR != v)) := by
  rw [State.pstate_of_grants h]
  by_cases hcur : s.get .PWR_PSTATE_CUR = v
  · have hv : v ≠ 2 := fun hv => hp2 hv (hcur.trans hv)
    simp [hcur, hv, b2n, State.off_eq]
  · simp [hcur, b2n, State.on_eq]

/-- P1 or P2 refused: REFUSED is set, REQ reads what CUR reads, and nothing else changes. -/
theorem State.pstate_refused_effect {s : State} {v : Nat} (hv : 1 ≤ v) (h : s.restful = false) :
    (s.pstate v).is .PWR_PSTATE_REFUSED = true ∧ (s.pstate v).get .PWR_PSTATE_REQ = s.get .PWR_PSTATE_CUR % 4 ∧
      OnlyRegs s (s.pstate v) (fun f i k => (f = .PWR_PSTATE_REFUSED ∨ f = .PWR_PSTATE_REQ) ∧ i = 0 ∧ k = 0) := by
  rw [State.pstate_of_not_restful hv h, State.on_eq]
  refine ⟨?_, State.get_set_same .., ((OnlyRegs.refl s _).set ⟨.inl rfl, rfl, rfl⟩ _).set ⟨.inr rfl, rfl, rfl⟩ _⟩
  rw [State.is, State.get_set_fld _ (by decide), State.get_set_same]
  rfl

/-- A request taken, but for P2 in P2: REQ reads the state asked for, BUSY whether CUR differs from it, and nothing else changes. -/
theorem State.pstate_taken_effect {s : State} {v : Nat} (h : s.Grants v) (hp2 : v = 2 → s.get .PWR_PSTATE_CUR ≠ 2) :
    (s.pstate v).get .PWR_PSTATE_REQ = v ∧ (s.pstate v).is .PWR_PSTATE_BUSY = (s.get .PWR_PSTATE_CUR != v) ∧
      OnlyRegs s (s.pstate v) (fun f i k => (f = .PWR_PSTATE_REQ ∨ f = .PWR_PSTATE_BUSY) ∧ i = 0 ∧ k = 0) := by
  rw [State.pstate_eq_writes h hp2]
  refine ⟨?_, ?_, ((OnlyRegs.refl s _).set ⟨.inl rfl, rfl, rfl⟩ _).set ⟨.inr rfl, rfl, rfl⟩ _⟩
  · rw [State.get_set_fld _ (by decide), State.get_set_same]
    exact Nat.mod_eq_of_lt (Nat.lt_of_lt_of_le h.known (by decide))
  · rw [State.is, State.get_set_same]
    cases s.get .PWR_PSTATE_CUR != v <;> rfl

/-- Settles O57: it holds. A request not at rest is refused by `State.pstate_refused_effect`; the others are taken. -/
theorem powerStateRequest : Obligations.PowerStateRequest := by
  unfold Obligations.PowerStateRequest
  refine ⟨?refused, ?taken, ?p2Again, ?p0⟩
  case refused =>
    intro s v hv hrest
    rw [← State.restful_iff, Bool.not_eq_true] at hrest
    exact runs_pstateRequest (by omega) (State.pstate_refused_effect (by omega) hrest)
  case taken =>
    intro s v hv hstopped hgrant hpull hranks hp2
    have hgrants : s.Grants v := ⟨by omega, fun _ => s.restful_iff.mpr ⟨hstopped, hgrant, hpull⟩, hranks⟩
    obtain ⟨hreq, hbusy, honly⟩ := State.pstate_taken_effect hgrants hp2
    have hrefused := honly.get_eq (f := .PWR_PSTATE_REFUSED) (i := 0) (k := 0) (by decide)
    exact runs_pstateRequest (by omega) ⟨hreq, hbusy, hrefused, honly⟩
  case p2Again =>
    intro s hstopped hgrant hpull hcur hranks
    have hgrants : s.Grants 2 := ⟨by decide, fun _ => s.restful_iff.mpr ⟨hstopped, hgrant, hpull⟩, fun h => hranks h.2⟩
    exact runs_pstateRequest (by decide) (State.pstate_two_of_grants hgrants hcur)
  case p0 =>
    intro s
    exact runs_pstateRequest (by decide) (State.pstate_taken_effect s.grants_zero (fun h => absurd h (by decide)))

end Sys2Proof.Machine
end

section
/-! PROOF. The time counter (R308, R312): what a CLK_FIRE tick does to it, and that a warm reset leaves it. -/

namespace Sys2Proof.Machine

/-! ## The counter as one number -/

/-- The whole counter in units of 2^-32 ns (R308). -/
def Clock.units (c : Clock) : Nat := (c.sec * nsPerSec + c.nsf) * 2 ^ 32 + c.frac

/-- Each part of the counter lies in the range that R308 gives it. -/
structure Clock.InRange (c : Clock) : Prop where
  sec : c.sec < 2 ^ 48
  nsf : c.nsf < nsPerSec
  frac : c.frac < 2 ^ 32

/-- A tick that ends within the second: SEC stays. -/
theorem Clock.tick_within {c : Clock} {incr : Nat} (h : c.nsf + (c.frac + incr) / 2 ^ 32 < nsPerSec) :
    c.tick incr = { sec := c.sec, nsf := c.nsf + (c.frac + incr) / 2 ^ 32, frac := (c.frac + incr) % 2 ^ 32 } :=
  if_pos h

/-- A tick that ends in the next second: NSF gives up a second, and SEC takes it, wrapping at 2^48. -/
theorem Clock.tick_carry {c : Clock} {incr : Nat} (h : nsPerSec ≤ c.nsf + (c.frac + incr) / 2 ^ 32) :
    c.tick incr =
      { sec := (c.sec + 1) % 2 ^ 48, nsf := c.nsf + (c.frac + incr) / 2 ^ 32 - nsPerSec, frac := (c.frac + incr) % 2 ^ 32 } :=
  if_neg (Nat.not_lt.mpr h)

/-- A tick of at most a second carries at most one into SEC, so every part stays in its range. -/
theorem Clock.InRange.tick {c : Clock} (h : c.InRange) {incr : Nat} (hi : incr ≤ nsPerSec * 2 ^ 32) : (c.tick incr).InRange := by
  obtain ⟨hsec, hnsf, hfrac⟩ := h
  have hwhole : (c.frac + incr) / 2 ^ 32 ≤ nsPerSec := by unfold nsPerSec at *; omega
  have hpart : (c.frac + incr) % 2 ^ 32 < 2 ^ 32 := Nat.mod_lt _ (by decide)
  rcases Nat.lt_or_ge (c.nsf + (c.frac + incr) / 2 ^ 32) nsPerSec with hn | hn
  · rw [Clock.tick_within hn]
    exact ⟨hsec, hn, hpart⟩
  · rw [Clock.tick_carry hn]
    exact ⟨Nat.mod_lt _ (by decide), show _ - nsPerSec < nsPerSec by omega, hpart⟩

/-- A tick adds `incr` to the counter as one number: a second passed from NSF to SEC is worth the same there, and SEC's wrap takes 2^48
seconds away. -/
theorem Clock.units_tick {c : Clock} (h : c.InRange) {incr : Nat} (hi : incr ≤ nsPerSec * 2 ^ 32) :
    (c.tick incr).units = (c.units + incr) % (2 ^ 48 * nsPerSec * 2 ^ 32) := by
  obtain ⟨hsec, hnsf, hfrac⟩ := h
  rcases Nat.lt_or_ge (c.nsf + (c.frac + incr) / 2 ^ 32) nsPerSec with hn | hn
  · rw [Clock.tick_within hn]
    simp only [Clock.units, nsPerSec] at *
    omega
  · rw [Clock.tick_carry hn]
    simp only [Clock.units, nsPerSec] at *
    omega

/-! ## TIME_COUNTER_TICK -/

/-- While the core PLL is locked a tick advances the tick count and the counter, and nothing else. -/
theorem execTimeCounterTick_locked {s : State} (h : s.is .CLK_STATUS_CORE_LOCK = true) :
    execTimeCounterTick s = .next { s with now := s.now + 1, clock := s.clock.tick (s.get .TIME_INCR_INCR) } := by
  rw [execTimeCounterTick, h, State.when_true]

/-- While it is unlocked the command changes nothing (R312). -/
theorem execTimeCounterTick_unlocked {s : State} (h : s.is .CLK_STATUS_CORE_LOCK = false) : execTimeCounterTick s = .next s := by
  rw [execTimeCounterTick, h, State.when_false]

/-! ## What a warm reset does before and while it is asserted leaves the counter -/

/-- A fold whose rounds leave the counter leaves it. -/
theorem State.foldl_clock {α : Type} (l : List α) {f : State → α → State} (h : ∀ s a, (f s a).clock = s.clock) (s : State) :
    (l.foldl f s).clock = s.clock :=
  List.foldlRecOn l f (motive := fun t => t.clock = s.clock) rfl (fun t ht a _ => (h t a).trans ht)

theorem State.each_clock (n : Nat) {f : State → Nat → State} (h : ∀ s i, (f s i).clock = s.clock) (s : State) :
    (s.each n f).clock = s.clock :=
  State.foldl_clock _ h s

@[simp] theorem State.dealBlock_clock (s : State) (p block : Nat) : (s.dealBlock p block).clock = s.clock := by
  unfold State.dealBlock
  dsimp only
  split
  · rfl
  · exact State.foldl_clock _ (fun _ _ => State.out_clock ..) _

@[simp] theorem State.sendControl_clock (s : State) (p : Nat) (name : String) (args : List Nat) (type fields : Nat) :
    (s.sendControl p name args type fields).clock = s.clock :=
  State.dealBlock_clock ..

@[simp] theorem State.sendDown_clock (s : State) (p cause : Nat) : (s.sendDown p cause).clock = s.clock := by
  unfold State.sendDown
  split
  · exact State.each_clock _ (fun _ _ => State.sendControl_clock ..) s
  · rfl

@[simp] theorem State.downAll_clock (s : State) (cause : Nat) : (s.downAll cause).clock = s.clock :=
  State.each_clock _ (fun _ _ => State.sendDown_clock ..) s

@[simp] theorem State.headsOff_clock (s : State) : s.headsOff.clock = s.clock := by
  refine State.each_clock _ (fun t c => ?_) s
  split <;> rfl

@[simp] theorem State.restBalls_clock (s : State) (n : Nat) : (s.restBalls n).clock = s.clock := rfl

@[simp] theorem State.allRest_clock (s : State) : s.allRest.clock = s.clock := by
  rw [State.allRest, State.each_clock _ State.restBalls_clock]

/-- The loss of the switched domains keeps the counter: it takes it over from the state in which the heads are off and every ball rests. -/
@[simp] theorem State.lose_clock (s : State) (keep : FKey → Bool) (half : Dom → Bool) : (s.lose keep half).clock = s.clock :=
  calc (s.lose keep half).clock = s.headsOff.allRest.clock := rfl
    _ = s.clock := by rw [State.allRest_clock, State.headsOff_clock]

@[simp] theorem State.begin_clock (s : State) : s.begin_.clock = s.clock := by
  unfold State.begin_
  dsimp only
  split <;> rfl

@[simp] theorem State.warmLose_clock (s : State) (relock : Bool) : (s.warmLose relock).clock = s.clock := by
  simp [State.warmLose]

theorem State.warmReset_clock (s : State) (relock : Bool) : (s.warmReset relock).clock = s.clock := by
  rw [State.warmReset, State.warmLose_clock, State.downAll_clock]

/-- A power-on reset sets the counter to 0 (R308). -/
theorem State.powerOn_clock (s : State) : s.powerOn.clock = { sec := 0, nsf := 0, frac := 0 } := rfl

/-- Settles O16: it holds. A tick adds TIME_INCR to the counter as one number (`Clock.units_tick`) and keeps its parts in range. -/
theorem timeCounterTick : Obligations.TimeCounterTick := by
  unfold Obligations.TimeCounterTick
  refine ⟨?locked, ?unlocked, State.warmReset_clock, State.powerOn_clock⟩
  case locked =>
    intro s hlock hnsf hfrac hsec hincr
    have hrange : s.clock.InRange := ⟨hsec, hnsf, hfrac⟩
    obtain ⟨hsec', hnsf', hfrac'⟩ := hrange.tick hincr
    exact ⟨_, execTimeCounterTick_locked hlock, rfl, Clock.units_tick hrange hincr, hnsf', hfrac', hsec'⟩
  case unlocked =>
    intro s hlock
    exact ⟨s, execTimeCounterTick_unlocked hlock, rfl⟩

end Sys2Proof.Machine
end

section
/-! PROOF. The invariant of register fields and memories (R12, R13): every operation keeps it, so every command and every step does. Each
lemma follows the definition it is about: a proof `h.foo.bar` is the change `foo` and then the change `bar`. -/

namespace Sys2Proof.Machine

-- One lemma after the other: elaborated side by side, they ask for more threads than the compile may have.
set_option Elab.async false

/-! ## Tables -/

/-- An entry of a table after a write is the entry written or one that stood there. -/
theorem Tab.mem_put {κ α : Type} [DecidableEq κ] [DecidableEq α] {lt : κ → κ → Bool} {d : κ → α} {t : List (κ × α)} {k : κ} {v : α}
    {e : κ × α} (h : e ∈ Tab.put lt d t k v) : e = (k, v) ∨ e ∈ t := by
  unfold Tab.put at h
  split at h
  · exact .inr (Tab.mem_erase h)
  · exact Tab.mem_ins h

/-! ## The operations in which every meaning is written -/

variable {s t : State}

/-- A change of any fields but the register fields, host memory and DRAM. -/
theorem State.Inv.upd (h : s.Inv)
    {poison now freeCtr outbox rdata hiLatch loBuf wdogWait lolHold pllSeen grist gristDue loading staged sets sects composite fullImage pairs slots
    msixOpen msixPend msixTab turns clock eths telLog ep1 chans engs extents pages gaps unmaps fwDue backAt clash coverage prepared credits intakes
    storeMem archive encs seq kiln pageEnd jobEnds lateDue withdrawn learning kilnWin shots axes line scales cams gravs rebinds flash cask erases
    senses tss sgEvents busQueue busFwd wports upPort upLost binds devs lineStamps rels trio ddrs rehomed banks heads calib calibDue snaps lastSnap
    hotMask supplies supplyMask fw usb vp pending} :
    State.Inv {
      regs := s.regs, hostMem := s.hostMem, dram := s.dram, poison, now, freeCtr, outbox, rdata, hiLatch, loBuf, wdogWait, lolHold, pllSeen, grist,
      gristDue, loading, staged, sets, sects, composite, fullImage, pairs, slots, msixOpen, msixPend, msixTab, turns, clock, eths, telLog, ep1,
      chans, engs, extents, pages, gaps, unmaps, fwDue, backAt, clash, coverage, prepared, credits, intakes, storeMem, archive, encs, seq, kiln,
      pageEnd, jobEnds, lateDue, withdrawn, learning, kilnWin, shots, axes, line, scales, cams, gravs, rebinds, flash, cask, erases, senses, tss,
      sgEvents, busQueue, busFwd, wports, upPort, upLost, binds, devs, lineStamps, rels, trio, ddrs, rehomed, banks, heads, calib, calibDue, snaps,
      lastSnap, hotMask, supplies, supplyMask, fw, usb, vp, pending } :=
  ⟨h.regs, h.widths, h.hostMem, h.dram⟩

/-- Register fields dropped to their reset values. -/
theorem State.Inv.keepRegs (h : s.Inv) {p : FKey → Bool} (hr : t.regs = Tab.keep p s.regs) (hm : t.hostMem = s.hostMem)
    (hd : t.dram = s.dram) : t.Inv where
  regs := hr ▸ Tab.wf_keep h.regs p
  widths e he := h.widths e (List.mem_of_mem_filter (hr ▸ he))
  hostMem := hm ▸ h.hostMem
  dram := hd ▸ h.dram

/-- Host memory replaced by a memory in canonical form. -/
theorem State.Inv.setHost (h : s.Inv) (hm : Memory.wf t.hostMem = true) (hr : t.regs = s.regs := by rfl)
    (hd : t.dram = s.dram := by rfl) : t.Inv :=
  ⟨hr ▸ h.regs, hr ▸ h.widths, hm, hd ▸ h.dram⟩

/-- Bytes written to host memory. -/
theorem State.Inv.hostWrs (h : s.Inv) {a : Nat} {bs : List Byte} (hm : t.hostMem = Memory.wrs s.hostMem a bs := by rfl)
    (hr : t.regs = s.regs := by rfl) (hd : t.dram = s.dram := by rfl) : t.Inv :=
  h.setHost (hm ▸ Memory.wf_wrs bs h.hostMem a) hr hd

/-- DRAM replaced by a memory in canonical form. -/
theorem State.Inv.setDram (h : s.Inv) (hd : Memory.wf t.dram = true) (hr : t.regs = s.regs := by rfl)
    (hm : t.hostMem = s.hostMem := by rfl) : t.Inv :=
  ⟨hr ▸ h.regs, hr ▸ h.widths, hm ▸ h.hostMem, hd⟩

/-- The invariant at State.reset, where nothing is listed. -/
theorem State.Inv.reset : State.reset.Inv where
  regs := rfl
  widths _ he := absurd he List.not_mem_nil
  hostMem := rfl
  dram := rfl

/-- A field is set to a value reduced to its width. -/
theorem State.Inv.set (h : s.Inv) {f : Fld} {v i k : Nat} : (s.set f v i k).Inv where
  regs := Tab.wf_put FKey.lt_trans FKey.lt_total h.regs _ _
  widths e he := by
    rcases Tab.mem_put he with rfl | he
    · exact Nat.mod_lt _ (Nat.two_pow_pos _)
    · exact h.widths e he
  hostMem := h.hostMem
  dram := h.dram

theorem State.Inv.ite {c : Prop} [Decidable c] (hs : s.Inv) (ht : t.Inv) : (if c then s else t).Inv := by
  split
  · exact hs
  · exact ht

/-- A change under a condition. -/
theorem State.Inv.onlyIf {c : Prop} [Decidable c] (h : s.Inv) (ht : s.Inv → t.Inv) : (if c then t else s).Inv := .ite (ht h) h

/-- What holds of an intermediate state carries over to the state that follows from it. -/
theorem State.Inv.andThen (h : s.Inv) (ht : s.Inv → t.Inv) : t.Inv := ht h

theorem State.Inv.when (h : s.Inv) {c : Bool} {f : State → State} (hf : ∀ u : State, u.Inv → (f u).Inv) : (s.when c f).Inv :=
  .ite (hf s h) h

theorem State.Inv.foldl (h : s.Inv) {α : Type} {f : State → α → State} {l : List α} (hf : ∀ (u : State), u.Inv → ∀ a, (f u a).Inv) :
    (l.foldl f s).Inv :=
  List.foldlRecOn l f h fun u hu a _ => hf u hu a

theorem State.Inv.each (h : s.Inv) {n : Nat} {f : State → Nat → State} (hf : ∀ (u : State), u.Inv → ∀ i, (f u i).Inv) : (s.each n f).Inv :=
  h.foldl hf

/-- Every state the outcome may be keeps the invariant. -/
def Keeps (r : Res State) : Prop := ∀ t, r = .next t → t.Inv

theorem Keeps.next (h : t.Inv) : Keeps (.next t) := by
  intro u hu
  cases hu
  exact h

theorem State.Inv.via (h : s.Inv) {r : Res State} (hr : Keeps r) : (s.via r).Inv := by
  unfold State.via
  split
  · exact hr _ rfl
  · exact h

theorem State.Inv.bump (h : s.Inv) {f : Fld} {n i k : Nat} : (s.bump f n i k).Inv := h.set
theorem State.Inv.on (h : s.Inv) {f : Fld} {i k : Nat} : (s.on f i k).Inv := h.set
theorem State.Inv.off (h : s.Inv) {f : Fld} {i k : Nat} : (s.off f i k).Inv := h.set
theorem State.Inv.clear (h : s.Inv) {fs : List Fld} {i k : Nat} : (s.clear fs i k).Inv := h.foldl (fun _ h _ => h.set)
theorem State.Inv.putB (h : s.Inv) {f : Fld} {b : Nat} {v : Bool} {i k : Nat} : (s.putB f b v i k).Inv := h.set
theorem State.Inv.out (h : s.Inv) {o : Out} : (s.out o).Inv := h.upd
theorem State.Inv.free (h : s.Inv) : s.free.2.Inv := h.upd

/-! ## Time and PTP stamps -/

theorem State.Inv.execTimeCounterTick (h : s.Inv) : Keeps (execTimeCounterTick s) := .next (h.when (fun _ h => h.upd))
theorem State.Inv.timeNsRead (h : s.Inv) {fw : Bool} : (s.timeNsRead fw).Inv := .ite h.upd.set.set.set h.upd.set.set.set
theorem State.Inv.newEpoch (h : s.Inv) : s.newEpoch.Inv := h.set
theorem State.Inv.timeLoad (h : s.Inv) {adj : Bool} : (s.timeLoad adj).Inv := (h.onlyIf fun h => h.on).andThen fun h1 => .ite h1.upd.newEpoch h1.on
theorem State.Inv.timeAdj (h : s.Inv) : s.timeAdj.Inv := .ite h.upd.newEpoch h.on
theorem State.Inv.timeIncr (h : s.Inv) {v : Nat} : (s.timeIncr v).Inv := .ite h.set h.on
theorem State.Inv.setEth (h : s.Inv) {p : Nat} {e : Eth} : (s.setEth p e).Inv := h.upd

theorem State.Inv.psUnits (h : s.Inv) {ps : Int} : (s.psUnits ps).2.Inv := by
  unfold State.psUnits
  dsimp only
  split
  · exact h
  · exact h.free

theorem State.Inv.execPtpEventStamp (h : s.Inv) {p : Nat} {tx atMac : Bool} {sec units seq type : Nat} :
    Keeps (execPtpEventStamp p tx atMac sec units seq type s) :=
  .next (h.when (fun _ h => .andThen (.ite h.psUnits.bump h.psUnits) fun h1 => .ite h1.setEth h1.out))

theorem State.Inv.execTxStampPush (h : s.Inv) {p : Nat} : Keeps (execTxStampPush p s) := .next (by split; exacts [h, .ite h.setEth h.setEth.bump.set])
theorem State.Inv.txtsPop (h : s.Inv) {p : Nat} : (s.txtsPop p).Inv := h.setEth.upd
theorem State.Inv.execEthLinkChange (h : s.Inv) {p : Nat} {up : Bool} : Keeps (execEthLinkChange p up s) := .next (h.when (fun _ h => h.set.setEth))

theorem State.Inv.applyTimeNetPort (h : s.Inv) {p : Nat} {b : List Byte} : (s.applyTimeNetPort p b).Inv :=
  .andThen (by split; exacts [.ite h.set h, h]) fun h1 => .andThen (.ite h1.bump.set.setEth h1.setEth) fun h2 => h2.set.set.set.set

theorem State.Inv.applyTimeNet (h : s.Inv) {b : List Byte} : (s.applyTimeNet b).Inv := h.applyTimeNetPort.applyTimeNetPort

/-! ## Events and vectors -/

theorem State.Inv.msix (h : s.Inv) {v : Nat} : (s.msix v).Inv := .ite h.out h.upd
theorem State.Inv.vector (h : s.Inv) {vec en : Fld} : (s.vector vec en).Inv := .ite h.msix h

theorem State.Inv.telEvent (h : s.Inv) {code unit : Nat} : (s.telEvent code unit).Inv :=
  .andThen (.ite h.upd h.upd.bump) fun h1 => (h1.onlyIf fun h => .ite h.upd h.upd.bump).vector

theorem State.Inv.fwLeaves (h : s.Inv) : s.fwLeaves.Inv := .ite h h.upd
theorem State.Inv.takeCalib (h : s.Inv) {k n : Nat} : (s.takeCalib k n).Inv := h.upd
theorem State.Inv.dropCalib (h : s.Inv) {k : Nat} : (s.dropCalib k).Inv := h.upd

theorem State.Inv.recordFence (h : s.Inv) {k i cause : Nat} : (s.recordFence k i cause).Inv :=
  .ite h (.andThen (by
    split
    · exact h.putB.set.set.set.dropCalib
    · exact h.putB.set.set.set.dropCalib
    · exact h.putB.set.set.set.dropCalib
    · exact h.putB.set.set.set) fun h1 => h1.telEvent.vector.out)

theorem State.Inv.recordLift (h : s.Inv) {k i : Nat} : (s.recordLift k i).Inv := h.putB.telEvent.vector.out
theorem State.Inv.stale (h : s.Inv) : s.stale.Inv := h.bump

theorem State.Inv.reach (h : s.Inv) {b : Block} {i : Nat} {f : State → State} (hf : ∀ u : State, u.Inv → (f u).Inv) : (s.reach b i f).Inv :=
  .ite h.stale (h.when hf)

theorem State.Inv.reachRd (h : s.Inv) {b : Block} {i : Nat} {f : State → State} (hf : ∀ u : State, u.Inv → (f u).Inv) :
    (s.reachRd b i f).Inv :=
  .ite h.upd.stale (.ite (hf s h) h.upd)

/-! ## Queues and completions -/

theorem State.Inv.setPair (h : s.Inv) {n : Nat} {p : QPair} : (s.setPair n p).Inv := h.upd
theorem State.Inv.setSlot (h : s.Inv) {i : Nat} {x : Slot} : (s.setSlot i x).Inv := h.upd
theorem State.Inv.freeSlot (h : s.Inv) {i : Nat} : (s.freeSlot i).Inv := h.setSlot
theorem State.Inv.signal (h : s.Inv) {n : Nat} : (s.signal n).Inv := h.setPair.msix

theorem State.Inv.writeCq (h : s.Inv) {n : Nat} {e : CqEntry} : (s.writeCq n e).Inv :=
  .andThen (.onlyIf h.hostWrs.setPair fun h => h.signal) fun h1 => .ite h1.freeSlot h1

theorem State.Inv.noteStatus (h : s.Inv) {n hd st : Nat} {fin : Bool} : (s.noteStatus n hd st fin).Inv := .ite h.setPair.setSlot h.setPair
theorem State.Inv.holdEntry (h : s.Inv) {n : Nat} {e : CqEntry} : (s.holdEntry n e).Inv := .ite h.setPair.setSlot h.setPair

theorem State.Inv.deliver (h : s.Inv) {n : Nat} {e : CqEntry} : (s.deliver n e).Inv :=
  .ite h.holdEntry (.ite h.writeCq (.ite h.setPair h.setPair.set.bump.holdEntry))

theorem State.Inv.report (h : s.Inv) {hd st : Nat} {fin : Bool} {result detail : Nat} : (s.report hd st fin result detail).Inv :=
  .ite h (by
    dsimp only
    split
    · exact h.noteStatus.deliver
    · exact .ite h.noteStatus.setSlot h.noteStatus
    · exact .ite h.noteStatus.out.freeSlot h.noteStatus.out
    · exact .ite (.bump (.ite h.noteStatus h.noteStatus.freeSlot)) h.noteStatus)

theorem State.Inv.finish (h : s.Inv) {hd st result detail : Nat} : (s.finish hd st result detail).Inv := h.report

theorem State.Inv.drain {fuel n : Nat} (h : s.Inv) : (s.drain fuel n).Inv := by
  induction fuel generalizing s with
  | zero => exact h
  | succ fuel ih =>
    refine State.Inv.ite h ?_
    split
    · exact ih h.setPair.writeCq
    · refine State.Inv.ite h ?_
      split
      · exact ih h.setPair.writeCq
      · exact h.setPair.writeCq

theorem State.Inv.drainAll (h : s.Inv) {n : Nat} : (s.drainAll n).Inv := h.drain
theorem State.Inv.tookTurn (h : s.Inv) {n : Nat} : (s.tookTurn n).Inv := h.upd
theorem State.Inv.refuse (h : s.Inv) {d : Desc} {hd st result detail : Nat} : (s.refuse d hd st result detail).Inv := .ite h.out h.deliver
theorem State.Inv.allot (h : s.Inv) {d : Desc} {op : Nat} : (s.allot d op).2.Inv := h.setSlot
theorem State.Inv.remember (h : s.Inv) {d : Desc} {op hd : Nat} : (s.remember d op hd).Inv := .ite h h.setPair

/-- A command from a queue: what its own effect keeps, its checks and its refusals keep. -/
theorem State.Inv.submit (h : s.Inv) {d : Desc} {c : Cmd} {act : Nat → State → State} (hf : ∀ n (u : State), u.Inv → (act n u).Inv)
    (ho : ∀ u : State, u.Inv → (c.onRange u).Inv := by exact fun _ h => h) : (s.submit d c act).Inv := by
  unfold State.submit
  extract_lets p s1 a n s2 r x
  have h1 : s1.Inv := .ite h h.tookTurn.setPair
  have h2 : s2.Inv := h1.allot.remember
  refine .ite h (.ite h1.refuse (.ite h1.refuse ?_))
  split
  · exact .ite h1.refuse h1.refuse
  · exact .ite h2.setSlot.out (.ite (.finish (.ite (ho _ h2) h2)) (.ite (hf _ _ h2.report) (hf _ _ h2)))

theorem State.Inv.firmware (h : s.Inv) {n : Nat} {i : FwOp} {f : State → State} (hf : ∀ u : State, u.Inv → (f u).Inv) :
    (s.firmware n i f).Inv :=
  .ite h.upd (hf s h)

theorem State.Inv.done (h : s.Inv) {hd result : Nat} : (s.done hd result).Inv := h.finish
theorem State.Inv.execNop (h : s.Inv) {d : Desc} : Keeps (execNop d s) := .next (h.submit (fun _ _ h => h.done))
theorem State.Inv.execQueueCreate (h : s.Inv) {d : Desc} : Keeps (execQueueCreate d s) := .next (h.submit (fun _ _ h => h.setPair.done))
theorem State.Inv.disablePair (h : s.Inv) {n route : Nat} : (s.disablePair n route).Inv := h.upd.setPair
theorem State.Inv.execQueueDelete (h : s.Inv) {d : Desc} : Keeps (execQueueDelete d s) := .next (h.submit (fun _ _ h => h.disablePair.done))
theorem State.Inv.execQueueResume (h : s.Inv) {d : Desc} : Keeps (execQueueResume d s) := .next (h.submit (fun _ _ h => h.setPair.done.drainAll))

theorem State.Inv.execHandleQuery (h : s.Inv) {d : Desc} : Keeps (execHandleQuery d s) :=
  .next (h.submit (fun _ _ h => .andThen (.ite h.setPair.freeSlot (.ite h.setPair.setSlot h.setPair)) fun h1 => h1.done))

theorem State.Inv.badDoorbell (h : s.Inv) {n : Nat} : (s.badDoorbell n).Inv := h.bump.set
theorem State.Inv.sqTailWrite (h : s.Inv) {n v : Nat} : (s.sqTailWrite n v).Inv := .ite h.setPair h.badDoorbell
theorem State.Inv.cqHeadWrite (h : s.Inv) {n v : Nat} : (s.cqHeadWrite n v).Inv := .ite h.setPair.drainAll h.badDoorbell
theorem State.Inv.msixUnmask (h : s.Inv) {v : Nat} : (s.msixUnmask v).Inv := .ite h.upd.out h.upd
theorem State.Inv.msixMask (h : s.Inv) {v : Nat} : (s.msixMask v).Inv := h.upd

theorem State.Inv.bar2Write (h : s.Inv) {o v : Nat} : (s.bar2Write o v).Inv :=
  .ite (.ite h.sqTailWrite (.ite h.cqHeadWrite h)) (.ite (.ite (.ite h.msixUnmask h.msixMask) h.upd) h)

theorem State.Inv.execSqTailDoorbell (h : s.Inv) {n v : Nat} : Keeps (execSqTailDoorbell n v s) := .next (h.when (fun _ h => h.bar2Write))
theorem State.Inv.execCqHeadDoorbell (h : s.Inv) {n v : Nat} : Keeps (execCqHeadDoorbell n v s) := .next (h.when (fun _ h => h.bar2Write))

theorem State.Inv.adminEnable (h : s.Inv) {en : Bool} : (s.adminEnable en).Inv :=
  .ite h.disablePair.off.off (.ite h (.ite h.set (.ite h.set h.setPair.on.on)))

theorem State.Inv.execQmCtrlEnWrite (h : s.Inv) {en : Bool} : Keeps (execQmCtrlEnWrite en s) := .next (h.reach (fun _ h => h.adminEnable))

theorem State.Inv.execCompletionDue (h : s.Inv) {handle status result detail : Nat} : Keeps (execCompletionDue handle status result detail s) :=
  .next (h.when (fun _ h => h.report))

theorem State.Inv.execCqAggTimeout (h : s.Inv) {n : Nat} : Keeps (execCqAggTimeout n s) := .next (h.when (fun _ h => h.signal))
theorem State.Inv.execMsixUnmask (h : s.Inv) {v : Nat} : Keeps (execMsixUnmask v s) := .next (h.when (fun _ h => h.msixUnmask))

/-! ## Coverage -/

theorem State.Inv.setChan (h : s.Inv) {c : Nat} {x : Chan} : (s.setChan c x).Inv := h.upd

theorem State.Inv.recordCoverage (h : s.Inv) {i mask cause : Nat} : (s.recordCoverage i mask cause).Inv :=
  .ite h.set.set.set.set.bump.vector.out h.set.set.set.set.bump.vector

theorem State.Inv.noteCoverage (h : s.Inv) : s.noteCoverage.Inv := .ite h (.ite h.upd.set.recordCoverage h.upd.out)

/-! ## Pixel engines -/

theorem State.Inv.setEng (h : s.Inv) {t m : Nat} {e : Eng} : (s.setEng t m e).Inv := h.upd

theorem State.Inv.fenceTun (h : s.Inv) {t cause : Nat} : (s.fenceTun t cause).Inv :=
  ((h.recordFence.setChan.each (fun _ h _ => h.setEng)).off).noteCoverage

theorem State.Inv.faultTun (h : s.Inv) {t m code count : Nat} : (s.faultTun t m code count).Inv := (h.onlyIf fun h => h.set.set.set.set).bump.fenceTun

theorem State.Inv.issue (h : s.Inv) {t m op : Nat} {u : Uses} {body : State → Chan → Eng → IWord → Effect} : (s.issue t m op u body).Inv :=
  .ite h (.ite h.faultTun (by split; exacts [h.faultTun, .ite h (.ite h.faultTun (by split; exacts [h.faultTun, h.setChan.setEng]))]))

/-! ## Tuns -/

theorem State.Inv.execEngineNop (h : s.Inv) {t m : Nat} : Keeps (execEngineNop t m s) := .next h.issue
theorem State.Inv.execJmp (h : s.Inv) {t m : Nat} : Keeps (execJmp t m s) := .next h.issue
theorem State.Inv.execJnz (h : s.Inv) {t m : Nat} : Keeps (execJnz t m s) := .next h.issue
theorem State.Inv.execJz (h : s.Inv) {t m : Nat} : Keeps (execJz t m s) := .next h.issue
theorem State.Inv.execLoop (h : s.Inv) {t m : Nat} : Keeps (execLoop t m s) := .next h.issue
theorem State.Inv.execCall (h : s.Inv) {t m : Nat} : Keeps (execCall t m s) := .next h.issue
theorem State.Inv.execRet (h : s.Inv) {t m : Nat} : Keeps (execRet t m s) := .next h.issue
theorem State.Inv.dropReleased (h : s.Inv) {t : Nat} : (s.dropReleased t).Inv := h.setChan
theorem State.Inv.execEndl (h : s.Inv) {t m cycles : Nat} : Keeps (execEndl t m cycles s) := .next (.ite h.issue.set.dropReleased h.issue)
theorem State.Inv.execTrap (h : s.Inv) {t m : Nat} : Keeps (execTrap t m s) := .next h.issue
theorem State.Inv.execSadd (h : s.Inv) {t m : Nat} : Keeps (execSadd t m s) := .next h.issue
theorem State.Inv.execSsub (h : s.Inv) {t m : Nat} : Keeps (execSsub t m s) := .next h.issue
theorem State.Inv.execSmov (h : s.Inv) {t m : Nat} : Keeps (execSmov t m s) := .next h.issue
theorem State.Inv.execSand (h : s.Inv) {t m : Nat} : Keeps (execSand t m s) := .next h.issue
theorem State.Inv.execSor (h : s.Inv) {t m : Nat} : Keeps (execSor t m s) := .next h.issue

theorem State.Inv.issueFree (h : s.Inv) {n t m op : Nat} {u : Uses} {body : Nat → State → Chan → Eng → IWord → Effect} :
    (s.issueFree n t m op u body).Inv := h.upd.issue

theorem State.Inv.execSshl (h : s.Inv) {t m : Nat} : Keeps (execSshl t m s) := .next h.issueFree
theorem State.Inv.execSshr (h : s.Inv) {t m : Nat} : Keeps (execSshr t m s) := .next h.issueFree
theorem State.Inv.execSmul (h : s.Inv) {t m : Nat} : Keeps (execSmul t m s) := .next h.issue
theorem State.Inv.execSrd (h : s.Inv) {t m : Nat} : Keeps (execSrd t m s) := .next h.issueFree
theorem State.Inv.execVadd (h : s.Inv) {t m : Nat} : Keeps (execVadd t m s) := .next h.issue
theorem State.Inv.execVsub (h : s.Inv) {t m : Nat} : Keeps (execVsub t m s) := .next h.issue
theorem State.Inv.execVmin (h : s.Inv) {t m : Nat} : Keeps (execVmin t m s) := .next h.issue
theorem State.Inv.execVmax (h : s.Inv) {t m : Nat} : Keeps (execVmax t m s) := .next h.issue
theorem State.Inv.execVand (h : s.Inv) {t m : Nat} : Keeps (execVand t m s) := .next h.issue
theorem State.Inv.execVor (h : s.Inv) {t m : Nat} : Keeps (execVor t m s) := .next h.issue
theorem State.Inv.execVxor (h : s.Inv) {t m : Nat} : Keeps (execVxor t m s) := .next h.issue
theorem State.Inv.execVshl (h : s.Inv) {t m : Nat} : Keeps (execVshl t m s) := .next h.issueFree
theorem State.Inv.execVshr (h : s.Inv) {t m : Nat} : Keeps (execVshr t m s) := .next h.issueFree
theorem State.Inv.execVsra (h : s.Inv) {t m : Nat} : Keeps (execVsra t m s) := .next h.issueFree
theorem State.Inv.execVsel (h : s.Inv) {t m : Nat} : Keeps (execVsel t m s) := .next h.issue
theorem State.Inv.execVcmp (h : s.Inv) {t m : Nat} : Keeps (execVcmp t m s) := .next h.issue
theorem State.Inv.execVmov (h : s.Inv) {t m : Nat} : Keeps (execVmov t m s) := .next h.issue
theorem State.Inv.execViota (h : s.Inv) {t m : Nat} : Keeps (execViota t m s) := .next h.issue
theorem State.Inv.execVmul (h : s.Inv) {t m : Nat} : Keeps (execVmul t m s) := .next h.issue
theorem State.Inv.execVmulw (h : s.Inv) {t m : Nat} : Keeps (execVmulw t m s) := .next h.issue
theorem State.Inv.execVmac (h : s.Inv) {t m : Nat} : Keeps (execVmac t m s) := .next h.issue
theorem State.Inv.execVnarrow (h : s.Inv) {t m : Nat} : Keeps (execVnarrow t m s) := .next h.issue
theorem State.Inv.execVslide (h : s.Inv) {t m : Nat} : Keeps (execVslide t m s) := .next h.issue
theorem State.Inv.execVbcast (h : s.Inv) {t m : Nat} : Keeps (execVbcast t m s) := .next h.issue
theorem State.Inv.execVperm (h : s.Inv) {t m : Nat} : Keeps (execVperm t m s) := .next h.issue
theorem State.Inv.execLdl (h : s.Inv) {t m : Nat} : Keeps (execLdl t m s) := .next h.issue
theorem State.Inv.execStl (h : s.Inv) {t m : Nat} : Keeps (execStl t m s) := .next h.issue
theorem State.Inv.execLdgl (h : s.Inv) {t m : Nat} : Keeps (execLdgl t m s) := .next h.issue
theorem State.Inv.execLdt (h : s.Inv) {t m : Nat} : Keeps (execLdt t m s) := .next h.issue
theorem State.Inv.execStt (h : s.Inv) {t m : Nat} : Keeps (execStt t m s) := .next h.issue
theorem State.Inv.execLdtm (h : s.Inv) {t m : Nat} : Keeps (execLdtm t m s) := .next h.issue
theorem State.Inv.execCurve (h : s.Inv) {t m : Nat} : Keeps (execCurve t m s) := .next h.issueFree
theorem State.Inv.execEdstep (h : s.Inv) {t m : Nat} : Keeps (execEdstep t m s) := .next h.issueFree
theorem State.Inv.execEmit (h : s.Inv) {t m : Nat} : Keeps (execEmit t m s) := .next h.issue
theorem State.Inv.sendEdge (h : s.Inv) {t m op : Nat} {right : Bool} : (s.sendEdge t m op right).Inv := h.issue

theorem State.Inv.recvEdge (h : s.Inv) {t m op : Nat} {left : Bool} : (s.recvEdge t m op left).Inv := by
  unfold State.recvEdge
  dsimp only
  split
  · exact .ite h.issue.setEng h.issue
  · exact h.issue

theorem State.Inv.execSendr (h : s.Inv) {t m : Nat} : Keeps (execSendr t m s) := .next h.sendEdge
theorem State.Inv.execSendl (h : s.Inv) {t m : Nat} : Keeps (execSendl t m s) := .next h.sendEdge
theorem State.Inv.execRecvl (h : s.Inv) {t m : Nat} : Keeps (execRecvl t m s) := .next h.recvEdge
theorem State.Inv.execRecvr (h : s.Inv) {t m : Nat} : Keeps (execRecvr t m s) := .next h.recvEdge

theorem State.Inv.execEdgeWaitResume (h : s.Inv) {t m : Nat} : Keeps (execEdgeWaitResume t m s) :=
  .next (.ite (by dsimp only; split; exacts [h.setEng.sendEdge, h.setEng.sendEdge, h.setEng.recvEdge, h.setEng.recvEdge, h]) h)

theorem State.Inv.execLineComplete (h : s.Inv) {t : Nat} : Keeps (execLineComplete t s) :=
  .next (by split; exacts [h, h.when (fun _ h => .set (.ite h.setChan h.setChan))])

theorem State.Inv.execTunFault (h : s.Inv) {t m code count : Nat} : Keeps (execTunFault t m code count s) := .next (h.when (fun _ h => h.faultTun))
theorem State.Inv.execSliceOverrun (h : s.Inv) {t m : Nat} : Keeps (execSliceOverrun t m s) := .next (h.when (fun _ h => h.faultTun))
theorem State.Inv.applyRecord (h : s.Inv) {t : Nat} {r : Nat × Nat × List Byte} : (s.applyRecord t r).Inv := .ite h (.ite h.setChan h.setEng)

theorem State.Inv.loadTun (h : s.Inv) {t : Nat} {keepCarry : Bool} : (s.loadTun t keepCarry).Inv :=
  (h.each (fun _ h _ => h.setEng)).andThen fun h1 => .andThen (.ite h1 h1.setChan) fun h2 => (h2.foldl (fun _ h _ => h.applyRecord)).andThen fun h3 =>
    h3.set.set.set.set.set

theorem State.Inv.execTunPausePoint (h : s.Inv) {t : Nat} : Keeps (execTunPausePoint t s) :=
  .next (by split; exacts [h, h.when (fun _ h => h.setChan.on)])

/-! ## Screening -/

theorem State.Inv.sramWr (h : s.Inv) {t a : Nat} {bs : List Byte} : (s.sramWr t a bs).Inv := h.setChan

theorem State.Inv.writeBank (h : s.Inv) {t b : Nat} {map : List Nat} {param : List Byte} {curves : List (Nat × List Byte)} :
    (s.writeBank t b map param curves).Inv := (h.foldl (fun _ h _ => h.sramWr)).andThen fun h1 => h1.sramWr.sramWr

theorem State.Inv.writeTables (h : s.Inv) {t bank : Nat} {b : List Byte} {slots : List Nat} : (s.writeTables t bank b slots).Inv := h.writeBank
theorem State.Inv.willClear (h : s.Inv) {t y : Nat} : (s.willClear t y).Inv := h.setChan
theorem State.Inv.loadTables (h : s.Inv) {t y : Nat} : (s.loadTables t y).Inv := .ite h.setChan.writeTables.willClear h
theorem State.Inv.dropTables (h : s.Inv) {t : Nat} : (s.dropTables t).Inv := h.setChan.set

theorem State.Inv.prepShadow (h : s.Inv) {t : Nat} : (s.prepShadow t).Inv := by
  unfold State.prepShadow
  extract_lets stale _ s1
  have h1 : s1.Inv := h.onlyIf fun h => h.setChan
  split
  · exact h1
  · exact .ite h1 (by split; exacts [h1, .ite h1 h1.writeTables.setChan])

theorem State.Inv.prepShadows (h : s.Inv) : s.prepShadows.Inv := h.each (fun _ h _ => h.prepShadow)
theorem State.Inv.switchGen (h : s.Inv) {t y : Nat} : (s.switchGen t y).Inv := h.setChan.willClear.set
theorem State.Inv.execGenerationSwitch (h : s.Inv) {t : Nat} : Keeps (execGenerationSwitch t s) := .next (h.when (fun _ h => h.switchGen))
theorem State.Inv.freeBlock (h : s.Inv) {t y : Nat} : (s.freeBlock t y).Inv := h.setChan

theorem State.Inv.execSliceStart (h : s.Inv) {t m : Nat} : Keeps (execSliceStart t m s) :=
  .next (by split; exacts [h, h.when (fun _ h => .andThen (.ite h h.setChan) fun h1 => h1.setEng.freeBlock.prepShadow)])

theorem State.Inv.bridgeSet (h : s.Inv) {t w v : Nat} : (s.bridgeSet t w v).Inv := h.setChan

theorem State.Inv.execScrBridgeSetWrite (h : s.Inv) {t w v : Nat} : Keeps (execScrBridgeSetWrite t w v s) :=
  .next (h.when (fun _ h => h.reach (fun _ h => h.bridgeSet)))

theorem State.Inv.bridgeClr (h : s.Inv) {t w v : Nat} : (s.bridgeClr t w v).Inv := h.setChan

theorem State.Inv.execScrBridgeClrWrite (h : s.Inv) {t w v : Nat} : Keeps (execScrBridgeClrWrite t w v s) :=
  .next (h.when (fun _ h => h.reach (fun _ h => h.bridgeClr)))

theorem State.Inv.bridgeBoundary (h : s.Inv) {t y : Nat} : (s.bridgeBoundary t y).Inv := (h.onlyIf fun h => h.set).setChan
theorem State.Inv.bridgeApply (h : s.Inv) {t : Nat} : (s.bridgeApply t).Inv := h.setChan

theorem State.Inv.execScrBridgeApply (h : s.Inv) {t : Nat} : Keeps (execScrBridgeApply t s) :=
  .next (h.when (fun _ h => h.reach (fun _ h => h.bridgeApply)))

theorem State.Inv.execScrBridgeLostClr (h : s.Inv) {t : Nat} : Keeps (execScrBridgeLostClr t s) := .next (h.reach (fun _ h => h.set))
theorem State.Inv.execScrClipClr (h : s.Inv) {t : Nat} : Keeps (execScrClipClr t s) := .next (h.reach (fun _ h => h.set))

/-! ## Pages and extents -/

theorem State.Inv.mapExtents (h : s.Inv) {d : Desc} : (s.mapExtents d).Inv := h.upd
theorem State.Inv.jsaMap (h : s.Inv) {hd : Nat} {d : Desc} : (s.jsaMap hd d).Inv := .ite h.finish h.mapExtents.out.done

theorem State.Inv.execJsaMap (h : s.Inv) {d : Desc} {told : Bool} : Keeps (execJsaMap d s told) :=
  .next (.ite (h.when (fun _ h => h.mapExtents)) (h.submit (fun _ _ h => h.firmware (fun _ h => h.jsaMap))))

theorem State.Inv.setPage (h : s.Inv) {p : Page} : (s.setPage p).Inv := h.upd
theorem State.Inv.addGap (h : s.Inv) {first n : Nat} : (s.addGap first n).Inv := .ite h h.upd
theorem State.Inv.addPage (h : s.Inv) {p : Page} : (s.addPage p).Inv := h.addGap.upd.on

theorem State.Inv.pageTold (h : s.Inv) {d : Desc} {first : Nat} : (s.pageTold d first).Inv := by
  unfold State.pageTold
  dsimp only
  split
  · exact h.setPage
  · exact h.addPage

theorem State.Inv.execPageSubmit (h : s.Inv) {d : Desc} {told : Option Nat} : Keeps (execPageSubmit d s told) :=
  .next (by split; exacts [h.when (fun _ h => h.pageTold), h.submit (fun _ _ h => (by split; exacts [h.setPage.out.report, h.addPage.out.report]))])

theorem State.Inv.endPage (h : s.Inv) {p : Page} {fired : Nat} : (s.endPage p fired).Inv := .ite h.setPage.finish h.setPage.finish

theorem State.Inv.execPageComplete (h : s.Inv) {id fired : Nat} : Keeps (execPageComplete id fired s) :=
  .next (by split; exacts [h, h.when (fun _ h => h.endPage)])

theorem State.Inv.logFault (h : s.Inv) {cause ch : Nat} : (s.logFault cause ch).Inv := h.set.set.bump

theorem State.Inv.pageFault (h : s.Inv) {id cause bar line : Nat} : (s.pageFault id cause bar line).Inv := by
  unfold State.pageFault
  split
  · exact h
  · exact .ite h.setPage.finish h.setPage

theorem State.Inv.noteFault (h : s.Inv) {id key k slot : Nat} : (s.noteFault id key k slot).Inv := by
  unfold State.noteFault
  split
  · exact h
  · exact h.setPage

theorem State.Inv.execPageFault (h : s.Inv) {id cause bar line strip block slot : Nat} :
    Keeps (execPageFault id cause bar line strip block s slot) :=
  .next (h.when (fun _ h => .ite h.noteFault.pageFault (.ite h.noteFault.out h.noteFault)))

theorem State.Inv.dropPage (h : s.Inv) {p : Page} {from_ : Nat} : (s.dropPage p from_).Inv :=
  (h.each (fun _ h _ => h.setChan)).andThen fun h1 => h1.upd.addGap

theorem State.Inv.execPageCancel (h : s.Inv) {d : Desc} {elsewhere : Bool} {told : Option Nat} : Keeps (execPageCancel d elsewhere s told) :=
  .next (by
    split
    · exact h.when (fun _ h => (by split; exacts [h.setPage.dropPage, h]))
    · exact h.submit (fun _ _ h => (by split; exacts [h.done, (h.setPage.dropPage.out.onlyIf fun h => h.finish).done])))

theorem State.Inv.closeExtents (h : s.Inv) {r : Nat × Nat} : (s.closeExtents r).Inv := h.upd
theorem State.Inv.dropExtents (h : s.Inv) {r : Nat × Nat} : (s.dropExtents r).Inv := h.upd
theorem State.Inv.jsaUnmap (h : s.Inv) {hd : Nat} {d : Desc} : (s.jsaUnmap hd d).Inv := h.closeExtents.upd.out

theorem State.Inv.execJsaUnmap (h : s.Inv) {d : Desc} {told : Bool} : Keeps (execJsaUnmap d s told) :=
  .next (.ite (h.when (fun _ h => h.closeExtents)) (h.submit (fun _ _ h => h.firmware (fun _ h => h.jsaUnmap))))

theorem State.Inv.execUnmapComplete (h : s.Inv) {hd : Nat} {elsewhere : Bool} {told : Option (Nat × Nat)} :
    Keeps (execUnmapComplete hd s elsewhere told) :=
  .next (by split; exacts [h.when (fun _ h => h.dropExtents), (by split; exacts [h, h.when (fun _ h => h.upd.dropExtents.out.done)])])

theorem State.Inv.sendBlock (h : s.Inv) {p : Page} {x : Strip} {k : Nat} : (s.sendBlock p x k).Inv := h.out

theorem State.Inv.execBlockSend (h : s.Inv) {id plane strip : Nat} {again : Option Nat} {counts : List (Nat × Nat)} :
    Keeps (execBlockSend id plane strip s again counts) :=
  .next (by
    split
    · exact h
    · exact h.when (fun _ h => (by
        split
        · exact h.when (fun _ h => h.sendBlock)
        · exact .ite h (by split; exacts [h.when (fun _ h => h.setPage.upd.sendBlock), .ite h.logFault.noteFault.pageFault h.logFault.noteFault.out]))))

theorem State.Inv.execIntFaultLogClr (h : s.Inv) : Keeps (execIntFaultLogClr s) := .next (h.reach (fun _ h => h.clear))

/-! ## Intake -/

theorem State.Inv.rejoin (h : s.Inv) {c page low : Nat} : (s.rejoin c page low).Inv := h.setChan
theorem State.Inv.rejoinPage (h : s.Inv) {c : Nat} : (s.rejoinPage c).Inv := h.rejoin
theorem State.Inv.rejoinDevice (h : s.Inv) {c : Nat} : (s.rejoinDevice c).Inv := h.rejoin
theorem State.Inv.joinAt (h : s.Inv) {c y : Nat} : (s.joinAt c y).Inv := .ite h.setChan h
theorem State.Inv.applyReservoir (h : s.Inv) {c : Nat} {b : List Byte} : (s.applyReservoir c b).Inv := h.set.set.set.set.set

theorem State.Inv.execIntakeCreditGrant (h : s.Inv) {dev c n intake : Nat} : Keeps (execIntakeCreditGrant dev c n intake s) :=
  .next (h.when (fun _ h => (h.onlyIf fun h => h.setChan.out).andThen fun h1 => .ite h1 h1.upd))

theorem State.Inv.learnPage (h : s.Inv) {id first lines gap : Nat} {last : Bool} : (s.learnPage id first lines gap last).Inv := .ite h h.addPage

theorem State.Inv.execBlockArrival (h : s.Inv) {c : Nat} {x : Arrival} : Keeps (execBlockArrival c x s) :=
  .next (h.when (fun _ h => .ite h.learnPage.setChan h.learnPage.setChan))

theorem State.Inv.blockFailed (h : s.Inv) {i c cause : Nat} {b : QBlock} : (s.blockFailed i c cause b).Inv :=
  .ite h.bump.set.set.setChan.out h.bump.set.set.setChan.logFault.out

theorem State.Inv.execBlockDecodeStart (h : s.Inv) {c : Nat} : Keeps (execBlockDecodeStart c s) :=
  .next (by split; exacts [h.when (fun _ h => .ite h.setChan h.blockFailed), h])

theorem State.Inv.execBlockCheckDone (h : s.Inv) {i j : Nat} : Keeps (execBlockCheckDone i j s) :=
  .next (by split; exacts [h, (by split; exacts [h, (by dsimp only; split; exacts [h.set.setChan, h.blockFailed])])])

theorem State.Inv.execBlockRelease (h : s.Inv) {c : Nat} : Keeps (execBlockRelease c s) :=
  .next (by split; exacts [h, .ite h (.ite h.setChan (by split; exacts [h, h.when (fun _ h => h.setChan.sramWr)]))])

theorem State.Inv.execCdcFailClr (h : s.Inv) {i : Nat} : Keeps (execCdcFailClr i s) := .next (h.reach (fun _ h => h.clear))

theorem State.Inv.execGrantRefill (h : s.Inv) {c : Nat} : Keeps (execGrantRefill c s) :=
  .next (by split; exacts [h, .ite h (.ite h.setChan (h.when (fun _ h => h.setChan)))])

theorem State.Inv.levelTest (h : s.Inv) {c : Nat} : (s.levelTest c).Inv :=
  .ite h.off.off ((h.onlyIf fun h => h.telEvent).andThen fun h1 => .ite (.set (.off (.ite h1.rejoinPage h1))) ((h1.onlyIf fun h =>
    h.bump.upd).set.set))

theorem State.Inv.execUbLateCountClr (h : s.Inv) {c : Nat} : Keeps (execUbLateCountClr c s) := .next (h.reach (fun _ h => h.set))

theorem State.Inv.execArchiveSetup (h : s.Inv) {d : Desc} : Keeps (execArchiveSetup d s) :=
  .next (h.submit (fun _ _ h => .ite h.upd.bump.done h.upd.done))

theorem State.Inv.execArchiveRead (h : s.Inv) {d : Desc} : Keeps (execArchiveRead d s) := .next (h.submit (fun _ _ h => h.hostWrs.done))
theorem State.Inv.setEnc (h : s.Inv) {i : Nat} {e : EncLane} : (s.setEnc i e).Inv := h.upd
theorem State.Inv.encPut (h : s.Inv) {i : EncItem} : (s.encPut i).Inv := .ite h.setEnc h

theorem State.Inv.encLine (h : s.Inv) {x frame time depth comp : Nat} {row : List (List Nat)} : (s.encLine x frame time depth comp row).Inv :=
  h.encPut

theorem State.Inv.encEnd (h : s.Inv) {x frame : Nat} : (s.encEnd x frame).Inv := h.encPut
theorem State.Inv.encDrop (h : s.Inv) {x frame : Nat} : (s.encDrop x frame).Inv := h.setEnc
theorem State.Inv.execArchiveBlockClose (h : s.Inv) {x : Nat} : Keeps (execArchiveBlockClose x s) := .next (h.when (fun _ h => h.setEnc))
theorem State.Inv.encFlush (h : s.Inv) {i : Nat} : (s.encFlush i).Inv := .ite h h.setEnc
theorem State.Inv.execCdcEncFlush (h : s.Inv) {i : Nat} : Keeps (execCdcEncFlush i s) := .next (h.when (fun _ h => h.reach (fun _ h => h.encFlush)))

theorem State.Inv.execArchiveFrameWrite (h : s.Inv) {x : Nat} : Keeps (execArchiveFrameWrite x s) :=
  .next (by split; exacts [h, h.when (fun _ h => .ite h.setEnc.bump (.ite h.setEnc.bump.upd h.setEnc.bump.upd))])

theorem State.Inv.execIntArchDroppedClr (h : s.Inv) : Keeps (execIntArchDroppedClr s) := .next (h.reach (fun _ h => h.set))

/-! ## The Kiln -/

theorem State.Inv.sendFrame (h : s.Inv) {c : Nat} {p : Prep} : (s.sendFrame c p).Inv := h.out.out

theorem State.Inv.sealKiln (h : s.Inv) {payload : List Byte} {key : Nat} : (s.sealKiln payload key).Inv := by
  unfold State.sealKiln
  split
  · exact h
  · exact h.upd.each (fun _ h _ => h.foldl (fun _ h _ => .ite h h.setChan.sendFrame))

theorem State.Inv.countClip (h : s.Inv) {c y removed slot cause : Nat} : (s.countClip c y removed slot cause).Inv :=
  .ite (.ite h.bump.bump.set.set.set.set.upd h.bump.bump.set.set.set.set.upd.on.vector) h.bump.bump.set.set.set.set.upd

theorem State.Inv.headPower (h : s.Inv) {c : Nat} {on : Bool} : (s.headPower c on).Inv := h.setChan.upd.putB.set.out
theorem State.Inv.cutHeads (h : s.Inv) : s.cutHeads.Inv := h.each (fun _ h _ => .ite h.setChan h)
theorem State.Inv.hpwrReq (h : s.Inv) {i v : Nat} : (s.hpwrReq i v).Inv := h.set.cutHeads

theorem State.Inv.execKilnHpwrReqWrite (h : s.Inv) {i v : Nat} : Keeps (execKilnHpwrReqWrite i v s) :=
  .next (h.when (fun _ h => h.reach (fun _ h => h.hpwrReq)))

theorem State.Inv.execHeadPowerOn (h : s.Inv) {c : Nat} : Keeps (execHeadPowerOn c s) := .next (h.when (fun _ h => h.headPower))
theorem State.Inv.execPwrSettleExpiry (h : s.Inv) {c : Nat} : Keeps (execPwrSettleExpiry c s) := .next (h.when (fun _ h => h.setChan))
theorem State.Inv.execHeadPowerOff (h : s.Inv) {c : Nat} : Keeps (execHeadPowerOff c s) := .next (h.when (fun _ h => h.headPower))
theorem State.Inv.execKilnClipLinesClr (h : s.Inv) : Keeps (execKilnClipLinesClr s) := .next (h.reach (fun _ h => h.clear))
theorem State.Inv.execKilnUnsealedClr (h : s.Inv) : Keeps (execKilnUnsealedClr s) := .next (h.reach (fun _ h => h.set))
theorem State.Inv.execKilnChClipClr (h : s.Inv) {c : Nat} : Keeps (execKilnChClipClr c s) := .next (h.when (fun _ h => h.reach (fun _ h => h.set)))

/-! ## Encoders -/

theorem State.Inv.setScale (h : s.Inv) {x : Nat} {e : Scale} : (s.setScale x e).Inv := h.upd
theorem State.Inv.seti (h : s.Inv) {f : Fld} {v : Int} {i k : Nat} : (s.seti f v i k).Inv := h.set
theorem State.Inv.setSat (h : s.Inv) {f : Fld} {v : Int} {i k : Nat} : (s.setSat f v i k).Inv := h.seti
theorem State.Inv.showSlip (h : s.Inv) : s.showSlip.Inv := h.setSat
theorem State.Inv.drShow (h : s.Inv) : s.drShow.Inv := (h.onlyIf fun h => h.seti.seti).showSlip

theorem State.Inv.execEncoderSample (h : s.Inv) {x sin cos : Nat} : Keeps (execEncoderSample x sin cos s) :=
  .next (h.when (fun _ h => .ite (.andThen (.ite h.set.set.setScale.seti h.set.set.setScale.seti.seti) fun h1 =>
    .ite h1.showSlip h1) h.set.set.setScale))

theorem State.Inv.encAtLine (h : s.Inv) {t : Nat} : (s.encAtLine t).Inv := .ite h ((h.onlyIf fun h => h.seti).setScale)

theorem State.Inv.execEncDirChange (h : s.Inv) {x : Nat} : Keeps (execEncDirChange x s) :=
  .next (h.when (fun _ h => (h.putB.setScale.putB.onlyIf fun h => h.msix).andThen fun h1 => .ite h1.bump h1))

theorem State.Inv.execEncUncmdClr (h : s.Inv) : Keeps (execEncUncmdClr s) := .next (h.reach (fun _ h => h.set))
theorem State.Inv.execEncAmpClr (h : s.Inv) {x : Nat} : Keeps (execEncAmpClr x s) := .next (h.when (fun _ h => h.reach (fun _ h => h.set)))
theorem State.Inv.execEncFaultClr (h : s.Inv) {x : Nat} : Keeps (execEncFaultClr x s) := .next (h.when (fun _ h => h.reach (fun _ h => h.clear)))
theorem State.Inv.applyEncoder (h : s.Inv) {b : List Byte} : (s.applyEncoder b).Inv := h.upd.set.set

/-! ## Sensing -/

theorem State.Inv.setSense (h : s.Inv) {c : Nat} {x : Sense} : (s.setSense c x).Inv := h.upd
theorem State.Inv.setTs (h : s.Inv) {q : Nat} {x : Ts} : (s.setTs q x).Inv := h.upd
theorem State.Inv.offer (h : s.Inv) {e : SgEvent} : (s.offer e).Inv := .ite h.upd h
theorem State.Inv.senseLine (h : s.Inv) {c : Nat} : (s.senseLine c).Inv := .ite h.setSense h
theorem State.Inv.senseStrobe (h : s.Inv) {c at_ j nf width : Nat} : (s.senseStrobe c at_ j nf width).Inv := .ite h.setSense.offer h

/-! ## Firing -/

theorem State.Inv.execBadTriggerFrame (h : s.Inv) {f : Nat} : Keeps (execBadTriggerFrame f s) := .next (h.when (fun _ h => h.bump))
theorem State.Inv.withhold (h : s.Inv) : s.withhold.Inv := h.on.on.bump.noteCoverage

theorem State.Inv.lineFrame (h : s.Inv) {n ref : Nat} : (s.lineFrame n ref).Inv :=
  (h.onlyIf fun h => h.bump).andThen fun h1 => .ite h1.upd h1.upd.withhold

theorem State.Inv.execLineEventFrame (h : s.Inv) {f ref : Nat} : Keeps (execLineEventFrame f ref s) := .next (h.when (fun _ h => h.lineFrame))
theorem State.Inv.execStopDistanceFrame (h : s.Inv) {f : Nat} : Keeps (execStopDistanceFrame f s) := .next (h.when (fun _ h => h.upd.set))
theorem State.Inv.showMinPulse (h : s.Inv) : s.showMinPulse.Inv := h.set.set
theorem State.Inv.setSetup (h : s.Inv) {y : Nat} {u : Setup} : (s.setSetup y u).Inv := h.upd.set.set.set.set.set.set.set

theorem State.Inv.yieldCommit (h : s.Inv) {y : Nat} : (s.yieldCommit y).Inv := by
  unfold State.yieldCommit
  extract_lets _ s1
  have h1 : s1.Inv := by
    unfold s1
    split
    · exact .ite h.upd.off.finish h
    · exact h
  split
  · exact .ite (.ite h1.upd.finish.off h1.upd.finish) h1
  · exact h1

theorem State.Inv.applyFireSetup (h : s.Inv) {y : Nat} {b : List Byte} : (s.applyFireSetup y b).Inv :=
  h.setSetup.set.set.set.set.showMinPulse.yieldCommit

theorem State.Inv.dropSetup (h : s.Inv) : s.dropSetup.Inv := h.upd.clear

theorem State.Inv.applyGeom (h : s.Inv) {c : Nat} {b : List Byte} : (s.applyGeom c b).Inv :=
  .ite h.showMinPulse h.set.set.set.set.set.set.set.showMinPulse

theorem State.Inv.enableChannel (h : s.Inv) {c : Nat} : (s.enableChannel c).Inv := h.on.set.set.off
theorem State.Inv.execFireCommit (h : s.Inv) {d : Desc} : Keeps (execFireCommit d s) := .next (h.submit (fun _ _ h => h.upd.on.set.report))

theorem State.Inv.testCommit (h : s.Inv) {y : Nat} : (s.testCommit y).Inv := by
  unfold State.testCommit
  split
  · exact .ite (.ite h.upd.off.setSetup h.upd) h
  · exact h

theorem State.Inv.endCommit (h : s.Inv) {y : Nat} : (s.endCommit y).Inv := by
  unfold State.endCommit
  split
  · exact .ite (by dsimp only; split; exacts [h.upd.finish, h.upd.off.finish]) h
  · exact h

theorem State.Inv.tailPut (h : s.Inv) {c : Nat} {l : TailLine} : (s.tailPut c l).Inv := .ite h.setChan.bump h.setChan

theorem State.Inv.enterTail (h : s.Inv) {c y : Nat} {p : Option Prep} : (s.enterTail c y p).Inv := by
  unfold State.enterTail
  dsimp only
  split
  · exact h.tailPut.setChan
  · exact h.tailPut

theorem State.Inv.enterRow (h : s.Inv) {c y : Nat} {codes : List Nat} : (s.enterRow c y codes).1.Inv := h.bridgeBoundary.setChan

theorem State.Inv.prepare (h : s.Inv) {c y : Nat} {l : Line × Bool} {rest : Bool} {from_ : Nat} : (s.prepare c y l rest from_).Inv :=
  h.enterRow.setChan.sendFrame

theorem State.Inv.countPrep (h : s.Inv) {c : Nat} {p : Prep} : (s.countPrep c p).Inv := by
  unfold State.countPrep
  dsimp only
  split
  · exact .ite h.bump.bump h.bump.bump.countClip
  · exact h.bump.bump

theorem State.Inv.execLineTake (h : s.Inv) {c at_ : Nat} : Keeps (execLineTake c at_ s) :=
  .next (by split; exacts [h, h.when (fun _ h => h.testCommit.prepare)])

theorem State.Inv.execFirstLinePrepare (h : s.Inv) {c at_ : Nat} : Keeps (execFirstLinePrepare c at_ s) :=
  .next (by split; exacts [h, h.when (fun _ h => h.testCommit.prepare)])

theorem State.Inv.stepTrim (h : s.Inv) {c : Nat} : (s.stepTrim c).Inv := .ite h h.set.set
theorem State.Inv.markUnfired (h : s.Inv) {c y : Nat} : (s.markUnfired c y).Inv := h.setChan

theorem State.Inv.missLine (h : s.Inv) {y : Nat} : (s.missLine y).Inv :=
  h.bump.each (fun _ h _ => .ite (.andThen (by split; exacts [h.countPrep, h.enterRow.bump.bump, h]) fun h1 =>
    h1.enterTail.markUnfired.bump.setChan) h)

theorem State.Inv.useGrant (h : s.Inv) {y : Nat} : (s.useGrant y).Inv := h.each (fun _ h _ => h.setChan)
theorem State.Inv.planTrigger (h : s.Inv) {y t p x : Nat} : (s.planTrigger y t p x).Inv := .ite h.upd h
theorem State.Inv.writeComp (h : s.Inv) {v : Nat} : (s.writeComp v).Inv := .ite h.on h.set

theorem State.Inv.setHold (h : s.Inv) {m : Nat} : (s.setHold m).Inv :=
  (h.foldl (fun _ h _ => .ite h h.set)).andThen fun h1 => (((h1.onlyIf fun h => h.hpwrReq.hpwrReq).onlyIf fun h =>
    h.set.upd.each (fun _ h _ => h.off)).foldl (fun _ h _ => .ite h h.rejoinDevice)).noteCoverage

theorem State.Inv.holdBit (h : s.Inv) {i : Nat} {on : Bool} : (s.holdBit i on).Inv := h.setHold

theorem State.Inv.takeNotice (h : s.Inv) {y : Nat} : (s.takeNotice y).Inv := by
  unfold State.takeNotice
  split
  · exact h
  · exact .ite h (.ite h.upd.writeComp.holdBit (.holdBit (.ite h.upd.writeComp h.upd)))

theorem State.Inv.endReleases (h : s.Inv) {y : Nat} : (s.endReleases y).Inv := h.foldl (fun _ h _ => .ite h (.ite h.upd.out h.upd.finish))
theorem State.Inv.sendDigests (h : s.Inv) {y : Nat} : (s.sendDigests y).Inv := .ite h (h.foldl (fun _ h _ => h.foldl (fun _ h _ => h.out)))

theorem State.Inv.execLineEventApply (h : s.Inv) : Keeps (execLineEventApply s) :=
  .next (.ite h (by
    split
    · exact h
    · exact (h.upd.foldl (fun _ h _ => h.missLine)).andThen fun h1 => ((h1.useGrant.set.set.onlyIf fun h =>
        h.bump).encAtLine.takeNotice.upd.set.testCommit.endCommit.takeCalib.each (fun _ h _ => .ite h.stepTrim.joinAt.setChan
        h.stepTrim.joinAt)).andThen fun h2 => (h2.cutHeads.endReleases.noteCoverage.sendDigests.each (fun _ h _ => h.levelTest)).andThen fun h3 =>
        (h3.each (fun _ h _ => h.planTrigger)).andThen fun h4 => .ite h4.offer.upd.out h4.offer))

theorem State.Inv.execWithheldResync (h : s.Inv) : Keeps (execWithheldResync s) := .next (h.when (fun _ h => h.off.off.noteCoverage.out))
theorem State.Inv.dropLine (h : s.Inv) {c y : Nat} : (s.dropLine c y).Inv := .andThen (.ite h h.upd.bump) fun h1 => h1.bump.markUnfired.telEvent
theorem State.Inv.releaseFired (h : s.Inv) {c y : Nat} : (s.releaseFired c y).Inv := .ite h h.setChan
theorem State.Inv.passUnfired (h : s.Inv) {c y : Nat} : (s.passUnfired c y).Inv := .ite h.markUnfired.setChan h.markUnfired
theorem State.Inv.fireLine (h : s.Inv) {c f : Nat} {p : Prep} : (s.fireLine c f p).Inv := h.setChan.upd.set

theorem State.Inv.execLineFire (h : s.Inv) {c : Nat} : Keeps (execLineFire c s) := by
  refine .next (.ite h ?_)
  split
  · exact h
  · extract_lets p s1 s2 _ s3
    clear_value p
    have h1 : s1.Inv := by
      unfold s1
      split
      · exact h.countPrep
      · exact h
    have h3 : s3.Inv := h1.enterTail.setChan
    refine State.Inv.releaseFired ?_
    split
    · exact .ite h3.passUnfired h3.dropLine
    · exact .ite (.passUnfired (.ite h3.bump h3)) (.ite h3.passUnfired (.ite h3.dropLine h3.fireLine))

theorem State.Inv.countShots (h : s.Inv) {c : Nat} {l : List Nat} : (s.countShots c l).Inv := .ite h.upd.upd.telEvent h.upd

theorem State.Inv.execStrobeStart (h : s.Inv) {c : Nat} : Keeps (execStrobeStart c s) :=
  .next (by
    split
    · exact h
    · exact h.when (fun _ h => (h.setChan.onlyIf fun h => h.senseLine).andThen fun h1 => .ite h1 h1.out.out.countShots.senseStrobe))

theorem State.Inv.execFireTrigCompWrite (h : s.Inv) {v : Nat} : Keeps (execFireTrigCompWrite v s) := .next (h.reach (fun _ h => h.writeComp))
theorem State.Inv.writeTrim (h : s.Inv) {c v : Nat} : (s.writeTrim c v).Inv := .ite h (by split; exacts [.ite h.on h.set.set, h.set.set])

theorem State.Inv.execFireChTrimWrite (h : s.Inv) {c v : Nat} : Keeps (execFireChTrimWrite c v s) :=
  .next (h.when (fun _ h => h.reach (fun _ h => h.writeTrim)))

theorem State.Inv.execFireDroppedClr (h : s.Inv) : Keeps (execFireDroppedClr s) := .next (h.reach (fun _ h => h.set))
theorem State.Inv.execFireMissedClr (h : s.Inv) : Keeps (execFireMissedClr s) := .next (h.reach (fun _ h => h.set))
theorem State.Inv.execFireVoteClr (h : s.Inv) : Keeps (execFireVoteClr s) := .next (h.reach (fun _ h => h.clear))

theorem State.Inv.execFireChDroppedClr (h : s.Inv) {c : Nat} : Keeps (execFireChDroppedClr c s) :=
  .next (h.when (fun _ h => h.reach (fun _ h => h.set)))

/-! ## The Sight Glass -/

theorem State.Inv.fenceHead (h : s.Inv) {c cause : Nat} : (s.fenceHead c cause).Inv := h.recordFence.cutHeads.noteCoverage

theorem State.Inv.disarm (h : s.Inv) {q st result detail : Nat} : (s.disarm q st result detail).Inv := by
  unfold State.disarm
  split
  · exact h
  · exact h.setTs.putB.finish

theorem State.Inv.fenceSense (h : s.Inv) {c cause : Nat} : (s.fenceSense c cause).Inv :=
  .ite h ((h.recordFence.each (fun _ h _ => .ite h.disarm h)).andThen fun h1 => .ite h1.fenceHead h1)

theorem State.Inv.enterState (h : s.Inv) {q n : Nat} : (s.enterState q n).Inv := .ite h.setTs.setSense h.setTs
theorem State.Inv.busEnqueue (h : s.Inv) {g line offset : Nat} : (s.busEnqueue g line offset).Inv := .ite h.upd h.bump
theorem State.Inv.busOffer (h : s.Inv) {q line offset : Nat} : (s.busOffer q line offset).Inv := .ite h (.ite h.bump (.ite h.busEnqueue h.upd))

theorem State.Inv.seqEvent (h : s.Inv) {q : Nat} {e : SgEvent} : (s.seqEvent q e).Inv :=
  .ite h (.ite (.ite h.setTs h) (.ite h (.ite h.setTs (.ite h.setTs.busOffer h.enterState))))

theorem State.Inv.takeEvent (h : s.Inv) {e : SgEvent} : (s.takeEvent e).Inv := h.each (fun _ h _ => h.seqEvent)

theorem State.Inv.execSequencerEvent (h : s.Inv) {edge c at_ : Nat} : Keeps (execSequencerEvent edge c at_ s) :=
  .next (h.when (fun _ h => .ite (by split; exacts [h, h.upd.takeEvent]) (.ite h (.ite h.setSense h.setSense.takeEvent))))

theorem State.Inv.execSequencerTimeout (h : s.Inv) {q : Nat} : Keeps (execSequencerTimeout q s) := .next (h.when (fun _ h => h.enterState))
theorem State.Inv.execSequencerHoldoffEnd (h : s.Inv) {q : Nat} : Keeps (execSequencerHoldoffEnd q s) := .next (h.when (fun _ h => h.setTs))
theorem State.Inv.sgForce (h : s.Inv) {m : Nat} : (s.sgForce m).Inv := h.each (fun _ h _ => .ite h.offer h)
theorem State.Inv.execSgForce (h : s.Inv) {m : Nat} : Keeps (execSgForce m s) := .next (h.reach (fun _ h => h.sgForce))
theorem State.Inv.sgDisarm (h : s.Inv) {m : Nat} : (s.sgDisarm m).Inv := h.each (fun _ h _ => .ite h.disarm h)
theorem State.Inv.execSgDisarm (h : s.Inv) {m : Nat} : Keeps (execSgDisarm m s) := .next (h.reach (fun _ h => h.sgDisarm))

theorem State.Inv.countViol (h : s.Inv) {c : Nat} {b : List Byte} {kind point j t : Nat} : (s.countViol c b kind point j t).Inv :=
  .ite h.set.setSense h.set

theorem State.Inv.closeWins (h : s.Inv) {c : Nat} {keep : Option Nat} : (s.closeWins c keep).Inv := .ite h.setSense.set h.setSense

theorem State.Inv.judgeSample (h : s.Inv) {c t code : Nat} : (s.judgeSample c t code).Inv := by
  unfold State.judgeSample
  dsimp only
  split
  · exact .ite h.closeWins.setSense.countViol h.closeWins.setSense
  · exact (h.onlyIf fun h => h.closeWins).andThen fun h1 => .ite h1.setSense.countViol h1.setSense

theorem State.Inv.judgeAll (h : s.Inv) {c : Nat} : (s.judgeAll c).Inv := h.setSense.foldl (fun _ h _ => h.judgeSample)
theorem State.Inv.levelEvents (h : s.Inv) {c t old new : Nat} : (s.levelEvents c t old new).Inv := h.each (fun _ h _ => .ite h (.ite h.offer h))
theorem State.Inv.capture (h : s.Inv) {q t : Nat} : (s.capture q t).Inv := .ite h h.setTs

theorem State.Inv.execSenseSample (h : s.Inv) {t : Nat} {codes : List Nat} : Keeps (execSenseSample t codes s) :=
  .next (h.when (fun _ h => (h.each (fun _ h _ => .ite h (.ite h.levelEvents.setSense h.levelEvents.setSense.judgeAll))).andThen fun h1 =>
    h1.each (fun _ h _ => h.capture)))

theorem State.Inv.execSenseChannelFault (h : s.Inv) {c : Nat} : Keeps (execSenseChannelFault c s) := .next (h.when (fun _ h => h.fenceSense.on))

theorem State.Inv.execMaskViolation (h : s.Inv) {c : Nat} : Keeps (execMaskViolation c s) :=
  .next (by split; exacts [h, .ite h.setSense.set.set.set.set.set.bump.offer.fenceHead.on h.setSense.set.set.set.set.set.bump.offer])

theorem State.Inv.execSgViolClr (h : s.Inv) {c : Nat} : Keeps (execSgViolClr c s) := .next (h.when (fun _ h => h.reach (fun _ h => h.clear)))
theorem State.Inv.execSgArm (h : s.Inv) {d : Desc} : Keeps (execSgArm d s) := .next (h.submit (fun _ _ h => h.setTs.putB.putB.enterState))

theorem State.Inv.execCaptureComplete (h : s.Inv) {q : Nat} : Keeps (execCaptureComplete q s) :=
  .next (by split; exacts [h.when (fun _ h => h.setTs.putB.putB.finish), h])

theorem State.Inv.execSgRead (h : s.Inv) {d : Desc} : Keeps (execSgRead d s) := .next (h.submit (fun _ _ h => h.hostWrs.done))

theorem State.Inv.execBusTriggerForward (h : s.Inv) {g line offset : Nat} : Keeps (execBusTriggerForward g line offset s) :=
  .next (.ite (h.when (fun _ h => h.busEnqueue)) (by split; exacts [h, h.upd.out]))

theorem State.Inv.busTake (h : s.Inv) {f ref : Nat} : (s.busTake f ref).Inv := h.bump.offer
theorem State.Inv.execSgBusTriggerFrame (h : s.Inv) {f ref : Nat} : Keeps (execSgBusTriggerFrame f ref s) := .next (h.when (fun _ h => h.busTake))

theorem State.Inv.busSend (h : s.Inv) {ref : Nat} : (s.busSend ref).Inv :=
  h.upd.foldl (fun _ h _ => (by dsimp only; split; exacts [h.bump, .ite h.bump h.out.busTake]))

theorem State.Inv.execSgBusClr (h : s.Inv) : Keeps (execSgBusClr s) := .next (h.reach (fun _ h => h.clear))
theorem State.Inv.applySg (h : s.Inv) {old : List Byte} : (s.applySg old).Inv := h.each (fun _ h _ => .ite h h.disarm)

/-! ## Web motion -/

theorem State.Inv.setAxis (h : s.Inv) {a : Nat} {x : Axis} : (s.setAxis a x).Inv := h.upd

theorem State.Inv.startAxis (h : s.Inv) {a : Nat} {fwd : Bool} {x : Axis} : (s.startAxis a fwd x).Inv :=
  (h.putB.putB.putB.set.onlyIf fun h => h.out).andThen fun h1 => .ite h1.setAxis.upd.setScale.drShow h1.setAxis

theorem State.Inv.restOps (h : s.Inv) {a : Nat} {short : Bool} {st : Nat} : (s.restOps a short st).Inv := by
  unfold State.restOps
  extract_lets x s1 dist s2 s3
  have h2 : s2.Inv := by
    unfold s2
    split
    · exact h.setAxis.finish
    · exact h.setAxis
  have h3 : s3.Inv := by
    unfold s3
    split
    · exact h2.finish
    · exact h2
  exact h3.foldl (fun _ h _ => h.finish)

theorem State.Inv.stopsDone (h : s.Inv) : s.stopsDone.Inv := h.setAxis.foldl (fun _ h _ => h.finish)
theorem State.Inv.restAxis (h : s.Inv) {a : Nat} : (s.restAxis a).Inv := .ite h.putB.set.setAxis.drShow.upd h.putB.set.setAxis
theorem State.Inv.endJob (h : s.Inv) : s.endJob.Inv := h.upd.set
theorem State.Inv.closeJob (h : s.Inv) : s.closeJob.Inv := .ite h.endJob h

theorem State.Inv.hardStop (h : s.Inv) {a st : Nat} : (s.hardStop a st).Inv :=
  .ite h ((h.restAxis.putB.onlyIf fun h => h.seti.set.upd.set.drShow.closeJob).andThen fun h1 =>
    .andThen (by split; exacts [h1.setAxis.finish, h1]) fun h2 => h2.restOps)

theorem State.Inv.stopBy (h : s.Inv) {a : Nat} {p : Int} : (s.stopBy a p).Inv := .ite h.setAxis.upd h.setAxis
theorem State.Inv.rampStop (h : s.Inv) {a : Nat} {byStep : Bool} : (s.rampStop a byStep).Inv := .ite h h.stopBy
theorem State.Inv.planLast (h : s.Inv) {n : Nat} : (s.planLast n).Inv := .ite h.stopBy h.rampStop
theorem State.Inv.startOrigin (h : s.Inv) {v : Nat} {x : Axis} : (s.startOrigin v x).Inv := h.startAxis.off.upd
theorem State.Inv.holdWeb (h : s.Inv) : s.holdWeb.Inv := h.restAxis.putB.set.restOps
theorem State.Inv.setOut (h : s.Inv) : s.setOut.Inv := .ite h.upd.seti.restAxis.set.stopsDone (.ite h.upd.seti.holdWeb h.upd.seti.startAxis.set)
theorem State.Inv.position (h : s.Inv) : s.position.Inv := h.upd.set.setOut
theorem State.Inv.restart (h : s.Inv) {v : Nat} : (s.restart v).Inv := h.upd.off.setAxis.position

theorem State.Inv.setSpeed (h : s.Inv) {a hd v : Nat} : (s.setSpeed a hd v).Inv :=
  .ite (.andThen (by split; exacts [h.finish, h]) fun h1 => h1.setAxis) (.andThen (by split; exacts [h.finish, h]) fun h2 =>
    (h2.setAxis.onlyIf fun h => h.upd).andThen fun h3 =>
    .ite (.ite h3 h3.setOut) (.ite h3.setAxis (.ite h3 (.ite h3.setAxis (.ite h3.startAxis (.ite h3.restart h3.startOrigin))))))

theorem State.Inv.countRefused (h : s.Inv) {badRest : Bool} : (countRefused badRest s).Inv := .ite h h.bump

theorem State.Inv.execMotMove (h : s.Inv) {d : Desc} : Keeps (execMotMove d s) :=
  .next (h.submit (fun _ _ h => h.startAxis) (fun _ h => h.countRefused))

theorem State.Inv.execMotSpeed (h : s.Inv) {d : Desc} : Keeps (execMotSpeed d s) :=
  .next (h.submit (fun _ _ h => h.setSpeed) (fun _ h => h.countRefused))

theorem State.Inv.webStop (h : s.Inv) : s.webStop.Inv := .ite h.upd h.rampStop.set.upd

theorem State.Inv.motStop (h : s.Inv) {a hd mode : Nat} : (s.motStop a hd mode).Inv :=
  .ite (.ite h.setAxis.hardStop h.done) (.ite (.ite h.setAxis.rampStop h.done) (.ite h.setAxis.webStop (.ite h.webStop.done h.done)))

theorem State.Inv.execMotStop (h : s.Inv) {d : Desc} : Keeps (execMotStop d s) := .next (h.submit (fun _ _ h => h.motStop))

theorem State.Inv.execStepIssue (h : s.Inv) {a rate : Nat} : Keeps (execStepIssue a rate s) :=
  .next (h.when (fun _ h => .ite h.seti.set.out.setAxis.drShow h.seti.set.out.setAxis))

theorem State.Inv.execAxisAtRest (h : s.Inv) {a : Nat} : Keeps (execAxisAtRest a s) := by
  refine .next (.ite h.off.closeJob (.ite h ?_))
  extract_lets s1 s2
  have h2 : s2.Inv := h.restAxis.restOps.onlyIf fun h => h.off.closeJob
  split
  · exact h2.setAxis.setSpeed
  · exact h2

theorem State.Inv.execCruiseReached (h : s.Inv) {a : Nat} : Keeps (execCruiseReached a s) :=
  .next (by split; exacts [h, h.when (fun _ h => h.setAxis.done)])

theorem State.Inv.plainStop (h : s.Inv) {a : Nat} : (s.plainStop a).Inv := .ite h.rampStop.upd.set h.rampStop

theorem State.Inv.execLimitInput (h : s.Inv) {a : Nat} {fwd active : Bool} : Keeps (execLimitInput a fwd active s) :=
  .next (h.when (fun _ h => .andThen (.ite h.putB h.putB) fun h1 => .ite (.ite h1.putB.hardStop h1.putB.plainStop.putB) h1))

theorem State.Inv.execWebBreak (h : s.Inv) {active : Bool} : Keeps (execWebBreak active s) :=
  .next (.ite (h.set.on.each (fun _ h _ => .ite h.hardStop h)) h.set)

theorem State.Inv.execSplice (h : s.Inv) {active : Bool} : Keeps (execSplice active s) :=
  .next (.ite (.ite h.set.on.set.telEvent.webStop h.set.on.set.telEvent) h.set)

theorem State.Inv.execJobEndStop (h : s.Inv) : Keeps (execJobEndStop s) := .next (by split; exacts [h, h.when (fun _ h => h.planLast.upd)])

theorem State.Inv.execLineEventRaise (h : s.Inv) {ref : Nat} : Keeps (execLineEventRaise ref s) :=
  .next (h.when (fun _ h => .busSend (.lineFrame (.ite h.upd.out.out.set.upd.on h.upd.out.out.set.upd))))

theorem State.Inv.execSlavedModeExit (h : s.Inv) : Keeps (execSlavedModeExit s) := .next (h.when (fun _ h => h.off))
theorem State.Inv.blamePage (h : s.Inv) {y : Nat} : (s.blamePage y).Inv := h.upd

theorem State.Inv.execDataLateReport (h : s.Inv) {slot line : Nat} : Keeps (execDataLateReport slot line s) :=
  .next (.ite h.upd.upd (.ite h.upd.out h.upd))

theorem State.Inv.execBackstepStart (h : s.Inv) : Keeps (execBackstepStart s) := by
  refine .next (h.when fun s h => ?_)
  extract_lets stay s1 s2 s3 _ s4
  have h1 : s1.Inv := by
    unfold s1
    split
    · exact h.blamePage
    · exact h
  have h3 : s3.Inv := by
    unfold s3
    split
    · exact h1.rampStop.finish
    · exact h1.rampStop
  have h4 : s4.Inv := by
    unfold s4
    split
    · exact h3.setAxis
    · exact h3
  exact h4.upd.set

theorem State.Inv.countBackstep (h : s.Inv) : s.countBackstep.Inv := (h.onlyIf fun h => h.bump).upd

theorem State.Inv.execBackstepStopped (h : s.Inv) : Keeps (execBackstepStopped s) :=
  .next (h.when (fun _ h => .ite h.restAxis.off.upd.restOps.countBackstep.endJob.set (.ite h.restAxis.off.upd.set.set.stopsDone
    h.restAxis.off.upd.position)))

theorem State.Inv.execBackstepPositioned (h : s.Inv) : Keeps (execBackstepPositioned s) := .next (h.when (fun _ h => h.restAxis.setOut))

theorem State.Inv.execBackstepRunUp (h : s.Inv) {others : Bool} : Keeps (execBackstepRunUp others s) :=
  .next (h.when (fun _ h => .andThen (by split; exacts [h.upd.set, h]) fun h1 => .ite h1.holdWeb h1.startAxis.set))

theorem State.Inv.execBackstepSettle (h : s.Inv) : Keeps (execBackstepSettle s) := .next (h.when (fun _ h => h.set))

theorem State.Inv.resume (h : s.Inv) : s.resume.Inv := by
  unfold State.resume
  dsimp only
  split
  · exact .ite h.countBackstep.upd.setAxis.set.done h.countBackstep.upd.setAxis.set
  · exact h.countBackstep.upd.setAxis.set

theorem State.Inv.execResumeTest (h : s.Inv) : Keeps (execResumeTest s) :=
  .next (h.when (fun _ h => .andThen (.ite h.bump.set.set h.setSat.setSat) fun h1 =>
    .ite h1.resume (.ite h1.bump.upd.rampStop.on.set h1.bump.upd.rampStop.set)))

theorem State.Inv.encIrq (h : s.Inv) {x : Nat} : (s.encIrq x).Inv := .ite h.msix h

theorem State.Inv.execEncoderFault (h : s.Inv) {x : Nat} : Keeps (execEncoderFault x s) :=
  .next (h.when (fun _ h => .ite (.ite h.putB.putB.set.bump.encIrq.setScale.on.set.off.upd.drShow h.putB.putB.set.bump.encIrq.setScale) (.ite (by
    split
    · exact h.putB.putB.set.bump.encIrq.setScale.hardStop
    · exact h.putB.putB.set.bump.encIrq.setScale.plainStop
    · exact h.putB.putB.set.bump.encIrq.setScale) h.putB.putB.set.bump.encIrq.setScale)))

theorem State.Inv.execEncoderRecover (h : s.Inv) {x : Nat} : Keeps (execEncoderRecover x s) :=
  .next (h.when (fun _ h => (h.putB.onlyIf fun h => h.putB.encIrq).andThen fun h1 => .ite ((h1.seti.setScale.onlyIf fun h =>
    h.setSat).upd.off.showSlip) h1.seti.setScale))

theorem State.Inv.execDrLimit (h : s.Inv) : Keeps (execDrLimit s) :=
  .next (h.when (fun _ h => (h.upd.on.onlyIf fun h => h.msix).andThen fun h1 => .ite h1.upd h1.plainStop))

theorem State.Inv.execMotBsCountClr (h : s.Inv) : Keeps (execMotBsCountClr s) := .next (h.reach (fun _ h => h.clear))
theorem State.Inv.execMotRefusedClr (h : s.Inv) : Keeps (execMotRefusedClr s) := .next (h.reach (fun _ h => h.set))
theorem State.Inv.execMotHardLinesClr (h : s.Inv) : Keeps (execMotHardLinesClr s) := .next (h.reach (fun _ h => h.set))

/-! ## Cameras -/

theorem State.Inv.setCam (h : s.Inv) {x : Nat} {m : Cam} : (s.setCam x m).Inv := h.upd
theorem State.Inv.toRanges (h : s.Inv) {x : Nat} {f : Nat → Nat × Nat × Nat × Nat → Out} : (s.toRanges x f).Inv :=
  h.each (fun _ h _ => .ite h h.out)
theorem State.Inv.loseOne (h : s.Inv) {x f cause : Nat} : (s.loseOne x f cause).Inv := .ite h h.setCam.bump.set.encDrop.toRanges

theorem State.Inv.loseFrame (h : s.Inv) {x f cause : Nat} : (s.loseFrame x f cause).Inv := by
  unfold State.loseFrame
  dsimp only
  split
  · exact h.loseOne.loseOne
  · exact h.loseOne

theorem State.Inv.loseAll (h : s.Inv) {x cause : Nat} : (s.loseAll x cause).Inv := h.foldl (fun _ h _ => h.loseOne)
theorem State.Inv.stopCam (h : s.Inv) {x : Nat} : (s.stopCam x).Inv := h.loseAll.setCam.off
theorem State.Inv.fenceCam (h : s.Inv) {x cause : Nat} : (s.fenceCam x cause).Inv := h.recordFence.stopCam

theorem State.Inv.execExposureTrigger (h : s.Inv) {x : Nat} : Keeps (execExposureTrigger x s) :=
  .next (by
    split
    · exact h
    · exact .ite (.ite h.setCam.loseFrame h.setCam) ((h.setCam.foldl (fun _ h _ => h.loseFrame)).andThen fun h1 =>
        .ite h1.loseFrame (.ite h1.loseFrame h1.setCam.out)))

theorem State.Inv.execFrameLatencyTimeout (h : s.Inv) {x : Nat} : Keeps (execFrameLatencyTimeout x s) :=
  .next (by split; exacts [h, h.when (fun _ h => h.setCam.loseFrame)])

theorem State.Inv.execJobEndClosingTrigger (h : s.Inv) {x : Nat} : Keeps (execJobEndClosingTrigger x s) :=
  .next (h.when (fun _ h => .ite h.loseAll.setCam h.loseAll.setCam.out))

theorem State.Inv.execCsiLinkChange (h : s.Inv) {x : Nat} {up : Bool} : Keeps (execCsiLinkChange x up s) := .next (h.when (fun _ h => h.set))

theorem State.Inv.badHeader (h : s.Inv) {x : Nat} : (s.badHeader x).Inv := by
  unfold State.badHeader
  dsimp only
  split
  · exact h.bump.loseFrame
  · exact h.bump

theorem State.Inv.frameStart (h : s.Inv) {x i : Nat} : (s.frameStart x i).Inv := by
  unfold State.frameStart
  extract_lets s1 m
  have h1 : s1.Inv := by
    unfold s1
    split
    · exact h.loseFrame
    · exact h
  split
  · exact h1.setCam.on
  · exact h1.setCam

theorem State.Inv.frameEnd (h : s.Inv) {x i : Nat} : (s.frameEnd x i).Inv := by
  unfold State.frameEnd
  dsimp only
  split
  · exact h
  · exact .andThen (.ite h h.loseFrame) fun h1 => .ite h1.setCam h1.setCam.encEnd

theorem State.Inv.execCsiShortPacket (h : s.Inv) {x hdr vc dt : Nat} : Keeps (execCsiShortPacket x hdr vc dt s) := by
  refine .next (h.when fun s h => .ite h.badHeader ?_)
  extract_lets s1
  have h1 : s1.Inv := h.onlyIf fun h => h.bump
  split
  · exact h1.bump
  · exact .ite h1.frameStart (.ite h1.frameEnd h1)

theorem State.Inv.showBlack (h : s.Inv) {f : Fld} {v i k : Nat} : (s.showBlack f v i k).Inv := .ite h.set h.free.set
theorem State.Inv.setBlack (h : s.Inv) {x r v : Nat} : (s.setBlack x r v).Inv := h.setCam.showBlack
theorem State.Inv.takeRef (h : s.Inv) {x r : Nat} : (s.takeRef x r).Inv := h.setCam.showBlack
theorem State.Inv.correctRow (h : s.Inv) {x r : Nat} {px : List Nat} : (s.correctRow x r px).2.Inv := h.setBlack.setCam
theorem State.Inv.showShadow (h : s.Inv) {i : Nat} : (s.showShadow i).Inv := h.set

theorem State.Inv.sendAligned (h : s.Inv) {x e : Nat} : (s.sendAligned x e).Inv := by
  unfold State.sendAligned
  dsimp only
  split
  · exact h.setCam.toRanges
  · exact h

theorem State.Inv.rowLine (h : s.Inv) {x i f k : Nat} {px : List (List Nat)} : (s.rowLine x i f k px).Inv :=
  .ite h.setCam (.ite h.setCam.loseFrame (((h.setCam.onlyIf fun h => (h.setCam.each (fun _ h _ => h.takeRef)).showShadow).setCam.onlyIf fun h =>
    h.encLine).foldl (fun _ h _ => .ite h.correctRow.setCam.sendAligned h.correctRow.setCam)))

theorem State.Inv.execCsiLongPacket (h : s.Inv) {x hdr vc dt wc : Nat} {crcOk : Bool} {pixels : List Nat} :
    Keeps (execCsiLongPacket x hdr vc dt wc crcOk pixels s) := by
  refine .next (h.when fun s h => .ite h.badHeader ?_)
  extract_lets s1
  have h1 : s1.Inv := h.onlyIf fun h => h.bump
  split
  · exact h1.bump
  · exact .ite h1.bump (.ite (by split; exacts [h1.bump.loseFrame, h1.bump]) (by split; exacts [h1.rowLine, h1]))

theorem State.Inv.execFrameRecordSend (h : s.Inv) {x : Nat} : Keeps (execFrameRecordSend x s) :=
  .next (by split; exacts [h, h.when (fun _ h => .ite h.toRanges.setCam.set.bump h.toRanges.setCam.set)])

theorem State.Inv.ispApply (h : s.Inv) {i : Nat} : (s.ispApply i).Inv := h.when (fun _ h => h.setCam)

theorem State.Inv.execIspShadowApply (h : s.Inv) {i : Nat} : Keeps (execIspShadowApply i s) :=
  .next (h.when (fun _ h => h.reach (fun _ h => h.ispApply)))

theorem State.Inv.execCamLostClr (h : s.Inv) {x : Nat} : Keeps (execCamLostClr x s) := .next (h.reach (fun _ h => h.clear))
theorem State.Inv.execCamPhyErrClr (h : s.Inv) {x : Nat} : Keeps (execCamPhyErrClr x s) := .next (h.reach (fun _ h => h.clear))
theorem State.Inv.execCamStaleClr (h : s.Inv) {x : Nat} : Keeps (execCamStaleClr x s) := .next (h.reach (fun _ h => h.set))
theorem State.Inv.showPorts (h : s.Inv) : s.showPorts.Inv := h.each (fun _ h _ => h.set)
theorem State.Inv.startPort (h : s.Inv) {x : Nat} : (s.startPort x).Inv := (h.setCam.each (fun _ h _ => h.setBlack.takeRef)).off
theorem State.Inv.pausePipe (h : s.Inv) {i : Nat} : (s.pausePipe i).Inv := (h.each (fun _ h _ => .ite h.stopCam.setCam h)).on

theorem State.Inv.applyCamera (h : s.Inv) {x : Nat} : (s.applyCamera x).Inv :=
  .andThen (.ite h.setCam.off h.startPort) fun h1 => h1.showPorts.each (fun _ h _ => h.showShadow)

theorem State.Inv.applyIsp (h : s.Inv) {i : Nat} : (s.applyIsp i).Inv := ((h.each (fun _ h _ => .ite h.startPort h)).showPorts).showShadow
theorem State.Inv.camerasDown (h : s.Inv) {n : Nat} : (s.camerasDown n).Inv := h.each (fun _ h _ => .ite h.stopCam h)

/-! ## The gravity loop -/

theorem State.Inv.setTable (h : s.Inv) {c : Nat} {l : List Nat} : (s.setTable c l).Inv := (h.setDram (Memory.wf_wrs _ h.dram _)).set
theorem State.Inv.setGrav (h : s.Inv) {c : Nat} {g : Grav} : (s.setGrav c g).Inv := h.upd
theorem State.Inv.releaseTail (h : s.Inv) {c y : Nat} : (s.releaseTail c y).Inv := h.setChan
theorem State.Inv.foreign (h : s.Inv) : s.foreign.Inv := h.bump

theorem State.Inv.takeAligned (h : s.Inv) {c frame line div : Nat} {vals : List Nat} : (s.takeAligned c frame line div vals).Inv :=
  .ite h.setGrav (.ite h.setGrav.bump h.setGrav)

theorem State.Inv.passAligned (h : s.Inv) {c frame div : Nat} : (s.passAligned c frame div).Inv := h.setGrav

theorem State.Inv.execAlignedLineReceive (h : s.Inv) {c dev port range frame line div : Nat} {vals : List Nat} :
    Keeps (execAlignedLineReceive c dev port range frame line div vals s) :=
  .next (h.when (fun _ h => .ite h.foreign (.ite h.passAligned h.takeAligned)))

theorem State.Inv.execLostNoticeReceive (h : s.Inv) {c dev port range frame span : Nat} :
    Keeps (execLostNoticeReceive c dev port range frame span s) := .next (h.when (fun _ h => .ite h.foreign h.setGrav.releaseTail))

theorem State.Inv.prepGravity (h : s.Inv) {c : Nat} : (s.prepGravity c).Inv := .ite h (.ite h h.writeBank.setGrav.setChan)
theorem State.Inv.rebuildGravity (h : s.Inv) {c y : Nat} : (s.rebuildGravity c y).Inv := .ite h h.setTable.setGrav.setChan.prepGravity
theorem State.Inv.gravUpdate (h : s.Inv) {c : Nat} : (s.gravUpdate c).Inv := h.setGrav.setTable
theorem State.Inv.showValid (h : s.Inv) {c : Nat} : (s.showValid c).Inv := h.set
theorem State.Inv.nozOut (h : s.Inv) {c n : Nat} {high : Bool} : (s.nozOut c n high).Inv := h.setTable.setGrav.setChan.bump.set.set.set.set.set.vector

theorem State.Inv.outTest (h : s.Inv) {c n : Nat} {hd b : Int} : (s.outTest c n hd b).Inv :=
  .ite h (.ite (.ite h.nozOut h.setGrav) (.ite h.setGrav.setTable.bump h.setGrav))

theorem State.Inv.trackReg (h : s.Inv) {c : Nat} : (s.trackReg c).Inv := .ite h (.ite h.setGrav h.setGrav.free.seti.set)

theorem State.Inv.acceptFrame (h : s.Inv) {c : Nat} {w : GravWork} {stale : Bool} : (s.acceptFrame c w stale).Inv :=
  (h.set.foldl (fun _ h _ => h.outTest)).andThen fun h1 => .andThen (.ite h1 h1.setGrav.gravUpdate.trackReg) fun h2 => h2.showValid.prepGravity

theorem State.Inv.execStatsRecordReceive (h : s.Inv) {c dev port range frame lines : Nat} {stale : Bool} :
    Keeps (execStatsRecordReceive c dev port range frame lines stale s) :=
  .next (h.when (fun _ h => .ite h.foreign (by
    dsimp only
    split
    · exact h.setGrav
    · exact .ite h (.andThen (.ite h.setGrav h.setGrav.acceptFrame) fun h1 => h1.releaseTail))))

theorem State.Inv.execBackinTrial (h : s.Inv) {c n : Nat} : Keeps (execBackinTrial c n s) :=
  .next (h.when (fun _ h => h.setTable.setGrav.setChan.prepGravity))

theorem State.Inv.resetTrials (h : s.Inv) {c : Nat} : (s.resetTrials c).Inv := .ite h h.setTable.setGrav

theorem State.Inv.execResetTrials (h : s.Inv) {c : Nat} : Keeps (execResetTrials c s) :=
  .next (h.when (fun _ h => h.reach (fun _ h => h.resetTrials)))

theorem State.Inv.clearWindow (h : s.Inv) {c : Nat} : (s.clearWindow c).Inv := h.setGrav

theorem State.Inv.execClearWindow (h : s.Inv) {c : Nat} : Keeps (execClearWindow c s) :=
  .next (h.when (fun _ h => h.reach (fun _ h => h.clearWindow.showValid)))

theorem State.Inv.execGravForeignClr (h : s.Inv) : Keeps (execGravForeignClr s) := .next (h.reach (fun _ h => h.set))

theorem State.Inv.execGravChCountClr (h : s.Inv) {c : Nat} : Keeps (execGravChCountClr c s) :=
  .next (h.when (fun _ h => h.reach (fun _ h => h.clear)))

theorem State.Inv.freshTable (h : s.Inv) {c : Nat} : (s.freshTable c).Inv := h.setTable.setGrav
theorem State.Inv.installTable (h : s.Inv) {c : Nat} {b : List Byte} : (s.installTable c b).Inv := h.setTable.setGrav.rebuildGravity

theorem State.Inv.setBound (h : s.Inv) {c : Nat} {on : Bool} : (s.setBound c on).Inv :=
  .andThen (.noteCoverage (.ite h.set.putB.upd.rejoinDevice h.set.putB.upd)) fun h1 => .ite h1.off.out h1

theorem State.Inv.startChannel (h : s.Inv) {c : Nat} : (s.startChannel c).Inv :=
  .andThen (.ite h.setGrav.setTable.setBound (by
    split
    · exact .ite h.setTable.setGrav.setBound h.freshTable.setBound
    · exact h.freshTable.setBound)) fun h1 => h1.rebuildGravity

theorem State.Inv.applyGrav (h : s.Inv) {old : List Byte} : (s.applyGrav old).Inv :=
  h.on.each (fun _ h _ => .ite h.set.startChannel (.ite ((h.set.onlyIf fun h => h.clearWindow.setGrav).seti.set) h.set.setGrav))

theorem State.Inv.endRebind (h : s.Inv) {r : Rebind} : (s.endRebind r).Inv := .ite h.upd (by split <;> exact h.upd.finish)

theorem State.Inv.bindResult (h : s.Inv) {r : Rebind} {c cause : Nat} : (s.bindResult r c cause).Inv :=
  .andThen (.ite h.off.setBound (.ite h.off.setBound h.off)) fun h1 => h1.vector.endRebind

theorem State.Inv.execGravRebind (h : s.Inv) {d : Desc} : Keeps (execGravRebind d s) :=
  .next (h.submit (fun _ _ h => .ite (h.upd.foldl (fun _ h _ => h.freshTable.on.off)) (h.upd.foldl (fun _ h _ => (by
    dsimp only
    split
    · exact h
    · exact .bindResult (.ite h.installTable h))))))

theorem State.Inv.execChannelBound (h : s.Inv) {c : Nat} : Keeps (execChannelBound c s) :=
  .next (by split; exacts [h, h.when (fun _ h => h.bindResult)])

theorem State.Inv.execLearnLimit (h : s.Inv) {handle : Nat} : Keeps (execLearnLimit handle s) :=
  .next (by split; exacts [h, h.when (fun _ h => h.foldl (fun _ h _ => (by split; exacts [h.bindResult, h])))])

/-! ## Flash and the Cask -/

theorem State.Inv.setArray (h : s.Inv) {a : Nat} {f : Flash} : (s.setArray a f).Inv := h.upd
theorem State.Inv.flashWr (h : s.Inv) {a o : Nat} {bs : List Byte} : (s.flashWr a o bs).Inv := h.setArray
theorem State.Inv.setWindow (h : s.Inv) {a : Nat} {on : Bool} : (s.setWindow a on).Inv := .ite h.set (.ite h.set h)

theorem State.Inv.programPages {n a o src : Nat} (h : s.Inv) : (s.programPages n a o src).2.Inv := by
  induction n generalizing s o src with
  | zero => exact h
  | succ n ih =>
    unfold State.programPages
    dsimp only
    split
    · exact ih h.flashWr
    · exact h.flashWr

theorem State.Inv.execFlsProgram (h : s.Inv) {d : Desc} : Keeps (execFlsProgram d s) :=
  .next (h.submit (fun _ _ h => (by dsimp only; split; exacts [h.programPages.done, h.programPages.finish])))

theorem State.Inv.execFlsErase (h : s.Inv) {d : Desc} : Keeps (execFlsErase d s) := .next (h.submit (fun _ _ h => h.setArray.done))

theorem State.Inv.showWear (h : s.Inv) : s.showWear.Inv := by
  unfold State.showWear
  dsimp only
  split
  · exact h.set.set
  · exact h.set

theorem State.Inv.caskAppend (h : s.Inv) {a kind schema key : Nat} {data : List Byte} : (s.caskAppend a kind schema key data).Inv := by
  unfold State.caskAppend
  dsimp only
  split
  · exact h
  · exact h.upd.showWear

theorem State.Inv.caskPut (h : s.Inv) {kind schema key : Nat} {data : List Byte} : (s.caskPut kind schema key data).Inv :=
  .ite h (by split; exacts [h.caskAppend, h.upd.bump])

theorem State.Inv.caskSave (h : s.Inv) {kind key : Nat} {data : List Byte} : (s.caskSave kind key data).Inv := h.caskPut

theorem State.Inv.caskFlush (h : s.Inv) : s.caskFlush.Inv := by
  unfold State.caskFlush
  split
  · exact h
  · exact h.upd.foldl (fun _ h _ => h.caskAppend)

theorem State.Inv.writePointer (h : s.Inv) {active prev state : Nat} : (s.writePointer active prev state).Inv := h.caskPut.set

theorem State.Inv.execCaskRecordWrite (h : s.Inv) {kind key : Nat} {data : List Byte} : Keeps (execCaskRecordWrite kind key data s) :=
  .next (h.when (fun _ h => h.caskSave))

theorem State.Inv.eraseSector (h : s.Inv) {a k : Nat} : (s.eraseSector a k).Inv := h.upd

theorem State.Inv.execCaskCompaction (h : s.Inv) : Keeps (execCaskCompaction s) :=
  .next (by
    split
    · exact h
    · exact h.when (fun _ h => (by
        dsimp only
        split
        · exact h
        · exact (h.foldl (fun _ h _ => (by split; exacts [h.upd, h]))).andThen fun h1 => .ite h1.eraseSector.showWear h)))

/-! ## The bar -/

theorem State.Inv.putDev (h : s.Inv) {x : Dev} : (s.putDev x).Inv := h.upd
theorem State.Inv.setBind (h : s.Inv) {i : Nat} {b : Bind} : (s.setBind i b).Inv := h.upd

theorem State.Inv.setCause (h : s.Inv) {i m : Nat} : (s.setCause i m).Inv := by
  unfold State.setCause
  split
  · exact h
  · exact .ite h.putDev.set.setHold (.ite h.putDev.set h.putDev.set.out)

theorem State.Inv.causeBit (h : s.Inv) {i b : Nat} {on : Bool} : (s.causeBit i b on).Inv := by
  unfold State.causeBit
  split
  · exact h
  · exact h.setCause

theorem State.Inv.saveBinds (h : s.Inv) : s.saveBinds.Inv := h.caskSave

theorem State.Inv.restoreBinds (h : s.Inv) : s.restoreBinds.Inv := by
  unfold State.restoreBinds
  split
  · exact h
  · exact h.foldl (fun _ h _ => h.setBind)

theorem State.Inv.bindPresent (h : s.Inv) {i id : Nat} : (s.bindPresent i id).Inv := .ite h.setBind h

theorem State.Inv.coverageReport (h : s.Inv) {index mask cause unbound : Nat} : (s.coverageReport index mask cause unbound).Inv := by
  unfold State.coverageReport
  dsimp only
  split
  · exact h.recordCoverage.causeBit
  · exact .ite (.ite h.recordCoverage.causeBit.putDev.setBind.causeBit.saveBinds h.recordCoverage.causeBit.putDev.setBind.causeBit)
      h.recordCoverage.causeBit.putDev

theorem State.Inv.execCoverageReport (h : s.Inv) {index mask cause unbound : Nat} : Keeps (execCoverageReport index mask cause unbound s) :=
  .next (h.when (fun _ h => h.firmware (fun _ h => h.coverageReport)))

theorem State.Inv.failRemote (h : s.Inv) {l : List Nat} : (s.failRemote l).Inv := h.foldl (fun _ h _ => h.finish)

theorem State.Inv.lostPeer (h : s.Inv) {id p : Nat} : (s.lostPeer id p).Inv :=
  (h.onlyIf fun h => h.upd).andThen fun h1 => .ite h1 (by split; exacts [h1, (h1.foldl (fun _ h _ => h.recordCoverage)).failRemote])

theorem State.Inv.writeTrioComps (h : s.Inv) {found : List Found} {comps : List (Nat × Nat)} {k index : Nat} :
    (s.writeTrioComps found comps k index).Inv := by
  unfold State.writeTrioComps
  split
  · exact h
  · exact h.foldl (fun _ h _ => .ite h (.ite h.set.on h.out))

theorem State.Inv.enumDevice (h : s.Inv) {measure : Bool} {found : List Found} {comps : List (Nat × Nat)} {clash : Bool × Bool} {n : Nat × Nat × Nat × Nat} :
    (s.enumDevice measure found comps clash n).Inv := by
  unfold State.enumDevice
  split
  · exact h
  · exact .ite h.bindPresent.upd.out (((h.bindPresent.upd.onlyIf fun h => h.out).onlyIf fun h => h.setBind).andThen fun h1 =>
      .ite h1.set ((h1.set.onlyIf fun h => h.writeTrioComps).andThen fun h2 => .ite h2.setHold h2.out))

theorem State.Inv.enumAll (h : s.Inv) {measure : Bool} {found : List Found} {nums : List (Nat × Nat × Nat × Nat)} {clash : Bool × Bool} :
    (s.enumAll measure found nums clash).Inv := (h.upd.foldl (fun _ h _ => h.enumDevice)).andThen fun h1 => .ite h1.saveBinds h1

theorem State.Inv.barEnum (h : s.Inv) {hd : Nat} {d : Desc} {found : List Found} : (s.barEnum hd d found).Inv := by
  unfold State.barEnum
  extract_lets measure max addr nums roles clash me i s1 s2 s3 s4 s5 out s6 clashes result
  have h3 : s3.Inv := .ite h.on.set.set.set.upd.out.set h.on.set.set.set.upd
  have h5 : s5.Inv := h3.enumAll.onlyIf fun h => h.out
  have h6 : s6.Inv := h5.hostWrs
  exact .ite h6.finish h6.finish

theorem State.Inv.enumBar (h : s.Inv) {measure : Bool} {found : List Found} : (s.enumBar measure found).Inv := h.enumAll

theorem State.Inv.execBarEnum (h : s.Inv) {d : Desc} {found : List Found} {told : Bool} : Keeps (execBarEnum d found s told) :=
  .next (.ite (h.when (fun _ h => h.enumBar)) (h.submit (fun _ _ h => h.firmware (fun _ h => h.barEnum))))

theorem State.Inv.execLinkUpEnumeration (h : s.Inv) {own : Bool} {index up hops : Nat} {x : BarSeen} {comp cause : Nat} :
    Keeps (execLinkUpEnumeration own index up hops x comp cause s) :=
  .next (.ite (((h.upd.onlyIf fun h => h.on.set.set.set).onlyIf fun h =>
    h.set).upd.setHold) (h.when (fun _ h => .ite h.out ((h.bindPresent.upd.set.onlyIf fun h => h.recordCoverage).out))))

theorem State.Inv.takeBinds (h : s.Inv) {persist : Bool} {ents : List (List Byte)} : (s.takeBinds persist ents).1.Inv := by
  unfold State.takeBinds
  extract_lets r
  have hr : r.1.Inv := by
    refine List.foldlRecOn ents _ (motive := fun a : State × Nat => a.1.Inv) h fun a ha e _ => ?_
    dsimp only
    split
    · exact ha.setBind
    · exact (ha.setBind.bindPresent.putDev.onlyIf fun h => h.putDev).setCause
  exact .ite hr.saveBinds hr

theorem State.Inv.barBind (h : s.Inv) {hd : Nat} {d : Desc} : (s.barBind hd d).Inv := h.takeBinds.out.done

theorem State.Inv.execBarBind (h : s.Inv) {d : Desc} {told : Bool} : Keeps (execBarBind d s told) :=
  .next (.ite (h.when (fun _ h => h.takeBinds)) (h.submit (fun _ _ h => h.firmware (fun _ h => h.barBind))))

theorem State.Inv.release (h : s.Inv) {mode mask : Nat} : (s.release mode mask).Inv :=
  .andThen (.ite h.upd h.upd) fun h1 => (((h1.onlyIf fun h => h.upd).onlyIf fun h =>
    h.foldl (fun _ h _ => .ite h.freshTable.setBound h)).cutHeads.foldl (fun _ h _ => .ite h h.rejoinDevice)).noteCoverage

theorem State.Inv.releaseEnd (h : s.Inv) {hd mode mask : Nat} : (s.releaseEnd hd mode mask).Inv := .ite h.upd (.ite h.out h.done)
theorem State.Inv.barRelease (h : s.Inv) {hd : Nat} {d : Desc} : (s.barRelease hd d).Inv := .ite h.setSlot.out h.release.releaseEnd

theorem State.Inv.execBarRelease (h : s.Inv) {told : Bool} {d : Desc} : Keeps (execBarRelease told d s) :=
  .next (.ite (h.when (fun _ h => h.release.releaseEnd)) (h.submit (fun _ _ h => h.firmware (fun _ h => h.barRelease))))

theorem State.Inv.execTimeStampReport (h : s.Inv) {own : Bool} {index line value : Nat} : Keeps (execTimeStampReport own index line value s) :=
  .next (.ite h.set.holdBit (h.when (fun _ h => (by split; exacts [h.causeBit.out, h]))))

theorem State.Inv.execTimeStampLate (h : s.Inv) {own : Bool} {index line : Nat} : Keeps (execTimeStampLate own index line s) :=
  .next (.ite h.holdBit (h.when (fun _ h => h.causeBit)))

theorem State.Inv.adoptPage (h : s.Inv) {line page : Nat} : (s.adoptPage line page).Inv := h.upd

theorem State.Inv.execPageDigest (h : s.Inv) {line page composite : Nat} : Keeps (execPageDigest line page composite s) :=
  .next (h.when (fun _ h => .ite (.ite h.holdBit h.holdBit) (.ite h.adoptPage h.adoptPage.withhold)))

theorem State.Inv.execBarResyncClr (h : s.Inv) : Keeps (execBarResyncClr s) := .next (h.reach (fun _ h => h.set))
theorem State.Inv.execBarCovEventsClr (h : s.Inv) : Keeps (execBarCovEventsClr s) := .next (h.reach (fun _ h => h.set))

/-! ## Wort ports -/

theorem State.Inv.setWport (h : s.Inv) {p : Nat} {w : WortPort} : (s.setWport p w).Inv := h.upd

theorem State.Inv.dealBlock (h : s.Inv) {p block : Nat} : (s.dealBlock p block).Inv := by
  unfold State.dealBlock
  dsimp only
  split
  · exact h
  · exact h.setWport.foldl (fun _ h _ => h.out)

theorem State.Inv.sendFlit (h : s.Inv) {p : Nat} {b : List Byte} : (s.sendFlit p b).Inv := h.out.foldl (fun _ h _ => h.dealBlock)

theorem State.Inv.sendControl (h : s.Inv) {p : Nat} {name : String} {args : List Nat} {type fields : Nat} :
    (s.sendControl p name args type fields).Inv := h.out.dealBlock

theorem State.Inv.setActive (h : s.Inv) {p m : Nat} : (s.setActive p m).Inv := (h.set.each (fun _ h _ => h.set)).andThen fun h1 => .ite h1.set h1
theorem State.Inv.wortQuiet (h : s.Inv) {p state : Nat} : (s.wortQuiet p state).Inv := h.setActive.set.set.each (fun _ h _ => h.set)
theorem State.Inv.wortDrop (h : s.Inv) {p : Nat} : (s.wortDrop p).Inv := h.setWport
theorem State.Inv.sendDown (h : s.Inv) {p cause : Nat} : (s.sendDown p cause).Inv := .ite (h.each (fun _ h _ => h.sendControl)) h

theorem State.Inv.fencePort (h : s.Inv) {p cause : Nat} : (s.fencePort p cause).Inv :=
  .andThen (.ite h.sendDown h.sendDown.lostPeer) fun h1 => (h1.recordFence.wortQuiet.each (fun _ h _ => h.off)).andThen fun h2 => h2.wortDrop

theorem State.Inv.nextLane (h : s.Inv) {p : Nat} : (s.nextLane p).Inv := .ite h (by split; exacts [h, h.off.set])
theorem State.Inv.sendWidth (h : s.Inv) {p m : Nat} : (s.sendWidth p m).Inv := h.setWport.sendControl

theorem State.Inv.fenceLane (h : s.Inv) {i cause : Nat} : (s.fenceLane i cause).Inv :=
  .ite h (.ite ((h.recordFence.off.off.set.each (fun _ h _ => h.recordFence.set)).fencePort) (.ite h.recordFence.off.off.set.fencePort (.ite
    h.recordFence.off.off.set (.ite h.recordFence.off.off.set.fencePort h.recordFence.off.off.set.sendWidth.nextLane))))

theorem State.Inv.leaveLane (h : s.Inv) {p k : Nat} : (s.leaveLane p k).Inv :=
  .ite h (.andThen (.ite h.off.on.set h.off.set) fun h1 => .ite h1.fencePort h1.sendWidth)

theorem State.Inv.wortDown (h : s.Inv) {n : Nat} : (s.wortDown n).Inv := .ite h (.ite (.ite h h.lostPeer) (.ite h (.ite h.fencePort h.sendWidth)))
theorem State.Inv.wortLaneUp (h : s.Inv) {n : Nat} : (s.wortLaneUp n).Inv := .ite h (.ite h h.on.set.nextLane)
theorem State.Inv.sendInit (h : s.Inv) {p m : Nat} : (s.sendInit p m).Inv := h.out

theorem State.Inv.wortTrain (h : s.Inv) {p state : Nat} : (s.wortTrain p state).Inv :=
  (h.setActive.set.off.each (fun _ h _ => .ite h h.set.off)).andThen fun h1 => h1.setWport

theorem State.Inv.wortRetrain (h : s.Inv) {p : Nat} : (s.wortRetrain p).Inv := .ite h h.bump.wortTrain

theorem State.Inv.trainLane (h : s.Inv) {p k : Nat} {x : LaneTrain} : (s.trainLane p k x).Inv :=
  .ite h.set.set.off.set.fenceLane h.set.set.off.set.set

theorem State.Inv.orderLanes (h : s.Inv) {p : Nat} {num : Nat → Nat} : (s.orderLanes p num).Inv :=
  .ite h.fencePort ((h.set.foldl (fun _ h _ => .ite h h.fenceLane)).andThen fun h1 =>
    .ite h1 (.ite h1.fencePort ((h1.foldl (fun _ h _ => h.set)).andThen fun h2 => h2.set.setWport.sendInit)))

theorem State.Inv.execPortTrain (h : s.Inv) {p : Nat} {clock : Bool} {lanes : List LaneTrain} : Keeps (execPortTrain p clock lanes s) :=
  .next (h.when (fun _ h => (h.onlyIf fun h => h.wortTrain).andThen fun h1 =>
    .ite h1.fenceLane ((h1.foldl (fun _ h _ => h.trainLane)).andThen fun h2 => .ite h2 h2.orderLanes)))

theorem State.Inv.execTrainStageTimeout (h : s.Inv) {p k : Nat} : Keeps (execTrainStageTimeout p k s) := .next (h.when (fun _ h => h.fenceLane))
theorem State.Inv.resend (h : s.Inv) {p : Nat} {l : List Flit} : (s.resend p l).Inv := h.foldl (fun _ h _ => h.sendFlit)

theorem State.Inv.sendWaiting {n p : Nat} (h : s.Inv) : (s.sendWaiting n p).Inv := by
  induction n generalizing s with
  | zero => exact h
  | succ n ih =>
    unfold State.sendWaiting
    dsimp only
    split
    · exact h
    · split
      · exact h
      · exact .ite h (ih h.set.setWport.sendFlit)

theorem State.Inv.sendAll (h : s.Inv) {p : Nat} : (s.sendAll p).Inv := h.sendWaiting

theorem State.Inv.execInit (h : s.Inv) {p id role port mask : Nat} {shares : List Nat} : Keeps (execInit p id role port mask shares s) :=
  .next (h.when (fun _ h => (h.set.each (fun _ h _ => h.set.set)).andThen fun h1 =>
    .ite h1.setWport.sendAll (.ite h1.setWport.fencePort ((h1.setWport.set.setActive.each (fun _ h _ => .ite h.set h)).andThen fun h2 =>
    h2.setWport.resend.sendAll))))

theorem State.Inv.execCredit (h : s.Inv) {p : Nat} {counts : List Nat} : Keeps (execCredit p counts s) :=
  .next (h.when (fun _ h => (h.each (fun _ h _ => h.bump)).sendAll))

theorem State.Inv.execAck (h : s.Inv) {p seq : Nat} : Keeps (execAck p seq s) := .next (h.when (fun _ h => h.setWport.sendAll))

theorem State.Inv.execNak (h : s.Inv) {p seq : Nat} : Keeps (execNak p seq s) :=
  .next (h.when (fun _ h => .ite h.setWport.resend.wortRetrain h.setWport.resend.sendAll))

theorem State.Inv.execWidth (h : s.Inv) {p mask : Nat} : Keeps (execWidth p mask s) := .next (h.when (fun _ h => h.setWport))

theorem State.Inv.execWidthSwitch (h : s.Inv) {p : Nat} : Keeps (execWidthSwitch p s) :=
  .next (h.when (fun _ h => (by split; exacts [h, .ite h.setWport.fencePort h.setWport.setActive])))

theorem State.Inv.execDown (h : s.Inv) {p cause : Nat} : Keeps (execDown p cause s) :=
  .next (h.when (fun _ h => (h.lostPeer.out.wortQuiet.each (fun _ h _ => .ite h h.set.off)).andThen fun h1 => h1.wortDrop))

theorem State.Inv.execReservedControlBlock (h : s.Inv) {p type : Nat} : Keeps (execReservedControlBlock p type s) :=
  .next (h.when (fun _ h => h.bump))

theorem State.Inv.takeStore (h : s.Inv) {p tag offset : Nat} {bytes : List Byte} : (s.takeStore p tag offset bytes).Inv := by
  unfold State.takeStore
  dsimp only
  split
  · exact h
  · exact .ite h h.setWport.upd.out

theorem State.Inv.takePacket (h : s.Inv) {p vc type flits : Nat} {b : List Byte} : (s.takePacket p vc type flits b).Inv :=
  .ite h.sendControl.takeStore (.ite h.sendControl.bump h.sendControl.out)

theorem State.Inv.takeFlit (h : s.Inv) {p : Nat} {b : List Byte} : (s.takeFlit p b).Inv := by
  unfold State.takeFlit
  extract_lets
  split
  extract_lets body s1 s2
  have h2 : s2.Inv := h.setWport.onlyIf fun h => h.sendControl
  exact .ite h2.takePacket h2

theorem State.Inv.execFlitReceive (h : s.Inv) {p : Nat} {bytes : List Byte} {words : List (List Nat)} : Keeps (execFlitReceive p bytes words s) :=
  .next (h.when (fun _ h => .ite h.takeFlit (.ite h (.ite h h.setWport.bump.sendControl))))

theorem State.Inv.execStoreRd (h : s.Inv) {p jsa len tag : Nat} : Keeps (execStoreRd p jsa len tag s) :=
  .next (h.when (fun _ h => .ite h.bump (.ite h h.setWport.sendAll)))

theorem State.Inv.execStoreData (h : s.Inv) {p tag offset : Nat} {bytes : List Byte} : Keeps (execStoreData p tag offset bytes s) :=
  .next (h.when (fun _ h => h.takeStore))

theorem State.Inv.execFecWindowEnd (h : s.Inv) {i corr uncorr : Nat} : Keeps (execFecWindowEnd i corr uncorr s) :=
  .next (h.when (fun _ h => .ite h.set.set.leaveLane h.set.set))

theorem State.Inv.execLaneRetrain (h : s.Inv) {i drift : Nat} {found : Option LaneTrain} : Keeps (execLaneRetrain i drift found s) :=
  .next (h.when (fun _ h => (by
    split
    · exact h.when (fun _ h => h.set.leaveLane)
    · exact h.when (fun _ h => .ite h.setWport.bump.fenceLane (.ite h.setWport.bump.trainLane h.setWport.bump.trainLane.set.sendWidth.nextLane)))))

theorem State.Inv.execPortRetrain (h : s.Inv) {p lost : Nat} : Keeps (execPortRetrain p lost s) := .next (h.when (fun _ h => h.wortRetrain))

theorem State.Inv.execEyeRecalibration (h : s.Inv) {i width : Nat} : Keeps (execEyeRecalibration i width s) :=
  .next (h.when (fun _ h => .ite h.set.leaveLane h.set))

theorem State.Inv.execWlPortRetrainWrite (h : s.Inv) {p : Nat} : Keeps (execWlPortRetrainWrite p s) := .next (h.reach (fun _ h => h.wortRetrain))
theorem State.Inv.laneRetrainWrite (h : s.Inv) {i : Nat} : (s.laneRetrainWrite i).Inv := .ite h.leaveLane h
theorem State.Inv.execWlLaneRetrainWrite (h : s.Inv) {i : Nat} : Keeps (execWlLaneRetrainWrite i s) := .next (h.reach (fun _ h => h.laneRetrainWrite))
theorem State.Inv.execWlPortErrClr (h : s.Inv) {p : Nat} : Keeps (execWlPortErrClr p s) := .next (h.reach (fun _ h => h.clear))
theorem State.Inv.execWlLaneRetrainsClr (h : s.Inv) {i : Nat} : Keeps (execWlLaneRetrainsClr i s) := .next (h.reach (fun _ h => h.off))

theorem State.Inv.applyWort (h : s.Inv) {old : List Byte} : (s.applyWort old).Inv :=
  h.each (fun _ h _ => .ite h (.ite (.ite h.wortQuiet.wortDrop h) (.ite h (.ite h.wortTrain (.ite h.wortRetrain (.ite h.sendInit h))))))

/-! ## The trio -/

theorem State.Inv.trioVector (h : s.Inv) : s.trioVector.Inv := h.vector
theorem State.Inv.setMember (h : s.Inv) {t : Nat} {on : Bool} : (s.setMember t on).Inv := h.putB.set

theorem State.Inv.unqualify (h : s.Inv) {t : Nat} : (s.unqualify t).Inv :=
  (h.setMember.onlyIf fun h => h.off.off.upd).andThen fun h1 => .ite h1.bump.trioVector h1

theorem State.Inv.missFrame (h : s.Inv) : s.missFrame.Inv := .ite h.off.upd.upd.unqualify h.off.upd
theorem State.Inv.cancelReturn (h : s.Inv) : s.cancelReturn.Inv := h.off.off.upd
theorem State.Inv.releaseOwn (h : s.Inv) : s.releaseOwn.Inv := h.upd.off.off.off.out
theorem State.Inv.takeOwn (h : s.Inv) : s.takeOwn.Inv := h.upd.on.out
theorem State.Inv.pullOwn (h : s.Inv) : s.pullOwn.Inv := h.trioVector.takeOwn.out

theorem State.Inv.enableDrivers (h : s.Inv) : s.enableDrivers.Inv :=
  ((h.upd.on.on.on.set.onlyIf fun h => h.on.setMember).onlyIf fun h => h.out).writeComp

theorem State.Inv.checkReturn (h : s.Inv) : s.checkReturn.Inv := .ite h.cancelReturn.out h

theorem State.Inv.execStateFrameSend (h : s.Inv) {horizon : Nat} : Keeps (execStateFrameSend horizon s) :=
  .next (h.when (fun _ h => h.checkReturn.out))

theorem State.Inv.loadPlan (h : s.Inv) {b : List Byte} : (s.loadPlan b).Inv :=
  ((h.upd.set.set.set.putB.set.onlyIf fun h => h.putB.putB).setAxis.onlyIf fun h => h.setScale).drShow

theorem State.Inv.activeFrame (h : s.Inv) {b : List Byte} {horizon : Nat} : (s.activeFrame b horizon).Inv :=
  ((h.upd.loadPlan.onlyIf fun h => h.unqualify).onlyIf fun h => .ite h.bump h.off).andThen fun h1 =>
    .ite (.ite h1.cancelReturn h1) (.ite h1.upd.on h1)

theorem State.Inv.outvote (h : s.Inv) {p line : Nat} : (s.outvote p line).Inv := (h.foldl (fun _ h _ => h.unqualify)).andThen fun h1 => h1.upd
theorem State.Inv.takeYield (h : s.Inv) {p : Nat} : (s.takeYield p).Inv := .ite h.upd.upd.releaseOwn.unqualify h.upd
theorem State.Inv.takeClaim (h : s.Inv) {p : Nat} : (s.takeClaim p).Inv := .ite h.releaseOwn h

theorem State.Inv.takeFlags (h : s.Inv) {p flags line : Nat} : (s.takeFlags p flags line).Inv :=
  (((h.setMember.checkReturn.onlyIf fun h => h.outvote).onlyIf fun h => h.upd).onlyIf fun h => h.takeYield).andThen fun h1 => .ite h1.takeClaim h1

theorem State.Inv.execStateFrameReceive (h : s.Inv) {port : Nat} {bytes : List Byte} {horizon : Nat} :
    Keeps (execStateFrameReceive port bytes horizon s) :=
  .next (h.when (fun _ h => .ite (.ite h.missFrame h) ((h.onlyIf fun h => h.upd.set).andThen fun h1 =>
    .ite h1 (.ite h1.upd.takeFlags.set.activeFrame h1.upd.takeFlags))))

theorem State.Inv.execQualify (h : s.Inv) {stopped : Bool} : Keeps (execQualify stopped s) := .next (h.when (fun _ h => h.on.setMember.off))

theorem State.Inv.execBadVerdict (h : s.Inv) {pos line : Nat} : Keeps (execBadVerdict pos line s) :=
  .next (h.when (fun _ h => .ite h.set.set.upd.releaseOwn.unqualify.out (.ite h ((h.upd.onlyIf fun h => h.upd.off.out).andThen fun h1 =>
    .ite h1.unqualify h1))))

theorem State.Inv.adopt (h : s.Inv) : s.adopt.Inv :=
  (h.foldl (fun _ h _ => h.allot.upd.report)).andThen fun h1 => h1.foldl (fun _ h _ => h.allot.upd.report)

theorem State.Inv.execTakeover (h : s.Inv) {cause catchup : Nat} : Keeps (execTakeover cause catchup s) :=
  .next (h.when (fun _ h => .ite h.out.set.set.set.set.bump.set.setMember.cancelReturn.upd.trioVector.upd.adopt.out
    h.out.set.set.set.set.bump.set.setMember.cancelReturn.upd.trioVector))

theorem State.Inv.execYield (h : s.Inv) {pos : Nat} : Keeps (execYield pos s) := .next (h.when (fun _ h => h.takeYield))
theorem State.Inv.execClaim (h : s.Inv) {pos : Nat} : Keeps (execClaim pos s) := .next (h.when (fun _ h => .ite (.ite h.pullOwn h) h.takeClaim))
theorem State.Inv.execDriverEnable (h : s.Inv) : Keeps (execDriverEnable s) := .next (h.when (fun _ h => h.enableDrivers))

theorem State.Inv.execFirstOwnerClaim (h : s.Inv) {held : Bool} {at_ : Nat} : Keeps (execFirstOwnerClaim held s at_) :=
  .next (.when (.ite h.set h) (fun _ h => .ite h (.ite h.pullOwn h.adopt.out.pullOwn)))

theorem State.Inv.execOwnerNotice (h : s.Inv) {t line : Nat} : Keeps (execOwnerNotice t line s) := .next (h.when (fun _ h => .ite h.upd.set h.upd))
theorem State.Inv.execRevertReq (h : s.Inv) : Keeps (execRevertReq s) := .next (h.when (fun _ h => .ite (.ite h h.upd.on.out) (.ite h.upd h)))

theorem State.Inv.execPrimaryReturn (h : s.Inv) : Keeps (execPrimaryReturn s) :=
  .next (by
    split
    · exact h
    · exact h.when (fun _ h => .andThen (.ite h.releaseOwn.set h.takeOwn.enableDrivers) fun h1 =>
        h1.set.set.set.set.bump.set.cancelReturn.upd.trioVector))

theorem State.Inv.trioCfg (h : s.Inv) {v : Nat} : (s.trioCfg v).Inv := .ite h.on h.set.set
theorem State.Inv.execTrioCfgWrite (h : s.Inv) {v : Nat} : Keeps (execTrioCfgWrite v s) := .next (h.reach (fun _ h => h.trioCfg))
theorem State.Inv.execTrioEventsClr (h : s.Inv) : Keeps (execTrioEventsClr s) := .next (h.reach (fun _ h => h.clear))

/-! ## The Grist map -/

theorem State.Inv.rewrite (h : s.Inv) {cause : Nat} {entries : List GEntry} {imageId : Nat} : (s.rewrite cause entries imageId).Inv :=
  .ite h.upd.set h.upd

theorem State.Inv.rewriteSame (h : s.Inv) {cause : Nat} : (s.rewriteSame cause).Inv := by
  unfold State.rewriteSame
  split <;> exact h.rewrite

theorem State.Inv.execGristRewrite (h : s.Inv) : Keeps (execGristRewrite s) :=
  .next (by split; exacts [h, .ite h.upd.set.set.set.vector h.upd.set.set.set.vector.set])

theorem State.Inv.execGrsStaleClr (h : s.Inv) : Keeps (execGrsStaleClr s) := .next (h.when (fun _ h => h.clear))
theorem State.Inv.bootTable (h : s.Inv) : s.bootTable.Inv := h.upd.set.set

/-! ## DRAM -/

theorem State.Inv.setDdr (h : s.Inv) {i : Nat} {x : DdrCh} : (s.setDdr i x).Inv := h.upd
theorem State.Inv.accessBank (h : s.Inv) {k row : Nat} : (s.accessBank k row).Inv := h.upd
theorem State.Inv.precharge (h : s.Inv) {i : Nat} : (s.precharge i).Inv := h.upd

theorem State.Inv.accessBurst (h : s.Inv) {slot x : Nat} : (s.accessBurst slot x).Inv := by
  unfold State.accessBurst
  dsimp only
  split
  · exact h.accessBank
  · exact h

theorem State.Inv.dramTouch (h : s.Inv) {a n : Nat} {write : Bool} : (s.dramTouch a n write).Inv :=
  h.foldl (fun _ h _ => .ite h (.ite h.accessBurst.accessBurst h.accessBurst))

theorem State.Inv.vpTouch (h : s.Inv) {a n : Nat} : (s.vpTouch a n).Inv := .ite h.upd h

theorem State.Inv.dramWr (h : s.Inv) {a : Nat} {bs : List Byte} : (s.dramWr a bs).Inv := by
  unfold State.dramWr
  extract_lets n sound mem whole s1 s2
  have hmem : Memory.wf mem = true := by
    unfold mem
    split
    · exact Memory.wf_wrs bs h.dram a
    · refine List.foldlRecOn _ _ (motive := fun m => Memory.wf m = true) h.dram fun m hm i _ => ?_
      split
      · exact Memory.wf_wr hm _ _
      · exact hm
  have h1 : s1.Inv := h.setDram hmem
  have h2 : s2.Inv := by
    unfold s2
    split
    · exact h1
    · exact h1.setDdr
  exact h2.vpTouch.dramTouch

theorem State.Inv.execCopy (h : s.Inv) {d : Desc} : Keeps (execCopy d s) :=
  .next (h.submit (fun _ _ h => .ite h.dramWr.done (.ite (h.dramTouch.setHost (Memory.wf_wrs _ h.hostMem _)).done (h.dramTouch.setHost (Memory.wf_wrs
    _ h.hostMem _)).finish)))

theorem State.Inv.execBar4Access (h : s.Inv) {write : Bool} {addr n : Nat} {bytes : List Byte} : Keeps (execBar4Access write addr n bytes s) :=
  .next (h.when (fun _ h => .ite (.ite h.out h.out.upd) (.ite h.dramWr.out h.dramTouch.upd.out)))

theorem State.Inv.showSlots (h : s.Inv) : s.showSlots.Inv := h.each (fun _ h _ => h.set)
theorem State.Inv.ddrOut (h : s.Inv) {i state : Nat} : (s.ddrOut i state).Inv := h.set.recordFence

theorem State.Inv.endTraining (h : s.Inv) : s.endTraining.Inv :=
  .ite h (by split; exacts [h, (h.each (fun _ h _ => .ite h.setDdr.ddrOut h)).showSlots])

theorem State.Inv.showGeom (h : s.Inv) {i : Nat} {g : List Nat} : (s.showGeom i g).Inv := h.set.set.set.set.set

theorem State.Inv.execDdrTrain (h : s.Inv) {i : Nat} {dimm : Option Dimm} {ok : Bool} : Keeps (execDdrTrain i dimm ok s) :=
  .next (h.when (fun _ h => (by split; exacts [h.ddrOut.endTraining, .ite h.showGeom.set.setDdr.endTraining h.showGeom.ddrOut.endTraining])))

theorem State.Inv.execRefresh (h : s.Inv) : Keeps (execRefresh s) :=
  .next (h.each (fun _ h _ => .ite h (.ite h.setDdr.set h.precharge.takeCalib.set)))

theorem State.Inv.execDimmTempRead (h : s.Inv) {i deg : Nat} : Keeps (execDimmTempRead i deg s) :=
  .next (h.when (fun _ h => .ite h.set.on.telEvent h.set))

theorem State.Inv.showRehome (h : s.Inv) {i : Nat} : (s.showRehome i).Inv := h.foldl (fun _ h _ => .ite h.set h)
theorem State.Inv.secondFence (h : s.Inv) {i : Nat} : (s.secondFence i).Inv := .ite (h.each (fun _ h _ => h.fenceHead)) h

theorem State.Inv.ddrFail (h : s.Inv) {i cause : Nat} : (s.ddrFail i cause).Inv :=
  .ite h ((h.set.set.off.set.setDdr.recordFence.onlyIf fun h => h.upd.on.bump.showRehome).secondFence)

theorem State.Inv.execDdrChannelFail (h : s.Inv) {i : Nat} : Keeps (execDdrChannelFail i s) := .next (h.when (fun _ h => h.ddrFail))

theorem State.Inv.execEvacuationDone (h : s.Inv) {i : Nat} : Keeps (execEvacuationDone i s) :=
  .next (h.when (fun _ h => h.set.set.setDdr.upd.recordFence.showRehome.secondFence))

theorem State.Inv.execAlertN (h : s.Inv) {i : Nat} {crc same : Bool} : Keeps (execAlertN i crc same s) :=
  .next (h.when (fun _ h => .ite h.setDdr.on.ddrFail h.setDdr.on))

theorem State.Inv.execAlertNHigh (h : s.Inv) {i : Nat} : Keeps (execAlertNHigh i s) :=
  .next (h.when (fun _ h => .andThen (.setDdr (.ite h.takeCalib h)) fun h1 => .ite h1.precharge.off.bump.bump h1.precharge.off.bump))

theorem State.Inv.execDdrAlertClr (h : s.Inv) {i : Nat} : Keeps (execDdrAlertClr i s) := .next (h.reach (fun _ h => h.clear))
theorem State.Inv.execDdrEccClr (h : s.Inv) {i : Nat} : Keeps (execDdrEccClr i s) := .next (h.reach (fun _ h => h.clear))
theorem State.Inv.noteUe (h : s.Inv) {i : Nat} : (s.noteUe i).Inv := .ite h.setDdr.ddrFail h.setDdr

theorem State.Inv.burstLost (h : s.Inv) {i x : Nat} {both : Bool} : (s.burstLost i x both).Inv :=
  .andThen (by split; exacts [.ite h.bump.set.set h.bump.set.set.upd, h.bump.set.set]) fun h1 => h1.noteUe

theorem State.Inv.selfRefresh (h : s.Inv) : s.selfRefresh.Inv := h.each (fun _ h _ => .ite h.set.setDdr h)

theorem State.Inv.execSelfRefreshExit (h : s.Inv) {i : Nat} {ok : Bool} : Keeps (execSelfRefreshExit i ok s) :=
  .next (h.when (fun _ h => .ite h.putB.setDdr.showGeom.set.showSlots h.putB.setDdr.showGeom.set.showSlots.ddrFail))

theorem State.Inv.execSpargeRead (h : s.Inv) {i found : Nat} : Keeps (execSpargeRead i found s) :=
  .next (h.when (fun _ h => .andThen (.ite h.bump (.ite (by split; exacts [.ite h h.upd.bump, h.bump]) h)) fun h1 =>
    (h1.accessBank.setDdr.set.onlyIf fun h => h.bump).andThen fun h2 => .ite h2.noteUe h2))

theorem State.Inv.execSpgFoundClr (h : s.Inv) {i : Nat} : Keeps (execSpgFoundClr i s) := .next (h.reach (fun _ h => h.clear))
theorem State.Inv.spgCtrl (h : s.Inv) {i v : Nat} : (s.spgCtrl i v).Inv := .ite h.set h.set.set
theorem State.Inv.execSpgCtrlWrite (h : s.Inv) {i v : Nat} : Keeps (execSpgCtrlWrite i v s) := .next (h.reach (fun _ h => h.spgCtrl))

/-! ## Background work and fences -/

theorem State.Inv.fenceCodec (h : s.Inv) {i cause : Nat} : (s.fenceCodec i cause).Inv :=
  h.recordFence.noteCoverage.each (fun _ h _ => .ite h.setChan h)

theorem State.Inv.calibrate (h : s.Inv) {k : Nat} {v : Int} : (s.calibrate k v).Inv := h.upd

theorem State.Inv.execRecalibration (h : s.Inv) {unit inst : Nat} {value : Int} {gains : List (List Nat)} :
    Keeps (execRecalibration unit inst value gains s) :=
  .next (by
    split
    · exact h.when (fun _ h => .ite h.telEvent h.calibrate)
    · exact h.when (fun _ h => .ite h.telEvent h.calibrate.takeCalib)
    · exact h.when (fun _ h => h.calibrate)
    · exact h.when (fun _ h => h.calibrate)
    · exact h.when (fun _ h => h.setCam.showShadow)
    · exact h)

theorem State.Inv.putCounts (h : s.Inv) {c : Nat} {l : List Nat} : (s.putCounts c l).Inv := h.upd

theorem State.Inv.newHead (h : s.Inv) {c id : Nat} {boot : Bool} : (s.newHead c id boot).Inv :=
  .ite h.upd.putCounts (by split; exacts [.ite h.upd.putCounts h.upd.putCounts, h.upd.putCounts])

theorem State.Inv.execHeadIdRead (h : s.Inv) {c : Nat} {reads : List (List (Bool × Bool))} : Keeps (execHeadIdRead c reads s) :=
  .next (h.when (fun _ h => (by
    split
    · exact h
    · exact .andThen (.ite h.setChan ((h.setChan.onlyIf fun h => h.caskSave).newHead)) fun h1 => .ite h1.startChannel h1)))

theorem State.Inv.saveCounts (h : s.Inv) : s.saveCounts.Inv :=
  (h.each (fun _ h _ => (h.onlyIf fun h => h.caskSave).andThen fun h1 => .ite h1.caskSave h1)).andThen fun h2 => h2.caskSave

theorem State.Inv.checkpoint (h : s.Inv) : s.checkpoint.Inv := .ite h (.ite h.upd (.ite h h.saveCounts.telEvent))
theorem State.Inv.execCheckpoint (h : s.Inv) : Keeps (execCheckpoint s) := .next h.checkpoint
theorem State.Inv.execFireCountsRead (h : s.Inv) {d : Desc} : Keeps (execFireCountsRead d s) := .next (h.submit (fun _ _ h => h.hostWrs.done))

theorem State.Inv.execTelemetrySample (h : s.Inv) {supply : Bool} {i value : Nat} : Keeps (execTelemetrySample supply i value s) :=
  .next (h.when (fun _ h => .ite (.ite h.upd.upd.telEvent h.upd) (.ite h.takeCalib.seti.seti.upd.telEvent (.ite h.takeCalib.seti.seti.upd
    h.takeCalib.seti.seti))))

theorem State.Inv.execSnapshot (h : s.Inv) : Keeps (execSnapshot s) := .next (h.when (fun _ h => .andThen (.ite h.upd h.upd.bump) fun h1 => h1.upd))
theorem State.Inv.execTelRead (h : s.Inv) {d : Desc} : Keeps (execTelRead d s) := .next (h.submit (fun _ _ h => .ite h.hostWrs.done h.hostWrs.done))
theorem State.Inv.execTelStatusClr (h : s.Inv) : Keeps (execTelStatusClr s) := .next (h.reach (fun _ h => h.clear))
theorem State.Inv.execTelScrubClr (h : s.Inv) : Keeps (execTelScrubClr s) := .next (h.reach (fun _ h => h.clear))
theorem State.Inv.execTelTempClr (h : s.Inv) {i : Nat} : Keeps (execTelTempClr i s) := .next (h.when (fun _ h => h.reach (fun _ h => h.seti)))

theorem State.Inv.fenceUnit (h : s.Inv) {k i : Nat} : (s.fenceUnit k i).Inv := by
  unfold State.fenceUnit
  split
  · exact h.fenceHead
  · exact h.fenceTun
  · exact h.fenceCodec
  · exact h.fenceLane
  · exact h.fencePort
  · exact h.fenceCam
  · exact h.recordFence.hardStop
  · exact h.fenceSense
  · exact h

theorem State.Inv.execFenceSet (h : s.Inv) {d : Desc} : Keeps (execFenceSet d s) :=
  .next (h.submit (fun _ _ h => .ite (.andThen (.ite h h.set.set.setDdr) fun h1 => h1.done) (.ite h.done h.fenceUnit.done)))

theorem State.Inv.liftUnit (h : s.Inv) {k i : Nat} : (s.liftUnit k i).Inv :=
  .andThen (by
    split
    · exact h.recordLift.set
    · exact h.recordLift.setChan.loadTun.loadTables.rebuildGravity.rewriteSame
    · exact .ite h.recordLift.set (.ite h.recordLift.set h.recordLift)
    · exact h.recordLift.wortTrain
    · exact h.recordLift.putB
    · exact h.recordLift.off
    · exact h.recordLift) fun h1 => (h1.foldl (fun _ h _ => .ite h (.ite h.rejoin h.rejoinPage))).noteCoverage

theorem State.Inv.execFenceLift (h : s.Inv) {d : Desc} {ok : Bool} : Keeps (execFenceLift d ok s) :=
  .next (h.submit (fun _ _ h => .ite h.finish h.liftUnit.done))

theorem State.Inv.execFenceLastClr (h : s.Inv) : Keeps (execFenceLastClr s) := .next (h.reach (fun _ h => h.clear))

/-! ## The viewport -/

theorem State.Inv.vpCapture (h : s.Inv) : s.vpCapture.Inv := .ite h.upd.off.bump.set.off.out h.upd.off.bump.set
theorem State.Inv.vpCommit (h : s.Inv) : s.vpCommit.Inv := .ite h.set.off h.upd.on
theorem State.Inv.execVpCommit (h : s.Inv) : Keeps (execVpCommit s) := .next (h.reach (fun _ h => h.vpCommit))
theorem State.Inv.execVpShadowCapture (h : s.Inv) : Keeps (execVpShadowCapture s) := .next (h.when (fun _ h => h.vpCapture))

theorem State.Inv.vpPanel (h : s.Inv) : s.vpPanel.Inv := by
  unfold State.vpPanel
  split
  · exact h
  · exact h.upd.off.out

theorem State.Inv.vpSend (h : s.Inv) : s.vpSend.Inv := .ite h.on (.ite h.upd.on h.upd.on.vpPanel)
theorem State.Inv.execVpCmdSend (h : s.Inv) : Keeps (execVpCmdSend s) := .next (h.reach (fun _ h => h.vpSend))
theorem State.Inv.vpSendLine (h : s.Inv) {k : Nat} : (s.vpSendLine k).Inv := (h.dramTouch.onlyIf fun h => h.bump).upd.out

theorem State.Inv.execVpVideoLine (h : s.Inv) : Keeps (execVpVideoLine s) :=
  .next (h.when (fun _ h => .ite (.ite h.vpSendLine.upd.vpPanel h.vpSendLine.upd) (.ite ((h.onlyIf fun h => h.vpCapture).andThen fun h1 =>
    .ite h1 ((h1.onlyIf fun h => h.on).upd)) (.ite h.upd h.upd.off))))

theorem State.Inv.execStaticBlankExtend (h : s.Inv) : Keeps (execStaticBlankExtend s) := .next (h.when (fun _ h => h.on))
theorem State.Inv.execVpLineUnderrun (h : s.Inv) : Keeps (execVpLineUnderrun s) := .next (h.when (fun _ h => h.upd.bump))

theorem State.Inv.vpTransfer (h : s.Inv) : s.vpTransfer.Inv :=
  (h.onlyIf fun h => h.vpCapture).andThen fun h1 => .ite h1 (h1.upd.each (fun _ h _ => h.vpSendLine))

theorem State.Inv.vpRefresh (h : s.Inv) : s.vpRefresh.Inv := .ite h.upd h
theorem State.Inv.execVpRefresh (h : s.Inv) : Keeps (execVpRefresh s) := .next (h.reach (fun _ h => h.vpRefresh))
theorem State.Inv.execTeInEdge (h : s.Inv) {rising : Bool} : Keeps (execTeInEdge rising s) := .next (h.when (fun _ h => h.vpTransfer))
theorem State.Inv.execTeTimeout (h : s.Inv) : Keeps (execTeTimeout s) := .next (h.when (fun _ h => h.vpTransfer.bump))
theorem State.Inv.execVpCountsClr (h : s.Inv) : Keeps (execVpCountsClr s) := .next (h.reach (fun _ h => h.clear))

/-! ## Sections coming into force -/

theorem State.Inv.emptyDram (h : s.Inv) : s.emptyDram.Inv := h.setDram rfl
theorem State.Inv.enablePort (h : s.Inv) {c : Nat} : (s.enablePort c).Inv := .ite h h.enableChannel

theorem State.Inv.enact (h : s.Inv) {t i y : Nat} {old : List Byte} : (s.enact t i y old).Inv :=
  .ite h (by
    split
    · exact .showSlots (.ite h.emptyDram h)
    · exact h.applyReservoir
    · exact .ite h h.loadTun
    · exact .ite h h.loadTun
    · exact h.dropCalib.applyGeom.enablePort
    · exact .ite h h.loadTables.rebuildGravity
    · exact h.applyFireSetup
    · exact h.applyCamera
    · exact h.applyIsp
    · exact h.applyGrav
    · exact h.applySg
    · exact h.applyEncoder
    · exact h.applyWort
    · exact h.applyTimeNet
    · exact h)

theorem State.Inv.reloadDomain (h : s.Inv) {n : Nat} : (s.reloadDomain n).Inv :=
  h.foldl (fun _ h _ => .ite (.ite h.wortTrain h) (.ite h.applyGrav h.enact))

theorem State.Inv.releaseStaged (h : s.Inv) {hd : Nat} : (s.releaseStaged hd).Inv := .ite h.upd.freeSlot h.upd
theorem State.Inv.dropShadows (h : s.Inv) : s.dropShadows.Inv := h.prepShadows

theorem State.Inv.dropAs (h : s.Inv) {x : ChangeSet} {status : Nat} : (s.dropAs x status).Inv :=
  .andThen (.ite h.upd h.upd.out) fun h1 => h1.finish.releaseStaged.dropShadows

theorem State.Inv.dropSet (h : s.Inv) {x : ChangeSet} : (s.dropSet x).Inv := h.dropAs
theorem State.Inv.recordSwitch (h : s.Inv) {handle : Nat} {keys : List Nat} : (s.recordSwitch handle keys).Inv := h.upd
theorem State.Inv.setAfter (h : s.Inv) {handle : Nat} {l : List (Nat × Nat)} : (s.setAfter handle l).Inv := h.upd

theorem State.Inv.finalLine (h : s.Inv) {handle y rule : Nat} : (s.finalLine handle y rule).Inv := by
  unfold State.finalLine
  split
  · exact h
  · exact .ite h.set.set.set.dropAs h.upd.prepShadows

theorem State.Inv.bring (h : s.Inv) {x : ChangeSet} {z : Sect} {y : Nat} : (s.bring x z y).Inv :=
  .andThen (.ite h.sealKiln h.upd.enact) fun h1 => h1.recordSwitch

theorem State.Inv.execBackstepAssistedApply (h : s.Inv) : Keeps (execBackstepAssistedApply s) :=
  .next (by split; exacts [h, h.when (fun _ h => h.finalLine.when (fun _ h => h.planLast.upd.set))])

theorem State.Inv.execCommitLineFinal (h : s.Inv) {offers : List (Option Nat)} {agree : Option (List Nat)} {given : Option Nat} :
    Keeps (execCommitLineFinal s offers agree given) :=
  .next (h.when (fun _ h => (by
    split
    · exact h
    · exact .ite ((by split; exacts [h, h.when (fun _ h => h.finalLine)])) (.ite (by
        split
        · exact h
        · exact by split; exacts [h, h.out.setAfter.finalLine]) (by
        split
        · exact h.out
        · exact by split; exacts [h.finalLine.out, h.out])))))

theorem State.Inv.switchTables (h : s.Inv) {x : ChangeSet} {y t : Nat} : (s.switchTables x y t).Inv := by
  unfold State.switchTables
  dsimp only
  split
  · exact h
  · exact .ite (h.upd.foldl (fun _ h _ => h.recordSwitch)) (.ite (h.prepShadow.upd.switchGen.rebuildGravity.foldl (fun _ h _ => h.recordSwitch))
      h.prepShadow)

theorem State.Inv.auxPause (h : s.Inv) {t i : Nat} : (s.auxPause t i).Inv := by
  unfold State.auxPause
  split
  · exact h.pausePipe
  · exact h.pausePipe
  · exact h.on
  · exact h.on
  · exact h

theorem State.Inv.execChangeSetStageSwitch (h : s.Inv) {type index : Nat} : Keeps (execChangeSetStageSwitch type index s) :=
  .next (by
    split
    · exact h
    · exact by
        dsimp only
        split
        · exact .ite (h.when (fun _ h => h.switchTables)) (h.when (fun _ h => h.bring))
        · exact h.when (fun _ h => (h.onlyIf fun h => h.auxPause).bring)
        · exact h.when (fun _ h => h.bring)
        · exact h)

theorem State.Inv.execAuxPauseEnd (h : s.Inv) {unit : Nat} : Keeps (execAuxPauseEnd unit s) :=
  .next (by split; exacts [h.off, h.off, h.when (fun _ h => h.off)])

theorem State.Inv.execGapSectionApply (h : s.Inv) {type index : Nat} : Keeps (execGapSectionApply type index s) :=
  .next (h.when (fun _ h => (by split; exacts [(by split; exacts [h.when (fun _ h => .ite h.finalLine.bring h.finalLine), h]), h])))

theorem State.Inv.decodeAgain (h : s.Inv) {t : Nat} : (s.decodeAgain t).Inv := h.setChan

theorem State.Inv.execTunProgLoadDone (h : s.Inv) {t : Nat} {late : Bool} : Keeps (execTunProgLoadDone t late s) :=
  .next (by
    split
    · exact h
    · exact h.when (fun _ h => .andThen (.ite h.upd.recordSwitch.loadTun h.upd.recordSwitch.loadTun.decodeAgain) fun h1 =>
        .andThen (.ite h1 h1.loadTables.rebuildGravity) fun h2 => .ite h2.setChan.off.bump.bump h2.setChan.off.bump))

/-! ## Power -/

theorem State.Inv.requestDomain (h : s.Inv) {n : Nat} {on : Bool} : (s.requestDomain n on).Inv := .ite h.putB (.ite h (.ite h.putB.putB h.putB))
theorem State.Inv.pwrReq (h : s.Inv) {n v : Nat} : (s.pwrReq n v).Inv := h.each (fun _ h _ => h.requestDomain)
theorem State.Inv.execPwrReqWrite (h : s.Inv) {n v : Nat} : Keeps (execPwrReqWrite n v s) := .next (h.when (fun _ h => h.pwrReq))

theorem State.Inv.resetUnits (h : s.Inv) {n : Nat} : (s.resetUnits n).Inv := by
  unfold State.resetUnits
  refine .ite (h.onlyIf fun h => h.headPower).upd.setChan (.ite (.ite h.upd h) (.ite h.upd (.ite h.upd (.ite h (.ite h.upd ?_)))))
  split
  · exact State.Inv.clear (State.Inv.upd (h.foldl fun _ h _ => h.finish))
  · exact State.Inv.upd (h.each fun _ h _ => h.disarm)
  · extract_lets s1 s2
    have h1 : s1.Inv := by
      unfold s1
      split
      · exact h.finish
      · exact h
    have h2 : s2.Inv := by
      unfold s2
      split
      · exact h1.finish
      · exact h1
    exact h2.upd
  · exact h.upd
  · exact (h.onlyIf fun h => h.releaseOwn).upd
  · exact h.upd
  · exact h.upd
  · exact h

theorem State.Inv.restBalls (h : s.Inv) {n : Nat} : (s.restBalls n).Inv := h.upd

theorem State.Inv.resetDomain (h : s.Inv) {n : Nat} : (s.resetDomain n).Inv := by
  unfold State.resetDomain
  extract_lets mine s1
  have h1 : s1.Inv := h.resetUnits.restBalls
  exact h1.keepRegs (p := fun k => !mine k.fld.desc.reg k.inst || k.stays) rfl rfl rfl

theorem State.Inv.setPower (h : s.Inv) {n : Nat} {on : Bool} : (s.setPower n on).Inv := h.putB
theorem State.Inv.domainUp (h : s.Inv) {n : Nat} : (s.domainUp n).Inv := (h.resetDomain.setPower.onlyIf fun h => h.set).reloadDomain.wortLaneUp
theorem State.Inv.domainOn (h : s.Inv) {n : Nat} : (s.domainOn n).Inv := .ite h.domainUp h.domainUp.rewriteSame
theorem State.Inv.domainDown (h : s.Inv) {n : Nat} : (s.domainDown n).Inv := h.camerasDown.wortDown.resetDomain.setPower

theorem State.Inv.execDomainSwitch (h : s.Inv) : Keeps (execDomainSwitch s) :=
  .next (h.when (fun _ h => (by split; exacts [h, .ite h.domainDown h.domainOn])))

theorem State.Inv.loseRank (h : s.Inv) : s.loseRank.Inv := by
  unfold State.loseRank
  extract_lets a b s1 s2 gone s3
  have h2 : s2.Inv := h.free.free.each fun _ h _ => .ite h.setChan h
  have h3 : s3.Inv := h2.foldl fun u h i => by
    split
    · exact .ite h h.freeSlot
    · exact h
  exact h3.setDram (Memory.wf_keep h3.dram _)

theorem State.Inv.ddrDown (h : s.Inv) {i : Nat} : (s.ddrDown i).Inv := h.domainDown.setDdr
theorem State.Inv.ddrSleep (h : s.Inv) : s.ddrSleep.Inv := h.selfRefresh.each (fun _ h _ => .ite h.ddrDown h)
theorem State.Inv.enterP2 (h : s.Inv) : s.enterP2.Inv := (h.checkpoint.onlyIf fun h => h.loseRank).ddrSleep.each (fun _ h _ => .ite h h.domainDown)
theorem State.Inv.leaveP2 (h : s.Inv) : s.leaveP2.Inv := h.each (fun _ h _ => .ite h h.domainOn)
theorem State.Inv.pstate (h : s.Inv) {v : Nat} : (s.pstate v).Inv := .ite h.on.set (.ite (.off (.ite h.set.ddrSleep h.set)) h.set.on)
theorem State.Inv.execPstateRequest (h : s.Inv) {v : Nat} : Keeps (execPstateRequest v s) := .next (h.when (fun _ h => h.pstate))
theorem State.Inv.headsOff (h : s.Inv) : s.headsOff.Inv := h.each (fun _ h _ => .ite h.headPower h)

theorem State.Inv.execPstateTransitionDone (h : s.Inv) : Keeps (execPstateTransitionDone s) :=
  .next (h.when (fun _ h => .andThen (.ite h h.headsOff) fun h1 => ((h1.onlyIf fun h => h.enterP2).onlyIf fun h => h.leaveP2).set.off))

/-! ## Mash images -/

theorem State.Inv.enterApply (h : s.Inv) {handle : Nat} : (s.enterApply handle).Inv :=
  (h.foldl (fun _ h _ => h.dropSet)).andThen fun h1 => (h1.foldl (fun _ h _ => h.releaseStaged)).andThen fun h2 =>
    (h2.each (fun _ h _ => .ite h.setChan.off h)).andThen fun h3 => h3.upd.set

theorem State.Inv.tryFull (h : s.Inv) {x : Staged} : (s.tryFull x).Inv := .ite h (.ite h.enterApply h.upd.finish)
theorem State.Inv.frontIdle (h : s.Inv) : s.frontIdle.Inv := h.upd.set.foldl (fun _ h _ => h.tryFull)

theorem State.Inv.refuseImage (h : s.Inv) {x : Loading} {r : Refused} : (s.refuseImage x r).Inv :=
  .andThen (.ite h.set.set.set.set h.set.set.set.finish) fun h1 => h1.frontIdle

theorem State.Inv.execMashStage (h : s.Inv) {d : Desc} : Keeps (execMashStage d s) := .next (h.when (fun _ h => h.submit (fun _ _ h => h.upd.set)))

theorem State.Inv.execMashReceiveDone (h : s.Inv) : Keeps (execMashReceiveDone s) :=
  .next (by split; exacts [h, h.when (fun _ h => (by dsimp only; split; exacts [h.refuseImage, h.upd.set]))])

theorem State.Inv.execMashCheckDone (h : s.Inv) : Keeps (execMashCheckDone s) :=
  .next (by split; exacts [h, h.when (fun _ h => (by split; exacts [h.refuseImage, .ite h.upd.frontIdle h.upd.setSlot.done.frontIdle]))])

theorem State.Inv.execMashCommit (h : s.Inv) {d : Desc} {others : List Nat} : Keeps (execMashCommit d s others) :=
  .next (h.submit (fun _ _ h => (by split; exacts [h, .ite (.ite h.upd.enterApply h.upd) h.upd.upd.prepShadows])))

theorem State.Inv.abortStaged (h : s.Inv) {x : Staged} : (s.abortStaged x).Inv := by
  unfold State.abortStaged
  split
  · exact h.dropSet
  · exact (h.onlyIf fun h => h.finish).releaseStaged

theorem State.Inv.execMashAbort (h : s.Inv) {d : Desc} : Keeps (execMashAbort d s) :=
  .next (h.submit (fun _ _ h => (by split; exacts [h, h.abortStaged.done])))

theorem State.Inv.execMashRbAdvance (h : s.Inv) {d : Desc} : Keeps (execMashRbAdvance d s) := .next (h.submit (fun _ _ h => h.set.done))

theorem State.Inv.compositeMoved (h : s.Inv) {old : Nat} {advance : Bool} : (s.compositeMoved old advance).Inv := by
  unfold State.compositeMoved
  split
  · exact h
  · exact .ite h ((h.onlyIf fun h => h.setBind).putDev.causeBit)

theorem State.Inv.applyPower (h : s.Inv) {b : List Byte} : (s.applyPower b).Inv := h.each (fun _ h _ => h.requestDomain)

theorem State.Inv.unused (h : s.Inv) {old : List Sect} : (s.unused old).Inv :=
  ((h.onlyIf fun h => h.emptyDram.showSlots).each (fun _ h _ => .ite h.applyReservoir h)).andThen fun h1 =>
    (((h1.each (fun _ h _ => .ite h.off.applyGeom h)).cutHeads.onlyIf fun h => h.dropSetup).each (fun _ h _ => .ite h.applyIsp h)).andThen fun h2 =>
    ((h2.onlyIf fun h => h.applySg.upd).each (fun _ h _ => .ite h.hardStop h)).andThen fun h3 => ((h3.onlyIf fun h =>
    h.applyEncoder.clear).each (fun _ h _ => .ite h.loadTun h)).andThen fun h4 => (h4.each (fun _ h _ => .ite h.dropTables h)).andThen fun h5 =>
    (h5.each (fun _ h _ => .ite h.stopCam h)).andThen fun h6 => ((h6.onlyIf fun h => ((h.each (fun _ h _ => h.off)).andThen fun h7 =>
    h7.upd).off).onlyIf fun h => h.applyWort).andThen fun h8 => .ite h8.applyTimeNet h8

theorem State.Inv.applyFull (h : s.Inv) {x : Image} : (s.applyFull x).Inv :=
  .andThen (by split; exacts [h.sealKiln, h]) fun h1 => (h1.upd.upd.unused.foldl (fun _ h _ => .ite h h.enact)).andThen fun h2 =>
    h2.set.set.set.rewrite.applyPower.compositeMoved

theorem State.Inv.execFullCommitApply (h : s.Inv) : Keeps (execFullCommitApply s) :=
  .next (by split; exacts [h, h.when (fun _ h => h.applyFull.done.releaseStaged.frontIdle)])

theorem State.Inv.execChangeSetInForce (h : s.Inv) : Keeps (execChangeSetInForce s) :=
  .next (by
    split
    · exact h
    · exact by
        split
        · exact h
        · exact h.when (fun _ h => (h.upd.bump.set.rewrite.onlyIf fun h => h.applyPower).done.releaseStaged.compositeMoved.dropShadows))

theorem State.Inv.execChangeSetDeadlineMissed (h : s.Inv) : Keeps (execChangeSetDeadlineMissed s) :=
  .next (h.when (fun _ h => (by split; exacts [h, h.dropSet])))

theorem State.Inv.execMashErrClr (h : s.Inv) : Keeps (execMashErrClr s) := .next (h.reach (fun _ h => h.clear))

/-! ## Firmware -/

theorem State.Inv.takeOver (h : s.Inv) {src : Nat} {b m : List Byte} : (s.takeOver src b m).Inv := h.upd.set.set.off.on.setWindow.setWindow
theorem State.Inv.bootFrom (h : s.Inv) {a : Nat} : (s.bootFrom a).Inv := .ite h.takeOver (.ite h.takeOver h.on)

theorem State.Inv.bootByPointer (h : s.Inv) : s.bootByPointer.Inv := by
  unfold State.bootByPointer
  dsimp only
  split
  · exact h.set.bootFrom
  · exact .ite h.set.bump.bootFrom h.set.on.set.bootFrom
  · exact .ite h.set.on h.set.on.bootFrom

theorem State.Inv.execBootRom (h : s.Inv) : Keeps (execBootRom s) :=
  .next (h.when (fun _ h => .ite h.set.on (.ite h.set.upd.set (by split; exacts [h.set.bootByPointer, h.set.bootFrom]))))

theorem State.Inv.hostLoad (h : s.Inv) {len : Nat} : (s.hostLoad len).Inv := by
  unfold State.hostLoad
  refine State.Inv.when h.set fun s h => ?_
  extract_lets n read b m
  exact .ite h.on h.takeOver

theorem State.Inv.execFlsHostloadWrite (h : s.Inv) {len : Nat} : Keeps (execFlsHostloadWrite len s) := .next (h.reach (fun _ h => h.hostLoad))

theorem State.Inv.execWortImageLoad (h : s.Inv) {p : Nat} {mash : Bool} {bytes : List Byte} {last : Bool} :
    Keeps (execWortImageLoad p mash bytes last s) := .next (h.when (fun _ h => .ite h.upd (.ite h.upd (.ite h.upd.takeOver h.upd.upd.on))))

theorem State.Inv.readBinds (h : s.Inv) : s.readBinds.Inv := h.upd.restoreBinds

theorem State.Inv.readSettings (h : s.Inv) {own : Nat} {reads : List Nat} {fault : Nat} : (s.readSettings own reads fault).2.Inv := by
  unfold State.readSettings
  extract_lets s1 r cause old
  have h1 : s1.Inv := h.set
  split
  · exact h1.set
  · split
    · exact h1.set.set
    · split
      · exact h1.set.set
      · exact h1.set.set.readBinds

theorem State.Inv.stageBoot (h : s.Inv) : s.stageBoot.Inv := .ite h h.upd.set

theorem State.Inv.execBootImageCommit (h : s.Inv) {schema : Nat} {reads : List Nat} {fault : Nat} :
    Keeps (execBootImageCommit schema reads fault s) := .next (h.when (fun _ h => .ite h.readSettings.upd.showWear.stageBoot h.readSettings.upd.set))

theorem State.Inv.execBootSettle (h : s.Inv) : Keeps (execBootSettle s) :=
  .next (h.when (fun _ h => .ite (.ite h h.writePointer) (.ite h.writePointer.set.off h)))

theorem State.Inv.execCaskMigration (h : s.Inv) : Keeps (execCaskMigration s) :=
  .next (h.when (fun _ h => (h.foldl (fun _ h _ => (by split; exacts [h.caskPut, h]))).andThen fun h1 => h1.set.readBinds))

theorem State.Inv.caskDrop (h : s.Inv) {gone : CaskRec → Bool} : (s.caskDrop gone).Inv :=
  (h.upd.foldl (fun _ h _ => .ite h.eraseSector h)).andThen fun h1 => h1.showWear

theorem State.Inv.caskConfirm (h : s.Inv) {hd : Nat} {d : Desc} : (s.caskConfirm hd d).Inv :=
  .ite h.caskDrop.set.set.done h.caskDrop.caskPut.caskPut.writePointer.upd.set.set.stageBoot.done

theorem State.Inv.execCaskConfirm (h : s.Inv) {d : Desc} : Keeps (execCaskConfirm d s) :=
  .next (h.submit (fun _ _ h => h.firmware (fun _ h => h.caskConfirm)))

theorem State.Inv.xipWrite (h : s.Inv) {v : Nat} : (s.xipWrite v).Inv := h.setWindow.setWindow.caskFlush

theorem State.Inv.execFlsXipWrite (h : s.Inv) {fw : Bool} {v : Nat} : Keeps (execFlsXipWrite fw v s) :=
  .next (h.when (fun _ h => h.reach (fun _ h => h.xipWrite)))

theorem State.Inv.execFwHandover (h : s.Inv) {d : Desc} : Keeps (execFwHandover d s) :=
  .next (h.submit (fun _ _ h => h.setWindow.checkpoint.fwLeaves.upd.on))

theorem State.Inv.fwRun (h : s.Inv) {e : Nat × FwOp} : (s.fwRun e).Inv := by
  unfold State.fwRun
  split
  · exact h.jsaMap
  · exact h.jsaUnmap
  · exact h.barEnum
  · exact h.barBind
  · exact h.barRelease
  · exact h.caskConfirm
  · exact h.coverageReport

theorem State.Inv.fwBack (h : s.Inv) : s.fwBack.Inv := .ite h (.foldl (.ite h.upd.checkpoint h.upd) (fun _ h _ => h.fwRun))
theorem State.Inv.handEnd (h : s.Inv) : s.handEnd.Inv := h.upd.off.fwBack

theorem State.Inv.resetMgmt (h : s.Inv) {keep : Reg → Bool} : (s.resetMgmt keep).Inv := by
  unfold State.resetMgmt
  extract_lets mine s1 front s2
  have h1 : s1.Inv := by
    unfold s1
    split
    · exact .ite h h.finish
    · exact h
  have h2 : s2.Inv := h1.keepRegs (p := fun k => !mine k.fld.desc.reg || k.stays) rfl rfl rfl
  exact .ite h2.set h2.frontIdle

theorem State.Inv.handBack (h : s.Inv) {x : Handover} {detail : Nat} : (s.handBack x detail).Inv :=
  .andThen (.ite h.resetMgmt h.resetMgmt.setWindow.caskFlush) fun h1 => h1.bump.handEnd.finish

theorem State.Inv.checkBand (h : s.Inv) {i v : Nat} : (s.checkBand i v).Inv := by
  unfold State.checkBand
  split
  · exact h.putDev.causeBit
  · exact h

theorem State.Inv.execHandoverFreeze (h : s.Inv) {ms schema : Nat} {reads : List Nat} {fault : Nat} {told : Option (Nat × Nat)} :
    Keeps (execHandoverFreeze ms schema reads fault s told) :=
  .next (by
    split
    · exact h.when (fun _ h => h.checkBand)
    · exact h
    · exact h.when (fun _ h => .ite h.handBack (.andThen (.ite h.bump.set.set.set.readSettings.upd
        h.bump.set.set.set.readSettings.upd.setWindow.caskFlush) fun h1 => (h1.onlyIf fun h => h.writePointer.set).andThen fun h2 =>
        .andThen (.ite h2.handEnd (.ite h2.handEnd.checkBand h2.handEnd.out)) fun h3 => h3.done)))

theorem State.Inv.execHandoverTimeout (h : s.Inv) : Keeps (execHandoverTimeout s) := .next (by split; exacts [h, h.handBack])

/-! ## Resets -/

theorem State.Inv.allRest (h : s.Inv) : s.allRest.Inv := h.each (fun _ h _ => h.restBalls)
theorem State.Inv.lose (h : s.Inv) {keep : FKey → Bool} {half : Dom → Bool} : (s.lose keep half).Inv := h.headsOff.allRest.keepRegs rfl rfl rfl
theorem State.Inv.begin_ (h : s.Inv) : s.begin_.Inv := .ite h.set.set h.set
theorem State.Inv.downAll (h : s.Inv) {cause : Nat} : (s.downAll cause).Inv := h.each (fun _ h _ => h.sendDown)
theorem State.Inv.warmLose (h : s.Inv) {relock : Bool} : (s.warmLose relock).Inv := h.lose.set.set.begin_
theorem State.Inv.warmReset (h : s.Inv) {relock : Bool} : (s.warmReset relock).Inv := h.downAll.warmLose
theorem State.Inv.latch (h : s.Inv) {straps : Nat} : (s.latch straps).Inv := h.set.set.set.set

theorem State.Inv.powerOn (h : s.Inv) : s.powerOn.Inv where
  regs := Tab.wf_keep h.allRest.regs _
  widths e he := h.allRest.widths e (List.mem_of_mem_filter he)
  hostMem := h.allRest.hostMem
  dram := rfl

theorem State.Inv.execPowerOnReset (h : s.Inv) {straps : Nat} : Keeps (execPowerOnReset straps s) := .next h.powerOn.latch.begin_

theorem State.Inv.execResetNReset (h : s.Inv) {ns : Nat} {taken : Bool} {straps : Nat} : Keeps (execResetNReset ns taken straps s) :=
  .next (h.when (fun _ h => h.on.latch.warmReset))

theorem State.Inv.softReset (h : s.Inv) : s.softReset.Inv := h.checkpoint.on.warmReset
theorem State.Inv.execSoftwareReset (h : s.Inv) {key : Nat} : Keeps (execSoftwareReset key s) := .next (h.when (fun _ h => h.softReset))

theorem State.Inv.execWortResetRequest (h : s.Inv) {p blocks : Nat} : Keeps (execWortResetRequest p blocks s) :=
  .next (h.when (fun _ h => .ite h.set.on.warmReset h.telEvent))

theorem State.Inv.watchdog (h : s.Inv) : s.watchdog.Inv := by
  unfold State.watchdog
  extract_lets s1 s2 s3 s4
  have h2 : s2.Inv := by
    unfold s2
    split
    · exact h.on.finish
    · exact h.on
  have h3 : s3.Inv := by
    unfold s3
    split
    · exact .ite h2.upd h2
    · exact h2
  exact .ite h.on.warmReset h3.resetMgmt.fwLeaves.upd

theorem State.Inv.execWatchdogExpiry (h : s.Inv) : Keeps (execWatchdogExpiry s) := .next (h.when (fun _ h => h.watchdog))
theorem State.Inv.execWdogOk (h : s.Inv) : Keeps (execWdogOk s) := .next (.ite h.upd.fwBack h)

theorem State.Inv.headStop (h : s.Inv) : s.headStop.Inv :=
  (h.each (fun _ h _ => .ite h.out h)).andThen fun h1 => (h1.headsOff.each (fun _ h _ => h.putB)).andThen fun h2 => .ite h2.releaseOwn h2

theorem State.Inv.headSafe (h : s.Inv) : s.headSafe.Inv := .ite h.headStop.downAll.warmLose.set h.headStop.downAll.warmLose
theorem State.Inv.execThermalTrip (h : s.Inv) {sensor : Nat} : Keeps (execThermalTrip sensor s) := .next (h.when (fun _ h => h.set.on.on.headSafe))
theorem State.Inv.execThermalRelease (h : s.Inv) : Keeps (execThermalRelease s) := .next (h.when (fun _ h => h.off.begin_))

theorem State.Inv.critical (h : s.Inv) {unit : Nat} {dbe : Bool} : (s.critical unit dbe).Inv := by
  unfold State.critical
  extract_lets s1 s2
  have h2 : s2.Inv := by
    unfold s2
    split
    · exact h.on
    · have hkiln : (s.on .RST_CAUSE_CRIT_KILN).Inv := h.on
      exact hkiln.keepRegs (p := fun k => k.fld.desc.reg.desc.block != Block.kiln || k.fld == Fld.KILN_HPWR_ON_ON) rfl rfl rfl
    · exact h.on
    · exact h.on
  exact h2.set.headSafe

theorem State.Inv.execCriticalStateError (h : s.Inv) {unit : Nat} {dbe : Bool} : Keeps (execCriticalStateError unit dbe s) :=
  .next (h.when (fun _ h => h.critical))

theorem State.Inv.execSupplyFail (h : s.Inv) {monitor : Nat} : Keeps (execSupplyFail monitor s) :=
  .next (h.when (fun _ h => .begin_ (.latch (.powerOn (.ite h h.headStop)))))

theorem State.Inv.releaseDomain (h : s.Inv) {n : Nat} : (s.releaseDomain n).Inv :=
  (h.setPower.onlyIf fun h => h.set).andThen fun h1 => .ite h1.wortTrain h1

theorem State.Inv.execReleaseStep (h : s.Inv) : Keeps (execReleaseStep s) :=
  .next (h.when (fun _ h => (h.set.foldl (fun _ h _ => h.releaseDomain)).andThen fun h1 => (h1.onlyIf fun h => h.bootTable).andThen fun h2 =>
    .ite h2.set.on h2))

theorem State.Inv.locked (h : s.Inv) : s.locked.Inv := (h.onlyIf fun h => h.newEpoch.on).on.off.upd.begin_
theorem State.Inv.execCorePllLock (h : s.Inv) : Keeps (execCorePllLock s) := .next (h.when (fun _ h => h.locked))
theorem State.Inv.execClockAbsentTimeout (h : s.Inv) : Keeps (execClockAbsentTimeout s) := .next (h.when (fun _ h => h.on))

theorem State.Inv.execPllLossOfLock (h : s.Inv) : Keeps (execPllLossOfLock s) := by
  refine .next (h.when fun s h => ?_)
  extract_lets wait cut s1 s2 s3 s4
  have h3 : s3.Inv := (State.Inv.each h.headStop.downAll.lose.set.off.off.on fun _ h _ => h.set).on
  have h4 : s4.Inv := h3.onlyIf fun h => h.set
  exact h4.setDram rfl

theorem State.Inv.execPllRelock (h : s.Inv) : Keeps (execPllRelock s) := .next (h.when (fun _ h => h.upd.locked))
theorem State.Inv.flrSlots (h : s.Inv) : s.flrSlots.Inv := (h.foldl (fun _ h _ => .ite h.setSlot h.freeSlot)).andThen fun h1 => h1.bump.upd
theorem State.Inv.flr (h : s.Inv) : s.flr.Inv := h.flrSlots.clear.upd.foldl (fun _ h _ => .ite h.abortStaged h)
theorem State.Inv.execFlr (h : s.Inv) : Keeps (execFlr s) := .next (h.when (fun _ h => h.flr))
theorem State.Inv.execHotReset (h : s.Inv) : Keeps (execHotReset s) := .next (h.when (fun _ h => h.flr))

theorem State.Inv.execSequencerCopyDisagree (h : s.Inv) {mask : Nat} : Keeps (execSequencerCopyDisagree mask s) :=
  .next (h.when (fun _ h => (by split; exacts [h, .ite h.critical (.ite h.bump.upd.putB.on h.bump.upd), h.critical])))

theorem State.Inv.loseStaged (h : s.Inv) {i : Nat} : (s.loseStaged i).Inv := by
  unfold State.loseStaged
  split
  · exact .ite h.upd h.abortStaged
  · exact by split; exacts [.ite h.set.frontIdle h.finish.frontIdle, h]

theorem State.Inv.poisoned (h : s.Inv) {hold unit part : Nat} : (s.poisoned hold unit part).Inv := by
  unfold State.poisoned
  dsimp only
  split
  · exact h.setChan
  · exact h.setChan
  · exact by split; exacts [.ite h h.blockFailed, h]
  · exact h.loseStaged
  · exact h.upd.bump
  · exact h

theorem State.Inv.execUncorrectableBurst (h : s.Inv) {i x : Nat} {both : Bool} {hold unit part : Nat} :
    Keeps (execUncorrectableBurst i x both hold unit part s) :=
  .next (h.when (fun _ h => .ite h.poisoned (h.when (fun _ h => .ite h.burstLost.poisoned (.ite h.burstLost.free.telEvent.softReset h.burstLost)))))

theorem State.Inv.tunCorrected (h : s.Inv) {t src m : Nat} : (s.tunCorrected t src m).Inv := h.bump.set.set

theorem State.Inv.execSramScrub (h : s.Inv) {memory unit part : Nat} {double : Bool} : Keeps (execSramScrub memory unit part double s) :=
  .next (by
    split
    · exact h.when (fun _ h => .ite h.faultTun h.tunCorrected)
    · exact h.when (fun _ h => .ite h.faultTun h.tunCorrected)
    · exact h.when (fun _ h => .ite h.setChan h.bump)
    · exact h.when (fun _ h => .ite h.fenceCodec h.bump)
    · exact h.when (fun _ h => .ite h.fenceCam h.bump)
    · exact h.when (fun _ h => .ite h.watchdog h.bump)
    · exact .ite h h.bump
    · exact h)

/-! ## Register access -/

theorem State.Inv.drawn (h : s.Inv) : s.drawn.Inv := .ite h h.upd

theorem State.Inv.readAct (h : s.Inv) {r : Reg} {i : Nat} {up : Bool} : (s.readAct r i up).Inv := by
  unfold State.readAct
  split
  · exact h.timeNsRead
  · exact h.timeNsRead
  · exact .ite h h.txtsPop
  · exact h

theorem State.Inv.read32 (h : s.Inv) {fw : Bool} {o : Nat} : (s.read32 fw o).Inv := by
  unfold State.read32
  split
  · exact (h.onlyIf fun h => h.upd).readAct.upd.drawn
  · exact h.upd
  · exact h.upd.drawn
  · exact h.upd.stale
  · exact h.upd

theorem State.Inv.read64 (h : s.Inv) {fw : Bool} {o : Nat} : (s.read64 fw o).Inv := by
  unfold State.read64
  dsimp only
  split
  · exact .ite h.readAct.upd.drawn h.read32.read32.upd
  · exact .ite h.upd.stale h.read32.read32.upd
  · exact h.read32.read32.upd

theorem State.Inv.execReg64LowerRead (h : s.Inv) {fw : Bool} {offset : Nat} {wide : Bool} : Keeps (execReg64LowerRead fw offset s wide) :=
  .next (h.when (fun _ h => .ite (.ite h h.upd) (.ite h.read64 h.read32)))

theorem State.Inv.execTimeNsRead (h : s.Inv) {fw : Bool} : Keeps (execTimeNsRead fw s) := .next (h.reachRd (fun _ h => h.timeNsRead))
theorem State.Inv.execEthTxtsEntryPop (h : s.Inv) {p : Nat} : Keeps (execEthTxtsEntryPop p s) := .next (h.reachRd (fun _ h => h.txtsPop))

theorem State.Inv.writeField (h : s.Inv) {f : Fld} {i k v m : Nat} : (s.writeField f i k v m).Inv :=
  .ite h (by split; exacts [.ite h h.set, .ite h h.set, .ite h.on h.set, h.set, h])

theorem State.Inv.usbIdle (h : s.Inv) : s.usbIdle.Inv := (h.onlyIf fun h => h.bump).upd.off.set.off
theorem State.Inv.tunFaultClr (h : s.Inv) {t : Nat} : (s.tunFaultClr t).Inv := h.clear
theorem State.Inv.tunEccClr (h : s.Inv) {t : Nat} : (s.tunEccClr t).Inv := h.clear
theorem State.Inv.sliceClr (h : s.Inv) {t m : Nat} : (s.sliceClr t m).Inv := h.set

theorem State.Inv.act (h : s.Inv) {fw : Bool} {r : Reg} {i k v m : Nat} : (s.act fw r i k v m).Inv := by
  unfold State.act
  dsimp only
  split
  · exact (h.onlyIf fun h => h.upd.fwBack).andThen fun h1 => .ite h1.softReset h1
  · exact h.pwrReq
  · exact h.pstate
  · exact .ite (h.via h.execGrsStaleClr) h
  · exact .ite (h.via h.execMashErrClr) h
  · exact .ite h.adminEnable h
  · exact .ite h.clear h
  · exact h.set
  · exact h.set
  · exact h.set
  · exact .ite h.clear h
  · exact .ite (h.via h.execUbLateCountClr) h
  · exact .ite (h.via h.execIntArchDroppedClr) h
  · exact .ite (h.via h.execIntFaultLogClr) h
  · exact (h.onlyIf fun h => h.set).andThen fun h2 => .ite h2.encFlush h2
  · exact .ite (h.via h.execCdcFailClr) h
  · exact .ite h.tunFaultClr h
  · exact .ite h.tunEccClr h
  · exact .ite h.sliceClr h
  · exact h.bridgeSet
  · exact h.bridgeClr
  · exact .ite h.bridgeApply h
  · exact .ite (h.via h.execScrBridgeLostClr) h
  · exact .ite (h.via h.execScrClipClr) h
  · exact .ite (h.via h.execFireDroppedClr) h
  · exact .ite (h.via h.execFireMissedClr) h
  · exact .ite (h.via h.execFireVoteClr) h
  · exact .ite h h.writeComp
  · exact .ite h h.writeTrim
  · exact .ite (h.via h.execFireChDroppedClr) h
  · exact h.hpwrReq
  · exact .ite (h.via h.execKilnClipLinesClr) h
  · exact .ite (h.via h.execKilnUnsealedClr) h
  · exact .ite (h.via h.execKilnChClipClr) h
  · exact .ite (h.via h.execMotBsCountClr) h
  · exact .ite (h.via h.execMotRefusedClr) h
  · exact .ite (h.via h.execMotHardLinesClr) h
  · exact .ite (h.via h.execEncUncmdClr) h
  · exact .ite (h.via h.execEncAmpClr) h
  · exact .ite (h.via h.execEncFaultClr) h
  · exact .ite (h.via h.execCamLostClr) h
  · exact .ite (h.via h.execCamPhyErrClr) h
  · exact .ite (h.via h.execCamStaleClr) h
  · exact .ite h.ispApply h
  · exact .ite (h.via h.execGravForeignClr) h
  · exact .ite (h.via h.execGravChCountClr) h
  · exact (h.onlyIf fun h => h.resetTrials).andThen fun h3 => .ite h3.clearWindow.showValid h3
  · exact h.sgForce.sgDisarm
  · exact .ite (h.via h.execSgBusClr) h
  · exact .ite (h.via h.execSgViolClr) h
  · exact .ite h.timeLoad (.ite h.timeAdj h)
  · exact h.timeIncr
  · exact .ite h.clear h
  · exact .ite h.wortRetrain h
  · exact .ite (h.via h.execWlPortErrClr) h
  · exact .ite h.laneRetrainWrite h
  · exact .ite (h.via h.execWlLaneRetrainsClr) h
  · exact h.trioCfg
  · exact .ite (h.via h.execTrioEventsClr) h
  · exact .ite (h.via h.execBarResyncClr) h
  · exact .ite (h.via h.execBarCovEventsClr) h
  · exact .ite (h.via h.execDdrEccClr) h
  · exact .ite (h.via h.execDdrAlertClr) h
  · exact h.spgCtrl
  · exact .ite (h.via h.execSpgFoundClr) h
  · exact .ite (h.via h.execFenceLastClr) h
  · exact .ite (h.via h.execTelStatusClr) h
  · exact .ite (h.via h.execTelScrubClr) h
  · exact .ite (h.via h.execTelTempClr) h
  · exact .ite h.xipWrite h
  · exact .ite h h.hostLoad
  · exact .ite h h.usbIdle
  · exact .ite h.clear h
  · exact h.set
  · exact (h.onlyIf fun h => h.vpCommit).andThen fun h4 => .ite h4.vpRefresh h4
  · exact .ite h.vpSend h
  · exact .ite (h.via h.execVpCountsClr) h
  · exact h

theorem State.Inv.writeReg (h : s.Inv) {fw : Bool} {r : Reg} {i k v m : Nat} : (s.writeReg fw r i k v m).Inv :=
  (h.foldl (fun _ h _ => h.writeField)).act

theorem State.Inv.write32 (h : s.Inv) {fw : Bool} {o v : Nat} : (s.write32 fw o v).Inv := by
  unfold State.write32
  split
  · exact .ite h.upd h.writeReg
  · exact .ite h.upd.writeReg h.upd.writeReg
  · exact h.stale
  · exact h

theorem State.Inv.write64 (h : s.Inv) {fw : Bool} {o v : Nat} : (s.write64 fw o v).Inv := by
  unfold State.write64
  dsimp only
  split
  · exact .ite h.writeReg h.write32.write32
  · exact .ite h.stale h.write32.write32
  · exact h.write32.write32

theorem State.Inv.execReg64LowerWrite (h : s.Inv) {fw : Bool} {offset v : Nat} : Keeps (execReg64LowerWrite fw offset v s) :=
  .next (by split; exacts [h.when (fun _ h => h.write32), h.stale, h])

theorem State.Inv.execReg64UpperWrite (h : s.Inv) {fw : Bool} {offset v : Nat} : Keeps (execReg64UpperWrite fw offset v s) :=
  .next (by split; exacts [h.write32, h.stale, h])

theorem State.Inv.execRegisterWrite (h : s.Inv) {fw wide : Bool} {offset v : Nat} : Keeps (execRegisterWrite fw wide offset v s) :=
  .next (h.when (fun _ h => .ite (.ite h (.ite h.bar2Write.bar2Write h.bar2Write)) (.ite h.write64 h.write32)))

theorem State.Inv.execTimeLoad (h : s.Inv) {adj : Bool} : Keeps (execTimeLoad adj s) := .next (h.reach (fun _ h => h.timeLoad))
theorem State.Inv.execTimeAdjust (h : s.Inv) : Keeps (execTimeAdjust s) := .next (h.reach (fun _ h => h.timeAdj))
theorem State.Inv.execTimeIncrWrite (h : s.Inv) {v : Nat} : Keeps (execTimeIncrWrite v s) := .next (h.reach (fun _ h => h.timeIncr))
theorem State.Inv.execTunFaultClr (h : s.Inv) {t : Nat} : Keeps (execTunFaultClr t s) := .next (h.reach (fun _ h => h.tunFaultClr))
theorem State.Inv.execTunEccClr (h : s.Inv) {t : Nat} : Keeps (execTunEccClr t s) := .next (h.reach (fun _ h => h.tunEccClr))

theorem State.Inv.execTunSliceMaxClr (h : s.Inv) {t m : Nat} : Keeps (execTunSliceMaxClr t m s) :=
  .next (h.when (fun _ h => h.reach (fun _ h => h.sliceClr)))

theorem State.Inv.execEthTxtsClr (h : s.Inv) {p : Nat} : Keeps (execEthTxtsClr p s) := .next (h.reach (fun _ h => h.clear))
theorem State.Inv.execQmDbErrClr (h : s.Inv) : Keeps (execQmDbErrClr s) := .next (h.reach (fun _ h => h.clear))
theorem State.Inv.execQmFlrDroppedClr (h : s.Inv) : Keeps (execQmFlrDroppedClr s) := .next (h.reach (fun _ h => h.clear))
theorem State.Inv.execUsbCountsClr (h : s.Inv) : Keeps (execUsbCountsClr s) := .next (h.reach (fun _ h => h.clear))

/-! ## The service port -/

theorem State.Inv.usbAbandon (h : s.Inv) : s.usbAbandon.Inv := .ite h.upd.bump h
theorem State.Inv.usbStall (h : s.Inv) : s.usbStall.Inv := h.bump.out
theorem State.Inv.usbData (h : s.Inv) {len : Nat} {bs : List Byte} : (s.usbData len bs).Inv := h.out

theorem State.Inv.usbRequest (h : s.Inv) {f : State → State} (hf : ∀ u : State, u.Inv → (f u).Inv) : (s.usbRequest f).Inv :=
  h.when fun _ h => .ite (hf _ h.usbAbandon) h.out

theorem State.Inv.execUsbAttach (h : s.Inv) : Keeps (execUsbAttach s) := .next (h.when (fun _ h => h.on))
theorem State.Inv.execUsbSuspend (h : s.Inv) : Keeps (execUsbSuspend s) := .next (h.when (fun _ h => h.on))
theorem State.Inv.execUsbResume (h : s.Inv) : Keeps (execUsbResume s) := .next (h.when (fun _ h => h.off))

theorem State.Inv.execUsbBusReset (h : s.Inv) {hs : Bool} : Keeps (execUsbBusReset hs s) :=
  .next (h.when (fun _ h => h.usbAbandon.upd.set.off.off.set))

theorem State.Inv.execUsbDetach (h : s.Inv) : Keeps (execUsbDetach s) := .next (h.when (fun _ h => h.usbIdle.off.off))
theorem State.Inv.execUsbSetupAbandon (h : s.Inv) : Keeps (execUsbSetupAbandon s) := .next (h.when (fun _ h => h.usbAbandon))
theorem State.Inv.execEp1InTransaction (h : s.Inv) : Keeps (execEp1InTransaction s) := .next (h.when (fun _ h => (by split; exacts [h.upd.out, h])))

theorem State.Inv.execGetInfo (h : s.Inv) {value index len : Nat} : Keeps (execGetInfo value index len s) :=
  .next (h.usbRequest (fun _ h => .ite h.usbData h.usbStall))

theorem State.Inv.execUsbRegRead (h : s.Inv) {offset len : Nat} : Keeps (execUsbRegRead offset len s) :=
  .next (h.usbRequest (fun _ h => .ite ((h.foldl (fun _ h _ => .ite h.stale h)).andThen fun h1 => h1.usbData.drawn) h.usbStall))

theorem State.Inv.execUsbRegWrite (h : s.Inv) {offset len : Nat} {words : List Nat} {status : Bool} :
    Keeps (execUsbRegWrite offset len words status s) := .next (h.usbRequest (fun _ h => .ite h.usbStall (.ite h.upd (.ite h.upd.out h.usbStall))))

theorem State.Inv.svcWord (h : s.Inv) {o v : Nat} : (s.svcWord o v).Inv := by
  unfold State.svcWord
  split
  · exact .ite h (.ite h.writeReg h.writeReg)
  · exact h.stale
  · exact h

theorem State.Inv.svcWords (h : s.Inv) {l : List (Nat × Nat)} : (s.svcWords l).Inv := by
  fun_induction State.svcWords s l with
  | case1 => exact h
  | case2 => exact h.svcWord
  | case3 => rename_i ih; exact ih h.writeReg
  | case4 => rename_i ih; exact ih h.svcWord

theorem State.Inv.execUsbRegWriteApply (h : s.Inv) : Keeps (execUsbRegWriteApply s) := .next (h.when (fun _ h => h.upd.svcWords))

theorem State.Inv.execTelPeek (h : s.Inv) {value index len : Nat} : Keeps (execTelPeek value index len s) :=
  .next (h.usbRequest (fun _ h => .ite (.ite h.upd.usbData h.usbData) h.usbStall))

theorem State.Inv.usbStandard (h : s.Inv) {type request value index len : Nat} : (s.usbStandard type request value index len).Inv := by
  unfold State.usbStandard
  dsimp only
  split
  · exact .ite h.usbData h.usbStall
  · exact .ite h.usbData h.usbStall
  · exact .ite h.usbData h.usbStall
  · exact .ite (.out (.ite h.upd h)) h.usbStall
  · exact .ite (.out (.ite h.upd h)) h.usbStall
  · exact .ite h.upd.out h.usbStall
  · exact .ite h.set.out h.usbStall
  · exact by split; exacts [.ite h.usbData h.usbStall, h.usbStall]
  · exact .ite h.usbData h.usbStall
  · exact .ite h.upd.set.out h.usbStall
  · exact .ite h.usbData h.usbStall
  · exact .ite h.upd.out h.usbStall
  · exact h.usbStall

theorem State.Inv.execUsbStandardRequest (h : s.Inv) {type request value index len : Nat} :
    Keeps (execUsbStandardRequest type request value index len s) := .next (h.usbRequest (fun _ h => h.usbStandard))

/-! ## Every command -/

/-- Each command keeps the invariant by the lemma about its meaning. -/
theorem State.Inv.exec (h : s.Inv) : ∀ i, Keeps (exec i s)
  | .powerOnReset .. => h.execPowerOnReset
  | .resetNReset .. => h.execResetNReset
  | .watchdogExpiry => h.execWatchdogExpiry
  | .wdogOk => h.execWdogOk
  | .softwareReset .. => h.execSoftwareReset
  | .wortResetRequest .. => h.execWortResetRequest
  | .thermalTrip .. => h.execThermalTrip
  | .thermalRelease => h.execThermalRelease
  | .criticalStateError .. => h.execCriticalStateError
  | .releaseStep => h.execReleaseStep
  | .corePllLock => h.execCorePllLock
  | .clockAbsentTimeout => h.execClockAbsentTimeout
  | .pllLossOfLock => h.execPllLossOfLock
  | .pllRelock => h.execPllRelock
  | .supplyFail .. => h.execSupplyFail
  | .pwrReqWrite .. => h.execPwrReqWrite
  | .domainSwitch => h.execDomainSwitch
  | .pstateRequest .. => h.execPstateRequest
  | .pstateTransitionDone => h.execPstateTransitionDone
  | .reg64LowerRead .. => h.execReg64LowerRead
  | .reg64LowerWrite .. => h.execReg64LowerWrite
  | .reg64UpperWrite .. => h.execReg64UpperWrite
  | .registerWrite .. => h.execRegisterWrite
  | .gristRewrite => h.execGristRewrite
  | .grsStaleClr => h.execGrsStaleClr
  | .nop .. => h.execNop
  | .queueCreate .. => h.execQueueCreate
  | .queueDelete .. => h.execQueueDelete
  | .queueResume .. => h.execQueueResume
  | .handleQuery .. => h.execHandleQuery
  | .copy .. => h.execCopy
  | .mashStage .. => h.execMashStage
  | .mashCommit .. => h.execMashCommit
  | .mashAbort .. => h.execMashAbort
  | .mashRbAdvance .. => h.execMashRbAdvance
  | .mashReceiveDone => h.execMashReceiveDone
  | .mashCheckDone => h.execMashCheckDone
  | .fullCommitApply => h.execFullCommitApply
  | .bootImageCommit .. => h.execBootImageCommit
  | .commitLineFinal .. => h.execCommitLineFinal
  | .changeSetStageSwitch .. => h.execChangeSetStageSwitch
  | .changeSetInForce => h.execChangeSetInForce
  | .changeSetDeadlineMissed => h.execChangeSetDeadlineMissed
  | .gapSectionApply .. => h.execGapSectionApply
  | .backstepAssistedApply => h.execBackstepAssistedApply
  | .sqTailDoorbell .. => h.execSqTailDoorbell
  | .cqHeadDoorbell .. => h.execCqHeadDoorbell
  | .qmCtrlEnWrite .. => h.execQmCtrlEnWrite
  | .flr => h.execFlr
  | .hotReset => h.execHotReset
  | .completionDue .. => h.execCompletionDue
  | .cqAggTimeout .. => h.execCqAggTimeout
  | .msixUnmask .. => h.execMsixUnmask
  | .jsaMap .. => h.execJsaMap
  | .jsaUnmap .. => h.execJsaUnmap
  | .unmapComplete .. => h.execUnmapComplete
  | .pageSubmit .. => h.execPageSubmit
  | .pageCancel .. => h.execPageCancel
  | .pageComplete .. => h.execPageComplete
  | .pageFault .. => h.execPageFault
  | .blockSend .. => h.execBlockSend
  | .intakeCreditGrant .. => h.execIntakeCreditGrant
  | .blockArrival .. => h.execBlockArrival
  | .grantRefill .. => h.execGrantRefill
  | .dataLateReport .. => h.execDataLateReport
  | .archiveSetup .. => h.execArchiveSetup
  | .archiveRead .. => h.execArchiveRead
  | .archiveFrameWrite .. => h.execArchiveFrameWrite
  | .ubLateCountClr .. => h.execUbLateCountClr
  | .intArchDroppedClr => h.execIntArchDroppedClr
  | .intFaultLogClr => h.execIntFaultLogClr
  | .blockDecodeStart .. => h.execBlockDecodeStart
  | .blockCheckDone .. => h.execBlockCheckDone
  | .blockRelease .. => h.execBlockRelease
  | .archiveBlockClose .. => h.execArchiveBlockClose
  | .cdcEncFlush .. => h.execCdcEncFlush
  | .cdcFailClr .. => h.execCdcFailClr
  | .sliceStart .. => h.execSliceStart
  | .engineNop .. => h.execEngineNop
  | .jmp .. => h.execJmp
  | .jnz .. => h.execJnz
  | .jz .. => h.execJz
  | .loop .. => h.execLoop
  | .call .. => h.execCall
  | .ret .. => h.execRet
  | .endl .. => h.execEndl
  | .trap .. => h.execTrap
  | .sadd .. => h.execSadd
  | .ssub .. => h.execSsub
  | .smov .. => h.execSmov
  | .sand .. => h.execSand
  | .sor .. => h.execSor
  | .sshl .. => h.execSshl
  | .sshr .. => h.execSshr
  | .smul .. => h.execSmul
  | .srd .. => h.execSrd
  | .vadd .. => h.execVadd
  | .vsub .. => h.execVsub
  | .vmin .. => h.execVmin
  | .vmax .. => h.execVmax
  | .vand .. => h.execVand
  | .vor .. => h.execVor
  | .vxor .. => h.execVxor
  | .vshl .. => h.execVshl
  | .vshr .. => h.execVshr
  | .vsra .. => h.execVsra
  | .vsel .. => h.execVsel
  | .vcmp .. => h.execVcmp
  | .vmov .. => h.execVmov
  | .viota .. => h.execViota
  | .vmul .. => h.execVmul
  | .vmulw .. => h.execVmulw
  | .vmac .. => h.execVmac
  | .vnarrow .. => h.execVnarrow
  | .vslide .. => h.execVslide
  | .vbcast .. => h.execVbcast
  | .vperm .. => h.execVperm
  | .ldl .. => h.execLdl
  | .stl .. => h.execStl
  | .ldgl .. => h.execLdgl
  | .ldt .. => h.execLdt
  | .stt .. => h.execStt
  | .ldtm .. => h.execLdtm
  | .curve .. => h.execCurve
  | .edstep .. => h.execEdstep
  | .emit .. => h.execEmit
  | .sendr .. => h.execSendr
  | .sendl .. => h.execSendl
  | .recvl .. => h.execRecvl
  | .recvr .. => h.execRecvr
  | .edgeWaitResume .. => h.execEdgeWaitResume
  | .tunFault .. => h.execTunFault
  | .sliceOverrun .. => h.execSliceOverrun
  | .lineComplete .. => h.execLineComplete
  | .tunPausePoint .. => h.execTunPausePoint
  | .tunProgLoadDone .. => h.execTunProgLoadDone
  | .tunFaultClr .. => h.execTunFaultClr
  | .tunEccClr .. => h.execTunEccClr
  | .tunSliceMaxClr .. => h.execTunSliceMaxClr
  | .generationSwitch .. => h.execGenerationSwitch
  | .scrBridgeSetWrite .. => h.execScrBridgeSetWrite
  | .scrBridgeClrWrite .. => h.execScrBridgeClrWrite
  | .scrBridgeApply .. => h.execScrBridgeApply
  | .scrBridgeLostClr .. => h.execScrBridgeLostClr
  | .scrClipClr .. => h.execScrClipClr
  | .lineEventRaise .. => h.execLineEventRaise
  | .slavedModeExit => h.execSlavedModeExit
  | .lineEventFrame .. => h.execLineEventFrame
  | .stopDistanceFrame .. => h.execStopDistanceFrame
  | .badTriggerFrame .. => h.execBadTriggerFrame
  | .lineEventApply => h.execLineEventApply
  | .withheldResync => h.execWithheldResync
  | .lineTake .. => h.execLineTake
  | .firstLinePrepare .. => h.execFirstLinePrepare
  | .lineFire .. => h.execLineFire
  | .strobeStart .. => h.execStrobeStart
  | .fireCommit .. => h.execFireCommit
  | .fireTrigCompWrite .. => h.execFireTrigCompWrite
  | .fireChTrimWrite .. => h.execFireChTrimWrite
  | .sequencerCopyDisagree .. => h.execSequencerCopyDisagree
  | .fireDroppedClr => h.execFireDroppedClr
  | .fireMissedClr => h.execFireMissedClr
  | .fireVoteClr => h.execFireVoteClr
  | .fireChDroppedClr .. => h.execFireChDroppedClr
  | .kilnHpwrReqWrite .. => h.execKilnHpwrReqWrite
  | .headPowerOn .. => h.execHeadPowerOn
  | .pwrSettleExpiry .. => h.execPwrSettleExpiry
  | .headPowerOff .. => h.execHeadPowerOff
  | .kilnClipLinesClr => h.execKilnClipLinesClr
  | .kilnUnsealedClr => h.execKilnUnsealedClr
  | .kilnChClipClr .. => h.execKilnChClipClr
  | .motMove .. => h.execMotMove
  | .motSpeed .. => h.execMotSpeed
  | .motStop .. => h.execMotStop
  | .stepIssue .. => h.execStepIssue
  | .axisAtRest .. => h.execAxisAtRest
  | .cruiseReached .. => h.execCruiseReached
  | .limitInput .. => h.execLimitInput
  | .webBreak .. => h.execWebBreak
  | .splice .. => h.execSplice
  | .jobEndStop => h.execJobEndStop
  | .backstepStart => h.execBackstepStart
  | .backstepStopped => h.execBackstepStopped
  | .backstepPositioned => h.execBackstepPositioned
  | .backstepRunUp .. => h.execBackstepRunUp
  | .backstepSettle => h.execBackstepSettle
  | .resumeTest => h.execResumeTest
  | .motBsCountClr => h.execMotBsCountClr
  | .motRefusedClr => h.execMotRefusedClr
  | .motHardLinesClr => h.execMotHardLinesClr
  | .encoderFault .. => h.execEncoderFault
  | .encoderRecover .. => h.execEncoderRecover
  | .drLimit => h.execDrLimit
  | .encDirChange .. => h.execEncDirChange
  | .encUncmdClr => h.execEncUncmdClr
  | .encAmpClr .. => h.execEncAmpClr
  | .encFaultClr .. => h.execEncFaultClr
  | .exposureTrigger .. => h.execExposureTrigger
  | .csiShortPacket .. => h.execCsiShortPacket
  | .csiLongPacket .. => h.execCsiLongPacket
  | .frameLatencyTimeout .. => h.execFrameLatencyTimeout
  | .jobEndClosingTrigger .. => h.execJobEndClosingTrigger
  | .frameRecordSend .. => h.execFrameRecordSend
  | .ispShadowApply .. => h.execIspShadowApply
  | .camLostClr .. => h.execCamLostClr
  | .camPhyErrClr .. => h.execCamPhyErrClr
  | .camStaleClr .. => h.execCamStaleClr
  | .alignedLineReceive .. => h.execAlignedLineReceive
  | .statsRecordReceive .. => h.execStatsRecordReceive
  | .lostNoticeReceive .. => h.execLostNoticeReceive
  | .backinTrial .. => h.execBackinTrial
  | .gravRebind .. => h.execGravRebind
  | .channelBound .. => h.execChannelBound
  | .learnLimit .. => h.execLearnLimit
  | .gravForeignClr => h.execGravForeignClr
  | .gravChCountClr .. => h.execGravChCountClr
  | .resetTrials .. => h.execResetTrials
  | .clearWindow .. => h.execClearWindow
  | .senseChannelFault .. => h.execSenseChannelFault
  | .maskViolation .. => h.execMaskViolation
  | .sequencerEvent .. => h.execSequencerEvent
  | .sequencerTimeout .. => h.execSequencerTimeout
  | .sequencerHoldoffEnd .. => h.execSequencerHoldoffEnd
  | .captureComplete .. => h.execCaptureComplete
  | .sgArm .. => h.execSgArm
  | .sgRead .. => h.execSgRead
  | .sgForce .. => h.execSgForce
  | .sgDisarm .. => h.execSgDisarm
  | .busTriggerForward .. => h.execBusTriggerForward
  | .sgBusTriggerFrame .. => h.execSgBusTriggerFrame
  | .sgBusClr => h.execSgBusClr
  | .sgViolClr .. => h.execSgViolClr
  | .timeNsRead .. => h.execTimeNsRead
  | .timeLoad .. => h.execTimeLoad
  | .timeAdjust => h.execTimeAdjust
  | .timeIncrWrite .. => h.execTimeIncrWrite
  | .ptpEventStamp .. => h.execPtpEventStamp
  | .txStampPush .. => h.execTxStampPush
  | .ethTxtsEntryPop .. => h.execEthTxtsEntryPop
  | .ethTxtsClr .. => h.execEthTxtsClr
  | .portTrain .. => h.execPortTrain
  | .trainStageTimeout .. => h.execTrainStageTimeout
  | .init .. => h.execInit
  | .credit .. => h.execCredit
  | .ack .. => h.execAck
  | .nak .. => h.execNak
  | .width .. => h.execWidth
  | .widthSwitch .. => h.execWidthSwitch
  | .down .. => h.execDown
  | .reservedControlBlock .. => h.execReservedControlBlock
  | .flitReceive .. => h.execFlitReceive
  | .storeRd .. => h.execStoreRd
  | .storeData .. => h.execStoreData
  | .fecWindowEnd .. => h.execFecWindowEnd
  | .laneRetrain .. => h.execLaneRetrain
  | .portRetrain .. => h.execPortRetrain
  | .eyeRecalibration .. => h.execEyeRecalibration
  | .wlPortRetrainWrite .. => h.execWlPortRetrainWrite
  | .wlLaneRetrainWrite .. => h.execWlLaneRetrainWrite
  | .wlPortErrClr .. => h.execWlPortErrClr
  | .wlLaneRetrainsClr .. => h.execWlLaneRetrainsClr
  | .barEnum .. => h.execBarEnum
  | .barBind .. => h.execBarBind
  | .barRelease .. => h.execBarRelease
  | .linkUpEnumeration .. => h.execLinkUpEnumeration
  | .timeStampReport .. => h.execTimeStampReport
  | .timeStampLate .. => h.execTimeStampLate
  | .pageDigest .. => h.execPageDigest
  | .coverageReport .. => h.execCoverageReport
  | .barResyncClr => h.execBarResyncClr
  | .barCovEventsClr => h.execBarCovEventsClr
  | .stateFrameSend .. => h.execStateFrameSend
  | .stateFrameReceive .. => h.execStateFrameReceive
  | .qualify .. => h.execQualify
  | .badVerdict .. => h.execBadVerdict
  | .takeover .. => h.execTakeover
  | .yield .. => h.execYield
  | .claim .. => h.execClaim
  | .driverEnable => h.execDriverEnable
  | .firstOwnerClaim .. => h.execFirstOwnerClaim
  | .ownerNotice .. => h.execOwnerNotice
  | .revertReq => h.execRevertReq
  | .primaryReturn => h.execPrimaryReturn
  | .trioCfgWrite .. => h.execTrioCfgWrite
  | .trioEventsClr => h.execTrioEventsClr
  | .ddrTrain .. => h.execDdrTrain
  | .refresh => h.execRefresh
  | .dimmTempRead .. => h.execDimmTempRead
  | .alertN .. => h.execAlertN
  | .uncorrectableBurst .. => h.execUncorrectableBurst
  | .ddrChannelFail .. => h.execDdrChannelFail
  | .evacuationDone .. => h.execEvacuationDone
  | .selfRefreshExit .. => h.execSelfRefreshExit
  | .ddrEccClr .. => h.execDdrEccClr
  | .ddrAlertClr .. => h.execDdrAlertClr
  | .spargeRead .. => h.execSpargeRead
  | .sramScrub .. => h.execSramScrub
  | .recalibration .. => h.execRecalibration
  | .headIdRead .. => h.execHeadIdRead
  | .checkpoint => h.execCheckpoint
  | .fireCountsRead .. => h.execFireCountsRead
  | .telemetrySample .. => h.execTelemetrySample
  | .snapshot => h.execSnapshot
  | .telRead .. => h.execTelRead
  | .fenceSet .. => h.execFenceSet
  | .fenceLift .. => h.execFenceLift
  | .fenceLastClr => h.execFenceLastClr
  | .telStatusClr => h.execTelStatusClr
  | .telScrubClr => h.execTelScrubClr
  | .telTempClr .. => h.execTelTempClr
  | .spgFoundClr .. => h.execSpgFoundClr
  | .spgCtrlWrite .. => h.execSpgCtrlWrite
  | .bootRom => h.execBootRom
  | .bootSettle => h.execBootSettle
  | .flsProgram .. => h.execFlsProgram
  | .flsErase .. => h.execFlsErase
  | .caskConfirm .. => h.execCaskConfirm
  | .fwHandover .. => h.execFwHandover
  | .handoverFreeze .. => h.execHandoverFreeze
  | .handoverTimeout => h.execHandoverTimeout
  | .flsXipWrite .. => h.execFlsXipWrite
  | .flsHostloadWrite .. => h.execFlsHostloadWrite
  | .wortImageLoad .. => h.execWortImageLoad
  | .caskRecordWrite .. => h.execCaskRecordWrite
  | .caskMigration => h.execCaskMigration
  | .caskCompaction => h.execCaskCompaction
  | .getInfo .. => h.execGetInfo
  | .usbRegRead .. => h.execUsbRegRead
  | .usbRegWrite .. => h.execUsbRegWrite
  | .usbRegWriteApply => h.execUsbRegWriteApply
  | .telPeek .. => h.execTelPeek
  | .usbStandardRequest .. => h.execUsbStandardRequest
  | .usbBusReset .. => h.execUsbBusReset
  | .usbDetach => h.execUsbDetach
  | .usbSetupAbandon => h.execUsbSetupAbandon
  | .usbCountsClr => h.execUsbCountsClr
  | .vpCommit => h.execVpCommit
  | .vpShadowCapture => h.execVpShadowCapture
  | .vpRefresh => h.execVpRefresh
  | .teInEdge .. => h.execTeInEdge
  | .teTimeout => h.execTeTimeout
  | .staticBlankExtend => h.execStaticBlankExtend
  | .vpLineUnderrun => h.execVpLineUnderrun
  | .vpCmdSend => h.execVpCmdSend
  | .vpCountsClr => h.execVpCountsClr
  | .mashErrClr => h.execMashErrClr
  | .qmDbErrClr => h.execQmDbErrClr
  | .qmFlrDroppedClr => h.execQmFlrDroppedClr
  | .timeCounterTick => h.execTimeCounterTick
  | .encoderSample .. => h.execEncoderSample
  | .senseSample .. => h.execSenseSample
  | .auxPauseEnd .. => h.execAuxPauseEnd
  | .bar4Access .. => h.execBar4Access
  | .usbAttach => h.execUsbAttach
  | .usbSuspend => h.execUsbSuspend
  | .usbResume => h.execUsbResume
  | .ep1InTransaction => h.execEp1InTransaction
  | .ethLinkChange .. => h.execEthLinkChange
  | .csiLinkChange .. => h.execCsiLinkChange
  | .vpVideoLine => h.execVpVideoLine
  | .alertNHigh .. => h.execAlertNHigh

/-- Settles O3: State.reset lists no register field and no byte. -/
theorem resetKeepsInvariant : Obligations.ResetKeepsInvariant := State.Inv.reset

/-- Settles O4: it holds. A step runs one command (`State.Inv.exec`) or changes nothing. -/
theorem stepKeepsInvariant : Obligations.StepKeepsInvariant := by
  intro s t h ht
  unfold step at ht
  split at ht
  · cases ht
    exact h
  · exact h.upd.exec _ t ht

end Sys2Proof.Machine
end

section
/-! PROOF. Bits, conditions of commands, and what reports leave unchanged. An event of the device raises vectors, enters the log
and is told over Wort: none of these touches a unit, a queue or a memory. -/

namespace Sys2Proof.Machine

-- One lemma after the other: elaborated side by side, they ask for more threads than the compile may have.
set_option Elab.async false

theorem testBit_setBit (n i j : Nat) : (setBit n i).testBit j = if j = i then true else n.testBit j := by
  unfold setBit
  rw [Nat.testBit_or, Nat.testBit_two_pow]
  by_cases h : j = i
  · simp [h]
  · simp [h, Ne.symm h]

/-- Taking away a power of two that a number contains clears its bit alone. -/
theorem testBit_clrBit (n i j : Nat) : (clrBit n i).testBit j = if j = i then false else n.testBit j := by
  unfold clrBit
  split
  · next hi =>
    obtain ⟨q, r, hr, rfl⟩ : ∃ q r, r < 2 ^ i ∧ n = 2 ^ i * (2 * q + 1) + r := by
      rw [← Nat.zero_add i, ← Nat.testBit_div_two_pow, Nat.testBit_zero, decide_eq_true_eq] at hi
      refine ⟨n / 2 ^ i / 2, n % 2 ^ i, Nat.mod_lt _ (Nat.two_pow_pos i), ?_⟩
      rw [show 2 * (n / 2 ^ i / 2) + 1 = n / 2 ^ i by omega, Nat.div_add_mod]
    have hsub : 2 ^ i * (2 * q + 1) + r - 2 ^ i = 2 ^ i * (2 * q) + r := by rw [Nat.mul_add_one]; omega
    rw [hsub, Nat.testBit_two_pow_mul_add _ hr, Nat.testBit_two_pow_mul_add _ hr]
    obtain hlt | rfl | hgt := Nat.lt_trichotomy j i
    · simp [hlt, hlt.ne]
    · simp
    · obtain ⟨k, rfl⟩ := Nat.exists_eq_add_of_lt hgt
      have hk : i + k + 1 - i = k + 1 := by omega
      simp [hk, Nat.testBit_succ, show ¬ i + k + 1 < i by omega, show i + k + 1 ≠ i by omega, show (2 * q + 1) / 2 = q by omega]
  · next hi =>
    split
    · next h => rw [h]; simpa using hi
    · rfl

theorem testBit_putBit (n i j : Nat) (b : Bool) : (putBit n i b).testBit j = if j = i then b else n.testBit j := by
  cases b with
  | true => exact testBit_setBit n i j
  | false => exact testBit_clrBit n i j

/-! ## Fields left as they were -/

/-- From `s` to `t` no field but those of `fs` changes. -/
def Touches (fs : List Fld) (s t : State) : Prop := ∀ f i k, f ∉ fs → t.get f i k = s.get f i k

theorem Touches.of_regs {fs : List Fld} {s t : State} (h : t.regs = s.regs) : Touches fs s t := fun f i k _ => by
  unfold State.get; rw [h]

theorem Touches.refl (fs : List Fld) (s : State) : Touches fs s s := fun _ _ _ _ => rfl

theorem Touches.trans {fs : List Fld} {s t u : State} (h : Touches fs s t) (h' : Touches fs t u) : Touches fs s u :=
  fun f i k hf => (h' f i k hf).trans (h f i k hf)

theorem Touches.mono {fs gs : List Fld} {s t : State} (h : Touches fs s t) (hs : fs ⊆ gs) : Touches gs s t :=
  fun f i k hf => h f i k fun hm => hf (hs hm)

theorem Touches.set {fs : List Fld} {s t : State} (h : Touches fs s t) {f : Fld} (hf : f ∈ fs) (v i k : Nat) : Touches fs s (t.set f v i k) :=
  fun g j l hg => (State.get_set_fld t (fun e => hg (by rwa [e])) v i k j l).trans (h g j l hg)

theorem Touches.bump {fs : List Fld} {s t : State} (h : Touches fs s t) {f : Fld} (hf : f ∈ fs) (n i k : Nat) : Touches fs s (t.bump f n i k) :=
  h.set hf _ i k

/-! ## Reports -/

/-- What reports may change besides register fields. -/
def ReportFrame (s t : State) : Prop :=
  t = { s with
    regs := t.regs, telLog := t.telLog, ep1 := t.ep1, msixPend := t.msixPend, outbox := t.outbox, coverage := t.coverage
    calibDue := t.calibDue }

/-- From `s` to `t` only what reports change, and of the fields only those of `fs`. -/
structure Reports (fs : List Fld) (s t : State) : Prop where
  frame : ReportFrame s t
  touches : Touches fs s t

theorem ReportFrame.refl (s : State) : ReportFrame s s := rfl

theorem ReportFrame.trans {s t u : State} (h : ReportFrame s t) (h' : ReportFrame t u) : ReportFrame s u := by
  unfold ReportFrame at *
  rw [h', h]

section
variable {fs : List Fld} {s t u : State}

theorem Reports.refl (fs : List Fld) (s : State) : Reports fs s s := ⟨rfl, Touches.refl fs s⟩

theorem Reports.trans (h : Reports fs s t) (h' : Reports fs t u) : Reports fs s u := ⟨h.frame.trans h'.frame, h.touches.trans h'.touches⟩

theorem Reports.mono {gs : List Fld} (h : Reports fs s t) (hs : fs ⊆ gs) : Reports gs s t := ⟨h.frame, h.touches.mono hs⟩

theorem Reports.set (h : Reports fs s t) {f : Fld} (hf : f ∈ fs) (v i k : Nat) : Reports fs s (t.set f v i k) :=
  ⟨h.frame.trans rfl, h.touches.set hf v i k⟩

theorem Reports.bump (h : Reports fs s t) {f : Fld} (hf : f ∈ fs) (n i k : Nat) : Reports fs s (t.bump f n i k) := h.set hf _ i k

theorem Reports.out (h : Reports fs s t) (o : Out) : Reports fs s (t.out o) := h.trans ⟨rfl, Touches.of_regs rfl⟩

theorem Reports.msix (h : Reports fs s t) (v : Nat) : Reports fs s (t.msix v) := by
  unfold State.msix
  split
  · exact h.out _
  · exact h.trans ⟨rfl, Touches.of_regs rfl⟩

theorem Reports.vector (h : Reports fs s t) (vec en : Fld) : Reports fs s (t.vector vec en) := by
  unfold State.vector
  split
  · exact h.msix _
  · exact h

theorem Reports.dropCalib (h : Reports fs s t) (k : Nat) : Reports fs s (t.dropCalib k) := h.trans ⟨rfl, Touches.of_regs rfl⟩

/-- An event enters the telemetry log and the queue of EP1; what either loses is counted. -/
theorem Reports.telEvent (h : Reports fs s t) (hl : .TEL_STATUS_LOG_LOST ∈ fs) (he : .USB_COUNTS_EVT_LOST ∈ fs) (code unit : Nat) :
    Reports fs s (t.telEvent code unit) := by
  have hlog : ∀ (u : State) l, Reports fs s u → Reports fs s { u with telLog := l } := fun u l hu => hu.trans ⟨rfl, Touches.of_regs rfl⟩
  have hep : ∀ (u : State) l, Reports fs s u → Reports fs s { u with ep1 := l } := fun u l hu => hu.trans ⟨rfl, Touches.of_regs rfl⟩
  unfold State.telEvent
  refine Reports.vector ?_ _ _
  split_ifs
  · exact hep _ _ (hlog _ _ h)
  · exact (hep _ _ (hlog _ _ h)).bump he _ _ _
  · exact hlog _ _ h
  · exact hep _ _ ((hlog _ _ h).bump hl _ _ _)
  · exact (hep _ _ ((hlog _ _ h).bump hl _ _ _)).bump he _ _ _
  · exact (hlog _ _ h).bump hl _ _ _

end

/-- The fields that reports of events and of coverage change. -/
def reportFlds : List Fld :=
  [.TEL_STATUS_LOG_LOST, .USB_COUNTS_EVT_LOST, .BAR_COV_MAP_CH, .BAR_COV_CAUSE_FENCED, .BAR_COV_CAUSE_LOST, .BAR_COV_CAUSE_CHANNELS,
    .BAR_COV_CAUSE_HOLD, .BAR_COV_EVENTS_COUNT]

theorem State.telEvent_reports (s : State) (code unit : Nat) : Reports reportFlds s (s.telEvent code unit) :=
  (Reports.refl _ s).telEvent (by decide) (by decide) code unit

theorem State.recordCoverage_reports (s : State) (i mask cause : Nat) : Reports reportFlds s (s.recordCoverage i mask cause) := by
  have h : Reports reportFlds s ((((((s.set .BAR_COV_MAP_CH mask 0 i).set .BAR_COV_CAUSE_FENCED (cause % 2) 0 i).set .BAR_COV_CAUSE_LOST (cause / 2 % 2) 0 i).set
    .BAR_COV_CAUSE_CHANNELS (cause / 4 % 2) 0 i).bump .BAR_COV_EVENTS_COUNT).vector .BAR_COV_VEC_VECTOR .BAR_COV_VEC_EN) :=
    (((((Reports.refl _ s).set (by decide) _ _ _).set (by decide) _ _ _).set (by decide) _ _ _).set (by decide) _ _ _).bump (by decide) _ _ _ |>.vector _ _
  unfold State.recordCoverage
  simp only
  split
  · exact h.out _
  · exact h

theorem State.noteCoverage_reports (s : State) : Reports reportFlds s s.noteCoverage := by
  have hc : Reports reportFlds s { s with coverage := (s.uncovered, s.lossCauses) } := ⟨rfl, Touches.of_regs rfl⟩
  unfold State.noteCoverage
  simp only
  split_ifs
  · exact Reports.refl _ s
  · exact (hc.set (by decide) _ _ _).trans (State.recordCoverage_reports ..)
  · exact hc.out _

/-! ## Conditions of a command -/

theorem State.when_of {c : Bool} (s : State) (f : State → State) (h : c = true) : s.when c f = f s := if_pos h

/-- A block that can be reached takes the access. -/
theorem State.reach_of {s : State} {b : Block} {i : Nat} (f : State → State) (h : s.reachable b i = true) : s.reach b i f = f s := by
  unfold State.reachable at h
  simp only [Bool.and_eq_true, Bool.not_eq_true'] at h
  unfold State.reach State.when
  rw [h.2]
  simp only [Bool.false_eq_true, if_false, h.1.1, h.1.2, Bool.and_self, if_true]

/-- The same for a unit within its range. -/
theorem State.when_reach {s : State} {c : Bool} {b : Block} {i : Nat} (f : State → State) (hc : c = true) (h : s.reachable b i = true) :
    s.when c (fun s => s.reach b i f) = f s := by
  rw [State.when_of s _ hc, State.reach_of f h]

section
variable {i : Instr} {s t u : State} {c : Bool} {b : Block} {k : Nat} {f : State → State}

theorem exec_of (hi : exec i s = .next t) (h : t = u) : exec i s = .next u := by rw [hi, h]

theorem exec_when (hi : exec i s = .next (s.when c f)) (hc : c = true) : exec i s = .next (f s) := exec_of hi (State.when_of s f hc)

theorem exec_reach (hi : exec i s = .next (s.reach b k f)) (h : s.reachable b k = true) : exec i s = .next (f s) := exec_of hi (State.reach_of f h)

theorem exec_when_reach (hi : exec i s = .next (s.when c (fun s => s.reach b k f))) (hc : c = true) (h : s.reachable b k = true) :
    exec i s = .next (f s) := exec_of hi (State.when_reach f hc h)

end

/-! ## Frames of register fields -/

theorem OnlyRegs.trans {s t u : State} {p : Fld → Nat → Nat → Prop} (h : OnlyRegs s t p) (h' : OnlyRegs t u p) : OnlyRegs s u p :=
  ⟨by rw [h'.1, h.1], fun f i k hn => (h'.2 f i k hn).trans (h.2 f i k hn)⟩

theorem OnlyRegs.mono {s t : State} {p q : Fld → Nat → Nat → Prop} (h : OnlyRegs s t p) (hpq : ∀ f i k, p f i k → q f i k) : OnlyRegs s t q :=
  ⟨h.1, fun f i k hn => h.2 f i k fun hp => hn (hpq f i k hp)⟩

theorem ofSigned_lt (w : Nat) (i : Int) : ofSigned w i < 2 ^ w := by
  unfold ofSigned
  have h1 := Int.emod_nonneg i (b := (2 ^ w : Nat)) (by positivity)
  have h2 := Int.emod_lt_of_pos i (b := (2 ^ w : Nat)) (by positivity)
  omega

/-- A signed value reads as it was written. -/
theorem State.get_seti_same (s : State) (f : Fld) (v : Int) (i k : Nat) : (s.seti f v i k).get f i k = ofSigned f.desc.width v := by
  unfold State.seti
  rw [State.get_set_same, Nat.mod_eq_of_lt (ofSigned_lt _ _)]

/-- Writing one bit of a field changes that bit alone. -/
theorem State.bit_putB (s : State) (f : Fld) (v : Bool) (i k : Nat) {b : Nat} (hb : b < f.desc.width) : bit ((s.putB f b v i k).get f i k) b = v := by
  unfold State.putB bit
  rw [State.get_set_same, Nat.testBit_mod_two_pow, testBit_putBit]
  simp [hb]

@[simp] theorem State.get_msix (s : State) (v : Nat) (f : Fld) (i k : Nat) : (s.msix v).get f i k = s.get f i k := by
  unfold State.msix
  split <;> rfl

/-- An unmasked vector sends its message; a masked one is kept. -/
theorem State.msix_open {s : State} {v : Nat} (h : s.msixOpen.contains v = true) : s.msix v = s.out (.msix v) := if_pos h

theorem State.msix_masked {s : State} {v : Nat} (h : s.msixOpen.contains v = false) : s.msix v = { s with msixPend := insNat s.msixPend v } :=
  if_neg (by simp only [h, Bool.false_eq_true, not_false_eq_true])

end Sys2Proof.Machine
end

section
/-! PROOF. The instructions of a pixel engine: what one that issues does, the edge channels between neighbours, and faults. -/

namespace Sys2Proof.Machine

-- One lemma after the other: elaborated side by side, they ask for more threads than the compile may have.
set_option Elab.async false

/-! ## Registers of an engine -/

theorem Eng.sr_setS (e : Eng) (r q v : Nat) : (e.setS r v).sr q = if q = r then v % 2 ^ 32 else e.sr q := look_store ..

theorem Eng.vr_setV (e : Eng) (r q mask : Nat) (f : Nat → Nat) :
    (e.setV r mask f).vr q = if q = r then (List.range 32).map (fun i => if bit mask i then f i % 65536 else e.lane r i) else e.vr q :=
  look_store ..

/-- A vector write changes the lanes of its mask, in its own register. -/
theorem Eng.lane_setV (e : Eng) (r q mask : Nat) {i : Nat} (f : Nat → Nat) (hi : i < 32) :
    (e.setV r mask f).lane q i = if q = r ∧ bit mask i = true then f i % 65536 else e.lane q i := by
  unfold Eng.lane
  rw [Eng.vr_setV]
  by_cases hq : q = r
  · subst hq
    simp [List.getD, List.getElem?_range hi, Eng.lane]
  · simp [hq]

/-- P0 reads all ones whatever is written to it. -/
theorem Eng.pr_setP (e : Eng) (r q v : Nat) :
    (e.setP r v).pr q = if q = 0 then 2 ^ 32 - 1 else if q = r then v % 2 ^ 32 else e.pr q := by
  unfold Eng.pr Eng.setP
  split
  · rfl
  · next hq =>
    split
    · next hr => rw [if_neg (by omega)]
    · exact look_store ..

/-- Settles O9: it holds. Each register file is a table, read after write. -/
theorem engineRegisters : Obligations.EngineRegisters := by
  unfold Obligations.EngineRegisters
  refine ⟨Eng.sr_setS, fun e r q mask i f hi => Eng.lane_setV e r q mask f hi, Eng.pr_setP, ?_⟩
  intro e r v q mask f
  refine ⟨rfl, rfl, ?_, rfl, rfl⟩
  unfold Eng.setP
  split <;> rfl

/-! ## Commands that issue an instruction -/

section
variable {s : State} {t m op : Nat} {u : Uses} {w : IWord} {i : Instr} {body : State → Chan → Eng → IWord → Effect} {c : Chan} {e : Eng}

/-- A command that issues an instruction after which the engine goes on to the next one. -/
theorem runs_issue (h : Issues s t m op u w) (hi : exec i s = .next (s.issue t m op u body))
    (hb : body s (s.chan t) (s.ticked t m) w = .ok (c, e, false)) : Runs i s (EngStep s t m c e.advance) :=
  ⟨_, hi, State.issue_step h hb⟩

/-- One that issues an instruction which sets the pc. -/
theorem runs_issue_pc (h : Issues s t m op u w) (hi : exec i s = .next (s.issue t m op u body))
    (hb : body s (s.chan t) (s.ticked t m) w = .ok (c, e, true)) : Runs i s (EngStep s t m c e) :=
  ⟨_, hi, State.issue_step h hb⟩

/-- The same where the instruction runs only if lane 0 of its predicate is 1. -/
theorem runs_issue0 (h : Issues0 s t m op u w) (hi : exec i s = .next (s.issue t m op u (ifLane0 body)))
    (hb : body s (s.chan t) (s.ticked t m) w = .ok (c, e, false)) : Runs i s (EngStep s t m c e.advance) :=
  runs_issue h.toIssues hi ((ifLane0_eq h body).trans hb)

theorem runs_issue0_pc (h : Issues0 s t m op u w) (hi : exec i s = .next (s.issue t m op u (ifLane0 body)))
    (hb : body s (s.chan t) (s.ticked t m) w = .ok (c, e, true)) : Runs i s (EngStep s t m c e) :=
  runs_issue_pc h.toIssues hi ((ifLane0_eq h body).trans hb)

end

/-! ## Loops -/

theorem loopBack_elsewhere {pc : Nat} {l : List (Nat × Nat × Nat)} (h : ∀ x ∈ l, pc ≠ x.2.1) : loopBack pc l = (pc + 1, l) := by
  cases l with
  | nil => rfl
  | cons x l => rw [loopBack, if_neg (h x List.mem_cons_self)]

theorem loopBack_again {last n : Nat} (first : Nat) (rest : List (Nat × Nat × Nat)) (h : 1 < n) :
    loopBack last ((first, last, n) :: rest) = (first, (first, last, n - 1) :: rest) := by
  rw [loopBack, if_pos rfl, if_pos h]

theorem loopBack_ends {first last : Nat} {rest : List (Nat × Nat × Nat)} (h : ∀ x ∈ rest, x.2.1 ≠ last) :
    loopBack last ((first, last, 1) :: rest) = (last + 1, rest) := by
  rw [loopBack, if_pos rfl, if_neg (Nat.lt_irrefl 1), loopBack_elsewhere fun x hx => (h x hx).symm]

theorem Eng.advance_of_loopBack {e : Eng} {pc : Nat} {l : List (Nat × Nat × Nat)} (h : loopBack e.pc e.lstack = (pc, l)) :
    e.advance.pc = pc ∧ e.advance.lstack = l := by
  simp [Eng.advance, h]

/-- Settles O6: it holds. The instructions take effect as `runs_issue0` says, and the end of a body is `loopBack`. -/
theorem engineControl : Obligations.EngineControl := by
  unfold Obligations.EngineControl
  refine ⟨fun s t m w => ⟨?nop, ?jmp, ?jnz, ?jz, ?loop, ?skip, ?call, ?ret⟩, ?elsewhere, ?again, ?ends⟩
  case nop => exact fun h => runs_issue h rfl rfl
  case jmp => exact fun h => runs_issue0_pc h rfl rfl
  case jnz =>
    intro h
    split
    · next ha => exact runs_issue0_pc h rfl (if_pos ha)
    · next ha => exact runs_issue0 h rfl (if_neg ha)
  case jz =>
    intro h
    split
    · next ha => exact runs_issue0_pc h rfl (if_pos ha)
    · next ha => exact runs_issue0 h rfl (if_neg ha)
  case loop =>
    intro h ha hn hl
    exact runs_issue0_pc h rfl ((if_neg (not_or.mpr ⟨ha, hn⟩)).trans (if_neg (Nat.not_le.mpr hl)))
  case skip => exact fun h ha => runs_issue0_pc h rfl (if_pos ha)
  case call => exact fun h hl => runs_issue0_pc h rfl (if_neg (Nat.not_le.mpr hl))
  case ret =>
    intro a r h hr
    have hr' : (s.ticked t m).rstack = a :: r := hr
    exact runs_issue0_pc h rfl (by rw [hr']; rfl)
  case elsewhere => exact fun e h => Eng.advance_of_loopBack (loopBack_elsewhere h)
  case again =>
    rintro e first _ n rest hl rfl hn
    exact Eng.advance_of_loopBack (hl ▸ loopBack_again first rest hn)
  case ends =>
    rintro e first _ rest hl rfl h
    exact Eng.advance_of_loopBack (hl ▸ loopBack_ends h)

/-! ## Commands that draw free values -/

theorem Runs.mono {i : Instr} {s : State} {P Q : State → Prop} (h : Runs i s P) (hpq : ∀ t, P t → Q t) : Runs i s Q := by
  obtain ⟨t, ht, hp⟩ := h
  exact ⟨t, ht, hpq t hp⟩

/-- Free values set aside do not count as a change. -/
theorem EngStep.of_freeCtr {s x : State} {n t m : Nat} {c : Chan} {e : Eng} (h : EngStep { s with freeCtr := n } t m c e x) : EngStep s t m c e x :=
  ⟨h.eng, h.chan, h.engs, h.chans, h.frame⟩

section
variable {s : State} {n t m op : Nat} {u : Uses} {w : IWord} {i : Instr} {body : Nat → State → Chan → Eng → IWord → Effect} {c : Chan} {e : Eng}

theorem runs_issueFree (h : Issues s t m op u w) (hi : exec i s = .next (s.issueFree n t m op u body))
    (hb : body s.freeCtr { s with freeCtr := s.freeCtr + n } (s.chan t) (s.ticked t m) w = .ok (c, e, false)) :
    Runs i s (EngStep s t m c e.advance) := by
  have h' : Issues { s with freeCtr := s.freeCtr + n } t m op u w := ⟨h.issuing, h.limit, h.fetch, h.op, h.legal⟩
  exact ⟨_, hi, (State.issue_step h' hb).of_freeCtr⟩

theorem runs_issueFree0 (h : Issues0 s t m op u w) (hi : exec i s = .next (s.issueFree n t m op u (fun fr => ifLane0 (body fr))))
    (hb : body s.freeCtr { s with freeCtr := s.freeCtr + n } (s.chan t) (s.ticked t m) w = .ok (c, e, false)) :
    Runs i s (EngStep s t m c e.advance) :=
  runs_issueFree h.toIssues hi ((if_pos h.lane0).trans hb)

end

/-! ## Scalar instructions -/

theorem shiftOr_lt {w n fr f : Nat} (h : n < w) : shiftOr w n fr f = f := if_pos h

/-- The cycle count that SRD 7 reads. -/
def State.srdCycles (s : State) (t m : Nat) : Nat := sliceCycles (s.ticked t m).cyc (s.get .TUN_LIMIT_SLICE_LIMIT t) s.freeCtr

/-- It lies between the cycles taken and the limit. -/
theorem State.srdCycles_bounds {s : State} {t m : Nat} (h : (s.eng t m).cyc < s.get .TUN_LIMIT_SLICE_LIMIT t) :
    (s.ticked t m).cyc ≤ s.srdCycles t m ∧ s.srdCycles t m ≤ s.get .TUN_LIMIT_SLICE_LIMIT t := by
  have hlo : (s.ticked t m).cyc ≤ s.get .TUN_LIMIT_SLICE_LIMIT t := h
  have := Nat.mod_lt (Config.freeValue s.freeCtr).toNat (show 0 < s.get .TUN_LIMIT_SLICE_LIMIT t + 1 - (s.ticked t m).cyc by omega)
  unfold State.srdCycles sliceCycles
  omega

/-- What SRD reads. -/
def State.srdValue (s : State) (t m aux : Nat) : Nat :=
  match aux with
  | 0 => (s.ticked t m).line
  | 1 => (s.ticked t m).line / 2 ^ 32
  | 2 => s.sliceFirst t m
  | 3 => s.sliceCount t m
  | 4 => m
  | 5 => t
  | 6 => (s.chan t).bankOf (s.ticked t m).line
  | 7 => s.srdCycles t m
  | 8 => s.planeLine t (s.ticked t m).line
  | _ => match s.relOf t (s.ticked t m).line with
    | some b => (s.ticked t m).line - b.pfirst
    | none => 0

/-- The engine after SRD. -/
def State.afterSrd (s : State) (t m : Nat) (w : IWord) : Eng :=
  ({ s.ticked t m with cyc := if w.aux = 7 then s.srdCycles t m else (s.ticked t m).cyc } : Eng).setS w.d (s.srdValue t m w.aux)

theorem runs_srd {s : State} {t m : Nat} {w : IWord} (h : Issues0 s t m 0x18 { d := true, aux := fun x => decide (x ≤ 9) } w) :
    Runs (.srd t m) s (EngStep s t m (s.chan t) (s.afterSrd t m w).advance) :=
  runs_issueFree0 h rfl rfl

/-- Settles O8: it holds. Each result is the body of the instruction's command. -/
theorem engineScalar : Obligations.EngineScalar := by
  unfold Obligations.EngineScalar
  refine fun s t m w => ⟨?sadd, ?ssub, ?smov, ?sand, ?sor, ?smul, ?sshl, ?sshr, ?srd⟩
  case sadd => exact fun h => runs_issue0 h rfl rfl
  case ssub => exact fun h => runs_issue0 h rfl rfl
  case smov => exact fun h => runs_issue0 h rfl rfl
  case sand => exact fun h => runs_issue0 h rfl rfl
  case sor => exact fun h => runs_issue0 h rfl rfl
  case smul => exact fun h => runs_issue0 h rfl rfl
  case sshl => exact fun h => (runs_issueFree0 h rfl rfl).mono fun x hx => ⟨_, fun hb => (shiftOr_lt hb).trans (by rw [Nat.mod_eq_of_lt hb]), hx⟩
  case sshr => exact fun h => (runs_issueFree0 h rfl rfl).mono fun x hx => ⟨_, fun hb => (shiftOr_lt hb).trans (by rw [Nat.mod_eq_of_lt hb]), hx⟩
  case srd =>
    intro h
    refine (runs_srd h).mono fun x hx => ⟨s.srdValue t m w.aux, ?_, ?_, ?_, ?_, ?_, ?_, ?_, ?_, fun h9 b hl => ?_, fun hne => ?_, fun h7 => ?_⟩
    case refine_9 => rw [h9]; simp only [State.srdValue, hl]
    case refine_10 =>
      unfold State.afterSrd at hx
      rwa [if_neg hne] at hx
    case refine_11 =>
      unfold State.afterSrd at hx
      rw [if_pos h7] at hx
      rw [h7] at hx ⊢
      exact ⟨(State.srdCycles_bounds h.limit).1, (State.srdCycles_bounds h.limit).2, hx⟩
    all_goals intro ha; rw [ha]; rfl

/-! ## Vector instructions -/

/-- A lane shift by less than 16 is the shift; the others are free. -/
theorem shiftOr_lane {n fr : Nat} (f : Nat → Nat) (h : n < 16) : shiftOr 16 n fr (f (n % 16)) = f n := by
  rw [shiftOr_lt h, Nat.mod_eq_of_lt h]

/-- Settles O10: it holds. Each result is the body of the instruction's command. -/
theorem engineVector : Obligations.EngineVector := by
  unfold Obligations.EngineVector
  refine fun s t m w => ⟨?vadd, ?vsub, ?vmin, ?vmax, ?vand, ?vor, ?vxor, ?vsel, ?vmov, ?viota, ?vcmp, ?vshl, ?vshr, ?vsra⟩
  case vadd => exact fun h => runs_issue h rfl rfl
  case vsub => exact fun h => runs_issue h rfl rfl
  case vmin => exact fun h => runs_issue h rfl rfl
  case vmax => exact fun h => runs_issue h rfl rfl
  case vand => exact fun h => runs_issue h rfl rfl
  case vor => exact fun h => runs_issue h rfl rfl
  case vxor => exact fun h => runs_issue h rfl rfl
  case vsel => exact fun h hc => runs_issue h rfl (if_neg (Nat.not_le.mpr hc))
  case vmov => exact fun h => runs_issue h rfl rfl
  case viota => exact fun h => runs_issue h rfl rfl
  case vcmp => exact fun h h1 h8 => runs_issue h rfl (if_neg (by omega))
  case vshl => exact fun h => (runs_issueFree h rfl rfl).mono fun x hx => ⟨_, fun i hi => shiftOr_lane (fun n => (s.ticked t m).lane w.a i * 2 ^ n) hi, hx⟩
  case vshr => exact fun h => (runs_issueFree h rfl rfl).mono fun x hx => ⟨_, fun i hi => shiftOr_lane (fun n => (s.ticked t m).lane w.a i / 2 ^ n) hi, hx⟩
  case vsra =>
    exact fun h => (runs_issueFree h rfl rfl).mono fun x hx =>
      ⟨_, fun i hi => shiftOr_lane (fun n => ofSigned 16 (toSigned 16 ((s.ticked t m).lane w.a i) / 2 ^ n)) hi, hx⟩

/-- Settles O11: it holds. Each result is the body of the instruction's command. -/
theorem engineMultiplyPermute : Obligations.EngineMultiplyPermute := by
  unfold Obligations.EngineMultiplyPermute
  refine fun s t m w => ⟨?vmul, ?vmulw, ?vmac, ?vnarrow, ?vslide, ?vbcast, ?vperm⟩
  case vmul => exact fun h => runs_issue h rfl rfl
  case vmulw => exact fun h hd => runs_issue h rfl (if_neg (by omega))
  case vmac => exact fun h hd => runs_issue h rfl (if_neg (by omega))
  case vnarrow => exact fun h ha => runs_issue h rfl (if_neg (by omega))
  case vslide => exact fun h => runs_issue h rfl rfl
  case vbcast => exact fun h => runs_issue h rfl rfl
  case vperm => exact fun h => runs_issue h rfl rfl

/-! ## Loads and stores -/

theorem leBytes_two (v : Nat) : leBytes 2 v = [BitVec.ofNat 8 v, BitVec.ofNat 8 (v / 256)] := rfl

/-- The lanes below `n` stored. -/
def storeFirst (m : Memory) (a mask : Nat) (f : Nat → Nat) (n : Nat) : Memory :=
  (List.range n).foldl (fun m i => if bit mask i then Memory.wrs m (a + 2 * i) (leBytes 2 (f i)) else m) m

theorem storeFirst_succ (m : Memory) (a mask : Nat) (f : Nat → Nat) (n : Nat) : storeFirst m a mask f (n + 1) =
    if bit mask n then Memory.wrs (storeFirst m a mask f n) (a + 2 * n) (leBytes 2 (f n)) else storeFirst m a mask f n := by
  simp [storeFirst, List.range_succ]

/-- Storing one more lane leaves the bytes that are not that lane's. -/
theorem rd_storeFirst_succ {m : Memory} {a mask n b : Nat} (f : Nat → Nat) (h : bit mask n = true → b ≠ a + 2 * n ∧ b ≠ a + 2 * n + 1) :
    Memory.rd (storeFirst m a mask f (n + 1)) b = Memory.rd (storeFirst m a mask f n) b := by
  rw [storeFirst_succ]
  split
  · next hb =>
    obtain ⟨h0, h1⟩ := h hb
    exact Memory.rd_wrs_out _ _ _ (by rw [leBytes_two]; simp only [List.length_cons, List.length_nil]; omega)
  · rfl

/-- A byte of no enabled lane below `n` reads as before. -/
theorem rd_storeFirst_out {m : Memory} {a mask n b : Nat} (f : Nat → Nat)
    (h : ∀ i, i < n → bit mask i = true → b ≠ a + 2 * i ∧ b ≠ a + 2 * i + 1) : Memory.rd (storeFirst m a mask f n) b = Memory.rd m b := by
  induction n with
  | zero => rfl
  | succ n ih => rw [rd_storeFirst_succ f (h n (by omega)), ih fun i hi => h i (by omega)]

/-- The bytes of an enabled lane below `n` read as stored: the later lanes lie above them. -/
theorem rd_storeFirst_in {m : Memory} {a mask n i : Nat} (f : Nat → Nat) (hi : i < n) (hb : bit mask i = true) :
    Memory.rd (storeFirst m a mask f n) (a + 2 * i) = BitVec.ofNat 8 (f i) ∧
      Memory.rd (storeFirst m a mask f n) (a + 2 * i + 1) = BitVec.ofNat 8 (f i / 256) := by
  induction n with
  | zero => omega
  | succ n ih =>
    obtain hlt | rfl : i < n ∨ i = n := by omega
    · rw [rd_storeFirst_succ f fun _ => by omega, rd_storeFirst_succ f fun _ => by omega]
      exact ih hlt
    · rw [storeFirst_succ, if_pos hb]
      exact ⟨Memory.rd_wrs_in _ _ _ 0 Nat.zero_lt_two, Memory.rd_wrs_in _ _ _ 1 Nat.one_lt_two⟩

/-- Settles O12: it holds. A store of lanes is the store of the first 32. -/
theorem engineMemory : Obligations.EngineMemory := by
  unfold Obligations.EngineMemory
  refine ⟨fun s t m w => ⟨?ldl, ?stl, ?ldgl, ?ldt, ?stt, ?ldtm⟩, fun mem a mask f => ⟨?stored, ?others⟩⟩
  case ldl => exact fun h ha hl => runs_issue h rfl (if_neg (by omega))
  case stl => exact fun h ha hl => runs_issue h rfl (if_neg (by omega))
  case ldgl =>
    intro h hl
    refine runs_issue h rfl (if_neg ?_)
    simpa using hl
  case ldt => exact fun h ha => runs_issue h rfl (if_neg (by rw [ha]; decide))
  case stt => exact fun h ha => runs_issue h rfl (if_neg (by rw [ha]; decide))
  case ldtm => exact fun h hl => runs_issue h rfl (if_neg (Nat.not_lt.mpr hl))
  case stored => exact fun i => rd_storeFirst_in f
  case others => exact fun b => rd_storeFirst_out f

/-! ## Edge channels -/

/-- The neighbour to the left has a smaller number. -/
theorem State.leftOf_lt {s : State} {t m n : Nat} (h : s.leftOf t m = some n) : n < m := by
  simpa using (List.mem_filter.mp (List.mem_of_getLast? h)).2

/-- The neighbour to the right has a greater one. -/
theorem State.lt_rightOf {s : State} {t m n : Nat} (h : s.rightOf t m = some n) : m < n := by
  simpa using List.find?_some h

/-- The neighbour on one side. -/
def State.sideOf (s : State) (t m : Nat) (right : Bool) : Option Nat := if right then s.rightOf t m else s.leftOf t m

theorem State.sideOf_ne {s : State} {t m n : Nat} {right : Bool} (h : s.sideOf t m right = some n) : n ≠ m := by
  cases right with
  | true => exact (State.lt_rightOf h).ne'
  | false => exact (State.leftOf_lt h).ne

/-- The vectors on their way from an engine to one side. -/
def Eng.edge (e : Eng) (right : Bool) : List (List Nat) := if right then e.toRight else e.toLeft

def Eng.setEdge (e : Eng) (right : Bool) (l : List (List Nat)) : Eng := if right then { e with toRight := l } else { e with toLeft := l }

section
variable {s : State} {t m n op : Nat} {w : IWord} {right : Bool}

/-- A SEND on the outer side discards its vector. -/
theorem State.sendEdge_outer (h : Issues0 s t m op { a := true } w) (hs : s.sideOf t m right = none) :
    s.sendEdge t m op right = (s.setChan t (s.chan t)).setEng t m (s.ticked t m).advance := by
  refine State.issue_ok (r := (_, _, false)) h.toIssues ((ifLane0_eq h _).trans ?_)
  unfold State.sideOf at hs
  simp only [hs]
  rfl

/-- One whose channel has room places it there. -/
theorem State.sendEdge_room (h : Issues0 s t m op { a := true } w) (hs : s.sideOf t m right = some n) (hl : ((s.ticked t m).edge right).length < 4) :
    s.sendEdge t m op right = (s.setChan t (s.chan t)).setEng t m
      ((s.ticked t m).setEdge right ((s.ticked t m).edge right ++ [(s.ticked t m).vr w.a])).advance := by
  refine State.issue_ok (r := (_, _, false)) h.toIssues ((ifLane0_eq h _).trans ?_)
  unfold State.sideOf at hs
  unfold Eng.edge at hl
  simp only [hs, if_neg (Nat.not_le.mpr hl)]
  cases right <;> rfl

/-- One whose channel is full waits. -/
theorem State.sendEdge_full (h : Issues0 s t m op { a := true } w) (hs : s.sideOf t m right = some n) (hl : 4 ≤ ((s.ticked t m).edge right).length) :
    s.sendEdge t m op right = (s.setChan t (s.chan t)).setEng t m { s.ticked t m with waiting := true } := by
  refine State.issue_ok (r := (_, _, true)) h.toIssues ((ifLane0_eq h _).trans ?_)
  unfold State.sideOf at hs
  unfold Eng.edge at hl
  simp only [hs, if_pos hl]
  rfl

/-- A RECV on the outer side reads zeros. -/
theorem State.recvEdge_outer (h : Issues s t m op { d := true } w) (hs : s.sideOf t m (!right) = none) :
    s.recvEdge t m op right = (s.setChan t (s.chan t)).setEng t m ((s.ticked t m).setV w.d (w.mask (s.ticked t m)) (fun _ => 0)).advance := by
  have hs' : (if right = true then s.leftOf t m else s.rightOf t m) = none := by cases right <;> exact hs
  unfold State.recvEdge
  simp only [hs']
  exact State.issue_ok (r := (_, _, false)) h rfl

/-- One without a vector to take waits. -/
theorem State.recvEdge_empty (h : Issues s t m op { d := true } w) (hs : s.sideOf t m (!right) = some n) (hl : (s.eng t n).edge right = []) :
    s.recvEdge t m op right = (s.setChan t (s.chan t)).setEng t m { s.ticked t m with waiting := true } := by
  have hs' : (if right = true then s.leftOf t m else s.rightOf t m) = some n := by cases right <;> exact hs
  unfold Eng.edge at hl
  unfold State.recvEdge
  simp only [hs', h.fetch, hl, List.isEmpty_nil, Bool.not_true, Bool.and_false, Bool.false_eq_true, if_false]
  exact State.issue_ok (r := (s.chan t, { s.ticked t m with waiting := true }, true)) h (by simp only [hl])

/-- One with a vector takes the oldest from its neighbour. -/
theorem State.recvEdge_take {v : List Nat} {l : List (List Nat)} (h : Issues s t m op { d := true } w) (hs : s.sideOf t m (!right) = some n)
    (hl : (s.eng t n).edge right = v :: l) :
    s.recvEdge t m op right = ((s.setChan t (s.chan t)).setEng t m
      ((s.ticked t m).setV w.d (w.mask (s.ticked t m)) (fun i => v.getD i 0)).advance).setEng t n ((s.eng t n).setEdge right l) := by
  have hs' : (if right = true then s.leftOf t m else s.rightOf t m) = some n := by cases right <;> exact hs
  have hne : 16 * t + n ≠ 16 * t + m := by have := State.sideOf_ne hs; omega
  have hg : (s.issuing t m && decide ((s.eng t m).cyc < s.get .TUN_LIMIT_SLICE_LIMIT t) && w.op == op && w.legal { d := true } && !(v :: l).isEmpty) = true := by
    simp [h.issuing, h.limit, h.op, h.legal]
  unfold Eng.edge at hl
  unfold State.recvEdge
  simp only [hs', h.fetch, hl]
  rw [if_pos hg, State.issue_ok (r := (s.chan t, (s.ticked t m).setV w.d (w.mask (s.ticked t m)) (fun i => v.getD i 0), false)) h (by simp only [hl])]
  have he : ∀ e, ((s.setChan t (s.chan t)).setEng t m e).eng t n = s.eng t n := fun e => look_store_ne _ _ _ hne
  simp only [if_neg Bool.false_ne_true, he]
  congr 1
  unfold Eng.setEdge
  cases right with
  | true => rw [if_pos rfl] at hl ⊢; rw [hl]; rfl
  | false => rw [if_neg Bool.false_ne_true] at hl ⊢; rw [hl]; rfl

end

/-- What a RECV with a vector to take does, read from the machine. -/
theorem recvEdge_take_reads {s x : State} {t m n : Nat} {c : Chan} {e f : Eng} (hne : n ≠ m) (hx : x = ((s.setChan t c).setEng t m e).setEng t n f) :
    x.eng t m = e ∧ x.eng t n = f ∧ x = { s with engs := x.engs, chans := x.chans } := by
  subst hx
  exact ⟨(look_store_ne _ _ _ (by omega)).trans (State.eng_setEng ..), State.eng_setEng .., rfl⟩

theorem runs_engStep_put {i : Instr} {s t : State} {c : Chan} {e : Eng} {n m : Nat} (hi : exec i s = .next t) (ht : t = (s.setChan n c).setEng n m e) :
    Runs i s (EngStep s n m c e) := ⟨t, hi, ht ▸ engStep_put ..⟩

/-- Settles O14: it holds. -/
theorem engineEdges : Obligations.EngineEdges := by
  unfold Obligations.EngineEdges
  refine fun s t m w => ⟨?rOuter, ?rRoom, ?rFull, ?lOuter, ?lRoom, ?lFull, ?tlOuter, ?tlTake, ?tlEmpty, ?trOuter, ?trTake, ?trEmpty, ?resume⟩
  case rOuter => exact fun h hs => runs_engStep_put rfl (State.sendEdge_outer (right := true) h hs)
  case rRoom => exact fun n h hs hl => runs_engStep_put rfl (State.sendEdge_room (right := true) h hs hl)
  case rFull => exact fun n h hs hl => runs_engStep_put rfl (State.sendEdge_full (right := true) h hs hl)
  case lOuter => exact fun h hs => runs_engStep_put rfl (State.sendEdge_outer (right := false) h hs)
  case lRoom => exact fun n h hs hl => runs_engStep_put rfl (State.sendEdge_room (right := false) h hs hl)
  case lFull => exact fun n h hs hl => runs_engStep_put rfl (State.sendEdge_full (right := false) h hs hl)
  case tlOuter => exact fun h hs => runs_engStep_put rfl (State.recvEdge_outer (right := true) h hs)
  case tlTake => exact fun n v l h hs hl => ⟨_, rfl, recvEdge_take_reads (State.leftOf_lt hs).ne (State.recvEdge_take (right := true) h hs hl)⟩
  case tlEmpty => exact fun n h hs hl => runs_engStep_put rfl (State.recvEdge_empty (right := true) h hs hl)
  case trOuter => exact fun h hs => runs_engStep_put rfl (State.recvEdge_outer (right := false) h hs)
  case trTake => exact fun n v l h hs hl => ⟨_, rfl, recvEdge_take_reads (State.lt_rightOf hs).ne' (State.recvEdge_take (right := false) h hs hl)⟩
  case trEmpty => exact fun n h hs hl => runs_engStep_put rfl (State.recvEdge_empty (right := false) h hs hl)
  case resume =>
    intro n ht hr hw hf hu hp hc hfe hop hl h0 hs hlt
    have hg : (decide (t < 64) && (s.eng t m).running && (s.eng t m).waiting && !s.fenced 2 t) = true := by
      have hr : (s.eng t m).running = true := hr
      have hw : (s.eng t m).waiting = true := hw
      simp [ht, hr, hw, hf]
    have hfe : (s.eng t m).fetch = some w := hfe
    let s' := s.setEng t m { s.eng t m with waiting := false }
    have he : s'.eng t m = { s.eng t m with waiting := false } := State.eng_setEng ..
    have hk : s'.ticked t m = { s.ticked t m with waiting := false } := by unfold State.ticked; rw [he]
    have hi : Issues0 s' t m 0x70 { a := true } w := by
      refine ⟨⟨?_, ?_, ?_, hop, hl⟩, ?_⟩
      · have hu' : s'.engUsed t m = true := hu
        have hf' : s'.fenced 2 t = false := hf
        have hp' : s'.get .PWR_PSTATE_CUR = 0 := hp
        have hr' : (s.eng t m).running = true := hr
        simp [State.issuing, ht, hu', hf', hp', he, hr']
      · rw [he]; exact hc
      · rw [he]; exact hfe
      · rw [hk]; exact h0
    refine ⟨s'.sendEdge t m 0x70 true, ?_, ?_⟩
    · refine congrArg _ ((if_pos hg).trans ?_)
      rw [hfe, Option.map_some, hop]; rfl
    · rw [State.sendEdge_room (right := true) hi hs (by rw [hk]; exact hlt), hk]
      exact ⟨State.eng_setEng .., State.chan_setChan .., rfl⟩

/-! ## The record of a fence -/

/-- What the record of a fence writes. -/
def State.fenceNoted (s : State) (k i cause : Nat) : State :=
  (((s.putB .FENCE_MAP_UNITS i true 0 k).set .FENCE_LAST_CLASS k).set .FENCE_LAST_INDEX i).set .FENCE_LAST_CAUSE cause

theorem State.recordFence_reports {s : State} {k i : Nat} (cause : Nat) (h : s.fenced k i = false) :
    Reports reportFlds (s.fenceNoted k i cause) (s.recordFence k i cause) := by
  have hr : Reports reportFlds (s.fenceNoted k i cause) (s.fenceNoted k i cause) := Reports.refl ..
  unfold State.recordFence
  rw [if_neg (by simp [h])]
  refine ((Reports.telEvent ?_ (by decide) (by decide) _ _).vector _ _).out _
  split
  · exact hr.dropCalib _
  · exact hr.dropCalib _
  · exact hr.dropCalib _
  · exact hr

theorem State.recordFence_of_fenced {s : State} {k i : Nat} (cause : Nat) (h : s.fenced k i = true) : s.recordFence k i cause = s := by
  unfold State.recordFence
  rw [if_pos h]

theorem State.fenceNoted_touches (s : State) (k i cause : Nat) :
    Touches [.FENCE_MAP_UNITS, .FENCE_LAST_CLASS, .FENCE_LAST_INDEX, .FENCE_LAST_CAUSE] s (s.fenceNoted k i cause) :=
  ((((Touches.refl _ s).set (by decide) _ _ _).set (by decide) _ _ _).set (by decide) _ _ _).set (by decide) _ _ _

theorem State.recordFence_frame (s : State) (k i cause : Nat) : ReportFrame s (s.recordFence k i cause) := by
  cases h : s.fenced k i with
  | true => rw [State.recordFence_of_fenced cause h]; rfl
  | false => exact ReportFrame.trans (t := s.fenceNoted k i cause) rfl (State.recordFence_reports cause h).frame

/-- The fields that the record of a fence changes. -/
def fenceFlds : List Fld := [.FENCE_MAP_UNITS, .FENCE_LAST_CLASS, .FENCE_LAST_INDEX, .FENCE_LAST_CAUSE] ++ reportFlds

theorem State.recordFence_touches (s : State) (k i cause : Nat) : Touches fenceFlds s (s.recordFence k i cause) := by
  cases h : s.fenced k i with
  | true => rw [State.recordFence_of_fenced cause h]; exact Touches.refl _ s
  | false =>
    exact ((s.fenceNoted_touches k i cause).mono (List.subset_append_left _ _)).trans
      ((State.recordFence_reports cause h).touches.mono (List.subset_append_right _ _))

theorem Touches.fenced {fs : List Fld} {s t : State} (h : Touches fs s t) (hf : .FENCE_MAP_UNITS ∉ fs) (k i : Nat) : t.fenced k i = s.fenced k i := by
  unfold State.fenced
  rw [h _ _ _ hf]

/-- The record of a fence sets the unit's bit alone. -/
theorem State.fenced_fenceNoted (s : State) {k i : Nat} (cause : Nat) {j l : Nat} (hl : l < 64) :
    (s.fenceNoted k i cause).fenced j l = if j = k ∧ l = i then true else s.fenced j l := by
  unfold State.fenced State.fenceNoted
  rw [State.get_set_fld _ (by decide), State.get_set_fld _ (by decide), State.get_set_fld _ (by decide), State.putB, State.get_set]
  simp only [true_and]
  unfold bit
  by_cases hj : j = k
  · subst hj
    have hw : l < Fld.FENCE_MAP_UNITS.desc.width := hl
    rw [if_pos rfl, Nat.testBit_mod_two_pow, testBit_putBit, decide_eq_true hw, Bool.true_and]
    simp only [true_and]
  · simp [hj]

theorem State.fenced_recordFence (s : State) {k i : Nat} (cause : Nat) {j l : Nat} (hl : l < 64) :
    (s.recordFence k i cause).fenced j l = if j = k ∧ l = i then true else s.fenced j l := by
  cases h : s.fenced k i with
  | true =>
    rw [State.recordFence_of_fenced cause h]
    split
    · next e => rw [e.1, e.2, h]
    · rfl
  | false =>
    rw [(State.recordFence_reports cause h).touches.fenced (by decide), State.fenced_fenceNoted s cause hl]

/-! ## Faults of a tun -/

/-- The engines below `n` stopped. -/
def State.stopFirst (s : State) (t n : Nat) : State := s.each n (fun s m => s.setEng t m { s.eng t m with running := false, waiting := false })

theorem State.stopFirst_succ (s : State) (t n : Nat) : s.stopFirst t (n + 1) =
    (s.stopFirst t n).setEng t n { (s.stopFirst t n).eng t n with running := false, waiting := false } := by
  simp [State.stopFirst, State.each, List.range_succ]

theorem State.stopFirst_frame (s : State) (t n : Nat) : s.stopFirst t n = { s with engs := (s.stopFirst t n).engs } := by
  induction n with
  | zero => rfl
  | succ n ih => rw [State.stopFirst_succ, ih]; rfl

/-- Those below `n` have stopped; every other engine is as it was. -/
theorem State.look_stopFirst (s : State) (t n j : Nat) : look {} (s.stopFirst t n).engs j =
    if 16 * t ≤ j ∧ j < 16 * t + n then { look {} s.engs j with running := false, waiting := false } else look {} s.engs j := by
  induction n with
  | zero => rw [if_neg (by omega)]; rfl
  | succ n ih =>
    rw [State.stopFirst_succ]
    by_cases hj : j = 16 * t + n
    · subst hj
      rw [if_pos (by omega)]
      refine (State.eng_setEng ..).trans ?_
      unfold State.eng
      rw [ih, if_neg (by omega)]
    · refine (look_store_ne _ _ _ hj).trans ?_
      rw [ih]
      exact if_congr (by omega) rfl rfl

theorem ReportFrame.engs {s t : State} (h : ReportFrame s t) : t.engs = s.engs := by rw [h]
theorem ReportFrame.chans {s t : State} (h : ReportFrame s t) : t.chans = s.chans := by rw [h]

/-- Memories and queues stay. -/
def SameStores (s t : State) : Prop := t.hostMem = s.hostMem ∧ t.dram = s.dram ∧ t.slots = s.slots ∧ t.pairs = s.pairs

theorem SameStores.trans {s t u : State} (h : SameStores s t) (h' : SameStores t u) : SameStores s u :=
  ⟨h'.1.trans h.1, h'.2.1.trans h.2.1, h'.2.2.1.trans h.2.2.1, h'.2.2.2.trans h.2.2.2⟩

theorem SameStores.memory {s t : State} (h : SameStores s t) : SameMemory s t := ⟨fun a => by rw [h.1], fun a => by rw [h.2.1]⟩

theorem ReportFrame.stores {s t : State} (h : ReportFrame s t) : SameStores s t := by rw [h]; exact ⟨rfl, rfl, rfl, rfl⟩

/-- A channel whose tun is fenced: the lines that its engines have not completed are discarded. -/
def State.haltedChan (s : State) (t : Nat) : Chan :=
  { s.chan t with stage := (s.chan t).stage.filter (fun e => s.lineDone t e.1), pause := none, pauseStep := 0 }

/-- A tun brought to a halt. -/
def State.haltTun (s : State) (t : Nat) : State := ((s.setChan t (s.haltedChan t)).stopFirst t 16).off .TUN_STATUS_PAUSED t

theorem State.fenceTun_eq (s : State) (t cause : Nat) : s.fenceTun t cause = ((s.recordFence 2 t cause).haltTun t).noteCoverage := rfl

theorem State.haltTun_frame (s : State) (t : Nat) :
    s.haltTun t = { s with engs := (s.haltTun t).engs, chans := (s.haltTun t).chans, regs := (s.haltTun t).regs } := by
  have h := State.stopFirst_frame (s.setChan t (s.haltedChan t)) t 16
  unfold State.haltTun
  generalize (s.setChan t (s.haltedChan t)).stopFirst t 16 = x at h
  rw [h]
  rfl

theorem State.chan_haltTun (s : State) (t u : Nat) : (s.haltTun t).chan u = if u = t then s.haltedChan t else s.chan u := by
  have h := State.stopFirst_frame (s.setChan t (s.haltedChan t)) t 16
  unfold State.haltTun
  generalize (s.setChan t (s.haltedChan t)).stopFirst t 16 = x at h
  rw [h]
  exact look_store ..

theorem State.haltTun_touches (s : State) (t : Nat) : Touches [.TUN_STATUS_PAUSED] s (s.haltTun t) := by
  have h : Touches [.TUN_STATUS_PAUSED] s ((s.setChan t (s.haltedChan t)).stopFirst t 16) := by
    rw [State.stopFirst_frame]; exact Touches.of_regs rfl
  exact h.set (by decide) _ _ _

theorem State.eng_haltTun (s : State) {t u j : Nat} (hj : j < 16) :
    (s.haltTun t).eng u j = if u = t then { s.eng u j with running := false, waiting := false } else s.eng u j := by
  have h := State.look_stopFirst (s.setChan t (s.haltedChan t)) t 16 (16 * u + j)
  unfold State.haltTun
  generalize (s.setChan t (s.haltedChan t)).stopFirst t 16 = x at h
  refine h.trans ?_
  exact if_congr (by omega) rfl rfl

/-- What a fault leaves in the machine before the fence: its record, when the tun had none. -/
def State.faultNoted (s : State) (t m code count : Nat) : State :=
  (if s.get .TUN_FAULT_CODE t = 0 then
      (((s.set .TUN_FAULT_CODE code t).set .TUN_FAULT_ENGINE m t).set .TUN_FAULT_PC (s.eng t m).pc t).set .TUN_FAULT_LINE_LINE (s.eng t m).line t
    else s).bump .TUN_FAULT_COUNT count t

theorem State.faultTun_eq (s : State) (t m code count : Nat) : s.faultTun t m code count = (s.faultNoted t m code count).fenceTun t causeTun := rfl

theorem State.faultNoted_frame (s : State) (t m code count : Nat) : s.faultNoted t m code count = { s with regs := (s.faultNoted t m code count).regs } := by
  unfold State.faultNoted
  split <;> rfl

/-- The fields that the end of a fault leaves as its record wrote them. -/
theorem State.get_faultTun (s : State) (t m code count : Nat) {f : Fld} (hf : f ∉ .TUN_STATUS_PAUSED :: fenceFlds) (i k : Nat) :
    (s.faultTun t m code count).get f i k = (s.faultNoted t m code count).get f i k := by
  rw [State.faultTun_eq, State.fenceTun_eq]
  rw [(State.noteCoverage_reports _).touches f i k fun h => hf (List.mem_cons_of_mem _ (List.mem_append_right _ h)),
    State.haltTun_touches _ t f i k fun h => hf (by rw [List.mem_singleton.mp h]; exact List.mem_cons_self),
    State.recordFence_touches _ _ _ _ f i k fun h => hf (List.mem_cons_of_mem _ h)]

/-- The first fault of a tun is recorded. -/
theorem State.faultNoted_first {s : State} {t : Nat} (h : s.get .TUN_FAULT_CODE t = 0) (m code count : Nat) :
    (s.faultNoted t m code count).get .TUN_FAULT_CODE t = code % 16 ∧ (s.faultNoted t m code count).get .TUN_FAULT_ENGINE t = m % 16 := by
  unfold State.faultNoted
  rw [if_pos h, State.bump_eq, State.get_set_fld _ (by decide), State.get_set_fld _ (by decide), State.get_set_fld _ (by decide),
    State.get_set_fld _ (by decide), State.get_set_same, State.get_set_fld _ (by decide), State.get_set_fld _ (by decide),
    State.get_set_fld _ (by decide), State.get_set_same]
  exact ⟨rfl, rfl⟩

/-- A later one is not. -/
theorem State.faultNoted_later {s : State} {t : Nat} (h : s.get .TUN_FAULT_CODE t ≠ 0) (m code count : Nat) :
    (s.faultNoted t m code count).get .TUN_FAULT_CODE t = s.get .TUN_FAULT_CODE t := by
  unfold State.faultNoted
  rw [if_neg h, State.bump_eq, State.get_set_fld _ (by decide)]

/-- A fault fences its tun. -/
theorem State.faultTun_fenced (s : State) {t : Nat} (ht : t < 64) (m code count : Nat) : (s.faultTun t m code count).fenced 2 t = true := by
  rw [State.faultTun_eq, State.fenceTun_eq, (State.noteCoverage_reports _).touches.fenced (by decide), (State.haltTun_touches _ t).fenced (by decide),
    State.fenced_recordFence _ _ ht, if_pos ⟨rfl, rfl⟩]

theorem State.eng_faultTun (s : State) {t u j : Nat} (hj : j < 16) (m code count : Nat) : (s.faultTun t m code count).eng u j =
    if u = t then { s.eng u j with running := false, waiting := false } else s.eng u j := by
  have h1 : (s.faultTun t m code count).eng u j = (((s.faultNoted t m code count).recordFence 2 t causeTun).haltTun t).eng u j := by
    unfold State.eng
    rw [State.faultTun_eq, State.fenceTun_eq, (State.noteCoverage_reports _).frame.engs]
  have h2 : ((s.faultNoted t m code count).recordFence 2 t causeTun).eng u j = s.eng u j := by
    unfold State.eng
    rw [(State.recordFence_frame ..).engs, State.faultNoted_frame]
  rw [h1, State.eng_haltTun _ hj, h2]

theorem State.chan_faultTun (s : State) (t u m code count : Nat) : (s.faultTun t m code count).chan u =
    if u = t then ((s.faultNoted t m code count).recordFence 2 t causeTun).haltedChan t else s.chan u := by
  have h1 : (s.faultTun t m code count).chan u = (((s.faultNoted t m code count).recordFence 2 t causeTun).haltTun t).chan u := by
    unfold State.chan
    rw [State.faultTun_eq, State.fenceTun_eq, (State.noteCoverage_reports _).frame.chans]
  have h2 : ((s.faultNoted t m code count).recordFence 2 t causeTun).chan u = s.chan u := by
    unfold State.chan
    rw [(State.recordFence_frame ..).chans, State.faultNoted_frame]
  rw [h1, State.chan_haltTun, h2]

/-- The lines that the engines have not completed are discarded. -/
theorem State.stage_faultTun (s : State) (t m code count : Nat) :
    ((s.faultTun t m code count).chan t).stage = (s.chan t).stage.filter (fun e => s.lineDone t e.1) := by
  have h := (s.faultNoted t m code count).recordFence_frame 2 t causeTun
  rw [State.chan_faultTun, if_pos rfl]
  generalize (s.faultNoted t m code count).recordFence 2 t causeTun = x at h
  rw [h, State.faultNoted_frame]
  rfl

theorem State.haltTun_stores (s : State) (t : Nat) : SameStores s (s.haltTun t) := by rw [State.haltTun_frame]; exact ⟨rfl, rfl, rfl, rfl⟩

theorem State.faultNoted_stores (s : State) (t m code count : Nat) : SameStores s (s.faultNoted t m code count) := by
  rw [State.faultNoted_frame]; exact ⟨rfl, rfl, rfl, rfl⟩

theorem State.faultTun_stores (s : State) (t m code count : Nat) : SameStores s (s.faultTun t m code count) :=
  (s.faultNoted_stores t m code count).trans ((State.recordFence_frame ..).stores.trans ((State.haltTun_stores _ t).trans
    (State.noteCoverage_reports _).frame.stores))

/-- Settles O15: it holds. -/
theorem engineFaults : Obligations.EngineFaults := by
  unfold Obligations.EngineFaults
  refine ⟨fun s t m hi hl hf => ⟨_, rfl, ?endOfImage⟩, fun s t m hi hl => ⟨_, rfl, ?limit⟩, fun s t m w hi hl hf ho hw => ⟨_, rfl, ?illegal⟩,
    fun s t m code n ht => ⟨?fenced, ?stopped, ?stage, ?engs, ?chans, ?code, ?memory⟩⟩
  case endOfImage => simp [State.issue, hi, Nat.not_le.mpr hl, hf]
  case limit => simp [State.issue, hi, hl]
  case illegal => simp [State.issue, hi, Nat.not_le.mpr hl, hf, ho, hw]
  case fenced => exact State.faultTun_fenced s ht ..
  case stopped => exact fun j hj => by rw [State.eng_faultTun s hj, if_pos rfl]
  case stage => exact State.stage_faultTun ..
  case engs => exact fun u j hu hj => by rw [State.eng_faultTun s hj, if_neg hu]
  case chans => exact fun u hu => by rw [State.chan_faultTun, if_neg hu]
  case code => exact fun h => (State.get_faultTun _ _ _ _ _ (by decide) _ _).trans (State.faultNoted_later h ..)
  case memory =>
    have h := s.faultTun_stores t m code n
    exact ⟨h.memory, h.2.2⟩

/-- An issuing engine runs and its tun is not fenced. -/
theorem Issues.running {s : State} {t m op : Nat} {u : Uses} {w : IWord} (h : Issues s t m op u w) :
    t < 64 ∧ (s.eng t m).running = true ∧ s.fenced 2 t = false := by
  have := h.issuing
  unfold State.issuing at this
  simp at this
  tauto

/-- A slice that ENDL ends. -/
def State.endSlice (s : State) (t m : Nat) : State :=
  (s.setChan t (s.chan t)).setEng t m { s.ticked t m with running := false, ended := (s.ticked t m).line + 1 }

/-- Its body, where `n` is the length of the slice. -/
def endlBody (t n : Nat) : State → Chan → Eng → IWord → Effect := ifLane0 (fun s c e _ =>
  if s.get .TUN_LIMIT_SLICE_LIMIT t < n then .error 4 else .ok (c, { e with running := false, ended := e.line + 1 }, true))

theorem State.issue_endl {s : State} {t m n : Nat} {w : IWord} (h : Issues0 s t m 0x07 {} w) (hn : n ≤ s.get .TUN_LIMIT_SLICE_LIMIT t) :
    s.issue t m 0x07 {} (endlBody t n) = s.endSlice t m :=
  State.issue_ok (r := (s.chan t, { s.ticked t m with running := false, ended := (s.ticked t m).line + 1 }, true)) h.toIssues
    ((ifLane0_eq h _).trans (if_neg (Nat.not_lt.mpr hn)))

theorem execEndl_eq {s : State} {t m n : Nat} {w : IWord} (h : Issues0 s t m 0x07 {} w) (hn : n ≤ s.get .TUN_LIMIT_SLICE_LIMIT t) :
    exec (.endl t m n) s = .next (((s.endSlice t m).set .TUN_SLICE_MAX_CYCLES
      (max (s.get .TUN_SLICE_MAX_CYCLES t m) (max n ((s.eng t m).cyc + 1))) t m).dropReleased t) := by
  obtain ⟨-, hr, hf⟩ := h.running
  have hs := State.issue_endl h (Nat.max_le.mpr ⟨hn, h.limit⟩)
  have he : (s.endSlice t m).eng t m = _ := State.eng_setEng ..
  have hf' : (s.endSlice t m).fenced 2 t = false := hf
  have hg : ((s.eng t m).running && !((s.endSlice t m).eng t m).running && !(s.endSlice t m).fenced 2 t) = true := by rw [hr, he, hf']; rfl
  show execEndl t m n s = _
  unfold execEndl
  unfold endlBody at hs
  simp only [hs, hg, if_true]
  rfl

/-- Settles O7: it holds. -/
theorem engineEndLine : Obligations.EngineEndLine := by
  unfold Obligations.EngineEndLine
  refine ⟨fun s t m n w h hn => ⟨_, execEndl_eq h hn, ?ended⟩, fun s t m w h hc => ⟨_, rfl, ?trap⟩⟩
  case ended =>
    have he : (s.endSlice t m).eng t m = _ := State.eng_setEng ..
    refine ⟨congrArg Eng.running he, congrArg Eng.ended he, ?_, ⟨fun _ => rfl, fun _ => rfl⟩⟩
    exact State.get_set_same ..
  case trap =>
    rw [State.issue_fault h.toIssues ((ifLane0_eq h _).trans rfl)]
    obtain ⟨hcode, heng⟩ := State.faultNoted_first hc m 9 1
    exact ⟨State.faultTun_fenced s h.running.1 .., fun j hj => by rw [State.eng_faultTun s hj, if_pos rfl],
      (State.get_faultTun _ _ _ _ _ (by decide) _ _).trans hcode, (State.get_faultTun _ _ _ _ _ (by decide) _ _).trans heng,
      State.stage_faultTun .., (State.faultTun_stores ..).memory⟩

end Sys2Proof.Machine
end

section
/-! PROOF. Bits of registers: what a register reads, what a write of a field does, and State.reset. -/

namespace Sys2Proof.Machine

-- One lemma after the other: elaborated side by side, they ask for more threads than the compile may have.
set_option Elab.async false

/-! ## Bits of a register -/

/-- The fields of a list lie one above the other, the lowest at `b` or higher. -/
def Stacked : Nat → List Fld → Bool
  | _, [] => true
  | b, f :: fs => decide (b ≤ f.desc.lo) && Stacked (f.desc.lo + f.desc.width) fs

theorem Reg.stacked (r : Reg) : Stacked 0 r.fields = true := by
  cases r <;> rfl

/-- The fields `fs` with the values `c`, each in its place. -/
def placed (c : Fld → Nat) (fs : List Fld) : Nat := (fs.map (fun f => c f % 2 ^ f.desc.width * 2 ^ f.desc.lo)).sum

theorem placed_cons (c : Fld → Nat) (f : Fld) (fs : List Fld) : placed c (f :: fs) = c f % 2 ^ f.desc.width * 2 ^ f.desc.lo + placed c fs := by
  simp [placed]

/-- Nothing stands below the lowest field. -/
theorem two_pow_dvd_placed (c : Fld → Nat) {fs : List Fld} {b : Nat} (h : Stacked b fs = true) : 2 ^ b ∣ placed c fs := by
  induction fs generalizing b with
  | nil => exact Dvd.intro 0 rfl
  | cons f fs ih =>
    obtain ⟨hb, hfs⟩ := Bool.and_eq_true_iff.mp h
    have hb : b ≤ f.desc.lo := of_decide_eq_true hb
    rw [placed_cons]
    exact dvd_add ((Nat.pow_dvd_pow 2 hb).trans (Nat.dvd_mul_left ..)) ((Nat.pow_dvd_pow 2 (by omega)).trans (ih hfs))

/-- A bit of no field whose value is not 0 is 0. -/
theorem testBit_placed (c : Fld → Nat) {fs : List Fld} {b x : Nat} (h : Stacked b fs = true)
    (hx : ∀ f ∈ fs, c f = 0 ∨ ¬ (f.desc.lo ≤ x ∧ x < f.desc.lo + f.desc.width)) : (placed c fs).testBit x = false := by
  induction fs generalizing b with
  | nil => exact Nat.zero_testBit x
  | cons f fs ih =>
    obtain ⟨-, hfs⟩ := Bool.and_eq_true_iff.mp h
    have ih := ih hfs fun g hg => hx g (List.mem_cons_of_mem _ hg)
    obtain ⟨q, hq⟩ := two_pow_dvd_placed c hfs
    have hlt : c f % 2 ^ f.desc.width * 2 ^ f.desc.lo < 2 ^ (f.desc.lo + f.desc.width) := by
      rw [Nat.pow_add, Nat.mul_comm]
      exact Nat.mul_lt_mul_of_pos_left (Nat.mod_lt _ (Nat.two_pow_pos _)) (Nat.two_pow_pos _)
    rw [placed_cons, hq, Nat.add_comm, Nat.testBit_two_pow_mul_add _ hlt]
    split
    · next hlo =>
      rw [Nat.testBit_mul_two_pow, Nat.testBit_mod_two_pow]
      obtain h0 | hout := hx f List.mem_cons_self
      · simp [h0]
      · rw [decide_eq_false (by omega)]; rfl
    · next hhi =>
      rw [hq, Nat.testBit_two_pow_mul, decide_eq_true (by omega)] at ih
      exact ih

/-- Settles O5: it holds. -/
theorem reservedBitsReadZero : Obligations.ReservedBitsReadZero := by
  unfold Obligations.ReservedBitsReadZero
  intro s r i k x h
  have hr : s.regRead r i k = placed (fun f => if f.desc.access == .wo then 0 else s.view f i k) r.fields := by
    unfold State.regRead placed
    congr 1
    refine List.map_congr_left fun f _ => ?_
    split <;> simp [*]
  rw [hr]
  refine testBit_placed _ r.stacked fun f hf => ?_
  by_cases hw : f.desc.access = .wo
  · exact .inl (by simp [hw])
  · exact .inr (h f hf hw)

/-! ## Writes of a field -/

theorem testBit_bits (n lo w x : Nat) : (bits n lo w).testBit x = (decide (x < w) && n.testBit (lo + x)) := by
  unfold bits
  rw [Nat.testBit_mod_two_pow, Nat.testBit_div_two_pow, Nat.add_comm]

/-- The bits of the mask are taken from the value and the others stay. -/
theorem testBit_merge (old v m x : Nat) : (merge old v m).testBit x = if m.testBit x then v.testBit x else old.testBit x := by
  unfold merge
  simp only [Nat.testBit_or, Nat.testBit_xor, Nat.testBit_and]
  cases m.testBit x <;> cases old.testBit x <;> cases v.testBit x <;> rfl

/-- A write of a field alone, bit by bit. -/
theorem State.testBit_set (s : State) (f : Fld) (v i k : Nat) {x : Nat} (hx : x < f.desc.width) :
    ((s.set f v i k).get f i k).testBit x = v.testBit x := by
  rw [State.get_set_same, Nat.testBit_mod_two_pow, decide_eq_true hx, Bool.true_and]

theorem onlyRegs_set (s : State) (f : Fld) (v i k : Nat) : OnlyRegs s (s.set f v i k) (fun g j l => g = f ∧ j = i ∧ l = k) :=
  ⟨rfl, fun g j l h => by rw [State.get_set, if_neg h]⟩

/-- Settles O25: it holds. -/
theorem fieldAccessCodes : Obligations.FieldAccessCodes := by
  unfold Obligations.FieldAccessCodes
  intro s f i k v m hlt
  refine ⟨fun h0 => ?mask, fun ha => ?ro, fun ha hs h0 => ?rw, fun ha h0 => ?w1c, fun ha hk h0 => ?rwk⟩
  case mask => unfold State.writeField; exact if_pos h0
  case ro =>
    unfold State.writeField
    simp only [ha]
    exact ite_self _
  case rw =>
    have ht : s.writeField f i k v m = s.set f (merge (s.get f i k) (bits v f.desc.lo f.desc.width) (bits m f.desc.lo f.desc.width)) i k := by
      unfold State.writeField
      simp only [ha, hs, if_neg h0]
      rfl
    rw [ht]
    refine ⟨onlyRegs_set .., fun x hx => ?_⟩
    rw [State.testBit_set _ _ _ _ _ hx, testBit_merge, testBit_bits, testBit_bits]
    simp [hx]
  case w1c =>
    have ht : s.writeField f i k v m = s.set f (merge (s.get f i k) 0 (bits v f.desc.lo f.desc.width &&& bits m f.desc.lo f.desc.width)) i k := by
      unfold State.writeField
      simp only [ha, if_neg h0]
    rw [ht]
    refine ⟨onlyRegs_set .., fun x hx => ?_⟩
    rw [State.testBit_set _ _ _ _ _ hx, testBit_merge, Nat.testBit_and, testBit_bits, testBit_bits]
    simp only [hx, decide_true, Bool.true_and, Nat.zero_testBit]
    cases v.testBit (f.desc.lo + x) <;> cases m.testBit (f.desc.lo + x) <;> simp
  case rwk =>
    unfold State.writeField
    simp only [ha, hk, if_neg h0]
    rfl

/-- Settles O1: it holds, by the definition of a step. -/
theorem stepRunsFrontCommand : Obligations.StepRunsFrontCommand := by
  unfold Obligations.StepRunsFrontCommand
  refine ⟨fun c rest s h => ?_, fun s h => ?_⟩
  · unfold step; rw [h]
  · unfold step; rw [h]

/-- Settles O2: it holds. Every field of State.reset reads as its table gives. -/
theorem resetLeaves : Obligations.ResetLeaves := by
  unfold Obligations.ResetLeaves
  refine ⟨rfl, rfl, rfl, fun n hn => ?_, fun n => rfl, rfl, fun k i => ?_, rfl, rfl, rfl, rfl⟩
  · exact Nat.zero_testBit _
  · exact Nat.zero_testBit _

end Sys2Proof.Machine
end

section
/-! PROOF. Slots, completions, the queue commands, and what a completion leaves unchanged. -/

namespace Sys2Proof.Machine

-- One lemma after the other: elaborated side by side, they ask for more threads than the compile may have.
set_option Elab.async false

/-! ## Slots -/

theorem mem_of_slot_inUse {l : List (Nat × Slot)} {i : Nat} (h : (look {} l i).inUse = true) : i ∈ (l.filter (fun e => e.2.inUse)).map Prod.fst := by
  induction l with
  | nil => exact absurd h Bool.false_ne_true
  | cons e l ih =>
    unfold look Tab.get at h
    split at h
    · next he => exact List.mem_map.mpr ⟨e, List.mem_filter.mpr ⟨List.mem_cons_self, h⟩, he⟩
    · obtain ⟨x, hx, hi⟩ := List.mem_map.mp (ih h)
      exact List.mem_map.mpr ⟨x, List.mem_filter.mpr ⟨List.mem_cons_of_mem _ (List.mem_filter.mp hx).1, (List.mem_filter.mp hx).2⟩, hi⟩

/-- Slots in use without a gap from 0 are no more than are in use at all. -/
theorem State.le_slotsUsed {s : State} {n : Nat} (h : ∀ i, i < n → (s.slot i).inUse = true) : n ≤ s.slotsUsed := by
  have hs : List.range n ⊆ (s.slots.filter (fun e => e.2.inUse)).map Prod.fst := fun i hi => mem_of_slot_inUse (h i (List.mem_range.mp hi))
  simpa [State.slotsUsed] using (List.nodup_range.subperm hs).length_le

/-- The lowest free slot is free and those below it are not. -/
theorem State.lowestFree_spec (s : State) : (s.slot s.lowestFree).inUse = false ∧ ∀ i, i < s.lowestFree → (s.slot i).inUse = true := by
  unfold State.lowestFree
  cases hf : (List.range (s.slots.length + 1)).find? (fun n => !(s.slot n).inUse) with
  | none =>
    have h : s.slots.length + 1 ≤ s.slotsUsed := State.le_slotsUsed fun i hi => by
      simpa using List.find?_eq_none.mp hf i (List.mem_range.mpr hi)
    have : s.slotsUsed ≤ s.slots.length := List.length_filter_le ..
    omega
  | some n =>
    obtain ⟨hn, -, hl⟩ := List.find?_range_eq_some.mp hf
    exact ⟨by simpa using hn, fun i hi => by simpa using hl i hi⟩

theorem State.lowestFree_lt {s : State} (h : s.slotsUsed < slotCount) : s.lowestFree < slotCount :=
  (State.le_slotsUsed s.lowestFree_spec.2).trans_lt h

theorem handleSlot_mkHandle {g i : Nat} (h : i < slotCount) : handleSlot (mkHandle g i) = i := by
  unfold slotCount at h
  unfold handleSlot mkHandle
  omega

theorem handleGen_mkHandle {g i : Nat} (h : i < slotCount) : handleGen (mkHandle g i) = g := by
  unfold slotCount at h
  unfold handleGen mkHandle
  omega

@[simp] theorem State.slot_setSlot (s : State) (i : Nat) (x : Slot) : (s.setSlot i x).slot i = x := look_store_same ..
theorem State.slot_setSlot_ne (s : State) (x : Slot) {i j : Nat} (h : j ≠ i) : (s.setSlot i x).slot j = s.slot j := look_store_ne _ _ _ h
@[simp] theorem State.pair_setPair (s : State) (n : Nat) (p : QPair) : (s.setPair n p).pair n = p := look_store_same ..
theorem State.pair_setPair_ne (s : State) (p : QPair) {n m : Nat} (h : m ≠ n) : (s.setPair n p).pair m = s.pair m := look_store_ne _ _ _ h

theorem State.slotsUsed_lt {s : State} {d : Desc} (h : s.mayFetch d = true) : s.slotsUsed < slotCount := by
  unfold State.mayFetch at h
  simp only at h
  split at h
  · simp at h; exact h.1
  · simp at h; tauto

/-! ## The start of a command -/

/-- The generation of the next handle. -/
def State.nextGen (s : State) : Nat := if (s.slot s.lowestFree).gen = 255 then 1 else (s.slot s.lowestFree).gen + 1

/-- The slot that a command takes. -/
def State.takenSlot (s : State) (d : Desc) (op : Nat) : Slot :=
  { inUse := true, gen := s.nextGen, sq := d.sq, opcode := op, irq := d.irq, tag := d.tag
    status := stAccepted, param := d.param, route := if d.sq = viaWort then 3 else 0 }

/-- The descriptor taken from its queue. -/
def State.fetched (s : State) (d : Desc) : State :=
  (s.tookTurn d.sq).setPair d.sq { s.pair d.sq with sqHead := ((s.pair d.sq).sqHead + 1) % (s.pair d.sq).depth }

theorem State.started_eq {s : State} {d : Desc} (h : d.sq ≠ viaWort) (op : Nat) : s.started d op =
    (mkHandle s.nextGen s.lowestFree,
      ((s.fetched d).setSlot s.lowestFree (s.takenSlot d op)).remember d op (mkHandle s.nextGen s.lowestFree)) := by
  unfold State.started
  simp only [if_neg h]
  rfl

theorem State.slot_remember (s : State) (d : Desc) (op h j : Nat) : (s.remember d op h).slot j = s.slot j := by
  rw [State.remember_frame]; rfl

theorem State.turns_remember (s : State) (d : Desc) (op h : Nat) : (s.remember d op h).turns = s.turns := by
  rw [State.remember_frame]

theorem State.pair_remember_ne (s : State) (d : Desc) (op h : Nat) {n : Nat} (hn : n ≠ d.sq) : (s.remember d op h).pair n = s.pair n := by
  unfold State.remember
  split
  · rfl
  · exact State.pair_setPair_ne _ _ hn

/-- Remembering a tag changes the tags of the pair alone. -/
theorem State.pair_remember (s : State) (d : Desc) (op h : Nat) :
    (s.remember d op h).pair d.sq = { s.pair d.sq with tags := ((s.remember d op h).pair d.sq).tags } := by
  unfold State.remember
  split
  · rfl
  · simp only [State.pair_setPair]

/-- A tag other than 0 is remembered. -/
theorem State.mem_tags_remember {s : State} {d : Desc} (hq : d.sq ≠ viaWort) (ht : d.tag ≠ 0) (op h : Nat) :
    { tag := d.tag, opcode := op, crc := crc32c d.param, handle := h, status := stAccepted } ∈ ((s.remember d op h).pair d.sq).tags := by
  unfold State.remember
  rw [if_neg (by tauto)]
  simp only [State.pair_setPair]
  split
  · simp
  · next hl =>
    have hl : 1 ≤ (s.pair d.sq).tags.length := by simp at hl; omega
    rw [List.drop_append_of_le_length hl]
    simp

/-- Settles O19: it holds. -/
theorem commandStart : Obligations.CommandStart := by
  unfold Obligations.CommandStart
  intro s d op used ha hq
  have hfree := State.lowestFree_lt (State.slotsUsed_lt ha.fetch)
  have hframe := s.started_frame d op
  rw [State.started_eq hq] at hframe ⊢
  refine ⟨?head, ?live, ?free, ?gen, fun n hn => ?pairs, fun j hj => ?slots, fun ht => ⟨_, State.mem_tags_remember hq ht _ _, rfl, rfl, rfl, rfl⟩, ?frame, ?turns⟩
  case head =>
    rw [State.pair_remember]
    exact congrArg QPair.sqHead (State.pair_setPair (s.tookTurn d.sq) d.sq _)
  case live =>
    unfold State.live
    simp only [State.slot_remember, handleSlot_mkHandle hfree, handleGen_mkHandle hfree, State.slot_setSlot]
    simp [hfree, State.takenSlot]
  case free => rw [handleSlot_mkHandle hfree]; exact s.lowestFree_spec.1
  case gen => rw [handleSlot_mkHandle hfree, handleGen_mkHandle hfree]; rfl
  case pairs => exact (State.pair_remember_ne _ _ _ _ hn).trans (State.pair_setPair_ne _ _ hn)
  case slots =>
    rw [handleSlot_mkHandle hfree] at hj
    exact (State.slot_remember ..).trans (State.slot_setSlot_ne _ _ hj)
  case frame => exact hframe
  case turns => exact State.turns_remember ..

/-! ## Completions -/

/-- What the message of a completion queue changes. -/
theorem State.signal_frame (s : State) (n : Nat) :
    s.signal n = { s with pairs := (s.signal n).pairs, outbox := (s.signal n).outbox, msixPend := (s.signal n).msixPend } := by
  unfold State.signal State.msix
  split <;> rfl

theorem State.pair_msix (s : State) (v m : Nat) : (s.msix v).pair m = s.pair m := by
  unfold State.msix
  split <;> rfl

/-- The message of a completion queue restarts its count. -/
theorem State.pair_signal (s : State) (n m : Nat) : (s.signal n).pair m = if m = n then { s.pair n with unsig := 0 } else s.pair m :=
  (State.pair_msix ..).trans (look_store ..)

/-- The completion queue after an entry has entered it. -/
def QPair.advanced (p : QPair) : QPair :=
  { p with
    cqTail := if p.cqTail + 1 = p.depth then 0 else p.cqTail + 1
    phase := if p.cqTail + 1 = p.depth then !p.phase else p.phase
    unsig := p.unsig + 1 }

/-- An entry written at the tail of its queue. -/
def State.entryPut (s : State) (n : Nat) (e : CqEntry) : State :=
  ({ s with hostMem := Memory.wrs s.hostMem ((s.pair n).cqBase + 16 * (s.pair n).cqTail) (cqBytes n (s.pair n) e) } : State).setPair n (s.pair n).advanced

/-- The same, with the message of the queue when it is due. -/
def State.entryTold (s : State) (n : Nat) (e : CqEntry) : State :=
  if (e.final && e.irq) || decide ((s.pair n).advanced.aggCount ≤ (s.pair n).advanced.unsig) then (s.entryPut n e).signal n else s.entryPut n e

theorem State.writeCq_eq (s : State) (n : Nat) (e : CqEntry) : s.writeCq n e =
    if e.frees && e.final && (s.entryTold n e).live e.handle && !((s.entryTold n e).slot (handleSlot e.handle)).keep
    then (s.entryTold n e).freeSlot (handleSlot e.handle) else s.entryTold n e := by
  unfold State.writeCq State.entryTold State.entryPut QPair.advanced
  simp only [decide_eq_true_eq]

theorem State.entryTold_frame (s : State) (n : Nat) (e : CqEntry) : s.entryTold n e =
    { s.entryPut n e with pairs := (s.entryTold n e).pairs, outbox := (s.entryTold n e).outbox, msixPend := (s.entryTold n e).msixPend } := by
  unfold State.entryTold
  split
  · exact State.signal_frame ..
  · rfl

theorem State.pair_entryTold (s : State) (n : Nat) (e : CqEntry) (m : Nat) : ∃ u, (s.entryTold n e).pair m =
    if m = n then { (s.pair n).advanced with unsig := u } else s.pair m := by
  have hp : ∀ m, (s.entryPut n e).pair m = if m = n then (s.pair n).advanced else s.pair m := fun m => look_store ..
  unfold State.entryTold
  split
  · refine ⟨0, ?_⟩
    rw [State.pair_signal, hp, hp, if_pos rfl]
    split
    · rfl
    · rfl
  · exact ⟨(s.pair n).advanced.unsig, hp m⟩

/-- An entry written to its queue: its bytes, the queue moved on, and its slot freed when it is the last of its command. -/
theorem State.writeCq_frame (s : State) (n : Nat) (e : CqEntry) : s.writeCq n e =
    { s with
      hostMem := Memory.wrs s.hostMem ((s.pair n).cqBase + 16 * (s.pair n).cqTail) (cqBytes n (s.pair n) e)
      pairs := (s.writeCq n e).pairs, slots := (s.writeCq n e).slots
      outbox := (s.writeCq n e).outbox, msixPend := (s.writeCq n e).msixPend } := by
  have h := s.entryTold_frame n e
  rw [State.writeCq_eq]
  generalize s.entryTold n e = x at h
  split
  · rw [h]; rfl
  · rw [h]; rfl

theorem State.pair_writeCq (s : State) (n : Nat) (e : CqEntry) (m : Nat) : (s.writeCq n e).pair m = (s.entryTold n e).pair m := by
  rw [State.writeCq_eq]
  split <;> rfl

theorem State.slot_entryTold (s : State) (n : Nat) (e : CqEntry) (j : Nat) : (s.entryTold n e).slot j = s.slot j := by
  rw [State.entryTold_frame]; rfl

/-- No other slot is freed. -/
theorem State.slot_writeCq_ne (s : State) (n : Nat) {e : CqEntry} {j : Nat} (hj : j ≠ handleSlot e.handle) : (s.writeCq n e).slot j = s.slot j := by
  rw [State.writeCq_eq]
  split
  · exact (State.slot_setSlot_ne _ _ hj).trans (State.slot_entryTold ..)
  · exact State.slot_entryTold ..

/-- The slot of a live command is free after its last entry. -/
theorem State.slot_writeCq_free {s : State} (n : Nat) {e : CqEntry} (hf : e.final = true) (hr : e.frees = true) (hl : s.live e.handle = true)
    (hk : (s.slot (handleSlot e.handle)).keep = false) : ((s.writeCq n e).slot (handleSlot e.handle)).inUse = false := by
  have hl' : (s.entryTold n e).live e.handle = true := by unfold State.live; rw [State.slot_entryTold]; exact hl
  rw [State.writeCq_eq, if_pos (by rw [hf, hr, hl', State.slot_entryTold, hk]; rfl), State.freeSlot, State.slot_setSlot]

theorem length_leBytes (n v : Nat) : (leBytes n v).length = n := by
  induction n generalizing v with
  | zero => rfl
  | succ n ih => simp [leBytes, ih]

theorem length_cqBytes (n : Nat) (p : QPair) (e : CqEntry) : (cqBytes n p e).length = 16 := by simp [cqBytes, length_leBytes]

@[simp] theorem State.pair_setSlot (s : State) (i n : Nat) (x : Slot) : (s.setSlot i x).pair n = s.pair n := rfl

/-- A held entry changes its pair and its slot alone. -/
theorem State.holdEntry_frame (s : State) (n : Nat) (e : CqEntry) :
    s.holdEntry n e = { s with pairs := (s.holdEntry n e).pairs, slots := (s.holdEntry n e).slots } := by
  unfold State.holdEntry
  simp only
  split <;> rfl

theorem State.pair_holdEntry (s : State) (n : Nat) (e : CqEntry) : ((s.holdEntry n e).pair n).fenced = (s.pair n).fenced := by
  unfold State.holdEntry
  simp only
  split
  · simp only [State.pair_setSlot, State.pair_setPair]
  · simp only [State.pair_setPair]

/-- Settles O20: it holds. -/
theorem completionWritten : Obligations.CompletionWritten := by
  unfold Obligations.CompletionWritten
  refine ⟨fun s n e hf ho hr => ?written, fun s n e hf ho hr => ?waits, fun s n e hf ho => ?overflows⟩
  case written =>
    have hd : s.deliver n e = s.writeCq n e := by simp [State.deliver, hf, ho, hr]
    simp only [hd]
    have hm : (s.writeCq n e).hostMem = Memory.wrs s.hostMem ((s.pair n).cqBase + 16 * (s.pair n).cqTail) (cqBytes n (s.pair n) e) := by
      rw [State.writeCq_frame]
    obtain ⟨u, hu⟩ := s.pair_entryTold n e n
    rw [if_pos rfl] at hu
    refine ⟨fun j hj => ?_, fun b hb => ?_, ?_, ?_, by rw [State.writeCq_frame], by rw [State.writeCq_frame], fun m hm => ?_,
      State.slot_writeCq_free n, fun j => State.slot_writeCq_ne s n⟩
    · rw [hm, Memory.rd_wrs_in _ _ _ _ (by rw [length_cqBytes]; exact hj)]
    · rw [hm, Memory.rd_wrs_out _ _ _ (by rw [length_cqBytes]; exact hb)]
    · rw [State.pair_writeCq, hu]; rfl
    · rw [State.pair_writeCq, hu]; rfl
    · obtain ⟨u, hu⟩ := s.pair_entryTold n e m
      rw [State.pair_writeCq, hu, if_neg hm]
  case waits =>
    have hd : s.deliver n e = s.setPair n { s.pair n with overflow := (s.pair n).overflow ++ [e] } := by simp [State.deliver, hf, ho, hr]
    simp only [hd, State.pair_setPair]
    exact ⟨trivial, rfl, rfl⟩
  case overflows =>
    have hne : (s.pair n).overflow.isEmpty = false := by
      cases h : (s.pair n).overflow with
      | nil => rw [h] at ho; simp at ho
      | cons => rfl
    have hd : s.deliver n e = (((s.setPair n { s.pair n with fenced := true }).set .QM_OVF_LAST_QID n).bump .QM_OVF_LAST_COUNT).holdEntry n e := by
      simp [State.deliver, hf, hne, Nat.not_lt.mpr ho]
    simp only [hd]
    refine ⟨?_, ?_, ?_⟩
    · rw [State.pair_holdEntry]
      exact congrArg QPair.fenced (State.pair_setPair s n _)
    · rw [State.holdEntry_frame]
      exact (State.get_set_fld _ (by decide) ..).trans (State.get_set_same ..)
    · rw [State.holdEntry_frame]; rfl

/-! ## What a command's start and its completion do to the pairs and slots of others -/

theorem State.slot_allot (s : State) (d : Desc) (op j : Nat) :
    (s.allot d op).2.slot j = if j = s.lowestFree then s.takenSlot d op else s.slot j :=
  look_store ({} : Slot) s.slots s.lowestFree j (s.takenSlot d op)

/-- The slot that a command takes. -/
theorem State.slot_started (s : State) (d : Desc) (op j : Nat) :
    (s.started d op).2.slot j = if j = s.lowestFree then s.takenSlot d op else s.slot j := by
  unfold State.started
  rw [State.slot_remember]
  split
  · exact State.slot_allot s d op j
  · exact State.slot_allot (s.fetched d) d op j

theorem State.handle_started (s : State) (d : Desc) (op : Nat) : (s.started d op).1 = mkHandle s.nextGen s.lowestFree := by
  unfold State.started
  split <;> rfl

theorem State.pair_started_ne (s : State) (d : Desc) (op : Nat) {n : Nat} (h : n ≠ d.sq) : (s.started d op).2.pair n = s.pair n := by
  unfold State.started
  rw [State.pair_remember_ne _ _ _ _ h]
  split
  · rfl
  · exact State.pair_setPair_ne _ _ h

/-- A live handle names another slot than the one a command takes. -/
theorem State.slot_started_of_live (s : State) (d : Desc) (op : Nat) {q : Nat} (h : s.live q = true) :
    (s.started d op).2.slot (handleSlot q) = s.slot (handleSlot q) := by
  rw [State.slot_started, if_neg]
  intro e
  have hf := s.lowestFree_spec.1
  unfold State.live at h
  simp only [e, hf, Bool.and_false, Bool.false_and] at h
  exact absurd h Bool.false_ne_true

theorem State.pair_noteStatus_ne (s : State) (h st : Nat) (fin : Bool) {n m : Nat} (hm : m ≠ n) : (s.noteStatus n h st fin).pair m = s.pair m := by
  unfold State.noteStatus
  simp only
  split
  · exact State.pair_setPair_ne _ _ hm
  · exact State.pair_setPair_ne _ _ hm

theorem State.pair_holdEntry_ne (s : State) (e : CqEntry) {n m : Nat} (hm : m ≠ n) : (s.holdEntry n e).pair m = s.pair m := by
  unfold State.holdEntry
  simp only
  split
  · exact State.pair_setPair_ne _ _ hm
  · exact State.pair_setPair_ne _ _ hm

theorem State.pair_writeCq_ne (s : State) (e : CqEntry) {n m : Nat} (hm : m ≠ n) : (s.writeCq n e).pair m = s.pair m := by
  obtain ⟨u, hu⟩ := s.pair_entryTold n e m
  rw [State.pair_writeCq, hu, if_neg hm]

theorem State.pair_deliver_ne (s : State) (e : CqEntry) {n m : Nat} (hm : m ≠ n) : (s.deliver n e).pair m = s.pair m := by
  unfold State.deliver
  simp only
  split
  · exact State.pair_holdEntry_ne _ _ hm
  · split
    · exact State.pair_writeCq_ne _ _ hm
    · split
      · exact State.pair_setPair_ne _ _ hm
      · exact (State.pair_holdEntry_ne _ _ hm).trans (State.pair_setPair_ne _ _ hm)

/-- A report leaves every pair but that of its command. -/
theorem State.pair_report_ne (s : State) (h st : Nat) (fin : Bool) (r x : Nat) {m : Nat} (hm : m ≠ (s.slot (handleSlot h)).sq) :
    (s.report h st fin r x).pair m = s.pair m := by
  have hn := State.pair_noteStatus_ne s h st fin hm
  unfold State.report
  simp only
  split
  · rfl
  · split
    · exact (State.pair_deliver_ne _ _ hm).trans hn
    · split <;> exact hn
    · split <;> exact hn
    · split
      · split <;> exact hn
      · exact hn

theorem State.pair_done_ne (s : State) (h r : Nat) {m : Nat} (hm : m ≠ (s.slot (handleSlot h)).sq) : (s.done h r).pair m = s.pair m :=
  State.pair_report_ne _ _ _ _ _ _ hm

/-- A slot of a table keeps what a change of every entry keeps. -/
theorem look_map {α β : Type} (d : α) (g : α → β) (f : Nat × α → Nat × α) (hf : ∀ e, (f e).1 = e.1 ∧ g (f e).2 = g e.2) (l : List (Nat × α)) (i : Nat) :
    g (look d (l.map f) i) = g (look d l i) := by
  induction l with
  | nil => rfl
  | cons e l ih =>
    unfold look at ih ⊢
    rw [List.map_cons, Tab.get, Tab.get, (hf e).1]
    split
    · exact (hf e).2
    · exact ih

theorem State.sq_slot_disablePair (s : State) (n route i : Nat) : ((s.disablePair n route).slot i).sq = (s.slot i).sq := by
  unfold State.disablePair
  refine look_map {} Slot.sq _ (fun e => ?_) s.slots i
  split <;> exact ⟨rfl, rfl⟩

/-- The slot of a starting command belongs to the queue of its descriptor. -/
theorem State.sq_slot_started {s : State} {d : Desc} (h : s.mayFetch d = true) (op : Nat) :
    ((s.started d op).2.slot (handleSlot (s.started d op).1)).sq = d.sq := by
  rw [State.handle_started, handleSlot_mkHandle (State.lowestFree_lt (State.slotsUsed_lt h)), State.slot_started, if_pos rfl]
  rfl

theorem State.pair_started_done_ne {s u : State} {d : Desc} {op : Nat} (h : s.mayFetch d = true) (hu : (u.slot (handleSlot (s.started d op).1)).sq =
    ((s.started d op).2.slot (handleSlot (s.started d op).1)).sq) {n : Nat} (hn : n ≠ d.sq) (r : Nat) :
    (u.done (s.started d op).1 r).pair n = u.pair n :=
  State.pair_done_ne _ _ _ (by rw [hu, State.sq_slot_started h]; exact hn)

/-! ## Refusals -/

/-- The state in which a fetched descriptor is refused. -/
theorem State.submit_badOpcode {s : State} {d : Desc} {c : Cmd} (hf : s.mayFetch d = true) (ho : d.opcode ≠ c.opcode) (act : Nat → State → State) :
    s.submit d c act = (if d.sq = viaWort then s else s.fetched d).refuse d 0 stBadOpcode 0 0 := by
  unfold State.submit
  simp only [hf, Bool.not_true, Bool.false_eq_true, if_false, if_pos ho]
  rfl

theorem State.submit_foreign {s : State} {d : Desc} {c : Cmd} (hf : s.mayFetch d = true) (hq : d.sq ≠ viaWort) (ho : d.opcode = c.opcode)
    (hc : s.classOk d.sq (c.opcode / 256) = false) (act : Nat → State → State) :
    s.submit d c act = (s.fetched d).deliver d.sq
      { handle := 0, status := stBadOpcode, final := true, result := 0, detail := 1, irq := d.irq, frees := false } := by
  have hc' : (s.fetched d).classOk d.sq (c.opcode / 256) = false := hc
  unfold State.submit
  simp only [hf, Bool.not_true, Bool.false_eq_true, if_false, if_neg hq, if_neg (not_not.mpr ho)]
  unfold State.fetched at hc' ⊢
  simp only [hc', Bool.not_false, if_true, State.refuse, if_neg hq]

theorem State.submit_duplicate {s : State} {d : Desc} {c : Cmd} {e : TagEntry} (hf : s.mayFetch d = true) (hq : d.sq ≠ viaWort) (ho : d.opcode = c.opcode)
    (hc : s.classOk d.sq (c.opcode / 256) = true) (ht : d.tag ≠ 0) (he : (s.pair d.sq).tags.find? (fun t => t.tag == d.tag) = some e)
    (heo : e.opcode = c.opcode) (hcrc : e.crc = crc32c d.param) (act : Nat → State → State) :
    s.submit d c act = (s.fetched d).deliver d.sq
      { handle := e.handle, status := stDuplicate, final := true, result := e.status, detail := 0, irq := d.irq, frees := false } := by
  have hc' : (s.fetched d).classOk d.sq (c.opcode / 256) = true := hc
  unfold State.submit
  simp only [hf, Bool.not_true, Bool.false_eq_true, if_false, if_neg hq, if_neg (not_not.mpr ho), if_neg ht, he]
  unfold State.fetched at hc' ⊢
  simp only [hc', Bool.not_true, Bool.false_eq_true, if_false, if_pos (And.intro heo hcrc), State.refuse, if_neg hq]

/-! ## The queue commands -/

section
variable {i : Instr} {s : State} {d : Desc} {c : Cmd} {op : Nat} {used : List (Nat × Nat)} {act : Nat → State → State}

/-- A short command whose checks pass. -/
theorem exec_short (hi : exec i s = .next (s.submit d c act)) (h : Accepts s d op used) (ho : c.opcode = op) (hu : c.used = used)
    (hl : c.long = false) (hf : c.fenced = false) (hs : c.sizes.any (· == 0) = false) (hr : c.range = true)
    (hc : c.counts.any (· == 0) = false) (hst : c.state = 0) : exec i s = .next (act (s.started d op).1 (s.started d op).2) := by
  rw [hi, State.submit_short h ho hu hl hf hs hr hc hst]

/-- A long one. -/
theorem exec_long (hi : exec i s = .next (s.submit d c act)) (h : Accepts s d op used) (ho : c.opcode = op) (hu : c.used = used)
    (hl : c.long = true) (hf : c.fenced = false) (hs : c.sizes.any (· == 0) = false) (hr : c.range = true)
    (hc : c.counts.any (· == 0) = false) (hst : c.state = 0) : exec i s = .next (act (s.startedLong d op).1 (s.startedLong d op).2) := by
  rw [hi, State.submit_long h ho hu hl hf hs hr hc hst]

theorem exec_of_submit {u : State} (hi : exec i s = .next (s.submit d c act)) (h : s.submit d c act = u) : exec i s = .next u := by rw [hi, h]

end

/-- A queue that may fetch a descriptor is neither fenced nor in overflow. -/
theorem State.mayFetch_pair {s : State} {d : Desc} (h : s.mayFetch d = true) (hq : d.sq ≠ viaWort) :
    (s.pair d.sq).fenced = false ∧ (s.pair d.sq).overflow = [] := by
  unfold State.mayFetch at h
  simp only [if_neg hq, Bool.and_eq_true, Bool.not_eq_true', List.isEmpty_iff] at h
  tauto

/-- A completion that names no slot leaves the slots, and the fields, as they were. -/
theorem State.refuse_leaves {s : State} {d : Desc} (hf : (s.pair d.sq).fenced = false) (ho : (s.pair d.sq).overflow = []) (h st r x : Nat) :
    (∀ j, (s.refuse d h st r x).slot j = s.slot j) ∧ (s.refuse d h st r x).regs = s.regs := by
  unfold State.refuse State.deliver
  simp only [hf, ho, List.isEmpty_nil, Bool.true_and]
  split
  · exact ⟨fun _ => rfl, rfl⟩
  · split
    · next hc => exact absurd hc Bool.false_ne_true
    · split
      · rw [State.writeCq_eq]
        simp only [Bool.false_and, Bool.false_eq_true, if_false]
        exact ⟨fun j => State.slot_entryTold .., by rw [State.entryTold_frame]; rfl⟩
      · exact ⟨fun _ => rfl, rfl⟩

theorem depthOk_ne_zero {n : Nat} (h : depthOk n = true) : n ≠ 0 := by
  rintro rfl
  exact absurd h (by decide)

@[simp] theorem State.slot_setPair (s : State) (n i : Nat) (p : QPair) : (s.setPair n p).slot i = s.slot i := rfl

/-- HANDLE_QUERY without its completion: the held status is taken. -/
def State.queried (s : State) (q : Nat) : State :=
  let x := s.slot (handleSlot q)
  let p := s.pair x.sq
  let s := s.setPair x.sq { p with held := p.held.filter (fun e => e.handle != q) }
  if x.held && x.final && !x.keep then s.freeSlot (handleSlot q)
  else if x.held then s.setSlot (handleSlot q) { x with held := false } else s

theorem State.queried_stores (s : State) (q : Nat) : (s.queried q).regs = s.regs ∧ (s.queried q).hostMem = s.hostMem := by
  unfold State.queried
  simp only
  split
  · exact ⟨rfl, rfl⟩
  · split <;> exact ⟨rfl, rfl⟩

theorem State.slot_queried_ne (s : State) {q j : Nat} (hj : j ≠ handleSlot q) : (s.queried q).slot j = s.slot j := by
  unfold State.queried
  simp only
  split
  · exact State.slot_setSlot_ne _ _ hj
  · split
    · exact State.slot_setSlot_ne _ _ hj
    · rfl

theorem State.slot_queried {s : State} {q : Nat} (hu : (s.slot (handleSlot q)).inUse = true) :
    ((s.queried q).slot (handleSlot q)).inUse =
      !((s.slot (handleSlot q)).held && (s.slot (handleSlot q)).final && !(s.slot (handleSlot q)).keep) ∧
    ((s.queried q).slot (handleSlot q)).held = false ∧ ((s.queried q).slot (handleSlot q)).gen = (s.slot (handleSlot q)).gen := by
  unfold State.queried State.freeSlot
  simp only
  split
  · next h => simp [h]
  · next h =>
    have h := Bool.eq_false_iff.mpr h
    split
    · simp [h, hu]
    · next hh => rw [h]; exact ⟨hu, Bool.eq_false_iff.mpr hh, rfl⟩

theorem State.held_queried (s : State) (q : Nat) : ∀ e ∈ ((s.queried q).pair (s.slot (handleSlot q)).sq).held, e.handle ≠ q := by
  have h : (s.queried q).pair (s.slot (handleSlot q)).sq =
      { s.pair (s.slot (handleSlot q)).sq with held := (s.pair (s.slot (handleSlot q)).sq).held.filter (fun e => e.handle != q) } := by
    unfold State.queried
    simp only
    split
    · exact State.pair_setPair ..
    · split <;> exact State.pair_setPair ..
  rw [h]
  intro e he
  simpa using (List.mem_filter.mp he).2

/-- Settles O21: it holds. -/
theorem queueCommands : Obligations.QueueCommands := by
  unfold Obligations.QueueCommands
  refine ⟨fun s d ha => ?nop, fun s d r q depth ha hq hd h0 hl hr hok hle h18 h20 h28 h28' h2a h2a' he hne => ?create, fun s d ha h0 hl he => ?delete,
    fun s d q ha hq hl hne hf hr => ?resume, fun s d ha hl => ?query,
    fun s d => ⟨fun hf => ?wait, fun hf ho => ?opcode, fun e hf hq ho ht he heo hc => ?dup, fun hf hq ho hc => ?foreign⟩⟩
  case nop => exact ⟨_, rfl, State.submit_short ha rfl rfl rfl rfl rfl rfl rfl rfl _⟩
  case create =>
    subst hq hd
    refine ⟨_, exec_short rfl ha rfl rfl rfl rfl ?_ ?_ rfl ?_, ?_⟩
    · have := depthOk_ne_zero hok
      simp [this]
      omega
    · simp [hok, h18, h20, h28', h2a', hr, h0, hl, hle]
    · simp [he]
    · have hp := State.pair_started_done_ne (u := (s.started d 0x0002).2.setPair (d.p 0x10 2)
        { enabled := true, depth := d.p 0x14 4, sqBase := d.p 0x18 8, cqBase := d.p 0x20 8, aggCount := d.p 0x28 2, aggUsec := d.p 0x2A 2 })
        ha.fetch rfl hne.symm 0
      rw [State.pair_setPair] at hp
      exact ⟨hp, by rw [hp]⟩
  case delete =>
    refine ⟨_, exec_short rfl ha rfl rfl rfl rfl rfl ?_ rfl ?_, rfl, fun hne => ?_⟩
    · simp [h0, hl]
    · simp [he]
    · rw [State.pair_started_done_ne ha.fetch (State.sq_slot_disablePair ..) hne.symm]
      exact congrArg QPair.enabled (State.pair_setPair _ _ {})
  case resume =>
    subst hq
    refine ⟨_, exec_short rfl ha rfl rfl rfl rfl rfl ?_ rfl ?_, ?_⟩
    · simp [hl]
    · simp [hf, hr]
    · rw [State.pair_started_ne s d 0x0004 (Ne.symm hne)]
  case query =>
    have hx := State.slot_started_of_live s d 0x0005 hl
    have hu : ((s.started d 0x0005).2.slot (handleSlot (d.p 0x10 4))).inUse = true := by
      rw [hx]
      unfold State.live at hl
      simp only [Bool.and_eq_true] at hl
      exact hl.1.2
    refine ⟨_, exec_short rfl ha rfl rfl rfl rfl rfl rfl rfl ?_, (s.started d 0x0005).2.queried (d.p 0x10 4), ?_⟩
    · simp [hl]
    · rw [← hx]
      obtain ⟨hregs, hmem⟩ := (s.started d 0x0005).2.queried_stores (d.p 0x10 4)
      obtain ⟨huse, hheld, hgen⟩ := State.slot_queried hu
      refine ⟨rfl, hregs.trans ?_, hmem.trans ?_, fun j => State.slot_queried_ne _, huse, hheld, hgen, State.held_queried _ _⟩
      · rw [State.started_frame]
      · rw [State.started_frame]
  case wait => exact ⟨_, rfl, State.submit_wait hf _ _⟩
  case opcode =>
    refine ⟨_, exec_of_submit rfl (State.submit_badOpcode hf ho _), ?_⟩
    by_cases hq : d.sq = viaWort
    · rw [if_pos hq, State.refuse, if_pos hq]
      exact ⟨fun _ => rfl, rfl, fun h => absurd hq h⟩
    · obtain ⟨hfn, hov⟩ := State.mayFetch_pair hf hq
      have hp : (s.fetched d).pair d.sq = _ := State.pair_setPair ..
      obtain ⟨hs, hregs⟩ := State.refuse_leaves (s := s.fetched d) (d := d) (by rw [hp]; exact hfn) (by rw [hp]; exact hov) 0 stBadOpcode 0 0
      rw [if_neg hq]
      exact ⟨hs, hregs, fun _ => if_neg hq⟩
  case dup => exact ⟨_, rfl, State.submit_duplicate hf hq ho (by simp [State.classOk]) ht he heo hc _⟩
  case foreign =>
    refine ⟨_, rfl, ?_⟩
    refine State.submit_foreign hf hq ho ?_ _
    show s.classOk d.sq (0x0104 / 256) = false
    exact hc

/-! ## What a report leaves unchanged -/

/-- The fields that completions may change. -/
def reportedFlds : List Fld := [.QM_OVF_LAST_QID, .QM_OVF_LAST_COUNT, .QM_FLR_DROPPED_COUNT]

/-- From `s` to `t` only what a completion changes: queues, their memory, messages, and the counts of `reportedFlds`. -/
structure Completes (s t : State) : Prop where
  frame : t = { s with
    regs := t.regs, hostMem := t.hostMem, pairs := t.pairs, slots := t.slots, outbox := t.outbox, msixPend := t.msixPend }
  touches : Touches reportedFlds s t

theorem Completes.refl (s : State) : Completes s s := ⟨rfl, Touches.refl _ s⟩

theorem Completes.trans {s t u : State} (h : Completes s t) (h' : Completes t u) : Completes s u :=
  ⟨by rw [h'.frame, h.frame], h.touches.trans h'.touches⟩

theorem Completes.set {s t : State} (h : Completes s t) {f : Fld} (hf : f ∈ reportedFlds) (v i k : Nat) : Completes s (t.set f v i k) :=
  h.trans ⟨rfl, (Touches.refl _ t).set hf v i k⟩

theorem Completes.setPair {s t : State} (h : Completes s t) (n : Nat) (p : QPair) : Completes s (t.setPair n p) := h.trans ⟨rfl, Touches.of_regs rfl⟩
theorem Completes.setSlot {s t : State} (h : Completes s t) (n : Nat) (x : Slot) : Completes s (t.setSlot n x) := h.trans ⟨rfl, Touches.of_regs rfl⟩
theorem Completes.out {s t : State} (h : Completes s t) (o : Out) : Completes s (t.out o) := h.trans ⟨rfl, Touches.of_regs rfl⟩

theorem Completes.noteStatus {s t : State} (h : Completes s t) (n a st : Nat) (fin : Bool) : Completes s (t.noteStatus n a st fin) := by
  unfold State.noteStatus
  simp only
  split
  · exact (h.setPair _ _).setSlot _ _
  · exact h.setPair _ _

theorem Completes.holdEntry {s t : State} (h : Completes s t) (n : Nat) (e : CqEntry) : Completes s (t.holdEntry n e) := by
  unfold State.holdEntry
  simp only
  split
  · exact (h.setPair _ _).setSlot _ _
  · exact h.setPair _ _

theorem Completes.writeCq {s t : State} (h : Completes s t) (n : Nat) (e : CqEntry) : Completes s (t.writeCq n e) := by
  have hf := t.writeCq_frame n e
  refine h.trans ⟨?_, Touches.of_regs ?_⟩
  · generalize t.writeCq n e = x at hf
    rw [hf]
  · rw [hf]

theorem Completes.deliver {s t : State} (h : Completes s t) (n : Nat) (e : CqEntry) : Completes s (t.deliver n e) := by
  unfold State.deliver
  simp only
  split
  · exact h.holdEntry _ _
  · split
    · exact h.writeCq _ _
    · split
      · exact h.setPair _ _
      · exact (((h.setPair _ _).set (by decide) _ _ _).set (by decide) _ _ _).holdEntry _ _

theorem Completes.report {s t : State} (h : Completes s t) (a st : Nat) (fin : Bool) (r x : Nat) : Completes s (t.report a st fin r x) := by
  unfold State.report
  simp only
  split
  · exact h
  · have hn := h.noteStatus (t.slot (handleSlot a)).sq a st fin
    split
    · exact hn.deliver _ _
    · split
      · exact hn.setSlot _ _
      · exact hn
    · split
      · exact (hn.out _).setSlot _ _
      · exact hn.out _
    · split
      · refine Completes.set ?_ (by decide) _ _ _
        split
        · exact hn
        · exact hn.setSlot _ _
      · exact hn

theorem State.report_completes (s : State) (a st : Nat) (fin : Bool) (r x : Nat) : Completes s (s.report a st fin r x) := (Completes.refl s).report ..
theorem State.finish_completes (s : State) (a st r x : Nat) : Completes s (s.finish a st r x) := (Completes.refl s).report ..
theorem State.done_completes (s : State) (a r : Nat) : Completes s (s.done a r) := (Completes.refl s).report ..

/-- A field that completions leave reads as before. -/
theorem Completes.get {s t : State} (h : Completes s t) {f : Fld} (hf : f ∉ reportedFlds) (i k : Nat) : t.get f i k = s.get f i k :=
  h.touches f i k hf

theorem State.get_startedLong (s : State) (d : Desc) (op : Nat) {f : Fld} (hf : f ∉ reportedFlds) (i k : Nat) :
    (s.startedLong d op).2.get f i k = s.get f i k :=
  ((State.report_completes ..).get hf i k).trans (State.get_started ..)

theorem State.startedLong_frame (s : State) (d : Desc) (op : Nat) : ∃ r m p l t o x, (s.startedLong d op).2 =
    { s with regs := r, hostMem := m, pairs := p, slots := l, turns := t, outbox := o, msixPend := x } := by
  obtain ⟨P, S, T, hs⟩ := s.started_some d op
  have h : Completes (s.started d op).2 (s.startedLong d op).2 := State.report_completes ..
  have hf := h.frame
  generalize (s.startedLong d op).2 = x at hf ⊢
  rw [hs] at hf
  exact ⟨_, _, _, _, _, _, _, hf⟩

end Sys2Proof.Machine
end

section
/-! PROOF. The codes of a line: the bridge before it and the budgets of the Kiln. -/

namespace Sys2Proof.Machine

-- One lemma after the other: elaborated side by side, they ask for more threads than the compile may have.
set_option Elab.async false

/-! ## The bridge before a line -/

/-- A change of one channel alone. -/
theorem setChan_only (s : State) (t : Nat) (c : Chan) :
    (s.setChan t c).chan t = c ∧ (∀ n, n ≠ t → (s.setChan t c).chan n = s.chan n) ∧ s.setChan t c = { s with chans := (s.setChan t c).chans } :=
  ⟨State.chan_setChan .., fun _ h => State.chan_setChan_ne _ _ h, rfl⟩

theorem testBit_andNot (a b n : Nat) : (andNot a b).testBit n = (a.testBit n && !b.testBit n) := by
  unfold andNot
  rw [Nat.testBit_xor, Nat.testBit_and]
  cases a.testBit n <;> cases b.testBit n <;> rfl

/-- The requests of the host in force at a boundary. -/
theorem State.bridgeBoundary_chan (s : State) (t y : Nat) : ∃ m : Nat, (s.bridgeBoundary t y).chan t =
    { (s.bridgeBoundary t y).chan t with
      bridge := if (s.chan t).apply then andNot m (s.chan t).clrReq ||| (s.chan t).setReq else m
      apply := false
      setReq := if (s.chan t).apply then 0 else (s.chan t).setReq
      clrReq := if (s.chan t).apply then 0 else (s.chan t).clrReq } := by
  unfold State.bridgeBoundary
  simp only [State.chan_setChan]
  exact ⟨_, rfl⟩

theorem State.bridgeBoundary_others (s : State) {t u : Nat} (y : Nat) (h : u ≠ t) : (s.bridgeBoundary t y).chan u = s.chan u := by
  unfold State.bridgeBoundary
  simp only
  rw [State.chan_setChan_ne _ _ h]
  split <;> rfl

/-! ## The codes of a line -/

/-- What moves across the bridge: where each masked nozzle's code goes. -/
def bridgeMoves (twin : Bool) (mask y : Nat) (codes : List Nat) : List (Option Nat × Nat) :=
  ((List.range codes.length).filter (fun n => bit mask n && codes.getD n 0 != 0)).map (fun n => (bridgeTo twin codes.length mask y n, codes.getD n 0))

/-- The code of nozzle `n` after the bridge. -/
theorem bridgeLine_getD (twin : Bool) (smax mask y : Nat) (codes : List Nat) {n : Nat} (hn : n < codes.length) :
    (bridgeLine twin smax mask y codes).1.getD n 0 =
      if bit mask n then 0
      else if (bridgeMoves twin mask y codes).any (fun e => e.1 == some n) then
        min smax (codes.getD n 0 + (((bridgeMoves twin mask y codes).filter (fun e => e.1 == some n)).map Prod.snd).sum)
      else codes.getD n 0 := by
  unfold bridgeLine bridgeMoves
  simp only [List.getD_eq_getElem?_getD, List.getElem?_map, List.getElem?_range hn, Option.map_some, Option.getD_some]

theorem mem_bridgeMoves {twin : Bool} {mask y n : Nat} {codes : List Nat} : (bridgeMoves twin mask y codes).any (fun e => e.1 == some n) = true ↔
    ∃ m, m < codes.length ∧ mask.testBit m = true ∧ codes.getD m 0 ≠ 0 ∧ bridgeTo twin codes.length mask y m = some n := by
  unfold bridgeMoves bit
  simp only [List.any_map, List.any_eq_true, List.mem_filter, List.mem_range, Bool.and_eq_true, bne_iff_ne, Function.comp, beq_iff_eq]
  exact exists_congr fun m => by tauto

/-- Settles O27: it holds. -/
theorem bridging : Obligations.Bridging := by
  unfold Obligations.Bridging
  refine ⟨fun s t w v ht hw hr => ?set, fun s t w v ht hw hr => ?clr, fun s t ht hr => ?apply, fun s t y n => ?boundary,
    fun twin smax mask y codes => ?line, fun smax codes => ?reduce⟩
  case set => exact ⟨_, exec_when_reach rfl (by simp [ht, hw]) hr, setChan_only ..⟩
  case clr => exact ⟨_, exec_when_reach rfl (by simp [ht, hw]) hr, setChan_only ..⟩
  case apply =>
    have hc : (s.bridgeApply t).chan t = { s.chan t with apply := true } := State.chan_setChan ..
    refine ⟨_, exec_when_reach rfl (by simp [ht]) hr, hc, ?_, (setChan_only s t _).2⟩
    rw [hc]
  case boundary =>
    obtain ⟨m, hm⟩ := s.bridgeBoundary_chan t y
    rw [hm]
    refine ⟨fun ha hset => ?_, fun ha hset hclr => ?_, fun ha => ?_, rfl, fun u => State.bridgeBoundary_others s y⟩
    · simp only [ha, if_true, Nat.testBit_or, hset, Bool.or_true]
    · simp only [ha, if_true, Nat.testBit_or, testBit_andNot, hset, hclr, Bool.not_true, Bool.and_false, Bool.or_false]
    · simp only [ha, Bool.false_eq_true, if_false, and_self]
  case line =>
    refine ⟨by simp [bridgeLine], fun n hn hm => ?masked, fun n hn hm hno => ?kept, fun m n hm hn hb hc ht => ?receives⟩
    case masked => exact (bridgeLine_getD _ _ _ _ _ hn).trans (if_pos hm)
    case kept =>
      rw [bridgeLine_getD _ _ _ _ _ hn, if_neg (by simpa [bit] using hm), if_neg]
      rw [mem_bridgeMoves]
      rintro ⟨m, h1, h2, h3, h4⟩
      exact hno m h1 h2 h3 h4
    case receives =>
      rw [bridgeLine_getD _ _ _ _ _ hn, if_pos (mem_bridgeMoves.mpr ⟨m, hm, hb, hc, ht⟩)]
      split
      · exact Nat.zero_le _
      · exact Nat.min_le_left ..
  case reduce =>
    refine ⟨fun n hn => ?_, by simp [reduceLine], ?_⟩
    · simp [reduceLine, List.getD_eq_getElem?_getD, List.getElem?_map, List.getElem?_eq_getElem hn]
    · simp [reduceLine, List.countP_eq_length_filter]

/-! ## Sums of codes -/

/-- One value of a sum raised by 1. -/
theorem sum_map_bump {l : List Nat} (hl : l.Nodup) {f g : Nat → Nat} {n : Nat} (hn : g n = f n + 1) (ho : ∀ m, m ≠ n → g m = f m) :
    (l.map g).sum = (l.map f).sum + if n ∈ l then 1 else 0 := by
  induction l with
  | nil => rfl
  | cons a l ih =>
    obtain ⟨ha, hl⟩ := List.nodup_cons.mp hl
    have ih := ih hl
    rw [List.map_cons, List.map_cons, List.sum_cons, List.sum_cons, ih]
    by_cases h : a = n
    · subst h
      rw [hn, if_neg ha, if_pos List.mem_cons_self]
      omega
    · rw [ho a h]
      simp only [List.mem_cons, Ne.symm h, false_or]
      omega

theorem map_getD_range (l : List Nat) : (List.range l.length).map (fun n => l.getD n 0) = l := by
  refine List.ext_getElem (by simp) fun i h1 h2 => ?_
  simp [List.getD_eq_getElem?_getD, List.getElem?_eq_getElem h2]

theorem getD_set (l : List Nat) (n v m : Nat) : (l.set n v).getD m 0 = if m = n ∧ n < l.length then v else l.getD m 0 := by
  simp only [List.getD_eq_getElem?_getD, List.getElem?_set]
  by_cases h : n = m
  · subst h
    by_cases hl : n < l.length
    · simp [hl]
    · simp [hl]
  · simp [h, Ne.symm h]

/-- The codes of the nozzles of slot `sl`, added up. -/
def slotSum (codes slotOf : List Nat) (sl : Nat) : Nat :=
  (((List.range codes.length).filter (fun n => slotOf.getD n 0 == sl)).map (fun n => codes.getD n 0)).sum

theorem slotEnergy_eq (e : Nat) (codes slotOf : List Nat) (sl : Nat) : slotEnergy e codes slotOf sl = e * slotSum codes slotOf sl := rfl

section
variable {kept : List Nat} {n j : Nat} (hn : n < kept.length) (hj : j = kept.getD n 0 + 1)
include hn hj

/-- One code raised by 1 raises the sum of the line, and of its slot alone. -/
theorem sum_set_succ : (kept.set n j).sum = kept.sum + 1 := by
  have h := sum_map_bump (l := List.range kept.length) List.nodup_range (f := fun m => kept.getD m 0) (g := fun m => (kept.set n j).getD m 0) (n := n)
    (by rw [getD_set, if_pos ⟨rfl, hn⟩, hj]) fun m hm => by rw [getD_set, if_neg fun h => hm h.1]
  have hs := map_getD_range (kept.set n j)
  rw [List.length_set] at hs
  rwa [hs, map_getD_range, if_pos (List.mem_range.mpr hn)] at h

theorem slotSum_set_succ (slotOf : List Nat) (sl : Nat) :
    slotSum (kept.set n j) slotOf sl = slotSum kept slotOf sl + if slotOf.getD n 0 = sl then 1 else 0 := by
  unfold slotSum
  rw [List.length_set, sum_map_bump (f := fun m => kept.getD m 0) (n := n) (List.nodup_range.filter _)
    (by rw [getD_set, if_pos ⟨rfl, hn⟩, hj]) fun m hm => by rw [getD_set, if_neg fun h => hm h.1]]
  simp [hn]

end

/-! ## The clipping of a line -/

/-- What the tests of a line keep: what is spent and what is left make up each budget, and no code exceeds the one asked for. -/
structure ClipInv (e capSlot capLine : Nat) (codes slotOf : List Nat) (z : ClipSt) : Prop where
  length : z.kept.length = codes.length
  line : e * z.kept.sum + z.line = capLine * 1000
  slots : ∀ sl, sl < 32 → e * slotSum z.kept slotOf sl + z.slots.getD sl 0 = capSlot * 1000
  width : z.slots.length = 32
  codes : ∀ n, z.kept.getD n 0 ≤ codes.getD n 0

section
variable {e capSlot capLine : Nat} {codes slotOf : List Nat}

theorem ClipInv.step {z : ClipSt} (h : ClipInv e capSlot capLine codes slotOf z) {j n : Nat} (hj : 1 ≤ j) (hn : n < codes.length) :
    ClipInv e capSlot capLine codes slotOf (clipStep e j codes slotOf z n) := by
  unfold clipStep
  simp only
  split
  · exact h
  · next hc =>
    obtain ⟨hcode, hkept⟩ := not_or.mp hc
    have hkept : j = z.kept.getD n 0 + 1 := by have := not_not.mp hkept; omega
    have hlen : n < z.kept.length := by rw [h.length]; exact hn
    split
    · next hroom =>
      obtain ⟨hslot, hline⟩ := hroom
      refine ⟨by simp [h.length], ?_, fun sl hsl => ?_, by simp [h.width], fun m => ?_⟩
      · simp only
        have hl := h.line
        rw [sum_set_succ hlen hkept, Nat.mul_add_one]
        omega
      · have hs := h.slots sl hsl
        simp only
        rw [slotSum_set_succ hlen hkept, getD_set, h.width]
        by_cases hq : slotOf.getD n 0 = sl
        · rw [if_pos hq, if_pos ⟨hq.symm, by omega⟩, Nat.mul_add_one]
          rw [hq] at hslot ⊢
          omega
        · rw [if_neg hq, if_neg fun h => hq h.1.symm, Nat.add_zero]
          exact hs
      · rw [getD_set]
        split
        · next hm => rw [hm.1]; omega
        · exact h.codes m
    · exact ⟨h.length, h.line, h.slots, h.width, h.codes⟩

theorem ClipInv.foldl {z : ClipSt} (h : ClipInv e capSlot capLine codes slotOf z) {j : Nat} (hj : 1 ≤ j) {l : List Nat} (hl : ∀ n ∈ l, n < codes.length) :
    ClipInv e capSlot capLine codes slotOf (l.foldl (clipStep e j codes slotOf) z) := by
  induction l generalizing z with
  | nil => exact h
  | cons n l ih => exact ih (h.step hj (hl n List.mem_cons_self)) fun m hm => hl m (List.mem_cons_of_mem _ hm)

theorem getD_replicate_zero (n m : Nat) : (List.replicate n 0).getD m 0 = 0 := by
  simp only [List.getD_eq_getElem?_getD, List.getElem?_replicate]
  split <;> rfl

/-- Before the first test nothing is spent. -/
theorem ClipInv.start (e capSlot capLine : Nat) (codes slotOf : List Nat) : ClipInv e capSlot capLine codes slotOf
    { kept := List.replicate codes.length 0, slots := List.replicate 32 (capSlot * 1000), line := capLine * 1000, refused := [], lineOut := false } where
  length := List.length_replicate
  line := by simp
  slots := fun sl hsl => by
    have hz : slotSum (List.replicate codes.length 0) slotOf sl = 0 := by
      unfold slotSum
      simp only [getD_replicate_zero]
      simp
    rw [hz, List.getD_eq_getElem?_getD, List.getElem?_replicate, if_pos hsl, Nat.mul_zero, Nat.zero_add]
    rfl
  width := List.length_replicate
  codes := fun n => by rw [getD_replicate_zero]; exact Nat.zero_le _

theorem clipLine_inv (e smax capSlot capLine y : Nat) (codes slotOf : List Nat) :
    ClipInv e capSlot capLine codes slotOf (clipLine e smax capSlot capLine y codes slotOf) := by
  unfold clipLine
  simp only
  have horder : ∀ n ∈ (List.range codes.length).map (fun i => (y * 1021 % codes.length + i) % codes.length), n < codes.length := by
    intro n hn
    obtain ⟨i, hi, rfl⟩ := List.mem_map.mp hn
    exact Nat.mod_lt _ ((Nat.zero_le i).trans_lt (List.mem_range.mp hi))
  refine List.foldlRecOn _ _ (ClipInv.start ..) fun z hz j _ => ?_
  exact hz.foldl (Nat.le_add_left 1 j) horder

end

/-- Settles O38: it holds. -/
theorem kilnBudgets : Obligations.KilnBudgets := by
  unfold Obligations.KilnBudgets
  intro e smax capSlot capLine y codes slotOf
  unfold kilnCheck
  split
  · next h =>
    simp only [Bool.and_eq_true, List.all_eq_true, List.mem_range, decide_eq_true_eq] at h
    exact ⟨h.2, h.1, rfl, fun _ => Nat.le_refl _⟩
  · have h := clipLine_inv e smax capSlot capLine y codes slotOf
    refine ⟨?_, fun sl hsl => ?_, h.length, h.codes⟩
    · have := h.line
      simp only
      omega
    · have := h.slots sl hsl
      rw [slotEnergy_eq]
      simp only
      omega

end Sys2Proof.Machine
end

section
/-! PROOF. The checks of an image. -/

namespace Sys2Proof.Machine

-- One lemma after the other: elaborated side by side, they ask for more threads than the compile may have.
set_option Elab.async false

/-! ## The first index -/

theorem firstIndex_eq_some {α : Type} {p : α → Bool} {l : List α} {i : Nat} (hi : i < l.length) (hp : p l[i] = true)
    (hl : ∀ j (hj : j < i), p (l[j]'(hj.trans hi)) = false) : firstIndex p l = some i := by
  unfold firstIndex
  refine List.find?_range_eq_some.mpr ⟨by simp [List.getElem?_eq_getElem hi, hp], List.mem_range.mpr hi, fun j hj => ?_⟩
  simp [List.getElem?_eq_getElem (hj.trans hi), hl j hj]

/-! ## Spans of payloads -/

/-- A span put among the others in the order of its start. -/
def putSpan (acc : List (Nat × Nat × Nat)) (x : Nat × Nat × Nat) : List (Nat × Nat × Nat) :=
  acc.takeWhile (fun y => decide (y.1 < x.1 ∨ (y.1 = x.1 ∧ y.2.2 < x.2.2))) ++ [x] ++
    acc.dropWhile (fun y => decide (y.1 < x.1 ∨ (y.1 = x.1 ∧ y.2.2 < x.2.2)))

theorem mem_putSpan {acc : List (Nat × Nat × Nat)} {x y : Nat × Nat × Nat} : y ∈ putSpan acc x ↔ y = x ∨ y ∈ acc := by
  have h := List.takeWhile_append_dropWhile (p := fun y : Nat × Nat × Nat => decide (y.1 < x.1 ∨ (y.1 = x.1 ∧ y.2.2 < x.2.2))) (l := acc)
  conv_rhs => rw [← h]
  simp only [putSpan, List.mem_append, List.mem_singleton]
  tauto

theorem mem_foldl_putSpan {l acc : List (Nat × Nat × Nat)} {y : Nat × Nat × Nat} : y ∈ l.foldl putSpan acc ↔ y ∈ l ∨ y ∈ acc := by
  induction l generalizing acc with
  | nil => simp
  | cons x l ih =>
    rw [List.foldl_cons, ih, mem_putSpan, List.mem_cons]
    tauto

/-- Ordering the spans loses none. -/
theorem mem_bySpan {l : List (Nat × Nat × Nat)} {y : Nat × Nat × Nat} : y ∈ bySpan l ↔ y ∈ l := by
  have h : y ∈ bySpan l ↔ y ∈ l ∨ y ∈ [] := mem_foldl_putSpan
  simpa using h

/-- Two spans that do not overlap. -/
def Apart (x y : Nat × Nat × Nat) : Prop := x.2.1 ≤ y.1 ∨ y.2.1 ≤ x.1

/-- Where nothing is breached each span starts behind the position reached, and behind those before it. -/
theorem spanBreaches_apart {b : List Byte} {stop : Nat} {l : List (Nat × Nat × Nat)} {pos : Nat} (h : spanBreaches b stop l pos = []) :
    (∀ x ∈ l, pos ≤ x.1) ∧ l.Pairwise Apart := by
  induction l generalizing pos with
  | nil => exact ⟨fun _ hx => absurd hx List.not_mem_nil, List.Pairwise.nil⟩
  | cons x l ih =>
    unfold spanBreaches at h
    obtain ⟨hx, hl⟩ := List.append_eq_nil_iff.mp h
    obtain ⟨hpos, hpair⟩ := ih hl
    have hx : pos ≤ x.1 := by
      by_contra hc
      rw [if_pos (Nat.lt_of_not_le hc)] at hx
      exact List.cons_ne_nil _ _ hx
    refine ⟨fun y hy => ?_, List.pairwise_cons.mpr ⟨fun y hy => ?_, hpair⟩⟩
    · obtain rfl | hy := List.mem_cons.mp hy
      · exact hx
      · exact (Nat.le_max_left ..).trans (hpos y hy)
    · exact .inl ((Nat.le_max_right ..).trans (hpos y hy))

/-- The spans of the payloads of an image. -/
def spansOf (b : List Byte) : List (Nat × Nat × Nat) :=
  (List.range (directory b).length).map (fun i =>
    (entOffset ((directory b).getD i []), entOffset ((directory b).getD i []) + entLength ((directory b).getD i []), i))

theorem length_directory (b : List Byte) : (directory b).length = sectCount b := by simp [directory]

theorem directory_getD (b : List Byte) {i : Nat} (h : i < sectCount b) : (directory b).getD i [] = dirEntry b i := by
  simp [directory, List.getD_eq_getElem?_getD, h]

theorem mem_spansOf {b : List Byte} {i : Nat} (h : i < sectCount b) :
    (entOffset (dirEntry b i), entOffset (dirEntry b i) + entLength (dirEntry b i), i) ∈ spansOf b :=
  List.mem_map.mpr ⟨i, List.mem_range.mpr (by rwa [length_directory]), by rw [directory_getD b h]⟩

/-- Check 5 passes images whose spans breach nothing. -/
theorem spanBreaches_of_check5 {b : List Byte} (h : check5 b = none) : spanBreaches b (sigOffset b) (bySpan (spansOf b)) (dirEnd b) = [] := by
  unfold check5 at h
  simp only at h
  split at h
  · exact absurd h (Option.some_ne_none _)
  · rw [Option.map_eq_none_iff, List.min?_eq_none_iff] at h
    exact (List.append_eq_nil_iff.mp h).2

/-- Settles O31: it holds. -/
theorem imageZeroSizes : Obligations.ImageZeroSizes := by
  unfold Obligations.ImageZeroSizes
  refine ⟨fun b h => if_pos h, fun b i hi h0 hl => ?lowest, fun b i j h hij hj => ?apart⟩
  case lowest =>
    have hf : firstIndex (fun e => entLength e == 0) (directory b) = some i :=
      firstIndex_eq_some (by rwa [length_directory]) (by simp [directory, h0]) fun j hj => by simp [directory, hl j hj]
    unfold check5
    simp only [hf]
  case apart =>
    have hp := (spanBreaches_apart (spanBreaches_of_check5 h)).2
    have hs : Std.Symm Apart := ⟨fun x y hxy => hxy.symm⟩
    refine hp.forall (mem_bySpan.mpr (mem_spansOf (hij.trans hj))) (mem_bySpan.mpr (mem_spansOf hj)) fun he => ?_
    have : i = j := congrArg (fun x => x.2.2) he
    omega

end Sys2Proof.Machine
end

section
/-! PROOF. Samples and directions of an encoder. -/

namespace Sys2Proof.Machine

-- One lemma after the other: elaborated side by side, they ask for more threads than the compile may have.
set_option Elab.async false

/-! ## Samples of an encoder -/

/-- The amplitude of a sample shown. -/
def State.ampNoted (s : State) (x m : Nat) : State :=
  (s.set .ENC_AMP_NOW m 0 x).set .ENC_AMP_MIN (min m (s.get .ENC_AMP_MIN 0 x)) 0 x

/-- The phase change since the last sample. -/
def Scale.change (e : Scale) (ph : Nat) : Int := if e.seen then phaseStep e.phase ph else 0

/-- An encoder after a sample of amplitude `m` and phase `ph`. -/
def State.sampled (s : State) (x m ph : Nat) : Scale :=
  let e := s.scale x
  let d := e.change ph
  let out := decide (m < s.encf x 4 2 ∨ s.encf x 6 2 < m)
  { e with
    seen := true, phase := ph, bad := if out then e.bad + 1 else 0
    good := if out || decide (d < -1024 ∨ 1024 < d) then 0 else e.good + 1
    fault := if e.fault ≠ 0 ∨ e.faulted then e.fault else s.faultOf x m (if out then e.bad + 1 else 0) d }

/-- The rates shown after a move: the speed, and the slip of the first encoder. -/
def State.ratesShown (s : State) (x : Nat) (v : Int) : State :=
  let s := if x = 0 ∧ s.is .FIRE_STATUS_RUNNING then s else s.seti .ENC_SPEED_RATE v 0 x
  if x = 0 then s.showSlip else s

/-- The positions of an encoder after a move. -/
def State.pastOf (s : State) (x : Nat) (e : Scale) (d : Int) : List Int := ((s.encPos x + d) :: e.past).take 2501

/-- An encoder `e` moved by `d`. -/
def State.movedScale (s : State) (x : Nat) (e : Scale) (d : Int) : Scale :=
  { e with
    past := s.pastOf x e d
    far := if bit (s.get .ENC_STATUS_DIR) x then max e.far (s.encPos x + d) else min e.far (s.encPos x + d) }

/-- The move shown. -/
def State.moved (s : State) (x : Nat) (e : Scale) (d : Int) : State :=
  ((s.setScale x (s.movedScale x e d)).seti .ENC_POS_COUNTS (s.encPos x + d) 0 x).ratesShown x
    ((s.encPos x + d - (s.pastOf x e d).getLastD (s.encPos x + d)) * 10000)

section
variable {s : State} {x sin cos m ph : Nat} (hu : s.encUsed x = true) (hm : m = amplitude (s.corrected x sin cos).1 (s.corrected x sin cos).2)
  (hp : ph = phaseOf (s.corrected x sin cos).1 (s.corrected x sin cos).2)
include hu hm hp

theorem exec_encoderSample : exec (.encoderSample x sin cos) s = .next (
    if (s.ampNoted x m).encValid x && (s.sampled x m ph).fault == 0 then (s.ampNoted x m).moved x (s.sampled x m ph) ((s.scale x).change ph)
    else (s.ampNoted x m).setScale x (s.sampled x m ph)) := by
  subst hm hp
  exact (exec_when (i := .encoderSample x sin cos) rfl hu).trans rfl

end

theorem amplitude_lt (p c : Int) : amplitude p c < 2 ^ 14 := by
  unfold amplitude
  omega

theorem State.ampNoted_touches (s : State) (x m : Nat) : Touches [.ENC_AMP_NOW, .ENC_AMP_MIN] s (s.ampNoted x m) :=
  ((Touches.refl _ s).set (by decide) _ _ _).set (by decide) _ _ _

/-- The fields that a sample of encoder `x` may change. -/
def sampleFlds (x : Nat) (f : Fld) (i k : Nat) : Prop :=
  (f = .ENC_AMP_NOW ∨ f = .ENC_AMP_MIN ∨ f = .ENC_POS_COUNTS ∨ f = .ENC_SPEED_RATE ∨ (f = .ENC_SLIP_COUNTS ∧ x = 0)) ∧ i = 0 ∧
    (k = x ∨ f = .ENC_SLIP_COUNTS)

theorem State.ampNoted_only (s : State) (x m : Nat) : OnlyRegs s (s.ampNoted x m) (sampleFlds x) :=
  ((OnlyRegs.refl s _).set (by simp [sampleFlds]) _).set (by simp [sampleFlds]) _

theorem State.get_setScale (s : State) (x : Nat) (e : Scale) (f : Fld) (i k : Nat) : (s.setScale x e).get f i k = s.get f i k := rfl

theorem State.ratesShown_only (s : State) (x : Nat) (v : Int) : OnlyRegs s (s.ratesShown x v)
    (fun f i k => (f = .ENC_SPEED_RATE ∨ (f = .ENC_SLIP_COUNTS ∧ x = 0)) ∧ i = 0 ∧ (k = x ∨ f = .ENC_SLIP_COUNTS)) := by
  have hspeed : OnlyRegs s (if x = 0 ∧ s.is .FIRE_STATUS_RUNNING then s else s.seti .ENC_SPEED_RATE v 0 x)
      (fun f i k => (f = .ENC_SPEED_RATE ∨ (f = .ENC_SLIP_COUNTS ∧ x = 0)) ∧ i = 0 ∧ (k = x ∨ f = .ENC_SLIP_COUNTS)) := by
    split
    · exact OnlyRegs.refl s _
    · exact (OnlyRegs.refl s _).set ⟨.inl rfl, rfl, .inl rfl⟩ _
  unfold State.ratesShown
  simp only
  split
  · next hx => exact hspeed.set ⟨.inr ⟨rfl, hx⟩, rfl, .inr rfl⟩ _
  · exact hspeed

/-- The state after a sample. -/
def State.afterSample (s : State) (x m ph : Nat) : State :=
  if (s.ampNoted x m).encValid x && (s.sampled x m ph).fault == 0 then (s.ampNoted x m).moved x (s.sampled x m ph) ((s.scale x).change ph)
  else (s.ampNoted x m).setScale x (s.sampled x m ph)

theorem State.scale_setScale (s : State) (x y : Nat) (e : Scale) : (s.setScale x e).scale y = if y = x then e else s.scale y := look_store ..

theorem OnlyRegs.scale {s t : State} {p : Fld → Nat → Nat → Prop} (h : OnlyRegs s t p) (x : Nat) : t.scale x = s.scale x := by
  unfold State.scale
  rw [h.1]

/-- The scale of an encoder written, then register fields. -/
theorem OnlyRegs.after_setScale {s t : State} {p : Fld → Nat → Nat → Prop} {x : Nat} {e : Scale} (h : OnlyRegs (s.setScale x e) t p) :
    t.scale x = e ∧ (∀ y, y ≠ x → t.scale y = s.scale y) ∧ OnlyRegs { s with scales := t.scales } t p := by
  refine ⟨(h.scale x).trans ((State.scale_setScale ..).trans (if_pos rfl)), fun y hy => (h.scale y).trans ((State.scale_setScale ..).trans (if_neg hy)), ?_, h.2⟩
  have ht : t.scales = (s.setScale x e).scales := by rw [h.1]
  rw [ht]
  exact h.1

theorem OnlyRegs.setScale {s t : State} {p : Fld → Nat → Nat → Prop} (h : OnlyRegs s t p) (x : Nat) (e : Scale) :
    OnlyRegs (s.setScale x e) (t.setScale x e) p := by
  refine ⟨?_, h.2⟩
  have hs : t.scales = s.scales := by rw [h.1]
  rw [h.1]
  rfl

theorem State.moved_only (s : State) (x : Nat) (e : Scale) (d : Int) : OnlyRegs (s.setScale x (s.movedScale x e d)) (s.moved x e d) (sampleFlds x) := by
  refine OnlyRegs.trans ?_ ((State.ratesShown_only _ x _).mono fun f i k h => ?_)
  · exact (OnlyRegs.refl _ _).set ⟨.inr (.inr (.inl rfl)), rfl, .inl rfl⟩ _
  · exact ⟨.inr (.inr (.inr h.1)), h.2⟩

/-- A sample changes the scale of its encoder, the amplitude, the position and the rates. -/
theorem State.afterSample_only (s : State) (x m ph : Nat) : ∃ e, e.phase = ph ∧ OnlyRegs (s.setScale x e) (s.afterSample x m ph) (sampleFlds x) := by
  unfold State.afterSample
  split
  · exact ⟨_, rfl, ((s.ampNoted_only x m).setScale x _).trans (State.moved_only ..)⟩
  · exact ⟨_, rfl, (s.ampNoted_only x m).setScale x _⟩

theorem State.encPos_ampNoted (s : State) (x m : Nat) : (s.ampNoted x m).encPos x = s.encPos x := by
  unfold State.encPos State.geti
  rw [s.ampNoted_touches x m _ _ _ (by decide)]

theorem State.encValid_ampNoted (s : State) (x m : Nat) : (s.ampNoted x m).encValid x = s.encValid x := by
  unfold State.encValid
  rw [s.ampNoted_touches x m _ _ _ (by decide)]

theorem State.get_afterSample_amp (s : State) (x m ph : Nat) {f : Fld} (hf : f = .ENC_AMP_NOW ∨ f = .ENC_AMP_MIN) :
    (s.afterSample x m ph).get f 0 x = (s.ampNoted x m).get f 0 x := by
  unfold State.afterSample
  split
  · unfold State.moved
    rw [(State.ratesShown_only _ x _).get_eq (by rcases hf with rfl | rfl <;> simp), State.seti, State.get_set_fld _ (by rcases hf with rfl | rfl <;> decide)]
    rfl
  · rfl

/-- A sample moves a valid encoder without a fault. -/
theorem State.pos_afterSample_valid {s : State} {x m ph : Nat} (hv : s.encValid x = true) (hf : (s.sampled x m ph).fault = 0) :
    (s.afterSample x m ph).get .ENC_POS_COUNTS 0 x = ofSigned Fld.ENC_POS_COUNTS.desc.width (s.encPos x + (s.scale x).change ph) := by
  unfold State.afterSample
  rw [State.encValid_ampNoted, if_pos (by simp [hv, hf]), State.moved, (State.ratesShown_only _ x _).get_eq (by simp), State.get_seti_same,
    State.encPos_ampNoted]

/-- It does not move another. -/
theorem State.afterSample_still {s : State} {x m ph : Nat} (h : s.encValid x = false ∨ (s.sampled x m ph).fault ≠ 0) :
    s.afterSample x m ph = (s.ampNoted x m).setScale x (s.sampled x m ph) := by
  unfold State.afterSample
  rw [State.encValid_ampNoted, if_neg]
  rcases h with h | h <;> simp [h]

/-! ## A change of direction -/

/-- The new direction of an encoder and its event. -/
def State.turnNoted (s : State) (x : Nat) : State :=
  ((s.putB .ENC_STATUS_DIR x (!bit (s.get .ENC_STATUS_DIR) x)).setScale x { s.scale x with far := s.encPos x }).putB .ENC_EVENT_DIR_CHG x true

/-- What a change of direction tells. -/
def State.turnTold (s : State) (x : Nat) : State :=
  if bit ((s.turnNoted x).get .ENC_IRQ_DIR_EN) x then (s.turnNoted x).msix ((s.turnNoted x).get .ENC_IRQ_VECTOR) else s.turnNoted x

/-- A turn that no motion of the axis explains is counted. -/
def State.turned (s : State) (x : Nat) : State :=
  if x = 0 ∧ bit (s.get .ENC_STATUS_DIR) x ∧ bit ((s.turnTold x).get .MOT_STATUS_MOVING) 0 ∧ bit ((s.turnTold x).get .MOT_STATUS_DIR) 0
  then (s.turnTold x).bump .ENC_UNCMD_COUNT else s.turnTold x

theorem exec_encDirChange {s : State} {x : Nat} (hu : s.encUsed x = true) (hv : s.encValid x = true)
    (hb : (s.encf x 0x1E 2 : Int) ≤ (if bit (s.get .ENC_STATUS_DIR) x then (s.scale x).far - s.encPos x else s.encPos x - (s.scale x).far)) :
    exec (.encDirChange x) s = .next (s.turned x) := by
  refine (exec_when (i := .encDirChange x) rfl ?_).trans rfl
  rw [hu, hv, decide_eq_true hb]
  rfl

theorem State.get_turnTold (s : State) (x : Nat) (f : Fld) (i k : Nat) : (s.turnTold x).get f i k = (s.turnNoted x).get f i k := by
  unfold State.turnTold
  split
  · exact State.get_msix ..
  · rfl

theorem State.get_turned (s : State) (x : Nat) {f : Fld} (hf : f ≠ .ENC_UNCMD_COUNT) (i k : Nat) :
    (s.turned x).get f i k = (s.turnNoted x).get f i k := by
  rw [← State.get_turnTold]
  unfold State.turned
  split
  · exact State.get_set_fld _ hf ..
  · rfl

theorem State.turnTold_frame (s : State) (x : Nat) : s.turnTold x =
    { s with regs := (s.turnTold x).regs, scales := (s.turnTold x).scales, outbox := (s.turnTold x).outbox, msixPend := (s.turnTold x).msixPend } := by
  unfold State.turnTold State.msix
  split
  · split <;> rfl
  · rfl

theorem State.turned_frame (s : State) (x : Nat) : s.turned x =
    { s with regs := (s.turned x).regs, scales := (s.turned x).scales, outbox := (s.turned x).outbox, msixPend := (s.turned x).msixPend } := by
  have hf := s.turnTold_frame x
  unfold State.turned
  generalize s.turnTold x = u at hf
  rw [hf]
  split <;> rfl

/-- Settles O40: it holds. -/
theorem encoderSamples : Obligations.EncoderSamples := by
  unfold Obligations.EncoderSamples
  refine ⟨fun s x sin cos m hu hm => ⟨_, exec_encoderSample hu hm rfl, ?shown⟩,
    fun s x sin cos m d hu hv hseen hf hlim hm hlo hhi hd h1 h2 => ⟨_, exec_encoderSample hu hm rfl, ?moves⟩,
    fun s x sin cos hu hv => ⟨_, exec_encoderSample hu rfl rfl, ?invalid⟩,
    fun s x sin cos m hu hseen hf hff hm hlo hbad h1 h2 => ⟨_, exec_encoderSample hu hm rfl, ?fault⟩,
    fun s x hu hv hback => ?turn⟩
  case shown =>
    obtain ⟨e, he, ho⟩ := s.afterSample_only x m (phaseOf (s.corrected x sin cos).1 (s.corrected x sin cos).2)
    obtain ⟨hx, hy, honly⟩ := ho.after_setScale
    have hlt : m < 2 ^ 14 := hm ▸ amplitude_lt ..
    refine ⟨(State.get_afterSample_amp s x m _ (.inl rfl)).trans ?_, (State.get_afterSample_amp s x m _ (.inr rfl)).trans ?_,
      (congrArg Scale.phase hx).trans he, hy, honly⟩
    · exact (State.get_set_fld _ (by decide) ..).trans ((State.get_set_same ..).trans (Nat.mod_eq_of_lt hlt))
    · exact (State.get_set_same ..).trans (Nat.mod_eq_of_lt ((Nat.min_le_left ..).trans_lt hlt))
  case moves =>
    have hc : (s.scale x).change (phaseOf (s.corrected x sin cos).1 (s.corrected x sin cos).2) = d := by rw [Scale.change, if_pos hseen, hd]
    have hfault : (s.sampled x m (phaseOf (s.corrected x sin cos).1 (s.corrected x sin cos).2)).fault = 0 := by
      have hout : ¬ (m < s.encf x 4 2 ∨ s.encf x 6 2 < m) := by omega
      have hno : ¬ (d < -1024 ∨ 1024 < d) := by omega
      simp only [State.sampled, hc, hf, State.faultOf, if_neg hno, decide_eq_false hout, Bool.false_eq_true, if_false, if_pos hlim, ite_self]
    exact (State.pos_afterSample_valid hv hfault).trans (by rw [hc])
  case invalid =>
    have hs := State.afterSample_still (m := amplitude (s.corrected x sin cos).1 (s.corrected x sin cos).2)
      (ph := phaseOf (s.corrected x sin cos).1 (s.corrected x sin cos).2) (.inl hv)
    exact (congrArg (State.encPos · x) hs).trans (State.encPos_ampNoted ..)
  case fault =>
    have hout : m < s.encf x 4 2 ∨ s.encf x 6 2 < m := .inl hlo
    have hc : (s.scale x).change (phaseOf (s.corrected x sin cos).1 (s.corrected x sin cos).2) =
        phaseStep (s.scale x).phase (phaseOf (s.corrected x sin cos).1 (s.corrected x sin cos).2) := by rw [Scale.change, if_pos hseen]
    have hno : ¬ (phaseStep (s.scale x).phase (phaseOf (s.corrected x sin cos).1 (s.corrected x sin cos).2) < -1024 ∨
        1024 < phaseStep (s.scale x).phase (phaseOf (s.corrected x sin cos).1 (s.corrected x sin cos).2)) := by omega
    have hfault : (s.sampled x m (phaseOf (s.corrected x sin cos).1 (s.corrected x sin cos).2)).fault = 1 := by
      simp only [State.sampled, hc, hf, hff, State.faultOf, if_neg hno, decide_eq_true hout, if_true, if_neg (Nat.not_lt.mpr hbad), if_pos hlo]
      rfl
    have hs := State.afterSample_still (m := m) (ph := phaseOf (s.corrected x sin cos).1 (s.corrected x sin cos).2) (.inr (by rw [hfault]; decide))
    have hscale : (s.afterSample x m (phaseOf (s.corrected x sin cos).1 (s.corrected x sin cos).2)).scale x = _ :=
      (congrArg (State.scale · x) hs).trans ((State.scale_setScale ..).trans (if_pos rfl))
    refine ⟨(congrArg Scale.fault hscale).trans hfault, (congrArg Scale.bad hscale).trans ?_,
      (congrArg (State.encPos · x) hs).trans (State.encPos_ampNoted ..)⟩
    simp only [State.sampled, decide_eq_true hout, if_true]
  case turn =>
    have h4 : x < 4 := by unfold State.encUsed at hu; simp only [Bool.and_eq_true, decide_eq_true_eq] at hu; exact hu.1
    refine ⟨_, exec_encDirChange hu hv hback, ?_⟩
    refine ⟨?_, ?_, ?_, ?_⟩
    · rw [State.get_turned s x (by decide)]
      unfold State.turnNoted
      rw [State.putB, State.get_set_fld _ (by decide), State.get_setScale]
      exact State.bit_putB s .ENC_STATUS_DIR _ 0 0 h4
    · rw [State.get_turned s x (by decide)]
      exact State.bit_putB _ .ENC_EVENT_DIR_CHG true 0 0 h4
    · unfold State.encPos State.geti
      rw [State.get_turned s x (by decide)]
      unfold State.turnNoted
      rw [State.putB, State.get_set_fld _ (by decide), State.get_setScale, State.putB, State.get_set_fld _ (by decide)]
    · exact s.turned_frame x

end Sys2Proof.Machine
end

section
/-! PROOF. Fences: what sets one, what lifts one, and that what follows a fence lifts none. -/

namespace Sys2Proof.Machine

-- One lemma after the other: elaborated side by side, they ask for more threads than the compile may have.
set_option Elab.async false

/-! ## A fence stays

What a fence brings with it may fence more units, but lifts no fence: each lemma follows the definition it is about. -/

/-- Unit `un` of class `cl` is fenced. -/
def State.HasFence (s : State) (cl un : Nat) : Prop := un < 64 ∧ s.fenced cl un = true

section
variable {s t : State} {cl un : Nat}

theorem State.HasFence.upd (h : s.HasFence cl un) (hr : t.regs = s.regs := by rfl) : t.HasFence cl un := by
  unfold State.HasFence State.fenced State.get
  rw [hr]
  exact h

theorem State.HasFence.hostWrs (h : s.HasFence cl un) (hr : t.regs = s.regs := by rfl) : t.HasFence cl un := h.upd hr

theorem State.HasFence.ite {c : Prop} [Decidable c] (hs : s.HasFence cl un) (ht : t.HasFence cl un) : (if c then s else t).HasFence cl un := by
  split
  · exact hs
  · exact ht

theorem State.HasFence.onlyIf {c : Prop} [Decidable c] (h : s.HasFence cl un) (ht : s.HasFence cl un → t.HasFence cl un) : (if c then t else s).HasFence cl un := .ite (ht h) h

theorem State.HasFence.andThen (h : s.HasFence cl un) (ht : s.HasFence cl un → t.HasFence cl un) : t.HasFence cl un := ht h

theorem State.HasFence.foldl (h : s.HasFence cl un) {α : Type} {f : State → α → State} {l : List α} (hf : ∀ (u : State), u.HasFence cl un → ∀ a, (f u a).HasFence cl un) :
    (l.foldl f s).HasFence cl un :=
  List.foldlRecOn l f h fun u hu a _ => hf u hu a

theorem State.HasFence.set (h : s.HasFence cl un) {f : Fld} {v i k : Nat} (hf : .FENCE_MAP_UNITS ≠ f := by decide) :
    (s.set f v i k).HasFence cl un := by
  unfold State.HasFence State.fenced
  rw [State.get_set_fld _ hf]
  exact h

theorem State.HasFence.out (h : s.HasFence cl un) {o : Out} : (s.out o).HasFence cl un := h.upd

theorem State.HasFence.msix (h : s.HasFence cl un) {v : Nat} : (s.msix v).HasFence cl un := .ite h.out h.upd

theorem State.HasFence.vector (h : s.HasFence cl un) {vec en : Fld} : (s.vector vec en).HasFence cl un := .ite h.msix h

theorem State.HasFence.bump (h : s.HasFence cl un) {f : Fld} {n i k : Nat} (hf : .FENCE_MAP_UNITS ≠ f := by decide) :
    (s.bump f n i k).HasFence cl un := h.set hf

theorem State.HasFence.recordCoverage (h : s.HasFence cl un) {i mask cause : Nat} : (s.recordCoverage i mask cause).HasFence cl un :=
  .ite h.set.set.set.set.bump.vector.out h.set.set.set.set.bump.vector

theorem State.HasFence.noteCoverage (h : s.HasFence cl un) : s.noteCoverage.HasFence cl un := .ite h (.ite h.upd.set.recordCoverage h.upd.out)

theorem State.HasFence.each (h : s.HasFence cl un) {n : Nat} {f : State → Nat → State} (hf : ∀ (u : State), u.HasFence cl un → ∀ i, (f u i).HasFence cl un) : (s.each n f).HasFence cl un :=
  h.foldl hf

theorem State.HasFence.setChan (h : s.HasFence cl un) {c : Nat} {x : Chan} : (s.setChan c x).HasFence cl un := h.upd

theorem State.HasFence.cutHeads (h : s.HasFence cl un) : s.cutHeads.HasFence cl un := h.each (fun _ h _ => .ite h.setChan h)

theorem State.HasFence.putB (h : s.HasFence cl un) {f : Fld} {b : Nat} {v : Bool} {i k : Nat} (hf : .FENCE_MAP_UNITS ≠ f := by decide) :
    (s.putB f b v i k).HasFence cl un := h.set hf

theorem State.HasFence.dropCalib (h : s.HasFence cl un) {k : Nat} : (s.dropCalib k).HasFence cl un := h.upd

theorem State.HasFence.telEvent (h : s.HasFence cl un) {code unit : Nat} : (s.telEvent code unit).HasFence cl un :=
  .andThen (.ite h.upd h.upd.bump) fun h1 => (h1.onlyIf fun h => .ite h.upd h.upd.bump).vector

/-- The record of a fence lifts none. -/
theorem State.HasFence.recordFence (h : s.HasFence cl un) {k i cause : Nat} : (s.recordFence k i cause).HasFence cl un := by
  refine ⟨h.1, ?_⟩
  rw [State.fenced_recordFence s cause h.1]
  split
  · rfl
  · exact h.2

theorem State.hasFence_recordFence (s : State) (k : Nat) {i : Nat} (hi : i < 64) (cause : Nat) : (s.recordFence k i cause).HasFence k i :=
  ⟨hi, (State.fenced_recordFence s cause hi).trans (if_pos ⟨rfl, rfl⟩)⟩

theorem State.HasFence.fenceHead (h : s.HasFence cl un) {c cause : Nat} : (s.fenceHead c cause).HasFence cl un := h.recordFence.cutHeads.noteCoverage

theorem State.HasFence.off (h : s.HasFence cl un) {f : Fld} {i k : Nat} (hf : .FENCE_MAP_UNITS ≠ f := by decide) :
    (s.off f i k).HasFence cl un := h.set hf

theorem State.HasFence.setEng (h : s.HasFence cl un) {t m : Nat} {e : Eng} : (s.setEng t m e).HasFence cl un := h.upd

theorem State.HasFence.fenceTun (h : s.HasFence cl un) {t cause : Nat} : (s.fenceTun t cause).HasFence cl un :=
  ((h.recordFence.setChan.each (fun _ h _ => h.setEng)).off).noteCoverage

theorem State.HasFence.fenceCodec (h : s.HasFence cl un) {i cause : Nat} : (s.fenceCodec i cause).HasFence cl un :=
  h.recordFence.noteCoverage.each (fun _ h _ => .ite h.setChan h)

theorem State.HasFence.setWport (h : s.HasFence cl un) {p : Nat} {w : WortPort} : (s.setWport p w).HasFence cl un := h.upd

theorem State.HasFence.dealBlock (h : s.HasFence cl un) {p block : Nat} : (s.dealBlock p block).HasFence cl un := by
  unfold State.dealBlock
  dsimp only
  split
  · exact h
  · exact h.setWport.foldl (fun _ h _ => h.out)

theorem State.HasFence.sendControl (h : s.HasFence cl un) {p : Nat} {name : String} {args : List Nat} {type fields : Nat} :
    (s.sendControl p name args type fields).HasFence cl un := h.out.dealBlock

theorem State.HasFence.sendDown (h : s.HasFence cl un) {p cause : Nat} : (s.sendDown p cause).HasFence cl un := .ite (h.each (fun _ h _ => h.sendControl)) h

theorem State.HasFence.setPair (h : s.HasFence cl un) {n : Nat} {p : QPair} : (s.setPair n p).HasFence cl un := h.upd

theorem State.HasFence.setSlot (h : s.HasFence cl un) {i : Nat} {x : Slot} : (s.setSlot i x).HasFence cl un := h.upd

theorem State.HasFence.noteStatus (h : s.HasFence cl un) {n hd st : Nat} {fin : Bool} : (s.noteStatus n hd st fin).HasFence cl un := .ite h.setPair.setSlot h.setPair

theorem State.HasFence.holdEntry (h : s.HasFence cl un) {n : Nat} {e : CqEntry} : (s.holdEntry n e).HasFence cl un := .ite h.setPair.setSlot h.setPair

theorem State.HasFence.signal (h : s.HasFence cl un) {n : Nat} : (s.signal n).HasFence cl un := h.setPair.msix

theorem State.HasFence.freeSlot (h : s.HasFence cl un) {i : Nat} : (s.freeSlot i).HasFence cl un := h.setSlot

theorem State.HasFence.writeCq (h : s.HasFence cl un) {n : Nat} {e : CqEntry} : (s.writeCq n e).HasFence cl un :=
  .andThen (.onlyIf h.hostWrs.setPair fun h => h.signal) fun h1 => .ite h1.freeSlot h1

theorem State.HasFence.deliver (h : s.HasFence cl un) {n : Nat} {e : CqEntry} : (s.deliver n e).HasFence cl un :=
  .ite h.holdEntry (.ite h.writeCq (.ite h.setPair h.setPair.set.bump.holdEntry))

theorem State.HasFence.report (h : s.HasFence cl un) {hd st : Nat} {fin : Bool} {result detail : Nat} : (s.report hd st fin result detail).HasFence cl un :=
  .ite h (by
    dsimp only
    split
    · exact h.noteStatus.deliver
    · exact .ite h.noteStatus.setSlot h.noteStatus
    · exact .ite h.noteStatus.out.freeSlot h.noteStatus.out
    · exact .ite (.bump (.ite h.noteStatus h.noteStatus.freeSlot)) h.noteStatus)

theorem State.HasFence.finish (h : s.HasFence cl un) {hd st result detail : Nat} : (s.finish hd st result detail).HasFence cl un := h.report

theorem State.HasFence.failRemote (h : s.HasFence cl un) {l : List Nat} : (s.failRemote l).HasFence cl un := h.foldl (fun _ h _ => h.finish)

theorem State.HasFence.lostPeer (h : s.HasFence cl un) {id p : Nat} : (s.lostPeer id p).HasFence cl un :=
  (h.onlyIf fun h => h.upd).andThen fun h1 => .ite h1 (by split; exacts [h1, (h1.foldl (fun _ h _ => h.recordCoverage)).failRemote])

theorem State.HasFence.setActive (h : s.HasFence cl un) {p m : Nat} : (s.setActive p m).HasFence cl un := (h.set.each (fun _ h _ => h.set)).andThen fun h1 => .ite h1.set h1

theorem State.HasFence.wortQuiet (h : s.HasFence cl un) {p state : Nat} : (s.wortQuiet p state).HasFence cl un := h.setActive.set.set.each (fun _ h _ => h.set)

theorem State.HasFence.wortDrop (h : s.HasFence cl un) {p : Nat} : (s.wortDrop p).HasFence cl un := h.setWport

theorem State.HasFence.fencePort (h : s.HasFence cl un) {p cause : Nat} : (s.fencePort p cause).HasFence cl un :=
  .andThen (.ite h.sendDown h.sendDown.lostPeer) fun h1 => (h1.recordFence.wortQuiet.each (fun _ h _ => h.off)).andThen fun h2 => h2.wortDrop

theorem State.HasFence.nextLane (h : s.HasFence cl un) {p : Nat} : (s.nextLane p).HasFence cl un := .ite h (by split; exacts [h, h.off.set])

theorem State.HasFence.sendWidth (h : s.HasFence cl un) {p m : Nat} : (s.sendWidth p m).HasFence cl un := h.setWport.sendControl

theorem State.HasFence.fenceLane (h : s.HasFence cl un) {i cause : Nat} : (s.fenceLane i cause).HasFence cl un :=
  .ite h (.ite ((h.recordFence.off.off.set.each (fun _ h _ => h.recordFence.set)).fencePort) (.ite h.recordFence.off.off.set.fencePort (.ite
    h.recordFence.off.off.set (.ite h.recordFence.off.off.set.fencePort h.recordFence.off.off.set.sendWidth.nextLane))))

theorem State.HasFence.setCam (h : s.HasFence cl un) {x : Nat} {m : Cam} : (s.setCam x m).HasFence cl un := h.upd

theorem State.HasFence.toRanges (h : s.HasFence cl un) {x : Nat} {f : Nat → Nat × Nat × Nat × Nat → Out} : (s.toRanges x f).HasFence cl un :=
  h.each (fun _ h _ => .ite h h.out)

theorem State.HasFence.setEnc (h : s.HasFence cl un) {i : Nat} {e : EncLane} : (s.setEnc i e).HasFence cl un := h.upd

theorem State.HasFence.encDrop (h : s.HasFence cl un) {x frame : Nat} : (s.encDrop x frame).HasFence cl un := h.setEnc

theorem State.HasFence.loseOne (h : s.HasFence cl un) {x f cause : Nat} : (s.loseOne x f cause).HasFence cl un := .ite h h.setCam.bump.set.encDrop.toRanges

theorem State.HasFence.loseAll (h : s.HasFence cl un) {x cause : Nat} : (s.loseAll x cause).HasFence cl un := h.foldl (fun _ h _ => h.loseOne)

theorem State.HasFence.stopCam (h : s.HasFence cl un) {x : Nat} : (s.stopCam x).HasFence cl un := h.loseAll.setCam.off

theorem State.HasFence.fenceCam (h : s.HasFence cl un) {x cause : Nat} : (s.fenceCam x cause).HasFence cl un := h.recordFence.stopCam

theorem State.HasFence.setAxis (h : s.HasFence cl un) {a : Nat} {x : Axis} : (s.setAxis a x).HasFence cl un := h.upd

theorem State.HasFence.seti (h : s.HasFence cl un) {f : Fld} {v : Int} {i k : Nat} (hf : .FENCE_MAP_UNITS ≠ f := by decide) :
    (s.seti f v i k).HasFence cl un := h.set hf

theorem State.HasFence.setSat (h : s.HasFence cl un) {f : Fld} {v : Int} {i k : Nat} (hf : .FENCE_MAP_UNITS ≠ f := by decide) :
    (s.setSat f v i k).HasFence cl un := h.seti hf

theorem State.HasFence.showSlip (h : s.HasFence cl un) : s.showSlip.HasFence cl un := h.setSat

theorem State.HasFence.drShow (h : s.HasFence cl un) : s.drShow.HasFence cl un := (h.onlyIf fun h => h.seti.seti).showSlip

theorem State.HasFence.restAxis (h : s.HasFence cl un) {a : Nat} : (s.restAxis a).HasFence cl un := by
  unfold State.restAxis
  extract_lets x s1
  have h1 : s1.HasFence cl un := State.HasFence.setAxis (State.HasFence.set (State.HasFence.putB h))
  exact .ite h1.drShow.upd h1

theorem State.HasFence.endJob (h : s.HasFence cl un) : s.endJob.HasFence cl un := by
  unfold State.endJob
  exact State.HasFence.set h.upd

theorem State.HasFence.closeJob (h : s.HasFence cl un) : s.closeJob.HasFence cl un := .ite h.endJob h

theorem State.HasFence.restOps (h : s.HasFence cl un) {a : Nat} {short : Bool} {st : Nat} : (s.restOps a short st).HasFence cl un := by
  unfold State.restOps
  extract_lets x s1 dist s2 s3
  have h2 : s2.HasFence cl un := by
    unfold s2
    split
    · exact h.setAxis.finish
    · exact h.setAxis
  have h3 : s3.HasFence cl un := by
    unfold s3
    split
    · exact h2.finish
    · exact h2
  exact h3.foldl (fun _ h _ => h.finish)

theorem State.HasFence.hardStop (h : s.HasFence cl un) {a st : Nat} : (s.hardStop a st).HasFence cl un := by
  unfold State.hardStop
  split
  · exact h
  · extract_lets x s1 p s2 l s3 s4 y s5
    have h1 : s1.HasFence cl un := State.HasFence.putB h.restAxis
    have h2 : s2.HasFence cl un := State.HasFence.set (State.HasFence.seti h1)
    have h3 : s3.HasFence cl un := h2.upd
    have h4 : s4.HasFence cl un := .ite (State.HasFence.set h3).drShow.closeJob h1
    have h5 : s5.HasFence cl un := by
      unfold s5
      split
      · exact h4.setAxis.finish
      · exact h4
    exact h5.restOps

theorem State.HasFence.setTs (h : s.HasFence cl un) {q : Nat} {x : Ts} : (s.setTs q x).HasFence cl un := h.upd

theorem State.HasFence.disarm (h : s.HasFence cl un) {q st result detail : Nat} : (s.disarm q st result detail).HasFence cl un := by
  unfold State.disarm
  split
  · exact h
  · exact h.setTs.putB.finish

theorem State.HasFence.fenceSense (h : s.HasFence cl un) {c cause : Nat} : (s.fenceSense c cause).HasFence cl un :=
  .ite h ((h.recordFence.each (fun _ h _ => .ite h.disarm h)).andThen fun h1 => .ite h1.fenceHead h1)

theorem State.HasFence.fenceUnit (h : s.HasFence cl un) {k i : Nat} : (s.fenceUnit k i).HasFence cl un := by
  unfold State.fenceUnit
  split
  · exact h.fenceHead
  · exact h.fenceTun
  · exact h.fenceCodec
  · exact h.fenceLane
  · exact h.fencePort
  · exact h.fenceCam
  · exact h.recordFence.hardStop
  · exact h.fenceSense
  · exact h

end

/-! ## Setting a fence -/

/-- A lane, once fenced, stays so while the port turns to the lanes that are left. -/
theorem State.fenceLane_hasFence {s : State} {i : Nat} (hi : i < 64) (h : s.fenced 4 i = false) (cause : Nat) : (s.fenceLane i cause).HasFence 4 i := by
  have hr := s.hasFence_recordFence 4 hi cause
  unfold State.fenceLane
  rw [if_neg (by simp [h])]
  exact .ite ((hr.off.off.set.each (fun _ h _ => h.recordFence.set)).fencePort) (.ite hr.off.off.set.fencePort
    (.ite hr.off.off.set (.ite hr.off.off.set.fencePort hr.off.off.set.sendWidth.nextLane)))

theorem State.fencePort_hasFence (s : State) {p : Nat} (hp : p < 64) (cause : Nat) : (s.fencePort p cause).HasFence 5 p :=
  ((State.hasFence_recordFence _ 5 hp cause).wortQuiet.each (fun _ h _ => h.off)).wortDrop

theorem State.fenceSense_hasFence {s : State} {c : Nat} (hc : c < 64) (h : s.fenced 9 c = false) (cause : Nat) : (s.fenceSense c cause).HasFence 9 c := by
  have hr := s.hasFence_recordFence 9 hc cause
  unfold State.fenceSense
  rw [if_neg (by simp [h])]
  exact (hr.each (fun _ h _ => .ite h.disarm h)).andThen fun h1 => .ite h1.fenceHead h1

theorem fenceUnits_le (k : Nat) : fenceUnits k ≤ 64 := by
  unfold fenceUnits
  obtain hk | hk := Nat.lt_or_ge k 10
  · interval_cases k <;> decide
  · rw [List.getD_eq_default _ _ hk]
    decide

/-- A fence that is set stands. -/
theorem State.fenceUnit_hasFence {s : State} {k i : Nat} (hi : i < fenceUnits k) (h6 : k ≠ 6) (h : s.fenced k i = false) :
    (s.fenceUnit k i).HasFence k i := by
  have hlt : i < 64 := hi.trans_le (fenceUnits_le k)
  have hr := s.hasFence_recordFence k hlt causeSet
  unfold State.fenceUnit
  split
  · exact hr.cutHeads.noteCoverage
  · exact ((hr.setChan.each (fun _ h _ => h.setEng)).off).noteCoverage
  · exact hr.noteCoverage.each (fun _ h _ => .ite h.setChan h)
  · exact State.fenceLane_hasFence hlt h _
  · exact State.fencePort_hasFence s hlt _
  · exact hr.stopCam
  · exact hr.hardStop
  · exact State.fenceSense_hasFence hlt h _
  · next h1 h2 h3 h4 h5 h7 h8 h9 =>
    exfalso
    obtain hk | hk := Nat.lt_or_ge k 10
    · interval_cases k <;> contradiction
    · unfold fenceUnits at hi
      rw [List.getD_eq_default _ _ hk] at hi
      exact absurd hi (Nat.not_lt_zero _)

/-! ## The commands -/

theorem State.twoDown_startedLong (s : State) (d : Desc) (op : Nat) : (s.startedLong d op).2.twoDown = s.twoDown := by
  have hf : ∀ k i, (s.startedLong d op).2.fenced k i = s.fenced k i := fun k i => by
    unfold State.fenced
    rw [State.get_startedLong _ _ _ (by decide)]
  have hd : (s.startedLong d op).2.dmap = s.dmap := by
    obtain ⟨r, m, p, l, t, o, x, hs⟩ := s.startedLong_frame d op
    rw [hs]
    rfl
  unfold State.twoDown State.otherFenced
  simp only [hd, hf]

/-- The lift of a fence clears its bit alone. -/
theorem State.recordLift_reports (s : State) (k i : Nat) : Reports reportFlds (s.putB .FENCE_MAP_UNITS i false 0 k) (s.recordLift k i) :=
  (((Reports.refl _ _).telEvent (by decide) (by decide) _ _).vector _ _).out _

theorem State.fenced_recordLift (s : State) (k i j l : Nat) :
    (s.recordLift k i).fenced j l = ((s.putB .FENCE_MAP_UNITS i false 0 k).fenced j l) :=
  (State.recordLift_reports s k i).touches.fenced (by decide) j l

/-- One bit of the fence map written, within the 64 units of a class. -/
theorem State.fenced_putB (s : State) (v : Bool) {k i j l : Nat} (hl : l < 64) :
    (s.putB .FENCE_MAP_UNITS i v 0 k).fenced j l = if j = k ∧ l = i then v else s.fenced j l := by
  unfold State.fenced State.putB bit
  rw [State.get_set]
  by_cases hj : j = k
  · have hw : l < Fld.FENCE_MAP_UNITS.desc.width := hl
    rw [if_pos ⟨rfl, rfl, hj⟩, Nat.testBit_mod_two_pow, testBit_putBit, decide_eq_true hw, Bool.true_and, hj]
    simp only [true_and]
  · rw [if_neg fun h => hj h.2.2, if_neg fun h => hj h.1]

theorem State.fenced_putB_false (s : State) (k i : Nat) : (s.putB .FENCE_MAP_UNITS i false 0 k).fenced k i = false := by
  unfold State.fenced State.putB bit
  rw [State.get_set_same, Nat.testBit_mod_two_pow, testBit_putBit, if_pos rfl, Bool.and_false]

/-- Settles O55: it holds. -/
theorem fences : Obligations.Fences := by
  unfold Obligations.Fences
  refine ⟨fun s u d k i h ha hk hi h6 hr hf hh hu => ?set, fun s d k i ha hk hi h6 hr hf => ?again, fun s u d i h ha hk hi hr hev hst hf hh hu => ?evacuates,
    fun s d i ha hk hi hr hf hev => ?evacAgain, fun s u d k i h ha hk hi h6 hr hf hp htwo hh hu => ?lift, fun s d k i h ok ha hk hi h6 hr hf hp hno hh => ?fails,
    fun s k i cause hi hf => ?record, fun s k i cause hf => State.recordFence_of_fenced cause hf, fun s k i => ?recordLift⟩
  case set =>
    subst hk hi hh hu
    have hi : d.p 0x11 1 < fenceUnits (d.p 0x10 1) := by
      unfold State.fenceRange at hr
      simp only [Bool.and_eq_true, decide_eq_true_eq] at hr
      exact hr.1
    have hf' : (s.started d 0x0801).2.fenced (d.p 0x10 1) (d.p 0x11 1) = false := (congrArg (bit · _) (State.get_started ..)).trans hf
    refine ⟨_, (exec_short rfl ha rfl rfl rfl rfl rfl hr rfl ?_).trans ?_, rfl, (State.fenceUnit_hasFence hi h6 hf').2⟩
    · simp [h6]
    · simp [h6, hf']
  case again =>
    subst hk hi
    have hf' : (s.started d 0x0801).2.fenced (d.p 0x10 1) (d.p 0x11 1) = true := (congrArg (bit · _) (State.get_started ..)).trans hf
    refine ⟨_, (exec_short rfl ha rfl rfl rfl rfl rfl hr rfl ?_).trans ?_, rfl⟩
    · simp [h6]
    · simp [h6, hf']
  case evacuates =>
    have hfs : (s.started d 0x0801).2.fenced 6 (d.p 0x11 1) = false := (congrArg (bit · _) (State.get_started ..)).trans (hi ▸ hf)
    subst hh hi hu
    refine ⟨_, (exec_short rfl ha rfl rfl rfl rfl rfl hr rfl ?_).trans ?_, rfl⟩
    · simp [hev]
    · have hddr : (s.started d 0x0801).2.ddr (d.p 0x11 1) = s.ddr (d.p 0x11 1) := by rw [State.started_frame]; rfl
      have hnow : (s.started d 0x0801).2.now = s.now := by rw [State.started_frame]
      simp only [hk, hfs, State.get_started, if_neg hst, hddr, hnow]
      exact congrArg _ (if_pos ⟨trivial, rfl⟩)
  case evacAgain =>
    have hfs : (s.started d 0x0801).2.fenced 6 (d.p 0x11 1) = true := (congrArg (bit · _) (State.get_started ..)).trans (hi ▸ hf)
    subst hi
    refine ⟨_, (exec_short rfl ha rfl rfl rfl rfl rfl hr rfl ?_).trans ?_, rfl⟩
    · rcases hev with hev | ⟨hs, hall⟩
      · simp [hev]
      · have hall' : (s.rehomed.all fun x => x == d.p 0x11 1) = true := hall
        simp [hf, hs, hall']
    · simp [hk, hfs]
  case lift =>
    subst hk hi hh hu
    have hgo : (!true || (d.p 0x10 1 == 1 && (s.startedLong d 0x0802).2.twoDown)) = false := by
      rw [State.twoDown_startedLong]
      by_cases h1 : d.p 0x10 1 = 1
      · simp [htwo h1]
      · simp [h1]
    refine ⟨_, (exec_long rfl ha rfl rfl rfl rfl rfl hr rfl ?_).trans ?_, rfl⟩
    · simp [h6, hf, hp]
    · simp only [hgo, Bool.false_eq_true, if_false]
  case fails =>
    subst hk hi hh
    have hgo : (!ok || (d.p 0x10 1 == 1 && (s.startedLong d 0x0802).2.twoDown)) = true := by
      rw [State.twoDown_startedLong]
      rcases hno with h | ⟨h1, h2⟩
      · simp [h]
      · simp [h1, h2]
    refine ⟨_, (exec_long rfl ha rfl rfl rfl rfl rfl hr rfl ?_).trans ?_, rfl⟩
    · simp [h6, hf, hp]
    · simp only [hgo, if_true, State.get_startedLong s d _ (f := .FENCE_LAST_CAUSE) (by decide)]
  case record =>
    have h := State.recordFence_reports cause hf
    refine ⟨by rw [State.fenced_recordFence s cause hi, if_pos ⟨rfl, rfl⟩], fun j l hl hn => by rw [State.fenced_recordFence s cause hl, if_neg hn], ?_, ?_, ?_,
      (State.recordFence_frame ..).stores.memory, (State.recordFence_frame ..).chans, ?_⟩
    · rw [h.touches _ _ _ (by decide), State.fenceNoted, State.get_set_fld _ (by decide), State.get_set_fld _ (by decide), State.get_set_same]
    · rw [h.touches _ _ _ (by decide), State.fenceNoted, State.get_set_fld _ (by decide), State.get_set_same]
    · rw [h.touches _ _ _ (by decide), State.fenceNoted, State.get_set_same]
    · rw [State.recordFence_frame s k i cause]
  case recordLift =>
    have h := State.recordLift_reports s k i
    refine ⟨(State.fenced_recordLift ..).trans (State.fenced_putB_false ..), fun j l hl hn => ?_, ?_, h.frame.stores.memory, h.frame.chans⟩
    · rw [State.fenced_recordLift, State.fenced_putB _ _ hl, if_neg hn]
    · rw [h.touches _ _ _ (by decide), State.putB, State.get_set_fld _ (by decide)]

end Sys2Proof.Machine
end

section
/-! PROOF. Time and its stamps, the Grist map, doorbells and vectors. -/

namespace Sys2Proof.Machine

-- One lemma after the other: elaborated side by side, they ask for more threads than the compile may have.
set_option Elab.async false

/-! ## The time and PTP stamps -/

theorem State.reachRd_of {s : State} {b : Block} {i : Nat} (f : State → State) (h : s.reachable b i = true) : s.reachRd b i f = f s := by
  unfold State.reachable at h
  simp only [Bool.and_eq_true, Bool.not_eq_true'] at h
  unfold State.reachRd
  rw [h.2]
  simp only [Bool.false_eq_true, if_false, h.1.1, h.1.2, Bool.and_self, if_true]

theorem exec_reachRd {i : Instr} {s : State} {b : Block} {k : Nat} {f : State → State} (hi : exec i s = .next (s.reachRd b k f))
    (h : s.reachable b k = true) : exec i s = .next (f s) := exec_of hi (State.reachRd_of f h)

/-- A read of the time latches the three shadows of its set. -/
theorem shadows_latched {s : State} (c : Clock) {lo hi ns : Fld} (h1 : lo ≠ hi) (h2 : lo ≠ ns) (h3 : hi ≠ ns) (hlo : lo.desc.width = 32)
    (hhi : hi.desc.width = 16) (hns : ns.desc.width = 30) (hs : c.sec < 2 ^ 48) (hn : c.nsf < 2 ^ 30) (rd : Nat) :
    let t := ((({ s with rdata := rd } : State).set lo (c.sec % 2 ^ 32)).set hi (c.sec / 2 ^ 32)).set ns c.nsf
    t.get lo = c.sec % 2 ^ 32 ∧ t.get hi = c.sec / 2 ^ 32 ∧ t.get ns = c.nsf ∧ t = { s with rdata := t.rdata, regs := t.regs } ∧
      ∀ f i k, f ≠ lo → f ≠ hi → f ≠ ns → t.get f i k = s.get f i k := by
  refine ⟨?_, ?_, ?_, rfl, fun f i k hl hh hn' => ?_⟩
  · rw [State.get_set_fld _ h2, State.get_set_fld _ h1, State.get_set_same, hlo, Nat.mod_mod]
  · rw [State.get_set_fld _ h3, State.get_set_same, hhi, Nat.mod_eq_of_lt (by omega)]
  · rw [State.get_set_same, hns, Nat.mod_eq_of_lt hn]
  · rw [State.get_set_fld _ hn', State.get_set_fld _ hh, State.get_set_fld _ hl]
    rfl

/-- A new epoch changes EPOCH alone. -/
theorem State.newEpoch_reads (s : State) : s.newEpoch = { s with regs := s.newEpoch.regs } ∧
    s.newEpoch.get .TIME_STATUS_EPOCH = (s.get .TIME_STATUS_EPOCH + 1) % 2 ^ Fld.TIME_STATUS_EPOCH.desc.width ∧
    ∀ f i k, f ≠ .TIME_STATUS_EPOCH → s.newEpoch.get f i k = s.get f i k :=
  ⟨rfl, State.get_set_same .., fun _ _ _ h => State.get_set_fld _ h ..⟩

/-- A flag raised, and nothing else. -/
theorem raised {s : State} {f : Fld} (h : f.desc.width = 1) (i k : Nat) : OnlyRegs s (s.on f i k) (fun g j l => g = f ∧ j = i ∧ l = k) ∧
    (s.on f i k).get f i k = 1 :=
  ⟨onlyRegs_set .., by rw [State.on_eq, State.get_set_same, h]; rfl⟩

/-- The time after an adjustment, in nanoseconds modulo the counter's range. -/
theorem Clock.adjust_sum (c : Clock) (d : Int) :
    ((c.adjust d).sec * 1000000000 + (c.adjust d).nsf : Int) = ((c.sec * 1000000000 + c.nsf : Int) + d) % (2 ^ 48 * 1000000000) := by
  have ht : ((c.sec * nsPerSec + c.nsf : Nat) : Int) + d = (c.sec * 1000000000 + c.nsf : Int) + d := by unfold nsPerSec; push_cast; ring
  unfold Clock.adjust
  simp only [ht]
  unfold nsPerSec
  generalize (c.sec * 1000000000 + c.nsf : Int) + d = t
  norm_num
  omega

@[simp] theorem State.eth_setEth (s : State) (p : Nat) (e : Eth) : (s.setEth p e).eth p = e := look_store_same ..

/-- A whole number of units takes no free value. -/
theorem State.psUnits_exact (s : State) {ps : Int} (h : ps * 65536 % 1000 = 0) : s.psUnits ps = (ps * 65536 / 1000, s) := if_pos h

/-- Rounding takes a free value at most. -/
theorem State.psUnits_frame (s : State) (ps : Int) : ∃ n, (s.psUnits ps).2 = { s with freeCtr := n } := by
  unfold State.psUnits State.free
  simp only
  split
  · exact ⟨_, rfl⟩
  · exact ⟨_, rfl⟩

/-- Settles O17: it holds. -/
theorem timeAndPtp : Obligations.TimeAndPtp := by
  unfold Obligations.TimeAndPtp
  refine ⟨fun s hr hs hn => ⟨_, exec_reachRd rfl hr, rfl, ?readA⟩, fun s hr hs hn => ⟨_, exec_reachRd rfl hr, rfl, ?readB⟩,
    fun s hr hns => ⟨_, exec_reach rfl hr, ?load⟩, fun s hr hns => ⟨_, exec_reach rfl hr, ?loadBad⟩, fun s hr h1 h2 hn hs => ⟨_, exec_reach rfl hr, ?adjust⟩,
    fun s v hr h1 h2 => ⟨_, exec_reach rfl hr, ?incr⟩, fun s v hr hv => ⟨_, exec_reach rfl hr, ?incrBad⟩,
    fun s p sec units seq type hp hl hlock hpt hex => ?stamp, fun s p sec units seq type hp hl => ?macStamp,
    fun s p e he hlen => ?push, fun s p e he hlen => ?pushFull, fun s p e l hr hq => ⟨_, exec_reachRd rfl hr, ?pop⟩, fun s p up hp hm => ?link⟩
  case readA => exact shadows_latched s.clock (by decide) (by decide) (by decide) rfl rfl rfl hs hn _
  case readB => exact shadows_latched s.clock (by decide) (by decide) (by decide) rfl rfl rfl hs hn _
  case load =>
    have ht : s.timeLoad false = State.newEpoch { s with clock := _ } := if_pos hns
    rw [ht]
    obtain ⟨-, he, hf⟩ := State.newEpoch_reads { s with clock :=
      { sec := s.get .TIME_SET_SEC_HI_SEC * 2 ^ 32 + s.get .TIME_SET_SEC_LO_SEC, nsf := s.get .TIME_SET_NS_NS, frac := 0 } }
    exact ⟨rfl, rfl, he, hf⟩
  case loadBad =>
    have ht : s.timeLoad false = s.on .TIME_STATUS_ERR := if_neg (Nat.not_lt.mpr hns)
    rw [ht]
    exact raised rfl 0 0
  case adjust =>
    have ht : s.timeAdj = State.newEpoch { s with clock := s.clock.adjust (toSigned 32 (s.get .TIME_ADJ_NS)) } := if_pos ⟨h1, h2⟩
    rw [ht]
    obtain ⟨-, he, hf⟩ := State.newEpoch_reads { s with clock := s.clock.adjust (toSigned 32 (s.get .TIME_ADJ_NS)) }
    exact ⟨rfl, rfl, Clock.adjust_sum .., he, hf⟩
  case incr =>
    have ht : s.timeIncr v = s.set .TIME_INCR_INCR v := if_pos ⟨h1, h2⟩
    rw [ht]
    refine ⟨onlyRegs_set .., (State.get_set_same ..).trans (Nat.mod_eq_of_lt ?_)⟩
    show v < 2 ^ 64
    omega
  case incrBad =>
    have ht : s.timeIncr v = s.on .TIME_STATUS_ERR := if_neg (by unfold timeIncrMin timeIncrMax; omega)
    rw [ht]
    exact raised rfl 0 0
  case stamp =>
    have hmac : (false || (s.eth p).lockLost || s.is .ETH_STATUS_STAMP_POINT p) = false := by rw [hlock, hpt]; rfl
    refine ⟨_, exec_when rfl (by rw [hl, decide_eq_true hp]; rfl), ?_⟩
    simp only [hmac, Bool.false_eq_true, if_false, if_true, zero_add, State.psUnits_exact s hex, State.eth_setEth]
    exact ⟨rfl, trivial, _, rfl, rfl, rfl, rfl, rfl, rfl⟩
  case macStamp =>
    refine ⟨_, exec_when rfl (by rw [hl, decide_eq_true hp]; rfl), ?_⟩
    simp only [Bool.true_or, if_true]
    obtain ⟨n, hn⟩ := s.psUnits_frame (((10 * (macConst (s.get .ETH_STATUS_MODE p) (s.get .ETH_STATUS_FEC p)).1 : Nat) : Int) + toSigned 32 (s.eth p).txLat)
    rw [hn]
    refine ⟨⟨_, by rw [State.eth_setEth], rfl⟩, ?_, fun _ => rfl, fun _ => rfl⟩
    exact State.get_bump_same ..
  case push =>
    refine ⟨_, rfl, ?_⟩
    simp only [he, hlen, if_true, State.eth_setEth, and_self, and_true]
    rfl
  case pushFull =>
    refine ⟨_, rfl, ?_⟩
    simp only [he, Nat.not_lt.mpr hlen, if_false]
    refine ⟨?_, ?_, State.get_set_same .., rfl⟩
    · show ((s.setEth p { s.eth p with taken := none }).eth p).queue = _
      rw [State.eth_setEth]
    · exact (State.get_set_fld _ (by decide) ..).trans (State.get_bump_same ..)
  case pop =>
    refine ⟨(congrArg Eth.queue (State.eth_setEth s p _)).trans (by rw [hq]; rfl), rfl, ?_⟩
    show s.txts3 p = _
    unfold State.txts3
    rw [hq]
  case link =>
    refine ⟨_, exec_when rfl (by rw [decide_eq_true hp, decide_eq_true hm]; rfl), ?_, congrArg Eth.lockLost (State.eth_setEth _ p _), fun f i k hn => ?_, rfl⟩
    · show ((s.set .ETH_STATUS_LINK (b2n up) p).get .ETH_STATUS_LINK p == 1) = up
      rw [State.get_set_same]
      cases up <;> rfl
    · refine (State.get_set ..).trans (if_neg hn)

/-! ## A rewrite of the Grist map -/

/-- The map rewritten, before its vector is raised. -/
def State.gristPut (s : State) (r : GRewrite) (rest : List GRewrite) : State :=
  let s := State.set { s with grist := r.entries, gristDue := rest } .GRS_CAUSE_CAUSE r.cause
  (s.set .GRS_IMAGE_ID_ID r.imageId).set .GRS_GEN_GEN (s.get .GRS_GEN_GEN + 1)

theorem State.get_gristPut (s : State) (r : GRewrite) (rest : List GRewrite) {f : Fld} (h1 : f ≠ .GRS_GEN_GEN) (h2 : f ≠ .GRS_CAUSE_CAUSE)
    (h3 : f ≠ .GRS_IMAGE_ID_ID) (i k : Nat) : (s.gristPut r rest).get f i k = s.get f i k := by
  unfold State.gristPut
  rw [State.get_set_fld _ h1, State.get_set_fld _ h3, State.get_set_fld _ h2]
  rfl

/-- The rewrite in force. -/
theorem State.gristPut_reads (s : State) (r : GRewrite) (rest : List GRewrite) :
    (s.gristPut r rest).get .GRS_GEN_GEN = (s.get .GRS_GEN_GEN + 1) % 2 ^ 32 ∧
    (s.gristPut r rest).get .GRS_CAUSE_CAUSE = r.cause % 2 ^ Fld.GRS_CAUSE_CAUSE.desc.width ∧
    (s.gristPut r rest).get .GRS_IMAGE_ID_ID = r.imageId % 2 ^ 64 := by
  unfold State.gristPut
  refine ⟨?_, ?_, ?_⟩
  · rw [State.get_set_same, State.get_set_fld _ (by decide)]
    rfl
  · rw [State.get_set_fld _ (by decide), State.get_set_fld _ (by decide), State.get_set_same]
  · rw [State.get_set_fld _ (by decide), State.get_set_same]
    rfl

/-- A rewrite that is due. -/
theorem execGristRewrite_eq {s : State} {r : GRewrite} {l : List GRewrite} (h : s.gristDue = r :: l) : exec .gristRewrite s = .next (
    if l.isEmpty then (s.gristPut r l).vector .GRS_NOTIFY_VECTOR .GRS_NOTIFY_EN
    else ((s.gristPut r l).vector .GRS_NOTIFY_VECTOR .GRS_NOTIFY_EN).set .GRS_GEN_GEN
      (((s.gristPut r l).vector .GRS_NOTIFY_VECTOR .GRS_NOTIFY_EN).get .GRS_GEN_GEN + 1)) := by
  show execGristRewrite s = _
  unfold execGristRewrite
  rw [h]
  rfl

theorem State.vector_off {s : State} {vec en : Fld} (h : s.is en = false) : s.vector vec en = s := by
  unfold State.vector
  rw [if_neg (by simp [h])]

theorem State.vector_sent {s : State} {vec en : Fld} (h : s.is en = true) (ho : s.msixOpen.contains (s.get vec) = true) :
    s.vector vec en = s.out (.msix (s.get vec)) := by
  unfold State.vector State.msix
  rw [if_pos h, if_pos ho]

/-- Settles O18: it holds. -/
theorem gristRewrite : Obligations.GristRewrite := by
  unfold Obligations.GristRewrite
  refine ⟨fun s r h hen => ⟨_, execGristRewrite_eq h, ?_⟩, fun s r l h hl hen ho => ⟨_, execGristRewrite_eq h, ?_⟩⟩
  · have hen' : (s.gristPut r []).is .GRS_NOTIFY_EN = false := by
      unfold State.is
      rw [State.get_gristPut _ _ _ (by decide) (by decide) (by decide)]
      exact hen
    rw [List.isEmpty_nil, if_pos rfl, State.vector_off hen']
    obtain ⟨h1, h2, h3⟩ := s.gristPut_reads r []
    exact ⟨rfl, rfl, h1, h2, h3, fun f i k a b c => State.get_gristPut s r [] a b c i k, rfl⟩
  · have hen' : (s.gristPut r l).is .GRS_NOTIFY_EN = true := by
      unfold State.is
      rw [State.get_gristPut _ _ _ (by decide) (by decide) (by decide)]
      exact hen
    have hv : (s.gristPut r l).get .GRS_NOTIFY_VECTOR = s.get .GRS_NOTIFY_VECTOR := State.get_gristPut _ _ _ (by decide) (by decide) (by decide) 0 0
    rw [List.isEmpty_eq_false_iff.mpr hl, if_neg Bool.false_ne_true, State.vector_sent hen' (by rw [hv]; exact ho), hv]
    refine ⟨rfl, rfl, ?_, rfl⟩
    rw [State.get_set_same, State.get_out, (s.gristPut_reads r l).1]
    show (_ % 2 ^ 32 + 1) % 2 ^ 32 = _
    omega

/-! ## Doorbells, the admin pair and vectors -/

theorem mem_insNat (l : List Nat) (k : Nat) : k ∈ insNat l k := by
  induction l with
  | nil => exact List.mem_cons_self
  | cons a l ih =>
    unfold insNat
    split
    · next h => exact List.mem_cons.mpr (.inl h.symm)
    · split
      · exact List.mem_cons_self
      · exact List.mem_cons_of_mem _ ih

theorem not_mem_delNat (l : List Nat) (k : Nat) : k ∉ delNat l k := by
  unfold delNat
  simp

/-- The doorbell of a submission queue. -/
theorem exec_sqTail {s : State} {n v : Nat} (hn : n < 16384) : exec (.sqTailDoorbell n v) s = .next (s.sqTailWrite n v) := by
  refine (exec_when (i := .sqTailDoorbell n v) rfl (decide_eq_true hn)).trans ?_
  unfold State.bar2Write
  rw [if_pos (by omega), if_pos (by omega), Nat.mul_div_cancel_left n (by decide)]

/-- The doorbell of a completion queue. -/
theorem exec_cqHead {s : State} {n v : Nat} (hn : n < 16384) : exec (.cqHeadDoorbell n v) s = .next (s.cqHeadWrite n v) := by
  refine (exec_when (i := .cqHeadDoorbell n v) rfl (decide_eq_true hn)).trans ?_
  unfold State.bar2Write
  rw [if_pos (by omega), if_neg (by omega), if_pos (by omega), show (16 * n + 4) / 16 = n by omega]

/-- Nothing leaves a queue that is neither fenced nor in overflow. -/
theorem State.drain_idle {s : State} {n : Nat} (hf : (s.pair n).fenced = false) (ho : (s.pair n).overflow = []) (fuel : Nat) :
    State.drain fuel s n = s := by
  cases fuel with
  | zero => rfl
  | succ fuel =>
    unfold State.drain
    simp only [hf, ho, Bool.false_and, Bool.not_false, if_true, ite_self]

theorem setPair_only (s : State) (n : Nat) (p : QPair) :
    (s.setPair n p).pair n = p ∧ s.setPair n p = { s with pairs := (s.setPair n p).pairs } ∧ ∀ m, m ≠ n → (s.setPair n p).pair m = s.pair m :=
  ⟨State.pair_setPair .., rfl, fun _ h => State.pair_setPair_ne _ _ h⟩

theorem State.badDoorbell_reads (s : State) (n : Nat) :
    OnlyRegs s (s.badDoorbell n) (fun f _ _ => f = .QM_DB_ERR_COUNT ∨ f = .QM_DB_ERR_LAST_QID) ∧
      (s.badDoorbell n).get .QM_DB_ERR_COUNT = min (s.get .QM_DB_ERR_COUNT + 1) (2 ^ Fld.QM_DB_ERR_COUNT.desc.width - 1) ∧
      (s.badDoorbell n).get .QM_DB_ERR_LAST_QID = n % 2 ^ Fld.QM_DB_ERR_LAST_QID.desc.width := by
  unfold State.badDoorbell
  refine ⟨((OnlyRegs.refl s _).set (.inl rfl) _).set (.inr rfl) _, ?_, State.get_set_same ..⟩
  rw [State.get_set_fld _ (by decide), State.get_bump_same]

/-- The admin pair as its registers give it. -/
def State.adminPair (s : State) : QPair :=
  { enabled := true, depth := s.get .QM_ADMIN_DEPTH_DEPTH, sqBase := s.get .QM_ASQ_BASE_BASE, cqBase := s.get .QM_ACQ_BASE_BASE }

/-- Settles O22: it holds. -/
theorem doorbellsAndVectors : Obligations.DoorbellsAndVectors := by
  unfold Obligations.DoorbellsAndVectors
  refine ⟨fun s n v hn he hv => ⟨_, exec_sqTail hn, ?tail⟩, fun s n v hn hbad => ⟨_, exec_sqTail hn, ?tailBad⟩,
    fun s n v hn he hv hf ho hu => ⟨_, exec_cqHead hn, ?head⟩, fun s hr hen hd => ⟨_, exec_reach rfl hr, ?admin⟩,
    fun s hr hen hd => ⟨_, exec_reach rfl hr, ?adminZero⟩, fun s n he hu => ⟨_, exec_when rfl (by simp [he, hu]), ?agg⟩,
    fun s v hv => ⟨_, exec_when rfl (decide_eq_true hv), ?unmask⟩, fun s h st r x hl hrem hfin hroute hst hacc hr hx => ?due⟩
  case tail =>
    have ht : s.sqTailWrite n v = s.setPair n { s.pair n with sqTail := v } := by unfold State.sqTailWrite; simp only [he, hv]; rfl
    rw [ht]
    exact setPair_only ..
  case tailBad =>
    have ht : s.sqTailWrite n v = s.badDoorbell n := by
      unfold State.sqTailWrite
      refine if_neg ?_
      rcases hbad with h | h
      · simp [h]
      · simp [Nat.not_lt.mpr h]
    rw [ht]
    exact s.badDoorbell_reads n
  case head =>
    have ht : s.cqHeadWrite n v = s.setPair n { s.pair n with cqHead := v } := by
      unfold State.cqHeadWrite
      simp only [he, hv, hu, decide_true, Bool.and_self, if_true]
      refine State.drain_idle ?_ ?_ _
      · rw [State.pair_setPair]; exact hf
      · rw [State.pair_setPair]; exact ho
    rw [ht]
    exact ⟨State.pair_setPair .., rfl⟩
  case admin =>
    have hz := depthOk_ne_zero hd
    have ht : s.adminEnable true = ((s.setPair 0 s.adminPair).on .QM_CTRL_EN).on .QM_STATUS_READY := by
      simp [State.adminEnable, State.adminPair, hen, hz, hd]
    rw [ht]
    refine ⟨?_, ?_, ?_, rfl⟩
    · exact (State.pair_setPair s 0 s.adminPair :)
    · unfold State.is
      rw [State.on_eq, State.on_eq, State.get_set_fld _ (by decide), State.get_set_same]
      rfl
    · unfold State.is
      rw [State.on_eq, State.get_set_same]
      rfl
  case adminZero =>
    have ht : s.adminEnable true = s.set .QM_STATUS_ERR stBadZero := by simp [State.adminEnable, hen, hd]
    rw [ht]
    exact ⟨onlyRegs_set .., State.get_set_same ..⟩
  case agg =>
    refine ⟨by rw [State.pair_signal, if_pos rfl], by rw [State.signal_frame], fun ho => ?_, fun ho => ?_⟩
    · rw [State.signal, State.msix_open (s := s.setPair n _) ho]
      rfl
    · rw [State.signal, State.msix_masked (s := s.setPair n _) ho]
      exact mem_insNat ..
  case unmask =>
    have hin : v ∈ insNat s.msixOpen v := mem_insNat s.msixOpen v
    have hout : v ∉ delNat s.msixPend v := not_mem_delNat s.msixPend v
    unfold State.msixUnmask
    simp only
    split
    · exact ⟨hin, hout, rfl, rfl⟩
    · exact ⟨hin, hout, rfl, rfl⟩
  case due =>
    refine ⟨_, exec_when rfl (by simp [hl, hrem]), ?_⟩
    have h1 : st % 256 = st := Nat.mod_eq_of_lt hst
    have h2 : trunc 32 r = r := Nat.mod_eq_of_lt hr
    have h3 : trunc 16 x = x := Nat.mod_eq_of_lt hx
    have h4 : (st != stAccepted) = true := by simpa using hacc
    rw [h1, h2, h3, h4]
    unfold State.report
    simp only [hl, hfin, hroute, Bool.not_true, Bool.or_false, Bool.false_eq_true, if_false]

end Sys2Proof.Machine
end

section
/-! PROOF. The register table as a table: reads of a chain of writes, which simp computes. -/

namespace Sys2Proof.Machine

-- One lemma after the other: elaborated side by side, they ask for more threads than the compile may have.
set_option Elab.async false

/-! ## The register table read and written

In the form that `simp` computes with: a chain of writes to the table, and reads of it. -/

/-- The field read in a register table. -/
def rd (r : List (FKey × Nat)) (f : Fld) (i k : Nat) : Nat := Tab.get FKey.dflt r ⟨f, i, k⟩

/-- The table with a field written. -/
def wr (r : List (FKey × Nat)) (f : Fld) (v i k : Nat) : List (FKey × Nat) := Tab.put FKey.lt FKey.dflt r ⟨f, i, k⟩ (v % 2 ^ f.desc.width)

/-- Reads and writes of fields in the form of the table, for `simp` where a goal is to be computed so. -/
theorem table_form : (∀ (s : State) (f : Fld) (i k : Nat), s.get f i k = rd s.regs f i k) ∧
    (∀ (s : State) (f : Fld) (i k : Nat), s.is f i k = (rd s.regs f i k == 1)) ∧
    (∀ (s : State) (f : Fld) (v i k : Nat), s.set f v i k = { s with regs := wr s.regs f v i k }) ∧
    (∀ (s : State) (f : Fld) (i k : Nat), s.on f i k = { s with regs := wr s.regs f 1 i k }) ∧
    (∀ (s : State) (f : Fld) (i k : Nat), s.off f i k = { s with regs := wr s.regs f 0 i k }) ∧
    (∀ (s : State) (f : Fld) (n i k : Nat),
      s.bump f n i k = { s with regs := wr s.regs f (min (rd s.regs f i k + n) (2 ^ f.desc.width - 1)) i k }) ∧
    (∀ (s : State) (f : Fld) (b : Nat) (v : Bool) (i k : Nat), s.putB f b v i k = { s with regs := wr s.regs f (putBit (rd s.regs f i k) b v) i k }) ∧
    (∀ (s : State) (o : Out), s.out o = { s with outbox := o :: s.outbox }) :=
  ⟨fun _ _ _ _ => rfl, fun _ _ _ _ => rfl, fun _ _ _ _ _ => rfl, fun _ _ _ _ => rfl, fun _ _ _ _ => rfl, fun _ _ _ _ _ => rfl,
    fun _ _ _ _ _ _ => rfl, fun _ _ => rfl⟩

@[simp] theorem rd_wr (r : List (FKey × Nat)) (f g : Fld) (v i k j l : Nat) :
    rd (wr r f v i k) g j l = if g = f ∧ j = i ∧ l = k then v % 2 ^ f.desc.width else rd r g j l := by
  simp [rd, wr, Tab.get_put]

/-- A value that fits its field reads back. -/
theorem State.get_set_fits (s : State) {f : Fld} {v : Nat} (i k : Nat) (hv : v % 2 ^ f.desc.width = v) : (s.set f v i k).get f i k = v :=
  (State.get_set_same ..).trans hv

/-- A count that saturates fits its field. -/
@[simp] theorem min_mod_width (n w : Nat) : min n (2 ^ w - 1) % 2 ^ w = min n (2 ^ w - 1) :=
  Nat.mod_eq_of_lt ((Nat.min_le_right ..).trans_lt (Nat.sub_lt (Nat.two_pow_pos w) Nat.one_pos))

@[simp] theorem b2n_mod_two (b : Bool) : b2n b % 2 = b2n b := by cases b <;> rfl
@[simp] theorem b2n_eq_one (b : Bool) : (b2n b == 1) = b := by cases b <;> rfl

end Sys2Proof.Machine
end

section
/-! PROOF. Clearing bits. -/

namespace Sys2Proof.Machine

-- One lemma after the other: elaborated side by side, they ask for more threads than the compile may have.
set_option Elab.async false

/-! ## Clearing bits -/

/-- Clearing fields of one register writes those alone. -/
theorem State.clear_only (fs : List Fld) (i k : Nat) (s : State) : OnlyRegs s (s.clear fs i k) (fun f a b => a = i ∧ b = k ∧ f ∈ fs) := by
  induction fs generalizing s with
  | nil => exact OnlyRegs.refl ..
  | cons g fs ih =>
    refine (onlyRegs_set s g (g.reset k) i k).mono ?_ |>.trans ((ih _).mono ?_)
    · rintro f a b ⟨rfl, rfl, rfl⟩
      exact ⟨rfl, rfl, List.mem_cons_self⟩
    · exact fun f a b ⟨ha, hb, hf⟩ => ⟨ha, hb, List.mem_cons_of_mem _ hf⟩

/-- A cleared field reads what it holds after a reset. -/
theorem State.get_clear (fs : List Fld) (i k : Nat) (s : State) {f : Fld} (hf : f ∈ fs) :
    (s.clear fs i k).get f i k = f.reset k % 2 ^ f.desc.width := by
  induction fs generalizing s with
  | nil => cases hf
  | cons g fs ih =>
    by_cases hm : f ∈ fs
    · exact ih _ hm
    · obtain rfl : f = g := (List.mem_cons.mp hf).resolve_right hm
      exact ((s.set f (f.reset k) i k).clear_only fs i k |>.get_eq fun h => hm h.2.2).trans (State.get_set_same ..)

section
variable {ins : Instr} {s : State} {j k : Nat}

/-- A clearing bit whose fields hold the stated values after a reset. -/
theorem setsOnly_clear {fs : List (Fld × Nat)} {t : State} (he : exec ins s = .next t)
    (ht : t = s.clear (fs.map Prod.fst) j k) (hr : ∀ e ∈ fs, e.1.reset k % 2 ^ e.1.desc.width = e.2) : SetsOnly ins s fs j k :=
  ⟨_, ht ▸ he, State.clear_only .., fun e hm => (State.get_clear _ _ _ _ (List.mem_map_of_mem hm)).trans (hr e hm)⟩

/-- A clearing bit that writes one field. -/
theorem setsOnly_set {f : Fld} {v : Nat} {t : State} (he : exec ins s = .next t) (ht : t = s.set f v j k)
    (hv : v % 2 ^ f.desc.width = v) :
    SetsOnly ins s [(f, v)] j k := by
  subst ht
  refine ⟨_, he, (onlyRegs_set ..).mono ?_, ?_⟩
  · rintro g a b ⟨rfl, rfl, rfl⟩
    exact ⟨rfl, rfl, List.mem_singleton.mpr rfl⟩
  · rintro e he
    obtain rfl := List.mem_singleton.mp he
    exact (State.get_set_same ..).trans hv

end

/-- A value that the width holds reads back from its two's complement. -/
theorem toSigned_ofSigned {w : Nat} {v : Int} (hlo : -2 ^ w ≤ v) (hhi : v < 2 ^ w) : toSigned (w + 1) (ofSigned (w + 1) v) = v := by
  have hp : (0 : Int) < 2 ^ w := by positivity
  have hw : ((2 ^ (w + 1) : Nat) : Int) = 2 * 2 ^ w := by push_cast; ring
  have hm : ofSigned (w + 1) v % 2 ^ (w + 1) = ofSigned (w + 1) v := Nat.mod_eq_of_lt (ofSigned_lt _ _)
  have ho : (ofSigned (w + 1) v : Int) = if v < 0 then v + 2 * 2 ^ w else v := by
    unfold ofSigned
    rw [hw, Int.toNat_of_nonneg (Int.emod_nonneg _ (by omega))]
    split
    · rw [← Int.add_emod_right, Int.emod_eq_of_lt (by omega) (by omega)]
    · exact Int.emod_eq_of_lt (by omega) (by omega)
  have hc : ofSigned (w + 1) v < 2 ^ (w + 1 - 1) ↔ (ofSigned (w + 1) v : Int) < 2 ^ w := by zify; simp
  unfold toSigned
  rw [hm]
  simp only [hc, ho, hw]
  split_ifs <;> omega

/-- Settles O32: it holds. Each clearing bit writes its own fields, and each of them with what it holds after a reset. -/
theorem clearsOfPrintPath : Obligations.ClearsOfPrintPath := by
  unfold Obligations.ClearsOfPrintPath
  refine ⟨?tunFault, ?tunEcc, ?sliceMax, ?dbErr, ?flrDropped, ?uncmd, ?amp, ?encFault, ?dropped, ?missed, ?vote, ?chDropped, ?cdcFail, ?late,
    ?archDropped, ?clipLines, ?unsealed, ?chClip, ?mashErr, ?bsCount, ?refused, ?hardLines, ?faultLog, ?bridgeLost, ?clip⟩
  case tunFault => exact fun s t h => setsOnly_clear (exec_reach rfl h) rfl (by decide)
  case tunEcc => exact fun s t h => setsOnly_clear (exec_reach rfl h) rfl (by decide)
  case sliceMax => exact fun s t m hm h => setsOnly_set (exec_when_reach rfl (decide_eq_true hm) h) rfl rfl
  case dbErr => exact fun s h => setsOnly_clear (exec_reach rfl h) rfl (by decide)
  case flrDropped => exact fun s h => setsOnly_clear (exec_reach rfl h) rfl (by decide)
  case uncmd => exact fun s h => setsOnly_set (exec_reach rfl h) rfl rfl
  case amp => exact fun s x hx h => setsOnly_set (exec_when_reach rfl (decide_eq_true hx) h) rfl rfl
  case encFault => exact fun s x hx h => setsOnly_clear (exec_when_reach rfl (decide_eq_true hx) h) rfl (by decide +revert)
  case dropped => exact fun s h => setsOnly_set (exec_reach rfl h) rfl rfl
  case missed => exact fun s h => setsOnly_set (exec_reach rfl h) rfl rfl
  case vote => exact fun s h => setsOnly_clear (exec_reach rfl h) rfl (by decide)
  case chDropped => exact fun s c hc h => setsOnly_set (exec_when_reach rfl (decide_eq_true hc) h) rfl rfl
  case cdcFail => exact fun s i h => setsOnly_clear (exec_reach rfl h) rfl (by decide)
  case late => exact fun s c h => setsOnly_set (exec_reach rfl h) rfl rfl
  case archDropped => exact fun s h => setsOnly_set (exec_reach rfl h) rfl rfl
  case clipLines => exact fun s h => setsOnly_clear (exec_reach rfl h) rfl (by decide)
  case unsealed => exact fun s h => setsOnly_set (exec_reach rfl h) rfl rfl
  case chClip => exact fun s c hc h => setsOnly_set (exec_when_reach rfl (decide_eq_true hc) h) rfl rfl
  case mashErr => exact fun s h => setsOnly_clear (exec_reach rfl h) rfl (by decide)
  case bsCount => exact fun s h => setsOnly_clear (exec_reach rfl h) rfl (by decide)
  case refused => exact fun s h => setsOnly_set (exec_reach rfl h) rfl rfl
  case hardLines => exact fun s h => setsOnly_set (exec_reach rfl h) rfl rfl
  case faultLog => exact fun s h => setsOnly_clear (exec_reach rfl h) rfl (by decide)
  case bridgeLost => exact fun s t h => setsOnly_set (exec_reach rfl h) rfl rfl
  case clip => exact fun s t h => setsOnly_set (exec_reach rfl h) rfl rfl

/-- Settles O33: it holds. As for the print path; TEL_TEMP.MAX takes the reading in force, which its 15 bits hold. -/
theorem clearsOfBlocks : Obligations.ClearsOfBlocks := by
  unfold Obligations.ClearsOfBlocks
  refine ⟨?txts, ?usb, ?lost, ?phy, ?stale, ?foreign, ?chCount, ?viol, ?bus, ?vp, ?status, ?scrub, ?last, ?resync, ?cov, ?alert, ?ecc, ?found,
    ?grs, ?trio, ?port, ?lane, ?temp⟩
  case txts => exact fun s p h => setsOnly_clear (exec_reach rfl h) rfl (by decide)
  case usb => exact fun s h => setsOnly_clear (exec_reach rfl h) rfl (by decide)
  case lost => exact fun s x h => setsOnly_clear (exec_reach rfl h) rfl (by decide)
  case phy => exact fun s x h => setsOnly_clear (exec_reach rfl h) rfl (by decide)
  case stale => exact fun s x h => setsOnly_set (exec_reach rfl h) rfl rfl
  case foreign => exact fun s h => setsOnly_set (exec_reach rfl h) rfl rfl
  case chCount => exact fun s c hc h => setsOnly_clear (exec_when_reach rfl (decide_eq_true hc) h) rfl (by decide +revert)
  case viol => exact fun s c hc h => setsOnly_clear (exec_when_reach rfl (decide_eq_true hc) h) rfl (by decide +revert)
  case bus => exact fun s h => setsOnly_clear (exec_reach rfl h) rfl (by decide)
  case vp => exact fun s h => setsOnly_clear (exec_reach rfl h) rfl (by decide)
  case status => exact fun s h => setsOnly_clear (exec_reach rfl h) rfl (by decide)
  case scrub => exact fun s h => setsOnly_clear (exec_reach rfl h) rfl (by decide)
  case last => exact fun s h => setsOnly_clear (exec_reach rfl h) rfl (by decide)
  case resync => exact fun s h => setsOnly_set (exec_reach rfl h) rfl rfl
  case cov => exact fun s h => setsOnly_set (exec_reach rfl h) rfl rfl
  case alert => exact fun s i h => setsOnly_clear (exec_reach rfl h) rfl (by decide)
  case ecc => exact fun s i h => setsOnly_clear (exec_reach rfl h) rfl (by decide)
  case found => exact fun s i h => setsOnly_clear (exec_reach rfl h) rfl (by decide)
  case grs => exact fun s h => setsOnly_clear (exec_when rfl h) rfl (by decide)
  case trio => exact fun s h => setsOnly_clear (exec_reach rfl h) rfl (by decide)
  case port => exact fun s p h => setsOnly_clear (exec_reach rfl h) rfl (by decide)
  case lane => exact fun s i h => setsOnly_set (exec_reach rfl h) rfl rfl
  case temp =>
    intro s i hi h hlo hhi
    refine ⟨_, exec_when_reach rfl (decide_eq_true hi) h, (onlyRegs_set ..).mono fun f j k h => h, ?_⟩
    have hw : Fld.TEL_TEMP_MAX.desc.width = 15 := rfl
    rw [State.geti, State.get_seti_same, hw]
    exact toSigned_ofSigned (w := 14) hlo hhi

end Sys2Proof.Machine
end

section
/-! PROOF. The USB service port. -/

namespace Sys2Proof.Machine

-- One lemma after the other: elaborated side by side, they ask for more threads than the compile may have.
set_option Elab.async false

/-! ## The USB port -/

/-- Widths of fields. -/
theorem usb_widths : Fld.USB_STATUS_VBUS.desc.width = 1 ∧ Fld.USB_STATUS_SUSPENDED.desc.width = 1 ∧ Fld.USB_STATUS_HS.desc.width = 1 ∧
    Fld.USB_STATUS_CONFIGURED.desc.width = 1 ∧ Fld.USB_STATUS_ADDRESS.desc.width = 7 :=
  ⟨rfl, rfl, rfl, rfl, rfl⟩

/-- A request on EP0 that no transfer in hand and no waiting write holds up is served. -/
theorem exec_usbRequest {i : Instr} {s : State} {f : State → State} (hi : exec i s = .next (s.usbRequest f)) (h : s.usbOn = true)
    (hd : s.usb.due = []) (ho : s.usb.open_ = false) : exec i s = .next (f s) := by
  rw [hi, State.usbRequest, State.when_of _ _ h, hd, State.usbAbandon, ho]
  rfl

/-- A request on EP0 while written words wait to be applied. -/
theorem exec_usbRequest_nak {i : Instr} {s : State} {f : State → State} (hi : exec i s = .next (s.usbRequest f)) (h : s.usbOn = true)
    (hd : s.usb.due ≠ []) : exec i s = .next (s.out (.reply "NAK" [])) := by
  rw [hi, State.usbRequest, State.when_of _ _ h, if_neg (by simpa using hd)]

/-- What a guarded value is, where there is one. -/
theorem ite_some_eq {α : Type} {c : Prop} [Decidable c] {x y : α} (h : (if c then some x else none) = some y) : c ∧ x = y := by
  split at h
  case isTrue hc => exact ⟨hc, Option.some.inj h⟩
  case isFalse => cases h

/-- A place of a block holds a register, or is empty. -/
theorem Block.at_ne_moving (b : Block) (i o : Nat) : b.at i o ≠ .moving := by
  unfold Block.at
  split
  case h_1 x hx =>
    obtain ⟨r, -, hr⟩ := List.exists_of_findSome?_eq_some hx
    obtain ⟨-, rfl⟩ := ite_some_eq hr
    exact Spot.noConfusion
  case h_2 => exact Spot.noConfusion

/-- Outside the odd period of a layout rewrite no block moves. -/
theorem State.moving_eq_false {s : State} (h : s.gristDue = []) (b : Block) (i : Nat) : s.moving b i = false := by
  rw [State.moving, h]
  rfl

/-- Outside the odd period of a layout rewrite no place is of a moving block. -/
theorem State.spot_ne_moving {s : State} (h : s.gristDue = []) (o : Nat) : s.spot o ≠ .moving := by
  have ha : ∀ (c : Prop) [Decidable c] (b : Block) (j q : Nat), (if c then b.at j q else .empty) ≠ .moving := by
    intro c _ b j q
    split
    · exact Block.at_ne_moving _ _ _
    · exact Spot.noConfusion
  unfold State.spot
  split
  case isTrue => exact ha _ _ _ _
  split
  case isTrue => exact Block.at_ne_moving _ _ _
  split
  case isTrue => split <;> exact Spot.noConfusion
  split
  case h_1 =>
    rw [State.moving_eq_false h, if_neg (by decide)]
    exact ha _ _ _ _
  case h_2 => simp [h]

/-- Places of no moving block count as none. -/
theorem State.stale_none {s : State} (h : s.gristDue = []) (l : List Nat) :
    l.foldl (fun (x : State) o => if x.spot o == .moving then x.stale else x) s = s := by
  induction l with
  | nil => rfl
  | cons o l ih => rwa [List.foldl_cons, if_neg (by simpa using State.spot_ne_moving h o)]

/-- Two words for two lower places are applied one after the other. -/
theorem State.svcWords_two {s : State} {r r2 : Reg} {i k i2 k2 o v p w : Nat} (hs : s.spot o = .reg r i k false)
    (hp : s.spot p = .reg r2 i2 k2 false) : s.svcWords [(o, v), (p, w)] = (s.svcWord o v).svcWord p w := by
  unfold State.svcWords
  simp only [hs, hp]
  rfl

/-- Two words for the halves of one register are one write of both. -/
theorem State.svcWords_halves {s : State} {r r2 : Reg} {i k i2 k2 o v p w : Nat} (hs : s.spot o = .reg r i k false)
    (hp : s.spot p = .reg r2 i2 k2 true) :
    s.svcWords [(o, v), (p, w)] = s.writeReg false r i k (v + w * 2 ^ 32) (hiMask + loMask) := by
  unfold State.svcWords
  simp only [hs, hp]
  rfl

/-- One word for a 32-bit place. -/
theorem State.svcWord_lower {s : State} {r : Reg} {i k o v : Nat} (hr : r ≠ .USB_CTRL) (hs : s.spot o = .reg r i k false) :
    s.svcWord o v = s.writeReg false r i k v loMask := by
  unfold State.svcWord
  rw [hs]
  exact if_neg (by simpa using hr)

/-- Where no word waits, nothing changes when none is left. -/
theorem State.usb_due_nil {s : State} (h : s.usb.due = []) : ({ s with usb := { s.usb with due := [] } } : State) = s := by rw [← h]

/-- Settles O23: it holds. Each event of the bus is one short change of USB_STATUS and the queue of EP1, and each request is served by its own branch. -/
theorem usbPort : Obligations.UsbPort := by
  unfold Obligations.UsbPort
  refine ⟨?attach, ?suspend, ?resume, ?busReset, ?detach, ?abandon, ?ep1, ?info, ?read, ?write, ?gated, ?applyOne, ?applyTwo, ?applyPair, ?applyNone,
    ?peek, ?address, ?configure, ?unknown, ?nak⟩
  case attach => exact fun s h => ⟨_, exec_when rfl h, onlyRegs_set .., by simp [table_form, usb_widths]⟩
  case suspend => exact fun s h => ⟨_, exec_when rfl h, onlyRegs_set .., by simp [table_form, usb_widths]⟩
  case resume => exact fun s h => ⟨_, exec_when rfl h, onlyRegs_set .., by simp [table_form, usb_widths]⟩
  case busReset =>
    intro s hs h
    refine ⟨_, exec_when rfl h, ?_⟩
    unfold State.usbAbandon
    cases ho : s.usb.open_ <;> simp [table_form, usb_widths, ho]
  case detach =>
    intro s hp hv ho
    refine ⟨_, exec_when rfl (by rw [hp, hv]; rfl), ?_⟩
    unfold State.usbIdle
    simp [table_form, usb_widths, ho]
  case abandon =>
    intro s h ho
    refine ⟨_, exec_when rfl h, ?_⟩
    unfold State.usbAbandon
    simp [table_form, ho]
  case ep1 =>
    intro s e l h hc hh he
    refine ⟨_, exec_when rfl (by rw [h, hc, hh]; rfl), ?_⟩
    rw [he]
    exact ⟨rfl, rfl, rfl⟩
  case info =>
    intro s h hd ho
    refine ⟨_, exec_usbRequest rfl h hd ho, _, ?_, rfl⟩
    rw [List.length_map, List.length_take, List.length_append, List.length_replicate]
    omega
  case read =>
    intro s o n h hd ho hw hg
    refine ⟨_, exec_usbRequest rfl h hd ho, ?_⟩
    rw [if_pos hw]
    dsimp only
    rw [State.stale_none hg, State.usbData, State.drawn, show (s.out _).gristDue = [] from hg, List.flatMap_map]
    rfl
  case write =>
    intro s o n w h hd ho hw hl hg
    refine ⟨_, exec_usbRequest rfl h hd ho, ?_⟩
    rw [hw, hl, beq_self_eq_true, if_neg (by decide), if_neg (by decide), if_pos hg]
    exact ⟨rfl, rfl⟩
  case gated =>
    intro s o n w h hd ho hw hl hg
    refine ⟨_, exec_usbRequest rfl h hd ho, ?_⟩
    rw [hw, hl, beq_self_eq_true, if_neg (by decide), if_neg (by decide), if_neg (by rw [hg]; decide)]
    exact ⟨rfl, rfl⟩
  case applyOne =>
    intro s r i k o v hp hd hv hr hs
    refine ⟨_, exec_when rfl hp, ?_⟩
    rw [hd]
    exact State.svcWord_lower hr hs
  case applyTwo =>
    intro s u r r2 i k i2 k2 o v w hp hd hr hr2 hs hs2 hu hu2
    refine ⟨_, exec_when rfl hp, ?_⟩
    rw [hd]
    have hx := State.svcWords_two (s := { s with usb := { s.usb with due := [] } }) (v := v) (w := w) hs hs2
    have hv := State.svcWord_lower (s := { s with usb := { s.usb with due := [] } }) (v := v) hr hs
    exact hx.trans ((congrArg (State.svcWord · (o + 4) w) (hv.trans hu.symm)).trans (State.svcWord_lower hr2 hu2))
  case applyPair =>
    intro s r i k o v w hp hd hs hs2
    refine ⟨_, exec_when rfl hp, ?_⟩
    rw [hd]
    exact State.svcWords_halves hs hs2
  case applyNone =>
    intro s hp hd
    refine ⟨_, exec_when rfl hp, ?_⟩
    rw [hd]
    exact State.usb_due_nil hd
  case peek =>
    intro s h hd ho hl
    refine ⟨_, exec_usbRequest rfl h hd ho, ?_⟩
    rw [if_pos ⟨rfl, rfl, rfl⟩, if_neg (by simpa using hl)]
    rfl
  case address =>
    intro s a h hd ho hc ha
    refine ⟨_, exec_usbRequest rfl h hd ho, ?_⟩
    unfold State.usbStandard
    have hm : a % 128 = a := Nat.mod_eq_of_lt ha
    simp [table_form, usb_widths, ha, hm, show rd s.regs .USB_STATUS_CONFIGURED 0 0 ≠ 1 by simpa [table_form] using hc]
  case configure =>
    intro s h hd ho ha
    refine ⟨_, exec_usbRequest rfl h hd ho, ?_⟩
    unfold State.usbStandard
    simp [table_form, usb_widths, show rd s.regs .USB_STATUS_ADDRESS 0 0 ≠ 0 from ha]
  case unknown => exact fun s v x n h hd ho => ⟨_, exec_usbRequest rfl h hd ho, rfl⟩
  case nak => exact fun s v x n h hd => ⟨_, exec_usbRequest_nak rfl h hd, rfl⟩

end Sys2Proof.Machine
end

section
/-! PROOF. Accesses of registers. -/

namespace Sys2Proof.Machine

-- One lemma after the other: elaborated side by side, they ask for more threads than the compile may have.
set_option Elab.async false

/-! ## Accesses of registers -/

section
variable {s : State} {fw : Bool} {o v i k : Nat} {r : Reg}

/-- A 4-byte read of BAR0. -/
theorem exec_read32 (ho : o % 4 = 0) (hb : o < bar2Base) : exec (.reg64LowerRead fw o) s = .next (s.read32 fw o) :=
  (exec_when rfl (by rw [ho]; rfl)).trans (by rw [if_neg (by omega)]; rfl)

/-- An 8-byte read of BAR0. -/
theorem exec_read64 (ho : o % 4 = 0) (hb : o < bar2Base) : exec (.reg64LowerRead fw o true) s = .next (s.read64 fw o) :=
  (exec_when rfl (by rw [ho]; rfl)).trans (by rw [if_neg (by omega)]; rfl)

/-- A 4-byte write of BAR0. -/
theorem exec_write32 (ho : o % 4 = 0) (hb : o < bar2Base) : exec (.registerWrite fw false o v) s = .next (s.write32 fw o v) :=
  (exec_when rfl (by rw [ho]; rfl)).trans (by rw [if_neg (by omega)]; rfl)

/-- An 8-byte write of BAR0. -/
theorem exec_write64 (ho : o % 4 = 0) (hb : o < bar2Base) : exec (.registerWrite fw true o v) s = .next (s.write64 fw o v) :=
  (exec_when rfl (by rw [ho]; rfl)).trans (by rw [if_neg (by omega)]; rfl)

/-- A 4-byte write of BAR2 by the host. -/
theorem exec_bar2Write (ho : o % 4 = 0) :
    exec (.registerWrite false false (bar2Base + o) v) s = .next (s.bar2Write o (v % 2 ^ 32)) :=
  (exec_when rfl (by rw [Nat.add_mod, ho]; rfl)).trans (by
    rw [if_pos (Nat.le_add_right ..), Nat.add_sub_cancel_left]
    rfl)

/-- Outside a rewrite of the layout a register reads what it holds. -/
theorem State.regNow_of_settled (h : s.gristDue = []) (r : Reg) (i k : Nat) : s.regNow r i k = s.regRead r i k := by
  unfold State.regNow
  rw [h]
  split
  case h_5 => rfl
  all_goals contradiction

theorem State.drawn_of_settled (h : s.gristDue = []) : s.drawn = s := if_pos (by rw [h]; rfl)

/-- Reads of registers but the time and the stamp queue change nothing but what was read. -/
theorem State.readAct_plain (s : State) (i : Nat) (up : Bool) (h1 : r ≠ .TIME_NS) (h2 : r ≠ .TIME_NS_B) (h3 : r ≠ .ETH_TXTS_ENTRY3) :
    s.readAct r i up = s := by
  unfold State.readAct
  split
  case h_4 => rfl
  all_goals contradiction

/-- A read of a lower half latches the upper half. -/
theorem State.read32_lower (hs : s.spot o = .reg r i k false) (hw : r.desc.width = 64) (hg : s.gristDue = []) (h1 : r ≠ .TIME_NS)
    (h2 : r ≠ .TIME_NS_B) (h3 : r ≠ .ETH_TXTS_ENTRY3) : s.read32 fw o =
      { s with rdata := s.regRead r i k % 2 ^ 32,
               hiLatch := Tab.put HalfKey.lt (fun _ => 0) s.hiLatch ⟨fw, r, i, k⟩ (s.regRead r i k / 2 ^ 32) } := by
  unfold State.read32
  rw [hs]
  simp only [hw, if_true, State.regNow_of_settled hg, State.readAct_plain _ _ _ h1 h2 h3]
  exact State.drawn_of_settled hg

/-- A read of the time takes its shadows as well. -/
theorem State.read32_time (hs : s.spot o = .reg .TIME_NS i k false) (hg : s.gristDue = []) : s.read32 fw o =
    { s.timeNsRead false with rdata := s.regRead .TIME_NS i k % 2 ^ 32 } := by
  have hw : Reg.TIME_NS.desc.width ≠ 64 := by decide
  unfold State.read32
  rw [hs]
  simp only [hw, if_false, State.regNow_of_settled hg]
  exact State.drawn_of_settled hg

/-- A write of a lower half. -/
theorem exec_lowWrite (hs : s.spot o = .reg r i k false) (hw : r.desc.width = 64) :
    exec (.reg64LowerWrite fw o v) s = .next { s with loBuf := Tab.put HalfKey.lt (fun _ => 0) s.loBuf ⟨fw, r, i, k⟩ (v % 2 ^ 32 + 1) } := by
  have he : exec (.reg64LowerWrite fw o v) s = execReg64LowerWrite fw o v s := rfl
  unfold execReg64LowerWrite State.write32 at he
  simp only [hs, hw, beq_self_eq_true, State.when_of, if_true] at he
  exact he

/-- A write of an upper half. -/
theorem exec_upWrite (hs : s.spot o = .reg r i k true) : exec (.reg64UpperWrite fw o v) s = .next (s.write32 fw o v) := by
  have he : exec (.reg64UpperWrite fw o v) s = execReg64UpperWrite fw o v s := rfl
  unfold execReg64UpperWrite at he
  simp only [hs] at he
  exact he

end

/-- Settles O24: it holds. A place is a half of a register, of a moving block or of none; each access has one branch for each. -/
theorem registerAccess : Obligations.RegisterAccess := by
  unfold Obligations.RegisterAccess
  refine ⟨?lower, ?upper, ?wide, ?time, ?empty, ?bar2, ?bells, ?lowWrite, ?upWrite, ?upAlone, ?write, ?writeWide, ?moving, ?nothing⟩
  case lower =>
    intro s fw o i k r ho hb hs hw hg h1 h2 h3
    refine ⟨_, exec_read32 ho hb, ?_⟩
    rw [State.read32_lower hs hw hg h1 h2 h3]
    exact ⟨rfl, Tab.get_put_same .., fun x hx => Tab.get_put_ne _ _ _ _ hx, rfl⟩
  case upper =>
    intro s fw o i k r ho hb hs
    refine ⟨_, exec_read32 ho hb, ?_⟩
    unfold State.read32
    rw [hs]
  case wide =>
    intro s fw o i k r ho hb hs hw hg h1 h2 h3
    refine ⟨_, exec_read64 ho hb, ?_⟩
    unfold State.read64
    simp only [hs, hw, if_true, State.regNow_of_settled hg, State.readAct_plain _ _ _ h1 h2 h3]
    exact State.drawn_of_settled hg
  case time =>
    intro s fw o i k ho hb hs hg
    refine ⟨_, exec_read32 ho hb, ?_⟩
    rw [State.read32_time hs hg]
    exact ⟨rfl, rfl⟩
  case empty =>
    intro s fw o ho hb hs
    refine ⟨_, exec_read32 ho hb, ?_⟩
    unfold State.read32
    rw [hs]
  case bar2 =>
    intro s o ho hb hl
    refine ⟨_, exec_when rfl (by rw [ho]; rfl), ?_⟩
    unfold State.bar2Read
    rw [if_pos hb, if_neg (by decide), if_neg (by omega), if_neg (by omega)]
    rfl
  case bells =>
    intro s n v hn hv
    have hm : v % 2 ^ 32 = v := Nat.mod_eq_of_lt hv
    refine ⟨⟨_, exec_bar2Write (o := 16 * n) (by omega), ?_⟩, ⟨_, exec_bar2Write (o := 16 * n + 4) (by omega), ?_⟩, ⟨_, exec_bar2Write (o := 16 * n + 8) (by omega), ?_⟩⟩
    · rw [hm]
      exact exec_when (f := fun s => s.bar2Write (16 * n) v) rfl (decide_eq_true hn)
    · rw [hm]
      exact exec_when (f := fun s => s.bar2Write (16 * n + 4) v) rfl (decide_eq_true hn)
    · unfold State.bar2Write
      rw [if_pos (by omega), if_neg (by omega), if_neg (by omega)]
  case lowWrite =>
    intro s fw o v i k r hs hw
    refine ⟨_, exec_lowWrite hs hw, ?_, rfl⟩
    exact Tab.get_put_same HalfKey.lt (fun _ => 0) s.loBuf ⟨fw, r, i, k⟩ (v % 2 ^ 32 + 1)
  case upWrite =>
    intro s fw o v i k x r hs hx
    refine ⟨_, exec_upWrite hs, ?_⟩
    unfold State.write32
    simp only [hs, hx, Nat.add_one_ne_zero, if_false, Nat.add_sub_cancel]
  case upAlone =>
    intro s fw o v i k r hs hx
    refine ⟨_, exec_upWrite hs, ?_⟩
    unfold State.write32
    simp only [hs, hx, if_true]
  case write =>
    intro s fw o v i k r ho hb hs hw
    refine ⟨_, exec_write32 ho hb, ?_⟩
    unfold State.write32
    rw [hs]
    exact if_neg (by rw [hw]; decide)
  case writeWide =>
    intro s fw o v i k r ho hb hs hw
    refine ⟨_, exec_write64 (by omega) hb, ?_⟩
    unfold State.write64
    rw [hs]
    exact if_pos hw
  case moving =>
    intro s fw o v ho hb hs
    refine ⟨_, exec_write32 ho hb, ?_⟩
    unfold State.write32
    rw [hs]
    rfl
  case nothing =>
    intro s fw o v ho hb hs
    refine ⟨_, exec_write32 ho hb, ?_⟩
    unfold State.write32
    rw [hs]

end Sys2Proof.Machine
end

section
/-! PROOF. Slices, lines and pauses of a tun. -/

namespace Sys2Proof.Machine

-- One lemma after the other: elaborated side by side, they ask for more threads than the compile may have.
set_option Elab.async false

/-! ## Slices, lines and pauses of a tun -/

/-- A change of one channel alone. -/
def OnlyChan (t : Nat) (s x : State) : Prop := x = { s with chans := x.chans } ∧ ∀ n, n ≠ t → x.chan n = s.chan n

theorem OnlyChan.refl (t : Nat) (s : State) : OnlyChan t s s := ⟨rfl, fun _ _ => rfl⟩

theorem OnlyChan.trans {t : Nat} {s x y : State} (h : OnlyChan t s x) (h' : OnlyChan t x y) : OnlyChan t s y :=
  ⟨by rw [h'.1, h.1], fun n hn => (h'.2 n hn).trans (h.2 n hn)⟩

theorem OnlyChan.setChan (s : State) (t : Nat) (c : Chan) : OnlyChan t s (s.setChan t c) := ⟨rfl, fun _ hn => State.chan_setChan_ne _ _ hn⟩

theorem OnlyChan.set_frame {t : Nat} {s x : State} (h : OnlyChan t s x) (f : Fld) (v i k : Nat) :
    x.set f v i k = { s with chans := (x.set f v i k).chans, regs := (x.set f v i k).regs } := by
  have hx := h.1
  generalize x.chans = c at hx
  subst hx
  rfl

/-- The tables of a tun prepared or dropped: the lines that it holds stay. -/
def TablesOnly (t : Nat) (s x : State) : Prop := OnlyChan t s x ∧ (x.chan t).stage = (s.chan t).stage ∧ (x.chan t).lead = (s.chan t).lead

theorem TablesOnly.refl (t : Nat) (s : State) : TablesOnly t s s := ⟨.refl t s, rfl, rfl⟩

theorem TablesOnly.trans {t : Nat} {s x y : State} (h : TablesOnly t s x) (h' : TablesOnly t x y) : TablesOnly t s y :=
  ⟨h.1.trans h'.1, h'.2.1.trans h.2.1, h'.2.2.trans h.2.2⟩

theorem TablesOnly.setChan {s : State} {t : Nat} {c : Chan} (hs : c.stage = (s.chan t).stage) (hl : c.lead = (s.chan t).lead) :
    TablesOnly t s (s.setChan t c) :=
  ⟨.setChan .., by rw [State.chan_setChan, hs], by rw [State.chan_setChan, hl]⟩

theorem State.sramWr_tables (s : State) (t a : Nat) (bs : List Byte) : TablesOnly t s (s.sramWr t a bs) := .setChan rfl rfl

theorem State.writeBank_tables (s : State) (t b : Nat) (map : List Nat) (param : List Byte) (curves : List (Nat × List Byte)) :
    TablesOnly t s (s.writeBank t b map param curves) := by
  have hc : ∀ (l : List (Nat × List Byte)) (x : State),
      TablesOnly t x (l.foldl (fun s k => s.sramWr t (s.regionBase t regCurve + 320 * k.1) k.2) x) := by
    intro l
    induction l with
    | nil => exact fun x => .refl t x
    | cons k l ih => exact fun x => (State.sramWr_tables ..).trans (ih _)
  exact ((hc curves s).trans (State.sramWr_tables ..)).trans (State.sramWr_tables ..)

theorem State.freeBlock_tables (s : State) (t y : Nat) : TablesOnly t s (s.freeBlock t y) := .setChan rfl rfl

theorem State.prepShadow_tables (s : State) (t : Nat) : TablesOnly t s (s.prepShadow t) := by
  unfold State.prepShadow
  extract_lets stale c u
  have hu : TablesOnly t s u := by
    unfold u
    split
    · exact .setChan rfl rfl
    · exact .refl t s
  refine hu.trans ?_
  split
  case h_1 => exact .refl t u
  case h_2 =>
    split_ifs
    case pos => exact .refl t u
    case neg =>
      split
      case h_1 => exact .refl t u
      case h_2 =>
        dsimp only
        split_ifs
        case pos => exact .refl t u
        case neg => exact (State.writeBank_tables ..).trans (.setChan rfl rfl)

/-! The channels while fields of registers are written. -/

@[simp] theorem State.chan_set (s : State) (f : Fld) (v i k c : Nat) : (s.set f v i k).chan c = s.chan c := rfl
@[simp] theorem State.chan_on (s : State) (f : Fld) (i k c : Nat) : (s.on f i k).chan c = s.chan c := rfl
@[simp] theorem State.chan_off (s : State) (f : Fld) (i k c : Nat) : (s.off f i k).chan c = s.chan c := rfl
@[simp] theorem State.chan_bump (s : State) (f : Fld) (n i k c : Nat) : (s.bump f n i k).chan c = s.chan c := rfl

/-- The STAGE slot of a line: zeros, unless an engine has opened it. -/
def State.stageOpened (s : State) (t y : Nat) : State :=
  if (s.chan t).stage.any (fun e => e.1 == y) then s
  else s.setChan t { s.chan t with stage := store [] (s.chan t).stage y (List.replicate (s.tunNozzles t) 0) }

theorem State.stageOpened_only (s : State) (t y : Nat) : OnlyChan t s (s.stageOpened t y) := by
  unfold State.stageOpened
  split
  · exact .refl t s
  · exact .setChan ..

theorem State.stageOpened_new {s : State} {t y : Nat} (h : (s.chan t).stage.any (fun e => e.1 == y) = false) :
    ((s.stageOpened t y).chan t).stage = store [] (s.chan t).stage y (List.replicate (s.tunNozzles t) 0) := by
  unfold State.stageOpened
  rw [h, if_neg (by decide), State.chan_setChan]

theorem State.stageOpened_old {s : State} {t y : Nat} (h : (s.chan t).stage.any (fun e => e.1 == y) = true) : s.stageOpened t y = s := if_pos h

theorem State.stageOpened_lead (s : State) (t y : Nat) : ((s.stageOpened t y).chan t).lead = (s.chan t).lead := by
  unfold State.stageOpened
  split
  · rfl
  · rw [State.chan_setChan]

/-- The engine of a slice that starts. -/
def State.startedEng (s : State) (t m y : Nat) : Eng :=
  { s.eng t m with running := true, waiting := false, line := y, pc := s.prog t (0x084 + 32 * m) 2, cyc := 0 }

/-- The start of a slice. -/
def State.sliceStarted (s : State) (t m y : Nat) : State :=
  ((((s.stageOpened t y).setEng t m (s.startedEng t m y)).freeBlock t y).prepShadow t)

theorem State.sliceStarted_tables (s : State) (t m y : Nat) :
    TablesOnly t ((s.stageOpened t y).setEng t m (s.startedEng t m y)) (s.sliceStarted t m y) :=
  (State.freeBlock_tables ..).trans (State.prepShadow_tables ..)

theorem State.startedEng_eq (s : State) (t m y : Nat) : s.startedEng t m y =
    { s.eng t m with running := true, waiting := false, line := y, pc := s.prog t (0x084 + 32 * m) 2, cyc := 0 } := rfl

theorem exec_sliceStart {s : State} {t m y : Nat} (ht : t < 64) (hu : s.engUsed t m = true) (hr : (s.eng t m).running = false)
    (hf : s.fenced 2 t = false) (hl : s.is .TUN_STATUS_LOADED t = true) (hn : s.nextSlice t m = some y) (hs : s.stageFree t y = true)
    (hh : s.screenHeld t y = false) (hp : ∀ p, (s.chan t).pause = some p → y < p) (hc : s.clocked = true) :
    exec (.sliceStart t m) s = .next (s.sliceStarted t m y) := by
  have he : exec (.sliceStart t m) s = execSliceStart t m s := rfl
  have hq : (match (s.chan t).pause with | some p => decide (y < p) | none => true) = true := by
    cases h : (s.chan t).pause with
    | none => rfl
    | some p => exact decide_eq_true (hp p h)
  unfold execSliceStart at he
  simp only [hn] at he
  rw [State.when_of _ _ (by simp only [ht, hu, hr, hf, hl, hc, hs, hh, decide_true, Bool.not_false, Bool.and_self]; exact hq)] at he
  refine he.trans ?_
  unfold State.sliceStarted State.stageOpened
  split <;> rfl

theorem State.switchGen_frame (s : State) (t y : Nat) :
    s.switchGen t y = { s with chans := (s.switchGen t y).chans, regs := (s.switchGen t y).regs } :=
  ((OnlyChan.setChan s t _).trans (.setChan ..)).set_frame _ _ t 0

/-- The end of a pause. -/
def State.unpaused (s : State) (t : Nat) (late : Bool) : State :=
  let s := s.setChan t { s.chan t with pause := none, pauseStep := 0 }
  let s := (s.off .TUN_STATUS_PAUSED t).bump .TUN_PAUSE_COUNT 1 t
  if late then s.bump .TUN_PAUSE_OVER 1 t else s

theorem State.unpaused_reads (s : State) (t : Nat) (late : Bool) : ((s.unpaused t late).chan t).pause = none ∧
    ((s.unpaused t late).chan t).pauseStep = 0 ∧ (s.unpaused t late).is .TUN_STATUS_PAUSED t = false := by
  unfold State.unpaused
  cases late <;> simp [table_form, State.chan, State.setChan]

/-- Settles O26: it holds. Each event of a tun writes its own channel and engine; the tables prepared beside leave the lines alone. -/
theorem tunLines : Obligations.TunLines := by
  unfold Obligations.TunLines
  refine ⟨?start, ?idle, ?complete, ?discard, ?overrun, ?fault, ?pause, ?load, ?generation⟩
  case start =>
    intro s t m y ht hu hr hf hl hn hs hh hp hc
    obtain ⟨⟨hx, hch⟩, hst, hld⟩ := s.sliceStarted_tables t m y
    obtain ⟨hy, hyc⟩ := s.stageOpened_only t y
    refine ⟨_, exec_sliceStart ht hu hr hf hl hn hs hh hp hc, ?_, ?_, ?_, ?_, ?_, ?_, ?_⟩
    · rw [State.eng, hx]
      exact (State.eng_setEng ..).trans (by rw [State.startedEng_eq])
    · intro hne
      rw [hst]
      refine (congrArg (look [] · y) (State.stageOpened_new hne)).trans (look_store_same ..)
    · intro he
      rw [hst]
      refine Eq.trans ?_ (congrArg (fun x => (State.chan x t).stage) (State.stageOpened_old he))
      rfl
    · rw [hld]
      exact State.stageOpened_lead ..
    · intro n hne
      rw [hx]
      refine (look_store_ne _ _ _ hne).trans ?_
      rw [hy]
    · exact fun n hne => (hch n hne).trans (hyc n hne)
    · rw [hx]
      show ({ s.stageOpened t y with engs := _, chans := _ } : State) = _
      rw [hy]
  case idle =>
    intro s t m hc
    have he : exec (.sliceStart t m) s = execSliceStart t m s := rfl
    unfold execSliceStart at he
    refine ⟨s, ?_, rfl⟩
    split at he
    · exact he
    · rw [he, State.when, if_neg (by simp [hc])]
  case complete =>
    intro s t y codes rest hs ht h2 h1 hj hl
    have he : exec (.lineComplete t) s = execLineComplete t s := rfl
    unfold execLineComplete at he
    simp only [hs] at he
    rw [State.when_of _ _ (by simp [ht, h2, h1, hl, State.lineDone]; exact hj)] at he
    refine ⟨_, he, ?_⟩
    rw [h1, h2]
    exact ⟨State.chan_setChan .., fun n hn => State.chan_setChan_ne _ _ hn, State.get_set_same .., rfl⟩
  case discard =>
    intro s t y codes rest hs ht ho hj
    have he : exec (.lineComplete t) s = execLineComplete t s := rfl
    unfold execLineComplete at he
    simp only [hs] at he
    have hout : (s.fenced 1 t || s.fenced 2 t) = true := by rcases ho with h | h <;> simp [h]
    rw [State.when_of _ _ (by simp [ht, hout, State.lineDone]; exact hj)] at he
    refine ⟨_, he, ?_⟩
    rw [hout]
    exact State.chan_setChan ..
  case overrun => exact fun s t m ht hr => ⟨_, exec_when rfl (by simp [ht, hr]), rfl⟩
  case fault =>
    intro s t m code n ht hm h1 h2 h3 h4
    refine ⟨_, exec_when rfl (by simp [ht, hm, h1, h2, h3, h4]), rfl, State.faultTun_fenced s ht .., ?_⟩
    rw [State.get_faultTun _ _ _ _ _ (by decide)]
    unfold State.faultNoted
    rw [State.bump_eq, State.get_set_same]
    split
    case isTrue =>
      rw [State.get_set_fld _ (by decide), State.get_set_fld _ (by decide), State.get_set_fld _ (by decide), State.get_set_fld _ (by decide)]
      exact min_mod_width ..
    case isFalse => exact min_mod_width ..
  case pause =>
    intro s t y c hp ht hs hf hpw hr
    have he : exec (.tunPausePoint t) s = execTunPausePoint t s := rfl
    unfold execTunPausePoint at he
    simp only [hp] at he
    rw [State.when_of _ _ (by simp [ht, hs, hf, hpw]; exact hr)] at he
    refine ⟨_, he, ?_, ?_, ?_, rfl⟩
    · rw [State.chan_on, State.chan_setChan]
    · rw [State.chan_on, State.chan_setChan]
    · rw [State.is, (raised rfl ..).2]
      rfl
  case load =>
    intro s t y late c hp ht hs hst hr
    have he : exec (.tunProgLoadDone t late) s = execTunProgLoadDone t late s := rfl
    have ha : (List.range 16).all (fun m => !(s.eng t m).running) = true := by
      simp only [List.all_eq_true, List.mem_range, Bool.not_eq_true']
      exact hr
    unfold execTunProgLoadDone at he
    simp only [hp] at he
    rw [State.when_of _ _ (by simp only [ht, hs, hst, ha, List.isEmpty_nil, and_self, decide_true, Bool.and_self])] at he
    refine ⟨_, he, ?_⟩
    exact State.unpaused_reads _ t late
  case generation =>
    intro s t ht hp
    refine ⟨_, exec_when rfl (by simp [ht, hp]), ?_⟩
    have hf := s.switchGen_frame t (s.screenNext t)
    refine ⟨?_, ?_, ?_, ?_, ?_, ?_, hf⟩
    all_goals unfold State.switchGen State.willClear
    case refine_5 => exact State.get_set_same ..
    case refine_6 => exact fun n hn => (State.chan_setChan_ne _ _ hn).trans (State.chan_setChan_ne _ _ hn)
    all_goals rw [State.chan_set, State.chan_setChan, State.chan_setChan]

end Sys2Proof.Machine
end

section
/-! PROOF. The stages of a change set. -/

namespace Sys2Proof.Machine

-- One lemma after the other: elaborated side by side, they ask for more threads than the compile may have.
set_option Elab.async false

/-! ## The stages of a change set -/

/-- Tables prepared beside touch channels alone. -/
theorem State.prepShadows_frame (s : State) : s.prepShadows = { s with chans := s.prepShadows.chans } := by
  unfold State.prepShadows State.each
  generalize List.range 64 = l
  induction l generalizing s with
  | nil => rfl
  | cons t l ih =>
    have ht := (s.prepShadow_tables t).1.1
    rw [List.foldl_cons, ih]
    generalize (s.prepShadow t).chans = c at ht
    rw [ht]

/-- The floors of the change sets are in the order of the sets. -/
theorem State.setFloors_sets (s : State) : s.setFloors.map Prod.fst = s.sets := by
  unfold State.setFloors
  have h : ∀ (l : List ChangeSet) (a : Nat × List (ChangeSet × Nat × Option (Nat × Nat))),
      ((l.foldl (fun (a : Nat × List (ChangeSet × Nat × Option (Nat × Nat))) x =>
        let c := match x.line with
          | some y => some (y, x.rule)
          | none => if x.others.isEmpty then s.chooseLine x a.1 else none
        (match c with | some y => max a.1 y.1 | none => a.1, a.2 ++ [(x, a.1, c)])) a).2).map Prod.fst = a.2.map Prod.fst ++ l := by
    intro l
    induction l with
    | nil => exact fun a => (List.append_nil _).symm
    | cons x l ih =>
      intro a
      rw [List.foldl_cons, ih]
      simp
  exact (h s.sets (0, [])).trans (List.nil_append _)

/-- The first set with no line yet. -/
theorem State.openSet_of_floor {s : State} {e : ChangeSet × Nat × Option (Nat × Nat)}
    (h : s.setFloors.find? (fun e => e.1.line.isNone) = some e) : s.sets.find? (fun x => x.line.isNone) = some e.1 := by
  rw [← s.setFloors_sets, List.find?_map]
  exact congrArg (Option.map Prod.fst) h

/-- The first element of a kind is the first of a narrower kind when it is of that kind. -/
theorem find?_of_imp {α : Type} {p q : α → Bool} {l : List α} {a : α} (h : l.find? p = some a) (ha : q a = true)
    (hq : ∀ b, q b = true → p b = true) : l.find? q = some a := by
  induction l with
  | nil => cases h
  | cons b l ih =>
    by_cases hb : p b = true
    · rw [List.find?_cons_of_pos hb] at h
      obtain rfl := Option.some.inj h
      exact List.find?_cons_of_pos ha
    · rw [List.find?_cons_of_neg hb] at h
      rw [List.find?_cons_of_neg fun hc => hb (hq b hc)]
      exact ih h

/-- That set under its handle. -/
theorem State.openSet {s : State} {x : ChangeSet} {c : Nat × Option (Nat × Nat)}
    (h : s.setFloors.find? (fun e => e.1.line.isNone) = some (x, c)) :
    s.sets.find? (fun z => z.handle == x.handle && z.line.isNone) = some x := by
  have ho := State.openSet_of_floor h
  refine find?_of_imp ho ?_ fun b hb => ((Bool.and_eq_true ..).mp hb).2
  rw [beq_self_eq_true, Bool.true_and]
  exact List.find?_some (p := fun x : ChangeSet => x.line.isNone) ho

/-- The sets once the composites of a set that spans devices are known. -/
def afterSet (h : Nat) (l : List (Nat × Nat)) (x : ChangeSet) : ChangeSet := if x.handle = h then { x with after := l } else x

theorem State.setAfter_eq (s : State) (h : Nat) (l : List (Nat × Nat)) : s.setAfter h l = { s with sets := s.sets.map (afterSet h l) } := rfl

theorem afterSet_of_other {h : Nat} {x : ChangeSet} (hx : x.handle ≠ h) (l : List (Nat × Nat)) : afterSet h l x = x := if_neg hx

theorem afterSet_same (x : ChangeSet) (l : List (Nat × Nat)) : afterSet x.handle l x = { x with after := l } := if_pos rfl

/-- What they leave of a set. -/
theorem afterSet_keeps (h : Nat) (l : List (Nat × Nat)) (x : ChangeSet) : (afterSet h l x).handle = x.handle ∧ (afterSet h l x).line = x.line ∧
    (afterSet h l x).image = x.image := by
  unfold afterSet
  split <;> exact ⟨rfl, rfl, rfl⟩

theorem State.setAfter_find {s : State} {x : ChangeSet} (h : s.sets.find? (fun z => z.handle == x.handle && z.line.isNone) = some x)
    (l : List (Nat × Nat)) : (s.setAfter x.handle l).sets.find? (fun z => z.handle == x.handle && z.line.isNone) = some { x with after := l } := by
  have hc : (fun z : ChangeSet => z.handle == x.handle && z.line.isNone) ∘ afterSet x.handle l =
      fun z => z.handle == x.handle && z.line.isNone := by
    funext z
    obtain ⟨h1, h2, -⟩ := afterSet_keeps x.handle l z
    simp only [Function.comp_apply, h1, h2]
  rw [State.setAfter_eq, List.find?_map, hc, h, Option.map_some, afterSet_same]

theorem State.kilnClash_setAfter (s : State) (x : ChangeSet) (h : Nat) (l a : List (Nat × Nat)) (o : Out) :
    ((s.out o).setAfter h l).kilnClash { x with after := a } = s.kilnClash x := by
  have hw : (fun w : ChangeSet => w.handle != x.handle) ∘ afterSet h l = fun w => w.handle != x.handle := by
    funext z
    simp only [Function.comp_apply, (afterSet_keeps h l z).1]
  have ha : ∀ b : List Byte, (fun w : ChangeSet => w.line.isSome && ((findSect w.image.sects 0x0060 0).map Sect.bytes).any (· != b)) ∘
      afterSet h l = fun w => w.line.isSome && ((findSect w.image.sects 0x0060 0).map Sect.bytes).any (· != b) := by
    intro b
    funext z
    obtain ⟨-, h2, h3⟩ := afterSet_keeps h l z
    simp only [Function.comp_apply, h2, h3]
  unfold State.kilnClash
  refine congrArg₂ (· || ·) rfl ?_
  cases hf : findSect x.image.sects 0x0060 0 with
  | none => simp only
  | some z =>
    simp only
    rw [State.setAfter_eq, List.takeWhile_map, List.any_map, hw, ha]
    rfl

/-- The sets once the choice of a line is final. -/
def finalSets (l : List ChangeSet) (h y r : Nat) : List ChangeSet :=
  l.map (fun z => if z.handle = h then { z with line := some y, rule := r, final := true } else z)

theorem finalSets_afterSets (s : List ChangeSet) (h y r : Nat) (a : List (Nat × Nat)) : finalSets (s.map (afterSet h a)) h y r =
    s.map (fun z => if z.handle = h then { z with after := a, line := some y, rule := r, final := true } else z) := by
  unfold finalSets
  rw [List.map_map]
  refine List.map_congr_left fun z _ => ?_
  by_cases hz : z.handle = h
  · subst hz
    simp [afterSet_same]
  · simp [afterSet_of_other hz, hz]

theorem State.finalLine_meets {s : State} {x : ChangeSet} {y r : Nat}
    (h : s.sets.find? (fun z => z.handle == x.handle && z.line.isNone) = some x) (hk : s.kilnClash x = false) :
    s.finalLine x.handle y r = State.prepShadows { s with sets := finalSets s.sets x.handle y r } := by
  unfold State.finalLine
  rw [h]
  simp only [hk]
  rfl

/-- A set whose Kiln section clashes is dropped, with check 8 recorded. -/
theorem State.finalLine_clashes {s : State} {x : ChangeSet} {y r : Nat}
    (h : s.sets.find? (fun z => z.handle == x.handle && z.line.isNone) = some x) (hk : s.kilnClash x = true) :
    ∃ n, s.finalLine x.handle y r =
      (((s.set .MASH_ERR_STATUS stBadState).set .MASH_ERR_CHECK 8).set .MASH_ERR_SECTION n).dropAs x stBadState := by
  unfold State.finalLine
  rw [h]
  simp only [hk, if_true]
  exact ⟨_, rfl⟩

theorem State.releaseStaged_frame (s : State) (h : Nat) :
    s.releaseStaged h = { s with staged := (s.releaseStaged h).staged, slots := (s.releaseStaged h).slots } := by
  unfold State.releaseStaged
  dsimp only
  split <;> rfl

theorem State.releaseStaged_staged (s : State) (h : Nat) : (s.releaseStaged h).staged = s.staged.filter (fun z => z.handle != h) := by
  unfold State.releaseStaged
  dsimp only
  split <;> rfl

/-- The record of a clash. -/
theorem State.clashNoted_reads (s : State) (n : Nat) :
    let u := ((s.set .MASH_ERR_STATUS stBadState).set .MASH_ERR_CHECK 8).set .MASH_ERR_SECTION n
    u.sets = s.sets ∧ u.kiln = s.kiln ∧ u.sects = s.sects ∧ u.get .MASH_ERR_CHECK = 8 := by
  refine ⟨rfl, rfl, rfl, ?_⟩
  rw [State.get_set_fld _ (by decide), State.get_set_same]
  rfl

/-- A dropped set leaves the others, the Kiln, the sections and MASH_ERR. -/
theorem State.dropAs_reads (s : State) (x : ChangeSet) (st : Nat) : (s.dropAs x st).sets = s.sets.filter (fun z => z.handle != x.handle) ∧
    (s.dropAs x st).kiln = s.kiln ∧ (s.dropAs x st).sects = s.sects ∧
    (s.dropAs x st).get .MASH_ERR_CHECK = s.get .MASH_ERR_CHECK ∧ (s.dropAs x st).staged = s.staged.filter (fun z => z.handle != x.handle) := by
  have ha : ∃ o, (if x.others.isEmpty || !s.activeManager then ({ s with sets := s.sets.filter (fun z => z.handle != x.handle) } : State)
      else State.out { s with sets := s.sets.filter (fun z => z.handle != x.handle) } (.wort "changeSetDropped" (x.handle :: x.others))) =
      { s with sets := s.sets.filter (fun z => z.handle != x.handle), outbox := o } := by
    split <;> exact ⟨_, rfl⟩
  obtain ⟨o, ho⟩ := ha
  unfold State.dropAs State.dropShadows
  rw [show (s.activeManager : Bool) = State.activeManager { s with sets := s.sets.filter (fun z => z.handle != x.handle) } from rfl] at ho
  dsimp only
  rw [ho]
  have hf := State.finish_completes { s with sets := s.sets.filter (fun z => z.handle != x.handle), outbox := o } x.commitOp st 0 0
  generalize State.finish _ x.commitOp st = b at hf
  have hc := (b.releaseStaged x.handle).prepShadows_frame
  have hr := b.releaseStaged_frame x.handle
  have hr' := b.releaseStaged_staged x.handle
  generalize (b.releaseStaged x.handle).prepShadows = d at hc
  generalize b.releaseStaged x.handle = c at hc hr hr'
  exact ⟨by rw [hc, hr, hf.frame], by rw [hc, hr, hf.frame], by rw [hc, hr, hf.frame],
    (congrArg (State.get · .MASH_ERR_CHECK 0 0) hc).trans ((congrArg (State.get · .MASH_ERR_CHECK 0 0) hr).trans (hf.get (by decide) 0 0)),
    by rw [hc, hr', hf.frame]⟩

/-- A section brought into force is recorded with its set. -/
theorem State.recordSwitch_applied (s : State) (h k : Nat) : ∀ w ∈ (s.recordSwitch h [k]).sets, w.handle = h → k ∈ w.applied := by
  intro w hw hh
  obtain ⟨x, -, rfl⟩ := List.mem_map.mp hw
  split
  case isTrue => exact List.mem_cons_self
  case isFalse hn => exact absurd (by rwa [if_neg hn] at hh) hn

theorem State.bring_applied (s : State) (x : ChangeSet) (z : Sect) (y : Nat) :
    ∀ w ∈ (s.bring x z y).sets, w.handle = x.handle → sectKey z.type z.index ∈ w.applied :=
  fun w hw hh => State.recordSwitch_applied _ _ _ w hw hh

/-- A field lowered reads 0. -/
theorem State.is_off_same (s : State) (f : Fld) (i k : Nat) : (s.off f i k).is f i k = false := by
  rw [State.is, State.off_eq, State.get_set_same, Nat.zero_mod]
  rfl

/-- A change comes into force at rest under a rule for it, or at a line that firing has reached. -/
theorem stop_or_reached {r y n : Nat} {a : Bool} (h : (3 ≤ r ∧ a = true) ∨ y ≤ n) : (decide (3 ≤ r) && a || decide (y ≤ n)) = true := by
  rcases h with ⟨hr, rfl⟩ | h <;> simp [*]

/-- Settles O28: it holds. A line becomes final by one write of its set; tables prepared beside touch channels alone. -/
theorem changeSetStages : Obligations.ChangeSetStages := by
  unfold Obligations.ChangeSetStages
  refine ⟨?final, ?clash, ?manager, ?other, ?away, ?swap, ?tables, ?aux, ?pause, ?loop, ?sense, ?pipe, ?gap⟩
  case final =>
    intro s o a g x fl y r hw hf ho hr hk
    have he : exec (.commitLineFinal o a g) s = execCommitLineFinal s o a g := rfl
    unfold execCommitLineFinal at he
    simp only [State.when_of, hw, Bool.not_false, hf, ho, List.isEmpty_nil, if_true, hr] at he
    refine ⟨_, he, ?_⟩
    rw [State.finalLine_meets (State.openSet hf) hk]
    have hp := State.prepShadows_frame { s with sets := finalSets s.sets x.handle y r }
    generalize State.prepShadows _ = p at hp
    rw [hp]
    exact ⟨rfl, rfl⟩
  case clash =>
    intro s o a g x fl y r hw hf ho hr hk
    have he : exec (.commitLineFinal o a g) s = execCommitLineFinal s o a g := rfl
    unfold execCommitLineFinal at he
    simp only [State.when_of, hw, Bool.not_false, hf, ho, List.isEmpty_nil, if_true, hr] at he
    refine ⟨_, he, ?_⟩
    obtain ⟨n, hn⟩ := State.finalLine_clashes (y := y) (r := r) (State.openSet hf) hk
    have hu : State.sets _ = s.sets ∧ State.kiln _ = s.kiln ∧ State.sects _ = s.sects ∧ State.get _ .MASH_ERR_CHECK 0 0 = 8 :=
      s.clashNoted_reads n
    generalize ((s.set .MASH_ERR_STATUS stBadState).set .MASH_ERR_CHECK 8).set .MASH_ERR_SECTION n = u at hn hu
    obtain ⟨u1, u2, u3, u4⟩ := hu
    obtain ⟨h1, h2, h3, h4, -⟩ := u.dropAs_reads x stBadState
    rw [hn]
    exact ⟨h1.trans (by rw [u1]), h2.trans u2, h3.trans u3, h4.trans u4⟩
  case manager =>
    intro s o l g x fl c y r hw hf ho hm hc hk
    have he : exec (.commitLineFinal o (some l) g) s = execCommitLineFinal s o (some l) g := rfl
    unfold execCommitLineFinal at he
    simp only [State.when_of, hw, Bool.not_false, hf, List.isEmpty_iff, ho, if_false, hm, if_true, hc] at he
    refine ⟨_, he, ?_⟩
    have hx := State.finalLine_meets (s := (s.out (.wort "changeSetLine" (y :: s.concerned x))).setAfter x.handle ((s.concerned x).zip l))
      (y := y) (r := r) (x := { x with after := (s.concerned x).zip l })
      (State.setAfter_find (s := s.out (.wort "changeSetLine" (y :: s.concerned x))) (State.openSet hf) _) ((State.kilnClash_setAfter ..).trans hk)
    have hp := State.prepShadows_frame { (s.out (.wort "changeSetLine" (y :: s.concerned x))).setAfter x.handle ((s.concerned x).zip l) with
      sets := finalSets ((s.out (.wort "changeSetLine" (y :: s.concerned x))).setAfter x.handle ((s.concerned x).zip l)).sets x.handle y r }
    rw [hx]
    generalize State.prepShadows _ = p at hp
    rw [hp]
    exact ⟨rfl, rfl, finalSets_afterSets ..⟩
  case other =>
    intro s o a x fl c y r hw hf ho hm hc hk
    have he : exec (.commitLineFinal o a (some y)) s = execCommitLineFinal s o a (some y) := rfl
    unfold execCommitLineFinal at he
    simp only [State.when_of, hw, Bool.not_false, hf, List.isEmpty_iff, ho, if_false, hm, Bool.false_eq_true, hc] at he
    refine ⟨_, he, ?_⟩
    rw [State.finalLine_meets (State.openSet hf) hk]
    have hp := State.prepShadows_frame { s with sets := finalSets s.sets x.handle y r }
    generalize State.prepShadows _ = p at hp
    rw [hp]
    exact ⟨rfl, rfl, rfl⟩
  case away => exact fun s o a g hw => ⟨s, exec_of rfl (if_neg (by rw [hw]; decide)), rfl⟩
  case swap =>
    intro s x z k i y hs hc hk hr hg
    have he : exec (.changeSetStageSwitch k i) s = execChangeSetStageSwitch k i s := rfl
    unfold execChangeSetStageSwitch at he
    simp only [hs, hc, hk, if_false] at he
    rw [State.when_of _ _ (by
      rw [Bool.and_eq_true]
      exact ⟨stop_or_reached hr, by simpa [imp_iff_not_or] using hg⟩)] at he
    exact ⟨_, he, rfl, State.bring_applied _ _ _ _⟩
  case tables =>
    intro s x z i y hs hp hpw hf hr
    have he : exec (.changeSetStageSwitch 0x0031 i) s = execChangeSetStageSwitch 0x0031 i s := rfl
    unfold execChangeSetStageSwitch at he
    simp only [hs, show sectClass 0x0031 = .swap from rfl, if_true, hp, hpw, hf, Bool.not_true, Bool.not_false, Bool.or_false, Bool.true_and,
      Bool.false_eq_true, if_false] at he
    rw [State.when_of _ _ (stop_or_reached hr)] at he
    exact ⟨_, he, rfl⟩
  case aux =>
    intro s x z k i y hs hc hr
    have he : exec (.changeSetStageSwitch k i) s = execChangeSetStageSwitch k i s := rfl
    unfold execChangeSetStageSwitch at he
    simp only [hs, hc] at he
    rw [State.when_of _ _ (stop_or_reached hr)] at he
    refine ⟨_, he, ?_, ?_, State.bring_applied _ _ _ _⟩
    · split
      · exact .inr rfl
      · exact .inl rfl
    · intro hp
      rw [if_pos hp]
  case pause =>
    intro s x z k i y hs hc hp hr
    have he : exec (.changeSetStageSwitch k i) s = execChangeSetStageSwitch k i s := rfl
    unfold execChangeSetStageSwitch at he
    simp only [hs, hc] at he
    rw [State.when_of _ _ (by
      rw [Bool.and_eq_true]
      exact ⟨by simpa using hp, stop_or_reached hr⟩)] at he
    exact ⟨_, he, rfl, State.bring_applied _ _ _ _⟩
  case loop => exact fun s => ⟨_, rfl, onlyRegs_set .., State.is_off_same ..⟩
  case sense => exact fun s => ⟨_, rfl, onlyRegs_set .., State.is_off_same ..⟩
  case pipe =>
    intro s i hi
    refine ⟨s.off .ISP_STATUS_PAUSED i, ?_, onlyRegs_set .., State.is_off_same ..⟩
    have he : exec (.auxPauseEnd i) s = execAuxPauseEnd i s := rfl
    unfold execAuxPauseEnd at he
    split at he
    · omega
    · omega
    · exact he.trans (by rw [State.when_of _ _ (decide_eq_true hi)])
  case gap =>
    intro s x z k i y r hk hs hf hg hl ha
    have he : exec (.gapSectionApply k i) s = execGapSectionApply k i s := rfl
    unfold execGapSectionApply at he
    have hc : (sectClass k == .gap || sectClass k == .stop) = true := by simpa using hk
    simp only [State.when_of, hc, hs, hf] at he
    rw [State.when_of _ _ (by
      rw [Bool.and_eq_true]
      exact ⟨hg, by simpa using hl⟩), if_pos ha] at he
    exact ⟨_, he, rfl, State.bring_applied _ _ _ _⟩

end Sys2Proof.Machine
end

section
/-! PROOF. What serving a command leaves unchanged. -/

namespace Sys2Proof.Machine

-- One lemma after the other: elaborated side by side, they ask for more threads than the compile may have.
set_option Elab.async false

/-! ## What serving a command leaves unchanged

The start of a command, its reports and the end of its operation are written in its queue, its slot and a CQ, and raise a vector. -/

structure Serves (s t : State) : Prop where
  frame : t = { s with
    regs := t.regs, hostMem := t.hostMem, pairs := t.pairs, slots := t.slots, turns := t.turns, outbox := t.outbox, msixPend := t.msixPend }
  touches : Touches reportedFlds s t

namespace Serves

variable {s t u : State}

theorem refl (s : State) : Serves s s := ⟨rfl, Touches.refl _ s⟩

theorem trans (h : Serves s t) (h' : Serves t u) : Serves s u := ⟨by rw [h'.frame, h.frame], h.touches.trans h'.touches⟩

theorem of_completes (h : Completes s t) : Serves s t := by
  refine ⟨?_, h.touches⟩
  have hf := h.frame
  generalize t.regs = r, t.hostMem = m, t.pairs = p, t.slots = l, t.outbox = o, t.msixPend = x at hf
  rw [hf]

/-- A field that no report writes. -/
theorem get (h : Serves s t) {f : Fld} (hf : f ∉ reportedFlds) (i k : Nat) : t.get f i k = s.get f i k := h.touches f i k hf

theorem loading (h : Serves s t) : t.loading = s.loading := by rw [h.frame]
theorem staged (h : Serves s t) : t.staged = s.staged := by rw [h.frame]
theorem sets (h : Serves s t) : t.sets = s.sets := by rw [h.frame]
theorem sects (h : Serves s t) : t.sects = s.sects := by rw [h.frame]

end Serves

theorem State.started_serves (s : State) (d : Desc) (op : Nat) : Serves s (s.started d op).2 := by
  obtain ⟨P, S, T, hs⟩ := s.started_some d op
  refine ⟨by rw [hs], fun f i k _ => State.get_started ..⟩

theorem State.startedLong_serves (s : State) (d : Desc) (op : Nat) : Serves s (s.startedLong d op).2 :=
  (s.started_serves d op).trans (.of_completes (State.report_completes ..))

theorem State.done_serves (s : State) (h r : Nat) : Serves s (s.done h r) := .of_completes (State.done_completes ..)

theorem State.finish_serves (s : State) (h st r x : Nat) : Serves s (s.finish h st r x) := .of_completes (State.finish_completes ..)

theorem State.setSlot_serves (s : State) (n : Nat) (x : Slot) : Serves s (s.setSlot n x) := ⟨rfl, Touches.of_regs rfl⟩

section
variable {i : Instr} {s : State} {d : Desc} {c : Cmd} {act : Nat → State → State} {op : Nat} {used : List (Nat × Nat)} {P : State → Prop}

/-- A long command that passes every check runs in a state that differs by its start alone. -/
theorem runs_long (hi : exec i s = .next (s.submit d c act)) (h : Accepts s d op used) (ho : c.opcode = op) (hu : c.used = used)
    (hl : c.long = true) (hf : c.fenced = false) (hs : c.sizes.any (· == 0) = false) (hr : c.range = true)
    (hc : c.counts.any (· == 0) = false) (hst : c.state = 0) (hP : ∀ u, Serves s u → P (act (s.started d op).1 u)) : Runs i s P :=
  ⟨_, exec_long hi h ho hu hl hf hs hr hc hst, hP _ (s.startedLong_serves d op)⟩

/-- A short one. -/
theorem runs_short (hi : exec i s = .next (s.submit d c act)) (h : Accepts s d op used) (ho : c.opcode = op) (hu : c.used = used)
    (hl : c.long = false) (hf : c.fenced = false) (hs : c.sizes.any (· == 0) = false) (hr : c.range = true)
    (hc : c.counts.any (· == 0) = false) (hst : c.state = 0) (hP : ∀ u, Serves s u → P (act (s.started d op).1 u)) : Runs i s P :=
  ⟨_, exec_short hi h ho hu hl hf hs hr hc hst, hP _ (s.started_serves d op)⟩

end

end Sys2Proof.Machine
end

section
/-! PROOF. The commands on images. -/

namespace Sys2Proof.Machine

-- One lemma after the other: elaborated side by side, they ask for more threads than the compile may have.
set_option Elab.async false

/-! ## The commands on images -/

/-- With no full image committed, a front that falls idle is free. -/
theorem State.frontIdle_of_none {s : State} (h : s.staged.find? (fun y => y.image.full && y.committed) = none) :
    s.frontIdle = State.set { s with loading := none } .MASH_STATUS_STATE 0 := by
  unfold State.frontIdle
  have hf : s.staged.filter (fun y => y.image.full && y.committed) = [] :=
    List.filter_eq_nil_iff.mpr fun x hx => by simpa using List.find?_eq_none.mp h x hx
  dsimp only
  rw [show (State.set { s with loading := none } .MASH_STATUS_STATE 0).staged = s.staged from rfl, hf]
  rfl

/-- The record of a refused image. -/
theorem State.mashErr_reads (s : State) (r : Refused) :
    let u := ((s.set .MASH_ERR_STATUS r.status).set .MASH_ERR_CHECK r.check).set .MASH_ERR_SECTION r.sect
    u.get .MASH_ERR_STATUS = r.status % 2 ^ Fld.MASH_ERR_STATUS.desc.width ∧ u.get .MASH_ERR_CHECK = r.check % 2 ^ Fld.MASH_ERR_CHECK.desc.width ∧
      u.get .MASH_ERR_SECTION = r.sect % 2 ^ Fld.MASH_ERR_SECTION.desc.width ∧ u.staged = s.staged ∧ u.sects = s.sects := by
  refine ⟨?_, ?_, State.get_set_same .., rfl, rfl⟩
  · rw [State.get_set_fld _ (by decide), State.get_set_fld _ (by decide), State.get_set_same]
  · rw [State.get_set_fld _ (by decide), State.get_set_same]

/-- A load done: its handle is kept for the staged image. -/
def State.keptDone (s : State) (h : Nat) : State := (s.setSlot (handleSlot h) { s.slot (handleSlot h) with keep := true }).done h

theorem State.keptDone_serves (s : State) (h : Nat) : Serves s (s.keptDone h) := (State.setSlot_serves ..).trans (State.done_serves ..)

theorem State.dropSet_eq (s : State) (x : ChangeSet) : s.dropSet x = s.dropAs x stNotApplied := rfl

/-- Every set of a list dropped. -/
theorem State.dropSets_reads (l : List ChangeSet) (s : State) : (l.foldl State.dropSet s).sects = s.sects ∧
    ∀ z ∈ (l.foldl State.dropSet s).sets, z ∈ s.sets ∧ ∀ x ∈ l, z.handle ≠ x.handle := by
  induction l generalizing s with
  | nil => exact ⟨rfl, fun z hz => ⟨hz, fun x hx => nomatch hx⟩⟩
  | cons x l ih =>
    obtain ⟨h1, -, h3, -⟩ := s.dropAs_reads x stNotApplied
    obtain ⟨g1, g2⟩ := ih (s.dropSet x)
    rw [State.dropSet_eq] at g1 g2
    rw [List.foldl_cons, State.dropSet_eq]
    refine ⟨g1.trans h3, fun z hz => ?_⟩
    obtain ⟨hm, hl⟩ := g2 z hz
    rw [h1] at hm
    obtain ⟨hm, hx⟩ := List.mem_filter.mp hm
    exact ⟨hm, List.forall_mem_cons.mpr ⟨by simpa using hx, hl⟩⟩

theorem State.releaseAll_reads (l : List Staged) (s : State) : (l.foldl (fun s x => s.releaseStaged x.handle) s).sets = s.sets ∧
    (l.foldl (fun s x => s.releaseStaged x.handle) s).sects = s.sects := by
  induction l generalizing s with
  | nil => exact ⟨rfl, rfl⟩
  | cons x l ih =>
    have hf := s.releaseStaged_frame x.handle
    obtain ⟨h1, h2⟩ := ih (s.releaseStaged x.handle)
    exact ⟨h1.trans (by rw [hf]), h2.trans (by rw [hf])⟩

/-- The pauses of tuns ended. -/
def State.pausesEnded (s : State) : State := s.each 64 (fun s c => if (s.chan c).pause.isSome then
  (s.setChan c { s.chan c with pause := none, pauseStep := 0 }).off .TUN_STATUS_PAUSED c else s)

theorem State.pausesEnded_reads (s : State) : s.pausesEnded.sets = s.sets ∧ s.pausesEnded.sects = s.sects := by
  unfold State.pausesEnded State.each
  generalize List.range 64 = l
  induction l generalizing s with
  | nil => exact ⟨rfl, rfl⟩
  | cons c l ih =>
    rw [List.foldl_cons]
    refine ⟨(ih _).1.trans ?_, (ih _).2.trans ?_⟩
    · split <;> rfl
    · split <;> rfl

/-- The state in which a full image is written: no change set is left, nor a staged partial image, nor a pause. -/
def State.applyCleared (s : State) : State := State.pausesEnded
  ((s.staged.filter (fun x => !x.image.full)).foldl (fun s x => s.releaseStaged x.handle) (s.sets.foldl State.dropSet s))

theorem State.enterApply_eq (s : State) (k : Nat) : s.enterApply k = State.set { s.applyCleared with
    staged := s.applyCleared.staged.map (fun (x : Staged) => if x.handle = k then { x with applying := true } else x) } .MASH_STATUS_STATE 4 := rfl

theorem State.applyCleared_reads (s : State) : s.applyCleared.sets = [] ∧ s.applyCleared.sects = s.sects := by
  obtain ⟨d1, d2⟩ := State.dropSets_reads s.sets s
  have hd : (s.sets.foldl State.dropSet s).sets = [] :=
    List.eq_nil_iff_forall_not_mem.mpr fun z hz => (d2 z hz).2 z (d2 z hz).1 rfl
  obtain ⟨r1, r2⟩ := State.releaseAll_reads (s.staged.filter (fun x => !x.image.full)) (s.sets.foldl State.dropSet s)
  unfold State.applyCleared
  rw [(State.pausesEnded_reads _).1, (State.pausesEnded_reads _).2]
  exact ⟨r1.trans hd, r2.trans d1⟩

/-- A full image that enters APPLY drops every change set. -/
theorem State.enterApply_reads (s : State) (k : Nat) : (s.enterApply k).get .MASH_STATUS_STATE = 4 ∧ (s.enterApply k).sets = [] ∧
    (∀ y ∈ (s.enterApply k).staged, y.handle = k → y.applying = true) ∧ (s.enterApply k).sects = s.sects := by
  obtain ⟨h1, h2⟩ := s.applyCleared_reads
  rw [State.enterApply_eq]
  generalize s.applyCleared = u at h1 h2
  refine ⟨State.get_set_fits _ _ _ rfl, h1, fun y hy hk => ?_, h2⟩
  obtain ⟨x, -, rfl⟩ := List.mem_map.mp hy
  split
  case isTrue => rfl
  case isFalse hn => exact absurd (by rwa [if_neg hn] at hk) hn

theorem State.abortStaged_reads (s : State) (x : Staged) : (∀ y ∈ (s.abortStaged x).staged, y.handle ≠ x.handle) ∧
    (s.abortStaged x).sects = s.sects := by
  unfold State.abortStaged
  split
  case h_1 y hy =>
    obtain ⟨-, -, h3, -, h5⟩ := s.dropAs_reads y stNotApplied
    have hh : y.handle = x.handle := by simpa using List.find?_some (p := fun y : ChangeSet => y.handle == x.handle) hy
    refine ⟨fun z hz => ?_, h3⟩
    rw [State.dropSet_eq, h5, hh] at hz
    simpa using (List.mem_filter.mp hz).2
  case h_2 =>
    have hu : Serves s (if x.committed then s.finish (s.commitOpOf x.handle) stNotApplied else s) := by
      split
      · exact s.finish_serves ..
      · exact .refl s
    dsimp only
    generalize (if x.committed then s.finish (s.commitOpOf x.handle) stNotApplied else s) = u at hu
    refine ⟨fun z hz => ?_, ?_⟩
    · rw [State.releaseStaged_staged] at hz
      simpa using (List.mem_filter.mp hz).2
    · rw [State.releaseStaged_frame]
      exact hu.sects

/-- Settles O29: it holds. Each command runs in a state that differs by its start alone; its end leaves the images. -/
theorem mashCommands : Obligations.MashCommands := by
  unfold Obligations.MashCommands
  refine ⟨?stage, ?received, ?refused, ?checked, ?change, ?full, ?abort, ?level⟩
  case stage =>
    intro s d hf ha hh h1 hm hr hn
    have hi := exec_when (i := .mashStage d) (s := s) rfl hf
    refine runs_long hi ha rfl rfl rfl rfl rfl (by simp [hh, hm]; simpa using hr) (by simp; omega) (if_neg (by omega)) fun u hv => ?_
    exact ⟨rfl, State.get_set_fits _ _ _ rfl, hv.staged, hv.sects⟩
  case received =>
    intro s x hl hs hv
    have he : exec .mashReceiveDone s = execMashReceiveDone s := rfl
    unfold execMashReceiveDone at he
    simp only [hl, State.when_of, hs, beq_self_eq_true, hv] at he
    exact ⟨_, he, rfl, State.get_set_fits _ _ _ rfl, rfl⟩
  case refused =>
    intro s x r hl hs hb hv hc
    have he : exec .mashReceiveDone s = execMashReceiveDone s := rfl
    unfold execMashReceiveDone at he
    simp only [hl, State.when_of, hs, beq_self_eq_true, hb, Bool.false_eq_true, if_false, hv] at he
    refine ⟨_, he, ?_⟩
    unfold State.refuseImage
    simp only [hb, Bool.false_eq_true, if_false]
    have hu : State.get _ .MASH_ERR_STATUS 0 0 = _ ∧ State.get _ .MASH_ERR_CHECK 0 0 = _ ∧ State.get _ .MASH_ERR_SECTION 0 0 = _ ∧
      State.staged _ = s.staged ∧ State.sects _ = s.sects := s.mashErr_reads r
    generalize ((s.set .MASH_ERR_STATUS r.status).set .MASH_ERR_CHECK r.check).set .MASH_ERR_SECTION r.sect = u at hu ⊢
    obtain ⟨u1, u2, u3, u4, u5⟩ := hu
    have hd := u.finish_serves x.handle r.status 0 0
    generalize u.finish x.handle r.status = w at hd ⊢
    rw [State.frontIdle_of_none (by rw [hd.staged, u4]; exact hc)]
    refine ⟨rfl, State.get_set_fits _ _ _ rfl, ?_, ?_, ?_, hd.staged.trans u4, hd.sects.trans u5⟩
    · exact (State.get_set_fld _ (by decide) ..).trans ((hd.get (by decide) 0 0).trans u1)
    · exact (State.get_set_fld _ (by decide) ..).trans ((hd.get (by decide) 0 0).trans u2)
    · exact (State.get_set_fld _ (by decide) ..).trans ((hd.get (by decide) 0 0).trans u3)
  case checked =>
    intro s x hl hs hb hv hc
    have he : exec .mashCheckDone s = execMashCheckDone s := rfl
    unfold execMashCheckDone at he
    simp only [hl, State.when_of, hs, beq_self_eq_true, hb, Bool.false_eq_true, if_false, hv] at he
    refine ⟨(State.keptDone { s with
      loading := some x, staged := s.staged ++ [{ handle := x.handle, image := imageOf x.bytes, committed := false }] } x.handle).frontIdle, he, ?_⟩
    have h1 := State.keptDone_serves { s with
      loading := some x, staged := s.staged ++ [{ handle := x.handle, image := imageOf x.bytes, committed := false }] } x.handle
    generalize State.keptDone _ x.handle = w at h1 ⊢
    rw [State.frontIdle_of_none]
    · exact ⟨rfl, State.get_set_fits _ _ _ rfl, h1.staged, h1.sects⟩
    · rw [h1.staged, List.find?_append, hc, List.find?_singleton]
      simp
  case change =>
    intro s d others x ha hk hx hf hc h1 ht hd hr
    refine runs_long (i := .mashCommit d others) rfl ha rfl rfl rfl rfl rfl
      (by simp only [if_neg hk, hx, hf, h1, ht, hd, and_self, decide_true, Bool.or_true, Bool.and_true]) rfl
      (by simp only [if_neg hk, hx, hf, hc, hr]; rfl) fun u hv => ?_
    simp only [if_neg hk, hx, hf, Bool.false_eq_true, if_false]
    rw [State.prepShadows_frame]
    exact ⟨congrArg (· ++ _) hv.sets, hv.sects⟩
  case full =>
    intro s d others x ha hk hx hf hc h1 hff hn
    refine runs_long (i := .mashCommit d others) rfl ha rfl rfl rfl rfl rfl
      (by simp only [if_neg hk, hx, hf, h1, decide_true, Bool.true_or, Bool.and_true]) rfl
      (by simp only [if_neg hk, hx, hf, hc, hff, hn]; rfl) fun u hv => ?_
    simp only [if_neg hk, hx, hf, if_true]
    have hu : State.frontFree { u with staged := u.staged.filter (fun (y : Staged) => y.handle != d.p 0x10 4) ++ [{ x with committed := true }] } =
        true := by
      unfold State.frontFree at hff ⊢
      refine Eq.trans ?_ hff
      exact congrArg₂ (fun (a : Option Loading) (b : Nat) => a.isNone && b == 0) hv.loading (hv.get (f := .MASH_STATUS_STATE) (by decide) 0 0)
    rw [if_pos hu]
    obtain ⟨h1, h2, h3, h4⟩ := State.enterApply_reads { u with
      staged := u.staged.filter (fun (y : Staged) => y.handle != d.p 0x10 4) ++ [{ x with committed := true }] } (d.p 0x10 4)
    exact ⟨h1, h2, h3, h4.trans hv.sects⟩
  case abort =>
    intro s d x ha hk hx hm
    have he := exec_short (i := .mashAbort d) (s := s) rfl ha rfl rfl rfl rfl rfl rfl rfl (by simp only [if_neg hk, hx, hm, if_true])
    simp only [if_neg hk, hx] at he
    have hk' : x.handle = d.p 0x10 4 := by simpa using List.find?_some (p := fun x : Staged => x.handle == d.p 0x10 4) hx
    obtain ⟨h1, h2⟩ := State.abortStaged_reads (s.started d 0x0103).2 x
    have hd := State.done_serves ((s.started d 0x0103).2.abortStaged x) (s.started d 0x0103).1 0
    refine ⟨_, he, rfl, ?_, hd.sects.trans (h2.trans (s.started_serves d 0x0103).sects)⟩
    rw [State.stagedOf, hd.staged, ← hk']
    exact List.find?_eq_none.mpr fun y hy => by simpa using h1 y hy
  case level =>
    intro s d x ha hx hl
    refine runs_short (i := .mashRbAdvance d) rfl ha rfl rfl rfl rfl rfl (by simp [hx, hl]) rfl (by simp [hx]) fun u hv => ?_
    rw [hx]
    generalize (s.started d 0x0104).1 = a
    have hd := (u.set .MASH_ROLLBACK_MIN x.rollback).done_serves a 0
    refine ⟨(hd.get (by decide) 0 0).trans (State.get_set_same ..), fun f i k h1 h2 h3 h4 => ?_⟩
    have hf : f ∉ reportedFlds := by simp [reportedFlds, h2, h3, h4]
    exact (hd.get hf i k).trans ((State.get_set_fld _ h1 ..).trans (hv.get hf i k))

end Sys2Proof.Machine
end

section
/-! PROOF. Images and change sets coming into force. -/

namespace Sys2Proof.Machine

-- One lemma after the other: elaborated side by side, they ask for more threads than the compile may have.
set_option Elab.async false

/-! ## What an image that comes into force leaves of the images

The blocks that a full image is written into, the operations that it ends and the changes that follow do not touch the image in force: each
lemma follows the definition it is about. -/

/-- The image in force: its sections, the full image, the composite, the number of change sets in it, the image being loaded, and the sets not
yet in force. -/
structure MashView where
  sects : List Sect
  full : Option Image
  composite : List Byte
  patches : Nat
  loading : Option Loading
  sets : List ChangeSet

def State.mashView (s : State) : MashView := ⟨s.sects, s.fullImage, s.composite, s.get .MASH_PATCHES_COUNT, s.loading, s.sets⟩

def State.MashIs (s : State) (μ : MashView) : Prop := s.mashView = μ

section
variable {s t : State} {μ : MashView}

theorem State.MashIs.sects (h : s.MashIs μ) : s.sects = μ.sects := congrArg MashView.sects h
theorem State.MashIs.full (h : s.MashIs μ) : s.fullImage = μ.full := congrArg MashView.full h
theorem State.MashIs.composite (h : s.MashIs μ) : s.composite = μ.composite := congrArg MashView.composite h
theorem State.MashIs.patches (h : s.MashIs μ) : s.get .MASH_PATCHES_COUNT = μ.patches := congrArg MashView.patches h
theorem State.MashIs.loading (h : s.MashIs μ) : s.loading = μ.loading := congrArg MashView.loading h
theorem State.MashIs.sets (h : s.MashIs μ) : s.sets = μ.sets := congrArg MashView.sets h

theorem State.MashIs.upd (h : s.MashIs μ) (ht : t.mashView = s.mashView := by rfl) : t.MashIs μ := ht.trans h

theorem State.MashIs.set (h : s.MashIs μ) {f : Fld} {v i k : Nat} (hf : .MASH_PATCHES_COUNT ≠ f := by decide) : (s.set f v i k).MashIs μ := by
  refine h.upd ?_
  unfold State.mashView
  rw [State.get_set_fld _ hf]
  rfl

theorem State.MashIs.clear (h : s.MashIs μ) {fs : List Fld} {i k : Nat} (hf : .MASH_PATCHES_COUNT ∉ fs := by decide) : (s.clear fs i k).MashIs μ := by
  induction fs generalizing s with
  | nil => exact h
  | cons f fs ih => exact ih (h.set (List.ne_of_not_mem_cons hf)) (List.not_mem_of_not_mem_cons hf)

theorem State.MashIs.ite {c : Prop} [Decidable c] (hs : s.MashIs μ) (ht : t.MashIs μ) : (if c then s else t).MashIs μ := by
  split
  · exact hs
  · exact ht

theorem State.MashIs.onlyIf {c : Prop} [Decidable c] (h : s.MashIs μ) (ht : s.MashIs μ → t.MashIs μ) : (if c then t else s).MashIs μ := .ite (ht h) h

theorem State.MashIs.andThen (h : s.MashIs μ) (ht : s.MashIs μ → t.MashIs μ) : t.MashIs μ := ht h

theorem State.MashIs.foldl (h : s.MashIs μ) {α : Type} {f : State → α → State} {l : List α} (hf : ∀ (u : State), u.MashIs μ → ∀ a, (f u a).MashIs μ) :
    (l.foldl f s).MashIs μ :=
  List.foldlRecOn l f h fun u hu a _ => hf u hu a

theorem State.MashIs.each (h : s.MashIs μ) {n : Nat} {f : State → Nat → State} (hf : ∀ (u : State), u.MashIs μ → ∀ i, (f u i).MashIs μ) : (s.each n f).MashIs μ :=
  h.foldl hf

theorem State.MashIs.bump (h : s.MashIs μ) {f : Fld} {n i k : Nat} (hf : .MASH_PATCHES_COUNT ≠ f := by decide) : (s.bump f n i k).MashIs μ := h.set hf

theorem State.MashIs.on (h : s.MashIs μ) {f : Fld} {i k : Nat} (hf : .MASH_PATCHES_COUNT ≠ f := by decide) : (s.on f i k).MashIs μ := h.set hf

theorem State.MashIs.off (h : s.MashIs μ) {f : Fld} {i k : Nat} (hf : .MASH_PATCHES_COUNT ≠ f := by decide) : (s.off f i k).MashIs μ := h.set hf

theorem State.MashIs.putB (h : s.MashIs μ) {f : Fld} {b : Nat} {v : Bool} {i k : Nat} (hf : .MASH_PATCHES_COUNT ≠ f := by decide) : (s.putB f b v i k).MashIs μ := h.set hf

theorem State.MashIs.out (h : s.MashIs μ) {o : Out} : (s.out o).MashIs μ := h.upd

theorem State.MashIs.free (h : s.MashIs μ) : s.free.2.MashIs μ := h.upd

theorem State.MashIs.setEth (h : s.MashIs μ) {p : Nat} {e : Eth} : (s.setEth p e).MashIs μ := h.upd

theorem State.MashIs.applyTimeNetPort (h : s.MashIs μ) {p : Nat} {b : List Byte} : (s.applyTimeNetPort p b).MashIs μ :=
  .andThen (by split; exacts [.ite h.set h, h]) fun h1 => .andThen (.ite h1.bump.set.setEth h1.setEth) fun h2 => h2.set.set.set.set

theorem State.MashIs.applyTimeNet (h : s.MashIs μ) {b : List Byte} : (s.applyTimeNet b).MashIs μ := h.applyTimeNetPort.applyTimeNetPort

theorem State.MashIs.msix (h : s.MashIs μ) {v : Nat} : (s.msix v).MashIs μ := .ite h.out h.upd

theorem State.MashIs.vector (h : s.MashIs μ) {vec en : Fld} : (s.vector vec en).MashIs μ := .ite h.msix h

theorem State.MashIs.dropCalib (h : s.MashIs μ) {k : Nat} : (s.dropCalib k).MashIs μ := h.upd

theorem State.MashIs.setPair (h : s.MashIs μ) {n : Nat} {p : QPair} : (s.setPair n p).MashIs μ := h.upd

theorem State.MashIs.setSlot (h : s.MashIs μ) {i : Nat} {x : Slot} : (s.setSlot i x).MashIs μ := h.upd

theorem State.MashIs.freeSlot (h : s.MashIs μ) {i : Nat} : (s.freeSlot i).MashIs μ := h.setSlot

theorem State.MashIs.signal (h : s.MashIs μ) {n : Nat} : (s.signal n).MashIs μ := h.setPair.msix

theorem State.MashIs.writeCq (h : s.MashIs μ) {n : Nat} {e : CqEntry} : (s.writeCq n e).MashIs μ :=
  .andThen (.onlyIf h.upd.setPair fun h => h.signal) fun h1 => .ite h1.freeSlot h1

theorem State.MashIs.noteStatus (h : s.MashIs μ) {n hd st : Nat} {fin : Bool} : (s.noteStatus n hd st fin).MashIs μ := .ite h.setPair.setSlot h.setPair

theorem State.MashIs.holdEntry (h : s.MashIs μ) {n : Nat} {e : CqEntry} : (s.holdEntry n e).MashIs μ := .ite h.setPair.setSlot h.setPair

theorem State.MashIs.deliver (h : s.MashIs μ) {n : Nat} {e : CqEntry} : (s.deliver n e).MashIs μ :=
  .ite h.holdEntry (.ite h.writeCq (.ite h.setPair h.setPair.set.bump.holdEntry))

theorem State.MashIs.report (h : s.MashIs μ) {hd st : Nat} {fin : Bool} {result detail : Nat} : (s.report hd st fin result detail).MashIs μ :=
  .ite h (by
    dsimp only
    split
    · exact h.noteStatus.deliver
    · exact .ite h.noteStatus.setSlot h.noteStatus
    · exact .ite h.noteStatus.out.freeSlot h.noteStatus.out
    · exact .ite (.bump (.ite h.noteStatus h.noteStatus.freeSlot)) h.noteStatus)

theorem State.MashIs.finish (h : s.MashIs μ) {hd st result detail : Nat} : (s.finish hd st result detail).MashIs μ := h.report

theorem State.MashIs.done (h : s.MashIs μ) {hd result : Nat} : (s.done hd result).MashIs μ := h.finish

theorem State.MashIs.setChan (h : s.MashIs μ) {c : Nat} {x : Chan} : (s.setChan c x).MashIs μ := h.upd

theorem State.MashIs.recordCoverage (h : s.MashIs μ) {i mask cause : Nat} : (s.recordCoverage i mask cause).MashIs μ :=
  .ite h.set.set.set.set.bump.vector.out h.set.set.set.set.bump.vector

theorem State.MashIs.noteCoverage (h : s.MashIs μ) : s.noteCoverage.MashIs μ := .ite h (.ite h.upd.set.recordCoverage h.upd.out)

theorem State.MashIs.setEng (h : s.MashIs μ) {t m : Nat} {e : Eng} : (s.setEng t m e).MashIs μ := h.upd

theorem State.MashIs.applyRecord (h : s.MashIs μ) {t : Nat} {r : Nat × Nat × List Byte} : (s.applyRecord t r).MashIs μ := .ite h (.ite h.setChan h.setEng)

theorem State.MashIs.loadTun (h : s.MashIs μ) {t : Nat} {keepCarry : Bool} : (s.loadTun t keepCarry).MashIs μ :=
  (h.each (fun _ h _ => h.setEng)).andThen fun h1 => .andThen (.ite h1 h1.setChan) fun h2 => (h2.foldl (fun _ h _ => h.applyRecord)).andThen fun h3 =>
    h3.set.set.set.set.set

theorem State.MashIs.sramWr (h : s.MashIs μ) {t a : Nat} {bs : List Byte} : (s.sramWr t a bs).MashIs μ := h.setChan

theorem State.MashIs.writeBank (h : s.MashIs μ) {t b : Nat} {map : List Nat} {param : List Byte} {curves : List (Nat × List Byte)} :
    (s.writeBank t b map param curves).MashIs μ := (h.foldl (fun _ h _ => h.sramWr)).andThen fun h1 => h1.sramWr.sramWr

theorem State.MashIs.writeTables (h : s.MashIs μ) {t bank : Nat} {b : List Byte} {slots : List Nat} : (s.writeTables t bank b slots).MashIs μ := h.writeBank

theorem State.MashIs.willClear (h : s.MashIs μ) {t y : Nat} : (s.willClear t y).MashIs μ := h.setChan

theorem State.MashIs.loadTables (h : s.MashIs μ) {t y : Nat} : (s.loadTables t y).MashIs μ := .ite h.setChan.writeTables.willClear h

theorem State.MashIs.dropTables (h : s.MashIs μ) {t : Nat} : (s.dropTables t).MashIs μ := h.setChan.set

theorem State.MashIs.prepShadow (h : s.MashIs μ) {t : Nat} : (s.prepShadow t).MashIs μ := by
  unfold State.prepShadow
  extract_lets stale _ s1
  have h1 : s1.MashIs μ := h.onlyIf fun h => h.setChan
  split
  · exact h1
  · exact .ite h1 (by split; exacts [h1, .ite h1 h1.writeTables.setChan])

theorem State.MashIs.prepShadows (h : s.MashIs μ) : s.prepShadows.MashIs μ := h.each (fun _ h _ => h.prepShadow)

theorem State.MashIs.rejoin (h : s.MashIs μ) {c page low : Nat} : (s.rejoin c page low).MashIs μ := h.setChan

theorem State.MashIs.rejoinDevice (h : s.MashIs μ) {c : Nat} : (s.rejoinDevice c).MashIs μ := h.rejoin

theorem State.MashIs.applyReservoir (h : s.MashIs μ) {c : Nat} {b : List Byte} : (s.applyReservoir c b).MashIs μ := h.set.set.set.set.set

theorem State.MashIs.setEnc (h : s.MashIs μ) {i : Nat} {e : EncLane} : (s.setEnc i e).MashIs μ := h.upd

theorem State.MashIs.encDrop (h : s.MashIs μ) {x frame : Nat} : (s.encDrop x frame).MashIs μ := h.setEnc

theorem State.MashIs.sendFrame (h : s.MashIs μ) {c : Nat} {p : Prep} : (s.sendFrame c p).MashIs μ := h.out.out

theorem State.MashIs.sealKiln (h : s.MashIs μ) {payload : List Byte} {key : Nat} : (s.sealKiln payload key).MashIs μ := by
  unfold State.sealKiln
  split
  · exact h
  · exact h.upd.each (fun _ h _ => h.foldl (fun _ h _ => .ite h h.setChan.sendFrame))

theorem State.MashIs.cutHeads (h : s.MashIs μ) : s.cutHeads.MashIs μ := h.each (fun _ h _ => .ite h.setChan h)

theorem State.MashIs.hpwrReq (h : s.MashIs μ) {i v : Nat} : (s.hpwrReq i v).MashIs μ := h.set.cutHeads

theorem State.MashIs.seti (h : s.MashIs μ) {f : Fld} {v : Int} {i k : Nat} (hf : .MASH_PATCHES_COUNT ≠ f := by decide) : (s.seti f v i k).MashIs μ := h.set hf

theorem State.MashIs.setSat (h : s.MashIs μ) {f : Fld} {v : Int} {i k : Nat} (hf : .MASH_PATCHES_COUNT ≠ f := by decide) : (s.setSat f v i k).MashIs μ := h.seti hf

theorem State.MashIs.showSlip (h : s.MashIs μ) : s.showSlip.MashIs μ := h.setSat

theorem State.MashIs.drShow (h : s.MashIs μ) : s.drShow.MashIs μ := (h.onlyIf fun h => h.seti.seti).showSlip

theorem State.MashIs.applyEncoder (h : s.MashIs μ) {b : List Byte} : (s.applyEncoder b).MashIs μ := h.upd.set.set

theorem State.MashIs.setTs (h : s.MashIs μ) {q : Nat} {x : Ts} : (s.setTs q x).MashIs μ := h.upd

theorem State.MashIs.showMinPulse (h : s.MashIs μ) : s.showMinPulse.MashIs μ := h.set.set

theorem State.MashIs.setSetup (h : s.MashIs μ) {y : Nat} {u : Setup} : (s.setSetup y u).MashIs μ := h.upd.set.set.set.set.set.set.set

theorem State.MashIs.yieldCommit (h : s.MashIs μ) {y : Nat} : (s.yieldCommit y).MashIs μ := by
  unfold State.yieldCommit
  extract_lets _ s1
  have h1 : s1.MashIs μ := by
    unfold s1
    split
    · exact .ite h.upd.off.finish h
    · exact h
  split
  · exact .ite (.ite h1.upd.finish.off h1.upd.finish) h1
  · exact h1

theorem State.MashIs.applyFireSetup (h : s.MashIs μ) {y : Nat} {b : List Byte} : (s.applyFireSetup y b).MashIs μ :=
  h.setSetup.set.set.set.set.showMinPulse.yieldCommit

theorem State.MashIs.dropSetup (h : s.MashIs μ) : s.dropSetup.MashIs μ := h.upd.clear

theorem State.MashIs.applyGeom (h : s.MashIs μ) {c : Nat} {b : List Byte} : (s.applyGeom c b).MashIs μ :=
  .ite h.showMinPulse h.set.set.set.set.set.set.set.showMinPulse

theorem State.MashIs.enableChannel (h : s.MashIs μ) {c : Nat} : (s.enableChannel c).MashIs μ := h.on.set.set.off

theorem patches_ne_hold (i : Nat) : .MASH_PATCHES_COUNT ≠ holdFlds.getD i .BAR_HOLD_IMAGE := by
  rw [List.getD_eq_getElem?_getD]
  cases h : holdFlds[i]? with
  | none => decide
  | some f => exact (by decide : ∀ f ∈ holdFlds, .MASH_PATCHES_COUNT ≠ f) f (List.mem_of_getElem? h)

theorem State.MashIs.setHold (h : s.MashIs μ) {m : Nat} : (s.setHold m).MashIs μ := by
  unfold State.setHold
  extract_lets old before s1 held s2 u s3
  have h1 : s1.MashIs μ := h.foldl fun _ h i => .ite h (State.MashIs.set h (hf := patches_ne_hold i))
  have h2 : s2.MashIs μ := h1.onlyIf fun h => h.hpwrReq.hpwrReq
  have hu : u.MashIs μ := State.MashIs.set h2
  have h3 : s3.MashIs μ := h2.onlyIf fun _ => State.MashIs.each hu.upd fun _ h _ => State.MashIs.off h
  exact (h3.foldl fun _ h _ => .ite h h.rejoinDevice).noteCoverage

theorem State.MashIs.disarm (h : s.MashIs μ) {q st result detail : Nat} : (s.disarm q st result detail).MashIs μ := by
  unfold State.disarm
  split
  · exact h
  · exact h.setTs.putB.finish

theorem State.MashIs.applySg (h : s.MashIs μ) {old : List Byte} : (s.applySg old).MashIs μ := h.each (fun _ h _ => .ite h h.disarm)

theorem State.MashIs.setAxis (h : s.MashIs μ) {a : Nat} {x : Axis} : (s.setAxis a x).MashIs μ := h.upd

theorem State.MashIs.restOps (h : s.MashIs μ) {a : Nat} {short : Bool} {st : Nat} : (s.restOps a short st).MashIs μ := by
  unfold State.restOps
  extract_lets x s1 dist s2 s3
  have h2 : s2.MashIs μ := by
    unfold s2
    split
    · exact h.setAxis.finish
    · exact h.setAxis
  have h3 : s3.MashIs μ := by
    unfold s3
    split
    · exact h2.finish
    · exact h2
  exact h3.foldl (fun _ h _ => h.finish)

theorem State.MashIs.restAxis (h : s.MashIs μ) {a : Nat} : (s.restAxis a).MashIs μ := by
  unfold State.restAxis
  extract_lets x s1
  have h1 : s1.MashIs μ := State.MashIs.setAxis (State.MashIs.set (State.MashIs.putB h))
  exact .ite h1.drShow.upd h1

theorem State.MashIs.endJob (h : s.MashIs μ) : s.endJob.MashIs μ := by
  unfold State.endJob
  exact State.MashIs.set h.upd

theorem State.MashIs.closeJob (h : s.MashIs μ) : s.closeJob.MashIs μ := .ite h.endJob h

theorem State.MashIs.hardStop (h : s.MashIs μ) {a st : Nat} : (s.hardStop a st).MashIs μ := by
  unfold State.hardStop
  split
  · exact h
  · extract_lets x s1 p s2 l s3 s4 y s5
    have h1 : s1.MashIs μ := State.MashIs.putB h.restAxis
    have h2 : s2.MashIs μ := State.MashIs.set (State.MashIs.seti h1)
    have h3 : s3.MashIs μ := h2.upd
    have h4 : s4.MashIs μ := .ite (State.MashIs.set h3).drShow.closeJob h1
    have h5 : s5.MashIs μ := by
      unfold s5
      split
      · exact h4.setAxis.finish
      · exact h4
    exact h5.restOps

theorem State.MashIs.setCam (h : s.MashIs μ) {x : Nat} {m : Cam} : (s.setCam x m).MashIs μ := h.upd

theorem State.MashIs.toRanges (h : s.MashIs μ) {x : Nat} {f : Nat → Nat × Nat × Nat × Nat → Out} : (s.toRanges x f).MashIs μ :=
  h.each (fun _ h _ => .ite h h.out)

theorem State.MashIs.loseOne (h : s.MashIs μ) {x f cause : Nat} : (s.loseOne x f cause).MashIs μ := .ite h h.setCam.bump.set.encDrop.toRanges

theorem State.MashIs.loseAll (h : s.MashIs μ) {x cause : Nat} : (s.loseAll x cause).MashIs μ := h.foldl (fun _ h _ => h.loseOne)

theorem State.MashIs.stopCam (h : s.MashIs μ) {x : Nat} : (s.stopCam x).MashIs μ := h.loseAll.setCam.off

theorem State.MashIs.showBlack (h : s.MashIs μ) {f : Fld} {v i k : Nat} (hf : .MASH_PATCHES_COUNT ≠ f := by decide) : (s.showBlack f v i k).MashIs μ := .ite (h.set hf) (h.free.set hf)

theorem State.MashIs.setBlack (h : s.MashIs μ) {x r v : Nat} : (s.setBlack x r v).MashIs μ := h.setCam.showBlack

theorem State.MashIs.takeRef (h : s.MashIs μ) {x r : Nat} : (s.takeRef x r).MashIs μ := h.setCam.showBlack

theorem State.MashIs.showShadow (h : s.MashIs μ) {i : Nat} : (s.showShadow i).MashIs μ := h.set

theorem State.MashIs.showPorts (h : s.MashIs μ) : s.showPorts.MashIs μ := h.each (fun _ h _ => h.set)

theorem State.MashIs.startPort (h : s.MashIs μ) {x : Nat} : (s.startPort x).MashIs μ := (h.setCam.each (fun _ h _ => h.setBlack.takeRef)).off

theorem State.MashIs.applyCamera (h : s.MashIs μ) {x : Nat} : (s.applyCamera x).MashIs μ :=
  .andThen (.ite h.setCam.off h.startPort) fun h1 => h1.showPorts.each (fun _ h _ => h.showShadow)

theorem State.MashIs.applyIsp (h : s.MashIs μ) {i : Nat} : (s.applyIsp i).MashIs μ := ((h.each (fun _ h _ => .ite h.startPort h)).showPorts).showShadow

theorem State.MashIs.setTable (h : s.MashIs μ) {c : Nat} {l : List Nat} : (s.setTable c l).MashIs μ := State.MashIs.set h.upd

theorem State.MashIs.setGrav (h : s.MashIs μ) {c : Nat} {g : Grav} : (s.setGrav c g).MashIs μ := h.upd

theorem State.MashIs.prepGravity (h : s.MashIs μ) {c : Nat} : (s.prepGravity c).MashIs μ := .ite h (.ite h h.writeBank.setGrav.setChan)

theorem State.MashIs.rebuildGravity (h : s.MashIs μ) {c y : Nat} : (s.rebuildGravity c y).MashIs μ := .ite h h.setTable.setGrav.setChan.prepGravity

theorem State.MashIs.clearWindow (h : s.MashIs μ) {c : Nat} : (s.clearWindow c).MashIs μ := h.setGrav

theorem State.MashIs.freshTable (h : s.MashIs μ) {c : Nat} : (s.freshTable c).MashIs μ := h.setTable.setGrav

theorem State.MashIs.setBound (h : s.MashIs μ) {c : Nat} {on : Bool} : (s.setBound c on).MashIs μ := by
  unfold State.setBound
  extract_lets was s1 s2 s3 s4
  have h1 : s1.MashIs μ := State.MashIs.set h
  have h2 : s2.MashIs μ := State.MashIs.putB h1
  have h3 : s3.MashIs μ := h2.upd
  have h4 : s4.MashIs μ := (State.MashIs.ite h3.rejoinDevice h3).noteCoverage
  exact .ite (State.MashIs.off h4).out h4

theorem State.MashIs.startChannel (h : s.MashIs μ) {c : Nat} : (s.startChannel c).MashIs μ :=
  .andThen (.ite h.setGrav.setTable.setBound (by
    split
    · exact .ite h.setTable.setGrav.setBound h.freshTable.setBound
    · exact h.freshTable.setBound)) fun h1 => h1.rebuildGravity

theorem State.MashIs.applyGrav (h : s.MashIs μ) {old : List Byte} : (s.applyGrav old).MashIs μ :=
  h.on.each (fun _ h _ => .ite h.set.startChannel (.ite ((h.set.onlyIf fun h => h.clearWindow.setGrav).seti.set) h.set.setGrav))

theorem State.MashIs.putDev (h : s.MashIs μ) {x : Dev} : (s.putDev x).MashIs μ := h.upd

theorem State.MashIs.setBind (h : s.MashIs μ) {i : Nat} {b : Bind} : (s.setBind i b).MashIs μ := h.upd

theorem State.MashIs.setCause (h : s.MashIs μ) {i m : Nat} : (s.setCause i m).MashIs μ := by
  unfold State.setCause
  split
  · exact h
  · exact .ite h.putDev.set.setHold (.ite h.putDev.set h.putDev.set.out)

theorem State.MashIs.causeBit (h : s.MashIs μ) {i b : Nat} {on : Bool} : (s.causeBit i b on).MashIs μ := by
  unfold State.causeBit
  split
  · exact h
  · exact h.setCause

theorem State.MashIs.setWport (h : s.MashIs μ) {p : Nat} {w : WortPort} : (s.setWport p w).MashIs μ := h.upd

theorem State.MashIs.setActive (h : s.MashIs μ) {p m : Nat} : (s.setActive p m).MashIs μ := (h.set.each (fun _ h _ => h.set)).andThen fun h1 => .ite h1.set h1

theorem State.MashIs.wortQuiet (h : s.MashIs μ) {p state : Nat} : (s.wortQuiet p state).MashIs μ := h.setActive.set.set.each (fun _ h _ => h.set)

theorem State.MashIs.wortDrop (h : s.MashIs μ) {p : Nat} : (s.wortDrop p).MashIs μ := h.setWport

theorem State.MashIs.sendInit (h : s.MashIs μ) {p m : Nat} : (s.sendInit p m).MashIs μ := h.out

theorem State.MashIs.wortTrain (h : s.MashIs μ) {p state : Nat} : (s.wortTrain p state).MashIs μ :=
  (h.setActive.set.off.each (fun _ h _ => .ite h h.set.off)).andThen fun h1 => h1.setWport

theorem State.MashIs.wortRetrain (h : s.MashIs μ) {p : Nat} : (s.wortRetrain p).MashIs μ := .ite h h.bump.wortTrain

theorem State.MashIs.applyWort (h : s.MashIs μ) {old : List Byte} : (s.applyWort old).MashIs μ :=
  h.each (fun _ h _ => .ite h (.ite (.ite h.wortQuiet.wortDrop h) (.ite h (.ite h.wortTrain (.ite h.wortRetrain (.ite h.sendInit h))))))

theorem State.MashIs.rewrite (h : s.MashIs μ) {cause : Nat} {entries : List GEntry} {imageId : Nat} : (s.rewrite cause entries imageId).MashIs μ :=
  .ite h.upd.set h.upd

theorem State.MashIs.showSlots (h : s.MashIs μ) : s.showSlots.MashIs μ := h.each (fun _ h _ => h.set)

theorem State.MashIs.emptyDram (h : s.MashIs μ) : s.emptyDram.MashIs μ := h.upd

theorem State.MashIs.enablePort (h : s.MashIs μ) {c : Nat} : (s.enablePort c).MashIs μ := .ite h h.enableChannel

theorem State.MashIs.enact (h : s.MashIs μ) {t i y : Nat} {old : List Byte} : (s.enact t i y old).MashIs μ :=
  .ite h (by
    split
    · exact .showSlots (.ite h.emptyDram h)
    · exact h.applyReservoir
    · exact .ite h h.loadTun
    · exact .ite h h.loadTun
    · exact h.dropCalib.applyGeom.enablePort
    · exact .ite h h.loadTables.rebuildGravity
    · exact h.applyFireSetup
    · exact h.applyCamera
    · exact h.applyIsp
    · exact h.applyGrav
    · exact h.applySg
    · exact h.applyEncoder
    · exact h.applyWort
    · exact h.applyTimeNet
    · exact h)

theorem State.MashIs.releaseStaged (h : s.MashIs μ) {hd : Nat} : (s.releaseStaged hd).MashIs μ := .ite h.upd.freeSlot h.upd

theorem State.MashIs.dropShadows (h : s.MashIs μ) : s.dropShadows.MashIs μ := h.prepShadows

theorem State.MashIs.dropAs (h : s.MashIs μ) {x : ChangeSet} {status : Nat} :
    (s.dropAs x status).MashIs { μ with sets := μ.sets.filter (fun y => y.handle != x.handle) } := by
  have hs : State.MashIs { s with sets := s.sets.filter (fun y => y.handle != x.handle) }
      { μ with sets := μ.sets.filter (fun y => y.handle != x.handle) } := by
    subst h
    rfl
  exact .andThen (.ite hs hs.out) fun h1 => h1.finish.releaseStaged.dropShadows

theorem State.MashIs.requestDomain (h : s.MashIs μ) {n : Nat} {on : Bool} : (s.requestDomain n on).MashIs μ := .ite h.putB (.ite h (.ite h.putB.putB h.putB))

theorem State.MashIs.setStaged (h : s.MashIs μ) {l : List Staged} : State.MashIs { s with staged := l } μ := h.upd

theorem State.MashIs.dropSets (l : List ChangeSet) : ∀ (s : State) (μ : MashView), s.MashIs μ →
    ∃ r, (l.foldl State.dropSet s).MashIs { μ with sets := r } := by
  induction l with
  | nil => exact fun s μ h => ⟨_, h⟩
  | cons x l ih =>
    intro s μ h
    rw [List.foldl_cons, State.dropSet_eq]
    obtain ⟨r, hr⟩ := ih _ _ h.dropAs
    exact ⟨r, hr⟩

theorem State.MashIs.applyCleared (h : s.MashIs μ) : ∃ r, s.applyCleared.MashIs { μ with sets := r } := by
  obtain ⟨r, hr⟩ := State.MashIs.dropSets s.sets s μ h
  exact ⟨r, State.MashIs.each (hr.foldl fun _ h _ => h.releaseStaged) fun _ h _ => .ite h.setChan.off h⟩

theorem State.MashIs.enterApply (h : s.MashIs μ) (k : Nat) : ∃ r, (s.enterApply k).MashIs { μ with sets := r } := by
  obtain ⟨r, hr⟩ := h.applyCleared
  rw [State.enterApply_eq]
  exact ⟨r, State.MashIs.set hr.setStaged⟩

theorem State.MashIs.tryFull (h : s.MashIs μ) (x : Staged) : ∃ r, (s.tryFull x).MashIs { μ with sets := r } := by
  unfold State.tryFull
  split_ifs
  · exact ⟨_, h⟩
  · exact h.enterApply _
  · exact ⟨_, h.setStaged.finish⟩

theorem State.MashIs.tryFulls (l : List Staged) : ∀ (s : State) (μ : MashView), s.MashIs μ →
    ∃ r, (l.foldl State.tryFull s).MashIs { μ with sets := r } := by
  induction l with
  | nil => exact fun s μ h => ⟨_, h⟩
  | cons x l ih =>
    intro s μ h
    obtain ⟨r, hr⟩ := h.tryFull x
    obtain ⟨r', hr'⟩ := ih _ _ hr
    exact ⟨r', hr'⟩

/-- A front that falls idle may begin to write a committed image. -/
theorem State.MashIs.frontIdle (h : s.MashIs μ) : ∃ r, s.frontIdle.MashIs { μ with loading := none, sets := r } := by
  have hs : (State.set { s with loading := none } .MASH_STATUS_STATE 0).MashIs { μ with loading := none } := by
    subst h
    exact State.MashIs.set rfl
  unfold State.frontIdle
  exact State.MashIs.tryFulls _ _ _ hs

theorem State.MashIs.compositeMoved (h : s.MashIs μ) {old : Nat} {advance : Bool} : (s.compositeMoved old advance).MashIs μ := by
  unfold State.compositeMoved
  split
  · exact h
  · exact .ite h ((h.onlyIf fun h => h.setBind).putDev.causeBit)

theorem State.MashIs.applyPower (h : s.MashIs μ) {b : List Byte} : (s.applyPower b).MashIs μ := h.each (fun _ h _ => h.requestDomain)

theorem State.MashIs.noSenses (h : s.MashIs μ) : State.MashIs { s with senses := [], sgEvents := [] } μ := h.upd

theorem State.MashIs.noGravs (h : s.MashIs μ) : State.MashIs { s with gravs := [] } μ := h.upd

theorem State.MashIs.unused (h : s.MashIs μ) {old : List Sect} : (s.unused old).MashIs μ := by
  unfold State.unused
  extract_lets gone was s1 s2 s3 s4 s5 s6 s7 s8 s9 s10 s11 s12 s13 s14 s15
  have h1 : s1.MashIs μ := h.onlyIf fun h => h.emptyDram.showSlots
  have h2 : s2.MashIs μ := h1.each fun _ h _ => .ite h.applyReservoir h
  have h3 : s3.MashIs μ := (h2.each fun _ h _ => .ite (State.MashIs.off h).applyGeom h).cutHeads
  have h4 : s4.MashIs μ := h3.onlyIf fun h => h.dropSetup
  have h5 : s5.MashIs μ := h4.each fun _ h _ => .ite h.applyIsp h
  have h6 : s6.MashIs μ := h5.applySg
  have h7 : s7.MashIs μ := h5.onlyIf fun _ => h6.noSenses
  have h8 : s8.MashIs μ := h7.each fun _ h _ => .ite h.hardStop h
  have h9 : s9.MashIs μ := h8.onlyIf fun h => State.MashIs.clear h.applyEncoder
  have h10 : s10.MashIs μ := h9.each fun _ h _ => .ite h.loadTun h
  have h11 : s11.MashIs μ := h10.each fun _ h _ => .ite h.dropTables h
  have h12 : s12.MashIs μ := h11.each fun _ h _ => .ite h.stopCam h
  have h13 : s13.MashIs μ := h12.each fun _ h _ => State.MashIs.off h
  have h14 : s14.MashIs μ := h12.onlyIf fun _ => State.MashIs.off h13.noGravs
  have h15 : s15.MashIs μ := h14.onlyIf fun h => h.applyWort
  exact .ite h15.applyTimeNet h15

theorem State.MashIs.setTrio (h : s.MashIs μ) {x : Trio} : State.MashIs { s with trio := x } μ := h.upd

theorem State.MashIs.setPatches (h : s.MashIs μ) : (s.set .MASH_PATCHES_COUNT 0).MashIs { μ with patches := 0 } := by
  subst h
  unfold State.MashIs State.mashView
  rw [State.get_set_fits _ _ _ (by decide)]
  rfl

end

/-! ## Images and change sets coming into force -/

/-- A full image in force. -/
theorem State.applyFull_mash (s : State) (x : Image) : ∃ l r, (s.applyFull x).MashIs
    ⟨x.sects.filter (fun z => z.type != 0x0060 && z.type != 0x00F0), some x, x.hash, 0, l, r⟩ := by
  unfold State.applyFull
  extract_lets before old was s1 s2 s3 a s4 id s5 s6
  clear_value s1
  have h2 : s2.MashIs ⟨x.sects.filter (fun z => z.type != 0x0060 && z.type != 0x00F0), some x, x.hash, s1.get .MASH_PATCHES_COUNT, s1.loading,
    s1.sets⟩ := rfl
  have ha : a.MashIs _ := h2.setTrio.unused
  have h4 : s4.MashIs _ := ha.foldl fun _ h _ => .ite h h.enact
  have h5 : s5.MashIs _ := State.MashIs.set (State.MashIs.set h4).setPatches
  exact ⟨_, _, h5.rewrite.applyPower.compositeMoved⟩

/-- A change set whose sections have all switched, counted. -/
def State.setCounted (s : State) (x : ChangeSet) (rest : List ChangeSet) : State :=
  (State.bump { s with sets := rest, composite := sha384 (s.composite ++ x.image.hash) } .MASH_PATCHES_COUNT).set .MASH_COMPOSITE_ID
    (digestId (sha384 (s.composite ++ x.image.hash)))

/-- Its layout and power sections in force. -/
def State.setEntered (s : State) (x : ChangeSet) : State :=
  let s := s.rewrite 3 (if x.has 0x0001 0 then layoutEntries (s.sect 0x0001)
    else match s.gristDue.getLast? with | some r => r.entries | none => s.grist)
    (match s.gristDue.getLast? with | some r => r.imageId | none => s.get .GRS_IMAGE_ID_ID)
  if x.has 0x0002 0 then s.applyPower (s.sect 0x0002) else s

theorem State.setCounted_mash (s : State) (x : ChangeSet) (rest : List ChangeSet) : (s.setCounted x rest).MashIs
    ⟨s.sects, s.fullImage, sha384 (s.composite ++ x.image.hash),
      min (s.get .MASH_PATCHES_COUNT + 1) (2 ^ Fld.MASH_PATCHES_COUNT.desc.width - 1), s.loading, rest⟩ := by
  unfold State.setCounted State.MashIs State.mashView
  rw [State.get_set_fld _ (by decide), State.bump_eq, State.get_set_same, min_mod_width]
  rfl

theorem State.setEntered_mash {s : State} {μ : MashView} (h : s.MashIs μ) (x : ChangeSet) : (s.setEntered x).MashIs μ :=
  h.rewrite.onlyIf fun h => h.applyPower

theorem State.requestDomain_frame (s : State) (n : Nat) (on : Bool) : s.requestDomain n on = { s with regs := (s.requestDomain n on).regs } := by
  unfold State.requestDomain
  dsimp only
  split_ifs <;> rfl

theorem State.applyPower_frame (s : State) (b : List Byte) : s.applyPower b = { s with regs := (s.applyPower b).regs } := by
  unfold State.applyPower State.each
  generalize List.range 132 = l
  induction l generalizing s with
  | nil => rfl
  | cons n l ih =>
    have hn := s.requestDomain_frame n (bit (leNat b) n)
    rw [List.foldl_cons, ih]
    generalize (s.requestDomain n (bit (leNat b) n)).regs = r at hn
    rw [hn]

theorem State.rewrite_queues (s : State) (cause : Nat) (l : List GEntry) (id : Nat) :
    (s.rewrite cause l id).pairs = s.pairs ∧ (s.rewrite cause l id).slots = s.slots := by
  unfold State.rewrite
  dsimp only
  split <;> exact ⟨rfl, rfl⟩

theorem State.setEntered_queues (s : State) (x : ChangeSet) : (s.setEntered x).pairs = s.pairs ∧ (s.setEntered x).slots = s.slots := by
  unfold State.setEntered
  obtain ⟨hp, hq⟩ := s.rewrite_queues 3 (if x.has 0x0001 0 then layoutEntries (s.sect 0x0001)
    else match s.gristDue.getLast? with | some r => r.entries | none => s.grist)
    (match s.gristDue.getLast? with | some r => r.imageId | none => s.get .GRS_IMAGE_ID_ID)
  dsimp only
  split
  · rw [State.applyPower_frame]
    exact ⟨hp, hq⟩
  · exact ⟨hp, hq⟩

/-- Settles O30: it holds. What follows an image into force is written in the blocks, not in the images. -/
theorem imagesInForce : Obligations.ImagesInForce := by
  unfold Obligations.ImagesInForce
  refine ⟨?full, ?change, ?late⟩
  case full =>
    intro s x hf hs
    have he : exec .fullCommitApply s = execFullCommitApply s := rfl
    unfold execFullCommitApply at he
    simp only [hf, State.when_of, hs, beq_self_eq_true] at he
    refine ⟨_, he, rfl, ?_⟩
    obtain ⟨l, r, hm⟩ := s.applyFull_mash x.image
    obtain ⟨r', h⟩ := (hm.done (hd := s.commitOpOf x.handle) (result := 0)).releaseStaged (hd := x.handle) |>.frontIdle
    exact ⟨h.loading, h.sects, h.full, h.composite, h.patches⟩
  case change =>
    intro s x rest y hs hl ha hy
    have he : exec .changeSetInForce s = execChangeSetInForce s := rfl
    unfold execChangeSetInForce at he
    rw [hs] at he
    dsimp only at he
    rw [hl] at he
    dsimp only at he
    rw [State.when_of _ _ (by rw [ha]; simpa using hy)] at he
    obtain ⟨hp, hq⟩ := (s.setCounted x rest).setEntered_queues x
    have hm := State.setEntered_mash (s.setCounted_mash x rest) x
    refine ⟨((((((s.setCounted x rest).setEntered x).done x.commitOp).releaseStaged x.handle).compositeMoved (s.get .MASH_COMPOSITE_ID) true).dropShadows),
      he, ?_⟩
    generalize (s.setCounted x rest).setEntered x = u at hm hp hq
    have h : State.MashIs _ _ :=
      (((hm.done (hd := x.commitOp) (result := 0)).releaseStaged (hd := x.handle)).compositeMoved (old := s.get .MASH_COMPOSITE_ID)
        (advance := true)).dropShadows
    exact ⟨h.composite, h.sets, h.sects, h.patches, u, hp, hq, rfl⟩
  case late =>
    intro s x hw hf
    have he : exec .changeSetDeadlineMissed s = execChangeSetDeadlineMissed s := rfl
    unfold execChangeSetDeadlineMissed at he
    rw [State.when_of _ _ (by rw [hw]; rfl), hf] at he
    obtain ⟨h1, -, h3, -⟩ := s.dropAs_reads x stNotApplied
    refine ⟨s.dropSet x, he, rfl, ?_, ?_⟩
    · rw [State.dropSet_eq, h1]
      exact fun z hz => by simpa using (List.mem_filter.mp hz).2
    · rw [State.dropSet_eq, h3]

end Sys2Proof.Machine
end

section
/-! PROOF. Extents and the fetching of blocks. -/

namespace Sys2Proof.Machine

-- One lemma after the other: elaborated side by side, they ask for more threads than the compile may have.
set_option Elab.async false

/-! ## Extents and the fetching of blocks -/

theorem Serves.fwAway {s t : State} (h : Serves s t) : t.fwAway = s.fwAway := by
  unfold State.fwAway State.is
  rw [h.get (by decide), show t.wdogWait = s.wdogWait by rw [h.frame]]

theorem Serves.extents {s t : State} (h : Serves s t) : t.extents = s.extents := by rw [h.frame]
theorem Serves.fwDue {s t : State} (h : Serves s t) : t.fwDue = s.fwDue := by rw [h.frame]
theorem Serves.unmaps {s t : State} (h : Serves s t) : t.unmaps = s.unmaps := by rw [h.frame]
theorem Serves.pages {s t : State} (h : Serves s t) : t.pages = s.pages := by rw [h.frame]
theorem Serves.credits {s t : State} (h : Serves s t) : t.credits = s.credits := by rw [h.frame]

/-- Whether a run is mapped rests on the directory. -/
theorem Serves.runMapped {s t : State} (h : Serves s t) (r : Nat × Nat) : t.runMapped r = s.runMapped r := by
  unfold State.runMapped
  rw [h.extents]

theorem State.runMapped_eq_false {s : State} {e0 n : Nat} : s.runMapped (e0, n) = false ↔ ∀ x ∈ s.extents, x.1 < e0 ∨ e0 + n ≤ x.1 := by
  unfold State.runMapped
  rw [List.any_eq_false]
  refine forall₂_congr fun x _ => ?_
  rw [decide_eq_true_iff]
  omega

theorem State.runMapped_eq_true {s : State} {e0 n : Nat} : s.runMapped (e0, n) = true ↔ ∃ x ∈ s.extents, e0 ≤ x.1 ∧ x.1 < e0 + n := by
  simp [State.runMapped]

/-- The extents that a run enters. -/
def newExtents (d : Desc) (e0 n : Nat) : List (Nat × Extent) :=
  (List.range n).map fun i => (e0 + i, { kind := d.p 0x10 1, port := d.p 0x11 1, base := d.p 0x28 8 + i * 2 ^ 26, closing := none })

theorem find?_newExtents (d : Desc) (e0 n i : Nat) (hi : i < n) : (newExtents d e0 n).find? (fun x => x.1 == e0 + i) =
    some (e0 + i, { kind := d.p 0x10 1, port := d.p 0x11 1, base := d.p 0x28 8 + i * 2 ^ 26, closing := none }) := by
  unfold newExtents
  rw [List.find?_map, (List.find?_range_eq_some (i := i)).mpr ⟨by simp, List.mem_range.mpr hi, fun j hj => by simp; omega⟩]
  rfl

theorem find?_newExtents_none (d : Desc) (e0 n e : Nat) (he : e < e0 ∨ e0 + n ≤ e) : (newExtents d e0 n).find? (fun x => x.1 == e) = none := by
  unfold newExtents
  rw [List.find?_eq_none]
  simp only [List.mem_map, List.mem_range, beq_iff_eq, forall_exists_index, and_imp]
  rintro _ i hi rfl
  dsimp only
  omega

/-- The part of a directory below an extent, or above it, has the entries it had. -/
theorem find?_filter_key {l : List (Nat × Extent)} {p : Nat → Bool} (e : Nat) : (l.filter (fun x => p x.1)).find? (fun x => x.1 == e) =
    if p e then l.find? (fun x => x.1 == e) else none := by
  rw [List.find?_filter]
  split_ifs with h
  · congr 1
    funext x
    by_cases hx : x.1 = e <;> simp [hx, h]
  · rw [List.find?_eq_none]
    intro x _
    by_cases hx : x.1 = e <;> simp [hx, h]

/-- A run that is mapped enters its extents and leaves the others. -/
theorem State.mapExtents_reads (s : State) {d : Desc} {e0 n : Nat} (he : e0 = d.p 0x18 8 / 2 ^ 26) (hn : n = d.p 0x20 8 / 2 ^ 26) :
    (∀ i, i < n → (s.mapExtents d).extent (e0 + i) =
      some { kind := d.p 0x10 1, port := d.p 0x11 1, base := d.p 0x28 8 + i * 2 ^ 26, closing := none }) ∧
    ∀ e, (e < e0 ∨ e0 + n ≤ e) → (s.mapExtents d).extent e = s.extent e := by
  have hl : (s.mapExtents d).extents = s.extents.filter (fun x => decide (x.1 < e0)) ++ newExtents d e0 n ++
      s.extents.filter (fun x => decide (e0 + n ≤ x.1)) := by rw [he, hn]; rfl
  have hlow := fun e => find?_filter_key (l := s.extents) (p := fun x => decide (x < e0)) e
  have hhigh := fun e => find?_filter_key (l := s.extents) (p := fun x => decide (e0 + n ≤ x)) e
  unfold State.extent
  rw [hl]
  refine ⟨fun i hi => ?_, fun e h => ?_⟩
  · rw [List.find?_append, List.find?_append, hlow, find?_newExtents d e0 n i hi, if_neg (by simp)]
    rfl
  · rw [List.find?_append, List.find?_append, hlow, hhigh, find?_newExtents_none d e0 n e h]
    rcases h with h | h
    · simp [h, show ¬ e0 + n ≤ e by omega]
    · simp [h, show ¬ e < e0 by omega]

theorem State.mapExtents_frame (s : State) (d : Desc) : s.mapExtents d = { s with extents := (s.mapExtents d).extents } := rfl

/-- What a command reports of a mapped run leaves the directory. -/
theorem State.reported_extents (s : State) (m : Out) (h r : Nat) : ((s.out m).done h r).extents = s.extents := ((s.out m).done_serves h r).extents

theorem State.extent_congr {s t : State} (h : t.extents = s.extents) (e : Nat) : t.extent e = s.extent e := by
  unfold State.extent
  rw [h]

theorem Serves.reads_mapped {s u : State} (hu : Serves s u) {d : Desc} {e0 n : Nat} (he : e0 = d.p 0x18 8 / 2 ^ 26) (hn : n = d.p 0x20 8 / 2 ^ 26)
    {t : State} {m : Out} {h r : Nat} (ht : t = ((u.mapExtents d).out m).done h r) :
    (∀ i, i < n → t.extent (e0 + i) = some { kind := d.p 0x10 1, port := d.p 0x11 1, base := d.p 0x28 8 + i * 2 ^ 26, closing := none }) ∧
    (∀ e, (e < e0 ∨ e0 + n ≤ e) → t.extent e = s.extent e) ∧ t = State.done (State.out { u with extents := t.extents } m) h r := by
  have hx : t.extents = (u.mapExtents d).extents := by rw [ht]; exact State.reported_extents ..
  obtain ⟨hin, hout⟩ := u.mapExtents_reads he hn
  refine ⟨fun i hi => (State.extent_congr hx _).trans (hin i hi),
    fun e h => (State.extent_congr hx _).trans ((hout e h).trans (State.extent_congr hu.extents e)), ?_⟩
  rw [hx, ht, State.mapExtents_frame]

theorem State.firmware_here {s : State} (hf : s.fwAway = false) (h : Nat) (i : FwOp) (act : State → State) : s.firmware h i act = act s := by
  unfold State.firmware
  rw [hf]
  rfl

theorem State.firmware_away {s : State} (hf : s.fwAway = true) (h : Nat) (i : FwOp) (act : State → State) :
    s.firmware h i act = { s with fwDue := s.fwDue ++ [(h, i)] } := by
  unfold State.firmware
  rw [hf]
  rfl

theorem State.jsaMap_free {s : State} {d : Desc} (h : s.runMapped (runOf d) = false) (a : Nat) : s.jsaMap a d =
    ((s.mapExtents d).out (.wort "extentsMapped" [(runOf d).1, (runOf d).2, d.p 0x10 1, d.p 0x11 1, d.p 0x28 8])).done a (runOf d).2 := by
  unfold State.jsaMap
  dsimp only
  rw [h]
  rfl

/-- The extents of a run that closes: those not closing yet wait for the pages submitted until now. -/
theorem State.closeExtents_eq (s : State) (e0 n : Nat) : s.closeExtents (e0, n) = { s with
    extents := s.extents.map (fun x => if e0 ≤ x.1 ∧ x.1 < e0 + n ∧ x.2.closing = none then (x.1, { x.2 with closing := some s.pages.length }) else x) } := by
  unfold State.closeExtents
  congr 2
  funext x
  simp [and_assoc]

theorem Serves.reads_unmapped {s u : State} (hu : Serves s u) (d : Desc) (a : Nat) : (fun e0 n (t : State) =>
      t.extents = s.extents.map (fun x => if e0 ≤ x.1 ∧ x.1 < e0 + n ∧ x.2.closing = none then
        (x.1, { x.2 with closing := some s.pages.length }) else x) ∧
      t.unmaps = s.unmaps ++ [(a, e0, n)] ∧
      t = State.out { u with extents := t.extents, unmaps := t.unmaps } (.wort "extentsClosing" [e0, n]))
    (d.p 0x18 8 / 2 ^ 26) (d.p 0x20 8 / 2 ^ 26) (u.jsaUnmap a d) := by
  have h : u.jsaUnmap a d = State.out { u.closeExtents (runOf d) with unmaps := u.unmaps ++ [(a, (runOf d).1, (runOf d).2)] }
    (.wort "extentsClosing" [(runOf d).1, (runOf d).2]) := rfl
  dsimp only
  rw [h, show runOf d = (d.p 0x18 8 / 2 ^ 26, d.p 0x20 8 / 2 ^ 26) from rfl, State.closeExtents_eq, hu.extents, hu.pages, hu.unmaps]
  exact ⟨rfl, rfl, rfl⟩

theorem State.reads_ended (s : State) (h e0 n : Nat) : (fun t : State => t.unmaps = s.unmaps.filter (fun x => x.1 != h) ∧
      t.extents = s.extents.filter (fun x => !(x.2.closing.isSome && decide (e0 ≤ x.1 ∧ x.1 < e0 + n))) ∧
      t = State.done (State.out { s with unmaps := t.unmaps, extents := t.extents } (.wort "extentsUnmapped" [e0, n])) h)
    (State.done (State.out (State.dropExtents { s with unmaps := s.unmaps.filter (fun x => x.1 != h) } (e0, n))
      (.wort "extentsUnmapped" [e0, n])) h) := by
  have hv := State.done_serves (State.out (State.dropExtents { s with unmaps := s.unmaps.filter (fun x => x.1 != h) } (e0, n))
      (.wort "extentsUnmapped" [e0, n])) h 0
  refine ⟨hv.unmaps, hv.extents, ?_⟩
  rw [hv.unmaps, hv.extents]
  rfl

/-- A block whose strip may be served. -/
theorem exec_blockSend {s : State} {id i j : Nat} {p : Page} {x : Strip} (hp : s.page id = some p) (hx : x = s.stripOf p i j)
    (hr : s.role = rolePress ∨ s.role = roleBar ∨ s.activeManager = true) (hs : x ∈ s.strips p) (hfl : p.faulty x = false)
    (hw : s.fwAway = false) (a : Option Nat) (counts : List (Nat × Nat)) : exec (.blockSend id i j a counts) s = .next (match a with
      | some k => s.when (decide (k < p.sentOf x)) (fun s => s.sendBlock p x k)
      | none =>
        if 0 < s.blocksOf x ∧ s.blocksOf x ≤ a.getD (p.sentOf x) then s
        else match s.stripFault p x (a.getD (p.sentOf x)) with
        | 0 => s.when (decide (units (s.blockBytes x (a.getD (p.sentOf x))) ≤ look 0 s.credits (s.slotOf x)) && s.servedNext p x counts) (fun s =>
            State.sendBlock { s.setPage { p with sent := store 0 p.sent x.key (a.getD (p.sentOf x) + 1) } with
              credits := store 0 s.credits (s.slotOf x) (look 0 s.credits (s.slotOf x) - units (s.blockBytes x (a.getD (p.sentOf x)))) }
              p x (a.getD (p.sentOf x)))
        | f =>
          if State.activeManager ((s.logFault f (s.slotOf x % 64)).noteFault id x.key (a.getD (p.sentOf x)) (s.slotOf x)) then
            ((s.logFault f (s.slotOf x % 64)).noteFault id x.key (a.getD (p.sentOf x)) (s.slotOf x)).pageFault id f (s.get .BAR_STATUS_BAR)
              (s.blockFirst p x (a.getD (p.sentOf x)) - p.first)
          else ((s.logFault f (s.slotOf x % 64)).noteFault id x.key (a.getD (p.sentOf x)) (s.slotOf x)).out
            (.wort "pageFault" [id, f, s.get .BAR_STATUS_BAR, s.blockFirst p x (a.getD (p.sentOf x)) - p.first, x.key, a.getD (p.sentOf x),
              s.slotOf x])) := by
  have hi : exec (.blockSend id i j a counts) s = execBlockSend id i j s a counts := rfl
  unfold execBlockSend at hi
  rw [hp] at hi
  dsimp only at hi
  rw [← hx, State.when_of _ _ (by simpa [hs, hfl, hw, or_assoc] using hr)] at hi
  rw [hi]
  cases a <;> rfl

theorem State.stripFault_le (s : State) (p : Page) (x : Strip) (k : Nat) : s.stripFault p x k ≤ 4 := by
  unfold State.stripFault
  dsimp only
  split_ifs <;> decide

theorem State.noteFault_frame (s : State) (id key k n : Nat) : s.noteFault id key k n = { s with pages := (s.noteFault id key k n).pages } := by
  unfold State.noteFault
  split <;> rfl

theorem State.pageFault_serves (s : State) (id f bar line : Nat) : ∃ l, Serves { s with pages := l } (s.pageFault id f bar line) := by
  unfold State.pageFault
  split
  · exact ⟨_, .refl _⟩
  · split_ifs
    · exact ⟨_, State.finish_serves ..⟩
    · exact ⟨_, .refl _⟩

/-- Widths of fields. -/
theorem extentWidths : Fld.INT_FAULT_LOG_CAUSE.desc.width = 4 ∧ Fld.INT_FAULT_LOG_CHANNEL.desc.width = 6 :=
  ⟨rfl, rfl⟩

theorem State.get_logFault (s : State) (f n : Nat) : (s.logFault f n).get .INT_FAULT_LOG_CAUSE = f % 16 ∧
    (s.logFault f n).get .INT_FAULT_LOG_CHANNEL = n % 64 ∧ (s.logFault f n).get .INT_FAULT_LOG_COUNT =
      min (s.get .INT_FAULT_LOG_COUNT + 1) (2 ^ Fld.INT_FAULT_LOG_COUNT.desc.width - 1) := by
  simp [State.logFault, table_form, extentWidths]

/-- A fault of a strip and its report write the log of faults, the pages, and what serves the page's command. -/
theorem State.reads_fault (s : State) (id key k n f bar line : Nat) (m : Out) (b : Bool) : (fun t : State => t.credits = s.credits ∧
      ∀ g : Fld, g ∉ reportedFlds → t.get g = (s.logFault f (n % 64)).get g)
    (if b then ((s.logFault f (n % 64)).noteFault id key k n).pageFault id f bar line
      else ((s.logFault f (n % 64)).noteFault id key k n).out m) := by
  dsimp only
  obtain ⟨l, hv⟩ := ((s.logFault f (n % 64)).noteFault id key k n).pageFault_serves id f bar line
  rw [State.noteFault_frame] at hv ⊢
  cases b with
  | true => exact ⟨hv.credits, fun g hg => hv.get hg 0 0⟩
  | false => exact ⟨rfl, fun g _ => rfl⟩

theorem exec_jsaMap (d : Desc) (s : State) : exec (.jsaMap d) s = .next (s.submit d
    { opcode := 0x0201, long := false, used := [(0x10, 1), (0x11, 1), (0x18, 8), (0x20, 8), (0x28, 8)], sizes := [d.p 0x20 8],
      range := decide (d.p 0x10 1 ≤ 1 ∧ d.p 0x11 1 ≤ (if d.p 0x10 1 = 1 then 3 else 0)) && runOk (d.p 0x18 8) (d.p 0x20 8) &&
        d.p 0x28 8 % 4096 == 0,
      state := if !s.activeManager || s.runMapped (runOf d) then stBadState else 0 }
    (fun h s => s.firmware h (.jsaMap d) (fun s => s.jsaMap h d))) := rfl

theorem exec_jsaUnmap (d : Desc) (s : State) : exec (.jsaUnmap d) s = .next (s.submit d
    { opcode := 0x0202, long := true, used := [(0x18, 8), (0x20, 8)], sizes := [d.p 0x20 8], range := runOk (d.p 0x18 8) (d.p 0x20 8),
      state := if s.activeManager && s.runMapped (runOf d) then 0 else stBadState }
    (fun h s => s.firmware h (.jsaUnmap d) (fun s => s.jsaUnmap h d))) := rfl

/-- Settles O34: it holds. Each command runs in a state that differs by its start alone, which leaves the directory and the pages as they were. -/
theorem extentsAndBlocks : Obligations.ExtentsAndBlocks := by
  unfold Obligations.ExtentsAndBlocks
  refine ⟨?map, ?later, ?toldMap, ?unmap, ?toldUnmap, ?ended, ?toldEnd, ?send, ?again, ?fault, ?none⟩
  case map =>
    intro s d e0 n ha hk hp hr hb hl hm he hn hx hf
    have hfree : s.runMapped (runOf d) = false := by
      subst he hn
      exact State.runMapped_eq_false.mpr hx
    have hv := s.started_serves d 0x0201
    have he' := exec_short (exec_jsaMap d s) ha rfl rfl rfl rfl (by simpa using hl) (by simp [hk, hp, hr, hb]) rfl (by simp [hm, hfree])
    rw [State.firmware_here (hv.fwAway.trans hf), State.jsaMap_free ((hv.runMapped _).trans hfree)] at he'
    subst he hn
    exact ⟨_, he', hv.reads_mapped rfl rfl rfl⟩
  case later =>
    intro s d ha hk hp hr hb hl hm hx hf
    have hv := s.started_serves d 0x0201
    have he' := exec_short (exec_jsaMap d s) ha rfl rfl rfl rfl (by simpa using hl) (by simp [hk, hp, hr, hb]) rfl (by simp [hm, hx])
    rw [State.firmware_away (hv.fwAway.trans hf), hv.fwDue] at he'
    exact ⟨_, he', rfl⟩
  case toldMap =>
    intro s d e0 n hm he hn hx
    have hfree : s.runMapped (runOf d) = false := by
      subst he hn
      exact State.runMapped_eq_false.mpr hx
    obtain ⟨hin, hout⟩ := s.mapExtents_reads he hn
    have hi : exec (.jsaMap d true) s = .next (s.when (!s.activeManager && !s.runMapped (runOf d)) (fun s => s.mapExtents d)) := rfl
    rw [State.when_of _ _ (by rw [hm, hfree]; rfl)] at hi
    exact ⟨_, hi, s.mapExtents_frame d, hin, hout⟩
  case unmap =>
    intro s d e0 n ha hr hl hm he hn hx hf
    have hused : s.runMapped (runOf d) = true := by
      subst he hn
      exact State.runMapped_eq_true.mpr hx
    have hv := s.startedLong_serves d 0x0202
    have he' := exec_long (exec_jsaUnmap d s) ha rfl rfl rfl rfl (by simpa using hl) (by simpa using hr) rfl (by simp [hm, hused])
    rw [State.firmware_here (hv.fwAway.trans hf)] at he'
    subst he hn
    exact ⟨_, he', hv.reads_unmapped d _⟩
  case toldUnmap =>
    intro s d hm
    have hi : exec (.jsaUnmap d true) s = .next (s.when (!s.activeManager) (fun s => s.closeExtents (runOf d))) := rfl
    rw [State.when_of _ _ (by rw [hm]; rfl)] at hi
    exact ⟨_, hi, rfl⟩
  case ended =>
    intro s h e0 n hu hr hf
    have hi : exec (.unmapComplete h false none) s = execUnmapComplete h s := rfl
    unfold execUnmapComplete at hi
    dsimp only at hi
    rw [hu] at hi
    dsimp only at hi
    rw [State.when_of _ _ (by rw [hf, hr]; rfl)] at hi
    exact ⟨_, hi, State.reads_ended s h e0 n⟩
  case toldEnd =>
    intro s h e0 n b hm
    have hi : exec (.unmapComplete h b (some (e0, n))) s = .next (s.when (!s.activeManager) (fun s => s.dropExtents (e0, n))) := rfl
    rw [State.when_of _ _ (by rw [hm]; rfl)] at hi
    exact ⟨_, hi, rfl⟩
  case send =>
    intro s id i j counts p x hp hx hr hs hfl hw hk hf hc hn
    have hi := exec_blockSend hp hx hr hs hfl hw none counts
    dsimp only at hi
    rw [if_neg (fun h => absurd h.2 (by simpa using hk)), Option.getD_none, hf] at hi
    rw [State.when_of _ _ (by rw [hn, decide_eq_true hc]; rfl)] at hi
    exact ⟨_, hi, rfl, look_store_same .., fun n hn => look_store_ne _ _ _ hn, rfl, rfl⟩
  case again =>
    intro s id i j k counts p x hp hx hr hs hfl hw hk
    have hi := exec_blockSend hp hx hr hs hfl hw (some k) counts
    dsimp only at hi
    rw [State.when_of _ _ (decide_eq_true hk)] at hi
    exact ⟨_, hi, rfl, rfl⟩
  case fault =>
    intro s id i j counts p x hp hx hr hs hfl hw hk hf
    have hi := exec_blockSend hp hx hr hs hfl hw none counts
    dsimp only at hi
    rw [Option.getD_none, if_neg (fun h => by omega)] at hi
    split at hi
    next h0 => exact absurd h0 hf
    next f _ =>
    obtain ⟨hcause, hch, hcount⟩ := s.get_logFault (s.stripFault p x (p.sentOf x)) (s.slotOf x % 64)
    obtain ⟨hc, hg⟩ := s.reads_fault id x.key (p.sentOf x) (s.slotOf x) (s.stripFault p x (p.sentOf x)) (s.get .BAR_STATUS_BAR)
      (s.blockFirst p x (p.sentOf x) - p.first) _ _
    refine ⟨_, hi, hc, (hg _ (by decide)).trans (hcount), (hg _ (by decide)).trans ?_, (hg _ (by decide)).trans ?_⟩
    · rw [hcause]
      exact Nat.mod_eq_of_lt ((s.stripFault_le p x _).trans_lt (by decide))
    · rw [hch]
      exact Nat.mod_mod ..
  case none =>
    intro s id i j a counts hp
    have he : exec (.blockSend id i j a counts) s = execBlockSend id i j s a counts := rfl
    unfold execBlockSend at he
    rw [hp] at he
    exact ⟨_, he, rfl⟩

end Sys2Proof.Machine
end

section
/-! PROOF. Pages. -/

namespace Sys2Proof.Machine

-- One lemma after the other: elaborated side by side, they ask for more threads than the compile may have.
set_option Elab.async false

/-! ## Pages -/

theorem Serves.page {s t : State} (h : Serves s t) (id : Nat) : t.page id = s.page id := by
  unfold State.page
  rw [h.pages]

theorem Serves.nextFirst {s t : State} (h : Serves s t) (gap : Nat) : t.nextFirst gap = s.nextFirst gap := by
  unfold State.nextFirst State.is
  rw [h.get (by decide), show t.pageEnd = s.pageEnd by rw [h.frame], show t.jobEnds = s.jobEnds by rw [h.frame],
    show t.seq = s.seq by rw [h.frame]]

/-- A page written under its own first line and number is the page of its number while it is open. -/
theorem State.page_setPage {s : State} {id : Nat} {p q : Page} (h : s.page id = some p) (hf : q.first = p.first) (hi : q.id = p.id)
    (hq : q.state ≤ 1) : (s.setPage q).page id = some q := by
  have hp := List.find?_some h
  rw [Bool.and_eq_true, beq_iff_eq] at hp
  unfold State.page State.setPage at *
  dsimp only
  generalize s.pages = l at h
  induction l with
  | nil => cases h
  | cons a l ih =>
    rw [List.map_cons]
    by_cases ha : a.first = q.first
    · rw [if_pos ha, List.find?_cons_of_pos (by simp [hi, hp.1, hq])]
    · rw [if_neg ha]
      rw [List.find?_cons] at h ⊢
      cases hm : (a.id == id && decide (a.state ≤ 1)) with
      | true =>
        rw [hm] at h
        cases h
        exact absurd hf.symm ha
      | false =>
        rw [hm] at h
        exact ih h

/-- A page written twice holds what was written last. -/
theorem State.setPage_setPage (s : State) {p q : Page} (h : q.first = p.first) : (s.setPage p).setPage q = s.setPage q := by
  unfold State.setPage
  congr 1
  dsimp only
  rw [List.map_map]
  refine List.map_congr_left fun x _ => ?_
  dsimp only [Function.comp]
  by_cases hx : x.first = p.first
  · simp [hx, h]
  · simp [hx, h]

/-- A change of each channel below `n` on its own. -/
theorem State.chan_each (s : State) (n : Nat) (f : Chan → Chan) (c : Nat) : (s.each n (fun s c => s.setChan c (f (s.chan c)))).chan c =
    if c < n then f (s.chan c) else s.chan c := by
  unfold State.each
  induction n with
  | zero => rfl
  | succ n ih =>
    rw [List.range_succ, List.foldl_append, List.foldl_cons, List.foldl_nil]
    by_cases hc : c = n
    · subst hc
      rw [State.chan_setChan, ih]
      simp
    · rw [State.chan_setChan_ne _ _ hc, ih]
      congr 1
      exact propext ⟨fun h => by omega, fun h => by omega⟩

/-- The first report of a page's fault writes the page and ends its command. -/
theorem State.pageFault_open {s : State} {id : Nat} {p : Page} (h : s.page id = some p) (h0 : p.state = 0) (f bar line : Nat) :
    s.pageFault id f bar line = (s.setPage { p with state := 1, failLine := line }).finish p.handle stCheckFailed (line % 2 ^ 32)
      (f % 16 + 16 * (bar % 16)) := by
  unfold State.pageFault
  rw [h]
  exact if_pos h0

/-- A page with a fault of a strip noted: the blocks from the faulty one on are to be sent again. -/
def Page.noted (p : Page) (key k n : Nat) : Page := { p with
  sent := store 0 p.sent key (min k (look 0 p.sent key)), faults := p.faults.filter (fun f => f.1 != key) ++ [(key, n)] }

theorem State.noteFault_of_page {s : State} {id : Nat} {p : Page} (h : s.page id = some p) (key k n : Nat) : s.noteFault id key k n =
    s.setPage (p.noted key k n) := by
  unfold State.noteFault
  rw [h]
  rfl

theorem State.addGap_frame (s : State) (a n : Nat) : s.addGap a n = { s with gaps := (s.addGap a n).gaps } := by
  unfold State.addGap
  split_ifs <;> rfl

theorem State.addPage_frame (s : State) (p : Page) : s.addPage p = { s with
    gaps := (s.addPage p).gaps, pages := s.pages ++ [p], pageEnd := p.first + p.lines,
    jobEnds := if p.last then s.jobEnds ++ [p.first + p.lines] else s.jobEnds, regs := (s.addPage p).regs } := by
  unfold State.addPage
  rw [State.addGap_frame]
  rfl

theorem State.addPage_new (s : State) (p : Page) : s.addPage p = { s with
    pages := (s.addPage p).pages, gaps := (s.addPage p).gaps, pageEnd := (s.addPage p).pageEnd, jobEnds := (s.addPage p).jobEnds,
    regs := (s.addPage p).regs } := by
  unfold State.addPage
  rw [State.addGap_frame]
  rfl

theorem State.addPage_job (s : State) (p : Page) : (s.addPage p).is .MOT_STATUS_JOB = true := by
  unfold State.addPage
  simp [State.is, State.on, State.get_set_same]
  decide

/-- What an accepted page leaves: the page at the end of the schedule, and its report. -/
theorem State.reads_addPage (s : State) (p : Page) (m : Out) (h st r : Nat) : (fun t : State => t.pages = s.pages ++ [p] ∧
      t.pageEnd = p.first + p.lines ∧ t.jobEnds = (if p.last then s.jobEnds ++ [p.first + p.lines] else s.jobEnds) ∧
      t.is .MOT_STATUS_JOB = true ∧ ∃ u, t = State.report u h st false r 0 ∧ u.hostMem = s.hostMem)
    (((s.addPage p).out m).report h st false r 0) := by
  have hv : Serves ((s.addPage p).out m) (((s.addPage p).out m).report h st false r 0) := .of_completes (State.report_completes ..)
  have hf := s.addPage_frame p
  have hj : ((((s.addPage p).out m).report h st false r 0)).is .MOT_STATUS_JOB = true := by
    unfold State.is
    rw [hv.get (by decide)]
    exact s.addPage_job p
  refine ⟨hv.pages.trans ?_, ?_, ?_, hj, _, rfl, ?_⟩
  · exact congrArg State.pages hf
  · rw [show ((((s.addPage p).out m).report h st false r 0)).pageEnd = (s.addPage p).pageEnd by rw [hv.frame]; rfl, hf]
  · rw [show ((((s.addPage p).out m).report h st false r 0)).jobEnds = (s.addPage p).jobEnds by rw [hv.frame]; rfl, hf]
  · show (s.addPage p).hostMem = s.hostMem
    rw [hf]

/-- What a page cut off from a line on leaves in a channel. -/
def Chan.cutFrom (p : Page) (y : Nat) (ch : Chan) : Chan := { ch with
  intake := ch.intake.filter (fun b => !(b.page == p.id && decide (y ≤ b.first))),
  released := ch.released.filter (fun b => !(b.page == p.id && decide (y ≤ b.first))),
  stage := ch.stage.filter (fun e => !decide (y ≤ e.1 ∧ e.1 < p.first + p.lines)),
  lead := ch.lead.filter (fun l => !decide (y ≤ l.no ∧ l.no < p.first + p.lines)),
  grant := ch.grant.filter (fun l => !decide (y ≤ l.no ∧ l.no < p.first + p.lines)),
  preps := ch.preps.filter (fun l => !(l.rest && decide (y ≤ l.no ∧ l.no < p.first + p.lines))) }

theorem State.addGap_chan (s : State) (a n c : Nat) : (s.addGap a n).chan c = s.chan c := by rw [State.addGap_frame]; rfl

theorem State.chan_gaps (s : State) (g : List (Nat × Nat)) (c : Nat) : State.chan { s with gaps := g } c = s.chan c := rfl

theorem State.chan_dropPage (s : State) (p : Page) (y c : Nat) : (s.dropPage p y).chan c = if c < 64 then (s.chan c).cutFrom p y else s.chan c := by
  unfold State.dropPage
  dsimp only
  rw [State.addGap_chan, ← State.chan_each, State.chan_gaps]
  simp only [Chan.cutFrom]

/-- A page cut off at a line leaves no line of its own from there on before the screening. -/
theorem State.grant_dropPage (s : State) (p : Page) (y c : Nat) (hc : c < 64) :
    ∀ l ∈ ((s.dropPage p y).chan c).grant, l.no < y ∨ p.first + p.lines ≤ l.no := by
  intro l hl
  rw [State.chan_dropPage, if_pos hc] at hl
  have hl' : l ∈ (s.chan c).grant.filter (fun l => !decide (y ≤ l.no ∧ l.no < p.first + p.lines)) := hl
  have h := (List.mem_filter.mp hl').2
  simp only [Bool.not_eq_true', decide_eq_false_iff_not] at h
  omega

theorem State.activeManager_setPage (s : State) (p : Page) : (s.setPage p).activeManager = s.activeManager := rfl
theorem State.role_setPage (s : State) (p : Page) : (s.setPage p).role = s.role := rfl

/-- Settles O35: it holds. A page changes the list of pages under its own first line, and its reports leave that list. -/
theorem pagesSubmitted : Obligations.PagesSubmitted := by
  unfold Obligations.PagesSubmitted
  refine ⟨?submit, ?resend, ?told, ?complete, ?fault, ?worker, ?cancel, ?cancelFailed, ?toldCancel⟩
  case submit =>
    intro s d id first h ha hm hj h64 hfl ho hg hb hs hl hid hp hf hh
    subst hid hf hh
    have hr : bit (d.p 0x24 4) 0 = false := by rcases hfl with h | h <;> rw [h] <;> rfl
    have hi : exec (.pageSubmit d none) s = execPageSubmit d s := rfl
    unfold execPageSubmit at hi
    dsimp only at hi
    have he := exec_short hi ha rfl rfl rfl rfl (by simpa [hm, hj, h64, ho, hg] using hs)
      (by simp [hm, hj, h64, ho, hg, hb, hr, show d.p 0x24 4 < 4 by omega]) (by simpa using hl) (by simp [hm, hj, h64, ho, hg, hr, hp])
    rw [hr, if_neg Bool.false_ne_true, (s.started_serves d 0x0203).nextFirst] at he
    dsimp only at he
    obtain ⟨P, S, T, hst⟩ := s.started_some d 0x0203
    obtain ⟨hpg, hpe, hje, hjob, hu⟩ := (s.started d 0x0203).2.reads_addPage
      (Page.mk (d.p 0x10 4) (s.started d 0x0203).1 (s.nextFirst (d.p 0x20 4)) (d.p 0x14 4) (d.p 0x20 4) (bit (d.p 0x24 4) 1) (d.p 0x18 8) 0 0 0 [] [])
      (.wort "pageAccepted" [s.nextFirst (d.p 0x20 4), d.p 0x10 4, d.p 0x14 4, d.p 0x18 8, d.p 0x20 4, d.p 0x24 4])
      (s.started d 0x0203).1 stAccepted (s.nextFirst (d.p 0x20 4) % 2 ^ 32)
    rw [show (s.started d 0x0203).2.pages = s.pages by rw [hst]] at hpg
    rw [show (s.started d 0x0203).2.jobEnds = s.jobEnds by rw [hst]] at hje
    rw [show (s.started d 0x0203).2.hostMem = s.hostMem by rw [hst]] at hu
    exact ⟨_, he, hpg, hpe, hje, hjob, hu⟩
  case resend =>
    intro s d p h ha hm hj h64 hfl ho hg hb hs hl hp h1 hpl hpg hh
    subst hh
    have hr : bit (d.p 0x24 4) 0 = true := by rcases hfl with h | h <;> rw [h] <;> rfl
    have hi : exec (.pageSubmit d none) s = execPageSubmit d s := rfl
    unfold execPageSubmit at hi
    dsimp only at hi
    have he := exec_short hi ha rfl rfl rfl rfl (by simpa [hm, hj, h64, ho, hg] using hs)
      (by simp [hm, hj, h64, ho, hg, hb, hr, hp, hpl, hpg, show d.p 0x24 4 < 4 by omega]) (by simpa using hl)
      (by simp [hm, hj, h64, ho, hg, hr, hp, h1])
    rw [hr, hp] at he
    exact ⟨_, he, rfl⟩
  case told =>
    intro s d first hm hp
    have hi : exec (.pageSubmit d (some first)) s = .next (s.when (!s.activeManager) (fun s => s.pageTold d first)) := rfl
    rw [State.when_of _ _ (by rw [hm]; rfl)] at hi
    unfold State.pageTold at hi
    dsimp only at hi
    rw [hp] at hi
    have hf := s.addPage_frame (Page.mk (d.p 0x10 4) 0 first (d.p 0x14 4) (d.p 0x20 4) (bit (d.p 0x24 4) 1) (d.p 0x18 8) 0 0 0 [] [])
    exact ⟨_, hi, congrArg State.pages hf, State.addPage_job .., State.addPage_new ..⟩
  case complete =>
    intro s id fired p hp h0 hm hl hf
    have hi : exec (.pageComplete id fired) s = execPageComplete id fired s := rfl
    unfold execPageComplete at hi
    rw [hp] at hi
    dsimp only at hi
    rw [State.when_of _ _ (by simp [h0, hm, hl, hf])] at hi
    exact ⟨_, hi, rfl⟩
  case fault =>
    intro s id cause bar line strip block slot p hp h0 hm h1 h4 hb
    have hi : exec (.pageFault id cause bar line strip block slot) s = execPageFault id cause bar line strip block s slot := rfl
    unfold execPageFault at hi
    rw [State.when_of _ _ (decide_eq_true ⟨h1, h4⟩)] at hi
    dsimp only at hi
    rw [State.noteFault_of_page hp, State.activeManager_setPage, if_pos hm,
      State.pageFault_open (State.page_setPage (q := p.noted strip block slot) hp rfl rfl (show p.state ≤ 1 by omega)) h0, State.setPage_setPage,
      Nat.mod_eq_of_lt (show cause < 16 by omega), Nat.mod_eq_of_lt hb] at hi
    · exact ⟨_, hi, rfl⟩
    · rfl
  case worker =>
    intro s id cause bar line strip block slot p hp hm hr h1 h4
    have hi : exec (.pageFault id cause bar line strip block slot) s = execPageFault id cause bar line strip block s slot := rfl
    unfold execPageFault at hi
    rw [State.when_of _ _ (decide_eq_true ⟨h1, h4⟩)] at hi
    dsimp only at hi
    rw [State.noteFault_of_page hp, State.activeManager_setPage, State.role_setPage, if_neg (by simp [hm]),
      if_neg (by rw [hr]; decide)] at hi
    exact ⟨_, hi, rfl⟩
  case cancel =>
    intro s d p h u ha hm hp h0 hsc hh hu
    have hi : exec (.pageCancel d false none) s = execPageCancel d false s := rfl
    unfold execPageCancel at hi
    dsimp only at hi
    have he := exec_long hi ha rfl rfl rfl rfl rfl rfl rfl (by simp [hm, hp, h0, hsc])
    rw [(s.startedLong_serves d 0x0204).page, hp] at he
    dsimp only at he
    rw [if_pos h0, if_neg (by omega)] at he
    subst hh hu
    exact ⟨_, he, rfl⟩
  case cancelFailed =>
    intro s d e p h ha hm hp h1 hh
    have hi : exec (.pageCancel d e none) s = execPageCancel d e s := rfl
    unfold execPageCancel at hi
    dsimp only at hi
    have he := exec_long hi ha rfl rfl rfl rfl rfl rfl rfl (by simp [hm, hp, h1])
    rw [(s.startedLong_serves d 0x0204).page, hp] at he
    dsimp only at he
    rw [if_pos h1, if_neg (by omega)] at he
    subst hh
    exact ⟨_, he, rfl⟩
  case toldCancel =>
    intro s d e p y hm hp
    have hi : exec (.pageCancel d e (some y)) s = execPageCancel d e s (some y) := rfl
    unfold execPageCancel at hi
    dsimp only at hi
    rw [State.when_of _ _ (by rw [hm]; rfl), hp] at hi
    refine ⟨_, hi, rfl, fun c => ?_⟩
    by_cases hc : c < 64
    · exact .inl (State.grant_dropPage _ p y c hc)
    · exact .inr (by omega)

end Sys2Proof.Machine
end

section
/-! PROOF. Intake queues, decode lanes and grant buffers. -/

namespace Sys2Proof.Machine

-- One lemma after the other: elaborated side by side, they ask for more threads than the compile may have.
set_option Elab.async false

/-! ## Intake queues, decode lanes and grant buffers -/

theorem QBlock.awaits_iff (b : QBlock) (x : Arrival) : b.awaits x = true ↔ b.page = x.page ∧ b.index = x.index ∧ b.bytes = [] := by
  simp [QBlock.awaits, and_assoc]

theorem State.learnPage_frame (s : State) (id first lines gap : Nat) (last : Bool) : s.learnPage id first lines gap last = { s with
    pages := (s.learnPage id first lines gap last).pages, gaps := (s.learnPage id first lines gap last).gaps,
    pageEnd := (s.learnPage id first lines gap last).pageEnd, jobEnds := (s.learnPage id first lines gap last).jobEnds,
    regs := (s.learnPage id first lines gap last).regs } := by
  unfold State.learnPage
  split_ifs
  · rfl
  · exact State.addPage_new ..

theorem State.chan_learnPage (s : State) (id first lines gap : Nat) (last : Bool) (c : Nat) :
    (s.learnPage id first lines gap last).chan c = s.chan c := by
  rw [State.learnPage_frame]
  rfl

/-- The channel that a change writes, and the others. -/
theorem State.setChan_reads (s : State) (c : Nat) (x : Chan) : (s.setChan c x).chan c = x ∧ (∀ m, m ≠ c → (s.setChan c x).chan m = s.chan m) ∧
    s.setChan c x = { s with chans := (s.setChan c x).chans } :=
  ⟨s.chan_setChan c x, fun _ h => s.chan_setChan_ne x h, rfl⟩

/-- A block as it enters a queue. -/
def arrived (x : Arrival) : QBlock :=
  { page := x.page, pfirst := x.first, index := x.index, first := x.line, lines := x.planeLines, bytes := x.bytes, room := units x.bytes.length }

/-- A block that arrives and has bytes of its own, where it may be taken. -/
theorem exec_blockArrival {s : State} {c : Nat} {x : Arrival} (hc : c < 64) (hx : x.bytes ≠ [])
    (hn : (s.chan c).intake.any (fun b => b.awaits x && decide (b.fails < 2)) = true ∨ units x.bytes.length ≤ (s.chan c).credit) :
    exec (.blockArrival c x) s = .next ((s.learnPage x.page x.first x.lines x.gap x.last).setChan c (
      if (s.chan c).intake.any (fun b => b.awaits x && decide (b.fails < 2)) then
        { s.chan c with intake := (s.chan c).intake.map (fun b => if b.awaits x then { b with bytes := x.bytes } else b) }
      else { s.chan c with
        intake := if (s.chan c).intake.any (fun b => b.awaits x) then
            (s.chan c).intake.map (fun b => if b.awaits x then { b with bytes := x.bytes, room := units x.bytes.length, fails := 0 } else b)
          else (s.chan c).intake.filter (fun b => b.ahead x) ++ [arrived x] ++ (s.chan c).intake.filter (fun b => !b.ahead x),
        credit := (s.chan c).credit - units x.bytes.length, lastFirst := max (s.chan c).lastFirst (x.first + 1) })) := by
  have hi : exec (.blockArrival c x) s = execBlockArrival c x s := rfl
  unfold execBlockArrival at hi
  dsimp only at hi
  rw [State.when_of _ _ (by simpa [hc, hx] using hn)] at hi
  rw [hi]
  dsimp only
  split_ifs <;> rfl

/-- What a block that arrived first leaves. -/
theorem State.reads_arrival (s : State) (c page first lines gap : Nat) (last : Bool) (q : List QBlock) (n m : Nat) :
    (fun t : State => (t.chan c).intake = q ∧ (t.chan c).credit = n ∧ (t.chan c).lastFirst = m ∧
      (∀ m, m ≠ c → t.chan m = s.chan m) ∧ t = (s.learnPage page first lines gap last).setChan c (t.chan c))
    ((s.learnPage page first lines gap last).setChan c { s.chan c with intake := q, credit := n, lastFirst := m }) := by
  dsimp only
  rw [State.chan_setChan]
  exact ⟨rfl, rfl, rfl, fun m hm => (State.chan_setChan_ne _ _ hm).trans (State.chan_learnPage ..), rfl⟩

/-- A failed block counts at its codec, whether it is fetched again or its page fails. -/
theorem State.get_blockFailed (s : State) (i c cause : Nat) (b : QBlock) :
    (s.blockFailed i c cause b).get .CDC_FAIL_COUNT i = min (s.get .CDC_FAIL_COUNT i + 1) (2 ^ Fld.CDC_FAIL_COUNT.desc.width - 1) ∧
    (s.blockFailed i c cause b).get .CDC_FAIL_LAST_CAUSE i = cause % 2 ^ Fld.CDC_FAIL_LAST_CAUSE.desc.width ∧
    (s.blockFailed i c cause b).get .CDC_FAIL_LAST_CHANNEL i = c % 2 ^ Fld.CDC_FAIL_LAST_CHANNEL.desc.width := by
  unfold State.blockFailed
  split_ifs <;> simp [table_form, State.logFault, State.setChan]

/-- What a block that moves on leaves: its lines stand in the tun's memory, and the half it took is named with it. -/
theorem State.reads_release (s : State) (c a : Nat) (q : List QBlock) (h : Nat) (r : List RelBlock) (bs : List Byte) :
    (fun t : State => (t.chan c).intake = q ∧ (t.chan c).half = h ∧ (t.chan c).released = r ∧ (∀ m, m ≠ c → t.chan m = s.chan m) ∧
      t.hostMem = s.hostMem ∧ t.dram = s.dram)
    ((s.setChan c { s.chan c with intake := q, half := h, released := r }).sramWr c a bs) := by
  dsimp only
  unfold State.sramWr
  simp only [State.chan_setChan]
  exact ⟨trivial, trivial, trivial, fun m hm => (State.chan_setChan_ne _ _ hm).trans (State.chan_setChan_ne _ _ hm), rfl, rfl⟩

/-- Settles O36: it holds. Each instruction writes one channel, and an arrival learns its page besides. -/
theorem intakeQueue : Obligations.IntakeQueue := by
  unfold Obligations.IntakeQueue
  refine ⟨?grant, ?grantFar, ?arrival, ?copy, ?third, ?full, ?start, ?header, ?passed, ?failed, ?release, ?discard, ?refill, ?barred, ?idle⟩
  case grant =>
    intro s c n dev hd hr1 hr2 hc hn h
    have hi : exec (.intakeCreditGrant dev c n (s.intakeSize c)) s = execIntakeCreditGrant dev c n (s.intakeSize c) s := rfl
    unfold execIntakeCreditGrant at hi
    dsimp only at hi
    rw [State.when_of _ _ (by simp [hd, hc, hn, h]), if_pos (by simp [hd, hr1, hr2]), if_pos (by simpa using hd)] at hi
    refine ⟨_, hi, ?_, fun m hm => ?_, rfl⟩
    · exact look_store_same ..
    · exact look_store_ne _ _ _ hm
  case grantFar =>
    intro s dev c n z hd hc hn
    have hi : exec (.intakeCreditGrant dev c n z) s = execIntakeCreditGrant dev c n z s := rfl
    unfold execIntakeCreditGrant at hi
    dsimp only at hi
    rw [State.when_of _ _ (by simp [hc, hn, hd]), if_neg (by simp [hd]), if_neg (by simpa using hd)] at hi
    exact ⟨_, hi, look_store_same .., look_store_same .., fun m hm => look_store_ne _ _ _ hm, rfl⟩
  case arrival =>
    intro s c x hc hx hn hno
    have hno' : ∀ b ∈ (s.chan c).intake, b.awaits x = false := fun b hb => by
      simpa using mt (b.awaits_iff x).mp (hno b hb)
    have hi := exec_blockArrival hc hx (.inr hn)
    rw [if_neg (by simpa using fun b hb h => absurd (hno' b hb) (by simp [h])), if_neg (by simpa using hno')] at hi
    exact ⟨_, hi, State.reads_arrival ..⟩
  case copy =>
    intro s c x hc hx ⟨b, hb, hp, hix, hby, hf⟩
    have hcopy : (s.chan c).intake.any (fun b => b.awaits x && decide (b.fails < 2)) = true :=
      List.any_eq_true.mpr ⟨b, hb, by simp [(b.awaits_iff x).mpr ⟨hp, hix, hby⟩, hf]⟩
    have hi := exec_blockArrival hc hx (.inl hcopy)
    rw [if_pos hcopy] at hi
    refine ⟨_, hi, ?_⟩
    dsimp only
    rw [State.chan_setChan]
    simp only [QBlock.awaits_iff, true_and]
  case third =>
    intro s c x hc hx hn ⟨b, hb, hp, hix, hby⟩ hf
    have hw : (s.chan c).intake.any (fun b => b.awaits x) = true := List.any_eq_true.mpr ⟨b, hb, (b.awaits_iff x).mpr ⟨hp, hix, hby⟩⟩
    have hno : ¬ (s.chan c).intake.any (fun b => b.awaits x && decide (b.fails < 2)) = true := by
      simp only [List.any_eq_true, Bool.and_eq_true, QBlock.awaits_iff, decide_eq_true_iff, not_exists, not_and, not_lt]
      exact fun b hb ⟨hp, hix, hby⟩ => hf b hb hp hix hby
    have hi := exec_blockArrival hc hx (.inr hn)
    rw [if_neg hno, if_pos hw] at hi
    refine ⟨_, hi, ?_⟩
    dsimp only
    rw [State.chan_setChan]
    simp only [QBlock.awaits_iff, true_and]
  case full =>
    intro s c x hn hno
    have hw : ∀ b ∈ (s.chan c).intake, b.awaits x = false := fun b hb => by
      simpa using mt (b.awaits_iff x).mp (fun h => hno b hb h.2.2)
    have hi : exec (.blockArrival c x) s = execBlockArrival c x s := rfl
    unfold execBlockArrival at hi
    dsimp only at hi
    rw [State.when, if_neg] at hi
    · exact ⟨_, hi, rfl⟩
    · simp only [Bool.and_eq_true, Bool.or_eq_true, List.any_eq_true, decide_eq_true_iff, not_and, not_or, not_exists, not_le]
      exact fun _ => ⟨fun b hb h => by simp [hw b hb] at h, hn⟩
  case start =>
    intro s c i j b hc hi hj hf3 hf2 hp hpc hb hh
    subst hi
    have hi : exec (.blockDecodeStart c) s = execBlockDecodeStart c s := rfl
    unfold execBlockDecodeStart at hi
    dsimp only at hi
    rw [hj, hb] at hi
    dsimp only at hi
    rw [State.when_of _ _ (by simp [hc, hf3, hf2, hp, hpc]), if_pos hh] at hi
    exact ⟨_, hi, s.setChan_reads c _⟩
  case header =>
    intro s c i j b hc hi hj hf3 hf2 hp hpc hb hh
    subst hi
    have hi : exec (.blockDecodeStart c) s = execBlockDecodeStart c s := rfl
    unfold execBlockDecodeStart at hi
    dsimp only at hi
    rw [hj, hb] at hi
    dsimp only at hi
    rw [State.when_of _ _ (by simp [hc, hf3, hf2, hp, hpc]), if_neg (by simp [hh])] at hi
    exact ⟨_, hi, rfl⟩
  case passed =>
    intro s i j c x b rows hx hb hk
    have hi : exec (.blockCheckDone i j) s = execBlockCheckDone i j s := rfl
    unfold execBlockCheckDone at hi
    dsimp only at hi
    rw [hx] at hi
    dsimp only at hi
    rw [hb] at hi
    dsimp only at hi
    rw [hk] at hi
    refine ⟨_, hi, ?_, congrArg Chan.intake (State.chan_setChan ..), rfl⟩
    exact State.get_set_same ..
  case failed =>
    intro s i j c cause x b hx hb hk
    have hi : exec (.blockCheckDone i j) s = execBlockCheckDone i j s := rfl
    unfold execBlockCheckDone at hi
    dsimp only at hi
    rw [hx] at hi
    dsimp only at hi
    rw [hb] at hi
    dsimp only at hi
    rw [hk] at hi
    exact ⟨_, hi, rfl, s.get_blockFailed i c cause b⟩
  case release =>
    intro s c a b l hc hq hf hp hb hps hr
    have hi : exec (.blockRelease c) s = execBlockRelease c s := rfl
    unfold execBlockRelease at hi
    dsimp only at hi
    rw [hq] at hi
    dsimp only at hi
    rw [if_neg (by omega), if_neg (by simp [hf, hp]), ← hq, hb] at hi
    dsimp only at hi
    rw [State.when_of _ _ (by simp [hps, hr])] at hi
    exact ⟨_, hi, State.reads_release ..⟩
  case discard =>
    intro s c b l hc hq h
    have hi : exec (.blockRelease c) s = execBlockRelease c s := rfl
    unfold execBlockRelease at hi
    dsimp only at hi
    rw [hq] at hi
    dsimp only at hi
    rw [if_neg (by omega), if_pos (by simpa using h)] at hi
    exact ⟨_, hi, s.setChan_reads c _⟩
  case refill =>
    intro s c x l hc hl hp hb ho hg
    have hi : exec (.grantRefill c) s = execGrantRefill c s := rfl
    unfold execGrantRefill at hi
    dsimp only at hi
    rw [hl] at hi
    dsimp only at hi
    rw [if_neg (by simp [hp, hc]), if_neg (by simp [hb, ho]), State.when_of _ _ (decide_eq_true hg)] at hi
    exact ⟨_, hi, s.setChan_reads c _⟩
  case barred =>
    intro s c x l hc hl hp hb
    have hi : exec (.grantRefill c) s = execGrantRefill c s := rfl
    unfold execGrantRefill at hi
    dsimp only at hi
    rw [hl] at hi
    dsimp only at hi
    rw [if_neg (by simp [hp, hc]), if_pos (by simp [hb])] at hi
    exact ⟨_, hi, s.setChan_reads c _⟩
  case idle =>
    intro s c hl
    have hi : exec (.grantRefill c) s = execGrantRefill c s := rfl
    unfold execGrantRefill at hi
    dsimp only at hi
    rw [hl] at hi
    exact ⟨_, hi, rfl⟩

end Sys2Proof.Machine
end

section
/-! PROOF. The inspection archive. -/

namespace Sys2Proof.Machine

-- One lemma after the other: elaborated side by side, they ask for more threads than the compile may have.
set_option Elab.async false

/-! ## The inspection archive -/

theorem Serves.archive {s t : State} (h : Serves s t) : t.archive = s.archive := by rw [h.frame]

theorem takeFrames_spec (n m : Nat) (l : List ArchFrame) : (takeFrames n m l).1 ++ (takeFrames n m l).2 = l ∧
    (takeFrames n m l).1.length ≤ n ∧ ((takeFrames n m l).1.map ArchFrame.size).sum ≤ m := by
  induction n generalizing m l with
  | zero => simp [takeFrames]
  | succ n ih =>
    cases l with
    | nil => simp [takeFrames]
    | cons f t =>
      unfold takeFrames
      split_ifs with h
      · obtain ⟨ha, hl, hs⟩ := ih (m - f.size) t
        refine ⟨congrArg (f :: ·) ha, Nat.succ_le_succ hl, ?_⟩
        simp only [List.map_cons, List.sum_cons]
        omega
      · simp

/-- The oldest frames make room until the ring has it; with as many steps as there are frames, room that it has at all is found. -/
theorem makeRoom_spec (need : Nat) : ∀ (fuel : Nat) (a : Archive), a.frames.length ≤ fuel → need ≤ a.size →
    (makeRoom fuel need a).2 = { a with frames := a.frames.drop (makeRoom fuel need a).1 } ∧ (makeRoom fuel need a).2.fill + need ≤ a.size ∧
    (a.fill + need ≤ a.size → (makeRoom fuel need a).1 = 0)
  | 0, a, hl, hn => by
    have hf : a.frames = [] := List.eq_nil_of_length_eq_zero (Nat.le_zero.mp hl)
    unfold makeRoom
    exact ⟨rfl, by simp [Archive.fill, hf, hn], fun _ => rfl⟩
  | fuel + 1, a, hl, hn => by
    unfold makeRoom
    split_ifs with h
    · exact ⟨rfl, h, fun _ => rfl⟩
    · obtain ⟨h2, hfill, -⟩ := makeRoom_spec need fuel { a with frames := a.frames.drop 1 } (by simp; omega) hn
      refine ⟨?_, hfill, fun h' => absurd h' h⟩
      dsimp only
      rw [h2]
      simp [Nat.add_comm]

theorem Archive.fill_append (a : Archive) (f : ArchFrame) : Archive.fill { a with frames := a.frames ++ [f] } = a.fill + f.size := by
  simp [Archive.fill]

theorem State.enc_setEnc (s : State) (i : Nat) (e : EncLane) : (s.setEnc i e).enc i = e := look_store_same ..
theorem State.enc_setEnc_ne (s : State) {i j : Nat} (e : EncLane) (h : j ≠ i) : (s.setEnc i e).enc j = s.enc j := look_store_ne _ _ _ h

/-- What the ring holds after a command of its own has been reported. -/
theorem State.reads_archive (s : State) (h r : Nat) : (s.done h r).archive = s.archive := (s.done_serves h r).archive

/-- A record of an ended frame that the encoder has ready. -/
theorem exec_archiveFrameWrite {s : State} {x : Nat} {f : ArchFrame} (hx : x < 8) (he : (s.enc (s.encOf x)).ended = false)
    (hf : (s.enc (s.encOf x)).ready.find? (fun g => g.cam == x) = some f) : exec (.archiveFrameWrite x) s = .next (
    let u := s.setEnc (s.encOf x) { s.enc (s.encOf x) with ready := (s.enc (s.encOf x)).ready.erase f }
    if !bit s.archive.mask x || (s.archive.policy == 1 && decide (s.archive.size < s.archive.fill + f.size)) || decide (s.archive.size < f.size)
    then u.bump .INT_ARCH_DROPPED_COUNT
    else
      let r : Nat × Archive := if s.archive.policy = 1 then (0, s.archive) else makeRoom s.archive.frames.length f.size s.archive
      let a : Archive := { r.2 with frames := r.2.frames ++ [f] }
      let v := u.bump .INT_ARCH_DROPPED_COUNT r.1
      if s.archive.policy = 1 ∧ 7 * a.size < 8 * a.fill ∧ !s.archive.holding then
        { v with archive := { a with holding := true }, lateDue := v.lateDue ++ [(archiveSlot, v.seq.next)] }
      else { v with archive := a }) := by
  have hi : exec (.archiveFrameWrite x) s = execArchiveFrameWrite x s := rfl
  unfold execArchiveFrameWrite at hi
  dsimp only at hi
  rw [he, if_neg Bool.false_ne_true, hf] at hi
  dsimp only at hi
  rw [State.when_of _ _ (decide_eq_true hx)] at hi
  rw [hi]

/-- Settles O37: it holds. The ring drops its oldest records until the one that enters has room. -/
theorem inspectionArchive : Obligations.InspectionArchive := by
  unfold Obligations.InspectionArchive
  refine ⟨?setup, ?ends, ?read, takeFrames_spec, ?close, ?flush, ?noFlush, ?drop, ?hold⟩
  case setup =>
    intro s d h ha hp hpc hs hb hz hm h0 hh
    subst hh
    have hi : exec (.archiveSetup d) s = execArchiveSetup d s := rfl
    unfold execArchiveSetup at hi
    dsimp only at hi
    have he := exec_short hi ha rfl rfl rfl rfl (by simp; omega) (by simp [hp, hpc, hs, hb, hz]) rfl (by simp [h0])
    rw [if_neg hm] at he
    exact ⟨_, he, rfl⟩
  case ends =>
    intro s d h ha hp hs hb hz hm hh
    subst hh
    have hi : exec (.archiveSetup d) s = execArchiveSetup d s := rfl
    unfold execArchiveSetup at hi
    dsimp only at hi
    have he := exec_short hi ha rfl rfl rfl rfl (by simp; omega) (by simp [hp, hs, hb, hz]) rfl (by simp [hm])
    rw [if_pos hm, (s.started_serves d 0x0205).archive] at he
    exact ⟨_, he, rfl, State.reads_archive ..⟩
  case read =>
    intro s d h n m ha hn hm hn0 hm0 hf hh
    subst hh hn hm
    have hi : exec (.archiveRead d) s = execArchiveRead d s := rfl
    unfold execArchiveRead at hi
    dsimp only at hi
    have he := exec_long hi ha rfl rfl rfl rfl (by simpa using hm0) (by
      cases hl : s.archive.frames with
      | nil => rfl
      | cons f l => exact decide_eq_true (hf f (by rw [hl]; rfl))) (by simpa using hn0) rfl
    rw [(s.startedLong_serves d 0x0206).archive] at he
    have hr := State.reads_archive { (s.startedLong d 0x0206).2 with
      hostMem := Memory.wrs (s.startedLong d 0x0206).2.hostMem (d.p 0x18 8)
        ((takeFrames (d.p 0x10 4) (d.p 0x14 4) s.archive.frames).1.flatMap ArchFrame.record),
      archive := Archive.settle { s.archive with frames := (takeFrames (d.p 0x10 4) (d.p 0x14 4) s.archive.frames).2 } }
      (s.startedLong d 0x0206).1 (takeFrames (d.p 0x10 4) (d.p 0x14 4) s.archive.frames).1.length
    refine ⟨_, he, hr, ?_⟩
    rw [hr]
  case close =>
    intro s x k hx hk hc hr h
    subst hk
    have hi : exec (.archiveBlockClose x) s = execArchiveBlockClose x s := rfl
    unfold execArchiveBlockClose at hi
    dsimp only at hi
    rw [State.when_of _ _ (by simpa [hx, hc, hr, or_assoc] using h), EncLane.close, if_neg (by simpa using hr)] at hi
    exact ⟨_, hi, State.enc_setEnc .., fun j hj => State.enc_setEnc_ne _ _ hj, rfl⟩
  case flush =>
    intro s i hi hr hrow
    have he := exec_when_reach (i := .cdcEncFlush i) (s := s) rfl (decide_eq_true hi) hr
    rw [State.encFlush, if_neg (by simpa using hrow)] at he
    exact ⟨_, he, rfl, State.enc_setEnc .., fun j hj => State.enc_setEnc_ne _ _ hj⟩
  case noFlush =>
    intro s i hi hr hrow
    have he := exec_when_reach (i := .cdcEncFlush i) (s := s) rfl (decide_eq_true hi) hr
    rw [State.encFlush, if_pos (by simpa using hrow)] at he
    exact ⟨_, he, rfl⟩
  case drop =>
    intro s x k f hx hk hend hf hm hp hz
    subst hk
    have hi := exec_archiveFrameWrite hx hend hf
    dsimp only at hi
    rw [if_neg (by simp [hm, hp, hz]), if_neg hp, if_neg (fun h => hp h.1)] at hi
    obtain ⟨h2, hfill, h0⟩ := makeRoom_spec f.size s.archive.frames.length s.archive le_rfl hz
    rw [h2] at hi hfill
    refine ⟨_, hi, State.enc_setEnc .., rfl, _, rfl, ?_, h0, ?_⟩
    · exact (Archive.fill_append _ f).trans_le hfill
    · exact State.get_bump_same ..
  case hold =>
    intro s x k f hx hk hend hf hp hz
    subst hk
    have hi := exec_archiveFrameWrite hx hend hf
    dsimp only at hi
    rw [if_pos (by simp [hp, hz])] at hi
    exact ⟨_, hi, rfl, State.enc_setEnc .., State.get_bump_same ..⟩

end Sys2Proof.Machine
end

section
/-! PROOF. Head power. -/

namespace Sys2Proof.Machine

-- One lemma after the other: elaborated side by side, they ask for more threads than the compile may have.
set_option Elab.async false

/-! ## Head power -/

/-- Widths of fields. -/
theorem headWidths : Fld.KILN_HPWR_ON_ON.desc.width = 32 ∧ Fld.KILN_HPWR_REQ_REQ.desc.width = 32 ∧ Fld.FIRE_CH_STATUS_HPWR.desc.width = 1 :=
  ⟨rfl, rfl, rfl⟩

/-- A condition lost is latched in each channel whose head is on. -/
theorem State.cutHeads_reads (s : State) : s.cutHeads = { s with chans := s.cutHeads.chans } ∧
    ∀ c, s.cutHeads.chan c = { s.chan c with cut := (s.chan c).cut || (decide (c < 64) && s.headOn c && !s.powerOk c) } := by
  unfold State.cutHeads State.each
  induction 64 with
  | zero => exact ⟨rfl, fun c => by simp⟩
  | succ n ih =>
    obtain ⟨hf, hc⟩ := ih
    rw [List.range_succ, List.foldl_append, List.foldl_cons, List.foldl_nil]
    generalize (List.range n).foldl _ s = u at hf hc ⊢
    have hon : ∀ c, u.headOn c = s.headOn c := fun c => by rw [hf]; rfl
    have hok : ∀ c, u.powerOk c = s.powerOk c := fun c => by rw [hf]; rfl
    rw [hon, hok]
    refine ⟨by split_ifs <;> rw [hf]; rfl, fun c => ?_⟩
    by_cases hcn : c = n
    · subst hcn
      split_ifs with h
      · rw [State.chan_setChan, hc]
        rw [Bool.and_eq_true, Bool.not_eq_true'] at h
        simp [h]
      · rw [hc]
        have h' := Bool.eq_false_iff.mpr h
        simp [h']
    · have hd : decide (c < n + 1) = decide (c < n) := decide_eq_decide.mpr (by omega)
      rw [hd, ← hc]
      split_ifs
      · exact State.chan_setChan_ne _ _ hcn
      · rfl

/-- A line prepared in channel `c` checked again, and sent again where its codes are no longer the same. -/
def State.clipPrep (c : Nat) (s : State) (p : Prep) : State :=
  if s.kilnPrep c p = p then s
  else (s.setChan c { s.chan c with preps := (s.chan c).preps.map (fun x => if x.no = p.no then s.kilnPrep c p else x) }).sendFrame c
    (s.kilnPrep c p)

/-- The lines prepared in the channels below `n`, checked again. -/
def State.clipChannels (s : State) (n : Nat) : State := s.each n (fun s c => (s.chan c).preps.foldl (State.clipPrep c) s)

theorem State.sealKiln_eq (s : State) (hk : s.kiln = none) (b : List Byte) (key : Nat) :
    s.sealKiln b key = State.clipChannels { s with kiln := some ⟨b, key, digestId (sha384 b)⟩ } 64 := by
  unfold State.sealKiln
  rw [hk]
  rfl

theorem State.sendFrame_frame (s : State) (c : Nat) (p : Prep) : s.sendFrame c p = { s with outbox := (s.sendFrame c p).outbox } := rfl

theorem State.clipPrep_frame (s : State) (c : Nat) (p : Prep) : s.clipPrep c p = { s with
      chans := (s.clipPrep c p).chans, outbox := (s.clipPrep c p).outbox } ∧ ∀ m, m ≠ c → (s.clipPrep c p).chan m = s.chan m := by
  unfold State.clipPrep
  split_ifs
  · exact ⟨rfl, fun _ _ => rfl⟩
  · rw [State.sendFrame_frame]
    exact ⟨rfl, fun m hm => State.chan_setChan_ne _ _ hm⟩

theorem State.clipPreps_frame (s : State) (c : Nat) (l : List Prep) : l.foldl (State.clipPrep c) s = { s with
      chans := (l.foldl (State.clipPrep c) s).chans, outbox := (l.foldl (State.clipPrep c) s).outbox } ∧
    ∀ m, m ≠ c → (l.foldl (State.clipPrep c) s).chan m = s.chan m := by
  induction l generalizing s with
  | nil => exact ⟨rfl, fun _ _ => rfl⟩
  | cons p l ih =>
    rw [List.foldl_cons]
    obtain ⟨hf, hc⟩ := ih (s.clipPrep c p)
    obtain ⟨hf', hc'⟩ := s.clipPrep_frame c p
    generalize List.foldl _ _ l = u at hf hc ⊢
    refine ⟨?_, fun m hm => (hc m hm).trans (hc' m hm)⟩
    rw [hf, hf']

/-- One line prepared, checked again. -/
theorem State.clipPrep_preps (s : State) {c : Nat} {p : Prep} (h : (s.chan c).preps = [p]) : ((s.clipPrep c p).chan c).preps = [s.kilnPrep c p] := by
  unfold State.clipPrep
  split_ifs with hq
  · rw [h, hq]
  · have hs : (((s.setChan c { s.chan c with preps := (s.chan c).preps.map (fun x => if x.no = p.no then s.kilnPrep c p else x) }).sendFrame c
        (s.kilnPrep c p)).chan c).preps = (s.chan c).preps.map (fun x => if x.no = p.no then s.kilnPrep c p else x) :=
      congrArg Chan.preps (State.chan_setChan ..)
    rw [hs, h]
    simp

theorem State.clipChannels_reads (s : State) (n : Nat) : s.clipChannels n = { s with
      chans := (s.clipChannels n).chans, outbox := (s.clipChannels n).outbox } ∧ (∀ c, n ≤ c → (s.clipChannels n).chan c = s.chan c) ∧
    ∀ c p, c < n → (s.chan c).preps = [p] → ((s.clipChannels n).chan c).preps = [s.kilnPrep c p] := by
  unfold State.clipChannels State.each
  induction n with
  | zero => exact ⟨rfl, fun _ _ => rfl, fun c _ h => absurd h (Nat.not_lt_zero c)⟩
  | succ n ih =>
    obtain ⟨hf, hge, hlt⟩ := ih
    rw [List.range_succ, List.foldl_append, List.foldl_cons, List.foldl_nil]
    generalize (List.range n).foldl _ s = u at hf hge hlt ⊢
    obtain ⟨hf', hne⟩ := u.clipPreps_frame n (u.chan n).preps
    refine ⟨?_, fun c hc => (hne c (by omega)).trans (hge c (by omega)), fun c p hc hp => ?_⟩
    · generalize List.foldl _ u _ = w at hf' ⊢
      rw [hf', hf]
    · by_cases hcn : c = n
      · subst hcn
        rw [hge c le_rfl, hp, List.foldl_cons, List.foldl_nil, State.clipPrep_preps u ((congrArg Chan.preps (hge c le_rfl)).trans hp)]
        rw [hf]
        rfl
      · rw [hne c hcn]
        exact hlt c p (by omega) hp

theorem State.reads_sealed (s : State) (k : Seal) : (fun t : State => t.kiln = some k ∧
      t = { s with kiln := t.kiln, chans := t.chans, outbox := t.outbox } ∧
      ∀ c p, c < 64 → (s.chan c).preps = [p] → (t.chan c).preps = [t.kilnPrep c p]) (State.clipChannels { s with kiln := some k } 64) := by
  obtain ⟨hf, -, hp⟩ := State.clipChannels_reads { s with kiln := some k } 64
  generalize State.clipChannels _ 64 = t at hf hp ⊢
  have hk : t.kiln = some k := by rw [hf]
  refine ⟨hk, by rw [hk]; exact hf, fun c p hc hp' => (hp c p hc hp').trans ?_⟩
  rw [hf]
  rfl

/-- Head power asked for: a channel whose head is on and whose condition goes with the request has the loss latched. -/
theorem State.hpwrReq_reads (s : State) (i v : Nat) : (fun t : State =>
      OnlyRegs { s with chans := t.chans } t (fun f j k => f = .KILN_HPWR_REQ_REQ ∧ j = 0 ∧ k = i) ∧
      t.get .KILN_HPWR_REQ_REQ 0 i = v % 2 ^ Fld.KILN_HPWR_REQ_REQ.desc.width ∧ (∀ c, t.chan c = { s.chan c with cut := (t.chan c).cut }) ∧
      ∀ c, c < 64 → (t.chan c).cut = ((s.chan c).cut || (t.headOn c && !t.powerOk c))) (s.hpwrReq i v) := by
  obtain ⟨hf, hc⟩ := (s.set .KILN_HPWR_REQ_REQ v 0 i).cutHeads_reads
  unfold State.hpwrReq
  dsimp only
  generalize State.cutHeads (s.set .KILN_HPWR_REQ_REQ v 0 i) = t at hf hc ⊢
  refine ⟨⟨?_, ?_⟩, ?_, fun c => ?_, fun c h => ?_⟩
  · rw [hf]
    rfl
  · intro f j k h
    rw [hf]
    exact (onlyRegs_set s .KILN_HPWR_REQ_REQ v 0 i).2 f j k h
  · rw [hf]
    exact State.get_set_same ..
  · rw [hc]
    rfl
  · rw [hc, show t.headOn c = (s.set .KILN_HPWR_REQ_REQ v 0 i).headOn c by rw [hf]; rfl,
      show t.powerOk c = (s.set .KILN_HPWR_REQ_REQ v 0 i).powerOk c by rw [hf]; rfl]
    simp [h]

/-- Head power switched: its register bit, the state of the channel's status, the pin and the settling. -/
theorem State.headPower_reads (s : State) (c : Nat) (b : Bool) : (fun t : State =>
      t = { s with regs := t.regs, chans := t.chans, heads := t.heads, outbox := t.outbox } ∧
      t.chan c = { s.chan c with settling := b, cut := false } ∧ (∀ n, n ≠ c → t.chan n = s.chan n ∧ t.headOn n = s.headOn n) ∧
      t.headOn c = b ∧ t.is .FIRE_CH_STATUS_HPWR c = b ∧ t.outbox = .pin "HPWR_EN_N" c (b2n !b) :: s.outbox) (s.headPower c b) := by
  have hget : ∀ k, (s.headPower c b).get .KILN_HPWR_ON_ON 0 k = if k = c / 32 then putBit (s.get .KILN_HPWR_ON_ON 0 k) (c % 32) b % 2 ^ 32
      else s.get .KILN_HPWR_ON_ON 0 k := fun k => by
    unfold State.headPower
    simp only [table_form, rd_wr, headWidths]
    simp
    split_ifs with h
    · rw [h]; rfl
    · rfl
  have hon : ∀ n, (s.headPower c b).headOn n = if n = c then b else s.headOn n := fun n => by
    unfold State.headOn
    rw [hget]
    by_cases hn : n / 32 = c / 32
    · rw [if_pos hn, bit, Nat.testBit_mod_two_pow, testBit_putBit, decide_eq_true (Nat.mod_lt n (by decide)), Bool.true_and]
      by_cases he : n = c
      · rw [if_pos he, if_pos (by rw [he])]
      · rw [if_neg he, if_neg (by omega), hn]
        rfl
    · rw [if_neg hn, if_neg (fun h => hn (by rw [h]))]
  refine ⟨rfl, State.chan_setChan .., fun n hn => ⟨State.chan_setChan_ne _ _ hn, (hon n).trans (if_neg hn)⟩, (hon c).trans (if_pos rfl), ?_, rfl⟩
  unfold State.headPower
  simp [table_form, headWidths]

/-- Settles O39: it holds. What the conditions of a head rest on is left as it was by the latches that they set. -/
theorem headPower : Obligations.HeadPower := by
  unfold Obligations.HeadPower
  refine ⟨?req, ?switchedOn, ?settled, ?switchedOff, ?noOff, ?cut, ?sealed, ?seals⟩
  case req =>
    intro s i v hi hr
    have he := exec_when_reach (i := .kilnHpwrReqWrite i v) (s := s) rfl (decide_eq_true hi) hr
    exact ⟨_, he, s.hpwrReq_reads i v⟩
  case switchedOn =>
    intro s c hc hok hon
    have he := exec_when (i := .headPowerOn c) (s := s) rfl (by simp [hc, hok, hon])
    obtain ⟨hf, hch, hne, hb, hst, ho⟩ := s.headPower_reads c true
    exact ⟨_, he, hb, hst, hch, by simp [State.fireOk, hch], ho, hne, hf⟩
  case settled =>
    intro s c hc hon
    have he := exec_when (i := .pwrSettleExpiry c) (s := s) rfl (by simp [hc, hon])
    exact ⟨_, he, State.chan_setChan .., fun n hn => State.chan_setChan_ne _ _ hn, rfl⟩
  case switchedOff =>
    intro s c hc hcut hon hend
    have he := exec_when (i := .headPowerOff c) (s := s) rfl (by
      simp only [Bool.and_eq_true, Bool.or_eq_true, Bool.not_eq_true', decide_eq_true_iff, Option.any_eq_true]
      exact ⟨⟨⟨hc, hcut⟩, hon⟩, hend⟩)
    obtain ⟨hf, hch, hne, hb, hst, ho⟩ := s.headPower_reads c false
    exact ⟨_, he, hb, hch, hst, by simp [State.fireOk, hb], ho, hne, hf⟩
  case noOff =>
    intro s c he hf
    have hi : exec (.headPowerOff c) s = execHeadPowerOff c s := rfl
    unfold execHeadPowerOff at hi
    dsimp only at hi
    rw [State.when, if_neg (by simp [he, hf])] at hi
    exact ⟨_, hi, rfl⟩
  case cut =>
    intro s c hc
    simp [State.fireOk, hc]
  case sealed =>
    intro s k b key hk
    unfold State.sealKiln
    rw [hk]
  case seals =>
    intro s b key hk
    dsimp only
    rw [s.sealKiln_eq hk]
    obtain ⟨h1, h2, h3⟩ := s.reads_sealed ⟨b, key, digestId (sha384 b)⟩
    exact ⟨h1, h2, h3⟩

end Sys2Proof.Machine
end

section
/-! PROOF. Line events. -/

namespace Sys2Proof.Machine

-- One lemma after the other: elaborated side by side, they ask for more threads than the compile may have.
set_option Elab.async false

/-! ## Line events

What the work at a line event leaves: the line itself and the events that follow it, each lemma following the definition that it is about. -/

/-- The line that an event brings: the next one, the events after it, its time, its number as shown; and the memory and the seal, which no
event touches. -/
structure LineView where
  next : Nat
  events : List (Nat × Nat × Nat)
  latest : Nat
  shown : Nat
  dram : Memory
  kiln : Option Seal

def State.lineView (s : State) : LineView := ⟨s.seq.next, s.seq.events, s.seq.latest, s.get .FIRE_LINE_LINE, s.dram, s.kiln⟩

def State.LineIs (s : State) (ν : LineView) : Prop := s.lineView = ν

section
variable {s t : State} {ν : LineView}

theorem State.LineIs.upd (h : s.LineIs ν) (ht : t.lineView = s.lineView := by rfl) : t.LineIs ν := ht.trans h

/-- The number of the line shown. -/
theorem State.LineIs.show (h : s.LineIs ν) (y : Nat) : (s.set .FIRE_LINE_LINE y).LineIs { ν with shown := y % 2 ^ Fld.FIRE_LINE_LINE.desc.width } := by
  subst h
  unfold State.LineIs State.lineView
  rw [State.get_set_same]
  rfl

/-- The event of a line in force. -/
theorem State.LineIs.arrive (h : s.LineIs ν) {n r t c : Nat} {a : List (Nat × Nat)} {l : Timeline} : State.LineIs { s with
    seq := { s.seq with next := n, rate := r, latest := t, comp := c, applied := a }, line := l } { ν with next := n, latest := t } := by
  subst h
  rfl

theorem State.LineIs.stamped (h : s.LineIs ν) {l : List (Nat × Nat)} {o : Out} : (State.out { s with lineStamps := l } o).LineIs ν := h.upd

theorem State.LineIs.reads (h : s.LineIs ν) : s.seq.next = ν.next ∧ s.seq.events = ν.events ∧ s.seq.latest = ν.latest ∧
    s.get .FIRE_LINE_LINE = ν.shown ∧ s.dram = ν.dram ∧ s.kiln = ν.kiln := by
  subst h
  exact ⟨rfl, rfl, rfl, rfl, rfl, rfl⟩

theorem State.LineIs.lateDue (h : s.LineIs ν) {l : List (Nat × Nat)} : State.LineIs { s with lateDue := l } ν := h.upd
theorem State.LineIs.kilnWin (h : s.LineIs ν) {l : List (Nat × Nat)} : State.LineIs { s with kilnWin := l } ν := h.upd

theorem State.LineIs.set (h : s.LineIs ν) {f : Fld} {v i k : Nat} (hf : .FIRE_LINE_LINE ≠ f := by decide) : (s.set f v i k).LineIs ν := by
  refine h.upd ?_
  unfold State.lineView
  rw [State.get_set_fld _ hf]
  rfl

theorem State.LineIs.serves (h : s.LineIs ν) (ht : Serves s t) : t.LineIs ν := by
  refine h.upd ?_
  unfold State.lineView
  rw [ht.get (by decide), ht.frame]

theorem State.LineIs.finish (h : s.LineIs ν) {a st r x : Nat} : (s.finish a st r x).LineIs ν := h.serves (s.finish_serves a st r x)

theorem State.LineIs.ite {c : Prop} [Decidable c] (hs : s.LineIs ν) (ht : t.LineIs ν) : (if c then s else t).LineIs ν := by
  split
  · exact hs
  · exact ht

theorem State.LineIs.onlyIf {c : Prop} [Decidable c] (h : s.LineIs ν) (ht : s.LineIs ν → t.LineIs ν) : (if c then t else s).LineIs ν := .ite (ht h) h

theorem State.LineIs.andThen (h : s.LineIs ν) (ht : s.LineIs ν → t.LineIs ν) : t.LineIs ν := ht h

theorem State.LineIs.foldl (h : s.LineIs ν) {α : Type} {f : State → α → State} {l : List α} (hf : ∀ (u : State), u.LineIs ν → ∀ a, (f u a).LineIs ν) :
    (l.foldl f s).LineIs ν :=
  List.foldlRecOn l f h fun u hu a _ => hf u hu a

theorem State.LineIs.each (h : s.LineIs ν) {n : Nat} {f : State → Nat → State} (hf : ∀ (u : State), u.LineIs ν → ∀ i, (f u i).LineIs ν) : (s.each n f).LineIs ν :=
  h.foldl hf

theorem State.LineIs.bump (h : s.LineIs ν) {f : Fld} {n i k : Nat} (hf : .FIRE_LINE_LINE ≠ f := by decide) : (s.bump f n i k).LineIs ν := h.set hf

theorem State.LineIs.on (h : s.LineIs ν) {f : Fld} {i k : Nat} (hf : .FIRE_LINE_LINE ≠ f := by decide) : (s.on f i k).LineIs ν := h.set hf

theorem State.LineIs.off (h : s.LineIs ν) {f : Fld} {i k : Nat} (hf : .FIRE_LINE_LINE ≠ f := by decide) : (s.off f i k).LineIs ν := h.set hf

theorem State.LineIs.out (h : s.LineIs ν) {o : Out} : (s.out o).LineIs ν := h.upd

theorem State.LineIs.msix (h : s.LineIs ν) {v : Nat} : (s.msix v).LineIs ν := .ite h.out h.upd

theorem State.LineIs.vector (h : s.LineIs ν) {vec en : Fld} : (s.vector vec en).LineIs ν := .ite h.msix h

theorem State.LineIs.telEvent (h : s.LineIs ν) {code unit : Nat} : (s.telEvent code unit).LineIs ν :=
  .andThen (.ite h.upd h.upd.bump) fun h1 => (h1.onlyIf fun h => .ite h.upd h.upd.bump).vector

theorem State.LineIs.takeCalib (h : s.LineIs ν) {k n : Nat} : (s.takeCalib k n).LineIs ν := h.upd

theorem State.LineIs.setChan (h : s.LineIs ν) {c : Nat} {x : Chan} : (s.setChan c x).LineIs ν := h.upd

theorem State.LineIs.recordCoverage (h : s.LineIs ν) {i mask cause : Nat} : (s.recordCoverage i mask cause).LineIs ν :=
  .ite h.set.set.set.set.bump.vector.out h.set.set.set.set.bump.vector

theorem State.LineIs.noteCoverage (h : s.LineIs ν) : s.noteCoverage.LineIs ν := .ite h (.ite h.upd.set.recordCoverage h.upd.out)

theorem State.LineIs.bridgeBoundary (h : s.LineIs ν) {t y : Nat} : (s.bridgeBoundary t y).LineIs ν := (h.onlyIf fun h => h.set).setChan

theorem State.LineIs.rejoin (h : s.LineIs ν) {c page low : Nat} : (s.rejoin c page low).LineIs ν := h.setChan

theorem State.LineIs.rejoinPage (h : s.LineIs ν) {c : Nat} : (s.rejoinPage c).LineIs ν := h.rejoin

theorem State.LineIs.rejoinDevice (h : s.LineIs ν) {c : Nat} : (s.rejoinDevice c).LineIs ν := h.rejoin

theorem State.LineIs.joinAt (h : s.LineIs ν) {c y : Nat} : (s.joinAt c y).LineIs ν := .ite h.setChan h

theorem State.LineIs.levelTest (h : s.LineIs ν) {c : Nat} : (s.levelTest c).LineIs ν := by
  unfold State.levelTest
  extract_lets a late low s1 b s2
  have h1 : s1.LineIs ν := h.onlyIf fun h => h.telEvent
  have hb : (s1.bump .UB_LATE_COUNT_COUNT 1 c).LineIs ν := .bump h1
  have h2 : s2.LineIs ν := h1.onlyIf fun _ => .lateDue hb
  have h0 : ((s.off .UB_LEVEL_LATE c).off .UB_LEVEL_LOW c).LineIs ν := .off (.off h)
  have hp : (if a = 0 then s1.rejoinPage c else s1).LineIs ν := .ite h1.rejoinPage h1
  have h3 : (((if a = 0 then s1.rejoinPage c else s1).off .UB_LEVEL_LATE c).set .UB_LEVEL_LOW (b2n low) c).LineIs ν := .set (.off hp)
  exact .ite h0 (.ite h3 (.set (.set h2)))

theorem State.LineIs.countClip (h : s.LineIs ν) {c y removed slot cause : Nat} : (s.countClip c y removed slot cause).LineIs ν := by
  unfold State.countClip
  extract_lets s1 s2 s3 w n s4
  have h1 : s1.LineIs ν := .bump (.bump h)
  have h2 : s2.LineIs ν := .set h1
  have h3 : s3.LineIs ν := .set (.set (.set h2))
  have h4 : s4.LineIs ν := .kilnWin h3
  have h5 : ((s4.on .KILN_STATUS_ALARM).vector .KILN_ALARM_VEC_VECTOR .KILN_ALARM_VEC_EN).LineIs ν := .vector (.on h4)
  exact .ite (.ite h4 h5) h4

theorem State.LineIs.cutHeads (h : s.LineIs ν) : s.cutHeads.LineIs ν := h.each (fun _ h _ => .ite h.setChan h)

theorem State.LineIs.hpwrReq (h : s.LineIs ν) {i v : Nat} : (s.hpwrReq i v).LineIs ν := h.set.cutHeads

theorem State.LineIs.setScale (h : s.LineIs ν) {x : Nat} {e : Scale} : (s.setScale x e).LineIs ν := h.upd

theorem State.LineIs.seti (h : s.LineIs ν) {f : Fld} {v : Int} {i k : Nat} (hf : .FIRE_LINE_LINE ≠ f := by decide) : (s.seti f v i k).LineIs ν := h.set hf

theorem State.LineIs.encAtLine (h : s.LineIs ν) {t : Nat} : (s.encAtLine t).LineIs ν := .ite h ((h.onlyIf fun h => h.seti).setScale)

theorem State.LineIs.offer (h : s.LineIs ν) {e : SgEvent} : (s.offer e).LineIs ν := .ite h.upd h

theorem State.LineIs.setSetup (h : s.LineIs ν) {y : Nat} {u : Setup} : (s.setSetup y u).LineIs ν := h.upd.set.set.set.set.set.set.set

theorem State.LineIs.testCommit (h : s.LineIs ν) {y : Nat} : (s.testCommit y).LineIs ν := by
  unfold State.testCommit
  split
  · exact .ite (.ite h.upd.off.setSetup h.upd) h
  · exact h

theorem State.LineIs.endCommit (h : s.LineIs ν) {y : Nat} : (s.endCommit y).LineIs ν := by
  unfold State.endCommit
  split
  · exact .ite (by dsimp only; split; exacts [h.upd.finish, h.upd.off.finish]) h
  · exact h

theorem State.LineIs.tailPut (h : s.LineIs ν) {c : Nat} {l : TailLine} : (s.tailPut c l).LineIs ν := .ite h.setChan.bump h.setChan

theorem State.LineIs.enterTail (h : s.LineIs ν) {c y : Nat} {p : Option Prep} : (s.enterTail c y p).LineIs ν := by
  unfold State.enterTail
  dsimp only
  split
  · exact h.tailPut.setChan
  · exact h.tailPut

theorem State.LineIs.enterRow (h : s.LineIs ν) {c y : Nat} {codes : List Nat} : (s.enterRow c y codes).1.LineIs ν := h.bridgeBoundary.setChan

theorem State.LineIs.countPrep (h : s.LineIs ν) {c : Nat} {p : Prep} : (s.countPrep c p).LineIs ν := by
  unfold State.countPrep
  extract_lets s1
  have h1 : s1.LineIs ν := .bump (.bump h)
  split
  · exact .ite h1 h1.countClip
  · exact h1

theorem State.LineIs.stepTrim (h : s.LineIs ν) {c : Nat} : (s.stepTrim c).LineIs ν := .ite h h.set.set

theorem State.LineIs.markUnfired (h : s.LineIs ν) {c y : Nat} : (s.markUnfired c y).LineIs ν := h.setChan

theorem State.LineIs.missLine (h : s.LineIs ν) {y : Nat} : (s.missLine y).LineIs ν :=
  h.bump.each (fun _ h _ => .ite (.andThen (by split; exacts [h.countPrep, h.enterRow.bump.bump, h]) fun h1 =>
    h1.enterTail.markUnfired.bump.setChan) h)

theorem State.LineIs.useGrant (h : s.LineIs ν) {y : Nat} : (s.useGrant y).LineIs ν := h.each (fun _ h _ => h.setChan)

theorem State.LineIs.planTrigger (h : s.LineIs ν) {y t p x : Nat} : (s.planTrigger y t p x).LineIs ν := .ite h.upd h

theorem State.LineIs.writeComp (h : s.LineIs ν) {v : Nat} : (s.writeComp v).LineIs ν := .ite h.on h.set

theorem line_ne_hold (i : Nat) : .FIRE_LINE_LINE ≠ holdFlds.getD i .BAR_HOLD_IMAGE := by
  rw [List.getD_eq_getElem?_getD]
  cases h : holdFlds[i]? with
  | none => decide
  | some f => exact (by decide : ∀ f ∈ holdFlds, .FIRE_LINE_LINE ≠ f) f (List.mem_of_getElem? h)

theorem State.LineIs.setHold (h : s.LineIs ν) {m : Nat} : (s.setHold m).LineIs ν := by
  unfold State.setHold
  extract_lets old before s1 held s2 u s3
  have h1 : s1.LineIs ν := h.foldl fun _ h i => .ite h (State.LineIs.set h (hf := line_ne_hold i))
  have h2 : s2.LineIs ν := h1.onlyIf fun h => h.hpwrReq.hpwrReq
  have hu : u.LineIs ν := State.LineIs.set h2
  have h3 : s3.LineIs ν := h2.onlyIf fun _ => State.LineIs.each hu.upd fun _ h _ => State.LineIs.off h
  exact (h3.foldl fun _ h _ => .ite h h.rejoinDevice).noteCoverage

theorem State.LineIs.holdBit (h : s.LineIs ν) {i : Nat} {on : Bool} : (s.holdBit i on).LineIs ν := h.setHold

theorem State.LineIs.takeNotice (h : s.LineIs ν) {y : Nat} : (s.takeNotice y).LineIs ν := by
  unfold State.takeNotice
  split
  · exact h
  · exact .ite h (.ite h.upd.writeComp.holdBit (.holdBit (.ite h.upd.writeComp h.upd)))

theorem State.LineIs.endReleases (h : s.LineIs ν) {y : Nat} : (s.endReleases y).LineIs ν := h.foldl (fun _ h _ => .ite h (.ite h.upd.out h.upd.finish))

theorem State.LineIs.sendDigests (h : s.LineIs ν) {y : Nat} : (s.sendDigests y).LineIs ν := .ite h (h.foldl (fun _ h _ => h.foldl (fun _ h _ => h.out)))

end

/-- Widths of fields. -/
theorem lineWidths : Fld.FIRE_TRIG_COMP.desc.width = 16 ∧ Fld.FIRE_TRIG_ERR.desc.width = 1 ∧ Fld.FIRE_CH_TRIM_CODE.desc.width = 12 ∧
    Fld.FIRE_CH_TRIM_BUSY.desc.width = 1 ∧ Fld.FIRE_CH_TRIM_REFUSED.desc.width = 1 ∧ Fld.FIRE_STATUS_WITHHELD.desc.width = 1 ∧
    Fld.BAR_HOLD_RESYNC.desc.width = 1 :=
  ⟨rfl, rfl, rfl, rfl, rfl, rfl, rfl⟩

theorem State.vector_frame (s : State) (vec en : Fld) : s.vector vec en = { s with
    outbox := (s.vector vec en).outbox, msixPend := (s.vector vec en).msixPend } := by
  unfold State.vector State.msix
  split_ifs <;> rfl

theorem State.recordCoverage_frame (s : State) (i m c : Nat) : s.recordCoverage i m c = { s with
    regs := (s.recordCoverage i m c).regs, outbox := (s.recordCoverage i m c).outbox, msixPend := (s.recordCoverage i m c).msixPend } := by
  unfold State.recordCoverage
  dsimp only
  rw [State.vector_frame]
  split_ifs <;> rfl

theorem State.noteCoverage_frame (s : State) : s.noteCoverage = { s with
    regs := s.noteCoverage.regs, coverage := s.noteCoverage.coverage, outbox := s.noteCoverage.outbox, msixPend := s.noteCoverage.msixPend } := by
  unfold State.noteCoverage
  dsimp only
  split_ifs
  · rfl
  · rw [State.recordCoverage_frame]
    rfl
  · rfl

/-- A line-event frame counts under dead reckoning. -/
theorem State.lineFrame_near (s : State) {n k : Nat} (r : Nat) (hk : k ≤ 3) (hn : (n + 2 ^ 32 - s.seq.expect % 2 ^ 32) % 2 ^ 32 = k) :
    s.lineFrame n r = { (if s.is .ENC_STATUS_DR then s.bump .ENC_DR_LINES else s) with
      seq := { s.seq with expect := s.seq.expect + k + 1, events := s.seq.events ++ [(s.seq.expect + k, r, k)] } } := by
  unfold State.lineFrame
  dsimp only
  have hs : (if s.is .ENC_STATUS_DR then s.bump .ENC_DR_LINES else s).seq = s.seq := by split_ifs <;> rfl
  rw [hs, hn, if_pos hk]

theorem State.lineFrame_far (s : State) {n : Nat} (r : Nat) (hn : 3 < (n + 2 ^ 32 - s.seq.expect % 2 ^ 32) % 2 ^ 32) :
    s.lineFrame n r = State.withhold { (if s.is .ENC_STATUS_DR then s.bump .ENC_DR_LINES else s) with
      seq := { s.seq with expect := adoptLine s.seq.expect n + 1, events := s.seq.events ++ [(adoptLine s.seq.expect n, r, 0)],
                          adopted := adoptLine s.seq.expect n } } := by
  unfold State.lineFrame
  dsimp only
  have hs : (if s.is .ENC_STATUS_DR then s.bump .ENC_DR_LINES else s).seq = s.seq := by split_ifs <;> rfl
  rw [hs, if_neg (by omega)]

theorem State.get_seq (s : State) (q : Seq) (f : Fld) (i k : Nat) : State.get { s with seq := q } f i k = s.get f i k := rfl

theorem State.get_bump_fld (s : State) {f g : Fld} (h : g ≠ f) (n i k j l : Nat) : (s.bump f n i k).get g j l = s.get g j l := State.get_set_fld _ h ..

/-- Firing withheld: the two bits that say so, one more resynchronisation, and what a change of coverage reports. -/
theorem State.withhold_reads (s : State) : s.withhold.is .FIRE_STATUS_WITHHELD = true ∧ s.withhold.is .BAR_HOLD_RESYNC = true ∧
    s.withhold.get .BAR_RESYNC_COUNT = min (s.get .BAR_RESYNC_COUNT + 1) (2 ^ Fld.BAR_RESYNC_COUNT.desc.width - 1) ∧ s.withhold.seq = s.seq ∧
    s.withhold = { s with regs := s.withhold.regs, coverage := s.withhold.coverage, outbox := s.withhold.outbox,
                          msixPend := s.withhold.msixPend } := by
  have hf := (((s.on .FIRE_STATUS_WITHHELD).on .BAR_HOLD_RESYNC).bump .BAR_RESYNC_COUNT).noteCoverage_frame
  have ht := (((s.on .FIRE_STATUS_WITHHELD).on .BAR_HOLD_RESYNC).bump .BAR_RESYNC_COUNT).noteCoverage_reports.touches
  unfold State.withhold State.is
  rw [ht _ 0 0 (by decide), ht _ 0 0 (by decide), ht _ 0 0 (by decide)]
  refine ⟨?_, ?_, ?_, by rw [hf]; rfl, hf⟩ <;> simp [table_form, lineWidths]

theorem State.withheld_frame {s u : State} {r : List (FKey × Nat)} {q : Seq} (hu : u = { s with regs := r, seq := q }) : u.withhold =
    { s with regs := u.withhold.regs, seq := u.withhold.seq, coverage := u.withhold.coverage, outbox := u.withhold.outbox,
             msixPend := u.withhold.msixPend } := by
  obtain ⟨-, -, -, hs, hf⟩ := u.withhold_reads
  generalize u.withhold = w at *
  rw [hs]
  subst hu
  exact hf

/-- Firing resumed. -/
theorem State.resynchronised_reads (s : State) (m : Out) :
    (fun t : State => t.is .FIRE_STATUS_WITHHELD = false ∧ t.is .BAR_HOLD_RESYNC = false ∧ t.outbox.head? = some m ∧
      t = { s with regs := t.regs, coverage := t.coverage, outbox := t.outbox, msixPend := t.msixPend })
    ((((s.off .FIRE_STATUS_WITHHELD).off .BAR_HOLD_RESYNC).noteCoverage).out m) := by
  have hf := ((s.off .FIRE_STATUS_WITHHELD).off .BAR_HOLD_RESYNC).noteCoverage_frame
  have ht := ((s.off .FIRE_STATUS_WITHHELD).off .BAR_HOLD_RESYNC).noteCoverage_reports.touches
  dsimp only
  rw [State.is, State.is, State.get_out, State.get_out, ht _ 0 0 (by decide), ht _ 0 0 (by decide)]
  refine ⟨?_, ?_, rfl, ?_⟩
  · simp [table_form, lineWidths]
  · simp [table_form, lineWidths]
  · rw [hf]
    rfl

/-- Settles O41: it holds. The work at a line event keeps the line, the events after it, the memory and the seal. -/
theorem lineEvents : Obligations.LineEvents := by
  unfold Obligations.LineEvents
  refine ⟨?bad, ?near, ?far, ?distance, ?apply, ?idle, ?resync, ?comp, ?compErr, ?trimErr, ?trim⟩
  case bad =>
    intro s f hm h
    have he := exec_when (i := .badTriggerFrame f) (s := s) rfl (by
      rw [hm, Bool.not_false, Bool.true_and, Bool.not_eq_true', Bool.and_eq_false_iff, ← Bool.not_eq_true ([1, 2, 3].contains _)]
      rcases h with h | h
      · exact .inl h
      · exact .inr (by simp; omega))
    exact ⟨_, he, onlyRegs_set .., State.get_bump_same ..⟩
  case near =>
    intro s f r k hf hk hp
    have he := exec_when (i := .lineEventFrame f r) (s := s) rfl hf
    rw [s.lineFrame_near r hk (by omega)] at he
    refine ⟨_, he, rfl, ?_⟩
    cases s.is .ENC_STATUS_DR with
    | true => exact ⟨onlyRegs_set { s with seq := _ } .ENC_DR_LINES _ 0 0, State.get_bump_same ..⟩
    | false => exact ⟨⟨rfl, fun _ _ _ _ => rfl⟩, rfl⟩
  case far =>
    intro s f r hf hp
    have he := exec_when (i := .lineEventFrame f r) (s := s) rfl hf
    rw [s.lineFrame_far r hp] at he
    refine ⟨_, he, ?_⟩
    cases s.is .ENC_STATUS_DR with
    | true =>
      obtain ⟨hw, hh, hc, hs, hf⟩ := State.withhold_reads { s.bump .ENC_DR_LINES with seq := _ }
      exact ⟨hw, hh, hc.trans (by rw [State.get_seq, State.get_bump_fld _ (by decide)]), hs, State.withheld_frame (r := _) rfl⟩
    | false =>
      obtain ⟨hw, hh, hc, hs, hf⟩ := State.withhold_reads { s with seq := _ }
      exact ⟨hw, hh, hc, hs, State.withheld_frame (r := _) rfl⟩
  case distance =>
    intro s f hf hx hp
    have he := exec_when (i := .stopDistanceFrame f) (s := s) rfl (by simp only [hf, hx, hp, decide_true, Bool.true_and, beq_self_eq_true])
    exact ⟨_, he, State.get_set_same .., rfl, rfl⟩
  case apply =>
    intro s y r m l hc hev
    have hi : exec .lineEventApply s = execLineEventApply s := rfl
    unfold execLineEventApply at hi
    rw [if_neg (by simp [hc]), hev] at hi
    dsimp -zeta only at hi
    extract_lets t q s1 s2 s3 s4 s5 s6 last rate s7 d q' l' s10 s11 s12 s13 s14 s15 s16 s17 s18 s19 at hi
    have h1 : s1.LineIs ⟨s.seq.next, l, s.seq.latest, s.get .FIRE_LINE_LINE, s.dram, s.kiln⟩ := rfl
    have h2 : s2.LineIs _ := h1.foldl fun _ h _ => h.missLine
    have h3 : s3.LineIs _ := h2.useGrant
    have h4 : s4.LineIs _ := (h3.show y).set
    have h5 : s5.LineIs _ := h4.onlyIf fun h => h.bump
    have h7 : s7.LineIs _ := h5.encAtLine.takeNotice
    have h10 : s10.LineIs ⟨y + 1, l, t, y % 2 ^ Fld.FIRE_LINE_LINE.desc.width, s.dram, s.kiln⟩ := h7.arrive
    have h11 : s11.LineIs _ := h10.set
    have h13 : s13.LineIs _ := h11.testCommit.endCommit.takeCalib
    have h14 : s14.LineIs _ := h13.each fun _ h _ => h.stepTrim.joinAt.onlyIf fun h => h.setChan
    have h16 : s16.LineIs _ := h14.cutHeads.endReleases.noteCoverage.sendDigests
    have h18 : s18.LineIs _ := (h16.each fun _ h _ => h.levelTest).each fun _ h _ => h.planTrigger
    have h19 : s19.LineIs _ := h18.offer
    exact ⟨_, hi, (State.LineIs.ite h19.stamped h19).reads⟩
  case idle =>
    intro s hc
    have hi : exec .lineEventApply s = execLineEventApply s := rfl
    unfold execLineEventApply at hi
    rw [if_pos (by simp [hc])] at hi
    exact ⟨_, hi, rfl⟩
  case resync =>
    intro s hw ha hr
    have he := exec_when (i := .withheldResync) (s := s) rfl (by simp [hw, ha, hr])
    exact ⟨_, he, s.resynchronised_reads _⟩
  case comp =>
    intro s v hr hv hl
    have he := exec_reach (i := .fireTrigCompWrite v) (s := s) rfl hr
    rw [State.writeComp, Nat.mod_eq_of_lt hv, if_neg (by omega)] at he
    exact ⟨_, he, onlyRegs_set .., State.get_set_same ..⟩
  case compErr =>
    intro s v hr hv hl
    have he := exec_reach (i := .fireTrigCompWrite v) (s := s) rfl hr
    rw [State.writeComp, Nat.mod_eq_of_lt hv, if_pos hl] at he
    refine ⟨_, he, onlyRegs_set .., ?_⟩
    simp [table_form, lineWidths]
  case trimErr =>
    intro s c v k hc hr hp hk hu hv hl
    have he := exec_when_reach (i := .fireChTrimWrite c v) (s := s) rfl (decide_eq_true hc) hr
    rw [State.writeTrim, Nat.mod_eq_of_lt hv, if_neg (by simp [hp]), hk] at he
    dsimp only at he
    rw [if_pos (by simp [hu, hl])] at he
    refine ⟨_, he, onlyRegs_set .., ?_⟩
    simp [table_form, lineWidths]
  case trim =>
    intro s c v hc hr hp hv hk
    have he := exec_when_reach (i := .fireChTrimWrite c v) (s := s) rfl (decide_eq_true hc) hr
    rw [State.writeTrim, Nat.mod_eq_of_lt hv, if_neg (by simp [hp])] at he
    have he' : exec (.fireChTrimWrite c v) s = .next
        ((s.set .FIRE_CH_TRIM_CODE v c).set .FIRE_CH_TRIM_BUSY (b2n (s.get .FIRE_CH_TRIM_APPLIED c != v)) c) := by
      cases hz : s.kiln with
      | none =>
        rw [hz] at he
        exact he
      | some k =>
        rw [hz] at he
        dsimp only at he
        rw [if_neg (by simpa using hk k hz)] at he
        exact he
    refine ⟨_, he', ⟨rfl, fun f i k h => ?_⟩, ?_, ?_⟩
    · rw [State.get_set, if_neg (fun e => h ⟨.inr e.1, e.2⟩), State.get_set, if_neg (fun e => h ⟨.inl e.1, e.2⟩)]
    · rw [State.get_set_fld _ (by decide)]
      exact State.get_set_same ..
    · simp [table_form, lineWidths, bne]
      rfl

end Sys2Proof.Machine
end

section
/-! PROOF. Lines fired. -/

namespace Sys2Proof.Machine

-- One lemma after the other: elaborated side by side, they ask for more threads than the compile may have.
set_option Elab.async false

/-! ## Lines fired -/

/-- The fields that the counts of a fired line write. -/
def lineCountFlds : List Fld := [.SCR_CLIP_COUNT, .SCR_BRIDGE_LOST_COUNT, .KILN_CLIP_LINES_COUNT, .KILN_CH_CLIP_COUNT, .KILN_CLIP_STROBES_COUNT,
  .KILN_CLIP_LAST_CHANNEL, .KILN_CLIP_LAST_SLOT, .KILN_CLIP_LAST_CAUSE, .KILN_STATUS_ALARM, .GRAV_CH_COUNT_TAIL_MISS]

/-- From `s` to `t` a line leaves channel `c`: its counts, and the tail in which it is kept. -/
structure Leaves (c : Nat) (s t : State) : Prop where
  frame : t = { s with regs := t.regs, chans := t.chans, kilnWin := t.kilnWin, outbox := t.outbox, msixPend := t.msixPend }
  touches : Touches lineCountFlds s t
  chan : t.chan c = { s.chan c with tail := (t.chan c).tail }
  others : ∀ n, n ≠ c → t.chan n = s.chan n

namespace Leaves

variable {c : Nat} {s t u : State}

theorem refl (c : Nat) (s : State) : Leaves c s s := ⟨rfl, Touches.refl _ s, rfl, fun _ _ => rfl⟩

theorem trans (h : Leaves c s t) (h' : Leaves c t u) : Leaves c s u :=
  ⟨by rw [h'.frame, h.frame], h.touches.trans h'.touches, by rw [h'.chan, h.chan], fun n hn => (h'.others n hn).trans (h.others n hn)⟩

theorem set (h : Leaves c s t) {f : Fld} (hf : f ∈ lineCountFlds) (v i k : Nat) : Leaves c s (t.set f v i k) :=
  h.trans ⟨rfl, (Touches.refl _ t).set hf v i k, rfl, fun _ _ => rfl⟩

theorem bump (h : Leaves c s t) {f : Fld} (hf : f ∈ lineCountFlds) (n i k : Nat) : Leaves c s (t.bump f n i k) := h.set hf _ i k

theorem vector (h : Leaves c s t) (vec en : Fld) : Leaves c s (t.vector vec en) := by
  refine h.trans ?_
  rw [State.vector_frame]
  exact ⟨rfl, Touches.of_regs rfl, rfl, fun _ _ => rfl⟩

theorem tail (h : Leaves c s t) (l : List TailLine) : Leaves c s (t.setChan c { t.chan c with tail := l }) := by
  refine h.trans ⟨rfl, Touches.of_regs rfl, ?_, fun n hn => State.chan_setChan_ne _ _ hn⟩
  rw [State.chan_setChan]

theorem kilnWin (h : Leaves c s t) (l : List (Nat × Nat)) : Leaves c s { t with kilnWin := l } :=
  h.trans ⟨rfl, Touches.of_regs rfl, rfl, fun _ _ => rfl⟩

theorem countClip (h : Leaves c s t) (d y n x k : Nat) : Leaves c s (t.countClip d y n x k) := by
  unfold State.countClip
  extract_lets s1 s2 s3 w m s4
  have h1 : Leaves c s s1 := (h.bump (by decide) _ _ _).bump (by decide) _ _ _
  have h2 : Leaves c s s2 := h1.set (by decide) _ _ _
  have h3 : Leaves c s s3 := ((h2.set (by decide) _ _ _).set (by decide) _ _ _).set (by decide) _ _ _
  have h4 : Leaves c s s4 := h3.kilnWin _
  split_ifs
  · exact h4
  · exact (h4.set (by decide) _ _ _).vector _ _
  · exact h4

theorem countPrep (h : Leaves c s t) (d : Nat) (p : Prep) : Leaves c s (t.countPrep d p) := by
  unfold State.countPrep
  extract_lets s1
  have h1 : Leaves c s s1 := (h.bump (by decide) _ _ _).bump (by decide) _ _ _
  split
  · split_ifs
    · exact h1
    · exact h1.countClip ..
  · exact h1

theorem tailPut (h : Leaves c s t) (l : TailLine) : Leaves c s (t.tailPut c l) := by
  unfold State.tailPut
  dsimp only
  split_ifs
  · exact (h.tail _).bump (by decide) _ _ _
  · exact h.tail _

theorem enterTail (h : Leaves c s t) (y : Nat) (p : Option Prep) : Leaves c s (t.enterTail c y p) := by
  unfold State.enterTail
  extract_lets codes s1
  have h1 : Leaves c s s1 := h.tailPut _
  split
  · exact h1.tail _
  · exact h1

theorem markUnfired (h : Leaves c s t) (y : Nat) : Leaves c s (t.markUnfired c y) := h.tail _

theorem releaseFired (h : Leaves c s t) (y : Nat) : Leaves c s (t.releaseFired c y) := by
  unfold State.releaseFired
  split_ifs
  · exact h
  · exact h.tail _

theorem get (h : Leaves c s t) {f : Fld} (hf : f ∉ lineCountFlds) (i k : Nat) : t.get f i k = s.get f i k := h.touches f i k hf
theorem kiln (h : Leaves c s t) : t.kiln = s.kiln := by rw [h.frame]
theorem withdrawn (h : Leaves c s t) : t.withdrawn = s.withdrawn := by rw [h.frame]

end Leaves

theorem Leaves.counted (c : Nat) (s : State) (p : Option Prep) : Leaves c s (match p with | some p => s.countPrep c p | none => s) := by
  cases p with
  | none => exact .refl c s
  | some p => exact (Leaves.refl c s).countPrep ..

/-- The fields that the conditions of firing rest on. -/
def fireFlds : List Fld := [.KILN_HPWR_ON_ON, .FIRE_CH_STATUS_ENABLED, .FENCE_MAP_UNITS, .FIRE_CH_TRIM_APPLIED, .KILN_HPWR_REQ_REQ,
  .PWR_PSTATE_CUR, .FIRE_STATUS_WITHHELD]

theorem State.fireOk_congr {s t : State} {c : Nat} (hk : t.kiln = s.kiln) (hw : t.withdrawn = s.withdrawn)
    (hg : ∀ f ∈ fireFlds, ∀ i k, t.get f i k = s.get f i k) (hs : (t.chan c).settling = (s.chan c).settling)
    (hc : (t.chan c).cut = (s.chan c).cut) : t.fireOk c = s.fireOk c := by
  unfold State.fireOk State.powerOk State.headOn State.kilnUsed State.fenced State.is
  simp only [hk, hw, hs, hc, hg _ (show Fld.KILN_HPWR_ON_ON ∈ fireFlds by decide), hg _ (show Fld.FIRE_CH_STATUS_ENABLED ∈ fireFlds by decide),
    hg _ (show Fld.FENCE_MAP_UNITS ∈ fireFlds by decide), hg _ (show Fld.FIRE_CH_TRIM_APPLIED ∈ fireFlds by decide),
    hg _ (show Fld.KILN_HPWR_REQ_REQ ∈ fireFlds by decide), hg _ (show Fld.PWR_PSTATE_CUR ∈ fireFlds by decide),
    hg _ (show Fld.FIRE_STATUS_WITHHELD ∈ fireFlds by decide)]

/-- The fields that the print of a channel rests on. -/
def printFlds : List Fld := [.FENCE_MAP_UNITS, .BAR_HOLD_IMAGE, .BAR_HOLD_FW, .BAR_HOLD_TIME, .BAR_HOLD_COMP, .BAR_HOLD_CONFLICT,
  .BAR_HOLD_EXCESS, .BAR_UNBOUND_CH]

theorem State.outOfPrint_congr {s t : State} {c : Nat} (hx : t.sects = s.sects) (hl : t.learning = s.learning) (hw : t.withdrawn = s.withdrawn)
    (hg : ∀ f ∈ printFlds, ∀ i k, t.get f i k = s.get f i k) (ho : (t.chan c).out = (s.chan c).out) : t.outOfPrint c = s.outOfPrint c := by
  unfold State.outOfPrint State.barred State.codecOf State.sf State.sect State.fenced State.is
  simp only [hx, hl, hw, ho, hg _ (show Fld.FENCE_MAP_UNITS ∈ printFlds by decide), hg _ (show Fld.BAR_HOLD_IMAGE ∈ printFlds by decide),
    hg _ (show Fld.BAR_HOLD_FW ∈ printFlds by decide), hg _ (show Fld.BAR_HOLD_TIME ∈ printFlds by decide),
    hg _ (show Fld.BAR_HOLD_COMP ∈ printFlds by decide), hg _ (show Fld.BAR_HOLD_CONFLICT ∈ printFlds by decide),
    hg _ (show Fld.BAR_HOLD_EXCESS ∈ printFlds by decide), hg _ (show Fld.BAR_UNBOUND_CH ∈ printFlds by decide)]

/-- From `s` to `t` line `y` has passed channel `c`: it is counted, kept in the tail, and no longer due. -/
structure Passed (c y : Nat) (l : List (Nat × Nat)) (s t : State) : Prop where
  frame : t = { s with regs := t.regs, chans := t.chans, kilnWin := t.kilnWin, outbox := t.outbox, msixPend := t.msixPend }
  touches : Touches lineCountFlds s t
  firing : (t.chan c).firing = (s.chan c).firing
  settling : (t.chan c).settling = (s.chan c).settling
  cut : (t.chan c).cut = (s.chan c).cut
  out : (t.chan c).out = (s.chan c).out
  due : (t.chan c).due = l
  reached : (t.chan c).reached = max (s.chan c).reached (y + 1)
  others : ∀ n, n ≠ c → t.chan n = s.chan n

namespace Passed

variable {c y : Nat} {l : List (Nat × Nat)} {s t : State}

theorem get (h : Passed c y l s t) {f : Fld} (hf : f ∉ lineCountFlds) (i k : Nat) : t.get f i k = s.get f i k := h.touches f i k hf

theorem fireOk (h : Passed c y l s t) : t.fireOk c = s.fireOk c :=
  State.fireOk_congr (by rw [h.frame]) (by rw [h.frame])
    (fun f hf => h.get ((by decide : ∀ f ∈ fireFlds, f ∉ lineCountFlds) f hf)) h.settling h.cut

theorem outOfPrint (h : Passed c y l s t) : t.outOfPrint c = s.outOfPrint c :=
  State.outOfPrint_congr (by rw [h.frame]) (by rw [h.frame]) (by rw [h.frame])
    (fun f hf => h.get ((by decide : ∀ f ∈ printFlds, f ∉ lineCountFlds) f hf)) h.out

theorem withheld (h : Passed c y l s t) : t.is .FIRE_STATUS_WITHHELD = s.is .FIRE_STATUS_WITHHELD := by
  unfold State.is
  rw [h.get (by decide)]

theorem kiln (h : Passed c y l s t) : t.kiln = s.kiln := by rw [h.frame]

end Passed

theorem Leaves.passed {c y f : Nat} {l : List (Nat × Nat)} {s u : State} (h : Leaves c s u) {x : Chan} (hx : x = { u.chan c with
    due := l, reached := max (s.chan c).reached (y + 1), lastF := f, preps := (s.chan c).preps.filter (fun p => decide (y < p.no)),
    fly := (s.chan c).fly.filter (fun l => decide (y < l.no)) }) : Passed c y l s (u.setChan c x) := by
  have hc : (u.setChan c x).chan c = x := State.chan_setChan ..
  refine ⟨?_, h.touches, ?_, ?_, ?_, ?_, ?_, ?_, fun n hn => (State.chan_setChan_ne _ _ hn).trans (h.others n hn)⟩
  · exact congrArg (fun v => State.setChan v c x) h.frame
  · rw [hc, hx, h.chan]
  · rw [hc, hx, h.chan]
  · rw [hc, hx, h.chan]
  · rw [hc, hx, h.chan]
  · rw [hc, hx]
  · rw [hc, hx]

/-- What becomes of a line that has passed, by what was prepared of it. -/
def State.fireOrPass (v : State) (c y f : Nat) (last : Option Firing) : Option Prep → State
  | none => if v.outOfPrint c || v.is .FIRE_STATUS_WITHHELD then v.passUnfired c y else v.dropLine c y
  | some p =>
    if v.kiln.isNone then (if p.stock then v.bump .KILN_UNSEALED_COUNT else v).passUnfired c y
    else if p.bad || !v.fireOk c then v.passUnfired c y
    else if tooSoon last p f then v.dropLine c y
    else v.fireLine c f p

theorem exec_lineFire {s : State} {c y f : Nat} {l : List (Nat × Nat)} (hc : s.clocked = true) (hd : (s.chan c).due = (y, f) :: l) :
    ∃ v, Passed c y l s v ∧ exec (.lineFire c) s = .next (State.releaseFired
      (v.fireOrPass c y f (s.chan c).firing ((s.chan c).preps.find? (fun p => p.no == y))) c y) := by
  have hi : exec (.lineFire c) s = execLineFire c s := rfl
  unfold execLineFire at hi
  extract_lets ch at hi
  have hd' : ch.due = (y, f) :: l := hd
  rw [if_neg (by simp [hc]), hd'] at hi
  dsimp -zeta only at hi
  extract_lets p s1 s2 k s3 at hi
  have h1 : Leaves c s s1 := Leaves.counted c s p
  have h2 : Leaves c s s2 := h1.enterTail y p
  exact ⟨s3, h2.passed (f := f) (y := y) (l := l) rfl, hi⟩

/-- A line that fires. -/
theorem State.fireLine_reads (s : State) (c f : Nat) (p : Prep) : (fun t : State =>
      t.chan c = { s.chan c with
        firing := some { no := p.no, codes := p.codes, setup := p.setup, geom := p.geom, f := f, begun := 0 } } ∧
      (∀ n, n ≠ c → t.chan n = s.chan n) ∧
      t.get .FIRE_CH_LINES_COUNT c = (s.get .FIRE_CH_LINES_COUNT c + 1) % 2 ^ Fld.FIRE_CH_LINES_COUNT.desc.width ∧ t.hostMem = s.hostMem)
    (s.fireLine c f p) :=
  ⟨State.chan_setChan .., fun _ hn => State.chan_setChan_ne _ _ hn, State.get_set_same .., rfl⟩

/-- A line that passes unfired. -/
theorem State.passUnfired_reads (s : State) (c y : Nat) : (fun t : State => (t.chan c).firing = (s.chan c).firing ∧
      (t.chan c).due = (s.chan c).due ∧ Touches lineCountFlds s t) (s.passUnfired c y) := by
  have h : Leaves c s (s.markUnfired c y) := (Leaves.refl c s).markUnfired y
  unfold State.passUnfired
  dsimp only
  split_ifs
  · rw [State.chan_setChan, h.chan]
    exact ⟨rfl, rfl, h.touches.trans (Touches.of_regs rfl)⟩
  · rw [h.chan]
    exact ⟨rfl, rfl, h.touches⟩

/-- A line that is dropped is counted in its channel. -/
theorem State.dropLine_reads (s : State) (c y : Nat) : (fun t : State => (t.chan c).firing = (s.chan c).firing ∧
      (t.chan c).due = (s.chan c).due ∧
      t.get .FIRE_CH_DROPPED_COUNT c = min (s.get .FIRE_CH_DROPPED_COUNT c + 1) (2 ^ Fld.FIRE_CH_DROPPED_COUNT.desc.width - 1) ∧
      t.get .FIRE_CH_LINES_COUNT c = s.get .FIRE_CH_LINES_COUNT c) (s.dropLine c y) := by
  unfold State.dropLine
  extract_lets q s1
  have h1 : s1.chans = s.chans ∧ ∀ f : Fld, f ≠ .FIRE_DROPPED_COUNT → s1.get f c = s.get f c := by
    unfold s1
    split_ifs
    · exact ⟨rfl, fun _ _ => rfl⟩
    · exact ⟨rfl, fun f hf => State.get_bump_fld _ hf ..⟩
  obtain ⟨hc, hg⟩ := h1
  have hL : Leaves c (s1.bump .FIRE_CH_DROPPED_COUNT 1 c) ((s1.bump .FIRE_CH_DROPPED_COUNT 1 c).markUnfired c y) :=
    (Leaves.refl c _).markUnfired y
  have hR := ((s1.bump .FIRE_CH_DROPPED_COUNT 1 c).markUnfired c y).telEvent_reports 0x0002 c
  have hs : (s1.bump .FIRE_CH_DROPPED_COUNT 1 c).chan c = s.chan c := by
    unfold State.chan
    exact congrArg (look _ · c) hc
  have hch : (((s1.bump .FIRE_CH_DROPPED_COUNT 1 c).markUnfired c y).telEvent 0x0002 c).chan c =
      { s.chan c with tail := (((s1.bump .FIRE_CH_DROPPED_COUNT 1 c).markUnfired c y).chan c).tail } := by
    rw [← hs, ← hL.chan]
    unfold State.chan
    rw [hR.frame]
  beta_reduce
  rw [hch, hR.touches _ c 0 (by decide), hR.touches _ c 0 (by decide), hL.get (by decide), hL.get (by decide)]
  refine ⟨rfl, rfl, ?_, ?_⟩
  · rw [← hg _ (by decide)]
    exact State.get_bump_same ..
  · rw [State.get_bump_fld _ (by decide)]
    exact hg _ (by decide)

/-- A line that has passed, dropped. -/
theorem Passed.reads_dropped {c y : Nat} {l : List (Nat × Nat)} {s v : State} (h : Passed c y l s v) : (fun t : State =>
      (t.chan c).firing = (s.chan c).firing ∧ (t.chan c).due = l ∧
      t.get .FIRE_CH_DROPPED_COUNT c = min (s.get .FIRE_CH_DROPPED_COUNT c + 1) (2 ^ Fld.FIRE_CH_DROPPED_COUNT.desc.width - 1) ∧
      t.get .FIRE_CH_LINES_COUNT c = s.get .FIRE_CH_LINES_COUNT c) ((v.dropLine c y).releaseFired c y) := by
  obtain ⟨hf, hd, hg, hl⟩ := v.dropLine_reads c y
  have hr := (Leaves.refl c (v.dropLine c y)).releaseFired y
  rw [hr.chan, hr.get (by decide), hr.get (by decide), hg, hl, h.get (by decide), h.get (by decide)]
  exact ⟨hf.trans h.firing, hd.trans h.due, rfl, rfl⟩

theorem State.kilnPrep_keeps (s : State) (c : Nat) (p : Prep) : (s.kilnPrep c p).no = p.no ∧ (s.kilnPrep c p).rest = p.rest ∧
    (s.kilnPrep c p).stock = p.stock ∧ (s.kilnPrep c p).bad = p.bad := by
  unfold State.kilnPrep
  split
  · split_ifs
    · exact ⟨rfl, rfl, rfl, rfl⟩
    · exact ⟨rfl, rfl, rfl, rfl⟩
  · exact ⟨rfl, rfl, rfl, rfl⟩

theorem State.testCommit_frame (s : State) (y : Nat) : s.testCommit y = { s with regs := (s.testCommit y).regs, seq := (s.testCommit y).seq } := by
  unfold State.testCommit
  split
  · dsimp only
    split_ifs <;> rfl
  · rfl

theorem State.setChan_keeps {s u : State} (h : u = { s with regs := u.regs, chans := u.chans }) (c : Nat) (x : Chan) : u.setChan c x =
    { s with regs := (u.setChan c x).regs, chans := (u.setChan c x).chans } := congrArg (fun v => State.setChan v c x) h

theorem State.bridgeBoundary_frame (s : State) (c y : Nat) : s.bridgeBoundary c y = { s with
      regs := (s.bridgeBoundary c y).regs, chans := (s.bridgeBoundary c y).chans } ∧
    ∀ n, n ≠ c → (s.bridgeBoundary c y).chan n = s.chan n := by
  unfold State.bridgeBoundary
  extract_lets x b m m1 m2 s1
  have h : s1 = { s with regs := s1.regs, chans := s1.chans } ∧ s1.chans = s.chans := by
    unfold s1
    split_ifs <;> exact ⟨rfl, rfl⟩
  refine ⟨State.setChan_keeps h.1 .., fun n hn => (State.chan_setChan_ne _ _ hn).trans ?_⟩
  unfold State.chan
  rw [h.2]

theorem State.enterRow_frame (s : State) (c y : Nat) (l : List Nat) : (s.enterRow c y l).1 = { s with
      regs := (s.enterRow c y l).1.regs, chans := (s.enterRow c y l).1.chans } ∧ ∀ n, n ≠ c → (s.enterRow c y l).1.chan n = s.chan n := by
  obtain ⟨hf, hn⟩ := s.bridgeBoundary_frame c y
  unfold State.enterRow
  extract_lets u s1 cut br rows
  exact ⟨State.setChan_keeps hf .., fun n h => (State.chan_setChan_ne _ _ h).trans (hn n h)⟩

theorem State.chan_sent (s : State) (c : Nat) (x : Chan) (p : Prep) : ((s.setChan c x).sendFrame c p).chan c = x := State.chan_setChan ..

theorem State.chan_sent_ne (s : State) {c n : Nat} (x : Chan) (p : Prep) (h : n ≠ c) : ((s.setChan c x).sendFrame c p).chan n = s.chan n :=
  State.chan_setChan_ne _ _ h

theorem State.sent_frame {s u : State} (h : u = { s with regs := u.regs, chans := u.chans }) (c : Nat) (p : Prep) : u.sendFrame c p =
    { s with regs := (u.sendFrame c p).regs, chans := (u.sendFrame c p).chans, outbox := (u.sendFrame c p).outbox } := by
  rw [State.sendFrame_frame]
  generalize (u.sendFrame c p).outbox = o
  exact congrArg (fun v : State => { v with outbox := o }) h

/-- A line prepared: it stands among the prepared lines of its channel, and the channel has taken it. -/
theorem State.prepare_reads (s : State) (c y a : Nat) (l : Line × Bool) (rest : Bool) : (fun t : State => (t.chan c).taken = y + 1 ∧
      (∃ p ∈ (t.chan c).preps, p.no = y ∧ p.rest = rest ∧ p.stock = l.2 ∧ p.bad = l.1.bad) ∧ (∀ n, n ≠ c → t.chan n = s.chan n) ∧
      t = { s with regs := t.regs, chans := t.chans, outbox := t.outbox }) (s.prepare c y l rest a) := by
  unfold State.prepare
  extract_lets g u r s1 line p k
  obtain ⟨hf, hn⟩ := s.enterRow_frame c y l.1.codes
  have hp : p.no = y ∧ p.rest = rest ∧ p.stock = l.2 ∧ p.bad = l.1.bad := s1.kilnPrep_keeps c _
  refine ⟨congrArg Chan.taken (State.chan_sent ..), ⟨p, ?_, hp⟩, fun n h => (State.chan_sent_ne _ _ _ h).trans (hn n h), ?_⟩
  · rw [State.chan_sent]
    exact List.mem_append_right _ (List.mem_singleton_self p)
  · exact State.sent_frame (State.setChan_keeps hf c _) c p

theorem State.chan_testCommit (s : State) (y n : Nat) : (s.testCommit y).chan n = s.chan n := by
  rw [State.testCommit_frame]
  rfl

theorem State.prepared_frame {s t : State} {y : Nat}
    (h : t = { s.testCommit y with regs := t.regs, chans := t.chans, outbox := t.outbox }) :
    t = { s with regs := t.regs, seq := t.seq, chans := t.chans, outbox := t.outbox } := by
  rw [State.testCommit_frame] at h
  generalize (s.testCommit y).seq = q at h
  generalize t.regs = r, t.chans = x, t.outbox = o at h
  subst h
  rfl

/-- Widths of fields. -/
theorem firedWidths : Fld.FIRE_STATUS_COMMIT_PENDING.desc.width = 1 := rfl

theorem State.inRange_of_commitOk {s : State} {u : Setup} (h : s.commitOk u = true) : u.inRange = true := by
  unfold State.commitOk at h
  simp only [Bool.and_eq_true] at h
  exact h.1.1

theorem Setup.any_zero {u : Setup} (h : u.inRange = true) : [u.strobe, u.gap, u.dead, u.conc, u.smax].any (· == 0) = false := by
  unfold Setup.inRange at h
  simp only [decide_eq_true_iff] at h
  simp
  omega

/-- From `s` to `t` a strobe leaves the channels, the host's memory and the seal, and takes nothing back that was sent. -/
structure Strobes (s t : State) : Prop where
  chans : t.chans = s.chans
  hostMem : t.hostMem = s.hostMem
  kiln : t.kiln = s.kiln
  sent : ∀ o ∈ s.outbox, o ∈ t.outbox

theorem Strobes.trans {s t u : State} (h : Strobes s t) (h' : Strobes t u) : Strobes s u :=
  ⟨h'.chans.trans h.chans, h'.hostMem.trans h.hostMem, h'.kiln.trans h.kiln, fun o ho => h'.sent o (h.sent o ho)⟩

theorem State.senseLine_frame (s : State) (c : Nat) : s.senseLine c = { s with senses := (s.senseLine c).senses } := by
  unfold State.senseLine
  split_ifs <;> rfl

theorem State.offer_frame (s : State) (e : SgEvent) : s.offer e = { s with sgEvents := (s.offer e).sgEvents } := by
  unfold State.offer
  split_ifs <;> rfl

theorem State.senseStrobe_strobes (s : State) (c a j n w : Nat) : Strobes s (s.senseStrobe c a j n w) := by
  unfold State.senseStrobe
  split_ifs
  · dsimp only
    rw [State.offer_frame]
    exact ⟨rfl, rfl, rfl, fun _ h => h⟩
  · exact ⟨rfl, rfl, rfl, fun _ h => h⟩

theorem State.vector_keeps_sent (s : State) (vec en : Fld) : ∀ o ∈ s.outbox, o ∈ (s.vector vec en).outbox := by
  unfold State.vector State.msix
  split_ifs
  · exact fun o ho => List.mem_cons_of_mem _ ho
  · exact fun _ h => h
  · exact fun _ h => h

theorem State.telEvent_strobes (s : State) (code unit : Nat) : Strobes s (s.telEvent code unit) := by
  have hf := (s.telEvent_reports code unit).frame
  refine ⟨by rw [hf], by rw [hf], by rw [hf], ?_⟩
  unfold State.telEvent
  extract_lets e s1 s2
  have h1 : s1.outbox = s.outbox := by
    unfold s1
    split_ifs <;> rfl
  have h2 : s2.outbox = s1.outbox := by
    unfold s2
    split_ifs <;> rfl
  intro o ho
  refine s2.vector_keeps_sent _ _ o ?_
  rw [h2, h1]
  exact ho

theorem Strobes.shots (s : State) (l : List (Nat × Nat)) : Strobes s { s with shots := l } := ⟨rfl, rfl, rfl, fun _ h => h⟩
theorem Strobes.heads (s : State) (l : List (Nat × HeadRec)) : Strobes s { s with heads := l } := ⟨rfl, rfl, rfl, fun _ h => h⟩

theorem State.countShots_strobes (s : State) (c : Nat) (l : List Nat) : Strobes s (s.countShots c l) := by
  unfold State.countShots
  extract_lets s1 h
  have h1 : Strobes s s1 := .shots s _
  split_ifs
  · exact (h1.trans (.heads s1 _)).trans (State.telEvent_strobes ..)
  · exact h1

/-- A strobe that fires. -/
theorem State.strobe_reads (s : State) (c : Nat) (m o : Out) (l : List Nat) (a j n w : Nat) : (fun t : State => o ∈ t.outbox ∧
      t.chans = s.chans ∧ t.hostMem = s.hostMem ∧ t.kiln = s.kiln) (((((s.out m).out o).countShots c l).senseStrobe c a j n w)) := by
  have h := (State.countShots_strobes ((s.out m).out o) c l).trans (State.senseStrobe_strobes _ c a j n w)
  exact ⟨h.sent o List.mem_cons_self, h.chans, h.hostMem, h.kiln⟩

/-- The start of a strobe: its firing counts it, and at the first strobe of a line the sense channel takes the line's points. -/
theorem State.begun_reads (s : State) (c : Nat) (x : Chan) (b : Prop) [Decidable b] : (fun t : State => t.chan c = x ∧
      (∀ n, n ≠ c → t.chan n = s.chan n) ∧ t.hostMem = s.hostMem ∧ t.kiln = s.kiln ∧ t.outbox = s.outbox ∧ t.shots = s.shots)
    (if b then (s.setChan c x).senseLine c else s.setChan c x) := by
  split_ifs
  · rw [State.senseLine_frame]
    exact ⟨State.chan_setChan .., fun n hn => State.chan_setChan_ne _ _ hn, rfl, rfl, rfl, rfl⟩
  · exact ⟨State.chan_setChan .., fun n hn => State.chan_setChan_ne _ _ hn, rfl, rfl, rfl, rfl⟩

/-- What an accepted FIRE_COMMIT leaves. -/
theorem State.reads_commit {s v : State} {h y : Nat} {u : Setup} (hm : v.hostMem = s.hostMem)
    (hg : ∀ f : Fld, v.get f 0 0 = s.get f 0 0) : (fun t : State => t.seq = { s.seq with commit := some (h, u) } ∧
      t.is .FIRE_STATUS_COMMIT_PENDING = true ∧ t.get .FIRE_APPLY_LINE_LINE = y % 2 ^ Fld.FIRE_APPLY_LINE_LINE.desc.width ∧
      t.get .FIRE_TIMING_STROBE = s.get .FIRE_TIMING_STROBE ∧ ∃ u, t = State.report u h stAccepted false (y % 2 ^ 32) 0 ∧ u.hostMem = s.hostMem)
    (((State.on { v with seq := { s.seq with commit := some (h, u) } } .FIRE_STATUS_COMMIT_PENDING).set .FIRE_APPLY_LINE_LINE y).report h stAccepted
      false (y % 2 ^ 32) 0) := by
  have hv := State.report_completes ((State.on { v with seq := { s.seq with commit := some (h, u) } } .FIRE_STATUS_COMMIT_PENDING).set
    .FIRE_APPLY_LINE_LINE y) h stAccepted false (y % 2 ^ 32) 0
  refine ⟨by rw [hv.frame]; rfl, ?_, ?_, ?_, _, rfl, hm⟩
  · rw [State.is, hv.get (by decide), State.get_set_fld _ (by decide)]
    simp [table_form, firedWidths]
  · rw [hv.get (by decide)]
    exact State.get_set_same ..
  · rw [hv.get (by decide), State.get_set_fld _ (by decide)]
    exact (State.get_set_fld _ (by decide) ..).trans (hg _)

theorem exec_fireCommit {d : Desc} {u : Setup} (s : State)
    (hu : u = { strobe := d.p 0x10 2, gap := d.p 0x12 2, dead := d.p 0x14 2, conc := d.p 0x16 1, smax := d.p 0x17 1 }) :
    exec (.fireCommit d) s = .next (s.submit d
      { opcode := 0x0301, long := false, used := [(0x10, 2), (0x12, 2), (0x14, 2), (0x16, 1), (0x17, 1), (0x18, 8)],
        sizes := [u.strobe, u.gap, u.dead, u.conc, u.smax], range := s.commitOk u,
        state := if s.seq.commit.isSome || s.is .FIRE_STATUS_COMMIT_PENDING || !s.hasSect 0x0032 ||
          s.sets.any (fun x => x.has 0x0032 0 && !x.applied.contains (sectKey 0x0032 0)) then stBadState else 0 }
      (fun h s => ((State.on { s with seq := { s.seq with commit := some (h, u) } } .FIRE_STATUS_COMMIT_PENDING).set .FIRE_APPLY_LINE_LINE
        (max (d.p 0x18 8) (s.seq.next + 2))).report h stAccepted false (max (d.p 0x18 8) (s.seq.next + 2) % 2 ^ 32) 0)) := by
  subst hu
  rfl

theorem State.chan_of_chans {s t : State} (h : t.chans = s.chans) (n : Nat) : t.chan n = s.chan n := congrArg (look _ · n) h

/-- Settles O42: it holds. What a line leaves in its counts and in the tail touches no condition of firing. -/
theorem linesFired : Obligations.LinesFired := by
  unfold Obligations.LinesFired
  refine ⟨?commit, ?take, ?first, ?again, ?fires, ?missing, ?unsealed, ?tooSoon, ?strobe, ?noStrobe, ?still⟩
  case commit =>
    intro s d u h y ha hu ho hp hc hs hx hh hy
    rw [hh, hy]
    have hv := s.started_serves d 0x0301
    have he := exec_short (exec_fireCommit s hu) ha rfl rfl rfl rfl (Setup.any_zero (State.inRange_of_commitOk ho)) ho rfl (by
      rw [if_neg]
      simp only [hp, hc, hs, Option.isSome_none, Bool.not_true, Bool.or_false, Bool.false_or, List.any_eq_true, Bool.and_eq_true, not_exists,
        not_and]
      exact fun x hx0 h => by rw [hx x hx0 h]; decide)
    rw [show (s.started d 0x0301).2.seq = s.seq by rw [hv.frame]] at he
    obtain ⟨P, S, T, hst⟩ := s.started_some d 0x0301
    exact ⟨_, he, State.reads_commit (by rw [hst]) (fun f => State.get_started s d 0x0301 f 0 0)⟩
  case take =>
    intro s c y l hy hl ht hp hk hh hr
    subst hy
    have hi : exec (.lineTake c (s.chan c).lastF) s = execLineTake c (s.chan c).lastF s := rfl
    unfold execLineTake at hi
    dsimp only at hi
    rw [hl] at hi
    dsimp only at hi
    rw [State.when_of _ _ (by simpa [ht, hk, hh, hr] using hp)] at hi
    obtain ⟨h1, h2, h3, h4⟩ := (s.testCommit (s.nextLine c)).prepare_reads c (s.nextLine c) (s.chan c).lastF l false
    exact ⟨_, hi, rfl, h1, h2, fun n h => (h3 n h).trans (State.chan_testCommit ..), State.prepared_frame h4⟩
  case first =>
    intro s c a y l ha hy hl ht hp hs hh
    subst hy
    have hi : exec (.firstLinePrepare c a) s = execFirstLinePrepare c a s := rfl
    unfold execFirstLinePrepare at hi
    dsimp only at hi
    rw [hl] at hi
    dsimp only at hi
    have hnone : (s.chan c).preps.find? (fun p => p.no == (s.firstLine c).1) = none := by simpa using hp
    have hany : (s.chan c).preps.any (fun p => p.no == (s.firstLine c).1) = false := by simpa using hp
    rw [State.when_of _ _ (by simp [ht, hs, hh, ha, hnone, hany])] at hi
    obtain ⟨h1, ⟨p, hm, hn, hr, -, hb⟩, h3, h4⟩ := (s.testCommit (s.firstLine c).1).prepare_reads c (s.firstLine c).1 a l true
    exact ⟨_, hi, rfl, h1, ⟨p, hm, hn, hr, hb⟩, fun n h => (h3 n h).trans (State.chan_testCommit ..), State.prepared_frame h4⟩
  case again =>
    intro s c a y l p ha hy hl ht hp hr hm hb hh
    have hi : exec (.firstLinePrepare c a) s = execFirstLinePrepare c a s := rfl
    unfold execFirstLinePrepare at hi
    dsimp only at hi
    rw [hy] at hi
    dsimp only at hi
    rw [hl, hp] at hi
    dsimp only at hi
    rw [State.when_of _ _ (by simp [ht, hr, hm, hb, hh, ha])] at hi
    exact ⟨_, hi, rfl⟩
  case fires =>
    intro s c y f l p hc hd hp hk hb ho ht
    obtain ⟨v, hv, he⟩ := exec_lineFire hc hd
    have hy : p.no = y := by simpa using List.find?_some hp
    rw [hp, State.fireOrPass, if_neg (by rw [hv.kiln]; simp [Option.isNone_iff_eq_none, ← Option.isSome_iff_ne_none, hk]), if_neg (by simp [hv.fireOk, ho, hb]), if_neg (by simp [ht])] at he
    obtain ⟨hch, hne, hg, hm⟩ := v.fireLine_reads c f p
    have hr := (Leaves.refl c (v.fireLine c f p)).releaseFired y
    refine ⟨_, he, ?_, ?_, ?_, ?_, fun n hn => (hr.others n hn).trans ((hne n hn).trans (hv.others n hn)), ?_⟩
    · rw [hr.chan, hch, hy]
    · rw [hr.chan, hch]
      exact hv.due
    · rw [hr.chan, hch]
      exact hv.reached
    · rw [hr.get (by decide), hg, hv.get (by decide)]
    · rw [hr.frame]
      exact hm.trans (by rw [hv.frame])
  case missing =>
    intro s c y f l hc hd hp ho hw
    obtain ⟨v, hv, he⟩ := exec_lineFire hc hd
    rw [hp, State.fireOrPass, if_neg (by simp [hv.outOfPrint, ho, hv.withheld, hw])] at he
    exact ⟨_, he, hv.reads_dropped⟩
  case unsealed =>
    intro s c y f l p hc hd hp hk hst
    obtain ⟨v, hv, he⟩ := exec_lineFire hc hd
    rw [hp, State.fireOrPass, if_pos (by rw [hv.kiln, hk]; rfl), if_pos hst] at he
    obtain ⟨hf, hdue, hg⟩ := (v.bump .KILN_UNSEALED_COUNT).passUnfired_reads c y
    have hr := (Leaves.refl c ((v.bump .KILN_UNSEALED_COUNT).passUnfired c y)).releaseFired y
    refine ⟨_, he, ?_, ?_, ?_, ?_⟩
    · rw [hr.chan]
      exact hf.trans hv.firing
    · rw [hr.chan]
      exact hdue.trans hv.due
    · rw [hr.get (by decide), hg _ 0 0 (by decide), State.get_bump_same, hv.get (by decide)]
    · rw [hr.get (by decide), hg _ c 0 (by decide), State.get_bump_fld _ (by decide), hv.get (by decide)]
  case tooSoon =>
    intro s c y f l p hc hd hp hk hb ho ht
    obtain ⟨v, hv, he⟩ := exec_lineFire hc hd
    rw [hp, State.fireOrPass, if_neg (by rw [hv.kiln]; simp [Option.isNone_iff_eq_none, ← Option.isSome_iff_ne_none, hk]), if_neg (by simp [hv.fireOk, ho, hb]), if_pos ht] at he
    exact ⟨_, he, hv.reads_dropped⟩
  case strobe =>
    intro s c f hc hf hb ho hn
    have hi : exec (.strobeStart c) s = execStrobeStart c s := rfl
    unfold execStrobeStart at hi
    extract_lets ch at hi
    have hf' : ch.firing = some f := hf
    rw [hf'] at hi
    dsimp -zeta only at hi
    rw [State.when_of _ _ (by simp [hc, hb])] at hi
    extract_lets sl j l a fires s1 s2 m s3 at hi
    have hfires : fires = true := by
      simp [fires, l, sl, j, ho, hn]
    rw [if_neg (by simp [hfires])] at hi
    obtain ⟨h1, h2, hm, hk, hob, hsh⟩ := s.begun_reads c { ch with firing := some { f with
      begun := f.begun + 1, sent := f.sent || fires, lit := if fires then a + 128 * f.setup.strobe else f.lit } } (f.begun = 0)
    obtain ⟨h4, h5, h6, h7⟩ := s2.strobe_reads c (.bus "strobeCommand" [c, strobeWord 0 (!f.sent) j m, strobeWord 1 (!f.sent) j m])
      (.pin "FIRE_N" c f.setup.strobe) l a j l.length f.setup.strobe
    refine ⟨_, hi, ?_, h4, fun n hne => (State.chan_of_chans h5 n).trans (h2 n hne), ?_, ?_⟩
    · rw [State.chan_of_chans h5 c, h1, hfires]
      simp [a, sl, j]
    · exact h6.trans hm
    · exact h7.trans hk
  case noStrobe =>
    intro s c f hc hf hb ho
    have hi : exec (.strobeStart c) s = execStrobeStart c s := rfl
    unfold execStrobeStart at hi
    extract_lets ch at hi
    have hf' : ch.firing = some f := hf
    rw [hf'] at hi
    dsimp -zeta only at hi
    rw [State.when_of _ _ (by simp [hc, hb])] at hi
    extract_lets sl j l a fires s1 s2 m s3 at hi
    have hfires : fires = false := by
      simp [fires, ho]
    rw [if_pos (by simp [hfires])] at hi
    obtain ⟨h1, h2, hm, hk, hob, hsh⟩ := s.begun_reads c { ch with firing := some { f with
      begun := f.begun + 1, sent := f.sent || fires, lit := if fires then a + 128 * f.setup.strobe else f.lit } } (f.begun = 0)
    refine ⟨_, hi, ?_, ?_, ?_⟩
    · rw [h1, hfires]
      simp
    · exact hob
    · exact hsh
  case still =>
    intro s c hc
    have h1 : exec (.lineFire c) s = execLineFire c s := rfl
    have h2 : exec (.strobeStart c) s = execStrobeStart c s := rfl
    unfold execLineFire at h1
    unfold execStrobeStart at h2
    extract_lets ch at h1
    rw [if_pos (by simp [hc])] at h1
    refine ⟨⟨_, h1, rfl⟩, ?_⟩
    extract_lets at h2
    split at h2
    · exact ⟨_, h2, rfl⟩
    · rw [State.when, if_neg (by simp [hc])] at h2
      exact ⟨_, h2, rfl⟩

end Sys2Proof.Machine
end

section
/-! PROOF. The sight glass. -/

namespace Sys2Proof.Machine

-- One lemma after the other: elaborated side by side, they ask for more threads than the compile may have.
set_option Elab.async false

/-! ## The sight glass -/

/-- Widths of fields. -/
theorem sgWidths : Fld.SG_STATUS_ARMED.desc.width = 4 ∧ Fld.SG_STATUS_RECORD.desc.width = 4 ∧ Fld.SG_VIOL_RUN.desc.width = 8 ∧
    Fld.SG_VIOL_STOPPED.desc.width = 1 ∧ Fld.SG_VIOL_SENSE_FAULT.desc.width = 1 := ⟨rfl, rfl, rfl, rfl, rfl⟩

@[simp] theorem State.sense_setSense (s : State) (c : Nat) (x : Sense) : (s.setSense c x).sense c = x := look_store_same ..
theorem State.sense_setSense_ne (s : State) {c n : Nat} (x : Sense) (h : n ≠ c) : (s.setSense c x).sense n = s.sense n := look_store_ne _ _ _ h
@[simp] theorem State.ts_setTs (s : State) (q : Nat) (x : Ts) : (s.setTs q x).ts q = x := look_store_same ..
theorem State.ts_setTs_ne (s : State) {q r : Nat} (x : Ts) (h : r ≠ q) : (s.setTs q x).ts r = s.ts r := look_store_ne _ _ _ h
theorem State.sense_of_senses {s t : State} (h : t.senses = s.senses) (c : Nat) : t.sense c = s.sense c := congrArg (look _ · c) h
theorem State.ts_of_tss {s t : State} (h : t.tss = s.tss) (q : Nat) : t.ts q = s.ts q := congrArg (look _ · q) h

/-- From `s` to `t` channel `c` is judged: its sense state and its counts alone change, not the sample that it holds. -/
structure Judges (c : Nat) (s t : State) : Prop where
  frame : t = { s with regs := t.regs, senses := t.senses, sgEvents := t.sgEvents }
  code : (t.sense c).code = (s.sense c).code
  others : ∀ n, n ≠ c → t.sense n = s.sense n

namespace Judges

variable {c : Nat} {s t u : State}

theorem frame_of (h : Judges c t u) (ht : t = { s with senses := t.senses, sgEvents := t.sgEvents }) :
    u = { s with regs := u.regs, senses := u.senses, sgEvents := u.sgEvents } := by
  have hf := h.frame
  rw [ht] at hf
  exact hf

theorem refl (c : Nat) (s : State) : Judges c s s := ⟨rfl, rfl, fun _ _ => rfl⟩

theorem trans (h : Judges c s t) (h' : Judges c t u) : Judges c s u :=
  ⟨by rw [h'.frame, h.frame], h'.code.trans h.code, fun n hn => (h'.others n hn).trans (h.others n hn)⟩

theorem set (h : Judges c s t) (f : Fld) (v i k : Nat) : Judges c s (t.set f v i k) := h.trans ⟨rfl, rfl, fun _ _ => rfl⟩

theorem setSense (h : Judges c s t) {x : Sense} (hx : x.code = (t.sense c).code) : Judges c s (t.setSense c x) :=
  h.trans ⟨rfl, by rw [State.sense_setSense, hx], fun _ hn => State.sense_setSense_ne _ _ hn⟩

theorem closeWins (h : Judges c s t) (k : Option Nat) : Judges c s (t.closeWins c k) := by
  unfold State.closeWins
  extract_lets x past clean wins s1
  have h1 : Judges c s s1 := h.setSense rfl
  split_ifs
  · exact h1.set ..
  · exact h1

theorem countViol (h : Judges c s t) (b : List Byte) (k p j a : Nat) : Judges c s (t.countViol c b k p j a) := by
  unfold State.countViol
  extract_lets run s1
  have h1 : Judges c s s1 := h.set ..
  split_ifs
  · exact h1.setSense rfl
  · exact h1

theorem judgeSample (h : Judges c s t) (a code : Nat) : Judges c s (t.judgeSample c a code) := by
  unfold State.judgeSample
  extract_lets x v
  split
  · extract_lets s1 y w s2
    have h1 : Judges c s s1 := h.closeWins _
    have h2 : Judges c s s2 := h1.setSense rfl
    split_ifs
    · exact h2.countViol ..
    · exact h2
  · rename_i s1 y idle s2 _ _
    have h1 : Judges c s s1 := by
      unfold s1
      split_ifs
      · exact h.closeWins _
      · exact h
    have h2 : Judges c s s2 := h1.setSense rfl
    split_ifs
    · exact h2.countViol ..
    · exact h2

theorem judgeAll (h : Judges c s t) : Judges c s (t.judgeAll c) := by
  unfold State.judgeAll
  extract_lets x lag due
  exact List.foldlRecOn due _ (h.setSense rfl) fun u hu e _ => hu.judgeSample ..

end Judges

theorem State.levelEvents_frame (s : State) (c a old new : Nat) : ∃ l, s.levelEvents c a old new = { s with sgEvents := l } := by
  unfold State.levelEvents
  refine State.each_keeps (P := fun u => ∃ l, u = { s with sgEvents := l }) 4 _ (fun u q hu => ?_) s ⟨_, rfl⟩
  extract_lets cond l mode up down place
  split_ifs
  · exact hu
  · rw [State.offer_frame]
    obtain ⟨l, rfl⟩ := hu
    exact ⟨_, rfl⟩
  · exact hu

theorem State.capture_frame (s : State) (q a : Nat) : s.capture q a = { s with tss := (s.capture q a).tss } := by
  unfold State.capture
  extract_lets x full
  split_ifs
  · rfl
  · rfl

/-- One channel's part of a sample. -/
def State.sensed (s : State) (a : Nat) (codes : List Nat) (c : Nat) : State :=
  let x := s.sense c
  let code := min 4095 (codes.getD c 0)
  if !bit (fieldAt (s.sgBlock c) 0 1) 0 then s
  else
    let crossed := decide (x.code ≤ x.level ∧ x.level < code ∨ x.level < x.code ∧ code ≤ x.level)
    let x1 := { x with code := code, sat := if code = 4095 then min 4096 (x.sat + 1) else 0,
                       cross := if crossed then 0 else min 3 (x.cross + 1), wait := if crossed then (0, 0) else (0, x.wait.1),
                       edges := if crossed then 0 else x.edges + x.wait.2 }
    let s := s.levelEvents c a x.code code
    if s.fenced 9 c then s.setSense c x1
    else (s.setSense c { x1 with fifo := x1.fifo ++ [(a, code)] }).judgeAll c

theorem State.sensed_reads (s : State) (a : Nat) (codes : List Nat) (c : Nat) : (fun t : State =>
      t = { s with regs := t.regs, senses := t.senses, sgEvents := t.sgEvents } ∧
      (bit (fieldAt (s.sgBlock c) 0 1) 0 = true → (t.sense c).code = min 4095 (codes.getD c 0)) ∧
      (bit (fieldAt (s.sgBlock c) 0 1) 0 = false → t = s) ∧ ∀ n, n ≠ c → t.sense n = s.sense n) (s.sensed a codes c) := by
  unfold State.sensed
  extract_lets x code crossed x1 s1
  obtain ⟨l, h1⟩ : ∃ l, s1 = { s with sgEvents := l } := s.levelEvents_frame ..
  have hs : ∀ n, s1.sense n = s.sense n := fun n => by rw [h1]; rfl
  split_ifs with hb hf
  · exact ⟨rfl, fun h => by simp [h] at hb, fun _ => rfl, fun _ _ => rfl⟩
  · refine ⟨?_, fun _ => ?_, fun h => by simp [h] at hb, fun n hn => (State.sense_setSense_ne _ _ hn).trans (hs n)⟩
    · rw [h1]
      rfl
    · exact congrArg Sense.code (State.sense_setSense ..)
  · have hj := (Judges.refl c (s1.setSense c { x1 with fifo := x1.fifo ++ [(a, code)] })).judgeAll
    refine ⟨?_, fun _ => ?_, fun h => by simp [h] at hb, fun n hn => (hj.others n hn).trans ((State.sense_setSense_ne _ _ hn).trans (hs n))⟩
    · exact hj.frame_of (by rw [h1]; rfl)
    · exact hj.code.trans (congrArg Sense.code (State.sense_setSense ..))

theorem State.samples_reads (s : State) (a : Nat) (codes : List Nat) (n : Nat) : (fun t : State =>
      t = { s with regs := t.regs, senses := t.senses, sgEvents := t.sgEvents } ∧
      ∀ c, (c < n → (bit (fieldAt (s.sgBlock c) 0 1) 0 = true → (t.sense c).code = min 4095 (codes.getD c 0)) ∧
        (bit (fieldAt (s.sgBlock c) 0 1) 0 = false → t.sense c = s.sense c)) ∧ (n ≤ c → t.sense c = s.sense c))
    (s.each n (fun s c => s.sensed a codes c)) := by
  unfold State.each
  induction n with
  | zero => exact ⟨rfl, fun c => ⟨fun h => absurd h (Nat.not_lt_zero c), fun _ => rfl⟩⟩
  | succ n ih =>
    rw [List.range_succ, List.foldl_append, List.foldl_cons, List.foldl_nil]
    generalize (List.range n).foldl _ s = u at ih ⊢
    obtain ⟨hf, hc⟩ := ih
    obtain ⟨hf', hon, hoff, hne⟩ := u.sensed_reads a codes n
    have hb : ∀ c, u.sgBlock c = s.sgBlock c := fun c => by rw [hf]; rfl
    rw [hb] at hon hoff
    refine ⟨?_, fun c => ⟨fun h => ?_, fun h => (hne c (by omega)).trans ((hc c).2 (by omega))⟩⟩
    · generalize u.sensed a codes n = w at hf' ⊢
      rw [hf', hf]
    · by_cases hcn : c = n
      · subst hcn
        exact ⟨hon, fun h => (congrArg (State.sense · c) (hoff h)).trans ((hc c).2 le_rfl)⟩
      · rw [hne c hcn]
        exact (hc c).1 (by omega)

/-- The steps of a sequencer rest on the image and on its own state. -/
theorem State.seqf_eq (s t : State) (h : t.sects = s.sects) (q n o w : Nat) : t.seqf q n o w = s.seqf q n o w := by
  unfold State.seqf State.sf State.sect
  rw [h]

theorem State.busOffer_frame (s : State) (q y o : Nat) : s.busOffer q y o = { s with
    regs := (s.busOffer q y o).regs, busQueue := (s.busOffer q y o).busQueue, busFwd := (s.busOffer q y o).busFwd } := by
  unfold State.busOffer State.busEnqueue
  dsimp only
  split_ifs <;> rfl

/-- What an event at a sequencer may change: the sequencers, the levels that the comparators compare with, and the trigger bus. -/
structure Steps (q : Nat) (s t : State) : Prop where
  frame : t = { s with regs := t.regs, tss := t.tss, senses := t.senses, busQueue := t.busQueue, busFwd := t.busFwd }
  others : ∀ r, r ≠ q → t.ts r = s.ts r
  senses : ∀ c, ∃ n, t.sense c = { s.sense c with level := n }

theorem State.enterState_steps (s : State) (q n : Nat) : Steps q s (s.enterState q n) := by
  unfold State.enterState
  dsimp only
  split_ifs
  · refine ⟨rfl, fun r hr => State.ts_setTs_ne _ _ hr, fun c => ?_⟩
    by_cases hc : c = (s.setTs q { s.ts q with state := n, count := 0 }).nowf q 1 1 % 64
    · rw [hc, State.sense_setSense]
      exact ⟨_, rfl⟩
    · rw [State.sense_setSense_ne _ _ hc]
      exact ⟨_, rfl⟩
  · exact ⟨rfl, fun r hr => State.ts_setTs_ne _ _ hr, fun c => ⟨_, rfl⟩⟩

theorem State.ts_enterState (s : State) (q n : Nat) : (s.enterState q n).ts q = { s.ts q with state := n, count := 0 } := by
  unfold State.enterState
  dsimp only
  split_ifs
  · exact State.ts_setTs ..
  · exact State.ts_setTs ..

theorem State.seqEvent_steps (s : State) (q : Nat) (e : SgEvent) : Steps q s (s.seqEvent q e) := by
  unfold State.seqEvent
  extract_lets t l
  have hs : Steps q s s := ⟨rfl, fun _ _ => rfl, fun _ => ⟨_, rfl⟩⟩
  have ht : ∀ x, Steps q s (s.setTs q x) := fun x => ⟨rfl, fun r hr => State.ts_setTs_ne _ _ hr, fun _ => ⟨_, rfl⟩⟩
  split_ifs
  · exact hs
  · exact ht _
  · exact hs
  · exact hs
  · exact ht _
  · rw [State.busOffer_frame]
    exact ⟨rfl, fun r hr => State.ts_setTs_ne _ _ hr, fun _ => ⟨_, rfl⟩⟩
  · exact s.enterState_steps ..

/-- What an event that it waits for makes of an armed sequencer: it counts, moves on, or triggers. -/
def State.Stepped (s : State) (q : Nat) (e : SgEvent) (x : Ts) : Prop :=
  (s.ts q).armed.isSome = true → (s.ts q).trig = none → s.meets q e = true → (s.ts q).holdTk = false → (s.ts q).holdEv = 0 →
    ((s.ts q).count + 1 < s.nowf q 4 2 → x = { s.ts q with count := (s.ts q).count + 1 }) ∧
    (s.nowf q 4 2 ≤ (s.ts q).count + 1 → s.nowf q 2 1 ≠ 0x0F → x = { s.ts q with state := s.nowf q 2 1, count := 0 }) ∧
    (s.nowf q 4 2 ≤ (s.ts q).count + 1 → s.nowf q 2 1 = 0x0F →
      x.trig = some (e.at_, (s.ts q).state, s.clock.stamp, s.lineBefore e.at_))

theorem State.seqEvent_stepped (s : State) (q : Nat) (e : SgEvent) : s.Stepped q e ((s.seqEvent q e).ts q) := by
  intro ha ht hm hk he
  have hi : s.seqEvent q e = if (s.ts q).count + 1 < s.nowf q 4 2 then s.setTs q { s.ts q with count := (s.ts q).count + 1 }
      else if s.nowf q 2 1 = 0x0F then
        (s.setTs q { s.ts q with trig := some (e.at_, (s.ts q).state, s.clock.stamp, (s.lineBefore e.at_).1, (s.lineBefore e.at_).2), mode := s.sgMode (s.nowf q 1 1 % 64) }).busOffer q
          (s.lineBefore e.at_).1 (s.lineBefore e.at_).2
      else s.enterState q (s.nowf q 2 1) := by
    unfold State.seqEvent
    dsimp only
    rw [if_neg (by simp [← Option.not_isSome, ha, ht]), if_neg (by simp [hk, he]), if_neg (by simp [hm])]
  rw [hi]
  refine ⟨fun h => ?_, fun h hn => ?_, fun h hn => ?_⟩
  · rw [if_pos h, State.ts_setTs]
  · rw [if_neg (by omega), if_neg hn, State.ts_enterState]
  · rw [if_neg (by omega), if_pos hn, State.busOffer_frame]
    exact congrArg Ts.trig (State.ts_setTs ..)

/-- What a sequencer makes of an event rests on the image, the time, the lines applied and its own state. -/
theorem State.Stepped.congr {s u : State} {q : Nat} {e : SgEvent} {x : Ts} (hq : u.ts q = s.ts q) (hx : u.sects = s.sects)
    (hc : u.clock = s.clock) (hl : u.seq = s.seq) (h : u.Stepped q e x) : s.Stepped q e x := by
  have hn : ∀ o w, u.nowf q o w = s.nowf q o w := fun o w => by
    unfold State.nowf
    rw [hq, State.seqf_eq s u hx]
  have hm : u.meets q e = s.meets q e := by
    unfold State.meets State.meetsAt
    rw [hq]
    simp only [State.seqf_eq s u hx]
  have hb : u.lineBefore e.at_ = s.lineBefore e.at_ := by
    unfold State.lineBefore
    rw [hl]
  unfold State.Stepped at h ⊢
  rw [hq, hm, hn, hn, hb, hc] at h
  exact h

theorem State.takeEvent_reads (s : State) (e : SgEvent) (n : Nat) : (fun t : State =>
      t = { s with regs := t.regs, tss := t.tss, senses := t.senses, busQueue := t.busQueue, busFwd := t.busFwd } ∧
      (∀ c, ∃ n, t.sense c = { s.sense c with level := n }) ∧ (∀ q, n ≤ q → t.ts q = s.ts q) ∧ ∀ q, q < n → s.Stepped q e (t.ts q))
    (s.each n (fun s q => s.seqEvent q e)) := by
  unfold State.each
  induction n with
  | zero => exact ⟨rfl, fun _ => ⟨_, rfl⟩, fun _ _ => rfl, fun q h => absurd h (Nat.not_lt_zero q)⟩
  | succ n ih =>
    rw [List.range_succ, List.foldl_append, List.foldl_cons, List.foldl_nil]
    generalize (List.range n).foldl _ s = u at ih ⊢
    obtain ⟨hf, hs, hge, hlt⟩ := ih
    have h := u.seqEvent_steps n e
    have hu := u.seqEvent_stepped n e
    have hq := hge n le_rfl
    generalize u.seqEvent n e = w at h hu ⊢
    refine ⟨by rw [h.frame, hf], fun c => ?_, fun q hq => (h.others q (by omega)).trans (hge q (by omega)), fun q hqn => ?_⟩
    · obtain ⟨a, ha⟩ := hs c
      obtain ⟨b, hb⟩ := h.senses c
      exact ⟨b, by rw [hb, ha]⟩
    · by_cases hc : q = n
      · subst hc
        exact hu.congr hq (by rw [hf]) (by rw [hf]) (by rw [hf])
      · rw [h.others q hc]
        exact hlt q (by omega)

theorem putEvent_last {e : SgEvent} (h : e.ofChannel = false) (l : List SgEvent) : putEvent l e = l ++ [e] := by
  induction l with
  | nil => rfl
  | cons x l ih =>
    unfold putEvent
    rw [h, ih]
    rfl

theorem State.offer_last {s : State} {e : SgEvent} (h : e.ofChannel = false) (ha : s.tss.any (fun x => x.2.armed.isSome) = true) :
    s.offer e = { s with sgEvents := s.sgEvents ++ [e] } := by
  unfold State.offer
  rw [if_pos ha, putEvent_last h]

/-- The events forced at the sequencers below `n`. -/
theorem State.forced (s : State) (m n : Nat) (ha : s.tss.any (fun x => x.2.armed.isSome) = true) :
    s.each n (fun s q => if bit m q then s.offer { cond := 10, arg := q, at_ := 128 * s.now, only := q + 1 } else s) =
      { s with sgEvents := s.sgEvents ++
        ((List.range n).filter (bit m)).map (fun q => { cond := 10, arg := q, at_ := 128 * s.now, only := q + 1 }) } := by
  unfold State.each
  induction n with
  | zero => simp
  | succ n ih =>
    rw [List.range_succ, List.foldl_append, List.foldl_cons, List.foldl_nil, ih, List.filter_append]
    split_ifs with h
    · refine (State.offer_last (by rfl) (by exact ha)).trans ?_
      simp [h]
    · simp [h]

theorem Serves.tss {s t : State} (h : Serves s t) : t.tss = s.tss := by rw [h.frame]
theorem Serves.ts {s t : State} (h : Serves s t) (q : Nat) : t.ts q = s.ts q := State.ts_of_tss h.tss q

theorem State.ts_disarm (s : State) (q st a b r : Nat) : (s.disarm q st a b).ts r = if r = q ∧ (s.ts q).armed.isSome then {} else s.ts r := by
  unfold State.disarm
  split
  · next h => rw [if_neg (by simp [h])]
  · next x h =>
    rw [(State.finish_serves ..).ts]
    by_cases hr : r = q
    · rw [hr, if_pos ⟨rfl, by rw [h]; rfl⟩]
      exact State.ts_setTs s q {}
    · rw [if_neg (fun e => hr e.1)]
      exact State.ts_setTs_ne s {} hr

theorem State.ts_disarmed (s : State) (m n : Nat) : ∀ q,
    (s.each n (fun s q => if bit m q then s.disarm q stDone (2 ^ 31) 0 else s)).ts q =
      if q < n ∧ bit m q ∧ (s.ts q).armed.isSome then {} else s.ts q := by
  unfold State.each
  induction n with
  | zero => exact fun q => (if_neg fun h => Nat.not_lt_zero q h.1).symm
  | succ n ih =>
    intro q
    rw [List.range_succ, List.foldl_append, List.foldl_cons, List.foldl_nil]
    generalize (List.range n).foldl _ s = u at ih ⊢
    have hn : u.ts n = s.ts n := (ih n).trans (if_neg fun h => absurd h.1 (Nat.lt_irrefl n))
    by_cases hq : q = n
    · subst hq
      split_ifs with h h' h'
      · rw [State.ts_disarm, if_pos ⟨rfl, by rw [hn]; exact h'.2.2⟩]
      · rw [State.ts_disarm, if_neg (fun e => h' ⟨by omega, h, by rw [← hn]; exact e.2⟩), hn]
      · exact absurd h'.2.1 h
      · exact hn
    · have hb : (if bit m n then u.disarm n stDone (2 ^ 31) 0 else u).ts q = u.ts q := by
        split_ifs
        · rw [State.ts_disarm, if_neg (fun e => hq e.1)]
        · rfl
      rw [hb, ih]
      exact if_congr (and_congr_left' ⟨fun h => by omega, fun h => by omega⟩) rfl rfl

theorem State.enterState_frame (s : State) (q n : Nat) : s.enterState q n = { s with
    tss := (s.enterState q n).tss, senses := (s.enterState q n).senses } := by
  unfold State.enterState
  dsimp only
  split_ifs <;> rfl

theorem State.captures_frame (s : State) (a : Nat) : s.each 4 (fun s q => s.capture q a) = { s with
    tss := (s.each 4 (fun s q => s.capture q a)).tss } :=
  State.each_keeps (P := fun u => u = { s with tss := u.tss }) 4 _ (fun u q hu => by rw [u.capture_frame, hu]) s rfl

/-- A fenced head is reported; nothing that it senses changes. -/
theorem State.fenceHead_senses (s : State) (c cause : Nat) : (s.fenceHead c cause).senses = s.senses := by
  unfold State.fenceHead
  rw [State.noteCoverage_frame]
  change (s.recordFence 1 c cause).cutHeads.senses = _
  rw [(State.cutHeads_reads _).1]
  change (s.recordFence 1 c cause).senses = _
  rw [State.recordFence_frame]

theorem State.fenceHead_touches (s : State) (c cause : Nat) : Touches fenceFlds s (s.fenceHead c cause) := by
  have h : Touches reportFlds (s.recordFence 1 c cause).cutHeads (s.fenceHead c cause) := (State.noteCoverage_reports _).touches
  have hc : Touches reportFlds (s.recordFence 1 c cause) (s.recordFence 1 c cause).cutHeads := Touches.of_regs (by rw [(State.cutHeads_reads _).1])
  exact (s.recordFence_touches 1 c cause).trans ((hc.trans h).mono (by decide))

/-- The registers of a violation, and the event that it offers. -/
def State.violated (s : State) (c kind point j x : Nat) : State :=
  let s := (s.setSense c { s.sense c with due := none }).set .SG_VIOL_RUN 0 0 c
  let s := ((s.set .SG_LAST_VIOL_CHANNEL c).set .SG_LAST_VIOL_KIND kind).set .SG_LAST_VIOL_POINT point
  ((s.set .SG_LAST_VIOL_STROBE j).bump .SG_VIOL_COUNT 1 0 c).offer { cond := 7, arg := c, at_ := 128 * x }

/-- What a violation shows. -/
structure Violated (s : State) (c kind point j : Nat) (t : State) : Prop where
  due : (t.sense c).due = none
  run : t.get .SG_VIOL_RUN 0 c = 0
  channel : t.get .SG_LAST_VIOL_CHANNEL = c % 2 ^ Fld.SG_LAST_VIOL_CHANNEL.desc.width
  kind : t.get .SG_LAST_VIOL_KIND = kind % 2 ^ Fld.SG_LAST_VIOL_KIND.desc.width
  point : t.get .SG_LAST_VIOL_POINT = point % 2 ^ Fld.SG_LAST_VIOL_POINT.desc.width
  strobe : t.get .SG_LAST_VIOL_STROBE = j % 2 ^ Fld.SG_LAST_VIOL_STROBE.desc.width
  count : t.get .SG_VIOL_COUNT 0 c = min (s.get .SG_VIOL_COUNT 0 c + 1) (2 ^ Fld.SG_VIOL_COUNT.desc.width - 1)

theorem State.violated_shows (s : State) (c kind point j x : Nat) : Violated s c kind point j (s.violated c kind point j x) := by
  unfold State.violated
  dsimp only
  rw [State.offer_frame]
  exact
    { due := congrArg Sense.due (s.sense_setSense c { s.sense c with due := none })
      run := by simp [table_form]
      channel := by simp [table_form]
      kind := by simp [table_form]
      point := by simp [table_form]
      strobe := by simp [table_form]
      count := (State.get_bump_same ((((((s.setSense c { s.sense c with due := none }).set .SG_VIOL_RUN 0 0 c).set .SG_LAST_VIOL_CHANNEL c).set
        .SG_LAST_VIOL_KIND kind).set .SG_LAST_VIOL_POINT point).set .SG_LAST_VIOL_STROBE j) .SG_VIOL_COUNT 1 0 c).trans (by simp [table_form]; rfl) }

theorem State.violated_touches (s : State) (c kind point j x : Nat) : Touches [.SG_VIOL_RUN, .SG_LAST_VIOL_CHANNEL, .SG_LAST_VIOL_KIND,
    .SG_LAST_VIOL_POINT, .SG_LAST_VIOL_STROBE, .SG_VIOL_COUNT] s (s.violated c kind point j x) := by
  unfold State.violated
  dsimp only
  rw [State.offer_frame]
  intro f i k hf
  simp only [List.mem_cons, List.not_mem_nil, or_false, not_or] at hf
  obtain ⟨h1, h2, h3, h4, h5, h6⟩ := hf
  refine (State.get_bump_fld _ h6 ..).trans ?_
  rw [State.get_set_fld _ h5, State.get_set_fld _ h4, State.get_set_fld _ h3, State.get_set_fld _ h2, State.get_set_fld _ h1]
  rfl

theorem Violated.touches {s t u : State} {c kind point j : Nat} (h : Violated s c kind point j t) {fs : List Fld} (hu : Touches fs t u)
    (hs : u.senses = t.senses) (hfs : ∀ f ∈ [Fld.SG_VIOL_RUN, .SG_LAST_VIOL_CHANNEL, .SG_LAST_VIOL_KIND, .SG_LAST_VIOL_POINT, .SG_LAST_VIOL_STROBE,
      .SG_VIOL_COUNT], f ∉ fs := by decide) : Violated s c kind point j u where
  due := (congrArg Sense.due (State.sense_of_senses hs c)).trans h.due
  run := (hu _ _ _ (hfs _ (by decide))).trans h.run
  channel := (hu _ _ _ (hfs _ (by decide))).trans h.channel
  kind := (hu _ _ _ (hfs _ (by decide))).trans h.kind
  point := (hu _ _ _ (hfs _ (by decide))).trans h.point
  strobe := (hu _ _ _ (hfs _ (by decide))).trans h.strobe
  count := (hu _ _ _ (hfs _ (by decide))).trans h.count

theorem execMaskViolation_due {s : State} {c kind point j x : Nat} {stop : Bool} (h : (s.sense c).due = some (kind, point, j, x, stop)) :
    exec (.maskViolation c) s = .next (if stop then ((s.violated c kind point j x).fenceHead c causeMask).on .SG_VIOL_STOPPED 0 c
      else s.violated c kind point j x) := by
  change execMaskViolation c s = _
  unfold execMaskViolation
  extract_lets y
  have hy : y.due = some (kind, point, j, x, stop) := h
  rw [hy]
  rfl

/-- An edge that an armed comparator sees: what the channel then holds. -/
def Sense.edged (x : Sense) (up : Bool) : Sense :=
  let x := { x with comp := up }
  if x.cross ≤ 1 then { x with edges := 0 } else { x with wait := (x.wait.1 + 1, x.wait.2) }

theorem exec_edge (s : State) (c x : Nat) (hp : s.powered 123 = true) (hs : s.hasSect 0x0043 0 = true) (hc : c < 64) (hm : s.sgMode c = 0) :
    exec (.sequencerEvent 1 c x) s = .next ((s.setSense c ((s.sense c).edged true)).takeEvent { cond := 1, arg := c, at_ := x }) := by
  have he := exec_when (i := .sequencerEvent 1 c x) (s := s) rfl (by simp [hp, hs])
  rw [he]
  rw [if_neg (by decide), if_neg (by omega)]
  dsimp only
  rw [if_neg (by omega)]
  rfl

theorem exec_busEdge (s : State) {e : Nat} (c x : Nat) (he : e = 1 ∨ e = 2) (hp : s.powered 123 = true) (hs : s.hasSect 0x0043 0 = true)
    (hc : c < 64) (hm : s.sgMode c = 1) : exec (.sequencerEvent e c x) s = .next (s.setSense c { s.sense c with comp := e == 1 }) := by
  rw [exec_when (i := .sequencerEvent e c x) (s := s) rfl (by simp [hp, hs])]
  rw [if_neg (by omega), if_neg (by omega)]
  dsimp only
  rw [if_pos hm]

/-- An armed sequencer. -/
theorem State.arm_reads (u : State) {q : Nat} (hq : q < 4) (x : Ts) : (fun t : State =>
      t.ts q = { x with state := 0, count := 0 } ∧ bit (t.get .SG_STATUS_ARMED) q = true ∧ ∀ r, r ≠ q → t.ts r = u.ts r)
    ((((u.setTs q x).putB .SG_STATUS_ARMED q true).putB .SG_STATUS_RECORD q false).enterState q 0) := by
  refine ⟨?_, ?_, fun r hr => ?_⟩
  · rw [State.ts_enterState]
    exact congrArg (fun y : Ts => { y with state := 0, count := 0 }) (u.ts_setTs q x)
  · rw [State.enterState_frame]
    exact (congrArg (bit · q) (State.get_set_fld _ (by decide) ..)).trans ((u.setTs q x).bit_putB _ true 0 0 hq)
  · exact ((State.enterState_steps ..).others r hr).trans (u.ts_setTs_ne x hr)

/-- A completed capture. -/
theorem State.captured_reads (s : State) {q : Nat} (hq : q < 4) (x : Ts) (h st res : Nat) : (fun t : State => t.ts q = x ∧
      bit (t.get .SG_STATUS_ARMED) q = false ∧ bit (t.get .SG_STATUS_RECORD) q = true ∧ ∀ r, r ≠ q → t.ts r = s.ts r)
    ((((s.setTs q x).putB .SG_STATUS_ARMED q false).putB .SG_STATUS_RECORD q true).finish h st res 0) := by
  have hs := (((s.setTs q x).putB .SG_STATUS_ARMED q false).putB .SG_STATUS_RECORD q true).finish_serves h st res 0
  refine ⟨(hs.ts q).trans (s.ts_setTs q x), ?_, ?_, fun r hr => (hs.ts r).trans (s.ts_setTs_ne x hr)⟩
  · rw [hs.get (by decide)]
    exact (congrArg (bit · q) (State.get_set_fld _ (by decide) ..)).trans ((s.setTs q x).bit_putB _ false 0 0 hq)
  · rw [hs.get (by decide)]
    exact ((s.setTs q x).putB .SG_STATUS_ARMED q false).bit_putB _ true 0 0 hq

/-- Settles O43: it holds. A sample reaches each channel on its own, so induction over the channels tells what each holds; an event
moves each sequencer on its own in the same way. -/
theorem sightGlass : Obligations.SightGlass := by
  unfold Obligations.SightGlass
  refine ⟨?sample, ?fault, ?violation, ?event, ?edgeBus, ?edge, ?timeout, ?holdoff, ?force, ?disarm, ?arm, ?capture, ?read, ?forward, ?drop, ?sent, ?frame⟩
  case sample =>
    intro s x codes hp hs
    have he : exec (.senseSample x codes) s = .next ((s.each 64 (fun s c => s.sensed x codes c)).each 4 (fun s q => s.capture q x)) :=
      exec_when (i := .senseSample x codes) (s := s) rfl (by simp [hp, hs])
    obtain ⟨hf, hc⟩ := s.samples_reads x codes 64
    generalize s.each 64 (fun s c => s.sensed x codes c) = u at he hf hc
    have hu := u.captures_frame x
    generalize u.each 4 (fun s q => s.capture q x) = t at he hu
    rw [hu] at he
    exact ⟨_, he, fun c h => (hc c).1 h, by rw [hf], by rw [hf], by rw [hf]⟩
  case fault =>
    intro s c hc hp hf hs
    have he := exec_when (i := .senseChannelFault c) (s := s) rfl (by simp [hc, hp, hf, hs])
    refine ⟨_, he, rfl, ((State.fenceSense_hasFence hc hf causeSense).set (by decide)).2, ?_⟩
    simp [table_form, sgWidths]
  case violation =>
    intro s c kind point j x stop hd hc
    have hv := s.violated_shows c kind point j x
    have ht := s.violated_touches c kind point j x
    have he := execMaskViolation_due hd
    generalize s.violated c kind point j x = u at hv ht he
    cases stop with
    | false =>
      obtain ⟨h1, h2, h3, h4, h5, h6, h7⟩ := hv
      exact ⟨_, he, h1, h2, h3, h4, h5, h6, h7, fun h => absurd h (by decide), fun _ k => ht _ _ _ (by decide)⟩
    | true =>
      have hw := (hv.touches (u.fenceHead_touches c causeMask) (u.fenceHead_senses c causeMask)).touches
        (u := (u.fenceHead c causeMask).on .SG_VIOL_STOPPED 0 c) (fs := [.SG_VIOL_STOPPED]) (fun f i k hf => State.get_set_fld _ (by simpa using hf) ..) rfl
      obtain ⟨h1, h2, h3, h4, h5, h6, h7⟩ := hw
      refine ⟨_, he, h1, h2, h3, h4, h5, h6, h7, fun _ => ⟨?_, ?_⟩, fun h => absurd h (by decide)⟩
      · exact ((u.hasFence_recordFence 1 hc causeMask).cutHeads.noteCoverage.set (by decide)).2
      · simp [table_form, sgWidths]
  case event =>
    intro s e l c x hp hs hl
    have he := exec_when (i := .sequencerEvent 0 c x) (s := s) rfl (by simp [hp, hs])
    rw [if_pos rfl, hl] at he
    obtain ⟨hf, -, -, h⟩ := State.takeEvent_reads { s with sgEvents := l } e 4
    refine ⟨_, he, (congrArg State.hostMem hf).trans rfl, (congrArg State.sgEvents hf).trans rfl, fun q hq => ?_⟩
    exact State.Stepped.congr (u := { s with sgEvents := l }) rfl rfl rfl rfl (h q hq)
  case edgeBus =>
    exact fun s c x hp hs hc hm => ⟨⟨_, exec_busEdge s c x (.inl rfl) hp hs hc hm, rfl⟩, ⟨_, exec_busEdge s c x (.inr rfl) hp hs hc hm, rfl⟩⟩
  case edge =>
    intro s c x hp hs hc hm
    obtain ⟨hf, h, -, -⟩ := State.takeEvent_reads (s.setSense c ((s.sense c).edged true)) { cond := 1, arg := c, at_ := x } 4
    obtain ⟨n, hn⟩ := h c
    rw [State.sense_setSense] at hn
    refine ⟨_, exec_edge s c x hp hs hc hm, ?_⟩
    unfold State.takeEvent
    generalize (s.setSense c ((s.sense c).edged true)).each 4 _ = t at hf hn ⊢
    refine ⟨?_, (congrArg State.sgEvents hf).trans rfl, fun h => ?_, fun h => ?_⟩
    all_goals rw [hn]; unfold Sense.edged; dsimp only
    · split_ifs <;> rfl
    · rw [if_neg (by omega)]
    · rw [if_pos h]
  case timeout =>
    intro s q ha ht hn
    have he := exec_when (i := .sequencerTimeout q) (s := s) rfl (by simp [ha, ht, hn])
    exact ⟨_, he, State.ts_enterState .., (s.enterState_steps q _).others, s.enterState_frame q _⟩
  case holdoff =>
    intro s q ha
    have he := exec_when (i := .sequencerHoldoffEnd q) (s := s) rfl ha
    exact ⟨_, he, State.ts_setTs .., fun r hr => State.ts_setTs_ne _ _ hr, rfl⟩
  case force =>
    intro s m hr ha
    have he := exec_reach (i := .sgForce m) (s := s) rfl hr
    rw [State.sgForce, s.forced m 4 ha] at he
    exact ⟨_, he, rfl, rfl⟩
  case disarm =>
    intro s m hr
    have he := exec_reach (i := .sgDisarm m) (s := s) rfl hr
    refine ⟨_, he, fun q hq => (s.ts_disarmed m 4 q).trans ?_⟩
    simp [hq]
  case arm =>
    intro s d q h ha hq hq3 hd1 hd hr1 hr hp hm hs hc hn hh
    have hi : exec (.sgArm d) s = execSgArm d s := rfl
    unfold execSgArm at hi
    extract_lets q' mask record decim chans at hi
    have hall : ∀ c ∈ chans, s.fenced 9 c = false ∧ bit (fieldAt (s.sgBlock c) 0 1) 0 = true := fun c h => by
      have h' := List.mem_filter.1 h
      exact hc c (List.mem_range.1 h'.1) h'.2
    have he := exec_long hi ha rfl rfl rfl (by simpa using fun c h => (hall c h).1) (by simp; omega) (by
        simp only [Bool.and_eq_true, decide_eq_true_eq, List.all_eq_true, bne_iff_ne]
        exact ⟨⟨⟨by omega, hd, hr, hp⟩, by rw [hq] at hs; exact hs⟩, fun c h => (hall c h).2⟩) (by simpa using hm) (by
        rw [if_neg]
        simp only [Bool.or_eq_true, List.any_eq_true, Bool.and_eq_true, not_or]
        refine ⟨by rw [hn q' (by omega)]; decide, fun ⟨r, hr, h, _⟩ => ?_⟩
        rw [hn r (List.mem_range.1 hr)] at h
        exact absurd h (by decide))
    rw [← hh] at he
    have hts := (s.startedLong_serves d 0x0601).ts
    generalize (s.startedLong d 0x0601).2 = u at he hts
    obtain ⟨h1, h2, h3⟩ := u.arm_reads (q := q') (by omega)
      { armed := some h, decim := decim, record := record, pre := d.p 0x20 4, mask := mask, holdTk := d.p 0x28 4 != 0, holdEv := d.p 0x24 2 }
    have hqq : q = q' := hq
    rw [hqq]
    refine ⟨_, he, ?_, ?_, ?_, ?_, ?_, ?_, ?_, h2, fun r hne => (h3 r hne).trans (hts r)⟩
    all_goals exact (congrArg _ h1).trans rfl
  case capture =>
    intro s q h x n r ha ht hq hl
    have hi : exec (.captureComplete q) s = execCaptureComplete q s := rfl
    unfold execCaptureComplete at hi
    dsimp only at hi
    rw [ha, ht] at hi
    dsimp only at hi
    rw [State.when_of _ _ (decide_eq_true hl)] at hi
    obtain ⟨h1, h2, h3, h4⟩ := s.captured_reads hq _ h stDone n
    exact ⟨_, hi, (congrArg Ts.armed h1).trans rfl, (congrArg (fun y => y.ready.isSome) h1).trans rfl, h2, h3, h4, _, rfl, rfl⟩
  case read =>
    intro s d q h x w ha hq hq3 h64 hr hn hl hh
    have hi : exec (.sgRead d) s = execSgRead d s := rfl
    unfold execSgRead at hi
    dsimp only at hi
    rw [← hq] at hi
    have he := exec_long hi ha rfl rfl rfl rfl rfl (by simp [hq3, h64, hl]) (by simpa using hn) (by rw [hr]; rfl)
    rw [hr, ← hh] at he
    exact ⟨_, he, rfl⟩
  case forward =>
    intro s g y o ho hg hl
    have hi : exec (.busTriggerForward g y o) s = execBusTriggerForward g y o s := rfl
    unfold execBusTriggerForward at hi
    rw [if_pos ho, State.when_of _ _ (decide_eq_true hg), State.busEnqueue, if_pos hl] at hi
    exact ⟨_, hi, rfl⟩
  case drop =>
    intro s g y o ho hg hl
    have hi : exec (.busTriggerForward g y o) s = execBusTriggerForward g y o s := rfl
    unfold execBusTriggerForward at hi
    rw [if_pos ho, State.when_of _ _ (decide_eq_true hg), State.busEnqueue, if_neg (by omega)] at hi
    exact ⟨_, hi, onlyRegs_set .., State.get_bump_same ..⟩
  case sent =>
    intro s g y o e l ho hl
    have hi : exec (.busTriggerForward g y o) s = execBusTriggerForward g y o s := rfl
    unfold execBusTriggerForward at hi
    rw [if_neg (by simp [ho]), hl] at hi
    exact ⟨_, hi, rfl⟩
  case frame =>
    intro s f r hf hp
    have he := exec_when (i := .sgBusTriggerFrame f r) (s := s) rfl (by simp [hf, hp])
    rw [State.busTake] at he
    refine ⟨_, he, ?_, ?_, fun ha => ?_⟩
    · rw [State.offer_frame]
      exact State.get_bump_same ..
    · rw [State.offer_frame]
      rfl
    · rw [State.offer_last (by rfl) (by exact ha)]
      rfl

end Sys2Proof.Machine
end

section
/-! PROOF. Axes. -/

namespace Sys2Proof.Machine

-- One lemma after the other: elaborated side by side, they ask for more threads than the compile may have.
set_option Elab.async false

/-! ## Axes that start, stop and rest

What each operation on an axis leaves of the registers, the axes and the press line, and that nothing else of the state changes but the
queues that an ended operation is reported to. -/

/-- Widths of fields. -/
theorem motWidths : Fld.MOT_STATUS_MOVING.desc.width = 4 ∧ Fld.MOT_STATUS_DIR.desc.width = 4 ∧ Fld.MOT_STATUS_HELD.desc.width = 4 ∧
    Fld.MOT_STATUS_BS_PHASE.desc.width = 3 ∧ Fld.MOT_INPUTS_LIMA.desc.width = 4 ∧ Fld.MOT_INPUTS_LIMB.desc.width = 4 ∧
    Fld.MOT_INPUTS_LATCH.desc.width = 8 ∧ Fld.FIRE_STATUS_RUNNING.desc.width = 1 ∧ Fld.MOT_INPUTS_BREAK.desc.width = 1 ∧
    Fld.MOT_INPUTS_BREAK_SEEN.desc.width = 1 ∧ Fld.MOT_INPUTS_SPLICE.desc.width = 1 ∧ Fld.MOT_INPUTS_SPLICE_SEEN.desc.width = 1 := ⟨rfl, rfl, rfl, rfl, rfl, rfl, rfl, rfl, rfl, rfl, rfl, rfl⟩

@[simp] theorem State.axis_setAxis (s : State) (a : Nat) (x : Axis) : (s.setAxis a x).axis a = x := look_store_same ..
theorem State.axis_setAxis_ne (s : State) {a b : Nat} (x : Axis) (h : b ≠ a) : (s.setAxis a x).axis b = s.axis b := look_store_ne _ _ _ h
theorem State.axis_of_axes {s t : State} (h : t.axes = s.axes) (a : Nat) : t.axis a = s.axis a := congrArg (look _ · a) h

/-- A bit of a field after a bit of it is written. -/
theorem State.bit_putB_at (s : State) (f : Fld) (b : Nat) (v : Bool) (i k : Nat) {x : Nat} (hx : x < f.desc.width) :
    bit ((s.putB f b v i k).get f i k) x = if x = b then v else bit (s.get f i k) x := by
  unfold State.putB bit
  rw [State.testBit_set _ _ _ _ _ hx, testBit_putBit]

/-- From `s` to `t` axes move or rest: of the registers only `fs` and the counts of reports change. -/
structure Moves (fs : List Fld) (s t : State) : Prop where
  frame : t = { s with
    regs := t.regs, axes := t.axes, line := t.line, scales := t.scales, jobEnds := t.jobEnds, hostMem := t.hostMem, pairs := t.pairs, slots := t.slots, turns := t.turns, outbox := t.outbox, msixPend := t.msixPend }
  touches : Touches (fs ++ reportedFlds) s t

namespace Moves

variable {fs gs : List Fld} {s t u : State}

theorem refl (fs : List Fld) (s : State) : Moves fs s s := ⟨rfl, Touches.refl _ s⟩

theorem trans (h : Moves fs s t) (h' : Moves fs t u) : Moves fs s u := ⟨by rw [h'.frame, h.frame], h.touches.trans h'.touches⟩

theorem mono (h : Moves fs s t) (hs : fs ⊆ gs) : Moves gs s t :=
  ⟨h.frame, h.touches.mono (List.append_subset.2 ⟨fun _ hf => List.mem_append_left _ (hs hf), List.subset_append_right ..⟩)⟩

theorem set (h : Moves fs s t) {f : Fld} (hf : f ∈ fs) (v i k : Nat) : Moves fs s (t.set f v i k) :=
  h.trans ⟨rfl, (Touches.refl _ t).set (List.mem_append_left _ hf) v i k⟩

theorem seti (h : Moves fs s t) {f : Fld} (hf : f ∈ fs) (v : Int) (i k : Nat) : Moves fs s (t.seti f v i k) := h.set hf ..

theorem putB (h : Moves fs s t) {f : Fld} (hf : f ∈ fs) (b : Nat) (v : Bool) (i k : Nat) : Moves fs s (t.putB f b v i k) := h.set hf ..

theorem setAxis (h : Moves fs s t) (a : Nat) (x : Axis) : Moves fs s (t.setAxis a x) := h.trans ⟨rfl, Touches.of_regs rfl⟩

theorem setLine (h : Moves fs s t) (l : Timeline) : Moves fs s { t with line := l } := h.trans ⟨rfl, Touches.of_regs rfl⟩

theorem serves (h : Moves fs s t) (hu : Serves t u) : Moves fs s u := by
  refine h.trans ⟨?_, hu.touches.mono (List.subset_append_right ..)⟩
  have hf := hu.frame
  generalize u.regs = r, u.hostMem = m, u.pairs = p, u.slots = l, u.turns = n, u.outbox = o, u.msixPend = x at hf
  rw [hf]

theorem finish (h : Moves fs s t) (x st r e : Nat) : Moves fs s (t.finish x st r e) := h.serves (State.finish_serves ..)

theorem get (h : Moves fs s t) {f : Fld} (hf : f ∉ fs ++ reportedFlds) (i k : Nat) : t.get f i k = s.get f i k := h.touches f i k hf

theorem is (h : Moves fs s t) {f : Fld} (hf : f ∉ fs ++ reportedFlds) (i k : Nat) : t.is f i k = s.is f i k := by
  unfold State.is
  rw [h.get hf]

theorem sects (h : Moves fs s t) : t.sects = s.sects := by rw [h.frame]
theorem pages (h : Moves fs s t) : t.pages = s.pages := by rw [h.frame]
theorem sets (h : Moves fs s t) : t.sets = s.sets := by rw [h.frame]
theorem seq (h : Moves fs s t) : t.seq = s.seq := by rw [h.frame]

end Moves

theorem Serves.axes {s t : State} (h : Serves s t) : t.axes = s.axes := by rw [h.frame]
theorem Serves.line {s t : State} (h : Serves s t) : t.line = s.line := by rw [h.frame]
theorem Serves.jobEnds {s t : State} (h : Serves s t) : t.jobEnds = s.jobEnds := by rw [h.frame]
theorem Serves.scales {s t : State} (h : Serves s t) : t.scales = s.scales := by rw [h.frame]

/-- The fields that show the position under dead reckoning. -/
def showFlds : List Fld := [.ENC_POS_COUNTS, .ENC_SPEED_RATE, .ENC_SLIP_COUNTS]

theorem State.drShow_moves (s : State) : Moves showFlds s s.drShow := by
  unfold State.drShow State.showSlip State.setSat
  dsimp only
  refine Moves.seti (fs := showFlds) ?_ (by decide) ..
  split_ifs
  · exact ((Moves.refl showFlds s).seti (by decide) ..).seti (by decide) ..
  · exact ((Moves.refl showFlds s).seti (by decide) ..).seti (by decide) ..
  · exact Moves.refl _ s

theorem State.drShow_frame (s : State) : s.drShow = { s with regs := s.drShow.regs } := by
  unfold State.drShow State.showSlip State.setSat
  dsimp only
  split_ifs <;> rfl

/-- The fields of an axis that comes to rest. -/
def restFlds : List Fld := .MOT_STATUS_MOVING :: .MOT_SPEED_RATE :: showFlds

/-- What an axis at rest keeps. -/
def Axis.rested (x : Axis) : Axis := { x with mode := 0, v2 := 0, stopAt := none, changes := [] }

/-- The press line of AX0 at rest. -/
def Timeline.rested (l : Timeline) : Timeline := { l with live := false, turn := false }

/-- An axis halted. -/
def State.halted (s : State) (a : Nat) : State := ((s.putB .MOT_STATUS_MOVING a false).set .MOT_SPEED_RATE 0 0 a).setAxis a (s.axis a).rested

theorem State.halted_reads (s : State) (a : Nat) : (fun t : State => Moves restFlds s t ∧
      t = { s with regs := t.regs, axes := t.axes } ∧
      (∀ b, b < 4 → t.moving' b = if b = a then false else s.moving' b) ∧ t.get .MOT_SPEED_RATE 0 a = 0 ∧
      t.axis a = (s.axis a).rested ∧ (∀ b, b ≠ a → t.axis b = s.axis b)) (s.halted a) := by
  refine ⟨(((Moves.refl restFlds s).putB (by decide) ..).set (by decide) ..).setAxis .., rfl, fun b hb => ?_, ?_, State.axis_setAxis ..,
    fun b hb => State.axis_setAxis_ne _ _ hb⟩
  · exact (congrArg (bit · b) ((s.putB .MOT_STATUS_MOVING a false).get_set_fld (f := .MOT_SPEED_RATE) (g := .MOT_STATUS_MOVING) (by decide) 0 0 a 0 0)).trans
      (s.bit_putB_at .MOT_STATUS_MOVING a false 0 0 hb)
  · exact State.get_set_fits (f := .MOT_SPEED_RATE) (v := 0) _ 0 a rfl

theorem State.restAxis_eq (s : State) (a : Nat) : s.restAxis a = if a = 0 then { (s.halted a).drShow with line := s.line.rested } else s.halted a := rfl

theorem State.restAxis_reads (s : State) (a : Nat) : (fun t : State => Moves restFlds s t ∧
      t = { s with regs := t.regs, axes := t.axes, line := t.line } ∧
      (∀ b, b < 4 → t.moving' b = if b = a then false else s.moving' b) ∧ t.get .MOT_SPEED_RATE 0 a = 0 ∧
      t.axis a = (s.axis a).rested ∧ (∀ b, b ≠ a → t.axis b = s.axis b) ∧ t.line = if a = 0 then s.line.rested else s.line)
    (s.restAxis a) := by
  rw [State.restAxis_eq]
  obtain ⟨h1, hf, hm, hr, hx, hn⟩ := s.halted_reads a
  generalize s.halted a = u at h1 hm hr hx hn hf ⊢
  split_ifs with ha
  · have hd := u.drShow_moves
    have hg := u.drShow_frame
    generalize u.drShow = v at hd hg
    have hax : v.axes = u.axes := by rw [hg]
    refine ⟨(h1.trans (hd.mono (by decide))).setLine _, by rw [hg, hf], fun b hb => ?_, ?_, ?_, fun b hb => ?_, rfl⟩
    · exact (congrArg (bit · b) (hd.get (f := .MOT_STATUS_MOVING) (by decide) 0 0)).trans (hm b hb)
    · exact (hd.get (f := .MOT_SPEED_RATE) (by decide) 0 a).trans hr
    · exact (State.axis_of_axes hax a).trans hx
    · exact (State.axis_of_axes hax b).trans (hn b hb)
  · exact ⟨h1, by rw [hf], hm, hr, hx, hn, by rw [hf]⟩

/-- What remains of the operations of an axis that rests: none. -/
def Axis.ended (x : Axis) : Axis := { x with moveOp := none, speedOp := none, stopOps := [] }

theorem State.restOps_serves (s : State) (a : Nat) (short : Bool) (st : Nat) :
    Serves (s.setAxis a (s.axis a).ended) (s.restOps a short st) := by
  unfold State.restOps
  extract_lets x s1 dist s2 s3
  have h2 : Serves (s.setAxis a (s.axis a).ended) s2 := by
    unfold s2
    split
    · exact State.finish_serves ..
    · exact Serves.refl _
  have h3 : Serves (s.setAxis a (s.axis a).ended) s3 := by
    unfold s3
    split
    · exact h2.trans (State.finish_serves ..)
    · exact h2
  exact List.foldlRecOn x.stopOps _ h3 fun u hu h _ => hu.trans (State.finish_serves ..)

theorem State.restOps_reads (s : State) (a : Nat) (short : Bool) (st : Nat) : (fun t : State => Moves [] s t ∧
      t.axis a = (s.axis a).ended ∧ (∀ b, b ≠ a → t.axis b = s.axis b) ∧ t.line = s.line ∧ t.jobEnds = s.jobEnds ∧ t.scales = s.scales)
    (s.restOps a short st) := by
  have h := s.restOps_serves a short st
  refine ⟨((Moves.refl _ s).setAxis a _).serves h, ?_, fun b hb => ?_, h.line.trans rfl, h.jobEnds.trans rfl, h.scales.trans rfl⟩
  · exact (State.axis_of_axes h.axes a).trans (s.axis_setAxis a _)
  · exact (State.axis_of_axes h.axes b).trans (s.axis_setAxis_ne _ hb)

theorem State.endJob_reads (s : State) : (fun t : State => Moves [.MOT_STATUS_JOB] s t ∧ t.axes = s.axes ∧ t.scales = s.scales ∧
      t.jobEnds = s.jobEnds.tail ∧
      t.line = { s.line with fired := false, jobStop := false, live := false, late := [], due := false, blame := none }) s.endJob := by
  unfold State.endJob
  exact ⟨⟨rfl, fun f i k hf => State.get_set_fld _ (by simp at hf; exact hf.1) ..⟩, rfl, rfl, rfl, rfl⟩

theorem State.closeJob_reads (s : State) : (fun t : State => Moves [.MOT_STATUS_JOB] s t ∧ t.axes = s.axes ∧ t.scales = s.scales)
    s.closeJob := by
  unfold State.closeJob
  split_ifs
  · obtain ⟨h1, h2, h3, -⟩ := s.endJob_reads
    exact ⟨h1, h2, h3⟩
  · exact ⟨Moves.refl _ s, rfl, rfl⟩

/-- The fields of an axis that stops at once. -/
def hardFlds : List Fld := restFlds ++ [.MOT_STATUS_HELD, .MOT_POS_STEPS, .FIRE_STATUS_RUNNING, .MOT_STATUS_BS_PHASE, .MOT_STATUS_JOB]

/-- The part of AX0 in a hard stop. -/
def State.hardWeb (s : State) : State :=
  let p := if s.is .ENC_STATUS_DR || !s.encUsed 0 then s.axPos 0 else (s.encPos 0 - (s.scale 0).slip0) * s.encf 0 0xC 4 / s.encf 0 8 4
  let s := (s.seti .MOT_POS_STEPS p 0 0).set .FIRE_STATUS_RUNNING (b2n !s.seq.events.isEmpty)
  let s := { s with line := { s.line with hard := true, due := false, assisted := none, jobStop := false, stay := false } }
  ((s.set .MOT_STATUS_BS_PHASE 0).drShow).closeJob

theorem State.hardWeb_reads (s : State) : (fun t : State => Moves (showFlds ++ [.MOT_POS_STEPS, .FIRE_STATUS_RUNNING, .MOT_STATUS_BS_PHASE, .MOT_STATUS_JOB]) s t ∧
      t.axes = s.axes ∧ t.scales = s.scales) s.hardWeb := by
  unfold State.hardWeb
  extract_lets p s1 __ s2
  have h2 : Moves (showFlds ++ [.MOT_POS_STEPS, .FIRE_STATUS_RUNNING, .MOT_STATUS_BS_PHASE, .MOT_STATUS_JOB]) s (s2.set .MOT_STATUS_BS_PHASE 0) :=
    ((((Moves.refl _ s).seti (by decide) ..).set (by decide) ..).setLine _).set (by decide) ..
  have ha : (s2.set .MOT_STATUS_BS_PHASE 0).axes = s.axes := rfl
  have hc : (s2.set .MOT_STATUS_BS_PHASE 0).scales = s.scales := rfl
  generalize s2.set .MOT_STATUS_BS_PHASE 0 = u at h2 ha hc
  have hd := u.drShow_moves
  have hg := u.drShow_frame
  generalize u.drShow = v at hd hg
  obtain ⟨h3, h4, h5⟩ := v.closeJob_reads
  exact ⟨(h2.trans (hd.mono (by decide))).trans (h3.mono (by decide)), by rw [h4, hg, ha], by rw [h5, hg, hc]⟩

theorem State.hardStop_eq (s : State) (a st : Nat) : s.hardStop a st = if !s.moving' a && !(a == 0 && s.phase != 0) then s
    else
      let s' := (s.restAxis a).putB .MOT_STATUS_HELD a true
      let s' := if a = 0 then s'.hardWeb else s'
      let s' := match (s.axis a).next with
        | some n => (s'.setAxis a { s'.axis a with next := none }).finish n.1 st 1 0
        | none => s'
      s'.restOps a true st := rfl

theorem State.hardStop_reads (s : State) {a : Nat} (ha : a < 4) (st : Nat) (h : s.moving' a = true ∨ a = 0 ∧ s.phase ≠ 0) :
    (fun t : State => Moves hardFlds s t ∧ (∀ b, b < 4 → t.moving' b = if b = a then false else s.moving' b) ∧
      bit (t.get .MOT_STATUS_HELD) a = true ∧ t.scales = s.scales ∧ (∀ b, b ≠ a → t.axis b = s.axis b)) (s.hardStop a st) := by
  rw [State.hardStop_eq, if_neg (by rcases h with h | ⟨rfl, h⟩ <;> simp [h])]
  obtain ⟨r1, rf, r2, -, -, r5, -⟩ := s.restAxis_reads a
  generalize s.restAxis a = u at r1 rf r2 r5 ⊢
  extract_lets s1 s2 __ s3
  have f1 : Moves hardFlds s s1 := (r1.mono (by decide)).putB (by decide) ..
  have m1 : ∀ b, b < 4 → s1.moving' b = if b = a then false else s.moving' b := fun b hb =>
    (congrArg (bit · b) (u.get_set_fld (f := .MOT_STATUS_HELD) (g := .MOT_STATUS_MOVING) (by decide) _ 0 0 0 0)).trans (r2 b hb)
  have d1 : bit (s1.get .MOT_STATUS_HELD) a = true := (u.bit_putB _ true 0 0 ha)
  have c1 : s1.scales = s.scales := by
    change u.scales = _
    rw [rf]
  have x1 : ∀ b, b ≠ a → s1.axis b = s.axis b := r5
  have hk : ∀ t : State, Moves [.MOT_POS_STEPS, .FIRE_STATUS_RUNNING, .MOT_STATUS_BS_PHASE, .MOT_STATUS_JOB, .ENC_POS_COUNTS, .ENC_SPEED_RATE, .ENC_SLIP_COUNTS] s1 t →
      Moves hardFlds s t ∧ (∀ b, b < 4 → t.moving' b = if b = a then false else s.moving' b) ∧ bit (t.get .MOT_STATUS_HELD) a = true := fun t ht =>
    ⟨f1.trans (ht.mono (by decide)), fun b hb => (congrArg (bit · b) (ht.get (by decide) 0 0)).trans (m1 b hb),
      (congrArg (bit · a) (ht.get (by decide) 0 0)).trans d1⟩
  have h2 : Moves [.MOT_POS_STEPS, .FIRE_STATUS_RUNNING, .MOT_STATUS_BS_PHASE, .MOT_STATUS_JOB, .ENC_POS_COUNTS, .ENC_SPEED_RATE, .ENC_SLIP_COUNTS] s1 s2 ∧
      s2.axes = s1.axes ∧ s2.scales = s1.scales := by
    unfold s2
    split_ifs
    · obtain ⟨w1, w2, w3⟩ := s1.hardWeb_reads
      exact ⟨w1.mono (by decide), w2, w3⟩
    · exact ⟨Moves.refl _ _, rfl, rfl⟩
  have h3 : Moves [.MOT_POS_STEPS, .FIRE_STATUS_RUNNING, .MOT_STATUS_BS_PHASE, .MOT_STATUS_JOB, .ENC_POS_COUNTS, .ENC_SPEED_RATE, .ENC_SLIP_COUNTS] s1 s3 ∧
      (∀ b, b ≠ a → s3.axis b = s1.axis b) ∧ s3.scales = s1.scales := by
    obtain ⟨w1, w2, w3⟩ := h2
    unfold s3
    split
    · have hs := (s2.setAxis a { s2.axis a with next := none }).finish_serves (‹Nat × Nat›).1 st 1 0
      refine ⟨(w1.setAxis ..).serves hs, fun b hb => ?_, hs.scales.trans w3⟩
      exact (State.axis_of_axes hs.axes b).trans ((s2.axis_setAxis_ne _ hb).trans (State.axis_of_axes w2 b))
    · exact ⟨w1, fun b _ => State.axis_of_axes w2 b, w3⟩
  obtain ⟨w1, w2, w3⟩ := h3
  obtain ⟨o1, -, o3, -, -, o6⟩ := s3.restOps_reads a true st
  obtain ⟨k1, k2, k3⟩ := hk _ (w1.trans (o1.mono (by simp)))
  exact ⟨k1, k2, k3, o6.trans (w3.trans c1), fun b hb => (o3 b hb).trans ((w2 b hb).trans (x1 b hb))⟩

/-- A stop at once of an axis that rests. -/
theorem State.hardStop_rests (s : State) (a st : Nat) (h : s.moving' a = false) (h0 : a = 0 → s.phase = 0) : s.hardStop a st = s := by
  rw [State.hardStop_eq, if_pos]
  by_cases ha : a = 0
  · simp [h, h0 ha]
  · simp [h, ha]

theorem State.hardStop_moves (s : State) {a : Nat} (ha : a < 4) (st : Nat) : (fun t : State => Moves hardFlds s t ∧ t.moving' a = false ∧
      (∀ b, b < 4 → b ≠ a → t.moving' b = s.moving' b) ∧ t.scales = s.scales ∧ ∀ b, b ≠ a → t.axis b = s.axis b) (s.hardStop a st) := by
  by_cases h : s.moving' a = true ∨ a = 0 ∧ s.phase ≠ 0
  · obtain ⟨h1, h2, -, h4, h5⟩ := s.hardStop_reads ha st h
    exact ⟨h1, (h2 a ha).trans (if_pos rfl), fun b hb hn => (h2 b hb).trans (if_neg hn), h4, h5⟩
  · have hm : s.moving' a = false := by simpa using fun e => h (.inl e)
    rw [s.hardStop_rests a st hm fun e => by_contra fun hp => h (.inr ⟨e, hp⟩)]
    exact ⟨Moves.refl _ s, hm, fun _ _ _ => rfl, rfl, fun _ _ => rfl⟩

/-! ### Stops with a ramp -/

theorem State.stopBy_reads (s : State) (a : Nat) (p : Int) : (fun t : State => Moves [] s t ∧
      t = { s with axes := t.axes, line := t.line } ∧ (∃ q, t.axis a = { s.axis a with mode := 3, stopAt := some q }) ∧
      (∀ b, b ≠ a → t.axis b = s.axis b) ∧ ∃ n, t.line = { s.line with pStop := n }) (s.stopBy a p) := by
  unfold State.stopBy
  extract_lets x __ q s1
  have h1 : Moves [] s s1 := (Moves.refl _ s).setAxis ..
  have hx : s1.axis a = _ := s.axis_setAxis a _
  have hn : ∀ b, b ≠ a → s1.axis b = s.axis b := fun b hb => s.axis_setAxis_ne _ hb
  split_ifs
  · exact ⟨h1.setLine _, rfl, ⟨_, hx⟩, hn, _, rfl⟩
  · exact ⟨h1, rfl, ⟨_, hx⟩, hn, s.line.pStop, rfl⟩

theorem State.rampStop_reads (s : State) (a : Nat) (b : Bool) : (fun t : State => Moves [] s t ∧
      t = { s with axes := t.axes, line := t.line } ∧ (∃ m q, t.axis a = { s.axis a with mode := m, stopAt := q } ∧ (s.moving' a = true → m = 3)) ∧
      (∀ b, b ≠ a → t.axis b = s.axis b) ∧ ∃ n, t.line = { s.line with pStop := n }) (s.rampStop a b) := by
  unfold State.rampStop
  split_ifs with h
  · refine ⟨Moves.refl _ s, rfl, ⟨_, _, rfl, fun hm => ?_⟩, fun _ _ => rfl, _, rfl⟩
    exact h.resolve_left (by simp [hm])
  · obtain ⟨h1, h2, ⟨q, h3⟩, h4, h5⟩ := s.stopBy_reads a (s.rampEnd a (s.firstAfter a b))
    exact ⟨h1, h2, ⟨3, _, h3, fun _ => rfl⟩, h4, h5⟩

theorem State.planLast_reads (s : State) (n : Nat) : (fun t : State => Moves [] s t ∧
      t = { s with axes := t.axes, line := t.line } ∧ (∃ m q, t.axis 0 = { s.axis 0 with mode := m, stopAt := q } ∧ (s.moving' 0 = true → m = 3)) ∧
      ∃ n, t.line = { s.line with pStop := n }) (s.planLast n) := by
  unfold State.planLast
  split_ifs
  · obtain ⟨h1, h2, ⟨q, h3⟩, -, h5⟩ := s.stopBy_reads 0 (s.lastStop n)
    exact ⟨h1, h2, ⟨3, _, h3, fun _ => rfl⟩, h5⟩
  · obtain ⟨h1, h2, h3, -, h5⟩ := s.rampStop_reads 0 false
    exact ⟨h1, h2, h3, h5⟩

theorem State.plainStop_reads (s : State) (a : Nat) : (fun t : State => Moves [.MOT_STATUS_BS_PHASE] s t ∧
      t = { s with regs := t.regs, axes := t.axes, line := t.line } ∧ (s.moving' a = true → (t.axis a).mode = 3) ∧
      ∀ b, b ≠ a → t.axis b = s.axis b) (s.plainStop a) := by
  unfold State.plainStop
  extract_lets s1
  obtain ⟨h1, h2, ⟨m, q, h3, hm⟩, h4, -⟩ := s.rampStop_reads a (a == 0 && decide (5 ≤ s.phase))
  have h1' : Moves [.MOT_STATUS_BS_PHASE] s s1 := h1.mono (by simp)
  have h3' : s1.axis a = _ := h3
  have h2' : s1 = _ := h2
  split_ifs
  · refine ⟨(h1'.setLine _).set (by decide) .., ?_, fun hv => ?_, h4⟩
    · rw [h2']
      rfl
    · exact (congrArg Axis.mode h3').trans (hm hv)
  · exact ⟨h1', by rw [h2'], fun hv => (congrArg Axis.mode h3').trans (hm hv), h4⟩

theorem State.webStop_reads (s : State) : (fun t : State => Moves [.MOT_STATUS_BS_PHASE] s t ∧
      t = { s with regs := t.regs, axes := t.axes, line := t.line } ∧
      (s.moving' 0 = true → s.phase = 0 → ∃ q, t.axis 0 = { s.axis 0 with mode := 3, stopAt := q }) ∧
      ∀ b, b ≠ 0 → t.axis b = s.axis b) s.webStop := by
  unfold State.webStop
  by_cases h : s.phase = 1 ∨ s.phase = 3 ∨ s.phase = 4
  · rw [if_pos h]
    refine ⟨(Moves.refl _ s).setLine _, rfl, fun _ hp => ?_, fun _ _ => rfl⟩
    rw [hp] at h
    omega
  · rw [if_neg h]
    extract_lets x turn s1
    obtain ⟨h1, h2, ⟨m, q, h3, hm⟩, h4, -⟩ := s.rampStop_reads 0 (s.phase != 0)
    refine ⟨((h1.mono (by simp)).set (by decide) ..).setLine _, ?_, fun hv _ => ⟨q, ?_⟩, h4⟩
    · unfold s1
      generalize s.rampStop 0 (s.phase != 0) = u at h2
      rw [h2]
      rfl
    · rw [← hm hv]
      exact h3

/-! ### Starts -/

/-- The fields of an axis that starts. -/
def startFlds : List Fld := [.MOT_STATUS_MOVING, .MOT_STATUS_DIR, .MOT_STATUS_HELD, .MOT_SPEED_RATE] ++ showFlds

/-- What an axis that starts holds. -/
def Axis.started (x : Axis) (p : Int) (w : Rat) : Axis := { x with start := p, v2 := w, changes := [] }

/-- An axis started, without what the press line and the encoder take from AX0. -/
def State.axisOn (s : State) (a : Nat) (fwd : Bool) (x : Axis) : State :=
  let s := ((s.putB .MOT_STATUS_MOVING a true).putB .MOT_STATUS_DIR a fwd).putB .MOT_STATUS_HELD a false
  let s := s.set .MOT_SPEED_RATE (s.mf a 4 4) 0 a
  let s := if a ≠ 0 ∨ s.drives then s.out (.pin "AX_DIR" a (b2n fwd)) else s
  s.setAxis a { x with start := s.axPos a, v2 := sq (s.mf a 4 4), changes := [] }

/-- What AX0 takes at its start. -/
def State.slipFrom (s : State) : State :=
  let s := { s with line := { s.line with hard := false, turn := false } }
  s.setScale 0 { s.scale 0 with slip0 := s.encPos 0 - s.stepsToCounts 0 (s.axPos 0) }

theorem State.slipFrom_frame (s : State) : s.slipFrom = { s with
    line := { s.line with hard := false, turn := false }, scales := s.slipFrom.scales } := rfl

theorem State.startAxis_eq (s : State) (a : Nat) (fwd : Bool) (x : Axis) : s.startAxis a fwd x =
    if a = 0 then (s.axisOn a fwd x).slipFrom.drShow else s.axisOn a fwd x := rfl

theorem State.mf_congr {s t : State} (h : t.sects = s.sects) (a o n : Nat) : t.mf a o n = s.mf a o n := by
  unfold State.mf State.sect
  rw [h]

theorem State.axPos_congr {s t : State} {a : Nat} (h : t.get .MOT_POS_STEPS 0 a = s.get .MOT_POS_STEPS 0 a) : t.axPos a = s.axPos a := by
  unfold State.axPos State.geti
  rw [h]

theorem State.axisOn_reads (s : State) {a : Nat} (ha : a < 4) (fwd : Bool) (x : Axis) : (fun t : State => Moves startFlds s t ∧
      t = { s with regs := t.regs, axes := t.axes, outbox := t.outbox } ∧ t.moving' a = true ∧ t.forward a = fwd ∧
      t.get .MOT_SPEED_RATE 0 a = s.mf a 4 4 % 2 ^ Fld.MOT_SPEED_RATE.desc.width ∧
      t.axis a = x.started (s.axPos a) (sq (s.mf a 4 4)) ∧ ∀ b, b ≠ a → t.axis b = s.axis b) (s.axisOn a fwd x) := by
  unfold State.axisOn
  extract_lets s1 s2 s3
  have h2 : Moves startFlds s s2 := ((((Moves.refl startFlds s).putB (by decide) ..).putB (by decide) ..).putB (by decide) ..).set (by decide) ..
  have f2 : s2 = { s with regs := s2.regs } := rfl
  have m2 : s2.moving' a = true := (congrArg (bit · a) (by simp only [s2, s1]; rw [State.get_set_fld _ (by decide), State.putB, State.get_set_fld _ (by decide),
    State.putB, State.get_set_fld _ (by decide)])).trans (s.bit_putB .MOT_STATUS_MOVING true 0 0 (b := a) ha)
  have d2 : s2.forward a = fwd := (congrArg (bit · a) (by simp only [s2, s1]; rw [State.get_set_fld _ (by decide), State.putB, State.get_set_fld _ (by decide)])).trans
    ((s.putB .MOT_STATUS_MOVING a true).bit_putB .MOT_STATUS_DIR fwd 0 0 (b := a) ha)
  have r2 : s2.get .MOT_SPEED_RATE 0 a = s.mf a 4 4 % 2 ^ Fld.MOT_SPEED_RATE.desc.width := State.get_set_same ..
  have g3 : ∃ o, s3 = { s2 with outbox := o } := by
    unfold s3
    split_ifs
    exacts [⟨_, rfl⟩, ⟨_, rfl⟩]
  obtain ⟨o, g3⟩ := g3
  clear_value s2 s3
  subst g3
  have hp : s2.axPos a = s.axPos a := State.axPos_congr (h2.get (by decide) 0 a)
  have ho : Moves startFlds s2 { s2 with outbox := o } := ⟨rfl, Touches.of_regs rfl⟩
  refine ⟨(h2.trans ho).setAxis a _, by rw [f2]; rfl, m2, d2, r2, ?_, fun b hb => ?_⟩
  · refine (State.axis_setAxis ..).trans ?_
    rw [← hp, f2]
    rfl
  · refine (State.axis_setAxis_ne _ _ hb).trans ?_
    exact State.axis_of_axes (by rw [f2]) b

theorem State.startAxis_reads (s : State) {a : Nat} (ha : a < 4) (fwd : Bool) (x : Axis) : (fun t : State => Moves startFlds s t ∧
      t.moving' a = true ∧ t.forward a = fwd ∧ t.get .MOT_SPEED_RATE 0 a = s.mf a 4 4 % 2 ^ Fld.MOT_SPEED_RATE.desc.width ∧
      t.axis a = x.started (s.axPos a) (sq (s.mf a 4 4)) ∧ (∀ b, b ≠ a → t.axis b = s.axis b) ∧ t.axPos a = s.axPos a ∧
      t.line = if a = 0 then { s.line with hard := false, turn := false } else s.line) (s.startAxis a fwd x) := by
  rw [State.startAxis_eq]
  obtain ⟨h1, h2, h3, h4, h5, h6, h7⟩ := s.axisOn_reads ha fwd x
  generalize s.axisOn a fwd x = u at h1 h2 h3 h4 h5 h6 h7 ⊢
  split_ifs with h0
  · have hw := u.slipFrom_frame
    generalize u.slipFrom = w at hw
    have hu : Moves startFlds u w := by
      rw [hw]
      exact ⟨rfl, Touches.of_regs rfl⟩
    have hr : w.regs = u.regs := by rw [hw]
    have hd := w.drShow_moves
    have hf := w.drShow_frame
    generalize w.drShow = v at hd hf ⊢
    have hv : v = { u with regs := v.regs, line := { u.line with hard := false, turn := false }, scales := v.scales } := by rw [hf, hw]
    have hg : ∀ (f : Fld) (i k : Nat), f ∉ showFlds ++ reportedFlds → v.get f i k = u.get f i k := fun f i k h => (hd.get h i k).trans
      (Touches.of_regs (fs := []) hr f i k (by simp))
    refine ⟨(h1.trans hu).trans (hd.mono (by decide)), ?_, ?_, ?_, ?_, fun b hb => ?_, ?_, ?_⟩
    · exact (congrArg (bit · a) (hg .MOT_STATUS_MOVING 0 0 (by decide))).trans h3
    · exact (congrArg (bit · a) (hg .MOT_STATUS_DIR 0 0 (by decide))).trans h4
    · exact (hg .MOT_SPEED_RATE 0 a (by decide)).trans h5
    · exact (State.axis_of_axes (t := v) (s := u) (by rw [hv]) a).trans h6
    · exact (State.axis_of_axes (t := v) (s := u) (by rw [hv]) b).trans (h7 b hb)
    · exact (State.axPos_congr (hg .MOT_POS_STEPS 0 a (by decide))).trans (State.axPos_congr (h1.get (by decide) 0 a))
    · rw [hv, h2]
  · exact ⟨h1, h3, h4, h5, h6, h7, State.axPos_congr (h1.get (by decide) 0 a), by rw [h2]⟩

/-! ## Axes at work -/

theorem Serves.axis {s t : State} (h : Serves s t) (a : Nat) : t.axis a = s.axis a := State.axis_of_axes h.axes a
theorem Serves.moving {s t : State} (h : Serves s t) (a : Nat) : t.moving' a = s.moving' a := congrArg (bit · a) (h.get (by decide) 0 0)
theorem Serves.phase {s t : State} (h : Serves s t) : t.phase = s.phase := h.get (by decide) 0 0
theorem Serves.mf {s t : State} (h : Serves s t) (a o n : Nat) : t.mf a o n = s.mf a o n := State.mf_congr h.sects a o n
theorem Serves.axPos {s t : State} (h : Serves s t) (a : Nat) : t.axPos a = s.axPos a := State.axPos_congr (h.get (by decide) 0 a)

/-- The first place that an axis can still take a change at rests on its speed, its direction and its place. -/
theorem State.firstAfter_congr {s t : State} {a : Nat} (hx : t.sects = s.sects) (hv : (t.axis a).v2 = (s.axis a).v2)
    (hm : (t.axis a).mode = (s.axis a).mode) (hc : (t.axis a).cruise = (s.axis a).cruise)
    (hr : t.get .MOT_SPEED_RATE 0 a = s.get .MOT_SPEED_RATE 0 a) (hd : t.get .MOT_STATUS_DIR = s.get .MOT_STATUS_DIR)
    (hp : t.get .MOT_POS_STEPS 0 a = s.get .MOT_POS_STEPS 0 a) (hl : t.line.p0 = s.line.p0) : t.firstAfter a = s.firstAfter a := by
  have hmf : ∀ a o n, t.mf a o n = s.mf a o n := State.mf_congr hx
  have hh : t.horizon = s.horizon := by
    unfold State.horizon State.sentAhead State.sf State.sect
    rw [hx]
  have hw : t.stepsWithin a = s.stepsWithin a := by
    unfold State.stepsWithin State.cruise
    rw [hv, hm, hc, hr, hh]
    simp only [hmf]
  unfold State.firstAfter State.forward State.stepsPerLine
  rw [hw, hd, State.axPos_congr hp, hl, hmf]

theorem Serves.firstAfter {s t : State} (h : Serves s t) (a : Nat) : t.firstAfter a = s.firstAfter a :=
  State.firstAfter_congr h.sects (by rw [h.axis]) (by rw [h.axis]) (by rw [h.axis]) (h.get (by decide) 0 a) (h.get (by decide) 0 0)
    (h.get (by decide) 0 a) (by rw [h.line])

/-- A speed given to an axis that ramps down waits. -/
theorem State.setSpeed_waits (s : State) {a : Nat} (h v : Nat) (hm : (s.axis a).mode = 3) (hp : a = 0 → s.phase = 0) :
    ((s.setSpeed a h v).axis a).next = some (h, v) := by
  unfold State.setSpeed
  dsimp only
  rw [if_pos ⟨hm, by split_ifs with ha <;> [rw [hp ha]; skip] <;> decide⟩]
  rw [State.axis_setAxis]

/-- AX0 that a speed is given to does not stay at rest after its backstep. -/
def State.unstay (s : State) (a : Nat) : State := if a = 0 then { s with line := { s.line with stay := false } } else s

theorem State.unstay_frame (s : State) (a : Nat) : s.unstay a = { s with line := { s.line with stay := (s.unstay a).line.stay } } := by
  unfold State.unstay
  split_ifs <;> rfl

/-- A speed given to an axis in no ramp: the operation before it has ended, and the axis aims at it. -/
theorem State.setSpeed_aims (s : State) {a : Nat} (h v : Nat) (hm : (s.axis a).mode ≠ 3) (hp : a = 0 → s.phase = 0) : ∃ w : State,
    (w.axis a = { s.axis a with speedOp := some h, aim := v } ∧ (∀ f i k, f ∉ reportedFlds → w.get f i k = s.get f i k) ∧
      w.sects = s.sects ∧ w.line.p0 = s.line.p0) ∧
    s.setSpeed a h v = if w.moving' a then w.setAxis a { w.axis a with changes := (w.axis a).changes ++ [(w.firstAfter a, v)] }
      else if a ≠ 0 then w.startAxis a true { w.axis a with mode := 2, cruise := v }
      else if w.is .MOT_STATUS_JOB && w.line.fired then w.restart v else w.startOrigin v (w.axis 0) := by
  obtain ⟨u, hu, he⟩ : ∃ u : State, Serves s u ∧
      (match (s.axis a).speedOp with | some o => s.finish o stDone 1 0 | none => s) = u := by
    refine ⟨_, ?_, rfl⟩
    split
    · exact State.finish_serves ..
    · exact Serves.refl _
  refine ⟨(u.setAxis a { s.axis a with speedOp := some h, aim := v }).unstay a, ?_, ?_⟩
  · have hf := (u.setAxis a { s.axis a with speedOp := some h, aim := v }).unstay_frame a
    have hx := u.axis_setAxis a { s.axis a with speedOp := some h, aim := v }
    generalize (u.setAxis a { s.axis a with speedOp := some h, aim := v }).unstay a = w at hf
    rw [hf]
    exact ⟨hx, fun f i k hn => hu.get hn i k, hu.sects, (congrArg Timeline.p0 hu.line :)⟩
  · unfold State.setSpeed
    have hp0 : (if a = 0 then s.phase else 0) = 0 := by
      split_ifs with ha
      · exact hp ha
      · rfl
    dsimp only
    rw [hp0, if_neg (fun e => hm e.1)]
    subst he
    rfl

theorem State.setSpeed_moving (s : State) {a : Nat} (h v : Nat) (hv : s.moving' a = true) (hm : (s.axis a).mode ≠ 3) (hp : a = 0 → s.phase = 0) :
    (s.setSpeed a h v).axis a = { s.axis a with speedOp := some h, aim := v, changes := (s.axis a).changes ++ [(s.firstAfter a, v)] } := by
  obtain ⟨w, ⟨x1, x2, x3, x4⟩, hw⟩ := s.setSpeed_aims h v hm hp
  have hf : w.firstAfter a = s.firstAfter a := State.firstAfter_congr x3 (by rw [x1]) (by rw [x1]) (by rw [x1])
    (x2 _ _ _ (by decide)) (x2 _ _ _ (by decide)) (x2 _ _ _ (by decide)) x4
  have hv' : w.moving' a = true := (congrArg (bit · a) (x2 _ _ _ (by decide))).trans hv
  rw [hw, if_pos hv', State.axis_setAxis, x1, hf]

theorem State.setSpeed_starts (s : State) {a : Nat} (ha : a < 4) (h v : Nat) (hv : s.moving' a = false) (hm : (s.axis a).mode ≠ 3) (h0 : a ≠ 0) :
    (fun t : State => t.moving' a = true ∧ t.forward a = true ∧ (t.axis a).mode = 2 ∧ (t.axis a).cruise = v) (s.setSpeed a h v) := by
  obtain ⟨w, ⟨-, x2, -, -⟩, hw⟩ := s.setSpeed_aims h v hm (fun e => absurd e h0)
  have hv' : w.moving' a = false := (congrArg (bit · a) (x2 _ _ _ (by decide))).trans hv
  rw [if_neg (by simp [hv']), if_pos h0] at hw
  rw [hw]
  obtain ⟨-, h1, h2, -, h3, -, -, -⟩ := w.startAxis_reads ha true { w.axis a with mode := 2, cruise := v }
  exact ⟨h1, h2, congrArg Axis.mode h3, congrArg Axis.cruise h3⟩

/-- MOT_STOP with a ramp. -/
theorem State.motStop_ramps (s : State) {a : Nat} (h : Nat) (hv : s.moving' a = true) (hp : a = 0 → s.phase = 0) :
    ((s.motStop a h 0).axis a).mode = 3 ∧ h ∈ ((s.motStop a h 0).axis a).stopOps := by
  have hx := s.axis_setAxis a { s.axis a with stopOps := (s.axis a).stopOps ++ [h] }
  have hm : (s.setAxis a { s.axis a with stopOps := (s.axis a).stopOps ++ [h] }).moving' a = true := hv
  unfold State.motStop
  dsimp only
  rw [if_neg (by decide)]
  split_ifs with h0 h1
  · obtain ⟨-, -, ⟨m, q, h3, h4⟩, -, -⟩ := (s.setAxis a { s.axis a with stopOps := (s.axis a).stopOps ++ [h] }).rampStop_reads a false
    rw [h3, hx]
    exact ⟨h4 hm, List.mem_append_right _ (List.mem_singleton_self h)⟩
  · obtain rfl := not_not.1 h0
    obtain ⟨-, -, h3, -⟩ := (s.setAxis 0 { s.axis 0 with stopOps := (s.axis 0).stopOps ++ [h] }).webStop_reads
    obtain ⟨q, h3⟩ := h3 hm (hp rfl)
    rw [h3, hx]
    exact ⟨rfl, List.mem_append_right _ (List.mem_singleton_self h)⟩
  · exact absurd ((not_not.1 h0) ▸ hv) h1
  · exact absurd ((not_not.1 h0) ▸ hv) h1

/-- MOT_STOP at once. -/
theorem State.motStop_stops (s : State) {a : Nat} (ha : a < 4) (h : Nat) : (s.motStop a h 1).moving' a = false := by
  unfold State.motStop
  dsimp only
  rw [if_pos rfl]
  split_ifs with h1
  · exact (State.hardStop_moves _ ha stDone).2.1
  · rw [(State.done_serves ..).moving]
    simp only [Bool.or_eq_true, not_or] at h1
    simpa using h1.1

/-- What a hard stop of each axis of `m` leaves. -/
theorem State.hardStops_reads (s : State) (p : State → Nat → Bool) (hp : ∀ t : State, t.sects = s.sects → p t = p s) (n : Nat) (hn : n ≤ 4) :
    (fun t : State => Moves hardFlds s t ∧ ∀ b, b < 4 → (b < n → p s b = true → t.moving' b = false) ∧ (n ≤ b → t.moving' b = s.moving' b))
      (s.each n (fun s a => if p s a then s.hardStop a else s)) := by
  unfold State.each
  induction n with
  | zero => exact ⟨Moves.refl _ s, fun b _ => ⟨fun h => absurd h (Nat.not_lt_zero b), fun _ => rfl⟩⟩
  | succ n ih =>
    rw [List.range_succ, List.foldl_append, List.foldl_cons, List.foldl_nil]
    obtain ⟨h1, h2⟩ := ih (by omega)
    generalize (List.range n).foldl _ s = u at h1 h2 ⊢
    rw [hp u h1.sects]
    split_ifs with hb
    · obtain ⟨w1, w2, w3, -, -⟩ := u.hardStop_moves (a := n) (by omega) stDone
      refine ⟨h1.trans w1, fun b hb4 => ⟨fun hlt hp => ?_, fun hle => (w3 b hb4 (by omega)).trans ((h2 b hb4).2 (by omega))⟩⟩
      by_cases hbn : b = n
      · exact hbn ▸ w2
      · exact (w3 b hb4 hbn).trans ((h2 b hb4).1 (by omega) hp)
    · refine ⟨h1, fun b hb4 => ⟨fun hlt hp => ?_, fun hle => (h2 b hb4).2 (by omega)⟩⟩
      exact (h2 b hb4).1 (by have : b ≠ n := fun e => hb (e ▸ hp); omega) hp

/-- A step of an axis, without what AX0 shows of it. -/
def State.stepped (s : State) (a r : Nat) : State :=
  let x := s.axis a
  let w := s.speedAt a 1
  let s := s.seti .MOT_POS_STEPS (s.axPos a + if s.forward a then 1 else -1) 0 a
  let s := (s.set .MOT_SPEED_RATE r 0 a).out (.pin "AX_STEP_N" a (s.mf a 0x2C 2))
  let past := x.changes.filter (fun e => decide (s.ahead a e.1 ≤ 0))
  let s := s.setAxis a { x with v2 := w, cruise := ((past.getLast?).map Prod.snd).getD x.cruise, changes := x.changes.filter (fun e => decide (0 < s.ahead a e.1)) }
  if a = 0 then s.drShow else s

/-- What a step shows and leaves. -/
structure Stepping (s : State) (a r : Nat) (t : State) : Prop where
  pos : t.get .MOT_POS_STEPS 0 a = ofSigned Fld.MOT_POS_STEPS.desc.width (s.axPos a + if s.forward a then 1 else -1)
  rate : t.get .MOT_SPEED_RATE 0 a = r % 2 ^ Fld.MOT_SPEED_RATE.desc.width
  speed : (t.axis a).v2 = s.speedAt a 1
  pin : .pin "AX_STEP_N" a (s.mf a 0x2C 2) ∈ t.outbox
  others : ∀ b, b ≠ a → t.axPos b = s.axPos b ∧ t.axis b = s.axis b
  frame : t = { s with regs := t.regs, axes := t.axes, outbox := t.outbox }

theorem State.stepped_reads (s : State) (a r : Nat) : Stepping s a r (s.stepped a r) := by
  unfold State.stepped
  extract_lets x w s1 s2 past s3
  have h3 : Stepping s a r s3 := by
    refine ⟨?_, State.get_set_same .., congrArg Axis.v2 (State.axis_setAxis ..), List.mem_cons_self .., fun b hb => ⟨?_, State.axis_setAxis_ne _ _ hb⟩, rfl⟩
    · exact ((s1.get_set_fld (f := .MOT_SPEED_RATE) (g := .MOT_POS_STEPS) (by decide) r 0 a 0 a)).trans (State.get_seti_same ..)
    · refine State.axPos_congr ((s1.get_set_fld (f := .MOT_SPEED_RATE) (g := .MOT_POS_STEPS) (by decide) r 0 a 0 b).trans ?_)
      exact State.get_set_ne _ _ _ _ (.inr (.inr hb))
  clear_value s3
  split_ifs
  · have hd := s3.drShow_moves
    have hf := s3.drShow_frame
    generalize s3.drShow = t at hd hf
    have hx : t.axes = s3.axes := by rw [hf]
    have hr := h3.frame
    exact
      { pos := (hd.get (by decide) 0 a).trans h3.pos
        rate := (hd.get (by decide) 0 a).trans h3.rate
        speed := (congrArg Axis.v2 (State.axis_of_axes hx a)).trans h3.speed
        pin := by rw [hf]; exact h3.pin
        others := fun b hb => ⟨(State.axPos_congr (hd.get (by decide) 0 b)).trans (h3.others b hb).1, (State.axis_of_axes hx b).trans (h3.others b hb).2⟩
        frame := by rw [hf, hr] }
  · exact h3

/-- A limit input taken in. -/
def State.limitSeen (s : State) (a : Nat) (fwd on : Bool) : State :=
  if fwd then s.putB .MOT_INPUTS_LIMB a on else s.putB .MOT_INPUTS_LIMA a on

theorem State.limitSeen_reads (s : State) {a : Nat} (ha : a < 4) (fwd on : Bool) : (fun t : State =>
      bit (t.get (if fwd then .MOT_INPUTS_LIMB else .MOT_INPUTS_LIMA)) a = on ∧ Moves [.MOT_INPUTS_LIMA, .MOT_INPUTS_LIMB] s t) (s.limitSeen a fwd on) := by
  unfold State.limitSeen
  cases fwd with
  | false => exact ⟨s.bit_putB .MOT_INPUTS_LIMA on 0 0 (b := a) ha, (Moves.refl [.MOT_INPUTS_LIMA, .MOT_INPUTS_LIMB] s).putB (by decide) ..⟩
  | true => exact ⟨s.bit_putB .MOT_INPUTS_LIMB on 0 0 (b := a) ha, (Moves.refl [.MOT_INPUTS_LIMA, .MOT_INPUTS_LIMB] s).putB (by decide) ..⟩

/-- What a limit input does to an axis that moves against it. -/
def State.limitActs (s : State) (a : Nat) (fwd : Bool) : State :=
  let act := if fwd then s.mf a 0x2B 1 else s.mf a 0x2A 1
  let s := s.putB .MOT_INPUTS_LATCH (if fwd then a + 4 else a) true
  if act = 1 then s.hardStop a else (s.plainStop a).putB .MOT_STATUS_HELD a true

/-- The fields of an axis that a limit input stops. -/
def limitFlds : List Fld := .MOT_INPUTS_LATCH :: hardFlds

theorem State.limitStops_reads (s : State) {a : Nat} (ha : a < 4) (hm : s.moving' a = true) : (fun t : State => Moves limitFlds s t ∧
      bit (t.get .MOT_STATUS_HELD) a = true ∧ t.get .MOT_INPUTS_LATCH = s.get .MOT_INPUTS_LATCH ∧ t.moving' a = false) (s.hardStop a) := by
  obtain ⟨r1, r2, r3, -⟩ := s.hardStop_reads ha stDone (.inl hm)
  exact ⟨r1.mono (List.subset_cons_self ..), r3, r1.get (by decide) 0 0, (r2 a ha).trans (if_pos rfl)⟩

theorem State.limitRamps_reads (s : State) {a : Nat} (ha : a < 4) (hm : s.moving' a = true) : (fun t : State => Moves limitFlds s t ∧
      bit (t.get .MOT_STATUS_HELD) a = true ∧ t.get .MOT_INPUTS_LATCH = s.get .MOT_INPUTS_LATCH ∧ t.moving' a = true ∧ (t.axis a).mode = 3)
    ((s.plainStop a).putB .MOT_STATUS_HELD a true) := by
  obtain ⟨r1, -, r3, -⟩ := s.plainStop_reads a
  generalize s.plainStop a = u at *
  refine ⟨(r1.mono (by decide)).putB (by decide) .., u.bit_putB .MOT_STATUS_HELD true 0 0 (b := a) ha, ?_, ?_, r3 hm⟩
  · exact (u.get_set_fld (f := .MOT_STATUS_HELD) (g := .MOT_INPUTS_LATCH) (by decide) _ 0 0 0 0).trans (r1.get (by decide) 0 0)
  · refine (congrArg (bit · a) ?_).trans hm
    exact (u.get_set_fld (f := .MOT_STATUS_HELD) (g := .MOT_STATUS_MOVING) (by decide) _ 0 0 0 0).trans (r1.get (by decide) 0 0)

theorem State.limitActs_reads (s : State) {a : Nat} (ha : a < 4) (fwd : Bool) (hm : s.moving' a = true) : (fun t : State => Moves limitFlds s t ∧
      bit (t.get .MOT_STATUS_HELD) a = true ∧ bit (t.get .MOT_INPUTS_LATCH) (if fwd then a + 4 else a) = true ∧
      ((if fwd then s.mf a 0x2B 1 else s.mf a 0x2A 1) = 1 → t.moving' a = false) ∧
      ((if fwd then s.mf a 0x2B 1 else s.mf a 0x2A 1) ≠ 1 → t.moving' a = true ∧ (t.axis a).mode = 3)) (s.limitActs a fwd) := by
  unfold State.limitActs
  extract_lets act s1
  have h1 : Moves limitFlds s s1 := (Moves.refl limitFlds s).putB (List.mem_cons_self ..) ..
  have hb : (if fwd then a + 4 else a) < 8 := by split_ifs <;> omega
  have hl : bit (s1.get .MOT_INPUTS_LATCH) (if fwd then a + 4 else a) = true := s.bit_putB .MOT_INPUTS_LATCH true 0 0 hb
  have hm1 : s1.moving' a = true := (congrArg (bit · a) (s.get_set_fld (f := .MOT_INPUTS_LATCH) (g := .MOT_STATUS_MOVING) (by decide) _ 0 0 0 0)).trans hm
  clear_value s1
  by_cases h : act = 1
  · rw [if_pos h]
    obtain ⟨r1, r2, r3, r4⟩ := s1.limitStops_reads ha hm1
    exact ⟨h1.trans r1, r2, (congrArg (bit · _) r3).trans hl, fun _ => r4, fun hn => absurd h hn⟩
  · rw [if_neg h]
    obtain ⟨r1, r2, r3, r4⟩ := s1.limitRamps_reads ha hm1
    exact ⟨h1.trans r1, r2, (congrArg (bit · _) r3).trans hl, fun hn => absurd hn h, fun _ => r4⟩

theorem exec_limitInput (s : State) {a : Nat} (ha : a < 4) (fwd on : Bool) : exec (.limitInput a fwd on) s =
    .next (let t := s.limitSeen a fwd on
      if on && t.moving' a && t.forward a == fwd && (if fwd then t.mf a 0x2B 1 else t.mf a 0x2A 1) != 0 then t.limitActs a fwd else t) :=
  exec_when (i := .limitInput a fwd on) (s := s) rfl (decide_eq_true ha)

/-- A limit input that an axis moves against, with an action. -/
theorem exec_limitInput_acts (s : State) {a : Nat} (ha : a < 4) (fwd : Bool) (hm : s.moving' a = true) (hd : s.forward a = fwd)
    (h0 : (if fwd then s.mf a 0x2B 1 else s.mf a 0x2A 1) ≠ 0) : Runs (.limitInput a fwd true) s (fun t =>
      bit (t.get .MOT_STATUS_HELD) a = true ∧ bit (t.get .MOT_INPUTS_LATCH) (if fwd then a + 4 else a) = true ∧
      ((if fwd then s.mf a 0x2B 1 else s.mf a 0x2A 1) = 1 → t.moving' a = false) ∧
      ((if fwd then s.mf a 0x2B 1 else s.mf a 0x2A 1) ≠ 1 → t.moving' a = true ∧ (t.axis a).mode = 3)) := by
  have he := exec_limitInput s ha fwd true
  obtain ⟨-, h1⟩ := s.limitSeen_reads ha fwd true
  generalize s.limitSeen a fwd true = u at h1 he
  have hm' : u.moving' a = true := (congrArg (bit · a) (h1.get (by decide) 0 0)).trans hm
  have hd' : u.forward a = fwd := (congrArg (bit · a) (h1.get (by decide) 0 0)).trans hd
  have hmf : ∀ o n, u.mf a o n = s.mf a o n := State.mf_congr h1.sects a
  obtain ⟨-, r2, r3, r4, r5⟩ := u.limitActs_reads ha fwd hm'
  rw [hmf, hmf] at r4 r5
  dsimp only at he
  rw [hmf, hmf, if_pos (by simp only [hm', hd', Bool.true_and, beq_self_eq_true, bne_iff_ne]; exact h0)] at he
  exact ⟨_, he, r2, r3, r4, r5⟩

/-- The splice seen. -/
def State.spliced (s : State) : State :=
  (((s.set .MOT_INPUTS_SPLICE 1).on .MOT_INPUTS_SPLICE_SEEN).set .MOT_SPLICE_LINE_LINE ((s.set .MOT_INPUTS_SPLICE 1).get .FIRE_LINE_LINE)).telEvent 0x0003 0

theorem exec_splice {s : State} (h : s.is .MOT_INPUTS_SPLICE = false) : exec (.splice true) s =
    .next (if s.spliced.sf 0x0050 0 1 1 = 1 then s.spliced.webStop else s.spliced) := by
  change execSplice true s = _
  unfold execSplice State.spliced
  dsimp only
  rw [if_pos (by simp [h])]
  rfl

theorem State.spliced_reads (s : State) : (fun t : State => t.is .MOT_INPUTS_SPLICE = true ∧ t.is .MOT_INPUTS_SPLICE_SEEN = true ∧
      t.get .MOT_SPLICE_LINE_LINE = s.get .FIRE_LINE_LINE % 2 ^ Fld.MOT_SPLICE_LINE_LINE.desc.width ∧ t.axes = s.axes ∧ t.sects = s.sects)
    s.spliced := by
  unfold State.spliced
  have hr := State.telEvent_reports (((s.set .MOT_INPUTS_SPLICE 1).on .MOT_INPUTS_SPLICE_SEEN).set .MOT_SPLICE_LINE_LINE
    ((s.set .MOT_INPUTS_SPLICE 1).get .FIRE_LINE_LINE)) 0x0003 0
  have hf := hr.frame
  have ht := hr.touches
  unfold ReportFrame at hf
  generalize State.telEvent _ _ _ = t at hf ht
  refine ⟨?_, ?_, (ht _ _ _ (by decide)).trans ?_, by rw [hf]; rfl, by rw [hf]; rfl⟩
  · unfold State.is
    rw [ht _ _ _ (by decide)]
    simp [table_form, motWidths]
  · unfold State.is
    rw [ht _ _ _ (by decide)]
    simp [table_form, motWidths]
  · simp [table_form]

/-- Settles O44: it holds. What starts, stops and rests of an axis is read off the operations of the motion layer. -/
theorem axes : Obligations.Axes := by
  unfold Obligations.Axes
  refine ⟨?move, ?speed, ?stop, ?step, ?rest, ?other, ?cruise, ?limit, ?limitHard, ?limitRamp, ?broken, ?whole, ?splice, ?jobEnd⟩
  case move =>
    intro s d a h v hacc ha hv hr hb hn hd hf hm hl h0 hh
    have hi : exec (.motMove d) s = execMotMove d s := rfl
    unfold execMotMove at hi
    dsimp only at hi
    rw [← ha, ← hv] at hi
    have ha4 : a < 4 := by
      unfold State.motRange at hr
      simp only [Bool.and_eq_true, decide_eq_true_eq, ← ha] at hr
      omega
    have he := exec_long hi hacc rfl rfl rfl (by exact hf) (by simpa using hn) (by simp [hr, hb]) (by simpa using hd) (by
      rw [if_neg]
      by_cases hz : a = 0
      · obtain ⟨z1, z2, z3, z4⟩ := h0 hz
        simp [hm, hl, z1, z2, z3, z4]
      · simp [hm, hl, hz])
    rw [← hh] at he
    have hs := s.startedLong_serves d 0x0401
    generalize (s.startedLong d 0x0401).2 = u at he hs
    obtain ⟨-, m1, m2, m3, m4, m5, m6, -⟩ := u.startAxis_reads ha4 (decide (0 < toSigned 64 (d.p 0x18 8)))
      { u.axis a with mode := 1, target := u.axPos a + toSigned 64 (d.p 0x18 8) * (u.mf a 0 4 : Nat), stopAt := some (u.axPos a + toSigned 64 (d.p 0x18 8) * (u.mf a 0 4 : Nat)), cruise := v * u.mf a 0 4, aim := v * u.mf a 0 4, moveOp := some h }
    refine ⟨_, he, m1, m2, ?_, m6.trans (hs.axPos a), ?_, fun b hb => (m5 b hb).trans (hs.axis b)⟩
    · refine m4.trans ?_
      rw [hs.axis, hs.axPos, hs.mf, hs.mf]
      rfl
    · rw [m3, hs.mf]
  case speed =>
    intro s d a h v hacc ha hv hr hb hn hf hl h0 hh
    have hi : exec (.motSpeed d) s = execMotSpeed d s := rfl
    unfold execMotSpeed at hi
    dsimp only at hi
    rw [← ha, ← hv] at hi
    have ha4 : a < 4 := by
      unfold State.motRange at hr
      simp only [Bool.and_eq_true, decide_eq_true_eq, ← ha] at hr
      omega
    have he := exec_long hi hacc rfl rfl rfl (by exact hf) (by simpa using hn) (by simp [hr, hb]) rfl (by
      rw [if_neg]
      have hml : (!s.moving' a && s.limitOn a true) = false := by rcases hl with hl | hl <;> simp [hl]
      by_cases hz : a = 0
      · obtain ⟨z1, z2⟩ := h0 hz
        simp [hml, z1, z2]
      · simp [hml, hz])
    rw [← hh] at he
    have hs := s.startedLong_serves d 0x0402
    generalize (s.startedLong d 0x0402).2 = u at he hs ⊢
    rw [hs.mf] at he
    refine ⟨_, he, rfl, fun hv hm hp => ?_, fun hv hm hp => ?_, fun hv hz hm => ?_⟩
    · rw [u.setSpeed_moving h _ ((hs.moving a).trans hv) (by rw [hs.axis]; exact hm) (fun e => hs.phase.trans (hp e)), hs.axis, hs.firstAfter]
    · exact u.setSpeed_waits h _ (by rw [hs.axis]; exact hm) (fun e => hs.phase.trans (hp e))
    · exact u.setSpeed_starts ha4 h _ ((hs.moving a).trans hv) (by rw [hs.axis]; exact hm) hz
  case stop =>
    intro s d a h hacc ha ha3 hd hu hf h0 hh
    have hi : exec (.motStop d) s = execMotStop d s := rfl
    unfold execMotStop at hi
    dsimp only at hi
    rw [← ha] at hi
    have he := exec_long hi hacc rfl rfl rfl (by exact hf) rfl (by simp [ha3, hd, hu]) rfl (by
      rw [if_neg]
      by_cases hz : a = 0
      · simp [h0 hz]
      · simp [hz])
    rw [← hh] at he
    have hs := s.startedLong_serves d 0x0403
    generalize (s.startedLong d 0x0403).2 = u at he hs ⊢
    refine ⟨_, he, rfl, fun h1 => ?_, fun h1 hv hp => ?_⟩
    · rw [h1]
      exact u.motStop_stops (by omega) h
    · rw [h1]
      exact u.motStop_ramps h ((hs.moving a).trans hv) (fun e => hs.phase.trans (hp e))
  case step =>
    intro s a r ha hm hst hdr hck h1 h2
    have he := exec_when (i := .stepIssue a r) (s := s) rfl (by
      by_cases hz : a = 0
      · simp [ha, hm, hst, hdr hz, hck, h1, h2]
      · simp [ha, hm, hst, hz, hck, h1, h2])
    obtain ⟨w1, w2, w3, w4, w5, w6⟩ := s.stepped_reads a r
    exact ⟨_, he, w1, w2, w3, w4, w5, w6⟩
  case rest =>
    intro s a ha hm hmode hst hn h0
    have hi : exec (.axisAtRest a) s = execAxisAtRest a s := rfl
    unfold execAxisAtRest at hi
    dsimp only at hi
    rw [if_neg (fun e => by obtain ⟨z1, -⟩ := h0 e.1; simp [z1] at e), if_neg (by
      by_cases hz : a = 0
      · rcases hmode with h | h <;> simp [ha, hm, h, hst, (h0 hz).2]
      · rcases hmode with h | h <;> simp [ha, hm, h, hst, hz]), hn] at hi
    refine ⟨_, hi, ?_⟩
    obtain ⟨r1, -, r3, r4, r5, -, -⟩ := s.restAxis_reads a
    obtain ⟨o1, o2, -⟩ := (s.restAxis a).restOps_reads a (s.axPos a != (s.axis a).target) stDone
    generalize s.restAxis a = v at *
    generalize State.restOps v a _ _ = u at *
    have hr : ∀ t : State, Moves [.FIRE_STATUS_RUNNING, .MOT_STATUS_JOB] u t → t.axes = u.axes → t.moving' a = false ∧ t.get .MOT_SPEED_RATE 0 a = 0 ∧
        t.axPos a = s.axPos a ∧ (t.axis a).moveOp = none ∧ (t.axis a).speedOp = none ∧ (t.axis a).stopOps = [] ∧ (t.axis a).mode = 0 := fun t ht hx => by
      rw [State.axis_of_axes hx, o2, r5]
      refine ⟨?_, (ht.get (by decide) 0 a).trans ((o1.get (by decide) 0 a).trans r4), ?_, rfl, rfl, rfl, rfl⟩
      · exact (congrArg (bit · a) ((ht.get (by decide) 0 0).trans (o1.get (by decide) 0 0))).trans ((r3 a ha).trans (if_pos rfl))
      · exact State.axPos_congr ((ht.get (by decide) 0 a).trans ((o1.get (by decide) 0 a).trans (r1.get (by decide) 0 a)))
    split_ifs
    · have hoff : Moves [.FIRE_STATUS_RUNNING, .MOT_STATUS_JOB] u (u.off .FIRE_STATUS_RUNNING) := (Moves.refl _ u).set (by decide) ..
      obtain ⟨c1, c2, -⟩ := (u.off .FIRE_STATUS_RUNNING).closeJob_reads
      exact hr _ (hoff.trans (c1.mono (by decide))) c2
    · exact hr _ (Moves.refl _ u) rfl
  case other =>
    intro s ho
    have hi : exec (.axisAtRest 0) s = execAxisAtRest 0 s := rfl
    unfold execAxisAtRest at hi
    dsimp only at hi
    rw [if_pos ⟨rfl, by rw [ho]; rfl⟩] at hi
    obtain ⟨h1, h2, -⟩ := (s.off .FIRE_STATUS_RUNNING).closeJob_reads
    exact ⟨_, hi, rfl, (h1.is (by decide) 0 0).trans (by simp [table_form, motWidths]), h2⟩
  case cruise =>
    intro s a h ho hm hc hv hp
    have hi : exec (.cruiseReached a) s = execCruiseReached a s := rfl
    unfold execCruiseReached at hi
    dsimp only at hi
    rw [ho] at hi
    dsimp only at hi
    rw [State.when_of _ _ (by
      by_cases hz : a = 0
      · rcases hm with hm | hm <;> simp [hm, hc, hv, hp hz]
      · rcases hm with hm | hm <;> simp [hm, hc, hv, hz])] at hi
    exact ⟨_, hi, rfl⟩
  case limit =>
    intro s a fwd on ha
    refine ⟨_, exec_limitInput s ha fwd on, ?_⟩
    obtain ⟨h1, -⟩ := s.limitSeen_reads ha fwd on
    generalize s.limitSeen a fwd on = u at h1 ⊢
    generalize hv : (if fwd then u.mf a 0x2B 1 else u.mf a 0x2A 1) = v
    dsimp only
    rw [hv]
    by_cases h2 : (on && u.moving' a && u.forward a == fwd && v != 0) = true
    · rw [if_pos h2]
      have hm : u.moving' a = true := by
        simp only [Bool.and_eq_true] at h2
        exact h2.1.1.2
      obtain ⟨r1, -⟩ := u.limitActs_reads ha fwd hm
      rw [r1.get (by cases fwd <;> decide)]
      exact h1
    · rw [if_neg h2]
      exact h1
  case limitHard =>
    intro s a fwd ha hm hd h1
    obtain ⟨t, he, r2, r3, r4, -⟩ := exec_limitInput_acts s ha fwd hm hd (by omega)
    exact ⟨t, he, r4 h1, r2, r3⟩
  case limitRamp =>
    intro s a fwd ha hm hd h2
    obtain ⟨t, he, r2, r3, -, r5⟩ := exec_limitInput_acts s ha fwd hm hd (by omega)
    obtain ⟨r6, r7⟩ := r5 (by omega)
    exact ⟨t, he, r6, r7, r2, r3⟩
  case broken =>
    intro s hb
    have hi : exec (.webBreak true) s = execWebBreak true s := rfl
    unfold execWebBreak at hi
    dsimp only at hi
    rw [if_pos (by simp [hb])] at hi
    have hr := ((s.set .MOT_INPUTS_BREAK (b2n true)).on .MOT_INPUTS_BREAK_SEEN).hardStops_reads (fun s a => bit (s.sf 0x0050 0 2 1) a)
      (fun t ht => by unfold State.sf State.sect; rw [ht]) 4 le_rfl
    obtain ⟨h1, h2⟩ := hr
    refine ⟨_, hi, (h1.is (by decide) 0 0).trans (by simp [table_form, motWidths]), (h1.is (by decide) 0 0).trans (by simp [table_form, motWidths]), fun a ha hb => ?_⟩
    exact (h2 a ha).1 ha hb
  case whole =>
    intro s
    have hi : exec (.webBreak false) s = execWebBreak false s := rfl
    unfold execWebBreak at hi
    exact ⟨_, hi, onlyRegs_set .., by simp [table_form, b2n]⟩
  case splice =>
    intro s hb
    have hi := exec_splice hb
    obtain ⟨h1, h2, h3, h4, h5⟩ := s.spliced_reads
    have hsf : s.spliced.sf 0x0050 0 1 1 = s.sf 0x0050 0 1 1 := by
      unfold State.sf State.sect
      rw [h5]
    rw [hsf] at hi
    generalize s.spliced = u at *
    refine ⟨_, hi, ?_⟩
    split_ifs with hx
    · obtain ⟨w1, -⟩ := u.webStop_reads
      exact ⟨(w1.is (by decide) 0 0).trans h1, (w1.is (by decide) 0 0).trans h2, (w1.get (by decide) 0 0).trans h3, fun h => absurd hx h⟩
    · exact ⟨h1, h2, h3, fun _ => h4⟩
  case jobEnd =>
    intro s n hj ho hm hf hl hx hp hd
    have hi : exec .jobEndStop s = execJobEndStop s := rfl
    unfold execJobEndStop at hi
    rw [hj] at hi
    dsimp only at hi
    rw [State.when_of _ _ (by simp [ho, hm, hf, hl, hx, hp, hd])] at hi
    obtain ⟨-, -, ⟨m, q, h3, h4⟩, -⟩ := s.planLast_reads n
    exact ⟨_, hi, rfl, (congrArg Axis.mode h3).trans (h4 hm)⟩

end Sys2Proof.Machine
end

section
/-! PROOF. The backstep, encoder faults and dead reckoning. -/

namespace Sys2Proof.Machine

-- One lemma after the other: elaborated side by side, they ask for more threads than the compile may have.
set_option Elab.async false

/-! ## The backstep, encoder faults and dead reckoning -/

/-- Widths of fields. -/
theorem stepWidths : Fld.ENC_STATUS_DR.desc.width = 1 ∧ Fld.FIRE_STATUS_SLAVED.desc.width = 1 ∧ Fld.MOT_STATUS_RESUME_FAIL.desc.width = 1 ∧
    Fld.ENC_EVENT_DR_LIMIT.desc.width = 1 ∧ Fld.ENC_STATUS_VALID.desc.width = 4 ∧ Fld.ENC_EVENT_FAULT_SEEN.desc.width = 4 ∧
    Fld.ENC_EVENT_RECOVERED.desc.width = 4 := ⟨rfl, rfl, rfl, rfl, rfl, rfl, rfl⟩

/-! ### Line events -/

/-- From `s` to `t` a line event is sent: neither the press line nor a channel changes, and nothing that was sent is taken back. -/
structure Sends (s t : State) : Prop where
  line : t.line = s.line
  chans : t.chans = s.chans
  hostMem : t.hostMem = s.hostMem
  sent : ∀ o ∈ s.outbox, o ∈ t.outbox
  stop : t.get .MOT_STOPDIST_LINES = s.get .MOT_STOPDIST_LINES

namespace Sends

variable {s t u : State}

theorem refl (s : State) : Sends s s := ⟨rfl, rfl, rfl, fun _ h => h, rfl⟩

theorem trans (h : Sends s t) (h' : Sends t u) : Sends s u :=
  ⟨h'.line.trans h.line, h'.chans.trans h.chans, h'.hostMem.trans h.hostMem, fun o ho => h'.sent o (h.sent o ho), h'.stop.trans h.stop⟩

theorem set (h : Sends s t) {f : Fld} (hf : .MOT_STOPDIST_LINES ≠ f) (v i k : Nat) : Sends s (t.set f v i k) :=
  h.trans ⟨rfl, rfl, rfl, fun _ h => h, State.get_set_fld _ hf ..⟩

theorem out (h : Sends s t) (o : Out) : Sends s (t.out o) := h.trans ⟨rfl, rfl, rfl, fun _ h => List.mem_cons_of_mem _ h, rfl⟩

theorem seq (h : Sends s t) (q : Seq) : Sends s { t with seq := q } := h.trans ⟨rfl, rfl, rfl, fun _ h => h, rfl⟩

end Sends

theorem State.recordCoverage_keeps_sent (s : State) (i m c : Nat) : ∀ o ∈ s.outbox, o ∈ (s.recordCoverage i m c).outbox := by
  unfold State.recordCoverage
  extract_lets s1 s2
  have h2 : ∀ o ∈ s.outbox, o ∈ s2.outbox := (s1.bump .BAR_COV_EVENTS_COUNT).vector_keeps_sent _ _
  split_ifs
  · exact fun o ho => List.mem_cons_of_mem _ (h2 o ho)
  · exact h2

theorem State.noteCoverage_sends (s : State) : Sends s s.noteCoverage := by
  have hf := s.noteCoverage_frame
  refine ⟨by rw [hf], by rw [hf], by rw [hf], ?_, s.noteCoverage_reports.touches _ _ _ (by decide)⟩
  unfold State.noteCoverage
  dsimp only
  split_ifs
  · exact fun _ h => h
  · exact fun o ho => State.recordCoverage_keeps_sent _ _ _ _ o ho
  · exact fun o ho => List.mem_cons_of_mem _ ho

theorem State.withhold_sends (s : State) : Sends s s.withhold := by
  unfold State.withhold
  have h : Sends s (((s.on .FIRE_STATUS_WITHHELD).on .BAR_HOLD_RESYNC).bump .BAR_RESYNC_COUNT) :=
    (((Sends.refl s).set (by decide) ..).set (by decide) ..).set (by decide) ..
  exact h.trans (State.noteCoverage_sends _)

theorem State.lineFrame_sends (s : State) (n r : Nat) : Sends s (s.lineFrame n r) := by
  have h1 : Sends s (if s.is .ENC_STATUS_DR then s.bump .ENC_DR_LINES else s) := by
    split_ifs
    · exact (Sends.refl s).set (by decide) ..
    · exact Sends.refl s
  unfold State.lineFrame
  extract_lets s1 q k y
  have h1' : Sends s s1 := h1
  split_ifs
  · exact h1'.seq _
  · exact (h1'.seq _).trans (State.withhold_sends _)

theorem State.busTake_sends (s : State) (f r : Nat) : Sends s (s.busTake f r) := by
  unfold State.busTake
  dsimp only
  rw [State.offer_frame]
  have h : Sends s (s.bump .SG_BUS_RX) := (Sends.refl s).set (by decide) ..
  exact h.trans ⟨rfl, rfl, rfl, fun _ h => h, rfl⟩

theorem State.busSend_sends (s : State) (r : Nat) : Sends s (s.busSend r) := by
  unfold State.busSend
  refine List.foldlRecOn _ _ (motive := fun u => Sends s u) ⟨rfl, rfl, rfl, fun _ h => h, rfl⟩ fun u hu k _ => ?_
  dsimp only
  split
  · exact hu.set (by decide) ..
  · split_ifs
    · exact hu.set (by decide) ..
    · exact (hu.out _).trans (State.busTake_sends ..)

/-! ### The press line in a backstep -/

theorem State.axis_set (s : State) (f : Fld) (v i k a : Nat) : (s.set f v i k).axis a = s.axis a := rfl

theorem Moves.phase {fs : List Fld} {s t : State} (h : Moves fs s t) (hf : .MOT_STATUS_BS_PHASE ∉ fs ++ reportedFlds) : t.phase = s.phase := h.get hf 0 0

theorem State.phase_set (s : State) {n : Nat} (hn : n < 8) : (s.set .MOT_STATUS_BS_PHASE n).phase = n :=
  State.get_set_fits _ 0 0 (Nat.mod_eq_of_lt hn)

theorem State.moving_set (s : State) {f : Fld} (hf : .MOT_STATUS_MOVING ≠ f) (v i k a : Nat) : (s.set f v i k).moving' a = s.moving' a :=
  congrArg (bit · a) (State.get_set_fld _ hf ..)

theorem Moves.moving {fs : List Fld} {s t : State} (h : Moves fs s t) (hf : .MOT_STATUS_MOVING ∉ fs ++ reportedFlds) (a : Nat) : t.moving' a = s.moving' a :=
  congrArg (bit · a) (h.get hf 0 0)

theorem Moves.axPos {fs : List Fld} {s t : State} (h : Moves fs s t) (hf : .MOT_POS_STEPS ∉ fs ++ reportedFlds) (a : Nat) : t.axPos a = s.axPos a :=
  State.axPos_congr (h.get hf 0 a)

theorem State.stopsDone_serves (s : State) : Serves (s.setAxis 0 { s.axis 0 with stopOps := [] }) s.stopsDone := by
  unfold State.stopsDone
  exact List.foldlRecOn (s.axis 0).stopOps _ (Serves.refl _) fun u hu h _ => hu.trans (State.finish_serves ..)

theorem State.stopsDone_reads (s : State) : (fun t : State => Moves [] s t ∧ (t.axis 0).stopOps = [] ∧ t.line = s.line) s.stopsDone := by
  have h := s.stopsDone_serves
  refine ⟨((Moves.refl _ s).setAxis ..).serves h, ?_, h.line.trans rfl⟩
  rw [h.axis, State.axis_setAxis]

/-- The web held where it stands. -/
theorem State.holdWeb_reads (s : State) : (fun t : State => Moves (.MOT_STATUS_HELD :: .MOT_STATUS_BS_PHASE :: restFlds) s t ∧ t.phase = 0 ∧
      t.moving' 0 = false ∧ t.line = s.line.rested) s.holdWeb := by
  unfold State.holdWeb
  obtain ⟨r1, -, r3, -, -, -, r7⟩ := s.restAxis_reads 0
  generalize s.restAxis 0 = u at r1 r3 r7 ⊢
  have h1 : Moves (.MOT_STATUS_HELD :: .MOT_STATUS_BS_PHASE :: restFlds) s ((u.putB .MOT_STATUS_HELD 0 true).set .MOT_STATUS_BS_PHASE 0) :=
    ((r1.mono (by decide)).putB (by decide) ..).set (by decide) ..
  have hp : ((u.putB .MOT_STATUS_HELD 0 true).set .MOT_STATUS_BS_PHASE 0).phase = 0 := State.phase_set _ (by decide)
  have hm : ((u.putB .MOT_STATUS_HELD 0 true).set .MOT_STATUS_BS_PHASE 0).moving' 0 = false :=
    (State.moving_set _ (by decide) ..).trans ((State.moving_set _ (by decide) ..).trans (r3 0 (by decide)))
  have hl : ((u.putB .MOT_STATUS_HELD 0 true).set .MOT_STATUS_BS_PHASE 0).line = s.line.rested := r7
  generalize (u.putB .MOT_STATUS_HELD 0 true).set .MOT_STATUS_BS_PHASE 0 = v at *
  obtain ⟨o1, -, -, o4, -, -⟩ := v.restOps_reads 0 true stDone
  exact ⟨h1.trans (o1.mono (by simp)), (o1.phase (by decide)).trans hp, (o1.moving (by decide) 0).trans hm, o4.trans hl⟩

/-- The fields of the web that sets out for the start of its run-up. -/
def outFlds : List Fld := .MOT_BS_DIST_STEPS :: .MOT_STATUS_BS_PHASE :: startFlds

/-- How the web sets out. -/
structure SetsOut (s : State) (rev : Int) (t : State) : Prop where
  moves : Moves outFlds s t
  place : t.line.pRev = rev
  stop : t.line.pStop = s.line.pStop
  assisted : t.line.assisted = s.line.assisted
  there : rev = s.axPos 0 → t.phase = 4 ∧ t.moving' 0 = false ∧ (t.axis 0).stopOps = []
  held : rev ≠ s.axPos 0 → s.limitOn 0 (decide (s.axPos 0 < rev)) = true → t.phase = 0 ∧ t.moving' 0 = false
  goes : rev ≠ s.axPos 0 → s.limitOn 0 (decide (s.axPos 0 < rev)) = false → t.phase = 3 ∧ t.moving' 0 = true

/-- What the web knows when it sets out. -/
def State.outNoted (s : State) : State :=
  State.seti { s with line := { s.line with pRev := s.revFor s.line.raised } } .MOT_BS_DIST_STEPS (s.line.pStop - s.revFor s.line.raised)

theorem State.setOut_eq (s : State) : s.setOut =
    if s.revFor s.line.raised = s.outNoted.axPos 0 then ((s.outNoted.restAxis 0).set .MOT_STATUS_BS_PHASE 4).stopsDone
    else if s.outNoted.limitOn 0 (decide (s.outNoted.axPos 0 < s.revFor s.line.raised)) then s.outNoted.holdWeb
    else (s.outNoted.startAxis 0 (decide (s.outNoted.axPos 0 < s.revFor s.line.raised))
      { s.outNoted.axis 0 with mode := 4, target := s.revFor s.line.raised, stopAt := some (s.revFor s.line.raised) }).set .MOT_STATUS_BS_PHASE 3 := rfl

theorem State.limitOn_congr {s t : State} (hx : t.sects = s.sects) (ha : t.get .MOT_INPUTS_LIMA = s.get .MOT_INPUTS_LIMA)
    (hb : t.get .MOT_INPUTS_LIMB = s.get .MOT_INPUTS_LIMB) (a : Nat) (fwd : Bool) : t.limitOn a fwd = s.limitOn a fwd := by
  unfold State.limitOn
  rw [ha, hb, State.mf_congr hx, State.mf_congr hx]

theorem State.setOut_reads (s : State) : SetsOut s (s.revFor s.line.raised) s.setOut := by
  rw [State.setOut_eq]
  have h1 : Moves outFlds s s.outNoted := ((Moves.refl outFlds s).setLine _).seti (by decide) ..
  have hl : s.outNoted.line = { s.line with pRev := s.revFor s.line.raised } := rfl
  have hp := h1.axPos (by decide) 0
  have hlim := State.limitOn_congr h1.sects (h1.get (by decide) 0 0) (h1.get (by decide) 0 0)
  generalize s.outNoted = u at h1 hl hp hlim ⊢
  generalize s.revFor s.line.raised = rev at hl ⊢
  rw [hp, hlim]
  by_cases c1 : rev = s.axPos 0
  · rw [if_pos c1]
    obtain ⟨r1, -, r3, -, -, -, r7⟩ := u.restAxis_reads 0
    generalize u.restAxis 0 = v at r1 r3 r7 ⊢
    have hm : (v.set .MOT_STATUS_BS_PHASE 4).moving' 0 = false := (State.moving_set _ (by decide) ..).trans (r3 0 (by decide))
    have hph : (v.set .MOT_STATUS_BS_PHASE 4).phase = 4 := v.phase_set (by decide)
    have h2 : Moves outFlds s (v.set .MOT_STATUS_BS_PHASE 4) := (h1.trans (r1.mono (by decide))).set (by decide) ..
    have hl2 : (v.set .MOT_STATUS_BS_PHASE 4).line = { s.line with pRev := rev }.rested := r7.trans (congrArg Timeline.rested hl)
    generalize v.set .MOT_STATUS_BS_PHASE 4 = w at *
    obtain ⟨d1, d2, d3⟩ := w.stopsDone_reads
    generalize w.stopsDone = t at *
    have hlt := d3.trans hl2
    exact
      { moves := h2.trans (d1.mono (by simp))
        place := by rw [hlt]; rfl
        stop := by rw [hlt]; rfl
        assisted := by rw [hlt]; rfl
        there := fun _ => ⟨(d1.phase (by decide)).trans hph, (d1.moving (by decide) 0).trans hm, d2⟩
        held := fun h => absurd c1 h
        goes := fun h => absurd c1 h }
  · rw [if_neg c1]
    by_cases c2 : s.limitOn 0 (decide (s.axPos 0 < rev)) = true
    · rw [if_pos c2]
      obtain ⟨w1, w2, w3, w4⟩ := u.holdWeb_reads
      generalize u.holdWeb = t at *
      have hlt := w4.trans (congrArg Timeline.rested hl)
      exact
        { moves := h1.trans (w1.mono (by decide))
          place := by rw [hlt]; rfl
          stop := by rw [hlt]; rfl
          assisted := by rw [hlt]; rfl
          there := fun h => absurd h c1
          held := fun _ _ => ⟨w2, w3⟩
          goes := fun _ h => absurd c2 (by rw [h]; decide) }
    · rw [if_neg c2]
      obtain ⟨w1, w2, -, -, -, -, -, w8⟩ := u.startAxis_reads (a := 0) (by decide) (decide (s.axPos 0 < rev)) { u.axis 0 with mode := 4, target := rev, stopAt := some rev }
      generalize u.startAxis 0 _ _ = v at *
      have hlt : (v.set .MOT_STATUS_BS_PHASE 3).line = { s.line with pRev := rev, hard := false, turn := false } := by
        refine w8.trans ?_
        rw [if_pos rfl, hl]
      exact
        { moves := (h1.trans (w1.mono (by decide))).set (by decide) ..
          place := by rw [hlt]
          stop := by rw [hlt]
          assisted := by rw [hlt]
          there := fun h => absurd h c1
          held := fun _ h => absurd h c2
          goes := fun _ _ => ⟨v.phase_set (by decide), (State.moving_set _ (by decide) ..).trans w2⟩ }

/-- What a positioning starts from. -/
def State.placed (s : State) : State :=
  State.set { s with line := { s.line with pStop := s.axPos 0, raised := s.unfired, hard := false, assisted := none } } .MOT_BS_RESUME_LINE s.unfired

theorem State.revFor_congr {s t : State} (hx : t.sects = s.sects) (hp : t.line.p0 = s.line.p0) (hy : t.line.y0 = s.line.y0)
    (ha : (t.axis 0).aim = (s.axis 0).aim) (n : Nat) : t.revFor n = s.revFor n := by
  unfold State.revFor State.lineAt State.runUp State.stepsPerLine
  simp only [State.mf_congr hx, hp, hy, ha]

/-! ### A resume -/

theorem State.countBackstep_reads (s : State) : (fun t : State => Moves [.MOT_BS_COUNT_BACKSTEPS] s t ∧ t.axes = s.axes ∧
      t.line = { s.line with counted := false } ∧ (s.line.counted = true →
        t.get .MOT_BS_COUNT_BACKSTEPS = min (s.get .MOT_BS_COUNT_BACKSTEPS + 1) (2 ^ Fld.MOT_BS_COUNT_BACKSTEPS.desc.width - 1))) s.countBackstep := by
  unfold State.countBackstep
  split_ifs with h
  · exact ⟨((Moves.refl [.MOT_BS_COUNT_BACKSTEPS] s).set (by decide) ..).setLine _, rfl, rfl, fun _ => State.get_bump_same ..⟩
  · exact ⟨(Moves.refl _ s).setLine _, rfl, rfl, fun hc => absurd hc h⟩

/-- What a resume leaves. -/
structure Resumes (s t : State) : Prop where
  moves : Moves [.MOT_BS_COUNT_BACKSTEPS, .MOT_STATUS_BS_PHASE] s t
  phase : t.phase = 0
  mode : (t.axis 0).mode = 2
  late : s.line.due = false → t.line.late = []
  live : t.line.live = true
  fails : t.line.fails = 0
  count : s.line.counted = true →
    t.get .MOT_BS_COUNT_BACKSTEPS = min (s.get .MOT_BS_COUNT_BACKSTEPS + 1) (2 ^ Fld.MOT_BS_COUNT_BACKSTEPS.desc.width - 1)

theorem Resumes.serves {s t u : State} (h : Resumes s t) (hu : Serves t u) : Resumes s u where
  moves := h.moves.serves hu
  phase := hu.phase.trans h.phase
  mode := by rw [hu.axis]; exact h.mode
  late := fun hd => by rw [hu.line]; exact h.late hd
  live := by rw [hu.line]; exact h.live
  fails := by rw [hu.line]; exact h.fails
  count := fun hc => (hu.get (by decide) 0 0).trans (h.count hc)

/-- The web once its resume is counted. -/
def State.rolling (s : State) : State :=
  (State.setAxis { s.countBackstep with line := { s.countBackstep.line with
    late := if s.countBackstep.line.due then s.countBackstep.line.late else [], fails := 0, live := true } } 0
    { s.axis 0 with mode := 2, speedOp := if (s.axis 0).changes.isEmpty then none else (s.axis 0).speedOp }).set .MOT_STATUS_BS_PHASE 0

theorem State.resume_eq (s : State) : s.resume = match (s.axis 0).speedOp with
    | some h => if (s.axis 0).changes.isEmpty then s.rolling.done h else s.rolling
    | none => s.rolling := rfl

theorem State.rolling_resumes (s : State) : Resumes s s.rolling := by
  unfold State.rolling
  obtain ⟨h1, h2, h3, h4⟩ := s.countBackstep_reads
  generalize s.countBackstep = u at *
  exact
    { moves := (((h1.mono (by decide)).setLine _).setAxis ..).set (by decide) ..
      phase := State.phase_set _ (by decide)
      mode := by
        rw [State.axis_set, State.axis_setAxis]
      late := fun hd => by
        change (if u.line.due then u.line.late else []) = []
        rw [h3]
        exact if_neg (by rw [hd]; decide)
      live := rfl
      fails := rfl
      count := fun hc => (State.get_set_fld _ (by decide) ..).trans (h4 hc) }

theorem State.resume_resumes (s : State) : Resumes s s.resume := by
  rw [State.resume_eq]
  have h := s.rolling_resumes
  generalize s.rolling = u at *
  split
  · split_ifs
    · exact h.serves (State.done_serves ..)
    · exact h
  · exact h

/-! ### The backstep's steps -/

theorem State.finalLine_reads (s : State) (h y r : Nat) (hk : ∀ z ∈ s.sets, z.handle = h → s.kilnClash z = false) : (fun t : State =>
      t = { s with sets := t.sets, chans := t.chans } ∧ (t.sets = s.sets ∨ t.sets = finalSets s.sets h y r) ∧
      ((∃ z ∈ s.sets, z.handle = h ∧ z.line = none) → t.sets = finalSets s.sets h y r)) (s.finalLine h y r) := by
  cases hf : s.sets.find? (fun z => z.handle == h && z.line.isNone) with
  | none =>
    have he : s.finalLine h y r = s := by
      unfold State.finalLine
      rw [hf]
    rw [he]
    refine ⟨rfl, .inl rfl, fun ⟨z, hz, hh, hl⟩ => ?_⟩
    have := List.find?_eq_none.1 hf z hz
    simp [hh, hl] at this
  | some x =>
    have hx : x.handle = h := by
      have := List.find?_some hf
      simp only [Bool.and_eq_true, beq_iff_eq] at this
      exact this.1
    subst hx
    rw [State.finalLine_meets hf (hk x (List.mem_of_find?_eq_some hf) rfl)]
    have hp := State.prepShadows_frame { s with sets := finalSets s.sets x.handle y r }
    generalize State.prepShadows _ = p at hp
    rw [hp]
    exact ⟨rfl, .inr rfl, fun _ => rfl⟩

theorem finalSets_any (l : List ChangeSet) (h y r g : Nat) : (finalSets l h y r).any (fun x => x.handle == g) = l.any (fun x => x.handle == g) := by
  unfold finalSets
  rw [List.any_map]
  refine congrArg (List.any l) (funext fun x => ?_)
  simp only [Function.comp_apply]
  split_ifs <;> rfl

/-- A set with a line of its own is one of the sets. -/
theorem State.mem_of_setLines {s : State} {p : ChangeSet × Option (Nat × Nat) → Bool} {e : ChangeSet × Option (Nat × Nat)}
    (h : s.setLines.find? p = some e) : e.1 ∈ s.sets := by
  have hm := List.mem_of_find?_eq_some h
  unfold State.setLines at hm
  obtain ⟨z, hz, rfl⟩ := List.mem_map.1 hm
  rw [← s.setFloors_sets]
  exact List.mem_map.2 ⟨z, hz, rfl⟩

/-- A line event raised: the frames `o` and `o'` are sent, and its own is taken in as that of line `n`. -/
def State.raiseLine (s : State) (y d : Nat) (o o' : Out) (n r : Nat) : State :=
  let s := { s with line := { s.line with raised := y + 1 } }
  let s := (s.out o).out o'
  let s := s.set .MOT_STOPDIST_LINES d
  let inside := decide ((s.slipNow.natAbs : Nat) ≤ s.encf 0 0x10 4)
  let within := if inside then s.seq.within + 1 else 0
  let slave := !s.is .ENC_STATUS_DR && !inside && !s.line.noSlave
  let s := { s with seq := { s.seq with within := within }, line := { s.line with noSlave := s.line.noSlave && within < 64 } }
  ((if slave then s.on .FIRE_STATUS_SLAVED else s).lineFrame n r).busSend r

theorem exec_lineEventRaise (s : State) (r : Nat) (h : s.mayRaise s.lineDue = true) : exec (.lineEventRaise r) s =
    .next (s.raiseLine s.lineDue s.dStop (.bus "frame" [mkFrame 1 s.lineDue]) (.bus "frame" [mkFrame 3 (s.lineDue % 256 * 2 ^ 24 + s.dStop)])
      (s.lineDue % 2 ^ 32) r) :=
  (exec_when (i := .lineEventRaise r) (s := s) rfl h).trans rfl

theorem State.raiseLine_reads (s : State) (y d : Nat) (o o' : Out) (n r : Nat) : (fun t : State => t.line.raised = y + 1 ∧ o ∈ t.outbox ∧
      o' ∈ t.outbox ∧ t.get .MOT_STOPDIST_LINES = d % 2 ^ Fld.MOT_STOPDIST_LINES.desc.width ∧ t.chans = s.chans ∧ t.hostMem = s.hostMem)
    (s.raiseLine y d o o' n r) := by
  unfold State.raiseLine
  extract_lets l1 s1 s2 s3 inside within slave q l2 s4
  have hs : Sends s4 (if slave then s4.on .FIRE_STATUS_SLAVED else s4) := by
    split_ifs
    · exact (Sends.refl s4).set (by decide) ..
    · exact Sends.refl s4
  have ht := (hs.trans (State.lineFrame_sends _ n r)).trans (State.busSend_sends _ r)
  exact ⟨(congrArg Timeline.raised ht.line).trans rfl, ht.sent _ (List.mem_cons_of_mem _ (List.mem_cons_self ..)), ht.sent _ (List.mem_cons_self ..),
    ht.stop.trans (s2.get_set_same .MOT_STOPDIST_LINES d 0 0), ht.chans.trans rfl, ht.hostMem.trans rfl⟩

/-- The web that has stopped for its backstep. -/
def State.webHalted (s : State) : State :=
  let s := (s.restAxis 0).off .FIRE_STATUS_RUNNING
  { s with line := { s.line with pStop := s.axPos 0 } }

/-- What the web knows that has stopped for its backstep. -/
structure WebHalted (s t : State) : Prop where
  moves : Moves (.FIRE_STATUS_RUNNING :: restFlds) s t
  line : t.line = { s.line.rested with pStop := s.axPos 0 }
  axis : t.axis 0 = (s.axis 0).rested
  still : t.moving' 0 = false
  running : t.is .FIRE_STATUS_RUNNING = false
  jobEnds : t.jobEnds = s.jobEnds

theorem State.webHalted_reads (s : State) : WebHalted s s.webHalted := by
  unfold State.webHalted
  obtain ⟨r1, rf, r3, -, r5, -, r7⟩ := s.restAxis_reads 0
  generalize s.restAxis 0 = u at *
  have hp : (u.off .FIRE_STATUS_RUNNING).axPos 0 = s.axPos 0 :=
    (State.axPos_congr (State.get_set_fld _ (by decide) ..)).trans (r1.axPos (by decide) 0)
  exact
    { moves := ((r1.mono (by decide)).set (by decide) ..).setLine _
      line := by
        change ({ u.line with pStop := (u.off .FIRE_STATUS_RUNNING).axPos 0 } : Timeline) = _
        rw [hp, r7]
        rfl
      axis := r5
      still := (congrArg (bit · 0) (u.get_set_fld (f := .FIRE_STATUS_RUNNING) (g := .MOT_STATUS_MOVING) (by decide) 0 0 0 0 0)).trans (r3 0 (by decide))
      running := u.is_off_same .FIRE_STATUS_RUNNING 0 0
      jobEnds := by
        change u.jobEnds = _
        rw [rf] }

theorem WebHalted.unfired {s t : State} (h : WebHalted s t) : t.unfired = s.unfired := by
  unfold State.unfired
  rw [h.moves.seq, h.line]
  rfl

theorem WebHalted.jobDone {s t : State} (h : WebHalted s t) : t.jobDone = s.jobDone := by
  unfold State.jobDone
  rw [h.jobEnds, h.unfired]

theorem WebHalted.lineAt {s t : State} (h : WebHalted s t) (n : Nat) : t.lineAt n = s.lineAt n := by
  unfold State.lineAt State.stepsPerLine
  rw [State.mf_congr h.moves.sects, h.line]
  rfl

theorem WebHalted.axPos {s t : State} (h : WebHalted s t) : t.axPos 0 = s.axPos 0 := h.moves.axPos (by decide) 0

theorem exec_backstepStopped {s : State} (ho : s.is .MOT_STATUS_OWN = true) (hp : s.phase = 1) (hst : s.atStop 0 = true) :
    exec .backstepStopped s = .next (if s.webHalted.jobDone then (((s.webHalted.restOps 0 true).countBackstep).endJob).set .MOT_STATUS_BS_PHASE 0
      else
        let plain := match s.webHalted.line.assisted with
          | some d => s.webHalted.line.late.isEmpty && decide (s.webHalted.unfired = d ∧ s.webHalted.axPos 0 < s.webHalted.lineAt d)
          | none => false
        if plain then ((s.webHalted.set .MOT_BS_RESUME_LINE s.webHalted.unfired).set .MOT_STATUS_BS_PHASE 4).stopsDone
        else s.webHalted.position) :=
  exec_when (i := .backstepStopped) (s := s) rfl (by simp [ho, hp, hst])

theorem State.runUp_congr {s t : State} (h : t.sects = s.sects) (a v : Nat) : t.runUp a v = s.runUp a v := by
  unfold State.runUp
  simp only [State.mf_congr h]

theorem State.stepsPerLine_congr {s t : State} (h : t.sects = s.sects) : t.stepsPerLine = s.stepsPerLine := State.mf_congr h ..

/-- What a positioning from the place `s` leaves. -/
theorem State.position_reads (s : State) : SetsOut s.placed (s.lineAt s.unfired - s.runUp 0 (s.axis 0).aim - s.mf 0 0x28 2 * s.stepsPerLine) s.position :=
  s.placed.setOut_reads

theorem State.placed_moves (s : State) : Moves [.MOT_BS_RESUME_LINE] s s.placed :=
  ((Moves.refl [.MOT_BS_RESUME_LINE] s).setLine _).set (by decide) ..

/-- The fields of a resume that fails or is not verified. -/
def testFlds : List Fld := [.MOT_BS_COUNT_UNVERIFIED, .MOT_BS_ERR_SPEED, .MOT_BS_ERR_POS]

theorem State.unverified_reads (s : State) : (fun t : State => Moves testFlds s t ∧ t.axes = s.axes ∧ t.line = s.line ∧
      t.get .MOT_BS_COUNT_UNVERIFIED = min (s.get .MOT_BS_COUNT_UNVERIFIED + 1) (2 ^ Fld.MOT_BS_COUNT_UNVERIFIED.desc.width - 1) ∧
      t.get .MOT_BS_ERR_SPEED = 0 ∧ t.get .MOT_BS_ERR_POS = 0)
    (((s.bump .MOT_BS_COUNT_UNVERIFIED).set .MOT_BS_ERR_SPEED 0).set .MOT_BS_ERR_POS 0) := by
  refine ⟨(((Moves.refl testFlds s).set (by decide) ..).set (by decide) ..).set (by decide) .., rfl, rfl, ?_, ?_, ?_⟩
  all_goals simp [table_form]

/-- The errors measured at a resume. -/
def State.errorsShown (s : State) (v p : Int) : State := (s.setSat .MOT_BS_ERR_SPEED v).setSat .MOT_BS_ERR_POS p

theorem State.errorsShown_moves (s : State) (v p : Int) : Moves testFlds s (s.errorsShown v p) :=
  ((Moves.refl testFlds s).seti (by decide) ..).seti (by decide) ..

theorem State.errorsShown_frame (s : State) (v p : Int) : s.errorsShown v p = { s with regs := (s.errorsShown v p).regs } := rfl

/-- What a resume test shows of its measurement. -/
def State.measured (s : State) : State :=
  let num : Int := s.encf 0 8 4
  let den : Int := s.encf 0 0xC 4
  let want : Int := (s.axis 0).cruise * num
  if s.is .ENC_STATUS_DR then ((s.bump .MOT_BS_COUNT_UNVERIFIED).set .MOT_BS_ERR_SPEED 0).set .MOT_BS_ERR_POS 0
  else s.errorsShown ((s.geti .ENC_SPEED_RATE 0 0 * den - want) * 100000 / want) (s.slipNow * den * 256 / (s.stepsPerLine * num))

/-- The speed and the place of the web are within the limits of a resume. -/
def State.inLimits (s : State) : Bool :=
  let num : Int := s.encf 0 8 4
  let den : Int := s.encf 0 0xC 4
  let want : Int := (s.axis 0).cruise * num
  decide (200 * (s.geti .ENC_SPEED_RATE 0 0 * den - want).natAbs ≤ want.natAbs) &&
    decide (4 * (s.slipNow * den).natAbs ≤ (s.stepsPerLine * num).natAbs)

/-- A resume that fails. -/
def State.resumeFails (s : State) : State :=
  let t := s.bump .MOT_BS_COUNT_RETRIES
  let n := t.line.fails + 1
  let t := ({ t with line := { t.line with fails := n } } : State).rampStop 0
  if n = 3 then (t.on .MOT_STATUS_RESUME_FAIL).set .MOT_STATUS_BS_PHASE 0 else t.set .MOT_STATUS_BS_PHASE 1

theorem exec_resumeTest {s : State} (ho : s.is .MOT_STATUS_OWN = true) (hp : s.phase = 6) (hd : s.stepDue s.line.raised = true) :
    exec .resumeTest s = .next (if s.is .ENC_STATUS_DR || (s.inLimits && !s.measured.is .FIRE_STATUS_SLAVED) then s.measured.resume
      else s.measured.resumeFails) :=
  exec_when (i := .resumeTest) (s := s) rfl (by simp [ho, hp, hd])

theorem State.measured_dr {s : State} (h : s.is .ENC_STATUS_DR = true) :
    s.measured = ((s.bump .MOT_BS_COUNT_UNVERIFIED).set .MOT_BS_ERR_SPEED 0).set .MOT_BS_ERR_POS 0 := if_pos h

theorem State.measured_enc {s : State} (h : s.is .ENC_STATUS_DR = false) : ∃ v p, s.measured = s.errorsShown v p := ⟨_, _, if_neg (by rw [h]; decide)⟩

theorem State.resumeFails_reads (s : State) : (fun t : State =>
      t.get .MOT_BS_COUNT_RETRIES = min (s.get .MOT_BS_COUNT_RETRIES + 1) (2 ^ Fld.MOT_BS_COUNT_RETRIES.desc.width - 1) ∧
      t.line.fails = s.line.fails + 1 ∧ (s.moving' 0 = true → (t.axis 0).mode = 3) ∧
      t.phase = (if s.line.fails + 1 = 3 then 0 else 1) ∧ (s.line.fails + 1 = 3 → t.is .MOT_STATUS_RESUME_FAIL = true))
    s.resumeFails := by
  unfold State.resumeFails
  extract_lets t n l t1
  have hn : n = s.line.fails + 1 := rfl
  have hc : t.get .MOT_BS_COUNT_RETRIES = min (s.get .MOT_BS_COUNT_RETRIES + 1) (2 ^ Fld.MOT_BS_COUNT_RETRIES.desc.width - 1) := State.get_bump_same ..
  have hm : t.moving' 0 = s.moving' 0 := State.moving_set _ (by decide) ..
  clear_value t n
  obtain ⟨r1, -, ⟨m, q, r3, r4⟩, -, ⟨p, r5⟩⟩ := State.rampStop_reads { t with line := { l with fails := n } } 0 false
  have hc1 : t1.get .MOT_BS_COUNT_RETRIES = min (s.get .MOT_BS_COUNT_RETRIES + 1) (2 ^ Fld.MOT_BS_COUNT_RETRIES.desc.width - 1) :=
    (r1.get (by decide) 0 0).trans hc
  have hl : t1.line.fails = s.line.fails + 1 := (congrArg Timeline.fails r5).trans hn
  have hx : s.moving' 0 = true → (t1.axis 0).mode = 3 := fun h => (congrArg Axis.mode r3).trans (r4 (hm.trans h))
  clear_value t1
  rw [hn]
  split_ifs with h3
  · refine ⟨(State.get_set_fld _ (by decide) ..).trans ((State.get_set_fld _ (by decide) ..).trans hc1), hl, hx, State.phase_set _ (by decide), fun _ => ?_⟩
    simp [table_form, stepWidths]
  · exact ⟨(State.get_set_fld _ (by decide) ..).trans hc1, hl, hx, State.phase_set _ (by decide), fun h => absurd h h3⟩

/-- The press line under an assisted apply, about to run up. -/
def State.assistNoted (s : State) (d : Nat) : State :=
  let new : Int := s.axPos 0 + s.runUp 0 (s.axis 0).aim + s.mf 0 0x28 2 * s.stepsPerLine
  let gap := ((new - s.lineAt d) / (s.stepsPerLine : Int)).toNat
  State.set { s with line := { s.line with y0 := d, p0 := new, raised := d, assisted := none } } .MOT_GAP_LINES gap

theorem exec_backstepRunUp {s : State} {o : Bool} (ho : s.is .MOT_STATUS_OWN = true) (hp : s.phase = 4) (hr : s.runUpOk o = true) :
    exec (.backstepRunUp o) s = .next (
      let t := match s.line.assisted with
        | some d => s.assistNoted d
        | none => s
      if t.limitOn 0 true then t.holdWeb
      else (t.startAxis 0 true { t.axis 0 with mode := 5, cruise := (s.axis 0).aim }).set .MOT_STATUS_BS_PHASE 5) :=
  exec_when (i := .backstepRunUp o) (s := s) rfl (by simp [ho, hp, hr])

/-- The page that a data-late condition is laid to counts the backstep. -/
def State.blamed (s : State) : State := match s.line.blame with | some y => s.blamePage y | none => s

/-- The speed that waits for the web's next run taken. -/
def State.taken (s : State) (x : Axis) : State :=
  let s := match x.next, x.speedOp with | some _, some o => s.finish o stDone 1 0 | _, _ => s
  match x.next with
  | some n => s.setAxis 0 { s.axis 0 with next := none, speedOp := some n.1, aim := n.2 }
  | none => s

theorem State.taken_reads (s : State) (x : Axis) : (fun t : State => Moves [] s t ∧ (t.axis 0).mode = (s.axis 0).mode ∧ t.line = s.line) (s.taken x) := by
  unfold State.taken
  extract_lets s1
  have h1 : Serves s s1 := by
    unfold s1
    split
    · exact State.finish_serves ..
    · exact Serves.refl s
  clear_value s1
  have m1 : Moves [] s s1 := (Moves.refl _ s).serves h1
  split
  · refine ⟨m1.setAxis .., ?_, h1.line⟩
    rw [State.axis_setAxis]
    exact (congrArg Axis.mode (h1.axis 0) :)
  · exact ⟨m1, by rw [h1.axis], h1.line⟩

theorem exec_backstepStart {s : State} (ho : s.is .MOT_STATUS_OWN = true) (hm : s.moving' 0 = true) (hf : s.forward 0 = true) (hd : s.line.due = true)
    (hp : (s.phase = 0 ∧ ((s.axis 0).mode = 2 ∨ (s.axis 0).mode = 3 ∧ s.line.turn = true)) ∨ s.phase = 5 ∨ s.phase = 6) :
    exec .backstepStart s = .next (
      let stay := (s.axis 0).mode == 3 && (s.axis 0).next.isNone && (!s.line.jobStop || !(s.axis 0).stopOps.isEmpty)
      let t := (s.blamed.rampStop 0 (s.blamed.phase != 0)).taken (s.axis 0)
      State.set { t with line := { t.line with due := false, blame := none, counted := true, jobStop := false, turn := false, stay := stay || t.line.stay } }
        .MOT_STATUS_BS_PHASE 1) := by
  refine (exec_when (i := .backstepStart) (s := s) rfl ?_).trans rfl
  rcases hp with ⟨hp, hx | hx⟩ | hp | hp
  · simp [ho, hm, hf, hd, hp, hx]
  · simp [ho, hm, hf, hd, hp, hx]
  · simp [ho, hm, hf, hd, hp]
  · simp [ho, hm, hf, hd, hp]

/-! ### Encoder faults -/

theorem State.msix_frame (s : State) (v : Nat) : s.msix v = { s with outbox := (s.msix v).outbox, msixPend := (s.msix v).msixPend } := by
  unfold State.msix
  split_ifs <;> rfl

theorem State.encIrq_frame (s : State) (x : Nat) : s.encIrq x = { s with outbox := (s.encIrq x).outbox, msixPend := (s.encIrq x).msixPend } := by
  unfold State.encIrq
  split_ifs
  · exact State.msix_frame ..
  · rfl

/-- What a fault of an encoder shows. -/
structure Faulted (s : State) (x : Nat) (t : State) : Prop where
  invalid : t.encValid x = false
  seen : bit (t.get .ENC_EVENT_FAULT_SEEN) x = true
  count : t.get .ENC_FAULT_COUNT 0 x = min (s.get .ENC_FAULT_COUNT 0 x + 1) (2 ^ Fld.ENC_FAULT_COUNT.desc.width - 1)
  cause : t.get .ENC_FAULT_CAUSE 0 x = (s.scale x).fault % 2 ^ Fld.ENC_FAULT_CAUSE.desc.width
  fault : (t.scale x).fault = 0
  faulted : (t.scale x).faulted = true

theorem Faulted.moves {fs : List Fld} {s t u : State} {x : Nat} (h : Faulted s x t) (hu : Moves fs t u) (hs : u.scales = t.scales)
    (hf : ∀ f ∈ [Fld.ENC_STATUS_VALID, .ENC_EVENT_FAULT_SEEN, .ENC_FAULT_COUNT, .ENC_FAULT_CAUSE], f ∉ fs ++ reportedFlds) : Faulted s x u where
  invalid := (congrArg (bit · x) (hu.get (hf _ (by decide)) 0 0)).trans h.invalid
  seen := (congrArg (bit · x) (hu.get (hf _ (by decide)) 0 0)).trans h.seen
  count := (hu.get (hf _ (by decide)) 0 x).trans h.count
  cause := (hu.get (hf _ (by decide)) 0 x).trans h.cause
  fault := (congrArg (fun l => (look {} l x : Scale).fault) hs).trans h.fault
  faulted := (congrArg (fun l => (look {} l x : Scale).faulted) hs).trans h.faulted

/-- A fault of an encoder noted. -/
def State.encFaultNoted (s : State) (x : Nat) : State :=
  let e := s.scale x
  let s := (s.putB .ENC_STATUS_VALID x false).putB .ENC_EVENT_FAULT_SEEN x true
  let s := ((s.set .ENC_FAULT_CAUSE e.fault 0 x).bump .ENC_FAULT_COUNT 1 0 x).encIrq x
  s.setScale x { e with fault := 0, faulted := true }

theorem State.encFaultNoted_reads (s : State) {x : Nat} (hx : x < 4) : (fun t : State => Faulted s x t ∧ t.role = s.role ∧
      t.is .MOT_STATUS_OWN = s.is .MOT_STATUS_OWN) (s.encFaultNoted x) := by
  unfold State.encFaultNoted
  extract_lets e s1 s2
  have h1 : bit (s1.get .ENC_STATUS_VALID) x = false :=
    (congrArg (bit · x) ((s.putB .ENC_STATUS_VALID x false).get_set_fld (f := .ENC_EVENT_FAULT_SEEN) (g := .ENC_STATUS_VALID) (by decide) _ 0 0 0 0)).trans
      (s.bit_putB .ENC_STATUS_VALID false 0 0 (b := x) hx)
  have h2 : bit (s1.get .ENC_EVENT_FAULT_SEEN) x = true := (s.putB .ENC_STATUS_VALID x false).bit_putB .ENC_EVENT_FAULT_SEEN true 0 0 (b := x) hx
  have h3 : s1.get .ENC_FAULT_COUNT 0 x = s.get .ENC_FAULT_COUNT 0 x := (State.get_set_fld _ (by decide) ..).trans (State.get_set_fld _ (by decide) ..)
  have h5 : s1.is .MOT_STATUS_OWN = s.is .MOT_STATUS_OWN :=
    congrArg (· == 1) ((State.get_set_fld _ (by decide) ..).trans (State.get_set_fld _ (by decide) ..))
  have h6 : s1.role = s.role := (State.get_set_fld _ (by decide) ..).trans (State.get_set_fld _ (by decide) ..)
  clear_value s1
  have hv : ∀ f i k, f ≠ .ENC_FAULT_CAUSE → f ≠ .ENC_FAULT_COUNT → s2.get f i k = s1.get f i k := fun f i k ha hb => by
    unfold s2
    rw [State.encIrq_frame]
    exact (State.get_set_fld _ hb ..).trans (State.get_set_fld _ ha ..)
  have hcount : s2.get .ENC_FAULT_COUNT 0 x = min (s1.get .ENC_FAULT_COUNT 0 x + 1) (2 ^ Fld.ENC_FAULT_COUNT.desc.width - 1) := by
    unfold s2
    rw [State.encIrq_frame]
    refine (State.get_bump_same (s1.set .ENC_FAULT_CAUSE e.fault 0 x) .ENC_FAULT_COUNT 1 0 x).trans ?_
    rw [State.get_set_fld _ (by decide)]
  have hcause : s2.get .ENC_FAULT_CAUSE 0 x = e.fault % 2 ^ Fld.ENC_FAULT_CAUSE.desc.width := by
    unfold s2
    rw [State.encIrq_frame]
    exact ((s1.set .ENC_FAULT_CAUSE e.fault 0 x).get_set_fld (f := .ENC_FAULT_COUNT) (g := .ENC_FAULT_CAUSE) (by decide) ..).trans (State.get_set_same ..)
  clear_value s2
  have hsc : (s2.setScale x { e with fault := 0, faulted := true }).scale x = { e with fault := 0, faulted := true } :=
    (State.scale_setScale ..).trans (if_pos rfl)
  refine ⟨?_, ?_, ?_⟩
  · exact
      { invalid := (congrArg (bit · x) (hv .ENC_STATUS_VALID 0 0 (by decide) (by decide))).trans h1
        seen := (congrArg (bit · x) (hv .ENC_EVENT_FAULT_SEEN 0 0 (by decide) (by decide))).trans h2
        count := hcount.trans (by rw [h3])
        cause := hcause
        fault := congrArg Scale.fault hsc
        faulted := congrArg Scale.faulted hsc }
  · exact (hv _ 0 0 (by decide) (by decide)).trans h6
  · exact (congrArg (· == 1) (hv _ 0 0 (by decide) (by decide))).trans h5

/-- The start of dead reckoning. -/
def State.drStarted (s : State) : State :=
  let s := ((s.on .ENC_STATUS_DR).set .ENC_DR_LINES 0).off .FIRE_STATUS_SLAVED
  State.drShow { s with line := { s.line with drBase := 0, drOver := false } }

theorem State.drStarted_reads (s : State) : (fun t : State => Moves (.ENC_STATUS_DR :: .ENC_DR_LINES :: .FIRE_STATUS_SLAVED :: showFlds) s t ∧
      t.scales = s.scales ∧ t.is .ENC_STATUS_DR = true ∧ t.get .ENC_DR_LINES = 0 ∧ t.is .FIRE_STATUS_SLAVED = false) s.drStarted := by
  unfold State.drStarted
  extract_lets s1
  have h1 : Moves (.ENC_STATUS_DR :: .ENC_DR_LINES :: .FIRE_STATUS_SLAVED :: showFlds) s s1 :=
    (((Moves.refl (.ENC_STATUS_DR :: .ENC_DR_LINES :: .FIRE_STATUS_SLAVED :: showFlds) s).set (by decide) ..).set (by decide) ..).set (by decide) ..
  have hd : s1.is .ENC_STATUS_DR = true ∧ s1.get .ENC_DR_LINES = 0 ∧ s1.is .FIRE_STATUS_SLAVED = false := by
    simp [s1, table_form, stepWidths]
  have hs : s1.scales = s.scales := rfl
  clear_value s1
  have h2 := h1.setLine { s1.line with drBase := 0, drOver := false }
  have hf := State.drShow_frame { s1 with line := { s1.line with drBase := 0, drOver := false } }
  have h3 := State.drShow_moves { s1 with line := { s1.line with drBase := 0, drOver := false } }
  generalize State.drShow _ = t at *
  obtain ⟨d1, d2, d3⟩ := hd
  exact ⟨h2.trans (h3.mono (by decide)), by rw [hf]; exact hs, (h3.is (by decide) 0 0).trans d1, (h3.get (by decide) 0 0).trans d2, (h3.is (by decide) 0 0).trans d3⟩

/-- What the press line and the axes do at a fault. -/
def State.faultActs (s : State) (x : Nat) : State :=
  if x = 0 then
    if s.is .MOT_STATUS_OWN || s.role == rolePress || s.role == roleTrio then s.drStarted else s
  else
    let a := s.encf x 0 1
    if a = 1 ∨ a = 2 ∨ a = 3 then
      match s.encf x 1 1 with
      | 1 => s.hardStop a
      | 2 => s.plainStop a
      | _ => s
    else s

theorem exec_encoderFault {s : State} {x : Nat} (hu : s.encUsed x = true) (hf : (s.scale x).fault ≠ 0) :
    exec (.encoderFault x) s = .next ((s.encFaultNoted x).faultActs x) :=
  (exec_when (i := .encoderFault x) (s := s) rfl (by simp [hu, hf])).trans rfl

theorem State.faultActs_reads {s u : State} {x : Nat} (h : Faulted s x u) : Faulted s x (u.faultActs x) := by
  unfold State.faultActs
  split_ifs with h0 h1
  · obtain ⟨d1, d2, -⟩ := u.drStarted_reads
    exact h.moves d1 d2 (by decide)
  · exact h
  · extract_lets a
    split_ifs with h1
    · split
      · obtain ⟨d1, -, -, d4, -⟩ := u.hardStop_moves (a := a) (by omega) stDone
        exact h.moves d1 d4 (by decide)
      · obtain ⟨d1, d2, -⟩ := u.plainStop_reads a
        exact h.moves d1 (by rw [d2]) (by decide)
      · exact h
    · exact h

/-- An encoder that is valid again. -/
def State.validAgain (s : State) (x : Nat) : State :=
  let e := s.scale x
  let s := s.putB .ENC_STATUS_VALID x true
  if e.faulted then (s.putB .ENC_EVENT_RECOVERED x true).encIrq x else s

theorem State.validAgain_reads (s : State) {x : Nat} (hx : x < 4) : (fun t : State => t.encValid x = true ∧
      ((s.scale x).faulted = true → bit (t.get .ENC_EVENT_RECOVERED) x = true) ∧ t.is .ENC_STATUS_DR = s.is .ENC_STATUS_DR) (s.validAgain x) := by
  unfold State.validAgain
  extract_lets e s1
  have h1 : s1.encValid x = true := s.bit_putB .ENC_STATUS_VALID true 0 0 (b := x) hx
  have h2 : s1.is .ENC_STATUS_DR = s.is .ENC_STATUS_DR := congrArg (· == 1) (State.get_set_fld _ (by decide) ..)
  clear_value s1
  split_ifs with h
  · rw [State.encIrq_frame]
    refine ⟨?_, fun _ => s1.bit_putB .ENC_EVENT_RECOVERED true 0 0 (b := x) hx, ?_⟩
    · exact (congrArg (bit · x) (s1.get_set_fld (f := .ENC_EVENT_RECOVERED) (g := .ENC_STATUS_VALID) (by decide) _ 0 0 0 0)).trans h1
    · exact (congrArg (· == 1) (s1.get_set_fld (f := .ENC_EVENT_RECOVERED) (g := .ENC_STATUS_DR) (by decide) _ 0 0 0 0)).trans h2
  · exact ⟨h1, fun hf => absurd hf h, h2⟩

/-- The position that a valid encoder takes. -/
def State.rebased (s : State) (x : Nat) (e : Scale) : State :=
  let a := s.encf x 0 1
  let dr := x == 0 && s.is .ENC_STATUS_DR
  let held := if dr then s.stepsToCounts 0 (s.axPos 0) + e.slip0
    else if x ≠ 0 ∧ a ≤ 3 then s.stepsToCounts x (s.axPos a) else s.encPos x
  let p := nearest held e.phase
  let s := (s.seti .ENC_POS_COUNTS p 0 x).setScale x { e with bad := 0, fault := 0, faulted := false, far := p, past := [] }
  if x = 0 then
    let s := if dr then s.setSat .ENC_REBASE_COUNTS (p - held) else s
    ({ s with line := { s.line with noSlave := dr || s.line.noSlave }, seq := { s.seq with within := 0 } } : State).off .ENC_STATUS_DR
      |>.showSlip
  else s

theorem exec_encoderRecover {s : State} {x : Nat} (hu : s.encUsed x = true) (hv : s.encValid x = false) (hg : 4096 ≤ (s.scale x).good) :
    exec (.encoderRecover x) s = .next ((s.validAgain x).rebased x (s.scale x)) :=
  (exec_when (i := .encoderRecover x) (s := s) rfl (by simp [hu, hv, hg])).trans rfl

/-- The end of dead reckoning. -/
theorem State.rejoined_reads (s : State) (l : Timeline) (q : Seq) : (fun t : State => Touches [.ENC_STATUS_DR, .ENC_SLIP_COUNTS] s t ∧
      t.is .ENC_STATUS_DR = false ∧ t.line = l) (State.off { s with line := l, seq := q } .ENC_STATUS_DR).showSlip := by
  have h1 : Touches [.ENC_STATUS_DR, .ENC_SLIP_COUNTS] s (State.off { s with line := l, seq := q } .ENC_STATUS_DR) :=
    (Touches.of_regs (s := s) (t := { s with line := l, seq := q }) rfl).set (by decide) 0 0 0
  have h2 : (State.off { s with line := l, seq := q } .ENC_STATUS_DR).is .ENC_STATUS_DR = false := State.is_off_same ..
  have h3 : (State.off { s with line := l, seq := q } .ENC_STATUS_DR).line = l := rfl
  generalize State.off { s with line := l, seq := q } .ENC_STATUS_DR = u at *
  refine ⟨h1.set (by decide) _ 0 0, ?_, h3⟩
  exact (congrArg (· == 1) (u.get_set_fld (f := .ENC_SLIP_COUNTS) (g := .ENC_STATUS_DR) (by decide) _ 0 0 0 0)).trans h2

theorem State.rebased_reads (s : State) (x : Nat) (e : Scale) : (fun t : State =>
      Touches [.ENC_POS_COUNTS, .ENC_REBASE_COUNTS, .ENC_STATUS_DR, .ENC_SLIP_COUNTS] s t ∧
      (x = 0 → t.is .ENC_STATUS_DR = false ∧ (s.is .ENC_STATUS_DR = true → t.line.noSlave = true))) (s.rebased x e) := by
  unfold State.rebased
  extract_lets a dr held p s1 s2 q
  have h1 : Touches [.ENC_POS_COUNTS, .ENC_REBASE_COUNTS, .ENC_STATUS_DR, .ENC_SLIP_COUNTS] s s1 :=
    (Touches.refl _ s).set (f := .ENC_POS_COUNTS) (by decide) _ 0 x
  split_ifs with h0
  · have h2 : Touches [.ENC_POS_COUNTS, .ENC_REBASE_COUNTS, .ENC_STATUS_DR, .ENC_SLIP_COUNTS] s s2 := by
      unfold s2
      split_ifs
      · exact h1.set (f := .ENC_REBASE_COUNTS) (by decide) _ 0 0
      · exact h1
    obtain ⟨r1, r2, r3⟩ := s2.rejoined_reads { s2.line with noSlave := dr || s2.line.noSlave } { q with within := 0 }
    refine ⟨h2.trans (r1.mono (by decide)), fun _ => ⟨r2, fun hd => ?_⟩⟩
    refine (congrArg Timeline.noSlave r3).trans ?_
    change (dr || s2.line.noSlave) = true
    simp [dr, h0, hd]
  · exact ⟨h1, fun h => absurd h h0⟩

/-- The limit of dead reckoning noted. -/
def State.drEnded (s : State) : State :=
  let s := ({ s with line := { s.line with drOver := true } } : State).on .ENC_EVENT_DR_LIMIT
  if s.is .ENC_IRQ_DR_EN then s.msix (s.get .ENC_IRQ_VECTOR) else s

theorem exec_drLimit {s : State} (hd : s.is .ENC_STATUS_DR = true) (ho : s.is .MOT_STATUS_OWN = true) (hn : s.line.drOver = false)
    (hl : s.line.drBase + s.encf 0 0x14 4 ≤ s.get .ENC_DR_LINES) : exec .drLimit s = .next
      (if s.drEnded.phase = 3 ∨ s.drEnded.phase = 4 then { s.drEnded with line := { s.drEnded.line with stay := true } } else s.drEnded.plainStop 0) :=
  (exec_when (i := .drLimit) (s := s) rfl (by simp [hd, ho, hn, hl])).trans rfl

theorem State.drEnded_reads (s : State) : (fun t : State => Moves [.ENC_EVENT_DR_LIMIT] s t ∧ t.is .ENC_EVENT_DR_LIMIT = true ∧
      t.line.drOver = true ∧ t.is .MOT_STATUS_JOB = s.is .MOT_STATUS_JOB ∧ t.axes = s.axes) s.drEnded := by
  unfold State.drEnded
  extract_lets l s1
  have h1 : Moves [.ENC_EVENT_DR_LIMIT] s s1 := ((Moves.refl [.ENC_EVENT_DR_LIMIT] s).setLine _).set (by decide) ..
  have h2 : s1.is .ENC_EVENT_DR_LIMIT = true := by simp [s1, table_form, stepWidths]
  have h3 : s1.line.drOver = true := rfl
  have h4 : s1.axes = s.axes := rfl
  clear_value s1
  split_ifs
  · have hf := s1.msix_frame (s1.get .ENC_IRQ_VECTOR)
    generalize s1.msix (s1.get .ENC_IRQ_VECTOR) = t at *
    have ht : Moves [.ENC_EVENT_DR_LIMIT] s1 t := by
      rw [hf]
      exact ⟨rfl, Touches.of_regs rfl⟩
    have hr : t.regs = s1.regs := by rw [hf]
    have hi : ∀ f, t.is f = s1.is f := fun f => by
      unfold State.is State.get
      rw [hr]
    exact ⟨h1.trans ht, by rw [hi]; exact h2, by rw [hf]; exact h3, (h1.trans ht).is (by decide) 0 0, by rw [hf]; exact h4⟩
  · exact ⟨h1, h2, h3, h1.is (by decide) 0 0, h4⟩

theorem State.plainStop_drOver (s : State) : (s.plainStop 0).line.drOver = s.line.drOver := by
  unfold State.plainStop
  extract_lets s1
  obtain ⟨-, -, -, -, ⟨n, h⟩⟩ := s.rampStop_reads 0 (0 == 0 && decide (5 ≤ s.phase))
  exact (congrArg Timeline.drOver h :)

/-- Settles O45: it holds. Each step of the backstep is the motion layer's operation with the phase written after it. -/
theorem backstepAndFaults : Obligations.BackstepAndFaults := by
  unfold Obligations.BackstepAndFaults
  refine ⟨?raise, ?slaved, ?lateMine, ?lateOther, ?start, ?assist, ?stopped, ?plain, ?jobEnd, ?positioned, ?runUp, ?runUpAssist, ?runUpNot,
    ?settle, ?resumeDr, ?resumeGood, ?resumeSlaved, ?fault, ?recover, ?drLimit⟩
  case raise =>
    intro s r y hy hm
    subst hy
    exact ⟨_, exec_lineEventRaise s r hm, State.raiseLine_reads ..⟩
  case slaved =>
    intro s hs hw
    exact ⟨_, exec_when (i := .slavedModeExit) (s := s) rfl (by simp [hs, hw]), onlyRegs_set .., by simp [table_form]⟩
  case lateMine =>
    intro s k y new ho hn
    have hi : exec (.dataLateReport k y) s = execDataLateReport k y s := rfl
    unfold execDataLateReport at hi
    dsimp only at hi
    rw [if_pos (by exact ho)] at hi
    subst hn
    exact ⟨_, hi, rfl⟩
  case lateOther =>
    intro s k y ho h
    have hi : exec (.dataLateReport k y) s = execDataLateReport k y s := rfl
    unfold execDataLateReport at hi
    dsimp only at hi
    have hc : (s.lateDue.contains (k, y) || s.role == roleBar || s.role == rolePress) = true := by
      simp only [Bool.or_eq_true, beq_iff_eq]
      tauto
    rw [if_neg (by exact fun e => Bool.false_ne_true (ho.symm.trans e)), if_pos (by exact hc)] at hi
    exact ⟨_, hi, rfl⟩
  case start =>
    intro s ho hm hf hd hp
    refine ⟨_, exec_backstepStart ho hm hf hd hp, ?_⟩
    have hb : s.blamed.line = s.line ∧ s.blamed.moving' 0 = s.moving' 0 ∧ (s.line.blame = none → s.blamed.pages = s.pages) ∧
        ∀ y, s.line.blame = some y → s.blamed.pages = (s.blamePage y).pages := by
      unfold State.blamed
      cases s.line.blame with
      | none => exact ⟨rfl, rfl, fun _ => rfl, fun y h => absurd h (by simp)⟩
      | some z => exact ⟨rfl, rfl, fun h => absurd h (by simp), fun y h => congrArg (fun y => (s.blamePage y).pages) (Option.some.inj h)⟩
    obtain ⟨b1, b2, b3, b4⟩ := hb
    generalize s.blamed = u at *
    obtain ⟨r1, -, ⟨m, q, r3, r4⟩, -, ⟨p, r5⟩⟩ := u.rampStop_reads 0 (u.phase != 0)
    have r4 := r4 (b2.trans hm)
    obtain ⟨w1, w2, w3⟩ := (u.rampStop 0 (u.phase != 0)).taken_reads (s.axis 0)
    generalize (u.rampStop 0 (u.phase != 0)).taken (s.axis 0) = v at *
    have hpg : v.pages = u.pages := w1.pages.trans r1.pages
    refine ⟨State.phase_set _ (by decide), ?_, rfl, rfl, rfl, rfl, rfl, ?_, fun h => hpg.trans (b3 h), fun y h => hpg.trans (b4 y h)⟩
    · rw [State.axis_set]
      refine w2.trans ?_
      rw [r3]
      exact r4
    · refine (congrArg Timeline.late (w3.trans r5)).trans ?_
      rw [← b1]
  case assist =>
    intro s x d hx ho hm hf hl hmode hp hfin hld hk
    have hi : exec .backstepAssistedApply s = execBackstepAssistedApply s := rfl
    unfold execBackstepAssistedApply at hi
    rw [hx] at hi
    dsimp only at hi
    rw [State.when_of _ _ (by rcases hfin with h | h <;> simp [ho, hm, hf, hl, hmode, hp, h, hld])] at hi
    simp only [Option.map_some, Option.getD_some] at hi
    obtain ⟨f1, f2, f3⟩ := s.finalLine_reads x.handle d 4 hk
    have hxs : x ∈ s.sets := State.mem_of_setLines hx
    generalize s.finalLine x.handle d 4 = u at *
    have hany : u.sets.any (fun z => z.handle == x.handle) = true := by
      have h : s.sets.any (fun z => z.handle == x.handle) = true := List.any_eq_true.2 ⟨x, hxs, by simp⟩
      rcases f2 with f2 | f2
      · rw [f2, h]
      · rw [f2, finalSets_any, h]
    have hm' : u.moving' 0 = true := by
      rw [f1]
      exact hm
    rw [State.when_of _ _ hany] at hi
    obtain ⟨p1, p2, ⟨m, q, p3, p4⟩, -⟩ := u.planLast_reads d
    generalize u.planLast d = v at *
    refine ⟨_, hi, State.phase_set _ (by decide), rfl, (congrArg Axis.mode p3).trans (p4 hm'), fun hn z hz hzh => ?_⟩
    have hz' : z ∈ finalSets s.sets x.handle d 4 := by
      rw [← f3 ⟨x, hxs, rfl, hn⟩, ← p1.sets]
      exact hz
    obtain ⟨w, -, rfl⟩ := List.mem_map.1 hz'
    split_ifs at hzh ⊢ with hw
    · exact ⟨rfl, rfl, rfl⟩
    · exact absurd hzh hw
  case stopped =>
    intro s ho hp hst hj ha
    have he := exec_backstepStopped ho hp hst
    have hw := s.webHalted_reads
    generalize s.webHalted = u at he hw
    have hla : u.line.assisted = none := by
      rw [hw.line]
      exact ha
    rw [if_neg (by rw [hw.jobDone, hj]; decide), hla] at he
    dsimp only at he
    rw [if_neg (by decide)] at he
    have hs := u.position_reads
    have hm := hw.moves
    rw [hw.lineAt, hw.unfired, State.runUp_congr hm.sects, State.mf_congr hm.sects, State.stepsPerLine_congr hm.sects, hw.axis] at hs
    have hpl := u.placed_moves
    have hlim := State.limitOn_congr (s := s) (t := u.placed) (hpl.sects.trans hm.sects) ((hpl.get (by decide) 0 0).trans (hm.get (by decide) 0 0))
      ((hpl.get (by decide) 0 0).trans (hm.get (by decide) 0 0))
    have hax : u.placed.axPos 0 = s.axPos 0 := (hpl.axPos (by decide) 0).trans hw.axPos
    have hstop : u.position.line.pStop = s.axPos 0 := hs.stop.trans hw.axPos
    have hres : u.placed.get .MOT_BS_RESUME_LINE = s.unfired % 2 ^ Fld.MOT_BS_RESUME_LINE.desc.width :=
      (State.get_set_same ..).trans (by rw [hw.unfired])
    refine ⟨_, he, ?_, hstop, hs.place, (hs.moves.get (by decide) 0 0).trans hres, fun hne hl => ?_, fun hne hl => ?_, fun heq => ?_⟩
    · exact (hs.moves.is (by decide) 0 0).trans ((hpl.is (by decide) 0 0).trans hw.running)
    · rw [hs.place, hstop] at hne hl
      exact hs.goes (by rw [hax]; exact hne) (by rw [hlim, hax]; exact hl)
    · rw [hs.place, hstop] at hne hl
      exact hs.held (by rw [hax]; exact hne) (by rw [hlim, hax]; exact hl)
    · rw [hs.place, hstop] at heq
      exact ⟨(hs.there (by rw [hax]; exact heq)).1, (hs.there (by rw [hax]; exact heq)).2.1⟩
  case plain =>
    intro s d ho hp hst hj ha hlate hun hpos
    have he := exec_backstepStopped ho hp hst
    have hw := s.webHalted_reads
    generalize s.webHalted = u at he hw
    have hla : u.line.assisted = some d := by
      rw [hw.line]
      exact ha
    have hll : u.line.late = [] := by
      rw [hw.line]
      exact hlate
    rw [if_neg (by rw [hw.jobDone, hj]; decide), hla] at he
    dsimp only at he
    rw [hll, hw.unfired, hw.axPos, hw.lineAt, if_pos (by simp [hun, hpos])] at he
    have hm : ((u.set .MOT_BS_RESUME_LINE s.unfired).set .MOT_STATUS_BS_PHASE 4).moving' 0 = false :=
      (State.moving_set _ (by decide) ..).trans ((State.moving_set _ (by decide) ..).trans hw.still)
    have hph : ((u.set .MOT_BS_RESUME_LINE s.unfired).set .MOT_STATUS_BS_PHASE 4).phase = 4 := State.phase_set _ (by decide)
    have hv : Moves [.MOT_BS_RESUME_LINE, .MOT_STATUS_BS_PHASE] u ((u.set .MOT_BS_RESUME_LINE s.unfired).set .MOT_STATUS_BS_PHASE 4) :=
      ((Moves.refl [.MOT_BS_RESUME_LINE, .MOT_STATUS_BS_PHASE] u).set (by decide) ..).set (by decide) ..
    have hl : ((u.set .MOT_BS_RESUME_LINE s.unfired).set .MOT_STATUS_BS_PHASE 4).line = u.line := rfl
    generalize (u.set .MOT_BS_RESUME_LINE s.unfired).set .MOT_STATUS_BS_PHASE 4 = v at *
    obtain ⟨d1, -, d3⟩ := v.stopsDone_reads
    refine ⟨_, he, (d1.phase (by decide)).trans hph, (d1.moving (by decide) 0).trans hm, ?_, ?_⟩
    · rw [d3, hl, hla]
    · exact (d1.axPos (by decide) 0).trans ((hv.axPos (by decide) 0).trans hw.axPos)
  case jobEnd =>
    intro s ho hp hst hj
    have he := exec_backstepStopped ho hp hst
    have hw := s.webHalted_reads
    generalize s.webHalted = u at he hw
    rw [if_pos (hw.jobDone.trans hj)] at he
    obtain ⟨o1, -, -, -, o5, -⟩ := u.restOps_reads 0 true stDone
    generalize u.restOps 0 true = v at *
    obtain ⟨c1, -, -, -⟩ := v.countBackstep_reads
    have cj : v.countBackstep.jobEnds = v.jobEnds := by
      unfold State.countBackstep
      split_ifs <;> rfl
    generalize v.countBackstep = w at *
    obtain ⟨j1, -, -, j4, j5⟩ := w.endJob_reads
    generalize w.endJob = x at *
    refine ⟨_, he, x.phase_set (by decide), (State.moving_set _ (by decide) ..).trans ?_, ?_, ?_, ?_⟩
    · exact (j1.moving (by decide) 0).trans ((c1.moving (by decide) 0).trans ((o1.moving (by decide) 0).trans hw.still))
    · exact j4.trans (by rw [cj, o5, hw.jobEnds])
    · exact (congrArg Timeline.late j5).trans rfl
    · exact (congrArg Timeline.fired j5).trans rfl
  case positioned =>
    intro s ho hp hst hr
    have he := exec_when (i := .backstepPositioned) (s := s) rfl (by simp [ho, hp, hst])
    obtain ⟨r1, -, -, -, r5, -, r7⟩ := s.restAxis_reads 0
    generalize s.restAxis 0 = u at he r1 r5 r7
    have hax := r1.axPos (by decide) 0
    have hrev : u.revFor u.line.raised = s.axPos 0 := by
      rw [State.revFor_congr r1.sects (by rw [r7]; rfl) (by rw [r7]; rfl) (by rw [r5]; rfl), r7]
      exact hr
    have hs := u.setOut_reads
    obtain ⟨h1, h2, h3⟩ := hs.there (hrev.trans hax.symm)
    exact ⟨_, he, h1, h2, h3, (hs.moves.axPos (by decide) 0).trans hax⟩
  case runUp =>
    intro s o ho hp hr ha hl
    have he := exec_backstepRunUp ho hp hr
    rw [ha] at he
    dsimp only at he
    rw [if_neg (by rw [hl]; decide)] at he
    obtain ⟨-, w2, w3, -, w5, -, w7, w8⟩ := s.startAxis_reads (a := 0) (by decide) true { s.axis 0 with mode := 5, cruise := (s.axis 0).aim }
    generalize s.startAxis 0 true _ = u at *
    refine ⟨_, he, State.phase_set _ (by decide), (State.moving_set _ (by decide) ..).trans w2, ?_, congrArg Axis.mode w5, congrArg Axis.cruise w5, ?_, ?_⟩
    · exact (congrArg (bit · 0) (State.get_set_fld _ (by decide) ..)).trans w3
    · exact (State.axPos_congr (State.get_set_fld _ (by decide) ..)).trans w7
    · exact (congrArg Timeline.raised w8).trans rfl
  case runUpAssist =>
    intro s o d ho hp hr ha
    have he := exec_backstepRunUp ho hp hr
    rw [ha] at he
    dsimp only at he
    have hg : (s.assistNoted d).get .MOT_GAP_LINES = (((s.axPos 0 + s.runUp 0 (s.axis 0).aim + s.mf 0 0x28 2 * s.stepsPerLine) - s.lineAt d) /
        (s.stepsPerLine : Int)).toNat % 2 ^ Fld.MOT_GAP_LINES.desc.width := State.get_set_same ..
    have h1 : (s.assistNoted d).line = { s.line with y0 := d, p0 := s.axPos 0 + s.runUp 0 (s.axis 0).aim + s.mf 0 0x28 2 * s.stepsPerLine, raised := d, assisted := none } := rfl
    generalize s.assistNoted d = u at *
    have hres : ∀ t : State, (t.line = u.line.rested ∨ t.line = { u.line with hard := false, turn := false }) → t.get .MOT_GAP_LINES = u.get .MOT_GAP_LINES →
        t.line.y0 = d ∧ t.line.raised = d ∧ t.line.assisted = none ∧ t.line.p0 = s.axPos 0 + s.runUp 0 (s.axis 0).aim + s.mf 0 0x28 2 * s.stepsPerLine ∧
        t.get .MOT_GAP_LINES = ((t.line.p0 - s.lineAt d) / (s.stepsPerLine : Int)).toNat % 2 ^ Fld.MOT_GAP_LINES.desc.width := fun t hl hgt => by
      rw [hgt, hg]
      rcases hl with hl | hl <;> rw [hl, h1] <;> exact ⟨rfl, rfl, rfl, rfl, rfl⟩
    refine ⟨_, he, ?_⟩
    split_ifs
    · obtain ⟨w1, -, -, w4⟩ := u.holdWeb_reads
      exact hres _ (.inl w4) (w1.get (by decide) 0 0)
    · obtain ⟨w1, -, -, -, -, -, -, w8⟩ := u.startAxis_reads (a := 0) (by decide) true { u.axis 0 with mode := 5, cruise := (s.axis 0).aim }
      generalize u.startAxis 0 true _ = v at w1 w8 ⊢
      exact hres _ (.inr w8) ((v.get_set_fld (f := .MOT_STATUS_BS_PHASE) (by decide) ..).trans (w1.get (by decide) 0 0))
  case runUpNot =>
    intro s o hp hr
    exact ⟨s, exec_of rfl (if_neg (by simp [hp, hr])), rfl⟩
  case settle =>
    intro s ho hp hv ha
    exact ⟨_, exec_when (i := .backstepSettle) (s := s) rfl (by simp [ho, hp, hv, ha]), onlyRegs_set .., State.phase_set _ (by decide)⟩
  case resumeDr =>
    intro s ho hp hd hdr
    have he := exec_resumeTest ho hp hd
    rw [hdr, Bool.true_or, if_pos rfl, State.measured_dr hdr] at he
    obtain ⟨u1, -, u3, u4, u5, u6⟩ := s.unverified_reads
    generalize ((s.bump .MOT_BS_COUNT_UNVERIFIED).set .MOT_BS_ERR_SPEED 0).set .MOT_BS_ERR_POS 0 = u at *
    have hr := u.resume_resumes
    refine ⟨_, he, hr.phase, (hr.moves.get (by decide) 0 0).trans u4, (hr.moves.get (by decide) 0 0).trans u5, (hr.moves.get (by decide) 0 0).trans u6,
      hr.mode, fun h => hr.late (by rw [u3]; exact h), hr.live, fun h => ?_⟩
    rw [hr.count (by rw [u3]; exact h), u1.get (by decide) 0 0]
  case resumeGood =>
    intro s v want slip n d ho hp hd hdr hsl hn hdd hv hw hs hokv hokp
    have he := exec_resumeTest ho hp hd
    obtain ⟨e, p, hm⟩ := State.measured_enc hdr
    have u1 := s.errorsShown_moves e p
    have u2 := s.errorsShown_frame e p
    rw [← hm] at u1 u2
    generalize s.measured = u at *
    have hl : u.line = s.line := by rw [u2]
    have hin : s.inLimits = true := by
      unfold State.inLimits
      dsimp only
      rw [← hn, ← hdd, ← hv, ← hw, ← hs, decide_eq_true hokv, decide_eq_true hokp]
      rfl
    rw [hdr, hin, u1.is (by decide) 0 0, hsl, if_pos (by decide)] at he
    have hr := u.resume_resumes
    refine ⟨_, he, hr.phase, hr.mode, hr.fails, hr.live, fun h => ?_⟩
    rw [hr.count (by rw [hl]; exact h), u1.get (by decide) 0 0]
  case resumeSlaved =>
    intro s ho hp hd hdr hsl
    have he := exec_resumeTest ho hp hd
    obtain ⟨e, p, hm⟩ := State.measured_enc hdr
    have u1 := s.errorsShown_moves e p
    have u2 := s.errorsShown_frame e p
    rw [← hm] at u1 u2
    generalize s.measured = u at *
    have hl : u.line = s.line := by rw [u2]
    rw [hdr, u1.is (by decide) 0 0, hsl, if_neg (by simp)] at he
    obtain ⟨w1, w2, w3, w4, w5⟩ := u.resumeFails_reads
    rw [hl] at w2 w4 w5
    exact ⟨_, he, w1.trans (by rw [u1.get (by decide) 0 0]), w2, fun h => w3 ((u1.moving (by decide) 0).trans h), w4, w5⟩
  case fault =>
    intro s x hu hf
    have hx : x < 4 := by
      unfold State.encUsed at hu
      simp only [Bool.and_eq_true, decide_eq_true_eq] at hu
      exact hu.1
    have he := exec_encoderFault hu hf
    obtain ⟨n1, n2, n3⟩ := s.encFaultNoted_reads hx
    generalize s.encFaultNoted x = u at *
    obtain ⟨a1, a2, a3, a4, a5, a6⟩ := State.faultActs_reads n1
    refine ⟨_, he, a1, a2, a3, a4, a5, a6, fun h0 hr => ?_⟩
    have hc : (u.is .MOT_STATUS_OWN || u.role == rolePress || u.role == roleTrio) = true := by
      rw [n2, n3]
      rcases hr with h | h | h <;> simp [h]
    unfold State.faultActs
    rw [if_pos h0, if_pos hc]
    obtain ⟨-, -, d3, d4, d5⟩ := u.drStarted_reads
    exact ⟨d3, d4, d5⟩
  case recover =>
    intro s x hu hv hg
    have hx : x < 4 := by
      unfold State.encUsed at hu
      simp only [Bool.and_eq_true, decide_eq_true_eq] at hu
      exact hu.1
    have he := exec_encoderRecover hu hv hg
    obtain ⟨n1, n2, n3⟩ := s.validAgain_reads hx
    generalize s.validAgain x = u at *
    obtain ⟨r1, r2⟩ := u.rebased_reads x (s.scale x)
    refine ⟨_, he, ?_, fun h => ?_, fun h => ⟨(r2 h).1, fun hd => (r2 h).2 (n3.trans hd)⟩⟩
    · exact (congrArg (bit · x) (r1 .ENC_STATUS_VALID 0 0 (by decide))).trans n1
    · exact (congrArg (bit · x) (r1 .ENC_EVENT_RECOVERED 0 0 (by decide))).trans (n2 h)
  case drLimit =>
    intro s hd ho hn hl
    have he := exec_drLimit hd ho hn hl
    obtain ⟨h1, h2⟩ := s.drEnded_reads
    generalize s.drEnded = u at *
    obtain ⟨i1, i2, i3, i4⟩ := h2
    refine ⟨_, he, ?_⟩
    split_ifs with hp
    · refine ⟨i1, i2, i3, fun _ h => ?_⟩
      rw [h1.phase (by decide), h] at hp
      omega
    · obtain ⟨w1, w2, w3, -⟩ := u.plainStop_reads 0
      exact ⟨(w1.is (by decide) 0 0).trans i1, u.plainStop_drOver.trans i2, (w1.is (by decide) 0 0).trans i3, fun h _ => w3 ((h1.moving (by decide) 0).trans h)⟩

end Sys2Proof.Machine
end

section
/-! PROOF. Cameras. -/

namespace Sys2Proof.Machine

-- One lemma after the other: elaborated side by side, they ask for more threads than the compile may have.
set_option Elab.async false

/-! ## Cameras -/

/-- Widths of fields. -/
theorem camWidths : Fld.CAM_STATUS_LINK.desc.width = 1 ∧ Fld.CAM_STATUS_PAIRED.desc.width = 1 := ⟨rfl, rfl⟩

@[simp] theorem State.cam_setCam (s : State) (x : Nat) (m : Cam) : (s.setCam x m).cam x = m := look_store_same ..
theorem State.cam_setCam_ne (s : State) {x y : Nat} (m : Cam) (h : y ≠ x) : (s.setCam x m).cam y = s.cam y := look_store_ne _ _ _ h
theorem State.cam_of_cams {s t : State} (h : t.cams = s.cams) (x : Nat) : t.cam x = s.cam x := congrArg (look _ · x) h

theorem State.toRanges_frame (s : State) (x : Nat) (f : Nat → Nat × Nat × Nat × Nat → Out) : s.toRanges x f = { s with outbox := (s.toRanges x f).outbox } := by
  unfold State.toRanges
  refine State.each_keeps (P := fun u => u = { s with outbox := u.outbox }) 16 _ (fun u j hu => ?_) s rfl
  dsimp only
  split_ifs
  · exact hu
  · rw [hu]
    rfl

/-- From `s` to `t` frames of camera `x` are lost: its triggers stay, and of the registers only its counts of lost frames change. -/
structure Loses (x : Nat) (s t : State) : Prop where
  frame : t = { s with regs := t.regs, cams := t.cams, encs := t.encs, outbox := t.outbox }
  touches : Touches [.CAM_LOST_COUNT, .CAM_LOST_CAUSE] s t
  trigs : (t.cam x).trigs = (s.cam x).trigs
  others : ∀ y, y ≠ x → t.cam y = s.cam y

theorem Loses.refl (x : Nat) (s : State) : Loses x s s := ⟨rfl, Touches.refl _ s, rfl, fun _ _ => rfl⟩

theorem Loses.trans {x : Nat} {s t u : State} (h : Loses x s t) (h' : Loses x t u) : Loses x s u :=
  ⟨by rw [h'.frame, h.frame], h.touches.trans h'.touches, h'.trigs.trans h.trigs, fun y hy => (h'.others y hy).trans (h.others y hy)⟩

theorem State.loseOne_loses (s : State) (x f cause : Nat) : Loses x s (s.loseOne x f cause) := by
  unfold State.loseOne
  extract_lets m s1 s2
  split_ifs
  · exact Loses.refl x s
  · have h2 : Loses x s s2 :=
      ⟨rfl, ((Touches.of_regs (s := s) (t := s1) rfl).set (by decide) _ x 0).set (by decide) _ x 0, (congrArg Cam.trigs (s.cam_setCam x _)).trans rfl,
        fun y hy => s.cam_setCam_ne _ hy⟩
    clear_value s2
    have h3 : Loses x s2 (s2.encDrop x f) := ⟨rfl, Touches.of_regs rfl, rfl, fun _ _ => rfl⟩
    have hf := (s2.encDrop x f).toRanges_frame x (fun j r => .wort "lostNotice" [r.2.2.1, r.2.2.2, x, j, f])
    generalize s2.encDrop x f = u at *
    refine (h2.trans h3).trans ?_
    generalize State.toRanges _ _ _ = v at hf ⊢
    rw [hf]
    exact ⟨rfl, Touches.of_regs rfl, rfl, fun _ _ => rfl⟩

theorem State.loseFrame_loses (s : State) (x f cause : Nat) : Loses x s (s.loseFrame x f cause) := by
  unfold State.loseFrame
  extract_lets needs before s1
  have h1 : Loses x s s1 := s.loseOne_loses ..
  cases before with
  | some g => exact h1.trans (State.loseOne_loses ..)
  | none => exact h1

theorem clampInt_le {lo hi x : Int} (h : lo ≤ hi) : clampInt lo hi x ≤ hi := by
  unfold clampInt
  split_ifs <;> omega

/-- A packet on a camera that is on. -/
theorem exec_shortPacket {s : State} {x : Nat} (h : s.camOn x = true) (hdr vc dt : Nat) : exec (.csiShortPacket x hdr vc dt) s = .next
    (if 2 ≤ hdr then s.badHeader x
    else
      let s := if hdr = 1 then s.bump .CAM_PHY_ERR_ECC_CORR 1 x else s
      match s.streamOf x vc with
      | none => s.bump .CAM_PHY_ERR_DT_DROP 1 x
      | some i => if dt = 0 then s.frameStart x i else if dt = 1 then s.frameEnd x i else s) :=
  exec_when (i := .csiShortPacket x hdr vc dt) (s := s) rfl h

/-- A short packet with a sound header. -/
theorem exec_shortPacket_sound {s : State} {x : Nat} (h : s.camOn x = true) (vc dt : Nat) : exec (.csiShortPacket x 0 vc dt) s = .next
    (match s.streamOf x vc with
      | none => s.bump .CAM_PHY_ERR_DT_DROP 1 x
      | some i => if dt = 0 then s.frameStart x i else if dt = 1 then s.frameEnd x i else s) := exec_shortPacket h 0 vc dt

/-- A long packet with a sound header. -/
theorem exec_longPacket_sound {s : State} {x : Nat} (h : s.camOn x = true) (vc dt wc : Nat) (ok : Bool) (px : List Nat) :
    exec (.csiLongPacket x 0 vc dt wc ok px) s = .next
    (match s.streamOf x vc with
      | none => s.bump .CAM_PHY_ERR_DT_DROP 1 x
      | some i =>
        if dt ≠ s.camDt x then s.bump .CAM_PHY_ERR_DT_DROP 1 x
        else
          let n := s.cf x 6 2
          let cur := (s.cam x).at i
          if !ok || 8 * wc != n * dtBits dt then
            let s := s.bump .CAM_PHY_ERR_CRC_FAIL 1 x
            match cur.1 with
            | some f => s.loseFrame x f 2
            | none => s
          else match cur.1 with
            | some f => s.rowLine x i f cur.2 (pixelsOf dt n (px.map (fun p => p % 2 ^ (if dt = 0x24 then 8 else dtBits dt))))
            | none => s) :=
  exec_when (i := .csiLongPacket x 0 vc dt wc ok px) (s := s) rfl h

/-- A camera set twice, and a pin pulsed. -/
theorem State.pinned_reads (s : State) (x : Nat) (m n : Cam) (o : Out) : (fun t : State => t.cam x = n ∧ t.outbox = o :: s.outbox ∧
      (∀ y, y ≠ x → t.cam y = s.cam y) ∧ t = { s with cams := t.cams, outbox := t.outbox }) (((s.setCam x m).setCam x n).out o) := by
  have hx := (s.setCam x m).cam_setCam x n
  have hy : ∀ y, y ≠ x → ((s.setCam x m).setCam x n).cam y = s.cam y := fun y hy => by
    rw [State.cam_setCam_ne _ _ hy, State.cam_setCam_ne _ _ hy]
  have hf : (s.setCam x m).setCam x n = { s with cams := ((s.setCam x m).setCam x n).cams } := rfl
  generalize (s.setCam x m).setCam x n = u at hx hy hf ⊢
  have ho : u.outbox = s.outbox := by rw [hf]
  exact ⟨hx, congrArg (o :: ·) ho, hy, by rw [hf]; rfl⟩

theorem State.paused_setCam (s : State) (x : Nat) (m : Cam) :
    (s.setCam x m).is .ISP_STATUS_PAUSED ((s.setCam x m).pipeOf x) = s.is .ISP_STATUS_PAUSED (s.pipeOf x) := rfl

/-- A planned trigger fired on a camera that is on. -/
theorem exposureTrigger_runs (s : State) {x c w : Nat} {l : List (Nat × Nat)} (hp : (s.cam x).planned = (c, w) :: l) (hon : s.camOn x = true)
    (hn : (s.cam x).next = c ∧ c ≠ 0 ∨ (s.cam x).next = 0 ∧ s.frameOf x c = c) (hpa : s.is .ISP_STATUS_PAUSED (s.pipeOf x) = false)
    (hl : (s.cam x).trigs.length < 16) : Runs (.exposureTrigger x) s (fun t => (t.cam x).planned = l ∧ (t.cam x).next = c + max 1 (s.cf x 2 1) ∧
      (t.cam x).trigs = (s.cam x).trigs ++ [{ line := c, left := 2 ^ s.cf x 1 1 - 1 }] ∧
      t.outbox = .pin "CAM_TRIG_N" x (s.cf x 0xA 2) :: s.outbox ∧ (∀ y, y ≠ x → t.cam y = s.cam y) ∧
      t = { s with cams := t.cams, outbox := t.outbox }) := by
  have hi : exec (.exposureTrigger x) s = execExposureTrigger x s := rfl
  unfold execExposureTrigger at hi
  dsimp only at hi
  rw [hp] at hi
  dsimp only at hi
  rw [if_neg (by simp [hon])] at hi
  have hk : c - (if (if (s.cam x).next = 0 then s.frameOf x c else (s.cam x).next) < c then
      (if (s.cam x).next = 0 then s.frameOf x c else (s.cam x).next) else c) = 0 := by
    rcases hn with ⟨h1, h2⟩ | ⟨h1, h2⟩
    · rw [if_neg (by omega : ¬ (s.cam x).next = 0), h1]
      simp
    · rw [if_pos h1, h2]
      simp
  generalize (if (if (s.cam x).next = 0 then s.frameOf x c else (s.cam x).next) < c then
      (if (s.cam x).next = 0 then s.frameOf x c else (s.cam x).next) else c) = sk at hi hk
  rw [hk, Nat.zero_div, List.range_zero, List.foldl_nil, State.cam_setCam] at hi
  rw [State.paused_setCam, hpa, if_neg (by decide), if_neg (by omega)] at hi
  refine ⟨_, hi, ?_⟩
  generalize hm : ({ s.cam x with planned := l, next := c + max 1 (s.cf x 2 1) } : Cam) = m
  obtain ⟨r1, r2, r3, r4⟩ := s.pinned_reads x m { m with
    frames := if decide (s.frameOf x c < m.top) = true then m.frames else m.frames ++ [{ no := s.frameOf x c, time := (s.setCam x m).clock.stamp }]
    top := max m.top (s.frameOf x c + 1)
    trigs := m.trigs ++ [{ line := c, left := 2 ^ (s.setCam x m).cf x 1 1 - 1 }] } (.pin "CAM_TRIG_N" x ((s.setCam x m).cf x 0xA 2))
  refine ⟨(congrArg Cam.planned r1).trans ?_, (congrArg Cam.next r1).trans ?_, (congrArg Cam.trigs r1).trans ?_, r2, r3, r4⟩
  · exact (congrArg Cam.planned hm).symm
  · exact (congrArg Cam.next hm).symm
  · change m.trigs ++ _ = _
    rw [← hm]
    rfl

/-- A closing trigger after a job. -/
theorem closingTrigger_runs (s : State) {x n : Nat} (hon : s.camOn x = true) (ha : s.axStopped = true) (hj : s.is .MOT_STATUS_JOB = false)
    (ht : (s.cam x).trigs = []) (hp : (s.cam x).planned = []) (hf : (s.cam x).frames = []) (hc : (s.cam x).closing = n + 1) :
    Runs (.jobEndClosingTrigger x) s (fun t => t.cam x = { s.cam x with closing := n, next := if n = 0 then 0 else (s.cam x).next } ∧
      t.outbox = .pin "CAM_TRIG_N" x (s.cf x 0xA 2) :: s.outbox ∧ t = { s with cams := t.cams, outbox := t.outbox }) := by
  have he := exec_when (i := .jobEndClosingTrigger x) (s := s) rfl (by simp [hon, ha, hj, ht, hp])
  have hlost : s.loseAll x 5 = s := by
    unfold State.loseAll
    rw [hf]
    rfl
  rw [hf, hc, hlost] at he
  dsimp only [List.isEmpty_nil] at he
  rw [if_pos rfl, if_neg (Nat.succ_ne_zero n)] at he
  have hn : (if n + 1 = 1 then 0 else (s.cam x).next) = if n = 0 then 0 else (s.cam x).next := if_congr (by omega) rfl rfl
  rw [hn] at he
  exact ⟨_, he, (s.cam_setCam x _).trans rfl, rfl, rfl⟩

/-- Settles O46: it holds. A frame that is lost leaves the triggers of its camera and every other camera. -/
theorem cameras : Obligations.Cameras := by
  unfold Obligations.Cameras
  refine ⟨?trigger, ?timeout, ?closing, ?link, ?header, ?drop, ?corrected, ?start, ?end_, ?row, ?crc, ?type, ?record, ?shadow, ?correct, ?colour⟩
  case trigger => exact fun s x c w l hp hon hn hpa hl => exposureTrigger_runs s hp hon hn hpa hl
  case timeout =>
    intro s x g l ht hon
    have hi : exec (.frameLatencyTimeout x) s = execFrameLatencyTimeout x s := rfl
    unfold execFrameLatencyTimeout at hi
    dsimp only at hi
    rw [ht] at hi
    dsimp only at hi
    rw [State.when_of _ _ hon] at hi
    have h := (s.setCam x { s.cam x with trigs := l }).loseFrame_loses x (s.frameOf x g.line) 3
    exact ⟨_, hi, rfl, h.trigs.trans (congrArg Cam.trigs (s.cam_setCam x _)), fun y hy => (h.others y hy).trans (s.cam_setCam_ne _ hy)⟩
  case closing => exact fun s x n hon ha hj ht hp hf hc => closingTrigger_runs s hon ha hj ht hp hf hc
  case link =>
    intro s x up hx hp
    exact ⟨_, exec_when (i := .csiLinkChange x up) (s := s) rfl (by simp [hx, hp]), onlyRegs_set .., by simp [table_form, camWidths]⟩
  case header =>
    intro s x h v d hon hh
    refine ⟨_, (exec_shortPacket hon h v d).trans (congrArg _ (if_pos hh)), rfl, ?_⟩
    unfold State.badHeader
    dsimp only
    split
    · rw [(State.loseFrame_loses ..).touches _ _ _ (by decide)]
      exact State.get_bump_same ..
    · exact State.get_bump_same ..
  case drop =>
    intro s x v d hon hn
    have he := exec_shortPacket_sound hon v d
    rw [hn] at he
    exact ⟨_, he, onlyRegs_set .., State.get_bump_same ..⟩
  case corrected =>
    intro s x v d i hon hst h0 h1
    have he := exec_shortPacket hon 1 v d
    rw [if_neg (by decide)] at he
    dsimp only at he
    rw [if_pos rfl] at he
    have hst' : (s.bump .CAM_PHY_ERR_ECC_CORR 1 x).streamOf x v = some i := hst
    rw [hst'] at he
    dsimp only at he
    rw [if_neg h0, if_neg h1] at he
    exact ⟨_, he, onlyRegs_set .., State.get_bump_same ..⟩
  case start =>
    intro s x v i g hon hst ha hg
    have he := exec_shortPacket_sound hon v 0
    rw [hst] at he
    dsimp only at he
    rw [if_pos rfl] at he
    unfold State.frameStart at he
    rw [ha] at he
    dsimp only at he
    rw [hg] at he
    refine ⟨_, he, s.cam_setCam x _, by simp [table_form, camWidths], rfl⟩
  case end_ =>
    intro s x v i hon hst
    have he := exec_shortPacket_sound hon v 1
    rw [hst] at he
    exact ⟨_, he, rfl⟩
  case row =>
    intro s x v i f wc px hon hst hw ha
    have he := exec_longPacket_sound hon v (s.camDt x) wc true px
    rw [hst] at he
    dsimp only at he
    rw [if_neg (by simp), if_neg (by simp [hw]), ha] at he
    exact ⟨_, he, rfl⟩
  case crc =>
    intro s x v i wc px hon hst ha
    have he := exec_longPacket_sound hon v (s.camDt x) wc false px
    rw [hst] at he
    dsimp only at he
    rw [if_neg (by simp), if_pos (by simp), ha] at he
    exact ⟨_, he, onlyRegs_set .., State.get_bump_same ..⟩
  case type =>
    intro s x v d wc ok px hon hd
    have he := exec_longPacket_sound hon v d wc ok px
    refine ⟨_, he, ?_⟩
    cases hst : s.streamOf x v with
    | none => exact ⟨onlyRegs_set .., State.get_bump_same ..⟩
    | some i =>
      dsimp only
      rw [if_pos (hd.resolve_left (by simp [hst]))]
      exact ⟨onlyRegs_set .., State.get_bump_same ..⟩
  case record =>
    intro s x g l hf hon hs
    have hi : exec (.frameRecordSend x) s = execFrameRecordSend x s := rfl
    unfold execFrameRecordSend at hi
    rw [hf] at hi
    dsimp only at hi
    rw [State.when_of _ _ (by simp [hon, hs])] at hi
    have ht := s.toRanges_frame x (fun j q => .wort "statsRecord" ([q.2.2.1, q.2.2.2, x, j] ++ (s.statsRecord x j g).map BitVec.toNat))
    generalize s.toRanges x _ = u at *
    have hx := u.cam_setCam x { u.cam x with frames := l }
    have hu : u.cam x = s.cam x := State.cam_of_cams (by rw [ht]) x
    have hst : (u.setCam x { u.cam x with frames := l }).get .CAM_STALE_COUNT x = s.get .CAM_STALE_COUNT x := by
      rw [ht]
      rfl
    have hfr : u.setCam x { u.cam x with frames := l } = { s with cams := (u.setCam x { u.cam x with frames := l }).cams, outbox := (u.setCam x { u.cam x with frames := l }).outbox } := by
      generalize u.cam x = m
      rw [ht]
      rfl
    generalize u.setCam x { u.cam x with frames := l } = v at *
    refine ⟨_, hi, ?_⟩
    have hw : v.get .CAM_STALE_COUNT x = s.get .CAM_STALE_COUNT x := hst
    split_ifs
    · refine ⟨hx.trans (by rw [hu]), (State.get_set_fld _ (by decide) ..).trans (State.get_set_same ..), ?_, by rw [hfr]; rfl⟩
      rw [State.get_bump_same, State.get_set_fld _ (by decide), hw]
    · refine ⟨hx.trans (by rw [hu]), State.get_set_same .., (State.get_set_fld _ (by decide) ..).trans hw, by rw [hfr]; rfl⟩
  case shadow =>
    intro s i x hi hr hx hx8 hs hp hsh
    have he := exec_when_reach (i := .ispShadowApply i) (s := s) rfl (decide_eq_true hi) hr
    unfold State.ispApply at he
    rw [← hx, State.when_of _ _ (by simp [hx8, hs, hp, hsh])] at he
    exact ⟨_, he, s.cam_setCam x _, fun y hy => s.cam_setCam_ne _ hy, rfl⟩
  case correct =>
    intro s x r px v hv
    unfold State.correctRow at hv
    obtain ⟨j, -, rfl⟩ := List.mem_map.1 hv
    exact Nat.min_le_left ..
  case colour =>
    intro m off inp v hv
    unfold colour at hv
    obtain ⟨o, -, rfl⟩ := List.mem_map.1 hv
    have := clampInt_le (lo := 0) (hi := 16383) (x := (((List.range 3).map (fun r => m o r * (inp.getD r 0 : Nat))).sum + 2048) / 4096 + off o) (by decide)
    omega

end Sys2Proof.Machine
end

section
/-! PROOF. The gravity loop. -/

namespace Sys2Proof.Machine

-- One lemma after the other: elaborated side by side, they ask for more threads than the compile may have.
set_option Elab.async false

/-! ## The gravity loop -/

@[simp] theorem State.grav_setGrav (s : State) (c : Nat) (g : Grav) : (s.setGrav c g).grav c = g := look_store_same ..
theorem State.grav_setGrav_ne (s : State) {c n : Nat} (g : Grav) (h : n ≠ c) : (s.setGrav c g).grav n = s.grav n := look_store_ne _ _ _ h
theorem State.grav_of_gravs {s t : State} (h : t.gravs = s.gravs) (c : Nat) : t.grav c = s.grav c := congrArg (look _ · c) h

@[simp] theorem Grav.nz_setNz (g : Grav) (n : Nat) (x : Noz) : (g.setNz n x).nz n = x := look_store_same ..
theorem Grav.nz_setNz_ne (g : Grav) {n k : Nat} (x : Noz) (h : k ≠ n) : (g.setNz n x).nz k = g.nz k := look_store_ne _ _ _ h

theorem clampInt_ge {lo hi x : Int} (h : lo ≤ hi) : lo ≤ clampInt lo hi x := by
  unfold clampInt
  split_ifs <;> omega

/-! ### Lines and frames -/

theorem State.takeAligned_reads (s : State) (c frame line div : Nat) (vals : List Nat) : (fun t : State =>
      (∃ w, (t.grav c).work = some w ∧ w.no = frame) ∧ (t.grav c).window = (s.grav c).window ∧ (∀ n, n ≠ c → t.grav n = s.grav n) ∧
      t.dram = s.dram ∧ t.chans = s.chans) (s.takeAligned c frame line div vals) := by
  unfold State.takeAligned
  extract_lets n g w lines t live och w'
  have hw : w.no = frame := by
    unfold w
    cases g.work with
    | none => rfl
    | some v =>
      dsimp only
      split_ifs with h
      · exact h
      · rfl
  have hset : ∀ v : GravWork, v.no = frame → (fun t : State => (∃ w, (t.grav c).work = some w ∧ w.no = frame) ∧ (t.grav c).window = (s.grav c).window ∧
      (∀ n, n ≠ c → t.grav n = s.grav n) ∧ t.dram = s.dram ∧ t.chans = s.chans) (s.setGrav c { g with work := some v }) := fun v hv =>
    ⟨⟨v, (congrArg Grav.work (s.grav_setGrav c _)).trans rfl, hv⟩, (congrArg Grav.window (s.grav_setGrav c _)).trans rfl, fun n hn => s.grav_setGrav_ne _ hn, rfl, rfl⟩
  split_ifs
  · exact hset w hw
  · exact hset { w with miss := true } hw
  · refine hset w' ?_
    refine List.foldlRecOn (motive := fun v : GravWork => v.no = frame) _ _ hw fun v hv j _ => ?_
    split
    · exact hv
    · exact hv

theorem State.releaseTail_frame (s : State) (c y : Nat) : s.releaseTail c y = { s with chans := (s.releaseTail c y).chans } := rfl

/-! ### Tables -/

theorem leNat_leBytes (n v : Nat) : leNat (leBytes n v) = v % 256 ^ n := by
  induction n generalizing v with
  | zero => rw [pow_zero, Nat.mod_one]; rfl
  | succ n ih =>
    have h : leNat (leBytes (n + 1) v) = v % 256 + 256 * leNat (leBytes n (v / 256)) := by
      rw [leBytes, leNat, BitVec.toNat_ofNat]
    rw [h, ih, pow_succ', Nat.mod_mul]

theorem length_flatMap_le (l : List Nat) : (l.flatMap (leBytes 4)).length = 4 * l.length := by
  induction l with
  | nil => rfl
  | cons x l ih => rw [List.flatMap_cons, List.length_append, ih, length_leBytes, List.length_cons]; omega

theorem drop_flatMap_le (l : List Nat) (n : Nat) : (l.flatMap (leBytes 4)).drop (4 * n) = (l.drop n).flatMap (leBytes 4) := by
  induction n generalizing l with
  | zero => rfl
  | succ n ih =>
    cases l with
    | nil => simp
    | cons x l =>
      rw [List.flatMap_cons, List.drop_succ_cons, ← ih, show 4 * (n + 1) = (leBytes 4 x).length + 4 * n by rw [length_leBytes]; omega,
        List.drop_append, List.drop_of_length_le (by omega)]
      simp

theorem tableBytes_parts (h : Nat) (l : List Nat) : ∃ head : List Byte, head.length = 16 ∧ tableBytes h l = head ++ l.flatMap (leBytes 4) :=
  ⟨_, by simp only [List.length_append, length_leBytes], rfl⟩

/-- An entry of a table that was written. -/
theorem rds_table (m : Memory) (a h : Nat) (l : List Nat) {n : Nat} (hn : n < l.length) :
    Memory.rds (Memory.wrs m a (tableBytes h l)) (a + 0x10 + 4 * n) 4 = leBytes 4 (l.getD n 0) := by
  obtain ⟨head, hh, hb⟩ := tableBytes_parts h l
  have hlen : (tableBytes h l).length = 16 + 4 * l.length := by rw [hb, List.length_append, hh, length_flatMap_le]
  have hd : (tableBytes h l).drop (16 + 4 * n) = leBytes 4 (l.getD n 0) ++ (l.drop (n + 1)).flatMap (leBytes 4) := by
    rw [hb, List.drop_append, List.drop_of_length_le (by omega), List.nil_append, show 16 + 4 * n - head.length = 4 * n by omega, drop_flatMap_le,
      List.drop_eq_getElem_cons hn, List.flatMap_cons, List.getD_eq_getElem?_getD, List.getElem?_eq_getElem hn]
    rfl
  refine List.ext_getElem (by rw [length_leBytes]; simp [Memory.rds]) fun j h1 h2 => ?_
  rw [length_leBytes] at h2
  simp only [Memory.rds, List.getElem_map, List.getElem_range]
  rw [show a + 0x10 + 4 * n + j = a + (16 + 4 * n + j) by omega, Memory.rd_wrs_in _ _ _ _ (by omega)]
  have hg : (tableBytes h l).getD (16 + 4 * n + j) 0 = ((tableBytes h l).drop (16 + 4 * n)).getD j 0 := by
    simp only [List.getD_eq_getElem?_getD, List.getElem?_drop]
  rw [hg, hd, List.getD_eq_getElem?_getD, List.getElem?_append_left (by rw [length_leBytes]; exact h2), List.getElem?_eq_getElem (by rw [length_leBytes]; exact h2)]
  rfl

theorem State.setTable_frame (s : State) (c : Nat) (l : List Nat) : s.setTable c l = { s with regs := (s.setTable c l).regs, dram := (s.setTable c l).dram } := rfl

theorem State.gravTable_length (s : State) (c : Nat) : (s.gravTable c).length = s.chNozzles c := by
  unfold State.gravTable
  rw [List.length_map, List.length_range]

/-- A table that was written reads back. -/
theorem State.gravTable_setTable (s : State) (c : Nat) {l : List Nat} (hl : l.length = s.chNozzles c) (hb : ∀ e ∈ l, e < 2 ^ 32) :
    (s.setTable c l).gravTable c = l := by
  have ha : (s.setTable c l).tblAddr c = s.tblAddr c := by
    unfold State.tblAddr
    exact congrArg (· + 0x4000 * c) (State.get_set_fld _ (by decide) ..)
  have hn : (s.setTable c l).chNozzles c = l.length := hl.symm
  unfold State.gravTable
  rw [hn, ha]
  refine List.ext_getElem (by simp) fun j h1 h2 => ?_
  rw [List.getElem_map, List.getElem_range]
  change leNat (Memory.rds (Memory.wrs s.dram (s.tblAddr c) (tableBytes (s.chan c).headId l)) (s.tblAddr c + 0x10 + 4 * j) 4) = _
  rw [rds_table _ _ _ _ h2, leNat_leBytes, List.getD_eq_getElem?_getD, List.getElem?_eq_getElem h2]
  exact Nat.mod_eq_of_lt (hb _ (List.getElem_mem h2))

theorem mkEnt_lt (g : Nat) (out host : Bool) (t : Nat) : mkEnt g out host t < 2 ^ 32 := by
  unfold mkEnt b2n
  split_ifs <;> omega

/-- The nozzles whose next trial needs no wait. -/
def waiving (t : List Nat) (g : Grav) (n : Nat) : Grav := if entOut (t.getD n 0) then g.setNz n { g.nz n with waive := true } else g

theorem waived (t : List Nat) (g : Grav) (m : Nat) : ∀ n, (n < m → entOut (t.getD n 0) = true → (((List.range m).foldl (waiving t) g).nz n).waive = true) := by
  induction m with
  | zero => exact fun n h => absurd h (Nat.not_lt_zero n)
  | succ m ih =>
    intro n hn ho
    rw [List.range_succ, List.foldl_append, List.foldl_cons, List.foldl_nil]
    generalize (List.range m).foldl (waiving t) g = v at ih ⊢
    unfold waiving
    by_cases hm : n = m
    · subst hm
      rw [if_pos ho, Grav.nz_setNz]
    · split_ifs
      · rw [Grav.nz_setNz_ne _ _ hm]
        exact ih n (by omega) ho
      · exact ih n (by omega) ho

/-! ### A new map of curves -/

theorem State.sramWr_reads (s : State) (c a : Nat) (bs : List Byte) : (fun t : State => t = { s with chans := t.chans } ∧
      (t.chan c).gravClr = (s.chan c).gravClr ∧ ∀ n, n ≠ c → t.chan n = s.chan n) (s.sramWr c a bs) :=
  ⟨rfl, (congrArg Chan.gravClr (s.chan_setChan c _)).trans rfl, fun _ hn => s.chan_setChan_ne _ hn⟩

theorem State.writeBank_reads (s : State) (c b : Nat) (map : List Nat) (param : List Byte) (curves : List (Nat × List Byte)) : (fun t : State =>
      t = { s with chans := t.chans } ∧ (t.chan c).gravClr = (s.chan c).gravClr ∧ ∀ n, n ≠ c → t.chan n = s.chan n)
    (s.writeBank c b map param curves) := by
  have hstep : ∀ (u : State) a bs, (u = { s with chans := u.chans } ∧ (u.chan c).gravClr = (s.chan c).gravClr ∧ ∀ n, n ≠ c → u.chan n = s.chan n) →
      (fun t : State => t = { s with chans := t.chans } ∧ (t.chan c).gravClr = (s.chan c).gravClr ∧ ∀ n, n ≠ c → t.chan n = s.chan n) (u.sramWr c a bs) := by
    intro u a bs ⟨h1, h2, h3⟩
    obtain ⟨r1, r2, r3⟩ := u.sramWr_reads c a bs
    exact ⟨by rw [r1, h1], r2.trans h2, fun n hn => (r3 n hn).trans (h3 n hn)⟩
  unfold State.writeBank
  extract_lets s1 s2 size
  have h1 : s1 = { s with chans := s1.chans } ∧ (s1.chan c).gravClr = (s.chan c).gravClr ∧ ∀ n, n ≠ c → s1.chan n = s.chan n :=
    List.foldlRecOn (motive := fun u : State => u = { s with chans := u.chans } ∧ (u.chan c).gravClr = (s.chan c).gravClr ∧ ∀ n, n ≠ c → u.chan n = s.chan n)
      curves _ ⟨rfl, rfl, fun _ _ => rfl⟩ fun u hu k _ => hstep u _ _ hu
  exact hstep _ _ _ (hstep s1 _ _ h1)

theorem trials_kept (t : List Nat) (l : List Nat) (g : Grav) (n : Nat) :
    ((l.foldl (fun g k => g.setNz k { g.nz k with gc := entG (t.getD k 0) }) g).nz n).trial = (g.nz n).trial := by
  refine List.foldlRecOn (motive := fun v : Grav => (v.nz n).trial = (g.nz n).trial) l _ rfl fun v hv k _ => ?_
  by_cases h : n = k
  · subst h
    rw [Grav.nz_setNz]
    exact hv
  · rw [Grav.nz_setNz_ne _ _ h]
    exact hv

/-- What a new map for channel `c` leaves. -/
structure Prepares (c : Nat) (s t : State) : Prop where
  clr : (t.chan c).gravClr = (s.chan c).gravClr
  trial : ∀ n, ((t.grav c).nz n).trial = ((s.grav c).nz n).trial
  others : ∀ m, m ≠ c → t.chan m = s.chan m ∧ t.grav m = s.grav m
  hostMem : t.hostMem = s.hostMem

theorem Prepares.mapped {s u : State} {c : Nat} {g : Grav} (hu : u = { s with chans := u.chans }) (hc : (u.chan c).gravClr = (s.chan c).gravClr)
    (hn : ∀ m, m ≠ c → u.chan m = s.chan m) (hg : ∀ n, (g.nz n).trial = ((s.grav c).nz n).trial) :
    Prepares c s ((u.setGrav c g).setChan c { u.chan c with pendGen := some false }) :=
  { clr := (congrArg Chan.gravClr (State.chan_setChan _ c _)).trans hc
    trial := fun n => by
      rw [show ((u.setGrav c g).setChan c { u.chan c with pendGen := some false }).grav c = g from u.grav_setGrav c g]
      exact hg n
    others := fun m hm => ⟨(State.chan_setChan_ne _ _ hm).trans (hn m hm),
      (u.grav_setGrav_ne g hm).trans (State.grav_of_gravs (by rw [hu]) m)⟩
    hostMem := by
      change u.hostMem = _
      rw [hu] }

theorem State.prepGravity_prepares (s : State) (c : Nat) : Prepares c s (s.prepGravity c) := by
  unfold State.prepGravity
  extract_lets ch t n old free pick new curves size param s1 s2
  split_ifs
  · exact ⟨rfl, fun _ => rfl, fun _ _ => ⟨rfl, rfl⟩, rfl⟩
  · exact ⟨rfl, fun _ => rfl, fun _ _ => ⟨rfl, rfl⟩, rfl⟩
  · have w1 : s1 = { s with chans := s1.chans } := (s.writeBank_reads c (1 - ch.bank) new param curves).1
    have w2 : (s1.chan c).gravClr = (s.chan c).gravClr := (s.writeBank_reads c (1 - ch.bank) new param curves).2.1
    have w3 : ∀ m, m ≠ c → s1.chan m = s.chan m := (s.writeBank_reads c (1 - ch.bank) new param curves).2.2
    have hs : s2 = s1.setGrav c (pick.foldl (fun g k => g.setNz k { g.nz k with gc := entG (t.getD k 0) }) (s1.grav c)) := rfl
    have hg : s1.gravs = s.gravs := by rw [w1]
    clear_value s2 s1
    subst hs
    exact .mapped w1 w2 w3 fun n => (trials_kept _ _ _ n).trans (by rw [State.grav_of_gravs hg])

/-! ### Instructions -/

section
variable {s : State} {c dev port range : Nat}

theorem exec_alignedLine (hb : s.blockOn .gravity 0 = true) (frame line div : Nat) (vals : List Nat) :
    exec (.alignedLineReceive c dev port range frame line div vals) s = .next (if !s.gravSrc c dev port range then s.foreign
      else if s.gravIdle c then s.passAligned c frame div else s.takeAligned c frame line div vals) :=
  (exec_when (i := .alignedLineReceive c dev port range frame line div vals) (s := s) rfl hb).trans rfl

theorem exec_lostNotice (hb : s.blockOn .gravity 0 = true) (hs : s.gravSrc c dev port range = true) (frame span : Nat) :
    exec (.lostNoticeReceive c dev port range frame span) s = .next ((s.setGrav c { s.grav c with
      work := match (s.grav c).work with | some w => if w.no = frame then none else some w | none => none }).releaseTail c (frame + span)) :=
  exec_of (exec_when (i := .lostNoticeReceive c dev port range frame span) (s := s) rfl hb) ((if_neg (by rw [hs]; decide)).trans rfl)

theorem exec_statsRecord {w : GravWork} (hb : s.blockOn .gravity 0 = true) (hs : s.gravSrc c dev port range = true) (hw : (s.grav c).work = some w)
    (n : Nat) (stale : Bool) : exec (.statsRecordReceive c dev port range w.no n stale) s = .next (State.releaseTail (
      if s.gravIdle c || w.miss then s.setGrav c { s.grav c with work := none }
      else (s.setGrav c { s.grav c with work := none }).acceptFrame c w stale) c (w.no + w.div * n)) := by
  refine exec_of (exec_when (i := .statsRecordReceive c dev port range w.no n stale) (s := s) rfl hb) ((if_neg (by rw [hs]; decide)).trans ?_)
  dsimp only
  rw [hw]
  exact if_neg (not_not_intro rfl)

end

/-- What the state of channel `c` is once its nozzle `n` starts a trial. -/
def State.trialStarted (s : State) (c n : Nat) : State :=
  let g := s.grav c
  let z := g.nz n
  let e := (s.gravTable c).getD n 0
  let win := g.window.map (fun (f : GravFrame) => { f with h := f.h.set n 0, b := f.b.set n 0 })
  let s := s.setTable c ((s.gravTable c).set n (mkEnt 4096 false (entHost e) (entT e)))
  let s := s.setGrav c { g.setNz n { gc := if z.gc = 4096 then 4096 else 0, trial := true } with window := win }
  s.setChan c { s.chan c with gravClr := setBit (s.chan c).gravClr n }

theorem exec_backinTrial {s : State} {c n : Nat} (hb : s.blockOn .gravity 0 = true) (hon : s.gravOn c = true) (hi : s.gravIdle c = false)
    (hn : n < s.chNozzles c) (ho : entOut ((s.gravTable c).getD n 0) = true)
    (hw : ((s.grav c).nz n).waive = true ∨ ((s.grav c).nz n).outAt + s.gf 0x1C 4 * 2 ^ min (entT ((s.gravTable c).getD n 0)) 8 ≤ s.seq.next)
    (ht : entT ((s.gravTable c).getD n 0) < s.gf 3 1) (hh : s.hostOut c n = false) :
    exec (.backinTrial c n) s = .next ((s.trialStarted c n).prepGravity c) := by
  refine (exec_when (i := .backinTrial c n) (s := s) rfl ?_).trans rfl
  have hwait : (((s.grav c).nz n).waive || decide (((s.grav c).nz n).outAt + s.gf 0x1C 4 * 2 ^ min (entT ((s.gravTable c).getD n 0)) 8 ≤ s.seq.next)) = true := by
    rw [Bool.or_eq_true, decide_eq_true_eq]
    exact hw
  rw [hb, hon, hi, decide_eq_true hn, ho, hwait, decide_eq_true ht, hh]
  rfl

theorem State.tried_reads {s u : State} (hu : u = { s with regs := u.regs, dram := u.dram }) (c n v : Nat) {g : Grav} (hg : (g.nz n).trial = true) :
    (fun t : State => (t.chan c).gravClr = v ∧ ((t.grav c).nz n).trial = true ∧
      (∀ m, m ≠ c → t.chan m = s.chan m ∧ t.grav m = s.grav m) ∧ t.hostMem = s.hostMem)
    ((u.setGrav c g).setChan c { (u.setGrav c g).chan c with gravClr := v }) := by
  refine ⟨(congrArg Chan.gravClr (State.chan_setChan _ c _)).trans rfl, ?_, fun m hm => ⟨?_, ?_⟩, ?_⟩
  · exact (congrArg (fun g : Grav => (g.nz n).trial) (u.grav_setGrav c g)).trans hg
  · exact (State.chan_setChan_ne _ _ hm).trans (State.chan_of_chans (congrArg State.chans hu) m)
  · exact (u.grav_setGrav_ne g hm).trans (State.grav_of_gravs (congrArg State.gravs hu) m)
  · exact (congrArg State.hostMem hu :)

theorem State.trialStarted_reads (s : State) (c n : Nat) : (fun t : State => (t.chan c).gravClr = setBit (s.chan c).gravClr n ∧
      ((t.grav c).nz n).trial = true ∧ (∀ m, m ≠ c → t.chan m = s.chan m ∧ t.grav m = s.grav m) ∧ t.hostMem = s.hostMem) (s.trialStarted c n) := by
  unfold State.trialStarted
  extract_lets g z e win s1 g1 s2 x
  have hs1 : s1 = { s with regs := s1.regs, dram := s1.dram } := s.setTable_frame c _
  have hg : ({ g1 with window := win } : Grav).nz n = g1.nz n := rfl
  have ht : (g1.nz n).trial = true := congrArg Noz.trial (g.nz_setNz n _)
  have hx : x.gravClr = (s.chan c).gravClr := rfl
  rw [hx]
  exact State.tried_reads hs1 c n _ (g := { g1 with window := win }) (hg ▸ ht)

/-! ### Bindings -/

/-- The fields that the result of a binding writes besides those of its channel. -/
def bindFlds : List Fld := .BAR_UNBOUND_CH :: .BAR_HOLD_REPLACED :: (reportFlds ++ reportedFlds)

theorem State.setBound_bound (s : State) (c : Nat) (b : Bool) : Touches bindFlds (s.set .GRAV_CH_STATUS_BOUND (b2n b) 0 c) (s.setBound c b) := by
  unfold State.setBound
  extract_lets was s1 s2 s3 s4
  have h3 : Touches bindFlds s1 s3 := (Touches.refl _ s1).set (f := .BAR_UNBOUND_CH) (by decide) _ _ _
  have h4 : Touches bindFlds s1 s4 := by
    refine Touches.trans ?_ ((State.noteCoverage_reports _).touches.mono (by decide))
    split_ifs
    · exact h3.trans (Touches.of_regs rfl)
    · exact h3
  split_ifs
  · exact (h4.set (f := .BAR_HOLD_REPLACED) (by decide) 0 0 0).trans (Touches.of_regs rfl)
  · exact h4

theorem State.endRebind_touches (s : State) (r : Rebind) : Touches bindFlds s (s.endRebind r) := by
  unfold State.endRebind
  extract_lets n s1
  split_ifs
  · exact .of_regs rfl
  · have h1 : Touches bindFlds s s1 := .of_regs rfl
    split
    · exact h1.trans ((s1.finish_serves ..).touches.mono (by decide))
    · exact h1.trans ((s1.finish_serves ..).touches.mono (by decide))

theorem bindResult_reads (s : State) (r : Rebind) (c : Nat) {k : Nat} (b : Bool) (hk : k = if b then 0 else 3) : (fun t : State =>
      t.is .GRAV_CH_STATUS_LEARN 0 c = false ∧ t.is .GRAV_CH_STATUS_BOUND 0 c = b) (s.bindResult r c k) := by
  have hb : s.bindResult r c k = (((s.off .GRAV_CH_STATUS_LEARN 0 c).setBound c b).vector .GRAV_EVT_VEC_VECTOR .GRAV_EVT_VEC_EN).endRebind
      (if k = 0 then { r with bound := setBit r.bound c } else { r with failed := r.failed ++ [(c, k)] }) := by
    subst hk
    cases b <;> rfl
  have ht : Touches bindFlds ((s.off .GRAV_CH_STATUS_LEARN 0 c).set .GRAV_CH_STATUS_BOUND (b2n b) 0 c) (s.bindResult r c k) := by
    rw [hb]
    refine ((State.setBound_bound _ c b).trans (Touches.of_regs ?_)).trans (State.endRebind_touches _ _)
    rw [State.vector_frame]
  constructor
  · rw [State.is, ht _ _ _ (by decide), State.get_set_fld _ (by decide)]
    exact s.is_off_same ..
  · rw [State.is, ht _ _ _ (by decide), State.get_set_fits _ _ _ (by cases b <;> rfl)]
    cases b <;> rfl

/-- A channel learns anew. -/
def State.learn (s : State) (c : Nat) : State := ((s.freshTable c).on .GRAV_CH_STATUS_LEARN 0 c).off .GRAV_CH_STATUS_BOUND 0 c

theorem State.learn_reads (s : State) (c : Nat) : (fun t : State => t.rebinds = s.rebinds ∧ t.is .GRAV_CH_STATUS_LEARN 0 c = true ∧
      t.is .GRAV_CH_STATUS_BOUND 0 c = false ∧ ∀ f ∈ [Fld.GRAV_CH_STATUS_LEARN, .GRAV_CH_STATUS_BOUND], ∀ n, n ≠ c → t.is f 0 n = s.is f 0 n) (s.learn c) := by
  unfold State.learn State.freshTable
  extract_lets l
  generalize hu : (s.setTable c l).setGrav c {} = u
  have hr : u.regs = (s.set .GRAV_CH_STATUS_OUT ((l.filter entOut).length) 0 c).regs := by rw [← hu]; rfl
  have hb : u.rebinds = s.rebinds := by rw [← hu]; rfl
  clear_value l
  clear hu
  refine ⟨hb, ?_, State.is_off_same .., fun f hf n hn => ?_⟩
  · exact beq_iff_eq.mpr ((State.get_set_fld _ (by decide) ..).trans (State.get_set_fits (f := .GRAV_CH_STATUS_LEARN) u 0 c rfl))
  · have hk : u.get f 0 n = s.get f 0 n := by
      rw [State.get, hr]
      exact State.get_set_ne s _ _ _ (.inr (.inr hn))
    rw [State.is, State.is, State.off, State.get_set_ne _ _ _ _ (.inr (.inr hn)), State.on, State.get_set_ne _ _ _ _ (.inr (.inr hn)), hk]

theorem learnAll_reads (l : List Nat) (s : State) : (fun t : State => t.rebinds = s.rebinds ∧
      (∀ c ∈ l, t.is .GRAV_CH_STATUS_LEARN 0 c = true ∧ t.is .GRAV_CH_STATUS_BOUND 0 c = false) ∧
      ∀ c, c ∉ l → ∀ f ∈ [Fld.GRAV_CH_STATUS_LEARN, .GRAV_CH_STATUS_BOUND], t.is f 0 c = s.is f 0 c) (l.foldl State.learn s) := by
  induction l generalizing s with
  | nil => exact ⟨rfl, fun _ h => absurd h List.not_mem_nil, fun _ _ _ _ => rfl⟩
  | cons a l ih =>
    obtain ⟨i1, i2, i3⟩ := ih (s.learn a)
    obtain ⟨r1, r2, r3, r4⟩ := s.learn_reads a
    rw [List.foldl_cons]
    generalize l.foldl State.learn (s.learn a) = t at i1 i2 i3 ⊢
    refine ⟨i1.trans r1, fun c hc => ?_, fun c hc f hf => ?_⟩
    · by_cases hl : c ∈ l
      · exact i2 c hl
      · obtain rfl : c = a := (List.mem_cons.mp hc).resolve_right hl
        exact ⟨(i3 c hl _ (by decide)).trans r2, (i3 c hl _ (by decide)).trans r3⟩
    · rw [List.mem_cons, not_or] at hc
      exact (i3 c hc.2 f hf).trans (r4 f hf c hc.1)

theorem gravRebind_learns {s : State} {d : Desc} {h : Nat} (ha : Accepts s d 0x0501 [(0x10, 1), (0x11, 1), (0x18, 8), (0x20, 8), (0x28, 4)])
    (hm : d.p 0x10 1 = 0) (h1 : 1 ≤ d.p 0x11 1) (h2 : d.p 0x11 1 ≤ 100) (hs : d.p 0x20 8 = 0) (hl : d.p 0x28 4 ≠ 0) (hk : d.p 0x18 8 ≠ 0)
    (hb : s.blockOn .gravity 0 = true) (hc : ∀ c, c < 64 → bit (d.p 0x18 8) c = true → s.gravOn c = true ∧ s.rebinding c = false)
    (hh : h = (s.startedLong d 0x0501).1) : Runs (.gravRebind d) s (fun t =>
      t.rebinds = s.rebinds ++ [{ handle := h, mask := d.p 0x18 8, pct := d.p 0x11 1, until_ := s.seq.next + d.p 0x28 4, bound := 0, failed := [] }] ∧
      ∀ c, c < 64 → bit (d.p 0x18 8) c = true → t.is .GRAV_CH_STATUS_LEARN 0 c = true ∧ t.is .GRAV_CH_STATUS_BOUND 0 c = false) := by
  have hi : exec (.gravRebind d) s = execGravRebind d s := rfl
  have hany : (maskList (d.p 0x18 8)).any (fun c => !s.gravOn c || s.rebinding c) = false := by
    rw [List.any_eq_false]
    intro c hm
    obtain ⟨hr, hbit⟩ := List.mem_filter.mp hm
    obtain ⟨g1, g2⟩ := hc c (List.mem_range.mp hr) hbit
    rw [g1, g2]
    decide
  have he := by
    unfold execGravRebind at hi
    dsimp only at hi
    rw [hm, hs, hany, hb] at hi
    exact exec_long hi ha rfl rfl rfl rfl (by simp [hl]) (by simp [h1, h2]) (by simp [hk]) rfl
  rw [← hh] at he
  have hq := s.startedLong_serves d 0x0501
  generalize (s.startedLong d 0x0501).2 = u at he hq
  have hr : u.rebinds = s.rebinds := by rw [hq.frame]
  have hn : u.seq = s.seq := by rw [hq.frame]
  obtain ⟨r1, r2, -⟩ := learnAll_reads (maskList (d.p 0x18 8)) { u with rebinds := u.rebinds ++ [⟨h, d.p 0x18 8, d.p 0x11 1, u.seq.next + d.p 0x28 4, 0, []⟩] }
  refine ⟨_, he, r1.trans (by rw [hr, hn]), fun c hc64 hbit => r2 c (List.mem_filter.mpr ⟨List.mem_range.mpr hc64, hbit⟩)⟩

theorem State.gravTable_setGrav (s : State) (c : Nat) (g : Grav) : (s.setGrav c g).gravTable c = s.gravTable c := rfl

theorem State.resetTrials_reads (s : State) {c : Nat} (hon : s.gravOn c = true) : (fun t : State =>
      t.gravTable c = (s.gravTable c).map (fun e => mkEnt (entG e) (entOut e) (entHost e) 0) ∧
      (∀ n, n < s.chNozzles c → entOut ((s.gravTable c).getD n 0) = true → ((t.grav c).nz n).waive = true) ∧ t.chans = s.chans ∧
      t.hostMem = s.hostMem) (s.resetTrials c) := by
  have he : s.resetTrials c = (s.setTable c ((s.gravTable c).map (fun e => mkEnt (entG e) (entOut e) (entHost e) 0))).setGrav c
      ((List.range (s.gravTable c).length).foldl (waiving (s.gravTable c)) (s.grav c)) := by
    unfold State.resetTrials
    exact if_neg (by rw [hon]; decide)
  have ht := s.gravTable_setTable c (l := (s.gravTable c).map (fun e => mkEnt (entG e) (entOut e) (entHost e) 0))
    (by rw [List.length_map, s.gravTable_length]) fun e hm => by
      obtain ⟨x, -, rfl⟩ := List.mem_map.mp hm
      exact mkEnt_lt ..
  have hf := s.setTable_frame c ((s.gravTable c).map (fun e => mkEnt (entG e) (entOut e) (entHost e) 0))
  rw [he]
  generalize s.setTable c ((s.gravTable c).map (fun e => mkEnt (entG e) (entOut e) (entHost e) 0)) = u at ht hf ⊢
  refine ⟨(u.gravTable_setGrav c _).trans ht, fun n hn ho => ?_, ?_, ?_⟩
  · rw [State.grav_setGrav]
    exact waived _ _ _ n (by rwa [s.gravTable_length]) ho
  · exact (congrArg State.chans hf :)
  · exact (congrArg State.hostMem hf :)

theorem State.lost_reads (s : State) (c frame y : Nat) : (fun t : State => (∀ w, (t.grav c).work = some w → w.no ≠ frame) ∧
      (t.grav c).window = (s.grav c).window ∧ t = { s with gravs := t.gravs, chans := t.chans }) ((s.setGrav c { s.grav c with
      work := match (s.grav c).work with | some w => if w.no = frame then none else some w | none => none }).releaseTail c y) := by
  generalize hk : (match (s.grav c).work with | some w => if w.no = frame then none else some w | none => none) = k
  have hg : ∀ v, ((s.setGrav c v).releaseTail c y).grav c = v := fun v => s.grav_setGrav c v
  refine ⟨fun w hw => ?_, (congrArg Grav.window (hg _)).trans rfl, ?_⟩
  · have hw' : k = some w := (congrArg Grav.work (hg _)).symm.trans hw
    subst hw'
    split at hk
    · split_ifs at hk with h
      obtain rfl := Option.some.inj hk
      exact h
    · exact absurd hk (by simp)
  · rw [State.releaseTail_frame]
    rfl

/-- Settles O47: it holds. Lines and records of another source are counted; the work and the window of a channel are its own; a table that is
written reads back; and the results of a binding write the two bits of their channel, which nothing after them does. -/
theorem gravityLoop : Obligations.GravityLoop := by
  refine ⟨fun s c dev port range frame line div vals hb hs => ?foreign, fun s c dev port range frame line div vals hb hs hi => ?idle,
    fun s c dev port range frame line div vals hb hs hi => ?take, fun s c dev port range frame span hb hs => ?lost,
    fun s c dev port range frame n stale w hb hs hw hn hi hm => ?accepted, fun s c dev port range frame n stale w hb hs hw hn hi => ?dropped,
    fun s c n e hb hon hi hn he ho hw ht hh => ?trial, fun s c hc hr hon => ?reset, fun s c hc hr => ?window,
    fun s d h ha hm h1 h2 hsrc hl hk hb hc hh => gravRebind_learns ha hm h1 h2 hsrc hl hk hb hc hh, fun s c r hf hl hp => ?bound,
    fun s h c r hf hu hl => ?limit, fun s h r hf hu => ?early, fun s c n l live => ?step⟩
  case foreign =>
    exact ⟨_, exec_of (exec_alignedLine hb frame line div vals) (if_pos (by rw [hs]; rfl)), onlyRegs_set .., State.get_bump_same ..⟩
  case idle =>
    refine ⟨_, exec_of (exec_alignedLine hb frame line div vals) ((if_neg (by rw [hs]; decide)).trans (if_pos hi)), rfl,
      ⟨_, congrArg Grav.work (s.grav_setGrav c _), rfl, rfl⟩, (congrArg Grav.window (s.grav_setGrav c _)).trans rfl, rfl⟩
  case take =>
    exact ⟨_, exec_of (exec_alignedLine hb frame line div vals) ((if_neg (by rw [hs]; decide)).trans (if_neg (by rw [hi]; decide))), rfl,
      s.takeAligned_reads c frame line div vals⟩
  case lost => exact ⟨_, exec_lostNotice hb hs frame span, s.lost_reads c frame (frame + span)⟩
  case accepted =>
    subst hn
    exact ⟨_, exec_of (exec_statsRecord hb hs hw n stale) (congrArg (State.releaseTail · c (w.no + w.div * n)) (if_neg (by rw [hi, hm]; decide))), rfl⟩
  case dropped =>
    subst hn
    have hg := s.grav_setGrav c { s.grav c with work := none }
    refine ⟨_, exec_of (exec_statsRecord hb hs hw n stale) (congrArg (State.releaseTail · c (w.no + w.div * n)) (if_pos (by simpa using hi))),
      (congrArg Grav.work hg :), (congrArg Grav.window hg :), ?_⟩
    rw [State.releaseTail_frame]
    rfl
  case trial =>
    subst he
    obtain ⟨r1, r2, r3, r4⟩ := s.trialStarted_reads c n
    have hp := (s.trialStarted c n).prepGravity_prepares c
    exact ⟨_, exec_backinTrial hb hon hi hn ho hw ht hh, hp.clr.trans r1, (hp.trial n).trans r2,
      fun m hm => ⟨(hp.others m hm).1.trans (r3 m hm).1, (hp.others m hm).2.trans (r3 m hm).2⟩, hp.hostMem.trans r4⟩
  case reset => exact ⟨_, exec_when_reach (i := .resetTrials c) (s := s) rfl (decide_eq_true hc) hr, s.resetTrials_reads hon⟩
  case window =>
    exact ⟨_, exec_when_reach (i := .clearWindow c) (s := s) rfl (decide_eq_true hc) hr, s.grav_setGrav c _, fun n hn => s.grav_setGrav_ne _ hn, rfl,
      onlyRegs_set ..⟩
  case bound =>
    have hi : exec (.channelBound c) s = execChannelBound c s := rfl
    unfold execChannelBound at hi
    dsimp only at hi
    rw [hf] at hi
    exact ⟨_, exec_when hi (by rw [hl, decide_eq_true hp]; rfl), rfl, bindResult_reads s r c true rfl⟩
  case limit =>
    have hi : exec (.learnLimit h) s = execLearnLimit h s := rfl
    unfold execLearnLimit at hi
    rw [hf] at hi
    refine ⟨_, exec_of (exec_when hi (decide_eq_true hu)) ?_, rfl, bindResult_reads s r c false rfl⟩
    rw [hl, List.foldl_cons, List.foldl_nil, hf]
  case early =>
    have hi : exec (.learnLimit h) s = execLearnLimit h s := rfl
    unfold execLearnLimit at hi
    rw [hf] at hi
    exact ⟨_, exec_of hi (if_neg (by rw [decide_eq_true_eq]; omega)), rfl⟩
  case step =>
    unfold State.gravStep
    extract_lets w mu h st m
    have h1 := clampInt_ge (lo := -m) (hi := m) (x := Config.gravRound (s.gf 0xC 2 * st / 4096)) (by unfold m; omega)
    have h2 := clampInt_le (lo := -m) (hi := m) (x := Config.gravRound (s.gf 0xC 2 * st / 4096)) (by unfold m; omega)
    unfold m at h1 h2 ⊢
    omega

end Sys2Proof.Machine
end

section
/-! PROOF. Managers and workers. -/

namespace Sys2Proof.Machine

-- One lemma after the other: elaborated side by side, they ask for more threads than the compile may have.
set_option Elab.async false

/-! ## Managers and workers -/

/-! ### Holds -/

/-- The fields that follow a change of the causes of a hold: the power asked for, the bindings and the coverage. -/
def afterHoldFlds : List Fld := [.KILN_HPWR_REQ_REQ, .BAR_UNBOUND_CH, .GRAV_CH_STATUS_BOUND] ++ reportFlds

/-- The fields that a change of the causes of a hold writes. -/
def holdingFlds : List Fld := holdFlds ++ afterHoldFlds

/-- What a change of the causes of a hold changes, its fields among `fs`. -/
structure HoldsOnly (fs : List Fld) (s t : State) : Prop where
  frame : t = { s with
    regs := t.regs, chans := t.chans, learning := t.learning, coverage := t.coverage, outbox := t.outbox, msixPend := t.msixPend }
  touches : Touches fs s t

namespace HoldsOnly
variable {fs : List Fld} {s t u : State}

theorem refl (fs : List Fld) (s : State) : HoldsOnly fs s s := ⟨rfl, Touches.refl _ s⟩

theorem trans (h : HoldsOnly fs s t) (h' : HoldsOnly fs t u) : HoldsOnly fs s u := ⟨by rw [h'.frame, h.frame], h.touches.trans h'.touches⟩

theorem mono {gs : List Fld} (h : HoldsOnly fs s t) (hs : fs ⊆ gs) : HoldsOnly gs s t := ⟨h.frame, h.touches.mono hs⟩

theorem set (h : HoldsOnly fs s t) {f : Fld} (hf : f ∈ fs) (v i k : Nat) : HoldsOnly fs s (t.set f v i k) :=
  h.trans ⟨rfl, (Touches.refl _ t).set hf v i k⟩

theorem setChan (h : HoldsOnly fs s t) (c : Nat) (x : Chan) : HoldsOnly fs s (t.setChan c x) := h.trans ⟨rfl, Touches.of_regs rfl⟩

theorem hpwrReq (h : HoldsOnly fs s t) (hf : .KILN_HPWR_REQ_REQ ∈ fs) (i v : Nat) : HoldsOnly fs s (t.hpwrReq i v) := by
  refine (h.set hf v 0 i).trans ?_
  obtain ⟨hc, -⟩ := (t.set .KILN_HPWR_REQ_REQ v 0 i).cutHeads_reads
  exact ⟨by rw [State.hpwrReq, hc], .of_regs (by rw [State.hpwrReq, hc])⟩

theorem noteCoverage (h : HoldsOnly fs s t) (hf : reportFlds ⊆ fs) : HoldsOnly fs s t.noteCoverage :=
  h.trans ⟨by rw [t.noteCoverage_frame], t.noteCoverage_reports.touches.mono hf⟩

end HoldsOnly

/-- The register fields of the causes, written together. -/
def State.putHold (s : State) (m : Nat) : State :=
  (List.range 8).foldl (fun s i => if i = hRESYNC then s else s.set (holdFlds.getD i .BAR_HOLD_IMAGE) (b2n (bit m i))) s

theorem holdWidths : (∀ f ∈ holdFlds, f.desc.width = 1) ∧ Fld.BAR_COV_MAP_CH.desc.width = 64 ∧ Fld.BAR_COV_CAUSE_FENCED.desc.width = 1 ∧
    Fld.BAR_COV_CAUSE_LOST.desc.width = 1 ∧ Fld.BAR_STATUS_ENUMERATED.desc.width = 1 ∧ Fld.BAR_STATUS_INDEX.desc.width = 9 ∧
    Fld.BAR_STATUS_BAR.desc.width = 4 ∧ Fld.BAR_STATUS_DEVICE.desc.width = 5 := by decide

theorem State.putHold_reads (s : State) (m : Nat) : HoldsOnly holdingFlds s (s.putHold m) ∧
    ∀ i < 8, i ≠ hRESYNC → (s.putHold m).is (holdFlds.getD i .BAR_HOLD_IMAGE) = bit m i := by
  constructor
  · refine List.foldlRecOn (motive := fun u => HoldsOnly holdingFlds s u) _ _ (.refl _ s) fun u hu i hi => ?_
    split_ifs
    · exact hu
    · refine hu.set (List.mem_append_left _ ?_) _ _ _
      rw [List.getD_eq_getElem _ _ (List.mem_range.mp hi : i < holdFlds.length)]
      exact List.getElem_mem _
  · have hd : ∀ j, (b2n (bit m j) == 1) = bit m j := fun j => by cases bit m j <;> rfl
    intro i hi hne
    have hw := holdWidths.1
    unfold State.putHold State.is
    interval_cases i
    all_goals simp [List.range_succ, holdFlds, hRESYNC] at hne hw ⊢
    all_goals simp [State.get_set, hw, hd]

theorem State.setHold_after (s : State) (m : Nat) : HoldsOnly afterHoldFlds (s.putHold m) (s.setHold m) := by
  unfold State.setHold
  extract_lets old before s1 held s2 u s3
  have h2 : HoldsOnly afterHoldFlds s1 s2 := by
    unfold s2
    split_ifs
    · exact ((HoldsOnly.refl _ s1).hpwrReq (by decide) 0 0).hpwrReq (by decide) 1 0
    · exact .refl _ s1
  have h3 : HoldsOnly afterHoldFlds s1 s3 := by
    unfold s3
    split_ifs
    · have hu : HoldsOnly afterHoldFlds s1 { u with learning := 0 } := (h2.set (f := .BAR_UNBOUND_CH) (by decide) _ _ _).trans ⟨rfl, .of_regs rfl⟩
      exact State.each_keeps (P := HoldsOnly afterHoldFlds s1) 64 _ (fun v i hv => hv.set (f := .GRAV_CH_STATUS_BOUND) (by decide) _ _ _) _ hu
    · exact h2
  refine HoldsOnly.noteCoverage ?_ (by decide)
  refine List.foldlRecOn (motive := fun v => HoldsOnly afterHoldFlds s1 v) _ _ h3 fun v hv i _ => ?_
  split_ifs
  · exact hv
  · exact hv.setChan _ _

theorem State.setHold_holds (s : State) (m : Nat) : HoldsOnly holdingFlds s (s.setHold m) :=
  (s.putHold_reads m).1.trans ((s.setHold_after m).mono (by decide))

theorem State.is_setHold (s : State) (m : Nat) {i : Nat} (hi : i < 8) (hn : i ≠ hRESYNC) :
    (s.setHold m).is (holdFlds.getD i .BAR_HOLD_IMAGE) = bit m i := by
  rw [State.is, (s.setHold_after m).touches _ _ _ ?_]
  · exact (s.putHold_reads m).2 i hi hn
  · exact (by decide : ∀ i < 8, holdFlds.getD i .BAR_HOLD_IMAGE ∉ afterHoldFlds) i hi

theorem State.is_holdBit (s : State) {i : Nat} (b : Bool) (hi : i < 8) (hn : i ≠ hRESYNC) :
    (s.holdBit i b).is (holdFlds.getD i .BAR_HOLD_IMAGE) = b := by
  rw [State.holdBit, s.is_setHold _ hi hn, bit, testBit_putBit, if_pos rfl]

/-! ### Judging a device -/

/-- The fields that a record of the Cask writes. -/
def caskFlds : List Fld := [.CASK_STATUS_DEFERRED, .CASK_WEAR_MAX_ERASE, .CASK_WEAR_FREE]

theorem State.showWear_frame (s : State) : s.showWear = { s with regs := s.showWear.regs } := by
  unfold State.showWear
  dsimp only
  split <;> rfl

theorem State.saveBinds_frame (s : State) : s.saveBinds = { s with regs := s.saveBinds.regs, cask := s.saveBinds.cask, fw := s.saveBinds.fw } := by
  unfold State.saveBinds State.caskSave State.caskPut
  split_ifs
  · rfl
  · split
    · unfold State.caskAppend
      extract_lets r
      split
      · rfl
      · rw [State.showWear_frame]
    · rfl

theorem State.showWear_touches (s : State) : Touches caskFlds s s.showWear := by
  unfold State.showWear
  extract_lets u
  have hu : Touches caskFlds s u := (Touches.refl _ s).set (f := .CASK_WEAR_MAX_ERASE) (by decide) _ _ _
  split
  · exact hu.set (f := .CASK_WEAR_FREE) (by decide) _ _ _
  · exact hu

theorem State.saveBinds_touches (s : State) : Touches caskFlds s s.saveBinds := by
  unfold State.saveBinds State.caskSave State.caskPut
  split_ifs
  · exact .refl _ s
  · split
    · unfold State.caskAppend
      extract_lets r
      split
      · exact .refl _ s
      · exact Touches.trans (.of_regs rfl) (State.showWear_touches _)
    · exact Touches.bump (f := .CASK_STATUS_DEFERRED) (.of_regs rfl) (by decide) _ _ _

/-- The fields that numbering and judging devices write. -/
def judgeFlds : List Fld := holdingFlds ++
  [.BAR_COV_CAUSE_HOLD, .TRIO_COMP_COMP, .TRIO_COMP_VALID, .CASK_STATUS_DEFERRED, .CASK_WEAR_MAX_ERASE, .CASK_WEAR_FREE, .FIRE_TRIG_COMP]

/-- What numbering and judging devices change. -/
structure Enrols (s t : State) : Prop where
  frame : t = { s with
    regs := t.regs, chans := t.chans, learning := t.learning, coverage := t.coverage, outbox := t.outbox, msixPend := t.msixPend,
    binds := t.binds, devs := t.devs, cask := t.cask, fw := t.fw }
  touches : Touches judgeFlds s t

namespace Enrols
variable {s t u : State}

theorem refl (s : State) : Enrols s s := ⟨rfl, Touches.refl _ s⟩

theorem trans (h : Enrols s t) (h' : Enrols t u) : Enrols s u := ⟨by rw [h'.frame, h.frame], h.touches.trans h'.touches⟩

theorem set (h : Enrols s t) {f : Fld} (hf : f ∈ judgeFlds) (v i k : Nat) : Enrols s (t.set f v i k) :=
  h.trans ⟨rfl, (Touches.refl _ t).set hf v i k⟩

theorem out (h : Enrols s t) (o : Out) : Enrols s (t.out o) := h.trans ⟨rfl, Touches.of_regs rfl⟩

theorem devs (h : Enrols s t) (l : List Dev) : Enrols s { t with devs := l } := h.trans ⟨rfl, Touches.of_regs rfl⟩

theorem setBind (h : Enrols s t) (i : Nat) (b : Bind) : Enrols s (t.setBind i b) := h.trans ⟨rfl, Touches.of_regs rfl⟩

theorem bindPresent (h : Enrols s t) (i x : Nat) : Enrols s (t.bindPresent i x) := by
  unfold State.bindPresent
  extract_lets b
  split_ifs
  · exact h.setBind _ _
  · exact h

theorem of_holds {fs : List Fld} (h : HoldsOnly fs s t) (hf : fs ⊆ judgeFlds) : Enrols s t := ⟨by rw [h.frame], h.touches.mono hf⟩

theorem setHold (h : Enrols s t) (m : Nat) : Enrols s (t.setHold m) := h.trans (.of_holds (t.setHold_holds m) (by decide))

theorem saveBinds (h : Enrols s t) : Enrols s t.saveBinds :=
  h.trans ⟨by rw [State.saveBinds_frame], t.saveBinds_touches.mono (by decide)⟩

theorem setCause (h : Enrols s t) (i m : Nat) : Enrols s (t.setCause i m) := by
  unfold State.setCause
  split
  · exact h
  · next x _ =>
    extract_lets u
    have hu : Enrols s u := (h.devs _).set (f := .BAR_COV_CAUSE_HOLD) (by decide) _ _ _
    split_ifs
    · exact hu.setHold m
    · exact hu
    · exact hu.out _

theorem writeTrioComps (h : Enrols s t) (l : List Found) (comps : List (Nat × Nat)) (k i : Nat) : Enrols s (t.writeTrioComps l comps k i) := by
  unfold State.writeTrioComps
  split
  · exact h
  · refine List.foldlRecOn (motive := fun v => Enrols s v) _ _ h fun v hv j _ => ?_
    extract_lets m ct v'
    split_ifs
    · exact hv
    · exact (hv.set (f := .TRIO_COMP_COMP) (by decide) _ _ _).set (f := .TRIO_COMP_VALID) (by decide) _ _ _
    · exact hv.out _

theorem get (h : Enrols s t) {f : Fld} (hf : f ∉ judgeFlds) (i k : Nat) : t.get f i k = s.get f i k := h.touches f i k hf

end Enrols

/-- What judging leaves of the devices. -/
theorem HoldsOnly.devs {fs : List Fld} {s t : State} (h : HoldsOnly fs s t) : t.devs = s.devs := by rw [h.frame]
theorem HoldsOnly.binds {fs : List Fld} {s t : State} (h : HoldsOnly fs s t) : t.binds = s.binds := by rw [h.frame]

theorem State.writeTrioComps_devs (s : State) (l : List Found) (comps : List (Nat × Nat)) (k i : Nat) :
    (s.writeTrioComps l comps k i).devs = s.devs := by
  unfold State.writeTrioComps
  split
  · rfl
  · refine List.foldlRecOn (motive := fun v => State.devs v = s.devs) _ _ rfl fun v hv j _ => ?_
    extract_lets m ct v'
    split_ifs
    · exact hv
    · exact hv
    · exact hv

theorem State.bindPresent_devs (s : State) (i x : Nat) : (s.bindPresent i x).devs = s.devs := by
  unfold State.bindPresent
  dsimp only
  split_ifs <;> rfl

/-! ### Numbers -/

theorem walk_cons (links : Nat → List (Option (Nat × Nat))) (pass : Nat → Bool) (n : Nat) (x : Nat × Nat × Nat) (seen : List Nat) :
    ∃ l, walk links pass (n + 1) [x] seen = x :: l := ⟨_, rfl⟩

theorem barNumbers_lt (found : List Found) (before : List Nat) (b : Nat) (m : Nat × Nat × Nat) :
    ∀ n ∈ barNumbers found before b m, n.2.1 = 0xFFFF ∨ n.2.1 < 512 := by
  unfold barNumbers
  extract_lets links bad own
  intro n hn
  obtain ⟨d, -, rfl⟩ := List.mem_map.mp hn
  dsimp only
  split_ifs with h
  · exact .inl rfl
  · refine .inr ?_
    simp only [bad, Bool.or_eq_true, decide_eq_true_eq, not_or] at h
    omega

theorem numbers_lt (found : List Found) : ∀ n ∈ numbers found, n.2.1 = 0xFFFF ∨ n.2.1 < 512 := by
  unfold numbers
  extract_lets links r bars
  refine List.foldlRecOn (motive := fun a : List (Nat × Nat × Nat × Nat) => ∀ n ∈ a, n.2.1 = 0xFFFF ∨ n.2.1 < 512) _ _ (fun n hn => absurd hn List.not_mem_nil) fun a ha b _ n hn => ?_
  rcases List.mem_append.mp hn with h | h
  · exact ha n h
  · exact barNumbers_lt _ _ _ _ n h

/-- The first device numbered is the one that the walk starts from. -/
theorem barNumbers_root (found : List Found) (before : List Nat) : ∃ l, barNumbers found before 0 (0, 0xFF, 0) = (0, 0, 0xFF, 0) :: l := by
  unfold barNumbers
  extract_lets links bad own
  obtain ⟨l, hl⟩ := walk_cons links (fun d => d == 0 || !managerAt found d) found.length (0, 0xFF, 0) [0]
  have ho : ∃ l, own = (0, 0xFF, 0) :: l := by
    unfold own
    rw [hl]
    exact ⟨_, List.filter_cons_of_pos rfl⟩
  obtain ⟨k, hk⟩ := ho
  rw [hk, List.length_cons, List.range_succ_eq_map, List.map_cons]
  exact ⟨_, rfl⟩

theorem numbers_root {found : List Found} (h : rootOf found = 0) : ∃ l, numbers found = (0, 0, 0xFF, 0) :: l := by
  unfold numbers
  rw [h]
  extract_lets links r bars
  obtain ⟨l, hl⟩ := walk_cons links (fun _ => true) found.length (0, 0xFF, 0) [0]
  have hm : managerAt found 0 = true := by
    unfold managerAt
    rw [h]
    rfl
  have hb : ∃ l, bars = (0, 0xFF, 0) :: l := by
    unfold bars r
    rw [hl]
    exact ⟨_, List.filter_cons_of_pos hm⟩
  obtain ⟨k, hk⟩ := hb
  rw [hk, List.length_cons, List.range_succ_eq_map, List.foldl_cons, List.nil_append]
  obtain ⟨q, hq⟩ := barNumbers_root found ([].map Prod.fst)
  refine List.foldlRecOn (motive := fun a => ∃ l, a = (0, 0, 0xFF, 0) :: l) _ _ ⟨q, hq⟩ fun a ⟨v, hv⟩ b _ => ?_
  rw [hv, List.cons_append]
  exact ⟨_, rfl⟩

/-! ### Enumeration -/

theorem State.enumDevice_reads (s : State) (measure : Bool) (found : List Found) (comps : List (Nat × Nat)) (clash : Bool × Bool)
    (n : Nat × Nat × Nat × Nat) : Enrols s (s.enumDevice measure found comps clash n) ∧
      ∀ x ∈ (s.enumDevice measure found comps clash n).devs, x ∈ s.devs ∨ x.index = n.2.1 := by
  unfold State.enumDevice
  split
  · exact ⟨.refl s, fun x hx => .inl hx⟩
  · next x _ =>
    extract_lets comp s1 v m m' s2 s3 b s4 s5 s6
    have h1 : Enrols s s1 := (Enrols.refl s).bindPresent _ _
    have h2 : Enrols s s2 := h1.devs _
    have d2 : ∀ x ∈ s2.devs, x ∈ s.devs ∨ x.index = n.2.1 := by
      intro y hy
      rcases List.mem_append.mp hy with h | h
      · exact .inl (by rwa [show s1.devs = s.devs from s.bindPresent_devs ..] at h)
      · rw [List.mem_singleton.mp h, Dev.unboundIf]
        split_ifs
        · exact .inr rfl
        · exact .inr rfl
    have h3 : Enrols s s3 ∧ s3.devs = s2.devs := by
      unfold s3
      split_ifs
      · exact ⟨h2.out _, rfl⟩
      · exact ⟨h2, rfl⟩
    have h4 : Enrols s s4 ∧ s4.devs = s2.devs := by
      unfold s4
      split_ifs
      · exact ⟨h3.1.setBind _ _, h3.2⟩
      · exact h3
    have h5 : Enrols s s5 ∧ s5.devs = s2.devs := ⟨h4.1.set (f := .BAR_COV_CAUSE_HOLD) (by decide) _ _ _, h4.2⟩
    have h6 : Enrols s s6 ∧ s6.devs = s2.devs := by
      unfold s6
      split_ifs
      · exact ⟨h5.1.writeTrioComps _ _ _ _, (s5.writeTrioComps_devs ..).trans h5.2⟩
      · exact h5
    split_ifs
    · exact ⟨h2.out _, d2⟩
    · exact ⟨h5.1, fun y hy => d2 y (h5.2 ▸ hy)⟩
    · exact ⟨h6.1.setHold _, fun y hy => d2 y (((s6.setHold_holds _).devs.trans h6.2) ▸ hy)⟩
    · exact ⟨h6.1.out _, fun y hy => d2 y (h6.2 ▸ hy)⟩

theorem State.enumAll_reads (s : State) (measure : Bool) (found : List Found) {nums : List (Nat × Nat × Nat × Nat)} (clash : Bool × Bool)
    (hn : ∀ n ∈ nums, n.2.1 = 0xFFFF ∨ n.2.1 < 512) : Enrols s (s.enumAll measure found nums clash) ∧
      ∀ x ∈ (s.enumAll measure found nums clash).devs, x.index = 0xFFFF ∨ x.index < 512 := by
  unfold State.enumAll
  extract_lets comps order s1
  have h1 : Enrols s s1 ∧ ∀ x ∈ s1.devs, x.index = 0xFFFF ∨ x.index < 512 := by
    refine List.foldlRecOn (motive := fun v => Enrols s v ∧ ∀ x ∈ State.devs v, x.index = 0xFFFF ∨ x.index < 512) _ _
      ⟨(Enrols.refl s).devs [], fun x hx => absurd hx List.not_mem_nil⟩ fun v ⟨hv, hd⟩ n hm => ?_
    obtain ⟨r1, r2⟩ := v.enumDevice_reads measure found comps clash n
    refine ⟨hv.trans r1, fun x hx => ?_⟩
    rcases r2 x hx with h | h
    · exact hd x h
    · rw [h]
      refine hn n ?_
      rcases List.mem_append.mp hm with h | h
      · exact List.mem_of_mem_filter h
      · exact List.mem_of_mem_filter h
  split_ifs
  · refine ⟨h1.1.saveBinds, ?_⟩
    rw [State.saveBinds_frame]
    exact h1.2
  · exact h1

theorem State.barEnum_reads (s : State) (h : Nat) (d : Desc) (found : List Found) : (fun t : State => t.is .BAR_STATUS_ENUMERATED = true ∧
      (rootOf found = 0 → t.get .BAR_STATUS_INDEX = 0 ∧ t.get .BAR_STATUS_DEVICE = 0 ∧ t.upPort = none) ∧ t.upLost = false ∧
      (∀ x ∈ t.devs, x.index = 0xFFFF ∨ x.index < 512) ∧ t.dram = s.dram) (s.barEnum h d found) := by
  unfold State.barEnum
  extract_lets measure max addr nums roles clash me i s1 s2 s3 s4 s5 out s6 clashes result
  have h3 : Enrols s2 s3 := by
    unfold s3
    split_ifs
    · exact ((Enrols.refl s2).out _).set (f := .FIRE_TRIG_COMP) (by decide) _ _ _
    · exact .refl s2
  obtain ⟨j4, d4⟩ := s3.enumAll_reads measure found clash (numbers_lt found)
  have h5 : Enrols s2 s5 ∧ ∀ x ∈ s5.devs, x.index = 0xFFFF ∨ x.index < 512 := by
    unfold s5
    split_ifs
    · exact ⟨(h3.trans j4).out _, d4⟩
    · exact ⟨h3.trans j4, d4⟩
  have hend : Serves s6 (if (clash.1 || clash.2) = true then s6.finish h stMismatch result clashes else s6.finish h stDone result) := by
    split_ifs
    · exact s6.finish_serves ..
    · exact s6.finish_serves ..
  have h2 : s2.get .BAR_STATUS_ENUMERATED = 1 ∧ s2.get .BAR_STATUS_INDEX = i % 2 ^ 9 ∧ s2.get .BAR_STATUS_DEVICE = i % 32 % 2 ^ 5 := by
    refine ⟨?_, State.get_set_same _ .BAR_STATUS_INDEX i 0 0, ?_⟩
    · change s1.get .BAR_STATUS_ENUMERATED = 1
      simp [s1, table_form, holdWidths]
    · change s1.get .BAR_STATUS_DEVICE = _
      simp [s1, table_form, holdWidths]
  have hp2 : s2.upPort = if me.2.2.1 < 4 then some me.2.2.1 else none := rfl
  generalize (if (clash.1 || clash.2) = true then s6.finish h stMismatch result clashes else s6.finish h stDone result) = t at hend ⊢
  have hg : ∀ f, f ∉ judgeFlds ++ reportedFlds → t.get f = s2.get f := fun f hf => by
    rw [List.mem_append, not_or] at hf
    exact (hend.get hf.2 0 0).trans (h5.1.get hf.1 0 0)
  have ht : t.upPort = s2.upPort ∧ t.upLost = false ∧ t.devs = s5.devs ∧ t.dram = s.dram := by
    rw [hend.frame]
    change s5.upPort = s2.upPort ∧ s5.upLost = false ∧ s5.devs = s5.devs ∧ s5.dram = s.dram
    rw [h5.1.frame]
    exact ⟨rfl, rfl, rfl, rfl⟩
  obtain ⟨hup, hlost, hdevs, hdram⟩ := ht
  refine ⟨?_, fun hr => ?_, hlost, hdevs ▸ h5.2, hdram⟩
  · rw [State.is, hg _ (by decide), h2.1]
    rfl
  · obtain ⟨l, hl⟩ := numbers_root hr
    have hme : me = (0, 0, 0xFF, 0) := by
      unfold me nums
      rw [hl]
      rfl
    have hi : i = 0 := by
      unfold i
      rw [hme]
      rfl
    rw [hg _ (by decide), hg _ (by decide), h2.2.1, h2.2.2, hi, hup, hp2, hme]
    exact ⟨rfl, rfl, rfl⟩

/-! ### Devices -/

theorem State.dev_index {s : State} {i : Nat} {x : Dev} (h : s.dev i = some x) : x.index = i :=
  beq_iff_eq.mp (List.find?_some (p := fun x : Dev => x.index == i) h)

theorem State.dev_of_devs {s t : State} (h : t.devs = s.devs) (i : Nat) : t.dev i = s.dev i := congrArg (List.find? (fun x : Dev => x.index == i)) h

theorem State.dev_putDev {s : State} {x y : Dev} (h : s.dev x.index = some y) : (s.putDev x).dev x.index = some x := by
  unfold State.putDev State.dev
  rw [List.find?_map]
  have hp : ((fun z : Dev => z.index == x.index) ∘ fun z => if z.index = x.index then x else z) = fun z => z.index == x.index := by
    funext z
    rw [Function.comp_apply]
    split_ifs with hz
    · rw [hz]
    · rfl
  rw [hp, show s.devs.find? (fun z => z.index == x.index) = some y from h, Option.map_some, if_pos (State.dev_index h)]

/-- Causes of another device than this one. -/
theorem State.setCause_reads {s : State} {i : Nat} {x : Dev} (h : s.dev i = some x) (m : Nat) : (fun t : State => Enrols s t ∧
      t.dev i = some { x with cause := m } ∧ t.binds = s.binds) (s.setCause i m) := by
  refine ⟨(Enrols.refl s).setCause i m, ?_⟩
  have hi := State.dev_index h
  have hp : (s.putDev { x with cause := m }).dev i = some { x with cause := m } := by
    rw [← hi] at h ⊢
    exact State.dev_putDev (x := { x with cause := m }) h
  unfold State.setCause
  rw [h]
  dsimp only
  generalize hu : (s.putDev { x with cause := m }).set .BAR_COV_CAUSE_HOLD m 0 i = u
  have hd : u.devs = (s.putDev { x with cause := m }).devs := by rw [← hu]; rfl
  have hb : u.binds = s.binds := by rw [← hu]; rfl
  split_ifs
  · exact ⟨(State.dev_of_devs ((u.setHold_holds m).devs.trans hd) i).trans hp, (u.setHold_holds m).binds.trans hb⟩
  · exact ⟨(State.dev_of_devs hd i).trans hp, hb⟩
  · exact ⟨(State.dev_of_devs hd i).trans hp, hb⟩

theorem State.setCause_binds (s : State) (i m : Nat) : (s.setCause i m).binds = s.binds := by
  cases h : s.dev i with
  | none =>
    unfold State.setCause
    rw [h]
  | some x => exact (State.setCause_reads h m).2.2

theorem State.causeBit_reads {s : State} {i : Nat} {x : Dev} (h : s.dev i = some x) (b : Nat) (on : Bool) : (fun t : State => Enrols s t ∧
      t.dev i = some { x with cause := putBit x.cause b on }) (s.causeBit i b on) := by
  obtain ⟨r1, r2, -⟩ := State.setCause_reads h (putBit x.cause b on)
  have he : s.causeBit i b on = s.setCause i (putBit x.cause b on) := by
    unfold State.causeBit
    rw [h]
  rw [he]
  exact ⟨r1, r2⟩

/-! ### Bindings -/

@[simp] theorem State.bind_setBind (s : State) (i : Nat) (b : Bind) : (s.setBind i b).bind i = b := look_store_same ..
theorem State.bind_setBind_ne (s : State) {i j : Nat} (b : Bind) (h : j ≠ i) : (s.setBind i b).bind j = s.bind j := look_store_ne _ _ _ h
theorem State.bind_of_binds {s t : State} (h : t.binds = s.binds) (i : Nat) : t.bind i = s.bind i := congrArg (look _ · i) h

/-- The binding of an entry, whatever its identity. -/
structure BoundBy (e : List Byte) (b : Bind) : Prop where
  bound : b.bound = true
  expect : b.expect = fieldAt e 0x10 8
  fwMin : b.fwMin = fieldAt e 0x18 4
  fwMax : b.fwMax = fieldAt e 0x1C 4

theorem State.bindPresent_reads {s : State} {i : Nat} {e : List Byte} (h : BoundBy e (s.bind i)) (x : Nat) : BoundBy e ((s.bindPresent i x).bind i) ∧
    ∀ j, j ≠ i → (s.bindPresent i x).bind j = s.bind j := by
  unfold State.bindPresent
  extract_lets b
  split_ifs
  · refine ⟨?_, fun j hj => s.bind_setBind_ne _ hj⟩
    rw [State.bind_setBind]
    exact ⟨h.bound, h.expect, h.fwMin, h.fwMax⟩
  · exact ⟨h, fun _ _ => rfl⟩

/-- The taking of one entry of a list of bindings. -/
def takeBind (persist : Bool) (a : State × Nat) (e : List Byte) : State × Nat :=
  let s := a.1
  let i := fieldAt e 0 2
  let comp := fieldAt e 4 2
  let b : Bind := { bound := true, any := fieldAt e 2 2 == 1, id := fieldAt e 8 8,
                    comp := if comp = 0xFFFF then (s.bind i).comp else comp, expect := fieldAt e 0x10 8,
                    fwMin := fieldAt e 0x18 4, fwMax := fieldAt e 0x1C 4, persist := persist }
  let s := s.setBind i b
  match s.dev i with
  | none => (s, a.2)
  | some x =>
    let s := s.bindPresent i x.id
    let x := { x with comp := if comp = 0xFFFF ∨ !s.compOk comp then x.comp else comp }
    let s := s.putDev x
    let keep := putBit (putBit 0 hRESYNC (bit x.cause hRESYNC)) hTIME (bit x.cause hTIME)
    let m := s.judge x false (i == s.myIndex) ||| keep ||| (putBit (putBit 0 hCONFLICT (bit x.cause hCONFLICT)) hEXCESS (bit x.cause hEXCESS))
    let s := if bit m hREPLACED && !bit x.cause hREPLACED then s.putDev { x with unbound := 2 ^ 64 - 1 } else s
    (s.setCause i m, a.2 + b2n (m == 0))

theorem State.takeBinds_eq (s : State) (persist : Bool) (l : List (List Byte)) : s.takeBinds persist l =
    (if persist then (l.foldl (takeBind persist) (s, 0)).1.saveBinds else (l.foldl (takeBind persist) (s, 0)).1, (l.foldl (takeBind persist) (s, 0)).2) := rfl

theorem takeBind_reads (persist : Bool) (a : State × Nat) (e : List Byte) : BoundBy e ((takeBind persist a e).1.bind (fieldAt e 0 2)) ∧
    ∀ j, j ≠ fieldAt e 0 2 → (takeBind persist a e).1.bind j = a.1.bind j := by
  unfold takeBind
  extract_lets s1 i comp b s2
  have h2 : BoundBy e (s2.bind i) := by
    unfold s2
    rw [State.bind_setBind]
    exact ⟨rfl, rfl, rfl, rfl⟩
  have n2 : ∀ j, j ≠ i → s2.bind j = s1.bind j := fun j hj => State.bind_setBind_ne _ _ hj
  split
  · exact ⟨h2, n2⟩
  · next x _ =>
    extract_lets s3 x' s4 keep m s5
    obtain ⟨h3, n3⟩ := State.bindPresent_reads h2 x.id
    have h5 : s5.binds = s3.binds := by
      unfold s5
      split_ifs
      · rfl
      · rfl
    have hb := (s5.setCause_binds i m).trans h5
    dsimp only
    exact ⟨(State.bind_of_binds hb i).symm ▸ h3, fun j hj => (State.bind_of_binds hb j).trans ((n3 j hj).trans (n2 j hj))⟩

theorem takeBind_all (persist : Bool) {l : List (List Byte)} (a : State × Nat) (hl : (l.map (fun e => fieldAt e 0 2)).Nodup) :
    (∀ e ∈ l, BoundBy e ((l.foldl (takeBind persist) a).1.bind (fieldAt e 0 2))) ∧
    ∀ j, j ∉ l.map (fun e => fieldAt e 0 2) → (l.foldl (takeBind persist) a).1.bind j = a.1.bind j := by
  induction l generalizing a with
  | nil => exact ⟨fun _ h => absurd h List.not_mem_nil, fun _ _ => rfl⟩
  | cons x l ih =>
    rw [List.map_cons, List.nodup_cons] at hl
    obtain ⟨i1, i2⟩ := ih (takeBind persist a x) hl.2
    obtain ⟨r1, r2⟩ := takeBind_reads persist a x
    rw [List.foldl_cons]
    refine ⟨fun e he => ?_, fun j hj => ?_⟩
    · rcases List.mem_cons.mp he with rfl | h
      · rw [i2 _ hl.1]
        exact r1
      · exact i1 e h
    · rw [List.map_cons, List.mem_cons, not_or] at hj
      exact (i2 j hj.2).trans (r2 j hj.1)

theorem State.takeBinds_reads (s : State) (persist : Bool) {l : List (List Byte)} (hl : (l.map (fun e => fieldAt e 0 2)).Nodup) :
    ∀ e ∈ l, BoundBy e ((s.takeBinds persist l).1.bind (fieldAt e 0 2)) := by
  intro e he
  have h := (takeBind_all persist (s, 0) hl).1 e he
  rw [State.takeBinds_eq]
  dsimp only
  split_ifs
  · rw [State.bind_of_binds (t := State.saveBinds _) (by rw [State.saveBinds_frame])]
    exact h
  · exact h

theorem barBind_runs {s : State} {d : Desc} {n : Nat} {e : Nat → List Byte} (ha : Accepts s d 0x0702 [(0x10, 2), (0x12, 1), (0x18, 8)])
    (hn : n = d.p 0x10 2) (h0 : n ≠ 0) (hf : d.p 0x12 1 < 2) (hp : d.p 0x18 8 % 64 = 0) (hm : s.activeManager = true) (hw : s.fwAway = false)
    (he : ∀ i, i < n → e i = Memory.rds s.hostMem (d.p 0x18 8 + 32 * i) 32 ∧
      e i = Memory.rds (s.startedLong d 0x0702).2.hostMem (d.p 0x18 8 + 32 * i) 32)
    (hd : ∀ i j, i < j → j < n → fieldAt (e i) 0 2 ≠ fieldAt (e j) 0 2)
    (hr : ∀ i, i < n → fieldAt (e i) 0 2 < 512 ∧ fieldAt (e i) 2 2 < 2 ∧ fieldAt (e i) 0x18 4 ≤ fieldAt (e i) 0x1C 4 ∧ fieldAt (e i) 6 2 = 0 ∧
      (fieldAt (e i) 2 2 = 1 → fieldAt (e i) 8 8 = 0)) :
    Runs (.barBind d) s (fun t => ∀ i, i < n → BoundBy (e i) (t.bind (fieldAt (e i) 0 2))) := by
  subst hn
  have hl : s.bindEntries d = (List.range (d.p 0x10 2)).map e := List.map_congr_left fun i hi => ((he i (List.mem_range.mp hi)).1).symm
  have hnd : (((List.range (d.p 0x10 2)).map e).map (fun e => fieldAt e 0 2)).Nodup := by
    rw [List.map_map, List.Nodup, List.pairwise_map]
    exact List.pairwise_lt_range.imp_of_mem fun _ hj h => hd _ _ h (List.mem_range.mp hj)
  have hok : bindsOk (s.bindEntries d) = true := by
    rw [hl, bindsOk, decide_eq_true hnd, Bool.true_and, List.all_eq_true]
    intro x hx
    obtain ⟨i, hi, rfl⟩ := List.mem_map.mp hx
    obtain ⟨r1, r2, r3, r4, r5⟩ := hr i (List.mem_range.mp hi)
    simp only [Bool.and_eq_true, decide_eq_true_eq, beq_iff_eq, Bool.not_eq_true', Bool.and_eq_false_iff, bne_eq_false_iff_eq]
    refine ⟨⟨⟨r1, r2, r3⟩, r4⟩, ?_⟩
    by_cases h : fieldAt (e i) 2 2 = 1
    · exact .inr (r5 h)
    · exact .inl (beq_eq_false_iff_ne.mpr h)
  have hi : exec (.barBind d) s = execBarBind d s := rfl
  unfold execBarBind at hi
  dsimp only at hi
  rw [hok, hm, if_neg Bool.false_ne_true] at hi
  have hx := exec_long hi ha rfl rfl rfl rfl rfl (by simp [hf, hp]) (by simp [h0]) rfl
  have hq := s.startedLong_serves d 0x0702
  have hu : (s.startedLong d 0x0702).2.bindEntries d = (List.range (d.p 0x10 2)).map e :=
    List.map_congr_left fun i hi => ((he i (List.mem_range.mp hi)).2).symm
  generalize (s.startedLong d 0x0702).2 = u at hx hq hu
  generalize (s.startedLong d 0x0702).1 = h at hx
  refine ⟨_, exec_of hx (State.firmware_here (hq.fwAway.trans hw) ..), fun i hi => ?_⟩
  have hb := u.takeBinds_reads (bit (d.p 0x12 1) 0) hnd (e i) (List.mem_map.mpr ⟨i, List.mem_range.mpr hi, rfl⟩)
  rw [← hu] at hb
  unfold State.barBind
  dsimp only
  generalize u.takeBinds (bit (d.p 0x12 1) 0) (u.bindEntries d) = r at hb ⊢
  rw [State.bind_of_binds (s := r.1) (by rw [((r.1.out (.wort "bind" (d.param.map BitVec.toNat))).done_serves h r.2).frame]; rfl)]
  exact hb

/-! ### Coverage -/

theorem State.recordCoverage_reads (s : State) (i m c : Nat) : (fun t : State => t.get .BAR_COV_MAP_CH 0 i = m % 2 ^ 64 ∧
      t.get .BAR_COV_CAUSE_FENCED 0 i = c % 2 ∧ t.get .BAR_COV_CAUSE_LOST 0 i = c / 2 % 2 ∧
      t.get .BAR_COV_EVENTS_COUNT = min (s.get .BAR_COV_EVENTS_COUNT + 1) (2 ^ Fld.BAR_COV_EVENTS_COUNT.desc.width - 1)) (s.recordCoverage i m c) := by
  unfold State.recordCoverage
  extract_lets s1 s2
  generalize Out.wort "coverage" [i, m, c] = o
  have hv : s2.regs = (s1.bump .BAR_COV_EVENTS_COUNT).regs := by
    unfold s2
    rw [State.vector_frame]
  have hr : Touches [] (s1.bump .BAR_COV_EVENTS_COUNT) (if s2.role = roleBar then s2.out o else s2) := by
    split_ifs
    · exact .of_regs hv
    · exact .of_regs hv
  generalize (if s2.role = roleBar then s2.out o else s2) = t at hr ⊢
  have hg : ∀ f j k, t.get f j k = (s1.bump .BAR_COV_EVENTS_COUNT).get f j k := fun f j k => hr f j k List.not_mem_nil
  have h1 : s1.get .BAR_COV_EVENTS_COUNT = s.get .BAR_COV_EVENTS_COUNT := by simp [s1, table_form]
  obtain ⟨-, w1, w2, w3, -⟩ := holdWidths
  refine ⟨(hg ..).trans ?_, (hg ..).trans ?_, (hg ..).trans ?_, (hg ..).trans ?_⟩
  · rw [State.get_bump_fld _ (by decide)]
    simp [s1, table_form, w1]
  · rw [State.get_bump_fld _ (by decide)]
    simp [s1, table_form, w2]
  · rw [State.get_bump_fld _ (by decide)]
    simp [s1, table_form, w3]
  · rw [State.get_bump_same, h1]

theorem State.setCause_other {s : State} {i : Nat} (hi : s.is .BAR_STATUS_ENUMERATED = true → i ≠ s.myIndex) (m : Nat) :
    Touches [.BAR_COV_CAUSE_HOLD] s (s.setCause i m) := by
  unfold State.setCause
  split
  · exact .refl _ s
  · next x _ =>
    extract_lets u
    have hu : Touches [.BAR_COV_CAUSE_HOLD] s u := Touches.set (.of_regs rfl) (by decide) _ _ _
    have hm : (u.is .BAR_STATUS_ENUMERATED && i == u.myIndex) = false := by
      have he : u.is .BAR_STATUS_ENUMERATED = s.is .BAR_STATUS_ENUMERATED ∧ u.myIndex = s.myIndex :=
        ⟨congrArg (· == 1) (hu _ 0 0 (by decide)), hu _ 0 0 (by decide)⟩
      rw [he.1, he.2]
      cases h : s.is .BAR_STATUS_ENUMERATED with
      | false => rfl
      | true => exact beq_eq_false_iff_ne.mpr (hi h)
    rw [hm, if_neg Bool.false_ne_true]
    split_ifs
    · exact hu
    · exact hu

theorem State.causeBit_other {s : State} {i : Nat} (hi : s.is .BAR_STATUS_ENUMERATED = true → i ≠ s.myIndex) (b : Nat) (on : Bool) :
    Touches [.BAR_COV_CAUSE_HOLD] s (s.causeBit i b on) := by
  unfold State.causeBit
  split
  · exact .refl _ s
  · exact State.setCause_other hi _

theorem Touches.place {fs : List Fld} {s t : State} {i : Nat} (h : Touches fs s t) (h1 : .BAR_STATUS_ENUMERATED ∉ fs) (h2 : .BAR_STATUS_INDEX ∉ fs)
    (hi : s.is .BAR_STATUS_ENUMERATED = true → i ≠ s.myIndex) : t.is .BAR_STATUS_ENUMERATED = true → i ≠ t.myIndex := by
  rw [State.is, State.myIndex, h _ _ _ h1, h _ _ _ h2]
  exact hi

/-- The replaced device `i` whose channels are all bound is the bound one. -/
def State.rebound (s : State) (i id : Nat) : State :=
  let b := s.bind i
  let s := (s.setBind i { b with id := id }).causeBit i hREPLACED false
  if b.persist then s.saveBinds else s

theorem State.rebound_reads {s : State} {i : Nat} {v : Dev} (id : Nat) (hd : s.dev i = some v)
    (hi : s.is .BAR_STATUS_ENUMERATED = true → i ≠ s.myIndex) : (fun t : State => Touches (.BAR_COV_CAUSE_HOLD :: caskFlds) s t ∧
      t.dev i = some { v with cause := putBit v.cause hREPLACED false }) (s.rebound i id) := by
  unfold State.rebound
  extract_lets b u
  have hu : Touches (.BAR_COV_CAUSE_HOLD :: caskFlds) s u :=
    Touches.trans (.of_regs rfl) ((State.causeBit_other (s := s.setBind i { b with id := id }) hi hREPLACED false).mono (by decide))
  have hdu : u.dev i = some { v with cause := putBit v.cause hREPLACED false } :=
    (State.causeBit_reads (s := s.setBind i { b with id := id }) hd hREPLACED false).2
  split_ifs
  · exact ⟨hu.trans (u.saveBinds_touches.mono (by decide)), (State.dev_of_devs (by rw [State.saveBinds_frame]) i).trans hdu⟩
  · exact ⟨hu, hdu⟩

/-- The device of a report, once its causes are taken. -/
theorem State.coverageReport_split (s : State) {u : State} {i m c ub : Nat} {x : Dev} (hu : (s.recordCoverage i (m % 2 ^ 64) (c % 8)).causeBit i hRESYNC (bit c 3) = u)
    (hd : u.dev i = some x) : s.coverageReport i m c ub = if ub % 2 ^ 64 = 0 ∧ bit x.cause hREPLACED then (u.putDev { x with unbound := ub % 2 ^ 64 }).rebound i x.id
      else u.putDev { x with unbound := ub % 2 ^ 64 } := by
  unfold State.coverageReport
  dsimp only
  rw [hu, hd]
  rfl

/-- A report of another device. -/
theorem State.coverageReport_reads {s : State} {i : Nat} {x : Dev} (m c ub : Nat) (hd : s.dev i = some x)
    (hi : s.is .BAR_STATUS_ENUMERATED = true → i ≠ s.myIndex) : (fun t : State => t.get .BAR_COV_MAP_CH 0 i = m % 2 ^ 64 ∧
      t.get .BAR_COV_CAUSE_FENCED 0 i = c % 2 ∧ t.get .BAR_COV_CAUSE_LOST 0 i = c / 2 % 2 ∧
      t.get .BAR_COV_EVENTS_COUNT = min (s.get .BAR_COV_EVENTS_COUNT + 1) (2 ^ Fld.BAR_COV_EVENTS_COUNT.desc.width - 1) ∧
      ∃ v, t.dev i = some v ∧ v.unbound = ub % 2 ^ 64 ∧ bit v.cause hRESYNC = bit c 3) (s.coverageReport i m c ub) := by
  obtain ⟨r1, r2, r3, r4⟩ := s.recordCoverage_reads i (m % 2 ^ 64) (c % 8)
  have hd1 : (s.recordCoverage i (m % 2 ^ 64) (c % 8)).dev i = some x :=
    (State.dev_of_devs (by rw [State.recordCoverage_frame]) i).trans hd
  have hi1 := (s.recordCoverage_reports i (m % 2 ^ 64) (c % 8)).touches.place (by decide) (by decide) hi
  obtain ⟨-, hd2⟩ := State.causeBit_reads hd1 hRESYNC (bit c 3)
  have ht2 := State.causeBit_other hi1 hRESYNC (bit c 3)
  have hi2 := ht2.place (by decide) (by decide) hi1
  have hc : bit (putBit x.cause hRESYNC (bit c 3)) hRESYNC = bit c 3 := by rw [bit, testBit_putBit, if_pos rfl]
  generalize hx : ({ x with cause := putBit x.cause hRESYNC (bit c 3) } : Dev) = y at hd2
  have hy : y.cause = putBit x.cause hRESYNC (bit c 3) := by rw [← hx]
  rw [← hy] at hc
  generalize hu : (s.recordCoverage i (m % 2 ^ 64) (c % 8)).causeBit i hRESYNC (bit c 3) = u at hd2 ht2 hi2
  rw [s.coverageReport_split hu hd2]
  generalize s.recordCoverage i (m % 2 ^ 64) (c % 8) = w at r1 r2 r3 r4 ht2
  have hd3 : (u.putDev { y with unbound := ub % 2 ^ 64 }).dev i = some { y with unbound := ub % 2 ^ 64 } := by
    have hyi := State.dev_index hd2
    rw [← hyi] at hd2 ⊢
    exact State.dev_putDev (x := { y with unbound := ub % 2 ^ 64 }) hd2
  have ht3 : Touches (.BAR_COV_CAUSE_HOLD :: caskFlds) w (u.putDev { y with unbound := ub % 2 ^ 64 }) :=
    (ht2.mono (by decide)).trans (Touches.of_regs rfl)
  have hi3 : (u.putDev { y with unbound := ub % 2 ^ 64 }).is .BAR_STATUS_ENUMERATED = true → i ≠ (u.putDev { y with unbound := ub % 2 ^ 64 }).myIndex := hi2
  generalize u.putDev { y with unbound := ub % 2 ^ 64 } = p at hd3 ht3 hi3 ⊢
  have hend : ∀ t, Touches (.BAR_COV_CAUSE_HOLD :: caskFlds) w t → (∃ v, t.dev i = some v ∧ v.unbound = ub % 2 ^ 64 ∧ bit v.cause hRESYNC = bit c 3) →
      (fun t : State => t.get .BAR_COV_MAP_CH 0 i = m % 2 ^ 64 ∧ t.get .BAR_COV_CAUSE_FENCED 0 i = c % 2 ∧ t.get .BAR_COV_CAUSE_LOST 0 i = c / 2 % 2 ∧
        t.get .BAR_COV_EVENTS_COUNT = min (s.get .BAR_COV_EVENTS_COUNT + 1) (2 ^ Fld.BAR_COV_EVENTS_COUNT.desc.width - 1) ∧
        ∃ v, t.dev i = some v ∧ v.unbound = ub % 2 ^ 64 ∧ bit v.cause hRESYNC = bit c 3) t := fun t ht hv =>
    ⟨by rw [ht _ 0 i (by decide), r1, Nat.mod_mod], by rw [ht _ 0 i (by decide), r2]; omega, by rw [ht _ 0 i (by decide), r3]; omega,
      by rw [ht _ 0 0 (by decide), r4], hv⟩
  split_ifs
  · obtain ⟨q1, q2⟩ := State.rebound_reads y.id hd3 hi3
    refine hend _ (ht3.trans q1) ⟨_, q2, rfl, ?_⟩
    change bit (putBit y.cause hREPLACED false) hRESYNC = _
    rw [bit, testBit_putBit, if_neg (by decide)]
    exact hc
  · exact hend _ ht3 ⟨_, hd3, rfl, hc⟩

/-! ### Numbers over Wort -/

theorem linkUp_own (s : State) {i : Nat} (u h c m : Nat) (x : BarSeen) (hi : i < 512) : Runs (.linkUpEnumeration true i u h x c m) s (fun t =>
      t.upPort = some u ∧ t.upLost = false ∧ t.is .BAR_STATUS_ENUMERATED = true ∧ t.get .BAR_STATUS_INDEX = i ∧ t.get .BAR_STATUS_BAR = i / 32 ∧
      t.get .BAR_STATUS_DEVICE = i % 32) := by
  have hx : exec (.linkUpEnumeration true i u h x c m) s = execLinkUpEnumeration true i u h x c m s := rfl
  unfold execLinkUpEnumeration at hx
  rw [if_pos rfl] at hx
  refine ⟨_, hx, ?_⟩
  extract_lets s1 s2 s3
  have h2 : s2 = (((s1.on .BAR_STATUS_ENUMERATED).set .BAR_STATUS_BAR (i / 32)).set .BAR_STATUS_DEVICE (i % 32)).set .BAR_STATUS_INDEX i := if_pos hi
  have h3 : s3 = { s2 with regs := s3.regs } ∧ Touches [.FIRE_TRIG_COMP] s2 s3 := by
    unfold s3
    split_ifs
    · exact ⟨rfl, (Touches.refl _ s2).set (by decide) _ _ _⟩
    · exact ⟨rfl, .refl _ s2⟩
  have hh := State.setHold_holds { s3 with clash := bit m 8 } (m % 256)
  have hg : ∀ f, f ∉ .FIRE_TRIG_COMP :: holdingFlds → State.get (State.setHold { s3 with clash := bit m 8 } (m % 256)) f = s2.get f := fun f hf => by
    rw [List.mem_cons, not_or] at hf
    exact (hh.touches f 0 0 hf.2).trans (h3.2 f 0 0 (by simpa using hf.1))
  have hu : State.upPort (State.setHold { s3 with clash := bit m 8 } (m % 256)) = some u ∧
      State.upLost (State.setHold { s3 with clash := bit m 8 } (m % 256)) = false := by
    rw [hh.frame]
    change s3.upPort = some u ∧ s3.upLost = false
    rw [h3.1, h2]
    exact ⟨rfl, rfl⟩
  refine ⟨hu.1, hu.2, ?_, ?_, ?_, ?_⟩
  · rw [State.is, hg _ (by decide), h2]
    simp [table_form, holdWidths]
  · rw [hg _ (by decide), h2]
    simp [table_form, holdWidths]
    omega
  · rw [hg _ (by decide), h2]
    simp [table_form, holdWidths]
    omega
  · rw [hg _ (by decide), h2]
    simp [table_form, holdWidths]

theorem find?_append_other {l : List Dev} {i j : Nat} {x : Dev} (hx : x.index = i) (h : j ≠ i) :
    (l.filter (fun y : Dev => y.index != i) ++ [x]).find? (fun y => y.index == j) = l.find? (fun y => y.index == j) := by
  rw [List.find?_append, List.find?_filter]
  have hn : [x].find? (fun y => y.index == j) = none := by
    rw [List.find?_singleton, hx, if_neg (by simp; exact fun e => h e.symm)]
  rw [hn, Option.or_none]
  congr 1
  funext y
  by_cases hy : y.index = j
  · simp [hy, h]
  · simp [hy]

theorem find?_append_same {l : List Dev} {i : Nat} {x : Dev} (hx : x.index = i) :
    (l.filter (fun y : Dev => y.index != i) ++ [x]).find? (fun y => y.index == i) = some x := by
  rw [List.find?_append, List.find?_filter]
  have hn : l.find? (fun y => decide ((y.index != i) = true ∧ (y.index == i) = true)) = none := by
    rw [List.find?_eq_none]
    intro y _
    by_cases hy : y.index = i
    · simp [hy]
    · simp [hy]
  rw [hn, Option.none_or, List.find?_singleton, if_pos (by rw [hx, beq_self_eq_true])]

theorem linkUp_other (s : State) {i h : Nat} (u c m : Nat) (x : BarSeen) (hm : s.manages = true) (hw : s.fwAway = false) (hi : i < 512) (hh : h ≤ 7) :
    Runs (.linkUpEnumeration false i u h x c m) s (fun t => ∃ v, t.dev i = some v ∧ v.role = x.role ∧ v.up = u ∧ v.hops = h ∧ v.id = x.id ∧
      v.composite = x.composite ∧ v.fw = x.fw ∧ (∀ j, j ≠ i → t.dev j = s.dev j)) := by
  have hx : exec (.linkUpEnumeration false i u h x c m) s = execLinkUpEnumeration false i u h x c m s := rfl
  unfold execLinkUpEnumeration at hx
  rw [if_neg (by decide)] at hx
  refine ⟨_, exec_of (exec_when hx (by rw [hm, hw]; rfl)) (if_neg (by omega)), ?_⟩
  extract_lets s1 c' v m' s2 s3 s4
  have h4 : s4.devs = s2.devs := by
    unfold s4
    split_ifs
    · rw [State.recordCoverage_frame]
      rfl
    · rfl
  have h1 : s1.devs = s.devs := s.bindPresent_devs ..
  have h2 : s2.devs = s.devs.filter (fun y : Dev => y.index != i) ++ [Dev.unboundIf { v with cause := m' }] := by
    rw [← h1]
  have hv : ∃ n, Dev.unboundIf { v with cause := m' } = { v with cause := m', unbound := n } := by
    unfold Dev.unboundIf
    split_ifs
    · exact ⟨_, rfl⟩
    · exact ⟨_, rfl⟩
  obtain ⟨n, hn⟩ := hv
  rw [hn] at h2
  have hd : ∀ j, (s4.out (.wort "numbered" [i, u, h, c', m' + 256 * b2n s4.conflict])).dev j =
      (s.devs.filter (fun y : Dev => y.index != i) ++ [{ v with cause := m', unbound := n }]).find? (fun y => y.index == j) := fun j => by
    rw [← h2, ← h4]
    rfl
  exact ⟨_, (hd i).trans (find?_append_same rfl), rfl, rfl, rfl, rfl, rfl, rfl, fun j hj => (hd j).trans (find?_append_other rfl hj)⟩

/-! ### Release -/

/-- A withdrawal. -/
theorem State.release_withdrawn (s : State) (mask : Nat) : (s.release 3 mask).withdrawn = s.withdrawn ||| mask := by
  have h : s.release 3 mask = (((List.range 64).filter s.barred).foldl (fun s c => if s.barred c then s else s.rejoinDevice c)
      (State.cutHeads { s with withdrawn := s.withdrawn ||| mask })).noteCoverage := rfl
  obtain ⟨hc, -⟩ := State.cutHeads_reads { s with withdrawn := s.withdrawn ||| mask }
  rw [h, State.noteCoverage_frame]
  refine List.foldlRecOn (motive := fun v => State.withdrawn v = s.withdrawn ||| mask) _ _ (by rw [hc]) fun v hv c _ => ?_
  split_ifs
  · exact hv
  · exact hv

theorem State.releaseEnd_withdrawn (s : State) (h m k : Nat) : (s.releaseEnd h m k).withdrawn = s.withdrawn := by
  unfold State.releaseEnd
  split_ifs
  · rfl
  · rfl
  · rw [(s.done_serves h _).frame]

/-- A release that this device makes, and one that it sends on. -/
theorem State.barRelease_reads (s : State) (h : Nat) (d : Desc) (he : s.is .BAR_STATUS_ENUMERATED = true) : (fun t : State =>
      (d.p 0x10 2 = s.myIndex → t = (s.release (d.p 0x12 1) (d.p 0x18 8)).releaseEnd h (d.p 0x12 1) (d.p 0x18 8) ∧
        (d.p 0x12 1 = 3 → t.withdrawn = s.withdrawn ||| d.p 0x18 8)) ∧
      (d.p 0x10 2 ≠ s.myIndex → .wort "release" [d.p 0x10 2, d.p 0x12 1, d.p 0x18 8] ∈ t.outbox ∧ t.withdrawn = s.withdrawn)) (s.barRelease h d) := by
  unfold State.barRelease
  extract_lets i mode mask x
  by_cases hc : i = s.myIndex
  · rw [if_neg (by rw [he, hc, beq_self_eq_true]; decide)]
    refine ⟨fun _ => ⟨rfl, fun h3 => ?_⟩, fun hn => absurd hc hn⟩
    rw [State.releaseEnd_withdrawn, show mode = 3 from h3, State.release_withdrawn]
  · rw [if_pos (by rw [beq_eq_false_iff_ne.mpr hc, Bool.and_false]; rfl)]
    exact ⟨fun h => absurd h hc, fun _ => ⟨List.mem_cons_self, rfl⟩⟩

theorem exec_barRelease {s : State} {d : Desc} {x : Dev} (ha : Accepts s d 0x0703 [(0x10, 2), (0x12, 1), (0x18, 8)])
    (hx : s.dev (d.p 0x10 2) = some x) (he : s.is .BAR_STATUS_ENUMERATED = true) (hm : d.p 0x12 1 ≤ 3) (hk : d.p 0x18 8 ≠ 0)
    (hact : s.activeManager = true) (hw : s.fwAway = false)
    (hb : d.p 0x12 1 = 0 → (if d.p 0x10 2 = s.myIndex then s.get .BAR_UNBOUND_CH else x.unbound) &&& d.p 0x18 8 = 0)
    (h1 : bit x.cause hIMAGE = false) (h2 : bit x.cause hFW = false) (h3 : bit x.cause hCONFLICT = false) (h4 : bit x.cause hEXCESS = false) :
    exec (.barRelease false d) s = .next ((s.startedLong d 0x0703).2.barRelease (s.startedLong d 0x0703).1 d) := by
  have hi : exec (.barRelease false d) s = execBarRelease false d s := rfl
  unfold execBarRelease at hi
  dsimp only at hi
  have hub : (d.p 0x12 1 == 0 && ((if (s.is .BAR_STATUS_ENUMERATED && d.p 0x10 2 == s.myIndex) = true then s.get .BAR_UNBOUND_CH else x.unbound) &&&
      d.p 0x18 8) != 0) = false := by
    rw [he, Bool.true_and]
    by_cases h0 : d.p 0x12 1 = 0
    · have := hb h0
      simp only [beq_iff_eq]
      rw [this]
      simp
    · simp [h0]
  rw [if_neg Bool.false_ne_true, hx] at hi
  dsimp only at hi
  rw [hub, hact] at hi
  refine exec_of (exec_long hi ha rfl rfl rfl rfl rfl (by simp [hm]) (by simp [hk]) (if_neg (by rw [h1, h2, h3, h4]; decide))) ?_
  exact State.firmware_here ((s.startedLong_serves d 0x0703).fwAway.trans hw) ..

/-! ### Pages -/

theorem exec_pageDigest {s : State} {p : Page} (hw : s.fwAway = false) (he : s.is .BAR_STATUS_ENUMERATED = true)
    (hp : s.pages.find? (fun p => decide (s.seq.next ≤ p.first)) = some p) (y n c : Nat) : exec (.pageDigest y n c) s = .next (
      if (p.first == y && p.id == n) = true then (if s.compositeAt y = c then s.holdBit hIMAGE false else s.holdBit hIMAGE true)
      else if (s.adoptPage y n).is .FIRE_STATUS_WITHHELD then s.adoptPage y n else (s.adoptPage y n).withhold) := by
  refine exec_of (exec_when (i := .pageDigest y n c) (s := s) rfl (by rw [hw, he]; rfl)) ?_
  dsimp only
  rw [hp]

/-- Settles O48: it holds. A change of the causes of a hold writes the eight fields and then the power asked for, the bindings and the coverage; a
device that numbers itself starts from the root; and what judges one device leaves the place of this one. -/
theorem hierarchy : Obligations.Hierarchy := by
  refine ⟨fun s i m c u hm hi hw hd => ?unknown, fun s i m c u x hm hi hw hd hn => ?known, fun s i m c u hm hi hw => ?waits,
    fun s d l ha hf hm h1 hp hact hmv hj hw => ?enum, fun s d l hr he hact hw => ?enumTold, fun s i u h c m x hi => linkUp_own s u h c m x hi,
    fun s i u h c m x hm hw hi hh => linkUp_other s u c m x hm hw hi hh, fun s i u h c m x hm hw hi => ?excess,
    fun s d n e ha hn h0 hf hp hm hw he hd hr => ?binds, fun s d he hi hact hm => ?releaseTold, fun s d l hr he hact hw hl hok => ?bindTold,
    fun s d x h ha hx he hm hk hact hw hb h1 h2 h3 h4 hh => ?release,
    fun s i y v => ?ownStamp, fun s i y v a x hm hw hd hl => ?stamp, fun s i y => ?ownLate, fun s i y hm hw hy hb => ?late,
    fun s y n c p hw he hp hf hi => ?samePage, fun s y n c p hw he hp hne hh => ?otherPage⟩
  case unknown =>
    have hx := exec_when (i := .coverageReport i m c u) (s := s) rfl (by rw [hm, decide_eq_true hi]; rfl)
    rw [State.firmware_here hw] at hx
    have hd' : (s.recordCoverage i (m % 2 ^ 64) (c % 8)).dev i = none := (State.dev_of_devs (by rw [State.recordCoverage_frame]) i).trans hd
    have hc : s.coverageReport i m c u = s.recordCoverage i (m % 2 ^ 64) (c % 8) := by
      unfold State.coverageReport State.causeBit
      dsimp only
      rw [hd']
      dsimp only
      rw [hd']
    rw [hc] at hx
    obtain ⟨r1, r2, r3, r4⟩ := s.recordCoverage_reads i (m % 2 ^ 64) (c % 8)
    exact ⟨_, hx, rfl, r1.trans (Nat.mod_mod ..), by rw [r2]; omega, by rw [r3]; omega, r4, by rw [State.recordCoverage_frame]⟩
  case known =>
    have hx := exec_when (i := .coverageReport i m c u) (s := s) rfl (by rw [hm, decide_eq_true hi]; rfl)
    rw [State.firmware_here hw] at hx
    exact ⟨_, hx, State.coverageReport_reads m c u hd hn⟩
  case waits =>
    have hx := exec_when (i := .coverageReport i m c u) (s := s) rfl (by rw [hm, decide_eq_true hi]; rfl)
    rw [State.firmware_away hw] at hx
    exact ⟨_, hx, rfl⟩
  case enum =>
    have hi : exec (.barEnum d l) s = execBarEnum d l s := rfl
    unfold execBarEnum at hi
    dsimp only at hi
    rw [hact, hmv, hj, if_neg Bool.false_ne_true] at hi
    have hx := exec_long hi ha rfl rfl rfl rfl (by simp [hm]) (by simp [hf, h1, hp]) rfl rfl
    have hq := s.startedLong_serves d 0x0701
    refine ⟨_, exec_of hx (State.firmware_here (hq.fwAway.trans hw) ..), ?_⟩
    obtain ⟨r1, r2, r3, r4, r5⟩ := (s.startedLong d 0x0701).2.barEnum_reads (s.startedLong d 0x0701).1 d l
    exact ⟨r1, r2, r3, r4, r5.trans (by rw [hq.frame])⟩
  case enumTold =>
    have hi : exec (.barEnum d l true) s = execBarEnum d l s true := rfl
    unfold execBarEnum at hi
    dsimp only at hi
    rw [if_pos rfl] at hi
    refine ⟨_, exec_when hi (by rw [hr, he, hact, hw]; rfl), rfl, ?_⟩
    obtain ⟨j, -⟩ := s.enumAll_reads (bit (d.p 0x10 1) 0) l (nums := barNumbers l [] (s.get .BAR_STATUS_BAR) (0, (s.upPort.getD 0xFF), 0)) (false, false)
      fun n hn => barNumbers_lt _ _ _ _ n hn
    have hg : (s.enumBar (bit (d.p 0x10 1) 0) l).get .BAR_STATUS_ENUMERATED = s.get .BAR_STATUS_ENUMERATED := j.get (by decide) 0 0
    exact (congrArg (· == 1) hg).trans he
  case excess =>
    have hx : exec (.linkUpEnumeration false i u h x c m) s = execLinkUpEnumeration false i u h x c m s := rfl
    unfold execLinkUpEnumeration at hx
    rw [if_neg (by decide)] at hx
    exact ⟨_, exec_of (exec_when hx (by rw [hm, hw]; rfl)) (if_pos hi), rfl⟩
  case binds =>
    obtain ⟨t, ht, hb⟩ := barBind_runs ha hn h0 hf hp hm hw he hd hr
    exact ⟨t, ht, fun i hi => ⟨(hb i hi).bound, (hb i hi).expect, (hb i hi).fwMin, (hb i hi).fwMax⟩⟩
  case releaseTold =>
    have hx : exec (.barRelease true d) s = execBarRelease true d s := rfl
    unfold execBarRelease at hx
    dsimp only at hx
    rw [if_pos rfl] at hx
    exact ⟨_, exec_when hx (by rw [he, hi, hact, decide_eq_true hm, beq_self_eq_true]; rfl), rfl⟩
  case release =>
    subst hh
    refine ⟨_, exec_barRelease ha hx he hm hk hact hw hb h1 h2 h3 h4, ?_⟩
    have hq := s.startedLong_serves d 0x0703
    generalize (s.startedLong d 0x0703).2 = u at hq ⊢
    have hwd : u.withdrawn = s.withdrawn := by rw [hq.frame]
    have hme : u.myIndex = s.myIndex := hq.get (by decide) 0 0
    rw [← hwd, ← hme]
    exact u.barRelease_reads _ d ((congrArg (· == 1) (hq.get (f := .BAR_STATUS_ENUMERATED) (by decide) 0 0)).trans he)
  case bindTold =>
    subst hl
    have hx : exec (.barBind d true) s = execBarBind d s true := rfl
    unfold execBarBind at hx
    dsimp only at hx
    rw [if_pos rfl] at hx
    exact ⟨_, exec_when hx (by rw [hr, he, hact, hw, hok]; rfl), rfl⟩
  case ownStamp =>
    refine ⟨(s.set .BAR_TIME_OFS_NS v).holdBit hTIME (offsetCause (s.is .BAR_HOLD_TIME) (toSigned 32 v)), rfl, ?_,
      State.is_holdBit _ _ (i := hTIME) (by decide) (by decide)⟩
    rw [State.holdBit, (State.setHold_holds ..).touches _ _ _ (by decide), State.get_set_same]
  case stamp =>
    have hx : exec (.timeStampReport false i y v) s = execTimeStampReport false i y v s := rfl
    unfold execTimeStampReport at hx
    rw [if_neg Bool.false_ne_true] at hx
    refine ⟨_, exec_of (exec_when hx (by rw [hm, hw]; rfl)) ?_, rfl⟩
    dsimp only
    rw [hd, hl]
  case ownLate => exact ⟨_, rfl, State.is_holdBit _ _ (i := hTIME) (by decide) (by decide)⟩
  case late =>
    have hx : exec (.timeStampLate false i y) s = execTimeStampLate false i y s := rfl
    unfold execTimeStampLate at hx
    rw [if_neg Bool.false_ne_true] at hx
    exact ⟨_, exec_when hx (by rw [hm, hw, decide_eq_true ⟨hy, hb⟩]; rfl), rfl⟩
  case samePage =>
    have hx := exec_of (exec_pageDigest hw he hp y n c) (if_pos (by rw [hf, hi, beq_self_eq_true, beq_self_eq_true]; rfl))
    have hr : ∀ b, (s.holdBit hIMAGE b).is .BAR_HOLD_IMAGE = b ∧ (s.holdBit hIMAGE b).pages = s.pages := fun b =>
      ⟨State.is_holdBit s b (i := hIMAGE) (by decide) (by decide), by rw [State.holdBit, (State.setHold_holds ..).frame]⟩
    by_cases hc : s.compositeAt y = c
    · rw [if_pos hc] at hx
      exact ⟨_, hx, (hr _).1.trans (decide_eq_false (not_not_intro hc)).symm, (hr _).2⟩
    · rw [if_neg hc] at hx
      exact ⟨_, hx, (hr _).1.trans (decide_eq_true hc).symm, (hr _).2⟩
  case otherPage =>
    have hs : ¬ (p.first == y && p.id == n) = true := by
      rw [Bool.and_eq_true, beq_iff_eq, beq_iff_eq, not_and_or]
      exact hne
    have hx := exec_of (exec_pageDigest hw he hp y n c) ((if_neg hs).trans (if_neg (by
      rw [show (s.adoptPage y n).is .FIRE_STATUS_WITHHELD = s.is .FIRE_STATUS_WITHHELD from rfl, hh]; decide)))
    obtain ⟨r1, r2, r3, -, r5⟩ := (s.adoptPage y n).withhold_reads
    exact ⟨_, hx, by rw [r5], r1, r2, r3⟩

end Sys2Proof.Machine
end

section
/-! PROOF. The manager trio. -/

namespace Sys2Proof.Machine

-- One lemma after the other: elaborated side by side, they ask for more threads than the compile may have.
set_option Elab.async false

/-! ## The manager trio -/

theorem trioWidths : Fld.TRIO_STATUS_MEMBERS.desc.width = 3 ∧ Fld.TRIO_STATUS_POS.desc.width = 2 ∧ Fld.TRIO_STATUS_OWNER.desc.width = 2 ∧
    Fld.TRIO_STATUS_ACTIVE.desc.width = 1 ∧ Fld.TRIO_STATUS_QUALIFIED.desc.width = 1 ∧ Fld.MOT_STATUS_OWN.desc.width = 1 ∧
    Fld.FIRE_STATUS_OWNER.desc.width = 1 ∧ Fld.TRIO_STATUS_REVERT_PENDING.desc.width = 1 ∧
    Fld.TRIO_STATUS_ERR.desc.width = 1 ∧ Fld.TRIO_CFG_REVERT_EN.desc.width = 1 := by decide

/-- What an operation of a member changes, its fields among `fs`; nothing that was sent is taken back. -/
structure TrioOnly (fs : List Fld) (s t : State) : Prop where
  frame : t = { s with regs := t.regs, trio := t.trio, outbox := t.outbox, msixPend := t.msixPend }
  touches : Touches fs s t
  sent : ∀ o ∈ s.outbox, o ∈ t.outbox

namespace TrioOnly
variable {fs : List Fld} {s t u : State}

theorem refl (fs : List Fld) (s : State) : TrioOnly fs s s := ⟨rfl, Touches.refl _ s, fun _ h => h⟩

theorem trans (h : TrioOnly fs s t) (h' : TrioOnly fs t u) : TrioOnly fs s u :=
  ⟨by rw [h'.frame, h.frame], h.touches.trans h'.touches, fun o ho => h'.sent o (h.sent o ho)⟩

theorem mono {gs : List Fld} (h : TrioOnly fs s t) (hs : fs ⊆ gs) : TrioOnly gs s t := ⟨h.frame, h.touches.mono hs, h.sent⟩

theorem set (h : TrioOnly fs s t) {f : Fld} (hf : f ∈ fs) (v i k : Nat) : TrioOnly fs s (t.set f v i k) :=
  h.trans ⟨rfl, (Touches.refl _ t).set hf v i k, fun _ h => h⟩

theorem bump (h : TrioOnly fs s t) {f : Fld} (hf : f ∈ fs) (n i k : Nat) : TrioOnly fs s (t.bump f n i k) := h.set hf _ i k

theorem out (h : TrioOnly fs s t) (o : Out) : TrioOnly fs s (t.out o) :=
  h.trans ⟨rfl, Touches.of_regs rfl, fun _ h => List.mem_cons_of_mem _ h⟩

theorem trio (h : TrioOnly fs s t) (x : Trio) : TrioOnly fs s { t with trio := x } := h.trans ⟨rfl, Touches.of_regs rfl, fun _ h => h⟩

theorem trioVector (h : TrioOnly fs s t) : TrioOnly fs s t.trioVector := by
  refine h.trans ⟨?_, Touches.of_regs ?_, t.vector_keeps_sent _ _⟩
  · rw [State.trioVector, State.vector_frame]
  · rw [State.trioVector, State.vector_frame]

theorem get (h : TrioOnly fs s t) {f : Fld} (hf : f ∉ fs) (i k : Nat) : t.get f i k = s.get f i k := h.touches f i k hf

theorem is (h : TrioOnly fs s t) {f : Fld} (hf : f ∉ fs) (i k : Nat) : t.is f i k = s.is f i k := congrArg (· == 1) (h.get hf i k)

/-- The place of a member. -/
theorem pos (h : TrioOnly fs s t) (hr : .RST_STRAPS_ROLE ∉ fs) (hf : .TRIO_STATUS_POS ∉ fs) : t.pos = s.pos := by
  rw [State.pos, State.pos, State.role, State.role, h.get hr, h.get hf]

end TrioOnly

theorem State.trioVector_frame (s : State) : s.trioVector = { s with outbox := s.trioVector.outbox, msixPend := s.trioVector.msixPend } :=
  s.vector_frame _ _

/-! ### Members -/

theorem State.setMember_only (s : State) (t : Nat) (b : Bool) : TrioOnly [.TRIO_STATUS_MEMBERS, .TRIO_STATUS_DEGRADED] s (s.setMember t b) :=
  ((TrioOnly.refl _ s).set (f := .TRIO_STATUS_MEMBERS) (by decide) _ _ _).set (f := .TRIO_STATUS_DEGRADED) (by decide) _ _ _

theorem State.setMember_reads (s : State) (t : Nat) (b : Bool) {x : Nat} (hx : x < 3) :
    bit ((s.setMember t b).get .TRIO_STATUS_MEMBERS) x = if x = t then b else bit (s.get .TRIO_STATUS_MEMBERS) x := by
  unfold State.setMember
  extract_lets u
  rw [State.get_set_fld _ (by decide)]
  exact s.bit_putB_at .TRIO_STATUS_MEMBERS t b 0 0 hx

def memberFlds : List Fld := [.TRIO_STATUS_MEMBERS, .TRIO_STATUS_DEGRADED, .TRIO_STATUS_QUALIFIED, .TRIO_AGREE_LINES, .TRIO_EVENTS_UNQUAL]

/-- The state of a member that is out. -/
def State.expelled (s : State) (t : Nat) : State :=
  let u := s.setMember t false
  if t = u.pos then { (u.off .TRIO_STATUS_QUALIFIED).off .TRIO_AGREE_LINES with trio := { u.trio with agree := 0 } } else u

theorem State.unqualify_eq (s : State) (t : Nat) : s.unqualify t =
    if bit (s.get .TRIO_STATUS_MEMBERS) t then ((s.expelled t).bump .TRIO_EVENTS_UNQUAL).trioVector else s.expelled t := rfl

theorem State.expelled_reads (s : State) (t : Nat) : (fun u : State => TrioOnly [.TRIO_STATUS_MEMBERS, .TRIO_STATUS_DEGRADED,
      .TRIO_STATUS_QUALIFIED, .TRIO_AGREE_LINES] s u ∧ u.trio = (if t = s.pos then { s.trio with agree := 0 } else s.trio) ∧
      (t = s.pos → u.get .TRIO_AGREE_LINES = 0) ∧ (t ≠ s.pos → u.get .TRIO_AGREE_LINES = s.get .TRIO_AGREE_LINES) ∧
      ∀ x < 3, bit (u.get .TRIO_STATUS_MEMBERS) x = if x = t then false else bit (s.get .TRIO_STATUS_MEMBERS) x) (s.expelled t) := by
  unfold State.expelled
  dsimp only
  generalize hs : s.setMember t false = u
  have hu : TrioOnly [.TRIO_STATUS_MEMBERS, .TRIO_STATUS_DEGRADED] s u := hs ▸ s.setMember_only t false
  have hp : u.pos = s.pos := hu.pos (by decide) (by decide)
  have ht : u.trio = s.trio := by rw [← hs]; rfl
  have hm : ∀ x < 3, bit (u.get .TRIO_STATUS_MEMBERS) x = if x = t then false else bit (s.get .TRIO_STATUS_MEMBERS) x :=
    fun x hx => hs ▸ s.setMember_reads t false hx
  have hu' := hu.mono (gs := [.TRIO_STATUS_MEMBERS, .TRIO_STATUS_DEGRADED, .TRIO_STATUS_QUALIFIED, .TRIO_AGREE_LINES]) (by decide)
  rw [hp]
  clear hs
  by_cases h : t = s.pos
  · rw [if_pos h, if_pos h]
    refine ⟨((hu'.set (f := .TRIO_STATUS_QUALIFIED) (by decide) _ _ _).set (f := .TRIO_AGREE_LINES) (by decide) _ _ _).trio _, by rw [ht],
      fun _ => (State.get_set_fits (f := .TRIO_AGREE_LINES) (v := 0) (u.off .TRIO_STATUS_QUALIFIED) 0 0 rfl :), fun hn => absurd h hn, fun x hx => ?_⟩
    rw [← hm x hx]
    change bit (((u.off .TRIO_STATUS_QUALIFIED).off .TRIO_AGREE_LINES).get .TRIO_STATUS_MEMBERS) x = _
    rw [State.off, State.get_set_fld _ (by decide), State.off, State.get_set_fld _ (by decide)]
  · rw [if_neg h, if_neg h]
    exact ⟨hu', ht, fun hn => absurd hn h, fun _ => hu.get (by decide) 0 0, hm⟩

theorem State.unqualify_reads (s : State) (t : Nat) : (fun u : State => TrioOnly memberFlds s u ∧
      u.trio = (if t = s.pos then { s.trio with agree := 0 } else s.trio) ∧ (t = s.pos → u.get .TRIO_AGREE_LINES = 0) ∧
      (t ≠ s.pos → u.get .TRIO_AGREE_LINES = s.get .TRIO_AGREE_LINES) ∧
      (∀ x < 3, bit (u.get .TRIO_STATUS_MEMBERS) x = if x = t then false else bit (s.get .TRIO_STATUS_MEMBERS) x) ∧
      (bit (s.get .TRIO_STATUS_MEMBERS) t = true → u.get .TRIO_EVENTS_UNQUAL = min (s.get .TRIO_EVENTS_UNQUAL + 1) (2 ^ Fld.TRIO_EVENTS_UNQUAL.desc.width - 1)))
    (s.unqualify t) := by
  obtain ⟨h, ht, h1, h2, hm⟩ := s.expelled_reads t
  rw [State.unqualify_eq]
  generalize s.expelled t = u at h ht h1 h2 hm ⊢
  have hu := h.mono (gs := memberFlds) (by decide)
  by_cases hb : bit (s.get .TRIO_STATUS_MEMBERS) t = true
  · rw [if_pos hb]
    have hv : TrioOnly memberFlds s (u.bump .TRIO_EVENTS_UNQUAL).trioVector := (hu.bump (f := .TRIO_EVENTS_UNQUAL) (by decide) _ _ _).trioVector
    have hg : ∀ f, f ≠ .TRIO_EVENTS_UNQUAL → (u.bump .TRIO_EVENTS_UNQUAL).trioVector.get f = u.get f := fun f hf => by
      rw [State.trioVector_frame]
      exact State.get_bump_fld _ hf ..
    refine ⟨hv, ?_, fun he => (hg _ (by decide)).trans (h1 he), fun he => (hg _ (by decide)).trans (h2 he),
      fun x hx => (congrArg (bit · x) (hg _ (by decide))).trans (hm x hx), fun _ => ?_⟩
    · rw [State.trioVector_frame]
      exact ht
    · rw [State.trioVector_frame]
      refine (State.get_bump_same u .TRIO_EVENTS_UNQUAL 1 0 0).trans ?_
      rw [h.get (by decide)]
  · rw [if_neg hb]
    exact ⟨hu, ht, h1, h2, hm, fun hn => absurd hn hb⟩

/-! ### Ownership -/

def ownFlds : List Fld := [.TRIO_STATUS_ACTIVE, .MOT_STATUS_OWN, .FIRE_STATUS_OWNER]

theorem State.releaseOwn_reads (s : State) : (fun u : State => TrioOnly ownFlds s u ∧ u.trio = { s.trio with
      pulling := false, claiming := false, drivers := false, wants := false } ∧ ∀ f ∈ ownFlds, u.is f = false) s.releaseOwn := by
  unfold State.releaseOwn
  extract_lets u
  refine ⟨((((TrioOnly.refl _ s).trio _).set (f := .TRIO_STATUS_ACTIVE) (by decide) _ _ _).set (f := .MOT_STATUS_OWN) (by decide) _ _ _ |>.set
    (f := .FIRE_STATUS_OWNER) (by decide) _ _ _).out _, rfl, fun f hf => ?_⟩
  simp only [ownFlds, List.mem_cons, List.not_mem_nil, or_false] at hf
  unfold State.is
  rw [State.get_out]
  obtain rfl | rfl | rfl := hf
  · simp [table_form, trioWidths]
  · simp [table_form, trioWidths]
  · simp [table_form, trioWidths]

theorem State.takeOwn_reads (s : State) : (fun u : State => TrioOnly [.MOT_STATUS_OWN] s u ∧ u.trio = { s.trio with
      pulling := true, claiming := true, wants := false, yields := 0 } ∧ u.is .MOT_STATUS_OWN = true ∧ .pin "STEP_OWN" 0 0 ∈ u.outbox) s.takeOwn := by
  unfold State.takeOwn
  extract_lets u
  refine ⟨(((TrioOnly.refl _ s).trio _).set (f := .MOT_STATUS_OWN) (by decide) _ _ _).out _, rfl, ?_, List.mem_cons_self⟩
  exact beq_iff_eq.mpr ((State.get_out ..).trans (State.get_set_fits (f := .MOT_STATUS_OWN) (v := 1) _ 0 0 rfl))

theorem State.pullOwn_reads (s : State) : (fun u : State => TrioOnly [.MOT_STATUS_OWN] s u ∧ u.trio = { s.trio with
      pulling := true, claiming := true, wants := false, yields := 0 } ∧ u.is .MOT_STATUS_OWN = true ∧ .pin "STEP_OWN" 0 0 ∈ u.outbox ∧
      .wort "trioClaim" [s.pos] ∈ u.outbox) s.pullOwn := by
  unfold State.pullOwn
  have hv : TrioOnly [.MOT_STATUS_OWN] s s.trioVector := (TrioOnly.refl _ s).trioVector
  have ht : s.trioVector.trio = s.trio := by rw [State.trioVector_frame]
  generalize s.trioVector = v at hv ht
  obtain ⟨h1, h2, h3, h4⟩ := v.takeOwn_reads
  exact ⟨(hv.trans h1).out _, h2.trans (by rw [ht]), h3, List.mem_cons_of_mem _ h4, List.mem_cons_self⟩

def driverFlds : List Fld := ownFlds ++ [.TRIO_STATUS_OWNER, .TRIO_STATUS_QUALIFIED, .TRIO_STATUS_MEMBERS, .TRIO_STATUS_DEGRADED, .FIRE_TRIG_COMP, .FIRE_TRIG_ERR]

theorem State.writeComp_zero (s : State) : s.writeComp 0 = s.set .FIRE_TRIG_COMP 0 := if_neg (Nat.not_lt_zero _)

theorem State.enableDrivers_reads (s : State) : (fun u : State => TrioOnly driverFlds s u ∧ u.trio = { s.trio with
      claiming := false, drivers := true, missed := 0, lapsed := false, yielding := false, verdicts := [] } ∧ (∀ f ∈ ownFlds, u.is f = true) ∧
      u.get .FIRE_TRIG_COMP = 0 ∧ u.get .TRIO_STATUS_OWNER = s.pos % 3) s.enableDrivers := by
  unfold State.enableDrivers
  extract_lets x s1 s2 s3 s4
  rw [State.writeComp_zero]
  have h2 : TrioOnly driverFlds s s2 := ((((TrioOnly.refl driverFlds s).trio _).set (f := .TRIO_STATUS_ACTIVE) (by decide) _ _ _).set (f := .MOT_STATUS_OWN)
    (by decide) _ _ _ |>.set (f := .FIRE_STATUS_OWNER) (by decide) _ _ _).set (f := .TRIO_STATUS_OWNER) (by decide) _ _ _
  have hr2 : (∀ f ∈ ownFlds, s2.is f = true) ∧ s2.get .TRIO_STATUS_OWNER = s.pos % 3 := by
    refine ⟨fun f hf => ?_, ?_⟩
    · simp only [ownFlds, List.mem_cons, List.not_mem_nil, or_false] at hf
      unfold State.is
      obtain rfl | rfl | rfl := hf
      · simp [s2, table_form, trioWidths]
      · simp [s2, table_form, trioWidths]
      · simp [s2, table_form, trioWidths]
    · refine (State.get_set_same ..).trans (Nat.mod_eq_of_lt ?_)
      have hp : s1.pos = s.pos := rfl
      have := Nat.mod_lt s.pos (show 3 > 0 by decide)
      rw [trioWidths.2.2.1]
      change s1.pos % 3 < 2 ^ 2
      omega
  have h3 : TrioOnly [.TRIO_STATUS_QUALIFIED, .TRIO_STATUS_MEMBERS, .TRIO_STATUS_DEGRADED] s2 s3 ∧ s3.trio = s2.trio := by
    unfold s3
    split_ifs
    · exact ⟨((TrioOnly.refl _ s2).set (f := .TRIO_STATUS_QUALIFIED) (by decide) _ _ _).trans ((State.setMember_only _ _ _).mono (by decide)), rfl⟩
    · exact ⟨.refl _ s2, rfl⟩
  have h4 : TrioOnly [.TRIO_STATUS_QUALIFIED, .TRIO_STATUS_MEMBERS, .TRIO_STATUS_DEGRADED] s2 s4 ∧ s4.trio = s2.trio := by
    unfold s4
    split_ifs
    · exact ⟨h3.1.out _, h3.2⟩
    · exact h3
  have h5 : TrioOnly [.TRIO_STATUS_QUALIFIED, .TRIO_STATUS_MEMBERS, .TRIO_STATUS_DEGRADED, .FIRE_TRIG_COMP] s2 (s4.set .FIRE_TRIG_COMP 0) :=
    (h4.1.mono (by decide)).set (by decide) _ _ _
  refine ⟨h2.trans (h5.mono (by decide)), h4.2, fun f hf => ?_, State.get_set_fits (f := .FIRE_TRIG_COMP) _ 0 0 rfl, (h5.get (by decide) 0 0).trans hr2.2⟩
  exact (h5.is ((by decide : ∀ f ∈ ownFlds, f ∉ [Fld.TRIO_STATUS_QUALIFIED, .TRIO_STATUS_MEMBERS, .TRIO_STATUS_DEGRADED, .FIRE_TRIG_COMP]) f hf) 0 0).trans (hr2.1 f hf)

/-! ### What reports send -/

/-- Nothing that was sent is taken back. -/
def KeepsSent (s t : State) : Prop := ∀ o ∈ s.outbox, o ∈ t.outbox

theorem KeepsSent.of_outbox {s t : State} (h : t.outbox = s.outbox) : KeepsSent s t := fun o ho => by rwa [h]

theorem KeepsSent.trans {s t u : State} (h : KeepsSent s t) (h' : KeepsSent t u) : KeepsSent s u := fun o ho => h' o (h o ho)

theorem State.signal_keepsSent (s : State) (n : Nat) : KeepsSent s (s.signal n) := by
  unfold State.signal State.msix
  split_ifs
  · exact fun _ h => List.mem_cons_of_mem _ h
  · exact .of_outbox rfl

theorem State.writeCq_keepsSent (s : State) (n : Nat) (e : CqEntry) : KeepsSent s (s.writeCq n e) := by
  unfold State.writeCq
  extract_lets p s1 wrap p' s2 s3
  have h2 : KeepsSent s s2 := .of_outbox rfl
  have h3 : KeepsSent s s3 := by
    unfold s3
    split
    · exact h2.trans (s2.signal_keepsSent n)
    · exact h2
  split_ifs
  · exact h3.trans (.of_outbox rfl)
  · exact h3

theorem State.holdEntry_outbox (s : State) (n : Nat) (e : CqEntry) : (s.holdEntry n e).outbox = s.outbox := by
  unfold State.holdEntry
  dsimp only
  split_ifs
  · rfl
  · rfl

theorem State.noteStatus_outbox (s : State) (n a st : Nat) (fin : Bool) : (s.noteStatus n a st fin).outbox = s.outbox := by
  unfold State.noteStatus
  dsimp only
  split_ifs
  · rfl
  · rfl

theorem State.deliver_keepsSent (s : State) (n : Nat) (e : CqEntry) : KeepsSent s (s.deliver n e) := by
  unfold State.deliver
  dsimp only
  split_ifs
  · exact .of_outbox (s.holdEntry_outbox n e)
  · exact s.writeCq_keepsSent n e
  · exact .of_outbox rfl
  · exact .of_outbox (State.holdEntry_outbox _ n e)

theorem State.report_keepsSent (s : State) (a st : Nat) (fin : Bool) (r x : Nat) : KeepsSent s (s.report a st fin r x) := by
  unfold State.report
  extract_lets y u v w
  have hu : KeepsSent s u := .of_outbox (s.noteStatus_outbox ..)
  have hw : KeepsSent s w := hu.trans fun _ h => List.mem_cons_of_mem _ h
  by_cases h : (!s.live a || y.final) = true
  · rw [if_pos h]
    exact .of_outbox rfl
  · rw [if_neg h]
    split
    · exact hu.trans (u.deliver_keepsSent _ _)
    · split_ifs
      · exact hu
      · exact hu
    · split_ifs
      · exact hw
      · exact hw
    · split_ifs
      · exact hu
      · exact hu
      · exact hu

/-- A member that becomes the owner opens the operations of the pages and sets it knows. -/
structure Adopts (s t : State) : Prop where
  trio : t.trio = s.trio
  touches : Touches reportedFlds s t
  sent : KeepsSent s t

theorem Adopts.trans {s t u : State} (h : Adopts s t) (h' : Adopts t u) : Adopts s u :=
  ⟨h'.trio.trans h.trio, h.touches.trans h'.touches, h.sent.trans h'.sent⟩

theorem State.report_adopts (s : State) (a st : Nat) (fin : Bool) (r x : Nat) : Adopts s (s.report a st fin r x) := by
  have h := s.report_completes a st fin r x
  exact ⟨by rw [h.frame], h.touches, s.report_keepsSent _ _ _ _ _⟩

theorem State.adopt_adopts (s : State) : Adopts s s.adopt := by
  unfold State.adopt
  extract_lets u
  have hu : Adopts s u := List.foldlRecOn (motive := fun v => Adopts s v) _ _ ⟨rfl, .refl _ s, fun _ h => h⟩ fun v hv p _ => by
    refine Adopts.trans ?_ (State.report_adopts ..)
    exact hv.trans ⟨rfl, .of_regs rfl, .of_outbox rfl⟩
  exact List.foldlRecOn (motive := fun v => Adopts s v) _ _ hu fun v hv p _ => by
    refine Adopts.trans ?_ (State.report_adopts ..)
    exact hv.trans ⟨rfl, .of_regs rfl, .of_outbox rfl⟩

/-! ### Frames of state -/

/-- The fields of the frame of member `p` that a flag of that frame leaves. -/
structure KeepsMember (p : Nat) (s t : State) : Prop where
  pos : t.pos = s.pos
  frames : t.trio.frames = s.trio.frames
  member : bit (t.get .TRIO_STATUS_MEMBERS) p = bit (s.get .TRIO_STATUS_MEMBERS) p

namespace KeepsMember
variable {p : Nat} {s t u : State}

theorem refl (p : Nat) (s : State) : KeepsMember p s s := ⟨rfl, rfl, rfl⟩

theorem trans (h : KeepsMember p s t) (h' : KeepsMember p t u) : KeepsMember p s u :=
  ⟨h'.pos.trans h.pos, h'.frames.trans h.frames, h'.member.trans h.member⟩

theorem trio (h : KeepsMember p s t) (x : Trio) (hx : x.frames = t.trio.frames) : KeepsMember p s { t with trio := x } :=
  h.trans ⟨rfl, hx, rfl⟩

theorem of_only {fs : List Fld} (h : TrioOnly fs s t) (hr : .RST_STRAPS_ROLE ∉ fs) (hp : .TRIO_STATUS_POS ∉ fs)
    (hm : .TRIO_STATUS_MEMBERS ∉ fs) (hf : t.trio.frames = s.trio.frames) : KeepsMember p s t :=
  ⟨h.pos hr hp, hf, congrArg (bit · p) (h.get hm 0 0)⟩

theorem unqualify (h : KeepsMember p s t) {x : Nat} (hx : p ≠ x) (hp : p < 3) : KeepsMember p s (t.unqualify x) := by
  obtain ⟨h1, h2, -, -, h3, -⟩ := t.unqualify_reads x
  refine h.trans ⟨h1.pos (by decide) (by decide), ?_, by rw [h3 p hp, if_neg hx]⟩
  rw [h2]
  split_ifs
  · rfl
  · rfl

theorem releaseOwn (h : KeepsMember p s t) : KeepsMember p s t.releaseOwn := by
  obtain ⟨h1, h2, -⟩ := t.releaseOwn_reads
  exact h.trans (.of_only h1 (by decide) (by decide) (by decide) (by rw [h2]))

theorem cancelReturn (h : KeepsMember p s t) : KeepsMember p s t.cancelReturn := by
  refine h.trans ⟨?_, rfl, ?_⟩
  · have ho : TrioOnly [.TRIO_STATUS_REVERT_PENDING, .TRIO_AGREE_LINES] t t.cancelReturn :=
      (((TrioOnly.refl _ t).set (f := .TRIO_STATUS_REVERT_PENDING) (by decide) _ _ _).set (f := .TRIO_AGREE_LINES) (by decide) _ _ _).trio _
    exact ho.pos (by decide) (by decide)
  · change bit (((t.off .TRIO_STATUS_REVERT_PENDING).off .TRIO_AGREE_LINES).get .TRIO_STATUS_MEMBERS) p = _
    rw [State.off, State.get_set_fld _ (by decide), State.off, State.get_set_fld _ (by decide)]

theorem out (h : KeepsMember p s t) (o : Out) : KeepsMember p s (t.out o) := h.trans ⟨rfl, rfl, rfl⟩

theorem checkReturn (h : KeepsMember p s t) : KeepsMember p s t.checkReturn := by
  unfold State.checkReturn
  split_ifs
  · exact h.cancelReturn.out _
  · exact h

theorem outvote (h : KeepsMember p s t) (hp : p < 3) (y : Nat) : KeepsMember p s (t.outvote p y) := by
  unfold State.outvote
  extract_lets l u
  have hu : KeepsMember p s u := by
    refine List.foldlRecOn (motive := fun v => KeepsMember p s v) _ _ h fun v hv x hx => hv.unqualify ?_ hp
    have := (List.mem_filter.mp hx).2
    simp only [Bool.and_eq_true, bne_iff_ne] at this
    exact this.1.2.symm
  exact hu.trio _ rfl

theorem takeYield (h : KeepsMember p s t) (hp : p < 3) (hn : p ≠ s.pos) (x : Nat) : KeepsMember p s (t.takeYield x) := by
  unfold State.takeYield
  extract_lets y u
  have hu : KeepsMember p s u := h.trio _ rfl
  split_ifs
  · have hr := (hu.trio { u.trio with yields := 0 } rfl).releaseOwn
    refine hr.unqualify ?_ hp
    have hpos : u.pos = s.pos := hu.pos
    rw [hpos]
    exact hn
  · exact hu

theorem takeClaim (h : KeepsMember p s t) (x : Nat) : KeepsMember p s (t.takeClaim x) := by
  unfold State.takeClaim
  split_ifs
  · exact h.releaseOwn
  · exact h

end KeepsMember

theorem State.takeFlags_reads (s : State) {p : Nat} (hp : p < 3) (hn : p ≠ s.pos) (flags y : Nat) : (fun t : State =>
      t.trio.frames = s.trio.frames ∧ bit (t.get .TRIO_STATUS_MEMBERS) p = bit flags 1) (s.takeFlags p flags y) := by
  unfold State.takeFlags
  extract_lets s1 s2 x s3 s4
  have hs : (s.setMember p (bit flags 1)).pos = s.pos := (s.setMember_only p _).pos (by decide) (by decide)
  have hm : bit ((s.setMember p (bit flags 1)).get .TRIO_STATUS_MEMBERS) p = bit flags 1 := by rw [s.setMember_reads p _ hp, if_pos rfl]
  have h1 : KeepsMember p (s.setMember p (bit flags 1)) s1 := (KeepsMember.refl p _).checkReturn
  have h2 : KeepsMember p (s.setMember p (bit flags 1)) s2 := by
    unfold s2
    split_ifs
    · exact h1.outvote hp y
    · exact h1
  have h3 : KeepsMember p (s.setMember p (bit flags 1)) s3 := by
    unfold s3
    split_ifs
    · exact h2.trio _ rfl
    · exact h2
  have h4 : KeepsMember p (s.setMember p (bit flags 1)) s4 := by
    unfold s4
    split_ifs
    · exact h3.takeYield hp (hs ▸ hn) p
    · exact h3
  split_ifs
  · exact ⟨(h4.takeClaim p).frames, (h4.takeClaim p).member.trans hm⟩
  · exact ⟨h4.frames, h4.member.trans hm⟩

theorem State.missFrame_reads (s : State) : (fun t : State => t.trio.missed = s.trio.missed + 1 ∧ t.trio.agree = 0 ∧ t.get .TRIO_AGREE_LINES = 0)
    s.missFrame := by
  unfold State.missFrame
  extract_lets s1 x s2
  have h2 : s2.trio.missed = s.trio.missed + 1 ∧ s2.trio.agree = 0 ∧ s2.get .TRIO_AGREE_LINES = 0 :=
    ⟨rfl, rfl, (State.get_set_fits (f := .TRIO_AGREE_LINES) (v := 0) s 0 0 rfl :)⟩
  split_ifs
  · obtain ⟨r1, r2, r3, r4, -⟩ := State.unqualify_reads { s2 with trio := { s2.trio with lapsed := true } } s2.pos
    rw [if_pos (show s2.pos = State.pos { s2 with trio := { s2.trio with lapsed := true } } from rfl)] at r2
    exact ⟨(congrArg Trio.missed r2).trans h2.1, (congrArg Trio.agree r2).trans rfl, r3 rfl⟩
  · exact h2

theorem State.frameBody_length (s : State) (h : Nat) : (s.frameBody h).length = 124 := by
  unfold State.frameBody
  simp only [List.length_append, length_leBytes]

/-! ### Take-over and return -/

/-- What a take-over changes before the heir adopts the job. -/
def State.takenOver (s : State) (c n : Nat) : State :=
  let owner := s.get .TRIO_STATUS_OWNER
  let s := s.out (.wort "trioYield" [owner, c])
  let heir := s.heir.getD s.pos
  let s := (((s.set .TRIO_LAST_CAUSE c).set .TRIO_LAST_FROM owner).set .TRIO_LAST_TO heir).set .TRIO_LAST_CATCHUP (min n 65535)
  let s := (s.bump .TRIO_EVENTS_TAKEOVERS).set .TRIO_HANDOVER_LINE s.seq.next
  let s := (s.setMember owner false).cancelReturn
  let s := { s with trio := { s.trio with verdicts := [], missed := 0, lapsed := false, badLine := false, yields := 0, yielding := true } }
  s.trioVector

theorem exec_takeover {s : State} {c n : Nat} (hm : s.member = true) (ha : s.is .TRIO_STATUS_ACTIVE = false) (hd : s.takeoverDue c = true) :
    exec (.takeover c n) s = .next (if s.heir.getD s.pos = (s.takenOver c n).pos then
      (State.adopt { s.takenOver c n with trio := { (s.takenOver c n).trio with wants := true } }).out (.wort "ownerNotice" [(s.takenOver c n).pos])
    else s.takenOver c n) :=
  (exec_when (i := .takeover c n) (s := s) rfl (by rw [hm, ha, hd]; rfl)).trans rfl

/-- The fields of a take-over that adopting leaves. -/
structure TakenOver (s : State) (c : Nat) (t : State) : Prop where
  takeovers : t.get .TRIO_EVENTS_TAKEOVERS = min (s.get .TRIO_EVENTS_TAKEOVERS + 1) (2 ^ Fld.TRIO_EVENTS_TAKEOVERS.desc.width - 1)
  cause : t.get .TRIO_LAST_CAUSE = c % 2 ^ Fld.TRIO_LAST_CAUSE.desc.width
  heir : t.get .TRIO_LAST_TO = s.heir.getD s.pos % 2 ^ Fld.TRIO_LAST_TO.desc.width
  source : t.get .TRIO_LAST_FROM = s.get .TRIO_STATUS_OWNER % 2 ^ Fld.TRIO_LAST_FROM.desc.width
  line : t.get .TRIO_HANDOVER_LINE = s.seq.next % 2 ^ Fld.TRIO_HANDOVER_LINE.desc.width
  sent : .wort "trioYield" [s.get .TRIO_STATUS_OWNER, c] ∈ t.outbox

theorem TakenOver.mono {s t u : State} {c : Nat} {fs : List Fld} (h : TakenOver s c t) (hu : Touches fs t u) (hs : KeepsSent t u)
    (hf : ∀ f ∈ [Fld.TRIO_EVENTS_TAKEOVERS, .TRIO_LAST_CAUSE, .TRIO_LAST_TO, .TRIO_LAST_FROM, .TRIO_HANDOVER_LINE], f ∉ fs) : TakenOver s c u where
  takeovers := (hu _ 0 0 (hf _ (by decide))).trans h.takeovers
  cause := (hu _ 0 0 (hf _ (by decide))).trans h.cause
  heir := (hu _ 0 0 (hf _ (by decide))).trans h.heir
  source := (hu _ 0 0 (hf _ (by decide))).trans h.source
  line := (hu _ 0 0 (hf _ (by decide))).trans h.line
  sent := hs _ h.sent

theorem State.cancelReturn_only (s : State) : TrioOnly [.TRIO_STATUS_REVERT_PENDING, .TRIO_AGREE_LINES] s s.cancelReturn :=
  (((TrioOnly.refl _ s).set (f := .TRIO_STATUS_REVERT_PENDING) (by decide) _ _ _).set (f := .TRIO_AGREE_LINES) (by decide) _ _ _).trio _

theorem State.takenOver_reads (s : State) (c n : Nat) : TakenOver s c (s.takenOver c n) ∧ (s.takenOver c n).pos = s.pos := by
  unfold State.takenOver
  extract_lets owner s1 heir s2 s3 s4 x s5
  have h3 : TakenOver s c s3 := by
    have hh : heir = s.heir.getD s.pos := rfl
    refine ⟨?_, ?_, ?_, ?_, State.get_set_same .., List.mem_cons_self⟩
    · simp [s3, s2, s1, table_form]
    · simp [s3, s2, s1, table_form]
    · simp [s3, s2, s1, table_form, hh]
    · simp [s3, s2, s1, table_form, owner]
  have h3p : s3.pos = s.pos := by
    have h : TrioOnly [.TRIO_LAST_CAUSE, .TRIO_LAST_FROM, .TRIO_LAST_TO, .TRIO_LAST_CATCHUP, .TRIO_EVENTS_TAKEOVERS, .TRIO_HANDOVER_LINE] s s3 :=
      ((((((TrioOnly.refl _ s).out _).set (f := .TRIO_LAST_CAUSE) (by decide) _ _ _).set (f := .TRIO_LAST_FROM) (by decide) _ _ _).set
        (f := .TRIO_LAST_TO) (by decide) _ _ _).set (f := .TRIO_LAST_CATCHUP) (by decide) _ _ _ |>.bump (f := .TRIO_EVENTS_TAKEOVERS) (by decide) _ _ _).set
        (f := .TRIO_HANDOVER_LINE) (by decide) _ _ _
    exact h.pos (by decide) (by decide)
  have h4 : TrioOnly [.TRIO_STATUS_MEMBERS, .TRIO_STATUS_DEGRADED, .TRIO_STATUS_REVERT_PENDING, .TRIO_AGREE_LINES] s3 s4 :=
    ((s3.setMember_only owner false).mono (by decide)).trans ((State.cancelReturn_only _).mono (by decide))
  have h5 := (h4.trio { s4.trio with verdicts := [], missed := 0, lapsed := false, badLine := false, yields := 0, yielding := true }).trioVector
  exact ⟨h3.mono h5.touches h5.sent (by decide), (h5.pos (by decide) (by decide)).trans h3p⟩

theorem takeover_runs {s : State} {c n : Nat} (hm : s.member = true) (ha : s.is .TRIO_STATUS_ACTIVE = false) (hd : s.takeoverDue c = true) :
    Runs (.takeover c n) s (fun t => TakenOver s c t ∧ (s.heir.getD s.pos = s.pos → t.trio.wants = true)) := by
  obtain ⟨ht, hp⟩ := s.takenOver_reads c n
  refine ⟨_, exec_takeover hm ha hd, ?_⟩
  rw [hp]
  generalize s.takenOver c n = u at ht
  by_cases hh : s.heir.getD s.pos = s.pos
  · rw [if_pos hh]
    have h := State.adopt_adopts { u with trio := { u.trio with wants := true } }
    have hu : TakenOver s c { u with trio := { u.trio with wants := true } } := ht.mono (fs := []) (.of_regs rfl) (.of_outbox rfl) (by decide)
    generalize State.adopt { u with trio := { u.trio with wants := true } } = v at h
    refine ⟨(hu.mono h.touches h.sent (by decide)).mono (fs := []) (.of_regs rfl) (fun _ ho => List.mem_cons_of_mem _ ho) (by decide), fun _ => ?_⟩
    exact congrArg Trio.wants h.trio
  · rw [if_neg hh]
    exact ⟨ht, fun h => absurd h hh⟩

/-- What a return of the owner changes at its end. -/
def State.returned (s : State) (o y : Nat) : State :=
  let s := (((s.set .TRIO_LAST_CAUSE 4).set .TRIO_LAST_FROM o).set .TRIO_LAST_TO 0).set .TRIO_LAST_CATCHUP 0
  let s := (s.bump .TRIO_EVENTS_REVERTS).set .TRIO_HANDOVER_LINE y
  let n := s.trio.notice
  let s := s.cancelReturn
  State.trioVector { s with trio := { s.trio with notice := if s.is .TRIO_STATUS_ACTIVE then none else n } }

theorem exec_primaryReturn {s : State} {y : Nat} (hm : s.member = true) (hh : s.trio.handover = some y) (hp : s.phase = 0)
    (hb : bit (s.get .TRIO_STATUS_MEMBERS) 0 = true) (hs : s.axStopped = true ∨ s.forward 0 = true ∧ y ≤ s.seq.next)
    (ha : s.is .TRIO_STATUS_ACTIVE = true ∨ s.pos = 0) : exec .primaryReturn s = .next (State.returned (if s.is .TRIO_STATUS_ACTIVE then
      s.releaseOwn.set .TRIO_STATUS_OWNER 0 else s.takeOwn.enableDrivers) (s.get .TRIO_STATUS_OWNER) y) := by
  have hi : exec .primaryReturn s = execPrimaryReturn s := rfl
  unfold execPrimaryReturn at hi
  rw [hh] at hi
  refine (exec_when hi ?_).trans rfl
  have h1 : (s.axStopped || (s.forward 0 && decide (y ≤ s.seq.next))) = true := by
    simpa using hs
  have h2 : (s.is .TRIO_STATUS_ACTIVE || s.pos == 0) = true := by
    simpa using ha
  rw [hm, hp, h1, hb, h2]
  rfl

def returnFlds : List Fld := [.TRIO_LAST_CAUSE, .TRIO_LAST_FROM, .TRIO_LAST_TO, .TRIO_LAST_CATCHUP, .TRIO_EVENTS_REVERTS, .TRIO_HANDOVER_LINE,
  .TRIO_STATUS_REVERT_PENDING, .TRIO_AGREE_LINES]

theorem State.returned_reads (s : State) (o y : Nat) : (fun t : State => TrioOnly returnFlds s t ∧ t.trio.handover = none ∧
      t.trio.drivers = s.trio.drivers ∧
      t.get .TRIO_EVENTS_REVERTS = min (s.get .TRIO_EVENTS_REVERTS + 1) (2 ^ Fld.TRIO_EVENTS_REVERTS.desc.width - 1) ∧
      t.get .TRIO_HANDOVER_LINE = y % 2 ^ Fld.TRIO_HANDOVER_LINE.desc.width) (s.returned o y) := by
  unfold State.returned
  extract_lets s1 s2 n s3 x
  have h2 : TrioOnly returnFlds s s2 := ((((((TrioOnly.refl _ s).set (f := .TRIO_LAST_CAUSE) (by decide) _ _ _).set (f := .TRIO_LAST_FROM) (by decide) _ _ _).set
        (f := .TRIO_LAST_TO) (by decide) _ _ _).set (f := .TRIO_LAST_CATCHUP) (by decide) _ _ _).bump (f := .TRIO_EVENTS_REVERTS) (by decide) _ _ _).set
        (f := .TRIO_HANDOVER_LINE) (by decide) _ _ _
  have r2 : s2.get .TRIO_EVENTS_REVERTS = min (s.get .TRIO_EVENTS_REVERTS + 1) (2 ^ Fld.TRIO_EVENTS_REVERTS.desc.width - 1) := by
    simp [s2, s1, table_form]
  have q2 : s2.get .TRIO_HANDOVER_LINE = y % 2 ^ Fld.TRIO_HANDOVER_LINE.desc.width := State.get_set_same ..
  have h3 : TrioOnly [.TRIO_STATUS_REVERT_PENDING, .TRIO_AGREE_LINES] s2 s3 := s2.cancelReturn_only
  have h4 := (h3.trio { s3.trio with notice := if s3.is .TRIO_STATUS_ACTIVE then none else n }).trioVector
  refine ⟨h2.trans (h4.mono (by decide)), ?_, ?_, (h4.get (by decide) 0 0).trans r2, (h4.get (by decide) 0 0).trans q2⟩
  · rw [State.trioVector_frame]
    rfl
  · rw [State.trioVector_frame]
    rfl

/-! ### Yields -/

theorem State.takeYield_idle {s : State} (h : s.trio.pulling = false) (p : Nat) :
    s.takeYield p = { s with trio := { s.trio with yields := setBit s.trio.yields p } } := by
  unfold State.takeYield
  exact if_neg (by rw [h]; exact fun hn => absurd hn.1 (by decide))

theorem State.takeYield_reads {s : State} {p : Nat} (h : s.trio.pulling = true)
    (hy : ∀ q, q < 3 → q ≠ s.pos → q ≠ p → bit s.trio.yields q = true) : (fun t : State => t.trio.pulling = false ∧ t.is .TRIO_STATUS_ACTIVE = false ∧
      t.is .MOT_STATUS_OWN = false ∧ t.is .FIRE_STATUS_OWNER = false ∧ t.trio.yields = 0 ∧ t.trio.drivers = false) (s.takeYield p) := by
  have hall : (([0, 1, 2].filter (fun t => t != s.pos)).all (fun t => bit (setBit s.trio.yields p) t)) = true := by
    rw [List.all_eq_true]
    intro q hq
    obtain ⟨hm, hn⟩ := List.mem_filter.mp hq
    have hq3 : q < 3 := by
      simp only [List.mem_cons, List.not_mem_nil, or_false] at hm
      omega
    rw [setBit, bit, Nat.testBit_or, Nat.testBit_two_pow]
    by_cases he : q = p
    · rw [decide_eq_true he.symm, Bool.or_true]
    · rw [← bit, hy q hq3 (bne_iff_ne.mp hn) he, Bool.true_or]
  unfold State.takeYield
  extract_lets x u
  rw [if_pos ⟨h, hall⟩]
  obtain ⟨h1, h2, h3⟩ := State.releaseOwn_reads { u with trio := { u.trio with yields := 0 } }
  generalize State.releaseOwn { u with trio := { u.trio with yields := 0 } } = v at h1 h2 h3
  obtain ⟨r1, r2, -⟩ := v.unqualify_reads u.pos
  have ht : ∀ {α : Type} (f : Trio → α) (_ : ∀ x : Trio, f { x with agree := 0 } = f x), f (v.unqualify u.pos).trio = f v.trio := fun f hf => by
    rw [r2]
    split_ifs
    · exact hf _
    · rfl
  exact ⟨(ht Trio.pulling fun _ => rfl).trans (by rw [h2]), (r1.is (by decide) 0 0).trans (h3 _ (by decide)), (r1.is (by decide) 0 0).trans (h3 _ (by decide)),
    (r1.is (by decide) 0 0).trans (h3 _ (by decide)), (ht Trio.yields fun _ => rfl).trans (by rw [h2]), (ht Trio.drivers fun _ => rfl).trans (by rw [h2])⟩

/-! ### Frames received, verdicts and claims -/

/-- What member `s` does with the good frame `b` of another member. -/
def State.takeFrame (s : State) (b : List Byte) (h : Nat) : State :=
  if s.pos = fieldAt b 8 1 ∨ 3 ≤ s.pos then s
  else
    let s := { s with trio := { s.trio with frames := store [] s.trio.frames (fieldAt b 8 1) b } }
    let s := s.takeFlags (fieldAt b 8 1) (fieldAt b 9 1) (fieldAt b 0 8)
    if bit (fieldAt b 9 1) 0 ∧ !s.is .TRIO_STATUS_ACTIVE then (s.set .TRIO_STATUS_OWNER (fieldAt b 8 1)).activeFrame b h else s

theorem exec_stateFrameReceive {s : State} (hw : s.powered 127 = true) (hr : s.role = rolePress ∨ s.role = roleTrio) (p h : Nat) (b : List Byte) :
    exec (.stateFrameReceive p b h) s = .next (
      if !(b.length == 128 && crc32c (b.take 0x7C) == fieldAt b 0x7C 4 && decide (fieldAt b 8 1 < 3)) then
        (if s.peerAt p = s.get .TRIO_STATUS_OWNER then s.missFrame else s)
      else State.takeFrame (if s.role = roleTrio ∧ fieldAt b 8 1 = 0 then
          State.set { s with trio := { s.trio with t0 := true } } .TRIO_STATUS_POS (if p = 1 then 1 else 2) else s) b h) :=
  (exec_when (i := .stateFrameReceive p b h) (s := s) rfl (by rw [hw]; simpa using hr)).trans rfl

theorem stateFrame_taken {s : State} {b : List Byte} (hw : s.powered 127 = true) (hr : s.role = rolePress) (hl : b.length = 128)
    (hc : crc32c (b.take 0x7C) = fieldAt b 0x7C 4) (hp : fieldAt b 8 1 = 1 ∨ fieldAt b 8 1 = 2) (h0 : bit (fieldAt b 9 1) 0 = false) (p h : Nat) :
    Runs (.stateFrameReceive p b h) s (fun t => look [] t.trio.frames (fieldAt b 8 1) = b ∧
      bit (t.get .TRIO_STATUS_MEMBERS) (fieldAt b 8 1) = bit (fieldAt b 9 1) 1) := by
  have hpos : s.pos = 0 := if_pos hr
  have h3 : fieldAt b 8 1 < 3 := by omega
  have hx := exec_stateFrameReceive hw (.inl hr) p h b
  have hn : ¬ (s.role = roleTrio ∧ fieldAt b 8 1 = 0) := fun hn => absurd (hr.symm.trans hn.1) (by decide)
  rw [hl, hc, decide_eq_true h3, if_neg hn, if_neg (by simp)] at hx
  obtain ⟨r1, r2⟩ := State.takeFlags_reads { s with trio := { s.trio with frames := store [] s.trio.frames (fieldAt b 8 1) b } } h3
    (by change _ ≠ s.pos; omega) (fieldAt b 9 1) (fieldAt b 0 8)
  refine ⟨_, exec_of hx ((if_neg (by omega)).trans (if_neg (by rw [h0]; exact fun hn => absurd hn.1 (by decide)))), ?_, r2⟩
  rw [r1]
  exact look_store_same ..

/-- The active member that gives up, before it releases the drivers. -/
def State.ceding (s : State) : State :=
  let s := (s.set .TRIO_LAST_CAUSE 3).set .TRIO_LAST_FROM s.pos
  { s with trio := { s.trio with yielding := true } }

/-- The state of the active member that yields. -/
theorem badVerdict_active {s : State} (hm : s.member = true) (ha : s.is .TRIO_STATUS_ACTIVE = true) (y : Nat) :
    Runs (.badVerdict s.pos y) s (fun t => t.is .TRIO_STATUS_ACTIVE = false ∧ t.is .MOT_STATUS_OWN = false ∧ t.is .FIRE_STATUS_OWNER = false ∧
      t.get .TRIO_LAST_CAUSE = 3 ∧ bit (t.get .TRIO_STATUS_MEMBERS) s.pos = false ∧ t.trio.pulling = false) := by
  have hp : s.pos < 3 := of_decide_eq_true (Bool.and_eq_true_iff.mp hm).2
  have hx : exec (.badVerdict s.pos y) s = .next ((s.ceding.releaseOwn.unqualify s.pos).out (.wort "trioYield" [s.pos, 3])) :=
    exec_of (exec_when (i := .badVerdict s.pos y) (s := s) rfl (by rw [hm, decide_eq_true hp]; rfl)) (if_pos ⟨rfl, ha⟩)
  refine ⟨_, hx, ?_⟩
  have hc : s.ceding.get .TRIO_LAST_CAUSE = 3 :=
    (State.get_set_fld _ (by decide) ..).trans (State.get_set_fits (f := .TRIO_LAST_CAUSE) s 0 0 rfl)
  generalize s.ceding = u at hc
  obtain ⟨h1, h2, h3⟩ := u.releaseOwn_reads
  generalize u.releaseOwn = v at h1 h2 h3
  obtain ⟨r1, r2, -, -, r3, -⟩ := v.unqualify_reads s.pos
  have h2' : (v.unqualify s.pos).trio.pulling = false := by
    rw [r2]
    split_ifs
    · exact (congrArg Trio.pulling h2).trans rfl
    · exact (congrArg Trio.pulling h2).trans rfl
  generalize v.unqualify s.pos = w at r1 r2 r3 h2'
  exact ⟨(r1.is (by decide) 0 0).trans (h3 .TRIO_STATUS_ACTIVE (by decide)), (r1.is (by decide) 0 0).trans (h3 .MOT_STATUS_OWN (by decide)),
    (r1.is (by decide) 0 0).trans (h3 .FIRE_STATUS_OWNER (by decide)),
    (r1.get (by decide) 0 0).trans ((h1.get (f := .TRIO_LAST_CAUSE) (by decide) 0 0).trans hc), (r3 _ hp).trans (if_pos rfl), h2'⟩

/-- The verdict at line `y` on member `p`. -/
def State.judgedBad (s : State) (p y : Nat) : State :=
  { s with trio := { s.trio with verdicts := (p, y) :: s.trio.verdicts, agree := if p = s.pos then 0 else s.trio.agree } }

theorem badVerdict_other {s : State} {p : Nat} (hm : s.member = true) (hp : p < 3) (hn : p ≠ s.pos) (hb : bit (s.get .TRIO_STATUS_MEMBERS) p = true)
    (h2 : s.members ≤ 2) (y : Nat) : Runs (.badVerdict p y) s (fun t => bit (t.get .TRIO_STATUS_MEMBERS) p = false ∧
      t.get .TRIO_EVENTS_UNQUAL = min (s.get .TRIO_EVENTS_UNQUAL + 1) (2 ^ Fld.TRIO_EVENTS_UNQUAL.desc.width - 1)) := by
  have hx : exec (.badVerdict p y) s = .next ((s.judgedBad p y).unqualify p) := by
    refine exec_of (exec_when (i := .badVerdict p y) (s := s) rfl (by rw [hm, decide_eq_true hp]; rfl)) ?_
    refine ((if_neg fun h => hn h.1).trans (if_neg (by rw [hb]; decide))).trans ((if_pos (decide_eq_true h2)).trans ?_)
    exact congrArg (State.unqualify · p) (if_neg hn)
  obtain ⟨-, -, -, -, r3, r4⟩ := (s.judgedBad p y).unqualify_reads p
  exact ⟨_, hx, (r3 p hp).trans (if_pos rfl), r4 hb⟩

theorem firstOwner_trio {s : State} {a : Nat} (hr : s.role = roleTrio) (ha : a = 1 ∨ a = 2) (h0 : s.trio.t0 = false) (h1 : s.powered 127 = true)
    (h2 : s.powered 124 = true) (hi : s.fullImage.isSome = true) (hc : s.conflict = false) (hx : s.axStopped = true) (hp : s.trio.pulling = false) :
    Runs (.firstOwnerClaim false a) s (fun t => t.get .TRIO_STATUS_POS = a ∧ t.trio.pulling = true ∧ t.trio.claiming = true ∧
      t.is .MOT_STATUS_OWN = true ∧ .wort "trioClaim" [a] ∈ t.outbox) := by
  have he : exec (.firstOwnerClaim false a) s = execFirstOwnerClaim false s a := rfl
  unfold execFirstOwnerClaim at he
  dsimp only at he
  rw [if_pos ⟨hr, ha, h1⟩] at he
  have hpos : (s.set .TRIO_STATUS_POS a).get .TRIO_STATUS_POS = a := State.get_set_fits s 0 0 (by obtain rfl | rfl := ha <;> rfl)
  have hw : ∀ n, (s.set .TRIO_STATUS_POS a).powered n = s.powered n := fun n => by
    unfold State.powered
    rw [State.get_set_fld _ (by decide)]
  have hf : (s.set .TRIO_STATUS_POS a).fullImage = s.fullImage := rfl
  have hk : (s.set .TRIO_STATUS_POS a).conflict = s.conflict := by
    unfold State.conflict State.is
    rw [State.get_set_fld _ (by decide)]
    rfl
  have hax : (s.set .TRIO_STATUS_POS a).axStopped = s.axStopped := by
    unfold State.axStopped State.is
    rw [State.get_set_fld _ (by decide), State.get_set_fld _ (by decide)]
  have ht : (s.set .TRIO_STATUS_POS a).trio = s.trio := rfl
  have hro : (s.set .TRIO_STATUS_POS a).role = roleTrio := (State.get_set_fld _ (by decide) ..).trans hr
  generalize s.set .TRIO_STATUS_POS a = u at he hpos hw hf hk hax ht hro
  have hup : u.pos = a := by
    rw [State.pos, hro, if_neg (by decide), if_pos rfl, hpos]
  have hpr : (s.role == rolePress && bit (s.sf 0x0050 0 0 1) 0) = false := by rw [hr]; rfl
  rw [hpr, Bool.false_or] at he
  have hx' := exec_of he (State.when_of u _ (by rw [hw, hw, hf, hk, hax, ht, hro, hup, h1, h2, hi, hc, hx, hp, h0, decide_eq_true (by omega : a < 3)]; rfl))
  refine ⟨_, hx', ?_⟩
  dsimp only
  rw [if_neg (by decide), if_neg (by decide)]
  have hd := u.adopt_adopts
  generalize u.adopt = v at hd
  have hvp : (v.out (.wort "ownerNotice" [u.pos])).pos = a := by
    change v.pos = a
    rw [State.pos, State.role, hd.touches _ _ _ (by decide), hd.touches _ _ _ (by decide)]
    exact hup
  obtain ⟨r1, r2, r3, -, r4⟩ := (v.out (.wort "ownerNotice" [u.pos])).pullOwn_reads
  rw [hvp] at r4
  refine ⟨(r1.get (by decide) 0 0).trans ?_, by rw [r2], by rw [r2], r3, r4⟩
  exact (hd.touches .TRIO_STATUS_POS 0 0 (by decide)).trans hpos

/-- Settles O49: it holds. Each operation writes a few fields of the member and of its registers, and what it sends stays sent: a member's bit follows its
latest frame, a yield takes the drivers away, and a claim or a return gives them. -/
theorem managerTrio : Obligations.ManagerTrio := by
  refine ⟨fun s u h hm hu => ?send, fun s p h b hw hr hb => ?bad, fun s p h b hw hr hl hc hp h0 => stateFrame_taken hw hr hl hc hp h0 p h,
    fun s w hm ha hq hc hg => ?qualify, fun s y hm ha => badVerdict_active hm ha y, fun s p y hm hp hn hb h2 => badVerdict_other hm hp hn hb h2 y,
    fun s c n hm ha hd => ?takeover, fun s p hm hp hn hy => ?idleYield, fun s p hm hp hn hq hy => ?yield, fun s hm hw hp => ?claim,
    fun s p hm hp hc => ?yieldClaim, fun s hc => ?drivers, fun s held a hr hb h1 h2 hi hc hx hp => ?first,
    fun s a hr ha h0 h1 h2 hi hc hx hp => firstOwner_trio hr ha h0 h1 h2 hi hc hx hp, fun s t y ht => ?notice, fun s hm ho ha hp hq he hl => ?ask,
    fun s y hm ho ha hp hr hh hy => ?announce, fun s y hm hh hp hb hs ha => ?leave, fun s y hm hh hp hb hs ha h0 => ?takesBack,
    fun s v hr hv => ?badCfg, fun s v hr hv => ?cfg⟩
  case send =>
    subst hu
    exact ⟨_, exec_when (i := .stateFrameSend h) (s := s) rfl hm, State.frameBody_length .., rfl⟩
  case bad =>
    have hg : (b.length == 128 && crc32c (b.take 0x7C) == fieldAt b 0x7C 4 && decide (fieldAt b 8 1 < 3)) = false := by
      simp only [Bool.and_eq_false_iff, beq_eq_false_iff_ne, decide_eq_false_iff_not, Nat.not_lt]
      tauto
    refine ⟨_, exec_of (exec_stateFrameReceive hw hr p h b) (if_pos (by rw [hg]; rfl)), rfl, fun he => ?_⟩
    rw [if_pos he]
    exact s.missFrame_reads
  case qualify =>
    have hp : s.pos < 3 := of_decide_eq_true (Bool.and_eq_true_iff.mp hm).2
    have hcond : (decide (1024 ≤ s.trio.agree) || (w && s.axStopped && decide (1000 ≤ s.trio.agree))) = true := by
      simpa [and_assoc] using hg
    refine ⟨_, exec_when (i := .qualify w) (s := s) rfl (by rw [hm, ha, hq, hc, hcond]; rfl), ?_, ?_, rfl⟩
    · rw [State.is, State.off, State.get_set_fld _ (by decide), (State.setMember_only ..).get (by decide)]
      exact beq_iff_eq.mpr (State.get_set_fits (f := .TRIO_STATUS_QUALIFIED) s 0 0 rfl)
    · rw [State.off, State.get_set_fld _ (by decide), State.setMember_reads _ _ _ hp, if_pos rfl]
  case takeover =>
    obtain ⟨t, he, ht, hw⟩ := takeover_runs hm ha hd
    exact ⟨t, he, ht.takeovers, ht.cause, ht.heir, hw, ht.source, ht.line, ht.sent⟩
  case idleYield =>
    exact ⟨_, exec_of (exec_when (i := .yield p) (s := s) rfl (by rw [hm, decide_eq_true hp, bne_iff_ne.mpr hn]; rfl)) (State.takeYield_idle hy p), rfl⟩
  case yield =>
    exact ⟨_, exec_when (i := .yield p) (s := s) rfl (by rw [hm, decide_eq_true hp, bne_iff_ne.mpr hn]; rfl), State.takeYield_reads hq hy⟩
  case claim =>
    have hp3 : s.pos < 3 := of_decide_eq_true (Bool.and_eq_true_iff.mp hm).2
    obtain ⟨-, r1, r2, r3, r4⟩ := s.pullOwn_reads
    exact ⟨_, exec_of (exec_when (i := .claim s.pos) (s := s) rfl (by rw [hm, decide_eq_true hp3]; rfl)) ((if_pos rfl).trans (if_pos (by rw [hw, hp]; rfl))),
      by rw [r1], by rw [r1], r2, r3, r4⟩
  case yieldClaim =>
    have hp3 : s.pos < 3 := of_decide_eq_true (Bool.and_eq_true_iff.mp hm).2
    obtain ⟨-, r1, r2⟩ := s.releaseOwn_reads
    exact ⟨_, exec_of (exec_when (i := .claim p) (s := s) rfl (by rw [hm, decide_eq_true (by omega : p < 3)]; rfl))
      ((if_neg (by omega)).trans (if_pos (by rw [hc, decide_eq_true hp]; rfl))), rfl, by rw [r1], r2 _ (by decide)⟩
  case drivers =>
    obtain ⟨-, r1, r2, r3, -⟩ := s.enableDrivers_reads
    exact ⟨_, exec_when (i := .driverEnable) (s := s) rfl hc, r2 _ (by decide), r2 _ (by decide), r2 _ (by decide), by rw [r1], by rw [r1], r3⟩
  case first =>
    have he : exec (.firstOwnerClaim held a) s = execFirstOwnerClaim held s a := rfl
    unfold execFirstOwnerClaim at he
    dsimp only at he
    rw [if_neg (fun hn => absurd (hr.symm.trans hn.1) (by decide))] at he
    refine ⟨_, exec_when he (by rw [h1, h2, hi, hc, hx, hp, hr, hb]; rfl), ?_⟩
    dsimp only
    rw [if_pos (show (s.role == rolePress && bit (s.sf 0x0050 0 0 1) 0) = true by rw [hr, hb]; rfl)]
  case notice =>
    refine ⟨_, exec_when (i := .ownerNotice t y) (s := s) rfl (decide_eq_true ht), ?_⟩
    dsimp only
    rw [show State.pos { s with trio := { s.trio with notice := some (t, y) } } = s.pos from rfl]
    split_ifs
    · exact ⟨rfl, State.get_set_fits (f := .TRIO_STATUS_OWNER) _ 0 0 (Nat.mod_eq_of_lt (by rw [trioWidths.2.2.1]; omega)), rfl⟩
    · exact ⟨rfl, rfl, rfl⟩
  case ask =>
    exact ⟨_, exec_of (exec_when (i := .revertReq) (s := s) rfl (by rw [hm, ho]; rfl)) ((if_neg (by rw [ha]; decide)).trans (if_pos ⟨hp, hq, he, hl⟩)), rfl⟩
  case announce =>
    subst hy
    refine ⟨_, exec_of (exec_when (i := .revertReq) (s := s) rfl (by rw [hm, ho]; rfl)) ((if_pos ha).trans (if_neg (by rw [hr, hh]; simp [hp]))), rfl, rfl, ?_, rfl⟩
    exact beq_iff_eq.mpr (State.get_set_fits (f := .TRIO_STATUS_REVERT_PENDING) (v := 1) _ 0 0 rfl :)
  case leave =>
    refine ⟨_, exec_of (exec_primaryReturn hm hh hp hb hs (.inl ha)) (congrArg (fun u : State => u.returned (s.get .TRIO_STATUS_OWNER) y) (if_pos ha)), ?_⟩
    obtain ⟨h1, -, h3⟩ := s.releaseOwn_reads
    have hu := h1.mono (gs := ownFlds ++ [.TRIO_STATUS_OWNER]) (by decide) |>.set (f := .TRIO_STATUS_OWNER) (by decide) 0 0 0
    have hf : ∀ f ∈ ownFlds, (s.releaseOwn.set .TRIO_STATUS_OWNER 0).is f = false := fun f hf =>
      (congrArg (· == 1) (State.get_set_fld _ ((by decide : ∀ f ∈ ownFlds, f ≠ .TRIO_STATUS_OWNER) f hf) ..)).trans (h3 f hf)
    have ho : (s.releaseOwn.set .TRIO_STATUS_OWNER 0).get .TRIO_STATUS_OWNER = 0 := State.get_set_fits (f := .TRIO_STATUS_OWNER) _ 0 0 rfl
    generalize s.releaseOwn.set .TRIO_STATUS_OWNER 0 = u at hu hf ho
    obtain ⟨r1, r2, -, r3, r4⟩ := u.returned_reads (s.get .TRIO_STATUS_OWNER) y
    exact ⟨(r1.is (by decide) 0 0).trans (hf .TRIO_STATUS_ACTIVE (by decide)), (r1.is (by decide) 0 0).trans (hf .MOT_STATUS_OWN (by decide)),
      (r1.get (by decide) 0 0).trans ho, r3.trans (by rw [hu.get (by decide)]), r4, r2⟩
  case takesBack =>
    refine ⟨_, exec_of (exec_primaryReturn hm hh hp hb hs (.inr h0)) (congrArg (fun u : State => u.returned (s.get .TRIO_STATUS_OWNER) y)
      (if_neg (by rw [ha]; decide))), ?_⟩
    obtain ⟨h1, -, -, -⟩ := s.takeOwn_reads
    generalize s.takeOwn = v at h1
    have hvp : v.pos = 0 := (h1.pos (by decide) (by decide)).trans h0
    obtain ⟨e1, e2, e3, -, e4⟩ := v.enableDrivers_reads
    generalize v.enableDrivers = u at e1 e2 e3 e4
    obtain ⟨r1, r2, r5, r3, -⟩ := u.returned_reads (s.get .TRIO_STATUS_OWNER) y
    refine ⟨(r1.is (by decide) 0 0).trans (e3 .TRIO_STATUS_ACTIVE (by decide)), (r1.is (by decide) 0 0).trans (e3 .MOT_STATUS_OWN (by decide)),
      (r1.is (by decide) 0 0).trans (e3 .FIRE_STATUS_OWNER (by decide)), (r1.get (by decide) 0 0).trans (e4.trans (by rw [hvp])),
      r5.trans (by rw [e2]), r3.trans (by rw [e1.get (by decide), h1.get (by decide)]), r2⟩
  case badCfg =>
    refine ⟨_, exec_of (exec_reach (i := .trioCfgWrite v) (s := s) rfl hr) (if_pos hv), onlyRegs_set .., ?_⟩
    exact beq_iff_eq.mpr (State.get_set_fits (f := .TRIO_STATUS_ERR) s 0 0 rfl)
  case cfg =>
    refine ⟨_, exec_of (exec_reach (i := .trioCfgWrite v) (s := s) rfl hr) (if_neg hv), ?_, ?_, State.get_set_same ..⟩
    · exact ((OnlyRegs.refl s _).set ⟨.inl rfl, rfl, rfl⟩ _).set ⟨.inr rfl, rfl, rfl⟩ _
    · exact (State.get_set_fld _ (by decide) ..).trans (State.get_set_same ..)

end Sys2Proof.Machine
end

section
/-! PROOF. Wort ports: training, control blocks, flits, store reads and lane quality. -/

namespace Sys2Proof.Machine

-- One lemma after the other: elaborated side by side, they ask for more threads than the compile may have.
set_option Elab.async false

/-! ## Wort ports -/

theorem wortWidths : Fld.WL_PORT_STATUS_STATE.desc.width = 3 ∧ Fld.WL_PORT_STATUS_ACTIVE.desc.width = 8 ∧ Fld.WL_LANE_STATUS_STAGE.desc.width = 4 ∧
    Fld.WL_LANE_FEC_CORR.desc.width = 24 ∧ Fld.WL_LANE_FEC_UNCORR.desc.width = 8 ∧ Fld.WL_LANE_EYE_WIDTH.desc.width = 7 ∧
    Fld.WL_PEER_ID.desc.width = 64 := by decide

@[simp] theorem State.wport_setWport (s : State) (p : Nat) (w : WortPort) : (s.setWport p w).wport p = w := look_store_same ..
theorem State.wport_of_wports {s t : State} (h : t.wports = s.wports) (p : Nat) : t.wport p = s.wport p := congrArg (look _ · p) h

/-! ### What sending changes -/

/-- Blocks are dealt to the lanes of port `p`. -/
structure Deals (p : Nat) (s t : State) : Prop where
  frame : t = { s with wports := t.wports, outbox := t.outbox }
  port : t.wport p = { s.wport p with lanes := (t.wport p).lanes, turn := (t.wport p).turn }
  sent : ∀ o ∈ s.outbox, o ∈ t.outbox

namespace Deals
variable {p : Nat} {s t u : State}

theorem refl (p : Nat) (s : State) : Deals p s s := ⟨rfl, rfl, fun _ h => h⟩

theorem trans (h : Deals p s t) (h' : Deals p t u) : Deals p s u :=
  ⟨by rw [h'.frame, h.frame], by rw [h'.port, h.port], fun o ho => h'.sent o (h.sent o ho)⟩

theorem out (h : Deals p s t) (o : Out) : Deals p s (t.out o) := h.trans ⟨rfl, rfl, fun _ h => List.mem_cons_of_mem _ h⟩

theorem dealBlock (h : Deals p s t) (b : Nat) : Deals p s (t.dealBlock p b) := by
  unfold State.dealBlock
  extract_lets w l
  split
  · exact h
  · next k _ =>
    extract_lets r u
    have hu : Deals p t u := ⟨rfl, by
      have hw : u.wport p = { w with lanes := store {} w.lanes k r.1, turn := k + 1 } := t.wport_setWport p _
      rw [hw], fun _ h => h⟩
    exact List.foldlRecOn (motive := fun v => Deals p s v) _ _ (h.trans hu) fun v hv c _ => hv.out _

theorem sendControl (h : Deals p s t) (name : String) (args : List Nat) (type fields : Nat) : Deals p s (t.sendControl p name args type fields) :=
  (h.out _).dealBlock _

theorem sendFlit (h : Deals p s t) (b : List Byte) : Deals p s (t.sendFlit p b) :=
  List.foldlRecOn (motive := fun v => Deals p s v) _ _ (h.out _) fun _ hv _ _ => hv.dealBlock _

theorem resend (h : Deals p s t) (l : List Flit) : Deals p s (t.resend p l) :=
  List.foldlRecOn (motive := fun v => Deals p s v) _ _ h fun _ hv _ _ => hv.sendFlit _

theorem regs (h : Deals p s t) : t.regs = s.regs := by rw [h.frame]

theorem get (h : Deals p s t) (f : Fld) (i k : Nat) : t.get f i k = s.get f i k := (Touches.of_regs (fs := []) h.regs) f i k List.not_mem_nil

end Deals

/-- Flits that wait on port `p` are sent: beside the coders, only the credits and what waits for them change. -/
structure Feeds (p : Nat) (s t : State) : Prop where
  frame : t = { s with regs := t.regs, wports := t.wports, outbox := t.outbox }
  touches : Touches [.WL_VC_CREDIT_AVAIL] s t
  port : t.wport p = { s.wport p with
    lanes := (t.wport p).lanes, turn := (t.wport p).turn, waiting := (t.wport p).waiting, serve := (t.wport p).serve
    quota := (t.wport p).quota, txSeq := (t.wport p).txSeq, replay := (t.wport p).replay }

namespace Feeds
variable {p : Nat} {s t u : State}

theorem refl (p : Nat) (s : State) : Feeds p s s := ⟨rfl, .refl _ s, rfl⟩

theorem trans (h : Feeds p s t) (h' : Feeds p t u) : Feeds p s u :=
  ⟨by rw [h'.frame, h.frame], h.touches.trans h'.touches, by rw [h'.port, h.port]⟩

theorem of_deals (h : Deals p s t) : Feeds p s t := ⟨by rw [h.frame], .of_regs h.regs, by rw [h.port]⟩

end Feeds

theorem State.sendWaiting_feeds (n : Nat) (s : State) (p : Nat) : Feeds p s (State.sendWaiting n s p) := by
  induction n generalizing s with
  | zero => exact .refl p s
  | succ n ih =>
    unfold State.sendWaiting
    extract_lets w
    split
    · exact .refl p s
    · next vc serve quota _ =>
      split
      · exact .refl p s
      · next type flags payload _ =>
        split
        · exact .refl p s
        · extract_lets f s1 s2
          have h1 : Feeds p s s1 := ⟨rfl, (Touches.refl _ s).set (by decide) _ _ _, rfl⟩
          have h2 : Feeds p s1 s2 := ⟨rfl, .of_regs rfl, by
            have hw : s2.wport p = _ := s1.wport_setWport p _
            rw [hw]
            rfl⟩
          exact ((h1.trans h2).trans (.of_deals ((Deals.refl p s2).sendFlit f))).trans (ih _)

theorem State.sendAll_feeds (s : State) (p : Nat) : Feeds p s (s.sendAll p) := State.sendWaiting_feeds ..

theorem State.sendAll_idle {s : State} {p : Nat} (h : (s.wport p).waiting = []) : s.sendAll p = s := by
  unfold State.sendAll
  rw [h]
  rfl

/-! ### Control blocks -/

section
variable {s : State} {p : Nat}

theorem each_bump_credit (s : State) (p : Nat) (l : List Nat) (n : Nat) : (fun t : State =>
      OnlyRegs s t (fun f i k => f = .WL_VC_CREDIT_AVAIL ∧ i = p ∧ k < n) ∧ ∀ v, v < n →
      t.get .WL_VC_CREDIT_AVAIL p v = min (s.get .WL_VC_CREDIT_AVAIL p v + l.getD v 0 % 4096) (2 ^ Fld.WL_VC_CREDIT_AVAIL.desc.width - 1))
    (s.each n (fun s v => s.bump .WL_VC_CREDIT_AVAIL (l.getD v 0 % 4096) p v)) := by
  unfold State.each
  induction n with
  | zero => exact ⟨.refl s _, fun v hv => absurd hv (Nat.not_lt_zero v)⟩
  | succ n ih =>
    obtain ⟨h1, h2⟩ := ih
    rw [List.range_succ, List.foldl_append, List.foldl_cons, List.foldl_nil]
    generalize (List.range n).foldl _ s = u at h1 h2 ⊢
    have hn : u.get .WL_VC_CREDIT_AVAIL p n = s.get .WL_VC_CREDIT_AVAIL p n := h1.get_eq fun h => Nat.lt_irrefl _ h.2.2
    refine ⟨(h1.mono fun f i k h => ⟨h.1, h.2.1, by omega⟩).set ⟨rfl, rfl, by omega⟩ _, fun v hv => ?_⟩
    by_cases he : v = n
    · subst he
      rw [State.get_bump_same, hn]
    · rw [State.bump_eq, State.get_set_ne _ _ _ _ (.inr (.inr he))]
      exact h2 v (by omega)

theorem OnlyRegs.wports {s t : State} {q : Fld → Nat → Nat → Prop} (h : OnlyRegs s t q) : t.wports = s.wports := by rw [h.1]

theorem mixBits_lt (h v n : Nat) : mixBits h v n < 2 ^ n :=
  Nat.xor_lt_two_pow (Nat.xor_lt_two_pow (Nat.mod_lt _ (Nat.two_pow_pos n)) (Nat.mod_lt _ (Nat.two_pow_pos n))) (Nat.mod_lt _ (Nat.two_pow_pos n))

/-- Mixing the same bits in again takes them out. -/
theorem mixBits_mixBits {h v w n : Nat} (hw : w % 2 ^ n = mixBits h v n) : mixBits h w n = v % 2 ^ n := by
  unfold mixBits at hw ⊢
  rw [hw]
  generalize v % 2 ^ n = a, h / 2 ^ 19 % 2 ^ n = b, h % 2 ^ n = c
  rw [Nat.xor_right_comm (a ^^^ b) c b, Nat.xor_assoc a b b, Nat.xor_self, Nat.xor_zero, Nat.xor_assoc, Nat.xor_self, Nat.xor_zero]

theorem descramble_scrambled (h v : Nat) (hv : v < 2 ^ 64) : descramble h (scramble h v).1 = (v, (scramble h v).2) := by
  unfold scramble
  extract_lets a h1 b
  have ha : a < 2 ^ 39 := mixBits_lt ..
  have hb : b < 2 ^ 25 := mixBits_lt ..
  have h1a : (a + 2 ^ 39 * b) % 2 ^ 39 = a := by rw [Nat.add_mul_mod_self_left, Nat.mod_eq_of_lt ha]
  have h1b : (a + 2 ^ 39 * b) / 2 ^ 39 = b := by rw [Nat.add_mul_div_left _ _ (Nat.two_pow_pos 39), Nat.div_eq_of_lt ha, Nat.zero_add]
  have e1 : mixBits h (a + 2 ^ 39 * b) 39 = v % 2 ^ 39 := mixBits_mixBits h1a
  have e2 : mixBits h1 ((a + 2 ^ 39 * b) / 2 ^ 39) 25 = v / 2 ^ 39 := by
    rw [h1b, mixBits_mixBits (v := v / 2 ^ 39) (Nat.mod_eq_of_lt hb), Nat.mod_eq_of_lt (by omega)]
  change (mixBits h (a + 2 ^ 39 * b) 39 + 2 ^ 39 * mixBits (shiftBits h ((a + 2 ^ 39 * b) % 2 ^ 39) 39) ((a + 2 ^ 39 * b) / 2 ^ 39) 25,
    shiftBits (shiftBits h ((a + 2 ^ 39 * b) % 2 ^ 39) 39) ((a + 2 ^ 39 * b) / 2 ^ 39 % 2 ^ 25) 25) = (v, shiftBits h1 b 25)
  rw [e1, h1a, show shiftBits h a 39 = h1 from rfl, e2, h1b, Nat.mod_eq_of_lt hb, Nat.mod_add_div]

theorem laneMask_lt {l : List Nat} (h : ∀ k ∈ l, k < 8) : laneMask l < 2 ^ 8 :=
  List.foldlRecOn (motive := fun n => n < 2 ^ 8) _ _ (by decide) fun n hn k hk =>
    Nat.or_lt_two_pow hn (Nat.pow_lt_pow_right (by decide) (h k hk))

end

/-! ### Active lanes -/

def activeFlds : List Fld := [.WL_PORT_STATUS_ACTIVE, .WL_LANE_STATUS_ACTIVE, .WL_PORT_STATUS_STATE]

theorem State.setActive_reads (s : State) (p m : Nat) : (fun t : State => t = { s with regs := t.regs } ∧ Touches activeFlds s t ∧
      t.get .WL_PORT_STATUS_ACTIVE p = m % 2 ^ 8 ∧
      t.get .WL_PORT_STATUS_STATE p = (if s.wortUp p then (if m = 0xFF then 2 else 3) else s.get .WL_PORT_STATUS_STATE p)) (s.setActive p m) := by
  unfold State.setActive
  extract_lets s1 s2
  have h2 : s2 = { s with regs := s2.regs } ∧ Touches activeFlds s s2 ∧ s2.get .WL_PORT_STATUS_ACTIVE p = m % 2 ^ 8 ∧
      s2.get .WL_PORT_STATUS_STATE p = s.get .WL_PORT_STATUS_STATE p :=
    State.each_keeps (P := fun u => u = { s with regs := u.regs } ∧ Touches activeFlds s u ∧ u.get .WL_PORT_STATUS_ACTIVE p = m % 2 ^ 8 ∧
      u.get .WL_PORT_STATUS_STATE p = s.get .WL_PORT_STATUS_STATE p) 8 _ (fun u k ⟨h1, h2, h3, h4⟩ => ⟨by rw [State.set_frame, h1], h2.set (by decide) _ _ _,
        (State.get_set_fld _ (by decide) ..).trans h3, (State.get_set_fld _ (by decide) ..).trans h4⟩) _
      ⟨rfl, (Touches.refl _ s).set (by decide) _ _ _, State.get_set_same .., State.get_set_fld _ (by decide) ..⟩
  obtain ⟨h1, h2, h3, h4⟩ := h2
  have hu : s2.wortUp p = s.wortUp p := by rw [State.wortUp, State.wortUp, h4]
  rw [hu]
  split_ifs with hc
  · refine ⟨by rw [State.set_frame, h1], h2.set (by decide) _ _ _, (State.get_set_fld _ (by decide) ..).trans h3, ?_⟩
    exact State.get_set_fits (f := .WL_PORT_STATUS_STATE) (v := 2) _ _ _ rfl
  · refine ⟨by rw [State.set_frame, h1], h2.set (by decide) _ _ _, (State.get_set_fld _ (by decide) ..).trans h3, ?_⟩
    exact State.get_set_fits (f := .WL_PORT_STATUS_STATE) (v := 3) _ _ _ rfl
  · exact ⟨h1, h2, h3, h4⟩

/-! ### Ports that go quiet -/

def quietFlds : List Fld := activeFlds ++ [.WL_PEER_ID, .WL_VC_CREDIT_AVAIL]

theorem State.wortQuiet_reads (s : State) (p : Nat) {state : Nat} (hs : state < 8) : (fun t : State => t = { s with regs := t.regs } ∧
      Touches quietFlds s t ∧ t.get .WL_PORT_STATUS_STATE p = state ∧ t.get .WL_PORT_STATUS_ACTIVE p = 0 ∧ t.get .WL_PEER_ID p = 0)
    (s.wortQuiet p state) := by
  unfold State.wortQuiet
  extract_lets u
  obtain ⟨a1, a2, a3, -⟩ := s.setActive_reads p 0
  have hu : u = { s with regs := u.regs } ∧ Touches quietFlds s u ∧ u.get .WL_PORT_STATUS_STATE p = state ∧ u.get .WL_PORT_STATUS_ACTIVE p = 0 := by
    unfold u
    generalize s.setActive p 0 = v at a1 a2 a3
    refine ⟨by rw [State.set_frame, a1], (a2.mono (by decide)).set (by decide) _ _ _, State.get_set_fits _ _ _ ?_, (State.get_set_fld _ (by decide) ..).trans a3⟩
    exact Nat.mod_eq_of_lt hs
  obtain ⟨h1, h2, h3, h4⟩ := hu
  clear_value u
  refine State.each_keeps (P := fun t => t = { s with regs := t.regs } ∧ Touches quietFlds s t ∧ t.get .WL_PORT_STATUS_STATE p = state ∧
      t.get .WL_PORT_STATUS_ACTIVE p = 0 ∧ t.get .WL_PEER_ID p = 0) 4 _ (fun v k ⟨q1, q2, q3, q4, q5⟩ => ⟨by rw [State.set_frame, q1], q2.set (by decide) _ _ _,
        (State.get_set_fld _ (by decide) ..).trans q3, (State.get_set_fld _ (by decide) ..).trans q4, (State.get_set_fld _ (by decide) ..).trans q5⟩) _ ?_
  exact ⟨by rw [State.set_frame, h1], h2.set (by decide) _ _ _, (State.get_set_fld _ (by decide) ..).trans h3, (State.get_set_fld _ (by decide) ..).trans h4,
    State.get_set_fits (f := .WL_PEER_ID) (v := 0) _ _ _ rfl⟩

theorem State.each_off_waiting (s : State) (p n : Nat) : Touches [.WL_LANE_STATUS_WAITING] s (s.each n (fun s k => s.off .WL_LANE_STATUS_WAITING (9 * p + k))) :=
  State.each_keeps (P := fun t => Touches [.WL_LANE_STATUS_WAITING] s t) n _ (fun _ _ h => h.set (by decide) _ _ _) _ (.refl _ s)

theorem State.fencePort_reads (s : State) {p : Nat} (hp : p < 64) (cause : Nat) : (fun t : State => t.fenced 5 p = true ∧
      t.get .WL_PORT_STATUS_STATE p = 5) (s.fencePort p cause) := by
  refine ⟨(State.fencePort_hasFence s hp cause).2, ?_⟩
  unfold State.fencePort
  extract_lets s1 s2 s3 s4
  have h3 : s3.get .WL_PORT_STATUS_STATE p = 5 := ((s2.recordFence 5 p cause).wortQuiet_reads p (by decide)).2.2.1
  have h4 : s4.get .WL_PORT_STATUS_STATE p = 5 := (s3.each_off_waiting p 9 _ _ _ (by decide)).trans h3
  generalize s4 = v at h4 ⊢
  exact h4

theorem fenceLane_clock {s : State} {p : Nat} (hp : p < 4) (h : s.fenced 4 (9 * p + 8) = false) (cause : Nat) : (fun t : State =>
      t.fenced 4 (9 * p + 8) = true ∧ t.fenced 5 p = true ∧ t.get .WL_PORT_STATUS_STATE p = 5) (s.fenceLane (9 * p + 8) cause) := by
  refine ⟨(State.fenceLane_hasFence (by omega) h cause).2, ?_⟩
  unfold State.fenceLane
  rw [if_neg (by rw [h]; decide), show (9 * p + 8) / 9 = p by omega]
  dsimp only
  rw [if_pos (by omega)]
  exact State.fencePort_reads _ (by omega) cause

theorem fenced_fenceLane (s : State) {i : Nat} (hi : i < 64) (cause : Nat) : (s.fenceLane i cause).fenced 4 i = true := by
  cases h : s.fenced 4 i with
  | true =>
    unfold State.fenceLane
    rw [if_pos h]
    exact h
  | false => exact (State.fenceLane_hasFence hi h cause).2

/-! ### The end of a link -/

theorem State.failRemote_serves (s : State) (l : List Nat) : Serves s (s.failRemote l) :=
  List.foldlRecOn (motive := fun v => Serves s v) _ _ (.refl s) fun v hv _ _ => hv.trans (v.finish_serves ..)

theorem State.lostPeer_wports (s : State) (id p : Nat) : (s.lostPeer id p).wports = s.wports := by
  unfold State.lostPeer
  extract_lets u
  have hu : u.wports = s.wports := by
    unfold u
    split_ifs
    · rfl
    · rfl
  split
  · exact hu
  · split
    · exact hu
    · next x _ =>
      extract_lets gone
      have hg : (gone.foldl (fun s y => s.recordCoverage y.index (2 ^ 64 - 1) 2) u).wports = s.wports :=
        List.foldlRecOn (motive := fun v => State.wports v = s.wports) _ _ hu fun v hv y _ => by
          rw [State.recordCoverage_frame]
          exact hv
      rw [(State.failRemote_serves ..).frame]
      exact hg

/-- The sound lanes of port `p` stop training. -/
def State.restLanes (s : State) (p : Nat) : State := s.each 9 fun s k =>
  if s.fenced 4 (9 * p + k) then s else (s.set .WL_LANE_STATUS_STAGE 0 (9 * p + k)).off .WL_LANE_STATUS_WAITING (9 * p + k)

theorem State.restLanes_reads (s : State) (p : Nat) : (fun t : State => Touches [.WL_LANE_STATUS_STAGE, .WL_LANE_STATUS_WAITING] s t ∧
      t.wports = s.wports) (s.restLanes p) :=
  State.each_keeps (P := fun t => Touches [.WL_LANE_STATUS_STAGE, .WL_LANE_STATUS_WAITING] s t ∧ t.wports = s.wports) 9 _ (fun t k ⟨h1, h2⟩ => by
    split_ifs
    · exact ⟨h1, h2⟩
    · exact ⟨(h1.set (f := .WL_LANE_STATUS_STAGE) (by decide) _ _ _).set (f := .WL_LANE_STATUS_WAITING) (by decide) _ _ _, h2⟩) _ ⟨.refl _ s, rfl⟩

def State.lostPort (s : State) (p c : Nat) : State := (s.lostPeer (s.get .WL_PEER_ID p) p).out (.wort "coverageLossOf" [s.get .WL_PEER_ID p, c])

theorem exec_down {s : State} {p : Nat} (h : s.wortUp p = true) (c : Nat) :
    exec (.down p c) s = .next ((((s.lostPort p c).wortQuiet p 0).restLanes p).wortDrop p) :=
  (exec_when (i := .down p c) (s := s) rfl h).trans rfl

theorem down_runs {s : State} {p : Nat} (h : s.wortUp p = true) (c : Nat) : Runs (.down p c) s (fun t => t.get .WL_PORT_STATUS_STATE p = 0 ∧
      t.get .WL_PORT_STATUS_ACTIVE p = 0 ∧ t.get .WL_PEER_ID p = 0 ∧ t.wport p = { hist := (s.wport p).hist }) := by
  refine ⟨_, exec_down h c, ?_⟩
  have hw : (s.lostPort p c).wports = s.wports := s.lostPeer_wports ..
  generalize s.lostPort p c = u at hw
  obtain ⟨q1, -, q3, q4, q5⟩ := u.wortQuiet_reads p (show 0 < 8 by decide)
  have hq : (u.wortQuiet p 0).wports = s.wports := (congrArg State.wports q1).trans hw
  generalize u.wortQuiet p 0 = v at q3 q4 q5 hq
  obtain ⟨h1, h2⟩ := v.restLanes_reads p
  generalize v.restLanes p = t at h1 h2
  refine ⟨(h1 _ _ _ (by decide)).trans q3, (h1 _ _ _ (by decide)).trans q4, (h1 _ _ _ (by decide)).trans q5, (t.wport_setWport p _).trans ?_⟩
  rw [State.wport_of_wports (h2.trans hq)]

/-! ### Lane retrains -/

theorem State.wf_of_sects {s t : State} (h : t.sects = s.sects) (p o n : Nat) : t.wf p o n = s.wf p o n := by
  unfold State.wf State.sect
  rw [h]

theorem State.nextLane_reads (s : State) (p : Nat) : (fun t : State => Touches [.WL_LANE_STATUS_WAITING, .WL_LANE_STATUS_STAGE] s t ∧
      ∀ j, s.is .WL_LANE_STATUS_WAITING j = false → t.get .WL_LANE_STATUS_STAGE j = s.get .WL_LANE_STATUS_STAGE j) (s.nextLane p) := by
  unfold State.nextLane
  split
  · exact ⟨.refl _ s, fun _ _ => rfl⟩
  · split
    · exact ⟨.refl _ s, fun _ _ => rfl⟩
    · next k hk =>
      refine ⟨((Touches.refl _ s).set (by decide) _ _ _).set (by decide) _ _ _, fun j hj => ?_⟩
      have hne : j ≠ 9 * p + k := by
        rintro rfl
        exact absurd ((List.find?_some hk).symm.trans hj) (by decide)
      rw [State.get_set_ne _ _ _ _ (.inr (.inl hne)), State.off, State.get_set_fld _ (by decide)]

section
variable {s : State} {p : Nat}

theorem lt_of_wortOn (h : s.wortOn p = true) : p < 4 := by
  unfold State.wortOn at h
  simp only [Bool.and_eq_true, decide_eq_true_eq] at h
  exact h.1.1.1

/-! ### Training and retraining of a port -/

theorem exec_portTrain {l : List LaneTrain} {clock : Bool} (hon : s.wortOn p = true) (hl : l.length = 8)
    (hst : s.get .WL_PORT_STATUS_STATE p = 1 ∨ s.get .WL_PORT_STATUS_STATE p = 4) : exec (.portTrain p clock l) s = .next (
      if !clock then s.fenceLane (9 * p + 8) causeLink
      else
        let u := (s.wortLanes p).foldl (fun s k => s.trainLane p k (l.getD k ⟨1, 0, false, 0⟩)) s
        if u.fenced 5 p then u else u.orderLanes p (fun k => (l.getD k ⟨1, 0, false, 0⟩).number)) := by
  have hc : (s.wortOn p && l.length == 8 && (s.get .WL_PORT_STATUS_STATE p == 0 || s.get .WL_PORT_STATUS_STATE p == 1 ||
      s.get .WL_PORT_STATUS_STATE p == 4)) = true := by
    rw [hon, hl]
    simpa [or_assoc] using Or.inr hst
  refine exec_of (exec_when (i := .portTrain p clock l) (s := s) rfl hc) ?_
  rw [if_neg (show ¬ s.get .WL_PORT_STATUS_STATE p = 0 by omega)]

theorem portTrain_noClock {l : List LaneTrain} (hon : s.wortOn p = true) (hl : l.length = 8) (hst : s.get .WL_PORT_STATUS_STATE p = 1)
    (hf : s.fenced 4 (9 * p + 8) = false) : Runs (.portTrain p false l) s (fun t => t.fenced 4 (9 * p + 8) = true ∧ t.fenced 5 p = true ∧
      t.get .WL_PORT_STATUS_STATE p = 5) :=
  ⟨_, exec_portTrain hon hl (.inl hst), fenceLane_clock (lt_of_wortOn hon) hf causeLink⟩

theorem exec_trainStageTimeout {k : Nat} (hon : s.wortOn p = true) (hk : k < 9) (h1 : 1 ≤ s.get .WL_LANE_STATUS_STAGE (9 * p + k))
    (h7 : s.get .WL_LANE_STATUS_STAGE (9 * p + k) ≤ 7) (hw : s.is .WL_LANE_STATUS_WAITING (9 * p + k) = false) :
    exec (.trainStageTimeout p k) s = .next (s.fenceLane (9 * p + k) causeLink) :=
  exec_when (i := .trainStageTimeout p k) (s := s) rfl (by simp [hon, hk, h1, h7, hw])

def trainFlds : List Fld := activeFlds ++ [.WL_PORT_STATUS_REVERSED, .WL_LANE_STATUS_STAGE, .WL_LANE_STATUS_WAITING]

theorem State.wortTrain_reads (s : State) (p : Nat) {state : Nat} (hs : state < 8) : (fun t : State => Touches trainFlds s t ∧
      t.get .WL_PORT_STATUS_STATE p = state) (s.wortTrain p state) := by
  unfold State.wortTrain
  extract_lets s1 s2 s3
  have h1 : Touches trainFlds s s1 := ((s.setActive_reads p 0).2.1.mono (by decide)).set (by decide) _ _ _
  have e1 : s1.get .WL_PORT_STATUS_STATE p = state := State.get_set_fits _ _ _ (Nat.mod_eq_of_lt hs)
  have h3 : Touches trainFlds s s3 ∧ s3.get .WL_PORT_STATUS_STATE p = state :=
    State.each_keeps (P := fun t => Touches trainFlds s t ∧ t.get .WL_PORT_STATUS_STATE p = state) 9 _ (fun t k ⟨h, e⟩ => by
      split_ifs
      · exact ⟨h, e⟩
      · exact ⟨(h.set (f := .WL_LANE_STATUS_STAGE) (by decide) _ _ _).set (f := .WL_LANE_STATUS_WAITING) (by decide) _ _ _,
          (State.get_set_fld _ (by decide) ..).trans ((State.get_set_fld _ (by decide) ..).trans e)⟩)
      s2 ⟨h1.set (by decide) _ _ _, (State.get_set_fld _ (by decide) ..).trans e1⟩
  generalize s3 = v at h3
  exact h3

/-- A retrain is counted and trains the port anew. -/
theorem State.wortRetrain_reads (hon : s.wortOn p = true) : (fun t : State =>
      t.get .WL_PORT_STATUS_STATE p = (if s.wortUp p || s.get .WL_PORT_STATUS_STATE p == 4 then 4 else 1) ∧
      t.get .WL_PORT_ERR_RETRAINS p = min (s.get .WL_PORT_ERR_RETRAINS p + 1) (2 ^ Fld.WL_PORT_ERR_RETRAINS.desc.width - 1)) (s.wortRetrain p) := by
  unfold State.wortRetrain
  rw [if_neg (show ¬ (!s.wortOn p) = true by rw [hon]; decide)]
  extract_lets again u
  obtain ⟨h1, h2⟩ := u.wortTrain_reads p (state := if again = true then 4 else 1) (by split_ifs <;> decide)
  exact ⟨h2, (h1 _ _ _ (by decide)).trans (State.get_bump_same ..)⟩

/-! ### INIT -/

/-- The shares of `sh` become the credits of port `p`, less what the flits of `l` hold. -/
def State.takeShares (s : State) (p : Nat) (sh : List Nat) (l : List Flit) : State := s.each 4 fun s v =>
  (s.set .WL_VC_CREDIT_AVAIL (sh.getD v 0 - (l.filter (fun f => f.vc == v)).length) p v).set .WL_VC_CREDIT_SHARE (s.wf p (0xC + 2 * v) 2) p v

def State.metPeer (s : State) (p id r : Nat) (sh : List Nat) : State :=
  ((s.set .WL_PEER_ID id p).takeShares p sh (s.wport p).replay).setWport p { s.wport p with role := r }

/-- The lanes of `m` carry flits. -/
def State.carryLanes (s : State) (p m : Nat) : State := s.each 9 fun s k => if k = 8 ∨ bit m k then s.set .WL_LANE_STATUS_STAGE 8 (9 * p + k) else s

def State.unnak (s : State) (p : Nat) : State := s.setWport p { s.wport p with naked := false }

theorem State.metPeer_reads (s : State) (p id r : Nat) (sh : List Nat) : (fun t : State =>
      Touches [.WL_PEER_ID, .WL_VC_CREDIT_AVAIL, .WL_VC_CREDIT_SHARE] s t ∧
      t.get .WL_PEER_ID p = id % 2 ^ Fld.WL_PEER_ID.desc.width ∧ (t.wport p).role = r) (s.metPeer p id r sh) := by
  unfold State.metPeer
  have h : (fun t : State => Touches [.WL_PEER_ID, .WL_VC_CREDIT_AVAIL, .WL_VC_CREDIT_SHARE] s t ∧
      t.get .WL_PEER_ID p = id % 2 ^ Fld.WL_PEER_ID.desc.width) ((s.set .WL_PEER_ID id p).takeShares p sh (s.wport p).replay) :=
    State.each_keeps (P := fun t => Touches [.WL_PEER_ID, .WL_VC_CREDIT_AVAIL, .WL_VC_CREDIT_SHARE] s t ∧
      t.get .WL_PEER_ID p = id % 2 ^ Fld.WL_PEER_ID.desc.width) 4 _ (fun t v ⟨h, e⟩ => ⟨(h.set (by decide) _ _ _).set (by decide) _ _ _,
        (State.get_set_fld _ (by decide) ..).trans ((State.get_set_fld _ (by decide) ..).trans e)⟩) _
      ⟨(Touches.refl _ s).set (by decide) _ _ _, State.get_set_same ..⟩
  generalize (s.set .WL_PEER_ID id p).takeShares p sh (s.wport p).replay = u at h
  exact ⟨h.1, h.2, congrArg WortPort.role (u.wport_setWport p _)⟩

theorem State.carryLanes_reads (s : State) (p m : Nat) : (fun t : State => t = { s with regs := t.regs } ∧ Touches [.WL_LANE_STATUS_STAGE] s t)
    (s.carryLanes p m) :=
  State.each_keeps (P := fun t => t = { s with regs := t.regs } ∧ Touches [.WL_LANE_STATUS_STAGE] s t) 9 _ (fun t k ⟨h1, h2⟩ => by
    split_ifs
    · exact ⟨by rw [State.set_frame, h1], h2.set (by decide) _ _ _⟩
    · exact ⟨h1, h2⟩) _ ⟨rfl, .refl _ s⟩

theorem exec_init {id r port m n : Nat} {sh : List Nat} (hon : s.wortOn p = true) (hport : port < 4) (hr : r < 4)
    (hst : s.get .WL_PORT_STATUS_STATE p = 1) (hrev : s.is .WL_PORT_STATUS_REVERSED p = false) (hn : n = (s.wport p).own &&& m) (h0 : n ≠ 0) :
    exec (.init p id r port m sh) s = .next (((((((s.metPeer p id r sh).set .WL_PORT_STATUS_STATE 3 p).setActive p n).carryLanes p n).unnak p).resend p
      (s.wport p).replay).sendAll p) := by
  have hown : ((s.wport p).own != 0) = true := by
    rw [bne_iff_ne]
    intro h
    rw [h, Nat.zero_and] at hn
    exact h0 hn
  refine exec_of (exec_when (i := .init p id r port m sh) (s := s) rfl (by simp [hon, hport, hr, hst, hown])) ?_
  have hup : (s.metPeer p id r sh).wortUp p = false := by
    have h1 := (s.metPeer_reads p id r sh).1 .WL_PORT_STATUS_STATE p 0 (by decide)
    rw [State.wortUp, h1, hst]
    exact Bool.and_false _
  have hpeer : (if s.is .WL_PORT_STATUS_REVERSED p then mirror8 m else m) = m := if_neg (by rw [hrev]; decide)
  change ite ((s.metPeer p id r sh).wortUp p = true) _ (ite (((s.wport p).own &&& if s.is .WL_PORT_STATUS_REVERSED p then mirror8 m else m) = 0) _ _) = _
  rw [if_neg (by rw [hup]; decide), hpeer, ← hn, if_neg h0]
  rfl

theorem init_runs {id r port m n : Nat} {sh : List Nat} (hon : s.wortOn p = true) (hport : port < 4) (hr : r < 4)
    (hst : s.get .WL_PORT_STATUS_STATE p = 1) (hrev : s.is .WL_PORT_STATUS_REVERSED p = false) (hown : (s.wport p).own < 256)
    (hn : n = (s.wport p).own &&& m) (h0 : n ≠ 0) : Runs (.init p id r port m sh) s (fun t =>
      t.get .WL_PORT_STATUS_STATE p = (if n = 0xFF then 2 else 3) ∧ t.get .WL_PORT_STATUS_ACTIVE p = n ∧
      t.get .WL_PEER_ID p = id % 2 ^ Fld.WL_PEER_ID.desc.width ∧ (t.wport p).role = r) := by
  refine ⟨_, exec_init hon hport hr hst hrev hn h0, ?_⟩
  have hlt : n < 2 ^ 8 := by
    rw [hn]
    exact Nat.lt_of_le_of_lt Nat.and_le_left hown
  obtain ⟨-, e1, e2⟩ := s.metPeer_reads p id r sh
  generalize s.metPeer p id r sh = u1 at e1 e2
  have hup : (u1.set .WL_PORT_STATUS_STATE 3 p).wortUp p = true := by
    rw [State.wortUp, State.get_set_fits (f := .WL_PORT_STATUS_STATE) (v := 3) _ _ _ rfl, decide_eq_true (lt_of_wortOn hon)]
    rfl
  obtain ⟨f2, t2, a2, s2⟩ := (u1.set .WL_PORT_STATUS_STATE 3 p).setActive_reads p n
  rw [if_pos hup] at s2
  rw [Nat.mod_eq_of_lt hlt] at a2
  have p2 := (t2 .WL_PEER_ID p 0 (by decide)).trans (State.get_set_fld _ (by decide) ..) |>.trans e1
  have r2 := (congrArg WortPort.role (State.wport_of_wports (congrArg State.wports f2) p)).trans e2
  generalize (u1.set .WL_PORT_STATUS_STATE 3 p).setActive p n = u2 at a2 s2 p2 r2
  obtain ⟨f3, t3⟩ := u2.carryLanes_reads p n
  have r3 := (congrArg WortPort.role (State.wport_of_wports (congrArg State.wports f3) p)).trans r2
  generalize u2.carryLanes p n = u3 at t3 r3
  have d : Feeds p (u3.unnak p) (((u3.unnak p).resend p (s.wport p).replay).sendAll p) :=
    (Feeds.of_deals ((Deals.refl p _).resend _)).trans (State.sendAll_feeds ..)
  generalize ((u3.unnak p).resend p (s.wport p).replay).sendAll p = u4 at d
  have r4 : (u4.wport p).role = ((u3.unnak p).wport p).role := by rw [d.port]
  exact ⟨((d.touches _ _ _ (by decide)).trans (t3 _ _ _ (by decide))).trans s2, ((d.touches _ _ _ (by decide)).trans (t3 _ _ _ (by decide))).trans a2,
    ((d.touches _ _ _ (by decide)).trans (t3 _ _ _ (by decide))).trans p2, r4.trans ((congrArg WortPort.role (u3.wport_setWport p _)).trans r3)⟩

/-! ### Credits, acknowledgements and widths -/

theorem credit_runs {l : List Nat} (h : s.wortUp p = true) (hw : (s.wport p).waiting = []) : Runs (.credit p l) s (fun t =>
      OnlyRegs s t (fun f i k => f = .WL_VC_CREDIT_AVAIL ∧ i = p ∧ k < 4) ∧
      ∀ v, v < 4 → t.get .WL_VC_CREDIT_AVAIL p v = min (s.get .WL_VC_CREDIT_AVAIL p v + l.getD v 0 % 4096) (2 ^ Fld.WL_VC_CREDIT_AVAIL.desc.width - 1)) := by
  have hb := each_bump_credit s p l 4
  refine ⟨_, exec_of (exec_when (i := .credit p l) (s := s) rfl h) (State.sendAll_idle ?_), hb⟩
  rw [State.wport_of_wports hb.1.wports]
  exact hw

theorem ack_runs (n : Nat) (h : s.wortUp p = true) (hw : (s.wport p).waiting = []) : Runs (.ack p n) s (fun t =>
      t = s.setWport p { s.wport p with replay := flitsAfter (s.wport p).replay (n % 4096) }) := by
  refine ⟨_, exec_of (exec_when (i := .ack p n) (s := s) rfl h) (State.sendAll_idle ?_), rfl⟩
  rw [State.wport_setWport]
  exact hw

theorem nak_runs {n : Nat} {l : List Flit} (h : s.wortUp p = true) (hw : (s.wport p).waiting = [])
    (hl : l = (flitsAfter (s.wport p).replay (n % 4096)).map (fun f => { f with replays := f.replays + 1 }))
    (hr : ∀ f ∈ l, f.replays < s.wf p 0xB 1) : Runs (.nak p n) s (fun t => t = (s.setWport p { s.wport p with replay := l }).resend p l) := by
  have hu : ∀ u, Deals p (s.setWport p { s.wport p with replay := l }) u →
      (if l.any (fun f => decide (u.wf p 0xB 1 ≤ f.replays)) then u.wortRetrain p else u.sendAll p) = u := by
    intro u d
    have hwf : u.wf p 0xB 1 = s.wf p 0xB 1 := State.wf_of_sects (by rw [d.frame]; rfl) ..
    have hany : (l.any fun f => decide (u.wf p 0xB 1 ≤ f.replays)) = false := by
      rw [List.any_eq_false]
      intro f hf
      rw [decide_eq_true_eq, hwf]
      exact Nat.not_le.2 (hr f hf)
    rw [hany, if_neg Bool.false_ne_true]
    refine State.sendAll_idle ?_
    rw [d.port, State.wport_setWport]
    exact hw
  subst hl
  exact ⟨_, exec_of (exec_when (i := .nak p n) (s := s) rfl h) (hu _ ((Deals.refl p _).resend _)), rfl⟩

theorem widthSwitch_runs {m n : Nat} (h : s.wortUp p = true) (hw : (s.wport p).width = some m)
    (hn : n = laneMask ((s.wortLanes p).filter (fun k => bit m k && s.get .WL_LANE_STATUS_STAGE (9 * p + k) == 8))) (h0 : n ≠ 0) :
    Runs (.widthSwitch p) s (fun t => t.get .WL_PORT_STATUS_ACTIVE p = n ∧ (t.wport p).width = none ∧
      t = { s with regs := t.regs, wports := t.wports }) := by
  have hlt : n < 2 ^ 8 := by
    rw [hn]
    refine laneMask_lt fun k hk => ?_
    exact List.mem_range.1 (List.mem_of_mem_filter (List.mem_of_mem_filter hk))
  have he : exec (.widthSwitch p) s = .next ((s.setWport p { s.wport p with width := none }).setActive p n) := by
    refine exec_of (exec_when (i := .widthSwitch p) (s := s) rfl h) ?_
    rw [hw]
    dsimp only
    rw [← hn, if_neg h0]
  obtain ⟨h1, -, h3, -⟩ := (s.setWport p { s.wport p with width := none }).setActive_reads p n
  refine ⟨_, he, h3.trans (Nat.mod_eq_of_lt hlt), ?_, ?_⟩
  · exact congrArg WortPort.width ((State.wport_of_wports (congrArg State.wports h1) p).trans (s.wport_setWport p _))
  · rw [h1]
    rfl

end

section
variable {s : State} {p : Nat}

/-! ### Flits and store reads -/

/-- Port `p` still waits for the same flit. -/
def Awaits (p : Nat) (s t : State) : Prop := (t.wport p).rxNext = (s.wport p).rxNext

theorem Deals.awaits {s t : State} (h : Deals p s t) : Awaits p s t := by
  rw [Awaits, h.port]

theorem State.takeStore_awaits (s : State) (p g o : Nat) (b : List Byte) : Awaits p s (s.takeStore p g o b) := by
  unfold State.takeStore
  extract_lets w
  split
  · exact rfl
  · split_ifs
    · exact rfl
    · exact (congrArg WortPort.rxNext (look_store_same ..) :)

theorem State.takePacket_awaits (s : State) (p vc type n : Nat) (b : List Byte) : Awaits p s (s.takePacket p vc type n b) := by
  unfold State.takePacket
  extract_lets u
  have hu : Awaits p s u := ((Deals.refl p s).sendControl ..).awaits
  generalize u = v at hu
  split_ifs
  · exact (v.takeStore_awaits ..).trans hu
  · exact hu
  · exact hu

theorem State.takeFlit_rxNext (s : State) (p : Nat) (b : List Byte) : ((s.takeFlit p b).wport p).rxNext = ((s.wport p).rxNext + 1) % 4096 := by
  unfold State.takeFlit
  extract_lets w h vc old rest due
  split
  extract_lets body s1 s2
  have h1 : (s1.wport p).rxNext = (w.rxNext + 1) % 4096 := congrArg WortPort.rxNext (s.wport_setWport p _)
  have h2 : (s2.wport p).rxNext = (w.rxNext + 1) % 4096 := by
    unfold s2
    split_ifs
    · exact ((Deals.refl p s1).sendControl ..).awaits.trans h1
    · exact h1
  generalize s2 = v at h2
  split_ifs
  · exact (v.takePacket_awaits ..).trans h2
  · exact h2

theorem exec_flitReceive {b : List Byte} (h : s.wortUp p = true) (hb : b.length = 256) (w : List (List Nat)) :
    exec (.flitReceive p b w) s = .next (
      let seq := fieldAt b 1 2 % 4096
      let good := w.all (fun c => (rsDecode c).isSome) && crc32c (b.take 252) == fieldAt b 0xFC 4
      let back := ((s.wport p).rxNext + 4096 - seq) % 4096
      if good && seq == (s.wport p).rxNext then s.takeFlit p b
      else if good && decide (1 ≤ back ∧ back ≤ 512) then s
      else if (s.wport p).naked then s
      else (((s.setWport p { s.wport p with naked := true }).bump .WL_PORT_ERR_NAKS 1 p).sendControl p "nak"
        [((s.wport p).rxNext + 4095) % 4096] 0x55 (((s.wport p).rxNext + 4095) % 4096))) :=
  exec_when (i := .flitReceive p b w) (s := s) rfl (by simp [h, hb])

theorem exec_flitReceive_bad {b : List Byte} (h : s.wortUp p = true) (hb : b.length = 256) {w : List (List Nat)} {c : List Nat} (hc : c ∈ w)
    (hd : rsDecode c = none) : exec (.flitReceive p b w) s = .next (if (s.wport p).naked then s
      else (((s.setWport p { s.wport p with naked := true }).bump .WL_PORT_ERR_NAKS 1 p).sendControl p "nak"
        [((s.wport p).rxNext + 4095) % 4096] 0x55 (((s.wport p).rxNext + 4095) % 4096))) := by
  have hall : w.all (fun c => (rsDecode c).isSome) = false := List.all_eq_false.2 ⟨c, hc, by rw [hd]; decide⟩
  refine exec_of (exec_flitReceive h hb w) ?_
  rw [hall]
  rfl

theorem flitReceive_good {b : List Byte} {w : List (List Nat)} (h : s.wortUp p = true) (hb : b.length = 256)
    (hcrc : crc32c (b.take 252) = fieldAt b 0xFC 4) (hseq : fieldAt b 1 2 % 4096 = (s.wport p).rxNext) (hw : ∀ c ∈ w, (rsDecode c).isSome = true) :
    Runs (.flitReceive p b w) s (fun t => t = s.takeFlit p b ∧ (t.wport p).rxNext = ((s.wport p).rxNext + 1) % 4096) :=
  ⟨_, exec_of (exec_flitReceive h hb w) (if_pos (by rw [List.all_eq_true.2 hw, hcrc, hseq, beq_self_eq_true, beq_self_eq_true]; rfl)), rfl,
    s.takeFlit_rxNext p b⟩

/-- A flit of port `p` was not sound: the port asks for what follows flit `x`. -/
def State.unsound (s : State) (p x : Nat) : State :=
  ((s.setWport p { s.wport p with naked := true }).bump .WL_PORT_ERR_NAKS 1 p).out (.wort "nak" [p, x])

theorem State.unsound_reads (s : State) (p x : Nat) : (fun t : State => t.wport p = { s.wport p with naked := true } ∧
      t.get .WL_PORT_ERR_NAKS p = min (s.get .WL_PORT_ERR_NAKS p + 1) (2 ^ Fld.WL_PORT_ERR_NAKS.desc.width - 1) ∧ .wort "nak" [p, x] ∈ t.outbox ∧
      t = { s with wports := t.wports, regs := t.regs, outbox := t.outbox }) (s.unsound p x) :=
  ⟨s.wport_setWport p _, State.get_bump_same .., List.mem_cons_self, rfl⟩

theorem flitReceive_bad {b : List Byte} {w : List (List Nat)} {c : List Nat} (h : s.wortUp p = true) (hb : b.length = 256) (hc : c ∈ w)
    (hd : rsDecode c = none) (hn : (s.wport p).naked = false) : Runs (.flitReceive p b w) s (fun t => (t.wport p).naked = true ∧
      (t.wport p).rxNext = (s.wport p).rxNext ∧
      t.get .WL_PORT_ERR_NAKS p = min (s.get .WL_PORT_ERR_NAKS p + 1) (2 ^ Fld.WL_PORT_ERR_NAKS.desc.width - 1) ∧
      .wort "nak" [p, ((s.wport p).rxNext + 4095) % 4096] ∈ t.outbox ∧ t = { s with wports := t.wports, regs := t.regs, outbox := t.outbox }) := by
  generalize hx : ((s.wport p).rxNext + 4095) % 4096 = x
  have he : exec (.flitReceive p b w) s = .next ((s.unsound p x).dealBlock p (controlBlock 0x55 x)) := by
    refine exec_of (exec_flitReceive_bad h hb hc hd) ((if_neg (by rw [hn]; decide)).trans ?_)
    rw [hx]
    rfl
  obtain ⟨hw, hg, ho, hf⟩ := s.unsound_reads p x
  generalize s.unsound p x = u at he hw hg ho hf
  have d := (Deals.refl p u).dealBlock (controlBlock 0x55 x)
  refine ⟨_, he, ?_, d.awaits.trans ?_, (d.get ..).trans hg, d.sent _ ho, ?_⟩
  · rw [d.port, hw]
  · rw [hw]
  · have hregs := d.regs
    generalize u.dealBlock p (controlBlock 0x55 x) = t at d hregs
    rw [hregs, d.frame]
    generalize t.wports = a, t.outbox = o
    rw [hf]

/-- A store read with tag `g` waits for its flits. -/
def State.awaitStore (s : State) (p a n g : Nat) : State := s.setWport p { s.wport p with
  waiting := (s.wport p).waiting ++ packetFlits 3 0x0B (leBytes 8 a ++ leBytes 4 n ++ leBytes 4 g)
  reads := (s.wport p).reads ++ [{ tag := g % 2 ^ 32, addr := a % 2 ^ 64, len := n, got := 0 }] }

theorem storeRd_runs {a n g : Nat} (hon : s.wortOn p = true) (h0 : n ≠ 0) (ha : a % 64 = 0) (hn : n % 64 = 0) (hl : n ≤ 4096)
    (ht : ∀ r ∈ (s.wport p).reads, r.tag ≠ g % 2 ^ 32) : Runs (.storeRd p a n g) s (fun t =>
      (t.wport p).reads = (s.wport p).reads ++ [{ tag := g % 2 ^ 32, addr := a % 2 ^ 64, len := n, got := 0 }] ∧ t.storeMem = s.storeMem) := by
  have hany : (s.wport p).reads.any (fun r => r.tag == g % 2 ^ 32) = false := by
    rw [List.any_eq_false]
    intro r hr
    rw [beq_iff_eq]
    exact ht r hr
  have hno : ¬ (a % 64 ≠ 0 ∨ n % 64 ≠ 0 ∨ 4096 < n ∨ (s.wport p).reads.any (fun r => r.tag == g % 2 ^ 32) = true) := by
    rw [hany, ha, hn]
    simpa using hl
  have he : exec (.storeRd p a n g) s = .next ((s.awaitStore p a n g).sendAll p) :=
    exec_of (exec_when (i := .storeRd p a n g) (s := s) rfl hon) ((if_neg h0).trans ((if_neg hno).trans rfl))
  have d := State.sendAll_feeds (s.awaitStore p a n g) p
  exact ⟨_, he, (congrArg WortPort.reads d.port).trans (congrArg WortPort.reads (s.wport_setWport p _)), (congrArg State.storeMem d.frame).trans rfl⟩

theorem State.takeStore_reads {g o : Nat} {r : StoreRead} {b : List Byte} (hr : (s.wport p).reads.find? (fun r => r.tag == g) = some r)
    (hl : o + b.length ≤ r.len) : (fun t : State => t.storeMem = Memory.wrs s.storeMem (2 ^ 64 * p + r.addr + o) b ∧
      (t.wport p).reads = (s.wport p).reads.filter (fun x => x.tag != g) ++
        (if r.got + b.length < r.len then [{ r with got := r.got + b.length }] else []) ∧ t.hostMem = s.hostMem ∧ t.regs = s.regs)
    (s.takeStore p g o b) := by
  unfold State.takeStore
  extract_lets w
  rw [show w.reads.find? (fun r => r.tag == g) = some r from hr]
  dsimp only
  rw [if_neg (Nat.not_lt.2 hl)]
  refine ⟨rfl, (congrArg WortPort.reads (s.wport_setWport p _)).trans ?_, rfl, rfl⟩
  split_ifs
  · rfl
  · exact (List.append_nil _).symm

/-! ### Lanes -/

theorem fecWindowEnd_runs {i c u : Nat} (hon : s.wortOn (i / 9) = true) (hi : i % 9 < 8) (ha : s.is .WL_LANE_STATUS_ACTIVE i = true)
    (hu : u < s.wf (i / 9) 8 2) (hc : c ≤ s.wf (i / 9) 4 4) : Runs (.fecWindowEnd i c u) s (fun t =>
      OnlyRegs s t (fun f j k => (f = .WL_LANE_FEC_CORR ∨ f = .WL_LANE_FEC_UNCORR) ∧ j = i ∧ k = 0) ∧
      t.get .WL_LANE_FEC_CORR i = min c (2 ^ 24 - 1) ∧ t.get .WL_LANE_FEC_UNCORR i = min u 255) := by
  refine ⟨_, exec_of (exec_when (i := .fecWindowEnd i c u) (s := s) rfl (by simp [hon, hi, ha])) (if_neg ?_), ?_, ?_, ?_⟩
  · exact fun h => h.elim (Nat.not_le.2 hu) (Nat.not_lt.2 hc)
  · exact ((OnlyRegs.refl s _).set ⟨.inl rfl, rfl, rfl⟩ _).set ⟨.inr rfl, rfl, rfl⟩ _
  · exact (State.get_set_fld _ (by decide) ..).trans (State.get_set_fits _ _ _ (Nat.mod_eq_of_lt (by rw [wortWidths.2.2.2.1]; omega)))
  · exact State.get_set_fits _ _ _ (Nat.mod_eq_of_lt (by rw [wortWidths.2.2.2.2.1]; omega))

theorem State.trainLane_good {k : Nat} {x : LaneTrain} (h0 : x.fail = 0) (hx : s.wf p 3 1 ≤ x.width) : (fun t : State =>
      Touches [.WL_LANE_EYE_WIDTH, .WL_LANE_EYE_TRAINED, .WL_LANE_EYE_DRIFT, .WL_LANE_STATUS_INVERTED, .WL_LANE_STATUS_STAGE] s t)
    (s.trainLane p k x) := by
  unfold State.trainLane
  extract_lets i u
  have hw : u.wf p 3 1 = s.wf p 3 1 := State.wf_of_sects rfl ..
  have ht : Touches [.WL_LANE_EYE_WIDTH, .WL_LANE_EYE_TRAINED, .WL_LANE_EYE_DRIFT, .WL_LANE_STATUS_INVERTED, .WL_LANE_STATUS_STAGE] s u :=
    ((((Touches.refl _ s).set (f := .WL_LANE_EYE_WIDTH) (by decide) _ _ _).set (f := .WL_LANE_EYE_TRAINED) (by decide) _ _ _).set
      (f := .WL_LANE_EYE_DRIFT) (by decide) _ _ _).set (f := .WL_LANE_STATUS_INVERTED) (by decide) _ _ _
  rw [if_neg (by rw [hw, h0]; omega)]
  generalize u = v at ht
  exact ht.set (by decide) _ _ _

/-- A retrain of lane `i` is counted. -/
def State.notedRetrain (s : State) (i : Nat) : State :=
  (s.setWport (i / 9) { s.wport (i / 9) with hist := (i % 9, s.now) :: (s.wport (i / 9)).hist }).bump .WL_LANE_RETRAINS_TOTAL 1 i

theorem State.laneHour_notedRetrain (s : State) (i : Nat) : (s.notedRetrain i).laneHour i = s.laneHour i + 1 := by
  unfold State.laneHour
  have hw : (s.notedRetrain i).wport (i / 9) = { s.wport (i / 9) with hist := (i % 9, s.now) :: (s.wport (i / 9)).hist } := s.wport_setWport _ _
  have hn : (s.notedRetrain i).now = s.now := rfl
  rw [hw, hn]
  dsimp only
  rw [List.filter_cons_of_pos, List.length_cons]
  rw [beq_self_eq_true, Bool.true_and, decide_eq_true_eq]
  exact Nat.lt_add_of_pos_right (by decide)

/-- The retrained lane carries flits again. -/
def State.laneBack (s : State) (i : Nat) : State :=
  ((s.set .WL_LANE_STATUS_STAGE 8 i).sendWidth (i / 9) (setBit (s.nextMask (i / 9)) (i % 9))).nextLane (i / 9)

theorem State.laneBack_reads {i : Nat} (hw : s.is .WL_LANE_STATUS_WAITING i = false) : (fun t : State =>
      Touches [.WL_LANE_STATUS_WAITING, .WL_LANE_STATUS_STAGE] s t ∧ t.get .WL_LANE_STATUS_STAGE i = 8) (s.laneBack i) := by
  unfold State.laneBack
  generalize setBit _ _ = m
  have hs : ∀ f j k, ((s.set .WL_LANE_STATUS_STAGE 8 i).sendWidth (i / 9) m).get f j k = (s.set .WL_LANE_STATUS_STAGE 8 i).get f j k := fun f j k =>
    Deals.get (p := i / 9) ((Deals.refl _ ((s.set .WL_LANE_STATUS_STAGE 8 i).setWport (i / 9) _)).sendControl ..) f j k
  generalize (s.set .WL_LANE_STATUS_STAGE 8 i).sendWidth (i / 9) m = u at hs
  obtain ⟨h1, h2⟩ := u.nextLane_reads (i / 9)
  have h8 : u.get .WL_LANE_STATUS_STAGE i = 8 := (hs ..).trans (State.get_set_fits (f := .WL_LANE_STATUS_STAGE) (v := 8) _ _ _ rfl)
  refine ⟨fun f j k hf => (h1 f j k hf).trans ((hs f j k).trans ((Touches.refl _ s).set (by decide) _ _ _ f j k hf)), (h2 i ?_).trans h8⟩
  rw [State.is, hs, State.get_set_fld _ (by decide)]
  exact hw

end

section
variable {s : State} {p : Nat}

theorem exec_laneRetrain {i g d : Nat} {x : LaneTrain} (hon : s.wortOn (i / 9) = true) (hup : s.wortUp (i / 9) = true) (hi : i % 9 < 8)
    (hg : g = s.get .WL_LANE_STATUS_STAGE i) (h2 : 2 ≤ g) (h6 : g ≤ 6) (hh : s.laneHour i + 1 ≤ s.wf (i / 9) 0xA 1)
    (hrev : s.is .WL_PORT_STATUS_REVERSED (i / 9) = false) (hnum : x.number = i % 9) :
    exec (.laneRetrain i d (some x)) s = .next (
      let t := (s.notedRetrain i).trainLane (i / 9) (i % 9) x
      if t.fenced 4 i then t else t.laneBack i) := by
  refine exec_of (exec_when (i := .laneRetrain i d (some x)) (s := s) rfl (by simp [hon, hi])) ?_
  refine (State.when_of s _ ?_).trans ?_
  · rw [hup, ← hg]
    simp [h2, h6]
  · have hr : (s.notedRetrain i).is .WL_PORT_STATUS_REVERSED (i / 9) = false := (congrArg (· == 1) (State.get_bump_fld _ (by decide) ..)).trans hrev
    have hwant : (if (s.notedRetrain i).is .WL_PORT_STATUS_REVERSED (i / 9) then 7 - i % 9 else i % 9) = i % 9 := if_neg (by rw [hr]; decide)
    have hwf : (s.notedRetrain i).wf (i / 9) 0xA 1 = s.wf (i / 9) 0xA 1 := State.wf_of_sects rfl ..
    have hno : ¬ ((s.notedRetrain i).wf (i / 9) 0xA 1 < (s.notedRetrain i).laneHour i ∨
        x.number ≠ if (s.notedRetrain i).is .WL_PORT_STATUS_REVERSED (i / 9) then 7 - i % 9 else i % 9) := by
      rw [hwant, hwf, s.laneHour_notedRetrain]
      omega
    exact (if_neg hno).trans rfl

theorem laneRetrain_runs {i g d : Nat} {x : LaneTrain} (hon : s.wortOn (i / 9) = true) (hup : s.wortUp (i / 9) = true) (hi : i % 9 < 8)
    (hg : g = s.get .WL_LANE_STATUS_STAGE i) (h2 : 2 ≤ g) (h6 : g ≤ 6) (hh : s.laneHour i + 1 ≤ s.wf (i / 9) 0xA 1)
    (hrev : s.is .WL_PORT_STATUS_REVERSED (i / 9) = false) (hnum : x.number = i % 9) (hfail : x.fail = 0) (hw : s.wf (i / 9) 3 1 ≤ x.width)
    (hf : s.fenced 4 i = false) (hwait : s.is .WL_LANE_STATUS_WAITING i = false) : Runs (.laneRetrain i d (some x)) s (fun t =>
      t.get .WL_LANE_STATUS_STAGE i = 8 ∧
      t.get .WL_LANE_RETRAINS_TOTAL i = min (s.get .WL_LANE_RETRAINS_TOTAL i + 1) (2 ^ Fld.WL_LANE_RETRAINS_TOTAL.desc.width - 1) ∧
      t.fenced 4 i = false) := by
  have ht1 : Touches [.WL_LANE_RETRAINS_TOTAL] s (s.notedRetrain i) := Touches.bump (.of_regs rfl) (by decide) _ _ _
  have hr1 : (s.notedRetrain i).get .WL_LANE_RETRAINS_TOTAL i =
      min (s.get .WL_LANE_RETRAINS_TOTAL i + 1) (2 ^ Fld.WL_LANE_RETRAINS_TOTAL.desc.width - 1) := State.get_bump_same ..
  have ht2 : Touches [.WL_LANE_EYE_WIDTH, .WL_LANE_EYE_TRAINED, .WL_LANE_EYE_DRIFT, .WL_LANE_STATUS_INVERTED, .WL_LANE_STATUS_STAGE]
      (s.notedRetrain i) ((s.notedRetrain i).trainLane (i / 9) (i % 9) x) :=
    State.trainLane_good hfail (by rw [State.wf_of_sects (show (s.notedRetrain i).sects = s.sects from rfl)]; exact hw)
  have he := exec_laneRetrain (d := d) hon hup hi hg h2 h6 hh hrev hnum
  generalize s.notedRetrain i = u at he ht1 hr1 ht2
  generalize u.trainLane (i / 9) (i % 9) x = v at he ht2
  have hf2 : v.fenced 4 i = false := (ht2.fenced (by decide) 4 i).trans ((ht1.fenced (by decide) 4 i).trans hf)
  have hw2 : v.is .WL_LANE_STATUS_WAITING i = false := by
    rw [State.is, ht2 _ _ _ (by decide), ht1 _ _ _ (by decide)]
    exact hwait
  obtain ⟨h3, h4⟩ := State.laneBack_reads hw2
  exact ⟨_, exec_of he (if_neg (by rw [hf2]; decide)), h4, (h3 _ _ _ (by decide)).trans ((ht2 _ _ _ (by decide)).trans hr1),
    (h3.fenced (by decide) 4 i).trans hf2⟩

end

/-- Settles O50: it holds. Flits and control blocks reach the lanes of a port through its coders alone (`Deals`), and what waits takes its
credits (`Feeds`); a port that is fenced or goes down is brought to rest (`wortQuiet_reads`), and a lane or port that retrains keeps its fences. -/
theorem wortLinks : Obligations.WortLinks := by
  unfold Obligations.WortLinks
  refine ⟨?portTrain, ?portTrainClock, ?stageTimeout, ?init, ?credit, ?ack, ?nak, ?width, ?widthSwitch, ?down, ?reserved, ?flitGood, ?flitBad, ?flitNaked,
    descramble_scrambled, ?storeRdEmpty, ?storeRd, ?storeData, ?fecWindow, ?laneRetrainEye, ?laneRetrain, ?portRetrain, ?eye, ?portRetrainWrite,
    ?laneRetrainWrite, ?clockRetrainWrite⟩
  case portTrain => exact fun s p l hon hl hst hf => portTrain_noClock hon hl hst hf
  case portTrainClock =>
    rintro s u p l hon hl hst rfl
    exact ⟨_, exec_portTrain hon hl hst, rfl⟩
  case stageTimeout =>
    rintro s p k g hon hk rfl h1 h7 hw
    have hp := lt_of_wortOn hon
    exact ⟨_, exec_trainStageTimeout hon hk h1 h7 hw, rfl, fenced_fenceLane s (by omega) causeLink⟩
  case init => exact fun s p id r port m n sh hon hport hr hst hrev hown hn h0 => init_runs hon hport hr hst hrev hown hn h0
  case credit => exact fun s p l h hw => credit_runs h hw
  case ack => exact fun s p n h hw => ack_runs n h hw
  case nak => exact fun s p n l h hw hl hr => nak_runs h hw hl hr
  case width =>
    intro s p m h hrev
    refine ⟨_, exec_of (exec_when (i := .width p m) (s := s) rfl h) ?_, rfl⟩
    rw [if_neg (by rw [hrev]; decide)]
  case widthSwitch => exact fun s p m n h hw hn h0 => widthSwitch_runs h hw hn h0
  case down => exact fun s p c h => down_runs h c
  case reserved =>
    intro s p y hon hy hc
    exact ⟨_, exec_when (i := .reservedControlBlock p y) (s := s) rfl (by rw [hon, hc, decide_eq_true hy]; rfl), onlyRegs_set .., State.get_bump_same ..⟩
  case flitGood => exact fun s p b w h hb hcrc hseq hw => flitReceive_good h hb hcrc hseq hw
  case flitBad => exact fun s p b w c h hb hc hd hn => flitReceive_bad h hb hc hd hn
  case flitNaked => exact fun s p b w c h hb hc hd hn => ⟨_, exec_of (exec_flitReceive_bad h hb hc hd) (if_pos hn), rfl⟩
  case storeRdEmpty =>
    intro s p a g hon
    exact ⟨_, exec_of (exec_when (i := .storeRd p a 0 g) (s := s) rfl hon) (if_pos rfl), onlyRegs_set .., State.get_bump_same ..⟩
  case storeRd => exact fun s p a n g hon h0 ha hn hl ht => storeRd_runs hon h0 ha hn hl ht
  case storeData => exact fun s p g o r b h hr hl => ⟨_, exec_when (i := .storeData p g o b) (s := s) rfl h, State.takeStore_reads hr hl⟩
  case fecWindow => exact fun s i c u hon hi ha hu hc => fecWindowEnd_runs hon hi ha hu hc
  case laneRetrainEye =>
    intro s i d hon hi ha
    exact ⟨_, exec_of (exec_when (i := .laneRetrain i d none) (s := s) rfl (by simp [hon, hi])) (State.when_of s _ ha), rfl⟩
  case laneRetrain =>
    exact fun s i d g x hon hup hi _ hg h2 h6 hh hrev hnum hfail hw hf hwait => laneRetrain_runs hon hup hi hg h2 h6 hh hrev hnum hfail hw hf hwait
  case portRetrain =>
    intro s p n hup hon hn
    obtain ⟨h1, h2⟩ := State.wortRetrain_reads hon
    rw [hup] at h1
    exact ⟨_, exec_when (i := .portRetrain p n) (s := s) rfl (by simp [hup, hn]), rfl, h1, h2⟩
  case eye =>
    intro s i w hon hi ha hw
    refine ⟨_, exec_of (exec_when (i := .eyeRecalibration i w) (s := s) rfl (by simp [hon, hi, ha])) (if_neg ?_), onlyRegs_set .., ?_⟩
    · rw [State.wf_of_sects (show (s.set .WL_LANE_EYE_WIDTH (min w 64) i).sects = s.sects from rfl)]
      exact Nat.not_lt.2 hw
    · exact State.get_set_fits _ _ _ (Nat.mod_eq_of_lt (by rw [wortWidths.2.2.2.2.2.1]; omega))
  case portRetrainWrite =>
    exact fun s p hr hon => ⟨_, exec_reach (i := .wlPortRetrainWrite p) (s := s) rfl hr, rfl, (State.wortRetrain_reads hon).2⟩
  case laneRetrainWrite =>
    exact fun s i hr hi => ⟨_, exec_of (exec_reach (i := .wlLaneRetrainWrite i) (s := s) rfl hr) (if_pos hi), rfl⟩
  case clockRetrainWrite =>
    exact fun s i hr hi => ⟨_, exec_of (exec_reach (i := .wlLaneRetrainWrite i) (s := s) rfl hr) (if_neg (by omega)), rfl⟩

end Sys2Proof.Machine
end

section
/-! PROOF. DRAM controllers. -/

namespace Sys2Proof.Machine

-- One lemma after the other: elaborated side by side, they ask for more threads than the compile may have.
set_option Elab.async false

/-! ## DRAM controllers -/

theorem ddrWidths : Fld.DDR_STATUS_STATE.desc.width = 3 ∧ Fld.DDR_EVAC_PCT.desc.width = 7 ∧ Fld.DDR_STATUS_TEMP.desc.width = 8 ∧
    Fld.SPG_CTRL_PERIOD_H.desc.width = 8 ∧ Fld.PWR_STATE_ON.desc.width = 32 := by decide

@[simp] theorem State.ddr_setDdr (s : State) (i : Nat) (x : DdrCh) : (s.setDdr i x).ddr i = x := look_store_same ..
theorem State.ddr_setDdr_ne (s : State) {i j : Nat} (x : DdrCh) (h : j ≠ i) : (s.setDdr i x).ddr j = s.ddr j := look_store_ne _ _ _ h
theorem State.ddr_of_ddrs {s t : State} (h : t.ddrs = s.ddrs) (i : Nat) : t.ddr i = s.ddr i := congrArg (look _ · i) h

theorem State.ddrServes_of_get {s t : State} {i : Nat} (h : t.get .DDR_STATUS_STATE i = s.get .DDR_STATUS_STATE i) : t.ddrServes i = s.ddrServes i := by
  rw [State.ddrServes, State.ddrServes, h]

/-! ### Accesses -/

/-- An access moves the rows of the banks only. -/
def Rows (s t : State) : Prop := t = { s with banks := t.banks }

theorem Rows.refl (s : State) : Rows s s := rfl

theorem Rows.trans {s t u : State} (h : Rows s t) (h' : Rows t u) : Rows s u := by
  unfold Rows at *
  rw [h', h]

theorem State.accessBank_rows (s : State) (k row : Nat) : Rows s (s.accessBank k row) := rfl

theorem State.accessBurst_rows (s : State) (slot x : Nat) : Rows s (s.accessBurst slot x) := by
  unfold State.accessBurst
  extract_lets m k place
  cases place with
  | some p => exact State.accessBank_rows ..
  | none => exact .refl s

theorem State.dramTouch_rows (s : State) (a n : Nat) (w : Bool) : Rows s (s.dramTouch a n w) :=
  List.foldlRecOn (motive := fun t => Rows s t) _ _ (.refl s) fun t ht b _ => by
    dsimp only
    split_ifs
    · exact ht
    · exact (ht.trans (State.accessBurst_rows ..)).trans (State.accessBurst_rows ..)
    · exact ht.trans (State.accessBurst_rows ..)

theorem State.dramWr_reads {s : State} {a : Nat} {b : List Byte} (h : s.dramOk a b.length = true) : (fun t : State =>
      t.dram = Memory.wrs s.dram a b ∧ t.hostMem = s.hostMem ∧ t.regs = s.regs) (s.dramWr a b) := by
  unfold State.dramWr
  extract_lets n sound mem whole s1 s2
  have hm : mem = Memory.wrs s.dram a b := if_pos h
  have h2 : s2.dram = mem ∧ s2.hostMem = s.hostMem ∧ s2.regs = s.regs := by
    unfold s2
    split
    · exact ⟨rfl, rfl, rfl⟩
    · exact ⟨rfl, rfl, rfl⟩
  have hv : Rows (s2.vpTouch a n) ((s2.vpTouch a n).dramTouch a n true) := State.dramTouch_rows ..
  have h3 : (s2.vpTouch a n).dram = s2.dram ∧ (s2.vpTouch a n).hostMem = s2.hostMem ∧ (s2.vpTouch a n).regs = s2.regs := by
    unfold State.vpTouch
    dsimp only
    split_ifs
    · exact ⟨rfl, rfl, rfl⟩
    · exact ⟨rfl, rfl, rfl⟩
  generalize s2.vpTouch a n = u at hv h3
  obtain ⟨a1, a2, a3⟩ := h2
  obtain ⟨b1, b2, b3⟩ := h3
  generalize u.dramTouch a n true = v at hv
  rw [hv]
  exact ⟨b1.trans (a1.trans hm), b2.trans a2, b3.trans a3⟩

/-- Channels, fences and the image agree: DRAM is judged alike. -/
structure SameDram (s t : State) : Prop where
  fenced : ∀ k i, t.fenced k i = s.fenced k i
  unplanned : ∀ k, t.is .DDR_EVAC_UNPLANNED k = s.is .DDR_EVAC_UNPLANNED k
  dmap : t.dmap = s.dmap
  ddr : ∀ k, t.ddr k = s.ddr k
  rehomed : t.rehomed = s.rehomed
  poison : t.poison = s.poison

namespace SameDram
variable {s t : State}

theorem ddrAlive (h : SameDram s t) (k : Nat) : t.ddrAlive k = s.ddrAlive k := by
  rw [State.ddrAlive, State.ddrAlive, h.ddr, h.fenced]

theorem ddrStands (h : SameDram s t) (a b : Nat) : t.ddrStands a b = s.ddrStands a b := by
  simp only [State.ddrStands, h.dmap, h.ddrAlive, h.rehomed]

theorem dramAt (h : SameDram s t) : t.dramAt = s.dramAt := by
  funext a
  simp only [State.dramAt, h.dmap, h.ddrStands]

theorem dramBad (h : SameDram s t) : t.dramBad = s.dramBad := by
  have hc : ∀ a b c, t.ddrCopied a b c = s.ddrCopied a b c := fun a b c => by simp only [State.ddrCopied, h.rehomed, h.unplanned, h.ddr]
  funext a
  simp only [State.dramBad, h.dmap, h.ddrStands, hc, h.poison]

theorem dramOk (h : SameDram s t) (a n : Nat) : t.dramOk a n = s.dramOk a n := by
  rw [State.dramOk, State.dramOk, h.dramAt]

theorem dramPoisoned (h : SameDram s t) (a n : Nat) : t.dramPoisoned a n = s.dramPoisoned a n := by
  rw [State.dramPoisoned, State.dramPoisoned, h.dramBad]

end SameDram

theorem Serves.sameDram {s t : State} (h : Serves s t) : SameDram s t where
  fenced := h.touches.fenced (by decide)
  unplanned k := congrArg (· == 1) (h.touches _ _ _ (by decide))
  dmap := by rw [h.frame]; rfl
  ddr k := by rw [h.frame]; rfl
  rehomed := by rw [h.frame]
  poison := by rw [h.frame]

/-! ### Fences of channels -/

/-- A channel that fails: DRAM stays, no fence is lifted, and of the states of channels only a working one becomes a rehomed one. -/
structure Guards (s t : State) : Prop where
  dram : t.dram = s.dram
  rehomed : t.rehomed = s.rehomed
  fence : ∀ k i, s.HasFence k i → t.HasFence k i
  touches : Touches (.DDR_STATUS_STATE :: fenceFlds) s t
  state : ∀ i, s.get .DDR_STATUS_STATE i ≠ 2 → t.get .DDR_STATUS_STATE i = s.get .DDR_STATUS_STATE i

namespace Guards
variable {s t u : State}

theorem refl (s : State) : Guards s s := ⟨rfl, rfl, fun _ _ h => h, .refl _ s, fun _ _ => rfl⟩

theorem trans (h : Guards s t) (h' : Guards t u) : Guards s u :=
  ⟨h'.dram.trans h.dram, h'.rehomed.trans h.rehomed, fun k i hf => h'.fence k i (h.fence k i hf), h.touches.trans h'.touches,
    fun i hi => (h'.state i (by rwa [h.state i hi])).trans (h.state i hi)⟩

theorem of_touches {fs : List Fld} (hd : t.dram = s.dram) (hr : t.rehomed = s.rehomed) (hf : ∀ k i, s.HasFence k i → t.HasFence k i)
    (h : Touches fs s t) (hs : fs ⊆ fenceFlds) : Guards s t :=
  ⟨hd, hr, hf, h.mono fun _ hx => List.mem_cons_of_mem _ (hs hx), fun i _ => h _ _ _ fun hx => absurd (hs hx) (by decide)⟩

end Guards

theorem State.recordFence_guards (s : State) (k i cause : Nat) : Guards s (s.recordFence k i cause) :=
  have hf : ReportFrame s (s.recordFence k i cause) := s.recordFence_frame k i cause
  .of_touches (by rw [hf]) (by rw [hf]) (fun _ _ h => h.recordFence) (s.recordFence_touches k i cause) (List.Subset.refl _)

theorem State.fenceHead_guards (s : State) (c cause : Nat) : Guards s (s.fenceHead c cause) := by
  have h2 : Guards (s.recordFence 1 c cause) (s.recordFence 1 c cause).cutHeads := by
    have hc := (s.recordFence 1 c cause).cutHeads_reads.1
    generalize s.recordFence 1 c cause = u at hc
    refine .of_touches (fs := []) (by rw [hc]) (by rw [hc]) (fun _ _ h => h.cutHeads) (.of_regs (by rw [hc])) (by decide)
  have h3 : ∀ u : State, Guards u u.noteCoverage := fun u =>
    .of_touches (by rw [u.noteCoverage_frame]) (by rw [u.noteCoverage_frame]) (fun _ _ h => h.noteCoverage) u.noteCoverage_reports.touches (by decide)
  exact ((s.recordFence_guards 1 c cause).trans h2).trans (h3 _)

theorem State.secondFence_guards (s : State) (i : Nat) : Guards s (s.secondFence i) := by
  unfold State.secondFence
  split_ifs
  · exact State.each_keeps (P := fun t => Guards s t) 64 _ (fun t c h => h.trans (t.fenceHead_guards c causeMem)) _ (.refl s)
  · exact .refl s

theorem State.showRehome_guards (s : State) (i : Nat) : Guards s (s.showRehome i) :=
  List.foldlRecOn (motive := fun t => Guards s t) _ _ (.refl s) fun t h k _ => by
    split_ifs with hk
    · refine h.trans ⟨rfl, rfl, fun _ _ h => h.set, (Touches.refl _ t).set (by decide) _ _ _, fun j hj => State.get_set_ne _ _ _ _ (.inr (.inl ?_))⟩
      rintro rfl
      exact hj hk
    · exact h

/-- Failing a channel fences it. -/
theorem State.ddrFail_reads {s : State} {i : Nat} (hi : i < 6) (h : s.fenced 6 i = false) (cause : Nat) : (fun t : State =>
      t.fenced 6 i = true ∧ t.get .DDR_STATUS_STATE i = 4 ∧ t.dram = s.dram) (s.ddrFail i cause) := by
  unfold State.ddrFail
  rw [if_neg (by rw [h]; decide)]
  extract_lets m copied room s1 s2 _ s3 u4 s4
  have e2 : s2.get .DDR_STATUS_STATE i = 4 := (State.get_set_fld _ (by decide) ..).trans ((State.get_set_fld _ (by decide) ..).trans
    (State.get_set_fits (f := .DDR_STATUS_STATE) (v := 4) _ _ _ rfl))
  have g3 := State.recordFence_guards (s2.setDdr i { s2.ddr i with
    alerts := 0, spg := 0, evac := none, copied := copied, healed := [], ues := [], behind := false }) 6 i cause
  have f3 : s3.HasFence 6 i := State.hasFence_recordFence _ 6 (by omega) cause
  have e3 : s3.get .DDR_STATUS_STATE i = 4 := (g3.state i (by rw [show State.get (s2.setDdr i _) _ i = 4 from e2]; decide)).trans e2
  have d3 : s3.dram = s.dram := g3.dram
  clear_value s3
  have h4 : s4.HasFence 6 i ∧ s4.get .DDR_STATUS_STATE i = 4 ∧ s4.dram = s.dram := by
    unfold s4
    split_ifs
    · have f4 : ∀ n, (State.bump (State.on { s3 with rehomed := some i } .DDR_EVAC_UNPLANNED i) .DDR_EVAC_LOST n i).HasFence 6 i := fun n =>
        State.HasFence.set (State.HasFence.set (s := { s3 with rehomed := some i }) f3)
      have e4 : ∀ n, (State.bump (State.on { s3 with rehomed := some i } .DDR_EVAC_UNPLANNED i) .DDR_EVAC_LOST n i).get .DDR_STATUS_STATE i = 4 := fun n =>
        (State.get_bump_fld _ (by decide) ..).trans ((State.get_set_fld _ (by decide) ..).trans e3)
      have g4 := fun n => State.showRehome_guards (State.bump (State.on { s3 with rehomed := some i } .DDR_EVAC_UNPLANNED i) .DDR_EVAC_LOST n i) i
      exact ⟨(g4 _).fence _ _ (f4 _), ((g4 _).state i (by rw [e4]; decide)).trans (e4 _), (g4 _).dram.trans d3⟩
    · exact ⟨f3, e3, d3⟩
  generalize s4 = u at h4
  obtain ⟨f4, e4, d4⟩ := h4
  have g5 := u.secondFence_guards i
  exact ⟨(g5.fence _ _ f4).2, (g5.state i (by rw [e4]; decide)).trans e4, g5.dram.trans d4⟩

section
variable {s : State} {i : Nat}

/-! ### Training -/

theorem State.HasFence.ddrOut {k j : Nat} (h : s.HasFence k j) (i state : Nat) : (s.ddrOut i state).HasFence k j := h.set.recordFence

theorem State.HasFence.endTraining {k j : Nat} (h : s.HasFence k j) : s.endTraining.HasFence k j := by
  unfold State.endTraining
  split_ifs
  · exact h
  · split
    · exact h
    · refine State.HasFence.each (State.HasFence.each h fun t ht _ => ?_) fun _ ht _ => ht.set
      dsimp only
      split_ifs
      · exact State.HasFence.ddrOut (s := t.setDdr _ _) ht ..
      · exact ht

theorem State.endTraining_of_training {j : Nat} (hj : j < 6) (h : s.get .DDR_STATUS_STATE j = 1) : s.endTraining = s := by
  refine if_pos (List.any_eq_true.2 ⟨j, List.mem_range.2 hj, ?_⟩)
  rw [h]
  rfl

def geomFlds : List Fld := [.DDR_GEOM_GIB, .DDR_GEOM_X8, .DDR_GEOM_DENSITY, .DDR_GEOM_RANKS_M1, .DDR_GEOM_ROW_BITS]

theorem State.showGeom_reads (s : State) (i : Nat) (g : List Nat) : (fun t : State => t = { s with regs := t.regs } ∧ Touches geomFlds s t ∧
      t.get .DDR_GEOM_GIB i = g.getD 0 0 % 2 ^ Fld.DDR_GEOM_GIB.desc.width ∧ t.get .DDR_GEOM_X8 i = g.getD 1 0 % 2 ^ Fld.DDR_GEOM_X8.desc.width)
    (s.showGeom i g) := by
  refine ⟨rfl, ?_, ?_, ?_⟩
  · exact (((((Touches.refl _ s).set (f := .DDR_GEOM_GIB) (by decide) _ _ _).set (f := .DDR_GEOM_X8) (by decide) _ _ _).set
      (f := .DDR_GEOM_DENSITY) (by decide) _ _ _).set (f := .DDR_GEOM_RANKS_M1) (by decide) _ _ _).set (f := .DDR_GEOM_ROW_BITS) (by decide) _ _ _
  · exact (State.get_set_fld _ (by decide) ..).trans ((State.get_set_fld _ (by decide) ..).trans ((State.get_set_fld _ (by decide) ..).trans
      ((State.get_set_fld _ (by decide) ..).trans (State.get_set_same ..))))
  · exact (State.get_set_fld _ (by decide) ..).trans ((State.get_set_fld _ (by decide) ..).trans ((State.get_set_fld _ (by decide) ..).trans
      (State.get_set_same ..)))

theorem b2n_mod_x8 (b : Bool) : b2n b % 2 ^ Fld.DDR_GEOM_X8.desc.width = b2n b := by cases b <;> rfl

theorem exec_ddrTrain (hi : i < 6) (h : s.get .DDR_STATUS_STATE i = 1) (x : Dimm) (hx : Dimm.ok x = true) : exec (.ddrTrain i (some x) true) s =
    .next (State.endTraining (((s.showGeom i [x.gib, b2n x.x8, x.density, x.ranks - 1, x.rowBits]).set .DDR_STATUS_STATE ddrUp i).setDdr i
      { up := true, geom := [x.gib, b2n x.x8, x.density, x.ranks - 1, x.rowBits] })) := by
  refine exec_of (exec_when (i := .ddrTrain i (some x) true) (s := s) rfl ?_) (if_pos (by rw [hx]; rfl))
  rw [h, decide_eq_true hi]
  rfl

theorem ddrTrain_runs {j : Nat} {x : Dimm} (hi : i < 6) (h : s.get .DDR_STATUS_STATE i = 1) (hj : j < 6) (hji : j ≠ i)
    (hs : s.get .DDR_STATUS_STATE j = 1) (hx : Dimm.ok x = true) : Runs (.ddrTrain i (some x) true) s (fun t => t.get .DDR_STATUS_STATE i = 2 ∧
      (t.ddr i).up = true ∧ t.get .DDR_GEOM_GIB i = x.gib % 2 ^ Fld.DDR_GEOM_GIB.desc.width ∧ t.get .DDR_GEOM_X8 i = b2n x.x8 ∧
      t = { s with regs := t.regs, ddrs := t.ddrs }) := by
  have he := exec_ddrTrain hi h x hx
  obtain ⟨h1, h2, h3, h4⟩ := s.showGeom_reads i [x.gib, b2n x.x8, x.density, x.ranks - 1, x.rowBits]
  generalize s.showGeom i [x.gib, b2n x.x8, x.density, x.ranks - 1, x.rowBits] = u at he h1 h2 h3 h4
  have hu : (u.set .DDR_STATUS_STATE ddrUp i).get .DDR_STATUS_STATE j = 1 :=
    (State.get_set_ne _ _ _ _ (.inr (.inl hji))).trans ((h2 _ _ _ (by decide)).trans hs)
  rw [State.endTraining_of_training hj (s := State.setDdr (u.set .DDR_STATUS_STATE ddrUp i) i _) hu] at he
  refine ⟨_, he, State.get_set_fits (f := .DDR_STATUS_STATE) (v := 2) _ _ _ rfl, congrArg DdrCh.up (State.ddr_setDdr ..),
    (State.get_set_fld u (f := .DDR_STATUS_STATE) (by decide) ddrUp i 0 i 0).trans h3,
    (State.get_set_fld u (f := .DDR_STATUS_STATE) (by decide) ddrUp i 0 i 0).trans (h4.trans (b2n_mod_x8 _)), ?_⟩
  rw [h1]
  rfl

theorem ddrTrain_absent (hi : i < 6) (h : s.get .DDR_STATUS_STATE i = 1) (ok : Bool) :
    Runs (.ddrTrain i none ok) s (fun t => t.fenced 6 i = true) := by
  refine ⟨_, exec_when (i := .ddrTrain i none ok) (s := s) rfl ?_, ?_⟩
  · rw [h, decide_eq_true hi]
    rfl
  · exact (State.HasFence.endTraining (State.hasFence_recordFence _ 6 (by omega) causeDdr)).2

/-! ### Refresh and replay -/

/-- Row `k` is closed. -/
def State.Shut (s : State) (k : Nat) : Prop := (look {} s.banks k).last = none

theorem State.Shut.openRow {k : Nat} (h : s.Shut k) : s.openRow k = none := by
  unfold State.openRow
  rw [State.Shut] at h
  dsimp only
  rw [h]

theorem look_precharge (l : List (Nat × Bank)) (i k : Nat) :
    (look {} (l.map fun e => if e.1 / 1024 = i then (e.1, { e.2 with last := none }) else e) k).last =
      if k / 1024 = i then none else (look {} l k).last := by
  induction l with
  | nil => exact (ite_self _).symm
  | cons e l ih =>
    unfold look at ih ⊢
    rw [List.map_cons, Tab.get, Tab.get]
    by_cases hk : e.1 = k
    · subst hk
      rw [if_pos (by split_ifs <;> rfl), if_pos rfl]
      split_ifs <;> rfl
    · rw [if_neg hk, if_neg (by split_ifs <;> exact hk), ih]

theorem State.shut_precharge (s : State) (i k : Nat) : (s.precharge i).Shut k ↔ k / 1024 = i ∨ s.Shut k := by
  unfold State.Shut
  rw [show (s.precharge i).banks = s.banks.map fun e => if e.1 / 1024 = i then (e.1, { e.2 with last := none }) else e from rfl, look_precharge]
  split_ifs with h
  · exact ⟨fun _ => .inl h, fun _ => rfl⟩
  · exact ⟨.inr, fun h' => h'.resolve_left h⟩

/-- The grid's refresh of channel `i`. -/
def State.refreshCh (hot : Bool) (s : State) (i : Nat) : State :=
  if !s.ddrServes i then s
  else if s.is .DDR_STATUS_REPLAYING i then (s.setDdr i { s.ddr i with behind := true }).set .DDR_STATUS_HOT (b2n hot) i
  else ((s.precharge i).takeCalib (128 + i) 1).set .DDR_STATUS_HOT (b2n hot) i

/-- What a refresh makes of channel `i` of `s`. -/
def Refreshed (hot : Bool) (s t : State) (i : Nat) : Prop := t.is .DDR_STATUS_HOT i = hot ∧
  (s.is .DDR_STATUS_REPLAYING i = true → (t.ddr i).behind = true) ∧ (s.is .DDR_STATUS_REPLAYING i = false → ∀ k, k / 1024 = i → t.Shut k)

theorem State.is_set_hot (s : State) (hot : Bool) (i : Nat) : (s.set .DDR_STATUS_HOT (b2n hot) i).is .DDR_STATUS_HOT i = hot := by
  rw [State.is, State.get_set_same]
  cases hot <;> rfl

/-- Channels other than `i` stay as they are. -/
def Sole (i : Nat) (s t : State) : Prop := t.hostMem = s.hostMem ∧ t.dram = s.dram ∧
  (∀ f j k, (f ≠ .DDR_STATUS_HOT ∨ j ≠ i) → t.get f j k = s.get f j k) ∧ (∀ j, j ≠ i → t.ddr j = s.ddr j) ∧ (∀ k, s.Shut k → t.Shut k)

theorem State.refreshCh_sole (hot : Bool) (s : State) (i : Nat) : Sole i s (s.refreshCh hot i) := by
  have hg : ∀ (u : State), (∀ f j k, u.get f j k = s.get f j k) → ∀ f j k, (f ≠ .DDR_STATUS_HOT ∨ j ≠ i) →
      (u.set .DDR_STATUS_HOT (b2n hot) i).get f j k = s.get f j k := fun u hu f j k h =>
    (State.get_set_ne u _ _ _ (h.imp id .inl)).trans (hu ..)
  unfold State.refreshCh
  split_ifs
  · exact ⟨rfl, rfl, fun _ _ _ _ => rfl, fun _ _ => rfl, fun _ h => h⟩
  · exact ⟨rfl, rfl, hg _ fun _ _ _ => rfl, fun j hj => s.ddr_setDdr_ne _ hj, fun _ h => h⟩
  · exact ⟨rfl, rfl, hg _ fun _ _ _ => rfl, fun _ _ => rfl, fun k h => (s.shut_precharge i k).2 (.inr h)⟩

theorem State.refreshCh_refreshed {hot : Bool} (h : s.ddrServes i = true) : Refreshed hot s (s.refreshCh hot i) i := by
  unfold State.refreshCh
  rw [if_neg (by rw [h]; decide)]
  split_ifs with hr
  · exact ⟨State.is_set_hot .., fun _ => congrArg DdrCh.behind (s.ddr_setDdr i _), fun hn => absurd (hn.symm.trans hr) (by decide)⟩
  · exact ⟨State.is_set_hot .., fun hy => absurd hy hr, fun _ k hk => (s.shut_precharge i k).2 (.inl hk)⟩

/-- A refreshed channel stays so while other channels are refreshed. -/
theorem Refreshed.sole {hot : Bool} {t u : State} {j : Nat} (h : Refreshed hot s t i) (hs : Sole j t u) (hij : i ≠ j) : Refreshed hot s u i := by
  obtain ⟨h1, h2, h3⟩ := h
  obtain ⟨-, -, g, d, b⟩ := hs
  refine ⟨(congrArg (· == 1) (g _ _ _ (.inr hij))).trans h1, fun hr => ?_, fun hr k hk => b k (h3 hr k hk)⟩
  rw [d i hij]
  exact h2 hr

theorem each_refreshCh (hot : Bool) (s : State) (n : Nat) : (fun t : State => t.hostMem = s.hostMem ∧ t.dram = s.dram ∧
      Touches [.DDR_STATUS_HOT] s t ∧ ∀ i, i < n → s.ddrServes i = true → Refreshed hot s t i) (s.each n (State.refreshCh hot)) := by
  unfold State.each
  induction n with
  | zero => exact ⟨rfl, rfl, .refl _ s, fun i hi => absurd hi (Nat.not_lt_zero i)⟩
  | succ n ih =>
    obtain ⟨h1, h2, h3, h4⟩ := ih
    rw [List.range_succ, List.foldl_append, List.foldl_cons, List.foldl_nil]
    generalize (List.range n).foldl _ s = u at h1 h2 h3 h4 ⊢
    have hs := u.refreshCh_sole hot n
    refine ⟨hs.1.trans h1, hs.2.1.trans h2, h3.trans fun f j k hf => hs.2.2.1 f j k (.inl fun h => hf (by rw [h]; exact List.mem_cons_self)), fun i hi hv => ?_⟩
    by_cases he : i = n
    · subst he
      have hr : u.is .DDR_STATUS_REPLAYING i = s.is .DDR_STATUS_REPLAYING i := congrArg (· == 1) (h3 _ _ _ (by decide))
      obtain ⟨r1, r2, r3⟩ := State.refreshCh_refreshed (hot := hot) ((State.ddrServes_of_get (h3 _ _ _ (by decide))).trans hv)
      rw [hr] at r2 r3
      exact ⟨r1, r2, r3⟩
    · exact (h4 i (by omega) hv).sole hs he

theorem exec_refresh (s : State) : exec .refresh s =
    .next (s.each 6 (State.refreshCh ((List.range 6).any fun j => s.ddrServes j && decide (85 < s.get .DDR_STATUS_TEMP j)))) := rfl

/-- The replay of channel `i` has ended. -/
def State.replayed (s : State) (i : Nat) : State :=
  (((State.setDdr (if (s.ddr i).behind then s.takeCalib (128 + i) 1 else s) i { s.ddr i with behind := false }).precharge i).off
    .DDR_STATUS_REPLAYING i).bump .DDR_ALERT_REPLAYS 1 i

theorem State.replayed_reads (s : State) (i : Nat) : (fun t : State => t.hostMem = s.hostMem ∧ t.dram = s.dram ∧
      t.ddr i = { s.ddr i with behind := false } ∧ t.is .DDR_STATUS_REPLAYING i = false ∧ (∀ k, k / 1024 = i → t.Shut k) ∧
      t.get .DDR_ALERT_REPLAYS i = min (s.get .DDR_ALERT_REPLAYS i + 1) (2 ^ Fld.DDR_ALERT_REPLAYS.desc.width - 1) ∧
      t.get .DDR_ALERT_CRC i = s.get .DDR_ALERT_CRC i) (s.replayed i) := by
  unfold State.replayed
  have hv : ∀ v : State, v = (if (s.ddr i).behind then s.takeCalib (128 + i) 1 else s) → v.regs = s.regs ∧ v.hostMem = s.hostMem ∧ v.dram = s.dram := by
    rintro v rfl
    split_ifs <;> exact ⟨rfl, rfl, rfl⟩
  generalize (if (s.ddr i).behind then s.takeCalib (128 + i) 1 else s) = v at hv ⊢
  obtain ⟨hr, hm, hd⟩ := hv v rfl
  have hg : ∀ f j k, ((v.setDdr i { s.ddr i with behind := false }).precharge i).get f j k = s.get f j k :=
    fun f j k => (Touches.of_regs (fs := []) hr) f j k List.not_mem_nil
  refine ⟨hm, hd, v.ddr_setDdr i _, ?_, fun k hk => (State.shut_precharge _ i k).2 (.inl hk), ?_, ?_⟩
  · exact (congrArg (· == 1) (State.get_bump_fld _ (by decide) ..)).trans (State.is_off_same ..)
  · rw [State.get_bump_same, State.off, State.get_set_fld _ (by decide), hg]
  · rw [State.get_bump_fld _ (by decide), State.off, State.get_set_fld _ (by decide), hg]

theorem alertNHigh_runs (hi : i < 6) (h : s.is .DDR_STATUS_REPLAYING i = true) : Runs (.alertNHigh i) s (fun t =>
      t.is .DDR_STATUS_REPLAYING i = false ∧
      t.get .DDR_ALERT_REPLAYS i = min (s.get .DDR_ALERT_REPLAYS i + 1) (2 ^ Fld.DDR_ALERT_REPLAYS.desc.width - 1) ∧
      t.get .DDR_ALERT_CRC i = (if (s.ddr i).crc then min (s.get .DDR_ALERT_CRC i + 1) (2 ^ Fld.DDR_ALERT_CRC.desc.width - 1)
        else s.get .DDR_ALERT_CRC i) ∧
      (t.ddr i).behind = false ∧ (∀ k, k / 1024 = i → t.openRow k = none) ∧ t.hostMem = s.hostMem ∧ t.dram = s.dram) := by
  have he : exec (.alertNHigh i) s = .next (if ((s.replayed i).ddr i).crc then (s.replayed i).bump .DDR_ALERT_CRC 1 i else s.replayed i) :=
    exec_when (i := .alertNHigh i) (s := s) rfl (by rw [h, decide_eq_true hi]; rfl)
  obtain ⟨h1, h2, h3, h4, h5, h6, h7⟩ := s.replayed_reads i
  generalize s.replayed i = t at he h1 h2 h3 h4 h5 h6 h7
  have hc : (t.ddr i).crc = (s.ddr i).crc := by rw [h3]
  have hb : (t.ddr i).behind = false := by rw [h3]
  rw [hc] at he
  refine ⟨_, he, ?_⟩
  split_ifs
  · exact ⟨(congrArg (· == 1) (State.get_bump_fld _ (by decide) ..)).trans h4, (State.get_bump_fld _ (by decide) ..).trans h6,
      (State.get_bump_same ..).trans (by rw [h7]), hb, fun k hk => (h5 k hk).openRow, h1, h2⟩
  · exact ⟨h4, h6, h7, hb, fun k hk => (h5 k hk).openRow, h1, h2⟩

end

section
variable {s : State} {i : Nat}

theorem is_on_self (s : State) {f : Fld} {i k : Nat} (hf : 0 < f.desc.width := by decide) : (s.on f i k).is f i k = true := by
  rw [State.is, State.on, State.get_set_fits _ _ _ (Nat.mod_eq_of_lt (Nat.one_lt_two_pow hf.ne'))]
  rfl

/-! ### Copies -/

theorem copy_write {d : Desc} (ha : Accepts s d 0x0006 [(0x10, 1), (0x18, 8), (0x20, 8), (0x28, 4)]) (h1 : d.p 0x10 1 = 1) (h0 : d.p 0x28 4 ≠ 0)
    (hm : d.p 0x20 8 + d.p 0x28 4 ≤ s.dmap.size) : exec (.copy d) s = .next (State.done ((s.startedLong d 0x0006).2.dramWr (d.p 0x20 8)
      (Memory.rds (s.startedLong d 0x0006).2.hostMem (d.p 0x18 8) (d.p 0x28 4))) (s.startedLong d 0x0006).1) := by
  have hi : exec (.copy d) s = execCopy d s := rfl
  unfold execCopy at hi
  dsimp only at hi
  have he := exec_long hi ha rfl rfl rfl rfl rfl (by simp [h1, hm]) (by simpa using h0) rfl
  exact exec_of he (if_pos h1)

theorem dram_done (s : State) (h r : Nat) : (s.done h r).dram = s.dram := by rw [(State.done_serves ..).frame]

theorem dram_touched (s : State) (a n : Nat) (m : Memory) : State.dram { s.dramTouch a n false with hostMem := m } = s.dram :=
  (congrArg State.dram (s.dramTouch_rows a n false) :)

theorem copy_read {d : Desc} (ha : Accepts s d 0x0006 [(0x10, 1), (0x18, 8), (0x20, 8), (0x28, 4)]) (h1 : d.p 0x10 1 = 0) (h0 : d.p 0x28 4 ≠ 0)
    (hm : d.p 0x20 8 + d.p 0x28 4 ≤ s.dmap.size) (hb : (burstsOf (d.p 0x20 8) (d.p 0x28 4)).find? s.dramBad = none) :
    Runs (.copy d) s (fun t => t.dram = s.dram ∧ t = State.done { (s.startedLong d 0x0006).2.dramTouch (d.p 0x20 8) (d.p 0x28 4) false with
      hostMem := Memory.wrs (s.startedLong d 0x0006).2.hostMem (d.p 0x18 8) (Memory.rds s.dram (d.p 0x20 8) (d.p 0x28 4)) }
      (s.startedLong d 0x0006).1) := by
  have hi : exec (.copy d) s = execCopy d s := rfl
  unfold execCopy at hi
  dsimp only at hi
  have he := exec_long hi ha rfl rfl rfl rfl rfl (by simp [h1, hm]) (by simpa using h0) rfl
  have hq := s.startedLong_serves d 0x0006
  generalize (s.startedLong d 0x0006).2 = u at he hq
  have hd : u.dram = s.dram := by rw [hq.frame]
  have hx : (burstsOf (d.p 0x20 8) (d.p 0x28 4)).find? u.dramBad = none := by rw [hq.sameDram.dramBad]; exact hb
  rw [hx, if_neg (by rw [h1]; decide), if_pos rfl, hd] at he
  exact ⟨_, he, (dram_done ..).trans ((dram_touched ..).trans hd), rfl⟩

/-! ### The window -/

theorem exec_bar4 {w : Bool} {a n : Nat} {b : List Byte} (h1 : s.powered 131 = true) (h2 : s.powered 126 = true)
    (hl : a + (if w then b.length else n) ≤ 64 * 2 ^ 30) : exec (.bar4Access w a n b) s = .next (
      let a := s.get .QM_BAR4_BASE_BASE + a
      if !s.dramOk a (if w then b.length else n) then
        let s := s.out (.reply "bar4" [1])
        if w then s else { s with rdata := 2 ^ (8 * n) - 1 }
      else if w then (s.dramWr a b).out (.reply "bar4" [0])
      else State.out { s.dramTouch a n false with rdata := leNat (Memory.rds s.dram a n) } (.reply "bar4" [if s.dramPoisoned a n then 2 else 0])) :=
  exec_when (i := .bar4Access w a n b) (s := s) rfl (by rw [h1, h2, decide_eq_true hl]; rfl)

theorem bar4_read {a n : Nat} (h1 : s.powered 131 = true) (h2 : s.powered 126 = true) (hl : a + n ≤ 64 * 2 ^ 30)
    (hd : s.dramOk (s.get .QM_BAR4_BASE_BASE + a) n = true) : Runs (.bar4Access false a n []) s (fun t =>
      t.rdata = leNat (Memory.rds s.dram (s.get .QM_BAR4_BASE_BASE + a) n) ∧
      t.outbox = .reply "bar4" [if s.dramPoisoned (s.get .QM_BAR4_BASE_BASE + a) n then 2 else 0] :: s.outbox ∧
      t = { s with rdata := t.rdata, outbox := t.outbox, banks := t.banks }) := by
  have he := exec_of (exec_bar4 (w := false) (b := []) h1 h2 hl) ((if_neg (by rw [if_neg Bool.false_ne_true, hd]; decide)).trans rfl)
  have hr := s.dramTouch_rows (s.get .QM_BAR4_BASE_BASE + a) n false
  generalize s.dramTouch (s.get .QM_BAR4_BASE_BASE + a) n false = u at hr he
  refine ⟨_, he, rfl, congrArg (_ :: ·) ((congrArg State.outbox hr).trans rfl), ?_⟩
  rw [hr]
  rfl

/-! ### Evacuation, alerts and self-refresh -/

theorem exec_evacuationDone (hi : i < 6) (h : s.get .DDR_STATUS_STATE i = 3) : exec (.evacuationDone i) s = .next (
      ((State.recordFence { ((s.set .DDR_EVAC_PCT 100 i).set .DDR_STATUS_STATE ddrFenced i).setDdr i
        { ((s.set .DDR_EVAC_PCT 100 i).set .DDR_STATUS_STATE ddrFenced i).ddr i with evac := none, spg := 0 } with rehomed := some i } 6 i causeSet).showRehome
          i).secondFence i) :=
  exec_when (i := .evacuationDone i) (s := s) rfl (by rw [h, decide_eq_true hi]; rfl)

theorem evacuationDone_runs (hi : i < 6) (h : s.get .DDR_STATUS_STATE i = 3) : Runs (.evacuationDone i) s (fun t => t.fenced 6 i = true ∧
      t.get .DDR_STATUS_STATE i = 4 ∧ t.get .DDR_EVAC_PCT i = 100 ∧ t.rehomed = some i) := by
  refine ⟨_, exec_evacuationDone hi h, ?_⟩
  have e0 : ((s.set .DDR_EVAC_PCT 100 i).set .DDR_STATUS_STATE ddrFenced i).get .DDR_STATUS_STATE i = 4 :=
    State.get_set_fits (f := .DDR_STATUS_STATE) (v := 4) _ _ _ rfl
  have p0 : ((s.set .DDR_EVAC_PCT 100 i).set .DDR_STATUS_STATE ddrFenced i).get .DDR_EVAC_PCT i = 100 :=
    (State.get_set_fld _ (by decide) ..).trans (State.get_set_fits (f := .DDR_EVAC_PCT) (v := 100) _ _ _ rfl)
  generalize (s.set .DDR_EVAC_PCT 100 i).set .DDR_STATUS_STATE ddrFenced i = v at e0 p0 ⊢
  have hu : ∀ u : State, u.regs = v.regs → u.rehomed = some i → (fun t : State => t.fenced 6 i = true ∧
      t.get .DDR_STATUS_STATE i = 4 ∧ t.get .DDR_EVAC_PCT i = 100 ∧ t.rehomed = some i) (((u.recordFence 6 i causeSet).showRehome i).secondFence i) := by
    intro u hr hh
    have hg := fun f j k => (Touches.of_regs (fs := []) hr) f j k List.not_mem_nil
    have g1 := u.recordFence_guards 6 i causeSet
    have f1 := u.hasFence_recordFence 6 (show i < 64 by omega) causeSet
    generalize u.recordFence 6 i causeSet = w at g1 f1
    have g2 := (w.showRehome_guards i).trans (State.secondFence_guards _ i)
    have g := g1.trans g2
    exact ⟨(g2.fence _ _ f1).2, (g.state i (by rw [hg, e0]; decide)).trans ((hg ..).trans e0), (g.touches _ _ _ (by decide)).trans ((hg ..).trans p0),
      g.rehomed.trans hh⟩
  exact hu _ rfl rfl

theorem exec_alertN (hi : i < 6) (hs : s.ddrServes i = true) (hr : s.is .DDR_STATUS_REPLAYING i = false) (crc same : Bool) :
    exec (.alertN i crc same) s = .next (
      let n := if same then (s.ddr i).alerts + 1 else 1
      let t := (s.setDdr i { s.ddr i with alerts := n, crc := crc }).on .DDR_STATUS_REPLAYING i
      if 4 ≤ n then t.ddrFail i causeMem else t) :=
  exec_when (i := .alertN i crc same) (s := s) rfl (by rw [hs, hr, decide_eq_true hi]; rfl)

theorem alertN_replays {n : Nat} {crc same : Bool} (hi : i < 6) (hs : s.ddrServes i = true) (hr : s.is .DDR_STATUS_REPLAYING i = false)
    (hn : n = if same then (s.ddr i).alerts + 1 else 1) (h4 : n < 4) : Runs (.alertN i crc same) s (fun t => t.is .DDR_STATUS_REPLAYING i = true ∧
      t.ddr i = { s.ddr i with alerts := n, crc := crc } ∧ t = { s with regs := t.regs, ddrs := t.ddrs }) := by
  subst hn
  exact ⟨_, exec_of (exec_alertN hi hs hr crc same) (if_neg (Nat.not_le.2 h4)), is_on_self .., s.ddr_setDdr i _, rfl⟩

theorem alertN_fails {crc : Bool} (hi : i < 6) (hs : s.ddrServes i = true) (hr : s.is .DDR_STATUS_REPLAYING i = false) (h3 : 3 ≤ (s.ddr i).alerts)
    (hf : s.fenced 6 i = false) : Runs (.alertN i crc true) s (fun t => t.fenced 6 i = true ∧ t.get .DDR_STATUS_STATE i = 4) := by
  refine ⟨_, exec_of (exec_alertN hi hs hr crc true) (if_pos (show 4 ≤ (s.ddr i).alerts + 1 by omega)), ?_⟩
  have ht : Touches [.DDR_STATUS_REPLAYING] s ((s.setDdr i { s.ddr i with alerts := (s.ddr i).alerts + 1, crc := crc }).on .DDR_STATUS_REPLAYING i) :=
    Touches.set (.of_regs rfl) (by decide) _ _ _
  obtain ⟨r1, r2, -⟩ := State.ddrFail_reads hi ((ht.fenced (by decide) 6 i).trans hf) causeMem
  exact ⟨r1, r2⟩

/-- The domain of channel `i` is on and the channel left self-refresh. -/
def State.roused (s : State) (i : Nat) : State := (s.putB .PWR_STATE_ON (4 + i) true 0 3).setDdr i { s.ddr i with asleep := false }

/-- Channel `i` is awake. -/
def State.woken (s : State) (i : Nat) : State :=
  (((s.roused i).showGeom i ((s.roused i).ddr i).geom).set .DDR_STATUS_STATE
    (match s.rehomed with | some k => if k != i && s.dmap.list.contains i then ddrRehomed else ddrUp | none => ddrUp) i).showSlots

def wokenFlds : List Fld := .PWR_STATE_ON :: .DDR_STATUS_STATE :: .DDR_STATUS_SLOT :: geomFlds

theorem State.showSlots_reads (s : State) : (fun t : State => t = { s with regs := t.regs } ∧ Touches [.DDR_STATUS_SLOT] s t) s.showSlots :=
  State.each_keeps (P := fun t => t = { s with regs := t.regs } ∧ Touches [.DDR_STATUS_SLOT] s t) 6 _
    (fun t k ⟨h1, h2⟩ => ⟨by rw [State.set_frame, h1], h2.set (by decide) _ _ _⟩) _ ⟨rfl, .refl _ s⟩

theorem State.woken_reads {s : State} {i : Nat} (hi : i < 6) : (fun t : State => Touches wokenFlds s t ∧
      t.ddr i = { s.ddr i with asleep := false } ∧ bit (t.get .PWR_STATE_ON 0 3) (4 + i) = true ∧
      t.get .DDR_GEOM_GIB i = (s.ddr i).geom.getD 0 0 % 2 ^ Fld.DDR_GEOM_GIB.desc.width ∧ t = { s with regs := t.regs, ddrs := t.ddrs } ∧
      (s.rehomed = none → t.get .DDR_STATUS_STATE i = 2)) (s.woken i) := by
  unfold State.woken
  have h1 : Touches [.PWR_STATE_ON] s (s.roused i) := (Touches.refl _ s).set (by decide) _ _ _
  have b1 : bit ((s.roused i).get .PWR_STATE_ON 0 3) (4 + i) = true := s.bit_putB .PWR_STATE_ON true 0 3 (by rw [ddrWidths.2.2.2.2]; omega)
  have d1 : (s.roused i).ddr i = { s.ddr i with asleep := false } := State.ddr_setDdr ..
  have f1 : s.roused i = { s with regs := (s.roused i).regs, ddrs := (s.roused i).ddrs } := rfl
  have hgeom : ((s.roused i).ddr i).geom = (s.ddr i).geom := by rw [d1]
  rw [hgeom]
  generalize s.roused i = u at h1 b1 d1 f1 ⊢
  obtain ⟨f2, h2, g2, -⟩ := u.showGeom_reads i (s.ddr i).geom
  generalize u.showGeom i (s.ddr i).geom = v at f2 h2 g2 ⊢
  generalize hx : (match s.rehomed with | some k => if k != i && s.dmap.list.contains i then ddrRehomed else ddrUp | none => ddrUp) = x
  have hw : Touches [.DDR_STATUS_STATE] v (v.set .DDR_STATUS_STATE x i) := (Touches.refl _ v).set (by decide) _ _ _
  obtain ⟨f4, h4⟩ := (v.set .DDR_STATUS_STATE x i).showSlots_reads
  have e4 : (v.set .DDR_STATUS_STATE x i).showSlots.get .DDR_STATUS_STATE i = x % 2 ^ 3 :=
    (h4 _ _ _ (by decide)).trans (State.get_set_same ..)
  have fw : (v.set .DDR_STATUS_STATE x i) = { v with regs := (v.set .DDR_STATUS_STATE x i).regs } := rfl
  generalize (v.set .DDR_STATUS_STATE x i).showSlots = t at f4 h4 e4
  generalize v.set .DDR_STATUS_STATE x i = w at hw f4 h4 fw
  refine ⟨((h1.mono (by decide)).trans (h2.mono (by decide))).trans ((hw.mono (by decide)).trans (h4.mono (by decide))), ?_, ?_, ?_, ?_, ?_⟩
  · rw [← d1]
    exact State.ddr_of_ddrs (by rw [f4, fw, f2]) i
  · rw [h4 _ _ _ (by decide), hw _ _ _ (by decide), h2 _ _ _ (by decide)]
    exact b1
  · rw [h4 _ _ _ (by decide), hw _ _ _ (by decide)]
    exact g2
  · rw [f4, fw, f2, f1]
  · intro hn
    rw [hn] at hx
    rw [e4, ← hx]
    rfl

theorem exec_selfRefreshExit {ok : Bool} (hi : i < 6) (ha : (s.ddr i).asleep = true) (hb : s.is .PWR_PSTATE_BUSY = true)
    (hq : s.get .PWR_PSTATE_REQ ≠ 2) (hp : bit (s.get .PWR_REQ_ON 0 3) (4 + i) = true) :
    exec (.selfRefreshExit i ok) s = .next (if ok then s.woken i else (s.woken i).ddrFail i causeDdr) :=
  (exec_when (i := .selfRefreshExit i ok) (s := s) rfl (by rw [ha, hb, hp, decide_eq_true hi, bne_iff_ne.2 hq]; rfl)).trans rfl

theorem selfRefreshExit_fails (hi : i < 6) (ha : (s.ddr i).asleep = true) (hb : s.is .PWR_PSTATE_BUSY = true)
    (hq : s.get .PWR_PSTATE_REQ ≠ 2) (hp : bit (s.get .PWR_REQ_ON 0 3) (4 + i) = true) (hf : s.fenced 6 i = false) :
    Runs (.selfRefreshExit i false) s (fun t => t.fenced 6 i = true ∧ t.get .DDR_STATUS_STATE i = 4) := by
  have ht := (s.woken_reads hi).1
  obtain ⟨r1, r2, -⟩ := State.ddrFail_reads hi ((ht.fenced (by decide) 6 i).trans hf) causeDdr
  exact ⟨_, exec_selfRefreshExit hi ha hb hq hp, r1, r2⟩

/-! ### The sparge and the map -/

/-- The sparge of channel `i` moves to `n`. -/
def State.spargeTo (s : State) (i n pct : Nat) : State := (s.setDdr i { s.ddr i with spg := n }).set .SPG_STATUS_PASS_PCT pct i

/-- Reading burst `x` of channel `i` finds a correctable error. -/
def State.spargeFound (s : State) (i x : Nat) : State :=
  (s.bump .SPG_FOUND_CE 1 i).accessBank ((s.bump .SPG_FOUND_CE 1 i).bankOf i x).1 ((s.bump .SPG_FOUND_CE 1 i).bankOf i x).2

theorem State.sparge_reads (s : State) (i x n pct : Nat) : (fun v : State => v.ddr i = { s.ddr i with spg := n } ∧
      v.get .SPG_STATUS_PASSES i = s.get .SPG_STATUS_PASSES i ∧
      v.get .SPG_FOUND_CE i = min (s.get .SPG_FOUND_CE i + 1) (2 ^ Fld.SPG_FOUND_CE.desc.width - 1) ∧
      v = { s with regs := v.regs, ddrs := v.ddrs, banks := v.banks }) ((s.spargeFound i x).spargeTo i n pct) := by
  unfold State.spargeFound
  generalize (s.bump .SPG_FOUND_CE 1 i).bankOf i x = b
  refine ⟨State.ddr_setDdr .., ?_, ?_, rfl⟩
  · exact (State.get_set_fld _ (by decide) ..).trans (State.get_bump_fld s (f := .SPG_FOUND_CE) (by decide) 1 i 0 i 0)
  · exact (State.get_set_fld _ (by decide) ..).trans (s.get_bump_same .SPG_FOUND_CE 1 i 0)

theorem exec_spargeRead (hi : i < 6) (he : s.is .SPG_CTRL_EN i = true) (hst : s.get .DDR_STATUS_STATE i = 2 ∨ s.get .DDR_STATUS_STATE i = 5)
    (hr : s.is .DDR_STATUS_REPLAYING i = false) {cap n : Nat} (hc : s.get .DDR_GEOM_GIB i * 2 ^ 30 = cap)
    (hn : n = if cap ≤ (s.ddr i).spg + 64 then 0 else (s.ddr i).spg + 64) : exec (.spargeRead i 1) s = .next (
      let v := (s.spargeFound i (s.ddr i).spg).spargeTo i n (n * 100 / max cap 1)
      if n = 0 then v.bump .SPG_STATUS_PASSES 1 i else v) := by
  have hg : (decide (i < 6) && s.is .SPG_CTRL_EN i && (s.get .DDR_STATUS_STATE i == ddrUp || s.get .DDR_STATUS_STATE i == ddrRehomed) &&
      !s.is .DDR_STATUS_REPLAYING i) = true := by
    rw [he, hr, decide_eq_true hi]
    rcases hst with h | h <;> rw [h] <;> rfl
  refine exec_of (exec_when (i := .spargeRead i 1) (s := s) rfl hg) ?_
  dsimp only
  rw [hc, ← hn, if_pos rfl, if_neg (show ¬ (1 = 2) by decide)]
  rfl

theorem spargeRead_runs {n : Nat} (hi : i < 6) (he : s.is .SPG_CTRL_EN i = true) (hst : s.get .DDR_STATUS_STATE i = 2 ∨ s.get .DDR_STATUS_STATE i = 5)
    (hr : s.is .DDR_STATUS_REPLAYING i = false) (hn : n = if s.get .DDR_GEOM_GIB i * 2 ^ 30 ≤ (s.ddr i).spg + 64 then 0 else (s.ddr i).spg + 64) :
    Runs (.spargeRead i 1) s (fun t => t.ddr i = { s.ddr i with spg := n } ∧
      t.get .SPG_FOUND_CE i = min (s.get .SPG_FOUND_CE i + 1) (2 ^ Fld.SPG_FOUND_CE.desc.width - 1) ∧
      t.get .SPG_STATUS_PASSES i = (if n = 0 then min (s.get .SPG_STATUS_PASSES i + 1) (2 ^ Fld.SPG_STATUS_PASSES.desc.width - 1)
        else s.get .SPG_STATUS_PASSES i) ∧
      t = { s with regs := t.regs, ddrs := t.ddrs, banks := t.banks }) := by
  obtain ⟨cap, hc⟩ : ∃ cap, s.get .DDR_GEOM_GIB i * 2 ^ 30 = cap := ⟨_, rfl⟩
  rw [hc] at hn
  refine ⟨_, exec_spargeRead hi he hst hr hc hn, ?_⟩
  obtain ⟨h1, h2, h3, h4⟩ := s.sparge_reads i (s.ddr i).spg n (n * 100 / max cap 1)
  generalize (s.spargeFound i (s.ddr i).spg).spargeTo i n (n * 100 / max cap 1) = v at h1 h2 h3 h4 ⊢
  dsimp only
  split_ifs
  · exact ⟨h1, (State.get_bump_fld _ (by decide) ..).trans h3, (State.get_bump_same ..).trans (by rw [h2]), by rw [State.bump_eq, State.set_frame, h4]⟩
  · exact ⟨h1, h3, h2, h4⟩

theorem DMap.place_back (m : DMap) {k : Nat} (x : Nat) (hk : k < m.list.length) (hg : 0 < m.grain) : m.place (m.back k x) = (k, x) := by
  unfold DMap.place DMap.back
  have hdiv : ((x / m.grain * m.list.length + k) * m.grain + x % m.grain) / m.grain = x / m.grain * m.list.length + k := by
    rw [Nat.mul_comm _ m.grain, Nat.mul_add_div hg, Nat.div_eq_of_lt (Nat.mod_lt x hg), Nat.add_zero]
  have hmod : ((x / m.grain * m.list.length + k) * m.grain + x % m.grain) % m.grain = x % m.grain := by
    rw [Nat.mul_comm _ m.grain, Nat.mul_add_mod, Nat.mod_mod]
  have hlow : (x / m.grain * m.list.length + k) % m.list.length = k := by
    rw [Nat.mul_comm, Nat.mul_add_mod, Nat.mod_eq_of_lt hk]
  have hhigh : (x / m.grain * m.list.length + k) / m.list.length = x / m.grain := by
    rw [Nat.mul_comm, Nat.mul_add_div (by omega), Nat.div_eq_of_lt hk, Nat.add_zero]
  dsimp only
  rw [hdiv, hmod, hlow, hhigh, Nat.div_add_mod']

end

/-- Settles O51: it holds. A channel that fails is fenced and keeps DRAM (`Guards`), an access moves the rows of the banks only (`Rows`), a refresh
treats each channel by itself (`Sole`), and a device address is found again from its slot and its place there (`DMap.place_back`). -/
theorem dramControllers : Obligations.DramControllers := by
  unfold Obligations.DramControllers
  refine ⟨?copyIn, ?copyOut, ?readBad, ?read, ?write, ?writeBad, ?absent, ?train, ?refresh, ?temp, ?fail, ?evacuated, ?alert, ?alertFail, ?replayed,
    ?wake, ?wakeFail, ?sparge, ?spargeCtrl, fun m k x hk hg => m.place_back x hk hg⟩
  case copyIn =>
    rintro s d h ha h1 h0 hm rfl
    exact ⟨_, copy_write ha h1 h0 hm, rfl⟩
  case copyOut =>
    rintro s d h ha h1 h0 hm hb rfl
    exact copy_read ha h1 h0 hm hb
  case readBad =>
    exact fun s a n h1 h2 hl hd => ⟨_, exec_of (exec_bar4 (w := false) h1 h2 hl) ((if_pos (by rw [if_neg Bool.false_ne_true, hd]; rfl)).trans rfl),
      rfl, rfl, rfl⟩
  case read => exact fun s a n h1 h2 hl hd => bar4_read h1 h2 hl hd
  case write =>
    intro s a b h1 h2 hl hd
    obtain ⟨r1, r2, r3⟩ := State.dramWr_reads hd
    exact ⟨_, exec_of (exec_bar4 (w := true) (n := 0) h1 h2 hl) ((if_neg (by rw [if_pos rfl, hd]; decide)).trans rfl), r1, r2, r3⟩
  case writeBad =>
    exact fun s a b h1 h2 hl hd => ⟨_, exec_of (exec_bar4 (w := true) (n := 0) h1 h2 hl) ((if_pos (by rw [if_pos rfl, hd]; rfl)).trans rfl), rfl⟩
  case absent => exact fun s i ok hi h => ddrTrain_absent hi h ok
  case train => exact fun s i j x hi h hj hji hs hx => ddrTrain_runs hi h hj hji hs hx
  case refresh =>
    intro s
    obtain ⟨h1, h2, -, h4⟩ := each_refreshCh ((List.range 6).any fun j => s.ddrServes j && decide (85 < s.get .DDR_STATUS_TEMP j)) s 6
    refine ⟨_, exec_refresh s, h1, h2, fun i hi hv => ?_⟩
    obtain ⟨r1, r2, r3⟩ := h4 i hi hv
    exact ⟨r1, r2, fun hr k hk => (r3 hr k hk).openRow⟩
  case temp =>
    intro s i g hi hg hs
    have he : exec (.dimmTempRead i g) s = .next (if 95 < g then ((s.set .DDR_STATUS_TEMP g i).on .DDR_STATUS_HOT_ALARM i).telEvent 0x0004 i
      else s.set .DDR_STATUS_TEMP g i) := exec_when (i := .dimmTempRead i g) (s := s) rfl (by rw [hs, decide_eq_true ⟨hi, hg⟩]; rfl)
    refine ⟨_, he, ?_⟩
    split_ifs with h95
    · have ht := (State.telEvent_reports ((s.set .DDR_STATUS_TEMP g i).on .DDR_STATUS_HOT_ALARM i) 0x0004 i).touches
      exact ⟨(ht _ _ _ (by decide)).trans ((State.get_set_fld _ (by decide) ..).trans (State.get_set_same ..)), fun h => absurd h95 (Nat.not_lt.2 h),
        fun _ => (congrArg (· == 1) (ht _ _ _ (by decide))).trans (is_on_self ..)⟩
    · exact ⟨State.get_set_same .., fun _ => rfl, fun h => absurd h h95⟩
  case fail =>
    exact fun s i hi hs hf => ⟨_, exec_when (i := .ddrChannelFail i) (s := s) rfl (by rw [hs, decide_eq_true hi]; rfl), rfl,
      State.ddrFail_reads hi hf causeDdr⟩
  case evacuated => exact fun s i hi h => evacuationDone_runs hi h
  case alert => exact fun s i n crc same hi hs hr hn h4 => alertN_replays hi hs hr hn h4
  case alertFail => exact fun s i crc hi hs hr h3 hf => alertN_fails hi hs hr h3 hf
  case replayed => exact fun s i hi h => alertNHigh_runs hi h
  case wake =>
    intro s i hi ha hb hq hp hn
    obtain ⟨-, r2, r3, r4, r5, r6⟩ := s.woken_reads hi
    exact ⟨_, exec_selfRefreshExit hi ha hb hq hp, r6 hn, r2, r3, r4, r5⟩
  case wakeFail => exact fun s i hi ha hb hq hp hf => selfRefreshExit_fails hi ha hb hq hp hf
  case sparge => exact fun s i n hi he hst hr hn => spargeRead_runs hi he hst hr hn
  case spargeCtrl =>
    intro s i v hi hr
    have he : exec (.spgCtrlWrite i v) s = .next (if v % 256 = 0 then s.set .SPG_CTRL_EN (bits v 31 1) i
      else (s.set .SPG_CTRL_EN (bits v 31 1) i).set .SPG_CTRL_PERIOD_H (v % 256) i) := exec_reach (i := .spgCtrlWrite i v) (s := s) rfl hr
    have hen : (s.set .SPG_CTRL_EN (bits v 31 1) i).is .SPG_CTRL_EN i = v.testBit 31 := by
      rw [State.is, State.get_set_same]
      have hb := Nat.testBit_eq_decide_div_mod_eq (x := v) (i := 31)
      rw [hb, bits, Nat.mod_mod_of_dvd _ (by decide)]
      rfl
    refine ⟨_, he, ?_⟩
    split_ifs
    · exact ⟨(onlyRegs_set ..).mono fun f j k h => ⟨.inl h.1, h.2⟩, hen, State.get_set_fld _ (by decide) ..⟩
    · refine ⟨((OnlyRegs.refl s _).set ⟨.inl rfl, rfl, rfl⟩ _).set ⟨.inr rfl, rfl, rfl⟩ _,
        (congrArg (· == 1) (State.get_set_fld _ (by decide) ..)).trans hen, State.get_set_fits _ _ _ (Nat.mod_eq_of_lt ?_)⟩
      rw [ddrWidths.2.2.2.1]
      omega

end Sys2Proof.Machine
end

section
/-! PROOF. Booting, the Cask and hand-over of firmware. -/

namespace Sys2Proof.Machine

-- One lemma after the other: elaborated side by side, they ask for more threads than the compile may have.
set_option Elab.async false

/-! ## Booting -/

theorem fwWidths : Fld.FLS_BOOT_SRC.desc.width = 2 ∧ Fld.FLS_BOOT_TRIES.desc.width = 2 ∧ Fld.FLS_BOOT_STATE.desc.width = 2 ∧
    Fld.FLS_BOOT_CAUSE.desc.width = 4 ∧ Fld.CASK_STATUS_STATE.desc.width = 3 ∧ Fld.FLS_XIP_FLA_EN.desc.width = 1 ∧
    Fld.FLS_XIP_FLB_EN.desc.width = 1 := by decide

/-- The fields that the boot ROM writes. -/
def bootFlds : List Fld := [.FLS_BOOT_SRC, .FLS_FW_VER_VERSION, .FLS_BOOT_WAIT_HOST, .FLS_STATUS_READY, .FLS_XIP_FLA_EN, .FLS_XIP_FLB_EN]

/-- Booting changes the firmware and the fields `fs`. -/
structure Boots (fs : List Fld) (s t : State) : Prop where
  frame : t = { s with regs := t.regs, fw := t.fw }
  touches : Touches fs s t

namespace Boots
variable {fs gs : List Fld} {s t u : State}

theorem refl (fs : List Fld) (s : State) : Boots fs s s := ⟨rfl, .refl _ s⟩

theorem trans (h : Boots fs s t) (h' : Boots fs t u) : Boots fs s u := ⟨by rw [h'.frame, h.frame], h.touches.trans h'.touches⟩

theorem mono (h : Boots fs s t) (hs : fs ⊆ gs) : Boots gs s t := ⟨h.frame, h.touches.mono hs⟩

theorem set (h : Boots fs s t) {f : Fld} (hf : f ∈ fs) (v i k : Nat) : Boots fs s (t.set f v i k) :=
  ⟨by rw [State.set_frame, h.frame], h.touches.set hf v i k⟩

theorem get (h : Boots fs s t) {f : Fld} (hf : f ∉ fs) (i k : Nat) : t.get f i k = s.get f i k := h.touches f i k hf

end Boots

/-- A signature is judged by the roots, the customer's lock and the minimum level. -/
theorem Touches.fwOk {fs : List Fld} {s t : State} (h : Touches fs s t) (h1 : .MASH_OEM_OEM_ID ∉ fs) (h2 : .MASH_ROLLBACK_ROOT_REVOKED ∉ fs)
    (h3 : .FLS_BOOT_FW_ROLLBACK ∉ fs) (b : List Byte) : t.fwOk b = s.fwOk b := by
  have hc : ∀ c, t.certOk c = s.certOk c := fun c => by
    unfold State.certOk
    rw [h _ _ _ h1, h _ _ _ h2]
  unfold State.fwOk State.signedOk
  simp only [hc, h _ _ _ h3]

theorem State.setWindow_boots {fs : List Fld} (s : State) (a : Nat) (on : Bool) (h1 : .FLS_XIP_FLA_EN ∈ fs) (h2 : .FLS_XIP_FLB_EN ∈ fs) :
    Boots fs s (s.setWindow a on) := by
  unfold State.setWindow
  split_ifs
  · exact (Boots.refl fs s).set h1 _ _ _
  · exact (Boots.refl fs s).set h2 _ _ _
  · exact .refl fs s

theorem is_set_b2n (s : State) (f : Fld) (b : Bool) (i k : Nat) (hf : 0 < f.desc.width := by decide) : (s.set f (b2n b) i k).is f i k = b := by
  have hb : b2n b < 2 ^ f.desc.width := Nat.lt_of_lt_of_le (by cases b <;> decide : b2n b < 2 ^ 1) (Nat.pow_le_pow_right (by decide) hf)
  rw [State.is, State.get_set_fits _ _ _ (Nat.mod_eq_of_lt hb)]
  cases b <;> rfl

/-- Both windows set. -/
theorem State.setWindows_reads (s : State) (a b : Bool) : (fun t : State => Boots [.FLS_XIP_FLA_EN, .FLS_XIP_FLB_EN] s t ∧ t.fw = s.fw ∧
      t.is .FLS_XIP_FLA_EN = a ∧ t.is .FLS_XIP_FLB_EN = b) ((s.setWindow 0 a).setWindow 1 b) := by
  refine ⟨(s.setWindow_boots 0 a (by decide) (by decide)).trans (State.setWindow_boots _ 1 b (by decide) (by decide)), rfl, ?_, ?_⟩
  · exact (congrArg (· == 1) (State.get_set_fld (s.setWindow 0 a) (f := .FLS_XIP_FLB_EN) (g := .FLS_XIP_FLA_EN) (by decide) (b2n b) 0 0 0 0)).trans
      (is_set_b2n s .FLS_XIP_FLA_EN a 0 0)
  · exact is_set_b2n (s.setWindow 0 a) .FLS_XIP_FLB_EN b 0 0

theorem State.takeOver_boots (s : State) (src : Nat) (b m : List Byte) : Boots bootFlds s (s.takeOver src b m) := by
  unfold State.takeOver
  extract_lets s1 s2 s3
  have h1 : Boots bootFlds s s1 := ⟨rfl, .of_regs rfl⟩
  have h2 : Boots bootFlds s s2 := (h1.set (by decide) _ _ _).set (by decide) _ _ _
  have h3 : Boots bootFlds s s3 := (h2.set (f := .FLS_BOOT_WAIT_HOST) (by decide) _ _ _).set (f := .FLS_STATUS_READY) (by decide) _ _ _
  generalize s3 = v at h3
  exact (h3.trans (v.setWindow_boots 0 _ (by decide) (by decide))).trans (State.setWindow_boots _ 1 _ (by decide) (by decide))

theorem State.takeOver_reads (s : State) {src : Nat} (b m : List Byte) (hs : src < 4) : (fun t : State =>
      t.is .FLS_STATUS_READY = true ∧ t.get .FLS_BOOT_SRC = src ∧ t.is .FLS_BOOT_WAIT_HOST = false ∧ t.fw.image = b ∧ t.fw.mash = m ∧
      t.is .FLS_XIP_FLA_EN = (src == 0) ∧ t.is .FLS_XIP_FLB_EN = (src == 1)) (s.takeOver src b m) := by
  unfold State.takeOver
  extract_lets s1 s2 s3
  have e2 : s2.get .FLS_BOOT_SRC = src := (State.get_set_fld _ (by decide) ..).trans (State.get_set_fits _ _ _ (Nat.mod_eq_of_lt hs))
  have e3 : s3.get .FLS_BOOT_SRC = src := (State.get_set_fld _ (by decide) ..).trans ((State.get_set_fld _ (by decide) ..).trans e2)
  have r3 : s3.is .FLS_STATUS_READY = true := is_on_self _
  have w3 : s3.is .FLS_BOOT_WAIT_HOST = false :=
    (congrArg (· == 1) (State.get_set_fld _ (f := .FLS_STATUS_READY) (by decide) ..)).trans (State.is_off_same ..)
  have f3 : s3.fw.image = b ∧ s3.fw.mash = m := ⟨rfl, rfl⟩
  generalize s3 = v at e3 r3 w3 f3
  obtain ⟨k1, k2, k3, k4⟩ := v.setWindows_reads (src == 0) (src == 1)
  generalize (v.setWindow 0 (src == 0)).setWindow 1 (src == 1) = t at k1 k2 k3 k4
  refine ⟨(congrArg (· == 1) (k1.get (by decide) 0 0)).trans r3, (k1.get (by decide) 0 0).trans e3,
    (congrArg (· == 1) (k1.get (by decide) 0 0)).trans w3, ?_, ?_, k3, k4⟩
  · rw [k2]
    exact f3.1
  · rw [k2]
    exact f3.2

theorem State.bootFrom_boots (s : State) (a : Nat) : Boots bootFlds s (s.bootFrom a) := by
  unfold State.bootFrom
  extract_lets b c
  split_ifs
  · exact s.takeOver_boots ..
  · exact s.takeOver_boots ..
  · exact (Boots.refl _ s).set (f := .FLS_BOOT_WAIT_HOST) (by decide) _ _ _

/-- The arrays present are shown. -/
def State.present (s : State) : State := s.set .FLS_STATUS_PRESENT (b2n (s.arrayUsed 0) + 2 * b2n (s.arrayUsed 1))

theorem exec_bootRom {s : State} (h1 : s.is .RST_STATUS_DONE = true) (h2 : s.powered 130 = true) (h3 : s.is .FLS_STATUS_READY = false) :
    exec .bootRom s = .next (
      if s.get .RST_STRAPS_BOOT_SRC = 1 then s.present.on .FLS_BOOT_WAIT_HOST
      else if s.get .RST_STRAPS_BOOT_SRC = 0 then
        State.set { s.present with fw := { due := s.present.fw.due } } .FLS_BOOT_WAIT_HOST
          (b2n ((List.range 6).all (fun i => !s.present.ddrAlive i && s.present.get .DDR_STATUS_STATE i != ddrTraining)))
      else match s.present.bootPointer with
      | some _ => s.present.bootByPointer
      | none => s.present.bootFrom (3 - s.get .RST_STRAPS_BOOT_SRC)) :=
  exec_when (i := .bootRom) (s := s) rfl (by rw [h1, h2, h3]; rfl)

theorem State.present_boots (s : State) : Boots [.FLS_STATUS_PRESENT] s s.present := (Boots.refl _ s).set (by decide) _ _ _

section
variable {s : State}

theorem bootRom_host (h1 : s.is .RST_STATUS_DONE = true) (h2 : s.powered 130 = true) (h3 : s.is .FLS_STATUS_READY = false)
    (hb : s.get .RST_STRAPS_BOOT_SRC = 1) : Runs .bootRom s (fun t => t.is .FLS_BOOT_WAIT_HOST = true ∧ t.is .FLS_STATUS_READY = false ∧
      OnlyRegs s t (fun f i k => (f = .FLS_STATUS_PRESENT ∨ f = .FLS_BOOT_WAIT_HOST) ∧ i = 0 ∧ k = 0)) := by
  refine ⟨_, exec_of (exec_bootRom h1 h2 h3) (if_pos hb), is_on_self _, ?_, ?_⟩
  · exact (congrArg (· == 1) ((State.get_set_fld s.present (f := .FLS_BOOT_WAIT_HOST) (by decide) 1 0 0 0 0).trans
      (State.get_set_fld s (f := .FLS_STATUS_PRESENT) (by decide) _ 0 0 0 0))).trans h3
  · exact ((OnlyRegs.refl s _).set ⟨.inl rfl, rfl, rfl⟩ _).set ⟨.inr rfl, rfl, rfl⟩ _

theorem bootRom_array {a : Nat} (h1 : s.is .RST_STATUS_DONE = true) (h2 : s.powered 130 = true) (h3 : s.is .FLS_STATUS_READY = false)
    (hb : 2 ≤ s.get .RST_STRAPS_BOOT_SRC) (hp : s.bootPointer = none) (ha : a = 3 - s.get .RST_STRAPS_BOOT_SRC)
    (hf : s.fwOk (s.arrayFw a) = true) : Runs .bootRom s (fun t => t.is .FLS_STATUS_READY = true ∧ t.get .FLS_BOOT_SRC = a ∧
      t.is .FLS_BOOT_WAIT_HOST = false ∧ t.fw.image = s.arrayFw a ∧ t.fw.mash = s.arrayMash a ∧ t.is .FLS_XIP_FLA_EN = (a == 0) ∧
      t.is .FLS_XIP_FLB_EN = (a == 1) ∧ t = { s with regs := t.regs, fw := t.fw }) := by
  have hu := s.present_boots
  have hfw : s.present.arrayFw a = s.arrayFw a := rfl
  have hmash : s.present.arrayMash a = s.arrayMash a := rfl
  have hptr : s.present.bootPointer = none := hp
  have he := exec_bootRom h1 h2 h3
  rw [if_neg (by omega), if_neg (by omega), hptr, ← ha] at he
  generalize s.present = u at he hu hfw hmash
  have hx : u.bootFrom a = u.takeOver a (s.arrayFw a) (s.arrayMash a) := by
    unfold State.bootFrom
    rw [hfw, hmash]
    exact if_pos ((hu.touches.fwOk (by decide) (by decide) (by decide) _).trans hf)
  obtain ⟨r1, r2, r3, r4, r5, r6, r7⟩ := u.takeOver_reads (src := a) (s.arrayFw a) (s.arrayMash a) (by omega)
  exact ⟨_, exec_of he hx, r1, r2, r3, r4, r5, r6, r7, (hu.mono (gs := .FLS_STATUS_PRESENT :: bootFlds) (by decide)).trans
    ((u.takeOver_boots ..).mono (by decide)) |>.frame⟩

/-- The pointer's state shown. -/
def State.pointed (s : State) : State := s.present.set .FLS_BOOT_STATE s.ptrState

theorem exec_bootRom_trial {r : CaskRec} (h1 : s.is .RST_STATUS_DONE = true) (h2 : s.powered 130 = true) (h3 : s.is .FLS_STATUS_READY = false)
    (hb : 2 ≤ s.get .RST_STRAPS_BOOT_SRC) (hp : s.bootPointer = some r) (ht : s.ptrState = 1) : exec .bootRom s = .next (
      if s.pointed.get .FLS_BOOT_TRIES < 2 then (s.pointed.bump .FLS_BOOT_TRIES).bootFrom s.ptrActive
      else ((s.pointed.on .FLS_BOOT_FELL_BACK).set .FLS_BOOT_CAUSE 5).bootFrom s.ptrPrev) := by
  have hptr : s.present.bootPointer = some r := hp
  have he := exec_bootRom h1 h2 h3
  rw [if_neg (by omega), if_neg (by omega), hptr] at he
  have hact : s.present.ptrActive = s.ptrActive := by
    unfold State.ptrActive
    rw [hptr, hp]
  have hprev : s.present.ptrPrev = s.ptrPrev := by
    unfold State.ptrPrev
    rw [hptr, hp]
  have hst : s.present.ptrState = s.ptrState := rfl
  refine exec_of he ?_
  change s.present.bootByPointer = _
  unfold State.bootByPointer
  dsimp only
  rw [hact, hprev, hst, show (s.present.set .FLS_BOOT_STATE s.ptrState).ptrState = 1 from ht]
  rfl

theorem pointed_reads (ht : s.ptrState = 1) : (fun t : State => Boots [.FLS_STATUS_PRESENT, .FLS_BOOT_STATE] s t ∧ t.get .FLS_BOOT_STATE = 1)
    s.pointed :=
  ⟨(s.present_boots.mono (by decide)).set (by decide) _ _ _, by
    unfold State.pointed
    rw [State.get_set_fits _ _ _ (Nat.mod_eq_of_lt (by rw [ht]; decide)), ht]⟩

def trialFlds : List Fld := [.FLS_STATUS_PRESENT, .FLS_BOOT_STATE, .FLS_BOOT_TRIES, .FLS_BOOT_FELL_BACK, .FLS_BOOT_CAUSE] ++ bootFlds

theorem bootRom_try {r : CaskRec} (h1 : s.is .RST_STATUS_DONE = true) (h2 : s.powered 130 = true) (h3 : s.is .FLS_STATUS_READY = false)
    (hb : 2 ≤ s.get .RST_STRAPS_BOOT_SRC) (hp : s.bootPointer = some r) (ht : s.ptrState = 1) (hn : s.get .FLS_BOOT_TRIES < 2) :
    Runs .bootRom s (fun t => t.get .FLS_BOOT_TRIES = s.get .FLS_BOOT_TRIES + 1 ∧ t.get .FLS_BOOT_STATE = 1 ∧
      t = { s with regs := t.regs, fw := t.fw }) := by
  obtain ⟨q1, q2⟩ := pointed_reads ht
  have he := exec_bootRom_trial h1 h2 h3 hb hp ht
  generalize s.pointed = u at he q1 q2
  have htries : u.get .FLS_BOOT_TRIES = s.get .FLS_BOOT_TRIES := q1.get (by decide) 0 0
  have hx := (u.bump .FLS_BOOT_TRIES).bootFrom_boots s.ptrActive
  refine ⟨_, exec_of he (if_pos (by rw [htries]; exact hn)), ?_, ?_, ?_⟩
  · rw [hx.get (by decide), State.get_bump_same, htries, fwWidths.2.1]
    omega
  · rw [hx.get (by decide), State.get_bump_fld _ (by decide), q2]
  · exact (((q1.mono (gs := trialFlds) (by decide)).set (f := .FLS_BOOT_TRIES) (by decide) _ _ _).trans (hx.mono (by decide))).frame

theorem bootRom_fallBack {r : CaskRec} (h1 : s.is .RST_STATUS_DONE = true) (h2 : s.powered 130 = true) (h3 : s.is .FLS_STATUS_READY = false)
    (hb : 2 ≤ s.get .RST_STRAPS_BOOT_SRC) (hp : s.bootPointer = some r) (ht : s.ptrState = 1) (hn : 2 ≤ s.get .FLS_BOOT_TRIES) :
    Runs .bootRom s (fun t => t.is .FLS_BOOT_FELL_BACK = true ∧ t.get .FLS_BOOT_CAUSE = 5 ∧ t = { s with regs := t.regs, fw := t.fw }) := by
  obtain ⟨q1, -⟩ := pointed_reads ht
  have he := exec_bootRom_trial h1 h2 h3 hb hp ht
  generalize s.pointed = u at he q1
  have htries : u.get .FLS_BOOT_TRIES = s.get .FLS_BOOT_TRIES := q1.get (by decide) 0 0
  have hx := ((u.on .FLS_BOOT_FELL_BACK).set .FLS_BOOT_CAUSE 5).bootFrom_boots s.ptrPrev
  refine ⟨_, exec_of he (if_neg (by rw [htries]; omega)), ?_, ?_, ?_⟩
  · rw [State.is, hx.get (by decide), State.get_set_fld _ (by decide)]
    exact is_on_self u
  · rw [hx.get (by decide)]
    exact State.get_set_fits _ _ _ rfl
  · exact ((((q1.mono (gs := trialFlds) (by decide)).set (f := .FLS_BOOT_FELL_BACK) (by decide) _ _ _).set (f := .FLS_BOOT_CAUSE)
      (by decide) _ _ _).trans (hx.mono (by decide))).frame

/-! ### Firmware from the host and over Wort -/

theorem Boots.sameDram {fs : List Fld} {t : State} (h : Boots fs s t) (h1 : .FENCE_MAP_UNITS ∉ fs) (h2 : .DDR_EVAC_UNPLANNED ∉ fs) : SameDram s t where
  fenced := h.touches.fenced h1
  unplanned k := congrArg (· == 1) (h.touches _ _ _ h2)
  dmap := by rw [h.frame]; rfl
  ddr k := by rw [h.frame]; rfl
  rehomed := by rw [h.frame]
  poison := by rw [h.frame]

theorem hostLoad_runs {n len : Nat} (hr : s.reachable .flash 0 = true) (ho : s.hostLoadOpen = true) (hn : n = s.get .FLS_HOSTLOAD_FW_LEN)
    (hmax : n ≤ fwMax) (h0 : n ≠ 0) (hl : len ≠ 0) (hlen : len ≤ 0x10000000) (hd1 : s.dramOk 0 n = true) (hp1 : s.dramPoisoned 0 n = false)
    (hd2 : s.dramOk 0x10000000 len = true) (hp2 : s.dramPoisoned 0x10000000 len = false) (hf : s.fwOk (Memory.rds s.dram 0 n) = true) :
    Runs (.flsHostloadWrite len) s (fun t => t.is .FLS_STATUS_READY = true ∧ t.get .FLS_BOOT_SRC = 2 ∧ t.fw.image = Memory.rds s.dram 0 n ∧
      t.fw.mash = Memory.rds s.dram 0x10000000 len ∧ t = { s with regs := t.regs, fw := t.fw }) := by
  have hu : Boots [.FLS_HOSTLOAD_MASH_LEN] s (s.set .FLS_HOSTLOAD_MASH_LEN len) := (Boots.refl _ s).set (by decide) _ _ _
  have hd : (s.set .FLS_HOSTLOAD_MASH_LEN len).dram = s.dram := rfl
  have he := exec_reach (i := .flsHostloadWrite len) (s := s) rfl hr
  generalize hv : s.set .FLS_HOSTLOAD_MASH_LEN len = u at hu hd
  have hsame := hu.sameDram (by decide) (by decide)
  have hopen : u.hostLoadOpen = true := by
    rw [← ho, State.hostLoadOpen, State.hostLoadOpen, State.is, State.is, State.is, State.powered, hu.get (by decide), hu.get (by decide),
      hu.get (by decide), hu.get (by decide), hu.get (by decide)]
    rfl
  have hn' : u.get .FLS_HOSTLOAD_FW_LEN = n := (hu.get (by decide) 0 0).trans hn.symm
  have hread1 : (if u.dramOk 0 n && !u.dramPoisoned 0 n then Memory.rds u.dram 0 n else []) = Memory.rds s.dram 0 n := by
    rw [hsame.dramOk, hsame.dramPoisoned, hd1, hp1, hd]
    rfl
  have hread2 : (if u.dramOk 0x10000000 len && !u.dramPoisoned 0x10000000 len then Memory.rds u.dram 0x10000000 len else []) =
      Memory.rds s.dram 0x10000000 len := by
    rw [hsame.dramOk, hsame.dramPoisoned, hd2, hp2, hd]
    rfl
  have hx : s.hostLoad len = u.takeOver 2 (Memory.rds s.dram 0 n) (Memory.rds s.dram 0x10000000 len) := by
    unfold State.hostLoad
    rw [hv]
    refine (State.when_of u _ hopen).trans ?_
    dsimp only
    rw [hn', if_pos hmax, if_pos hlen, hread1, hread2, if_neg]
    rw [hu.touches.fwOk (by decide) (by decide) (by decide), hf]
    simp [h0, hl]
  obtain ⟨r1, r2, -, r4, r5, -⟩ := u.takeOver_reads (src := 2) (Memory.rds s.dram 0 n) (Memory.rds s.dram 0x10000000 len) (by decide)
  exact ⟨_, exec_of he hx, r1, r2, r4, r5, ((hu.mono (gs := .FLS_HOSTLOAD_MASH_LEN :: bootFlds) (by decide)).trans
    ((u.takeOver_boots ..).mono (by decide))).frame⟩

theorem exec_wortImageLoad {p : Nat} {mash : Bool} (bs : List Byte) (last : Bool) (hp : p < 4) (hup : s.wortUp p = true)
    (h1 : s.is .RST_STATUS_DONE = true) (h2 : s.powered 130 = true) (h3 : s.is .FLS_STATUS_READY = false) (h4 : s.get .RST_STRAPS_BOOT_SRC = 0)
    (h5 : s.is .FLS_BOOT_WAIT_HOST = false) (h6 : s.fw.wortFrom = none ∨ s.fw.wortFrom = some p) (hm : mash = s.fw.wortDone)
    (hd : ∃ i, i < 6 ∧ s.ddrAlive i = true) : exec (.wortImageLoad p mash bs last) s = .next (
      if !mash then { s with fw := { s.fw with wortFrom := some p, wortFw := s.fw.wortFw ++ bs, wortDone := last } }
      else
        let u : State := { s with fw := { s.fw with wortFrom := some p, wortMash := s.fw.wortMash ++ bs } }
        if !last then u
        else if u.fwOk s.fw.wortFw then u.takeOver 3 s.fw.wortFw (s.fw.wortMash ++ bs)
        else State.on { u with fw := { due := s.fw.due } } .FLS_BOOT_WAIT_HOST) := by
  have hfrom : (s.fw.wortFrom.getD p == p) = true := by
    rw [beq_iff_eq]
    rcases h6 with h | h
    · rw [h]; rfl
    · rw [h]; rfl
  have hany : (List.range 6).any s.ddrAlive = true := by
    obtain ⟨i, hi, ha⟩ := hd
    exact List.any_eq_true.2 ⟨i, List.mem_range.2 hi, ha⟩
  refine exec_when (i := .wortImageLoad p mash bs last) (s := s) rfl ?_
  rw [hup, h1, h2, h3, h4, h5, hfrom, hany, hm, decide_eq_true hp, beq_self_eq_true, beq_self_eq_true]
  rfl

end

/-! ## Records of the Cask -/

/-- Records are written to the Cask, or wait for an array. -/
structure Files (s t : State) : Prop where
  frame : t = { s with regs := t.regs, cask := t.cask, fw := { s.fw with due := t.fw.due } }
  touches : Touches caskFlds s t
  grows : ∀ r ∈ s.cask, r ∈ t.cask

namespace Files
variable {s t u : State}

theorem refl (s : State) : Files s s := ⟨rfl, .refl _ s, fun _ h => h⟩

theorem trans (h : Files s t) (h' : Files t u) : Files s u :=
  ⟨by rw [h'.frame, h.frame], h.touches.trans h'.touches, fun r hr => h'.grows r (h.grows r hr)⟩

theorem get (h : Files s t) {f : Fld} (hf : f ∉ caskFlds) (i k : Nat) : t.get f i k = s.get f i k := h.touches f i k hf

theorem is (h : Files s t) {f : Fld} (hf : f ∉ caskFlds) (i k : Nat) : t.is f i k = s.is f i k := congrArg (· == 1) (h.get hf i k)

end Files

theorem State.caskAppend_files (s : State) (a kind schema key : Nat) (data : List Byte) : Files s (s.caskAppend a kind schema key data) := by
  unfold State.caskAppend
  extract_lets r
  split
  · exact .refl s
  · next k _ =>
    have h1 : Files s { s with cask := s.cask ++ [{ r with sector := k }] } := ⟨rfl, .of_regs rfl, fun _ h => List.mem_append_left _ h⟩
    exact h1.trans ⟨by rw [State.showWear_frame], State.showWear_touches _, fun x h => by rw [State.showWear_frame]; exact h⟩

theorem State.caskPut_files (s : State) (kind schema key : Nat) (data : List Byte) : Files s (s.caskPut kind schema key data) := by
  unfold State.caskPut
  split_ifs
  · exact .refl s
  · split
    · exact s.caskAppend_files ..
    · exact ⟨rfl, Touches.bump (f := .CASK_STATUS_DEFERRED) (.of_regs rfl) (by decide) _ _ _, fun _ h => h⟩

theorem State.caskFlush_files (s : State) : Files s s.caskFlush := by
  unfold State.caskFlush
  split
  · exact .refl s
  · next a _ =>
    have h1 : Files s { s with fw := { s.fw with due := [] } } := ⟨rfl, .of_regs rfl, fun _ h => h⟩
    exact List.foldlRecOn (motive := fun t => Files s t) _ _ h1 fun t ht r _ => ht.trans (t.caskAppend_files ..)

/-- With both windows open no array can be written. -/
theorem State.caskFlush_open {s : State} (h1 : s.is .FLS_XIP_FLA_EN = true) (h2 : s.is .FLS_XIP_FLB_EN = true) : s.caskFlush = s := by
  have hw : ∀ a, s.window a = true := fun a => by
    unfold State.window
    split_ifs <;> assumption
  have hl : [0, 1].filter (fun a => s.arrayUsed a && !s.window a) = [] := by
    rw [List.filter_eq_nil_iff]
    intro a _
    rw [hw]
    simp
  have ha : s.caskArray = none := by
    unfold State.caskArray
    rw [hl]
  unfold State.caskFlush
  rw [ha]

/-- An erased sector holds no record. -/
theorem State.eraseSector_cask {s : State} {a k : Nat} (h : s.sectorErased a k = true) : (s.eraseSector a k).cask = s.cask := by
  have hs : s.sectorFill a k = 0 := beq_iff_eq.1 h
  refine List.filter_eq_self.2 fun r hr => ?_
  rw [Bool.not_eq_true']
  by_contra hc
  rw [Bool.not_eq_false] at hc
  have hmem : r.bytes ∈ (s.cask.filter (fun r => r.array == a && r.sector == k)).map CaskRec.bytes :=
    List.mem_map_of_mem (List.mem_filter.2 ⟨hr, hc⟩)
  have hle : r.bytes ≤ s.sectorFill a k := List.le_sum_of_mem hmem
  have hpos : 0 < r.bytes := by
    unfold CaskRec.bytes up64
    omega
  omega

theorem State.caskDrop_reads (s : State) (gone : CaskRec → Bool) : (fun t : State =>
      t = { s with regs := t.regs, cask := t.cask, erases := t.erases } ∧ Touches caskFlds s t ∧ t.cask = s.cask.filter (fun r => !gone r))
    (s.caskDrop gone) := by
  unfold State.caskDrop
  extract_lets hit s1 s2
  have h1 : s1 = { s with cask := s1.cask, erases := s1.erases } ∧ s1.cask = s.cask.filter (fun r => !gone r) := ⟨rfl, rfl⟩
  have h2 : s2 = { s with cask := s2.cask, erases := s2.erases } ∧ s2.cask = s.cask.filter (fun r => !gone r) := by
    refine List.foldlRecOn (motive := fun t : State => t = { s with cask := t.cask, erases := t.erases } ∧ t.cask = s.cask.filter (fun r => !gone r))
      _ _ h1 fun t ht k _ => ?_
    obtain ⟨hf, hc⟩ := ht
    split_ifs with he
    · refine ⟨?_, (State.eraseSector_cask he).trans hc⟩
      generalize k / 256 = a, k % 256 = b
      rw [hf]
      rfl
    · exact ⟨hf, hc⟩
  generalize s2 = u at h2
  have hw := u.showWear_frame
  have ht := u.showWear_touches
  generalize u.showWear = t at hw ht
  refine ⟨?_, Touches.trans (.of_regs ?_) ht, ?_⟩
  · rw [hw, h2.1]
  · rw [h2.1]
  · rw [hw]
    exact h2.2

/-- A pointer written is the state that booting shows. -/
theorem State.writePointer_reads (s : State) (a p : Nat) {st : Nat} (hs : st < 4) : (fun t : State =>
      t = { s with regs := t.regs, cask := t.cask, fw := { s.fw with due := t.fw.due } } ∧ Touches (.FLS_BOOT_STATE :: caskFlds) s t ∧
      t.get .FLS_BOOT_STATE = st) (s.writePointer a p st) := by
  unfold State.writePointer
  have h := s.caskPut_files 1 0 0 (leBytes 1 a ++ leBytes 1 p ++ leBytes 1 st)
  generalize s.caskPut 1 0 0 (leBytes 1 a ++ leBytes 1 p ++ leBytes 1 st) = u at h
  exact ⟨by rw [State.set_frame, h.frame], (h.touches.mono (by decide)).set (by decide) _ _ _, State.get_set_fits _ _ _ (Nat.mod_eq_of_lt hs)⟩

theorem State.readBinds_frame (s : State) : s.readBinds = { s with binds := s.readBinds.binds } := by
  unfold State.readBinds State.restoreBinds
  split
  · rfl
  · refine List.foldlRecOn (motive := fun t : State => t = { s with binds := t.binds }) _ _ rfl fun t ht i _ => ?_
    dsimp only
    rw [ht]
    rfl

theorem State.stageBoot_reads {s : State} (h1 : s.fullImage = none) (h2 : s.loading = none) : (fun t : State =>
      t = { s with regs := t.regs, loading := t.loading } ∧ Touches [.MASH_STATUS_STATE] s t ∧ t.get .MASH_STATUS_STATE = 1 ∧
      t.loading = some { handle := 0, source := 0, host := false, length := s.fw.mash.length, bytes := s.fw.mash, boot := true }) s.stageBoot := by
  unfold State.stageBoot
  rw [if_neg (by rw [h1, h2]; decide)]
  exact ⟨rfl, Touches.set (.of_regs rfl) (by decide) _ _ _, State.get_set_fits _ _ _ rfl, rfl⟩

section
variable {s : State}

/-! ### Settings -/

def settingFlds : List Fld := [.CASK_SCHEMA_CUR, .CASK_STATUS_STATE, .CASK_SCHEMA_PINNED]

/-- The cause that settings leave: 1 for none that this firmware knows, 2 or 3 for a fault of the binding or of the head counts. -/
def State.settingsCause (s : State) (own : Nat) (l : List Nat) (fault : Nat) : Nat :=
  if !s.arrayUsed 0 && !s.arrayUsed 1 then 0
  else if (s.settingsOf own l).1 = 0 then 1 else if fault = 2 ∨ fault = 3 then fault else 0

/-- Settings read: the fields that tell of them, and the bindings. -/
structure Reads (s t : State) : Prop where
  frame : t = { s with regs := t.regs, binds := t.binds }
  touches : Touches settingFlds s t

namespace Reads
variable {s t : State}

theorem refl (s : State) : Reads s s := ⟨rfl, .refl _ s⟩

theorem set (h : Reads s t) {f : Fld} (hf : f ∈ settingFlds) (v i k : Nat) : Reads s (t.set f v i k) :=
  ⟨by rw [State.set_frame, h.frame], h.touches.set hf v i k⟩

theorem readBinds (h : Reads s t) : Reads s t.readBinds := by
  have hf := t.readBinds_frame
  generalize t.readBinds = u at hf
  exact ⟨by rw [hf, h.frame], h.touches.trans (.of_regs (by rw [hf]))⟩

end Reads

theorem State.readSettings_reads (s : State) (own : Nat) (l : List Nat) (fault : Nat) : (fun r : Nat × State => r.1 = s.settingsCause own l fault ∧
      Reads s r.2 ∧ (r.1 ≠ 0 → r.2.get .CASK_STATUS_STATE = 4)) (s.readSettings own l fault) := by
  unfold State.readSettings State.settingsCause
  have h1 : Reads s (s.set .CASK_SCHEMA_CUR own) := (Reads.refl s).set (by decide) _ _ _
  have hu : ∀ a, (s.set .CASK_SCHEMA_CUR own).arrayUsed a = s.arrayUsed a := fun _ => rfl
  have hs : (s.set .CASK_SCHEMA_CUR own).settingsOf own l = s.settingsOf own l := rfl
  generalize s.set .CASK_SCHEMA_CUR own = u at h1 hu hs
  dsimp only
  rw [hu, hu, hs]
  by_cases ha : (!s.arrayUsed 0 && !s.arrayUsed 1) = true
  · rw [if_pos ha, if_pos ha]
    exact ⟨rfl, h1.set (by decide) _ _ _, fun h => absurd rfl h⟩
  · rw [if_neg ha, if_neg ha]
    generalize hc : (if (s.settingsOf own l).1 = 0 then 1 else if fault = 2 ∨ fault = 3 then fault else 0) = cause
    by_cases h0 : cause ≠ 0
    · rw [if_pos h0]
      refine ⟨rfl, (h1.set (by decide) _ _ _).set (by decide) _ _ _, fun _ => ?_⟩
      exact (State.get_set_fld _ (by decide) ..).trans (State.get_set_fits (f := .CASK_STATUS_STATE) (v := 4) _ _ _ rfl)
    · rw [if_neg h0]
      rw [not_not] at h0
      subst h0
      split_ifs
      · exact ⟨rfl, (h1.set (by decide) _ _ _).set (by decide) _ _ _, fun h => absurd rfl h⟩
      · exact ⟨rfl, ((h1.set (by decide) _ _ _).set (by decide) _ _ _).readBinds, fun h => absurd rfl h⟩
      · exact ⟨rfl, ((h1.set (by decide) _ _ _).set (by decide) _ _ _).readBinds, fun h => absurd rfl h⟩

theorem exec_bootImageCommit {own fault : Nat} {l : List Nat} (h1 : s.is .FLS_STATUS_READY = true) (h2 : s.fw.settings = false)
    (h3 : s.frontFree = true) : exec (.bootImageCommit own l fault) s = .next (
      let r := s.readSettings own l fault
      let u : State := { r.2 with fw := { r.2.fw with settings := true, booted := true } }
      if r.1 = 0 then u.showWear.stageBoot else u.set .FLS_BOOT_CAUSE r.1) :=
  exec_when (i := .bootImageCommit own l fault) (s := s) rfl (by rw [h1, h2, h3]; rfl)

theorem bootImageCommit_runs {own fault : Nat} {l : List Nat} (h1 : s.is .FLS_STATUS_READY = true) (h2 : s.fw.settings = false)
    (h3 : s.frontFree = true) (ha : s.arrayUsed 0 = false) (hb : s.arrayUsed 1 = false) (hi : s.fullImage = none) :
    Runs (.bootImageCommit own l fault) s (fun t => t.fw = { s.fw with settings := true, booted := true } ∧ t.get .MASH_STATUS_STATE = 1 ∧
      t.loading = some { handle := 0, source := 0, host := false, length := s.fw.mash.length, bytes := s.fw.mash, boot := true } ∧
      t = { s with regs := t.regs, fw := t.fw, loading := t.loading }) := by
  have he := exec_bootImageCommit (own := own) (fault := fault) (l := l) h1 h2 h3
  have hr : s.readSettings own l fault = (0, (s.set .CASK_SCHEMA_CUR own).set .CASK_STATUS_STATE 0) := if_pos (by
    change (!s.arrayUsed 0 && !s.arrayUsed 1) = true
    rw [ha, hb]
    rfl)
  rw [hr] at he
  have hx := exec_of he (if_pos rfl)
  have hf := State.showWear_frame { (s.set .CASK_SCHEMA_CUR own).set .CASK_STATUS_STATE 0 with fw := { s.fw with settings := true, booted := true } }
  change exec _ s = .next (State.stageBoot (State.showWear { (s.set .CASK_SCHEMA_CUR own).set .CASK_STATUS_STATE 0 with
    fw := { s.fw with settings := true, booted := true } })) at hx
  have hfr : ({ (s.set .CASK_SCHEMA_CUR own).set .CASK_STATUS_STATE 0 with fw := { s.fw with settings := true, booted := true } } : State) =
    { s with regs := ((s.set .CASK_SCHEMA_CUR own).set .CASK_STATUS_STATE 0).regs, fw := { s.fw with settings := true, booted := true } } := rfl
  rw [hfr] at hf hx
  generalize State.showWear { s with
    regs := ((s.set .CASK_SCHEMA_CUR own).set .CASK_STATUS_STATE 0).regs, fw := { s.fw with settings := true, booted := true } } = v at hf hx
  have hload : s.loading = none := by
    unfold State.frontFree at h3
    rw [Bool.and_eq_true, Option.isNone_iff_eq_none] at h3
    exact h3.1
  obtain ⟨r1, -, r3, r4⟩ := State.stageBoot_reads (s := v) (by rw [hf]; exact hi) (by rw [hf]; exact hload)
  refine ⟨_, hx, ?_, r3, ?_, ?_⟩
  · rw [r1, hf]
  · rw [r4, hf]
  · rw [r1, hf]

theorem bootImageCommit_fails {own fault : Nat} {l : List Nat} (h1 : s.is .FLS_STATUS_READY = true) (h2 : s.fw.settings = false)
    (h3 : s.frontFree = true) (ha : s.arrayUsed 0 = true) (hf : fault = 2 ∨ fault = 3) :
    Runs (.bootImageCommit own l fault) s (fun t => t.get .FLS_BOOT_CAUSE = (if (s.settingsOf own l).1 = 0 then 1 else fault) ∧
      t.get .CASK_STATUS_STATE = 4 ∧ t.loading = s.loading ∧ t.cask = s.cask ∧ t.flash = s.flash) := by
  have he := exec_bootImageCommit (own := own) (fault := fault) (l := l) h1 h2 h3
  obtain ⟨r1, r2, r4⟩ := s.readSettings_reads own l fault
  have hc : s.settingsCause own l fault = if (s.settingsOf own l).1 = 0 then 1 else fault := by
    unfold State.settingsCause
    rw [if_neg (by rw [ha]; exact Bool.false_ne_true), if_pos hf]
  have h0 : s.settingsCause own l fault ≠ 0 ∧ s.settingsCause own l fault < 4 := by
    rw [hc]
    split_ifs <;> omega
  rw [← hc]
  generalize s.readSettings own l fault = r at he r1 r2 r4
  obtain ⟨c, u⟩ := r
  dsimp only at he r1 r2 r4
  subst r1
  refine ⟨_, exec_of he (if_neg h0.1), State.get_set_fits _ _ _ (Nat.mod_eq_of_lt (by rw [fwWidths.2.2.2.1]; omega)), ?_, ?_⟩
  · exact (State.get_set_fld _ (by decide) ..).trans (r4 h0.1)
  · rw [r2.frame]
    exact ⟨rfl, rfl, rfl⟩

/-! ### Trial sets and migration -/

theorem bootSettle_runs (h1 : s.is .FLS_STATUS_READY = true) (h2 : s.fw.settings = true) (h3 : s.onTrial = true) (hc : s.get .FLS_BOOT_CAUSE = 0)
    (hi : s.fullImage.isSome = true) : Runs .bootSettle s (fun t => t.get .FLS_BOOT_STATE = 0 ∧ t.get .FLS_BOOT_TRIES = 0 ∧
      t.is .FLS_BOOT_FELL_BACK = false ∧ t = { s with regs := t.regs, cask := t.cask, fw := t.fw }) := by
  have he := exec_when (i := .bootSettle) (s := s) rfl (by rw [h1, h2, h3]; rfl)
  have hx := exec_of he ((if_neg (by rw [hc]; decide)).trans (if_pos hi))
  obtain ⟨r1, -, r3⟩ := s.writePointer_reads s.ptrActive s.ptrPrev (show 0 < 4 by decide)
  generalize s.writePointer s.ptrActive s.ptrPrev 0 = u at hx r1 r3
  refine ⟨_, hx, ?_, ?_, State.is_off_same .., ?_⟩
  · exact (State.get_set_fld _ (by decide) ..).trans ((State.get_set_fld _ (by decide) ..).trans r3)
  · exact (State.get_set_fld _ (by decide) ..).trans (State.get_set_fits (f := .FLS_BOOT_TRIES) (v := 0) _ _ _ rfl)
  · have hf : (u.set .FLS_BOOT_TRIES 0).off .FLS_BOOT_FELL_BACK = { u with regs := ((u.set .FLS_BOOT_TRIES 0).off .FLS_BOOT_FELL_BACK).regs } := rfl
    generalize (u.set .FLS_BOOT_TRIES 0).off .FLS_BOOT_FELL_BACK = t at hf
    rw [hf, r1]

theorem bootSettle_fails (h1 : s.is .FLS_STATUS_READY = true) (h2 : s.fw.settings = true) (h3 : s.onTrial = true) (hc : s.get .FLS_BOOT_CAUSE ≠ 0)
    (hd : ¬ (s.get .FLS_BOOT_CAUSE = 4 ∧ s.fewDdr = true)) : Runs .bootSettle s (fun t => t.get .FLS_BOOT_STATE = 2 ∧
      t = { s with regs := t.regs, cask := t.cask, fw := t.fw }) := by
  have he := exec_when (i := .bootSettle) (s := s) rfl (by rw [h1, h2, h3]; rfl)
  obtain ⟨r1, -, r3⟩ := s.writePointer_reads s.ptrActive s.ptrPrev (show 2 < 4 by decide)
  exact ⟨_, exec_of he ((if_pos hc).trans (if_neg hd)), r3, by rw [r1]⟩

theorem caskMigration_runs (h1 : s.fwAway = false) (h2 : s.get .CASK_STATUS_STATE = 2) (h3 : s.caskArray.isSome = true) :
    Runs .caskMigration s (fun t => t.get .CASK_STATUS_STATE = 3 ∧ (∀ r ∈ s.cask, r ∈ t.cask) ∧ t.flash = s.flash) := by
  have he := exec_when (i := .caskMigration) (s := s) rfl (by rw [h1, h2, h3]; rfl)
  dsimp only at he
  have hm : Files s ((s.caskKeys (s.get .CASK_SCHEMA_PINNED)).foldl (fun t k =>
      match t.caskLatest k.1 (s.get .CASK_SCHEMA_PINNED) k.2 with
      | some r => t.caskPut k.1 (s.get .CASK_SCHEMA_CUR) k.2 (Config.migrated k.1 (s.get .CASK_SCHEMA_PINNED) (s.get .CASK_SCHEMA_CUR) r.data)
      | none => t) s) :=
    List.foldlRecOn (motive := fun t => Files s t) _ _ (.refl s) fun t ht k _ => by
      split
      · exact ht.trans (t.caskPut_files ..)
      · exact ht
  generalize (s.caskKeys (s.get .CASK_SCHEMA_PINNED)).foldl _ s = u at he hm
  refine ⟨_, he, ?_, ?_, ?_⟩
  · rw [State.readBinds_frame]
    exact State.get_set_fits (f := .CASK_STATUS_STATE) (v := 3) _ _ _ rfl
  · rw [State.readBinds_frame]
    exact hm.grows
  · rw [State.readBinds_frame]
    exact (congrArg State.flash hm.frame).trans rfl

/-! ### Confirming settings -/

theorem exec_caskConfirm {d : Desc} (ha : Accepts s d 0x0903 [(0x10, 1)]) (hm : d.p 0x10 1 ≤ 1)
    (hok : (if d.p 0x10 1 = 0 then s.get .CASK_STATUS_STATE == 3
      else decide (1 ≤ s.get .FLS_BOOT_CAUSE ∧ s.get .FLS_BOOT_CAUSE ≤ 3) && s.fullImage.isNone && s.frontFree && s.is .FLS_STATUS_READY) = true) :
    exec (.caskConfirm d) s = .next ((s.startedLong d 0x0903).2.firmware (s.startedLong d 0x0903).1 (.caskConfirm d)
      (fun t => t.caskConfirm (s.startedLong d 0x0903).1 d)) := by
  have hi : exec (.caskConfirm d) s = execCaskConfirm d s := rfl
  unfold execCaskConfirm at hi
  dsimp only at hi
  have he := exec_long hi ha rfl rfl rfl rfl rfl (by simp [hm]) rfl (by rw [if_pos hok])
  exact he

theorem State.cask_set (s : State) (f : Fld) (v i k : Nat) : (s.set f v i k).cask = s.cask := rfl

theorem State.caskConfirm_confirm (s : State) (h : Nat) {d : Desc} (hm : d.p 0x10 1 = 0) : s.caskConfirm h d =
    (((s.caskDrop (fun r => r.kind != 1 && decide (r.schema < s.get .CASK_SCHEMA_CUR))).set .CASK_SCHEMA_PINNED 0).set .CASK_STATUS_STATE 1).done h := by
  unfold State.caskConfirm
  rw [if_pos hm]

theorem caskConfirm_runs {u : State} {d : Desc} (ha : Accepts s d 0x0903 [(0x10, 1)]) (hm : d.p 0x10 1 = 0) (hs : s.get .CASK_STATUS_STATE = 3)
    (hw : s.fwAway = false) (hu : u = (((s.startedLong d 0x0903).2.caskDrop (fun r => r.kind != 1 && decide (r.schema < s.get .CASK_SCHEMA_CUR))).set
      .CASK_SCHEMA_PINNED 0).set .CASK_STATUS_STATE 1) : Runs (.caskConfirm d) s (fun t => t = u.done (s.startedLong d 0x0903).1 ∧
      u.cask = s.cask.filter (fun r => !(r.kind != 1 && decide (r.schema < s.get .CASK_SCHEMA_CUR)))) := by
  have he := exec_caskConfirm ha (by omega) (by rw [if_pos hm, hs]; rfl)
  have hq := s.startedLong_serves d 0x0903
  generalize (s.startedLong d 0x0903).2 = v at he hq hu
  have hcur : v.get .CASK_SCHEMA_CUR = s.get .CASK_SCHEMA_CUR := hq.get (by decide) 0 0
  have hcask : v.cask = s.cask := by rw [hq.frame]
  have hx : v.firmware (s.startedLong d 0x0903).1 (.caskConfirm d) (fun t => t.caskConfirm (s.startedLong d 0x0903).1 d) =
      u.done (s.startedLong d 0x0903).1 := by
    rw [State.firmware_here (hq.fwAway.trans hw), State.caskConfirm_confirm _ _ hm, hu, hcur]
  refine ⟨_, exec_of he hx, rfl, ?_⟩
  rw [hu, State.cask_set, State.cask_set, ← hcask]
  exact (v.caskDrop_reads _).2.2

theorem caskConfirm_away {d : Desc} (ha : Accepts s d 0x0903 [(0x10, 1)]) (hm : d.p 0x10 1 = 0) (hs : s.get .CASK_STATUS_STATE = 3)
    (hw : s.fwAway = true) : Runs (.caskConfirm d) s (fun t => t = { (s.startedLong d 0x0903).2 with
      fwDue := s.fwDue ++ [((s.startedLong d 0x0903).1, .caskConfirm d)] }) := by
  have he := exec_caskConfirm ha (by omega) (by rw [if_pos hm, hs]; rfl)
  have hq := s.startedLong_serves d 0x0903
  generalize (s.startedLong d 0x0903).2 = v at he hq
  refine ⟨_, exec_of he (State.firmware_away (hq.fwAway.trans hw) ..), ?_⟩
  rw [hq.fwDue]

/-- Starting over: settings of this schema are dropped and written empty. -/
def State.startOver (s : State) : State :=
  let u := s.caskDrop (fun r => r.kind != 1 && r.schema == s.get .CASK_SCHEMA_CUR)
  let v := (u.caskPut 2 (s.get .CASK_SCHEMA_CUR) 0 []).caskPut 5 (s.get .CASK_SCHEMA_CUR) 0 (List.replicate 4096 0)
  v.writePointer u.ptrActive u.ptrPrev 0

/-- No binding is left, and no cause that withheld the image. -/
def State.unboundAll (s : State) : State := (({ s with binds := [] } : State).set .CASK_STATUS_STATE 1).set .FLS_BOOT_CAUSE 0

theorem State.unboundAll_reads (s : State) : (fun t : State => t = { s with binds := [], regs := t.regs } ∧ t.get .FLS_BOOT_CAUSE = 0 ∧
    t.get .CASK_STATUS_STATE = 1) s.unboundAll :=
  ⟨rfl, State.get_set_fits (f := .FLS_BOOT_CAUSE) (v := 0) _ _ _ rfl,
    (State.get_set_fld _ (by decide) ..).trans (State.get_set_fits (f := .CASK_STATUS_STATE) (v := 1) _ _ _ rfl)⟩

theorem State.caskConfirm_startOver (s : State) (h : Nat) {d : Desc} (hm : d.p 0x10 1 ≠ 0) : s.caskConfirm h d = s.startOver.unboundAll.stageBoot.done h := by
  unfold State.caskConfirm
  rw [if_neg hm]
  rfl

theorem State.startOver_reads (s : State) : (fun t : State =>
      t = { s with regs := t.regs, cask := t.cask, erases := t.erases, fw := { s.fw with due := t.fw.due } } ∧
      Touches (.FLS_BOOT_STATE :: caskFlds) s t) s.startOver := by
  unfold State.startOver
  extract_lets _ u v
  obtain ⟨u1, u2, -⟩ := s.caskDrop_reads (fun r => r.kind != 1 && r.schema == s.get .CASK_SCHEMA_CUR)
  have hv : Files u v := (u.caskPut_files ..).trans (State.caskPut_files ..)
  change u = _ at u1
  change Touches caskFlds s u at u2
  clear_value u v
  obtain ⟨r1, r2, -⟩ := v.writePointer_reads u.ptrActive u.ptrPrev (show 0 < 4 by decide)
  exact ⟨by rw [r1, hv.frame, u1], ((u2.trans hv.touches).mono (by decide)).trans r2⟩

theorem caskConfirm_startOver {d : Desc} (ha : Accepts s d 0x0903 [(0x10, 1)]) (hw : s.fwAway = false) (hm : d.p 0x10 1 = 1)
    (h1 : 1 ≤ s.get .FLS_BOOT_CAUSE) (h3 : s.get .FLS_BOOT_CAUSE ≤ 3) (hi : s.fullImage = none) (hf : s.frontFree = true)
    (hr : s.is .FLS_STATUS_READY = true) : Runs (.caskConfirm d) s (fun t => t.get .FLS_BOOT_CAUSE = 0 ∧ t.get .CASK_STATUS_STATE = 1 ∧
      t.binds = [] ∧ t.get .MASH_STATUS_STATE = 1 ∧ t.flash = s.flash) := by
  have he := exec_caskConfirm ha (by omega) (by rw [if_neg (by omega), decide_eq_true ⟨h1, h3⟩, hi, hf, hr]; rfl)
  have hq := s.startedLong_serves d 0x0903
  generalize (s.startedLong d 0x0903).2 = v at he hq
  generalize (s.startedLong d 0x0903).1 = h at he
  have hload : s.loading = none := by
    unfold State.frontFree at hf
    rw [Bool.and_eq_true, Option.isNone_iff_eq_none] at hf
    exact hf.1
  have hx : v.firmware h (.caskConfirm d) (fun t => t.caskConfirm h d) = v.startOver.unboundAll.stageBoot.done h :=
    (State.firmware_here (hq.fwAway.trans hw) ..).trans (v.caskConfirm_startOver h (by omega))
  obtain ⟨w1, -⟩ := v.startOver_reads
  generalize v.startOver = w at hx w1
  obtain ⟨hfr, hg1, hg2⟩ := w.unboundAll_reads
  generalize w.unboundAll = y at hx hg1 hg2 hfr
  obtain ⟨z1, z2, z3, -⟩ := State.stageBoot_reads (s := y) (by rw [hfr, w1, hq.frame]; exact hi) (by rw [hfr, w1, hq.frame]; exact hload)
  generalize y.stageBoot = z at hx z1 z2 z3
  have hd := z.done_serves h 0
  refine ⟨_, exec_of he hx, ?_, ?_, ?_, ?_, ?_⟩
  · exact (hd.get (by decide) 0 0).trans ((z2 _ _ _ (by decide)).trans hg1)
  · exact (hd.get (by decide) 0 0).trans ((z2 _ _ _ (by decide)).trans hg2)
  · rw [hd.frame, z1, hfr]
  · exact (hd.get (by decide) 0 0).trans z3
  · rw [hd.frame, z1, hfr, w1, hq.frame]

/-! ### Windows -/

theorem xipWrite_runs (v : Nat) (hr : s.reachable .flash 0 = true) : Runs (.flsXipWrite true v) s (fun t => t.is .FLS_XIP_FLA_EN = bit v 0 ∧
      t.is .FLS_XIP_FLB_EN = bit v 1 ∧ t.flash = s.flash ∧ (∀ r ∈ s.cask, r ∈ t.cask) ∧ (v % 4 = 3 → t.cask = s.cask ∧ t.fw = s.fw) ∧
      t = { s with regs := t.regs, cask := t.cask, fw := t.fw }) := by
  have he : exec (.flsXipWrite true v) s = .next (((s.setWindow 0 (bit v 0)).setWindow 1 (bit v 1)).caskFlush) :=
    exec_of (exec_when (i := .flsXipWrite true v) (s := s) rfl rfl) (State.reach_of _ hr)
  obtain ⟨k1, k2, k3, k4⟩ := s.setWindows_reads (bit v 0) (bit v 1)
  generalize (s.setWindow 0 (bit v 0)).setWindow 1 (bit v 1) = u at he k1 k2 k3 k4
  have hc := u.caskFlush_files
  have hu : u.cask = s.cask := by rw [k1.frame]
  refine ⟨_, he, (hc.is (by decide) 0 0).trans k3, (hc.is (by decide) 0 0).trans k4, ?_, ?_, fun h => ?_, ?_⟩
  · rw [hc.frame, k1.frame]
  · rw [← hu]
    exact hc.grows
  · have hb : bit v 0 = true ∧ bit v 1 = true := by
      constructor
      · unfold bit
        rw [Nat.testBit_eq_decide_div_mod_eq, decide_eq_true_eq]
        omega
      · unfold bit
        rw [Nat.testBit_eq_decide_div_mod_eq, decide_eq_true_eq]
        omega
    rw [State.caskFlush_open (k3.trans hb.1) (k4.trans hb.2)]
    exact ⟨hu, k2⟩
  · have hk := k1.frame
    rw [hc.frame]
    generalize u.caskFlush.cask = c, u.caskFlush.regs = r, u.caskFlush.fw.due = f
    rw [hk]

end

/-! ## Hand-over -/

/-- The fields that tell of the firmware in charge and of its hand-over. -/
def handFlds : List Fld := [.FLS_STATUS_HANDOVER, .FLS_BOOT_SRC, .FLS_BOOT_STATE, .FLS_FW_VER_VERSION, .FLS_HANDOVER_LAST_MS, .FLS_HANDOVER_COUNT,
  .FLS_HANDOVER_HANDBACKS, .FLS_XIP_FLA_EN, .FLS_XIP_FLB_EN]

/-- The hand-over stands as it did: its record, its firmware, the fields of `gs`; and no flash, DRAM or Kiln changes. -/
structure HandOn (gs : List Fld) (s t : State) : Prop where
  flash : t.flash = s.flash
  dram : t.dram = s.dram
  kiln : t.kiln = s.kiln
  hand : t.fw.hand = s.fw.hand
  image : t.fw.image = s.fw.image
  waits : t.fwDue = s.fwDue
  get : ∀ f ∈ gs, ∀ i k, t.get f i k = s.get f i k

namespace HandOn
variable {gs hs : List Fld} {s t u : State}

theorem refl (s : State) : HandOn gs s s := ⟨rfl, rfl, rfl, rfl, rfl, rfl, fun _ _ _ _ => rfl⟩

theorem trans (h : HandOn gs s t) (h' : HandOn gs t u) : HandOn gs s u where
  flash := h'.flash.trans h.flash
  dram := h'.dram.trans h.dram
  kiln := h'.kiln.trans h.kiln
  hand := h'.hand.trans h.hand
  image := h'.image.trans h.image
  waits := h'.waits.trans h.waits
  get f hf i k := (h'.get f hf i k).trans (h.get f hf i k)

theorem set (h : HandOn gs s t) {f : Fld} (hf : f ∉ gs) (v i k : Nat) : HandOn gs s (t.set f v i k) :=
  h.trans ⟨rfl, rfl, rfl, rfl, rfl, rfl, fun g hg _ _ => State.get_set_fld t (fun e : g = f => hf (e ▸ hg)) ..⟩

theorem restage (h : HandOn gs s t) (l : List Staged) : HandOn gs s { t with staged := l } :=
  h.trans ⟨rfl, rfl, rfl, rfl, rfl, rfl, fun _ _ _ _ => rfl⟩

theorem unload (h : HandOn gs s t) : HandOn gs s { t with loading := none } := h.trans ⟨rfl, rfl, rfl, rfl, rfl, rfl, fun _ _ _ _ => rfl⟩

theorem setChan (h : HandOn gs s t) (c : Nat) (x : Chan) : HandOn gs s (t.setChan c x) := h.trans ⟨rfl, rfl, rfl, rfl, rfl, rfl, fun _ _ _ _ => rfl⟩

theorem putDev (h : HandOn gs s t) (x : Dev) : HandOn gs s (t.putDev x) := h.trans ⟨rfl, rfl, rfl, rfl, rfl, rfl, fun _ _ _ _ => rfl⟩

theorem out (h : HandOn gs s t) (o : Out) : HandOn gs s (t.out o) := h.trans ⟨rfl, rfl, rfl, rfl, rfl, rfl, fun _ _ _ _ => rfl⟩

theorem mono (h : HandOn gs s t) (hg : hs ⊆ gs) : HandOn hs s t :=
  ⟨h.flash, h.dram, h.kiln, h.hand, h.image, h.waits, fun f hf i k => h.get f (hg hf) i k⟩

theorem is (h : HandOn gs s t) {f : Fld} (hf : f ∈ gs) (i k : Nat) : t.is f i k = s.is f i k := congrArg (· == 1) (h.get f hf i k)

end HandOn

/-- Fields other than those of the hand-over. -/
def HandApart (fs : List Fld) : Prop := ∀ f ∈ handFlds, f ∉ fs

theorem Touches.hand {fs : List Fld} {s t : State} (h : Touches fs s t) (ha : HandApart fs) : ∀ f ∈ handFlds, ∀ i k, t.get f i k = s.get f i k :=
  fun f hf i k => h f i k (ha f hf)

theorem handApart_flds : HandApart caskFlds ∧ HandApart reportFlds ∧ HandApart reportedFlds ∧ HandApart holdingFlds ∧ HandApart settingFlds := by
  unfold HandApart
  decide

theorem Files.handOn {s t : State} (h : Files s t) : HandOn handFlds s t where
  flash := by rw [h.frame]
  dram := by rw [h.frame]
  kiln := by rw [h.frame]
  hand := by rw [h.frame]
  image := by rw [h.frame]
  waits := by rw [h.frame]
  get := h.touches.hand handApart_flds.1

theorem Reports.handOn {s t : State} (h : Reports reportFlds s t) : HandOn handFlds s t where
  flash := by rw [h.frame]
  dram := by rw [h.frame]
  kiln := by rw [h.frame]
  hand := by rw [h.frame]
  image := by rw [h.frame]
  waits := by rw [h.frame]
  get := h.touches.hand handApart_flds.2.1

theorem Serves.handOn {s t : State} (h : Serves s t) : HandOn handFlds s t where
  flash := by rw [h.frame]
  dram := by rw [h.frame]
  kiln := by rw [h.frame]
  hand := by rw [h.frame]
  image := by rw [h.frame]
  waits := by rw [h.frame]
  get := h.touches.hand handApart_flds.2.2.1

theorem HoldsOnly.handOn {s t : State} (h : HoldsOnly holdingFlds s t) : HandOn handFlds s t where
  flash := by rw [h.frame]
  dram := by rw [h.frame]
  kiln := by rw [h.frame]
  hand := by rw [h.frame]
  image := by rw [h.frame]
  waits := by rw [h.frame]
  get := h.touches.hand handApart_flds.2.2.2.1

theorem Reads.handOn {s t : State} (h : Reads s t) : HandOn handFlds s t where
  flash := by rw [h.frame]
  dram := by rw [h.frame]
  kiln := by rw [h.frame]
  hand := by rw [h.frame]
  image := by rw [h.frame]
  waits := by rw [h.frame]
  get := h.touches.hand handApart_flds.2.2.2.2

/-! ### Checkpoints -/

theorem State.caskSave_handOn (s : State) (kind key : Nat) (data : List Byte) : HandOn handFlds s (s.caskSave kind key data) := (s.caskPut_files ..).handOn

theorem State.saveCounts_handOn (s : State) : HandOn handFlds s s.saveCounts := by
  unfold State.saveCounts
  extract_lets u
  have hu : HandOn handFlds s u := State.each_keeps (P := fun t => HandOn handFlds s t) 64 _ (fun t c h => by
    extract_lets v
    have hv : HandOn handFlds s v := by
      unfold v
      split_ifs
      · exact h.trans (t.caskSave_handOn ..)
      · exact h
    generalize v = w at hv
    split_ifs
    · exact hv.trans (w.caskSave_handOn ..)
    · exact hv) _ (.refl s)
  exact hu.trans (State.caskSave_handOn ..)

theorem State.checkpoint_handOn (s : State) : HandOn handFlds s s.checkpoint := by
  unfold State.checkpoint
  dsimp only
  split_ifs
  · exact .refl s
  · exact ⟨rfl, rfl, rfl, rfl, rfl, rfl, fun _ _ _ _ => rfl⟩
  · exact .refl s
  · exact s.saveCounts_handOn.trans (State.telEvent_reports ..).handOn

theorem State.fwLeaves_handOn (s : State) : HandOn handFlds s s.fwLeaves := by
  unfold State.fwLeaves
  split_ifs
  · exact .refl s
  · exact ⟨rfl, rfl, rfl, rfl, rfl, rfl, fun _ _ _ _ => rfl⟩

/-- Firmware comes back when nothing waited for it. -/
theorem State.fwBack_handOn {s : State} (h : s.fwDue = []) : HandOn handFlds s s.fwBack := by
  unfold State.fwBack
  split_ifs
  · exact .refl s
  · extract_lets due l _ u
    have hl : l = [] := h
    have hu : HandOn handFlds s u := ⟨rfl, rfl, rfl, rfl, rfl, h.symm, fun _ _ _ _ => rfl⟩
    rw [hl, List.foldl_nil]
    generalize u = v at hu
    split_ifs
    · exact hu.trans v.checkpoint_handOn
    · exact hu

/-- The end of a hand-over. -/
def State.handOver (s : State) : State := State.off { s with fw := { s.fw with hand := none } } .FLS_STATUS_HANDOVER

theorem State.handEnd_reads {s : State} (h : s.fwDue = []) : HandOn handFlds s.handOver s.handEnd :=
  State.fwBack_handOn (s := s.handOver) h

theorem State.handOver_reads (s : State) : s.handOver.fw.hand = none ∧ s.handOver.is .FLS_STATUS_HANDOVER = false ∧
    s.handOver.fw.image = s.fw.image ∧ s.handOver.flash = s.flash ∧ ∀ f, f ≠ .FLS_STATUS_HANDOVER → ∀ i k, s.handOver.get f i k = s.get f i k :=
  ⟨rfl, State.is_off_same .., rfl, rfl, fun _ hf _ _ => State.get_set_fld _ hf ..⟩

/-! ### Judging the version of a device -/

theorem State.setCause_handOn (s : State) (i m : Nat) : HandOn handFlds s (s.setCause i m) := by
  unfold State.setCause
  split
  · exact .refl s
  · next x _ =>
    extract_lets u
    have hu : HandOn handFlds s u := ((HandOn.refl s).putDev _).set (by decide) _ _ _
    generalize u = v at hu
    split_ifs
    · exact hu.trans (v.setHold_holds m).handOn
    · exact hu
    · exact hu.out _

theorem State.causeBit_handOn (s : State) (i b : Nat) (on : Bool) : HandOn handFlds s (s.causeBit i b on) := by
  unfold State.causeBit
  split
  · exact .refl s
  · exact s.setCause_handOn ..

theorem State.checkBand_handOn (s : State) (i v : Nat) : HandOn handFlds s (s.checkBand i v) := by
  unfold State.checkBand
  split
  · next y _ =>
    have hp : HandOn handFlds s (s.putDev { y with fw := v }) := ⟨rfl, rfl, rfl, rfl, rfl, rfl, fun _ _ _ _ => rfl⟩
    exact hp.trans (State.causeBit_handOn ..)
  · exact .refl s

/-! ### The management domain reset -/

theorem Tab.get_keep {κ α : Type} [DecidableEq κ] (d : κ → α) (p : κ → Bool) (t : List (κ × α)) {k : κ} (h : p k = true) :
    Tab.get d (Tab.keep p t) k = Tab.get d t k := by
  induction t with
  | nil => rfl
  | cons e t ih =>
    unfold Tab.keep at ih ⊢
    by_cases he : p e.1 = true
    · rw [List.filter_cons, if_pos he, Tab.get, Tab.get, ih]
    · have hne : e.1 ≠ k := fun heq => he (heq ▸ h)
      rw [List.filter_cons, if_neg he, Tab.get, if_neg hne, ih]

theorem State.releaseStaged_handOn (s : State) (h : Nat) : HandOn handFlds s (s.releaseStaged h) := by
  have hf := s.releaseStaged_frame h
  generalize s.releaseStaged h = z at hf
  exact ⟨by rw [hf], by rw [hf], by rw [hf], by rw [hf], by rw [hf], by rw [hf], fun _ _ _ _ => by rw [hf]; rfl⟩

theorem State.dropSet_handOn (s : State) (x : ChangeSet) : HandOn handFlds s (s.dropSet x) := by
  unfold State.dropSet State.dropAs
  extract_lets u v
  have hv : HandOn handFlds s v := by
    unfold v
    split_ifs
    · exact ⟨rfl, rfl, rfl, rfl, rfl, rfl, fun _ _ _ _ => rfl⟩
    · exact ⟨rfl, rfl, rfl, rfl, rfl, rfl, fun _ _ _ _ => rfl⟩
  generalize v = w at hv
  have h1 := hv.trans (w.finish_serves x.commitOp stNotApplied 0 0).handOn
  generalize w.finish x.commitOp stNotApplied = y at h1
  have h2 := y.releaseStaged_handOn x.handle
  generalize y.releaseStaged x.handle = z at h2
  have h3 : HandOn handFlds z z.dropShadows := by
    have hf := z.prepShadows_frame
    unfold State.dropShadows
    generalize z.prepShadows = z' at hf
    exact ⟨by rw [hf], by rw [hf], by rw [hf], by rw [hf], by rw [hf], by rw [hf], fun _ _ _ _ => by rw [hf]; rfl⟩
  exact (h1.trans h2).trans h3

theorem State.enterApply_handOn (s : State) (h : Nat) : HandOn handFlds s (s.enterApply h) := by
  unfold State.enterApply
  extract_lets parts u v w
  have hu : HandOn handFlds s u := List.foldlRecOn (motive := fun t => HandOn handFlds s t) _ _ (.refl s) fun t ht x _ => ht.trans (t.dropSet_handOn x)
  have hv : HandOn handFlds s v := List.foldlRecOn (motive := fun t => HandOn handFlds s t) _ _ hu fun t ht x _ => ht.trans (t.releaseStaged_handOn _)
  have hw : HandOn handFlds s w := State.each_keeps (P := fun t => HandOn handFlds s t) 64 _ (fun t c ht => by
    split_ifs
    · exact (ht.setChan c _).set (f := .TUN_STATUS_PAUSED) (by decide) _ _ _
    · exact ht) _ hv
  generalize w = z at hw
  exact (hw.restage _).set (by decide) _ _ _

theorem State.tryFull_handOn (s : State) (x : Staged) : HandOn handFlds s (s.tryFull x) := by
  unfold State.tryFull
  split_ifs
  · exact .refl s
  · exact s.enterApply_handOn _
  · exact ((HandOn.refl s).restage _).trans (State.finish_serves ..).handOn

theorem State.frontIdle_handOn (s : State) : HandOn handFlds s s.frontIdle := by
  unfold State.frontIdle
  extract_lets u
  have hu : HandOn handFlds s u := (HandOn.refl s).unload.set (by decide) _ _ _
  exact List.foldlRecOn (motive := fun t => HandOn handFlds s t) _ _ hu fun t ht x _ => ht.trans (t.tryFull_handOn x)

theorem hand_kept : ∀ f ∈ handFlds, f.desc.reg.desc.block = .flash := by decide

theorem State.resetMgmt_handOn (s : State) : HandOn handFlds s (s.resetMgmt Reg.handed) := by
  unfold State.resetMgmt
  extract_lets mine u front v
  have hu : HandOn handFlds s u := by
    unfold u
    split
    · next x _ =>
      split_ifs
      · exact .refl s
      · exact (s.finish_serves ..).handOn
    · exact .refl s
  have hk : ∀ f ∈ handFlds, ∀ i k, (!mine (FKey.mk f i k).fld.desc.reg || (FKey.mk f i k).stays) = true := fun f hf i k => by
    have hb : Reg.handed f.desc.reg = true := by
      unfold Reg.handed
      rw [hand_kept f hf]
      rfl
    simp [mine, hb]
  have hv : HandOn handFlds u v := ⟨rfl, rfl, rfl, rfl, rfl, rfl, fun f hf i k => 
    Tab.get_keep FKey.dflt (fun k => !mine k.fld.desc.reg || k.stays) u.regs (hk f hf i k)⟩
  have huv := hu.trans hv
  generalize v = w at huv
  split_ifs
  · exact huv.set (by decide) ..
  · exact huv.trans w.frontIdle_handOn

section
variable {s : State}

/-! ### Starting a hand-over -/

/-- The fields of the hand-over beside windows. -/
def standFlds : List Fld := [.FLS_STATUS_HANDOVER, .FLS_BOOT_SRC, .FLS_BOOT_STATE, .FLS_FW_VER_VERSION, .FLS_HANDOVER_LAST_MS, .FLS_HANDOVER_COUNT,
  .FLS_HANDOVER_HANDBACKS]

theorem State.setWindow_handOn (s : State) (a : Nat) (on : Bool) : HandOn standFlds s (s.setWindow a on) := by
  unfold State.setWindow
  split_ifs
  · exact (HandOn.refl s).set (by decide) _ _ _
  · exact (HandOn.refl s).set (by decide) _ _ _
  · exact .refl s

theorem State.setWindow_reads (s : State) {a : Nat} (ha : a ≤ 1) (on : Bool) : (fun t : State =>
      (if a = 0 then t.is .FLS_XIP_FLA_EN else t.is .FLS_XIP_FLB_EN) = on) (s.setWindow a on) := by
  obtain rfl | rfl : a = 0 ∨ a = 1 := by omega
  · exact is_set_b2n s .FLS_XIP_FLA_EN on 0 0
  · exact is_set_b2n s .FLS_XIP_FLB_EN on 0 0

/-- Firmware leaves for a hand-over to `b`. -/
def State.handStarted (s : State) (h src : Nat) (b : List Byte) (boot : Bool) : State :=
  State.on { s with fw := { s.fw with hand := some { handle := h, image := b, src := src, setBoot := boot, old := s.get .FLS_BOOT_SRC } } }
    .FLS_STATUS_HANDOVER

theorem State.handStarted_reads (s : State) (h src : Nat) (b : List Byte) (boot : Bool) : (fun t : State => t.is .FLS_STATUS_HANDOVER = true ∧
      t.fw.hand = some { handle := h, image := b, src := src, setBoot := boot, old := s.get .FLS_BOOT_SRC } ∧
      t = { s with regs := t.regs, fw := t.fw } ∧ ∀ f, f ≠ .FLS_STATUS_HANDOVER → ∀ i k, t.get f i k = s.get f i k) (s.handStarted h src b boot) :=
  ⟨is_on_self _, rfl, rfl, fun _ hf _ _ => State.get_set_fld _ hf ..⟩

theorem exec_fwHandover {d : Desc} {a : Nat} {b : List Byte} (ha : Accepts s d 0x0904 [(0x10, 1), (0x11, 1), (0x12, 1), (0x14, 4), (0x18, 8)])
    (hk : d.p 0x10 1 = 0) (ha' : a = d.p 0x11 1) (ha1 : a ≤ 1) (hf : d.p 0x12 1 ≤ 1) (h0 : d.p 0x14 4 ≠ 0) (hn : d.p 0x14 4 ≤ fwMax)
    (haddr : d.p 0x18 8 = 0) (hh : s.fw.hand = none) (hm : s.get .MASH_STATUS_STATE ≠ 4) (hb : b = s.flashRd a 0x1000 (d.p 0x14 4))
    (hu : s.arrayUsed a = true) (hok : s.fwOk b = true) (hband : s.fwBand (fwVersion b) = true) : exec (.fwHandover d) s = .next (
      ((((s.startedLong d 0x0904).2.setWindow a true).checkpoint).fwLeaves).handStarted (s.startedLong d 0x0904).1 a b (bit (d.p 0x12 1) 0)) := by
  have hi : exec (.fwHandover d) s = execFwHandover d s := rfl
  unfold execFwHandover at hi
  have himg : s.handImage d = b := by
    unfold State.handImage
    dsimp only
    rw [if_neg (Nat.not_lt.2 hn), if_neg (by omega), ← ha', if_pos hu, hb]
  rw [himg] at hi
  dsimp only at hi
  have hst : (if s.fw.hand.isSome || s.get .MASH_STATUS_STATE == 4 then stBadState else if !s.fwOk b then stBadSignature
      else if !s.fwBand (fwVersion b) then stMismatch else 0) = 0 := by
    rw [hok, hband, hh, if_neg (by simpa using hm)]
    rfl
  have he := exec_long hi ha rfl rfl rfl rfl (by simpa using h0) (by simp [hk, hf, hn, haddr, ← ha', ha1]) rfl hst
  rw [if_pos hk, ← ha'] at he
  exact he

theorem fwHandover_runs {d : Desc} {a : Nat} {b : List Byte} (ha : Accepts s d 0x0904 [(0x10, 1), (0x11, 1), (0x12, 1), (0x14, 4), (0x18, 8)])
    (hk : d.p 0x10 1 = 0) (ha' : a = d.p 0x11 1) (ha1 : a ≤ 1) (hf : d.p 0x12 1 ≤ 1) (h0 : d.p 0x14 4 ≠ 0) (hn : d.p 0x14 4 ≤ fwMax)
    (haddr : d.p 0x18 8 = 0) (hh : s.fw.hand = none) (hm : s.get .MASH_STATUS_STATE ≠ 4) (hb : b = s.flashRd a 0x1000 (d.p 0x14 4))
    (hu : s.arrayUsed a = true) (hok : s.fwOk b = true) (hband : s.fwBand (fwVersion b) = true) :
    Runs (.fwHandover d) s (fun t => t.is .FLS_STATUS_HANDOVER = true ∧ t.fw.hand = some
        { handle := (s.startedLong d 0x0904).1, image := b, src := a, setBoot := bit (d.p 0x12 1) 0, old := s.get .FLS_BOOT_SRC } ∧
      (if a = 0 then t.is .FLS_XIP_FLA_EN else t.is .FLS_XIP_FLB_EN) = true ∧ t.flash = s.flash ∧ t.dram = s.dram ∧ t.kiln = s.kiln) := by
  have he := exec_fwHandover ha hk ha' ha1 hf h0 hn haddr hh hm hb hu hok hband
  have hq := (s.startedLong_serves d 0x0904).handOn
  generalize (s.startedLong d 0x0904).2 = u at he hq
  generalize (s.startedLong d 0x0904).1 = h at he
  have w3 := u.setWindow_reads ha1 true
  have hs := (hq.mono (hs := standFlds) (by decide)).trans (u.setWindow_handOn a true)
  generalize u.setWindow a true = v at he w3 hs
  have hv := v.checkpoint_handOn.trans (State.fwLeaves_handOn _)
  generalize v.checkpoint.fwLeaves = w at he hv
  obtain ⟨r1, r2, r3, r4⟩ := w.handStarted_reads h a b (bit (d.p 0x12 1) 0)
  generalize w.handStarted h a b (bit (d.p 0x12 1) 0) = t at he r1 r2 r3 r4
  have hold : w.get .FLS_BOOT_SRC = s.get .FLS_BOOT_SRC :=
    (hv.get _ (by decide) 0 0).trans (hs.get _ (by decide) 0 0)
  have hA : t.is .FLS_XIP_FLA_EN = v.is .FLS_XIP_FLA_EN := congrArg (· == 1) ((r4 _ (by decide) 0 0).trans (hv.get _ (by decide) 0 0))
  have hB : t.is .FLS_XIP_FLB_EN = v.is .FLS_XIP_FLB_EN := congrArg (· == 1) ((r4 _ (by decide) 0 0).trans (hv.get _ (by decide) 0 0))
  refine ⟨t, he, r1, by rw [r2, hold], by rw [hA, hB]; exact w3, ?_, ?_, ?_⟩
  · rw [r3]
    exact hv.flash.trans hs.flash
  · rw [r3]
    exact hv.dram.trans hs.dram
  · rw [r3]
    exact hv.kiln.trans hs.kiln

/-! ### Completing a hand-over -/

/-- Those beside windows and the pointer's state. -/
def coreFlds : List Fld := [.FLS_STATUS_HANDOVER, .FLS_BOOT_SRC, .FLS_FW_VER_VERSION, .FLS_HANDOVER_LAST_MS, .FLS_HANDOVER_COUNT,
  .FLS_HANDOVER_HANDBACKS]

/-- The window that only the old image needed is closed. -/
def State.leftWindow (s : State) (a b : Nat) : State := if a = b then s else (s.setWindow a false).caskFlush

theorem State.leftWindow_handOn (s : State) (a b : Nat) : HandOn standFlds s (s.leftWindow a b) := by
  unfold State.leftWindow
  split_ifs
  · exact .refl s
  · exact (s.setWindow_handOn a false).trans ((State.caskFlush_files _).handOn.mono (by decide))

def State.pointTo (s : State) (x : Handover) : State :=
  if x.setBoot then (s.writePointer x.src (if x.old < 2 then x.old else s.ptrActive) 1).set .FLS_BOOT_TRIES 0 else s

theorem State.pointTo_handOn (s : State) (x : Handover) : HandOn coreFlds s (s.pointTo x) := by
  unfold State.pointTo State.writePointer
  generalize (if x.old < 2 then x.old else s.ptrActive) = p
  split_ifs
  · exact ((s.caskPut_files ..).handOn.mono (by decide) |>.set (f := .FLS_BOOT_STATE) (by decide) _ _ _).set (f := .FLS_BOOT_TRIES) (by decide) _ _ _
  · exact .refl s

/-- The version of the new firmware is judged, or told. -/
def State.tellVersion (s : State) (v : Nat) : State :=
  if !s.is .BAR_STATUS_ENUMERATED then s else if s.manages then s.checkBand s.myIndex v else s.out (.wort "firmware" [s.myIndex, v])

theorem State.tellVersion_handOn (s : State) (v : Nat) : HandOn handFlds s (s.tellVersion v) := by
  unfold State.tellVersion
  split_ifs
  · exact .refl s
  · exact s.checkBand_handOn ..
  · exact (HandOn.refl s).out _

/-- The fields that tell of the new firmware. -/
def State.countHand (s : State) (ms : Nat) (x : Handover) : State :=
  (((s.bump .FLS_HANDOVER_COUNT).set .FLS_HANDOVER_LAST_MS ms).set .FLS_BOOT_SRC x.src).set .FLS_FW_VER_VERSION (fwVersion x.image)

theorem State.countHand_reads (s : State) (ms : Nat) (x : Handover) : (fun t : State => t = { s with regs := t.regs } ∧
      t.get .FLS_BOOT_SRC = x.src % 2 ^ Fld.FLS_BOOT_SRC.desc.width ∧
      t.get .FLS_FW_VER_VERSION = fwVersion x.image % 2 ^ Fld.FLS_FW_VER_VERSION.desc.width ∧
      t.get .FLS_HANDOVER_LAST_MS = ms % 2 ^ Fld.FLS_HANDOVER_LAST_MS.desc.width ∧
      t.get .FLS_HANDOVER_COUNT = min (s.get .FLS_HANDOVER_COUNT + 1) (2 ^ Fld.FLS_HANDOVER_COUNT.desc.width - 1)) (s.countHand ms x) := by
  unfold State.countHand
  refine ⟨rfl, ?_, State.get_set_same .., ?_, ?_⟩
  · exact (State.get_set_fld _ (by decide) ..).trans (State.get_set_same ..)
  · exact (State.get_set_fld _ (by decide) ..).trans ((State.get_set_fld _ (by decide) ..).trans (State.get_set_same ..))
  · exact (State.get_set_fld _ (by decide) ..).trans ((State.get_set_fld _ (by decide) ..).trans ((State.get_set_fld _ (by decide) ..).trans
      (State.get_bump_same ..)))

/-- The image of `x` runs. -/
def State.runImage (s : State) (x : Handover) : State := { s with fw := { s.fw with image := x.image, settings := true, booted := false } }

/-- The new firmware runs and the hand-over is over. -/
def State.handed (s : State) (x : Handover) : State :=
  (((s.runImage x).leftWindow x.old x.src).pointTo x).handEnd

theorem State.runImage_reads (s : State) (x : Handover) : (s.runImage x).fw.image = x.image ∧ (s.runImage x).fwDue = s.fwDue ∧
    (s.runImage x).flash = s.flash ∧ ∀ f i k, (s.runImage x).get f i k = s.get f i k := ⟨rfl, rfl, rfl, fun _ _ _ => rfl⟩

theorem State.handed_reads {s : State} (h : s.fwDue = []) (x : Handover) : (fun t : State => t.fw.hand = none ∧ t.fw.image = x.image ∧
      t.flash = s.flash ∧ t.is .FLS_STATUS_HANDOVER = false ∧ (∀ f ∈ coreFlds, f ≠ .FLS_STATUS_HANDOVER → t.get f 0 0 = s.get f 0 0)) (s.handed x) := by
  unfold State.handed
  obtain ⟨r1, r2, r3, r4⟩ := s.runImage_reads x
  generalize s.runImage x = u at r1 r2 r3 r4
  have h1 := ((u.leftWindow_handOn x.old x.src).mono (hs := coreFlds) (by decide)).trans (State.pointTo_handOn _ x)
  generalize (u.leftWindow x.old x.src).pointTo x = v at h1
  have h2 := State.handEnd_reads (s := v) (h1.waits.trans (r2.trans h))
  obtain ⟨e1, e2, e3, e4, e5⟩ := v.handOver_reads
  generalize v.handEnd = t at h2
  generalize v.handOver = w at h2 e1 e2 e3 e4 e5
  refine ⟨h2.hand.trans e1, h2.image.trans (e3.trans (h1.image.trans r1)), h2.flash.trans (e4.trans (h1.flash.trans r3)),
    (h2.is (by decide) 0 0).trans e2, fun f hf hne => ?_⟩
  have hsub : coreFlds ⊆ handFlds := by decide
  exact (h2.get f (hsub hf) 0 0).trans ((e5 f hne 0 0).trans ((h1.get f hf 0 0).trans (r4 f 0 0)))

theorem exec_handoverFreeze {ms own fault : Nat} {l : List Nat} {x : Handover} (hx : s.fw.hand = some x) (hms : ms ≤ 200) :
    exec (.handoverFreeze ms own l fault none) s = .next (
      let r := (s.countHand ms x).readSettings own l fault
      if r.1 ≠ 0 then s.handBack x 2 else ((r.2.handed x).tellVersion (fwVersion x.image)).done x.handle (fwVersion x.image)) := by
  have hi : exec (.handoverFreeze ms own l fault none) s = execHandoverFreeze ms own l fault s none := rfl
  unfold execHandoverFreeze at hi
  rw [hx] at hi
  refine exec_of hi ((State.when_of s _ (decide_eq_true hms)).trans ?_)
  change (if ((s.countHand ms x).readSettings own l fault).1 ≠ 0 then _ else _) = _
  rfl

/-- Settings read with a cause hand back. -/
theorem handoverFreeze_back {ms own fault : Nat} {l : List Nat} {x : Handover} (hx : s.fw.hand = some x) (hms : ms ≤ 200)
    (hu : s.arrayUsed 0 = true ∨ s.arrayUsed 1 = true) (hc : (s.settingsOf own l).1 = 0 ∨ fault = 2 ∨ fault = 3) :
    Runs (.handoverFreeze ms own l fault none) s (fun t => t = s.handBack x 2) := by
  have hne : ((s.countHand ms x).readSettings own l fault).1 ≠ 0 := by
    rw [((s.countHand ms x).readSettings_reads own l fault).1]
    change s.settingsCause own l fault ≠ 0
    unfold State.settingsCause
    rw [if_neg (by rcases hu with h | h <;> simp [h])]
    split_ifs <;> omega
  exact ⟨_, exec_of (exec_handoverFreeze hx hms) (if_pos hne), rfl⟩

theorem handoverFreeze_runs {ms own fault : Nat} {l : List Nat} {x : Handover} (hx : s.fw.hand = some x) (hdue : s.fwDue = []) (hms : ms ≤ 200)
    (hc : (s.arrayUsed 0 = false ∧ s.arrayUsed 1 = false) ∨ ((s.settingsOf own l).1 ≠ 0 ∧ fault ≠ 2 ∧ fault ≠ 3)) :
    Runs (.handoverFreeze ms own l fault none) s (fun t => t.get .FLS_BOOT_SRC = x.src % 2 ^ Fld.FLS_BOOT_SRC.desc.width ∧
      t.get .FLS_FW_VER_VERSION = fwVersion x.image % 2 ^ Fld.FLS_FW_VER_VERSION.desc.width ∧
      t.get .FLS_HANDOVER_LAST_MS = ms % 2 ^ Fld.FLS_HANDOVER_LAST_MS.desc.width ∧
      t.get .FLS_HANDOVER_COUNT = min (s.get .FLS_HANDOVER_COUNT + 1) (2 ^ Fld.FLS_HANDOVER_COUNT.desc.width - 1) ∧
      t.is .FLS_STATUS_HANDOVER = false ∧ t.fw.hand = none ∧ t.fw.image = x.image ∧ t.flash = s.flash) := by
  have hz : ((s.countHand ms x).readSettings own l fault).1 = 0 := by
    rw [((s.countHand ms x).readSettings_reads own l fault).1]
    change s.settingsCause own l fault = 0
    unfold State.settingsCause
    rcases hc with ⟨h0, h1⟩ | ⟨h0, h2, h3⟩
    · rw [if_pos (by rw [h0, h1]; rfl)]
    · rw [if_neg h0, if_neg (show ¬ (fault = 2 ∨ fault = 3) by omega), ite_self]
  have he := exec_of (exec_handoverFreeze (own := own) (l := l) (fault := fault) hx hms) (if_neg (not_not.2 hz))
  obtain ⟨-, hr, -⟩ := (s.countHand ms x).readSettings_reads own l fault
  obtain ⟨c1, c2, c3, c4, c5⟩ := s.countHand_reads ms x
  have hcd : (s.countHand ms x).fwDue = [] := by
    rw [c1]
    exact hdue
  have hcf : (s.countHand ms x).flash = s.flash := by rw [c1]
  generalize s.countHand ms x = u at he hr c2 c3 c4 c5 hcd hcf
  have hr := hr.handOn
  generalize (u.readSettings own l fault).2 = v at he hr
  obtain ⟨h1, h2, h3, h4, h5⟩ := State.handed_reads (hr.waits.trans hcd) x
  generalize v.handed x = w at he h1 h2 h3 h4 h5
  have hd := (w.tellVersion_handOn (fwVersion x.image)).trans (State.done_serves _ x.handle (fwVersion x.image)).handOn
  generalize (w.tellVersion (fwVersion x.image)).done x.handle (fwVersion x.image) = t at he hd
  have hg : ∀ f ∈ coreFlds, f ≠ .FLS_STATUS_HANDOVER → t.get f = u.get f := fun f hf hne =>
    have hsub : coreFlds ⊆ handFlds := by decide
    (hd.get f (hsub hf) 0 0).trans ((h5 f hf hne).trans (hr.get f (hsub hf) 0 0))
  exact ⟨t, he, (hg _ (by decide) (by decide)).trans c2, (hg _ (by decide) (by decide)).trans c3, (hg _ (by decide) (by decide)).trans c4,
    (hg _ (by decide) (by decide)).trans c5, (hd.is (by decide) 0 0).trans h4, hd.hand.trans h1, hd.image.trans h2,
    hd.flash.trans (h3.trans (hr.flash.trans hcf))⟩

/-! ### Handing back -/

def State.backCounted (s : State) (x : Handover) : State :=
  ((s.resetMgmt Reg.handed).leftWindow x.src x.old).bump .FLS_HANDOVER_HANDBACKS

theorem State.handBack_eq (s : State) (x : Handover) (n : Nat) : s.handBack x n = (s.backCounted x).handEnd.finish x.handle stCheckFailed 0 n := rfl

theorem State.handBack_reads {s : State} {x : Handover} (n : Nat) (hdue : s.fwDue = []) : (fun t : State => t.is .FLS_STATUS_HANDOVER = false ∧
      t.fw.hand = none ∧ t.fw.image = s.fw.image ∧
      t.get .FLS_HANDOVER_HANDBACKS = min (s.get .FLS_HANDOVER_HANDBACKS + 1) (2 ^ Fld.FLS_HANDOVER_HANDBACKS.desc.width - 1) ∧
      t.get .FLS_BOOT_STATE = s.get .FLS_BOOT_STATE ∧ t.flash = s.flash) (s.handBack x n) := by
  rw [State.handBack_eq]
  unfold State.backCounted
  have h1 := (s.resetMgmt_handOn.mono (hs := standFlds) (by decide)).trans (State.leftWindow_handOn _ x.src x.old)
  generalize (s.resetMgmt Reg.handed).leftWindow x.src x.old = u at h1
  have hu : (u.bump .FLS_HANDOVER_HANDBACKS).fwDue = [] := h1.waits.trans hdue
  have h2 := (State.handEnd_reads hu).trans (State.finish_serves _ x.handle stCheckFailed 0 n).handOn
  obtain ⟨e1, e2, e3, e4, e5⟩ := (u.bump .FLS_HANDOVER_HANDBACKS).handOver_reads
  refine ⟨(h2.is (by decide) 0 0).trans e2, h2.hand.trans e1, h2.image.trans (e3.trans h1.image), ?_, ?_, h2.flash.trans (e4.trans h1.flash)⟩
  · exact (h2.get _ (by decide) 0 0).trans ((e5 _ (by decide) 0 0).trans ((State.get_bump_same ..).trans (by rw [h1.get _ (by decide)])))
  · exact (h2.get _ (by decide) 0 0).trans ((e5 _ (by decide) 0 0).trans ((State.get_bump_fld _ (by decide) ..).trans (h1.get _ (by decide) 0 0)))

/-! ### Versions told -/

theorem bit_putBit_self (n i : Nat) (b : Bool) : bit (putBit n i b) i = b := by
  rw [bit, testBit_putBit, if_pos rfl]

theorem State.checkBand_reads (s : State) (i v : Nat) : ∀ x, s.dev i = some x → ∃ y, (s.checkBand i v).dev i = some y ∧ y.fw = v ∧
    bit y.cause hFW = ((s.bind i).bound && !decide ((s.bind i).fwMin ≤ v ∧ v ≤ (s.bind i).fwMax)) := by
  intro x hx
  have hi := State.dev_index hx
  have hp : (s.putDev { x with fw := v }).dev i = some { x with fw := v } := by
    rw [← hi] at hx ⊢
    exact State.dev_putDev (x := { x with fw := v }) hx
  have he : s.checkBand i v = (s.putDev { x with fw := v }).causeBit i hFW ((s.bind i).bound && !decide ((s.bind i).fwMin ≤ v ∧ v ≤ (s.bind i).fwMax)) := by
    unfold State.checkBand
    rw [hx]
  rw [he]
  exact ⟨_, (State.causeBit_reads hp hFW _).2, rfl, bit_putBit_self ..⟩

end

/-- Settles O53: it holds. Booting changes the firmware and its fields only (`Boots`), the Cask grows by records that show their wear (`Files`), and
through checkpoints, resets of the management domain and judgements of versions a hand-over stands as it did (`HandOn`). -/
theorem firmware : Obligations.Firmware := by
  unfold Obligations.Firmware
  refine ⟨?host, ?array, ?trial, ?fallBack, ?hostLoad, ?wort, ?commit, ?commitFails, ?settle, ?settleFails, ?migrate, ?confirm, ?confirmAway, ?startOver,
    ?xip, ?xipNone, ?handover, ?freeze, ?freezeBack, ?told, ?timeout, ?timeoutReads⟩
  case host => exact fun s h1 h2 h3 hb => bootRom_host h1 h2 h3 hb
  case array => exact fun s a h1 h2 h3 hb hp ha hf => bootRom_array h1 h2 h3 hb hp ha hf
  case trial => exact fun s r h1 h2 h3 hb hp ht hn => bootRom_try h1 h2 h3 hb hp ht hn
  case fallBack => exact fun s r h1 h2 h3 hb hp ht hn => bootRom_fallBack h1 h2 h3 hb hp ht hn
  case hostLoad => exact fun s n len hr ho hn hmax h0 hl hlen hd1 hp1 hd2 hp2 hf => hostLoad_runs hr ho hn hmax h0 hl hlen hd1 hp1 hd2 hp2 hf
  case wort =>
    intro s p mash last bs hp hup h1 h2 h3 h4 h5 h6 hm hd
    have he := exec_wortImageLoad bs last hp hup h1 h2 h3 h4 h5 h6 hm hd
    refine ⟨_, he, ?_, ?_, ?_⟩
    · rintro rfl
      rfl
    · rintro rfl rfl
      rfl
    · rintro rfl rfl hf
      have hok : State.fwOk { s with fw := { s.fw with wortFrom := some p, wortMash := s.fw.wortMash ++ bs } } s.fw.wortFw = true := hf
      dsimp only
      rw [if_neg (by decide), if_neg (by decide), if_pos hok]
      obtain ⟨r1, r2, -, r4, r5, -⟩ := State.takeOver_reads { s with fw := { s.fw with wortFrom := some p, wortMash := s.fw.wortMash ++ bs } }
        s.fw.wortFw (s.fw.wortMash ++ bs) (show 3 < 4 by decide)
      exact ⟨r1, r2, r4, r5⟩
  case commit => exact fun s own fault l h1 h2 h3 ha hb hi => bootImageCommit_runs h1 h2 h3 ha hb hi
  case commitFails => exact fun s own fault l h1 h2 h3 ha hf => bootImageCommit_fails h1 h2 h3 ha hf
  case settle => exact fun s h1 h2 h3 hc hi => bootSettle_runs h1 h2 h3 hc hi
  case settleFails => exact fun s h1 h2 h3 hc hd => bootSettle_fails h1 h2 h3 hc hd
  case migrate => exact fun s h1 h2 h3 => caskMigration_runs h1 h2 h3
  case confirm =>
    rintro s u d h ha hm hs hw rfl hu
    exact caskConfirm_runs ha hm hs hw hu
  case confirmAway => exact fun s d ha hm hs hw => caskConfirm_away ha hm hs hw
  case startOver => exact fun s d ha hw hm h1 h3 hi hf hr => caskConfirm_startOver ha hw hm h1 h3 hi hf hr
  case xip => exact fun s v hr => xipWrite_runs v hr
  case xipNone => exact fun s v => ⟨_, rfl, rfl⟩
  case handover =>
    rintro s d a h b ha hk ha' ha1 hf h0 hn haddr hh hm hb hu hok hband rfl
    exact fwHandover_runs ha hk ha' ha1 hf h0 hn haddr hh hm hb hu hok hband
  case freeze => exact fun s ms own fault l x hx hdue hms hc => handoverFreeze_runs hx hdue hms hc
  case freezeBack => exact fun s ms own fault l x hx hms hu hc => handoverFreeze_back hx hms hu hc
  case told =>
    intro s ms own fault i v l hm hw
    have hi : exec (.handoverFreeze ms own l fault (some (i, v))) s = .next (s.when (s.manages && !s.fwAway) (fun s => s.checkBand i v)) := rfl
    exact ⟨_, exec_when hi (by rw [hm, hw]; rfl), rfl, s.checkBand_reads i v⟩
  case timeout =>
    intro s x hx
    have hi : exec .handoverTimeout s = execHandoverTimeout s := rfl
    unfold execHandoverTimeout at hi
    rw [hx] at hi
    exact ⟨_, hi, rfl⟩
  case timeoutReads =>
    intro s x hx hdue
    have hi : exec .handoverTimeout s = execHandoverTimeout s := rfl
    unfold execHandoverTimeout at hi
    rw [hx] at hi
    exact ⟨_, hi, State.handBack_reads 1 hdue⟩

end Sys2Proof.Machine
end

section
/-! PROOF. Work in the background. -/

namespace Sys2Proof.Machine

-- One lemma after the other: elaborated side by side, they ask for more threads than the compile may have.
set_option Elab.async false

/-! ## Work in the background -/

/-! ### Recalibration -/

section
variable {s : State} {c : Nat}

theorem recalibration_head (hc : c < 64) (hp : s.powered c = true) (hu : s.uses .headPort c = true) (hf : s.fenced 1 c = false) (v : Int)
    (g : List (List Nat)) : exec (.recalibration 0 c v g) s = .next (if 8 < v.natAbs then s.telEvent 0x000A c else s.calibrate c v) :=
  exec_when (i := .recalibration 0 c v g) (s := s) rfl (by rw [decide_eq_true hc, hp, hu, hf]; rfl)

theorem recalibration_glass (hp : s.powered 123 = true) (hu : s.uses .sightGlass 0 = true) (hc : c < 64) (hf : s.fenced 9 c = false) (v : Int)
    (g : List (List Nat)) : exec (.recalibration 1 c v g) s = .next (if 100 < v.natAbs then s.telEvent 0x000B c else
      (s.calibrate (64 + c) v).takeCalib (64 + c) 1) :=
  exec_when (i := .recalibration 1 c v g) (s := s) rfl (by rw [decide_eq_true hc, hp, hu, hf]; rfl)

theorem recalibration_ddr (hc : c < 6) (hd : s.ddrServes c = true) (v : Int) (g : List (List Nat)) :
    exec (.recalibration 2 c v g) s = .next (s.calibrate (128 + c) (clampInt (-1) 1 v)) :=
  exec_when (i := .recalibration 2 c v g) (s := s) rfl (by rw [decide_eq_true hc, hd]; rfl)

theorem recalibration_sensor (hc : c < 40) (hp : s.powered 130 = true) (v : Int) (g : List (List Nat)) :
    exec (.recalibration 3 c v g) s = .next (s.calibrate (192 + c) (clampInt (-16) 16 v)) :=
  exec_when (i := .recalibration 3 c v g) (s := s) rfl (by rw [decide_eq_true hc, hp]; rfl)

theorem clampInt_within {lo hi : Int} (h : lo ≤ hi) (v : Int) : lo ≤ clampInt lo hi v ∧ clampInt lo hi v ≤ hi ∧
    (lo ≤ v → v ≤ hi → clampInt lo hi v = v) := by
  unfold clampInt
  split_ifs <;> omega

/-- The state with a new shadow table of camera `x`. -/
def State.shadowed (s : State) (x : Nat) (g : List (List Nat)) : State :=
  (s.setCam x { s.cam x with shadow := some (g.map (fun l => l.map (trunc 16))) }).showShadow (s.pipeOf x)

theorem recalibration_shade {x : Nat} (hx : x < 8) (hp : s.powered (114 + s.pipeOf x) = true) (h1 : s.hasSect 0x0041 (s.pipeOf x) = true)
    (h2 : s.hasSect 0x0040 x = true) (hf : s.fenced 7 x = false) (hb : bit (s.get .ISP_RECAL_PORT (s.pipeOf x)) x = true)
    (hs : s.get .ISP_SHADOW_CTRL_PORT (s.pipeOf x) = x) (v : Int) (g : List (List Nat)) :
    exec (.recalibration 4 x v g) s = .next (s.shadowed x g) :=
  (exec_when (i := .recalibration 4 x v g) (s := s) rfl (by rw [decide_eq_true hx, hp, h1, h2, hf, hb, hs, beq_self_eq_true]; rfl)).trans rfl

theorem State.shadowed_reads (s : State) (x : Nat) (g : List (List Nat)) : (fun t : State =>
      t.cam x = { s.cam x with shadow := some (g.map (fun l => l.map (trunc 16))) } ∧ (∀ y, y ≠ x → t.cam y = s.cam y) ∧ t.calib = s.calib ∧
      t = { s with cams := t.cams, regs := t.regs }) (s.shadowed x g) :=
  ⟨look_store_same .., fun _ hy => look_store_ne _ _ _ hy, rfl, rfl⟩

end

/-! ### The identity of a head -/

/-- The head record and the firing counts of channel `c`, its identity, the Kiln and the flash stay. -/
structure KeepsHead (c : Nat) (s t : State) : Prop where
  heads : t.heads = s.heads
  shots : t.shots = s.shots
  headId : (t.chan c).headId = (s.chan c).headId
  kiln : t.kiln = s.kiln
  flash : t.flash = s.flash

namespace KeepsHead
variable {c : Nat} {s t u : State}

theorem refl (c : Nat) (s : State) : KeepsHead c s s := ⟨rfl, rfl, rfl, rfl, rfl⟩

theorem trans (h : KeepsHead c s t) (h' : KeepsHead c t u) : KeepsHead c s u :=
  ⟨h'.heads.trans h.heads, h'.shots.trans h.shots, h'.headId.trans h.headId, h'.kiln.trans h.kiln, h'.flash.trans h.flash⟩

theorem set (h : KeepsHead c s t) (f : Fld) (v i k : Nat) : KeepsHead c s (t.set f v i k) := h.trans ⟨rfl, rfl, rfl, rfl, rfl⟩

theorem out (h : KeepsHead c s t) (o : Out) : KeepsHead c s (t.out o) := h.trans ⟨rfl, rfl, rfl, rfl, rfl⟩

theorem setGrav (h : KeepsHead c s t) (n : Nat) (g : Grav) : KeepsHead c s (t.setGrav n g) := h.trans ⟨rfl, rfl, rfl, rfl, rfl⟩

theorem setTable (h : KeepsHead c s t) (n : Nat) (l : List Nat) : KeepsHead c s (t.setTable n l) := h.trans ⟨rfl, rfl, rfl, rfl, rfl⟩

theorem setChan (h : KeepsHead c s t) {x : Chan} (hx : x.headId = (t.chan c).headId) : KeepsHead c s (t.setChan c x) :=
  h.trans ⟨rfl, rfl, (congrArg Chan.headId (t.chan_setChan c x)).trans hx, rfl, rfl⟩

end KeepsHead

theorem State.keepsHead_noteCoverage (c : Nat) (s : State) : KeepsHead c s s.noteCoverage := by
  have hf := s.noteCoverage_reports.frame
  unfold ReportFrame at hf
  rw [hf]
  exact ⟨rfl, rfl, rfl, rfl, rfl⟩

theorem State.keepsHead_rejoinDevice (s : State) (c : Nat) : KeepsHead c s (s.rejoinDevice c) := (KeepsHead.refl c s).setChan rfl

theorem State.keepsHead_setBound (s : State) (c : Nat) (b : Bool) : KeepsHead c s (s.setBound c b) := by
  unfold State.setBound
  extract_lets was s1 s2 s3 s4
  have h3 : KeepsHead c s s3 := ⟨rfl, rfl, rfl, rfl, rfl⟩
  have h4 : KeepsHead c s s4 := by
    refine KeepsHead.trans ?_ (State.keepsHead_noteCoverage c _)
    split_ifs
    · exact h3.trans (s3.keepsHead_rejoinDevice c)
    · exact h3
  split_ifs
  · exact (h4.set ..).out _
  · exact h4

theorem State.keepsHead_sramWr (s : State) (c a : Nat) (bs : List Byte) : KeepsHead c s (s.sramWr c a bs) := (KeepsHead.refl c s).setChan rfl

theorem State.keepsHead_writeBank (s : State) (c b : Nat) (map : List Nat) (param : List Byte) (curves : List (Nat × List Byte)) :
    KeepsHead c s (s.writeBank c b map param curves) := by
  unfold State.writeBank
  extract_lets s1 s2 size
  have h1 : KeepsHead c s s1 := List.foldlRecOn (motive := fun u : State => KeepsHead c s u) curves _ (.refl c s)
    fun u hu k _ => hu.trans (u.keepsHead_sramWr ..)
  exact (h1.trans (s1.keepsHead_sramWr ..)).trans (s2.keepsHead_sramWr ..)

theorem State.keepsHead_prepGravity (s : State) (c : Nat) : KeepsHead c s (s.prepGravity c) := by
  unfold State.prepGravity
  extract_lets ch t n old free pick new curves size param s1 s2
  split_ifs
  · exact .refl c s
  · exact .refl c s
  · have h1 : KeepsHead c s s1 := s.keepsHead_writeBank ..
    exact (h1.setGrav ..).setChan rfl

theorem State.keepsHead_rebuildGravity (s : State) (c y : Nat) : KeepsHead c s (s.rebuildGravity c y) := by
  unfold State.rebuildGravity
  extract_lets t new mask s1 g s2
  split_ifs
  · exact .refl c s
  · have h2 : KeepsHead c s s2 := ((KeepsHead.refl c s).setTable ..).setGrav ..
    exact (h2.setChan (x := { s2.chan c with gravLate := (y, mask) }) rfl).trans (State.keepsHead_prepGravity ..)

theorem State.keepsHead_freshTable (s : State) (c : Nat) : KeepsHead c s (s.freshTable c) := ((KeepsHead.refl c s).setTable ..).setGrav ..

theorem State.keepsHead_startChannel (s : State) (c : Nat) : KeepsHead c s (s.startChannel c) := by
  unfold State.startChannel
  extract_lets id n ram s1
  have h1 : KeepsHead c s s1 := by
    unfold s1
    split_ifs
    · exact (((KeepsHead.refl c s).setGrav ..).setTable ..).trans (State.keepsHead_setBound ..)
    · split
      · split_ifs
        · exact (((KeepsHead.refl c s).setTable ..).setGrav ..).trans (State.keepsHead_setBound ..)
        · exact (s.keepsHead_freshTable c).trans (State.keepsHead_setBound ..)
      · exact (s.keepsHead_freshTable c).trans (State.keepsHead_setBound ..)
  exact h1.trans (s1.keepsHead_rebuildGravity ..)

theorem Files.keepsHead {s t : State} (h : Files s t) (c : Nat) : KeepsHead c s t := by
  rw [h.frame]
  exact ⟨rfl, rfl, rfl, rfl, rfl⟩

theorem look_zeroed (t : List (Nat × Nat)) (a m n : Nat) : look 0 ((List.range m).foldl (fun t k => store 0 t (a + k) (([] : List Nat).getD k 0)) t) (a + n) =
    if n < m then 0 else look 0 t (a + n) := by
  induction m with
  | zero => rfl
  | succ m ih =>
    rw [List.range_succ, List.foldl_append, List.foldl_cons, List.foldl_nil]
    by_cases hn : n = m
    · subst hn
      rw [look_store_same, if_pos (Nat.lt_succ_self n)]
      rfl
    · rw [look_store_ne _ _ _ (by omega : a + n ≠ a + m), ih]
      exact if_congr (by omega) rfl rfl

theorem State.putCounts_kept (s : State) (c : Nat) (l : List Nat) : (s.putCounts c l).heads = s.heads ∧ (s.putCounts c l).chans = s.chans ∧
    (s.putCounts c l).kiln = s.kiln ∧ (s.putCounts c l).flash = s.flash := by
  unfold State.putCounts
  dsimp only
  exact ⟨rfl, rfl, rfl, rfl⟩

theorem State.putCounts_zero (s : State) (c : Nat) {n : Nat} (hn : n < 2560) : look 0 (s.putCounts c []).shots (2560 * c + n) = 0 := by
  unfold State.putCounts
  dsimp only
  rw [look_zeroed, if_pos hn]

/-- The record of a head not seen before starts at zero. -/
theorem State.newHead_zero (s : State) (c id : Nat) : (fun t : State => (look {} t.heads c).id = id ∧ (look {} t.heads c).lines = 0 ∧
      (∀ n, n < 2560 → look 0 t.shots (2560 * c + n) = 0) ∧ t.chans = s.chans ∧ t.kiln = s.kiln ∧ t.flash = s.flash) (s.newHead c id false) := by
  unfold State.newHead
  extract_lets since zero
  rw [if_pos (show (!false || decide (id = 0)) = true from rfl)]
  have hz : ∀ n, n < 2560 → look 0 zero.shots (2560 * c + n) = 0 := by
    intro n hn
    unfold zero
    exact State.putCounts_zero _ c hn
  have hl : ∀ x : HeadRec, look {} (store {} s.heads c x) c = x := fun x => look_store_same ..
  obtain ⟨k1, k2, k3, k4⟩ := State.putCounts_kept { s with heads := store {} s.heads c { id := id, since := since } } c []
  refine ⟨?_, ?_, hz, k2, k3, k4⟩
  · exact (congrArg (fun t => (look {} t c).id) k1).trans (congrArg HeadRec.id (hl _))
  · exact (congrArg (fun t => (look {} t c).lines) k1).trans (congrArg HeadRec.lines (hl _))

/-- The state after the counts of the head seen before, if any, were saved. -/
def State.headSaved (s : State) (c : Nat) : State :=
  if s.headSeen c then s.caskSave 6 0 (s.headRecord c ++ (s.counts c (s.chNozzles c)).flatMap (leBytes 8)) else s

theorem State.keepsHead_headSaved (s : State) (c : Nat) : KeepsHead c s (s.headSaved c) := by
  unfold State.headSaved
  split_ifs
  · exact (s.caskPut_files ..).keepsHead c
  · exact .refl c s

section
variable {s : State} {c id : Nat} {l : List (List (Bool × Bool))}

/-- Head `id` is in channel `c`: the same head, or another, whose record starts. -/
def State.identified (s : State) (c id : Nat) : State :=
  let t := s.setChan c { s.chan c with headId := id }
  if (look {} s.heads c).id = id ∧ t.headSeen c ∧ id ≠ 0 then t else (t.headSaved c).newHead c id ((s.chan c).headId == 0)

theorem exec_headIdRead (hc : c < 64) (hp : s.powered c = true) (he : s.is .FIRE_CH_STATUS_ENABLED c = true) (hi : idOf l = some id) :
    exec (.headIdRead c l) s = .next (if (s.identified c id).gravOn c then (s.identified c id).startChannel c else s.identified c id) := by
  have h := exec_when (i := .headIdRead c l) (s := s) rfl (by rw [decide_eq_true hc, hp, he]; rfl)
  rw [hi] at h
  exact h

theorem State.identified_same (h0 : id ≠ 0) (hs : s.headSeen c = true) (hh : (look {} s.heads c).id = id) :
    s.identified c id = s.setChan c { s.chan c with headId := id } := if_pos ⟨hh, hs, h0⟩

theorem State.identified_new (hh : (look {} s.heads c).id ≠ id) (hb : (s.chan c).headId ≠ 0) : (fun t : State =>
      (look {} t.heads c).id = id ∧ (look {} t.heads c).lines = 0 ∧ (∀ n, n < 2560 → look 0 t.shots (2560 * c + n) = 0) ∧
      (t.chan c).headId = id ∧ t.kiln = s.kiln ∧ t.flash = s.flash) (s.identified c id) := by
  unfold State.identified
  extract_lets _ t
  rw [if_neg (fun h => hh h.1), beq_eq_false_iff_ne.2 hb]
  have ht : (t.chan c).headId = id := congrArg Chan.headId (s.chan_setChan c _)
  have hk : KeepsHead c t (t.headSaved c) := t.keepsHead_headSaved c
  obtain ⟨n1, n2, n3, n4, n5, n6⟩ := (t.headSaved c).newHead_zero c id
  exact ⟨n1, n2, n3, (congrArg (fun l => (look {} l c).headId) n4 :).trans (hk.headId.trans ht), n5.trans hk.kiln, n6.trans hk.flash⟩

theorem headIdRead_new (hc : c < 64) (hp : s.powered c = true) (he : s.is .FIRE_CH_STATUS_ENABLED c = true) (hi : idOf l = some id)
    (hh : (look {} s.heads c).id ≠ id) (hb : (s.chan c).headId ≠ 0) :
    Runs (.headIdRead c l) s (fun t => (look {} t.heads c).id = id ∧ (look {} t.heads c).lines = 0 ∧
      (∀ n, n < 2560 → look 0 t.shots (2560 * c + n) = 0) ∧ (t.chan c).headId = id ∧ t.kiln = s.kiln ∧ t.flash = s.flash) := by
  have h := exec_headIdRead hc hp he hi
  have hi := State.identified_new hh hb
  generalize s.identified c id = u at h hi
  obtain ⟨n1, n2, n3, n4, n5, n6⟩ := hi
  have hw : KeepsHead c u (if u.gravOn c then u.startChannel c else u) := by
    split_ifs
    · exact u.keepsHead_startChannel c
    · exact .refl c u
  refine ⟨_, h, ?_⟩
  generalize (if u.gravOn c then u.startChannel c else u) = w at hw
  exact ⟨by rw [hw.heads, n1], by rw [hw.heads, n2], by rw [hw.shots]; exact n3, hw.headId.trans n4, hw.kiln.trans n5, hw.flash.trans n6⟩

/-- Reads without an identity leave the head as it is. -/
theorem headIdRead_none (c : Nat) (hi : idOf l = none) : exec (.headIdRead c l) s = .next s := by
  refine exec_of (i := .headIdRead c l) (s := s) rfl ?_
  unfold State.when
  split_ifs
  · rw [hi]
  · rfl

theorem idOf_silent (hl : l.length = 3) (h : ∀ r ∈ l, idOk r = none) : idOf l = some 0 := by
  unfold idOf
  rw [List.take_of_length_le hl.le, List.filterMap_eq_nil_iff.2 h]
  exact if_pos hl.ge

/-! ### Checkpoints and counts -/

theorem State.checkpoint_here (h1 : s.is .FLS_STATUS_READY = true) (h2 : s.fwAway = false) (h3 : s.get .CASK_STATUS_STATE ≠ 0)
    (h4 : s.get .CASK_STATUS_STATE ≠ 4) : s.checkpoint = s.saveCounts.telEvent 0x000D 0 := by
  unfold State.checkpoint
  dsimp only
  rw [h1, h2, if_neg (by decide), if_neg (by decide), if_neg (by tauto)]

theorem State.checkpoint_away (h1 : s.is .FLS_STATUS_READY = true) (h2 : s.fwAway = true) :
    s.checkpoint = { s with fw := { s.fw with ckptDue := true } } := by
  unfold State.checkpoint
  dsimp only
  rw [h1, h2, if_neg (by decide), if_pos rfl]

theorem Serves.headRecord {t : State} (h : Serves s t) (c : Nat) : t.headRecord c = s.headRecord c := by
  rw [h.frame]
  rfl

theorem Serves.counts {t : State} (h : Serves s t) (c n : Nat) : t.counts c n = s.counts c n := by
  rw [h.frame]
  rfl

theorem Serves.countedLine {t : State} (h : Serves s t) (c : Nat) : t.countedLine c = s.countedLine c := by
  rw [h.frame]
  rfl

theorem fireCountsRead_reads {d : Desc} {n : Nat} (ha : Accepts s d 0x0302 [(0x10, 1), (0x11, 1), (0x12, 2), (0x14, 2), (0x18, 8)])
    (hc : c = d.p 0x10 1) (hn : n = d.p 0x14 2) (h64 : c < 64) (h0 : n ≠ 0) (hb : d.p 0x18 8 % 64 = 0)
    (hk : d.p 0x11 1 = 0 ∧ d.p 0x12 2 + n ≤ s.chNozzles c ∨ d.p 0x11 1 = 1 ∧ d.p 0x12 2 = 0 ∧ n = 1) :
    exec (.fireCountsRead d) s = .next (State.done { (s.startedLong d 0x0302).2 with
      hostMem := Memory.wrs (s.startedLong d 0x0302).2.hostMem (d.p 0x18 8) (if d.p 0x11 1 = 0 then
        (((s.counts c 2560).drop (d.p 0x12 2)).take n).flatMap (leBytes 8) else s.headRecord c) } (s.startedLong d 0x0302).1
      (s.countedLine c % 2 ^ 32)) := by
  subst hc hn
  have hi : exec (.fireCountsRead d) s = execFireCountsRead d s := rfl
  unfold execFireCountsRead at hi
  dsimp only at hi
  have he := exec_long hi ha rfl rfl rfl rfl rfl (by rcases hk with ⟨k, h⟩ | ⟨k, h, h'⟩ <;> simp [*]) (by simpa using h0) rfl
  have hq := s.startedLong_serves d 0x0302
  generalize (s.startedLong d 0x0302).2 = u at he hq ⊢
  rw [hq.counts, hq.headRecord, hq.countedLine] at he
  exact he

end

theorem State.headRecord_length (s : State) (c : Nat) : (s.headRecord c).length = 64 := by
  unfold State.headRecord
  simp only [List.length_append, length_leBytes, List.length_replicate]

/-! ### Telemetry -/

section
variable {s : State} {i v : Nat}

/-- The sensor's new reading is shown, and the highest of its readings. -/
def State.tempRead (s : State) (i v : Nat) : State :=
  let s := s.takeCalib (192 + i) 1
  let v := toSigned 16 v
  let s := s.seti .TEL_TEMP_NOW v 0 i
  s.seti .TEL_TEMP_MAX (max v (s.geti .TEL_TEMP_MAX 0 i)) 0 i

theorem telemetrySample_sensor (hp : s.powered 130 = true) (hi : i < 40) (v : Nat) : exec (.telemetrySample false i v) s = .next (
    let t := s.tempRead i v
    let limit : Int := 8 * t.get .TEL_TWARN_DEG
    if limit < toSigned 16 v && !bit t.hotMask i then State.telEvent { t with hotMask := setBit t.hotMask i } 0x0008 i
    else if toSigned 16 v ≤ limit - 40 then { t with hotMask := clrBit t.hotMask i } else t) :=
  (exec_when (i := .telemetrySample false i v) (s := s) rfl (by rw [hp]; simpa using hi)).trans rfl

theorem toSigned_lt (w n : Nat) : toSigned (w + 1) n < 2 ^ w ∧ -2 ^ w ≤ toSigned (w + 1) n := by
  have h : n % 2 ^ (w + 1) < 2 ^ (w + 1) := Nat.mod_lt _ (Nat.two_pow_pos _)
  have hc : ((2 ^ w : Nat) : Int) = (2 : Int) ^ w := by norm_cast
  unfold toSigned
  rw [Nat.add_sub_cancel, ← hc]
  rw [Nat.pow_succ] at *
  split_ifs <;> omega

theorem State.tempRead_reads (s : State) (i : Nat) {v : Nat} (h1 : -16384 ≤ toSigned 16 v) (h2 : toSigned 16 v < 16384) : (fun t : State =>
      t.geti .TEL_TEMP_NOW 0 i = toSigned 16 v ∧ t.geti .TEL_TEMP_MAX 0 i = max (toSigned 16 v) (s.geti .TEL_TEMP_MAX 0 i) ∧
      t.supplies = s.supplies) (s.tempRead i v) := by
  unfold State.tempRead
  extract_lets s1 x s2
  have hm : s2.geti .TEL_TEMP_MAX 0 i = s.geti .TEL_TEMP_MAX 0 i := congrArg (toSigned _) (State.get_set_fld _ (by decide) ..)
  have hb : -16384 ≤ s.geti .TEL_TEMP_MAX 0 i ∧ s.geti .TEL_TEMP_MAX 0 i < 16384 := (toSigned_lt 14 (s.get .TEL_TEMP_MAX 0 i)).symm
  refine ⟨?_, ?_, rfl⟩
  · refine (congrArg (toSigned _) (State.get_set_fld _ (by decide) ..)).trans ?_
    refine (congrArg (toSigned _) (State.get_seti_same ..)).trans ?_
    exact toSigned_ofSigned (w := 15) (by omega) (by omega)
  · rw [hm]
    refine (congrArg (toSigned _) (State.get_seti_same ..)).trans ?_
    exact toSigned_ofSigned (w := 14) (by omega) (by omega)

end

section
variable {s : State} {i v : Nat}

/-- The lowest and highest readings of a supply. -/
def railRead (e : Option (Nat × Nat × Nat)) (i v : Nat) : Nat × Nat × Nat :=
  match e with | some x => (i, min x.2.1 v, max x.2.2 v) | none => (i, v, v)

def State.railed (s : State) (i v : Nat) : State :=
  { s with supplies := s.supplies.filter (fun x => x.1 != i) ++ [railRead (s.supplies.find? (fun e => e.1 == i)) i (v % 65536)] }

theorem telemetrySample_rail (hp : s.powered 130 = true) (hi : i < 32) (v : Nat) : exec (.telemetrySample true i v) s = .next (
    let t := s.railed i v
    if 3 * railNominal i < 100 * (((v % 65536 : Nat) : Int) - railNominal i).natAbs && !bit t.supplyMask i then
      State.telEvent { t with supplyMask := setBit t.supplyMask i } 0x0009 i
    else t) :=
  (exec_when (i := .telemetrySample true i v) (s := s) rfl (by rw [hp]; simpa using hi)).trans rfl

theorem State.railed_reads (s : State) (i v : Nat) : (s.railed i v).supplies.find? (fun e => e.1 == i) =
    some (railRead (s.supplies.find? (fun e => e.1 == i)) i (v % 65536)) := by
  have h1 : (s.supplies.filter (fun x => x.1 != i)).find? (fun e => e.1 == i) = none := by
    rw [List.find?_eq_none]
    intro x hx
    have := (List.mem_filter.1 hx).2
    simpa using this
  have h2 : (railRead (s.supplies.find? (fun e => e.1 == i)) i (v % 65536)).1 = i := by
    unfold railRead
    split <;> rfl
  unfold State.railed
  dsimp only
  rw [List.find?_append, h1, Option.none_or]
  exact List.find?_cons_of_pos (p := fun e : Nat × Nat × Nat => e.1 == i) (beq_iff_eq.2 h2)

/-- An event of telemetry leaves the readings. -/
theorem State.told_readings {s t : State} (h : Reports reportFlds s t) : t.supplies = s.supplies ∧
    (∀ j, t.geti .TEL_TEMP_NOW 0 j = s.geti .TEL_TEMP_NOW 0 j) ∧ ∀ j, t.geti .TEL_TEMP_MAX 0 j = s.geti .TEL_TEMP_MAX 0 j := by
  refine ⟨?_, fun j => congrArg (toSigned _) (h.touches _ _ _ (by decide)), fun j => congrArg (toSigned _) (h.touches _ _ _ (by decide))⟩
  have hf := h.frame
  unfold ReportFrame at hf
  rw [hf]

theorem sampled_sensor (hp : s.powered 130 = true) (hi : i < 40) (h1 : -16384 ≤ toSigned 16 v) (h2 : toSigned 16 v < 16384) :
    Runs (.telemetrySample false i v) s (fun t => t.geti .TEL_TEMP_NOW 0 i = toSigned 16 v ∧
      t.geti .TEL_TEMP_MAX 0 i = max (toSigned 16 v) (s.geti .TEL_TEMP_MAX 0 i) ∧ t.supplies = s.supplies) := by
  have h := telemetrySample_sensor hp hi v
  obtain ⟨r1, r2, r3⟩ := s.tempRead_reads i h1 h2
  generalize s.tempRead i v = t at h r1 r2 r3
  refine ⟨_, h, ?_⟩
  dsimp only
  split_ifs
  · obtain ⟨q1, q2, q3⟩ := State.told_readings (State.telEvent_reports { t with hotMask := setBit t.hotMask i } 0x0008 i)
    exact ⟨(q2 i).trans r1, (q3 i).trans r2, q1.trans r3⟩
  · exact ⟨r1, r2, r3⟩
  · exact ⟨r1, r2, r3⟩

theorem sampled_rail (hp : s.powered 130 = true) (hi : i < 32) (v : Nat) :
    Runs (.telemetrySample true i v) s (fun t =>
      t.supplies.find? (fun e => e.1 == i) = some (railRead (s.supplies.find? (fun e => e.1 == i)) i (v % 65536)) ∧
      ∀ j, t.geti .TEL_TEMP_NOW 0 j = s.geti .TEL_TEMP_NOW 0 j) := by
  have h := telemetrySample_rail hp hi v
  have r1 := s.railed_reads i v
  have r2 : ∀ j, (s.railed i v).geti .TEL_TEMP_NOW 0 j = s.geti .TEL_TEMP_NOW 0 j := fun _ => rfl
  generalize s.railed i v = t at h r1 r2
  refine ⟨_, h, ?_⟩
  dsimp only
  split_ifs
  · obtain ⟨q1, q2, _⟩ := State.told_readings (State.telEvent_reports { t with supplyMask := setBit t.supplyMask i } 0x0009 i)
    exact ⟨(congrArg (List.find? _) q1).trans r1, fun j => (q2 j).trans (r2 j)⟩
  · exact ⟨r1, r2⟩

end

/-! ### Snapshots and the log -/

theorem length_flatMap_const {α β : Type} {f : α → List β} {n : Nat} (l : List α) (h : ∀ x, (f x).length = n) :
    (l.flatMap f).length = l.length * n := by
  rw [List.length_flatMap, List.map_congr_left fun x _ => h x, List.map_const', List.sum_replicate, smul_eq_mul]

theorem State.snapBytes_length (s : State) : s.snapBytes.length = 1024 := by
  unfold State.snapBytes
  rw [List.length_append, List.length_append, List.length_append, List.length_append, List.length_append, List.length_append, List.length_append,
    List.length_append, length_flatMap_const _ fun _ => length_leBytes .., length_flatMap_const (n := 4) (List.range 32), length_flatMap_const _ fun _ => length_leBytes ..,
    length_flatMap_const _ fun _ => length_leBytes .., length_flatMap_const _ fun _ => length_leBytes ..]
  · simp only [length_leBytes, List.length_range, List.length_replicate]
  · intro k
    split
    · rw [List.length_append, length_leBytes, length_leBytes]
    · rw [length_leBytes]

theorem TelEvt.length_bytes (e : TelEvt) : e.bytes.length = 16 := by
  unfold TelEvt.bytes
  simp only [List.length_append, length_leBytes]

/-- Snapshot `b` is kept; the oldest goes when there are 256. -/
def State.snapped (s : State) (b : List Byte) : State :=
  if s.snaps.length < 256 then { s with snaps := s.snaps ++ [b] }
  else State.bump { s with snaps := s.snaps.drop 1 ++ [b] } .TEL_STATUS_SNAP_LOST

theorem exec_snapshot {s : State} (hp : s.powered 130 = true) :
    exec .snapshot s = .next { s.snapped s.snapBytes with lastSnap := s.snapBytes, supplies := [], supplyMask := 0 } :=
  (exec_when (i := .snapshot) (s := s) rfl hp).trans rfl

theorem State.snapped_reads (s : State) (b : List Byte) : (fun t : State => t.snaps = (if s.snaps.length < 256 then s.snaps else s.snaps.drop 1) ++ [b] ∧
      (s.snaps.length < 256 → t.regs = s.regs) ∧
      (s.snaps.length = 256 → t.get .TEL_STATUS_SNAP_LOST = min (s.get .TEL_STATUS_SNAP_LOST + 1) (2 ^ Fld.TEL_STATUS_SNAP_LOST.desc.width - 1)))
    (s.snapped b) := by
  unfold State.snapped
  split_ifs with h
  · exact ⟨rfl, fun _ => rfl, fun h' => absurd h' h.ne⟩
  · exact ⟨rfl, fun h' => absurd h' h, fun _ => State.get_bump_same ..⟩

section
variable {s : State} {d : Desc}

theorem telRead_runs (ha : Accepts s d 0x0803 [(0x10, 1), (0x14, 4), (0x18, 8)]) (hk : d.p 0x10 1 ≤ 1) (h0 : d.p 0x14 4 ≠ 0) (hb : d.p 0x18 8 % 64 = 0)
    {u : State} (hu : u = (s.startedLong d 0x0803).2) : exec (.telRead d) s = .next (if d.p 0x10 1 = 0 then
      State.done { u with
        hostMem := Memory.wrs u.hostMem (d.p 0x18 8) (u.snaps.take (d.p 0x14 4)).flatten
        snaps := u.snaps.drop (d.p 0x14 4) }
        (s.startedLong d 0x0803).1 (u.snaps.take (d.p 0x14 4)).length
    else State.done { u with
        hostMem := Memory.wrs u.hostMem (d.p 0x18 8) ((u.telLog.take (d.p 0x14 4)).flatMap TelEvt.bytes)
        telLog := u.telLog.drop (d.p 0x14 4) } (s.startedLong d 0x0803).1 (u.telLog.take (d.p 0x14 4)).length) := by
  have hi : exec (.telRead d) s = execTelRead d s := rfl
  unfold execTelRead at hi
  dsimp only at hi
  have he := exec_long hi ha rfl rfl rfl rfl rfl (by simp [hk, hb]) (by simpa using h0) rfl
  rw [← hu] at he
  exact he

end

/-- Settles O54: it holds. Each instruction is the state that its conditions leave it, and that state's readings are read off. -/
theorem backgroundWork : Obligations.BackgroundWork := by
  unfold Obligations.BackgroundWork
  refine ⟨?_, ?_, ?_, ?_, ?_, ?_, ?_, ?_, ?_, ?_, ?_, ?_, State.headRecord_length, ?_, ?_, ?_, State.snapBytes_length, ?_, TelEvt.length_bytes, ?_⟩
  case refine_1 => exact fun s c v g hc hp hu hf => ⟨_, recalibration_head hc hp hu hf v g, rfl⟩
  case refine_2 => exact fun s c v g hc hp hu hf => ⟨_, recalibration_glass hp hu hc hf v g, rfl⟩
  case refine_3 =>
    intro s i v g hi hd
    obtain ⟨b1, b2, b3⟩ := clampInt_within (lo := -1) (hi := 1) (by decide) v
    exact ⟨_, recalibration_ddr hi hd v g, _, b1, b2, b3, rfl⟩
  case refine_4 =>
    intro s i v g hi hp
    obtain ⟨b1, b2, b3⟩ := clampInt_within (lo := -16) (hi := 16) (by decide) v
    exact ⟨_, recalibration_sensor hi hp v g, _, b1, b2, b3, rfl⟩
  case refine_5 =>
    intro s x i v g hx hi hp h1 h2 hf hb hs
    subst hi
    exact ⟨_, recalibration_shade hx hp h1 h2 hf hb hs v g, s.shadowed_reads x g⟩
  case refine_6 =>
    intro s c id l hc hp he hi h0 hs hh
    have h := exec_headIdRead hc hp he hi
    rw [State.identified_same h0 hs hh] at h
    exact ⟨_, h, rfl⟩
  case refine_7 => exact fun s c id l hc hp he hi hh hb => headIdRead_new hc hp he hi hh hb
  case refine_8 => exact fun s c l hi => ⟨s, headIdRead_none c hi, rfl⟩
  case refine_9 => exact fun l hl h => idOf_silent hl h
  case refine_10 => exact fun s h1 h2 h3 h4 => ⟨_, rfl, State.checkpoint_here h1 h2 h3 h4⟩
  case refine_11 => exact fun s h1 h2 => ⟨_, rfl, State.checkpoint_away h1 h2⟩
  case refine_12 =>
    intro s u d c n h ha hc hn h64 h0 hb hk hh hu
    subst hh hu
    exact ⟨_, fireCountsRead_reads ha hc hn h64 h0 hb hk, rfl⟩
  case refine_13 => exact fun s i v hp hi h1 h2 => sampled_sensor hp hi h1 h2
  case refine_14 =>
    intro s i v a b hp hi hf
    have h := sampled_rail hp hi v
    rw [hf] at h
    exact h
  case refine_15 =>
    intro s i v hp hi hf
    obtain ⟨t, he, h, _⟩ := sampled_rail hp hi v
    rw [hf] at h
    exact ⟨t, he, h⟩
  case refine_16 =>
    intro s hp _
    obtain ⟨r1, r2, r3⟩ := s.snapped_reads s.snapBytes
    exact ⟨_, exec_snapshot hp, rfl, r1, rfl, rfl, r2, r3⟩
  case refine_17 =>
    intro s u d n h ha hk hn h0 hb hh hu
    subst hn hh
    exact ⟨_, telRead_runs ha hk h0 hb hu, fun k => if_pos k, fun k => if_neg (show ¬ d.p 0x10 1 = 0 by rw [k]; decide)⟩

end Sys2Proof.Machine
end

section
/-! PROOF. The operator viewport. -/

namespace Sys2Proof.Machine

-- One lemma after the other: elaborated side by side, they ask for more threads than the compile may have.
set_option Elab.async false

/-! ## The operator viewport -/

/-! ### A commit and its capture -/

section
variable {s : State}

theorem exec_vpCommit (h : s.reachable .viewport 0 = true) : exec .vpCommit s = .next s.vpCommit := exec_reach (i := .vpCommit) (s := s) rfl h

theorem vpCommit_refused (he : s.vpErr ≠ 0) : s.vpCommit = (s.set .VP_STATUS_ERR s.vpErr).off .VP_STATUS_PENDING := if_pos he

/-- The state whose commit waits. -/
def State.vpWaits (s : State) : State :=
  { s with vp := { s.vp with
      late := s.vpVideo && decide (s.vp.cfg.vact ≤ s.vp.line) && (s.vp.late || !s.is .VP_STATUS_PENDING)
      touched := true
      due := s.vp.due || s.vpCommand } }

theorem vpCommit_taken (he : s.vpErr = 0) : s.vpCommit = s.vpWaits.on .VP_STATUS_PENDING := if_neg (not_not_intro he)

end

theorem State.vpCapture_reads (s : State) : (fun t : State => t.vp.cfg = s.vpShadow ∧ t.is .VP_STATUS_PENDING = false ∧
      t.is .VP_STATUS_RUNNING = t.vpVideo ∧
      t.get .VP_COUNTS_COMMITS = min (s.get .VP_COUNTS_COMMITS + 1) (2 ^ Fld.VP_COUNTS_COMMITS.desc.width - 1) ∧
      Touches [.VP_STATUS_PENDING, .VP_COUNTS_COMMITS, .VP_STATUS_RUNNING, .VP_STATUS_EXTENDED] s t ∧
      t.hostMem = s.hostMem ∧ t.dram = s.dram) s.vpCapture := by
  unfold State.vpCapture
  extract_lets old new restart _ s1 s2
  have h1 : s1.vp.cfg = s.vpShadow ∧ s1.regs = s.regs ∧ s1.hostMem = s.hostMem ∧ s1.dram = s.dram := ⟨rfl, rfl, rfl, rfl⟩
  clear_value s1
  obtain ⟨c1, c2, c3, c4⟩ := h1
  have hp : s2.is .VP_STATUS_PENDING = false := by
    have h0 : (s1.off .VP_STATUS_PENDING).get .VP_STATUS_PENDING = 0 := State.get_set_same ..
    have h1 : ((s1.off .VP_STATUS_PENDING).bump .VP_COUNTS_COMMITS).get .VP_STATUS_PENDING = 0 :=
      (State.get_bump_fld _ (f := .VP_COUNTS_COMMITS) (by decide) ..).trans h0
    exact congrArg (· == 1) ((State.get_set_fld _ (f := .VP_STATUS_RUNNING) (by decide) ..).trans h1)
  have hr : s2.is .VP_STATUS_RUNNING = s1.vpVideo := is_set_b2n ..
  have hc : s2.get .VP_COUNTS_COMMITS = min (s.get .VP_COUNTS_COMMITS + 1) (2 ^ Fld.VP_COUNTS_COMMITS.desc.width - 1) := by
    refine (State.get_set_fld _ (by decide) ..).trans ((State.get_bump_same ..).trans ?_)
    rw [show (s1.off .VP_STATUS_PENDING).get .VP_COUNTS_COMMITS = s.get .VP_COUNTS_COMMITS from
      (State.get_set_fld _ (by decide) ..).trans (congrArg (Tab.get FKey.dflt · ⟨.VP_COUNTS_COMMITS, 0, 0⟩) c2)]
  have ht : Touches [.VP_STATUS_PENDING, .VP_COUNTS_COMMITS, .VP_STATUS_RUNNING, .VP_STATUS_EXTENDED] s s2 :=
    ((Touches.of_regs c2).set (f := .VP_STATUS_PENDING) (by decide) _ _ _ |>.bump (f := .VP_COUNTS_COMMITS) (by decide) _ _ _).set
      (f := .VP_STATUS_RUNNING) (by decide) _ _ _
  have hv : s2.vp = s1.vp ∧ s2.hostMem = s1.hostMem ∧ s2.dram = s1.dram := ⟨rfl, rfl, rfl⟩
  have hw : s2.vpVideo = s1.vpVideo := rfl
  clear_value s2
  obtain ⟨v1, v2, v3⟩ := hv
  split_ifs
  · have hx : ∀ f, f ≠ .VP_STATUS_EXTENDED → (s2.off .VP_STATUS_EXTENDED).get f = s2.get f := fun f hf => State.get_set_fld s2 hf ..
    exact ⟨(congrArg Vp.cfg v1).trans c1, (congrArg (· == 1) (hx .VP_STATUS_PENDING (by decide)) :).trans hp,
      (congrArg (· == 1) (hx .VP_STATUS_RUNNING (by decide)) :).trans (hr.trans hw.symm),
      (hx .VP_COUNTS_COMMITS (by decide)).trans hc, (ht.set (f := .VP_STATUS_EXTENDED) (by decide) 0 0 0).trans (.of_regs rfl),
      v2.trans c3, v3.trans c4⟩
  · exact ⟨(congrArg _ v1).trans c1, hp, hr.trans hw.symm, hc, ht, v2.trans c3, v3.trans c4⟩

section
variable {s : State}

theorem exec_vpShadowCapture (hp : s.powered 128 = true) (hw : s.is .VP_STATUS_PENDING = true)
    (h : s.vp.cfg.en = false ∨ s.vpVideo = true ∧ s.vp.line = s.vp.cfg.vact ∧ s.vp.porch = 0 ∧ s.vp.late = false) :
    exec .vpShadowCapture s = .next s.vpCapture :=
  exec_when (i := .vpShadowCapture) (s := s) rfl (by
    rw [hp, hw]
    rcases h with h | ⟨h1, h2, h3, h4⟩
    · simp [h]
    · simp [h1, h2, h3, h4])

/-! ### Panel commands -/

theorem exec_vpCmdSend (h : s.reachable .viewport 0 = true) : exec .vpCmdSend s = .next s.vpSend := exec_reach (i := .vpCmdSend) (s := s) rfl h

theorem vpSend_refused (h : s.is .VP_CMD_CTRL_BUSY = true ∨ s.get .VP_CMD_CTRL_DT ∉ [0x05, 0x15, 0x39, 0x29] ∨ 16 < s.get .VP_CMD_CTRL_LEN) :
    s.vpSend = s.on .VP_STATUS_CMD_ERR := by
  unfold State.vpSend
  exact if_pos (by simpa [or_assoc] using h)

/-- The bytes of the panel command. -/
def State.vpBytes (s : State) : List Byte :=
  ((List.range 4).flatMap (fun w => leBytes 4 (s.get .VP_CMD_DATA_BYTES 0 w))).take (s.get .VP_CMD_CTRL_LEN)

/-- The state whose command waits for the end of the active lines. -/
def State.vpHeld (s : State) : State :=
  State.on { s with vp := { s.vp with cmd := some (s.get .VP_CMD_CTRL_DT, s.vpBytes) } } .VP_CMD_CTRL_BUSY

theorem vpSend_taken (h1 : s.is .VP_CMD_CTRL_BUSY = false) (h2 : s.get .VP_CMD_CTRL_DT ∈ [0x05, 0x15, 0x39, 0x29]) (h3 : s.get .VP_CMD_CTRL_LEN ≤ 16) :
    s.vpSend = if s.vpVideo then s.vpHeld else s.vpHeld.vpPanel := by
  unfold State.vpSend
  dsimp only
  rw [h1, List.contains_iff_mem.2 h2, if_neg (by simpa using h3)]
  rfl

theorem State.vpPanel_held (s : State) : s.vpHeld.vpPanel =
    (State.off { s.vpHeld with vp := { s.vp with cmd := none } } .VP_CMD_CTRL_BUSY).out (.bus "dsiCommand" (s.get .VP_CMD_CTRL_DT :: s.vpBytes.map BitVec.toNat)) := rfl

theorem State.vpSend_reads (s : State) : (fun t : State =>
      (s.vpVideo = true → t.vp = { s.vp with cmd := some (s.get .VP_CMD_CTRL_DT, s.vpBytes) } ∧ t.is .VP_CMD_CTRL_BUSY = true ∧ t.outbox = s.outbox) ∧
      (s.vpVideo = false → t.vp = { s.vp with cmd := none } ∧ t.is .VP_CMD_CTRL_BUSY = false ∧
        t.outbox = .bus "dsiCommand" (s.get .VP_CMD_CTRL_DT :: s.vpBytes.map BitVec.toNat) :: s.outbox))
    (if s.vpVideo then s.vpHeld else s.vpHeld.vpPanel) := by
  cases h : s.vpVideo with
  | true => exact ⟨fun _ => ⟨rfl, is_on_self _, rfl⟩, fun h => absurd h (by decide)⟩
  | false =>
    refine ⟨fun h => absurd h (by decide), fun _ => ?_⟩
    rw [if_neg (by decide), s.vpPanel_held]
    exact ⟨rfl, State.is_off_same { s.vpHeld with vp := { s.vp with cmd := none } } .VP_CMD_CTRL_BUSY 0 0, rfl⟩

/-! ### Lines -/

end

/-- Line `k` goes out; it counts as an underrun when its pixels cannot be read and it was not black already. -/
def State.sentLine (s : State) (k : Nat) : State :=
  State.out { s with
      regs := if (s.vpPixels k).2 && !s.vp.black then (s.bump .VP_COUNTS_UNDERRUN).regs else s.regs
      vp := { s.vp with black := false } }
    (.bus "dsiLine" [k, b2n ((s.vpPixels k).2 || s.vp.black), leNat (s.vpPixels k).1])

theorem State.vpSendLine_form (s : State) (k : Nat) : ∃ b, s.vpSendLine k = { s.sentLine k with banks := b } := by
  unfold State.vpSendLine
  extract_lets p s1 s2
  have h1 : Rows s s1 := s.dramTouch_rows ..
  clear_value s1
  unfold Rows at h1
  generalize s1.banks = b at h1
  subst h1
  refine ⟨b, ?_⟩
  have h2 : s2 = { s with
      regs := if (s.vpPixels k).2 && !s.vp.black then (s.bump .VP_COUNTS_UNDERRUN).regs else s.regs
      banks := b } := by
    unfold s2
    split_ifs <;> rfl
  clear_value s2
  subst h2
  rfl

theorem State.sentLine_sound {s : State} {k : Nat} (hp : (s.vpPixels k).2 = false) (hb : s.vp.black = false) : s.sentLine k =
    { s with vp := { s.vp with black := false }, outbox := .bus "dsiLine" [k, 0, leNat (s.vpPixels k).1] :: s.outbox } := by
  unfold State.sentLine
  rw [hp, hb]
  rfl

theorem State.sentLine_lost {s : State} {k : Nat} (hp : (s.vpPixels k).2 = true) (hb : s.vp.black = false) : s.sentLine k =
    { s.bump .VP_COUNTS_UNDERRUN with vp := { s.vp with black := false }, outbox := .bus "dsiLine" [k, 1, leNat (s.vpPixels k).1] :: s.outbox } := by
  unfold State.sentLine
  rw [hp, hb]
  rfl

/-- Lines that are sent keep the values in force and the count of commits and of missing edges. -/
structure SendsLines (s t : State) : Prop where
  vp : t.vp = { s.vp with black := t.vp.black }
  touches : Touches [.VP_COUNTS_UNDERRUN] s t

theorem State.vpSendLine_sends (s : State) (k : Nat) : SendsLines s (s.vpSendLine k) := by
  obtain ⟨b, h⟩ := s.vpSendLine_form k
  rw [h]
  refine ⟨rfl, Touches.trans ?_ (Touches.of_regs rfl)⟩
  unfold State.sentLine
  split_ifs
  · exact ((Touches.refl _ s).bump (f := .VP_COUNTS_UNDERRUN) (by decide) 1 0 0).trans (.of_regs rfl)
  · exact .of_regs rfl

theorem State.each_sends (s : State) (n : Nat) : SendsLines s (s.each n State.vpSendLine) :=
  State.each_keeps (P := SendsLines s) n _ (fun t k h => by
    have h' := t.vpSendLine_sends k
    generalize t.vpSendLine k = u at h'
    exact ⟨by rw [h'.vp, h.vp], h.touches.trans h'.touches⟩) s ⟨rfl, .refl _ s⟩

section
variable {s : State}

theorem exec_vpVideoLine (hp : s.powered 128 = true) (hv : s.vpVideo = true) (hk : s.vp.line + 1 < s.vp.cfg.vact) :
    exec .vpVideoLine s = .next { s.vpSendLine s.vp.line with vp := { (s.vpSendLine s.vp.line).vp with line := s.vp.line + 1, porch := 0 } } := by
  have h := exec_when (i := .vpVideoLine) (s := s) rfl (by rw [hp, hv]; rfl)
  refine exec_of h ?_
  dsimp only
  rw [if_pos (by omega), if_neg (by omega)]

theorem vpVideoLine_sound {k : Nat} (hp : s.powered 128 = true) (hv : s.vpVideo = true) (hk : k = s.vp.line) (hn : k + 1 < s.vp.cfg.vact)
    (hx : (s.vpPixels k).2 = false) (hb : s.vp.black = false) : Runs .vpVideoLine s (fun t => t = { s with
      vp := { s.vp with line := k + 1, porch := 0, black := false }, banks := t.banks,
      outbox := .bus "dsiLine" [k, 0, leNat (s.vpPixels k).1] :: s.outbox }) := by
  subst hk
  have h := exec_vpVideoLine hp hv hn
  obtain ⟨b, hf⟩ := s.vpSendLine_form s.vp.line
  rw [hf, State.sentLine_sound hx hb] at h
  exact ⟨_, h, rfl⟩

theorem vpVideoLine_lost {k : Nat} (hp : s.powered 128 = true) (hv : s.vpVideo = true) (hk : k = s.vp.line) (hn : k + 1 < s.vp.cfg.vact)
    (hx : (s.vpPixels k).2 = true) (hb : s.vp.black = false) : Runs .vpVideoLine s (fun t =>
      t.outbox = .bus "dsiLine" [k, 1, leNat (s.vpPixels k).1] :: s.outbox ∧ t.vp.line = k + 1 ∧
      OnlyRegs { s with vp := t.vp, outbox := t.outbox, banks := t.banks } t (fun f i j => f = .VP_COUNTS_UNDERRUN ∧ i = 0 ∧ j = 0) ∧
      t.get .VP_COUNTS_UNDERRUN = min (s.get .VP_COUNTS_UNDERRUN + 1) (2 ^ Fld.VP_COUNTS_UNDERRUN.desc.width - 1)) := by
  subst hk
  have h := exec_vpVideoLine hp hv hn
  obtain ⟨b, hf⟩ := s.vpSendLine_form s.vp.line
  rw [hf, State.sentLine_lost hx hb] at h
  exact ⟨_, h, rfl, rfl, ⟨rfl, (onlyRegs_set s .VP_COUNTS_UNDERRUN _ 0 0).2⟩, State.get_bump_same s ..⟩

theorem vpVideoLine_rest (hp : s.powered 128 = true) (hv : s.vpVideo = true) (h1 : s.vp.cfg.vact < s.vp.line)
    (h2 : s.vp.line < s.vp.cfg.vact + s.vp.cfg.vrest) : exec .vpVideoLine s = .next { s with vp := { s.vp with line := s.vp.line + 1 } } := by
  have h := exec_when (i := .vpVideoLine) (s := s) rfl (by rw [hp, hv]; rfl)
  refine exec_of h ?_
  dsimp only
  rw [if_neg (by omega), if_neg (by omega), if_pos h2]

/-- The frame is over. -/
def State.vpFrameEnd (s : State) : State :=
  { s with vp := { s.vp with
      line := 0
      porch := 0
      late := false
      touched := false
      quiet := if s.vp.touched then 0 else min (s.vp.quiet + 1) 255 } }

theorem vpVideoLine_last (hp : s.powered 128 = true) (hv : s.vpVideo = true) (h1 : s.vp.line = s.vp.cfg.vact + s.vp.cfg.vrest)
    (h2 : 0 < s.vp.cfg.vrest) : exec .vpVideoLine s = .next (s.vpFrameEnd.off .VP_STATUS_EXTENDED) := by
  have h := exec_when (i := .vpVideoLine) (s := s) rfl (by rw [hp, hv]; rfl)
  refine exec_of h ?_
  dsimp only
  rw [if_neg (by omega), if_neg (by omega), if_neg (by omega)]
  rfl

theorem exec_staticBlankExtend (hp : s.powered 128 = true) (hs : s.vpStatic = true) (hl : s.vp.line = s.vp.cfg.vact) :
    exec .staticBlankExtend s = .next (s.on .VP_STATUS_EXTENDED) :=
  exec_when (i := .staticBlankExtend) (s := s) rfl (by rw [hp, hs, hl, beq_self_eq_true]; rfl)

theorem exec_vpLineUnderrun (hp : s.powered 128 = true) (he : s.vp.cfg.en = true) (hb : s.vp.black = false) :
    exec .vpLineUnderrun s = .next (State.bump { s with vp := { s.vp with black := s.vpVideo } } .VP_COUNTS_UNDERRUN) :=
  exec_when (i := .vpLineUnderrun) (s := s) rfl (by rw [hp, he, hb]; rfl)

theorem exec_vpRefresh (h : s.reachable .viewport 0 = true) (hc : s.vpCommand = true) :
    exec .vpRefresh s = .next { s with vp := { s.vp with due := true, refresh := true } } :=
  exec_of (exec_reach (i := .vpRefresh) (s := s) rfl h) (if_pos hc)

/-! ### Transfers in command mode -/

theorem exec_teInEdge {r : Bool} (hp : s.powered 128 = true) (hc : s.vpCommand = true) (hd : s.vp.due = true) (hr : r ≠ s.vp.cfg.tePol) :
    exec (.teInEdge r) s = .next s.vpTransfer :=
  exec_when (i := .teInEdge r) (s := s) rfl (by rw [hp, hc, hd, (bne_iff_ne).2 hr]; rfl)

theorem exec_teTimeout (hp : s.powered 128 = true) (hc : s.vpCommand = true) (hd : s.vp.due = true) :
    exec .teTimeout s = .next (s.vpTransfer.bump .VP_COUNTS_NO_TE) :=
  exec_when (i := .teTimeout) (s := s) rfl (by rw [hp, hc, hd]; rfl)

/-- A frame of the panel is sent whole. -/
def State.vpFrame (s : State) : State :=
  State.each { s with vp := { s.vp with due := false, touched := false, refresh := false } } s.vp.cfg.vact State.vpSendLine

theorem State.vpFrame_reads (s : State) : (fun t : State => t.vp.due = false ∧ t.vp.cfg = s.vp.cfg ∧ Touches [.VP_COUNTS_UNDERRUN] s t) s.vpFrame := by
  have h := State.each_sends { s with vp := { s.vp with due := false, touched := false, refresh := false } } s.vp.cfg.vact
  unfold State.vpFrame
  exact ⟨(congrArg Vp.due h.vp :), (congrArg Vp.cfg h.vp :), Touches.trans (Touches.of_regs rfl) h.touches⟩

theorem vpTransfer_kept (hc : s.vpCommand = true) (hp : s.is .VP_STATUS_PENDING = false) : s.vpTransfer = s.vpFrame := by
  unfold State.vpTransfer
  dsimp only
  rw [if_neg (show ¬ s.is .VP_STATUS_PENDING = true by rw [hp]; decide), hc]
  rfl

theorem vpTransfer_captured (hp : s.is .VP_STATUS_PENDING = true) (h1 : s.vpShadow.en = true) (h2 : s.vpShadow.mode = true) :
    s.vpTransfer = s.vpCapture.vpFrame := by
  have hc : s.vpCapture.vpCommand = true := by
    unfold State.vpCommand
    rw [s.vpCapture_reads.1, h1, h2]
    rfl
  unfold State.vpTransfer
  dsimp only
  rw [hp, if_pos rfl, hc, if_neg (by decide)]
  rfl

end

/-- Settles O56: it holds. What a commit, a capture, a line and a transfer leave is read off the state that each is. -/
theorem viewport : Obligations.Viewport := by
  unfold Obligations.Viewport
  refine ⟨?_, ?_, ?_, ?_, ?_, ?_, ?_, ?_, ?_, ?_, ?_, ?_, ?_, ?_, ?_⟩
  case refine_1 =>
    intro s h he
    refine ⟨_, exec_of (exec_vpCommit h) (vpCommit_refused he), ?_, ?_, State.is_off_same ..⟩
    · exact ((onlyRegs_set s .VP_STATUS_ERR _ 0 0).mono fun f i k ⟨a, b⟩ => ⟨.inl a, b⟩).trans
        ((onlyRegs_set _ .VP_STATUS_PENDING 0 0 0).mono fun f i k ⟨a, b⟩ => ⟨.inr a, b⟩)
    · exact (State.get_set_fld _ (by decide) ..).trans (State.get_set_same ..)
  case refine_2 =>
    intro s h he
    exact ⟨_, exec_of (exec_vpCommit h) (vpCommit_taken he), is_on_self _, rfl, rfl, rfl, onlyRegs_set ..⟩
  case refine_3 =>
    intro s hp hw h
    obtain ⟨r1, r2, r3, r4, _, r6, r7⟩ := s.vpCapture_reads
    exact ⟨_, exec_vpShadowCapture hp hw h, r1, r2, r3, r4, fun a => by rw [r6], fun a => by rw [r7]⟩
  case refine_4 =>
    intro s h hr
    exact ⟨_, exec_of (exec_vpCmdSend h) (vpSend_refused hr), onlyRegs_set .., is_on_self _⟩
  case refine_5 =>
    intro s b h h1 h2 h3 hb
    subst hb
    exact ⟨_, exec_of (exec_vpCmdSend h) (vpSend_taken h1 h2 h3), s.vpSend_reads⟩
  case refine_6 => exact fun s k hp hv hk hn hx hb => vpVideoLine_sound hp hv hk hn hx hb
  case refine_7 => exact fun s k hp hv hk hn hx hb => vpVideoLine_lost hp hv hk hn hx hb
  case refine_8 => exact fun s hp hv h1 h2 => ⟨_, vpVideoLine_rest hp hv h1 h2, rfl⟩
  case refine_9 => exact fun s hp hv h1 h2 => ⟨_, vpVideoLine_last hp hv h1 h2, rfl, rfl, State.is_off_same .., rfl⟩
  case refine_10 => exact fun s hp hs hl => ⟨_, exec_staticBlankExtend hp hs hl, is_on_self _, onlyRegs_set ..⟩
  case refine_11 => exact fun s hp he hb => ⟨_, exec_vpLineUnderrun hp he hb, rfl, State.get_bump_same .., onlyRegs_set ..⟩
  case refine_12 => exact fun s h hc => ⟨_, exec_vpRefresh h hc, rfl⟩
  case refine_13 =>
    intro s r hp hc hd hr hw
    obtain ⟨f1, f2, _⟩ := s.vpFrame_reads
    exact ⟨_, exec_of (exec_teInEdge hp hc hd hr) (vpTransfer_kept hc hw), rfl, f1, f2⟩
  case refine_14 =>
    intro s r hp hc hd hr hw h1 h2
    obtain ⟨f1, f2, f3⟩ := s.vpCapture.vpFrame_reads
    obtain ⟨r1, r2, _, r4, _⟩ := s.vpCapture_reads
    exact ⟨_, exec_of (exec_teInEdge hp hc hd hr) (vpTransfer_captured hw h1 h2), f2.trans r1,
      (congrArg (· == 1) (f3 .VP_STATUS_PENDING 0 0 (by decide))).trans r2, f1, (f3 .VP_COUNTS_COMMITS 0 0 (by decide)).trans r4⟩
  case refine_15 =>
    intro s hp hc hd hw
    obtain ⟨f1, _, f3⟩ := s.vpFrame_reads
    refine ⟨_, exec_teTimeout hp hc hd, rfl, ?_, (State.get_bump_same ..).trans ?_⟩
    · rw [vpTransfer_kept hc hw]
      exact f1
    · rw [vpTransfer_kept hc hw, f3 .VP_COUNTS_NO_TE 0 0 (by decide)]

end Sys2Proof.Machine
end

section
/-! PROOF. Power domains and power states. -/

namespace Sys2Proof.Machine

-- One lemma after the other: elaborated side by side, they ask for more threads than the compile may have.
set_option Elab.async false

/-! ## Power domains and power states -/

/-! ### Requests -/

/-- The fields of the requests of group `n`. -/
def AsksOf (n : Nat) (f : Fld) (i k : Nat) : Prop := (f = .PWR_REQ_ON ∨ f = .PWR_ERR_REFUSED) ∧ i = 0 ∧ k = n

section
variable {s t : State} {n : Nat}

theorem OnlyRegs.asks_get (h : OnlyRegs s t (AsksOf n)) {f : Fld} (hf : f ≠ .PWR_REQ_ON ∧ f ≠ .PWR_ERR_REFUSED) (i k : Nat) :
    t.get f i k = s.get f i k := h.2 f i k fun ⟨h1, _⟩ => h1.elim hf.1 hf.2

theorem OnlyRegs.asks_powered (h : OnlyRegs s t (AsksOf n)) (x : Nat) : t.powered x = s.powered x :=
  congrArg (bit · (x % 32)) (h.asks_get (f := .PWR_STATE_ON) (by decide) ..)

/-- Whether a domain may be switched off does not rest on the requests. -/
theorem OnlyRegs.asks_refused (h : OnlyRegs s t (AsksOf n)) (x : Nat) : t.offRefused x = s.offRefused x := by
  have hb : ∀ e : Block × Nat, t.blockFenced e.1 e.2 = s.blockFenced e.1 e.2 := fun e => by
    unfold State.blockFenced State.fenced
    simp only [h.asks_get (f := .FENCE_MAP_UNITS) (by decide)]
  have hu : ∀ e : Block × Nat, t.usesNow e.1 e.2 = s.usesNow e.1 e.2 := fun e => by
    rw [h.1]
    rfl
  have hf : t.fullImage = s.fullImage ∧ t.trio = s.trio := by
    rw [h.1]
    exact ⟨rfl, rfl⟩
  unfold State.offRefused State.domainInUse
  simp only [hb, hu, hf, h.asks_get (f := .MOT_STATUS_MOVING) (by decide)]

end

/-- A request for domain `i` of group `n`: it stays on when it may not be switched off, which is noted. -/
theorem State.requestDomain_reads (s : State) (n : Nat) {i : Nat} (hi : i < 32) (on : Bool) : (fun t : State =>
      OnlyRegs s t (AsksOf n) ∧
      (∀ x, x < 32 → bit (t.get .PWR_REQ_ON 0 n) x = if x = i then
        on || ((bit (s.get .PWR_REQ_ON 0 n) i || s.powered (32 * n + i)) && s.offRefused (32 * n + i)) else bit (s.get .PWR_REQ_ON 0 n) x) ∧
      ∀ x, x < 32 → bit (t.get .PWR_ERR_REFUSED 0 n) x = if x = i then bit (s.get .PWR_ERR_REFUSED 0 n) i ||
        (!on && (bit (s.get .PWR_REQ_ON 0 n) i || s.powered (32 * n + i)) && s.offRefused (32 * n + i)) else bit (s.get .PWR_ERR_REFUSED 0 n) x)
    (s.requestDomain (32 * n + i) on) := by
  have h1 : (32 * n + i) / 32 = n := by omega
  have h2 : (32 * n + i) % 32 = i := by omega
  have hr : ∀ (u : State) (v : Bool), OnlyRegs u (u.putB .PWR_REQ_ON i v 0 n) (AsksOf n) := fun u v =>
    (onlyRegs_set u ..).mono fun f j k ⟨a, b⟩ => ⟨.inl a, b⟩
  have hq : ∀ (u : State) (v : Bool), OnlyRegs u (u.putB .PWR_ERR_REFUSED i v 0 n) (AsksOf n) := fun u v =>
    (onlyRegs_set u ..).mono fun f j k ⟨a, b⟩ => ⟨.inr a, b⟩
  have hre : ∀ (u : State) (v : Bool), (u.putB .PWR_REQ_ON i v 0 n).get .PWR_ERR_REFUSED 0 n = u.get .PWR_ERR_REFUSED 0 n := fun u v =>
    State.get_set_fld u (by decide) ..
  have her : ∀ (u : State) (v : Bool), (u.putB .PWR_ERR_REFUSED i v 0 n).get .PWR_REQ_ON 0 n = u.get .PWR_REQ_ON 0 n := fun u v =>
    State.get_set_fld u (by decide) ..
  have hb : ∀ (u : State) (v : Bool) x, x < 32 → bit ((u.putB .PWR_REQ_ON i v 0 n).get .PWR_REQ_ON 0 n) x = if x = i then v else bit (u.get .PWR_REQ_ON 0 n) x :=
    fun u v x hx => u.bit_putB_at .PWR_REQ_ON i v 0 n hx
  have he : ∀ (u : State) (v : Bool) x, x < 32 → bit ((u.putB .PWR_ERR_REFUSED i v 0 n).get .PWR_ERR_REFUSED 0 n) x = if x = i then v else bit (u.get .PWR_ERR_REFUSED 0 n) x :=
    fun u v x hx => u.bit_putB_at .PWR_ERR_REFUSED i v 0 n hx
  have keep : ∀ {f : Fld} (x : Nat), bit (s.get f 0 n) x = if x = i then bit (s.get f 0 n) i else bit (s.get f 0 n) x := fun x => by
    split_ifs with h
    · rw [h]
    · rfl
  unfold State.requestDomain
  dsimp only
  rw [h1, h2]
  cases on with
  | true => exact ⟨hr .., fun x hx => (hb s true x hx).trans (by simp), fun x _ => (congrArg (bit · x) (hre ..)).trans ((keep x).trans (by simp))⟩
  | false =>
    rw [if_neg (by decide)]
    cases ha : bit (s.get .PWR_REQ_ON 0 n) i || s.powered (32 * n + i) with
    | false =>
      have hn : bit (s.get .PWR_REQ_ON 0 n) i = false := (Bool.or_eq_false_iff.1 ha).1
      rw [if_pos (by rw [hn, (Bool.or_eq_false_iff.1 ha).2]; rfl)]
      exact ⟨.refl .., fun x _ => (keep x).trans (by rw [hn]; rfl), fun x _ => (keep x).trans (by simp)⟩
    | true =>
      rw [if_neg (by rw [← Bool.not_or, ha]; decide)]
      cases hf : s.offRefused (32 * n + i) with
      | true => exact ⟨(hq ..).trans (hr ..), fun x hx => (hb _ true x hx).trans (by rw [her]; rfl),
          fun x hx => (congrArg (bit · x) (hre ..)).trans ((he s true x hx).trans (by simp))⟩
      | false => exact ⟨hr .., fun x hx => (hb s false x hx).trans (by simp), fun x _ => (congrArg (bit · x) (hre ..)).trans ((keep x).trans (by simp))⟩

/-- The first `m` domains of group `n` were asked for. -/
structure Asked (n v m : Nat) (s t : State) : Prop where
  only : OnlyRegs s t (AsksOf n)
  req : ∀ x, x < 32 → bit (t.get .PWR_REQ_ON 0 n) x = if x < m then
    bit v x || ((bit (s.get .PWR_REQ_ON 0 n) x || s.powered (32 * n + x)) && s.offRefused (32 * n + x)) else bit (s.get .PWR_REQ_ON 0 n) x
  err : ∀ x, x < 32 → bit (t.get .PWR_ERR_REFUSED 0 n) x = if x < m then bit (s.get .PWR_ERR_REFUSED 0 n) x ||
    (!bit v x && (bit (s.get .PWR_REQ_ON 0 n) x || s.powered (32 * n + x)) && s.offRefused (32 * n + x)) else bit (s.get .PWR_ERR_REFUSED 0 n) x

theorem State.pwrReq_asked (s : State) (n v : Nat) {m : Nat} (hm : m ≤ 32) :
    Asked n v m s (s.each m (fun s i => s.requestDomain (32 * n + i) (bit v i))) := by
  unfold State.each
  induction m with
  | zero => exact ⟨.refl .., fun _ _ => rfl, fun _ _ => rfl⟩
  | succ m ih =>
    rw [List.range_succ, List.foldl_append, List.foldl_cons, List.foldl_nil]
    obtain ⟨h1, h2, h3⟩ := ih (by omega)
    generalize (List.range m).foldl (fun s i => State.requestDomain s (32 * n + i) (bit v i)) s = t at h1 h2 h3
    obtain ⟨r1, r2, r3⟩ := t.requestDomain_reads n (i := m) (by omega) (bit v m)
    refine ⟨h1.trans r1, fun x hx => (r2 x hx).trans ?_, fun x hx => (r3 x hx).trans ?_⟩
    · by_cases hxm : x = m
      · subst hxm
        rw [if_pos rfl, if_pos (Nat.lt_succ_self x), h2 x hx, if_neg (lt_irrefl x), h1.asks_powered, h1.asks_refused]
      · rw [if_neg hxm, h2 x hx]
        exact if_congr (by omega) rfl rfl
    · by_cases hxm : x = m
      · subst hxm
        rw [if_pos rfl, if_pos (Nat.lt_succ_self x), h2 x hx, h3 x hx, if_neg (lt_irrefl x), if_neg (lt_irrefl x), h1.asks_powered, h1.asks_refused]
      · rw [if_neg hxm, h3 x hx]
        exact if_congr (by omega) rfl rfl

theorem exec_pwrReqWrite (s : State) {n : Nat} (hn : n < 5) (v : Nat) : exec (.pwrReqWrite n v) s = .next (s.pwrReq n v) :=
  exec_when (i := .pwrReqWrite n v) (s := s) rfl (decide_eq_true hn)

/-! ### Switching -/

theorem State.powered_setPower (s : State) (n : Nat) (b : Bool) : (s.setPower n b).powered n = b :=
  s.bit_putB .PWR_STATE_ON b 0 (n / 32) (Nat.mod_lt n (by decide))

theorem State.setPower_of_get {s t : State} (h : ∀ k, t.get .PWR_STATE_ON 0 k = s.get .PWR_STATE_ON 0 k) (n : Nat) : t.powered n = s.powered n :=
  congrArg (bit · (n % 32)) (h _)

section
variable {s : State} {n : Nat} {l : List Nat}

theorem exec_domainSwitch (hd : s.is .RST_STATUS_DONE = true) (hc : s.get .PWR_PSTATE_CUR ≠ 2)
    (h : s.switching.filter (fun n => !s.powered n || s.quiescent n) = n :: l) :
    exec .domainSwitch s = .next (if s.powered n then s.domainDown n else s.domainOn n) := by
  have he := exec_when (i := .domainSwitch) (s := s) rfl (by rw [hd, bne_iff_ne.2 hc]; rfl)
  rw [h] at he
  exact he

theorem State.domainDown_powered (s : State) (n : Nat) : (s.domainDown n).powered n = false := State.powered_setPower ..

theorem State.disarm_sects (s : State) (q st r d : Nat) : (s.disarm q st r d).sects = s.sects := by
  unfold State.disarm
  split
  · rfl
  · exact (State.finish_serves ..).sects

theorem State.ite_sects {c : Prop} [Decidable c] {a b : State} {l : List Sect} (ha : a.sects = l) (hb : b.sects = l) :
    (if c then a else b).sects = l := by
  split_ifs
  · exact ha
  · exact hb

theorem State.each_disarm_sects (s : State) (n st r d : Nat) : (s.each n (fun s q => s.disarm q st r d)).sects = s.sects :=
  State.each_keeps (P := fun t => t.sects = s.sects) n _ (fun t _ h => (t.disarm_sects ..).trans h) s rfl

theorem State.finishAll_sects (s : State) (l : List Rebind) (st : Nat) : (l.foldl (fun s r => s.finish r.handle st) s).sects = s.sects :=
  List.foldlRecOn (motive := fun t : State => t.sects = s.sects) l _ rfl fun t h _ _ => (t.finish_serves ..).sects.trans h

/-- A domain that is reset keeps the sections of the image. -/
theorem State.resetUnits_sects (s : State) (n : Nat) : (s.resetUnits n).sects = s.sects := by
  unfold State.resetUnits
  refine State.ite_sects ?_ (State.ite_sects (State.ite_sects rfl rfl) (State.ite_sects rfl (State.ite_sects rfl (State.ite_sects rfl
    (State.ite_sects rfl ?_)))))
  · exact State.ite_sects (c := s.headOn n = true) (a := s.headPower n false) rfl rfl
  · split
    · exact s.finishAll_sects s.rebinds stFenced
    · exact s.each_disarm_sects 4 stFenced 0 0
    · extract_lets s1 s2
      have h1 : s1.sects = s.sects := by
        unfold s1
        split
        · exact (s.finish_serves ..).sects
        · rfl
      have h2 : s2.sects = s1.sects := by
        unfold s2
        split
        · exact (s1.finish_serves ..).sects
        · rfl
      exact h2.trans h1
    · rfl
    · exact State.ite_sects (a := s.releaseOwn) rfl rfl
    · rfl
    · rfl
    · rfl

theorem State.sectsOf_of_sects {s t : State} (h : t.sects = s.sects) (n : Nat) : t.sectsOf n = s.sectsOf n := by
  unfold State.sectsOf
  rw [h]

theorem State.wortLaneUp_power (s : State) (n k : Nat) : (s.wortLaneUp n).get .PWR_STATE_ON 0 k = s.get .PWR_STATE_ON 0 k := by
  have hn : ∀ (t : State) p, (t.nextLane p).get .PWR_STATE_ON 0 k = t.get .PWR_STATE_ON 0 k := fun t p => by
    unfold State.nextLane
    split_ifs
    · rfl
    · split
      · rfl
      · exact (State.get_set_fld _ (f := .WL_LANE_STATUS_STAGE) (by decide) ..).trans (State.get_set_fld t (f := .WL_LANE_STATUS_WAITING) (by decide) ..)
  unfold State.wortLaneUp
  extract_lets p j
  split_ifs
  · rfl
  · rfl
  · exact (hn ..).trans ((State.get_set_fld _ (f := .WL_LANE_STATUS_STAGE) (by decide) ..).trans
      (State.get_set_fld s (f := .WL_LANE_STATUS_WAITING) (by decide) ..))

/-- A domain without a section of the image is on again at once. -/
theorem State.domainUp_powered (h : s.sectsOf n = []) : (s.domainUp n).powered n = true := by
  unfold State.domainUp
  extract_lets s1 s2
  have h1 : s1.sectsOf n = [] ∧ s1.powered n = true :=
    ⟨(State.sectsOf_of_sects (s.resetUnits_sects n) n).trans h, State.powered_setPower ..⟩
  clear_value s1
  have h2 : s2.sectsOf n = [] ∧ s2.powered n = true := by
    unfold s2
    split
    · exact ⟨h1.1, (State.setPower_of_get (fun k => State.get_set_fld s1 (f := .DDR_STATUS_STATE) (by decide) ..) n).trans h1.2⟩
    · exact h1
  clear_value s2
  have hr : s2.reloadDomain n = s2 := by
    unfold State.reloadDomain
    rw [h2.1]
    rfl
  rw [hr]
  exact (State.setPower_of_get (s2.wortLaneUp_power n) n).trans h2.2

theorem State.domainOn_bare (h : s.sectsOf n = []) : s.domainOn n = s.domainUp n := if_pos (by rw [h]; rfl)

theorem State.domainOn_loaded (h : s.sectsOf n ≠ []) : s.domainOn n = (s.domainUp n).rewriteSame 2 := if_neg (by simpa using h)

end

/-! ### Power states -/

/-- The head power of the first `m` channels is off. -/
structure HeadsOff (m : Nat) (s t : State) : Prop where
  frame : t = { s with regs := t.regs, chans := t.chans, heads := t.heads, outbox := t.outbox }
  off : ∀ c, c < m → t.headOn c = false
  rest : ∀ c, m ≤ c → t.headOn c = s.headOn c
  power : ∀ k, t.get .PWR_STATE_ON 0 k = s.get .PWR_STATE_ON 0 k
  chan : ∀ c, t.chan c = s.chan c ∨ s.headOn c = true ∧ t.chan c = { s.chan c with settling := false, cut := false }
  later : ∀ c, m ≤ c → t.chan c = s.chan c

theorem State.headPower_power (s : State) (c : Nat) (b : Bool) (k : Nat) : (s.headPower c b).get .PWR_STATE_ON 0 k = s.get .PWR_STATE_ON 0 k :=
  (State.get_set_fld _ (f := .FIRE_CH_STATUS_HPWR) (by decide) ..).trans (State.get_set_fld _ (f := .KILN_HPWR_ON_ON) (by decide) ..)

theorem State.eachOff_headsOff (s : State) (m : Nat) : HeadsOff m s (s.each m (fun s c => if s.headOn c then s.headPower c false else s)) := by
  unfold State.each
  induction m with
  | zero => exact ⟨rfl, fun c h => absurd h (Nat.not_lt_zero c), fun _ _ => rfl, fun _ => rfl, fun _ => .inl rfl, fun _ _ => rfl⟩
  | succ m ih =>
    rw [List.range_succ, List.foldl_append, List.foldl_cons, List.foldl_nil]
    generalize (List.range m).foldl (fun s c => if State.headOn s c then s.headPower c false else s) s = t at ih
    obtain ⟨h1, h2, h3, h4, h5, h6⟩ := ih
    cases hm : t.headOn m with
    | false =>
      rw [if_neg (by decide)]
      exact ⟨h1, fun c hc => (Nat.lt_succ_iff_lt_or_eq.1 hc).elim (h2 c) (fun e => e ▸ hm), fun c hc => h3 c (by omega), h4, h5, fun c hc => h6 c (by omega)⟩
    | true =>
      obtain ⟨p1, p2, p3, p4, -, -⟩ := t.headPower_reads m false
      have pk := t.headPower_power m false
      generalize t.headPower m false = u at p1 p2 p3 p4 pk
      rw [if_pos rfl]
      refine ⟨by rw [p1, h1], fun c hc => ?_, fun c hc => ((p3 c (by omega)).2).trans (h3 c (by omega)), fun k => (pk k).trans (h4 k), fun c => ?_,
        fun c hc => ((p3 c (by omega)).1).trans (h6 c (by omega))⟩
      · rcases Nat.lt_succ_iff_lt_or_eq.1 hc with h | h
        · exact ((p3 c h.ne).2).trans (h2 c h)
        · rw [h, p4]
      · by_cases hcm : c = m
        · subst hcm
          exact .inr ⟨(h3 c le_rfl).symm.trans hm, by rw [p2, h6 c le_rfl]⟩
        · rw [(p3 c hcm).1]
          exact h5 c

section
variable {s : State}

theorem pstate_on (hb : s.is .PWR_PSTATE_BUSY = true) (hc : s.get .PWR_PSTATE_CUR ≠ 2) (h : s.get .PWR_PSTATE_REQ = 0) :
    exec .pstateTransitionDone s = .next ((s.set .PWR_PSTATE_CUR 0).off .PWR_PSTATE_BUSY) := by
  have he := exec_when (i := .pstateTransitionDone) (s := s) rfl (by rw [hb, bne_iff_ne.2 hc]; rfl)
  refine exec_of he ?_
  dsimp only
  rw [if_neg hc, h]
  rfl

theorem pstate_heads (hb : s.is .PWR_PSTATE_BUSY = true) (hc : s.get .PWR_PSTATE_CUR ≠ 2) (h : s.get .PWR_PSTATE_REQ = 1) :
    exec .pstateTransitionDone s = .next ((s.headsOff.set .PWR_PSTATE_CUR 1).off .PWR_PSTATE_BUSY) := by
  have he := exec_when (i := .pstateTransitionDone) (s := s) rfl (by rw [hb, bne_iff_ne.2 hc]; rfl)
  refine exec_of he ?_
  dsimp only
  rw [if_neg hc, h]
  rfl

end

/-- Settles O58: it holds. A request keeps what refusal rests on, so the loop over a group's domains settles each from the state before it. -/
theorem powerDomains : Obligations.PowerDomains := by
  unfold Obligations.PowerDomains
  refine ⟨?_, ?_, ?_, ?_, ?_, ?_⟩
  case refine_1 =>
    intro s n v hn
    have hm : (if n = 4 then 4 else 32) ≤ 32 := by split_ifs <;> decide
    obtain ⟨h1, h2, h3⟩ := s.pwrReq_asked n v hm
    exact ⟨_, exec_pwrReqWrite s hn v, h1, fun i hi => ⟨(h2 i (hi.trans_le hm)).trans (if_pos hi), (h3 i (hi.trans_le hm)).trans (if_pos hi)⟩⟩
  case refine_2 =>
    intro s n l hd hc h hp
    exact ⟨_, exec_of (exec_domainSwitch hd hc h) (if_pos hp), rfl, s.domainDown_powered n⟩
  case refine_3 =>
    intro s n l hd hc h hp hs
    exact ⟨_, exec_of (exec_domainSwitch hd hc h) (if_neg (by rw [hp]; decide)), State.domainOn_bare hs, by
      rw [State.domainOn_bare hs]
      exact State.domainUp_powered hs⟩
  case refine_4 =>
    intro s n l hd hc h hp hs
    exact ⟨_, exec_of (exec_domainSwitch hd hc h) (if_neg (by rw [hp]; decide)), State.domainOn_loaded hs⟩
  case refine_5 =>
    intro s hb hc h
    refine ⟨_, pstate_on hb hc h, ?_, ?_, State.is_off_same ..⟩
    · exact ((onlyRegs_set s .PWR_PSTATE_CUR _ 0 0).mono fun f i k ⟨a, b⟩ => ⟨.inl a, b⟩).trans
        ((onlyRegs_set _ .PWR_PSTATE_BUSY 0 0 0).mono fun f i k ⟨a, b⟩ => ⟨.inr a, b⟩)
    · exact (State.get_set_fld _ (by decide) ..).trans (State.get_set_same ..)
  case refine_6 =>
    intro s hb hc h
    have hh : HeadsOff 64 s s.headsOff := s.eachOff_headsOff 64
    have he := pstate_heads hb hc h
    generalize s.headsOff = u at hh he
    have hget : ∀ {f : Fld} (i k : Nat), f ≠ .PWR_PSTATE_CUR ∧ f ≠ .PWR_PSTATE_BUSY →
        ((u.set .PWR_PSTATE_CUR 1).off .PWR_PSTATE_BUSY).get f i k = u.get f i k := fun i k hf =>
      (State.get_set_fld _ hf.2 ..).trans (State.get_set_fld u hf.1 ..)
    refine ⟨_, he, ?_, State.is_off_same .., fun c hc => ?_, fun n => ?_, ?_, hh.chan⟩
    · exact (State.get_set_fld _ (by decide) ..).trans (State.get_set_same ..)
    · exact (congrArg (bit · (c % 32)) (hget (f := .KILN_HPWR_ON_ON) _ _ (by decide))).trans (hh.off c hc)
    · exact State.setPower_of_get (fun k => (hget (f := .PWR_STATE_ON) _ _ (by decide)).trans (hh.power k)) n
    · have hm : u.hostMem = s.hostMem ∧ u.dram = s.dram := by
        rw [hh.frame]
        exact ⟨rfl, rfl⟩
      exact ⟨fun a => congrArg (Memory.rd · a) hm.1, fun a => congrArg (Memory.rd · a) hm.2⟩

end Sys2Proof.Machine
end

section
/-! PROOF. Resets. -/

namespace Sys2Proof.Machine

-- One lemma after the other: elaborated side by side, they ask for more threads than the compile may have.
set_option Elab.async false

/-! ## Resets -/

/-! ### What a reset loses and keeps -/

theorem Tab.get_dropped {κ α : Type} [DecidableEq κ] (d : κ → α) (p : κ → Bool) (t : List (κ × α)) {k : κ} (h : p k = false) :
    Tab.get d (Tab.keep p t) k = d k := by
  induction t with
  | nil => rfl
  | cons e t ih =>
    unfold Tab.keep at ih ⊢
    by_cases he : p e.1 = true
    · have hne : e.1 ≠ k := fun heq => absurd (heq ▸ he) (by rw [h]; decide)
      rw [List.filter_cons, if_pos he, Tab.get, if_neg hne, ih]
    · rw [List.filter_cons, if_neg he, ih]

/-- The fields that switching off the heads and letting go of the web write. -/
def stopFlds : List Fld :=
  [.KILN_HPWR_ON_ON, .FIRE_CH_STATUS_HPWR, .MOT_STATUS_HELD, .TRIO_STATUS_ACTIVE, .MOT_STATUS_OWN, .FIRE_STATUS_OWNER]

/-- The machine stops: heads, web and links; nothing that a reset keeps changes. -/
structure Stops (s t : State) : Prop where
  frame : t = { s with regs := t.regs, chans := t.chans, heads := t.heads, outbox := t.outbox, trio := t.trio, wports := t.wports }
  touches : Touches stopFlds s t

namespace Stops
variable {s t u : State}

theorem refl (s : State) : Stops s s := ⟨rfl, .refl _ s⟩

theorem trans (h : Stops s t) (h' : Stops t u) : Stops s u := ⟨by rw [h'.frame, h.frame], h.touches.trans h'.touches⟩

theorem out (h : Stops s t) (o : Out) : Stops s (t.out o) := h.trans ⟨rfl, .of_regs rfl⟩

theorem set (h : Stops s t) {f : Fld} (hf : f ∈ stopFlds) (v i k : Nat) : Stops s (t.set f v i k) := h.trans ⟨rfl, (Touches.refl _ t).set hf v i k⟩

theorem get (h : Stops s t) {f : Fld} (hf : f ∉ stopFlds) (i k : Nat) : t.get f i k = s.get f i k := h.touches f i k hf

theorem headPower (h : Stops s t) (c : Nat) (b : Bool) : Stops s (t.headPower c b) :=
  h.trans ⟨rfl, ((Touches.of_regs rfl).set (f := .KILN_HPWR_ON_ON) (by decide) _ 0 (c / 32)).set (f := .FIRE_CH_STATUS_HPWR) (by decide) _ _ _⟩

theorem headsOff (h : Stops s t) : Stops s t.headsOff :=
  State.each_keeps (P := Stops s) 64 _ (fun u c hu => by
    split_ifs
    · exact hu.headPower ..
    · exact hu) t h

theorem restBalls (h : Stops s t) (n : Nat) : Stops s (t.restBalls n) := h.trans ⟨rfl, .of_regs rfl⟩

theorem allRest (h : Stops s t) : Stops s t.allRest := State.each_keeps (P := Stops s) 132 _ (fun _ n hu => hu.restBalls n) t h

theorem sendDown (h : Stops s t) (p c : Nat) : Stops s (t.sendDown p c) := by
  have hd : Deals p t (t.sendDown p c) := by
    unfold State.sendDown
    split_ifs
    · exact State.each_keeps (P := Deals p t) 4 _ (fun u _ hu => hu.sendControl ..) t (.refl p t)
    · exact .refl p t
  have hf := hd.frame
  generalize t.sendDown p c = u at hf
  exact h.trans ⟨by rw [hf], .of_regs (by rw [hf])⟩

theorem downAll (h : Stops s t) (c : Nat) : Stops s (t.downAll c) := State.each_keeps (P := Stops s) 4 _ (fun _ p hu => hu.sendDown p c) t h

theorem releaseOwn (h : Stops s t) : Stops s t.releaseOwn := by
  unfold State.releaseOwn
  extract_lets _ u
  exact ((((h.trans (u := u) ⟨rfl, .of_regs rfl⟩).set (f := .TRIO_STATUS_ACTIVE) (by decide) 0 0 0).set (f := .MOT_STATUS_OWN) (by decide) 0 0 0).set
    (f := .FIRE_STATUS_OWNER) (by decide) 0 0 0).out _

theorem headStop (s : State) : Stops s s.headStop := by
  unfold State.headStop
  extract_lets s1 s2 s3
  have h1 : Stops s s1 := State.each_keeps (P := Stops s) 64 _ (fun u c hu => by
    split_ifs
    · exact hu.out _
    · exact hu) s (.refl s)
  have h3 : Stops s s3 := State.each_keeps (P := Stops s) 4 _ (fun u a hu => hu.set (f := .MOT_STATUS_HELD) (by decide) _ _ _) s2 h1.headsOff
  split_ifs
  · exact h3.releaseOwn
  · exact h3

end Stops

/-- From `s` a reset that keeps the registers of `keep` leads to `t`. -/
structure Lost (keep : FKey → Bool) (s t : State) : Prop where
  dram : t.dram = s.dram
  hostMem : t.hostMem = s.hostMem
  flash : t.flash = s.flash
  cask : t.cask = s.cask
  kiln : t.kiln = s.kiln
  clock : t.clock = s.clock
  pending : t.pending = s.pending
  chans : t.chans = []
  units : t.engs = [] ∧ t.pages = [] ∧ t.slots = [] ∧ t.pairs = [] ∧ t.wdogWait = false
  kept : ∀ f i k, keep ⟨f, i, k⟩ = true → f ∉ stopFlds → t.get f i k = s.get f i k
  gone : ∀ f i k, keep ⟨f, i, k⟩ = false → t.get f i k = f.reset k
  off : ∀ c, c < 64 → t.headOn c = false

/-- What is left of `s`, its heads off and its balls at rest. -/
def State.left (s : State) (keep : FKey → Bool) (half : Dom → Bool) : State :=
  { State.reset with
    regs := Tab.keep keep s.regs, hiLatch := Tab.keep (fun k => half k.reg.desc.rst) s.hiLatch,
    loBuf := Tab.keep (fun k => half k.reg.desc.rst) s.loBuf, hostMem := s.hostMem, storeMem := s.storeMem, dram := s.dram, poison := s.poison, now := s.now,
    freeCtr := s.freeCtr, outbox := s.outbox, rdata := s.rdata, clock := s.clock, pllSeen := s.pllSeen, kiln := s.kiln, shots := s.shots,
    heads := s.heads.map (fun (e : Nat × HeadRec) => (e.1, { e.2 with warned := false })), flash := s.flash, cask := s.cask,
    erases := s.erases, pending := s.pending }

theorem State.lose_eq (s : State) (keep : FKey → Bool) (half : Dom → Bool) : s.lose keep half = s.headsOff.allRest.left keep half := rfl

theorem State.get_left (s : State) (keep : FKey → Bool) (half : Dom → Bool) (f : Fld) (i k : Nat) :
    (s.left keep half).get f i k = if keep ⟨f, i, k⟩ then s.get f i k else f.reset k := by
  cases h : keep ⟨f, i, k⟩ with
  | true => exact Tab.get_keep _ keep _ h
  | false => exact Tab.get_dropped _ keep _ h

theorem State.left_lost {s u : State} (hs : Stops s u) (ho : ∀ c, c < 64 → u.headOn c = false) (keep : FKey → Bool) (half : Dom → Bool) :
    Lost keep s (u.left keep half) := by
  have hg := u.get_left keep half
  have hf := hs.frame
  refine ⟨(rfl : _ = u.dram).trans ?_, (rfl : _ = u.hostMem).trans ?_, (rfl : _ = u.flash).trans ?_, (rfl : _ = u.cask).trans ?_,
    (rfl : _ = u.kiln).trans ?_, (rfl : _ = u.clock).trans ?_, (rfl : _ = u.pending).trans ?_, rfl, ⟨rfl, rfl, rfl, rfl, rfl⟩,
    fun f i k h hn => ((hg f i k).trans (if_pos h)).trans (hs.touches f i k hn), fun f i k h => (hg f i k).trans (if_neg (by rw [h]; decide)), fun c hc => ?_⟩
  case refine_8 =>
    unfold State.headOn
    rw [hg]
    split_ifs
    · exact ho c hc
    · exact Nat.zero_testBit _
  all_goals rw [hf]

theorem State.allRest_regs (s : State) : s.allRest.regs = s.regs := by
  have h : ∀ n, (s.each n State.restBalls).regs = s.regs := fun n =>
    State.each_keeps (P := fun t : State => t.regs = s.regs) n State.restBalls (fun _ _ h => h) s rfl
  exact h 132

theorem State.lose_lost (s : State) (keep : FKey → Bool) (half : Dom → Bool) : Lost keep s (s.lose keep half) := by
  rw [State.lose_eq]
  refine State.left_lost (Stops.refl s).headsOff.allRest (fun c hc => ?_) keep half
  unfold State.headOn State.get
  rw [State.allRest_regs]
  exact (s.eachOff_headsOff 64).off c hc

/-! ### The start of the release sequence -/

theorem State.begin_reads (s : State) : (fun t : State => t = { s with regs := t.regs } ∧ Touches [.RST_STATUS_PLL_WAIT, .RST_STATUS_STEP] s t ∧
      t.is .RST_STATUS_PLL_WAIT = !s.is .CLK_STATUS_CORE_LOCK ∧
      t.get .RST_STATUS_STEP = if s.is .CLK_STATUS_CORE_LOCK && !s.is .RST_STATUS_THERM_HOLD then 1 else s.get .RST_STATUS_STEP) s.begin_ := by
  unfold State.begin_
  extract_lets lock u
  have hu : u = { s with regs := u.regs } := rfl
  have ht : Touches [.RST_STATUS_PLL_WAIT, .RST_STATUS_STEP] s u := (Touches.refl _ s).set (f := .RST_STATUS_PLL_WAIT) (by decide) _ _ _
  have hp : u.is .RST_STATUS_PLL_WAIT = !lock := is_set_b2n ..
  have hh : u.is .RST_STATUS_THERM_HOLD = s.is .RST_STATUS_THERM_HOLD := congrArg (· == 1) (ht _ _ _ (by decide))
  have hs : u.get .RST_STATUS_STEP = s.get .RST_STATUS_STEP := State.get_set_fld s (f := .RST_STATUS_PLL_WAIT) (by decide) ..
  rw [hh]
  have hl : s.is .CLK_STATUS_CORE_LOCK = lock := rfl
  rw [hl]
  clear_value u
  cases hc : lock && !s.is .RST_STATUS_THERM_HOLD with
  | true =>
    refine ⟨hu ▸ rfl, ht.set (f := .RST_STATUS_STEP) (by decide) _ _ _, ?_, State.get_set_same ..⟩
    exact (congrArg (· == 1) (State.get_set_fld u (f := .RST_STATUS_STEP) (by decide) ..)).trans hp
  | false => exact ⟨hu, ht, hp, hs⟩

/-! ### A warm reset -/

/-- The fields that a warm reset writes once the switched domains are lost. -/
def relockFlds : List Fld := [.CLK_STATUS_CORE_LOCK, .RST_STATUS_THERM_HOLD, .RST_STATUS_PLL_WAIT, .RST_STATUS_STEP]

/-- A warm reset leads from `s` to `t` (R39). -/
structure Warm (s t : State) : Prop where
  dram : t.dram = s.dram
  hostMem : t.hostMem = s.hostMem
  flash : t.flash = s.flash
  cask : t.cask = s.cask
  kiln : t.kiln = s.kiln
  clock : t.clock = s.clock
  pending : t.pending = s.pending
  chans : t.chans = []
  units : t.engs = [] ∧ t.pages = [] ∧ t.slots = [] ∧ t.pairs = [] ∧ t.wdogWait = false
  kept : ∀ f, f.desc.keep = .dom → f.desc.reg.desc.rst = .aonPor → ∀ i k, t.get f i k = s.get f i k
  gone : ∀ f, f.desc.keep = .dom → f.desc.reg.desc.rst = .aon → f ∉ relockFlds → ∀ i k, t.get f i k = f.reset k
  off : ∀ c, c < 64 → t.headOn c = false
  hold : t.get .RST_STATUS_THERM_HOLD = s.get .RST_STATUS_THERM_HOLD % 2
  step : s.get .RST_STATUS_THERM_HOLD % 2 = 1 → t.get .RST_STATUS_STEP = 0

theorem stopFlds_apart : ∀ f ∈ stopFlds, f.desc.reg.desc.rst ≠ .aonPor := by decide
theorem relockFlds_apart : ∀ f ∈ relockFlds, f.desc.reg.desc.rst ≠ .aonPor := by decide

theorem State.warmLose_warm (s : State) (b : Bool) : Warm s (s.warmLose b) := by
  unfold State.warmLose
  extract_lets lock hold u
  have hl : Lost s.warmKeeps s u := s.lose_lost ..
  clear_value u
  have h0 : u.get .RST_STATUS_STEP = 0 := hl.gone _ _ _ rfl
  have hv : ∀ f, f ∉ relockFlds → ∀ i k, ((u.set .CLK_STATUS_CORE_LOCK (b2n lock)).set .RST_STATUS_THERM_HOLD hold).get f i k = u.get f i k := fun f hf i k => by
    simp only [relockFlds, List.mem_cons, not_or] at hf
    exact (State.get_set_fld _ hf.2.1 ..).trans (State.get_set_fld u hf.1 ..)
  have hh : ((u.set .CLK_STATUS_CORE_LOCK (b2n lock)).set .RST_STATUS_THERM_HOLD hold).get .RST_STATUS_THERM_HOLD = hold % 2 := State.get_set_same ..
  have hs : ((u.set .CLK_STATUS_CORE_LOCK (b2n lock)).set .RST_STATUS_THERM_HOLD hold).get .RST_STATUS_STEP = 0 :=
    (State.get_set_fld _ (f := .RST_STATUS_THERM_HOLD) (by decide) ..).trans ((State.get_set_fld u (f := .CLK_STATUS_CORE_LOCK) (by decide) ..).trans h0)
  have hf : (u.set .CLK_STATUS_CORE_LOCK (b2n lock)).set .RST_STATUS_THERM_HOLD hold =
    { u with regs := ((u.set .CLK_STATUS_CORE_LOCK (b2n lock)).set .RST_STATUS_THERM_HOLD hold).regs } := rfl
  generalize (u.set .CLK_STATUS_CORE_LOCK (b2n lock)).set .RST_STATUS_THERM_HOLD hold = v at *
  obtain ⟨b1, b2, -, b4⟩ := v.begin_reads
  generalize v.begin_ = t at b1 b2 b4
  have hg : ∀ f, f ∉ relockFlds → ∀ i k, t.get f i k = u.get f i k := fun f hf i k =>
    (b2 f i k fun h => hf (List.mem_cons_of_mem _ (List.mem_cons_of_mem _ h))).trans (hv f hf i k)
  have ht : t = { u with regs := t.regs } := by rw [b1, hf]
  have hth : t.get .RST_STATUS_THERM_HOLD = hold % 2 := (b2 _ _ _ (by decide)).trans hh
  refine ⟨by rw [ht, hl.dram], by rw [ht, hl.hostMem], by rw [ht, hl.flash], by rw [ht, hl.cask], by rw [ht, hl.kiln], by rw [ht, hl.clock], by rw [ht, hl.pending],
    by rw [ht, hl.chans], by rw [ht]; exact hl.units, fun f hd hr i k => ?_, fun f hd hr hn i k => ?_, fun c hc => ?_, hth, fun h => ?_⟩
  · refine (hg f (fun h => relockFlds_apart f h hr) i k).trans (hl.kept f i k ?_ fun h => stopFlds_apart f h hr)
    unfold State.warmKeeps
    dsimp only
    rw [hd, hr]
    rfl
  · refine (hg f hn i k).trans (hl.gone f i k ?_)
    unfold State.warmKeeps
    dsimp only
    rw [hd, hr]
    rfl
  · exact (congrArg (bit · (c % 32)) (hg .KILN_HPWR_ON_ON (by decide) 0 (c / 32))).trans (hl.off c hc)
  · have hx : v.is .RST_STATUS_THERM_HOLD = true := congrArg (· == 1) (hh.trans h)
    rw [b4, hx, hs, Bool.not_true, Bool.and_false]
    rfl

theorem Stops.warm {s t u : State} (h : Stops s t) (w : Warm t u) : Warm s u := by
  have hk : t.get .RST_STATUS_THERM_HOLD = s.get .RST_STATUS_THERM_HOLD := h.get (by decide) 0 0
  refine ⟨w.dram.trans ?_, w.hostMem.trans ?_, w.flash.trans ?_, w.cask.trans ?_, w.kiln.trans ?_, w.clock.trans ?_, w.pending.trans ?_, w.chans, w.units,
    fun f hd hr i k => (w.kept f hd hr i k).trans (h.get (fun hm => stopFlds_apart f hm hr) i k), w.gone, w.off, w.hold.trans (by rw [hk]),
    fun x => w.step (by rw [hk]; exact x)⟩
  all_goals rw [h.frame]

theorem State.warmReset_warm (s : State) (b : Bool) : Warm s (s.warmReset b) := ((Stops.refl s).downAll 3).warm (State.warmLose_warm _ b)

/-- A reset that makes the heads safe is a warm reset; a strobe cut short is counted. -/
theorem State.headSafe_warm (s : State) : Warm s s.headSafe := by
  unfold State.headSafe
  extract_lets cut u
  have hw : Warm s u := ((Stops.headStop s).downAll 1).warm (State.warmLose_warm _ false)
  clear_value u
  split_ifs
  · have hg : ∀ f, f ≠ .FIRE_DROPPED_COUNT → ∀ i k, (u.set .FIRE_DROPPED_COUNT 1).get f i k = u.get f i k := fun f hf i k => State.get_set_fld u hf ..
    refine ⟨hw.dram, hw.hostMem, hw.flash, hw.cask, hw.kiln, hw.clock, hw.pending, hw.chans, hw.units, fun f hd hr i k => (hg f ?_ i k).trans (hw.kept f hd hr i k),
      fun f hd hr hn i k => (hg f ?_ i k).trans (hw.gone f hd hr hn i k), fun c hc => ?_, (hg _ (by decide) 0 0).trans hw.hold, fun h => (hg _ (by decide) 0 0).trans (hw.step h)⟩
    · rintro rfl
      exact absurd hr (by decide)
    · rintro rfl
      exact absurd hr (by decide)
    · exact (congrArg (bit · (c % 32)) (hg .KILN_HPWR_ON_ON (by decide) 0 (c / 32))).trans (hw.off c hc)
  · exact hw

/-! ### Power-on -/

/-- What a power-on reset keeps of `s`, its balls at rest. -/
def State.powered0 (s : State) : State :=
  { State.reset with
    regs := Tab.keep FKey.fuse s.regs, hostMem := s.hostMem, storeMem := s.storeMem, flash := s.flash, cask := s.cask,
    erases := s.erases, freeCtr := s.freeCtr, outbox := s.outbox, rdata := s.rdata, pending := s.pending }

theorem State.powerOn_eq (s : State) : s.powerOn = s.allRest.powered0 := rfl

theorem State.powered0_reset (s : State) {f : Fld} (h : f.desc.keep ≠ .fuse) (i k : Nat) : s.powered0.get f i k = f.reset k :=
  Tab.get_dropped FKey.dflt FKey.fuse s.regs (k := ⟨f, i, k⟩) (decide_eq_false h)

def strapFlds : List Fld := [.RST_STRAPS_BOOT_SRC, .RST_STRAPS_CLK_MODE, .RST_STRAPS_ROLE, .CLK_STATUS_SRC]

theorem State.latch_reads (s : State) (v : Nat) : (fun t : State => t = { s with regs := t.regs } ∧ Touches strapFlds s t ∧
      t.get .RST_STRAPS_BOOT_SRC = v % 4 ∧ t.get .RST_STRAPS_CLK_MODE = v / 4 % 4 ∧ t.get .RST_STRAPS_ROLE = v / 16 % 4) (s.latch v) := by
  unfold State.latch
  extract_lets u
  refine ⟨rfl, ((((Touches.refl _ s).set (f := .RST_STRAPS_BOOT_SRC) (by decide) _ _ _).set (f := .RST_STRAPS_CLK_MODE) (by decide) _ _ _).set
    (f := .RST_STRAPS_ROLE) (by decide) _ _ _).set (f := .CLK_STATUS_SRC) (by decide) _ _ _, ?_, ?_, ?_⟩
  · refine (State.get_set_fld _ (f := .CLK_STATUS_SRC) (by decide) ..).trans ((State.get_set_fld _ (f := .RST_STRAPS_ROLE) (by decide) ..).trans ?_)
    exact (State.get_set_fld _ (f := .RST_STRAPS_CLK_MODE) (by decide) ..).trans (State.get_set_same ..)
  · exact (State.get_set_fld _ (f := .CLK_STATUS_SRC) (by decide) ..).trans ((State.get_set_fld _ (f := .RST_STRAPS_ROLE) (by decide) ..).trans (State.get_set_same ..))
  · exact (State.get_set_fld _ (f := .CLK_STATUS_SRC) (by decide) ..).trans (State.get_set_same ..)

/-- The state after a power-on reset with the straps `v`: what the release sequence starts from. -/
theorem State.powerOn_reads (s : State) (v : Nat) : (fun t : State => t.kiln = none ∧ t.dram = [] ∧ t.chans = [] ∧ t.hostMem = s.hostMem ∧
      t.flash = s.flash ∧ t.cask = s.cask ∧ t.get .RST_STATUS_STEP = 0 ∧ t.is .RST_STATUS_PLL_WAIT = true ∧ t.is .RST_CAUSE_POR = true ∧
      t.get .RST_STRAPS_BOOT_SRC = v % 4 ∧ t.get .RST_STRAPS_CLK_MODE = v / 4 % 4 ∧ t.get .RST_STRAPS_ROLE = v / 16 % 4)
    (s.powerOn.latch v).begin_ := by
  rw [State.powerOn_eq]
  have hr := (Stops.refl s).allRest.frame
  generalize s.allRest = r at hr
  have h0 : ∀ f : Fld, f.desc.keep ≠ .fuse → f ∉ strapFlds → (r.powered0.latch v).get f = f.reset 0 := fun f hf hn =>
    ((r.powered0.latch_reads v).2.1 f 0 0 hn).trans (r.powered0_reset hf 0 0)
  have hm : r.powered0.kiln = none ∧ r.powered0.dram = [] ∧ r.powered0.chans = [] ∧ r.powered0.hostMem = s.hostMem ∧ r.powered0.flash = s.flash ∧
      r.powered0.cask = s.cask := ⟨rfl, rfl, rfl, (rfl : _ = r.hostMem).trans (by rw [hr]), (rfl : _ = r.flash).trans (by rw [hr]), (rfl : _ = r.cask).trans (by rw [hr])⟩
  obtain ⟨l1, l2, l3, l4, l5⟩ := r.powered0.latch_reads v
  generalize r.powered0 = u at *
  generalize u.latch v = w at *
  obtain ⟨b1, b2, b3, b4⟩ := w.begin_reads
  generalize w.begin_ = t at *
  have hl : w.is .CLK_STATUS_CORE_LOCK = false := congrArg (· == 1) (h0 _ (by decide) (by decide))
  have ht : t = { u with regs := t.regs } := by rw [b1, l1]
  obtain ⟨m1, m2, m3, m4, m5, m6⟩ := hm
  refine ⟨by rw [ht, m1], by rw [ht, m2], by rw [ht, m3], by rw [ht, m4], by rw [ht, m5], by rw [ht, m6], ?_, by rw [b3, hl]; rfl, ?_,
    (b2 _ _ _ (by decide)).trans l3, (b2 _ _ _ (by decide)).trans l4, (b2 _ _ _ (by decide)).trans l5⟩
  · rw [b4, hl]
    exact h0 _ (by decide) (by decide)
  · exact congrArg (· == 1) ((b2 _ _ _ (by decide)).trans (h0 _ (by decide) (by decide)))

/-! ### Causes -/

theorem Warm.is {s t : State} (h : Warm s t) {f : Fld} (hk : f.desc.keep = .dom) (hr : f.desc.reg.desc.rst = .aonPor) (i k : Nat) : t.is f i k = s.is f i k :=
  congrArg (· == 1) (h.kept f hk hr i k)

theorem Warm.powered {s t : State} (h : Warm s t) (n : Nat) : t.powered n = false :=
  (congrArg (bit · (n % 32)) (h.gone .PWR_STATE_ON rfl rfl (by decide) 0 (n / 32))).trans (Nat.zero_testBit _)

theorem cause_kept : ∀ f ∈ Reg.RST_CAUSE.fields, f.desc.keep = .dom ∧ f.desc.reg.desc.rst = .aonPor := by decide

theorem State.warmReset_reads (s : State) (b : Bool) : (fun t : State =>
      t.dram = s.dram ∧ t.hostMem = s.hostMem ∧ t.flash = s.flash ∧ t.cask = s.cask ∧ t.kiln = s.kiln ∧ t.clock = s.clock ∧ t.pending = s.pending ∧
      t.chans = [] ∧ t.engs = [] ∧ t.pages = [] ∧ t.slots = [] ∧ t.pairs = [] ∧ t.wdogWait = false ∧ t.is .RST_STATUS_DONE = false ∧
      (∀ f ∈ Reg.RST_CAUSE.fields, t.get f = s.get f) ∧ (∀ n, n < 132 → t.powered n = false)) (s.warmReset b) := by
  have h := s.warmReset_warm b
  generalize s.warmReset b = t at h
  obtain ⟨u1, u2, u3, u4, u5⟩ := h.units
  exact ⟨h.dram, h.hostMem, h.flash, h.cask, h.kiln, h.clock, h.pending, h.chans, u1, u2, u3, u4, u5,
    congrArg (· == 1) (h.gone .RST_STATUS_DONE rfl rfl (by decide) 0 0), fun f hf => h.kept f (cause_kept f hf).1 (cause_kept f hf).2 0 0, fun n _ => h.powered n⟩

section
variable {s : State}

theorem exec_resetN {ns : Nat} {b : Bool} (h : 1000 ≤ ns ∨ 100 ≤ ns ∧ b = true) (v : Nat) : exec (.resetNReset ns b v) s = .next
    (((s.on .RST_CAUSE_PIN).latch v).warmReset (v / 4 % 4 != s.get .RST_STRAPS_CLK_MODE)) := by
  have he := exec_when (i := .resetNReset ns b v) (s := s) rfl (by simpa using h)
  refine exec_of he ?_
  dsimp only
  rw [show (s.on .RST_CAUSE_PIN).get .RST_STRAPS_CLK_MODE = s.get .RST_STRAPS_CLK_MODE from State.get_set_fld s (by decide) ..]

theorem resetN_pin (v : Nat) (b : Bool) : (((s.on .RST_CAUSE_PIN).latch v).warmReset b).is .RST_CAUSE_PIN = true := by
  refine (((s.on .RST_CAUSE_PIN).latch v).warmReset_warm b).is rfl rfl 0 0 |>.trans ?_
  exact (congrArg (· == 1) (((s.on .RST_CAUSE_PIN).latch_reads v).2.1 .RST_CAUSE_PIN 0 0 (by decide))).trans (is_on_self s)

/-- A cause that is set stays through the reset. -/
theorem State.warmReset_cause (f : Fld) (hk : f.desc.keep = .dom) (hr : f.desc.reg.desc.rst = .aonPor) (hw : 0 < f.desc.width) (b : Bool) :
    ((s.on f).warmReset b).is f = true := (((s.on f).warmReset_warm b).is hk hr 0 0).trans (is_on_self s hw)

theorem wortReset_runs {p n : Nat} (hn : 4 ≤ n) (hp : s.wortUp p = true) (hu : s.upPort = some p ∨ s.upPort = none ∧ s.is .BAR_STATUS_ENUMERATED = false) :
    Runs (.wortResetRequest p n) s (fun t => t.is .RST_CAUSE_WORT = true ∧ t.get .RST_CAUSE_INFO_WORT_PORT = p ∧ t.chans = [] ∧ t.dram = s.dram) := by
  have he := exec_when (i := .wortResetRequest p n) (s := s) rfl (by rw [decide_eq_true hn, hp]; rfl)
  have hc : (match s.upPort with | some u => u == p | none => !s.is .BAR_STATUS_ENUMERATED) = true := by
    rcases hu with h | ⟨h, h'⟩
    · rw [h]
      exact beq_self_eq_true p
    · rw [h]
      exact congrArg (!·) h'
  have hp4 : p < 4 := by
    have := (Bool.and_eq_true _ _ ▸ hp : decide (p < 4) = true ∧ _).1
    exact of_decide_eq_true this
  have hw := ((s.set .RST_CAUSE_INFO_WORT_PORT p).on .RST_CAUSE_WORT).warmReset_warm false
  refine ⟨_, exec_of he (if_pos hc), (hw.is rfl rfl 0 0).trans (is_on_self _), ?_, hw.chans, hw.dram⟩
  refine (hw.kept .RST_CAUSE_INFO_WORT_PORT rfl rfl 0 0).trans ((State.get_set_fld _ (f := .RST_CAUSE_WORT) (by decide) ..).trans ?_)
  exact State.get_set_fits _ _ _ (Nat.mod_eq_of_lt hp4)

theorem wortReset_other {p n : Nat} (hn : 4 ≤ n) (hp : s.wortUp p = true) (hu : ∃ q, s.upPort = some q ∧ q ≠ p) :
    exec (.wortResetRequest p n) s = .next (s.telEvent 0x0005 p) := by
  obtain ⟨q, hq, hne⟩ := hu
  have he := exec_when (i := .wortResetRequest p n) (s := s) rfl (by rw [decide_eq_true hn, hp]; rfl)
  refine exec_of he (if_neg ?_)
  rw [hq]
  simpa using hne

end

/-! ### Heads made safe -/

section
variable {s : State}

/-- The trip of sensor `n` noted. -/
def State.tripNoted (s : State) (n : Nat) : State := ((s.set .RST_CAUSE_INFO_THERM_SENSOR n).on .RST_CAUSE_THERM).on .RST_STATUS_THERM_HOLD

theorem thermalTrip_runs {n : Nat} (hn : n < 40) : Runs (.thermalTrip n) s (fun t => t.is .RST_CAUSE_THERM = true ∧ t.get .RST_CAUSE_INFO_THERM_SENSOR = n ∧
    t.is .RST_STATUS_THERM_HOLD = true ∧ t.get .RST_STATUS_STEP = 0 ∧ t.chans = [] ∧ (∀ c, c < 64 → t.headOn c = false) ∧ t.dram = s.dram) := by
  have he : exec (.thermalTrip n) s = .next (s.tripNoted n).headSafe := exec_when (i := .thermalTrip n) (s := s) rfl (decide_eq_true hn)
  have hw := (s.tripNoted n).headSafe_warm
  have hh : (s.tripNoted n).get .RST_STATUS_THERM_HOLD = 1 := State.get_set_same ..
  have hc : (s.tripNoted n).is .RST_CAUSE_THERM = true :=
    (congrArg (· == 1) (State.get_set_fld _ (f := .RST_STATUS_THERM_HOLD) (by decide) ..)).trans (is_on_self _)
  have hi : (s.tripNoted n).get .RST_CAUSE_INFO_THERM_SENSOR = n :=
    (State.get_set_fld _ (f := .RST_STATUS_THERM_HOLD) (by decide) ..).trans ((State.get_set_fld _ (f := .RST_CAUSE_THERM) (by decide) ..).trans
      (State.get_set_fits s _ _ (Nat.mod_eq_of_lt (hn.trans (by decide)))))
  have hd : (s.tripNoted n).dram = s.dram := rfl
  generalize s.tripNoted n = u at *
  exact ⟨_, he, (hw.is rfl rfl 0 0).trans hc, (hw.kept _ rfl rfl 0 0).trans hi, by rw [State.is, hw.hold, hh]; rfl,
    hw.step (by rw [hh]), hw.chans, hw.off, hw.dram.trans hd⟩

theorem thermalRelease_runs (h : s.is .RST_STATUS_THERM_HOLD = true) :
    Runs .thermalRelease s (fun t => t.is .RST_STATUS_THERM_HOLD = false ∧ t.is .RST_STATUS_PLL_WAIT = !s.is .CLK_STATUS_CORE_LOCK ∧
      t.get .RST_STATUS_STEP = (if s.is .CLK_STATUS_CORE_LOCK then 1 else s.get .RST_STATUS_STEP) ∧ t = { s with regs := t.regs }) := by
  have he : exec .thermalRelease s = .next (s.off .RST_STATUS_THERM_HOLD).begin_ := exec_when (i := .thermalRelease) (s := s) rfl h
  have h0 : (s.off .RST_STATUS_THERM_HOLD).is .RST_STATUS_THERM_HOLD = false := State.is_off_same ..
  have hl : (s.off .RST_STATUS_THERM_HOLD).is .CLK_STATUS_CORE_LOCK = s.is .CLK_STATUS_CORE_LOCK := congrArg (· == 1) (State.get_set_fld s (by decide) ..)
  have hs : (s.off .RST_STATUS_THERM_HOLD).get .RST_STATUS_STEP = s.get .RST_STATUS_STEP := State.get_set_fld s (by decide) ..
  have hf : s.off .RST_STATUS_THERM_HOLD = { s with regs := (s.off .RST_STATUS_THERM_HOLD).regs } := rfl
  generalize s.off .RST_STATUS_THERM_HOLD = u at *
  obtain ⟨b1, b2, b3, b4⟩ := u.begin_reads
  refine ⟨_, he, (congrArg (· == 1) (b2 _ _ _ (by decide))).trans h0, b3.trans (by rw [hl]), b4.trans ?_, by rw [b1, hf]⟩
  rw [h0, hl, hs, Bool.not_false, Bool.and_true]

/-- The critical-state error of unit `n` noted. -/
def State.critNoted (s : State) (n : Nat) (b : Bool) : State :=
  State.set (match n with
    | 0 => s.on .RST_CAUSE_CRIT_FIRE
    | 1 =>
      let s := s.on .RST_CAUSE_CRIT_KILN
      { s with kiln := none, kilnWin := [], regs := Tab.keep (fun k => k.fld.desc.reg.desc.block != Block.kiln || k.fld == Fld.KILN_HPWR_ON_ON) s.regs }
    | 2 => s.on .RST_CAUSE_CRIT_TRIO
    | _ => s.on .RST_CAUSE_CRIT_QM) .RST_CAUSE_INFO_CRIT_DBE (b2n b)

/-- The cause of a critical-state error of unit `n`. -/
def critFld : Nat → Fld
  | 0 => .RST_CAUSE_CRIT_FIRE
  | 1 => .RST_CAUSE_CRIT_KILN
  | 2 => .RST_CAUSE_CRIT_TRIO
  | _ => .RST_CAUSE_CRIT_QM

theorem critFld_cases (n : Nat) : critFld n ∈ Reg.RST_CAUSE.fields ∧ critFld n ≠ .RST_CAUSE_INFO_CRIT_DBE ∧ 0 < (critFld n).desc.width := by
  unfold critFld
  split <;> decide

theorem State.critNoted_reads (s : State) {n : Nat} (hn : n < 4) (b : Bool) : (fun t : State => t.is (critFld n) = true ∧ t.is .RST_CAUSE_INFO_CRIT_DBE = b ∧
    t.kiln = if n = 1 then none else s.kiln) (s.critNoted n b) := by
  have hb : (s.critNoted n b).is .RST_CAUSE_INFO_CRIT_DBE = b := is_set_b2n ..
  have hd : ∀ u : State, u.is (critFld n) = true → (u.set .RST_CAUSE_INFO_CRIT_DBE (b2n b)).is (critFld n) = true := fun u h =>
    (congrArg (· == 1) (State.get_set_fld u (critFld_cases n).2.1 ..)).trans h
  refine ⟨hd _ ?_, hb, ?_⟩
  · match n, hn with
    | 0, _ => exact is_on_self s
    | 1, _ => exact (congrArg (· == 1) (Tab.get_keep FKey.dflt (fun k => k.fld.desc.reg.desc.block != Block.kiln || k.fld == Fld.KILN_HPWR_ON_ON) (s.on .RST_CAUSE_CRIT_KILN).regs (k := ⟨.RST_CAUSE_CRIT_KILN, 0, 0⟩) rfl) :).trans (is_on_self s)
    | 2, _ => exact is_on_self s
    | 3, _ => exact is_on_self s
  · match n, hn with
    | 0, _ => rfl
    | 1, _ => rfl
    | 2, _ => rfl
    | 3, _ => rfl

theorem critical_runs {n : Nat} (hn : n < 4) (b : Bool) : Runs (.criticalStateError n b) s (fun t => t.is (critFld n) = true ∧
    t.is .RST_CAUSE_INFO_CRIT_DBE = b ∧ t.kiln = (if n = 1 then none else s.kiln) ∧ t.chans = [] ∧ (∀ c, c < 64 → t.headOn c = false)) := by
  have he : exec (.criticalStateError n b) s = .next (s.critNoted n b).headSafe :=
    exec_when (i := .criticalStateError n b) (s := s) rfl (decide_eq_true hn)
  obtain ⟨r1, r2, r3⟩ := s.critNoted_reads hn b
  generalize s.critNoted n b = u at *
  have hw := u.headSafe_warm
  obtain ⟨k1, k2⟩ := cause_kept _ (critFld_cases n).1
  exact ⟨_, he, (hw.is k1 k2 0 0).trans r1, (hw.is rfl rfl 0 0).trans r2, hw.kiln.trans r3, hw.chans, hw.off⟩

theorem supplyFail_runs {n : Nat} (hn : n < 32) : Runs (.supplyFail n) s (fun t => t.kiln = none ∧ t.dram = [] ∧ t.chans = [] ∧ t.flash = s.flash ∧
    t.get .RST_STATUS_STEP = 0 ∧ t.is .RST_CAUSE_POR = true) := by
  have he := exec_when (i := .supplyFail n) (s := s) rfl (decide_eq_true hn)
  dsimp only at he
  have hf : (if n = 10 ∨ n = 11 then s else s.headStop).flash = s.flash := by
    split_ifs
    · rfl
    · rw [(Stops.headStop s).frame]
  generalize (if n = 10 ∨ n = 11 then s else s.headStop) = u at he hf
  generalize s.get .RST_STRAPS_BOOT_SRC + 4 * s.get .RST_STRAPS_CLK_MODE + 16 * s.get .RST_STRAPS_ROLE = v at he
  obtain ⟨p1, p2, p3, -, p5, -, p7, -, p9, -⟩ := u.powerOn_reads v
  exact ⟨_, he, p1, p2, p3, p5.trans hf, p7, p9⟩

end

/-! ### The release sequence -/

theorem mem_releaseDomains (m d : Nat) : d ∈ releaseDomains m ↔ m = 2 ∧ d = 130 ∨ m = 3 ∧ 100 ≤ d ∧ d < 106 ∨ m = 4 ∧ d = 131 ∨
    m = 5 ∧ 64 ≤ d ∧ d < 100 ∨ m = 14 ∧ 106 ≤ d ∧ d < 118 ∨ m = 15 ∧ 118 ≤ d ∧ d < 130 ∨ 6 ≤ m ∧ m ≤ 13 ∧ 8 * (m - 6) ≤ d ∧ d < 8 * (m - 6) + 8 := by
  have hspan : ∀ a n, d ∈ (List.range n).map (fun i => a + i) ↔ a ≤ d ∧ d < a + n := fun a n => by
    rw [List.mem_map]
    exact ⟨fun ⟨i, hi, h⟩ => by rw [List.mem_range] at hi; omega, fun h => ⟨d - a, List.mem_range.2 (by omega), by omega⟩⟩
  unfold releaseDomains
  dsimp only
  split
  case h_1 => rw [List.mem_singleton]; omega
  case h_2 => rw [hspan]; omega
  case h_3 => rw [List.mem_singleton]; omega
  case h_4 => rw [hspan]; omega
  case h_5 => rw [hspan]; omega
  case h_6 => rw [hspan]; omega
  case h_7 h2 h3 h4 h5 h14 h15 =>
    split_ifs with h
    · rw [hspan]
      omega
    · rw [List.mem_nil_iff, false_iff]
      rintro (⟨e, -⟩ | ⟨e, -⟩ | ⟨e, -⟩ | ⟨e, -⟩ | ⟨e, -⟩ | ⟨e, -⟩ | ⟨e, e', -⟩)
      · exact h2 e
      · exact h3 e
      · exact h4 e
      · exact h5 e
      · exact h14 e
      · exact h15 e
      · exact h ⟨e, e'⟩

theorem releaseDomains_once {d : Nat} (hd : d < 132) : ∃ n, 2 ≤ n ∧ n ≤ 15 ∧ d ∈ releaseDomains n ∧ ∀ m, d ∈ releaseDomains m → m = n := by
  obtain ⟨n, hn⟩ : ∃ n, d ∈ releaseDomains n := by
    rcases Nat.lt_or_ge d 64 with h | h
    · exact ⟨6 + d / 8, (mem_releaseDomains ..).2 (by omega)⟩
    · by_cases h3 : 100 ≤ d ∧ d < 106
      · exact ⟨3, (mem_releaseDomains ..).2 (by omega)⟩
      · exact ⟨if d < 100 then 5 else if d < 118 then 14 else if d < 130 then 15 else if d = 130 then 2 else 4, (mem_releaseDomains ..).2 (by split_ifs <;> omega)⟩
  have hm := (mem_releaseDomains n d).1 hn
  exact ⟨n, by omega, by omega, hn, fun m h => by have := (mem_releaseDomains m d).1 h; omega⟩

/-- The fields that a released domain writes. -/
def releaseFlds : List Fld := [.PWR_STATE_ON, .DDR_STATUS_STATE] ++ trainFlds

theorem State.powered_setPower_at (s : State) (n d : Nat) (b : Bool) : (s.setPower n b).powered d = if d = n then b else s.powered d := by
  by_cases hd : d = n
  · rw [if_pos hd, hd, State.powered_setPower]
  · rw [if_neg hd]
    unfold State.powered State.setPower
    by_cases hk : d / 32 = n / 32
    · rw [hk]
      exact (s.bit_putB_at .PWR_STATE_ON (n % 32) b 0 (n / 32) (x := d % 32) (Nat.mod_lt d (by decide))).trans (if_neg (by omega))
    · unfold State.putB
      rw [State.get_set, if_neg (fun h => hk h.2.2)]

theorem State.wortTrain_memory (s : State) (p x : Nat) : (s.wortTrain p x).hostMem = s.hostMem ∧ (s.wortTrain p x).dram = s.dram := by
  unfold State.wortTrain
  extract_lets s1 s2 s3
  have h1 : s2.hostMem = s.hostMem ∧ s2.dram = s.dram := by
    have hf := (s.setActive_reads p 0).1
    unfold s2 s1
    generalize s.setActive p 0 = u at hf
    exact ⟨(rfl : _ = u.hostMem).trans (by rw [hf]), (rfl : _ = u.dram).trans (by rw [hf])⟩
  exact State.each_keeps (P := fun t : State => t.hostMem = s.hostMem ∧ t.dram = s.dram) 9 _ (fun t k ht => by
    split_ifs
    · exact ht
    · exact ht) s2 h1

/-- Domains of `l` were released. -/
structure Released (l : List Nat) (s t : State) : Prop where
  touches : Touches releaseFlds s t
  memory : t.hostMem = s.hostMem ∧ t.dram = s.dram
  powered : ∀ d, t.powered d = (s.powered d || l.contains d)

theorem State.releaseDomain_released (s : State) (n : Nat) : Released [n] s (s.releaseDomain n) := by
  unfold State.releaseDomain
  extract_lets s1 s2
  have hpower : ∀ {u v : State}, (∀ k, v.get .PWR_STATE_ON 0 k = u.get .PWR_STATE_ON 0 k) → ∀ d, v.powered d = u.powered d := fun h d => State.setPower_of_get h d
  have h1 : Released [n] s s1 := ⟨(Touches.refl _ s).set (f := .PWR_STATE_ON) (by decide) _ _ _, ⟨rfl, rfl⟩, fun d => by
    refine (s.powered_setPower_at n d true).trans ?_
    by_cases h : d = n
    · simp [h]
    · simp [h]⟩
  have h2 : Released [n] s s2 := by
    unfold s2
    split
    · exact ⟨h1.touches.set (f := .DDR_STATUS_STATE) (by decide) _ _ _, h1.memory, fun d =>
        (hpower (fun k => State.get_set_fld s1 (f := .DDR_STATUS_STATE) (by decide) ..) d).trans (h1.powered d)⟩
    · exact h1
  split_ifs
  · have ht := (s2.wortTrain_reads ((n - 72) / 9) (show 1 < 8 by decide)).1
    have hm := s2.wortTrain_memory ((n - 72) / 9) 1
    exact ⟨h2.touches.trans (ht.mono (by decide)), ⟨hm.1.trans h2.memory.1, hm.2.trans h2.memory.2⟩, fun d =>
      (hpower (fun k => ht _ _ _ (by decide)) d).trans (h2.powered d)⟩
  · exact h2

theorem State.releaseAll_released (l : List Nat) (s : State) : Released l s (l.foldl State.releaseDomain s) := by
  induction l generalizing s with
  | nil => exact ⟨.refl _ s, ⟨rfl, rfl⟩, fun d => (Bool.or_false _).symm⟩
  | cons n l ih =>
    have h1 := s.releaseDomain_released n
    have h2 := ih (s.releaseDomain n)
    exact ⟨h1.touches.trans h2.touches, ⟨h2.memory.1.trans h1.memory.1, h2.memory.2.trans h1.memory.2⟩, fun d => by
      rw [List.foldl_cons, h2.powered, h1.powered, Bool.or_assoc, List.contains_cons, List.contains_cons, List.contains_nil, Bool.or_false]⟩

section
variable {s : State}

/-- The last step tells that the release is done. -/
def State.stepEnd (s : State) (n : Nat) : State :=
  let s := if n = 4 then s.bootTable else s
  if n = 16 then (s.set .GRS_GEN_GEN 2).on .RST_STATUS_DONE else s

theorem State.stepEnd_reads (s : State) (n : Nat) : (fun t : State => t.get .RST_STATUS_STEP = s.get .RST_STATUS_STEP ∧
      t.is .RST_STATUS_DONE = (s.is .RST_STATUS_DONE || n == 16) ∧ (∀ d, t.powered d = s.powered d) ∧ (n = 16 → t.get .GRS_GEN_GEN = 2) ∧
      t.hostMem = s.hostMem ∧ t.dram = s.dram) (s.stepEnd n) := by
  unfold State.stepEnd
  extract_lets u
  have hu : Touches [.GRS_CAUSE_CAUSE, .GRS_IMAGE_ID_ID] s u ∧ u.hostMem = s.hostMem ∧ u.dram = s.dram := by
    unfold u
    split_ifs
    · exact ⟨((Touches.of_regs rfl).set (f := .GRS_CAUSE_CAUSE) (by decide) 0 0 0).set (f := .GRS_IMAGE_ID_ID) (by decide) 0 0 0, rfl, rfl⟩
    · exact ⟨.refl _ s, rfl, rfl⟩
  clear_value u
  obtain ⟨h1, h2, h3⟩ := hu
  by_cases h : n = 16
  · rw [if_pos h]
    have hg : ∀ f, f ≠ .GRS_GEN_GEN → f ≠ .RST_STATUS_DONE → ∀ i k, ((u.set .GRS_GEN_GEN 2).on .RST_STATUS_DONE).get f i k = u.get f i k := fun f hf hf' i k =>
      (State.get_set_fld _ hf' ..).trans (State.get_set_fld u hf ..)
    refine ⟨(hg _ (by decide) (by decide) 0 0).trans (h1 _ _ _ (by decide)), ?_, fun d => ?_, fun _ => ?_, h2, h3⟩
    · rw [h, beq_self_eq_true, Bool.or_true]
      exact is_on_self _
    · exact State.setPower_of_get (fun k => (hg _ (by decide) (by decide) 0 k).trans (h1 _ _ _ (by decide))) d
    · exact (State.get_set_fld _ (f := .RST_STATUS_DONE) (by decide) ..).trans (State.get_set_same ..)
  · rw [if_neg h, beq_eq_false_iff_ne.2 h, Bool.or_false]
    exact ⟨h1 _ _ _ (by decide), congrArg (· == 1) (h1 _ _ _ (by decide)), fun d => State.setPower_of_get (fun k => h1 _ _ _ (by decide)) d,
      fun h' => absurd h' h, h2, h3⟩

theorem releaseStep_runs {n : Nat} (hn : n = s.get .RST_STATUS_STEP + 1) (h2 : 2 ≤ n) (h16 : n ≤ 16) (hl : s.is .CLK_STATUS_CORE_LOCK = true)
    (hh : s.is .RST_STATUS_THERM_HOLD = false) : Runs .releaseStep s (fun t => t.get .RST_STATUS_STEP = n ∧
      t.is .RST_STATUS_DONE = (s.is .RST_STATUS_DONE || n == 16) ∧ (∀ d, d < 132 → t.powered d = (s.powered d || (releaseDomains n).contains d)) ∧
      (n = 16 → t.get .GRS_GEN_GEN = 2) ∧ SameMemory s t) := by
  subst hn
  have he : exec .releaseStep s = .next (State.stepEnd ((releaseDomains (s.get .RST_STATUS_STEP + 1)).foldl State.releaseDomain
      (s.set .RST_STATUS_STEP (s.get .RST_STATUS_STEP + 1))) (s.get .RST_STATUS_STEP + 1)) :=
    exec_when (i := .releaseStep) (s := s) rfl (by rw [decide_eq_true ⟨h2, h16⟩, hl, hh]; rfl)
  generalize s.get .RST_STATUS_STEP + 1 = n at *
  have hr := State.releaseAll_released (releaseDomains n) (s.set .RST_STATUS_STEP n)
  have hs : (s.set .RST_STATUS_STEP n).get .RST_STATUS_STEP = n := State.get_set_fits s _ _ (Nat.mod_eq_of_lt (h16.trans_lt (by decide)))
  have hd : (s.set .RST_STATUS_STEP n).is .RST_STATUS_DONE = s.is .RST_STATUS_DONE := congrArg (· == 1) (State.get_set_fld s (by decide) ..)
  have hp : ∀ d, (s.set .RST_STATUS_STEP n).powered d = s.powered d := fun d => State.setPower_of_get (fun k => State.get_set_fld s (by decide) ..) d
  have hm : (s.set .RST_STATUS_STEP n).hostMem = s.hostMem ∧ (s.set .RST_STATUS_STEP n).dram = s.dram := ⟨rfl, rfl⟩
  generalize s.set .RST_STATUS_STEP n = u at *
  obtain ⟨e1, e2, e3, e4, e5, e6⟩ := State.stepEnd_reads ((releaseDomains n).foldl State.releaseDomain u) n
  generalize (releaseDomains n).foldl State.releaseDomain u = v at *
  refine ⟨_, he, e1.trans ((hr.touches _ _ _ (by decide)).trans hs), ?_, fun d _ => (e3 d).trans ((hr.powered d).trans (by rw [hp])), e4, ?_⟩
  · rw [e2, ← hd]
    exact congrArg (fun x => x == 1 || n == 16) (hr.touches .RST_STATUS_DONE _ _ (by decide))
  · exact ⟨fun a => by rw [e5, hr.memory.1, hm.1], fun a => by rw [e6, hr.memory.2, hm.2]⟩

/-! ### The PLL -/

theorem State.locked_reads (s : State) : (fun t : State => t.is .CLK_STATUS_CORE_LOCK = true ∧ t.is .RST_STATUS_CLK_ABSENT = false ∧
      t.is .RST_STATUS_PLL_WAIT = false ∧ t.pllSeen = true ∧
      t.get .TIME_STATUS_EPOCH = (if s.pllSeen then (s.get .TIME_STATUS_EPOCH + 1) % 2 ^ Fld.TIME_STATUS_EPOCH.desc.width else s.get .TIME_STATUS_EPOCH) ∧
      t = { s with regs := t.regs, pllSeen := true }) s.locked := by
  unfold State.locked
  extract_lets u v
  have hu : u = { s with regs := u.regs } ∧ u.get .TIME_STATUS_EPOCH =
      (if s.pllSeen then (s.get .TIME_STATUS_EPOCH + 1) % 2 ^ Fld.TIME_STATUS_EPOCH.desc.width else s.get .TIME_STATUS_EPOCH) := by
    unfold u
    split_ifs
    · exact ⟨rfl, (State.get_set_fld _ (f := .TIME_STATUS_UNSYNC) (by decide) ..).trans (State.get_set_same ..)⟩
    · exact ⟨rfl, rfl⟩
  obtain ⟨h1, h2⟩ := hu
  have hl : v.is .CLK_STATUS_CORE_LOCK = true :=
    (congrArg (· == 1) (State.get_set_fld _ (f := .RST_STATUS_CLK_ABSENT) (by decide) ..)).trans (is_on_self u)
  have ha : v.is .RST_STATUS_CLK_ABSENT = false := State.is_off_same ..
  have hp : v.get .TIME_STATUS_EPOCH = u.get .TIME_STATUS_EPOCH :=
    (State.get_set_fld _ (f := .RST_STATUS_CLK_ABSENT) (by decide) ..).trans (State.get_set_fld u (f := .CLK_STATUS_CORE_LOCK) (by decide) ..)
  have hf : v = { u with regs := v.regs } := rfl
  clear_value v u
  obtain ⟨b1, b2, b3, -⟩ := State.begin_reads { v with pllSeen := true }
  have hz : ∀ f i k, State.get { v with pllSeen := true } f i k = v.get f i k := fun _ _ _ => rfl
  have hi : State.is { v with pllSeen := true } .CLK_STATUS_CORE_LOCK = true := hl
  generalize State.begin_ { v with pllSeen := true } = t at *
  refine ⟨(congrArg (· == 1) (b2 _ _ _ (by decide))).trans hi, (congrArg (· == 1) (b2 .RST_STATUS_CLK_ABSENT 0 0 (by decide))).trans ha,
    by rw [b3, hi]; rfl, by rw [b1], (b2 _ _ _ (by decide)).trans (hp.trans h2), by rw [b1, hf, h1]⟩

/-- The clock is lost: what of `s` is left once it is seen. -/
def State.unlocked (s : State) : State :=
  let s := (((s.set .RST_STATUS_STEP 0).off .RST_STATUS_DONE).off .CLK_STATUS_CORE_LOCK).on .CLK_STATUS_LOL
  (s.each 5 (fun s i => s.set .PWR_STATE_ON 0 0 i)).on .RST_STATUS_PLL_WAIT

def unlockFlds : List Fld := [.RST_STATUS_STEP, .RST_STATUS_DONE, .CLK_STATUS_CORE_LOCK, .CLK_STATUS_LOL, .PWR_STATE_ON, .RST_STATUS_PLL_WAIT]

theorem State.eachPower_reads (s : State) (m : Nat) : (fun t : State => t = { s with regs := t.regs } ∧ Touches [.PWR_STATE_ON] s t ∧
      ∀ k, k < m → t.get .PWR_STATE_ON 0 k = 0) (s.each m (fun s i => s.set .PWR_STATE_ON 0 0 i)) := by
  unfold State.each
  induction m with
  | zero => exact ⟨rfl, .refl _ s, fun k h => absurd h (Nat.not_lt_zero k)⟩
  | succ m ih =>
    rw [List.range_succ, List.foldl_append, List.foldl_cons, List.foldl_nil]
    generalize (List.range m).foldl (fun s i => State.set s .PWR_STATE_ON 0 0 i) s = t at ih
    obtain ⟨h1, h2, h3⟩ := ih
    refine ⟨by rw [State.set_frame, h1], h2.set (by decide) _ _ _, fun k hk => ?_⟩
    rw [State.get_set]
    split_ifs with h
    · exact Nat.zero_mod _
    · exact h3 k (by
        have : k ≠ m := fun e => h ⟨rfl, rfl, e⟩
        omega)

theorem State.unlocked_reads (s : State) : (fun t : State => t = { s with regs := t.regs } ∧ Touches unlockFlds s t ∧ t.is .CLK_STATUS_CORE_LOCK = false ∧
      t.is .CLK_STATUS_LOL = true ∧ t.is .RST_STATUS_PLL_WAIT = true ∧ t.is .RST_STATUS_DONE = false ∧ t.get .RST_STATUS_STEP = 0 ∧
      ∀ n, n < 132 → t.powered n = false) s.unlocked := by
  unfold State.unlocked
  extract_lets u
  have hf : u = { s with regs := u.regs } := rfl
  have ht : Touches unlockFlds s u := ((((Touches.refl _ s).set (f := .RST_STATUS_STEP) (by decide) _ _ _).set (f := .RST_STATUS_DONE) (by decide) _ _ _).set
    (f := .CLK_STATUS_CORE_LOCK) (by decide) _ _ _).set (f := .CLK_STATUS_LOL) (by decide) _ _ _
  have h1 : u.is .CLK_STATUS_LOL = true := is_on_self _
  have h2 : u.is .CLK_STATUS_CORE_LOCK = false := congrArg (· == 1) ((State.get_set_fld _ (f := .CLK_STATUS_LOL) (by decide) ..).trans (State.get_set_same ..))
  have h3 : u.is .RST_STATUS_DONE = false := congrArg (· == 1) ((State.get_set_fld _ (f := .CLK_STATUS_LOL) (by decide) ..).trans
    ((State.get_set_fld _ (f := .CLK_STATUS_CORE_LOCK) (by decide) ..).trans (State.get_set_same ..)))
  have h4 : u.get .RST_STATUS_STEP = 0 := (State.get_set_fld _ (f := .CLK_STATUS_LOL) (by decide) ..).trans
    ((State.get_set_fld _ (f := .CLK_STATUS_CORE_LOCK) (by decide) ..).trans ((State.get_set_fld _ (f := .RST_STATUS_DONE) (by decide) ..).trans (State.get_set_same ..)))
  clear_value u
  obtain ⟨p1, p2, p3⟩ := u.eachPower_reads 5
  generalize u.each 5 (fun s i => s.set .PWR_STATE_ON 0 0 i) = v at p1 p2 p3 ⊢
  have hg : ∀ f, f ∉ [Fld.PWR_STATE_ON] → f ≠ .RST_STATUS_PLL_WAIT → (v.on .RST_STATUS_PLL_WAIT).get f = u.get f := fun f hf hf' =>
    (State.get_set_fld v hf' ..).trans (p2 f 0 0 hf)
  refine ⟨by rw [State.on, State.set_frame, p1, hf], (ht.trans (p2.mono (by decide))).set (by decide) _ _ _, (congrArg (· == 1) (hg _ (by decide) (by decide))).trans h2,
    (congrArg (· == 1) (hg _ (by decide) (by decide))).trans h1, is_on_self v, (congrArg (· == 1) (hg _ (by decide) (by decide))).trans h3,
    (hg _ (by decide) (by decide)).trans h4, fun n hn => ?_⟩
  refine (State.setPower_of_get (fun k => State.get_set_fld v (f := .RST_STATUS_PLL_WAIT) (by decide) ..) n).trans ?_
  unfold State.powered
  rw [p3 _ (by omega)]
  exact Nat.zero_testBit _

/-- What the PLL's loss of lock leaves. -/
def State.lostLock (s : State) (wait cut : Bool) : State :=
  { (if cut then s.unlocked.set .FIRE_DROPPED_COUNT 1 else s.unlocked) with wdogWait := wait, lolHold := true, dram := [], poison := [], shots := [], heads := [] }

theorem pllLossOfLock_runs (hl : s.is .CLK_STATUS_CORE_LOCK = true) :
    Runs .pllLossOfLock s (fun t => t.is .CLK_STATUS_CORE_LOCK = false ∧ t.is .CLK_STATUS_LOL = true ∧ t.is .RST_STATUS_PLL_WAIT = true ∧
      t.is .RST_STATUS_DONE = false ∧ t.get .RST_STATUS_STEP = 0 ∧ (∀ n, n < 132 → t.powered n = false) ∧ (∀ c, c < 64 → t.headOn c = false) ∧
      t.chans = [] ∧ t.dram = [] ∧ t.lolHold = true ∧ t.kiln = s.kiln ∧ t.flash = s.flash) := by
  have he : exec .pllLossOfLock s = .next (((s.headStop.downAll 1).lose FKey.aonKeeps Dom.always).lostLock s.wdogWait s.inStrobe) :=
    exec_when (i := .pllLossOfLock) (s := s) rfl hl
  have hs := (Stops.headStop s).downAll 1
  generalize s.headStop.downAll 1 = a at he hs
  have hw := a.lose_lost FKey.aonKeeps Dom.always
  generalize a.lose FKey.aonKeeps Dom.always = u at he hw
  obtain ⟨r1, r2, r3, r4, r5, r6, r7, r8⟩ := u.unlocked_reads
  have hkeep : ∀ f, f ≠ .FIRE_DROPPED_COUNT → ∀ i k, (u.lostLock s.wdogWait s.inStrobe).get f i k = u.unlocked.get f i k := fun f hf i k => by
    have hr : (u.lostLock s.wdogWait s.inStrobe).regs = (if s.inStrobe then u.unlocked.set .FIRE_DROPPED_COUNT 1 else u.unlocked).regs := rfl
    unfold State.get
    rw [hr]
    split_ifs
    · exact State.get_set_fld u.unlocked hf ..
    · rfl
  have hrest : (u.lostLock s.wdogWait s.inStrobe).chans = u.unlocked.chans ∧ (u.lostLock s.wdogWait s.inStrobe).kiln = u.unlocked.kiln ∧
      (u.lostLock s.wdogWait s.inStrobe).flash = u.unlocked.flash ∧ (u.lostLock s.wdogWait s.inStrobe).dram = [] ∧
      (u.lostLock s.wdogWait s.inStrobe).lolHold = true := by
    unfold State.lostLock
    split_ifs
    · exact ⟨rfl, rfl, rfl, rfl, rfl⟩
    · exact ⟨rfl, rfl, rfl, rfl, rfl⟩
  generalize u.lostLock s.wdogWait s.inStrobe = t at he hkeep hrest
  generalize u.unlocked = v at *
  obtain ⟨x1, x2, x3, x4, x5⟩ := hrest
  refine ⟨t, he, (congrArg (· == 1) (hkeep _ (by decide) ..)).trans r3, (congrArg (· == 1) (hkeep _ (by decide) ..)).trans r4,
    (congrArg (· == 1) (hkeep _ (by decide) ..)).trans r5, (congrArg (· == 1) (hkeep _ (by decide) ..)).trans r6, (hkeep _ (by decide) ..).trans r7,
    fun n hn => (State.setPower_of_get (fun k => hkeep _ (by decide) ..) n).trans (r8 n hn), fun c hc => ?_, x1.trans (by rw [r1, hw.chans]), x4, x5,
    x2.trans ?_, x3.trans ?_⟩
  · exact (congrArg (bit · (c % 32)) ((hkeep .KILN_HPWR_ON_ON (by decide) ..).trans (r2 _ _ _ (by decide)))).trans (hw.off c hc)
  · rw [r1]
    exact hw.kiln.trans (by rw [hs.frame])
  · rw [r1]
    exact hw.flash.trans (by rw [hs.frame])

theorem pllRelock_runs (h : s.lolHold = true) : Runs .pllRelock s (fun t => t.is .CLK_STATUS_CORE_LOCK = true ∧ t.lolHold = false ∧ t.pllSeen = true ∧
    t.is .RST_STATUS_PLL_WAIT = false) := by
  have he : exec .pllRelock s = .next (State.locked { s with lolHold := false }) := exec_when (i := .pllRelock) (s := s) rfl h
  obtain ⟨l1, -, l3, l4, -, l6⟩ := State.locked_reads { s with lolHold := false }
  exact ⟨_, he, l1, by rw [l6], l4, l3⟩

end

/-! ### Images given up -/

def frontFlds : List Fld := [.MASH_STATUS_STATE, .TUN_STATUS_PAUSED] ++ reportedFlds

/-- Images and change sets are given up, or taken up; firmware, open vectors, DRAM, flash and the Kiln stay. -/
structure Fronts (s t : State) : Prop where
  fw : t.fw = s.fw
  msixOpen : t.msixOpen = s.msixOpen
  memory : t.dram = s.dram ∧ t.kiln = s.kiln ∧ t.flash = s.flash
  touches : Touches frontFlds s t

namespace Fronts
variable {s t u : State}

theorem refl (s : State) : Fronts s s := ⟨rfl, rfl, ⟨rfl, rfl, rfl⟩, .refl _ s⟩

theorem trans (h : Fronts s t) (h' : Fronts t u) : Fronts s u :=
  ⟨h'.fw.trans h.fw, h'.msixOpen.trans h.msixOpen,
    ⟨h'.memory.1.trans h.memory.1, h'.memory.2.1.trans h.memory.2.1, h'.memory.2.2.trans h.memory.2.2⟩, h.touches.trans h'.touches⟩

theorem set (h : Fronts s t) {f : Fld} (hf : f ∈ frontFlds) (v i k : Nat) : Fronts s (t.set f v i k) :=
  h.trans ⟨rfl, rfl, ⟨rfl, rfl, rfl⟩, (Touches.refl _ t).set hf v i k⟩

theorem restage (h : Fronts s t) (l : List Staged) : Fronts s { t with staged := l } := h.trans ⟨rfl, rfl, ⟨rfl, rfl, rfl⟩, .of_regs rfl⟩

theorem unload (h : Fronts s t) : Fronts s { t with loading := none } := h.trans ⟨rfl, rfl, ⟨rfl, rfl, rfl⟩, .of_regs rfl⟩

theorem setChan (h : Fronts s t) (c : Nat) (x : Chan) : Fronts s (t.setChan c x) := h.trans ⟨rfl, rfl, ⟨rfl, rfl, rfl⟩, .of_regs rfl⟩

theorem out (h : Fronts s t) (o : Out) : Fronts s (t.out o) := h.trans ⟨rfl, rfl, ⟨rfl, rfl, rfl⟩, .of_regs rfl⟩

end Fronts

theorem Serves.fronts {s t : State} (h : Serves s t) : Fronts s t :=
  ⟨by rw [h.frame], by rw [h.frame], ⟨by rw [h.frame], by rw [h.frame], by rw [h.frame]⟩, h.touches.mono (by decide)⟩

theorem State.finish_fronts (s : State) (h st : Nat) : Fronts s (s.finish h st) := (s.finish_serves ..).fronts

theorem State.releaseStaged_fronts (s : State) (h : Nat) : Fronts s (s.releaseStaged h) := by
  have hf := s.releaseStaged_frame h
  generalize s.releaseStaged h = z at hf
  exact ⟨by rw [hf], by rw [hf], ⟨by rw [hf], by rw [hf], by rw [hf]⟩, .of_regs (by rw [hf])⟩

theorem State.dropSet_fronts (s : State) (x : ChangeSet) : Fronts s (s.dropSet x) := by
  unfold State.dropSet State.dropAs
  extract_lets u v
  have hu : Fronts s u := ⟨rfl, rfl, ⟨rfl, rfl, rfl⟩, .of_regs rfl⟩
  have hv : Fronts s v := by
    unfold v
    split_ifs
    · exact hu
    · exact hu.out _
  clear_value v
  have h2 := (hv.trans (v.finish_fronts x.commitOp stNotApplied)).trans (State.releaseStaged_fronts _ x.handle)
  generalize (v.finish x.commitOp stNotApplied).releaseStaged x.handle = z at h2
  have hf := z.prepShadows_frame
  unfold State.dropShadows
  generalize z.prepShadows = z' at hf
  exact h2.trans ⟨by rw [hf], by rw [hf], ⟨by rw [hf], by rw [hf], by rw [hf]⟩, .of_regs (by rw [hf])⟩

theorem State.enterApply_fronts (s : State) (h : Nat) : Fronts s (s.enterApply h) := by
  unfold State.enterApply
  extract_lets parts u v w
  have hu : Fronts s u := List.foldlRecOn (motive := fun t => Fronts s t) _ _ (.refl s) fun t ht x _ => ht.trans (t.dropSet_fronts x)
  have hv : Fronts s v := List.foldlRecOn (motive := fun t => Fronts s t) _ _ hu fun t ht x _ => ht.trans (t.releaseStaged_fronts _)
  have hw : Fronts s w := State.each_keeps (P := fun t => Fronts s t) 64 _ (fun t c ht => by
    split_ifs
    · exact (ht.setChan c _).set (f := .TUN_STATUS_PAUSED) (by decide) _ _ _
    · exact ht) _ hv
  generalize w = z at hw
  exact (hw.restage _).set (by decide) _ _ _

theorem State.tryFull_fronts (s : State) (x : Staged) : Fronts s (s.tryFull x) := by
  unfold State.tryFull
  split_ifs
  · exact .refl s
  · exact s.enterApply_fronts _
  · exact ((Fronts.refl s).restage _).trans (State.finish_fronts ..)

theorem State.frontIdle_fronts (s : State) : Fronts s s.frontIdle := by
  unfold State.frontIdle
  extract_lets u
  have hu : Fronts s u := (Fronts.refl s).unload.set (by decide) _ _ _
  exact List.foldlRecOn (motive := fun t => Fronts s t) _ _ hu fun t ht x _ => ht.trans (t.tryFull_fronts x)

theorem State.abortStaged_fronts (s : State) (x : Staged) : Fronts s (s.abortStaged x) := by
  unfold State.abortStaged
  split
  · exact s.dropSet_fronts _
  · extract_lets u
    have hu : Fronts s u := by
      unfold u
      split_ifs
      · exact s.finish_fronts ..
      · exact .refl s
    exact hu.trans (u.releaseStaged_fronts _)

/-! ### The watchdog -/

/-- The reset of the management domain: of the fields outside it only those of images change. -/
theorem State.resetMgmt_keeps (s : State) (keep : Reg → Bool) : (fun t : State => t.fw = s.fw ∧ (t.dram = s.dram ∧ t.kiln = s.kiln ∧ t.flash = s.flash) ∧
      ∀ f : Fld, f.desc.reg.desc.rst = .aonPor → f ∉ frontFlds → t.get f = s.get f) (s.resetMgmt keep) := by
  unfold State.resetMgmt
  extract_lets mine u front v
  have hu : Fronts s u := by
    unfold u
    split
    · split_ifs
      · exact .refl s
      · exact s.finish_fronts ..
    · exact .refl s
  have hv : v.fw = u.fw ∧ (v.dram = u.dram ∧ v.kiln = u.kiln ∧ v.flash = u.flash) := ⟨rfl, rfl, rfl, rfl⟩
  have hk : ∀ f : Fld, f.desc.reg.desc.rst = .aonPor → v.get f = u.get f := fun f hf =>
    Tab.get_keep FKey.dflt (fun k => !mine k.fld.desc.reg || k.stays) u.regs (k := ⟨f, 0, 0⟩) (by simp [mine, hf])
  clear_value v
  have hw : Fronts v (if front = 4 then v.set .MASH_STATUS_STATE 4 else v.frontIdle) := by
    split_ifs
    · exact (Fronts.refl v).set (by decide) _ _ _
    · exact v.frontIdle_fronts
  generalize (if front = 4 then v.set .MASH_STATUS_STATE 4 else v.frontIdle) = w at hw
  obtain ⟨v1, v2, v3, v4⟩ := hv
  exact ⟨hw.fw.trans (v1.trans hu.fw), ⟨hw.memory.1.trans (v2.trans hu.memory.1), hw.memory.2.1.trans (v3.trans hu.memory.2.1), hw.memory.2.2.trans (v4.trans hu.memory.2.2)⟩,
    fun f hf hn => (hw.touches f 0 0 hn).trans ((hk f hf).trans (hu.touches f 0 0 hn))⟩

section
variable {s : State}

theorem exec_watchdog (hp : s.powered 130 = true) : exec .watchdogExpiry s = .next s.watchdog := exec_when (i := .watchdogExpiry) (s := s) rfl hp

theorem watchdog_again (hw : s.wdogWait = true) : s.watchdog = (s.on .RST_CAUSE_WDOG).warmReset false := by
  unfold State.watchdog
  exact if_pos hw

theorem State.watchdog_first (hw : s.wdogWait = false) : (fun t : State => t.is .RST_CAUSE_WDOG = true ∧ t.wdogWait = true ∧ t.fw = { ckptDue := s.fw.ckptDue } ∧
      t.dram = s.dram ∧ t.kiln = s.kiln ∧ t.flash = s.flash) s.watchdog := by
  unfold State.watchdog
  extract_lets s1 s2 s3 s4 v
  have hc : s1.is .RST_CAUSE_WDOG = true := is_on_self s
  rw [if_neg (show ¬ s1.wdogWait = true by rw [show s1.wdogWait = s.wdogWait from rfl, hw]; decide)]
  have h1 : s1.fw = s.fw ∧ s1.dram = s.dram ∧ s1.kiln = s.kiln ∧ s1.flash = s.flash := ⟨rfl, rfl, rfl, rfl⟩
  have h2 : Fronts s1 s2 := by
    unfold s2
    split
    · exact s1.finish_fronts ..
    · exact .refl s1
  have h3 : Fronts s1 s3 := by
    unfold s3
    split
    · split_ifs
      · exact h2.unload
      · exact h2
    · exact h2
  obtain ⟨r1, ⟨r2, r3, r4⟩, r5⟩ := s3.resetMgmt_keeps (fun _ => false)
  have h4 : s4 = s3.resetMgmt (fun _ => false) := rfl
  have hl : v = { s4 with prepared := v.prepared } := by
    unfold v State.fwLeaves
    split_ifs <;> rfl
  clear_value v s4 s3 s2 s1
  rw [← h4] at r1 r2 r3 r4 r5
  obtain ⟨e1, e2, e3, e4⟩ := h1
  refine ⟨?_, rfl, ?_, ?_, ?_, ?_⟩
  · refine (congrArg (· == 1) ((congrArg (State.get · .RST_CAUSE_WDOG) hl :).trans ((r5 _ rfl (by decide)).trans (h3.touches _ _ _ (by decide)))) :).trans hc
  · dsimp only
    rw [r1, h3.fw, e1]
  · exact (congrArg State.dram hl :).trans (r2.trans (h3.memory.1.trans e2))
  · exact (congrArg State.kiln hl :).trans (r3.trans (h3.memory.2.1.trans e3))
  · exact (congrArg State.flash hl :).trans (r4.trans (h3.memory.2.2.trans e4))

theorem softwareReset_runs {v : Nat} (h : v = 0xA5) : exec (.softwareReset v) s = .next s.softReset :=
  exec_when (i := .softwareReset v) (s := s) rfl (beq_iff_eq.2 h)

theorem wdogOk_away (hw : s.wdogWait = true) (hh : s.is .FLS_STATUS_HANDOVER = true) : exec .wdogOk s = .next { s with wdogWait := false } := by
  refine exec_of (i := .wdogOk) (s := s) rfl ((if_pos hw).trans ?_)
  have ha : State.fwAway { s with wdogWait := false } = true := by
    unfold State.fwAway
    rw [show State.is { s with wdogWait := false } .FLS_STATUS_HANDOVER = true from hh]
    rfl
  exact if_pos ha

theorem wdogOk_back (hw : s.wdogWait = true) (hh : s.is .FLS_STATUS_HANDOVER = false) (hc : s.fw.ckptDue = false) (hd : s.fwDue = []) :
    exec .wdogOk s = .next { s with wdogWait := false, backAt := s.seq.next } := by
  refine exec_of (i := .wdogOk) (s := s) rfl ((if_pos hw).trans ?_)
  have ha : State.fwAway { s with wdogWait := false } = false := by
    unfold State.fwAway
    rw [show State.is { s with wdogWait := false } .FLS_STATUS_HANDOVER = false from hh]
    rfl
  have hf : ({ s.fw with ckptDue := false } : Firmware) = s.fw := by rw [← hc]
  refine (if_neg (by rw [ha]; decide)).trans ?_
  dsimp only
  rw [hc, hd, hf, if_neg (by decide), List.foldl_nil, ← hd]

/-! ### A function-level reset -/

theorem State.flrSlots_frame (s : State) : s.flrSlots.dram = s.dram := by
  unfold State.flrSlots
  extract_lets mine due gone dead u v
  exact List.foldlRecOn (motive := fun t : State => t.dram = s.dram) dead _ rfl fun t ht e _ => by
    split_ifs
    · exact ht
    · exact ht

theorem State.clear_dram (s : State) (fs : List Fld) : (s.clear fs).dram = s.dram := by rw [(s.clear_only fs 0 0).1]

/-- The registers of the queues as a function-level reset leaves them. -/
def flrFlds : List Fld := [.QM_CTRL_EN, .QM_STATUS_READY, .QM_STATUS_ERR, .QM_ASQ_BASE_BASE, .QM_ACQ_BASE_BASE, .QM_ADMIN_DEPTH_DEPTH,
    .QM_DB_ERR_COUNT, .QM_DB_ERR_LAST_QID, .QM_OVF_LAST_QID, .QM_OVF_LAST_COUNT, .QM_BAR4_BASE_BASE]

/-- Every vector is masked and no message waits. -/
def State.vectorsShut (s : State) : State := { s with msixOpen := [], msixPend := [], msixTab := [], turns := [] }

theorem State.vectorsShut_reads (s : State) : s.vectorsShut.msixOpen = [] ∧ s.vectorsShut.dram = s.dram ∧ ∀ f, s.vectorsShut.get f = s.get f :=
  ⟨rfl, rfl, fun _ => rfl⟩

/-- The images that may be given up are. -/
def State.imagesLeft (s : State) : State := s.staged.foldl (fun s x => if x.handle ≠ 0 ∧ s.mayAbort x then s.abortStaged x else s) s

theorem State.imagesLeft_fronts (s : State) : Fronts s s.imagesLeft :=
  List.foldlRecOn (motive := fun t => Fronts s t) _ _ (.refl s) fun t ht x _ => by
    split_ifs
    · exact ht.trans (t.abortStaged_fronts x)
    · exact ht

theorem State.flr_eq (s : State) : s.flr = (s.flrSlots.clear flrFlds).vectorsShut.imagesLeft := rfl

theorem State.flr_reads (s : State) : (fun t : State => t.is .QM_CTRL_EN = false ∧ t.is .QM_STATUS_READY = false ∧ t.msixOpen = [] ∧
      t.get .QM_ASQ_BASE_BASE = 0 ∧ t.get .QM_ADMIN_DEPTH_DEPTH = 0 ∧ t.dram = s.dram) s.flr := by
  rw [State.flr_eq]
  have hu : ∀ f ∈ flrFlds, (s.flrSlots.clear flrFlds).get f = f.reset 0 % 2 ^ f.desc.width := fun f hf => State.get_clear flrFlds 0 0 s.flrSlots hf
  have hd : (s.flrSlots.clear flrFlds).dram = s.dram := (s.flrSlots.clear_dram flrFlds).trans s.flrSlots_frame
  generalize s.flrSlots.clear flrFlds = u at hu hd ⊢
  obtain ⟨v1, v2, v3⟩ := u.vectorsShut_reads
  generalize u.vectorsShut = v at v1 v2 v3 ⊢
  have hw := v.imagesLeft_fronts
  generalize v.imagesLeft = t at hw ⊢
  have hg : ∀ f ∈ flrFlds, f ∉ frontFlds → t.get f = f.reset 0 % 2 ^ f.desc.width := fun f hf hn => (hw.touches f 0 0 hn).trans ((v3 f).trans (hu f hf))
  exact ⟨congrArg (· == 1) (hg .QM_CTRL_EN (by decide) (by decide)), congrArg (· == 1) (hg .QM_STATUS_READY (by decide) (by decide)), hw.msixOpen.trans v1,
    hg .QM_ASQ_BASE_BASE (by decide) (by decide), hg .QM_ADMIN_DEPTH_DEPTH (by decide) (by decide), hw.memory.1.trans (v2.trans hd)⟩

end

/-- Settles O59: it holds. Stopping the machine changes nothing that a reset keeps (`Stops`); a reset keeps the registers of its table and loses the
others (`Lost`, `Warm`), and giving up images leaves the firmware and the queues' registers (`Fronts`). -/
theorem resets : Obligations.Resets := by
  unfold Obligations.Resets
  refine ⟨?_, ?_, ?_, ?_, ?_, ?_, ?_, ?_, ?_, ?_, ?_, ?_, ?_, ?_, ?_, ?_, ?_, ?_, ?_, ?_, ?_, ?_, ?_, ?_⟩
  case refine_1 => exact fun s b => s.warmReset_reads b
  case refine_2 => exact fun s v => ⟨_, rfl, s.powerOn_reads v⟩
  case refine_3 => exact fun s ns v b h => ⟨_, exec_resetN h v, rfl, resetN_pin v _⟩
  case refine_4 => exact fun s ns v b h => ⟨_, exec_of (i := .resetNReset ns b v) (s := s) rfl (if_neg (by simp; omega)), rfl⟩
  case refine_5 => exact fun s => ⟨_, softwareReset_runs rfl, rfl, State.warmReset_cause .RST_CAUSE_SW rfl rfl (by decide) false⟩
  case refine_6 => exact fun s v h => ⟨_, exec_of (i := .softwareReset v) (s := s) rfl (if_neg (by simpa using h)), rfl⟩
  case refine_7 => exact fun s p n hn hp hu => wortReset_runs hn hp hu
  case refine_8 => exact fun s p n hn hp hu => ⟨_, wortReset_other hn hp hu, rfl⟩
  case refine_9 => exact fun s hp hw => ⟨_, exec_watchdog hp, State.watchdog_first hw⟩
  case refine_10 =>
    intro s hp hw
    refine ⟨_, exec_of (exec_watchdog hp) (watchdog_again hw), rfl, ?_, State.warmReset_cause .RST_CAUSE_WDOG rfl rfl (by decide) false⟩
    exact (State.warmReset_warm _ false).units.2.2.2.2
  case refine_11 => exact fun s hw => ⟨_, exec_of (i := .wdogOk) (s := s) rfl (if_neg (by rw [hw]; decide)), rfl⟩
  case refine_12 => exact fun s hw hh => ⟨_, wdogOk_away hw hh, rfl⟩
  case refine_13 => exact fun s hw hh hc hd => ⟨_, wdogOk_back hw hh hc hd, rfl⟩
  case refine_14 => exact fun s n hn => thermalTrip_runs hn
  case refine_15 => exact fun s h => thermalRelease_runs h
  case refine_16 =>
    intro s n b hn
    obtain ⟨t, he, h⟩ := critical_runs (s := s) hn b
    refine ⟨t, he, ?_⟩
    match n, hn with
    | 0, _ => exact h
    | 1, _ => exact h
    | 2, _ => exact h
    | 3, _ => exact h
  case refine_17 => exact fun s n hn => supplyFail_runs hn
  case refine_18 => exact fun s n hn h2 h16 hl hh => releaseStep_runs hn h2 h16 hl hh
  case refine_19 => exact fun d hd => releaseDomains_once hd
  case refine_20 =>
    intro s hl hh
    exact ⟨_, exec_when (i := .corePllLock) (s := s) rfl (by rw [hl, hh]; rfl), s.locked_reads⟩
  case refine_21 =>
    intro s hl hm
    refine ⟨_, exec_when (i := .clockAbsentTimeout) (s := s) rfl ?_, is_on_self s, onlyRegs_set ..⟩
    rw [hl]
    simpa using hm
  case refine_22 => exact fun s hl => pllLossOfLock_runs hl
  case refine_23 => exact fun s h => pllRelock_runs h
  case refine_24 =>
    rintro s c (rfl | rfl) hp
    · exact ⟨_, exec_when (i := .flr) (s := s) rfl hp, rfl, s.flr_reads⟩
    · exact ⟨_, exec_when (i := .hotReset) (s := s) rfl hp, rfl, s.flr_reads⟩

end Sys2Proof.Machine
end

section
/-! PROOF. Copies of the sequencer and memory errors. -/

namespace Sys2Proof.Machine

-- One lemma after the other: elaborated side by side, they ask for more threads than the compile may have.
set_option Elab.async false

/-! ## The sequencer's copies and memory errors -/

/-! ### Votes -/

section
variable {s : State}

theorem voteCount_counts {k : Nat} (hk : k < 3) : voteCount k ∈ [Fld.FIRE_VOTE_DIS_A, .FIRE_VOTE_DIS_B, .FIRE_VOTE_DIS_C] := by
  match k, hk with
  | 0, _ => decide
  | 1, _ => decide
  | 2, _ => decide

theorem voteCount_ne {k : Nat} (hk : k < 3) : Fld.FIRE_VOTE_MASKED ≠ voteCount k := fun h => by
  have := voteCount_counts hk
  rw [← h] at this
  revert this
  decide

theorem voters_one {k : Nat} (hk : k < 3) : (List.range 3).filter (fun j => bit (2 ^ k) j && !bit 0 j) = [k] := by
  match k, hk with
  | 0, _ => decide
  | 1, _ => decide
  | 2, _ => decide

/-- Copy `k` disagreed: it is counted and its line kept. -/
def State.disagreed (s : State) (k : Nat) : State :=
  { s.bump (voteCount k) with seq := { s.seq with disagree := store 0 s.seq.disagree k (s.seq.next + 1) } }

theorem exec_disagree (hp : s.powered 124 = true) (hm : s.get .FIRE_VOTE_MASKED = 0) {k : Nat} (hk : k < 3) :
    exec (.sequencerCopyDisagree (2 ^ k)) s = .next (if look 0 s.seq.disagree k ≠ 0 ∧ s.seq.next + 1 < look 0 s.seq.disagree k + 1024 then
      ((s.disagreed k).putB .FIRE_VOTE_MASKED k true).on .FIRE_STATUS_DEGRADED else s.disagreed k) := by
  have he := exec_when (i := .sequencerCopyDisagree (2 ^ k)) (s := s) rfl hp
  dsimp only at he
  rw [hm, voters_one hk] at he
  exact he

theorem disagree_many (hp : s.powered 124 = true) (hm : s.get .FIRE_VOTE_MASKED = 0) {m : Nat} (h : m = 3 ∨ m = 5 ∨ m = 6 ∨ m = 7) :
    exec (.sequencerCopyDisagree m) s = .next (s.critical 0 false) := by
  have he := exec_when (i := .sequencerCopyDisagree m) (s := s) rfl hp
  dsimp only at he
  rw [hm] at he
  rcases h with rfl | rfl | rfl | rfl
  all_goals exact he

theorem State.critical_fire (s : State) : (s.critical 0 false).is .RST_CAUSE_CRIT_FIRE = true :=
  ((s.critNoted 0 false).headSafe_warm.is rfl rfl 0 0).trans (s.critNoted_reads (n := 0) (by decide) false).1

theorem State.disagreed_masked (s : State) {k : Nat} (hk : k < 3) : (s.disagreed k).get .FIRE_VOTE_MASKED = s.get .FIRE_VOTE_MASKED :=
  State.get_bump_fld s (voteCount_ne hk) ..

theorem State.masked_reads {s : State} (h : s.get .FIRE_VOTE_MASKED = 0) {k : Nat} (hk : k < 3) : (fun t : State =>
      t.get .FIRE_VOTE_MASKED = 2 ^ k ∧ t.is .FIRE_STATUS_DEGRADED = true ∧ t = { s with regs := t.regs })
    ((s.putB .FIRE_VOTE_MASKED k true).on .FIRE_STATUS_DEGRADED) := by
  refine ⟨(State.get_set_fld _ (f := .FIRE_STATUS_DEGRADED) (by decide) ..).trans ?_, is_on_self _, rfl⟩
  unfold State.putB
  rw [h, State.get_set_same]
  match k, hk with
  | 0, _ => decide
  | 1, _ => decide
  | 2, _ => decide

end

/-! ### Bursts -/

section
variable {s : State} {i x hold unit part : Nat} {b : Bool}

theorem exec_uncorrectable (hi : i < 6) (hu : unit < 64) (hx : x < s.dmap.cap) (hf : s.fenced 6 i = false) (hd : s.ddrServes i = true)
    (hold part : Nat) (b : Bool) : exec (.uncorrectableBurst i x b hold unit part) s = .next (
      if !((s.ddrHolds i (x / 64 * 64)).map s.dmap.mirrored).getD false then (s.burstLost i x b).poisoned hold unit part
      else if b then State.softReset (((s.burstLost i x b).free.2).telEvent ((s.burstLost i x b).free.1 % 65536) i)
      else s.burstLost i x b) := by
  have he := exec_when (i := .uncorrectableBurst i x b hold unit part) (s := s) rfl (decide_eq_true ⟨hi, hu, hx⟩)
  dsimp only at he
  rw [hf, if_neg (by decide), State.when_of _ _ hd] at he
  exact he

/-- What the lost burst shows of itself. -/
def State.burstShown (s : State) (i x : Nat) (m : Bool) : State :=
  ((s.bump .DDR_ECC_UE 1 i).set .DDR_ECC_ADDR_ADDR (x / 64 * 64) i).set .DDR_ECC_ADDR_MIRRORED (b2n m) i

theorem State.noteUe_few (s : State) {i : Nat} (h : (s.ddr i).ues.length < 16) : (fun t : State => t.poison = s.poison ∧ t.regs = s.regs ∧ t.dram = s.dram)
    (s.noteUe i) := by
  unfold State.noteUe
  extract_lets ues u
  have hl : ¬ 16 < ues.length := by
    have := List.length_filter_le (fun t => decide (s.now < t + 400000000)) (s.ddr i).ues
    rw [List.length_cons]
    omega
  rw [if_neg hl]
  exact ⟨rfl, rfl, rfl⟩

theorem State.burstLost_mirrored (s : State) {i x : Nat} (hm : (s.ddrHolds i (x / 64 * 64)).map s.dmap.mirrored = some true) :
    s.burstLost i x false = (s.burstShown i x true).noteUe i := by
  obtain ⟨a, ha, hma⟩ := Option.map_eq_some_iff.1 hm
  unfold State.burstLost
  dsimp only
  rw [ha, Option.map_some, hma]
  rfl

theorem State.burstShown_reads (s : State) (i x : Nat) (m : Bool) : (fun t : State => t.poison = s.poison ∧
      t.get .DDR_ECC_UE i = min (s.get .DDR_ECC_UE i + 1) (2 ^ Fld.DDR_ECC_UE.desc.width - 1) ∧ t.is .DDR_ECC_ADDR_MIRRORED i = m ∧
      t.dram = s.dram ∧ t.ddr i = s.ddr i) (s.burstShown i x m) :=
  ⟨rfl, (State.get_set_fld _ (f := .DDR_ECC_ADDR_MIRRORED) (by decide) ..).trans
    ((State.get_set_fld _ (f := .DDR_ECC_ADDR_ADDR) (by decide) ..).trans (State.get_bump_same ..)), is_set_b2n .., rfl, rfl⟩

theorem State.burstLost_reads (s : State) {i x : Nat} (hu : (s.ddr i).ues.length < 16)
    (hm : (s.ddrHolds i (x / 64 * 64)).map s.dmap.mirrored = some true) : (fun t : State => t.poison = s.poison ∧
      t.get .DDR_ECC_UE i = min (s.get .DDR_ECC_UE i + 1) (2 ^ Fld.DDR_ECC_UE.desc.width - 1) ∧ t.is .DDR_ECC_ADDR_MIRRORED i = true ∧
      t.dram = s.dram) (s.burstLost i x false) := by
  rw [s.burstLost_mirrored hm]
  obtain ⟨b1, b2, b3, b4, b5⟩ := s.burstShown_reads i x true
  generalize s.burstShown i x true = u at *
  obtain ⟨n1, n2, n3⟩ := u.noteUe_few (i := i) (by rw [b5]; exact hu)
  have hg : ∀ f, (u.noteUe i).get f i = u.get f i := fun f => by
    unfold State.get
    rw [n2]
  exact ⟨n1.trans b1, (hg _).trans b2, (congrArg (· == 1) (hg _)).trans b3, n3.trans b4⟩

end

/-! ### Scrubs -/

section
variable {s : State} {n part : Nat}

theorem scrub_tun (ht : n < 64) (hp : s.powered n = true) (part : Nat) (d : Bool) :
    exec (.sramScrub 0 n part d) s = .next (if d then s.faultTun n 15 7 else s.tunCorrected n 3 0) :=
  exec_when (i := .sramScrub 0 n part d) (s := s) rfl (by rw [decide_eq_true ht, hp]; rfl)

theorem scrub_engine (ht : n < 64) (hp : part < 32) (h : s.powered n = true) (d : Bool) : exec (.sramScrub 1 n part d) s = .next (
    if d then s.faultTun n (part / 2) (5 + part % 2) else s.tunCorrected n (1 + part % 2) (part / 2)) :=
  exec_when (i := .sramScrub 1 n part d) (s := s) rfl (by rw [decide_eq_true ⟨ht, hp⟩, h]; rfl)

theorem State.tunCorrected_count (s : State) (t a b : Nat) :
    (s.tunCorrected t a b).get .TUN_ECC_CORR t = min (s.get .TUN_ECC_CORR t + 1) (2 ^ Fld.TUN_ECC_CORR.desc.width - 1) :=
  (State.get_set_fld _ (f := .TUN_ECC_LAST_ENGINE) (by decide) ..).trans ((State.get_set_fld _ (f := .TUN_ECC_LAST_SRC) (by decide) ..).trans (State.get_bump_same ..))

theorem scrub_codec (hn : n < 4) (hp : s.powered (118 + n) = true) (part : Nat) (d : Bool) :
    exec (.sramScrub 3 n part d) s = .next (if d then s.fenceCodec n causeMem else s.bump .TEL_SCRUB_CORR) :=
  exec_when (i := .sramScrub 3 n part d) (s := s) rfl (by rw [decide_eq_true hn, hp]; rfl)

theorem scrub_corrected {m : Nat} (part : Nat) (h : m = 2 ∧ n < 64 ∧ s.powered n = true ∨ m = 3 ∧ n < 4 ∧ s.powered (118 + n) = true ∨
    m = 4 ∧ n < 8 ∧ s.powered (106 + n) = true ∨ m = 5 ∧ s.powered 130 = true ∨ m = 6) :
    exec (.sramScrub m n part false) s = .next (s.bump .TEL_SCRUB_CORR) := by
  rcases h with ⟨rfl, h, hp⟩ | ⟨rfl, h, hp⟩ | ⟨rfl, h, hp⟩ | ⟨rfl, hp⟩ | rfl
  · exact exec_when (i := .sramScrub 2 n part false) (s := s) rfl (by rw [decide_eq_true h, hp]; rfl)
  · exact exec_when (i := .sramScrub 3 n part false) (s := s) rfl (by rw [decide_eq_true h, hp]; rfl)
  · exact exec_when (i := .sramScrub 4 n part false) (s := s) rfl (by rw [decide_eq_true h, hp]; rfl)
  · exact exec_when (i := .sramScrub 5 n part false) (s := s) rfl hp
  · rfl

/-- Blocks of codec `i` in a decode lane leave it. -/
def State.lanesLeft (s : State) (i m : Nat) : State :=
  s.each m (fun s c =>
    let ch := s.chan c
    if ch.intake.any (fun b => b.inst == i && b.lane != 0) then
      s.setChan c { ch with intake := ch.intake.map (fun (b : QBlock) => if b.inst == i && b.lane != 0 then { b with lane := 0 } else b) }
    else s)

theorem State.lanesLeft_reads (s : State) (i m : Nat) : (fun t : State => t.regs = s.regs ∧
      ∀ c, c < m → ∀ b ∈ (t.chan c).intake, b.inst = i → b.lane = 0) (s.lanesLeft i m) := by
  unfold State.lanesLeft State.each
  induction m with
  | zero => exact ⟨rfl, fun c h => absurd h (Nat.not_lt_zero c)⟩
  | succ m ih =>
    rw [List.range_succ, List.foldl_append, List.foldl_cons, List.foldl_nil]
    obtain ⟨h1, h2⟩ := ih
    generalize (List.range m).foldl _ s = t at h1 h2 ⊢
    extract_lets ch
    by_cases ha : ch.intake.any (fun b => b.inst == i && b.lane != 0) = true
    · rw [if_pos ha]
      refine ⟨h1, fun c hc b hb hbi => ?_⟩
      by_cases hcm : c = m
      · rw [hcm, State.chan_setChan] at hb
        obtain ⟨y, -, rfl⟩ := List.mem_map.1 hb
        split_ifs with hy
        · rfl
        · by_contra hl
          rw [if_neg hy] at hbi
          exact hy (by simp [hbi, hl])
      · rw [State.chan_setChan_ne _ _ hcm] at hb
        exact h2 c (by omega) b hb hbi
    · rw [if_neg ha]
      refine ⟨h1, fun c hc b hb hbi => ?_⟩
      by_cases hcm : c = m
      · subst hcm
        by_contra hl
        exact ha (List.any_eq_true.2 ⟨b, hb, by simp [hbi, hl]⟩)
      · exact h2 c (by omega) b hb hbi

theorem State.fenceCodec_eq (s : State) (i cause : Nat) : s.fenceCodec i cause = (s.recordFence 3 i cause).noteCoverage.lanesLeft i 64 := rfl

theorem State.fenceCodec_reads {i : Nat} (hi : i < 64) (hf : s.fenced 3 i = false) : (fun t : State => t.fenced 3 i = true ∧ t.get .FENCE_LAST_CAUSE = 3 ∧
    ∀ c, c < 64 → ∀ b ∈ (t.chan c).intake, b.inst = i → b.lane = 0) (s.fenceCodec i causeMem) := by
  rw [State.fenceCodec_eq]
  have hr : Touches reportFlds (s.fenceNoted 3 i causeMem) (s.recordFence 3 i causeMem).noteCoverage :=
    (State.recordFence_reports causeMem hf).touches.trans (State.noteCoverage_reports _).touches
  generalize (s.recordFence 3 i causeMem).noteCoverage = u at hr
  obtain ⟨l1, l2⟩ := u.lanesLeft_reads i 64
  have hg : ∀ f ∉ reportFlds, ∀ k, (u.lanesLeft i 64).get f 0 k = (s.fenceNoted 3 i causeMem).get f 0 k := fun f hf k => by
    unfold State.get
    rw [l1]
    exact hr f 0 k hf
  refine ⟨?_, (hg _ (by decide) 0).trans (State.get_set_same ..), l2⟩
  unfold State.fenced
  rw [hg _ (by decide)]
  exact (s.fenced_fenceNoted causeMem hi).trans (if_pos ⟨rfl, rfl⟩)

end

/-- Settles O60: it holds. A copy, a burst and a scrub each lead to one state, and the counts and marks are read off it. -/
theorem copiesAndScrub : Obligations.CopiesAndScrub := by
  unfold Obligations.CopiesAndScrub
  refine ⟨?_, ?_, ?_, ?_, ?_, ?_, ?_, ?_, ?_, ?_⟩
  case refine_1 =>
    rintro s m k hp hm hk rfl hd
    refine ⟨_, exec_of (exec_disagree hp hm hk) (if_neg fun h => ?_), State.get_bump_same s .., look_store_same 0 s.seq.disagree k (s.seq.next + 1), (s.disagreed_masked hk).trans hm, rfl⟩
    rcases hd with h0 | h1
    · exact h.1 h0
    · have := h.2
      omega
  case refine_2 =>
    rintro s m k hp hm hk rfl h0 h1
    obtain ⟨r1, r2, r3⟩ := State.masked_reads ((s.disagreed_masked hk).trans hm) hk
    refine ⟨_, exec_of (exec_disagree hp hm hk) (if_pos ⟨h0, h1⟩), r1, r2, ?_⟩
    rw [r3]
    rfl
  case refine_3 => exact fun s m hp hm h => ⟨_, disagree_many hp hm h, rfl, s.critical_fire⟩
  case refine_4 =>
    intro s i x hold unit part b hi hu hx hf hd hm
    exact ⟨_, exec_of (exec_uncorrectable hi hu hx hf hd hold part b) (if_pos (by rw [hm]; rfl)), rfl⟩
  case refine_5 =>
    intro s i x hold unit part hi hu hx hf hd hm
    exact ⟨_, exec_of (exec_uncorrectable hi hu hx hf hd hold part false) ((if_neg (by rw [hm]; decide)).trans (if_neg (by decide))), rfl⟩
  case refine_6 => exact fun s i x hu hm => s.burstLost_reads hu hm
  case refine_7 =>
    intro s t p ht hp
    exact ⟨⟨_, exec_of (scrub_tun ht hp p false) (if_neg (by decide)), rfl, s.tunCorrected_count ..⟩, ⟨_, exec_of (scrub_tun ht hp p true) (if_pos rfl), rfl⟩⟩
  case refine_8 =>
    intro s t p ht hp h
    exact ⟨⟨_, exec_of (scrub_engine ht hp h false) (if_neg (by decide)), rfl⟩, ⟨_, exec_of (scrub_engine ht hp h true) (if_pos rfl), rfl⟩⟩
  case refine_9 =>
    intro s i p hi hp hf
    exact ⟨_, exec_of (scrub_codec hi hp p true) (if_pos rfl), State.fenceCodec_reads (hi.trans (by decide)) hf⟩
  case refine_10 =>
    intro s m n p h
    exact ⟨_, scrub_corrected p h, onlyRegs_set .., State.get_bump_same ..⟩

end Sys2Proof.Machine
end
